-- ==== Sys2Proof/Word.lean ====
section
/-!
DEFINITION. The word types of the block (R7, R8) and the byte strings of orders, blocks and images.
-/

namespace Sys2Proof

/-- One byte. -/
abbrev Byte := BitVec 8

/-- One 32-bit register word (R8). -/
abbrev Word := BitVec 32

/-- A byte string: an order, a reservation block, an image, a frame. Element 0 is the byte at the lowest address. -/
abbrev Bytes := List Byte

/-- One free-running tick: 2⁻¹² ns (R73). Instants and intervals are natural numbers of ticks. -/
abbrev Tu := Nat

end Sys2Proof
end

