-- ==== Sys2Proof/Syntax.lean ====
section
/-!
DEFINITION. The commands the block takes, with their operands.
Physical quantities and data that come from outside (pin outcomes, converter codes, host memory, link frames) are operands.
-/

namespace Sys2Proof

/-- A configuration-space register of a function (R334, R336, R344). -/
inductive ConfigReg where
  | busMaster | msixEnable | msixFunctionMask | numVfs | ariHierarchy | bar4Size
  /-- Device Control and Device Control 2, Link Control, and AER's control and uncorrectable status (R330, R343). -/
  | deviceControl | deviceControl2 | linkControl | aerControl | aerStatus
  deriving DecidableEq, Repr

/-- How a read that the device issued failed (R343). -/
inductive ReadFailure where
  | timeout | unsupported | completerAbort | poisoned
  deriving DecidableEq, Repr

/-- The target of a register access: BAR0 of the PF; BAR0 of a VF; BAR2 of a function, with the requester ID of the request
(R446); the internal control space, with the identity of the agent (R453); configuration space. -/
inductive Target where
  | bar0 (off : Nat)
  | vfBar0 (fn off : Nat)
  | bar2 (fn rid off : Nat)
  | internal (agent off : Nat)
  | config (fn : Nat) (reg : ConfigReg)
  deriving DecidableEq, Repr

/-- What a failed read was for (R343): the doorbell word of a stall, a fetched order, the reads of a stall's open, host data of
an order. Orders are named by their fetch number, stalls by their number. -/
inductive ReadKind where
  | doorbell (stall : Nat)
  | order (work : Nat)
  | open_ (stall : Nat)
  | data (work : Nat)
  deriving DecidableEq, Repr

/-- Who makes a mailbox access: a host request to a function's BAR2 with its requester ID, or an internal agent with its identity
code of the table 'Master identities' (R446). -/
inductive Agent where
  | host (fn rid : Nat)
  | internal (id : Nat)
  deriving DecidableEq, Repr

/-- The start of a single-start multi-stop run: the edge of a channel's edge generator, or a transition of a TALLY_IN input (R302). -/
inductive SsmsStart where
  | channel (c : Nat)
  | input (i : Nat) (rising : Bool)
  deriving DecidableEq, Repr

/-- The edges of a run: its start, and its stops with their slopes (R302). -/
structure SsmsEdges where
  start : SsmsStart
  stops : List (Nat × Bool)
  deriving DecidableEq, Repr

/-- A request at a DRAM channel: the requester, and the 64-byte lines that it asks for (R472). -/
structure ArbiterAsk where
  requester : Nat
  lines : List Nat
  deriving DecidableEq, Repr

/-- One repeat of a run: its start edge, and the transitions that the stops' comparators made: source, rising, instant (R302). -/
structure SsmsRep where
  start : Tu
  seen : List (Nat × Bool × Tu) := []
  deriving DecidableEq, Repr

/-- What reaches the device from outside during one cycle of a sequencer. -/
structure CycleIn where
  /-- Outcome changes at the lands, in time order: channel, offset in tu from the channel's cycle start S(k) + O_c, outcome (R44). -/
  outs : List (Nat × Nat × Nat) := []
  /-- A verdict check fails at the beat (R202): 0 none, 1 the copies differ, 2 the CRC of the fail stream. -/
  check : Nat := 0
  /-- Bits received by lanes in the cycle: lane, count, bits, BLOCK_LOCK is lost in it, LOS asserts in it (R239). -/
  raw : List (Nat × Nat × Nat × Bool × Bool) := []
  deriving DecidableEq, Repr

/-- What boot firmware finds from step 2 on that comes from outside the core die's logic (R606, R607, R185, R604, R527, R560, R520). -/
structure BootIn where
  /-- The firmware's signature verifies. -/
  fwSig : Bool := true
  /-- A stack failed to initialise, or the write of step 4 met an uncorrectable error. -/
  dramFail : Bool := false
  /-- The factory layer's signature verifies. -/
  factorySig : Bool := true
  /-- Detector groups whose self-test failed, as bits. -/
  selftest : Nat := 0
  /-- Readings of inputs 14 and 15 of each converter, in 0.5 mV. -/
  selfCheck : List (Int × Int) := []
  /-- Time from power good to the end of step 8, in µs. -/
  us : Nat := 0
  deriving DecidableEq, Repr


/-- The commands of the block, one per row of spec/opcode_table.json, in its order. -/
inductive Instr where
  /-- REGISTER_WRITE (R11). A BAR0, BAR2 or internal-space write to a register that has no row of its own takes effect under its access code, including W1C clears, RWL locks and set-up writes blocked while work is admitted or queued. -/
  | registerWrite (t : Target) (v : Word)
  /-- UNALIGNED_ACCESS (R9). A BAR0 or BAR2 access that is not an aligned 32-bit access completes successfully; a write is discarded and a read returns all ones. -/
  | unalignedAccess (t : Target) (n : Nat) (write : Option (List Word))
  /-- BAR2_WIDE_ACCESS (R641). A BAR2 access of 4 to 64 bytes within one 64-byte block is carried out as ascending aligned 32-bit accesses. -/
  | bar2WideAccess (fn : Nat) (rid : Nat) (off : Nat) (n : Nat) (write : Bool) (data : List Word)
  /-- READ_CLEAR_READ (R11). A read of an RC register returns its value and clears the bits it returned as 1. -/
  | readClearRead (off : Nat)
  /-- WIDE_VALUE_READ (R106). A read of the _0 word of a wide value latches its higher words until the highest word is read. -/
  | wideValueRead (off : Nat)
  /-- PACE_READING_PUBLISH (R19). At the end of each 1 µs window the pace gauge publishes the slowest replica's pace, less its tolerance. -/
  | paceReadingPublish (pace : Nat)
  /-- RUN_AHEAD_UNDERRUN (R18). A run-ahead buffer underruns or an outbound buffer overruns, which is a pace fault. -/
  | runAheadUnderrun (k : Nat)
  /-- CLOSING_INTERVAL_END (R34). 10 µs after a burst's last vector the closing interval ends and the COMPLETE receipt is issued if no fault has voided the burst. -/
  | closingIntervalEnd (k : Nat) (check : Nat)
  /-- LEVEL_COMMIT (R56). A write of 1 to CHn_LEVEL_COMMIT checks the staged set and, if accepted, copies it to the live copy. -/
  | levelCommit (c : Nat)
  /-- RANGE_SWITCH_DONE (R42). The 1 µs driver range switch ends and the levels start to ramp from their clamped previous values. -/
  | rangeSwitchDone (c : Nat)
  /-- RAMP_START (R59). No later than 200 ns after an accepted commit, the ramp starts with RAMPING 1 and SETTLED 0. -/
  | rampStart (c : Nat)
  /-- RAMP_END (R59). The ramp's time T elapses and RAMPING returns to 0. -/
  | rampEnd (c : Nat)
  /-- RAMP_DONE (R59). Settling ends, SETTLED returns to 1, RAMP_DONE is set and level verification becomes pending. -/
  | rampDone (c : Nat)
  /-- CHANNEL_ENABLE_WRITE (R63). A write to CHn_ENABLE connects or disconnects the driver, load and PMU, or is ignored on a conflict, in the safe state or for an in-use lane channel. -/
  | channelEnableWrite (c : Nat) (v : Word)
  /-- COMPARATOR_OUTCOME_CHANGE (R47). A channel's comparator outcome changes and, in monitor use, sets its sticky bit and raises the monitor event. -/
  | comparatorOutcomeChange (c : Nat) (o : Nat)
  /-- COMPARATOR_DISAGREEMENT (R45). A comparator pair reports INVALID, which is latched as a wrong-pass fault within 2 µs. -/
  | comparatorDisagreement (c : Nat)
  /-- SWM_TRIP (R53). A pin voltage stays outside the clamp window for the filter time, which is reported as a DUT-overstress violation. -/
  | swmTrip (c : Nat)
  /-- DRV_STUCK (R54). The driver output stage carries over 2 mA at high impedance for the filter time. -/
  | drvStuck (c : Nat)
  /-- PMU_OVER (R54). The PMU's measured current exceeds 110 % of full scale for the filter time. -/
  | pmuOver (c : Nat)
  /-- PMU_CLAMP (R50). A PMU voltage or current clamp engages, setting PMU_CLAMP and raising the clamp event. -/
  | pmuClamp (c : Nat)
  /-- MASTER_LOCK (R75). The 16 GHz master locks to REFIN and MASTER_LOCK is set, starting the free-running counter after a reset. -/
  | masterLock (count : Option Nat)
  /-- REFERENCE_LOSS (R75). REFIN leaves its limits or the master loses lock after it has locked, which is a reference fault. -/
  | referenceLoss (refin : Bool)
  /-- TSBANK_COMMIT (R94). A write of 1 to TSBANK_COMMIT_n checks the staged banks of SEQn's channels and, if accepted, makes the commit pending. -/
  | tsbankCommit (n : Nat)
  /-- TSBANK_COMMIT_FREE (R93). A write of 1 to TSBANK_COMMIT_FREE requests a commit of every channel that no sequencer owns. -/
  | tsbankCommitFree
  /-- TIMING_COMMIT_EFFECT (R95). A pending timing commit takes effect at the first vector boundary after the commit lead, copying staged to live and setting DONE. -/
  | timingCommitEffect (n : Nat)
  /-- TSBANK_STAGE_WRITE (R96). A write to a staged timing record is stored, or is ignored with STAGE_BLOCKED while a commit is pending. -/
  | tsbankStageWrite (c : Nat) (t : Nat) (w : Nat) (v : Word)
  /-- CYCLE_START (R77). A sequencer starts a cycle on its owned channels with the period, edges and codes of the vector that governs it. -/
  | cycleStart (n : Nat) (io : CycleIn)
  /-- BAR4_WRITE (R115). A BAR4 write reaches local memory, or is discarded with APERTURE_BLOCKED in an ACTIVE or FILLING segment. -/
  | bar4Write (x : Nat) (data : Bytes)
  /-- BAR4_READ (R338). A BAR4 read returns local memory data, all ones beyond local memory, or all ones with a memory-corruption detection on a bad line. -/
  | bar4Read (x : Nat) (n : Nat) (bad : List Nat) (corr : Nat)
  /-- POOL_LOCK_WRITE (R128). A write of 1 to DRAM_SEG_CTRL.LOCK fixes the vector pool, or is ignored with POOL_INVALID. -/
  | poolLockWrite
  /-- OWNERSHIP_COMMIT (R130). A write of 1 to SEQn_OWN_COMMIT checks the staged mask and replaces the live ownership mask if accepted. -/
  | ownershipCommit (n : Nat)
  /-- VEC (R142). VEC emits a run of rows of one segment, one beat at a time. -/
  | seqVec (n : Nat)
  /-- REPEAT (R142). REPEAT emits one row n times, reading it once. -/
  | seqRepeat (n : Nat)
  /-- LOOP (R146). LOOP sets a loop counter of the current window. -/
  | seqLoop (n : Nat)
  /-- ENDLOOP (R146). ENDLOOP decrements a counter and branches back while it is not 0. -/
  | endloop (n : Nat)
  /-- CALL (R147). CALL opens a window at depth d + 1 and transfers control to its target. -/
  | seqCall (n : Nat)
  /-- RETURN (R147). RETURN closes the current window and transfers control to its return address. -/
  | seqReturn (n : Nat)
  /-- JUMP (R136). JUMP transfers control to a target segment and index. -/
  | seqJump (n : Nat)
  /-- MATCH (R156). MATCH emits iterations until the exit condition holds or its limit is reached. -/
  | seqMatch (n : Nat)
  /-- MATCH_TIMEOUT (R156). A MATCH reaches its iteration limit without exit and jumps to its timeout index or retires unmatched sites. -/
  | matchTimeout (n : Nat)
  /-- BRFAIL (R154). BRFAIL emits quiet cycles, evaluates its fail condition on the active sites and branches. -/
  | brfail (n : Nat)
  /-- BREVT (R155). BREVT tests an event latch at its decision instant and branches. -/
  | brevt (n : Nat)
  /-- SHIFT (R143). SHIFT emits n cycles from a template row and a chain stream. -/
  | seqShift (n : Nat)
  /-- SETTS (R158). SETTS replaces the timing-set selectors of named groups from the next cycle. -/
  | setts (n : Nat)
  /-- DIR (R157). DIR sets the stream-mode direction of 64 positions from the next cycle. -/
  | seqDir (n : Nat)
  /-- EDGECMP (R157). EDGECMP enters or leaves edge-compare on selected positions from the next cycle. -/
  | edgecmp (n : Nat)
  /-- HOLD (R159). HOLD stops starting cycles until a Crier line condition releases it or it times out. -/
  | seqHold (n : Nat)
  /-- HOLD_RELEASE (R159). The Crier line meets the HOLD condition and cycle 0 starts 163,840 tu later. -/
  | holdRelease (n : Nat)
  /-- HOLD_TIMEOUT (R159). A HOLD's timeout expires, voiding the burst or jumping to the timeout index. -/
  | holdTimeout (n : Nat)
  /-- MARK (R158). MARK raises the sequencer's mark event at the next cycle start. -/
  | seqMark (n : Nat)
  /-- CAPTURE_ON (R158). CAPTURE_ON starts the reserved capture from the next cycle. -/
  | captureOn (n : Nat)
  /-- CAPTURE_OFF (R158). CAPTURE_OFF stops the capture from the next cycle. -/
  | captureOff (n : Nat)
  /-- END (R160). END stops the sequencer after its last cycle and parks the channels FLOAT or KEEP. -/
  | seqEnd (n : Nat)
  /-- INSTRUCTION_BOUNDARY (R181). At each boundary's decision instant the engine samples fault notices, disables, STOP, PAUSE and event latches. -/
  | instructionBoundary (n : Nat)
  /-- SESSION_PAUSE (R163). A write of 1 to SEQn_SESSION.PAUSE requests a pause of the session burst. -/
  | sessionPause (n : Nat)
  /-- SESSION_RESUME (R165). A write of 1 to SEQn_SESSION.RESUME sets the resume instant and continues or redirects the session. -/
  | sessionResume (n : Nat)
  /-- SESSION_STOP (R167). A write of 1 to SEQn_SESSION.STOP ends the session at the next boundary, or at once when paused. -/
  | sessionStop (n : Nat)
  /-- REDIRECT_ARM (R164). A write to SEQn_REDIRECT_1 while paused arms a redirect, or is ignored with REDIRECT_IGNORED. -/
  | redirectArm (n : Nat) (v : Word)
  /-- VOID_FINAL_RECEIPT (R161). After a VOID burst has written its final headers, summary and result blocks, its VOID receipt is issued. -/
  | voidFinalReceipt (k : Nat)
  /-- FAULT_NOTICE_ARRIVAL (R182). A fault notice or disable reaches the micro-engine within 81,920 tu of its latch. -/
  | faultNoticeArrival (n : Nat)
  /-- ENGINE_WATCHDOG_EXPIRY (R180). 1,024 microwords execute without an instruction boundary, which is a loss-of-control fault. -/
  | engineWatchdogExpiry (n : Nat)
  /-- MICROWORD_FETCH_ERROR (R180). A microword fetch finds a corrected or an uncorrectable check-bit error. -/
  | microwordFetchError (n : Nat) (corrected : Bool)
  /-- UOP_NOP (R175). Micro-operation NOP does nothing. -/
  | uopNop (n : Nat)
  /-- MOV (R175). Micro-operation MOV copies operand B to A. -/
  | uopMov (n : Nat)
  /-- LDI (R175). Micro-operation LDI loads the zero-extended immediate. -/
  | ldi (n : Nat)
  /-- LDIH (R175). Micro-operation LDIH shifts A left 16 and ORs the immediate. -/
  | ldih (n : Nat)
  /-- ADD (R175). Micro-operation ADD adds B to A and sets flags. -/
  | uopAdd (n : Nat)
  /-- SUB (R175). Micro-operation SUB subtracts B from A and sets flags. -/
  | uopSub (n : Nat)
  /-- ADDI (R175). Micro-operation ADDI adds the sign-extended immediate and sets flags. -/
  | addi (n : Nat)
  /-- AND (R175). Micro-operation AND ands B into A and sets flags. -/
  | uopAnd (n : Nat)
  /-- UOP_OR (R175). Micro-operation OR ors B into A and sets flags. -/
  | uopOr (n : Nat)
  /-- XOR (R175). Micro-operation XOR xors B into A and sets flags. -/
  | uopXor (n : Nat)
  /-- SHF (R175). Micro-operation SHF shifts A left or logically right. -/
  | uopShf (n : Nat)
  /-- CMP (R175). Micro-operation CMP sets flags from A minus B. -/
  | uopCmp (n : Nat)
  /-- CMPI (R175). Micro-operation CMPI sets flags from A minus the immediate. -/
  | cmpi (n : Nat)
  /-- FIELD (R175). Micro-operation FIELD extracts a bit field of B into A. -/
  | uopField (n : Nat)
  /-- BR (R175). Micro-operation BR branches to the immediate address. -/
  | uopBr (n : Nat)
  /-- BRZ (R175). Micro-operation BRZ branches if Z is set. -/
  | brz (n : Nat)
  /-- BRNZ (R175). Micro-operation BRNZ branches if Z is clear. -/
  | brnz (n : Nat)
  /-- BRN (R175). Micro-operation BRN branches if N is set. -/
  | brn (n : Nat)
  /-- BRC (R175). Micro-operation BRC branches if C is set. -/
  | brc (n : Nat)
  /-- BRB (R175). Micro-operation BRB branches if bit B of A is 1. -/
  | brb (n : Nat)
  /-- DISP (R175). Micro-operation DISP dispatches to the immediate plus A's low six bits. -/
  | disp (n : Nat)
  /-- DISPOP (R175). Micro-operation DISPOP fetches and decodes the next instruction and dispatches on its opcode. -/
  | dispop (n : Nat)
  /-- RUN (R175). Micro-operation RUN hands one beat of rows to the run-ahead path. -/
  | uopRun (n : Nat)
  /-- QUIET (R175). Micro-operation QUIET hands a beat of quiet cycles to the run-ahead path. -/
  | uopQuiet (n : Nat)
  /-- ACT (R175). Micro-operation ACT queues an action for the next cycle start. -/
  | uopAct (n : Nat)
  /-- WPUSH (R175). Micro-operation WPUSH opens a program window for the next depth. -/
  | wpush (n : Nat)
  /-- WPOP (R175). Micro-operation WPOP closes the window of the current depth. -/
  | wpop (n : Nat)
  /-- SPILL (R175). Micro-operation SPILL writes a window to its spill slot. -/
  | uopSpill (n : Nat)
  /-- FILL (R175). Micro-operation FILL reads a spill slot into a free window and checks it. -/
  | uopFill (n : Nat)
  /-- MEMWAIT (R175). Micro-operation MEMWAIT waits for the last SPILL or FILL to complete. -/
  | memwait (n : Nat)
  /-- FAILRD (R175). Micro-operation FAILRD reads LFAIL, BFAIL or MATCHED. -/
  | failrd (n : Nat)
  /-- SITEOP (R175). Micro-operation SITEOP applies a set operation to site sets. -/
  | siteop (n : Nat)
  /-- CRIER (R175). Micro-operation CRIER waits for a Crier line condition with a timeout. -/
  | uopCrier (n : Nat)
  /-- LATCH (R175). Micro-operation LATCH clears an event latch. -/
  | uopLatch (n : Nat)
  /-- TRAP (R175). Micro-operation TRAP enters window 7 at a handler address. -/
  | uopTrap (n : Nat)
  /-- TRAPRET (R175). Micro-operation TRAPRET leaves window 7 and continues after the trapping microword. -/
  | trapret (n : Nat)
  /-- VOIDB (R175). Micro-operation VOIDB ends the burst VOID with a cause. -/
  | voidb (n : Nat)
  /-- ENDB (R175). Micro-operation ENDB ends the burst as END. -/
  | endb (n : Nat)
  /-- ILLEGAL_UOP (R175). A microword with an unlisted UOP is not executed and raises a loss-of-control fault. -/
  | illegalUop (n : Nat)
  /-- LANE_MODE_ENABLE (R243). A LANEn_MODE write setting RX or TRX while OFF is checked and starts the lane in ACQUIRE, or is ignored with MODE_REJECT. -/
  | laneModeEnable (k : Nat) (v : Word)
  /-- LANE_MODE_OFF (R243). A LANEn_MODE write setting OFF disconnects the termination and idles the transmitter, unless a burst blocks it. -/
  | laneModeOff (k : Nat)
  /-- CDR_LOCK (R222). The CDR locks while LOS is clear and the lane enters HUNT. -/
  | cdrLock (k : Nat)
  /-- CDR_LOCK_LOSS (R222). The CDR loses lock, raising LOL and returning the lane to ACQUIRE. -/
  | cdrLockLoss (k : Nat)
  /-- LOS_ASSERT (R225). The received amplitude falls below the LOS threshold and the lane returns to ACQUIRE. -/
  | losAssert (k : Nat)
  /-- LOS_CLEAR (R225). The amplitude stays above threshold plus hysteresis for 1 µs and LOS clears. -/
  | losClear (k : Nat)
  /-- LANE_HEADER (R223). A block header is examined, advancing hunting, declaring or losing block lock. -/
  | laneHeader (k : Nat) (h : Nat)
  /-- HUNT_SLOW (R222). HUNT_LIMIT × 1,024 headers are examined without lock and HUNT_SLOW is set. -/
  | huntSlow (k : Nat)
  /-- LANE_BLOCK (R235). A received block is tested by the matcher and, when compare runs, judged against the expected block. -/
  | laneBlock (k : Nat) (h : Nat) (payload : Nat) (differ : Bool)
  /-- GSL_FRAME_SEND (R248). At each REFIN period a ring port sends one frame reporting the previous hall window. -/
  | gslFrameSend (p : Nat)
  /-- GSL_FRAME_RECEIVE (R248). A frame with a valid CRC and header is received and its Crier changes and message are used. -/
  | gslFrameReceive (p : Nat) (frame : Nat) (t : Tu)
  /-- PROBE (R254). A PROBE message is received and answered with PROBE_REPLY. -/
  | probe
  /-- PROBE_REPLY (R254). A PROBE_REPLY gives one delay and offset measurement of a link. -/
  | probeReply (t2 : Tu)
  /-- ADVERT (R252). An ADVERT message records a device's serial, candidate strap and OVEN_READY, completing the election once all are known. -/
  | advert (id : Nat)
  /-- TIME_MESSAGE (R487). A pair of TIME messages carries the master's OFFSET and RATE to the members. -/
  | timeMessage
  /-- CRIER_CFG (R263). A CRIER_CFG message carries the Crier latency and sources to every device. -/
  | crierCfg (commit : Int)
  /-- PREPARE (R266). A PREPARE message asks a participant to decide its part of a joint burst. -/
  | jointPrepare
  /-- VOTE (R266). A VOTE message reports a participant's YES or NO to the coordinator. -/
  | jointVote
  /-- COMMIT (R266). A COMMIT message admits every HELD part of a joint burst. -/
  | jointCommit
  /-- ABORT (R266). An ABORT message releases every participant's part of a joint burst with a cause. -/
  | jointAbort
  /-- DONE (R268). A DONE message tells the coordinator a participant's part has run and closed. -/
  | jointDone
  /-- RELEASE (R268). A RELEASE message lets each participant write COMPLETE. -/
  | jointRelease
  /-- VOID_NOTICE (R268). A VOID_NOTICE tells the coordinator a participant voided its part. -/
  | voidNotice
  /-- LINK_DOWN (R270). A LINK_DOWN message floods the loss of a link and triggers rerouting and voiding of crossing joint bursts. -/
  | linkDown
  /-- LINK_TRAINED (R249). 1,024 consecutive valid frames move a port from TRAIN to CAL. -/
  | linkTrained (p : Nat) (peer : Nat)
  /-- LINK_CAL_DONE (R249). 65,536 round trips have been averaged, DELAY is stored and the link enters UP. -/
  | linkCalDone (p : Nat)
  /-- LINK_LOSS (R250). A link loses signal or receives no valid frame for 1 µs and goes DOWN. -/
  | linkLoss (p : Nat) (los : Bool)
  /-- LINK_DRIFT_CHECK (R258). Each 1 ms window's mean delay is compared with DELAY and a drift beyond 4 tu is a drift fault. -/
  | linkDriftCheck (p : Nat)
  /-- PORT_ROLE_WRITE (R275). A write to GSL_PORTn_CFG.ROLE changes the port role, or is ignored with SETUP_BLOCKED. -/
  | portRoleWrite (p : Nat) (v : Word)
  /-- REFORM (R274). A write of 1 to GSL_CTRL.REFORM re-forms the hall from election, or is ignored with HALL_BUSY. -/
  | reform
  /-- CRIER_COMMIT (R263). A write of 1 to CRIER_COMMIT on the master checks and sends the Crier configuration. -/
  | crierCommit (busy : Bool)
  /-- CRIER_CONFIG_EFFECT (R263). A committed Crier configuration takes effect at the first window at least 10 µs after the commit. -/
  | crierConfigEffect
  /-- CRIER_ACTION (R261). At a change's action instant every device applies the change to its local Crier line. -/
  | crierAction
  /-- JOINT_WAIT_TIMEOUT (R266). A participant's 10 ms wait for PREPARE or its own order expires. -/
  | jointWaitTimeout (id : Nat)
  /-- JOINT_ADMISSION_TIMEOUT (R266). The coordinator's or a HELD participant's 10 ms admission timer expires, aborting or refusing the joint burst. -/
  | jointAdmissionTimeout (id : Nat)
  /-- SLOT_EDGE (R281). An edge of an armed slot's source and slope is counted and stamped or held off. -/
  | slotEdge (n : Nat) (rising : Bool) (t : Tu)
  /-- STAMP_RECORD_WRITE (R283). The concentrator writes a stamp record to its region or graph tap within 2 µs of its time. -/
  | stampRecordWrite (r : Nat)
  /-- WATCH_OPEN (R285). A watch opens at its open instant, arming OPEN slots and writing the RUNNING header. -/
  | watchOpen (k : Nat)
  /-- WATCH_CLOSE (R285). A watch closes at its end instant, record count, disarm or burst end and writes its final header and receipt. -/
  | watchClose (k : Nat)
  /-- TGATE_TRANSITION (R290). A gate transition is accepted, arming or disarming slots that use it, or is refused with GATE_FAST. -/
  | tgateTransition (g : Nat) (level : Bool) (t : Tu)
  /-- GATE_SETTLE_ACCEPT (R290). 1 µs after the last accepted transition, a differing gate level is accepted as a transition. -/
  | gateSettleAccept (g : Nat)
  /-- SLOT_DISARM_TIMER (R289). DUR elapses after a slot's arm instant and the slot disarms. -/
  | slotDisarmTimer (n : Nat)
  /-- OCXO_APPEAR (R297). A 10 MHz signal appears on OCXO_IN of a candidate and REFOUT starts. -/
  | ocxoAppear
  /-- OCXO_LOSS (R297). The OCXO_IN signal is lost and REFOUT stops. -/
  | ocxoLoss
  /-- OVEN_READING (R299). Every 10 ms a thermistor reading updates the oven controller's duty and state. -/
  | ovenReading (reading : Nat)
  /-- OVEN_HOLD (R299). No thermistor reading arrives for 100 ms and the controller holds its duty. -/
  | ovenHold
  /-- OVEN_ENABLE (R299). Setting TALLY_OVEN_CTRL.ENABLE starts the oven controller in HEATING. -/
  | ovenEnable
  /-- OVEN_DISABLE (R299). Clearing TALLY_OVEN_CTRL.ENABLE sets duty 0 and the controller OFF. -/
  | ovenDisable
  /-- SSMS_RUN (R302). A built-in procedure runs a single-start multi-stop run on one Row. -/
  | ssmsRun (row : Nat) (stops : SsmsEdges) (repeats : Nat) (addr : Nat)
  /-- SSMS_RUN_DONE (R303). A single-start multi-stop run ends and writes its result block. -/
  | ssmsRunDone (row : Nat) (reps : List SsmsRep)
  /-- MEASUREMENT_RESULTS (R324). Within 20 µs of a watch's close, each measurement writes its result block and bins. -/
  | measurementResults (k : Nat)
  /-- LINK_UP (R329). The PCIe link trains and the data link layer comes up, setting RATE. -/
  | linkUp (speed : Nat) (width : Nat) (flit : Bool) (tags10 : Bool)
  /-- RATE_DROP (R332). The link retrains to a lower rate or width and orders reserving more than RATE end VOID. -/
  | rateDrop (speed : Nat) (width : Nat)
  /-- DL_DOWN (R333). The data link layer goes down and the PF undergoes a function-level reset. -/
  | dlDown
  /-- VF_ENABLE_WRITE (R334). A write to VF Enable enables the VFs, or is ignored with VF_REJECT, or on clearing resets every VF. -/
  | vfEnableWrite (enable : Bool)
  /-- BUS_MASTER_CLEAR (R336). Clearing Bus Master Enable on a function with work acts as a disable. -/
  | busMasterClear (f : Nat)
  /-- D3HOT_ENTRY (R336). A function's entry to D3hot acts as a disable. -/
  | d3hotEntry (f : Nat)
  /-- D3HOT_EXIT (R336). A return from D3hot to D0 acts as a function-level reset. -/
  | d3hotExit (f : Nat)
  /-- FUNCTION_LEVEL_RESET (R346). A function-level reset stops fetching, ends the function's work as a disable and closes its stalls. -/
  | functionLevelReset (f : Nat)
  /-- FLR_DONE (R346). All work of the reset function has stopped and FLR_DONE is set. -/
  | flrDone (f : Nat)
  /-- READ_FAILED (R343). A device read ends in completion timeout, UR, CA or poisoned data. -/
  | readFailed (how : ReadFailure) (what : ReadKind)
  /-- MSIX_TRIGGER (R344). A trigger of an MSI-X vector sets its pending bit and issues the message when unmasked. -/
  | msixTrigger
  /-- MSIX_UNMASK (R344). Unmasking a vector with its pending bit set issues one message. -/
  | msixUnmask (f : Nat) (v : Nat)
  /-- STALL_OPEN (R354). A write to STALL_CTL with CLOSE 0 checks and starts opening a stall. -/
  | stallOpen (f : Nat) (k : Nat)
  /-- STALL_OPEN_COMPLETE (R354). The descriptor and doorbell reads return and the stall becomes AWAKE, or the open is rejected or abandoned. -/
  | stallOpenComplete (k : Nat) (desc : Bytes) (doorbell : Nat)
  /-- STALL_CLOSE (R355). A write to STALL_CTL with CLOSE 1 moves the stall to DRAINING. -/
  | stallClose (f : Nat) (k : Nat)
  /-- STALL_CLOSED (R351). The last fetched order of a DRAINING stall gets its final receipt and the stall closes. -/
  | stallClosed (k : Nat)
  /-- STALL_WAKE (R360). A write to STALL_WAKE wakes an ASLEEP stall with a doorbell read, or is ignored with WAKE_IGNORED. -/
  | stallWake (f : Nat) (k : Nat)
  /-- DOORBELL_POLL (R358). The bell watcher issues a doorbell line read for AWAKE stalls within the polling interval. -/
  | doorbellPoll (f : Nat) (line : Nat)
  /-- DOORBELL_READ_DONE (R358). A doorbell read returns, showing new PROD, no change, or a halt condition. -/
  | doorbellReadDone (k : Nat) (word : Nat)
  /-- STALL_SLEEP (R359). No new PROD for IDLE µs writes ASLEEP and issues a final doorbell read. -/
  | stallSleep (k : Nat)
  /-- ORDER_FETCH (R361). An order is fetched when its stall has receipt space and fetch allowances, reserving two receipt slots. -/
  | orderFetch (k : Nat)
  /-- FETCH_ALLOWANCE_TICK (R361). A stall's allowance rises every 1 µs and the device's every 62.5 ns, up to 16 orders. -/
  | fetchAllowanceTick (k : Option Nat)
  /-- ORDER_RECEIVED (R362). A fetched order arrives and is checked for form and permission before routing. -/
  | orderReceived (k : Nat) (bytes : Bytes)
  /-- RECEIPT_WRITE (R364). The device writes a 64-byte receipt to the next receipt ring entry. -/
  | receiptWrite
  /-- FENCE_RELEASE (R368). Every earlier order of the stall has its final receipt and a fenced order starts. -/
  | fenceRelease (k : Nat)
  /-- NOP (R395). Order NOP receives COMPLETE when it starts. -/
  | orderNop (k : Nat)
  /-- BURST (R375). Order BURST offers a burst with its reservation block to the Toll. -/
  | orderBurst (k : Nat)
  /-- SEGMENT_WRITE (R383). Order SEGMENT_WRITE copies local memory into pool segments through the Toll. -/
  | segmentWrite (k : Nat)
  /-- SEGMENT_STREAM (R383). Order SEGMENT_STREAM copies host memory into pool segments through the Toll. -/
  | segmentStream (k : Nat) (data : Bytes)
  /-- FILL_COMPLETE (R111). A fill's last write completes, its COMPLETE receipt is issued and its segments become FREE and VALID. -/
  | fillComplete (k : Nat)
  /-- TIMING_LOAD (R384). Order TIMING_LOAD reads an image and writes staged timing records. -/
  | timingLoad (k : Nat)
  /-- TIMING_COMMIT (R385). Order TIMING_COMMIT requests a timing commit and ends when it takes effect or is rejected. -/
  | timingCommit (k : Nat)
  /-- LEVEL_SET (R386). Order LEVEL_SET writes and commits level records on named channels through the Toll. -/
  | levelSet (k : Nat)
  /-- PMU_MEASURE (R387). Order PMU_MEASURE converts each channel's measure path and writes results. -/
  | pmuMeasure (k : Nat)
  /-- ADC_SEQUENCE (R513). Order ADC_SEQUENCE runs its entry list on the converters. -/
  | adcSequence (k : Nat)
  /-- TALLY_ARM (R388). Order TALLY_ARM opens a watch through the Toll. -/
  | tallyArm (k : Nat)
  /-- TALLY_DISARM (R388). Order TALLY_DISARM closes its stall's named watch, or reports NOT_FOUND. -/
  | tallyDisarm (k : Nat)
  /-- CAPTURE_READ (R389). Order CAPTURE_READ copies a local range to host memory at its reserved rate. -/
  | captureRead (k : Nat)
  /-- WORK (R422). Order WORK enters a work item into its class queue, or is refused QUEUE_FULL. -/
  | orderWork (k : Nat)
  /-- GRAPH (R436). Order GRAPH waits for its dependencies and enters the graph queue. -/
  | orderGraph (k : Nat)
  /-- GRAPH_DEPENDENCY_MET (R390). Every order a GRAPH depends on has its final receipt and the graph enters the queue. -/
  | graphDependencyMet (k : Nat)
  /-- FENCE (R391). Order FENCE completes once earlier orders of its stall and of named stalls have final receipts. -/
  | orderFence (k : Nat)
  /-- FRAME_LAUNCH (R392). Order FRAME_LAUNCH reads a frame and queues it on a port for its launch instant. -/
  | frameLaunch (k : Nat)
  /-- FRAME_TRANSMIT (R500). A queued frame leaves its port at its launch instant and its transmit stamp is reported. -/
  | frameTransmit (p : Nat) (pcs : Nat)
  /-- CAL_LOAD (R534). Order CAL_LOAD loads a calibration image or runs a procedure and commits a user layer. -/
  | calLoad (k : Nat)
  /-- CAL_SAVE (R533). Order CAL_SAVE writes an image of the user layer to host memory. -/
  | calSave (k : Nat)
  /-- DISABLE (R394). Order DISABLE disables a function and completes after its other orders' final receipts. -/
  | orderDisable (k : Nat)
  /-- TOLL_DECISION (R401). The Toll applies the admission checks to an offered order and admits, refuses or delays it. -/
  | tollDecision
  /-- DELAY_RELEASE (R417). At the tick at or after a waiting order's release time the Toll decides it again. -/
  | delayRelease
  /-- WINDOW_START (R405). An admitted order's window begins at S0 − L_A and the run-ahead fill starts. -/
  | windowStart (k : Nat)
  /-- BURST_START (R79). A burst starts cycle 0 at its start or launch instant with the initial sequencer state. -/
  | burstStart (k : Nat)
  /-- AWNING_UPDATE (R411). Every 100 µs the Awning advances its model and publishes AWN_HEADROOM. -/
  | awningUpdate (uj : List Nat)
  /-- AWNING_SENSOR_CORRECT (R411). Every 1 ms each node is raised to its sensor reading and SENSOR_ABOVE may be set. -/
  | awningSensorCorrect (sens : List Int)
  /-- AWN_LIMIT_WRITE (R419). A write to AWN_SUPPLY, AWN_COOLANT or AWN_GUARD applies from the next decision and may set LIMIT_WRITE. -/
  | awnLimitWrite (which : Nat) (v : Word)
  /-- ITEM_DISPATCH (R428). The scheduler dispatches the first eligible item to a free or freed core under the headroom rule. -/
  | itemDispatch (core : Nat)
  /-- PREEMPT (R429). A higher-class item interrupts the last-dispatched lowest-class running item. -/
  | preempt
  /-- CONTEXT_SAVED (R429). The victim core saves the item's context and the item becomes PREEMPTED. -/
  | contextSaved (core : Nat)
  /-- WORK_SHED (R430). Headroom below the running charge makes the scheduler pre-empt items until it fits. -/
  | workShed
  /-- EXIT (R432). Service call EXIT ends the item with its return value. -/
  | callExit (core : Nat) (ret : Nat)
  /-- WAIT_FOR (R434). Service call WAIT_FOR moves the item to the scheduler's delay list. -/
  | waitFor (core : Nat) (us : Nat)
  /-- TIME (R432). Service call TIME returns device time. -/
  | callTime (core : Nat)
  /-- HOST_WRITE (R432). Service call HOST_WRITE copies local data to host memory. -/
  | hostWrite (core : Nat) (src : Nat) (dst : Nat) (n : Nat)
  /-- MBX_SEND (R448). Service call MBX_SEND stores a message on the stall's stall channel, or returns FULL. -/
  | mbxSend (core : Nat) (a : Nat)
  /-- ITEM_EXCEPTION (R433). An unhandled exception ends the item as EXIT with the exception code. -/
  | itemException (core : Nat) (code : Nat)
  /-- ITEM_DELAY_RELEASE (R434). At the tick at or after its release time a DELAYED item becomes PREEMPTED at the head of its class. -/
  | itemDelayRelease
  /-- ITEM_WRITES_ACKED (R435). Every write of an item's placement is acknowledged, allowing its dispatch or its receipt. -/
  | itemWritesAcked (k : Nat)
  /-- LOCKSTEP_MISMATCH (R424). A safety core's checker detects a mismatch, voiding its item and locking the core out. -/
  | lockstepMismatch (core : Nat)
  /-- GRAPH_DISPATCH (R438). The scheduler runs the head graph on the lowest free unit under the headroom rule. -/
  | graphDispatch
  /-- SUM (R437). Graph node SUM writes the 128-bit sum of its elements. -/
  | graphSum (k : Nat)
  /-- OR (R437). Graph node OR writes the OR of its elements. -/
  | graphOr (k : Nat)
  /-- POPCOUNT (R437). Graph node POPCOUNT writes the number of 1 bits. -/
  | graphPopcount (k : Nat)
  /-- RUNS (R437). Graph node RUNS writes the runs of 1 bits. -/
  | graphRuns (k : Nat)
  /-- SELECT (R437). Graph node SELECT writes the selected stamp records. -/
  | graphSelect (k : Nat)
  /-- STATS (R437). Graph node STATS writes count, sum, extremes and sum of squares. -/
  | graphStats (k : Nat)
  /-- COPY (R437). Graph node COPY writes its input unchanged. -/
  | graphCopy (k : Nat)
  /-- GRAPH_SUSPEND (R439). A watch placed on a running unit suspends its graph back to the head of the queue. -/
  | graphSuspend (u : Nat)
  /-- GRAPH_END (R440). A graph's last node has written and its writes are acknowledged, ending it COMPLETE or VOID. -/
  | graphEnd (k : Nat)
  /-- READ_REQUEST (R441). An L1 read request for a line is admitted at the directory and gains the line in S or E. -/
  | readRequest (core : Nat) (line : Nat)
  /-- OWNERSHIP_REQUEST (R441). An L1 ownership request is admitted and gains the line in M, with a recall if needed. -/
  | ownershipRequest (cores : List Nat) (line : Nat)
  /-- WRITE_BACK (R441). An L1 write-back of a dirty line is admitted ahead of waiting requests. -/
  | writeBack (core : Nat) (line : Nat) (data : Bytes)
  /-- RECALL_ANSWER (R442). An L1 holding a recalled line in M answers after one store or 60 ns. -/
  | recallAnswer (line : Nat) (data : Bytes)
  /-- SCHED_POOL_WRITE (R445). A write to TOLL_SCHED_POOL changes the core pool, or is ignored with POOL_REJECT. -/
  | schedPoolWrite (v : Word)
  /-- MBX_PORT_SELECT (R449). A write to MBX_PORTp_SEL latches a copy of a stall's stall message into the port. -/
  | mbxPortSelect (fn : Nat) (p : Nat) (k : Nat)
  /-- MBX_PORT_DATA_READ (R449). A read of MBX_PORTp_DATA returns the latched message and the read of byte 63 clears the stall's full flag. -/
  | mbxPortDataRead (fn : Nat) (p : Nat) (w : Nat)
  /-- MBX_TXBUF_WRITE (R451). A write to MBX_SHn_TXBUF by the bound sender stages message words, or sets BIND_VIOLATION. -/
  | mbxTxbufWrite (a : Agent) (n : Nat) (w : Nat) (v : Word)
  /-- MBX_SHARED_SEND (R451). A read of MBX_SHn_SEND commits the staged message and sets FULL, or fails when full or unbound. -/
  | mbxSharedSend (a : Agent) (n : Nat)
  /-- MBX_RXBUF_READ (R452). The bound receiver's read of byte 63 of MBX_SHn_RXBUF clears FULL and raises the emptied source. -/
  | mbxRxbufRead (a : Agent) (n : Nat) (w : Nat)
  /-- EVENT_PRESENT (R454). An event source presents an event to every enabled route that passes it. -/
  | eventPresent
  /-- EVENT_ARRIVAL (R455). After its route latency an event arrives at its destination and acts once, merging near events. -/
  | eventArrival
  /-- ROUTE_WRITE (R458). A write to EVR_ROUTEn_0 enables or disables a route, or is ignored with ROUTE_REJECT or SETUP_BLOCKED. -/
  | routeWrite (n : Nat) (v : Word)
  /-- BOOT_WDT_RESTART (R611). A write of 0x5A5A to BOOT_WDT_RESTART restarts the watchdog period. -/
  | bootWdtRestart (a : Agent) (v : Word)
  /-- DRAM_ILV_COMMIT (R465). A write of 1 to DRAM_ILV_COMMIT checks the staged map and stores it as the next copy. -/
  | dramIlvCommit
  /-- ARBITER_REQUEST (R472). A requester raises a request at a DRAM channel. -/
  | arbiterRequest (c : Nat) (r : ArbiterAsk)
  /-- ARBITER_GRANT (R473). The channel arbiter grants the next requester under the compact or full arrangement. -/
  | arbiterGrant (c : Nat)
  /-- REQUEST_WITHDRAW (R475). A granted requester withdraws and leaves one dead slot. -/
  | requestWithdraw (c : Nat)
  /-- REFRESH_DUE (R468). Every TREFI a channel's refresh debt rises and a refresh is issued outside a postponement. -/
  | refreshDue (c : Nat)
  /-- REFRESH_MAKEUP (R469). At the end of a postponed span each channel issues its owed refreshes back to back. -/
  | refreshMakeup (st : Nat)
  /-- SELF_REFRESH_ENTRY (R477). The controller closes rows and issues self-refresh on entry to P2 or deeper. -/
  | selfRefreshEntry
  /-- SELF_REFRESH_EXIT (R477). The stacks exit self-refresh and the controller restarts. -/
  | selfRefreshExit
  /-- PATROL_SCRUB (R480). The scrubber reads and corrects a line, or finds an uncorrectable error and poisons it. -/
  | patrolScrub (line : Nat) (result : Nat)
  /-- TIME_STEP (R486). TIME_CMD.STEP adds the staged step to OFFSET. -/
  | timeStep (rate : Bool)
  /-- TIME_RATE (R486). TIME_CMD.RATE applies the staged rate with OFFSET kept continuous. -/
  | timeRate
  /-- TIME_CAL (R493). TIME_CMD.CAL checks the staged date and steps device time to it, or sets DATE_INVALID. -/
  | timeCal
  /-- TIME_CHANGE_EFFECT (R487). A time change carried by TIME messages takes effect on every hall device at the agreed window. -/
  | timeChangeEffect
  /-- UTC_OFFSET_WRITE (R492). A write to TIME_UTC changes the calendar view at once. -/
  | utcOffsetWrite (v : Word)
  /-- TIME_NOW_READ (R490). A read of TIME_NOW_0 latches device time, free-running time, GEN and the calendar view together. -/
  | timeNowRead
  /-- SERVO_INPUT (R498). A write of PTP_SERVO_IN_1 applies one offset input, stepping or adjusting the rate. -/
  | servoInput (v : Word)
  /-- SERVO_HOLDOVER (R499). No servo input for HOLD_TIMEOUT seconds holds RATE and enters HOLDOVER. -/
  | servoHoldover
  /-- PTP_FRAME_RECEIVE (R497). A received PTP frame is stamped and written to the receive ring, or dropped and counted. -/
  | ptpFrameReceive (n : Nat) (frame : Bytes) (fcs : Bool) (pcs : Nat)
  /-- BACKUP_TIME_WRITE (R502). At every whole second device time is written to the backup count and TV is set. -/
  | backupTimeWrite
  /-- TV_CLEAR (R503). The keeper rail falls below 1.9 V and TV clears. -/
  | tvClear
  /-- CONVERSION_DONE (R513). A converter completes a conversion and, at an entry's end, stores its result. -/
  | conversionDone (c : Nat) (v : Int) (overRange : Bool)
  /-- ADC_AFTER_DELAY (R512). An AFTER entry's delay elapses and its conversions start. -/
  | adcAfterDelay (c : Nat)
  /-- MONITOR_SCAN (R515). Every 1 ms each powered converter converts its monitor inputs and checks alarms and self-check. -/
  | monitorScan (c : Nat) (v : List Int)
  /-- OVEN_CONVERSION (R515). Every 10 ms ADC00 converts the thermistor 16 times and hands the sum to the oven controller. -/
  | ovenConversion (sum : Nat)
  /-- URGENT_REQUEST (R517). A verification or safety request aborts the conversion in progress and converts at once. -/
  | urgentRequest (h : Nat) (safety : Bool)
  /-- LEVEL_VERIFY (R518). A settled channel's DEV readback is converted and passes or fails its verification. -/
  | levelVerify (c : Nat) (dev : Nat)
  /-- RESULT_QUEUE_POP (R522). A read of ADC_RQr_0 pops the head result and latches its other words. -/
  | resultQueuePop (r : Nat)
  /-- CAL_IMAGE_READ (R534). The calibration engine has read the image and checks the new layer or runs its procedure. -/
  | calImageRead (img : Bytes)
  /-- EDGE_LIN (R538). Procedure EDGE_LIN measures interpolator nonlinearity and yields new INL values. -/
  | edgeLin (temps : List Int) (saturated : Bool) (conv : Nat)
  /-- LEVEL_TRIM (R539). Procedure LEVEL_TRIM measures level, load and impedance corrections. -/
  | levelTrim (vals : List (List Int)) (residual : List Nat) (failed : Bool)
  /-- PMU_TRIM (R540). Procedure PMU_TRIM measures PMU current and voltage corrections. -/
  | pmuTrim (vals : List (List Int)) (residual : List Nat) (failed : Bool)
  /-- CAL_COMMIT (R535). The reserved Ledger record is written and the new user layer replaces the old at that instant. -/
  | calCommit
  /-- FAULT_DETECTION (R545). A detection reaches the fault collector, is latched first, merged or counted later, and voids its work. -/
  | faultDetection
  /-- HANDLING_END (R546). The first fault's reaction completes and the collector enters LATCHED. -/
  | handlingEnd
  /-- SAFE_STATE_CONFIRM (R552). Every channel shows SAFE and every stage carries under 2 mA, so the safe state is confirmed. -/
  | safeStateConfirm
  /-- ESCALATION_TIMEOUT (R552). The safe state is not confirmed within 5 µs and the keeper asserts the escalation reset. -/
  | escalationTimeout
  /-- FLT_CLEAR (R553). A write of 1 to FLT_CLEAR clears the collector and safe state, or is rejected. -/
  | fltClear (asserting : Bool)
  /-- FLT_DISABLE (R557). A write of a function number to FLT_DISABLE disables that function, or is ignored. -/
  | fltDisable (f : Nat)
  /-- DISABLE_DONE (R559). The final receipt of the disabled function's last item is issued and its stalls close. -/
  | disableDone (f : Nat)
  /-- FLT_MIRROR_ACK (R549). A write of 1 to FLT_MIRROR_ACK clears the mirror's VALID and ESCALATED. -/
  | fltMirrorAck
  /-- SUPPLY_WARNING (R555). A rail crosses its warning level, a SUPPLY detection that voids overlapping work and starts the hold. -/
  | supplyWarning (r : Nat)
  /-- SUPPLY_WARNING_END (R554). A rail returns 10 mV past its warning level and its dip ends. -/
  | supplyWarningEnd (r : Nat) (lowest : Int)
  /-- SUPPLY_HOLD_END (R556). Every rail has stayed out of warning for 10 ms and the supply-dip hold ends. -/
  | supplyHoldEnd
  /-- LEDGER_EVENT (R570). An event for the Ledger enters the keeper's pending queue, or is counted in LEDG_LOST. -/
  | ledgerEvent
  /-- LEDGER_TAKE (R569). The keeper takes a queued event and writes a new record or updates a repeat count. -/
  | ledgerTake
  /-- LEDGER_WRITE_DONE (R567). A record write or count update completes. -/
  | ledgerWriteDone
  /-- VKEEP_WARNING (R575). VKEEP falls below 3.0 V and the keeper stops taking events after the write in progress. -/
  | vkeepWarning
  /-- LEDGER_READ (R578). A read of LEDG_REC_0 latches the selected record's words and state. -/
  | ledgerRead
  /-- POWER_STATE_SELECT (R586). At each tick and change of idleness the power manager selects the deepest permitted state. -/
  | powerStateSelect
  /-- POWER_EXIT_START (R587). A wake event or the planned instant begins an exit to P0. -/
  | powerExitStart (planned : Bool)
  /-- POWER_EXIT_COMPLETE (R588). Every domain is ON and the exit's conditions are met, so the device is in P0. -/
  | powerExitComplete
  /-- P4_REQ (R590). A write of 1 to PWR_CTRL.P4_REQ requests P4 and enters it once its conditions hold. -/
  | p4Req
  /-- P4_REQUEST_EXPIRY (R590). A P4 request stands 1 ms without its conditions and expires with P4_REJECT. -/
  | p4RequestExpiry
  /-- P4_WAKE_TIMER (R590). The backup count reaches PWR_WAKE with EN set and the keeper ends P4. -/
  | p4WakeTimer
  /-- ROW_OFF_WRITE (R591). A write to PWR_ROW_OFF turns Rows off or back on, or is ignored with ROW_BLOCKED. -/
  | rowOffWrite (v : Word)
  /-- VCORE_REQUEST_UPDATE (R594). Every 100 µs the device sets REQ and VREQ lands from the pace reading and measured VCORE. -/
  | vcoreRequestUpdate (mv : Nat)
  /-- POWER_ON (R599). A supervised rail crosses its reset level, asserting a power-on reset. -/
  | powerOn (keeperLost : Bool) (cut : Option Nat)
  /-- POWER_GOOD (R601). Every rail has stood beyond its warning level for 2 ms and power is good. -/
  | powerGood
  /-- PERST (R599). PERST# goes low, asserting a reset or ending P4. -/
  | perst (low : Bool)
  /-- RESET_N (R599). RESET_N is low for 100 ns or longer, asserting a reset or ending P4. -/
  | resetN (low : Bool)
  /-- WATCHDOG (R611). The watchdog period expires, asserting a WATCHDOG reset. -/
  | watchdog
  /-- RESET_ASSERT (R602). A reset other than a function-level reset puts pins safe, takes links down and ends all work. -/
  | resetAssert
  /-- RESET_RELEASE (R603). A reset is released, the straps are sampled and boot starts. -/
  | resetRelease (src : Nat) (cand : Bool) (pos : Nat) (ref : Bool)
  /-- BOOT_PUSH_GO (R608). A write of 1 to BOOT_PUSH_CMD.GO in WAIT_PUSH reads and checks a pushed image, or is ignored. -/
  | bootPushGo
  /-- FIRMWARE_CHECK_DONE (R607). A flash or pushed firmware image has been read and its checks give a result. -/
  | firmwareCheckDone (img : Bytes) (readOk : Bool) (b : BootIn)
  /-- HOST_READ_COMPLETION (R374). A device read of host memory for an order returns its data, so the order can go on: a reservation block with its measurement or participant list, a TIMING_LOAD image, a FRAME_LAUNCH frame or a KIND 1 descriptor list. -/
  | hostReadCompletion (k : Nat) (data : Bytes) (meas : Bytes) (parts : Bytes)
  /-- LAST_DATA_WRITE_ISSUED (R340). The last data write of a data-writing order (CAPTURE_READ copy, CAL_SAVE image, PMU_MEASURE result array) is issued, and the order's final receipt follows. -/
  | lastDataWriteIssued (k : Nat)
  /-- HOLD_DURATION_BOUND (R376). A timed burst waiting in HOLD reaches first cycle 0 plus DURATION and ends VOID with cause DURATION at the bound. -/
  | holdDurationBound (n : Nat)
  /-- CRIER_PULSE_END (R456). 40,960 tu after a PULSE route's arrival, the Crier line driver sets the line low again. -/
  | crierPulseEnd
  /-- LINK_RETRAIN_HIGHER (R332). The PCIe link retrains to a higher rate or width while it stays up, and RATE rises without affecting admitted work. -/
  | linkRetrainHigher (speed : Nat) (width : Nat)
  /-- DRIFT_DETECTION (R103). A Row's delay-line reference or temperature drifts beyond its limit from the last linearisation, or a stack sensor leaves 0 °C to 100 °C, which is a drift fault. -/
  | driftDetection (stack : Bool) (unit : Nat)
  /-- ON_DIE_MEMORY_ERROR (R479). An access to an on-die memory other than a microword store, such as a core cache, finds an uncorrectable error, which is a memory-corruption fault. -/
  | onDieMemoryError (k : Option Nat) (line : Option Nat)
  deriving DecidableEq, Repr

end Sys2Proof
end

