-- ==== Sys2Proof/Decode.lean ====
section
/-!
DEFINITION. No row of the command table has bits: no word spells a command.
-/

namespace Sys2Proof

/-- The command that a word spells by the table's bits: none, since the table gives bits to no row. -/
def decodeTableWord (_nbits _w : Nat) : Option Instr := none

end Sys2Proof
end

