-- ==== Sys2Proof/Machine/RegName.lean ====
section
/-!
DEFINITION. The names of the register families, spelled as the spec's register tables spell them (R638 to R640).
-/

namespace Sys2Proof.Machine

/-- A register family. A single register of it is named by up to two indices (see `Reg`). -/
inductive RegName where
  | CHn_MODE
  | CHn_LEVEL_VIH
  | CHn_LEVEL_VIL
  | CHn_LEVEL_VOH
  | CHn_LEVEL_VOL
  | CHn_LEVEL_VCOM
  | CHn_LOAD_IOH
  | CHn_LOAD_IOL
  | CHn_CLAMP_HI
  | CHn_CLAMP_LO
  | CHn_PMU_FORCE
  | CHn_PMU_VCLAMP
  | CHn_PMU_ICLAMP
  | CHn_SLEW
  | CHn_LEVEL_COMMIT
  | CHn_ENABLE
  | CHn_STATUS
  | CHn_CMP_MON
  | CHn_EVENTS
  | CHn_MODE_LIVE
  | CHn_LEVEL_VIH_LIVE
  | CHn_LEVEL_VIL_LIVE
  | CHn_LEVEL_VOH_LIVE
  | CHn_LEVEL_VOL_LIVE
  | CHn_LEVEL_VCOM_LIVE
  | CHn_LOAD_IOH_LIVE
  | CHn_LOAD_IOL_LIVE
  | CHn_CLAMP_HI_LIVE
  | CHn_CLAMP_LO_LIVE
  | CHn_PMU_FORCE_LIVE
  | CHn_PMU_VCLAMP_LIVE
  | CHn_PMU_ICLAMP_LIVE
  | CHn_SLEW_LIVE
  | TSBANK_COMMIT_n
  | TSBANK_STATUS_n
  | TSBANK_CTIME_0_n
  | TSBANK_CTIME_1_n
  | TSBANK_CTIME_2_n
  | TSBANK_EPOCH_0_n
  | TSBANK_EPOCH_1_n
  | TSBANK_EPOCH_2_n
  | TSBANK_CYCLE_0_n
  | TSBANK_CYCLE_1_n
  | TSBANK_COMMIT_FREE
  | TSBANK_STATUS_FREE
  | TSBANK_REF
  | TSBANK_STAGE
  | TSBANK_LIVE
  | DRAM_SEG_CTRL
  | DRAM_SEG_FIRST
  | DRAM_SEG_COUNT
  | DRAM_SEG_QUERY
  | DRAM_SEG_STATE
  | DRAM_SEG_EVENTS
  | SEQn_OWN_w
  | SEQn_OWN_COMMIT
  | SEQn_STATUS
  | SEQn_EVENTS
  | SEQn_SPILL_0
  | SEQn_SPILL_1
  | SEQn_SESSION
  | SEQn_REDIRECT_0
  | SEQn_REDIRECT_1
  | SEQn_PC_0
  | SEQn_PC_1
  | SEQn_DIRINIT_w
  | SEQn_CHAIN_w
  | SEQn_SITE_EN_w
  | SEQn_SITE_FAIL_w
  | SEQn_SITE_ACTIVE_w
  | SEQn_OWN_LIVE_w
  | SEQn_SITE_MAP_m
  | BOOT_UCODE_CTRL
  | BOOT_UCODE_STATUS
  | BOOT_UCODE_ROMREV
  | BOOT_UCODE_SVN
  | BOOT_UCODE_ID_0
  | BOOT_UCODE_ID_1
  | BOOT_UCODE_ERR
  | BOOT_UCMATCH_n
  | BOOT_UCCOST_n
  | CAP_TRIG_VAL_w
  | CAP_TRIG_MASK_w
  | CAP_TRIG_CTRL
  | CAP_STATUS
  | CAP_EVENTS
  | CAP_GLITCH_FAIL_w
  | CAP_CHECK_CNT
  | LANEn_MODE
  | LANEn_EQ
  | LANEn_LOS
  | LANEn_HUNT
  | LANEn_BIND
  | LANEn_CMP_SEG
  | LANEn_CMP_FIRST
  | LANEn_CMP_COUNT
  | LANEn_MATCH_w
  | LANEn_MMASK_w
  | LANEn_MATCH_HDR
  | LANEn_PMASK_w
  | LANEn_STATUS
  | LANEn_EVENTS
  | GSL_CTRL
  | GSL_DEVID
  | GSL_STRAP
  | GSL_SERIAL_0
  | GSL_SERIAL_1
  | GSL_HALL_STATUS
  | GSL_HALL_EVENTS
  | GSL_CORR_0
  | GSL_CORR_1
  | GSL_CORR_2
  | GSL_PORTn_CFG
  | GSL_PORTn_ASYM
  | GSL_PORTn_STATUS
  | GSL_PORTn_DELAY
  | GSL_PORTn_EVENTS
  | CRIER_LAT
  | CRIER_COMMIT
  | CRIER_STATUS
  | CRIER_EVENTS
  | CRIER_SRC_n
  | TALLY_STATUS
  | TALLY_EVENTS
  | TALLY_INn_CFG
  | TALLY_OVEN_CTRL
  | TALLY_OVEN_SET
  | TALLY_OVEN_BAND
  | TALLY_OVEN_GAIN
  | TALLY_OVEN_STATUS
  | TALLY_OVEN_INBAND
  | TALLY_SSMS_STATUS
  | TALLY_MEAS_UNITS
  | TALLY_MEAS_EVENTS
  | TALLY_MEAS_OVF_CNT
  | TALLY_SLOTn_CFG
  | TALLY_SLOTn_ARMSEL
  | TALLY_SLOTn_HOLD
  | TALLY_SLOTn_SUST
  | TALLY_SLOTn_BURST
  | TALLY_SLOTn_NSTAMP
  | TALLY_SLOTn_DUR_0
  | TALLY_SLOTn_DUR_1
  | TALLY_SLOTn_STATUS
  | TALLY_SLOTn_EVENTS
  | TALLY_SLOTn_COUNT_0
  | TALLY_SLOTn_COUNT_1
  | STALL_HOST_STATUS
  | STALL_HOST_EVENTS
  | STALL_HOST_CTO
  | STALL_HOST_TAGS
  | STALL_HOST_BAR4_BASE
  | STALL_HOST_FLR
  | STALL_FN_CTRL
  | STALL_FN_MAP_m
  | STALL_POLL
  | STALL_WATCH
  | STALL_WATCH_EVENTS
  | STALL_GRANT_n
  | STALL_WAKE
  | STALL_CTL
  | STALL_CTL_STATUS
  | STALL_EVENTS
  | STALL_HALT_INFO
  | STALL_DB_BASE_0
  | STALL_DB_BASE_1
  | STALL_TABLE_BASE_0
  | STALL_TABLE_BASE_1
  | TOLL_STATUS
  | TOLL_EVENTS
  | TOLL_REFRESH
  | TOLL_STACKn_RES
  | TOLL_INTERIOR
  | AWN_SUPPLY
  | AWN_COOLANT
  | AWN_GUARD
  | AWN_BASE
  | AWN_SPLIT
  | AWN_RES_n
  | AWN_CAP_n
  | AWN_TEMP_n
  | AWN_HEADROOM
  | AWN_EVENTS
  | TOLL_SCHED_STATUS
  | TOLL_SCHED_EVENTS
  | TOLL_SCHED_CHARGE
  | TOLL_SCHED_GQDEPTH
  | TOLL_SCHED_QDEPTH_n
  | TOLL_SCHED_POOL
  | TOLL_SCHED_BUSY
  | TOLL_SCHED_GBUSY
  | TOLL_SCHED_LOCKOUT
  | TOLL_SCHED_COH
  | MBX_BIND_CTRL
  | MBX_SHn_TX_ID
  | MBX_SHn_RX_ID
  | EVR_EVENTS
  | EVR_MERGED_CNT
  | EVR_ROUTEn_0
  | EVR_ROUTEn_1
  | EVR_ROUTEn_2
  | MBX_EVENTS
  | MBX_PRIV_FULL_m
  | MBX_PORTp_SEL
  | MBX_PORTp_STATUS
  | MBX_PORTp_DATA_w
  | MBX_SHn_TXBUF_w
  | MBX_SHn_SEND
  | MBX_SHn_RXBUF_w
  | MBX_SHn_STATUS
  | BOOT_WDT_RESTART
  | DRAM_ILV_STAGE
  | DRAM_ILV_CH_STAGE_w
  | DRAM_ILV_COMMIT
  | DRAM_ILV_STATUS
  | DRAM_ILV_NEXT_w
  | DRAM_ILV_LIVE_w
  | DRAM_SIZE
  | DRAM_STATUS
  | DRAM_EVENTS
  | DRAM_ECC_CNT
  | DRAM_ECC_ADDR_0
  | DRAM_ECC_ADDR_1
  | DRAM_SREF
  | DRAM_PHY_CTRL
  | DRAM_PHYn_w
  | ARB_CLASS_m
  | ARB_CHn_STATUS
  | ARB_DEAD_CNT
  | TIME_NOW_0
  | TIME_NOW_1
  | TIME_NOW_2
  | TIME_FR_0
  | TIME_FR_1
  | TIME_FR_2
  | TIME_OFFSET_0
  | TIME_OFFSET_1
  | TIME_OFFSET_2
  | TIME_RATE_0
  | TIME_RATE_1
  | TIME_CAL_0
  | TIME_CAL_1
  | TIME_STEP_0
  | TIME_STEP_1
  | TIME_STEP_2
  | TIME_RATE_STAGE_0
  | TIME_RATE_STAGE_1
  | TIME_CALSET_0
  | TIME_CALSET_1
  | TIME_CMD
  | TIME_UTC
  | TIME_STATUS
  | TIME_EVENTS
  | TIME_BACKUP_0
  | TIME_BACKUP_1
  | PTP_SERVO_CTRL
  | PTP_SERVO_GAIN
  | PTP_SERVO_THRESH
  | PTP_SERVO_IN_0
  | PTP_SERVO_IN_1
  | PTP_SERVO_STATUS
  | PTP_PORTn_CFG
  | PTP_PORTn_TXLAT
  | PTP_PORTn_RXLAT
  | PTP_PORTn_ASYM
  | PTP_PORTn_RXRING_0
  | PTP_PORTn_RXRING_1
  | PTP_PORTn_RXPROD
  | PTP_PORTn_RXCONS
  | PTP_PORTn_COUNTS
  | ADC_STATUS
  | ADC_EVENTS
  | ADC_VERIFY_INFO
  | ADC_ALARM_TEMP
  | ADC_FAILED_w
  | ADC_RQr_0
  | ADC_RQr_1
  | ADC_RQr_2
  | ADC_RQr_3
  | ADC_RQr_STATUS
  | ADC_MONn_0
  | ADC_MONn_1
  | ADC_RAIL_LIMIT_m
  | CAL_STATUS
  | CAL_EVENTS
  | CAL_ORDER_0
  | CAL_ORDER_1
  | CAL_FACT_ID_0
  | CAL_FACT_ID_1
  | CAL_USER_CRC
  | CAL_COMMITS
  | CAL_LINr_0
  | CAL_LINr_1
  | CAL_FACT
  | CAL_USER
  | FLT_STATUS
  | FLT_EVENTS
  | FLT_FIRST
  | FLT_FIRST_TIME_0
  | FLT_FIRST_TIME_1
  | FLT_FIRST_TIME_2
  | FLT_LATER
  | FLT_CLEAR
  | FLT_DISABLE
  | FLT_DISABLE_STATUS
  | FLT_SUPPLY
  | FLT_SELFTEST
  | FLT_FUSE
  | FLT_MIRROR
  | FLT_MIRROR_TIME_0
  | FLT_MIRROR_TIME_1
  | FLT_MIRROR_TIME_2
  | FLT_MIRROR_ACK
  | LEDG_STATUS
  | LEDG_EVENTS
  | LEDG_NEXT
  | LEDG_FREE
  | LEDG_UNRECORDED
  | LEDG_LOST
  | LEDG_READ_IDX
  | LEDG_READ_STATE
  | LEDG_REC_w
  | PWR_LTR
  | PWR_POLICY
  | PWR_CTRL
  | PWR_STATUS
  | PWR_EVENTS
  | PWR_DOMAINS
  | PWR_ROW_OFF
  | PWR_PACE
  | PWR_VCORE
  | PWR_WAKE_0
  | PWR_WAKE_1
  | PWR_ENERGY_n
  | BOOT_STATUS
  | BOOT_RESET_CAUSE
  | BOOT_STRAP
  | BOOT_TIME
  | BOOT_COUNT
  | BOOT_FW_SVN
  | BOOT_FW_ID_0
  | BOOT_FW_ID_1
  | BOOT_PUSH_0
  | BOOT_PUSH_1
  | BOOT_PUSH_LEN
  | BOOT_PUSH_CMD
  | BOOT_WDT
  deriving DecidableEq, Repr

end Sys2Proof.Machine
end

