-- ==== Sys2Proof/Machine/Fields.lean ====
section
/-!
DEFINITION. The fields of the registers: the register family, the lowest bit and the width, from the spec's register tables.
-/

namespace Sys2Proof.Machine

/-- A field of a register family: bits `lsb` to `lsb + width - 1`. -/
structure Fld where
  reg : RegName
  lsb : Nat
  width : Nat
  deriving DecidableEq, Repr

namespace F

def CHn_MODE_SWM_FILTER : Fld := ⟨.CHn_MODE, 24, 5⟩
def CHn_MODE_PMU_RANGE : Fld := ⟨.CHn_MODE, 16, 3⟩
def CHn_MODE_PMU_MODE : Fld := ⟨.CHn_MODE, 12, 2⟩
def CHn_MODE_LOAD_MODE : Fld := ⟨.CHn_MODE, 8, 1⟩
def CHn_MODE_HYS_L : Fld := ⟨.CHn_MODE, 6, 2⟩
def CHn_MODE_HYS_H : Fld := ⟨.CHn_MODE, 4, 2⟩
def CHn_MODE_CMP_USE : Fld := ⟨.CHn_MODE, 1, 1⟩
def CHn_MODE_DRV_RANGE : Fld := ⟨.CHn_MODE, 0, 1⟩
def CHn_LEVEL_VIH_VIH : Fld := ⟨.CHn_LEVEL_VIH, 0, 16⟩
def CHn_LEVEL_VIL_VIL : Fld := ⟨.CHn_LEVEL_VIL, 0, 16⟩
def CHn_LEVEL_VOH_VOH : Fld := ⟨.CHn_LEVEL_VOH, 0, 16⟩
def CHn_LEVEL_VOL_VOL : Fld := ⟨.CHn_LEVEL_VOL, 0, 16⟩
def CHn_LEVEL_VCOM_VCOM : Fld := ⟨.CHn_LEVEL_VCOM, 0, 16⟩
def CHn_LOAD_IOH_IOH : Fld := ⟨.CHn_LOAD_IOH, 0, 16⟩
def CHn_LOAD_IOL_IOL : Fld := ⟨.CHn_LOAD_IOL, 0, 16⟩
def CHn_CLAMP_HI_CLAMP_HI : Fld := ⟨.CHn_CLAMP_HI, 0, 16⟩
def CHn_CLAMP_LO_CLAMP_LO : Fld := ⟨.CHn_CLAMP_LO, 0, 16⟩
def CHn_PMU_FORCE_FORCE : Fld := ⟨.CHn_PMU_FORCE, 0, 16⟩
def CHn_PMU_VCLAMP_VCLAMP_HI : Fld := ⟨.CHn_PMU_VCLAMP, 16, 16⟩
def CHn_PMU_VCLAMP_VCLAMP_LO : Fld := ⟨.CHn_PMU_VCLAMP, 0, 16⟩
def CHn_PMU_ICLAMP_ICLAMP_HI : Fld := ⟨.CHn_PMU_ICLAMP, 16, 16⟩
def CHn_PMU_ICLAMP_ICLAMP_LO : Fld := ⟨.CHn_PMU_ICLAMP, 0, 16⟩
def CHn_SLEW_SLEW : Fld := ⟨.CHn_SLEW, 0, 10⟩
def CHn_LEVEL_COMMIT_COMMIT : Fld := ⟨.CHn_LEVEL_COMMIT, 0, 1⟩
def CHn_ENABLE_PMU_EN : Fld := ⟨.CHn_ENABLE, 2, 1⟩
def CHn_ENABLE_LOAD_EN : Fld := ⟨.CHn_ENABLE, 1, 1⟩
def CHn_ENABLE_DRV_EN : Fld := ⟨.CHn_ENABLE, 0, 1⟩
def CHn_STATUS_COMMIT_RESULT : Fld := ⟨.CHn_STATUS, 24, 4⟩
def CHn_STATUS_HALTED : Fld := ⟨.CHn_STATUS, 8, 1⟩
def CHn_STATUS_SAFE : Fld := ⟨.CHn_STATUS, 7, 1⟩
def CHn_STATUS_OWNED : Fld := ⟨.CHn_STATUS, 6, 1⟩
def CHn_STATUS_SETTLED : Fld := ⟨.CHn_STATUS, 5, 1⟩
def CHn_STATUS_RAMPING : Fld := ⟨.CHn_STATUS, 4, 1⟩
def CHn_STATUS_LIVE_OUTCOME : Fld := ⟨.CHn_STATUS, 0, 2⟩
def CHn_CMP_MON_SAW_INVALID : Fld := ⟨.CHn_CMP_MON, 3, 1⟩
def CHn_CMP_MON_SAW_HIGH : Fld := ⟨.CHn_CMP_MON, 2, 1⟩
def CHn_CMP_MON_SAW_MID : Fld := ⟨.CHn_CMP_MON, 1, 1⟩
def CHn_CMP_MON_SAW_LOW : Fld := ⟨.CHn_CMP_MON, 0, 1⟩
def CHn_EVENTS_PMU_OVER : Fld := ⟨.CHn_EVENTS, 7, 1⟩
def CHn_EVENTS_RAMP_DONE : Fld := ⟨.CHn_EVENTS, 6, 1⟩
def CHn_EVENTS_PMU_CLAMP : Fld := ⟨.CHn_EVENTS, 5, 1⟩
def CHn_EVENTS_DRV_STUCK : Fld := ⟨.CHn_EVENTS, 4, 1⟩
def CHn_EVENTS_SWM_TRIP : Fld := ⟨.CHn_EVENTS, 3, 1⟩
def CHn_EVENTS_ENABLE_BLOCKED : Fld := ⟨.CHn_EVENTS, 2, 1⟩
def CHn_EVENTS_ENABLE_CONFLICT : Fld := ⟨.CHn_EVENTS, 1, 1⟩
def CHn_EVENTS_COMMIT_REJECT : Fld := ⟨.CHn_EVENTS, 0, 1⟩
def CHn_MODE_LIVE_SWM_FILTER : Fld := ⟨.CHn_MODE_LIVE, 24, 5⟩
def CHn_MODE_LIVE_PMU_RANGE : Fld := ⟨.CHn_MODE_LIVE, 16, 3⟩
def CHn_MODE_LIVE_PMU_MODE : Fld := ⟨.CHn_MODE_LIVE, 12, 2⟩
def CHn_MODE_LIVE_LOAD_MODE : Fld := ⟨.CHn_MODE_LIVE, 8, 1⟩
def CHn_MODE_LIVE_HYS_L : Fld := ⟨.CHn_MODE_LIVE, 6, 2⟩
def CHn_MODE_LIVE_HYS_H : Fld := ⟨.CHn_MODE_LIVE, 4, 2⟩
def CHn_MODE_LIVE_CMP_USE : Fld := ⟨.CHn_MODE_LIVE, 1, 1⟩
def CHn_MODE_LIVE_DRV_RANGE : Fld := ⟨.CHn_MODE_LIVE, 0, 1⟩
def CHn_LEVEL_VIH_LIVE_VIH : Fld := ⟨.CHn_LEVEL_VIH_LIVE, 0, 16⟩
def CHn_LEVEL_VIL_LIVE_VIL : Fld := ⟨.CHn_LEVEL_VIL_LIVE, 0, 16⟩
def CHn_LEVEL_VOH_LIVE_VOH : Fld := ⟨.CHn_LEVEL_VOH_LIVE, 0, 16⟩
def CHn_LEVEL_VOL_LIVE_VOL : Fld := ⟨.CHn_LEVEL_VOL_LIVE, 0, 16⟩
def CHn_LEVEL_VCOM_LIVE_VCOM : Fld := ⟨.CHn_LEVEL_VCOM_LIVE, 0, 16⟩
def CHn_LOAD_IOH_LIVE_IOH : Fld := ⟨.CHn_LOAD_IOH_LIVE, 0, 16⟩
def CHn_LOAD_IOL_LIVE_IOL : Fld := ⟨.CHn_LOAD_IOL_LIVE, 0, 16⟩
def CHn_CLAMP_HI_LIVE_CLAMP_HI : Fld := ⟨.CHn_CLAMP_HI_LIVE, 0, 16⟩
def CHn_CLAMP_LO_LIVE_CLAMP_LO : Fld := ⟨.CHn_CLAMP_LO_LIVE, 0, 16⟩
def CHn_PMU_FORCE_LIVE_FORCE : Fld := ⟨.CHn_PMU_FORCE_LIVE, 0, 16⟩
def CHn_PMU_VCLAMP_LIVE_VCLAMP_HI : Fld := ⟨.CHn_PMU_VCLAMP_LIVE, 16, 16⟩
def CHn_PMU_VCLAMP_LIVE_VCLAMP_LO : Fld := ⟨.CHn_PMU_VCLAMP_LIVE, 0, 16⟩
def CHn_PMU_ICLAMP_LIVE_ICLAMP_HI : Fld := ⟨.CHn_PMU_ICLAMP_LIVE, 16, 16⟩
def CHn_PMU_ICLAMP_LIVE_ICLAMP_LO : Fld := ⟨.CHn_PMU_ICLAMP_LIVE, 0, 16⟩
def CHn_SLEW_LIVE_SLEW : Fld := ⟨.CHn_SLEW_LIVE, 0, 10⟩
def TSBANK_COMMIT_n_COMMIT : Fld := ⟨.TSBANK_COMMIT_n, 0, 1⟩
def TSBANK_STATUS_n_FAIL_CH : Fld := ⟨.TSBANK_STATUS_n, 24, 8⟩
def TSBANK_STATUS_n_FAIL_SET : Fld := ⟨.TSBANK_STATUS_n, 16, 5⟩
def TSBANK_STATUS_n_RESULT : Fld := ⟨.TSBANK_STATUS_n, 8, 4⟩
def TSBANK_STATUS_n_STAGE_BLOCKED : Fld := ⟨.TSBANK_STATUS_n, 3, 1⟩
def TSBANK_STATUS_n_REJECT : Fld := ⟨.TSBANK_STATUS_n, 2, 1⟩
def TSBANK_STATUS_n_DONE : Fld := ⟨.TSBANK_STATUS_n, 1, 1⟩
def TSBANK_STATUS_n_PENDING : Fld := ⟨.TSBANK_STATUS_n, 0, 1⟩
def TSBANK_CTIME_0_n_CTIME_LO : Fld := ⟨.TSBANK_CTIME_0_n, 0, 32⟩
def TSBANK_CTIME_1_n_CTIME_MID : Fld := ⟨.TSBANK_CTIME_1_n, 0, 32⟩
def TSBANK_CTIME_2_n_CTIME_HI : Fld := ⟨.TSBANK_CTIME_2_n, 0, 16⟩
def TSBANK_EPOCH_0_n_EPOCH_LO : Fld := ⟨.TSBANK_EPOCH_0_n, 0, 32⟩
def TSBANK_EPOCH_1_n_EPOCH_MID : Fld := ⟨.TSBANK_EPOCH_1_n, 0, 32⟩
def TSBANK_EPOCH_2_n_EPOCH_HI : Fld := ⟨.TSBANK_EPOCH_2_n, 0, 16⟩
def TSBANK_CYCLE_0_n_CYCLE_LO : Fld := ⟨.TSBANK_CYCLE_0_n, 0, 32⟩
def TSBANK_CYCLE_1_n_CYCLE_HI : Fld := ⟨.TSBANK_CYCLE_1_n, 0, 16⟩
def TSBANK_COMMIT_FREE_COMMIT : Fld := ⟨.TSBANK_COMMIT_FREE, 0, 1⟩
def TSBANK_STATUS_FREE_FAIL_CH : Fld := ⟨.TSBANK_STATUS_FREE, 24, 8⟩
def TSBANK_STATUS_FREE_FAIL_SET : Fld := ⟨.TSBANK_STATUS_FREE, 16, 5⟩
def TSBANK_STATUS_FREE_RESULT : Fld := ⟨.TSBANK_STATUS_FREE, 8, 4⟩
def TSBANK_STATUS_FREE_STAGE_BLOCKED : Fld := ⟨.TSBANK_STATUS_FREE, 3, 1⟩
def TSBANK_STATUS_FREE_REJECT : Fld := ⟨.TSBANK_STATUS_FREE, 2, 1⟩
def TSBANK_STATUS_FREE_DONE : Fld := ⟨.TSBANK_STATUS_FREE, 1, 1⟩
def TSBANK_STATUS_FREE_PENDING : Fld := ⟨.TSBANK_STATUS_FREE, 0, 1⟩
def TSBANK_REF_LOCK_LOST : Fld := ⟨.TSBANK_REF, 2, 1⟩
def TSBANK_REF_REF_PRESENT : Fld := ⟨.TSBANK_REF, 1, 1⟩
def TSBANK_REF_MASTER_LOCK : Fld := ⟨.TSBANK_REF, 0, 1⟩
def TSBANK_STAGE_WORD : Fld := ⟨.TSBANK_STAGE, 0, 32⟩
def TSBANK_LIVE_WORD : Fld := ⟨.TSBANK_LIVE, 0, 32⟩
def DRAM_SEG_CTRL_LOCK : Fld := ⟨.DRAM_SEG_CTRL, 0, 1⟩
def DRAM_SEG_FIRST_FIRST : Fld := ⟨.DRAM_SEG_FIRST, 0, 15⟩
def DRAM_SEG_COUNT_COUNT : Fld := ⟨.DRAM_SEG_COUNT, 0, 15⟩
def DRAM_SEG_QUERY_SEG : Fld := ⟨.DRAM_SEG_QUERY, 0, 15⟩
def DRAM_SEG_STATE_REFS : Fld := ⟨.DRAM_SEG_STATE, 16, 16⟩
def DRAM_SEG_STATE_IN_POOL : Fld := ⟨.DRAM_SEG_STATE, 3, 1⟩
def DRAM_SEG_STATE_VALID : Fld := ⟨.DRAM_SEG_STATE, 2, 1⟩
def DRAM_SEG_STATE_STATE : Fld := ⟨.DRAM_SEG_STATE, 0, 2⟩
def DRAM_SEG_EVENTS_APERTURE_BLOCKED : Fld := ⟨.DRAM_SEG_EVENTS, 1, 1⟩
def DRAM_SEG_EVENTS_POOL_INVALID : Fld := ⟨.DRAM_SEG_EVENTS, 0, 1⟩
def SEQn_OWN_w_OWN : Fld := ⟨.SEQn_OWN_w, 0, 32⟩
def SEQn_OWN_COMMIT_COMMIT : Fld := ⟨.SEQn_OWN_COMMIT, 0, 1⟩
def SEQn_STATUS_OWN_RESULT : Fld := ⟨.SEQn_STATUS, 16, 4⟩
def SEQn_STATUS_RUN_STATE : Fld := ⟨.SEQn_STATUS, 8, 3⟩
def SEQn_STATUS_REDIRECT_ARMED : Fld := ⟨.SEQn_STATUS, 1, 1⟩
def SEQn_STATUS_SESSION : Fld := ⟨.SEQn_STATUS, 0, 1⟩
def SEQn_EVENTS_SETUP_BLOCKED : Fld := ⟨.SEQn_EVENTS, 5, 1⟩
def SEQn_EVENTS_CTRL_IGNORED : Fld := ⟨.SEQn_EVENTS, 4, 1⟩
def SEQn_EVENTS_REDIRECT_IGNORED : Fld := ⟨.SEQn_EVENTS, 3, 1⟩
def SEQn_EVENTS_PAUSED : Fld := ⟨.SEQn_EVENTS, 2, 1⟩
def SEQn_EVENTS_OWN_REJECT : Fld := ⟨.SEQn_EVENTS, 1, 1⟩
def SEQn_EVENTS_OWN_DONE : Fld := ⟨.SEQn_EVENTS, 0, 1⟩
def SEQn_SPILL_0_BASE_LO : Fld := ⟨.SEQn_SPILL_0, 6, 26⟩
def SEQn_SPILL_1_BASE_HI : Fld := ⟨.SEQn_SPILL_1, 0, 5⟩
def SEQn_SESSION_STOP : Fld := ⟨.SEQn_SESSION, 2, 1⟩
def SEQn_SESSION_RESUME : Fld := ⟨.SEQn_SESSION, 1, 1⟩
def SEQn_SESSION_PAUSE : Fld := ⟨.SEQn_SESSION, 0, 1⟩
def SEQn_REDIRECT_0_INDEX : Fld := ⟨.SEQn_REDIRECT_0, 0, 18⟩
def SEQn_REDIRECT_1_BREAK : Fld := ⟨.SEQn_REDIRECT_1, 16, 1⟩
def SEQn_REDIRECT_1_SEG : Fld := ⟨.SEQn_REDIRECT_1, 0, 15⟩
def SEQn_PC_0_INDEX : Fld := ⟨.SEQn_PC_0, 0, 18⟩
def SEQn_PC_1_DEPTH : Fld := ⟨.SEQn_PC_1, 16, 16⟩
def SEQn_PC_1_SEG : Fld := ⟨.SEQn_PC_1, 0, 15⟩
def SEQn_DIRINIT_w_DRIVE : Fld := ⟨.SEQn_DIRINIT_w, 0, 32⟩
def SEQn_CHAIN_w_CHAIN : Fld := ⟨.SEQn_CHAIN_w, 0, 32⟩
def SEQn_SITE_EN_w_EN : Fld := ⟨.SEQn_SITE_EN_w, 0, 32⟩
def SEQn_SITE_FAIL_w_FAIL : Fld := ⟨.SEQn_SITE_FAIL_w, 0, 32⟩
def SEQn_SITE_ACTIVE_w_ACTIVE : Fld := ⟨.SEQn_SITE_ACTIVE_w, 0, 32⟩
def SEQn_OWN_LIVE_w_OWN : Fld := ⟨.SEQn_OWN_LIVE_w, 0, 32⟩
def SEQn_SITE_MAP_m_SITES : Fld := ⟨.SEQn_SITE_MAP_m, 0, 32⟩
def BOOT_UCODE_CTRL_LOCK : Fld := ⟨.BOOT_UCODE_CTRL, 0, 1⟩
def BOOT_UCODE_STATUS_RESULT : Fld := ⟨.BOOT_UCODE_STATUS, 28, 4⟩
def BOOT_UCODE_STATUS_ENTRIES : Fld := ⟨.BOOT_UCODE_STATUS, 22, 6⟩
def BOOT_UCODE_STATUS_WORDS : Fld := ⟨.BOOT_UCODE_STATUS, 0, 10⟩
def BOOT_UCODE_ROMREV_ROM_REV : Fld := ⟨.BOOT_UCODE_ROMREV, 0, 32⟩
def BOOT_UCODE_SVN_SVN : Fld := ⟨.BOOT_UCODE_SVN, 0, 32⟩
def BOOT_UCODE_ID_0_ID_LO : Fld := ⟨.BOOT_UCODE_ID_0, 0, 32⟩
def BOOT_UCODE_ID_1_ID_HI : Fld := ⟨.BOOT_UCODE_ID_1, 0, 32⟩
def BOOT_UCODE_ERR_CORRECTED : Fld := ⟨.BOOT_UCODE_ERR, 0, 16⟩
def BOOT_UCMATCH_n_EN : Fld := ⟨.BOOT_UCMATCH_n, 31, 1⟩
def BOOT_UCMATCH_n_ROM_ADDR : Fld := ⟨.BOOT_UCMATCH_n, 16, 14⟩
def BOOT_UCMATCH_n_PATCH_ADDR : Fld := ⟨.BOOT_UCMATCH_n, 0, 9⟩
def BOOT_UCCOST_n_FIXED_DELTA : Fld := ⟨.BOOT_UCCOST_n, 8, 8⟩
def BOOT_UCCOST_n_BEAT_DELTA : Fld := ⟨.BOOT_UCCOST_n, 0, 8⟩
def CAP_TRIG_VAL_w_VAL : Fld := ⟨.CAP_TRIG_VAL_w, 0, 32⟩
def CAP_TRIG_MASK_w_MASK : Fld := ⟨.CAP_TRIG_MASK_w, 0, 32⟩
def CAP_TRIG_CTRL_SITE_NUM : Fld := ⟨.CAP_TRIG_CTRL, 16, 8⟩
def CAP_TRIG_CTRL_SITE_EN : Fld := ⟨.CAP_TRIG_CTRL, 13, 1⟩
def CAP_TRIG_CTRL_CRIER_LEVEL : Fld := ⟨.CAP_TRIG_CTRL, 12, 1⟩
def CAP_TRIG_CTRL_CRIER_LINE : Fld := ⟨.CAP_TRIG_CTRL, 9, 3⟩
def CAP_TRIG_CTRL_CRIER_EN : Fld := ⟨.CAP_TRIG_CTRL, 8, 1⟩
def CAP_TRIG_CTRL_MARK_NUM : Fld := ⟨.CAP_TRIG_CTRL, 4, 4⟩
def CAP_TRIG_CTRL_MARK_EN : Fld := ⟨.CAP_TRIG_CTRL, 3, 1⟩
def CAP_TRIG_CTRL_ROUTED : Fld := ⟨.CAP_TRIG_CTRL, 2, 1⟩
def CAP_TRIG_CTRL_KIND : Fld := ⟨.CAP_TRIG_CTRL, 0, 2⟩
def CAP_STATUS_STATE : Fld := ⟨.CAP_STATUS, 2, 3⟩
def CAP_STATUS_CAPTURE_ON : Fld := ⟨.CAP_STATUS, 1, 1⟩
def CAP_STATUS_TRIGGERED : Fld := ⟨.CAP_STATUS, 0, 1⟩
def CAP_EVENTS_CHECK_FAIL : Fld := ⟨.CAP_EVENTS, 3, 1⟩
def CAP_EVENTS_SETUP_BLOCKED : Fld := ⟨.CAP_EVENTS, 2, 1⟩
def CAP_EVENTS_FULL : Fld := ⟨.CAP_EVENTS, 1, 1⟩
def CAP_EVENTS_TRIGGER : Fld := ⟨.CAP_EVENTS, 0, 1⟩
def CAP_GLITCH_FAIL_w_GLITCH_FAIL : Fld := ⟨.CAP_GLITCH_FAIL_w, 0, 32⟩
def CAP_CHECK_CNT_FAILS : Fld := ⟨.CAP_CHECK_CNT, 0, 16⟩
def LANEn_MODE_RATE : Fld := ⟨.LANEn_MODE, 16, 15⟩
def LANEn_MODE_TX_SRC : Fld := ⟨.LANEn_MODE, 6, 2⟩
def LANEn_MODE_DESCR : Fld := ⟨.LANEn_MODE, 5, 1⟩
def LANEn_MODE_CODING : Fld := ⟨.LANEn_MODE, 4, 1⟩
def LANEn_MODE_MODE : Fld := ⟨.LANEn_MODE, 0, 2⟩
def LANEn_EQ_CTLE : Fld := ⟨.LANEn_EQ, 27, 4⟩
def LANEn_EQ_TAP1 : Fld := ⟨.LANEn_EQ, 20, 7⟩
def LANEn_EQ_TAP2 : Fld := ⟨.LANEn_EQ, 15, 5⟩
def LANEn_EQ_TAP3 : Fld := ⟨.LANEn_EQ, 10, 5⟩
def LANEn_EQ_TAP4 : Fld := ⟨.LANEn_EQ, 5, 5⟩
def LANEn_EQ_TAP5 : Fld := ⟨.LANEn_EQ, 0, 5⟩
def LANEn_LOS_LOS_THRESH : Fld := ⟨.LANEn_LOS, 0, 8⟩
def LANEn_HUNT_HUNT_LIMIT : Fld := ⟨.LANEn_HUNT, 0, 16⟩
def LANEn_BIND_START : Fld := ⟨.LANEn_BIND, 10, 2⟩
def LANEn_BIND_CMP_SRC : Fld := ⟨.LANEn_BIND, 9, 1⟩
def LANEn_BIND_CMP_EN : Fld := ⟨.LANEn_BIND, 8, 1⟩
def LANEn_BIND_BOUND : Fld := ⟨.LANEn_BIND, 7, 1⟩
def LANEn_BIND_SEQ : Fld := ⟨.LANEn_BIND, 0, 5⟩
def LANEn_CMP_SEG_SEG : Fld := ⟨.LANEn_CMP_SEG, 0, 15⟩
def LANEn_CMP_FIRST_FIRST : Fld := ⟨.LANEn_CMP_FIRST, 0, 24⟩
def LANEn_CMP_COUNT_COUNT : Fld := ⟨.LANEn_CMP_COUNT, 0, 32⟩
def LANEn_MATCH_w_VALUE : Fld := ⟨.LANEn_MATCH_w, 0, 32⟩
def LANEn_MMASK_w_MASK : Fld := ⟨.LANEn_MMASK_w, 0, 32⟩
def LANEn_MATCH_HDR_EN : Fld := ⟨.LANEn_MATCH_HDR, 3, 1⟩
def LANEn_MATCH_HDR_HDR_CARE : Fld := ⟨.LANEn_MATCH_HDR, 2, 1⟩
def LANEn_MATCH_HDR_HDR : Fld := ⟨.LANEn_MATCH_HDR, 0, 2⟩
def LANEn_PMASK_w_PMASK : Fld := ⟨.LANEn_PMASK_w, 0, 32⟩
def LANEn_STATUS_CMP_RESULT : Fld := ⟨.LANEn_STATUS, 12, 4⟩
def LANEn_STATUS_STATE : Fld := ⟨.LANEn_STATUS, 3, 2⟩
def LANEn_STATUS_LOS : Fld := ⟨.LANEn_STATUS, 2, 1⟩
def LANEn_STATUS_BLOCK_LOCK : Fld := ⟨.LANEn_STATUS, 1, 1⟩
def LANEn_STATUS_CDR_LOCK : Fld := ⟨.LANEn_STATUS, 0, 1⟩
def LANEn_EVENTS_HUNT_SLOW : Fld := ⟨.LANEn_EVENTS, 8, 1⟩
def LANEn_EVENTS_SETUP_BLOCKED : Fld := ⟨.LANEn_EVENTS, 7, 1⟩
def LANEn_EVENTS_MODE_REJECT : Fld := ⟨.LANEn_EVENTS, 6, 1⟩
def LANEn_EVENTS_CMP_DONE : Fld := ⟨.LANEn_EVENTS, 5, 1⟩
def LANEn_EVENTS_MISMATCH : Fld := ⟨.LANEn_EVENTS, 4, 1⟩
def LANEn_EVENTS_MATCH : Fld := ⟨.LANEn_EVENTS, 3, 1⟩
def LANEn_EVENTS_LOS : Fld := ⟨.LANEn_EVENTS, 2, 1⟩
def LANEn_EVENTS_LOL : Fld := ⟨.LANEn_EVENTS, 1, 1⟩
def LANEn_EVENTS_LOCK : Fld := ⟨.LANEn_EVENTS, 0, 1⟩
def GSL_CTRL_REFORM : Fld := ⟨.GSL_CTRL, 1, 1⟩
def GSL_CTRL_ID_LOCK : Fld := ⟨.GSL_CTRL, 0, 1⟩
def GSL_DEVID_DEVID : Fld := ⟨.GSL_DEVID, 0, 12⟩
def GSL_STRAP_CANDIDATE : Fld := ⟨.GSL_STRAP, 6, 1⟩
def GSL_STRAP_POS : Fld := ⟨.GSL_STRAP, 0, 6⟩
def GSL_SERIAL_0_SERIAL_LO : Fld := ⟨.GSL_SERIAL_0, 0, 32⟩
def GSL_SERIAL_1_SERIAL_HI : Fld := ⟨.GSL_SERIAL_1, 0, 32⟩
def GSL_HALL_STATUS_JOINT_OK : Fld := ⟨.GSL_HALL_STATUS, 19, 1⟩
def GSL_HALL_STATUS_REF_FOREIGN : Fld := ⟨.GSL_HALL_STATUS, 18, 1⟩
def GSL_HALL_STATUS_IS_MASTER : Fld := ⟨.GSL_HALL_STATUS, 17, 1⟩
def GSL_HALL_STATUS_MASTER_POS : Fld := ⟨.GSL_HALL_STATUS, 11, 6⟩
def GSL_HALL_STATUS_SIZE : Fld := ⟨.GSL_HALL_STATUS, 4, 7⟩
def GSL_HALL_STATUS_STATE : Fld := ⟨.GSL_HALL_STATUS, 0, 3⟩
def GSL_HALL_EVENTS_HALL_BUSY : Fld := ⟨.GSL_HALL_EVENTS, 6, 1⟩
def GSL_HALL_EVENTS_TOPOLOGY : Fld := ⟨.GSL_HALL_EVENTS, 5, 1⟩
def GSL_HALL_EVENTS_DEVID_CONFLICT : Fld := ⟨.GSL_HALL_EVENTS, 4, 1⟩
def GSL_HALL_EVENTS_NO_MASTER : Fld := ⟨.GSL_HALL_EVENTS, 3, 1⟩
def GSL_HALL_EVENTS_MASTER_CHANGE : Fld := ⟨.GSL_HALL_EVENTS, 2, 1⟩
def GSL_HALL_EVENTS_HALL_LOST : Fld := ⟨.GSL_HALL_EVENTS, 1, 1⟩
def GSL_HALL_EVENTS_HALL_READY : Fld := ⟨.GSL_HALL_EVENTS, 0, 1⟩
def GSL_CORR_0_CORR_LO : Fld := ⟨.GSL_CORR_0, 0, 32⟩
def GSL_CORR_1_CORR_MID : Fld := ⟨.GSL_CORR_1, 0, 32⟩
def GSL_CORR_2_CORR_HI : Fld := ⟨.GSL_CORR_2, 0, 16⟩
def GSL_PORTn_CFG_ROLE : Fld := ⟨.GSL_PORTn_CFG, 0, 2⟩
def GSL_PORTn_ASYM_ASYM : Fld := ⟨.GSL_PORTn_ASYM, 0, 16⟩
def GSL_PORTn_STATUS_PEER_POS : Fld := ⟨.GSL_PORTn_STATUS, 9, 6⟩
def GSL_PORTn_STATUS_HELD : Fld := ⟨.GSL_PORTn_STATUS, 8, 1⟩
def GSL_PORTn_STATUS_LOS : Fld := ⟨.GSL_PORTn_STATUS, 7, 1⟩
def GSL_PORTn_STATUS_STATE : Fld := ⟨.GSL_PORTn_STATUS, 0, 3⟩
def GSL_PORTn_DELAY_DELAY : Fld := ⟨.GSL_PORTn_DELAY, 0, 20⟩
def GSL_PORTn_EVENTS_SETUP_BLOCKED : Fld := ⟨.GSL_PORTn_EVENTS, 3, 1⟩
def GSL_PORTn_EVENTS_DRIFT : Fld := ⟨.GSL_PORTn_EVENTS, 2, 1⟩
def GSL_PORTn_EVENTS_LINK_DOWN : Fld := ⟨.GSL_PORTn_EVENTS, 1, 1⟩
def GSL_PORTn_EVENTS_LINK_UP : Fld := ⟨.GSL_PORTn_EVENTS, 0, 1⟩
def CRIER_LAT_LAT : Fld := ⟨.CRIER_LAT, 0, 13⟩
def CRIER_COMMIT_COMMIT : Fld := ⟨.CRIER_COMMIT, 0, 1⟩
def CRIER_STATUS_RESULT : Fld := ⟨.CRIER_STATUS, 16, 2⟩
def CRIER_STATUS_LAT_SHORT : Fld := ⟨.CRIER_STATUS, 8, 8⟩
def CRIER_STATUS_LEVEL : Fld := ⟨.CRIER_STATUS, 0, 8⟩
def CRIER_EVENTS_REJECT : Fld := ⟨.CRIER_EVENTS, 8, 1⟩
def CRIER_EVENTS_SQUASHED : Fld := ⟨.CRIER_EVENTS, 0, 8⟩
def CRIER_SRC_n_EN : Fld := ⟨.CRIER_SRC_n, 6, 1⟩
def CRIER_SRC_n_POS : Fld := ⟨.CRIER_SRC_n, 0, 6⟩
def TALLY_STATUS_SSMS_BUSY : Fld := ⟨.TALLY_STATUS, 16, 4⟩
def TALLY_STATUS_GATE_LEVEL : Fld := ⟨.TALLY_STATUS, 12, 4⟩
def TALLY_STATUS_REFOUT_ON : Fld := ⟨.TALLY_STATUS, 3, 1⟩
def TALLY_STATUS_OCXO_PRESENT : Fld := ⟨.TALLY_STATUS, 2, 1⟩
def TALLY_STATUS_WARM : Fld := ⟨.TALLY_STATUS, 1, 1⟩
def TALLY_STATUS_OVEN_READY : Fld := ⟨.TALLY_STATUS, 0, 1⟩
def TALLY_EVENTS_GATE_FAST : Fld := ⟨.TALLY_EVENTS, 4, 4⟩
def TALLY_EVENTS_OVEN_HOLD : Fld := ⟨.TALLY_EVENTS, 3, 1⟩
def TALLY_EVENTS_OVEN_LOST : Fld := ⟨.TALLY_EVENTS, 2, 1⟩
def TALLY_EVENTS_OVEN_READY_SET : Fld := ⟨.TALLY_EVENTS, 1, 1⟩
def TALLY_EVENTS_SETUP_BLOCKED : Fld := ⟨.TALLY_EVENTS, 0, 1⟩
def TALLY_INn_CFG_HYS : Fld := ⟨.TALLY_INn_CFG, 16, 2⟩
def TALLY_INn_CFG_TERM : Fld := ⟨.TALLY_INn_CFG, 14, 1⟩
def TALLY_INn_CFG_THRESH : Fld := ⟨.TALLY_INn_CFG, 0, 14⟩
def TALLY_OVEN_CTRL_ENABLE : Fld := ⟨.TALLY_OVEN_CTRL, 31, 1⟩
def TALLY_OVEN_CTRL_POL : Fld := ⟨.TALLY_OVEN_CTRL, 12, 1⟩
def TALLY_OVEN_CTRL_HEAT_MAX : Fld := ⟨.TALLY_OVEN_CTRL, 0, 12⟩
def TALLY_OVEN_SET_SET : Fld := ⟨.TALLY_OVEN_SET, 0, 16⟩
def TALLY_OVEN_BAND_BAND : Fld := ⟨.TALLY_OVEN_BAND, 0, 16⟩
def TALLY_OVEN_GAIN_KI : Fld := ⟨.TALLY_OVEN_GAIN, 8, 8⟩
def TALLY_OVEN_GAIN_KP : Fld := ⟨.TALLY_OVEN_GAIN, 0, 8⟩
def TALLY_OVEN_STATUS_READING : Fld := ⟨.TALLY_OVEN_STATUS, 16, 16⟩
def TALLY_OVEN_STATUS_DUTY : Fld := ⟨.TALLY_OVEN_STATUS, 4, 12⟩
def TALLY_OVEN_STATUS_STATE : Fld := ⟨.TALLY_OVEN_STATUS, 0, 3⟩
def TALLY_OVEN_INBAND_SECONDS : Fld := ⟨.TALLY_OVEN_INBAND, 0, 8⟩
def TALLY_SSMS_STATUS_REPEATS : Fld := ⟨.TALLY_SSMS_STATUS, 16, 16⟩
def TALLY_SSMS_STATUS_STOPS : Fld := ⟨.TALLY_SSMS_STATUS, 8, 8⟩
def TALLY_SSMS_STATUS_ROW : Fld := ⟨.TALLY_SSMS_STATUS, 4, 2⟩
def TALLY_SSMS_STATUS_DONE : Fld := ⟨.TALLY_SSMS_STATUS, 1, 1⟩
def TALLY_SSMS_STATUS_BUSY : Fld := ⟨.TALLY_SSMS_STATUS, 0, 1⟩
def TALLY_MEAS_UNITS_HELD : Fld := ⟨.TALLY_MEAS_UNITS, 0, 16⟩
def TALLY_MEAS_EVENTS_RESULT_VOID : Fld := ⟨.TALLY_MEAS_EVENTS, 1, 1⟩
def TALLY_MEAS_EVENTS_ACC_OVERFLOW : Fld := ⟨.TALLY_MEAS_EVENTS, 0, 1⟩
def TALLY_MEAS_OVF_CNT_COUNT : Fld := ⟨.TALLY_MEAS_OVF_CNT, 0, 16⟩
def TALLY_SLOTn_CFG_ONCE : Fld := ⟨.TALLY_SLOTn_CFG, 31, 1⟩
def TALLY_SLOTn_CFG_ARM : Fld := ⟨.TALLY_SLOTn_CFG, 28, 3⟩
def TALLY_SLOTn_CFG_DISARM : Fld := ⟨.TALLY_SLOTn_CFG, 25, 3⟩
def TALLY_SLOTn_CFG_MARKERS : Fld := ⟨.TALLY_SLOTn_CFG, 22, 1⟩
def TALLY_SLOTn_CFG_TO_GRAPH : Fld := ⟨.TALLY_SLOTn_CFG, 21, 1⟩
def TALLY_SLOTn_CFG_TO_REGION : Fld := ⟨.TALLY_SLOTn_CFG, 20, 1⟩
def TALLY_SLOTn_CFG_SLOPE : Fld := ⟨.TALLY_SLOTn_CFG, 18, 2⟩
def TALLY_SLOTn_CFG_SOURCE : Fld := ⟨.TALLY_SLOTn_CFG, 0, 16⟩
def TALLY_SLOTn_ARMSEL_DISARM_LINE : Fld := ⟨.TALLY_SLOTn_ARMSEL, 8, 3⟩
def TALLY_SLOTn_ARMSEL_ARM_LINE : Fld := ⟨.TALLY_SLOTn_ARMSEL, 4, 3⟩
def TALLY_SLOTn_ARMSEL_GATE : Fld := ⟨.TALLY_SLOTn_ARMSEL, 0, 2⟩
def TALLY_SLOTn_HOLD_H : Fld := ⟨.TALLY_SLOTn_HOLD, 0, 32⟩
def TALLY_SLOTn_SUST_HS : Fld := ⟨.TALLY_SLOTn_SUST, 0, 32⟩
def TALLY_SLOTn_BURST_B : Fld := ⟨.TALLY_SLOTn_BURST, 0, 7⟩
def TALLY_SLOTn_NSTAMP_NSTAMP : Fld := ⟨.TALLY_SLOTn_NSTAMP, 0, 32⟩
def TALLY_SLOTn_DUR_0_DUR_LO : Fld := ⟨.TALLY_SLOTn_DUR_0, 0, 32⟩
def TALLY_SLOTn_DUR_1_DUR_HI : Fld := ⟨.TALLY_SLOTn_DUR_1, 0, 32⟩
def TALLY_SLOTn_STATUS_ARMED : Fld := ⟨.TALLY_SLOTn_STATUS, 1, 1⟩
def TALLY_SLOTn_STATUS_IN_WATCH : Fld := ⟨.TALLY_SLOTn_STATUS, 0, 1⟩
def TALLY_SLOTn_EVENTS_HELD : Fld := ⟨.TALLY_SLOTn_EVENTS, 1, 1⟩
def TALLY_SLOTn_EVENTS_SETUP_BLOCKED : Fld := ⟨.TALLY_SLOTn_EVENTS, 0, 1⟩
def TALLY_SLOTn_COUNT_0_COUNT_LO : Fld := ⟨.TALLY_SLOTn_COUNT_0, 0, 32⟩
def TALLY_SLOTn_COUNT_1_COUNT_HI : Fld := ⟨.TALLY_SLOTn_COUNT_1, 0, 32⟩
def STALL_HOST_STATUS_DL_UP : Fld := ⟨.STALL_HOST_STATUS, 31, 1⟩
def STALL_HOST_STATUS_FLIT : Fld := ⟨.STALL_HOST_STATUS, 30, 1⟩
def STALL_HOST_STATUS_SPEED : Fld := ⟨.STALL_HOST_STATUS, 27, 3⟩
def STALL_HOST_STATUS_WIDTH : Fld := ⟨.STALL_HOST_STATUS, 22, 5⟩
def STALL_HOST_STATUS_RATE : Fld := ⟨.STALL_HOST_STATUS, 0, 11⟩
def STALL_HOST_EVENTS_FLR_DONE : Fld := ⟨.STALL_HOST_EVENTS, 6, 1⟩
def STALL_HOST_EVENTS_VF_REJECT : Fld := ⟨.STALL_HOST_EVENTS, 5, 1⟩
def STALL_HOST_EVENTS_CPL_ERROR : Fld := ⟨.STALL_HOST_EVENTS, 4, 1⟩
def STALL_HOST_EVENTS_CPL_TIMEOUT : Fld := ⟨.STALL_HOST_EVENTS, 3, 1⟩
def STALL_HOST_EVENTS_RATE_DROP : Fld := ⟨.STALL_HOST_EVENTS, 2, 1⟩
def STALL_HOST_EVENTS_LINK_DOWN : Fld := ⟨.STALL_HOST_EVENTS, 1, 1⟩
def STALL_HOST_EVENTS_LINK_UP : Fld := ⟨.STALL_HOST_EVENTS, 0, 1⟩
def STALL_HOST_CTO_CTO : Fld := ⟨.STALL_HOST_CTO, 0, 10⟩
def STALL_HOST_TAGS_IN_USE : Fld := ⟨.STALL_HOST_TAGS, 16, 16⟩
def STALL_HOST_TAGS_LIMIT : Fld := ⟨.STALL_HOST_TAGS, 0, 16⟩
def STALL_HOST_BAR4_BASE_BASE : Fld := ⟨.STALL_HOST_BAR4_BASE, 0, 9⟩
def STALL_HOST_FLR_FN : Fld := ⟨.STALL_HOST_FLR, 26, 6⟩
def STALL_HOST_FLR_VOIDED : Fld := ⟨.STALL_HOST_FLR, 13, 13⟩
def STALL_HOST_FLR_WITHDRAWN : Fld := ⟨.STALL_HOST_FLR, 0, 13⟩
def STALL_FN_CTRL_LOCK : Fld := ⟨.STALL_FN_CTRL, 0, 1⟩
def STALL_FN_MAP_m_FN3 : Fld := ⟨.STALL_FN_MAP_m, 24, 8⟩
def STALL_FN_MAP_m_FN2 : Fld := ⟨.STALL_FN_MAP_m, 16, 8⟩
def STALL_FN_MAP_m_FN1 : Fld := ⟨.STALL_FN_MAP_m, 8, 8⟩
def STALL_FN_MAP_m_FN0 : Fld := ⟨.STALL_FN_MAP_m, 0, 8⟩
def STALL_POLL_IDLE : Fld := ⟨.STALL_POLL, 16, 16⟩
def STALL_POLL_POLL : Fld := ⟨.STALL_POLL, 0, 10⟩
def STALL_WATCH_LAGGING : Fld := ⟨.STALL_WATCH, 31, 1⟩
def STALL_WATCH_AWAKE : Fld := ⟨.STALL_WATCH, 16, 13⟩
def STALL_WATCH_LINES : Fld := ⟨.STALL_WATCH, 0, 10⟩
def STALL_WATCH_EVENTS_LAGGING : Fld := ⟨.STALL_WATCH_EVENTS, 0, 1⟩
def STALL_GRANT_n_SEQ : Fld := ⟨.STALL_GRANT_n, 0, 32⟩
def STALL_WAKE_STALL : Fld := ⟨.STALL_WAKE, 0, 12⟩
def STALL_CTL_CLOSE : Fld := ⟨.STALL_CTL, 12, 1⟩
def STALL_CTL_STALL : Fld := ⟨.STALL_CTL, 0, 12⟩
def STALL_CTL_STATUS_RESULT : Fld := ⟨.STALL_CTL_STATUS, 16, 4⟩
def STALL_CTL_STATUS_STALL : Fld := ⟨.STALL_CTL_STATUS, 0, 12⟩
def STALL_EVENTS_BASE_BLOCKED : Fld := ⟨.STALL_EVENTS, 4, 1⟩
def STALL_EVENTS_WAKE_IGNORED : Fld := ⟨.STALL_EVENTS, 3, 1⟩
def STALL_EVENTS_HALTED : Fld := ⟨.STALL_EVENTS, 2, 1⟩
def STALL_EVENTS_CTL_REJECT : Fld := ⟨.STALL_EVENTS, 1, 1⟩
def STALL_EVENTS_CTL_DONE : Fld := ⟨.STALL_EVENTS, 0, 1⟩
def STALL_HALT_INFO_REASON : Fld := ⟨.STALL_HALT_INFO, 16, 4⟩
def STALL_HALT_INFO_STALL : Fld := ⟨.STALL_HALT_INFO, 0, 12⟩
def STALL_DB_BASE_0_ADDR_LO : Fld := ⟨.STALL_DB_BASE_0, 12, 20⟩
def STALL_DB_BASE_1_ADDR_HI : Fld := ⟨.STALL_DB_BASE_1, 0, 20⟩
def STALL_TABLE_BASE_0_ADDR_LO : Fld := ⟨.STALL_TABLE_BASE_0, 12, 20⟩
def STALL_TABLE_BASE_1_ADDR_HI : Fld := ⟨.STALL_TABLE_BASE_1, 0, 20⟩
def TOLL_STATUS_PACE : Fld := ⟨.TOLL_STATUS, 16, 16⟩
def TOLL_STATUS_HOLD : Fld := ⟨.TOLL_STATUS, 15, 1⟩
def TOLL_STATUS_DELAYED : Fld := ⟨.TOLL_STATUS, 0, 13⟩
def TOLL_EVENTS_LIST_FULL : Fld := ⟨.TOLL_EVENTS, 3, 1⟩
def TOLL_EVENTS_LATE : Fld := ⟨.TOLL_EVENTS, 2, 1⟩
def TOLL_EVENTS_DEFERRED : Fld := ⟨.TOLL_EVENTS, 1, 1⟩
def TOLL_EVENTS_REFUSED : Fld := ⟨.TOLL_EVENTS, 0, 1⟩
def TOLL_REFRESH_TREFI : Fld := ⟨.TOLL_REFRESH, 16, 16⟩
def TOLL_REFRESH_TRFC : Fld := ⟨.TOLL_REFRESH, 0, 16⟩
def TOLL_STACKn_RES_RES : Fld := ⟨.TOLL_STACKn_RES, 0, 16⟩
def TOLL_INTERIOR_LOAD : Fld := ⟨.TOLL_INTERIOR, 0, 16⟩
def AWN_SUPPLY_PEAK_W : Fld := ⟨.AWN_SUPPLY, 16, 16⟩
def AWN_SUPPLY_MEAN_W : Fld := ⟨.AWN_SUPPLY, 0, 16⟩
def AWN_COOLANT_TEMP : Fld := ⟨.AWN_COOLANT, 0, 16⟩
def AWN_GUARD_GUARD : Fld := ⟨.AWN_GUARD, 0, 8⟩
def AWN_BASE_BASE : Fld := ⟨.AWN_BASE, 0, 16⟩
def AWN_SPLIT_DRAM : Fld := ⟨.AWN_SPLIT, 16, 8⟩
def AWN_SPLIT_PE : Fld := ⟨.AWN_SPLIT, 8, 8⟩
def AWN_SPLIT_CORE : Fld := ⟨.AWN_SPLIT, 0, 8⟩
def AWN_RES_n_RES : Fld := ⟨.AWN_RES_n, 0, 16⟩
def AWN_CAP_n_CAP : Fld := ⟨.AWN_CAP_n, 0, 16⟩
def AWN_TEMP_n_TEMP : Fld := ⟨.AWN_TEMP_n, 0, 16⟩
def AWN_HEADROOM_HEADROOM : Fld := ⟨.AWN_HEADROOM, 0, 16⟩
def AWN_EVENTS_SENSOR_ABOVE : Fld := ⟨.AWN_EVENTS, 1, 1⟩
def AWN_EVENTS_LIMIT_WRITE : Fld := ⟨.AWN_EVENTS, 0, 1⟩
def TOLL_SCHED_STATUS_RUNNING : Fld := ⟨.TOLL_SCHED_STATUS, 26, 6⟩
def TOLL_SCHED_STATUS_GRAPHS : Fld := ⟨.TOLL_SCHED_STATUS, 21, 5⟩
def TOLL_SCHED_STATUS_DELAYED : Fld := ⟨.TOLL_SCHED_STATUS, 0, 13⟩
def TOLL_SCHED_EVENTS_POOL_REJECT : Fld := ⟨.TOLL_SCHED_EVENTS, 4, 1⟩
def TOLL_SCHED_EVENTS_LOCKOUT : Fld := ⟨.TOLL_SCHED_EVENTS, 3, 1⟩
def TOLL_SCHED_EVENTS_MIGRATED : Fld := ⟨.TOLL_SCHED_EVENTS, 2, 1⟩
def TOLL_SCHED_EVENTS_SHED : Fld := ⟨.TOLL_SCHED_EVENTS, 1, 1⟩
def TOLL_SCHED_EVENTS_QUEUE_FULL : Fld := ⟨.TOLL_SCHED_EVENTS, 0, 1⟩
def TOLL_SCHED_CHARGE_P_GU : Fld := ⟨.TOLL_SCHED_CHARGE, 16, 16⟩
def TOLL_SCHED_CHARGE_P_CORE : Fld := ⟨.TOLL_SCHED_CHARGE, 0, 16⟩
def TOLL_SCHED_GQDEPTH_DEPTH : Fld := ⟨.TOLL_SCHED_GQDEPTH, 0, 11⟩
def TOLL_SCHED_QDEPTH_n_DEPTH : Fld := ⟨.TOLL_SCHED_QDEPTH_n, 0, 13⟩
def TOLL_SCHED_POOL_CORES : Fld := ⟨.TOLL_SCHED_POOL, 0, 32⟩
def TOLL_SCHED_BUSY_CORES : Fld := ⟨.TOLL_SCHED_BUSY, 0, 32⟩
def TOLL_SCHED_GBUSY_UNITS : Fld := ⟨.TOLL_SCHED_GBUSY, 0, 16⟩
def TOLL_SCHED_LOCKOUT_CORES : Fld := ⟨.TOLL_SCHED_LOCKOUT, 0, 32⟩
def TOLL_SCHED_COH_RACES : Fld := ⟨.TOLL_SCHED_COH, 0, 16⟩
def MBX_BIND_CTRL_LOCK : Fld := ⟨.MBX_BIND_CTRL, 0, 1⟩
def MBX_SHn_TX_ID_ID : Fld := ⟨.MBX_SHn_TX_ID, 0, 32⟩
def MBX_SHn_RX_ID_ID : Fld := ⟨.MBX_SHn_RX_ID, 0, 32⟩
def EVR_EVENTS_SETUP_BLOCKED : Fld := ⟨.EVR_EVENTS, 1, 1⟩
def EVR_EVENTS_ROUTE_REJECT : Fld := ⟨.EVR_EVENTS, 0, 1⟩
def EVR_MERGED_CNT_COUNT : Fld := ⟨.EVR_MERGED_CNT, 0, 16⟩
def EVR_ROUTEn_0_EN : Fld := ⟨.EVR_ROUTEn_0, 31, 1⟩
def EVR_ROUTEn_0_POL : Fld := ⟨.EVR_ROUTEn_0, 29, 2⟩
def EVR_ROUTEn_0_ACTION : Fld := ⟨.EVR_ROUTEn_0, 27, 2⟩
def EVR_ROUTEn_0_SOURCE : Fld := ⟨.EVR_ROUTEn_0, 16, 11⟩
def EVR_ROUTEn_0_DEST : Fld := ⟨.EVR_ROUTEn_0, 0, 9⟩
def EVR_ROUTEn_1_MARK_MASK : Fld := ⟨.EVR_ROUTEn_1, 16, 16⟩
def EVR_ROUTEn_2_FUNC : Fld := ⟨.EVR_ROUTEn_2, 16, 6⟩
def EVR_ROUTEn_2_VECTOR : Fld := ⟨.EVR_ROUTEn_2, 0, 11⟩
def MBX_EVENTS_BIND_VIOLATION : Fld := ⟨.MBX_EVENTS, 0, 1⟩
def MBX_PRIV_FULL_m_FULL : Fld := ⟨.MBX_PRIV_FULL_m, 0, 32⟩
def MBX_PORTp_SEL_STALL : Fld := ⟨.MBX_PORTp_SEL, 0, 12⟩
def MBX_PORTp_STATUS_VALID : Fld := ⟨.MBX_PORTp_STATUS, 12, 1⟩
def MBX_PORTp_STATUS_STALL : Fld := ⟨.MBX_PORTp_STATUS, 0, 12⟩
def MBX_PORTp_DATA_w_DATA : Fld := ⟨.MBX_PORTp_DATA_w, 0, 32⟩
def MBX_SHn_TXBUF_w_DATA : Fld := ⟨.MBX_SHn_TXBUF_w, 0, 32⟩
def MBX_SHn_SEND_SENT : Fld := ⟨.MBX_SHn_SEND, 0, 1⟩
def MBX_SHn_RXBUF_w_DATA : Fld := ⟨.MBX_SHn_RXBUF_w, 0, 32⟩
def MBX_SHn_STATUS_FULL : Fld := ⟨.MBX_SHn_STATUS, 0, 1⟩
def BOOT_WDT_RESTART_KEY : Fld := ⟨.BOOT_WDT_RESTART, 0, 32⟩
def DRAM_ILV_STAGE_GRAIN_LOG2 : Fld := ⟨.DRAM_ILV_STAGE, 0, 5⟩
def DRAM_ILV_CH_STAGE_w_CH : Fld := ⟨.DRAM_ILV_CH_STAGE_w, 0, 32⟩
def DRAM_ILV_COMMIT_COMMIT : Fld := ⟨.DRAM_ILV_COMMIT, 0, 1⟩
def DRAM_ILV_STATUS_PENDING : Fld := ⟨.DRAM_ILV_STATUS, 31, 1⟩
def DRAM_ILV_STATUS_RESULT : Fld := ⟨.DRAM_ILV_STATUS, 24, 4⟩
def DRAM_ILV_STATUS_NEXT_GRAIN : Fld := ⟨.DRAM_ILV_STATUS, 16, 5⟩
def DRAM_ILV_STATUS_LIVE_GRAIN : Fld := ⟨.DRAM_ILV_STATUS, 8, 5⟩
def DRAM_ILV_STATUS_LIVE_CHANNELS : Fld := ⟨.DRAM_ILV_STATUS, 0, 7⟩
def DRAM_ILV_NEXT_w_CH : Fld := ⟨.DRAM_ILV_NEXT_w, 0, 32⟩
def DRAM_ILV_LIVE_w_CH : Fld := ⟨.DRAM_ILV_LIVE_w, 0, 32⟩
def DRAM_SIZE_MIB : Fld := ⟨.DRAM_SIZE, 0, 17⟩
def DRAM_STATUS_SREF : Fld := ⟨.DRAM_STATUS, 28, 4⟩
def DRAM_STATUS_POSTPONED : Fld := ⟨.DRAM_STATUS, 24, 4⟩
def DRAM_STATUS_OWED : Fld := ⟨.DRAM_STATUS, 0, 16⟩
def DRAM_EVENTS_TEMP_RANGE : Fld := ⟨.DRAM_EVENTS, 4, 1⟩
def DRAM_EVENTS_SCRUB_UNCORR : Fld := ⟨.DRAM_EVENTS, 3, 1⟩
def DRAM_EVENTS_ECC_UNCORR : Fld := ⟨.DRAM_EVENTS, 2, 1⟩
def DRAM_EVENTS_ECC_CORR : Fld := ⟨.DRAM_EVENTS, 1, 1⟩
def DRAM_EVENTS_ILV_REJECT : Fld := ⟨.DRAM_EVENTS, 0, 1⟩
def DRAM_ECC_CNT_CORRECTED : Fld := ⟨.DRAM_ECC_CNT, 0, 16⟩
def DRAM_ECC_ADDR_0_ADDR_LO : Fld := ⟨.DRAM_ECC_ADDR_0, 6, 26⟩
def DRAM_ECC_ADDR_1_ADDR_HI : Fld := ⟨.DRAM_ECC_ADDR_1, 0, 5⟩
def DRAM_SREF_T_XS : Fld := ⟨.DRAM_SREF, 16, 16⟩
def DRAM_SREF_T_SRT : Fld := ⟨.DRAM_SREF, 0, 16⟩
def DRAM_PHY_CTRL_LOCK : Fld := ⟨.DRAM_PHY_CTRL, 0, 1⟩
def DRAM_PHYn_w_DLY3 : Fld := ⟨.DRAM_PHYn_w, 24, 8⟩
def DRAM_PHYn_w_DLY2 : Fld := ⟨.DRAM_PHYn_w, 16, 8⟩
def DRAM_PHYn_w_DLY1 : Fld := ⟨.DRAM_PHYn_w, 8, 8⟩
def DRAM_PHYn_w_DLY0 : Fld := ⟨.DRAM_PHYn_w, 0, 8⟩
def ARB_CLASS_m_CLASS : Fld := ⟨.ARB_CLASS_m, 0, 32⟩
def ARB_CHn_STATUS_FULL : Fld := ⟨.ARB_CHn_STATUS, 31, 1⟩
def ARB_CHn_STATUS_MAPPED : Fld := ⟨.ARB_CHn_STATUS, 0, 8⟩
def ARB_DEAD_CNT_DEAD : Fld := ⟨.ARB_DEAD_CNT, 0, 16⟩
def TIME_NOW_0_NOW_LO : Fld := ⟨.TIME_NOW_0, 0, 32⟩
def TIME_NOW_1_NOW_MID : Fld := ⟨.TIME_NOW_1, 0, 32⟩
def TIME_NOW_2_NOW_HI : Fld := ⟨.TIME_NOW_2, 0, 16⟩
def TIME_FR_0_FR : Fld := ⟨.TIME_FR_0, 0, 32⟩
def TIME_FR_1_FR : Fld := ⟨.TIME_FR_1, 0, 32⟩
def TIME_FR_2_FR : Fld := ⟨.TIME_FR_2, 0, 16⟩
def TIME_OFFSET_0_OFFSET : Fld := ⟨.TIME_OFFSET_0, 0, 32⟩
def TIME_OFFSET_1_OFFSET : Fld := ⟨.TIME_OFFSET_1, 0, 32⟩
def TIME_OFFSET_2_OFFSET : Fld := ⟨.TIME_OFFSET_2, 0, 32⟩
def TIME_RATE_0_RATE : Fld := ⟨.TIME_RATE_0, 0, 32⟩
def TIME_RATE_1_RATE : Fld := ⟨.TIME_RATE_1, 0, 8⟩
def TIME_CAL_0_YEAR : Fld := ⟨.TIME_CAL_0, 23, 9⟩
def TIME_CAL_0_MONTH : Fld := ⟨.TIME_CAL_0, 19, 4⟩
def TIME_CAL_0_DAY : Fld := ⟨.TIME_CAL_0, 14, 5⟩
def TIME_CAL_0_HOUR : Fld := ⟨.TIME_CAL_0, 9, 5⟩
def TIME_CAL_0_MINUTE : Fld := ⟨.TIME_CAL_0, 3, 6⟩
def TIME_CAL_0_WEEKDAY : Fld := ⟨.TIME_CAL_0, 0, 3⟩
def TIME_CAL_1_VALID : Fld := ⟨.TIME_CAL_1, 31, 1⟩
def TIME_CAL_1_SECOND : Fld := ⟨.TIME_CAL_1, 25, 6⟩
def TIME_CAL_1_MICRO : Fld := ⟨.TIME_CAL_1, 5, 20⟩
def TIME_STEP_0_STEP : Fld := ⟨.TIME_STEP_0, 0, 32⟩
def TIME_STEP_1_STEP : Fld := ⟨.TIME_STEP_1, 0, 32⟩
def TIME_STEP_2_STEP : Fld := ⟨.TIME_STEP_2, 0, 32⟩
def TIME_RATE_STAGE_0_RATE : Fld := ⟨.TIME_RATE_STAGE_0, 0, 32⟩
def TIME_RATE_STAGE_1_RATE : Fld := ⟨.TIME_RATE_STAGE_1, 0, 8⟩
def TIME_CALSET_0_YEAR : Fld := ⟨.TIME_CALSET_0, 23, 9⟩
def TIME_CALSET_0_MONTH : Fld := ⟨.TIME_CALSET_0, 19, 4⟩
def TIME_CALSET_0_DAY : Fld := ⟨.TIME_CALSET_0, 14, 5⟩
def TIME_CALSET_0_HOUR : Fld := ⟨.TIME_CALSET_0, 9, 5⟩
def TIME_CALSET_0_MINUTE : Fld := ⟨.TIME_CALSET_0, 3, 6⟩
def TIME_CALSET_1_SECOND : Fld := ⟨.TIME_CALSET_1, 25, 6⟩
def TIME_CALSET_1_MICRO : Fld := ⟨.TIME_CALSET_1, 5, 20⟩
def TIME_CMD_CAL : Fld := ⟨.TIME_CMD, 2, 1⟩
def TIME_CMD_RATE : Fld := ⟨.TIME_CMD, 1, 1⟩
def TIME_CMD_STEP : Fld := ⟨.TIME_CMD, 0, 1⟩
def TIME_UTC_UTC_OFFSET : Fld := ⟨.TIME_UTC, 0, 16⟩
def TIME_STATUS_GEN : Fld := ⟨.TIME_STATUS, 16, 16⟩
def TIME_STATUS_MEMBER : Fld := ⟨.TIME_STATUS, 2, 1⟩
def TIME_STATUS_LOST : Fld := ⟨.TIME_STATUS, 1, 1⟩
def TIME_STATUS_COARSE : Fld := ⟨.TIME_STATUS, 0, 1⟩
def TIME_EVENTS_SETUP_BLOCKED : Fld := ⟨.TIME_EVENTS, 3, 1⟩
def TIME_EVENTS_RANGE : Fld := ⟨.TIME_EVENTS, 2, 1⟩
def TIME_EVENTS_CMD_IGNORED : Fld := ⟨.TIME_EVENTS, 1, 1⟩
def TIME_EVENTS_DATE_INVALID : Fld := ⟨.TIME_EVENTS, 0, 1⟩
def TIME_BACKUP_0_COUNT : Fld := ⟨.TIME_BACKUP_0, 0, 32⟩
def TIME_BACKUP_1_TV : Fld := ⟨.TIME_BACKUP_1, 31, 1⟩
def TIME_BACKUP_1_COUNT : Fld := ⟨.TIME_BACKUP_1, 0, 24⟩
def PTP_SERVO_CTRL_EN : Fld := ⟨.PTP_SERVO_CTRL, 31, 1⟩
def PTP_SERVO_CTRL_HOLD_TIMEOUT : Fld := ⟨.PTP_SERVO_CTRL, 16, 8⟩
def PTP_SERVO_CTRL_LOCK_SLEW : Fld := ⟨.PTP_SERVO_CTRL, 0, 16⟩
def PTP_SERVO_GAIN_KI : Fld := ⟨.PTP_SERVO_GAIN, 16, 16⟩
def PTP_SERVO_GAIN_KP : Fld := ⟨.PTP_SERVO_GAIN, 0, 16⟩
def PTP_SERVO_THRESH_LOCK_THRESH : Fld := ⟨.PTP_SERVO_THRESH, 16, 16⟩
def PTP_SERVO_THRESH_STEP_THRESH : Fld := ⟨.PTP_SERVO_THRESH, 0, 16⟩
def PTP_SERVO_IN_0_THETA : Fld := ⟨.PTP_SERVO_IN_0, 0, 32⟩
def PTP_SERVO_IN_1_THETA : Fld := ⟨.PTP_SERVO_IN_1, 0, 32⟩
def PTP_SERVO_STATUS_STATE : Fld := ⟨.PTP_SERVO_STATUS, 0, 3⟩
def PTP_PORTn_CFG_FEC : Fld := ⟨.PTP_PORTn_CFG, 5, 1⟩
def PTP_PORTn_CFG_ONE_STEP : Fld := ⟨.PTP_PORTn_CFG, 4, 1⟩
def PTP_PORTn_CFG_TRANSPORT : Fld := ⟨.PTP_PORTn_CFG, 1, 3⟩
def PTP_PORTn_CFG_EN : Fld := ⟨.PTP_PORTn_CFG, 0, 1⟩
def PTP_PORTn_TXLAT_LAT : Fld := ⟨.PTP_PORTn_TXLAT, 0, 32⟩
def PTP_PORTn_RXLAT_LAT : Fld := ⟨.PTP_PORTn_RXLAT, 0, 32⟩
def PTP_PORTn_ASYM_ASYM : Fld := ⟨.PTP_PORTn_ASYM, 0, 32⟩
def PTP_PORTn_RXRING_0_BASE_LO : Fld := ⟨.PTP_PORTn_RXRING_0, 11, 21⟩
def PTP_PORTn_RXRING_1_SIZE_LOG2 : Fld := ⟨.PTP_PORTn_RXRING_1, 8, 4⟩
def PTP_PORTn_RXRING_1_BASE_HI : Fld := ⟨.PTP_PORTn_RXRING_1, 0, 5⟩
def PTP_PORTn_RXPROD_PROD : Fld := ⟨.PTP_PORTn_RXPROD, 0, 32⟩
def PTP_PORTn_RXCONS_CONS : Fld := ⟨.PTP_PORTn_RXCONS, 0, 32⟩
def PTP_PORTn_COUNTS_DROP : Fld := ⟨.PTP_PORTn_COUNTS, 16, 16⟩
def PTP_PORTn_COUNTS_OTHER : Fld := ⟨.PTP_PORTn_COUNTS, 0, 16⟩
def ADC_STATUS_STALLED : Fld := ⟨.ADC_STATUS, 16, 4⟩
def ADC_STATUS_VERIFYING : Fld := ⟨.ADC_STATUS, 8, 4⟩
def ADC_STATUS_POWERED : Fld := ⟨.ADC_STATUS, 0, 4⟩
def ADC_EVENTS_SELFCHECK : Fld := ⟨.ADC_EVENTS, 5, 1⟩
def ADC_EVENTS_VERIFY_FAIL : Fld := ⟨.ADC_EVENTS, 4, 1⟩
def ADC_EVENTS_ALARM : Fld := ⟨.ADC_EVENTS, 3, 1⟩
def ADC_EVENTS_RESTART : Fld := ⟨.ADC_EVENTS, 2, 1⟩
def ADC_EVENTS_QUEUE_STALLED : Fld := ⟨.ADC_EVENTS, 0, 1⟩
def ADC_VERIFY_INFO_DEV : Fld := ⟨.ADC_VERIFY_INFO, 16, 16⟩
def ADC_VERIFY_INFO_CH : Fld := ⟨.ADC_VERIFY_INFO, 0, 8⟩
def ADC_ALARM_TEMP_TEMP : Fld := ⟨.ADC_ALARM_TEMP, 0, 16⟩
def ADC_FAILED_w_FAILED : Fld := ⟨.ADC_FAILED_w, 0, 32⟩
def ADC_RQr_0_RESULT_LO : Fld := ⟨.ADC_RQr_0, 0, 32⟩
def ADC_RQr_1_RESULT_HI : Fld := ⟨.ADC_RQr_1, 0, 32⟩
def ADC_RQr_2_TAG_LO : Fld := ⟨.ADC_RQr_2, 0, 32⟩
def ADC_RQr_3_TAG_HI : Fld := ⟨.ADC_RQr_3, 0, 32⟩
def ADC_RQr_STATUS_OCCUPANCY : Fld := ⟨.ADC_RQr_STATUS, 16, 11⟩
def ADC_RQr_STATUS_DEPTH : Fld := ⟨.ADC_RQr_STATUS, 0, 11⟩
def ADC_MONn_0_RAIL_HI : Fld := ⟨.ADC_MONn_0, 16, 16⟩
def ADC_MONn_0_TEMP : Fld := ⟨.ADC_MONn_0, 0, 16⟩
def ADC_MONn_1_RAIL_A : Fld := ⟨.ADC_MONn_1, 16, 16⟩
def ADC_MONn_1_RAIL_LO : Fld := ⟨.ADC_MONn_1, 0, 16⟩
def ADC_RAIL_LIMIT_m_HI : Fld := ⟨.ADC_RAIL_LIMIT_m, 16, 16⟩
def ADC_RAIL_LIMIT_m_LO : Fld := ⟨.ADC_RAIL_LIMIT_m, 0, 16⟩
def CAL_STATUS_RESULT : Fld := ⟨.CAL_STATUS, 28, 4⟩
def CAL_STATUS_BUSY : Fld := ⟨.CAL_STATUS, 27, 1⟩
def CAL_STATUS_PROC : Fld := ⟨.CAL_STATUS, 24, 3⟩
def CAL_STATUS_ROWS : Fld := ⟨.CAL_STATUS, 20, 4⟩
def CAL_STATUS_FAIL_CH : Fld := ⟨.CAL_STATUS, 8, 8⟩
def CAL_STATUS_FAIL_FIELD : Fld := ⟨.CAL_STATUS, 0, 8⟩
def CAL_EVENTS_FACTORY_BAD : Fld := ⟨.CAL_EVENTS, 2, 1⟩
def CAL_EVENTS_REJECT : Fld := ⟨.CAL_EVENTS, 1, 1⟩
def CAL_EVENTS_COMMIT : Fld := ⟨.CAL_EVENTS, 0, 1⟩
def CAL_ORDER_0_STALL : Fld := ⟨.CAL_ORDER_0, 0, 12⟩
def CAL_ORDER_1_SEQ : Fld := ⟨.CAL_ORDER_1, 0, 32⟩
def CAL_FACT_ID_0_ID_LO : Fld := ⟨.CAL_FACT_ID_0, 0, 32⟩
def CAL_FACT_ID_1_ID_HI : Fld := ⟨.CAL_FACT_ID_1, 0, 32⟩
def CAL_USER_CRC_CRC : Fld := ⟨.CAL_USER_CRC, 0, 32⟩
def CAL_COMMITS_COUNT : Fld := ⟨.CAL_COMMITS, 0, 16⟩
def CAL_LINr_0_REFDLY : Fld := ⟨.CAL_LINr_0, 0, 32⟩
def CAL_LINr_1_TEMP : Fld := ⟨.CAL_LINr_1, 0, 16⟩
def CAL_FACT_RECORD : Fld := ⟨.CAL_FACT, 0, 32⟩
def CAL_USER_RECORD : Fld := ⟨.CAL_USER, 0, 32⟩
def FLT_STATUS_SAFE : Fld := ⟨.FLT_STATUS, 31, 1⟩
def FLT_STATUS_HANDLING : Fld := ⟨.FLT_STATUS, 30, 1⟩
def FLT_STATUS_FIRST_VALID : Fld := ⟨.FLT_STATUS, 29, 1⟩
def FLT_STATUS_OVERFLOW : Fld := ⟨.FLT_STATUS, 28, 1⟩
def FLT_STATUS_DUT_SAFE_N : Fld := ⟨.FLT_STATUS, 27, 1⟩
def FLT_STATUS_HOLD : Fld := ⟨.FLT_STATUS, 26, 1⟩
def FLT_STATUS_CLEAR_RESULT : Fld := ⟨.FLT_STATUS, 24, 2⟩
def FLT_STATUS_MERGED : Fld := ⟨.FLT_STATUS, 0, 8⟩
def FLT_EVENTS_DISABLE_IGNORED : Fld := ⟨.FLT_EVENTS, 5, 1⟩
def FLT_EVENTS_DISABLE_DONE : Fld := ⟨.FLT_EVENTS, 4, 1⟩
def FLT_EVENTS_SELFTEST_FAIL : Fld := ⟨.FLT_EVENTS, 3, 1⟩
def FLT_EVENTS_CLEAR_REJECT : Fld := ⟨.FLT_EVENTS, 2, 1⟩
def FLT_EVENTS_DIP : Fld := ⟨.FLT_EVENTS, 1, 1⟩
def FLT_EVENTS_FAULT : Fld := ⟨.FLT_EVENTS, 0, 1⟩
def FLT_FIRST_KIND : Fld := ⟨.FLT_FIRST, 28, 4⟩
def FLT_FIRST_CAUSE : Fld := ⟨.FLT_FIRST, 16, 12⟩
def FLT_FIRST_SOURCE : Fld := ⟨.FLT_FIRST, 0, 16⟩
def FLT_FIRST_TIME_0_TIME_LO : Fld := ⟨.FLT_FIRST_TIME_0, 0, 32⟩
def FLT_FIRST_TIME_1_TIME_MID : Fld := ⟨.FLT_FIRST_TIME_1, 0, 32⟩
def FLT_FIRST_TIME_2_ROUTED : Fld := ⟨.FLT_FIRST_TIME_2, 16, 11⟩
def FLT_FIRST_TIME_2_TIME_HI : Fld := ⟨.FLT_FIRST_TIME_2, 0, 16⟩
def FLT_LATER_LAST_SOURCE : Fld := ⟨.FLT_LATER, 16, 16⟩
def FLT_LATER_COUNT : Fld := ⟨.FLT_LATER, 0, 16⟩
def FLT_CLEAR_CLEAR : Fld := ⟨.FLT_CLEAR, 0, 1⟩
def FLT_DISABLE_FN : Fld := ⟨.FLT_DISABLE, 0, 6⟩
def FLT_DISABLE_STATUS_BUSY : Fld := ⟨.FLT_DISABLE_STATUS, 31, 1⟩
def FLT_DISABLE_STATUS_FN : Fld := ⟨.FLT_DISABLE_STATUS, 24, 6⟩
def FLT_DISABLE_STATUS_VOIDED : Fld := ⟨.FLT_DISABLE_STATUS, 12, 12⟩
def FLT_DISABLE_STATUS_WITHDRAWN : Fld := ⟨.FLT_DISABLE_STATUS, 0, 12⟩
def FLT_SUPPLY_WARN : Fld := ⟨.FLT_SUPPLY, 16, 5⟩
def FLT_SUPPLY_DIPPED : Fld := ⟨.FLT_SUPPLY, 0, 5⟩
def FLT_SELFTEST_FAIL : Fld := ⟨.FLT_SELFTEST, 0, 12⟩
def FLT_FUSE_INJECT_BLOWN : Fld := ⟨.FLT_FUSE, 0, 1⟩
def FLT_MIRROR_As_FLT_FIRST : Fld := ⟨.FLT_MIRROR, 0, 32⟩
def FLT_MIRROR_TIME_0_TIME_LO : Fld := ⟨.FLT_MIRROR_TIME_0, 0, 32⟩
def FLT_MIRROR_TIME_1_TIME_MID : Fld := ⟨.FLT_MIRROR_TIME_1, 0, 32⟩
def FLT_MIRROR_TIME_2_VALID : Fld := ⟨.FLT_MIRROR_TIME_2, 31, 1⟩
def FLT_MIRROR_TIME_2_ESCALATED : Fld := ⟨.FLT_MIRROR_TIME_2, 30, 1⟩
def FLT_MIRROR_TIME_2_TIME_HI : Fld := ⟨.FLT_MIRROR_TIME_2, 0, 16⟩
def FLT_MIRROR_ACK_ACK : Fld := ⟨.FLT_MIRROR_ACK, 0, 1⟩
def LEDG_STATUS_FULL : Fld := ⟨.LEDG_STATUS, 31, 1⟩
def LEDG_STATUS_WRITING : Fld := ⟨.LEDG_STATUS, 30, 1⟩
def LEDG_STATUS_WARN : Fld := ⟨.LEDG_STATUS, 29, 1⟩
def LEDG_STATUS_PENDING : Fld := ⟨.LEDG_STATUS, 0, 7⟩
def LEDG_EVENTS_CORRUPT : Fld := ⟨.LEDG_EVENTS, 3, 1⟩
def LEDG_EVENTS_TORN : Fld := ⟨.LEDG_EVENTS, 2, 1⟩
def LEDG_EVENTS_OVERRUN : Fld := ⟨.LEDG_EVENTS, 1, 1⟩
def LEDG_EVENTS_FULL : Fld := ⟨.LEDG_EVENTS, 0, 1⟩
def LEDG_NEXT_INDEX : Fld := ⟨.LEDG_NEXT, 0, 20⟩
def LEDG_FREE_RESERVED : Fld := ⟨.LEDG_FREE, 20, 8⟩
def LEDG_FREE_FREE : Fld := ⟨.LEDG_FREE, 0, 20⟩
def LEDG_UNRECORDED_COUNT : Fld := ⟨.LEDG_UNRECORDED, 0, 32⟩
def LEDG_LOST_COUNT : Fld := ⟨.LEDG_LOST, 0, 32⟩
def LEDG_READ_IDX_INDEX : Fld := ⟨.LEDG_READ_IDX, 0, 19⟩
def LEDG_READ_STATE_STATE : Fld := ⟨.LEDG_READ_STATE, 0, 2⟩
def LEDG_REC_w_DATA : Fld := ⟨.LEDG_REC_w, 0, 32⟩
def PWR_LTR_LTR : Fld := ⟨.PWR_LTR, 0, 32⟩
def PWR_POLICY_MAX_STATE : Fld := ⟨.PWR_POLICY, 0, 3⟩
def PWR_CTRL_P4_REQ : Fld := ⟨.PWR_CTRL, 0, 1⟩
def PWR_STATUS_STATE : Fld := ⟨.PWR_STATUS, 29, 3⟩
def PWR_STATUS_EXITING : Fld := ⟨.PWR_STATUS, 28, 1⟩
def PWR_STATUS_IDLE : Fld := ⟨.PWR_STATUS, 27, 1⟩
def PWR_STATUS_P4_PENDING : Fld := ⟨.PWR_STATUS, 26, 1⟩
def PWR_STATUS_BLOCK : Fld := ⟨.PWR_STATUS, 23, 3⟩
def PWR_EVENTS_ROW_BLOCKED : Fld := ⟨.PWR_EVENTS, 2, 1⟩
def PWR_EVENTS_P4_REJECT : Fld := ⟨.PWR_EVENTS, 1, 1⟩
def PWR_EVENTS_STATE_CHANGE : Fld := ⟨.PWR_EVENTS, 0, 1⟩
def PWR_DOMAINS_ON : Fld := ⟨.PWR_DOMAINS, 0, 20⟩
def PWR_ROW_OFF_OFF : Fld := ⟨.PWR_ROW_OFF, 0, 4⟩
def PWR_PACE_REQ : Fld := ⟨.PWR_PACE, 16, 2⟩
def PWR_PACE_READING : Fld := ⟨.PWR_PACE, 0, 16⟩
def PWR_VCORE_MIN_MV : Fld := ⟨.PWR_VCORE, 16, 16⟩
def PWR_VCORE_NOW_MV : Fld := ⟨.PWR_VCORE, 0, 16⟩
def PWR_WAKE_0_COUNT_LO : Fld := ⟨.PWR_WAKE_0, 0, 32⟩
def PWR_WAKE_1_EN : Fld := ⟨.PWR_WAKE_1, 31, 1⟩
def PWR_WAKE_1_COUNT_HI : Fld := ⟨.PWR_WAKE_1, 0, 24⟩
def PWR_ENERGY_n_ENERGY : Fld := ⟨.PWR_ENERGY_n, 0, 32⟩
def BOOT_STATUS_STAGE : Fld := ⟨.BOOT_STATUS, 28, 4⟩
def BOOT_STATUS_HALT : Fld := ⟨.BOOT_STATUS, 24, 4⟩
def BOOT_STATUS_FW_RESULT : Fld := ⟨.BOOT_STATUS, 20, 4⟩
def BOOT_STATUS_SOURCE : Fld := ⟨.BOOT_STATUS, 18, 2⟩
def BOOT_STATUS_WAIT_PUSH : Fld := ⟨.BOOT_STATUS, 17, 1⟩
def BOOT_STATUS_WAIT_REF : Fld := ⟨.BOOT_STATUS, 16, 1⟩
def BOOT_STATUS_PUSH_IGNORED : Fld := ⟨.BOOT_STATUS, 1, 1⟩
def BOOT_STATUS_PUSH_DONE : Fld := ⟨.BOOT_STATUS, 0, 1⟩
def BOOT_RESET_CAUSE_WDT_LOOP : Fld := ⟨.BOOT_RESET_CAUSE, 8, 8⟩
def BOOT_RESET_CAUSE_P4_EVENT : Fld := ⟨.BOOT_RESET_CAUSE, 4, 2⟩
def BOOT_RESET_CAUSE_CAUSE : Fld := ⟨.BOOT_RESET_CAUSE, 0, 4⟩
def BOOT_STRAP_BOOT_SRC : Fld := ⟨.BOOT_STRAP, 0, 2⟩
def BOOT_TIME_US : Fld := ⟨.BOOT_TIME, 0, 32⟩
def BOOT_COUNT_COUNT : Fld := ⟨.BOOT_COUNT, 0, 32⟩
def BOOT_FW_SVN_SVN : Fld := ⟨.BOOT_FW_SVN, 0, 32⟩
def BOOT_FW_ID_0_ID_LO : Fld := ⟨.BOOT_FW_ID_0, 0, 32⟩
def BOOT_FW_ID_1_ID_HI : Fld := ⟨.BOOT_FW_ID_1, 0, 32⟩
def BOOT_PUSH_0_ADDR_LO : Fld := ⟨.BOOT_PUSH_0, 6, 26⟩
def BOOT_PUSH_1_ADDR_HI : Fld := ⟨.BOOT_PUSH_1, 0, 20⟩
def BOOT_PUSH_LEN_LENGTH : Fld := ⟨.BOOT_PUSH_LEN, 0, 24⟩
def BOOT_PUSH_CMD_GO : Fld := ⟨.BOOT_PUSH_CMD, 0, 1⟩
def BOOT_WDT_RUNNING : Fld := ⟨.BOOT_WDT, 31, 1⟩
def BOOT_WDT_REMAIN_MS : Fld := ⟨.BOOT_WDT, 0, 16⟩

end F

end Sys2Proof.Machine
end

