-- ==== Sys2Proof/Config.lean ====
section
/-!
DEFINITION. What an implementation fixes and the spec does not state: each is an opaque constant, so that nothing can be proved
about its value. See the assumption log for each.
-/

namespace Sys2Proof.Config

/-- A value the spec leaves open, numbered by the free-value counter of State (log entry 4). -/
opaque freeValue : Nat → Nat

/-- ROM revision of the device (fuse; R192). -/
opaque romRev : BitVec 32

/-- Serial number of the device (fuse; R274). -/
opaque serial : BitVec 64

/-- The micro-engine's ROM: the 32-bit microword at each ROM address, which the spec does not publish (R172). -/
opaque romWord : Nat → BitVec 32

/-- Factory record words: channel, word (R527). -/
opaque factoryWord : Nat → Nat → BitVec 32

/-- FACTORY_ID (R527). -/
opaque factoryId : BitVec 64

/-- A corrected value lies within its hardware range, for a value that a correction moves (R56 RANGE): value of the list `targets`
(Pins), driver range, corrected value. The spec gives no such ranges (log entry 10). -/
opaque inHardwareRange : Nat → Nat → Int → Bool

/-- The set that SITEOP with operation code `op` makes of A and B (R175). The spec names no operations (log entry 13). -/
opaque siteOp : Nat → BitVec 256 → BitVec 256 → BitVec 256

/-- What a lane's transmitter starts its PRBS from, at each instant at which it starts, and the latency in UIs with which it retransmits in
LOOPBACK, which the spec bounds by 64 (R228; log entry 42). -/
opaque prbsStart : Nat → Nat → BitVec 31
opaque loopLatency : Nat → Nat

/-- The contents of a patch image that the boot ROM derives from its bytes: the plaintext that the device's patch key gives of CIPHERTEXT under
IV, whether TAG verifies over it and bytes 0 to 63, and whether SIG_R and SIG_S verify over bytes 0 to 2,319 with the key of KEY_SLOT (R185; log
entry 39). -/
opaque patchPlain : List (BitVec 8) → List (BitVec 8)
opaque patchTagOk : List (BitVec 8) → Bool
opaque patchSigOk : List (BitVec 8) → Bool

/-- The number of devices cabled in this device's ring (R246). The spec gives a device no way to find it (log entry 15). -/
opaque hallSize : Nat

/-- The ring position of the device whose REFOUT the board distributes as REFIN (R251; log entry 15). -/
opaque refSource : Nat

/-- The offset θ and the DELAY of a link that this device does not end on, by its DOWN end and the instant, and the latency with which the device at
a ring position forwards. The spec gives no message that carries them (R256, R262; log entry 15). -/
opaque linkTheta : Nat → Nat → Int
opaque linkDelay : Nat → Nat → Nat
opaque forwardLatency : Nat → Nat

/-- A register that boot firmware writes from the factory calibration area, by its BAR0 offset (R410, R467, R477, R524, R527, R594). -/
opaque factoryReg : Nat → BitVec 32

/-- Fuses: a revoked key slot; the least security version of device firmware and of a patch (R186, R607). -/
opaque keyRevoked : Nat → Bool
opaque minFwSvn : Nat
opaque minPatchSvn : Nat

/-- The Row reference value of the factory calibration area, in 0.5 mV (R520). -/
opaque rowReference : Nat → Int

/-- The factory calibration area marks a DRAM channel unusable (R465). -/
opaque channelBad : Nat → Bool

end Sys2Proof.Config
end

