-- ==== Sys2Proof/Machine/RegSpec.lean ====
section
/-!
DEFINITION. Where each register lies, its reset value and the access codes of its fields, as the spec's register tables give them.
A field whose reset value is 'boot' holds 0 until boot firmware writes it (R14); 'strap' and 'fuse' fields hold the values that log entry 3 names.
-/

namespace Sys2Proof.Machine

/-- The address space that holds a register (R8, R640, R453). `shared`: every function's BAR2 and the internal control space reach the same register. -/
inductive RegSpace where
  | bar0 | bar2 | shared | internal
  deriving DecidableEq, Repr

/-- Layout, reset value and access masks of a register family (R11). `dims` lists (stride, count) from the largest stride down. -/
structure RegSpec where
  space : RegSpace := .bar0
  base : Nat
  dims : List (Nat × Nat) := []
  reset : Nat := 0
  rw : Nat := 0
  w1c : Nat := 0
  wo : Nat := 0
  rwl : Nat := 0
  rc : Nat := 0
  deriving DecidableEq, Repr

/-- Offsets, reset values and access codes of every register family. Each line cites the rule that gives the fields. -/
def RegName.spec : RegName → RegSpec
  | .CHn_MODE => { base := 0x400000, dims := [(0x100, 256)], reset := 0x4040002, rw := 0x1F0731F3 } -- R69
  | .CHn_LEVEL_VIH => { base := 0x400004, dims := [(0x100, 256)], reset := 0x3334, rw := 0xFFFF } -- R70
  | .CHn_LEVEL_VIL => { base := 0x400008, dims := [(0x100, 256)], reset := 0x3000, rw := 0xFFFF } -- R70
  | .CHn_LEVEL_VOH => { base := 0x40000C, dims := [(0x100, 256)], reset := 0x3000, rw := 0xFFFF } -- R70
  | .CHn_LEVEL_VOL => { base := 0x400010, dims := [(0x100, 256)], reset := 0x3000, rw := 0xFFFF } -- R70
  | .CHn_LEVEL_VCOM => { base := 0x400014, dims := [(0x100, 256)], reset := 0x3000, rw := 0xFFFF } -- R70
  | .CHn_LOAD_IOH => { base := 0x400018, dims := [(0x100, 256)], rw := 0xFFFF } -- R70
  | .CHn_LOAD_IOL => { base := 0x40001C, dims := [(0x100, 256)], rw := 0xFFFF } -- R70
  | .CHn_CLAMP_HI => { base := 0x400020, dims := [(0x100, 256)], reset := 0xFFFF, rw := 0xFFFF } -- R70
  | .CHn_CLAMP_LO => { base := 0x400024, dims := [(0x100, 256)], rw := 0xFFFF } -- R70
  | .CHn_PMU_FORCE => { base := 0x400028, dims := [(0x100, 256)], reset := 0x3000, rw := 0xFFFF } -- R70
  | .CHn_PMU_VCLAMP => { base := 0x40002C, dims := [(0x100, 256)], reset := 0xFFFF0000, rw := 0xFFFFFFFF } -- R70
  | .CHn_PMU_ICLAMP => { base := 0x400030, dims := [(0x100, 256)], reset := 0x7FFF8000, rw := 0xFFFFFFFF } -- R70
  | .CHn_SLEW => { base := 0x400034, dims := [(0x100, 256)], reset := 0xA, rw := 0x3FF } -- R70
  | .CHn_LEVEL_COMMIT => { base := 0x400038, dims := [(0x100, 256)], wo := 0x1 } -- R71
  | .CHn_ENABLE => { base := 0x40003C, dims := [(0x100, 256)], rw := 0x7 } -- R71
  | .CHn_STATUS => { base := 0x400040, dims := [(0x100, 256)], reset := 0x20 } -- R71
  | .CHn_CMP_MON => { base := 0x400044, dims := [(0x100, 256)], w1c := 0xF } -- R71
  | .CHn_EVENTS => { base := 0x400048, dims := [(0x100, 256)], w1c := 0xFF } -- R71
  | .CHn_MODE_LIVE => { base := 0x400080, dims := [(0x100, 256)], reset := 0x4040002 } -- R68
  | .CHn_LEVEL_VIH_LIVE => { base := 0x400084, dims := [(0x100, 256)], reset := 0x3334 } -- R68
  | .CHn_LEVEL_VIL_LIVE => { base := 0x400088, dims := [(0x100, 256)], reset := 0x3000 } -- R68
  | .CHn_LEVEL_VOH_LIVE => { base := 0x40008C, dims := [(0x100, 256)], reset := 0x3000 } -- R68
  | .CHn_LEVEL_VOL_LIVE => { base := 0x400090, dims := [(0x100, 256)], reset := 0x3000 } -- R68
  | .CHn_LEVEL_VCOM_LIVE => { base := 0x400094, dims := [(0x100, 256)], reset := 0x3000 } -- R68
  | .CHn_LOAD_IOH_LIVE => { base := 0x400098, dims := [(0x100, 256)] } -- R68
  | .CHn_LOAD_IOL_LIVE => { base := 0x40009C, dims := [(0x100, 256)] } -- R68
  | .CHn_CLAMP_HI_LIVE => { base := 0x4000A0, dims := [(0x100, 256)], reset := 0xFFFF } -- R68
  | .CHn_CLAMP_LO_LIVE => { base := 0x4000A4, dims := [(0x100, 256)] } -- R68
  | .CHn_PMU_FORCE_LIVE => { base := 0x4000A8, dims := [(0x100, 256)], reset := 0x3000 } -- R68
  | .CHn_PMU_VCLAMP_LIVE => { base := 0x4000AC, dims := [(0x100, 256)], reset := 0xFFFF0000 } -- R68
  | .CHn_PMU_ICLAMP_LIVE => { base := 0x4000B0, dims := [(0x100, 256)], reset := 0x7FFF8000 } -- R68
  | .CHn_SLEW_LIVE => { base := 0x4000B4, dims := [(0x100, 256)], reset := 0xA } -- R68
  | .TSBANK_COMMIT_n => { base := 0x420000, dims := [(0x40, 32)], wo := 0x1 } -- R107
  | .TSBANK_STATUS_n => { base := 0x420004, dims := [(0x40, 32)], w1c := 0xE } -- R107
  | .TSBANK_CTIME_0_n => { base := 0x420008, dims := [(0x40, 32)] } -- R107
  | .TSBANK_CTIME_1_n => { base := 0x42000C, dims := [(0x40, 32)] } -- R107
  | .TSBANK_CTIME_2_n => { base := 0x420010, dims := [(0x40, 32)] } -- R107
  | .TSBANK_EPOCH_0_n => { base := 0x420014, dims := [(0x40, 32)] } -- R107
  | .TSBANK_EPOCH_1_n => { base := 0x420018, dims := [(0x40, 32)] } -- R107
  | .TSBANK_EPOCH_2_n => { base := 0x42001C, dims := [(0x40, 32)] } -- R107
  | .TSBANK_CYCLE_0_n => { base := 0x420020, dims := [(0x40, 32)] } -- R107
  | .TSBANK_CYCLE_1_n => { base := 0x420024, dims := [(0x40, 32)] } -- R107
  | .TSBANK_COMMIT_FREE => { base := 0x420800, wo := 0x1 } -- R107
  | .TSBANK_STATUS_FREE => { base := 0x420804, w1c := 0xE } -- R107
  | .TSBANK_REF => { base := 0x420808, w1c := 0x4 } -- R107
  | .TSBANK_STAGE => { base := 0x440000, dims := [(0x400, 256), (0x4, 256)], rw := 0xFFFFFFFF } -- R107
  | .TSBANK_LIVE => { base := 0x480000, dims := [(0x400, 256), (0x4, 256)] } -- R107
  | .DRAM_SEG_CTRL => { base := 0x580000, rwl := 0x1 } -- R128
  | .DRAM_SEG_FIRST => { base := 0x580004, rwl := 0x7FFF } -- R128
  | .DRAM_SEG_COUNT => { base := 0x580008, reset := 0x4000, rwl := 0x7FFF } -- R128
  | .DRAM_SEG_QUERY => { base := 0x58000C, rw := 0x7FFF } -- R128
  | .DRAM_SEG_STATE => { base := 0x580010 } -- R128
  | .DRAM_SEG_EVENTS => { base := 0x580014, w1c := 0x3 } -- R128
  | .SEQn_OWN_w => { base := 0x500000, dims := [(0x400, 32), (0x4, 8)], rw := 0xFFFFFFFF } -- R170
  | .SEQn_OWN_COMMIT => { base := 0x500020, dims := [(0x400, 32)], wo := 0x1 } -- R170
  | .SEQn_STATUS => { base := 0x500024, dims := [(0x400, 32)] } -- R170
  | .SEQn_EVENTS => { base := 0x500028, dims := [(0x400, 32)], w1c := 0x3F } -- R170
  | .SEQn_SPILL_0 => { base := 0x50002C, dims := [(0x400, 32)], rw := 0xFFFFFFC0 } -- R170
  | .SEQn_SPILL_1 => { base := 0x500030, dims := [(0x400, 32)], rw := 0x1F } -- R170
  | .SEQn_SESSION => { base := 0x500034, dims := [(0x400, 32)], wo := 0x7 } -- R170
  | .SEQn_REDIRECT_0 => { base := 0x500038, dims := [(0x400, 32)], rw := 0x3FFFF } -- R170
  | .SEQn_REDIRECT_1 => { base := 0x50003C, dims := [(0x400, 32)], rw := 0x17FFF } -- R170
  | .SEQn_PC_0 => { base := 0x500040, dims := [(0x400, 32)] } -- R170
  | .SEQn_PC_1 => { base := 0x500044, dims := [(0x400, 32)] } -- R170
  | .SEQn_DIRINIT_w => { base := 0x500060, dims := [(0x400, 32), (0x4, 8)], rw := 0xFFFFFFFF } -- R170
  | .SEQn_CHAIN_w => { base := 0x500080, dims := [(0x400, 32), (0x4, 8)], rw := 0xFFFFFFFF } -- R170
  | .SEQn_SITE_EN_w => { base := 0x5000A0, dims := [(0x400, 32), (0x4, 8)], reset := 0xFFFFFFFF, rw := 0xFFFFFFFF } -- R170
  | .SEQn_SITE_FAIL_w => { base := 0x5000C0, dims := [(0x400, 32), (0x4, 8)] } -- R170
  | .SEQn_SITE_ACTIVE_w => { base := 0x5000E0, dims := [(0x400, 32), (0x4, 8)] } -- R170
  | .SEQn_OWN_LIVE_w => { base := 0x500200, dims := [(0x400, 32), (0x4, 8)] } -- R170
  | .SEQn_SITE_MAP_m => { base := 0x500100, dims := [(0x400, 32), (0x4, 64)], rw := 0xFFFFFFFF } -- R170
  | .BOOT_UCODE_CTRL => { base := 0x510000, rwl := 0x1 } -- R192
  | .BOOT_UCODE_STATUS => { base := 0x510004 } -- R192
  | .BOOT_UCODE_ROMREV => { base := 0x510008 } -- R192
  | .BOOT_UCODE_SVN => { base := 0x51000C } -- R192
  | .BOOT_UCODE_ID_0 => { base := 0x510010 } -- R192
  | .BOOT_UCODE_ID_1 => { base := 0x510014 } -- R192
  | .BOOT_UCODE_ERR => { base := 0x510018, rc := 0xFFFF } -- R192
  | .BOOT_UCMATCH_n => { base := 0x510080, dims := [(0x4, 32)], rwl := 0xBFFF01FF } -- R192
  | .BOOT_UCCOST_n => { base := 0x510100, dims := [(0x4, 20)] } -- R192
  | .CAP_TRIG_VAL_w => { base := 0x540000, dims := [(0x100, 32), (0x4, 8)], rw := 0xFFFFFFFF } -- R217
  | .CAP_TRIG_MASK_w => { base := 0x540020, dims := [(0x100, 32), (0x4, 8)], rw := 0xFFFFFFFF } -- R217
  | .CAP_TRIG_CTRL => { base := 0x540040, dims := [(0x100, 32)], rw := 0xFF3FFF } -- R217
  | .CAP_STATUS => { base := 0x540080, dims := [(0x100, 32)] } -- R217
  | .CAP_EVENTS => { base := 0x540084, dims := [(0x100, 32)], w1c := 0xF } -- R217
  | .CAP_GLITCH_FAIL_w => { base := 0x544000, dims := [(0x4, 8)], reset := 0xFFFFFFFF, rw := 0xFFFFFFFF } -- R217
  | .CAP_CHECK_CNT => { base := 0x544020, rc := 0xFFFF } -- R217
  | .LANEn_MODE => { base := 0x560000, dims := [(0x80, 64)], reset := 0x64000080, rw := 0x7FFF00F3 } -- R244
  | .LANEn_EQ => { base := 0x560004, dims := [(0x80, 64)], rw := 0x7FFFFFFF } -- R244
  | .LANEn_LOS => { base := 0x560008, dims := [(0x80, 64)], reset := 0xA, rw := 0xFF } -- R244
  | .LANEn_HUNT => { base := 0x56000C, dims := [(0x80, 64)], reset := 0x10, rw := 0xFFFF } -- R244
  | .LANEn_BIND => { base := 0x560010, dims := [(0x80, 64)], rw := 0xF9F } -- R244
  | .LANEn_CMP_SEG => { base := 0x560014, dims := [(0x80, 64)], rw := 0x7FFF } -- R244
  | .LANEn_CMP_FIRST => { base := 0x560018, dims := [(0x80, 64)], rw := 0xFFFFFF } -- R244
  | .LANEn_CMP_COUNT => { base := 0x56001C, dims := [(0x80, 64)], rw := 0xFFFFFFFF } -- R244
  | .LANEn_MATCH_w => { base := 0x560020, dims := [(0x80, 64), (0x4, 4)], rw := 0xFFFFFFFF } -- R244
  | .LANEn_MMASK_w => { base := 0x560030, dims := [(0x80, 64), (0x4, 4)], rw := 0xFFFFFFFF } -- R244
  | .LANEn_MATCH_HDR => { base := 0x560040, dims := [(0x80, 64)], reset := 0x1, rw := 0xF } -- R244
  | .LANEn_PMASK_w => { base := 0x560044, dims := [(0x80, 64), (0x4, 4)], reset := 0xFFFFFFFF, rw := 0xFFFFFFFF } -- R244
  | .LANEn_STATUS => { base := 0x560054, dims := [(0x80, 64)] } -- R244
  | .LANEn_EVENTS => { base := 0x560058, dims := [(0x80, 64)], w1c := 0x1FF } -- R244
  | .GSL_CTRL => { base := 0x5A0000, wo := 0x2, rwl := 0x1 } -- R274
  | .GSL_DEVID => { base := 0x5A0004, rwl := 0xFFF } -- R274
  | .GSL_STRAP => { base := 0x5A0008 } -- R274
  | .GSL_SERIAL_0 => { base := 0x5A000C } -- R274
  | .GSL_SERIAL_1 => { base := 0x5A0010 } -- R274
  | .GSL_HALL_STATUS => { base := 0x5A0014 } -- R274
  | .GSL_HALL_EVENTS => { base := 0x5A0018, w1c := 0x7F } -- R274
  | .GSL_CORR_0 => { base := 0x5A001C } -- R274
  | .GSL_CORR_1 => { base := 0x5A0020 } -- R274
  | .GSL_CORR_2 => { base := 0x5A0024 } -- R274
  | .GSL_PORTn_CFG => { base := 0x5A0040, dims := [(0x20, 4)], rw := 0x3 } -- R274
  | .GSL_PORTn_ASYM => { base := 0x5A0044, dims := [(0x20, 4)], rw := 0xFFFF } -- R274
  | .GSL_PORTn_STATUS => { base := 0x5A0048, dims := [(0x20, 4)] } -- R274
  | .GSL_PORTn_DELAY => { base := 0x5A004C, dims := [(0x20, 4)] } -- R274
  | .GSL_PORTn_EVENTS => { base := 0x5A0050, dims := [(0x20, 4)], w1c := 0xF } -- R274
  | .CRIER_LAT => { base := 0x5A0400, reset := 0x5DC, rw := 0x1FFF } -- R274
  | .CRIER_COMMIT => { base := 0x5A0404, wo := 0x1 } -- R274
  | .CRIER_STATUS => { base := 0x5A0408 } -- R274
  | .CRIER_EVENTS => { base := 0x5A040C, w1c := 0x1FF } -- R274
  | .CRIER_SRC_n => { base := 0x5A0410, dims := [(0x4, 8)], rw := 0x7F } -- R274
  | .TALLY_STATUS => { base := 0x5C0000, reset := 0x2 } -- R307
  | .TALLY_EVENTS => { base := 0x5C0004, w1c := 0xFF } -- R307
  | .TALLY_INn_CFG => { base := 0x5C0040, dims := [(0x4, 8)], reset := 0x2000, rw := 0x37FFF } -- R307
  | .TALLY_OVEN_CTRL => { base := 0x5C0080, reset := 0xFFF, rw := 0x80001FFF } -- R307
  | .TALLY_OVEN_SET => { base := 0x5C0084, rw := 0xFFFF } -- R307
  | .TALLY_OVEN_BAND => { base := 0x5C0088, reset := 0x10, rw := 0xFFFF } -- R307
  | .TALLY_OVEN_GAIN => { base := 0x5C008C, reset := 0x420, rw := 0xFFFF } -- R307
  | .TALLY_OVEN_STATUS => { base := 0x5C0090 } -- R307
  | .TALLY_OVEN_INBAND => { base := 0x5C0094 } -- R307
  | .TALLY_SSMS_STATUS => { base := 0x5C0100 } -- R307
  | .TALLY_MEAS_UNITS => { base := 0x5C0200 } -- R328
  | .TALLY_MEAS_EVENTS => { base := 0x5C0204, w1c := 0x3 } -- R328
  | .TALLY_MEAS_OVF_CNT => { base := 0x5C0208, rc := 0xFFFF } -- R328
  | .TALLY_SLOTn_CFG => { base := 0x5C1000, dims := [(0x40, 128)], reset := 0x10FFFF, rw := 0xFE7CFFFF } -- R307
  | .TALLY_SLOTn_ARMSEL => { base := 0x5C1004, dims := [(0x40, 128)], rw := 0x773 } -- R307
  | .TALLY_SLOTn_HOLD => { base := 0x5C1008, dims := [(0x40, 128)], reset := 0x400, rw := 0xFFFFFFFF } -- R307
  | .TALLY_SLOTn_SUST => { base := 0x5C100C, dims := [(0x40, 128)], reset := 0x1000, rw := 0xFFFFFFFF } -- R307
  | .TALLY_SLOTn_BURST => { base := 0x5C1010, dims := [(0x40, 128)], reset := 0x40, rw := 0x7F } -- R307
  | .TALLY_SLOTn_NSTAMP => { base := 0x5C1014, dims := [(0x40, 128)], reset := 0x1, rw := 0xFFFFFFFF } -- R307
  | .TALLY_SLOTn_DUR_0 => { base := 0x5C1018, dims := [(0x40, 128)], reset := 0x400, rw := 0xFFFFFFFF } -- R307
  | .TALLY_SLOTn_DUR_1 => { base := 0x5C101C, dims := [(0x40, 128)], rw := 0xFFFFFFFF } -- R307
  | .TALLY_SLOTn_STATUS => { base := 0x5C1020, dims := [(0x40, 128)] } -- R307
  | .TALLY_SLOTn_EVENTS => { base := 0x5C1024, dims := [(0x40, 128)], w1c := 0x3 } -- R307
  | .TALLY_SLOTn_COUNT_0 => { base := 0x5C1028, dims := [(0x40, 128)] } -- R307
  | .TALLY_SLOTn_COUNT_1 => { base := 0x5C102C, dims := [(0x40, 128)] } -- R307
  | .STALL_HOST_STATUS => { base := 0x600000 } -- R350
  | .STALL_HOST_EVENTS => { base := 0x600004, w1c := 0x7F } -- R350
  | .STALL_HOST_CTO => { base := 0x600008, reset := 0x32, rw := 0x3FF } -- R350
  | .STALL_HOST_TAGS => { base := 0x60000C } -- R350
  | .STALL_HOST_BAR4_BASE => { base := 0x600010, rw := 0x1FF } -- R350
  | .STALL_HOST_FLR => { base := 0x600014 } -- R350
  | .STALL_FN_CTRL => { base := 0x600020, rwl := 0x1 } -- R350
  | .STALL_FN_MAP_m => { base := 0x601000, dims := [(0x4, 1024)], rwl := 0xFFFFFFFF } -- R350
  | .STALL_POLL => { base := 0x620000, reset := 0x3E8000A, rw := 0xFFFF03FF } -- R371
  | .STALL_WATCH => { base := 0x620004 } -- R371
  | .STALL_WATCH_EVENTS => { base := 0x620008, w1c := 0x1 } -- R371
  | .STALL_GRANT_n => { base := 0x620100, dims := [(0x4, 64)], rw := 0xFFFFFFFF } -- R371
  | .STALL_WAKE => { space := .bar2, base := 0x0, wo := 0xFFF } -- R371
  | .STALL_CTL => { space := .bar2, base := 0x4, wo := 0x1FFF } -- R371
  | .STALL_CTL_STATUS => { space := .bar2, base := 0x8 } -- R371
  | .STALL_EVENTS => { space := .bar2, base := 0xC, w1c := 0x1F } -- R371
  | .STALL_HALT_INFO => { space := .bar2, base := 0x10 } -- R371
  | .STALL_DB_BASE_0 => { space := .bar2, base := 0x18, rw := 0xFFFFF000 } -- R371
  | .STALL_DB_BASE_1 => { space := .bar2, base := 0x1C, rw := 0xFFFFF } -- R371
  | .STALL_TABLE_BASE_0 => { space := .bar2, base := 0x20, rw := 0xFFFFF000 } -- R371
  | .STALL_TABLE_BASE_1 => { space := .bar2, base := 0x24, rw := 0xFFFFF } -- R371
  | .TOLL_STATUS => { base := 0x640000 } -- R421
  | .TOLL_EVENTS => { base := 0x640004, w1c := 0xF } -- R421
  | .TOLL_REFRESH => { base := 0x640008 } -- R421
  | .TOLL_STACKn_RES => { base := 0x640010, dims := [(0x4, 4)] } -- R421
  | .TOLL_INTERIOR => { base := 0x640020 } -- R421
  | .AWN_SUPPLY => { base := 0x640100, reset := 0x23001E0, rw := 0xFFFFFFFF } -- R421
  | .AWN_COOLANT => { base := 0x640104, reset := 0x15E, rw := 0xFFFF } -- R421
  | .AWN_GUARD => { base := 0x640108, reset := 0x1E, rw := 0xFF } -- R421
  | .AWN_BASE => { base := 0x64010C } -- R421
  | .AWN_SPLIT => { base := 0x640110 } -- R421
  | .AWN_RES_n => { base := 0x640120, dims := [(0x4, 4)] } -- R421
  | .AWN_CAP_n => { base := 0x640130, dims := [(0x4, 4)] } -- R421
  | .AWN_TEMP_n => { base := 0x640140, dims := [(0x4, 4)] } -- R421
  | .AWN_HEADROOM => { base := 0x640150 } -- R421
  | .AWN_EVENTS => { base := 0x640154, w1c := 0x3 } -- R421
  | .TOLL_SCHED_STATUS => { base := 0x640200 } -- R445
  | .TOLL_SCHED_EVENTS => { base := 0x640204, w1c := 0x1F } -- R445
  | .TOLL_SCHED_CHARGE => { base := 0x640208, reset := 0x1E0014 } -- R445
  | .TOLL_SCHED_GQDEPTH => { base := 0x64020C } -- R445
  | .TOLL_SCHED_QDEPTH_n => { base := 0x640210, dims := [(0x4, 4)] } -- R445
  | .TOLL_SCHED_POOL => { base := 0x640220, reset := 0xFFFFFFFF, rw := 0xFFFFFFFF } -- R445
  | .TOLL_SCHED_BUSY => { base := 0x640224 } -- R445
  | .TOLL_SCHED_GBUSY => { base := 0x640228 } -- R445
  | .TOLL_SCHED_LOCKOUT => { base := 0x64022C } -- R445
  | .TOLL_SCHED_COH => { base := 0x640230, rc := 0xFFFF } -- R445
  | .MBX_BIND_CTRL => { base := 0x660000, rwl := 0x1 } -- R461
  | .MBX_SHn_TX_ID => { base := 0x660100, dims := [(0x8, 16)], rwl := 0xFFFFFFFF } -- R461
  | .MBX_SHn_RX_ID => { base := 0x660104, dims := [(0x8, 16)], rwl := 0xFFFFFFFF } -- R461
  | .EVR_EVENTS => { base := 0x680004, w1c := 0x3 } -- R461
  | .EVR_MERGED_CNT => { base := 0x680008, rc := 0xFFFF } -- R461
  | .EVR_ROUTEn_0 => { base := 0x681000, dims := [(0x10, 2048)], rw := 0xFFFF01FF } -- R461
  | .EVR_ROUTEn_1 => { base := 0x681004, dims := [(0x10, 2048)], reset := 0xFFFF0000, rw := 0xFFFF0000 } -- R461
  | .EVR_ROUTEn_2 => { base := 0x681008, dims := [(0x10, 2048)], rw := 0x3F07FF } -- R461
  | .MBX_EVENTS => { space := .bar2, base := 0x100, w1c := 0x1 } -- R461
  | .MBX_PRIV_FULL_m => { space := .bar2, base := 0x200, dims := [(0x4, 128)] } -- R461
  | .MBX_PORTp_SEL => { space := .bar2, base := 0x1000, dims := [(0x80, 16)], wo := 0xFFF } -- R461
  | .MBX_PORTp_STATUS => { space := .bar2, base := 0x1004, dims := [(0x80, 16)] } -- R461
  | .MBX_PORTp_DATA_w => { space := .bar2, base := 0x1040, dims := [(0x80, 16), (0x4, 16)] } -- R461
  | .MBX_SHn_TXBUF_w => { space := .shared, base := 0x2000, dims := [(0x100, 16), (0x4, 16)], wo := 0xFFFFFFFF } -- R461
  | .MBX_SHn_SEND => { space := .shared, base := 0x2040, dims := [(0x100, 16)] } -- R461
  | .MBX_SHn_RXBUF_w => { space := .shared, base := 0x2080, dims := [(0x100, 16), (0x4, 16)] } -- R461
  | .MBX_SHn_STATUS => { space := .shared, base := 0x20C0, dims := [(0x100, 16)] } -- R461
  | .BOOT_WDT_RESTART => { space := .internal, base := 0x0, wo := 0xFFFFFFFF } -- R453
  | .DRAM_ILV_STAGE => { base := 0x6A0000, reset := 0xC, rw := 0x1F } -- R483
  | .DRAM_ILV_CH_STAGE_w => { base := 0x6A0004, dims := [(0x4, 2)], reset := 0xFFFFFFFF, rw := 0xFFFFFFFF } -- R483
  | .DRAM_ILV_COMMIT => { base := 0x6A000C, wo := 0x1 } -- R483
  | .DRAM_ILV_STATUS => { base := 0x6A0010, reset := 0xC0000 } -- R483
  | .DRAM_ILV_NEXT_w => { base := 0x6A0014, dims := [(0x4, 2)], reset := 0xFFFFFFFF } -- R483
  | .DRAM_ILV_LIVE_w => { base := 0x6A001C, dims := [(0x4, 2)] } -- R483
  | .DRAM_SIZE => { base := 0x6A0024 } -- R483
  | .DRAM_STATUS => { base := 0x6A0028 } -- R483
  | .DRAM_EVENTS => { base := 0x6A002C, w1c := 0x1F } -- R483
  | .DRAM_ECC_CNT => { base := 0x6A0030, rc := 0xFFFF } -- R483
  | .DRAM_ECC_ADDR_0 => { base := 0x6A0034 } -- R483
  | .DRAM_ECC_ADDR_1 => { base := 0x6A0038 } -- R483
  | .DRAM_SREF => { base := 0x6A003C } -- R483
  | .DRAM_PHY_CTRL => { base := 0x6A0040, rwl := 0x1 } -- R483
  | .DRAM_PHYn_w => { base := 0x6A0100, dims := [(0x10, 64), (0x4, 4)], rwl := 0xFFFFFFFF } -- R483
  | .ARB_CLASS_m => { base := 0x6A0800, dims := [(0x4, 9)], rw := 0xFFFFFFFF } -- R483
  | .ARB_CHn_STATUS => { base := 0x6A0900, dims := [(0x4, 64)], reset := 0x6 } -- R483
  | .ARB_DEAD_CNT => { base := 0x6A0A00, rc := 0xFFFF } -- R483
  | .TIME_NOW_0 => { base := 0x6C0000 } -- R507
  | .TIME_NOW_1 => { base := 0x6C0004 } -- R507
  | .TIME_NOW_2 => { base := 0x6C0008 } -- R507
  | .TIME_FR_0 => { base := 0x6C000C } -- R507
  | .TIME_FR_1 => { base := 0x6C0010 } -- R507
  | .TIME_FR_2 => { base := 0x6C0014 } -- R507
  | .TIME_OFFSET_0 => { base := 0x6C0018 } -- R507
  | .TIME_OFFSET_1 => { base := 0x6C001C } -- R507
  | .TIME_OFFSET_2 => { base := 0x6C0020 } -- R507
  | .TIME_RATE_0 => { base := 0x6C0024 } -- R507
  | .TIME_RATE_1 => { base := 0x6C0028 } -- R507
  | .TIME_CAL_0 => { base := 0x6C002C } -- R507
  | .TIME_CAL_1 => { base := 0x6C0030 } -- R507
  | .TIME_STEP_0 => { base := 0x6C0040, rw := 0xFFFFFFFF } -- R507
  | .TIME_STEP_1 => { base := 0x6C0044, rw := 0xFFFFFFFF } -- R507
  | .TIME_STEP_2 => { base := 0x6C0048, rw := 0xFFFFFFFF } -- R507
  | .TIME_RATE_STAGE_0 => { base := 0x6C004C, rw := 0xFFFFFFFF } -- R507
  | .TIME_RATE_STAGE_1 => { base := 0x6C0050, rw := 0xFF } -- R507
  | .TIME_CALSET_0 => { base := 0x6C0054, rw := 0xFFFFFFF8 } -- R507
  | .TIME_CALSET_1 => { base := 0x6C0058, rw := 0x7FFFFFE0 } -- R507
  | .TIME_CMD => { base := 0x6C005C, wo := 0x7 } -- R507
  | .TIME_UTC => { base := 0x6C0060, reset := 0x25, rw := 0xFFFF } -- R507
  | .TIME_STATUS => { base := 0x6C0064, reset := 0x1 } -- R507
  | .TIME_EVENTS => { base := 0x6C0068, w1c := 0xF } -- R507
  | .TIME_BACKUP_0 => { base := 0x6C0070 } -- R507
  | .TIME_BACKUP_1 => { base := 0x6C0074 } -- R507
  | .PTP_SERVO_CTRL => { base := 0x6C1000, reset := 0x80100, rw := 0x80FFFFFF } -- R507
  | .PTP_SERVO_GAIN => { base := 0x6C1004, reset := 0x400800, rw := 0xFFFFFFFF } -- R507
  | .PTP_SERVO_THRESH => { base := 0x6C1008, reset := 0x40003E8, rw := 0xFFFFFFFF } -- R507
  | .PTP_SERVO_IN_0 => { base := 0x6C100C, wo := 0xFFFFFFFF } -- R507
  | .PTP_SERVO_IN_1 => { base := 0x6C1010, wo := 0xFFFFFFFF } -- R507
  | .PTP_SERVO_STATUS => { base := 0x6C1014 } -- R507
  | .PTP_PORTn_CFG => { base := 0x6C1100, dims := [(0x40, 2)], reset := 0xE, rw := 0x3F } -- R507
  | .PTP_PORTn_TXLAT => { base := 0x6C1104, dims := [(0x40, 2)], rw := 0xFFFFFFFF } -- R507
  | .PTP_PORTn_RXLAT => { base := 0x6C1108, dims := [(0x40, 2)], rw := 0xFFFFFFFF } -- R507
  | .PTP_PORTn_ASYM => { base := 0x6C110C, dims := [(0x40, 2)], rw := 0xFFFFFFFF } -- R507
  | .PTP_PORTn_RXRING_0 => { base := 0x6C1110, dims := [(0x40, 2)], rw := 0xFFFFF800 } -- R507
  | .PTP_PORTn_RXRING_1 => { base := 0x6C1114, dims := [(0x40, 2)], reset := 0x600, rw := 0xF1F } -- R507
  | .PTP_PORTn_RXPROD => { base := 0x6C1118, dims := [(0x40, 2)] } -- R507
  | .PTP_PORTn_RXCONS => { base := 0x6C111C, dims := [(0x40, 2)], rw := 0xFFFFFFFF } -- R507
  | .PTP_PORTn_COUNTS => { base := 0x6C1120, dims := [(0x40, 2)], rc := 0xFFFFFFFF } -- R507
  | .ADC_STATUS => { base := 0x6E0000 } -- R525
  | .ADC_EVENTS => { base := 0x6E0004, w1c := 0x3D } -- R525
  | .ADC_VERIFY_INFO => { base := 0x6E0008 } -- R525
  | .ADC_ALARM_TEMP => { base := 0x6E000C, reset := 0x2710, rw := 0xFFFF } -- R525
  | .ADC_FAILED_w => { base := 0x6E0010, dims := [(0x4, 2)] } -- R525
  | .ADC_RQr_0 => { base := 0x6E0020, dims := [(0x20, 4)] } -- R525
  | .ADC_RQr_1 => { base := 0x6E0024, dims := [(0x20, 4)] } -- R525
  | .ADC_RQr_2 => { base := 0x6E0028, dims := [(0x20, 4)] } -- R525
  | .ADC_RQr_3 => { base := 0x6E002C, dims := [(0x20, 4)] } -- R525
  | .ADC_RQr_STATUS => { base := 0x6E0030, dims := [(0x20, 4)] } -- R525
  | .ADC_MONn_0 => { base := 0x6E0100, dims := [(0x8, 64)] } -- R525
  | .ADC_MONn_1 => { base := 0x6E0104, dims := [(0x8, 64)] } -- R525
  | .ADC_RAIL_LIMIT_m => { base := 0x6E0300, dims := [(0x4, 3)] } -- R525
  | .CAL_STATUS => { base := 0x700000 } -- R543
  | .CAL_EVENTS => { base := 0x700004, w1c := 0x3 } -- R543
  | .CAL_ORDER_0 => { base := 0x700008 } -- R543
  | .CAL_ORDER_1 => { base := 0x70000C } -- R543
  | .CAL_FACT_ID_0 => { base := 0x700010 } -- R543
  | .CAL_FACT_ID_1 => { base := 0x700014 } -- R543
  | .CAL_USER_CRC => { base := 0x700018 } -- R543
  | .CAL_COMMITS => { base := 0x70001C } -- R543
  | .CAL_LINr_0 => { base := 0x700020, dims := [(0x8, 4)] } -- R543
  | .CAL_LINr_1 => { base := 0x700024, dims := [(0x8, 4)] } -- R543
  | .CAL_FACT => { base := 0x710000, dims := [(0x80, 256), (0x4, 32)] } -- R543
  | .CAL_USER => { base := 0x718000, dims := [(0x80, 256), (0x4, 32)] } -- R543
  | .FLT_STATUS => { base := 0x720000 } -- R565
  | .FLT_EVENTS => { base := 0x720004, w1c := 0x3F } -- R565
  | .FLT_FIRST => { base := 0x720008 } -- R565
  | .FLT_FIRST_TIME_0 => { base := 0x72000C } -- R565
  | .FLT_FIRST_TIME_1 => { base := 0x720010 } -- R565
  | .FLT_FIRST_TIME_2 => { base := 0x720014 } -- R565
  | .FLT_LATER => { base := 0x720018 } -- R565
  | .FLT_CLEAR => { base := 0x720020, wo := 0x1 } -- R565
  | .FLT_DISABLE => { base := 0x720024, wo := 0x3F } -- R565
  | .FLT_DISABLE_STATUS => { base := 0x720028 } -- R565
  | .FLT_SUPPLY => { base := 0x720030, w1c := 0x1F } -- R565
  | .FLT_SELFTEST => { base := 0x720034 } -- R565
  | .FLT_FUSE => { base := 0x720038, reset := 0x1 } -- R565
  | .FLT_MIRROR => { base := 0x720040 } -- R565
  | .FLT_MIRROR_TIME_0 => { base := 0x720044 } -- R565
  | .FLT_MIRROR_TIME_1 => { base := 0x720048 } -- R565
  | .FLT_MIRROR_TIME_2 => { base := 0x72004C } -- R565
  | .FLT_MIRROR_ACK => { base := 0x720050, wo := 0x1 } -- R565
  | .LEDG_STATUS => { base := 0x740000 } -- R580
  | .LEDG_EVENTS => { base := 0x740004, w1c := 0xF } -- R580
  | .LEDG_NEXT => { base := 0x740008 } -- R580
  | .LEDG_FREE => { base := 0x74000C } -- R580
  | .LEDG_UNRECORDED => { base := 0x740010 } -- R580
  | .LEDG_LOST => { base := 0x740014 } -- R580
  | .LEDG_READ_IDX => { base := 0x740020, rw := 0x7FFFF } -- R580
  | .LEDG_READ_STATE => { base := 0x740024 } -- R580
  | .LEDG_REC_w => { base := 0x740040, dims := [(0x4, 8)], reset := 0xFFFFFFFF } -- R580
  | .PWR_LTR => { base := 0x760000, rw := 0xFFFFFFFF } -- R598
  | .PWR_POLICY => { base := 0x760004, reset := 0x4, rw := 0x7 } -- R598
  | .PWR_CTRL => { base := 0x760008, wo := 0x1 } -- R598
  | .PWR_STATUS => { base := 0x76000C, reset := 0x800000 } -- R598
  | .PWR_EVENTS => { base := 0x760010, w1c := 0x7 } -- R598
  | .PWR_DOMAINS => { base := 0x760014, reset := 0xFFFFF } -- R598
  | .PWR_ROW_OFF => { base := 0x760018, rw := 0xF } -- R598
  | .PWR_PACE => { base := 0x76001C } -- R598
  | .PWR_VCORE => { base := 0x760020 } -- R598
  | .PWR_WAKE_0 => { base := 0x760024, rw := 0xFFFFFFFF } -- R598
  | .PWR_WAKE_1 => { base := 0x760028, rw := 0x80FFFFFF } -- R598
  | .PWR_ENERGY_n => { base := 0x760040, dims := [(0x4, 20)] } -- R598
  | .BOOT_STATUS => { base := 0x780000, reset := 0x10000000, w1c := 0x3 } -- R614
  | .BOOT_RESET_CAUSE => { base := 0x780004, reset := 0x1 } -- R614
  | .BOOT_STRAP => { base := 0x780008 } -- R614
  | .BOOT_TIME => { base := 0x78000C } -- R614
  | .BOOT_COUNT => { base := 0x780010 } -- R614
  | .BOOT_FW_SVN => { base := 0x780014 } -- R614
  | .BOOT_FW_ID_0 => { base := 0x780018 } -- R614
  | .BOOT_FW_ID_1 => { base := 0x78001C } -- R614
  | .BOOT_PUSH_0 => { base := 0x780020, rw := 0xFFFFFFC0 } -- R614
  | .BOOT_PUSH_1 => { base := 0x780024, rw := 0xFFFFF } -- R614
  | .BOOT_PUSH_LEN => { base := 0x780028, rw := 0xFFFFFF } -- R614
  | .BOOT_PUSH_CMD => { base := 0x78002C, wo := 0x1 } -- R614
  | .BOOT_WDT => { base := 0x780030, reset := 0x800007D0 } -- R614

/-- The lock bit (bit 0 of the register named) that governs the RWL fields of a family (R13, and the rules that name each lock). -/
def RegName.lock : RegName → Option RegName
  | .DRAM_SEG_CTRL => some .DRAM_SEG_CTRL
  | .DRAM_SEG_FIRST => some .DRAM_SEG_CTRL
  | .DRAM_SEG_COUNT => some .DRAM_SEG_CTRL
  | .BOOT_UCODE_CTRL => some .BOOT_UCODE_CTRL
  | .BOOT_UCMATCH_n => some .BOOT_UCODE_CTRL
  | .GSL_CTRL => some .GSL_CTRL
  | .GSL_DEVID => some .GSL_CTRL
  | .STALL_FN_CTRL => some .STALL_FN_CTRL
  | .STALL_FN_MAP_m => some .STALL_FN_CTRL
  | .MBX_BIND_CTRL => some .MBX_BIND_CTRL
  | .MBX_SHn_TX_ID => some .MBX_BIND_CTRL
  | .MBX_SHn_RX_ID => some .MBX_BIND_CTRL
  | .DRAM_PHY_CTRL => some .DRAM_PHY_CTRL
  | .DRAM_PHYn_w => some .DRAM_PHY_CTRL
  | _ => none

/-- Registers that the keeper die keeps through resets other than a loss of VKEEP and VBAK (R15 and the rules of each register). -/
def RegName.keeper : RegName → Bool
  | .TALLY_OVEN_CTRL => true
  | .TALLY_OVEN_SET => true
  | .TALLY_OVEN_BAND => true
  | .TALLY_OVEN_GAIN => true
  | .DRAM_ILV_NEXT_w => true
  | .TIME_BACKUP_0 => true
  | .TIME_BACKUP_1 => true
  | .FLT_MIRROR => true
  | .FLT_MIRROR_TIME_0 => true
  | .FLT_MIRROR_TIME_1 => true
  | .FLT_MIRROR_TIME_2 => true
  | .LEDG_LOST => true
  | .PWR_WAKE_0 => true
  | .PWR_WAKE_1 => true
  | .BOOT_COUNT => true
  | _ => false

/-- The register families whose registers a host or internal access reaches by address, in address order of their blocks. -/
def regList0 : List RegName :=
  [.CHn_MODE, .CHn_LEVEL_VIH, .CHn_LEVEL_VIL, .CHn_LEVEL_VOH, .CHn_LEVEL_VOL, .CHn_LEVEL_VCOM, .CHn_LOAD_IOH, .CHn_LOAD_IOL, .CHn_CLAMP_HI, .CHn_CLAMP_LO, .CHn_PMU_FORCE, .CHn_PMU_VCLAMP, .CHn_PMU_ICLAMP, .CHn_SLEW, .CHn_LEVEL_COMMIT, .CHn_ENABLE, .CHn_STATUS, .CHn_CMP_MON, .CHn_EVENTS, .CHn_MODE_LIVE, .CHn_LEVEL_VIH_LIVE, .CHn_LEVEL_VIL_LIVE, .CHn_LEVEL_VOH_LIVE, .CHn_LEVEL_VOL_LIVE, .CHn_LEVEL_VCOM_LIVE, .CHn_LOAD_IOH_LIVE, .CHn_LOAD_IOL_LIVE, .CHn_CLAMP_HI_LIVE, .CHn_CLAMP_LO_LIVE, .CHn_PMU_FORCE_LIVE, .CHn_PMU_VCLAMP_LIVE, .CHn_PMU_ICLAMP_LIVE, .CHn_SLEW_LIVE, .TSBANK_COMMIT_n, .TSBANK_STATUS_n, .TSBANK_CTIME_0_n, .TSBANK_CTIME_1_n, .TSBANK_CTIME_2_n, .TSBANK_EPOCH_0_n, .TSBANK_EPOCH_1_n]

def regList1 : List RegName :=
  [.TSBANK_EPOCH_2_n, .TSBANK_CYCLE_0_n, .TSBANK_CYCLE_1_n, .TSBANK_COMMIT_FREE, .TSBANK_STATUS_FREE, .TSBANK_REF, .TSBANK_STAGE, .TSBANK_LIVE, .DRAM_SEG_CTRL, .DRAM_SEG_FIRST, .DRAM_SEG_COUNT, .DRAM_SEG_QUERY, .DRAM_SEG_STATE, .DRAM_SEG_EVENTS, .SEQn_OWN_w, .SEQn_OWN_COMMIT, .SEQn_STATUS, .SEQn_EVENTS, .SEQn_SPILL_0, .SEQn_SPILL_1, .SEQn_SESSION, .SEQn_REDIRECT_0, .SEQn_REDIRECT_1, .SEQn_PC_0, .SEQn_PC_1, .SEQn_DIRINIT_w, .SEQn_CHAIN_w, .SEQn_SITE_EN_w, .SEQn_SITE_FAIL_w, .SEQn_SITE_ACTIVE_w, .SEQn_OWN_LIVE_w, .SEQn_SITE_MAP_m, .BOOT_UCODE_CTRL, .BOOT_UCODE_STATUS, .BOOT_UCODE_ROMREV, .BOOT_UCODE_SVN, .BOOT_UCODE_ID_0, .BOOT_UCODE_ID_1, .BOOT_UCODE_ERR, .BOOT_UCMATCH_n]

def regList2 : List RegName :=
  [.BOOT_UCCOST_n, .CAP_TRIG_VAL_w, .CAP_TRIG_MASK_w, .CAP_TRIG_CTRL, .CAP_STATUS, .CAP_EVENTS, .CAP_GLITCH_FAIL_w, .CAP_CHECK_CNT, .LANEn_MODE, .LANEn_EQ, .LANEn_LOS, .LANEn_HUNT, .LANEn_BIND, .LANEn_CMP_SEG, .LANEn_CMP_FIRST, .LANEn_CMP_COUNT, .LANEn_MATCH_w, .LANEn_MMASK_w, .LANEn_MATCH_HDR, .LANEn_PMASK_w, .LANEn_STATUS, .LANEn_EVENTS, .GSL_CTRL, .GSL_DEVID, .GSL_STRAP, .GSL_SERIAL_0, .GSL_SERIAL_1, .GSL_HALL_STATUS, .GSL_HALL_EVENTS, .GSL_CORR_0, .GSL_CORR_1, .GSL_CORR_2, .GSL_PORTn_CFG, .GSL_PORTn_ASYM, .GSL_PORTn_STATUS, .GSL_PORTn_DELAY, .GSL_PORTn_EVENTS, .CRIER_LAT, .CRIER_COMMIT, .CRIER_STATUS]

def regList3 : List RegName :=
  [.CRIER_EVENTS, .CRIER_SRC_n, .TALLY_STATUS, .TALLY_EVENTS, .TALLY_INn_CFG, .TALLY_OVEN_CTRL, .TALLY_OVEN_SET, .TALLY_OVEN_BAND, .TALLY_OVEN_GAIN, .TALLY_OVEN_STATUS, .TALLY_OVEN_INBAND, .TALLY_SSMS_STATUS, .TALLY_MEAS_UNITS, .TALLY_MEAS_EVENTS, .TALLY_MEAS_OVF_CNT, .TALLY_SLOTn_CFG, .TALLY_SLOTn_ARMSEL, .TALLY_SLOTn_HOLD, .TALLY_SLOTn_SUST, .TALLY_SLOTn_BURST, .TALLY_SLOTn_NSTAMP, .TALLY_SLOTn_DUR_0, .TALLY_SLOTn_DUR_1, .TALLY_SLOTn_STATUS, .TALLY_SLOTn_EVENTS, .TALLY_SLOTn_COUNT_0, .TALLY_SLOTn_COUNT_1, .STALL_HOST_STATUS, .STALL_HOST_EVENTS, .STALL_HOST_CTO, .STALL_HOST_TAGS, .STALL_HOST_BAR4_BASE, .STALL_HOST_FLR, .STALL_FN_CTRL, .STALL_FN_MAP_m, .STALL_POLL, .STALL_WATCH, .STALL_WATCH_EVENTS, .STALL_GRANT_n, .STALL_WAKE]

def regList4 : List RegName :=
  [.STALL_CTL, .STALL_CTL_STATUS, .STALL_EVENTS, .STALL_HALT_INFO, .STALL_DB_BASE_0, .STALL_DB_BASE_1, .STALL_TABLE_BASE_0, .STALL_TABLE_BASE_1, .TOLL_STATUS, .TOLL_EVENTS, .TOLL_REFRESH, .TOLL_STACKn_RES, .TOLL_INTERIOR, .AWN_SUPPLY, .AWN_COOLANT, .AWN_GUARD, .AWN_BASE, .AWN_SPLIT, .AWN_RES_n, .AWN_CAP_n, .AWN_TEMP_n, .AWN_HEADROOM, .AWN_EVENTS, .TOLL_SCHED_STATUS, .TOLL_SCHED_EVENTS, .TOLL_SCHED_CHARGE, .TOLL_SCHED_GQDEPTH, .TOLL_SCHED_QDEPTH_n, .TOLL_SCHED_POOL, .TOLL_SCHED_BUSY, .TOLL_SCHED_GBUSY, .TOLL_SCHED_LOCKOUT, .TOLL_SCHED_COH, .MBX_BIND_CTRL, .MBX_SHn_TX_ID, .MBX_SHn_RX_ID, .EVR_EVENTS, .EVR_MERGED_CNT, .EVR_ROUTEn_0, .EVR_ROUTEn_1]

def regList5 : List RegName :=
  [.EVR_ROUTEn_2, .MBX_EVENTS, .MBX_PRIV_FULL_m, .MBX_PORTp_SEL, .MBX_PORTp_STATUS, .MBX_PORTp_DATA_w, .MBX_SHn_TXBUF_w, .MBX_SHn_SEND, .MBX_SHn_RXBUF_w, .MBX_SHn_STATUS, .BOOT_WDT_RESTART, .DRAM_ILV_STAGE, .DRAM_ILV_CH_STAGE_w, .DRAM_ILV_COMMIT, .DRAM_ILV_STATUS, .DRAM_ILV_NEXT_w, .DRAM_ILV_LIVE_w, .DRAM_SIZE, .DRAM_STATUS, .DRAM_EVENTS, .DRAM_ECC_CNT, .DRAM_ECC_ADDR_0, .DRAM_ECC_ADDR_1, .DRAM_SREF, .DRAM_PHY_CTRL, .DRAM_PHYn_w, .ARB_CLASS_m, .ARB_CHn_STATUS, .ARB_DEAD_CNT, .TIME_NOW_0, .TIME_NOW_1, .TIME_NOW_2, .TIME_FR_0, .TIME_FR_1, .TIME_FR_2, .TIME_OFFSET_0, .TIME_OFFSET_1, .TIME_OFFSET_2, .TIME_RATE_0, .TIME_RATE_1]

def regList6 : List RegName :=
  [.TIME_CAL_0, .TIME_CAL_1, .TIME_STEP_0, .TIME_STEP_1, .TIME_STEP_2, .TIME_RATE_STAGE_0, .TIME_RATE_STAGE_1, .TIME_CALSET_0, .TIME_CALSET_1, .TIME_CMD, .TIME_UTC, .TIME_STATUS, .TIME_EVENTS, .TIME_BACKUP_0, .TIME_BACKUP_1, .PTP_SERVO_CTRL, .PTP_SERVO_GAIN, .PTP_SERVO_THRESH, .PTP_SERVO_IN_0, .PTP_SERVO_IN_1, .PTP_SERVO_STATUS, .PTP_PORTn_CFG, .PTP_PORTn_TXLAT, .PTP_PORTn_RXLAT, .PTP_PORTn_ASYM, .PTP_PORTn_RXRING_0, .PTP_PORTn_RXRING_1, .PTP_PORTn_RXPROD, .PTP_PORTn_RXCONS, .PTP_PORTn_COUNTS, .ADC_STATUS, .ADC_EVENTS, .ADC_VERIFY_INFO, .ADC_ALARM_TEMP, .ADC_FAILED_w, .ADC_RQr_0, .ADC_RQr_1, .ADC_RQr_2, .ADC_RQr_3, .ADC_RQr_STATUS]

def regList7 : List RegName :=
  [.ADC_MONn_0, .ADC_MONn_1, .ADC_RAIL_LIMIT_m, .CAL_STATUS, .CAL_EVENTS, .CAL_ORDER_0, .CAL_ORDER_1, .CAL_FACT_ID_0, .CAL_FACT_ID_1, .CAL_USER_CRC, .CAL_COMMITS, .CAL_LINr_0, .CAL_LINr_1, .CAL_FACT, .CAL_USER, .FLT_STATUS, .FLT_EVENTS, .FLT_FIRST, .FLT_FIRST_TIME_0, .FLT_FIRST_TIME_1, .FLT_FIRST_TIME_2, .FLT_LATER, .FLT_CLEAR, .FLT_DISABLE, .FLT_DISABLE_STATUS, .FLT_SUPPLY, .FLT_SELFTEST, .FLT_FUSE, .FLT_MIRROR, .FLT_MIRROR_TIME_0, .FLT_MIRROR_TIME_1, .FLT_MIRROR_TIME_2, .FLT_MIRROR_ACK, .LEDG_STATUS, .LEDG_EVENTS, .LEDG_NEXT, .LEDG_FREE, .LEDG_UNRECORDED, .LEDG_LOST, .LEDG_READ_IDX]

def regList8 : List RegName :=
  [.LEDG_READ_STATE, .LEDG_REC_w, .PWR_LTR, .PWR_POLICY, .PWR_CTRL, .PWR_STATUS, .PWR_EVENTS, .PWR_DOMAINS, .PWR_ROW_OFF, .PWR_PACE, .PWR_VCORE, .PWR_WAKE_0, .PWR_WAKE_1, .PWR_ENERGY_n, .BOOT_STATUS, .BOOT_RESET_CAUSE, .BOOT_STRAP, .BOOT_TIME, .BOOT_COUNT, .BOOT_FW_SVN, .BOOT_FW_ID_0, .BOOT_FW_ID_1, .BOOT_PUSH_0, .BOOT_PUSH_1, .BOOT_PUSH_LEN, .BOOT_PUSH_CMD, .BOOT_WDT]

/-- Every register family. -/
def allRegs : List RegName :=
  regList0 ++ regList1 ++ regList2 ++ regList3 ++ regList4 ++ regList5 ++ regList6 ++ regList7 ++ regList8

end Sys2Proof.Machine
end

