-- ==== Sys2Proof/Machine/Store.lean ====
section
/-!
DEFINITION. The two containers of the model: an association list with at most one entry per key (`Store`), and local memory
as a list of (address, byte) pairs in canonical form (`Mem`). Byte strings are read little-endian here and nowhere else (R7).
-/

namespace Sys2Proof.Machine

/-- An association list. `put` keeps at most one entry per key. -/
abbrev Store (κ α : Type) := List (κ × α)

/-- The entry of a key. -/
def Store.get? {κ α : Type} [DecidableEq κ] : Store κ α → κ → Option α
  | [], _ => none
  | (k', v) :: t, k => if k' = k then some v else Store.get? t k

/-- The entry of a key, or a default. -/
def Store.getD {κ α : Type} [DecidableEq κ] (m : Store κ α) (k : κ) (d : α) : α :=
  (Store.get? m k).getD d

/-- Set the entry of a key, in place where it has one. -/
def Store.put {κ α : Type} [DecidableEq κ] : Store κ α → κ → α → Store κ α
  | [], k, v => [(k, v)]
  | (k', v') :: t, k, v => if k' = k then (k, v) :: t else (k', v') :: Store.put t k v

/-- Remove the entries of a key. -/
def Store.del {κ α : Type} [DecidableEq κ] : Store κ α → κ → Store κ α
  | [], _ => []
  | (k', v') :: t, k => if k' = k then Store.del t k else (k', v') :: Store.del t k

/-- The keys, in order. -/
def Store.keys {κ α : Type} (m : Store κ α) : List κ := m.map Prod.fst

/-- At most one entry per key. -/
abbrev Store.wf {κ α : Type} [DecidableEq κ] (m : Store κ α) : Prop := (Store.keys m).Nodup

/-! ## Bytes -/

/-- `n` bytes of a byte string from offset `off`, little-endian (R7); bytes beyond its end count as 0. -/
def Bytes.le (bs : Bytes) (off : Nat) : Nat → Nat
  | 0 => 0
  | n + 1 => (bs.getD off 0#8).toNat + 256 * Bytes.le bs (off + 1) n

/-- The `n` little-endian bytes of a number. -/
def leBytes (v : Nat) : Nat → Bytes
  | 0 => []
  | n + 1 => BitVec.ofNat 8 v :: leBytes (v / 256) n

/-- Bits `lsb` to `lsb + w - 1` of a number. -/
def bitsOf (v lsb w : Nat) : Nat := v / 2 ^ lsb % 2 ^ w

/-- Bit `b` of a number. -/
def bitOf (v b : Nat) : Bool := v / 2 ^ b % 2 == 1

/-- The numbers below `n` whose bit is set in `v`, ascending. -/
def setBits (v n : Nat) : List Nat := (List.range n).filter (bitOf v)

/-- The number whose set bits are the members of a list below `n`. -/
def ofSet (l : List Nat) (n : Nat) : Nat := ((List.range n).filter (l.contains ·)).foldl (fun a b => a + 2 ^ b) 0

/-- A `w`-bit two's complement number as an integer. -/
def signed (v w : Nat) : Int := if v % 2 ^ w < 2 ^ (w - 1) then ((v % 2 ^ w : Nat) : Int) else ((v % 2 ^ w : Nat) : Int) - 2 ^ w

/-- An integer as a `w`-bit two's complement number. -/
def unsigned (v : Int) (w : Nat) : Nat := (v % (2 ^ w : Int)).toNat

/-- ⌈a / b⌉ -/
def ceilDiv (a b : Nat) : Nat := (a + b - 1) / b

/-! ## Local memory -/

/-- Local memory: (address, byte) pairs, addresses strictly rising, no entry 0. An unlisted byte reads 0: boot step 4 writes
zeros to every byte (R604). -/
abbrev Mem := List Host.Cell

/-- The canonical form: every address above `lo`, addresses strictly rising, no listed 0. -/
def Mem.wfFrom (lo : Option Nat) : Mem → Bool
  | [] => true
  | (a, b) :: t => (match lo with | none => true | some l => decide (l < a)) && decide (b ≠ 0#8) && Mem.wfFrom (some a) t

/-- The canonical form of local memory. -/
def Mem.wf (m : Mem) : Bool := Mem.wfFrom none m

/-- The byte at an address. -/
def Mem.byte : Mem → Nat → Byte
  | [], _ => 0#8
  | (a', b) :: t, a => if a' = a then b else Mem.byte t a

/-- Write one byte. -/
def Mem.setByte : Mem → Nat → Byte → Mem
  | [], a, b => if b = 0#8 then [] else [(a, b)]
  | (a', b') :: t, a, b =>
    if a < a' then (if b = 0#8 then (a', b') :: t else (a, b) :: (a', b') :: t)
    else if a = a' then (if b = 0#8 then t else (a, b) :: t)
    else (a', b') :: Mem.setByte t a b

/-- Write a byte string from an address upward. -/
def Mem.setBytes (m : Mem) (a : Nat) : Bytes → Mem
  | [] => m
  | b :: bs => Mem.setBytes (Mem.setByte m a b) (a + 1) bs

/-- `n` bytes from an address upward. -/
def Mem.bytes (m : Mem) (a n : Nat) : Bytes := (List.range n).map fun i => Mem.byte m (a + i)

/-- `n` bytes from an address upward as a little-endian number. -/
def Mem.le (m : Mem) (a n : Nat) : Nat := Bytes.le (Mem.bytes m a n) 0 n

/-- Write the `n` little-endian bytes of a number. -/
def Mem.setLe (m : Mem) (a v n : Nat) : Mem := Mem.setBytes m a (leBytes v n)

/-- `w` bits from bit `b` of local memory upward, in little-endian bit order (R7). -/
def Mem.bits (m : Mem) (b w : Nat) : Nat := Mem.le m (b / 8) ((b % 8 + w + 7) / 8) / 2 ^ (b % 8) % 2 ^ w

/-- Write `w` bits from bit `b` of local memory upward. -/
def Mem.setBits (m : Mem) (b w v : Nat) : Mem :=
  let n := (b % 8 + w + 7) / 8
  let old := Mem.le m (b / 8) n
  Mem.setLe m (b / 8) (old % 2 ^ (b % 8) + (v % 2 ^ w + old / 2 ^ (b % 8 + w) * 2 ^ w) * 2 ^ (b % 8)) n

/-- Set `n` bytes to 0. -/
def Mem.clear (m : Mem) (a n : Nat) : Mem := m.filter fun c => !(decide (a ≤ c.1) && decide (c.1 < a + n))

/-- Copy `n` bytes from `src` to `dst`; the ranges do not overlap (R383). -/
def Mem.copy (m : Mem) (src dst n : Nat) : Mem :=
  (m.filter fun c => decide (src ≤ c.1) && decide (c.1 < src + n)).foldl
    (fun acc c => Mem.setByte acc (dst + (c.1 - src)) c.2) (Mem.clear m dst n)

end Sys2Proof.Machine
end

