-- ==== Sys2Proof/Machine/Types.lean ====
section
/-!
DEFINITION. The records of State for the control path: functions, stalls, orders and their reservations, receipts, events, detections.
-/

namespace Sys2Proof.Machine

/-- One register: a family and its indices. For a BAR2 register `i` is the function (R640); for a family of two indices `j` is the second. -/
structure Reg where
  name : RegName
  i : Nat := 0
  j : Nat := 0
  deriving DecidableEq, Repr

/-- A posted write that has entered the transmit queue (R341). `fn` is the requester's function (R335). -/
inductive HostWrite where
  /-- A receipt at its ring entry (R364). -/
  | receipt (fn stall addr : Nat) (data : Bytes)
  /-- An MSI-X message (R344). -/
  | msix (fn vector addr data : Nat)
  /-- The STATE word of a stall descriptor (R352). -/
  | stateWord (fn stall addr : Nat) (data : Bytes)
  /-- Bytes the device computed: a verdict area (R380), a result array, an image. -/
  | data (fn addr : Nat) (data : Bytes)
  /-- A copy of local memory (R389, R432). -/
  | copy (fn addr localAddr len : Nat)
  deriving DecidableEq, Repr

/-- One MSI-X vector (R344): table entry and pending bit. -/
structure MsixVec where
  addr : Nat := 0
  data : Nat := 0
  masked : Bool := true
  pending : Bool := false
  deriving DecidableEq, Repr

/-- The link options of one function that the host programs (R330), at the reset values of PCIe Base 6.0 (log entry 6). -/
structure LinkOpts where
  /-- Max_Payload_Size and Max_Read_Request_Size: 128 bytes times two to this power. -/
  maxPayload : Nat := 0
  maxRead : Nat := 2
  relaxedOrdering : Bool := true
  idOrdering : Bool := false
  noSnoop : Bool := true
  aspmL1 : Bool := false
  ecrcGenerate : Bool := false
  ecrcCheck : Bool := false
  /-- AER's uncorrectable error status, as the bits that are set (R343). -/
  aer : List Nat := []
  deriving DecidableEq, Repr

/-- The configuration state of one function (R330, R334, R336, R344). -/
structure Func where
  /-- The function exists: the PF always, a VF while VF Enable is 1. -/
  present : Bool := false
  busMaster : Bool := false
  d3hot : Bool := false
  msixEnable : Bool := false
  msixMask : Bool := false
  vecs : Store Nat MsixVec := []
  opts : LinkOpts := {}
  /-- A function-level reset runs (R346). -/
  inReset : Bool := false
  /-- A disable runs (R557 to R559). -/
  disabling : Bool := false
  /-- Items of the running disable that ended VOID and WITHDRAWN (R394, R559). -/
  voided : Nat := 0
  withdrawn : Nat := 0
  deriving DecidableEq, Repr

/-- Stall states (R351). -/
inductive StallState where
  | closed | awake | asleep | draining | halted
  deriving DecidableEq, Repr

/-- One stall: its descriptor as read at the open (R352), its indices (R357) and its watcher state (R358 to R361). -/
structure Stall where
  st : StallState := .closed
  /-- The function that opened it. -/
  fn : Nat := 0
  /-- An open waits for its descriptor and doorbell reads (R354). -/
  opening : Bool := false
  orderBase : Nat := 0
  rcptBase : Nat := 0
  orderLog2 : Nat := 0
  rcptLog2 : Nat := 0
  vector : Nat := 0xFFFF
  prod : Nat := 0
  rcons : Nat := 0
  cons : Nat := 0
  rprod : Nat := 0
  /-- Receipt slots reserved by fetched orders (R361). -/
  reserved : Nat := 0
  /-- A doorbell read of the stall is outstanding (R342). -/
  dbRead : Bool := false
  /-- A wake bell found the stall AWAKE with a read outstanding: one extra read follows it (R360). -/
  again : Bool := false
  /-- The outstanding doorbell read is the final read of R359. -/
  finalRead : Bool := false
  /-- Consecutive failed doorbell reads (R366). -/
  dbFails : Nat := 0
  /-- Latest of the last new PROD, the open, the last wake and the last failed final read (R359). -/
  idleFrom : Tu := 0
  /-- Orders the stall may still fetch (R361). -/
  allowance : Nat := 16
  /-- A close has been accepted, which CTL_DONE has not yet reported (R355). -/
  closeReq : Bool := false
  /-- The stall channel's message; none = empty (R448). -/
  msg : Option Bytes := none
  /-- Numbers the messages of the channel, so that a port's read clears only the message it latched (R459). -/
  msgNo : Nat := 0
  deriving DecidableEq, Repr

/-- Where an order, work item or graph stands between its fetch and its final receipt. -/
inductive Stage where
  /-- Fetched; its order read is outstanding (R361). -/
  | fetched
  /-- Its form check waits for the read of its reservation block or lists (R374). -/
  | blockRead
  /-- Behind a fence (R368, R391). -/
  | fenced
  /-- Checked and free to start; its own order row starts it. -/
  | routed
  /-- Started; waits for data from host memory. -/
  | dataRead
  /-- Offered to the Toll (R399). -/
  | offered
  /-- On the Toll's delay list (R399 WAITING). -/
  | waiting
  /-- A joint part whose budgets hold: it takes part in the exchange of R266. -/
  | joint
  /-- Admitted; its window has not begun (R405). -/
  | admitted
  /-- Its window has begun. -/
  | window
  /-- Runs: a burst between its cycle 0 and its last vector, an open watch, a started order, item or graph. -/
  | running
  /-- A burst in its closing interval (R34). -/
  | closing
  /-- Stopped; only its final writes and receipt remain. -/
  | stopped
  /-- A GRAPH that waits for its dependencies (R390). -/
  | depWait
  /-- An item in its class queue or a graph in the graph queue (R422, R436). -/
  | queued
  /-- An item whose context is saved (R427). -/
  | preempted
  /-- An item on the scheduler's delay list (R434). -/
  | delayed
  /-- An item whose context is being saved (R429). -/
  | saving
  /-- Its final receipt is raised and not yet issued. -/
  | ended
  deriving DecidableEq, Repr

/-- A memory rate that the Toll charges to the local ranges it touches (R406, R407). -/
structure MemRate where
  /-- Requester number of R470. -/
  requester : Nat
  /-- (address, length) of each range; the rate is spread over their grains. -/
  ranges : List (Nat × Nat)
  /-- GB/s. -/
  rate : Rat
  /-- Producer buffer, bytes. -/
  buffer : Nat
  deriving DecidableEq, Repr

/-- What the Toll reserves for an admitted order (R405 to R413). -/
structure Resv where
  /-- Window start S0 − L_A. -/
  start : Tu := 0
  /-- Window end; none = open-ended. -/
  stop : Option Tu := none
  rates : List MemRate := []
  /-- Declared host rate, GB/s. -/
  hostRate : Rat := 0
  /-- Peak and mean power, W. -/
  peak : Rat := 0
  mean : Rat := 0
  deriving DecidableEq, Repr

/-- A postponement of refresh on one stack (R409): its span, and the refreshes it owes. -/
structure Postpone where
  start : Tu
  stop : Tu
  owed : Nat
  deriving DecidableEq, Repr

/-- An order from its fetch to its final receipt. -/
structure Work where
  stall : Nat
  fn : Nat
  /-- Position in the stall's order ring (CONS at the fetch). -/
  idx : Nat
  /-- The 64 bytes of the order (R363). -/
  ord : Bytes := []
  /-- Its reservation block (R374). -/
  blk : Bytes := []
  /-- Its measurement descriptors (R378, GRAPH KIND 1) and participant list (R379). -/
  meas : Bytes := []
  parts : Bytes := []
  /-- Host data read for it: an image or a frame. -/
  data : Bytes := []
  stage : Stage := .fetched
  /-- Its reservation block has passed the form check (R374, R400). -/
  formed : Bool := false
  /-- Orders that FENCE must wait for, by fetch number (R391), and orders that a GRAPH depends on (R390). -/
  waits : List Nat := []
  /-- Void cause (R367); 0 = none. -/
  cause : Nat := 0
  /-- Receipts issued and receipt slots still reserved for it (R361). -/
  slots : Nat := 2
  /-- Assumed pace (R21), start instant S0, promise (0 = none) and Toll decision instant, free-running. -/
  pace : Nat := 0
  s0 : Tu := 0
  promise : Tu := 0
  decided : Tu := 0
  /-- Device time at that decision, as the ADMITTED receipt shows it (R364). -/
  decidedDt : Nat := 0
  /-- Release time on the delay list (R416) and the number of the entry's arrival there. -/
  release : Tu := 0
  entered : Nat := 0
  /-- Its place in the order of the Toll's decisions (R398). -/
  key : List Nat := []
  resv : Resv := {}
  /-- What a restarted decision restores (R23): segments of a fill whose content was VALID, postponements of the stacks. -/
  wasValid : List Nat := []
  wasPost : List (Nat × Option Postpone) := []
  /-- The lanes that were bound to its sequencer at its admission (R230). -/
  lanes : List Nat := []
  /-- Instant at which its last vector ended, or its watch closed. -/
  endAt : Tu := 0
  /-- Channels or sub-items of a multi-part order still outstanding: LEVEL_SET channels settling, PMU_MEASURE channels. -/
  left : List Nat := []
  /-- Results gathered for the final receipt: bytes written, records, results, vectors. -/
  count : Nat := 0
  /-- Commit result, first failing channel and set of LEVEL_SET and TIMING_COMMIT (R396). -/
  result : Nat := 0
  failCh : Nat := 0
  failSet : Nat := 0
  /-- WARM, SHIFT_BROKEN and STOPPED flags of its receipt (R364). -/
  rflags : Nat := 0
  /-- It holds its resources and reservations: admitted, or the HELD part of a joint burst (R266, R399). -/
  held : Bool := false
  /-- The ADMITTED receipt has been raised. -/
  admittedRcpt : Bool := false
  deriving DecidableEq, Repr

/-- A receipt that the device has raised and not yet issued (R340, R364). -/
structure RaisedReceipt where
  work : Nat
  status : Nat
  final : Bool
  cause : Nat := 0
  /-- Bytes 46 to 62 (R396). -/
  detail : Bytes := []
  /-- Its place among all that the device has raised for the transmit queue (R340). -/
  no : Nat := 0
  deriving DecidableEq, Repr

/-- A trigger of an MSI-X vector that is not yet taken (R340, R344). -/
structure Trigger where
  fn : Nat
  vector : Nat
  /-- Its place among all that the device has raised for the transmit queue. -/
  no : Nat := 0
  deriving DecidableEq, Repr

/-- An event that a source has raised and the router has not yet presented (R454). -/
structure RaisedEvent where
  source : Nat
  /-- Presentation instant. -/
  at_ : Tu
  /-- Direction of a Crier or gate change (R457). -/
  rising : Bool := true
  /-- Mark number of a MARK source. -/
  mark : Nat := 0
  deriving DecidableEq, Repr

/-- An event on its way to a destination (R455). -/
structure Arrival where
  dest : Nat
  source : Nat
  at_ : Tu
  /-- The route it takes (the lowest-numbered acts first, R459). -/
  route : Nat
  action : Nat := 0
  fn : Nat := 0
  vector : Nat := 0
  deriving DecidableEq, Repr

/-- A detection on its way to the fault collector (R544). -/
structure Detection where
  kind : Nat
  cause : Nat
  source : Nat
  /-- Event source code of a router fault input (R455). -/
  routed : Nat := 0
  /-- Orders, items and graphs that the detector names itself. -/
  works : List Nat := []
  /-- Pace reading of a PACE detection (R22). -/
  reading : Nat := 0
  /-- The instant of the report. -/
  at_ : Tu := 0
  deriving DecidableEq, Repr

/-- An event for the Ledger (R566, R570). TIME is added when the keeper takes it. -/
structure LedgerEv where
  code : Nat
  source : Nat
  aux : Nat
  data : Nat
  /-- The event takes the record reserved for a CAL_LOAD (R572). -/
  reserved : Bool := false
  /-- The instant of the event (R570). -/
  at_ : Tu := 0
  deriving DecidableEq, Repr

/-- A Ledger write in progress (R567, R569): a new record of eight words, or the count update of the last record. -/
structure LedgerWrite where
  words : List Word
  update : Bool := false
  /-- It uses a reserved record (R572). -/
  reserved : Bool := false
  deriving DecidableEq, Repr

/-- A segment of the vector pool (R111): FILLING, or ACTIVE while `refs` is not 0, or FREE; and its content flag. -/
structure Seg where
  filling : Bool := false
  refs : Nat := 0
  valid : Bool := false
  deriving DecidableEq, Repr

/-- A read port of a function's stall channels (R449). -/
structure MbxPort where
  valid : Bool := false
  stall : Nat := 0
  data : Bytes := []
  msgNo : Nat := 0
  deriving DecidableEq, Repr

/-- How the last read command ended: with data, Completer Abort, Unsupported Request, or an access fault of the agent (R451, R453). -/
inductive ReadStatus where
  | ok | completerAbort | unsupported | accessFault
  deriving DecidableEq, Repr

/-- A timing commit that is accepted and has not yet taken effect (R95, R97). -/
structure TsCommit where
  accept : Tu
  chans : List Nat
  /-- TIMING_COMMIT orders that wait for it (R385). -/
  works : List Nat := []
  deriving DecidableEq, Repr

/-- A frame in a port's launch queue (R392). -/
structure LaunchFrame where
  work : Nat
  /-- Launch instant, free-running. -/
  at_ : Tu
  late : Bool := false
  deriving DecidableEq, Repr

end Sys2Proof.Machine
end

