-- ==== Sys2Proof/Machine/UnitTypes.lean ====
section
/-!
DEFINITION. The records of State for the units: what a unit holds beside its registers.
-/

namespace Sys2Proof.Machine

/-- Where a channel's level change stands (R42, R51, R59). -/
inductive RampPhase where
  /-- No level change in progress. -/
  | idle
  /-- A commit is accepted and its ramp has not started (at most 200 ns, R59). -/
  | starting
  /-- The driver range switch runs (R42). -/
  | switching
  /-- The forced current ramps to 0 before a range change in FIMV (R51). -/
  | zeroing
  | ramping
  /-- The ramp has ended and the levels settle (at most 2 µs, R59). -/
  | settling
  /-- The safe state halted the ramp (R65). -/
  | halted
  deriving DecidableEq, Repr

/-- One channel's front end beside its registers. The six ramped levels stand in the order VIH, VIL, VOH, VOL, VCOM, FORCE, each as
the code its DAC is driven to (R529). -/
structure Chan where
  phase : RampPhase := .idle
  /-- The DAC codes at the start of the ramp, and its targets. -/
  frm : List Rat := [0x3334, 0x3000, 0x3000, 0x3000, 0x3000, 0x3000]
  target : List Rat := [0x3334, 0x3000, 0x3000, 0x3000, 0x3000, 0x3000]
  /-- Start instant and length of the straight line, in tu (R58). -/
  start : Tu := 0
  len : Rat := 0
  /-- The driver range, PMU mode and PMU range that the front end is switched to. -/
  range : Nat := 0
  pmuMode : Nat := 0
  pmuRange : Nat := 4
  /-- The driver is at high impedance for a range switch, until the ramp that follows it ends (R42). -/
  hiZ : Bool := false
  /-- Until this instant the current clamp of `clampRange`, the lower-current range of a range switch in FVMI, applies (R51). -/
  clampUntil : Tu := 0
  clampRange : Nat := 4
  /-- The window that the safety window monitor uses (R62). -/
  winLo : Nat := 0
  winHi : Nat := 0xFFFF
  /-- The levels are verified since the last accepted commit; a verification is pending; it is in the converter's round (R518). -/
  verified : Bool := true
  verifyPending : Bool := false
  inRound : Bool := false
  /-- The latched outcome of the cycle (R46); none = cleared. -/
  latch : Option Nat := none
  /-- What the pattern asks of the driver: 0 high impedance, 1 low, 2 high (R41). -/
  drive : Nat := 0
  /-- The load is connected by a cycle's state (R48, LOAD_MODE 0). -/
  loadOn : Bool := false
  /-- A built-in procedure has the channel on the calibration bus (R537). -/
  onCalBus : Bool := false
  /-- The previous data value (R118), and the level of the drive waveform, which holds while the driver is off (R83). -/
  prev : Bool := false
  lvl : Bool := false
  /-- Land instant of the last stamped transition (R196), and whether it carried WARM (R301). -/
  stampAt : Option Int := none
  stampWarm : Bool := false
  deriving DecidableEq, Repr

/-- One edge that a cycle places at a land (R77, R83, R86). -/
inductive EdgeAct where
  | driverOn | driverOff | data (v : Bool) | loadOn | loadOff
  deriving DecidableEq, Repr

structure PinEdge where
  chan : Nat
  at_ : Int
  act : EdgeAct
  /-- The correction with which the device places it, in eighths of a tu (R530). -/
  corr : Int := 0
  deriving DecidableEq, Repr

/-! ## Sequencers -/

/-- A 256-bit set of sites or channels, as the micro-engine holds it (R174). -/
abbrev Set256 := BitVec 256

/-- The kinds of run (R142, R143, R150, R156). -/
inductive RunKind where
  | vec | repeat_ | shift | match_ | quiet
  deriving DecidableEq, Repr

/-- A run of cycles being emitted. -/
structure Run where
  kind : RunKind
  seg : Nat := 0
  /-- The next row; for a SHIFT the template row. -/
  row : Nat := 0
  /-- Selecting rows (R121). -/
  form : Bool := false
  /-- The next chain row of a SHIFT. -/
  chainRow : Nat := 0
  /-- Cycles left of the instruction, iteration or quiet beat, and of the present beat (R139). -/
  left : Nat := 0
  beat : Nat := 0
  deriving DecidableEq, Repr

/-- A BRFAIL whose quiet cycles run (R154). -/
structure BrFail where
  sites : Nat
  invert : Bool
  clear : Bool
  seg : Nat
  idx : Nat
  deriving DecidableEq, Repr

/-- A MATCH in progress (R156). -/
structure MatchSt where
  sites : Nat
  form : Bool
  seg : Nat
  row : Nat
  rows : Nat
  limit : Nat
  timeout : Nat
  iters : Nat := 0
  /-- Sites that failed in the present iteration. -/
  fails : Set256 := 0
  /-- Iterations that have ended and whose outcome is not yet known: end instant, failing sites. -/
  ended : List (Tu × Set256) := []
  /-- The quiet cycles of step 3 have been emitted. -/
  quietDone : Bool := false
  /-- Microwords carry the MATCH out; they decide at its iteration boundaries. -/
  micro : Bool := false
  deriving DecidableEq, Repr

/-- A HOLD that waits (R159). -/
structure HoldSt where
  line : Nat
  cond : Nat
  entry : Tu
  deadline : Option Tu
  jump : Bool
  target : Nat
  /-- The release instant, once the condition has been met. -/
  release : Option Tu := none
  /-- The next instruction boundary of the wait (R139). -/
  nextBoundary : Tu
  deriving DecidableEq, Repr

/-- An action queued for the next cycle start (R138). -/
inductive SeqAct where
  | setts (groups sel0 sel1 : Nat)
  | dir (group bits : Nat)
  | edgecmp (enter : Bool) (group bits : Nat)
  | mark (num : Nat)
  | captureOn
  | captureOff
  deriving DecidableEq, Repr

/-- The program window of one depth (R145): its return address, its counters and the window that holds it; none = spilled. -/
structure Win where
  ret : Nat := 0
  c : List Nat := [0, 0, 0, 0]
  slot : Option Nat := some 0
  deriving DecidableEq, Repr

/-- The phases of a sequencer. -/
inductive SeqPhase where
  /-- No burst has started. -/
  | off
  /-- The next instruction is due. -/
  | ready
  | emit
  /-- A BRFAIL's quiet cycles have run (R154). -/
  | brDecide
  /-- At an iteration boundary of a MATCH (R156). -/
  | matchDecide
  | hold
  /-- The burst has ended or stopped. -/
  | ended
  deriving DecidableEq, Repr

/-- The capture of a burst (R204 to R214). -/
structure CapRun where
  on : Bool := false
  /-- Row width in bits, fixed at admission (R204, R239). -/
  rowBits : Nat := 0
  /-- Lanes of a LANE_RAW row with their slot widths, fixed at admission (R239). -/
  widths : List (Nat × Nat) := []
  /-- Rows captured, and captured rows that LINEAR did not record. -/
  rows : Nat := 0
  unrecorded : Nat := 0
  firstVector : Nat := 0
  /-- The CRC-32C so far over whole bytes, and the bits of the last partial byte (R210). -/
  crc : BitVec 32 := 0xFFFFFFFF#32
  tail : Nat := 0
  tailBits : Nat := 0
  full : Bool := false
  wrapped : Bool := false
  gaps : Bool := false
  done : Bool := false
  /-- A CAPTURE_OFF has taken effect. -/
  wasOff : Bool := false
  spans : List (Nat × Nat) := []
  spanCount : Nat := 0
  triggered : Bool := false
  noEdge : Bool := false
  routed : Bool := false
  warm : Bool := false
  trigRow : Option Nat := none
  trigVector : Nat := 0
  trigTime : Nat := 0
  trigChan : Nat := 0xFFFF
  /-- Rows captured before the trigger row. -/
  trigIndex : Nat := 0
  /-- Trigger bits of the previous evaluated cycle. -/
  prevBits : Option Set256 := none
  /-- Arrival of a routed capture-trigger event (R212). -/
  routedAt : Option Tu := none
  /-- EC records handed to the graph unit (R308, EC_OFFSET): channel, OFF1 with its instant where the record gives a sample, WARM. -/
  ecTap : List (Nat × Option (Int × Tu) × Bool) := []
  deriving DecidableEq, Repr

/-- What runs on one sequencer. -/
structure Seq where
  /-- The admitted burst that holds the sequencer. -/
  work : Option Nat := none
  /-- A fault notice or disable on its way to the micro-engine (R182): void cause and the instant at which it was latched; and the notice that has
  reached the engine, with the instant of its arrival. -/
  notice : Option (Nat × Tu) := none
  noticed : Option (Nat × Tu) := none
  phase : SeqPhase := .off
  paused : Bool := false
  /-- Arrival of a PAUSE and of a STOP that have not yet been sampled (R163, R167). -/
  pauseReq : Option Tu := none
  stopReq : Option Tu := none
  /-- An instruction boundary is due (R139). -/
  bdry : Bool := false
  /-- Segment and index of the current instruction and of the next. -/
  seg : Nat := 0
  idx : Nat := 0
  nseg : Nat := 0
  nidx : Nat := 0
  depth : Nat := 0
  dmax : Nat := 0
  wins : Store Nat Win := [(0, {})]
  sel0 : Nat := 0
  sel1 : Nat := 0
  /-- Owned channels in drive direction and in edge-compare (stream mode). -/
  drive : Set256 := 0
  ec : Set256 := 0
  acts : List SeqAct := []
  active : Set256 := 0
  atStart : Set256 := 0
  lfail : Set256 := 0
  bfail : Set256 := 0
  matched : Set256 := 0
  /-- Event latches: the instants of the events on an input since its latch was last cleared, oldest first (R155). -/
  ev : Store Nat (List Tu) := []
  /-- The redirect that is armed: segment, index, BREAK (R164). -/
  redirect : Option (Nat × Nat × Bool) := none
  /-- Fetch credit in bits (R125) and instruction credit in tu (R141). -/
  fcredit : Nat := 32768
  icredit : Nat := 4194304
  /-- The line store, most recently used first (R124). -/
  lines : List Nat := []
  /-- The line that holds the row of a REPEAT or a SHIFT template has been read once (R142, R143). -/
  onceRead : Bool := false
  /-- Period in force; 0 before the first vector. -/
  period : Nat := 0
  /-- The timing set that the last emitted vector selected on the lowest owned channel (R150). -/
  lastSet : Option Nat := none
  /-- Start of the next cycle; it is a phase reset; the number of the present cycle (R77, R79). -/
  nextStart : Tu := 0
  reset : Bool := true
  cycle : Nat := 0
  /-- Instant of the first cycle 0 (R376). -/
  first0 : Tu := 0
  started : Bool := false
  run : Option Run := none
  brf : Option BrFail := none
  mat : Option MatchSt := none
  holdSt : Option HoldSt := none
  /-- Target that follows the remaining beats after a resume (R165). -/
  after : Option (Nat × Nat) := none
  vectors : Nat := 0
  /-- Vector number of the cycle in progress (R200). -/
  vecNow : Nat := 0
  /-- The retirements that copy B of the compare logic records (R202). -/
  retired : Set256 := 0
  /-- Mark numbers that have taken effect (R212). -/
  marks : List Nat := []
  cap : CapRun := {}
  /-- Admission copy of CAP_GLITCH_FAIL (R216). -/
  glitchFail : List Nat := []
  /-- Per site: FAIL_CYCLES and FIRST_FAIL (R199). -/
  siteFails : Store Nat (Nat × Nat) := []
  chFails : Store Nat Nat := []
  chGlitches : Store Nat Nat := []
  /-- The micro-engine: scratch registers, flags, instruction fields, address of the current microword, microwords since the last
  boundary, return point of the trap in progress (R174, R177, R180). -/
  t : List (BitVec 64) := List.replicate 8 0#64
  fz : Bool := false
  fn : Bool := false
  fc : Bool := false
  irOp : Nat := 0
  irMod : Nat := 0
  irX : Nat := 0
  irY : Nat := 0
  irZ : Nat := 0
  upc : Nat := 0x0100
  ucount : Nat := 0
  trap : Option Nat := none
  /-- Window 7, the trap handler's (R145): its return address is the return point of the trap. -/
  w7 : Win := { slot := some 7 }
  /-- Local address of the spill area, copied at burst start (R132, R174). -/
  spillAt : Nat := 0
  /-- A SPILL or FILL has been issued and not waited for; the slot that the SPILL writes. -/
  memBusy : Bool := false
  spilling : Option Nat := none
  deriving DecidableEq, Repr

/-! ## Protocol lanes -/

/-- Where the compare of a lane stands (R234, R235). -/
inductive CmpPhase where
  | off
  /-- The start condition is looked for. -/
  | armed
  | running
  | done
  deriving DecidableEq, Repr

/-- What a lane holds beside its registers (R222 to R238). -/
structure Lane where
  /-- The received bit, counted from CDR lock, at which the next candidate block starts (R222, R223). -/
  next : Nat := 0
  /-- The transmitter runs from this instant on: the accepted MODE write (R228). -/
  txFrom : Option Tu := none
  /-- Consecutive valid headers, and headers examined since the last entry to HUNT or the last HUNT_SLOW. -/
  valid : Nat := 0
  examined : Nat := 0
  /-- Invalid flags of the last 64 headers, newest first (R224). -/
  window : List Bool := []
  /-- The descrambler's register, newest bit 0 (R227). -/
  descr : BitVec 58 := 0
  phase : CmpPhase := .off
  /-- The block whose header was last examined is compared. -/
  cmpBlock : Bool := false
  anchored : Bool := false
  /-- A compare-start event has reached the lane (R234). -/
  started : Bool := false
  blocks : Nat := 0
  blockErrs : Nat := 0
  bitErrs : Nat := 0
  headerErrs : Nat := 0
  firstErr : Option Nat := none
  startVector : Option Nat := none
  /-- The last 31 bits of the expected sequence, newest bit 0 (R233). -/
  prbs : BitVec 31 := 0
  lockLosses : Nat := 0
  losSeen : Bool := false
  huntSlow : Bool := false
  /-- The compare has ended PASS with the burst's last cycle, and its copies are not yet checked (R238). -/
  passDue : Bool := false
  deriving DecidableEq, Repr

/-! ## Tally -/

/-- A transition of a stamp source that has not yet reached its slot (R277). -/
structure SrcEdge where
  source : Nat
  rising : Bool
  at_ : Tu
  deriving DecidableEq, Repr

/-- A stamp or marker record (R293). -/
structure StampRec where
  time : Tu
  source : Nat
  /-- SLOPE: rising; in a marker, arm. -/
  rising : Bool
  held : Bool := false
  warm : Bool := false
  first : Bool := false
  marker : Bool := false
  /-- The slot's count, modulo 2²⁴. -/
  seq : Nat
  deriving DecidableEq, Repr

/-- Where a slot's stamping stands (R281, R282, R289). -/
structure SlotRun where
  credit : Nat := 0
  /-- The previous edge counted since the arm. -/
  tLast : Tu := 0
  /-- The last stamp since the arm. -/
  tStamp : Option Tu := none
  armed : Bool := false
  arms : Nat := 0
  /-- Disarm instant of DISARM TIME. -/
  disarmAt : Option Tu := none
  /-- Disarm instant of DISARM COUNT, up to which the slot does not arm again. -/
  barred : Option Tu := none
  armStamps : Nat := 0
  stamps : Nat := 0
  /-- An edge was held off since the previous stamp. -/
  held : Bool := false
  count : Nat := 0
  deriving DecidableEq, Repr

/-- What has come to a slot at one instant, and the slot and its HELD bit before it (R305). -/
structure SlotTie where
  at_ : Tu
  before : SlotRun
  heldBit : Bool
  arm : Bool := false
  disarm : Bool := false
  /-- A transition of the slot's slope; its direction. -/
  edge : Option Bool := none
  deriving DecidableEq, Repr

/-- A slot of a watch: the copies of its registers (R287), where its stamping stands, the last instant at which something came to it. -/
structure TSlot extends SlotRun where
  slot : Nat
  cfg : Word := 0xFFFF#32
  armsel : Word := 0#32
  h : Nat := 1024
  hs : Nat := 4096
  depth : Nat := 64
  nstamp : Nat := 1
  dur : Nat := 1024
  tie : Option SlotTie := none
  deriving DecidableEq, Repr

/-- An admitted watch (R285 to R288, R295). -/
structure Watch where
  slots : List TSlot := []
  /-- Copies of the TALLY_INn_CFG of its TALLY_IN sources (R287). -/
  inCfg : List (Nat × Word) := []
  /-- Graph units that its measurements hold (R309), in descriptor order. -/
  units : List Nat := []
  openAt : Option Tu := none
  /-- The close instant, once it is known: the declared end, a TALLY_DISARM, a void or the burst's end. -/
  closeAt : Option Tu := none
  /-- The close instant that the record count fixes (R388). -/
  limitAt : Option Tu := none
  /-- RECORD_LIMIT (R388); 0 = none. -/
  limit : Nat := 0
  closed : Bool := false
  /-- The result blocks are written. -/
  measured : Bool := false
  /-- Records produced, and those that were for the region. -/
  records : Nat := 0
  regionRecs : Nat := 0
  notRecorded : Nat := 0
  full : Bool := false
  wrapped : Bool := false
  warmSeen : Bool := false
  gateFast : Bool := false
  /-- Records handed to the graph tap, by slot, oldest first (R280). -/
  tap : List (Nat × StampRec) := []
  deriving DecidableEq, Repr

/-- A stamp region as its watch left it: rows, records that were for it, its slots with their sources and slopes (R295, R311). -/
structure Region where
  rows : Nat
  recs : Nat
  slots : List (Nat × Nat × Nat) := []
  deriving DecidableEq, Repr

/-- A record in a Row concentrator (R283). -/
structure ConcRec where
  row : Nat
  work : Nat
  slot : Nat
  stamp : StampRec
  deriving DecidableEq, Repr

/-- A gate: its level, its last accepted transition (R290). -/
structure Gate where
  level : Bool := false
  last : Option Tu := none
  deriving DecidableEq, Repr

/-- A single-start multi-stop run on a Row (R302, R303): its start, its stops with their slopes, repeats, address of the result block. -/
structure SsmsRun where
  start : SsmsStart
  stops : List (Nat × Bool)
  repeats : Nat
  addr : Nat
  deriving DecidableEq, Repr

/-! ## Halls -/

/-- A GSL message (R248). -/
structure GslMsg where
  mtype : Nat
  src : Nat
  /-- Destination ring position; 0x3F = every device. -/
  dst : Nat
  data : Nat := 0
  arg : Nat := 0
  /-- Receive instant, and the window that the frame reported. -/
  at_ : Tu := 0
  win : Int := 0
  deriving DecidableEq, Repr

/-- What a device knows of a ring position from its ADVERT (R247, R252). -/
structure Peer where
  id : Nat
  serial : Nat
  candidate : Bool
  oven : Bool
  /-- The advert belongs to the present election. -/
  fresh : Bool := true
  deriving DecidableEq, Repr

/-- A GSL port beside its registers (R249, R254, R258). -/
structure GslPort where
  /-- Messages waiting for a frame of this port, oldest first. -/
  out : List GslMsg := []
  /-- Send instants of the probes that wait for their replies, oldest first. -/
  probes : List Tu := []
  /-- The instant of the last drift beyond limits (R258). -/
  driftAt : Option Tu := none
  /-- Exchanges averaged so far in CAL or in the present 1 ms window, and the sums of their delays and offsets. -/
  n : Nat := 0
  sumD : Int := 0
  sumT : Int := 0
  /-- The link's offset θ from its last calibration. -/
  theta : Int := 0
  /-- Crier changes that wait for a frame of this port, oldest first: the window they fall in, and (line, level, offset). -/
  crier : List (Int × List (Nat × Bool × Nat)) := []
  /-- LEVEL of the last frame used from this port. -/
  level : Nat := 0
  /-- The neighbour breaks R246: the link is kept out of the ring. -/
  bad : Bool := false
  /-- The last frame sent, 280 bits. -/
  sent : Nat := 0
  deriving DecidableEq, Repr

/-- The driver of a Crier line that this device sources (R259, R260): its level at the end of the last window that a frame reported,
and its changes since, by hall instant. -/
structure CrierDrv where
  level : Bool := false
  changes : List (Int × Bool) := []
  deriving DecidableEq, Repr

/-- A change of a Crier line that waits for its action instant, in hall time (R261). -/
structure CrierChange where
  line : Nat
  level : Bool
  /-- t_e + LAT. -/
  at_ : Int
  deriving DecidableEq, Repr

/-- A Crier configuration (R263): latency in ns, enables, source positions; and the hall instant at which it takes effect. -/
structure CrierCfg where
  lat : Nat := 1500
  en : Nat := 0
  pos : List Nat := [0, 0, 0, 0, 0, 0, 0, 0]
  at_ : Int := 0
  deriving DecidableEq, Repr

/-- States of a joint part (R266). -/
inductive JointPhase where
  | awaiting | deciding | preparing | held | admitted
  deriving DecidableEq, Repr

/-- A joint burst as one participant sees it (R266 to R268). -/
structure Joint where
  phase : JointPhase := .awaiting
  /-- Its own order. -/
  work : Option Nat := none
  /-- Ring position of the coordinator whose PREPARE it holds. -/
  prep : Option Nat := none
  /-- The 10 ms timer that runs. -/
  timer : Option Tu := none
  /-- Coordinator: participants prepared so far, itself included. -/
  prepared : Nat := 1
  /-- Coordinator: ring positions whose DONE has come. -/
  dones : List Nat := []
  /-- This participant has sent DONE (R268). -/
  doneSent : Bool := false
  deriving DecidableEq, Repr

/-! ## Scheduler, cores, graph units -/

/-- A work item beside its order (R427 to R435). -/
structure Item where
  /-- The core it runs on, and the last one it left. -/
  core : Option Nat := none
  last : Option Nat := none
  /-- Place among the PREEMPTED items of its class: the least is the head. -/
  place : Int := 0
  /-- Number of its last dispatch. -/
  num : Nat := 0
  /-- Writes of a placement are not yet acknowledged (R435). -/
  unacked : Bool := false
  /-- Release time in device time, and its entry on the delay list (R434). -/
  release : Int := 0
  entered : Nat := 0
  /-- The item that it was pre-empted for (R429). -/
  madeRoom : Option Nat := none
  deriving DecidableEq, Repr

/-- A graph in the graph queue or on a unit (R436 to R440). -/
structure GraphRun where
  unit : Option Nat := none
  /-- Place in the queue: the least is the head. -/
  place : Int := 0
  /-- Nodes that have written: their output bytes, terminating records excluded. -/
  outs : List Nat := []
  unacked : Bool := false
  deriving DecidableEq, Repr

/-- State of an L1 data line other than I (R441). -/
inductive LineState where
  | shared | exclusive | modified
  deriving DecidableEq, Repr

/-- A request that stands at a directory's element (R441). -/
structure CohReq where
  core : Nat
  line : Nat
  own : Bool
  deriving DecidableEq, Repr

/-! ## Memory -/

/-- The arbiter of one DRAM channel (R472 to R475). -/
structure Arb where
  raised : List Nat := []
  /-- The 64-byte lines that each raised requester holds data for or asks of the channel, oldest first (R472). -/
  asks : Store Nat (List Nat) := []
  /-- A refresh occupies the channel until this instant (R468). -/
  busy : Tu := 0
  /-- Requesters granted in the present round (R473). -/
  granted : List Nat := []
  /-- ARB_CLASS as it stood when the present round began (R473, R482). -/
  classes : List Nat := []
  /-- The last requester granted in each class (R473). -/
  last : Store Nat Nat := []
  /-- The full arrangement: ranks, highest first (R474); empty in the compact one. -/
  ranks : List Nat := []
  /-- The last requester granted, while it may still withdraw (R475). -/
  served : Option Nat := none
  deriving DecidableEq, Repr

/-- Self-refresh of the stacks (R477). -/
inductive SrefPhase where
  | none_ | closing | in_
  deriving DecidableEq, Repr

/-- A change of OFFSET and RATE within a hall that has not yet taken effect (R487). `step` and `rate` are what the master asks for;
`first` is the window that frame 0 of its pair reports; `offset` and `at_`, the value and the hall instant that the pair carries. -/
structure TimeChange where
  step : Int := 0
  rate : Int
  first : Option Int := none
  offset : Option Int := none
  at_ : Option Int := none
  deriving DecidableEq, Repr

/-- The servo beside its registers (R498, R499): the integral, consecutive inputs within LOCK_THRESH, instant of the last input. -/
structure Servo where
  integ : Int := 0
  good : Nat := 0
  last : Tu := 0
  deriving DecidableEq, Repr

/-! ## Converters and calibration -/

/-- A result that a converter is converting (R511, R513). -/
structure AdcRun where
  /-- The order, and the result's number: pass × ENTRIES + entry index of an ADC_SEQUENCE, the channel of a PMU_MEASURE. -/
  work : Nat
  ix : Nat
  pmu : Bool := false
  input : Nat
  sel : Nat := 0
  gain : Nat := 0
  /-- Conversions of the result, conversions completed, the sum of their values. -/
  total : Nat
  n : Nat := 0
  sum : Int := 0
  overRange : Bool := false
  restarted : Bool := false
  mixed : Bool := false
  /-- Live PMU mode and range when the result began (R510). -/
  mode : Nat := 0
  range : Nat := 0
  deriving DecidableEq, Repr

/-- A converter beside its registers (R513, R517). -/
structure Adc where
  /-- ADC_SEQUENCE orders that it holds, oldest first; it serves the first. -/
  seqs : List Nat := []
  /-- The least number that the next result of the served order may have, and the instant of its last result. -/
  next : Nat := 0
  last : Option Tu := none
  run : Option AdcRun := none
  /-- Safety requests: channel, and the values converted so far of its four conversions. -/
  safety : List (Nat × List Int) := []
  /-- A safety request aborted the verification of the round, which resumes after it (R517). -/
  roundAborted : Bool := false
  deriving DecidableEq, Repr

/-- Where the order in the calibration engine stands (R534). -/
inductive CalPhase where
  /-- Its image is being read. -/
  | reading
  /-- Its procedure runs. -/
  | measuring
  /-- Its layer is accepted; the commit instant has not come. -/
  | accepted
  /-- The layer is committed; channels settle. -/
  | committed
  deriving DecidableEq, Repr

/-- The order that the calibration engine serves (R533 to R537). -/
structure CalRun where
  work : Nat
  rows : List Nat
  phase : CalPhase := .reading
  /-- KIND and procedure of the image. -/
  kind : Nat := 0
  proc : Nat := 0
  /-- The accepted layer: channel and the values of its fields. -/
  layer : List (Nat × List Int) := []
  /-- What EDGE_LIN's runs have measured: for each channel, the mean and the number of repeats at fine codes 0, 1, … (R303, R538). -/
  means : Store Nat (List (Int × Nat)) := []
  /-- References that the procedure measured: Row, delay, temperature (R538). -/
  refs : List (Nat × Nat × Nat) := []
  deriving DecidableEq, Repr

/-! ## Power, reset -/

/-- A reset that is in progress (R599): its source code and, for a P4 exit, the event. -/
structure ResetRun where
  cause : Nat
  p4Event : Nat := 0
  deriving DecidableEq, Repr

/-- The oven controller beside its registers (R299): the integral, in-band readings of 10 ms, instant of the last reading. All are
keeper-retained. -/
structure Oven where
  i : Int := 0
  inBand : Nat := 0
  last : Tu := 0
  deriving DecidableEq, Repr

end Sys2Proof.Machine
end

