-- ==== Sys2Proof/Machine/State.lean ====
section
/-!
DEFINITION. The whole state of the block as plain data, the ways a step can stop, and the state after reset.
-/

namespace Sys2Proof.Machine

/-- Faults of the model. None of the meanings raises one: the spec gives every command an effect. -/
inductive Fault where
  /-- Raised by nobody; kept so that the type names what a stop would be. Safe. -/
  | stopped
  deriving DecidableEq, Repr

/-- Refusals of the model. -/
inductive Refusal where
  /-- Raised by an arm of `exec` that has no meaning yet. Safe. -/
  | notModelled (mnemonic : String)
  deriving DecidableEq, Repr

/-- The state of the block. -/
structure State where
  /-- Registers that differ from their reset value or have been written; every other register holds its reset value. -/
  regs : Store Reg Word := []
  /-- Local memory (R462). -/
  mem : Mem := []
  /-- 64-byte lines of local memory that are poisoned (R479, R480), by line number. -/
  poison : List Nat := []
  /-- The free-running counter, in tu (R484). -/
  fr : Tu := 0
  /-- The counter runs: the master has locked since the last reset (R484). -/
  frRuns : Bool := false
  /-- Free values used so far (the model's own field, log entry 4). -/
  free : Nat := 0
  /-- Boot has reached step 8, so that every BAR answers (R610). -/
  booted : Bool := false
  /-- The words that the last read command returned. -/
  rdata : List Word := []
  /-- Higher words of wide values that a read of their lowest word latched (R106). -/
  latch : Store Reg Word := []
  /-- How it ended. -/
  rstat : ReadStatus := .ok
  /-- Configuration state of the functions (R334). -/
  funcs : Store Nat Func := [(0, { present := true })]
  /-- NumVFs, ARI Capable Hierarchy and VF Enable of the PF (R334). -/
  numVfs : Nat := 0
  ari : Bool := false
  vfEnable : Bool := false
  stalls : Store Nat Stall := []
  /-- Orders, items and graphs without a final receipt, by fetch number. -/
  works : Store Nat Work := []
  nextWork : Nat := 0
  /-- Orders the device may still fetch (R361). -/
  devAllowance : Nat := 16
  /-- Receipts raised and not yet issued, oldest first. -/
  receipts : List RaisedReceipt := []
  /-- Assumed paces of the work whose final receipt was issued since the last pace reading (R23). -/
  donePaces : List Nat := []
  /-- Posted writes in the order of their issue, oldest first (R340, R341). -/
  tx : List HostWrite := []
  /-- Triggers of MSI-X vectors not yet taken, oldest first (R344). -/
  triggers : List Trigger := []
  /-- Numbers the receipts and triggers in the order in which the device raises them (R340). -/
  raiseNo : Nat := 0
  /-- Events raised and not yet presented, oldest first (R454). -/
  events : List RaisedEvent := []
  /-- Events on their way to their destinations (R455). -/
  arrivals : List Arrival := []
  /-- The last arrival instant of each destination (R457). -/
  lastArrival : Store Nat Tu := []
  /-- Detections not yet latched, oldest first (R544). -/
  detections : List Detection := []
  /-- Ledger events on their way to the keeper, oldest first. -/
  ledgerEvents : List LedgerEv := []
  /-- Read ports by (function, port) (R449). -/
  ports : Store (Nat × Nat) MbxPort := []
  /-- Segments that are not FREE and UNDEFINED (R111). -/
  segs : Store Nat Seg := []
  seqs : Store Nat Seq := []
  /-- Pending timing commits by sequencer; 32 stands for the unowned channels (R93). -/
  tsPending : Store Nat TsCommit := []
  /-- Launch queues of ETH0 and ETH1 (R392), oldest first. -/
  frames0 : List LaunchFrame := []
  frames1 : List LaunchFrame := []
  /-- Numbers the entries of the Toll's delay list in their order of arrival (R416). -/
  nextEntry : Nat := 0
  /-- The last frame that each Ethernet port sent, and its transmit stamp (R495, R500). -/
  ethOut : Store Nat (Bytes × Tu) := []
  /-- Channel front ends that differ from their reset state (R38). -/
  chans : Store Nat Chan := []
  /-- The edges that the most recently started cycle placed at the lands (R77, R83). -/
  edges : List PinEdge := []
  /-- Protocol lanes that differ from their reset state (R222). -/
  lanes : Store Nat Lane := []
  /-- The microcode patch RAM, 512 words (R176); empty = all 0. -/
  patch : List Word := []
  /-- Level and last action instant of each Crier line (R259, R261). -/
  crier : Store Nat (Bool × Tu) := []
  /-- Boot step 5 has applied the factory calibration layer (R527). -/
  factApplied : Bool := false
  /-- The Ledger's written records, each as eight words; record `i` is element `i` (R566). -/
  ledgRecs : List (List Word) := []
  /-- The keeper's pending events (R570) and its write in progress (R567). -/
  ledgQueue : List LedgerEv := []
  ledgWrite : Option LedgerWrite := none
  /-- Lane transmitters that the safe state put at high impedance and that no OFF write has freed since (R240). -/
  laneTxOff : List Nat := []
  /-- The latch of a safe-state entry that is not yet confirmed (R552). -/
  safeEntry : Option Tu := none
  /-- The supply-dip hold ends at this instant when no rail warns (R556). -/
  holdEnd : Option Tu := none
  /-- Start of the warning of each rail that warns (R554). -/
  warnSince : Store Nat Tu := []
  /-- Resets asserted by the device itself and not yet taken, by source (R599). -/
  resets : List (Nat × Tu) := []
  /-- Admitted watches by order (R285). -/
  watches : Store Nat Watch := []
  /-- Records in the Row concentrators, oldest first (R283). -/
  conc : List ConcRec := []
  gates : Store Nat Gate := []
  /-- Transitions of comparators and gates on their way to the slots of open watches, oldest first (R277). -/
  srcEdges : List SrcEdge := []
  /-- The stall whose turn at fetching it is, and the orders fetched in this turn (R361). -/
  turn : Nat × Nat := (0, 0)
  /-- Single-start multi-stop runs by Row (R302); Rows with a drift detection since their last re-measurement. -/
  ssms : Store Nat SsmsRun := []
  driftRows : List Nat := []
  /-- The instant at which HANDLING ended (R563). -/
  handledAt : Option Tu := none
  /-- The CAL_SAVE and CAL_LOAD orders that have reached the calibration engine, oldest first (R533). -/
  calQueue : List Nat := []
  oven : Oven := {}
  /-- The hall master's OVEN_READY as this device knows it (R300). -/
  masterOven : Bool := false
  /-- Joint bursts by joint ID (R266). -/
  joints : Store Nat Joint := []
  /-- GSL ports beside their registers, messages received and not yet acted on, adverts by ring position. -/
  gsl : Store Nat GslPort := []
  gslIn : List (Nat × GslMsg) := []
  peers : Store Nat Peer := []
  /-- The instant at which the last election began here; the ring positions of the devices that the hall last formed with (R252, R263). -/
  electAt : Tu := 0
  members : List Nat := []
  /-- Links known not to be UP, by the position of their DOWN end (R255, R270). -/
  linksDown : List Nat := []
  /-- The first half of a pair of TIME messages (R248). -/
  timeHalf : Option Nat := none
  /-- The change of device time that waits (R487), and whether device time has been set (R488). -/
  timeNext : Option TimeChange := none
  timeSet : Bool := false
  servo : Servo := {}
  /-- Receive rings by port: the start of the present second and the frames written in it (R497). -/
  ptpRate : Store Nat (Tu × Nat) := []
  /-- A duplicated device ID was found since the last reset (R247); a CRIER_CFG has come since the last election (R271). -/
  idConflict : Bool := false
  hallCfg : Bool := false
  /-- Crier lines driven here, changes that wait for their action instant, configurations that wait, in the order of their commits. -/
  crierDrv : Store Nat CrierDrv := []
  crierWait : List CrierChange := []
  /-- The instants at which pulses of Crier drivers end, by line (R456). -/
  pulses : List (Nat × Tu) := []
  crierCfg : List CrierCfg := []
  /-- The Crier configuration in force (R261, R263). -/
  crierNow : CrierCfg := {}
  /-- Outstanding postponements of refresh by stack (R409). -/
  postponed : Store Nat Postpone := []
  /-- Modelled temperatures of the Awning's nodes, °C (R410). -/
  awn : List Rat := [0, 0, 0, 0]
  /-- Work items and graphs by order; numbers dispatches and places in the queues. -/
  items : Store Nat Item := []
  graphs : Store Nat GraphRun := []
  schedNo : Nat := 0
  /-- a0 and a1 after the last service call (R432). -/
  callRet : Nat × Nat := (0, 0)
  /-- L1 data lines by (core, line); requests that stand at an element; recalls in progress by line, with the holder and the request
  that it serves; the requesters that lost the last arbitration for a line (R441, R442). -/
  l1 : Store (Nat × Nat) LineState := []
  cohWait : List CohReq := []
  recalls : Store Nat (Nat × CohReq) := []
  losers : Store Nat (List Nat) := []
  /-- Stamp regions that watches have written, by address (R295, R311). -/
  regions : Store Nat Region := []
  /-- Arbiters and refresh debts by DRAM channel (R468, R471); self-refresh of the stacks (R477). -/
  arbs : Store Nat Arb := []
  debt : Store Nat Nat := []
  sref : SrefPhase := .none_
  /-- The instant at which the self-refresh command was issued; the open rows, by channel and bank (R466, R477). -/
  srefAt : Tu := 0
  openRows : Store (Nat × Nat) Nat := []
  /-- Converters by number; the stored results of the Rows' queues, oldest first: result and tag (R521). -/
  adcs : Store Nat Adc := []
  results : Store Nat (List (Nat × Nat)) := []
  /-- Channels whose overstress detection has not yet been followed by its safety request; the values that the last safety request
  of each channel converted (R517). -/
  safetyDue : List Nat := []
  safetyRes : Store Nat (List Int) := []
  /-- The order in the calibration engine (R533). -/
  calRun : Option CalRun := none
  /-- Energy drawn by each of the 20 domains, in µJ (R598). -/
  energy : List Nat := []
  /-- The instant of a P4 request that stands (R590); the event that ends P4 (R614 P4_EVENT). -/
  p4Req : Option Tu := none
  p4Event : Nat := 0
  /-- The reset in progress; levels of PERST# and RESET_N; main power is good (R599, R601). -/
  inReset : Option ResetRun := none
  perstLow : Bool := false
  resetNLow : Bool := false
  powerGood : Bool := true
  /-- A pushed firmware image is being read or checked (R608). -/
  pushing : Bool := false
  /-- The watchdog's period in ms, and the instant it was last restarted (R611). -/
  wdtMs : Nat := 2000
  wdtFrom : Tu := 0
  /-- The words of a Ledger record whose write a loss of power cut short (R576). -/
  ledgTorn : Option (List Word) := none
  /-- log2 of the size of BAR4 (R338). -/
  bar4Log2 : Nat := 28
  /-- The commands that wait, oldest first. -/
  pending : List Instr := []
  deriving DecidableEq, Repr

/-- The machine right after reset: every register at its reset value (`resetWord`), local memory with nothing listed. -/
def State.reset : State := {}

end Sys2Proof.Machine
end

