-- ==== Sys2Proof/Machine/Ops.lean ====
section
/-!
DEFINITION. The shared operations: registers and their fields, local memory, time, and the queues by which one command's effect
reaches another (log entry 1): receipts, MSI-X triggers, router events, detections, Ledger events.
-/

namespace Sys2Proof.Machine

/-! ## Registers -/

/-- The reset value of a register. STALL_GRANT_0 and the port roles differ by index (R371, R245); fuse values are the
device's own (R192, R274); a CAL_USER record names its channel (R528). -/
def resetWord (r : Reg) : Word :=
  match r.name with
  | .STALL_GRANT_n => if r.i = 0 then 0xFFFFFFFF#32 else 0#32
  | .GSL_PORTn_CFG => if r.i = 0 then 0#32 else if r.i = 1 then 1#32 else 2#32
  | .BOOT_UCODE_ROMREV => Config.romRev
  | .GSL_SERIAL_0 => Config.serial.extractLsb' 0 32
  | .GSL_SERIAL_1 => Config.serial.extractLsb' 32 32
  | .CAL_USER => if r.j = 0 then BitVec.ofNat 32 r.i else 0#32
  | n => BitVec.ofNat 32 n.spec.reset

/-- Read a register. -/
def State.rd (s : State) (r : Reg) : Word := Store.getD s.regs r (resetWord r)

/-- Write a whole register. -/
def State.wr (s : State) (r : Reg) (w : Word) : State := { s with regs := Store.put s.regs r w }

/-- A field of a word. -/
def Fld.get (f : Fld) (w : Word) : Nat := (w.extractLsb' f.lsb f.width).toNat

/-- The word with a field replaced. -/
def Fld.put (f : Fld) (w : Word) (v : Nat) : Word :=
  (w &&& ~~~(BitVec.ofNat 32 ((2 ^ f.width - 1) * 2 ^ f.lsb))) ||| BitVec.ofNat 32 (v % 2 ^ f.width * 2 ^ f.lsb)

/-- Read a field of register `i`, `j` of its family. -/
def State.get (s : State) (f : Fld) (i : Nat := 0) (j : Nat := 0) : Nat := f.get (s.rd ⟨f.reg, i, j⟩)

/-- Whether a one-bit field is set. -/
def State.bit (s : State) (f : Fld) (i : Nat := 0) (j : Nat := 0) : Bool := s.get f i j == 1

/-- Write a field of register `i`, `j` of its family. -/
def State.set (s : State) (f : Fld) (v : Nat) (i : Nat := 0) (j : Nat := 0) : State :=
  s.wr ⟨f.reg, i, j⟩ (f.put (s.rd ⟨f.reg, i, j⟩) v)

/-- Set a one-bit field. A set wins over a W1C clear at the same instant, since commands are taken one by one (R12). -/
def State.setBit (s : State) (f : Fld) (i : Nat := 0) (j : Nat := 0) : State := s.set f 1 i j

/-- Clear a one-bit field. -/
def State.clrBit (s : State) (f : Fld) (i : Nat := 0) (j : Nat := 0) : State := s.set f 0 i j

/-- Set a one-bit field to a condition. -/
def State.setIf (s : State) (f : Fld) (b : Bool) (i : Nat := 0) (j : Nat := 0) : State := s.set f (if b then 1 else 0) i j

/-- Raise a counting field by `n`; it saturates at its largest value. -/
def State.countUp (s : State) (f : Fld) (n : Nat := 1) (i : Nat := 0) (j : Nat := 0) : State :=
  s.set f (min (s.get f i j + n) (2 ^ f.width - 1)) i j

/-- `n` consecutive words of one family (index `j` from 0) as one number, lowest word first. -/
def State.rdWords (s : State) (r : RegName) (i n : Nat) : Nat :=
  ((List.range n).map fun j => (s.rd ⟨r, i, j⟩).toNat * 2 ^ (32 * j)).sum

/-- Write a number into `n` consecutive words of one family. -/
def State.wrWords (s : State) (r : RegName) (i n v : Nat) : State :=
  (List.range n).foldl (fun s j => s.wr ⟨r, i, j⟩ (BitVec.ofNat 32 (v / 2 ^ (32 * j)))) s

/-- Write an 80-bit value into three registers (R106). -/
def State.wr80 (s : State) (a b c : RegName) (i v : Nat) : State :=
  ((s.wr ⟨a, i, 0⟩ (BitVec.ofNat 32 v)).wr ⟨b, i, 0⟩ (BitVec.ofNat 32 (v / 2 ^ 32))).wr ⟨c, i, 0⟩
    (BitVec.ofNat 32 (v / 2 ^ 64 % 2 ^ 16))

/-- A 256-bit mask held in eight words, as the list of its set bits. -/
def State.mask256 (s : State) (r : RegName) (i : Nat) : List Nat := setBits (s.rdWords r i 8) 256

/-- A Row is unused and off (R591). -/
def State.rowOff (s : State) (r : Nat) : Bool := bitOf (s.get F.PWR_ROW_OFF_OFF) r

/-! ## Time -/

/-- The free-running counter as its 80 bits show it (R484). -/
def State.fr80 (s : State) : Nat := s.fr % 2 ^ 80

/-- The counter has reached at least an instant: a command that happens at an instant takes the counter there. -/
def State.advanceTo (s : State) (t : Tu) : State := { s with fr := max s.fr t }

/-- OFFSET, signed (R485). -/
def State.offset (s : State) : Int :=
  signed ((s.rd ⟨.TIME_OFFSET_0, 0, 0⟩).toNat + (s.rd ⟨.TIME_OFFSET_1, 0, 0⟩).toNat * 2 ^ 32 +
    (s.rd ⟨.TIME_OFFSET_2, 0, 0⟩).toNat * 2 ^ 64) 96

/-- RATE, signed, in units of 2⁻⁴⁸ (R485). -/
def State.rate (s : State) : Int :=
  signed ((s.rd ⟨.TIME_RATE_0, 0, 0⟩).toNat + s.get F.TIME_RATE_1_RATE * 2 ^ 32) 40

/-- CORR, the hall correction, signed (R256, R485). -/
def State.corr (s : State) : Int :=
  signed ((s.rd ⟨.GSL_CORR_0, 0, 0⟩).toNat + (s.rd ⟨.GSL_CORR_1, 0, 0⟩).toNat * 2 ^ 32 +
    (s.rd ⟨.GSL_CORR_2, 0, 0⟩).toNat % 2 ^ 16 * 2 ^ 64) 80

/-- Device time of a free-running instant (R485). -/
def State.deviceTimeAt (s : State) (f : Tu) : Int :=
  let h : Int := (f : Int) + s.corr
  h + s.offset + (h * s.rate).fdiv (2 ^ 48)

/-- Device time now. -/
def State.deviceTime (s : State) : Int := s.deviceTimeAt s.fr

/-- Device time as 80 bits, the form of every record and register. -/
def State.dt80 (s : State) (f : Tu) : Nat := unsigned (s.deviceTimeAt f) 80

/-- The earliest free-running instant whose device time is at or after `l` (R489). -/
def State.toFree (s : State) (l : Nat) : Tu :=
  let den : Int := 2 ^ 48 + s.rate
  let h : Int := -((-(((l : Int) - s.offset) * 2 ^ 48)).fdiv den)
  (h - s.corr).toNat

/-! ## Free values -/

/-- The next free value: a number nothing constrains (log entry 4). -/
def State.freeVal (s : State) : Nat := Config.freeValue s.free

/-- Use up one free value. -/
def State.useFree (s : State) (n : Nat := 1) : State := { s with free := s.free + n }

/-- The next of a list in ascending order after a number, wrapping round. -/
def nextAfter (l : List Nat) (last : Option Nat) : Option Nat :=
  let least (l : List Nat) : Option Nat := match l with | [] => none | x :: t => some (t.foldl min x)
  match last with
  | none => least l
  | some n => match least (l.filter (n < ·)) with | some r => some r | none => least l

/-! ## Access helpers of the maps -/

def State.func (s : State) (f : Nat) : Func := Store.getD s.funcs f {}
def State.setFunc (s : State) (f : Nat) (v : Func) : State := { s with funcs := Store.put s.funcs f v }
def State.stall (s : State) (k : Nat) : Stall := Store.getD s.stalls k {}
def State.setStall (s : State) (k : Nat) (v : Stall) : State := { s with stalls := Store.put s.stalls k v }
def State.work? (s : State) (k : Nat) : Option Work := Store.get? s.works k
def State.setWork (s : State) (k : Nat) (v : Work) : State := { s with works := Store.put s.works k v }
def State.modWork (s : State) (k : Nat) (f : Work → Work) : State :=
  match s.work? k with
  | some w => s.setWork k (f w)
  | none => s

/-! ## What a command leaves for another command (log entry 1) -/

/-- A source raises an event with its presentation instant (R454). -/
def State.raise (s : State) (source : Nat) (at_ : Tu) (rising : Bool := true) (mark : Nat := 0) : State :=
  { s with events := s.events ++ [{ source, at_, rising, mark }] }

/-- A detector reports to the fault collector (R544). -/
def State.detect (s : State) (d : Detection) : State := { s with detections := s.detections ++ [{ d with at_ := s.fr }] }

/-- An event for the Ledger (R548, R570). -/
def State.ledger (s : State) (e : LedgerEv) : State := { s with ledgerEvents := s.ledgerEvents ++ [{ e with at_ := s.fr }] }

/-- A trigger of an MSI-X vector (R344). -/
def State.trigger (s : State) (fn vec : Nat) : State :=
  { s with triggers := s.triggers ++ [{ fn, vector := vec, no := s.raiseNo }], raiseNo := s.raiseNo + 1 }

/-- A posted write enters the transmit queue (R341). `tx` keeps the order of the entries; the queue's service, receipts and MSI-X messages
first, follows the entry and changes nothing that the block holds (log entry 31). -/
def State.send (s : State) (w : HostWrite) : State := { s with tx := s.tx ++ [w] }

/-- The device raises a receipt (R340). -/
def State.raiseReceipt (s : State) (r : RaisedReceipt) : State :=
  { s with receipts := s.receipts ++ [{ r with no := s.raiseNo }], raiseNo := s.raiseNo + 1 }

/-- The final receipt of an order: its stage is then `ended` until the receipt is issued. -/
def State.finalReceipt (s : State) (k status : Nat) (cause : Nat := 0) (detail : Bytes := []) : State :=
  (s.raiseReceipt { work := k, status, final := true, cause, detail }).modWork k fun w => { w with stage := .ended }

/-! ## Status and cause codes (R365, R367) -/

namespace Status
def complete := 0
def admitted := 1
def void := 2
def refused := 3
def withdrawn := 4
def malformed := 5
def denied := 6
end Status

end Sys2Proof.Machine
end

