-- ==== Sys2Proof/Machine/Calib.lean ====
section
/-!
DEFINITION. The calibration layers and how their corrections act (spec/21_calibration.md, R526 to R531); where a channel's levels stand.
-/

namespace Sys2Proof.Machine

/-- A word of a channel's factory record; 0 until boot step 5 applies the layer (R527). -/
def State.factWord (s : State) (c w : Nat) : Nat := if s.factApplied then (Config.factoryWord c w).toNat else 0

/-- A word of a channel's user record (R528). -/
def State.userWord (s : State) (c w : Nat) : Nat := (s.rd ⟨.CAL_USER, c, w⟩).toNat

/-- `n` bytes at byte `off` of a record given by its words; a field never crosses a word. -/
def recField (word : Nat → Nat) (off n : Nat) : Int := signed (bitsOf (word (off / 4)) (8 * (off % 4)) (8 * n)) (8 * n)

/-- The value in force of a signed field of a channel's record: factory plus user (R526). -/
def State.cal (s : State) (c off n : Nat) : Int := recField (s.factWord c) off n + recField (s.userWord c) off n

/-- R529: the code to which a DAC with target `v` is driven. -/
def corrected (v off gain : Int) : Int := v + off + ((v - 12288) * gain).fdiv (2 ^ 20)

/-- R529: a PMU current or measured value with a combined offset and gain. -/
def pmuCorrected (i off gain : Int) : Int := i + off + (i * gain).fdiv (2 ^ 16)

/-- A PMU current at range `r` of a channel (R529). -/
def State.pmuI (s : State) (c r : Nat) (i : Int) : Int :=
  pmuCorrected i (s.cal c (44 + 4 * r) 2) (s.cal c (46 + 4 * r) 2)

/-- The offset O_c of R77: the user TIME. The factory TIME takes up the path delay to the land (R76, R526; log entry 12). -/
def State.timeOffset (s : State) (c : Nat) : Int := recField (s.userWord c) 4 4

/-- EDGE_LIN measures on a Row (R538, R541). -/
def State.edgeLinOn (s : State) (r : Nat) : Bool :=
  match s.calRun with | some x => x.phase == .measuring && x.proc == 1 && x.rows.contains r | none => false

/-- The combined INL of a channel at index `k`, INL32 being INL0; 0 while EDGE_LIN measures on its Row (R530, R538). -/
def State.inl (s : State) (c k : Nat) : Int := if s.edgeLinOn (c / 64) then 0 else s.cal c (68 + k % 32) 1

/-- The interpolator correction at fine code `f`, in eighths of a tu, rounded to the nearest (R530). -/
def State.inlAt (s : State) (c f : Nat) : Int :=
  let a := s.inl c (f / 8)
  let b := s.inl c (f / 8 + 1)
  (8 * a + (b - a) * (f % 8) + 4).fdiv 8

/-- What the device adds to an edge at land time `t`, in eighths of a tu: the combined TIME and the correction at its fine code (R74,
R530). -/
def State.edgeCorr (s : State) (c : Nat) (t : Int) : Int := 8 * s.cal c 4 4 + s.inlAt c (t.emod 256).toNat

/-! ## A channel's ramp starts anew -/

def State.chan (s : State) (c : Nat) : Chan := Store.getD s.chans c {}
def State.setChan (s : State) (c : Nat) (v : Chan) : State := { s with chans := Store.put s.chans c v }

/-- The value of one level on its straight line at an instant. -/
def lineAt (a b : Rat) (start : Tu) (len : Rat) (t : Tu) : Rat :=
  if len ≤ ((t : Rat) - start) then b else if (t : Rat) ≤ start then a else a + (b - a) * ((t : Rat) - start) / len

/-- The DAC codes of a channel at an instant (R58, R65). -/
def Chan.present (ch : Chan) (t : Tu) : List Rat :=
  match ch.phase with
  | .idle | .settling => ch.target
  | .starting | .switching | .halted => ch.frm
  | .ramping | .zeroing => (ch.frm.zip ch.target).map fun p => lineAt p.1 p.2 ch.start ch.len t

/-- A channel's ramp starts anew from its present values: after an accepted commit or a change of corrections (R55, R60, R67). A
new commit takes the channel out of the pending verifications (R518). -/
def State.requestRamp (s : State) (c : Nat) : State :=
  let ch := s.chan c
  (s.setChan c { ch with phase := .starting, frm := ch.present s.fr, verified := false, verifyPending := false,
                         inRound := false }).clrBit F.CHn_STATUS_HALTED c

end Sys2Proof.Machine
end

