-- ==== Sys2Proof/Machine/Layout.lean ====
section
/-!
DEFINITION. The layouts of orders, reservation blocks and declarations (R363, R375 to R381, R386, R388), the form checks of
R362 and R374, and the receipt (R364).
-/

namespace Sys2Proof.Machine

/-! ## The order header and bodies (R363, R381) -/

def Work.opcode (w : Work) : Nat := Bytes.le w.ord 0 1
def Work.fenceFlag (w : Work) : Bool := bitOf (Bytes.le w.ord 1 1) 0
def Work.irqAdmit (w : Work) : Bool := bitOf (Bytes.le w.ord 1 1) 1
def Work.irqFinal (w : Work) : Bool := bitOf (Bytes.le w.ord 1 1) 2
def Work.launchEn (w : Work) : Bool := bitOf (Bytes.le w.ord 1 1) 3
def Work.seq (w : Work) : Nat := Bytes.le w.ord 4 4
def Work.resvAddr (w : Work) : Nat := Bytes.le w.ord 8 8
def Work.launch (w : Work) : Nat := Bytes.le w.ord 16 10
/-- A body field of `n` bytes. -/
def Work.body (w : Work) (off n : Nat) : Nat := Bytes.le w.ord off n

namespace Op
def nop := 0x00
def burst := 0x01
def segmentWrite := 0x02
def segmentStream := 0x03
def timingLoad := 0x04
def timingCommit := 0x05
def levelSet := 0x06
def pmuMeasure := 0x07
def adcSequence := 0x08
def tallyArm := 0x09
def tallyDisarm := 0x0A
def captureRead := 0x0B
def work := 0x0C
def graph := 0x0D
def fence := 0x0E
def frameLaunch := 0x0F
def calLoad := 0x10
def calSave := 0x11
def disable := 0x12
end Op

/-- The orders that pass the Toll (R398). -/
def isToll (op : Nat) : Bool :=
  [Op.burst, Op.segmentWrite, Op.segmentStream, Op.levelSet, Op.pmuMeasure, Op.tallyArm, Op.captureRead, Op.calLoad].contains op

/-- The orders that need a reservation block (R372). -/
def needsBlock (op : Nat) : Bool := [Op.burst, Op.levelSet, Op.tallyArm].contains op

/-- Unlisted body bytes, (offset, count), which must be 0 (R381). -/
def reservedBody (op : Nat) : List (Nat × Nat) :=
  if op = Op.burst then [(34, 2), (40, 24)]
  else if op = Op.segmentWrite ∨ op = Op.segmentStream then [(42, 2), (58, 6)]
  else if op = Op.timingLoad then [(48, 16)]
  else if op = Op.timingCommit ∨ op = Op.disable then [(33, 31)]
  else if op = Op.pmuMeasure then [(46, 18)]
  else if op = Op.adcSequence then [(44, 20)]
  else if op = Op.tallyArm then [(42, 6), (56, 8)]
  else if op = Op.tallyDisarm then [(36, 28)]
  else if op = Op.captureRead then [(58, 6)]
  else if op = Op.work then [(49, 15)]
  else if op = Op.graph then [(43, 1)]
  else if op = Op.fence then [(33, 1), (50, 14)]
  else if op = Op.frameLaunch then [(43, 21)]
  else if op = Op.calLoad ∨ op = Op.calSave then [(45, 19)]
  else [(32, 32)]

/-- Reserved bits of listed body fields, (bit of the 64-byte order, width). -/
def reservedBits (op : Nat) : List (Nat × Nat) :=
  if op = Op.burst then [(8 * 33 + 7, 1), (8 * 36 + 18, 14)]
  else if op = Op.segmentWrite ∨ op = Op.segmentStream then [(8 * 41 + 7, 1)]
  else if op = Op.timingCommit then [(8 * 32 + 5, 2)]
  else if op = Op.fence then (List.range 8).map fun i => (8 * (34 + 2 * i) + 12, 4)
  else if op = Op.calLoad ∨ op = Op.calSave then [(8 * 44 + 4, 4)]
  else []

/-- Size of local memory in bytes: E × 1.5 GiB, as DRAM_SIZE shows it in MiB (R464). -/
def State.memSize (s : State) : Nat := s.get F.DRAM_SIZE_MIB * 2 ^ 20

/-- One pool segment: 4 MiB (R108). -/
def segSize : Nat := 2 ^ 22

/-- Every reserved field and flag of the order is 0 (R362, R372, R382, R391). -/
def Work.reservedZero (w : Work) : Bool :=
  let v := Bytes.le w.ord 0 64
  bitsOf v 12 4 == 0 && bitsOf v (8 * 26) 48 == 0 &&
  (reservedBody w.opcode).all (fun p => bitsOf v (8 * p.1) (8 * p.2) == 0) &&
  (reservedBits w.opcode).all (fun p => bitsOf v p.1 p.2 == 0) &&
  (needsBlock w.opcode || w.resvAddr == 0) &&
  (w.launchEn || w.launch == 0) &&
  (!w.launchEn || [Op.burst, Op.tallyArm, Op.frameLaunch].contains w.opcode) &&
  (w.opcode != Op.fence ||
    (List.range 8).all (fun i => decide (i < w.body 32 1) || w.body (34 + 2 * i) 2 == 0))

/-- Channels from FIRST_CH for COUNT (TIMING_LOAD, PMU_MEASURE). -/
def Work.chanRange (w : Work) : List Nat := (List.range (w.body 42 2)).map (w.body 40 2 + ·)

/-- The host ranges that the body names, (address, length) (R339, R381). -/
def Work.hostRanges (w : Work) : List (Nat × Nat) :=
  let op := w.opcode
  if op = Op.segmentStream then [(w.body 32 8, w.body 48 8)]
  else if op = Op.timingLoad then [(w.body 32 8, w.body 42 2 * (setBits (w.body 44 4) 32).length * 32)]
  else if op = Op.pmuMeasure then [(w.body 32 8, 8 * w.body 42 2)]
  else if op = Op.adcSequence then [(w.body 32 8, 8 * w.body 40 2)]
  else if op = Op.captureRead then [(w.body 40 8, w.body 48 8)]
  else if op = Op.graph ∧ w.body 40 1 = 1 then [(w.body 32 8, 64 * w.body 42 1)]
  else if op = Op.frameLaunch then [(w.body 32 8, w.body 40 2)]
  else if op = Op.calLoad ∨ op = Op.calSave then [(w.body 32 8, w.body 40 4)]
  else []

/-- Every host address lies below 2⁵² with its whole range (R339), and RESV is 64-byte aligned (R367 ADDRESS). -/
def Work.addressesOk (w : Work) : Bool :=
  w.hostRanges.all (fun p => decide (p.1 + p.2 ≤ 2 ^ 52)) &&
  w.resvAddr % 64 == 0 && decide (w.resvAddr < 2 ^ 52)

/-- Alignment in bytes of the address at byte 32, where the body has one (R381). -/
def bodyAlign (op : Nat) : Nat :=
  if op = Op.work then 4 else if op = Op.frameLaunch then 8
  else if [Op.segmentWrite, Op.segmentStream, Op.timingLoad, Op.pmuMeasure, Op.adcSequence, Op.captureRead, Op.graph,
    Op.calLoad, Op.calSave].contains op then 64 else 1

/-- A fill order (R111). -/
def Work.isFill (w : Work) : Bool := w.opcode == Op.segmentWrite || w.opcode == Op.segmentStream

/-- The destination range of a fill: first byte and length, as local addresses (R383). -/
def Work.fillRange (w : Work) : Nat × Nat := ((w.body 40 2) * segSize + w.body 44 4, w.body 48 8)

/-- The segments a fill touches (R383). -/
def Work.fillSegs (w : Work) : List Nat :=
  let (a, n) := w.fillRange
  (List.range ((a + n - 1) / segSize + 1 - a / segSize)).map (a / segSize + ·)

/-- The function to which a stall is assigned, or none (R345). -/
def State.stallFn (s : State) (k : Nat) : Option Nat :=
  let b := bitsOf (s.rd ⟨.STALL_FN_MAP_m, k / 4, 0⟩).toNat (8 * (k % 4)) 8
  if b ≤ 63 then some b else none

/-- Every body field lies in its range (R381 to R384, R391, R392). -/
def State.fieldsOk (s : State) (w : Work) : Bool :=
  let op := w.opcode
  let m := s.memSize
  let d := s.deviceTime
  w.body 32 8 % bodyAlign op == 0 &&
  (!w.launchEn || (decide (d + 40960000 ≤ (w.launch : Int)) && decide ((w.launch : Int) ≤ d + 2 ^ 63))) &&
  (if op = Op.segmentWrite ∨ op = Op.segmentStream then
    let n := w.body 48 8
    let rate := w.body 56 2
    w.body 44 4 % 64 == 0 && decide (w.body 44 4 < segSize) && n % 64 == 0 && decide (64 ≤ n) && decide (n ≤ 2 ^ 36) &&
    decide (w.fillRange.1 + n ≤ 24576 * segSize) && decide (1 ≤ rate) &&
    (if op = Op.segmentStream then decide (rate ≤ 1150)
     else decide (rate ≤ 2047) && decide (w.body 32 8 + n ≤ m) &&
      (decide (w.body 32 8 + n ≤ w.fillRange.1) || decide (w.fillRange.1 + n ≤ w.body 32 8)))
   else if op = Op.timingLoad then
    decide (w.body 40 2 ≤ 255) && decide (1 ≤ w.body 42 2) && decide (w.body 40 2 + w.body 42 2 ≤ 256) && w.body 44 4 != 0
   else if op = Op.timingCommit then !bitOf (w.body 32 1) 7 || w.body 32 1 % 32 == 0
   else if op = Op.pmuMeasure then
    decide (w.body 40 2 ≤ 255) && decide (1 ≤ w.body 42 2) && decide (w.body 40 2 + w.body 42 2 ≤ 256) &&
    decide (1 ≤ w.body 44 2) && decide (w.body 44 2 ≤ 1024)
   else if op = Op.adcSequence then decide (1 ≤ w.body 40 2) && decide (w.body 40 2 ≤ 1024) && decide (1 ≤ w.body 42 2)
   else if op = Op.tallyArm then
    w.body 32 10 == 0 || (if w.launchEn then decide (w.launch < w.body 32 10) else decide (d < (w.body 32 10 : Int)))
   else if op = Op.captureRead then
    let n := w.body 48 8
    w.body 40 8 % 64 == 0 && n % 64 == 0 && decide (64 ≤ n) && decide (n ≤ 2 ^ 36) && decide (w.body 32 8 + n ≤ m) &&
    decide (1 ≤ w.body 56 2) && decide (w.body 56 2 ≤ 1150)
   else if op = Op.work then decide (w.body 32 8 < m) && decide (w.body 48 1 ≤ 3)
   else if op = Op.graph then
    decide (w.body 40 1 ≤ 1) && decide (w.body 41 1 ≤ 3) && w.body 44 8 % 64 == 0 &&
    (if w.body 40 1 = 0 then w.body 42 1 == 0 && w.body 44 8 == 0 && decide (w.body 32 8 < m)
     else decide (1 ≤ w.body 42 1) && decide (w.body 42 1 ≤ 16) && decide (w.body 44 8 < m))
   else if op = Op.fence then
    decide (w.body 32 1 ≤ 8) &&
    (List.range (min (w.body 32 1) 8)).all (fun i => s.stallFn (w.body (34 + 2 * i) 2) == some w.fn)
   else if op = Op.frameLaunch then
    decide (60 ≤ w.body 40 2) && decide (w.body 40 2 ≤ 1514) && decide (w.body 42 1 ≤ 1) && w.launchEn
   else if op = Op.calLoad ∨ op = Op.calSave then w.body 44 1 != 0
   else if op = Op.disable then decide (w.body 32 1 ≤ 63)
   else true)

/-! ## Reservation blocks -/

def Work.b (w : Work) (off n : Nat) : Nat := Bytes.le w.blk off n

/-- The sequencer of a burst (R375). -/
def Work.bSeq (w : Work) : Nat := w.b 6 1
def Work.bFlags (w : Work) : Nat := w.b 7 1
def Work.stream (w : Work) : Bool := bitOf w.bFlags 0
def Work.session (w : Work) : Bool := bitOf w.bFlags 1
def Work.hasCapture (w : Work) : Bool := bitOf w.bFlags 2
def Work.hasWatch (w : Work) : Bool := bitOf w.bFlags 3
def Work.isJoint (w : Work) : Bool := bitOf w.bFlags 4
def Work.hasSummary (w : Work) : Bool := bitOf w.bFlags 5
def Work.hasLaneArea (w : Work) : Bool := bitOf w.bFlags 6
def Work.uiMin (w : Work) : Nat := w.b 8 4
def Work.callDepth (w : Work) : Nat := w.b 12 2
def Work.segCount (w : Work) : Nat := w.b 14 2
def Work.duration (w : Work) : Nat := w.b 16 8
def Work.energy (w : Work) : Nat := w.b 24 8
def Work.peakMw (w : Work) : Nat := w.b 32 4
def Work.summaryAddr (w : Work) : Nat := w.b 40 8
def Work.laneArea (w : Work) : Nat := w.b 48 8
def Work.burstChans (w : Work) : List Nat := setBits (w.b 64 32) 256
def Work.sites (w : Work) : List Nat := setBits (w.b 96 32) 256
/-- Declared segments (R375). -/
def Work.segs (w : Work) : List Nat := (List.range w.segCount).map fun i => w.b (448 + 2 * i) 2
/-- Bits per UI (R376). -/
def Work.bitsPerUi (w : Work) : Nat := if w.stream then 2 else 4
/-- A timed burst: it carries a promise (R26). -/
def Work.timed (w : Work) : Bool := w.opcode == Op.burst && !w.session

/-- Capture declaration (R377): kind 0 FAIL_MAP, 1 OUTCOME, 2 LANE_RAW, 3 EC_RECORD; mode 0 LINEAR, 1 RING, 2 TRIGGER (R204, R208). -/
def Work.capKind (w : Work) : Nat := bitsOf (w.b 128 1) 0 2
def Work.capMode (w : Work) : Nat := bitsOf (w.b 128 1) 2 2
def Work.capRegion (w : Work) : Nat := w.b 136 8
def Work.capSize (w : Work) : Nat := w.b 144 8
def Work.capPre (w : Work) : Nat := w.b 152 8
def Work.recordMask (w : Work) : List Nat := setBits (w.b 160 32) 256

/-- Byte offset of the watch declaration: in the burst block, or in the watch block of TALLY_ARM (R378, R388). -/
def Work.watchOff (w : Work) : Nat := if w.opcode = Op.burst then 192 else 64
def Work.watchSlots (w : Work) : List Nat := setBits (w.b w.watchOff 16) 128
def Work.watchRegion (w : Work) : Nat := w.b (w.watchOff + 16) 8
def Work.watchSize (w : Work) : Nat := w.b (w.watchOff + 24) 8
def Work.watchRing (w : Work) : Bool := bitOf (w.b (w.watchOff + 32) 1) 0
def Work.measCount (w : Work) : Nat := w.b (w.watchOff + 33) 1
def Work.measList (w : Work) : Nat := w.b (w.watchOff + 40) 8
/-- The order declares a watch: a TALLY_ARM, or a BURST with WATCH. -/
def Work.watches (w : Work) : Bool := w.opcode == Op.tallyArm || (w.opcode == Op.burst && w.hasWatch)

/-- Joint declaration (R379). -/
def Work.jointId (w : Work) : Nat := w.b 256 8
def Work.partList (w : Work) : Nat := w.b 264 8
def Work.partCount (w : Work) : Nat := w.b 272 2
def Work.jointLines (w : Work) : List Nat := setBits (w.b 274 1) 8
/-- The participants, by device ID. -/
def Work.participants (w : Work) : List Nat := (List.range w.partCount).map fun i => Bytes.le w.parts (2 * i) 2 % 4096

/-- LEVEL_SET's block (R386). -/
def Work.lvShared (w : Work) : Bool := bitOf (w.b 6 1) 0
def Work.lvChans (w : Work) : List Nat := setBits (w.b 32 32) 256

/-- The Rows in SCOPE of a calibration order (R381). -/
def Work.calRows (w : Work) : List Nat := setBits (w.body 44 1) 4

/-- The channels an order uses: a burst's declared channels, a LEVEL_SET's or PMU_MEASURE's named channels, the channels of a
CAL_LOAD's Rows (R373, R401). -/
def Work.chans (w : Work) : List Nat :=
  if w.opcode = Op.burst then w.burstChans
  else if w.opcode = Op.levelSet then w.lvChans
  else if w.opcode = Op.pmuMeasure then w.chanRange
  else if w.opcode = Op.calLoad then (List.range 256).filter fun c => w.calRows.contains (c / 64)
  else []

/-- Channels that an order names and that count for the permission check of R373. -/
def Work.namedChans (w : Work) : List Nat :=
  if w.opcode = Op.timingLoad then w.chanRange else if w.opcode = Op.burst then [] else w.chans

/-- Length of a block in bytes (R375, R386, R388). -/
def Work.blockLen (w : Work) : Nat :=
  if w.opcode = Op.burst then ceilDiv (448 + 2 * w.segCount) 64 * 64
  else if w.opcode = Op.levelSet then 64 + 64 * (if w.lvShared then 1 else w.lvChans.length)
  else 128

/-- All bytes of a span are 0. -/
def Work.zero (w : Work) (off n : Nat) : Bool := w.b off n == 0

/-- A watch declaration is well formed (R378). -/
def Work.watchOk (w : Work) : Bool :=
  let o := w.watchOff
  decide (1 ≤ w.watchSlots.length) && decide (w.watchSlots.length ≤ 16) && w.watchRegion % 64 == 0 &&
  decide (w.b (o + 32) 1 < 2) && decide (w.measCount ≤ 16) && w.zero (o + 34) 6 && w.zero (o + 48) 16 &&
  (if w.measCount = 0 then w.measList == 0 else w.measList % 64 == 0 && decide (w.measList + 64 * w.measCount ≤ 2 ^ 52))

/-- A list of numbers is strictly ascending. -/
def ascending : List Nat → Bool
  | a :: b :: t => decide (a < b) && ascending (b :: t)
  | _ => true

/-- The burst block is well formed (R375 to R379). `dev` is this device's ID. -/
def Work.burstBlockOk (w : Work) (dev : Nat) : Bool :=
  w.b 0 4 == 0x42525331 && w.b 4 2 == 1 && decide (w.bSeq ≤ 31) && !bitOf w.bFlags 7 &&
  (if w.stream then decide (256 ≤ w.uiMin) && decide (w.uiMin ≤ 1280) else decide (1280 ≤ w.uiMin)) &&
  decide (w.callDepth ≤ 4096) && decide (1 ≤ w.segCount) && decide (w.segCount ≤ 1024) &&
  (if w.session then w.duration == 0 else decide (1 ≤ w.duration) && decide (w.duration ≤ 2 ^ 63 - 1)) &&
  decide (1 ≤ w.peakMw) && decide (w.peakMw ≤ 560000) && w.zero 36 4 && w.zero 56 8 && w.zero 288 32 &&
  (if w.hasSummary then w.summaryAddr % 64 == 0 else w.summaryAddr == 0) &&
  (if w.hasLaneArea then w.laneArea % 64 == 0 else w.laneArea == 0) &&
  (if w.hasCapture then decide (w.b 128 1 < 16) && w.zero 129 7 && w.capRegion % 64 == 0 &&
      (w.capMode == 2 || w.capPre == 0) && (decide (2 ≤ w.capKind) || w.zero 160 32)
    else w.zero 128 64) &&
  (if w.hasWatch then w.watchOk else w.zero 192 64) &&
  (if w.isJoint then !w.session && w.jointId != 0 && w.partList % 64 == 0 && decide (2 ≤ w.partCount) &&
      decide (w.partCount ≤ 4096) && decide (w.partList + 2 * w.partCount ≤ 2 ^ 52) && w.zero 275 13 && ascending w.participants && w.participants.contains dev
    else w.zero 256 32) &&
  w.segs.all (fun k => decide (k < 2 ^ 15)) && decide (w.segs.Nodup) &&
  w.zero (448 + 2 * w.segCount) (w.blockLen - (448 + 2 * w.segCount))

/-- The level block is well formed (R386). -/
def Work.levelBlockOk (w : Work) : Bool :=
  w.b 0 4 == 0x4C564C31 && w.b 4 2 == 1 && decide (w.b 6 1 < 2) && w.zero 7 25 && w.lvChans != [] &&
  (List.range (if w.lvShared then 1 else w.lvChans.length)).all (fun r => w.zero (64 + 64 * r + 56) 8)

/-- The watch block is well formed (R388). -/
def Work.watchBlockOk (w : Work) : Bool :=
  w.b 0 4 == 0x57415431 && w.b 4 2 == 1 && w.zero 6 58 && w.watchOk

/-- The reservation block of an order is well formed (R374). -/
def Work.blockOk (w : Work) (dev : Nat) : Bool :=
  decide (w.resvAddr + w.blockLen ≤ 2 ^ 52) &&
  (if w.opcode = Op.burst then w.burstBlockOk dev
   else if w.opcode = Op.levelSet then w.levelBlockOk
   else w.watchBlockOk)

/-- A level record: staged register `k` (offset 4k) of channel `c` in a LEVEL_SET (R386). -/
def Work.levelWord (w : Work) (c k : Nat) : Nat :=
  let r := if w.lvShared then 0 else (w.lvChans.filter (· < c)).length
  w.b (64 + 64 * r + 4 * k) 4

/-! ## Receipts (R364) -/

/-- The 64 bytes of a receipt. -/
def receiptBytes (status final flags cause seq opcode stall cons issued promise promiseFr : Nat) (detail : Bytes) (phase : Nat) : Bytes :=
  leBytes status 1 ++ leBytes (final + 2 * flags) 1 ++ leBytes cause 2 ++ leBytes seq 4 ++ leBytes opcode 1 ++ leBytes 0 1 ++
  leBytes stall 2 ++ leBytes cons 4 ++ leBytes issued 10 ++ leBytes promise 10 ++ leBytes promiseFr 10 ++
  ((List.range 17).map fun i => detail.getD i 0#8) ++ leBytes phase 1

end Sys2Proof.Machine
end

