-- ==== Sys2Proof/Machine/Adc.lean ====
section
/-!
DEFINITION. How the converters take entries and PMU measurements at their entry boundaries (R512 to R514, R521).
-/

namespace Sys2Proof.Machine

def State.adc (s : State) (c : Nat) : Adc := Store.getD s.adcs c {}
def State.setAdc (s : State) (c : Nat) (v : Adc) : State := { s with adcs := Store.put s.adcs c v }

/-! ## Sequence entries (R512) -/

/-- Entry `i` of an order's list. -/
def Work.entry (w : Work) (i : Nat) : Nat := Bytes.le w.data (8 * i) 8
def entryAdc (e : Nat) : Nat := bitsOf e 0 6
def entryInput (e : Nat) : Nat := bitsOf e 6 4
def entrySel (e : Nat) : Nat := bitsOf e 10 4
def entryGain (e : Nat) : Nat := bitsOf e 14 2
def entryAvg (e : Nat) : Nat := bitsOf e 16 10 + 1
def entryTrigger (e : Nat) : Nat := bitsOf e 26 2
def entryDelay (e : Nat) : Nat := bitsOf e 32 32

/-- A converter has a source on an input (table *Converter inputs*). -/
def inputOk (c input : Nat) : Bool :=
  if input = 12 then c == 0 || c % 16 == 15 else if input = 13 then c % 16 == 15 else true

/-- An input of a converter has gain: a PMU measure path or a monitor land (R509). -/
def inputGain (c input : Nat) : Bool := decide (input < 4) || (c % 16 == 15 && (input == 12 || input == 13))

/-- An entry names nothing reserved (R512). -/
def entryOk (e : Nat) : Bool :=
  let c := entryAdc e
  let i := entryInput e
  inputOk c i && !(decide (4 ≤ i) && decide (i < 8) && decide (9 ≤ entrySel e)) && (entryGain e == 0 || inputGain c i) && entryTrigger e != 3

/-- ENTRIES and REPEAT of an ADC_SEQUENCE. -/
def Work.entries (w : Work) : Nat := w.body 40 2
def Work.repeats (w : Work) : Nat := w.body 42 2

/-- The number of the first result from `from_` on that a converter gives an order (R513). -/
def Work.nextIx (w : Work) (c from_ : Nat) : Option Nat :=
  ((List.range w.entries).map (from_ + ·)).find? fun i =>
    decide (i < w.entries * w.repeats) && entryAdc (w.entry (i % w.entries)) == c

/-! ## Converters -/

/-- The converters of a Row are powered (R514, R589). -/
def State.rowPowered (s : State) (r : Nat) : Bool := bitOf (s.get F.ADC_STATUS_POWERED) r

/-- A converter is out of service (R520). -/
def State.adcFailed (s : State) (c : Nat) : Bool := bitOf (s.rd ⟨.ADC_FAILED_w, c / 32, 0⟩).toNat (c % 32)

/-- Stored results of a Row's queue, and its occupancy (R521). -/
def State.queue (s : State) (r : Nat) : List (Nat × Nat) := Store.getD s.results r []
def State.occupancy (s : State) (r : Nat) : Nat :=
  (s.queue r).length + (s.adcs.filter fun p => p.1 / 16 == r && (match p.2.run with | some x => !x.pmu | none => false)).length

/-- The channel of an entry's input, where it serves one (R512). -/
def entryChan (e : Nat) : Option Nat := if entryInput e < 8 then some (4 * entryAdc e + entryInput e % 4) else none

/-- A sequence order runs on. -/
def Work.sequencing (w : Work) : Bool := w.opcode == Op.adcSequence && w.stage == .running && w.cause == 0 && w.result == 0

/-- A procedure has taken the converters of a Row (R537). -/
def State.rowTaken (s : State) (r : Nat) : Bool := match s.calRun with | some x => x.phase == .measuring && x.rows.contains r | none => false

/-- The PMU measurement that a converter takes at an entry boundary: order and channel (R514). -/
def State.pmuFor (s : State) (c : Nat) : Option (Nat × Work × Nat) :=
  (s.works.find? fun p => p.2.opcode == Op.pmuMeasure && p.2.stage == .running && p.2.cause == 0 && p.2.left.any fun h => h / 4 == c).bind fun p =>
    (p.2.left.find? fun h => h / 4 == c).map fun h => (p.1, p.2, h)

/-- No result of an order is being converted. -/
def State.adcIdleFor (s : State) (k : Nat) : Bool := s.adcs.all fun p => match p.2.run with | some x => x.work != k | none => true

/-- An order leaves every converter that is not converting for it (R513, R521). -/
def State.adcDrop (s : State) (k : Nat) : State :=
  { s with adcs := s.adcs.map fun p =>
      (p.1, if p.2.seqs.head? = some k then { p.2 with seqs := p.2.seqs.filter (· != k), next := 0, last := none }
            else { p.2 with seqs := p.2.seqs.filter (· != k) }) }

/-- The final receipt of a sequence order that has stopped, once no converter converts for it (R521, R557). -/
def State.adcEnd (s : State) (k : Nat) : State :=
  match s.work? k with
  | some w =>
    if w.stage = .running ∧ s.adcIdleFor k then
      if w.cause ≠ 0 then s.finalReceipt k Status.void w.cause (leBytes w.count 4)
      else if w.result ≠ 0 then s.finalReceipt k Status.refused 0x103 (leBytes w.count 4)
      else s
    else s
  | none => s

/-- A sequence order stops on every converter at its next entry boundary (R521, R557). -/
def State.adcStop (s : State) (k : Nat) : State := (s.adcDrop k).adcEnd k

/-- A queue has no slot for the next result: the order stops (R521). -/
def State.queueStalled (s : State) (k r : Nat) : State :=
  let s := (s.setBit F.ADC_EVENTS_QUEUE_STALLED).set F.ADC_STATUS_STALLED (ofSet (r :: setBits (s.get F.ADC_STATUS_STALLED) 4) 4)
  (s.modWork k fun w => { w with result := 1 }).adcStop k

/-- Live PMU mode and range of the channel of a measure input. -/
def State.pmuLive (s : State) (c input : Nat) : Nat × Nat :=
  if input < 4 then (s.get F.CHn_MODE_LIVE_PMU_MODE (4 * c + input), s.get F.CHn_MODE_LIVE_PMU_RANGE (4 * c + input)) else (0, 0)

/-- A converter starts a result. -/
def State.adcBegin (s : State) (c : Nat) (r : AdcRun) : State :=
  let m := s.pmuLive c r.input
  s.setAdc c { s.adc c with run := some { r with mode := m.1, range := m.2 }, next := if r.pmu then (s.adc c).next else r.ix + 1 }

/-- The trigger of an entry is met (R512). An AFTER entry without a previous result, and a SETTLED entry whose input serves no channel,
start at once. -/
def State.triggered (s : State) (a : Adc) (e : Nat) : Bool :=
  match entryTrigger e with
  | 1 => (match a.last with | some t => decide (t + entryDelay e * 4096000 ≤ s.fr) | none => true)
  | 2 => (match entryChan e with | some h => s.bit F.CHn_STATUS_SETTLED h | none => true)
  | _ => true

/-- One converter at an entry boundary (R513, R514, R521). -/
def State.adcTry (s : State) (c : Nat) : State :=
  let a := s.adc c
  if a.run.isSome || !s.rowPowered (c / 16) || s.rowTaken (c / 16) then s
  else
    match s.pmuFor c with
    | some (k, w, h) => s.adcBegin c { work := k, ix := h, pmu := true, input := h % 4, total := w.body 44 2 }
    | none =>
      match a.seqs with
      | [] => s
      | k :: _ =>
        let leave : State := s.setAdc c { a with seqs := a.seqs.drop 1, next := 0, last := none }
        match s.work? k with
        | none => leave
        | some w =>
          if !w.sequencing then leave
          else
            match w.nextIx c a.next with
            | none => leave
            | some i =>
              let e := w.entry (i % w.entries)
              if !s.triggered a e then s
              else if 1024 ≤ s.occupancy (c / 16) then s.queueStalled k (c / 16)
              else s.adcBegin c { work := k, ix := i, input := entryInput e, sel := entrySel e, gain := entryGain e, total := entryAvg e }

/-- Every converter does what it can at its entry boundary, until none can. -/
def State.adcKickN : Nat → State → State
  | 0, s => s
  | n + 1, s =>
    let t := (Store.keys s.adcs).foldl (fun (t : State) c => t.adcTry c) s
    if t.adcs = s.adcs then t else State.adcKickN n t

/-- Every converter does what it can at its entry boundary (R513, R514). -/
def State.adcKick (s : State) : State := State.adcKickN (s.works.length + 2) s

end Sys2Proof.Machine
end

