-- ==== Sys2Proof/Machine/Void.lean ====
section
/-!
DEFINITION. How work ends other than COMPLETE: void (R33, R547), withdrawal and disable (R557 to R559), and the release of what
an order holds at its final receipt (R399).
-/

namespace Sys2Proof.Machine

def State.seqSt (s : State) (n : Nat) : Seq := Store.getD s.seqs n {}
def State.setSeq (s : State) (n : Nat) (v : Seq) : State := { s with seqs := Store.put s.seqs n v }
def State.seg (s : State) (n : Nat) : Seg := Store.getD s.segs n {}
def State.setSeg (s : State) (n : Nat) (v : Seg) : State := { s with segs := Store.put s.segs n v }

/-- The work has passed its Toll decision or, for a direct order, has started. -/
def Work.inFlight (w : Work) : Bool :=
  match w.stage with
  | .admitted | .window | .running | .closing => true
  | _ => false

/-- A burst is admitted or queued (R400): from the instant its block passed the form check to its final receipt. -/
def Work.burstPresent (w : Work) : Bool := w.opcode == Op.burst && w.formed

/-- A burst is admitted: it holds its resources until its final receipt is issued. -/
def Work.burstAdmitted (w : Work) : Bool :=
  w.opcode == Op.burst && w.admittedRcpt

/-- A burst is admitted or queued on a sequencer (R400). -/
def State.seqBusy (s : State) (n : Nat) : Bool := s.works.any fun p => p.2.burstPresent && p.2.bSeq == n

/-- A burst admitted or queued declares a channel (R400). A commit register write is answered BUSY from the moment the burst is queued (R56); the row of
R67 that accepts one until the Toll's admission instant then holds of the time before that (DESIGN CHOICE, log entry 37). -/
def State.chanBusy (s : State) (c : Nat) : Bool := s.works.any fun p => p.2.burstPresent && p.2.burstChans.contains c

/-- Bring OWNED of the listed channels up to date (R71, R400). -/
def State.refreshOwned (s : State) (cs : List Nat) : State :=
  cs.foldl (fun t c => t.setIf F.CHn_STATUS_OWNED (t.chanBusy c) c) s

/-- The next 1 µs tick of device time strictly after now (R417). -/
def State.nextTick (s : State) : Tu :=
  s.toFree (((s.deviceTime.toNat / 4096000) + 1) * 4096000)

/-- R417: when reservations end early, every waiting entry that is due later moves to the next tick. -/
def State.wakeDelayList (s : State) : State :=
  { s with works := s.works.map fun p =>
      if p.2.stage = .waiting then (p.1, { p.2 with release := min p.2.release s.nextTick }) else p }

/-- Segments touched by a fill return to FREE with content UNDEFINED (R111). -/
def State.abandonFill (s : State) (w : Work) : State :=
  w.fillSegs.foldl (fun t n => t.setSeg n { t.seg n with filling := false, valid := false }) s

/-- What an admitted burst counts in its segments, sequencer and channels is taken back (R112, R399). A redirect that is armed when its session ends
is disarmed with it (DESIGN CHOICE, log entry 38). -/
def State.releaseBurst (s : State) (k : Nat) (w : Work) : State :=
  let s := if w.held then w.segs.foldl (fun t n => t.setSeg n { t.seg n with refs := (t.seg n).refs - 1 }) s else s
  if (s.seqSt w.bSeq).work = some k then
    (((s.setSeq w.bSeq {}).set F.SEQn_STATUS_RUN_STATE 0 w.bSeq).clrBit F.SEQn_STATUS_SESSION w.bSeq).clrBit
      F.SEQn_STATUS_REDIRECT_ARMED w.bSeq
  else s

/-- The fill's COMPLETE receipt is issued: its segments become FREE and VALID (R111). -/
def State.finishFill (s : State) (w : Work) : State :=
  w.fillSegs.foldl (fun t n => t.setSeg n { t.seg n with filling := false, valid := true }) s

/-- The watch of an order is gone, its graph units are free (R309). -/
def State.releaseWatch (s : State) (k : Nat) : State :=
  match Store.get? s.watches k with
  | none => s
  | some wt =>
    let s := { s with watches := Store.del s.watches k }
    let s := wt.slots.foldl (fun t x => (t.clrBit F.TALLY_SLOTn_STATUS_IN_WATCH x.slot).clrBit F.TALLY_SLOTn_STATUS_ARMED x.slot) s
    s.set F.TALLY_MEAS_UNITS_HELD (ofSet ((setBits (s.get F.TALLY_MEAS_UNITS_HELD) 16).filter fun u => !wt.units.contains u) 16)

/-- ORDER_RELEASE: the final receipt of an order is issued (R399, R361). -/
def State.releaseWork (s : State) (k status : Nat) : State :=
  match s.work? k with
  | none => s
  | some w =>
    let s := if w.opcode = Op.burst then s.releaseBurst k w else s
    let s := if (w.opcode = Op.segmentWrite ∨ w.opcode = Op.segmentStream) ∧ w.admittedRcpt then
        (if status = Status.complete then s.finishFill w else s) else s
    let s := s.releaseWatch k
    let s := if isToll w.opcode ∧ w.admittedRcpt then { s with donePaces := s.donePaces ++ [w.pace] } else s
    let st := s.stall w.stall
    let s := s.setStall w.stall { st with reserved := st.reserved - w.slots }
    let s := { s with works := Store.del s.works k, items := Store.del s.items k, graphs := Store.del s.graphs k }
    let s := if w.opcode = Op.burst then s.refreshOwned w.burstChans else s
    if isToll w.opcode then s.wakeDelayList else s

/-- A raised COMPLETE receipt that is not yet issued no longer stands (R37). -/
def State.dropComplete (s : State) (k : Nat) : State :=
  { s with receipts := s.receipts.filter fun r => !(r.work == k && r.final && r.status == Status.complete) }

/-- A COMPLETE receipt of the order is raised and not yet issued. -/
def State.completeRaised (s : State) (k : Nat) : Bool :=
  s.receipts.any fun r => r.work == k && r.final && r.status == Status.complete

/-- The number of bytes an order counted, as the DETAIL of its final receipt (R396). -/
def Work.detail (w : Work) : Bytes :=
  let op := w.opcode
  if op = Op.segmentWrite ∨ op = Op.segmentStream ∨ op = Op.captureRead then leBytes w.count 8
  else if op = Op.timingLoad ∨ op = Op.pmuMeasure ∨ op = Op.adcSequence then leBytes w.count 4
  else if op = Op.tallyArm ∨ op = Op.work then leBytes w.count 8
  else if op = Op.levelSet then leBytes w.result 1 ++ leBytes w.failCh 1 ++ leBytes w.count 2
  else []

/-- The record reserved for a CAL_LOAD is released (R536, R572). -/
def State.releaseRecord (s : State) : State :=
  (s.set F.LEDG_FREE_RESERVED (s.get F.LEDG_FREE_RESERVED - 1)).set F.LEDG_FREE_FREE (s.get F.LEDG_FREE_FREE + 1)

/-- The channels of a procedure return from the calibration bus; their restored levels ramp (R531, R537). -/
def State.calBusOff (s : State) (rows : List Nat) : State :=
  (rows.flatMap fun r => (List.range 64).map (64 * r + ·)).foldl (fun (s : State) c =>
    if (s.chan c).onCalBus then (s.setChan c { s.chan c with onCalBus := false }).requestRamp c else s) s

/-- The calibration engine is free of an order (R533, R534). -/
def State.calDone (s : State) (k : Nat) : State :=
  match s.calRun with
  | some r => if r.work = k then { s.clrBit F.CAL_STATUS_BUSY with calRun := none } else s
  | none => s

/-- The runs on some Rows end; BUSY stays while another Row's run is active (R304, R307). -/
def State.ssmsStop (s : State) (rows : List Nat) : State :=
  let s := { s with ssms := s.ssms.filter fun p => !rows.contains p.1 }
  let s := s.set F.TALLY_STATUS_SSMS_BUSY (ofSet ((setBits (s.get F.TALLY_STATUS_SSMS_BUSY) 4).filter fun r => !rows.contains r) 4)
  s.setIf F.TALLY_SSMS_STATUS_BUSY (!s.ssms.isEmpty)

/-- A CAL_LOAD that ends VOID or WITHDRAWN: before its commit instant nothing changes and its reserved record is released (R536). `count`
is 1 once its record is on its way to the Ledger. -/
def State.calAbort (s : State) (k : Nat) (w : Work) : State :=
  if !w.held then s
  else
    let s := match s.calRun with
      | some r => if r.work = k ∧ r.phase = CalPhase.measuring then (s.calBusOff r.rows).ssmsStop r.rows else s
      | none => s
    (if w.count ≠ 0 then s else s.releaseRecord).calDone k

/-! ## The final header of a watch (R36, R285, R288, R295) -/

/-- Records that a region holds (R295). -/
def Work.watchRows (w : Work) : Nat := (w.watchSize - 512) / 16

/-- The source code of a slot (R276). -/
def TSlot.source (x : TSlot) : Nat := F.TALLY_SLOTn_CFG_SOURCE.get x.cfg

/-- The slope of a slot (R279). -/
def TSlot.slope (x : TSlot) : Nat := F.TALLY_SLOTn_CFG_SLOPE.get x.cfg

/-- The stream header (R295); `status`: 0 RUNNING, 1 COMPLETE, 2 VOID. -/
def streamHeader (w : Work) (wt : Watch) (status : Nat) : Bytes :=
  let flags := ofSet ((if wt.full then [0] else []) ++ (if wt.wrapped then [1] else []) ++ (if wt.warmSeen then [2] else []) ++
    (if wt.gateFast then [3] else [])) 8
  leBytes 0x54414C31 4 ++ leBytes 1 2 ++ leBytes (if w.watchRing then 1 else 0) 1 ++ leBytes status 1 ++
  leBytes (if status = 2 then w.cause else 0) 2 ++ leBytes wt.slots.length 1 ++ leBytes flags 1 ++ leBytes w.stall 2 ++ leBytes 0 2 ++
  leBytes w.seq 4 ++ leBytes 0 4 ++ leBytes wt.records 8 ++ leBytes (if w.watchRing ∧ wt.wrapped then wt.regionRecs % w.watchRows else 0) 8 ++
  leBytes wt.notRecorded 8 ++ leBytes (wt.openAt.getD 0 % 2 ^ 80) 10 ++ leBytes 0 6 ++
  leBytes (if status = 0 then 2 ^ 80 - 1 else wt.closeAt.getD 0 % 2 ^ 80) 10 ++ leBytes 0 54 ++
  ((List.range 16).flatMap fun i => match wt.slots[i]? with
    | some x => leBytes x.slot 2 ++ leBytes x.source 2 ++ leBytes x.arms 4 ++ leBytes x.count 8 ++ leBytes x.stamps 8
    | none => leBytes 0 24)

def State.writeStreamHeader (s : State) (k : Nat) (w : Work) (status : Nat) : State :=
  let wt := Store.getD s.watches k {}
  { s with mem := Mem.setBytes s.mem w.watchRegion (streamHeader w wt status)
           regions := Store.put s.regions w.watchRegion
             { rows := w.watchRows, recs := wt.regionRecs, slots := wt.slots.map fun x => (x.slot, x.source, x.slope) } }

/-- The status that the final header and the results of a watch carry (R36, R288, R325). -/
def Work.endStatus (w : Work) : Nat := if w.cause = 0 then 1 else 2

/-- The final receipt of a TALLY_ARM whose header and results are written (R285, R324). -/
def State.endWatch (s : State) (k : Nat) (w : Work) : State :=
  let wt := Store.getD s.watches k {}
  if w.opcode ≠ Op.tallyArm ∨ !wt.closed ∨ (w.measCount ≠ 0 ∧ !wt.measured) then s
  else
    let s := s.modWork k fun w => { w with count := wt.records, rflags := if wt.warmSeen then w.rflags ||| 4 else w.rflags }
    if w.cause = 0 then s.finalReceipt k Status.complete 0 (leBytes wt.records 8)
    else s.finalReceipt k Status.void w.cause (leBytes wt.records 8)

/-- The instant at which a voided watch closes, where it is still open (R285, R288). -/
def State.closeWatchBy (s : State) (k : Nat) (t : Tu) : State :=
  match Store.get? s.watches k with
  | none => s
  | some wt => { s with watches := Store.put s.watches k { wt with closeAt := some (match wt.closeAt with | some c => min c t | none => t) } }

/-- The watch of an order that ends VOID: an open one closes; the header of a closed one is rewritten VOID, and its result blocks are due
again, to be written VOID (R36, R288, R325). -/
def State.voidWatch (s : State) (k : Nat) : State :=
  match s.work? k, Store.get? s.watches k with
  | some w, some wt =>
    if !wt.closed then s
    else
      let s := { s with watches := Store.put s.watches k { wt with measured := false } }
      if wt.openAt.isSome then s.writeStreamHeader k w w.endStatus else s
  | _, _ => s

/-! ## Void and withdrawal -/

/-- The work ends VOID with a cause (R33, R37, R547, R558). A burst that runs stops through its sequencer; a watch, item, graph
or converter sequence stops at its own next step; everything else stops at once and its VOID receipt is raised. A burst voided in its closing
interval has ended its cycles: the channels that END KEEP kept stay kept (DESIGN CHOICE, log entry 38; R161 parks FLOAT a burst that still
runs). -/
def State.voidWork (s : State) (k cause : Nat) : State :=
  match s.work? k with
  | none => s
  | some w =>
    if w.cause ≠ 0 ∨ (w.isJoint && (Store.get? s.joints w.jointId).any fun j => j.doneSent && j.work == some k) then s
    else if !(w.inFlight || w.stage == .preempted || w.stage == .delayed || w.stage == .saving || w.stage == .stopped ||
        (w.stage == .ended && s.completeRaised k)) then s
    else
      let s := (s.dropComplete k).modWork k fun w => { w with cause }
      let op := w.opcode
      if op = Op.burst then
        if w.stage = .running then s.setSeq w.bSeq { s.seqSt w.bSeq with notice := some (cause, s.fr) }
        else (s.modWork k fun w => { w with stage := .stopped }).voidWatch k
      else if op = Op.tallyArm then
        let s := ((s.modWork k fun w => { w with stage := .stopped, endAt := s.fr }).closeWatchBy k s.fr).voidWatch k
        match s.work? k with
        | some w => s.endWatch k w
        | none => s
      else if op = Op.segmentWrite ∨ op = Op.segmentStream then
        (s.abandonFill w).finalReceipt k Status.void cause w.detail
      else if op = Op.work then
        if w.stage = .running ∨ w.stage = .saving then s.modWork k fun w => { w with stage := .saving }
        else if (Store.getD s.items k {}).unacked then s.modWork k fun w => { w with stage := .stopped }
        else s.finalReceipt k Status.void cause
      else if op = Op.graph then
        if w.stage = .ended then s.finalReceipt k Status.void cause
        else s.modWork k fun w => { w with stage := .stopped }
      else if op = Op.adcSequence then
        if w.stage = .ended then s.finalReceipt k Status.void cause w.detail else (s.adcStop k).adcKick
      else if op = Op.calLoad then (s.calAbort k w).finalReceipt k Status.void cause
      else if op = Op.captureRead ∧ w.stage = .running then
        (s.useFree.modWork k fun w => { w with count := s.freeVal % (w.count / 64 + 1) * 64 }).finalReceipt k Status.void cause
          (leBytes (s.freeVal % (w.count / 64 + 1) * 64) 8)
      else s.finalReceipt k Status.void cause w.detail

/-- Several works end VOID with one cause. -/
def State.voidAll (s : State) (ks : List Nat) (cause : Nat) : State := ks.foldl (fun t k => t.voidWork k cause) s

/-- The verdict area of a burst (R380). -/
def verdictArea (status cause fail retired : Nat) : Bytes :=
  leBytes status 1 ++ leBytes 0 1 ++ leBytes cause 2 ++ leBytes 0 60 ++ leBytes fail 32 ++ leBytes retired 32

/-- The device writes a burst's verdict area before its final receipt (R340, R380). -/
def State.writeVerdict (s : State) (w : Work) (status cause fail retired : Nat) : State :=
  if (s.func w.fn).busMaster && !(s.func w.fn).inReset && !(s.func w.fn).d3hot then
    s.send (.data w.fn (w.resvAddr + 320) (verdictArea status cause fail retired))
  else s

/-- The work ends WITHDRAWN with DISABLED_QUEUED (R557); a burst's verdict area then carries STATUS 3 (R380), and the segments of an admitted
fill return to FREE and UNDEFINED (R111, R126). -/
def State.withdraw (s : State) (k : Nat) : State :=
  let s := match s.work? k with
    | some w =>
      if w.opcode = Op.burst then s.writeVerdict w 3 0 0 0
      else if w.opcode = Op.calLoad then s.calAbort k w
      else if w.isFill ∧ w.held then s.abandonFill w
      else s
    | none => s
  { (s.finalReceipt k Status.withdrawn 0x300) with
    frames0 := s.frames0.filter (·.work != k)
    frames1 := s.frames1.filter (·.work != k) }

/-- How a disable ends one piece of work (table 'Work at a disable', R557). -/
def State.disableWork (s : State) (k : Nat) (w : Work) : State :=
  match w.stage with
  | .fetched | .blockRead | .fenced | .routed | .offered | .waiting | .joint | .depWait | .queued => s.withdraw k
  | .admitted => if w.resv.start ≤ s.fr then s.voidWork k 0x230 else s.withdraw k
  | .dataRead => if w.opcode = Op.frameLaunch ∨ w.opcode = Op.graph ∨ w.opcode = Op.adcSequence then s.withdraw k else s
  | .running | .ended =>
    if [Op.timingLoad, Op.timingCommit, Op.tallyDisarm, Op.calSave, Op.nop, Op.disable, Op.fence].contains w.opcode then s
    else s.voidWork k 0x230
  | _ => s.voidWork k 0x230

/-- A stall stops fetching, as under an accepted close (R355, R557). -/
def Stall.stopFetching (st : Stall) : Stall :=
  match st.st with
  | .awake | .asleep | .halted => { st with st := .draining, opening := false }
  | _ => st

/-- The stalls that STALL_FN_MAP assigns to a function and that this model holds. -/
def State.stallsOf (s : State) (f : Nat) : List Nat := (Store.keys s.stalls).filter fun k => s.stallFn k == some f

/-- An open whose reads are outstanding is abandoned (R354). -/
def State.abandonOpens (s : State) (f : Nat) : State :=
  (s.stallsOf f).foldl (fun t k =>
    if (t.stall k).opening then
      ((t.setStall k { t.stall k with opening := false }).set F.STALL_CTL_STATUS_RESULT 7 f).setBit F.STALL_EVENTS_CTL_REJECT f
    else t) s

/-- Number of lines of doorbell words that hold an AWAKE stall: eight words of one function's page to a line (R358). -/
def State.awakeLines (s : State) : Nat :=
  ((s.stalls.filter fun p => p.2.st == .awake).map fun p => (p.2.fn, p.1 / 8)).eraseDups.length

/-- The watcher's poll interval P in µs (R358). -/
def State.pollP (s : State) : Nat :=
  let poll := s.get F.STALL_POLL_POLL
  let t := s.get F.PWR_LTR_LTR
  if t = 0 then poll else min poll t

/-- Bring STALL_WATCH up to date (R358, R371). -/
def State.refreshWatch (s : State) : State :=
  let l := s.awakeLines
  let was := s.bit F.STALL_WATCH_LAGGING
  let lag : Bool := decide (s.pollP < ceilDiv l 64)
  let s := ((s.set F.STALL_WATCH_LINES l).set F.STALL_WATCH_AWAKE ((s.stalls.filter fun p => p.2.st == .awake).length)).setIf
    F.STALL_WATCH_LAGGING lag
  if lag && !was then s.setBit F.STALL_WATCH_EVENTS_LAGGING else s

/-- The disable of a function at the disable instant (R557); a disable of a function that is being disabled joins the running one (R563).
`except` is the DISABLE order that asked for it. -/
def State.startDisable (s : State) (f : Nat) (except : Option Nat) : State :=
  let s := s.abandonOpens f
  let s := (s.stallsOf f).foldl (fun t k => t.setStall k (t.stall k).stopFetching) s
  let s := s.refreshWatch
  let fn := s.func f
  let s := s.setFunc f
    { fn with disabling := true, voided := if fn.disabling then fn.voided else 0, withdrawn := if fn.disabling then fn.withdrawn else 0 }
  let ks := s.works.filter fun p => p.2.fn == f && some p.1 != except
  ks.foldl (fun t p => t.disableWork p.1 p.2) s

end Sys2Proof.Machine
end

