-- ==== Sys2Proof/Machine/HostLink.lean ====
section
/-!
DEFINITION. The PCIe host link: link state, functions, resets of functions, MSI-X (spec/12_host_link.md).
-/

namespace Sys2Proof.Machine

/-! ## Link rate (R331, R342) -/

/-- Sustained throughput at x16, in 0.1 GB/s, by SPEED code (R331). -/
def rateX16 (speed : Nat) : Nat :=
  match speed with
  | 1 => 35 | 2 => 70 | 3 => 140 | 4 => 280 | 5 => 560 | 6 => 1150 | _ => 0

/-- RATE of a link as trained: scaled by width/16 and rounded down (R331). -/
def linkRate (speed width : Nat) : Nat := rateX16 speed * width / 16

/-- A rate and width the link can train to (R329); 64.0 GT/s runs only in FLIT mode. -/
def linkLegal (speed width : Nat) (flit : Bool) : Bool :=
  decide (1 ≤ speed) && decide (speed ≤ 6) && [1, 2, 4, 8, 16].contains width && (flit || speed != 6)

/-- Tag limit of the trained link (R342). -/
def tagLimit (flit tags10 : Bool) : Nat := if flit then 16384 else if tags10 then 1024 else 256

/-- Write the trained rate and width into STALL_HOST_STATUS. -/
def State.setLink (s : State) (speed width : Nat) (flit : Bool) : State :=
  (((s.setIf F.STALL_HOST_STATUS_FLIT flit).set F.STALL_HOST_STATUS_SPEED speed).set F.STALL_HOST_STATUS_WIDTH width).set
    F.STALL_HOST_STATUS_RATE (linkRate speed width)

def State.linkUp (s : State) : Bool := s.bit F.STALL_HOST_STATUS_DL_UP

/-- LINK_UP: the link trains at SPEED code `speed` and `width` lanes (R329, R331, R342). Without effect while it is up. -/
def execLinkUp (speed width : Nat) (flit tags10 : Bool) (s : State) : Host.Outcome State Fault Refusal :=
  if s.linkUp ∨ !linkLegal speed width flit then .next s
  else .next ((((s.setLink speed width flit).setBit F.STALL_HOST_STATUS_DL_UP).set F.STALL_HOST_TAGS_LIMIT
    (tagLimit flit tags10)).setBit F.STALL_HOST_EVENTS_LINK_UP)

/-- Admitted orders whose reserved host rate exceeds RATE (R332). -/
def State.overRate (s : State) (rate : Nat) : List Nat :=
  (s.works.filter fun p => p.2.admittedRcpt && decide ((rate : Rat) / 10 < p.2.resv.hostRate)).map Prod.fst

/-- RATE_DROP: a retrain to a lower rate or width while the link stays up (R332). -/
def execRateDrop (speed width : Nat) (s : State) : Host.Outcome State Fault Refusal :=
  let flit := s.bit F.STALL_HOST_STATUS_FLIT
  let old := s.get F.STALL_HOST_STATUS_RATE
  if !s.linkUp ∨ !linkLegal speed width flit ∨ old ≤ linkRate speed width then .next s
  else
    let t := (s.setLink speed width flit).setBit F.STALL_HOST_EVENTS_RATE_DROP
    .next (t.voidAll (t.overRate (linkRate speed width)) 0x231)

/-- LINK_RETRAIN_HIGHER: a retrain to a higher rate or width; admitted work is unaffected (R332). -/
def execLinkRetrainHigher (speed width : Nat) (s : State) : Host.Outcome State Fault Refusal :=
  let flit := s.bit F.STALL_HOST_STATUS_FLIT
  if !s.linkUp ∨ !linkLegal speed width flit ∨ linkRate speed width < s.get F.STALL_HOST_STATUS_RATE then .next s
  else .next (s.setLink speed width flit)

/-- Configuration requests are answered from the end of boot step 1 (R610). -/
def State.configOpen (s : State) : Bool := decide (2 ≤ s.get F.BOOT_STATUS_STAGE)

/-! ## Base address registers (R337) -/

/-- A BAR of the table 'BAR layout'. Every BAR is a 64-bit memory BAR. -/
structure Bar where
  /-- 0 for the PF, otherwise a VF. -/
  fn : Nat
  number : Nat
  log2 : Nat
  prefetchable : Bool := false
  deriving DecidableEq, Repr

/-- The BARs of a function; a VF has no BAR4, and BAR4 of the PF is resizable. -/
def State.bars (s : State) (fn : Nat) : List Bar :=
  if fn = 0 then [{ fn, number := 0, log2 := 25 }, { fn, number := 2, log2 := 16 }, { fn, number := 4, log2 := s.bar4Log2, prefetchable := true }]
  else [{ fn, number := 0, log2 := 16 }, { fn, number := 2, log2 := 16 }]

/-- An access of `n` bytes lies inside a function's BAR. -/
def State.inBar (s : State) (fn number off n : Nat) : Bool := (s.bars fn).any fun b => b.number == number && decide (off + n ≤ 2 ^ b.log2)

/-! ## Function-level resets (R333, R334, R336, R346, R347) -/

/-- The registers of one function's BAR2 that a function-level reset restores (R370). -/
def bar2StallRegs : List RegName :=
  [.STALL_WAKE, .STALL_CTL, .STALL_CTL_STATUS, .STALL_EVENTS, .STALL_HALT_INFO, .STALL_DB_BASE_0, .STALL_DB_BASE_1,
   .STALL_TABLE_BASE_0, .STALL_TABLE_BASE_1]

/-- Restore the listed registers of index `i` to their reset values. -/
def State.restore (s : State) (rs : List RegName) (i : Nat) : State :=
  { s with regs := s.regs.filter fun p => !(rs.contains p.1.name && p.1.i == i) }

/-- A stall closes at once, without a state word; its stall channel is cleared (R351, R346, R448). Work of it that has not ended holds
no receipt slot any more: its receipts are not written, whatever is opened there later (R351). CTL_DONE reports a close that was
accepted (R355). -/
def State.closeStall (s : State) (k : Nat) : State :=
  let st := s.stall k
  let s := s.setStall k { allowance := st.allowance }
  let ws := s.works.map fun p => if p.2.stall = k then (p.1, { p.2 with slots := 0 }) else p
  let s := { s with works := ws }.refreshWatch
  if st.closeReq then s.setBit F.STALL_EVENTS_CTL_DONE st.fn else s

/-- A stall channel's full flag as the receiving function's register shows it (R461). -/
def State.setPrivFull (s : State) (fn k : Nat) (full : Bool) : State :=
  s.setIf ⟨.MBX_PRIV_FULL_m, k % 32, 1⟩ full fn (k / 32)

/-- The configuration space of a function returns to its reset values (R346); that of the PF holds NumVFs, ARI Capable Hierarchy and the
size of BAR4 too. A disable that runs goes on. -/
def State.resetConfig (s : State) (f : Nat) : State :=
  let fn := s.func f
  let s := s.setFunc f
    { present := fn.present, inReset := fn.inReset, disabling := fn.disabling, voided := fn.voided, withdrawn := fn.withdrawn }
  if f = 0 then { s with numVfs := 0, ari := false, bar4Log2 := 28 } else s

/-- One function's reset (R346): its work ends as a disable, without receipts; its stalls close; its configuration space and
MSI-X state return to their reset values. A second reset while it runs joins it (R348). Before boot step 8 it has no effect (R610). -/
def State.flrOne (s : State) (f : Nat) : State :=
  if !s.booted then s
  else
    let again := (s.func f).inReset && s.get F.STALL_HOST_FLR_FN == f
    let s := s.setFunc f { s.func f with inReset := true }
    let s := s.startDisable f none
    let s := { s with triggers := s.triggers.filter fun p => p.fn != f }
    let s := (s.stallsOf f).foldl (fun t k => (t.closeStall k).setPrivFull f k false) s
    let s := s.resetConfig f
    let s := s.restore bar2StallRegs f
    if again then s else ((s.set F.STALL_HOST_FLR_FN f).set F.STALL_HOST_FLR_VOIDED 0).set F.STALL_HOST_FLR_WITHDRAWN 0

/-- The enabled VFs. -/
def State.vfs (s : State) : List Nat := (List.range' 1 63).filter fun f => (s.func f).present

/-- VF Enable is cleared: every enabled VF is reset and ceases to exist (R334). -/
def State.clearVfs (s : State) : State :=
  { s.vfs.foldl (fun t f => let t := t.flrOne f; t.setFunc f { t.func f with present := false }) s with vfEnable := false }

/-- A function-level reset; one of the PF also clears VF Enable (R347). -/
def State.flr (s : State) (f : Nat) : State :=
  if f = 0 then if s.booted then (s.clearVfs).flrOne 0 else s else s.flrOne f

/-- FUNCTION_LEVEL_RESET of an existing function (R346). -/
def execFunctionLevelReset (f : Nat) (s : State) : Host.Outcome State Fault Refusal :=
  if (s.func f).present then .next (s.flr f) else .next s

/-- DL_DOWN: LINK_DOWN and a function-level reset of the PF (R333). -/
def execDlDown (s : State) : Host.Outcome State Fault Refusal :=
  if !s.linkUp then .next s
  else
    let t := (((s.setLink 0 0 false).clrBit F.STALL_HOST_STATUS_DL_UP).set F.STALL_HOST_TAGS_LIMIT 0).setBit
      F.STALL_HOST_EVENTS_LINK_DOWN
    .next (t.flr 0)

/-- VF_ENABLE_WRITE: a write of VF Enable (R334). -/
def execVfEnableWrite (enable : Bool) (s : State) : Host.Outcome State Fault Refusal :=
  if !s.configOpen then .next s
  else if !enable then .next (if s.vfEnable then s.clearVfs else s)
  else if s.numVfs = 0 ∨ s.numVfs > 63 ∨ (s.numVfs > 7 ∧ !s.ari) then
    .next (s.setBit F.STALL_HOST_EVENTS_VF_REJECT)
  else if s.vfEnable then .next s
  else .next { (List.range' 1 s.numVfs).foldl (fun t f => t.setFunc f { present := true }) s with vfEnable := true }

/-- The function has admitted or queued work (R336). -/
def State.hasWork (s : State) (f : Nat) : Bool := s.works.any fun p => p.2.fn == f

/-- BUS_MASTER_CLEAR: Bus Master Enable is cleared; with work this acts as a disable, and the stalls close (R336, R351). -/
def execBusMasterClear (f : Nat) (s : State) : Host.Outcome State Fault Refusal :=
  if !s.configOpen ∨ !(s.func f).busMaster then .next s
  else
    let was := (s.func f).disabling
    let s := (s.setFunc f { s.func f with busMaster := false }).startDisable f none
    let s := (s.stallsOf f).foldl (fun t k => t.closeStall k) s
    .next (s.setFunc f { s.func f with disabling := was || s.hasWork f })

/-- D3HOT_ENTRY acts as a disable (R336). -/
def execD3hotEntry (f : Nat) (s : State) : Host.Outcome State Fault Refusal :=
  if !s.configOpen ∨ !(s.func f).present ∨ (s.func f).d3hot then .next s
  else
    let was := (s.func f).disabling
    let s := (s.setFunc f { s.func f with d3hot := true }).startDisable f none
    .next (s.setFunc f { s.func f with disabling := was || s.hasWork f })

/-- D3HOT_EXIT acts as a function-level reset (R336). -/
def execD3hotExit (f : Nat) (s : State) : Host.Outcome State Fault Refusal :=
  if !(s.func f).d3hot then .next s
  else
    let s := s.flr f
    .next (s.setFunc f { s.func f with d3hot := false })

/-- The disable of a function is complete: its counts are shown and DISABLE_DONE is set (R559, R565). -/
def State.endDisable (s : State) (f : Nat) : State :=
  let fn := s.func f
  let s := s.setFunc f { fn with disabling := false, voided := 0, withdrawn := 0 }
  let s := if s.bit F.FLT_DISABLE_STATUS_BUSY ∧ s.get F.FLT_DISABLE_STATUS_FN = f then
      ((s.clrBit F.FLT_DISABLE_STATUS_BUSY).set F.FLT_DISABLE_STATUS_VOIDED (min fn.voided 0xFFF)).set
        F.FLT_DISABLE_STATUS_WITHDRAWN (min fn.withdrawn 0xFFF)
    else s
  s.setBit F.FLT_EVENTS_DISABLE_DONE

/-- FLR_DONE: all work of the reset function has stopped and is counted (R346), which completes the disable that the reset acts as
(R557, R559). -/
def execFlrDone (f : Nat) (s : State) : Host.Outcome State Fault Refusal :=
  if !(s.func f).inReset ∨ s.hasWork f then .next s
  else
    let s := if (s.func f).disabling then s.endDisable f else s
    .next ((s.setFunc f { s.func f with inReset := false }).setBit F.STALL_HOST_EVENTS_FLR_DONE)

/-! ## MSI-X (R344) -/

/-- MSI-X vectors of a function: 2,048 of the PF, 64 of a VF. -/
def vecCount (f : Nat) : Nat := if f = 0 then 2048 else 64

/-- A pending, unmasked vector of an enabled function issues one message and its pending bit clears (R344). -/
def State.issueMsix (s : State) (f v : Nat) : State :=
  let fn := s.func f
  let x := Store.getD fn.vecs v {}
  if x.pending && !x.masked && fn.msixEnable && !fn.msixMask && fn.busMaster then
    (s.setFunc f { fn with vecs := Store.put fn.vecs v { x with pending := false } }).send (.msix f v x.addr x.data)
  else s

/-- Change one vector of a function. -/
def State.modVec (s : State) (f v : Nat) (g : MsixVec → MsixVec) : State :=
  let fn := s.func f
  s.setFunc f { fn with vecs := Store.put fn.vecs v (g (Store.getD fn.vecs v {})) }

/-- Nothing that the device raised for the function before a trigger still waits: receipts and MSI-X messages of one function are issued in
the order in which they are raised (R340). -/
def State.triggerFirst (s : State) (g : Trigger) : Bool :=
  s.receipts.all fun r => decide (g.no ≤ r.no) || ((s.work? r.work).all fun w => w.fn != g.fn)

/-- MSIX_TRIGGER: the oldest trigger that no receipt stands before sets its vector's pending bit; a trigger of a pending vector merges
(R340, R344). -/
def execMsixTrigger (s : State) : Host.Outcome State Fault Refusal :=
  match s.triggers.find? s.triggerFirst with
  | none => .next s
  | some g =>
    let s := { s with triggers := s.triggers.erase g }
    if g.vector < vecCount g.fn then .next ((s.modVec g.fn g.vector fun x => { x with pending := true }).issueMsix g.fn g.vector)
    else .next s

/-- MSIX_UNMASK: the vector's mask bit is cleared; a pending message is sent (R344, R348). -/
def execMsixUnmask (f v : Nat) (s : State) : Host.Outcome State Fault Refusal :=
  if v < vecCount f ∧ (s.func f).present then .next ((s.modVec f v fun x => { x with masked := false }).issueMsix f v)
  else .next s

end Sys2Proof.Machine
end

