-- ==== Sys2Proof/Machine/Stalls.lean ====
section
/-!
DEFINITION. Stalls: opening and closing, the bell watcher, fetching, the checks of a fetched order, fences and receipts
(spec/13_stalls_rings.md).
-/

namespace Sys2Proof.Machine

/-- The numeric value of a stall state (R351). -/
def StallState.code : StallState → Nat
  | .closed => 0 | .awake => 1 | .asleep => 2 | .draining => 3 | .halted => 4

/-- STALL_TABLE_BASE of a function. -/
def State.tableBase (s : State) (f : Nat) : Nat :=
  (s.rd ⟨.STALL_TABLE_BASE_0, f, 0⟩).toNat + (s.rd ⟨.STALL_TABLE_BASE_1, f, 0⟩).toNat * 2 ^ 32

/-- STALL_DB_BASE of a function. -/
def State.dbBase (s : State) (f : Nat) : Nat :=
  (s.rd ⟨.STALL_DB_BASE_0, f, 0⟩).toNat + (s.rd ⟨.STALL_DB_BASE_1, f, 0⟩).toNat * 2 ^ 32

/-- The device may issue requests for a function (R336, R346). -/
def State.mayIssue (s : State) (f : Nat) : Bool := (s.func f).busMaster && !(s.func f).inReset && !(s.func f).d3hot

/-- The device writes the STATE word of a stall's descriptor (R352). -/
def State.writeState (s : State) (k : Nat) (st : StallState) : State :=
  let f := (s.stall k).fn
  if s.mayIssue f then
    s.send (.stateWord f k (s.tableBase f + 32 * k + 24) (leBytes st.code 4 ++ leBytes (s.stall k).cons 4))
  else s

/-! ## Opening and closing (R354, R355) -/

/-- An open or close is rejected with a result of the table 'Stall control results'. -/
def State.ctlReject (s : State) (f result : Nat) : State :=
  (s.set F.STALL_CTL_STATUS_RESULT result f).setBit F.STALL_EVENTS_CTL_REJECT f

/-- STALL_OPEN: a write of STALL_CTL with CLOSE 0 by function `f`. The first three checks are made at once; the descriptor and
doorbell reads are then outstanding (R354). A read at or beyond 2⁵² is not issued (R339) and counts as failed (log entry 8). -/
def execStallOpen (f k : Nat) (s : State) : Host.Outcome State Fault Refusal :=
  if !s.booted ∨ 4096 ≤ k then .next s
  else
    let s := s.set F.STALL_CTL_STATUS_STALL k f
    if s.stallFn k ≠ some f ∨ !(s.func f).present then .next (s.ctlReject f 1)
    else if (s.stall k).st ≠ .closed ∨ (s.stall k).opening then .next (s.ctlReject f 2)
    else if !(s.func f).busMaster then .next (s.ctlReject f 3)
    else if 2 ^ 52 < s.tableBase f + 32 * k + 32 ∨ 2 ^ 52 < s.dbBase f + 8 * k + 8 then .next (s.ctlReject f 4)
    else .next (s.setStall k { s.stall k with opening := true, fn := f })

/-- The stall descriptor is valid for a function (R352, result DESCRIPTOR). -/
def descriptorOk (f : Nat) (d : Bytes) : Bool :=
  let ob := Bytes.le d 0 8
  let rb := Bytes.le d 8 8
  let ol := Bytes.le d 16 1
  let rl := Bytes.le d 17 1
  let v := Bytes.le d 18 2
  ob % 4096 == 0 && rb % 4096 == 0 && decide (6 ≤ ol) && decide (ol ≤ 16) && decide (6 ≤ rl) && decide (rl ≤ 16) &&
  decide (ob + 64 * 2 ^ ol ≤ 2 ^ 52) && decide (rb + 64 * 2 ^ rl ≤ 2 ^ 52) &&
  (decide (v < vecCount f) || v == 0xFFFF) && Bytes.le d 20 4 == 0

/-- STALL_OPEN_COMPLETE: the descriptor and the doorbell word return (R354). An accepted open clears the stall channel (R448). -/
def execStallOpenComplete (k : Nat) (desc : Bytes) (doorbell : Nat) (s : State) : Host.Outcome State Fault Refusal :=
  let st := s.stall k
  let f := st.fn
  if !st.opening then .next s
  else
    let s := s.setStall k { st with opening := false }
    if !descriptorOk f desc then .next (s.ctlReject f 5)
    else if doorbell ≠ 0 then .next (s.ctlReject f 6)
    else
      let s := s.setStall k
        { st := .awake, fn := f, orderBase := Bytes.le desc 0 8, rcptBase := Bytes.le desc 8 8,
          orderLog2 := Bytes.le desc 16 1, rcptLog2 := Bytes.le desc 17 1, vector := Bytes.le desc 18 2,
          idleFrom := s.fr, allowance := st.allowance }
      let s := (s.setPrivFull f k false).writeState k .awake
      .next (((s.set F.STALL_CTL_STATUS_RESULT 0 f).setBit F.STALL_EVENTS_CTL_DONE f).refreshWatch)

/-- STALL_CLOSE: a write of STALL_CTL with CLOSE 1 by function `f` (R355). -/
def execStallClose (f k : Nat) (s : State) : Host.Outcome State Fault Refusal :=
  if !s.booted ∨ 4096 ≤ k then .next s
  else
    let s := s.set F.STALL_CTL_STATUS_STALL k f
    if s.stallFn k ≠ some f ∨ !(s.func f).present then .next (s.ctlReject f 1)
    else if (s.stall k).st = .closed ∨ (s.stall k).st = .draining then .next (s.ctlReject f 2)
    else .next (((s.set F.STALL_CTL_STATUS_RESULT 0 f).setStall k { s.stall k with st := .draining, closeReq := true }).refreshWatch)

/-- STALL_CLOSED: a DRAINING stall without work closes (R351, R355). While a disable of its function runs, its stalls close at
DISABLE_DONE (R559). -/
def execStallClosed (k : Nat) (s : State) : Host.Outcome State Fault Refusal :=
  let st := s.stall k
  if st.st ≠ .draining ∨ (s.works.any fun p => p.2.stall == k) ∨ (s.func st.fn).disabling then .next s
  else .next ((s.writeState k .closed).closeStall k)

/-! ## The bell watcher (R356 to R360) -/

/-- STALL_WAKE: a wake bell write by function `f` (R360). -/
def execStallWake (f k : Nat) (s : State) : Host.Outcome State Fault Refusal :=
  if !s.booted then .next s
  else
    let st := s.stall k
    if s.stallFn k = some f ∧ st.st = .asleep then
      let s := s.setStall k { st with st := .awake, dbRead := true, idleFrom := s.fr }
      .next ((s.writeState k .awake).refreshWatch)
    else if s.stallFn k = some f ∧ st.st = .awake then .next (s.setStall k { st with dbRead := true, again := st.dbRead })
    else .next (s.setBit F.STALL_EVENTS_WAKE_IGNORED f)

/-- DOORBELL_POLL: the watcher reads the line of doorbell words of stalls 8·`line` to 8·`line` + 7 in the page of function `f`,
when the line holds an AWAKE stall (R358). -/
def execDoorbellPoll (f line : Nat) (s : State) : Host.Outcome State Fault Refusal :=
  if !s.mayIssue f then .next s
  else
    let ks := (List.range 8).map (8 * line + ·) |>.filter fun k => (s.stall k).st == .awake && (s.stall k).fn == f
    .next ((ks.foldl (fun t k => t.setStall k { t.stall k with dbRead := true }) s).refreshWatch)

/-- An AWAKE stall halts (R351, R366). -/
def State.haltStall (s : State) (k reason : Nat) : State :=
  let st := s.stall k
  if st.st ≠ .awake then s
  else
  let s := s.setStall k { st with st := .halted, dbRead := false, again := false, finalRead := false }
  let s := s.writeState k .halted
  (((s.set F.STALL_HALT_INFO_STALL k st.fn).set F.STALL_HALT_INFO_REASON reason st.fn).setBit F.STALL_EVENTS_HALTED st.fn).refreshWatch

/-- DOORBELL_READ_DONE: the doorbell word of a stall returns. A value that fails a check is not used in any part (R366); a final
read that shows no new PROD puts the stall to sleep (R359). The extra read of a wake bell that came before that decision follows the write of ASLEEP as
well and takes the final read's place (R360, R369). -/
def execDoorbellReadDone (k word : Nat) (s : State) : Host.Outcome State Fault Refusal :=
  let st := s.stall k
  let prod := word % 2 ^ 32
  let rcons := word / 2 ^ 32 % 2 ^ 32
  if !st.dbRead then .next s
  else if st.st ≠ .awake then .next (s.setStall k { st with dbRead := false, again := false, finalRead := false })
  else if (prod + 2 ^ 32 - st.cons) % 2 ^ 32 > 2 ^ st.orderLog2 then .next (s.haltStall k 1)
  else if (st.rprod + 2 ^ 32 - rcons) % 2 ^ 32 > 2 ^ st.rcptLog2 then .next (s.haltStall k 2)
  else
    let isNew := prod != st.prod
    let st' := { st with prod, rcons, dbRead := st.again, again := false, finalRead := false, dbFails := 0,
                         idleFrom := if isNew then s.fr else st.idleFrom }
    if st.finalRead then
      if isNew then .next ((s.setStall k st').writeState k .awake)
      else if st.again then .next (s.setStall k { st' with finalRead := true })
      else .next ((s.setStall k { st' with st := .asleep }).refreshWatch)
    else .next (s.setStall k st')

/-- STALL_SLEEP: IDLE µs without a new PROD; ASLEEP is written and the final doorbell read is issued (R359). -/
def execStallSleep (k : Nat) (s : State) : Host.Outcome State Fault Refusal :=
  let st := s.stall k
  let idle := s.get F.STALL_POLL_IDLE
  if st.st ≠ .awake ∨ idle = 0 ∨ st.finalRead then .next s
  else
    let s := (s.advanceTo (st.idleFrom + idle * 4096000)).writeState k .asleep
    .next (s.setStall k { st with dbRead := true, finalRead := true })

/-- A doorbell read of a stall fails (R343, R359, R366). -/
def State.doorbellFailed (s : State) (k : Nat) : State :=
  let st := s.stall k
  if !st.dbRead then s
  else if st.st ≠ .awake then s.setStall k { st with dbRead := false, again := false, finalRead := false }
  else if st.dbFails + 1 ≥ 3 then s.haltStall k 3
  else
    let t := s.setStall k { st with dbRead := st.again, again := false, finalRead := false, dbFails := st.dbFails + 1,
                                    idleFrom := if st.finalRead then s.fr else st.idleFrom }
    if st.finalRead then t.writeState k .awake else t

/-! ## Fetching and the checks (R361, R362) -/

/-- The stall's receipt ring holds two free slots beyond every reservation (R361). -/
def Stall.hasSpace (st : Stall) : Bool := decide ((st.rprod + st.reserved + 2 + 2 ^ 32 - st.rcons) % 2 ^ 32 ≤ 2 ^ st.rcptLog2)

/-- The stall has an order to fetch, and space and allowance for it (R361). -/
def State.mayFetch (s : State) (k : Nat) : Bool :=
  let st := s.stall k
  st.st == .awake && st.cons != st.prod && st.hasSpace && st.allowance != 0 && s.mayIssue st.fn

/-- The stall that is served next: up to 16 orders of one in its turn, then the next stall with orders to fetch, in the order of their numbers
(R361; log entry 8). -/
def State.turnStall (s : State) : Option Nat :=
  if s.mayFetch s.turn.1 && decide (s.turn.2 < 16) then some s.turn.1
  else nextAfter ((Store.keys s.stalls).filter s.mayFetch) (some s.turn.1)

/-- ORDER_FETCH: the next waiting order of a stall is fetched, when it is the stall's turn (R361). -/
def execOrderFetch (k : Nat) (s : State) : Host.Outcome State Fault Refusal :=
  let st := s.stall k
  if s.devAllowance = 0 ∨ s.turnStall ≠ some k then .next s
  else
    let s := { s with turn := (k, if s.turn.1 = k ∧ s.turn.2 < 16 then s.turn.2 + 1 else 1) }
    let s := s.setStall k { st with cons := (st.cons + 1) % 2 ^ 32, reserved := st.reserved + 2, allowance := st.allowance - 1 }
    .next { s.setWork s.nextWork { stall := k, fn := st.fn, idx := st.cons } with
            devAllowance := s.devAllowance - 1, nextWork := s.nextWork + 1 }

/-- FETCH_ALLOWANCE_TICK: a stall's allowance, or with none the device's, rises by one order, up to 16 (R361). -/
def execFetchAllowanceTick (k : Option Nat) (s : State) : Host.Outcome State Fault Refusal :=
  match k with
  | some k => .next (s.setStall k { s.stall k with allowance := min ((s.stall k).allowance + 1) 16 })
  | none => .next { s with devAllowance := min (s.devAllowance + 1) 16 }

/-- The order names sequencer `n` and the function may not name it (R362, R371). -/
def State.ungranted (s : State) (f n : Nat) : Bool := !bitOf (s.rd ⟨.STALL_GRANT_n, f, 0⟩).toNat n

/-- The sequencer that owns a channel under the live ownership masks (R129). -/
def State.owner (s : State) (c : Nat) : Option Nat :=
  (List.range 32).find? fun n => bitOf (s.rd ⟨.SEQn_OWN_LIVE_w, n, c / 32⟩).toNat (c % 32)

/-- The permission check (R362, R373): the cause of a DENIED receipt, or 0. -/
def State.denied (s : State) (w : Work) : Nat :=
  let op := w.opcode
  let seqBad : Bool :=
    (op == Op.burst && s.ungranted w.fn w.bSeq) ||
    (op == Op.timingCommit && !bitOf (w.body 32 1) 7 && s.ungranted w.fn (w.body 32 1 % 32)) ||
    w.namedChans.any (fun c => op != Op.calLoad && (match s.owner c with | some n => s.ungranted w.fn n | none => w.fn != 0))
  let pfOnly : Bool := [Op.frameLaunch, Op.calLoad, Op.calSave].contains op ||
    (op == Op.timingCommit && bitOf (w.body 32 1) 7) || (op == Op.disable && w.body 32 1 != w.fn)
  if seqBad then 0x021 else if pfOnly && w.fn != 0 then 0x020 else 0

/-- The header and body checks of R362 in their order: the cause of a MALFORMED receipt, or 0. -/
def State.malformed (s : State) (w : Work) : Nat :=
  if w.ord.length ≠ 64 ∨ Bytes.le w.ord 2 2 ≠ w.stall then 0x011
  else if 0x12 < w.opcode then 0x010
  else if !w.reservedZero then 0x012
  else if !s.fieldsOk w then 0x013
  else if !w.addressesOk then 0x014
  else if needsBlock w.opcode && w.resvAddr == 0 then 0x015
  else 0

/-- An earlier order of the stall stands in the way of order `k`'s start (R368, R391). -/
def State.fenceBlocks (s : State) (k : Nat) (w : Work) : Bool :=
  s.works.any fun p => p.2.stall == w.stall && decide (p.1 < k) &&
    (w.fenceFlag || p.2.fenceFlag || p.2.opcode == Op.fence || p.2.stage == .fetched)

/-- An order reaches the calibration engine: a CAL_SAVE when it is routed, a CAL_LOAD at its admission (R533, R534, R541). -/
def State.joinEngine (s : State) (k : Nat) : State :=
  { s with calQueue := (s.calQueue.filter fun j => j != k && (s.work? j).isSome) ++ [k] }

/-- Nothing stands in the way of an order any more: it goes to the unit that serves it. -/
def State.routed (s : State) (k : Nat) (w : Work) : State :=
  let s := s.setWork k { w with stage := .routed }
  if w.opcode = Op.calSave then s.joinEngine k else s

/-- The order has passed its checks: it starts, or waits behind a fence (R368). -/
def State.route (s : State) (k : Nat) (w : Work) : State :=
  if s.fenceBlocks k w then s.setWork k { w with stage := .fenced } else s.routed k w

/-- The permission check and what follows it. -/
def State.permit (s : State) (k : Nat) (w : Work) : State :=
  let c := s.denied w
  let s := if c ≠ 0 then (s.setWork k w).finalReceipt k Status.denied c else s.route k w
  if w.opcode = Op.burst then s.refreshOwned w.burstChans else s

/-- ORDER_RECEIVED: the 64 bytes of a fetched order arrive and are checked (R362). An order with a reservation block then waits for
its read (R374). -/
def execOrderReceived (k : Nat) (bytes : Bytes) (s : State) : Host.Outcome State Fault Refusal :=
  match s.work? k with
  | none => .next s
  | some w =>
    if w.stage ≠ .fetched then .next s
    else
      let w := { w with ord := bytes }
      let c := s.malformed w
      if c ≠ 0 then .next ((s.setWork k w).finalReceipt k Status.malformed c)
      else if needsBlock w.opcode then .next (s.setWork k { w with stage := .blockRead })
      else .next (s.permit k w)

/-- FENCE_RELEASE: nothing stands in the way of a fenced order any more (R368). -/
def execFenceRelease (k : Nat) (s : State) : Host.Outcome State Fault Refusal :=
  match s.work? k with
  | none => .next s
  | some w => if w.stage = .fenced ∧ !s.fenceBlocks k w then .next (s.routed k w) else .next s

/-! ## Receipts (R340, R364) -/

/-- The bytes of a raised receipt at its issue (R364). The promise is read in device time at the issue. -/
def State.receiptOf (s : State) (w : Work) (r : RaisedReceipt) : Bytes :=
  let st := s.stall w.stall
  let issued := if r.status = Status.admitted then w.decidedDt else s.dt80 s.fr
  let promised := r.status == Status.admitted && w.timed
  let unread := r.cause == 0x016
  receiptBytes r.status (if r.final then 1 else 0) w.rflags r.cause
    (if unread then 0xFFFFFFFF else w.seq) (if unread then 0xFF else w.opcode) w.stall st.cons issued
    (if promised then s.dt80 w.promise else 0) (if promised then w.promise % 2 ^ 80 else 0) r.detail
    (if st.rprod / 2 ^ st.rcptLog2 % 2 = 0 then 1 else 0)

/-- The receipt enters the transmit queue at its ring entry, and its interrupt follows it (R340, R353, R364). -/
def State.issueReceipt (s : State) (k : Nat) (w : Work) (r : RaisedReceipt) : State :=
  let st := s.stall w.stall
  let s := s.send (.receipt w.fn w.stall (st.rcptBase + 64 * (st.rprod % 2 ^ st.rcptLog2)) (s.receiptOf w r))
  let s := s.setStall w.stall { st with rprod := (st.rprod + 1) % 2 ^ 32, reserved := st.reserved - 1 }
  let s := s.setWork k { w with slots := w.slots - 1 }
  if ((r.final && w.irqFinal) || (r.status == Status.admitted && w.irqAdmit)) && st.vector != 0xFFFF then
    s.trigger w.fn st.vector else s

/-- Items that a reset or disable of the function ended are counted (R346, R394, R559). STALL_HOST_FLR counts those of the last reset
(R350). -/
def State.countEnded (s : State) (f status : Nat) : State :=
  let v := status == Status.void
  let wd := status == Status.withdrawn
  let fn := s.func f
  let counts := fn.inReset && s.get F.STALL_HOST_FLR_FN == f
  let s := if counts && v then s.countUp F.STALL_HOST_FLR_VOIDED else s
  let s := if counts && wd then s.countUp F.STALL_HOST_FLR_WITHDRAWN else s
  if fn.disabling then
    s.setFunc f { fn with voided := fn.voided + (if v then 1 else 0), withdrawn := fn.withdrawn + (if wd then 1 else 0) }
  else s

/-- Nothing that the device raised for the function before a receipt still waits (R340): earlier receipts stand before it in the list, and an
earlier trigger of the function is taken first. -/
def State.receiptFirst (s : State) (r : RaisedReceipt) : Bool :=
  s.triggers.all fun g => decide (r.no ≤ g.no) || ((s.work? r.work).all fun w => w.fn != g.fn)

/-- RECEIPT_WRITE: the oldest raised receipt that no trigger stands before is issued; a final one releases the order (R340, R364, R399). For
a function that may issue no request, or of a stall that was closed under the work, nothing is written (R336, R346, R351). -/
def execReceiptWrite (s : State) : Host.Outcome State Fault Refusal :=
  match s.receipts.find? s.receiptFirst with
  | none => .next s
  | some r =>
    let s := { s with receipts := s.receipts.erase r }
    match s.work? r.work with
    | none => .next s
    | some w =>
      let s := if s.mayIssue w.fn ∧ w.slots ≠ 0 then s.issueReceipt r.work w r else s
      if r.final then .next ((s.countEnded w.fn r.status).releaseWork r.work r.status) else .next s

/-- A fetched order could not be read: one MALFORMED receipt and the stall halts (R366). -/
def State.orderReadFailed (s : State) (k : Nat) : State :=
  match s.work? k with
  | none => s
  | some w =>
    if w.stage ≠ .fetched then s
    else (s.finalReceipt k Status.malformed 0x016).haltStall w.stall 4

/-- A read of host data for an order fails: of its block (R374), of its image, frame or list (R384, R392), or of data for an
admitted order (R343). -/
def State.dataReadFailed (s : State) (k : Nat) : State :=
  match s.work? k with
  | none => s
  | some w =>
    match w.stage with
    | .blockRead | .dataRead =>
      if w.admittedRcpt then s.voidWork k 0x105 else s.finalReceipt k Status.refused 0x105
    | .window | .running | .ended => if w.admittedRcpt then s.voidWork k 0x105 else s
    | _ => s

/-! ## Reads of host memory and their tags (R335, R339, R342, R353, R356) -/


/-- The host address of entry `i` of an order ring (R353). -/
def Stall.orderAt (st : Stall) (i : Nat) : Nat := st.orderBase + 64 * (i % 2 ^ st.orderLog2)

/-- The reads that a work item is waiting for: (address, length). A block is read from its head; its length is that of its fixed part. -/
def State.workReads (s : State) (w : Work) : List (Nat × Nat) :=
  match w.stage with
  | .fetched => [((s.stall w.stall).orderAt w.idx, 64)]
  | .blockRead => [(w.resvAddr, w.blockLen)]
  | .dataRead => w.hostRanges
  | .window => if w.opcode = Op.segmentStream then w.hostRanges else []
  | _ => []

/-- Doorbell and order reads that are outstanding: requester function, address, length (R335, R352, R353, R356). The doorbell words of
eight stalls share one read. -/
def State.controlReads (s : State) : List (Nat × Nat × Nat) :=
  (s.stalls.flatMap fun p =>
    (if p.2.dbRead then [(p.2.fn, s.dbBase p.2.fn + 64 * (p.1 / 8), 64)] else []) ++
    (if p.2.opening then [(p.2.fn, s.tableBase p.2.fn + 32 * p.1, 32), (p.2.fn, s.dbBase p.2.fn + 8 * p.1, 8)] else [])).eraseDups ++
  ((s.works.filter fun p => p.2.stage == .fetched).flatMap fun p => (s.workReads p.2).map fun r => (p.2.fn, r))

/-- Streaming reads that are outstanding: requester function, address, length. -/
def State.streamReads (s : State) : List (Nat × Nat × Nat) :=
  (s.works.filter fun p => p.2.stage != .fetched).flatMap fun p => (s.workReads p.2).map fun r => (p.2.fn, r)

/-- The requests into which a read is cut: none crosses a 4 KiB boundary or exceeds Max_Read_Request_Size (R339). -/
def State.requests (s : State) (r : Nat × Nat × Nat) : Nat :=
  let m := 128 * 2 ^ min (s.func r.1).opts.maxRead 5
  if r.2.2 = 0 then 0 else (r.2.1 + r.2.2 - 1) / m + 1 - r.2.1 / m

/-- The tags in use (R342, R350): streaming reads take at most seven eighths of the limit; a request without a free tag waits. -/
def State.tagsInUse (s : State) : Nat :=
  let limit := s.get F.STALL_HOST_TAGS_LIMIT
  let stream := min ((s.streamReads.map s.requests).sum) (limit - limit / 8)
  stream + min ((s.controlReads.map s.requests).sum) (limit - stream)

/-- The function for which a read is issued (R335). -/
def State.readFn (s : State) (what : ReadKind) : Nat :=
  match what with
  | .doorbell k => (s.stall k).fn
  | .open_ k => (s.stall k).fn
  | .order k => ((s.work? k).map (·.fn)).getD 0
  | .data k => ((s.work? k).map (·.fn)).getD 0

/-- The AER status bit of a failed read (log entry 6); a completion with status UR or CA sets none. -/
def aerBit : ReadFailure → Option Nat
  | .timeout => some 14
  | .poisoned => some 12
  | .unsupported => none
  | .completerAbort => none

/-- A failed read sets its event and is reported through AER (R343). -/
def State.reportRead (s : State) (e : ReadFailure) (f : Nat) : State :=
  let s := s.setBit (if e = .timeout then F.STALL_HOST_EVENTS_CPL_TIMEOUT else F.STALL_HOST_EVENTS_CPL_ERROR)
  match aerBit e with
  | none => s
  | some b =>
    let fn := s.func f
    if fn.opts.aer.contains b then s else s.setFunc f { fn with opts := { fn.opts with aer := fn.opts.aer ++ [b] } }

/-- READ_FAILED: a read that the device issued ends in a timeout, UR, CA or poisoned data (R343). -/
def execReadFailed (e : ReadFailure) (what : ReadKind) (s : State) : Host.Outcome State Fault Refusal :=
  let s := s.reportRead e (s.readFn what)
  match what with
  | .doorbell k => .next (s.doorbellFailed k)
  | .order k => .next (s.orderReadFailed k)
  | .open_ k =>
    if (s.stall k).opening then .next ((s.setStall k { s.stall k with opening := false }).ctlReject (s.stall k).fn 4) else .next s
  | .data k => .next (s.dataReadFailed k)

end Sys2Proof.Machine
end

