-- ==== Sys2Proof/Machine/Orders.lean ====
section
/-!
DEFINITION. The order rows that belong to no other chapter, and the host data they wait for (spec/14_orders.md). An order row
starts a routed order; for an order that passes the Toll it first offers the order and, once it is admitted, carries it out.
-/

namespace Sys2Proof.Machine

/-- Run `f` on an order in a given stage with a given opcode; without effect otherwise. -/
def State.onWork (s : State) (k op : Nat) (f : Work → State) : State :=
  match s.work? k with
  | some w => if w.opcode = op then f w else s
  | none => s

/-- A routed order that passes the Toll is offered to it (R398, R399). -/
def State.offer (s : State) (k : Nat) (w : Work) : State := s.setWork k { w with stage := .offered, key := [s.fr, 1, w.stall, k] }

/-- A routed order is offered; an admitted one is carried out by `go`. -/
def State.tollOrder (s : State) (k op : Nat) (go : Work → State) : State :=
  s.onWork k op fun w =>
    if w.stage = .routed then s.offer k w
    else if w.stage = .window then go w
    else s

/-- NOP: COMPLETE when it starts (R395). -/
def execOrderNop (k : Nat) (s : State) : Host.Outcome State Fault Refusal :=
  .next (s.onWork k Op.nop fun w => if w.stage = .routed then s.finalReceipt k Status.complete else s)

/-- BURST: offered to the Toll (R375, R398). Its run is that of its sequencer. -/
def execOrderBurst (k : Nat) (s : State) : Host.Outcome State Fault Refusal :=
  .next (s.tollOrder k Op.burst fun _ => s)

/-- Some line of a local range is poisoned (R479). -/
def State.poisoned (s : State) (a n : Nat) : Bool := s.poison.any fun l => decide (a / 64 ≤ l) && decide (64 * l < a + n)

/-- A write that covers a whole line clears its poison (R479). -/
def State.unpoison (s : State) (a n : Nat) : State :=
  { s with poison := s.poison.filter fun l => !(decide (a ≤ 64 * l) && decide (64 * l + 64 ≤ a + n)) }

/-- Record the line of an uncorrectable error (R479). -/
def State.eccAddr (s : State) (line : Nat) : State :=
  (s.set F.DRAM_ECC_ADDR_0_ADDR_LO line).set F.DRAM_ECC_ADDR_1_ADDR_HI (line / 2 ^ 26)

/-- The lowest poisoned line of a local range. -/
def State.badLine (s : State) (a n : Nat) : Nat :=
  match s.poison.filter fun l => decide (a / 64 ≤ l) && decide (64 * l < a + n) with
  | [] => 0
  | l :: ls => ls.foldl min l

/-- An access by work to a poisoned line of a local range (R479, R544 MEMORY). -/
def State.eccDetect (s : State) (a n : Nat) (ks : List Nat) : State :=
  ((s.eccAddr (s.badLine a n)).setBit F.DRAM_EVENTS_ECC_UNCORR).detect { kind := 6, cause := 0x224, source := 0x0700, works := ks }

/-- SEGMENT_WRITE: offered; once admitted, copies local memory into its segments (R383). -/
def execSegmentWrite (k : Nat) (s : State) : Host.Outcome State Fault Refusal :=
  .next (s.tollOrder k Op.segmentWrite fun w =>
    let (dst, n) := w.fillRange
    let src := w.body 32 8
    if s.poisoned src n then s.eccDetect src n [k]
    else
      let s := ({ s with mem := Mem.copy s.mem src dst n }).unpoison dst n
      s.setWork k { w with stage := .running, count := n })

/-- SEGMENT_STREAM: offered; once admitted, the host data (`data`, LENGTH bytes) is written into its segments (R383). -/
def execSegmentStream (k : Nat) (data : Bytes) (s : State) : Host.Outcome State Fault Refusal :=
  .next (s.tollOrder k Op.segmentStream fun w =>
    let (dst, n) := w.fillRange
    if data.length ≠ n then s
    else
      let s := ({ s with mem := Mem.setBytes s.mem dst data }).unpoison dst n
      s.setWork k { w with stage := .running, count := n })

/-- FILL_COMPLETE: the fill's last write completes and its COMPLETE receipt is raised; its segments become FREE and VALID at the
receipt's issue (R111). -/
def execFillComplete (k : Nat) (s : State) : Host.Outcome State Fault Refusal :=
  match s.work? k with
  | some w =>
    if (w.opcode = Op.segmentWrite ∨ w.opcode = Op.segmentStream) ∧ w.stage = .running then
      .next (s.finalReceipt k Status.complete 0 w.detail)
    else .next s
  | none => .next s

/-- CAPTURE_READ: offered; once admitted, the copy of the local range to host memory is issued (R389). -/
def execCaptureRead (k : Nat) (s : State) : Host.Outcome State Fault Refusal :=
  .next (s.tollOrder k Op.captureRead fun w =>
    let n := w.body 48 8
    if s.poisoned (w.body 32 8) n then s.eccDetect (w.body 32 8) n [k]
    else (s.send (.copy w.fn (w.body 40 8) (w.body 32 8) n)).setWork k { w with stage := .running, count := n })

/-- LAST_DATA_WRITE_ISSUED: the last data write of a CAPTURE_READ, PMU_MEASURE or CAL_SAVE has entered the transmit queue, and the
order's COMPLETE receipt is raised after it (R340). A PMU_MEASURE has converted every channel by then (R387). -/
def execLastDataWriteIssued (k : Nat) (s : State) : Host.Outcome State Fault Refusal :=
  match s.work? k with
  | some w =>
    if w.stage = .running ∧ w.cause = 0 ∧ w.left = [] ∧ [Op.captureRead, Op.pmuMeasure, Op.calSave].contains w.opcode then
      .next (s.finalReceipt k Status.complete 0
        (if w.opcode = Op.calSave then leBytes w.count 4 ++ leBytes w.result 4 else w.detail))
    else .next s
  | none => .next s

/-- A commit is pending on one of the channels (R96). -/
def State.tsPendingOn (s : State) (cs : List Nat) : Bool := s.tsPending.any fun p => p.2.chans.any cs.contains

/-- TIMING_LOAD: refused while a commit is pending on one of its channels (R96, R384); otherwise its image is read. -/
def execTimingLoad (k : Nat) (s : State) : Host.Outcome State Fault Refusal :=
  .next (s.onWork k Op.timingLoad fun w =>
    if w.stage ≠ .routed then s
    else if s.tsPendingOn w.chanRange then s.finalReceipt k Status.refused 0x11B
    else s.setWork k { w with stage := .dataRead })

/-- Write one staged timing record from an image at byte `off`; bits [31:5] of word 7 are stored as 0 (R107, R384). -/
def State.stageRecord (s : State) (c t : Nat) (img : Bytes) (off : Nat) : State :=
  (List.range 8).foldl (fun s i =>
    let v := Bytes.le img (off + 4 * i) 4
    s.wr ⟨.TSBANK_STAGE, c, 8 * t + i⟩ (BitVec.ofNat 32 (if i = 7 then v % 32 else v))) s

/-- The image of a TIMING_LOAD is written to the staged bank: channels ascending, sets ascending within each (R384). -/
def State.timingImage (s : State) (k : Nat) (w : Work) (img : Bytes) : State :=
  let recs := w.chanRange.flatMap fun c => (setBits (w.body 44 4) 32).map fun t => (c, t)
  if s.tsPendingOn w.chanRange then s.finalReceipt k Status.refused 0x11B
  else
    let s := (recs.zipIdx).foldl (fun s r => s.stageRecord r.1.1 r.1.2 img (32 * r.2)) s
    s.finalReceipt k Status.complete 0 (leBytes recs.length 4)

/-- Launch queue of a port. -/
def State.frames (s : State) (port : Nat) : List LaunchFrame := if port = 0 then s.frames0 else s.frames1

def State.setFrames (s : State) (port : Nat) (q : List LaunchFrame) : State :=
  if port = 0 then { s with frames0 := q } else { s with frames1 := q }

/-- FRAME_LAUNCH: its frame is read (R392). -/
def execFrameLaunch (k : Nat) (s : State) : Host.Outcome State Fault Refusal :=
  .next (s.onWork k Op.frameLaunch fun w => if w.stage = .routed then s.setWork k { w with stage := .dataRead } else s)

/-- A frame that has been read enters its port's launch queue of 64; a frame whose launch instant has passed is late (R392, R397,
R489). -/
def State.queueFrame (s : State) (k : Nat) (w : Work) (frame : Bytes) : State :=
  let port := w.body 42 1
  if 64 ≤ (s.frames port).length then s.finalReceipt k Status.refused 0x103
  else
    let at_ := s.toFree w.launch
    (s.setWork k { w with stage := .running, data := frame }).setFrames port
      (s.frames port ++ [{ work := k, at_, late := decide (at_ < s.fr) }])

/-- The device's ID (R247). -/
def State.devId (s : State) : Nat := s.get F.GSL_DEVID_DEVID

/-- The block of an order has been read: its form check ends (R362, R374), ENTRY_SEG must be declared (R381). -/
def State.blockArrived (s : State) (k : Nat) (w : Work) : State :=
  if !w.blockOk s.devId then (s.setWork k w).finalReceipt k Status.malformed 0x015
  else if w.opcode = Op.burst ∧ !w.segs.contains (w.body 32 2) then (s.setWork k w).finalReceipt k Status.malformed 0x013
  else s.permit k { w with formed := true }

/-- HOST_READ_COMPLETION: host memory that an order reads has arrived: `data` its block, image, frame or descriptor list, `meas` and
`parts` a block's measurement and participant lists (R374). -/
def execHostReadCompletion (k : Nat) (data meas parts : Bytes) (s : State) : Host.Outcome State Fault Refusal :=
  match s.work? k with
  | none => .next s
  | some w =>
    if w.stage = .blockRead then .next (s.blockArrived k { w with blk := data, meas, parts })
    else if w.stage ≠ .dataRead then .next s
    else if w.opcode = Op.timingLoad then .next (s.timingImage k w data)
    else if w.opcode = Op.frameLaunch then .next (s.queueFrame k w data)
    else if w.opcode = Op.graph then .next (s.setWork k { w with meas := data, stage := .routed })
    else .next (s.setWork k { w with data })

/-- FENCE: COMPLETE once every earlier order of its stall, and every order that the named stalls had fetched before it, has its
final receipt (R391). -/
def execOrderFence (k : Nat) (s : State) : Host.Outcome State Fault Refusal :=
  .next (s.onWork k Op.fence fun w =>
    let named := (List.range (w.body 32 1)).map fun i => w.body (34 + 2 * i) 2
    if (w.stage = .routed ∨ w.stage = .fenced) ∧
        !(s.works.any fun p => decide (p.1 < k) && (p.2.stall == w.stall || named.contains p.2.stall)) then
      s.finalReceipt k Status.complete
    else s)

/-- FLT_DISABLE_STATUS at the start of a disable (R559, R565). -/
def State.disableBusy (s : State) (f : Nat) : State :=
  (((s.setBit F.FLT_DISABLE_STATUS_BUSY).set F.FLT_DISABLE_STATUS_FN f).set F.FLT_DISABLE_STATUS_VOIDED 0).set
    F.FLT_DISABLE_STATUS_WITHDRAWN 0

/-- DISABLE: disables its function; its own receipt follows at DISABLE_DONE (R394). A second DISABLE of a function that is being
disabled joins it with zero counts (R397, R563). -/
def execOrderDisable (k : Nat) (s : State) : Host.Outcome State Fault Refusal :=
  .next (s.onWork k Op.disable fun w =>
    let f := w.body 32 1
    if w.stage ≠ .routed then s
    else if (s.func f).disabling then s.setWork k { w with stage := .running, result := 1 }
    else ((s.setWork k { w with stage := .running }).startDisable f (some k)).disableBusy f)

end Sys2Proof.Machine
end

