-- ==== Sys2Proof/Machine/Mailboxes.lean ====
section
/-!
DEFINITION. Mailboxes and the event router (spec/17_mailboxes_events.md).
-/

namespace Sys2Proof.Machine

/-! ## Bindings (R446, R450) -/

/-- A binding names an identity, not NONE and not a reserved kind. -/
def bindingLive (b : Nat) : Bool := decide (1 ≤ b / 2 ^ 28) && decide (b / 2 ^ 28 ≤ 4)

/-- An agent is the identity that a binding names (R446). -/
def bindingIs (b : Nat) : Agent → Bool
  | .host fn rid => b / 2 ^ 28 == 1 && bitsOf b 16 6 == fn && (bitOf b 27 || bitsOf b 0 16 == rid)
  | .internal id => decide (2 ≤ b / 2 ^ 28) && decide (b / 2 ^ 28 ≤ 4) && b == id

/-- Sender and receiver bindings of a shared channel. -/
def State.txId (s : State) (n : Nat) : Nat := s.get F.MBX_SHn_TX_ID_ID n
def State.rxId (s : State) (n : Nat) : Nat := s.get F.MBX_SHn_RX_ID_ID n

/-- A channel with a NONE binding is disabled (R450). -/
def State.sharedLive (s : State) (n : Nat) : Bool := decide (n < 16) && bindingLive (s.txId n) && bindingLive (s.rxId n)

/-- BIND_VIOLATION of the accessing function; of the PF for an internal agent. -/
def State.bindViolation (s : State) : Agent → State
  | .host fn _ => s.setBit F.MBX_EVENTS_BIND_VIOLATION fn
  | .internal _ => s.setBit F.MBX_EVENTS_BIND_VIOLATION 0

/-- A read command returns words. -/
def State.answer (s : State) (ws : List Word) : State := { s with rdata := ws, rstat := .ok }

/-- A read command ends without data. -/
def State.answerErr (s : State) (e : ReadStatus) : State := { s with rdata := [], rstat := e }

/-- A BAR2 access before boot step 8 acts as one of an unoccupied offset (R610). -/
def State.mbxOpen (s : State) : Agent → Bool
  | .host _ _ => s.booted
  | .internal _ => true

/-- MBX_TXBUF_WRITE: word `w` of channel `n`'s staging buffer (R451). -/
def execMbxTxbufWrite (a : Agent) (n w : Nat) (v : Word) (s : State) : Host.Outcome State Fault Refusal :=
  if !s.mbxOpen a ∨ 16 ≤ n ∨ 16 ≤ w then .next s
  else if s.sharedLive n && bindingIs (s.txId n) a then .next (s.wr ⟨.MBX_SHn_TXBUF_w, n, w⟩ v)
  else .next (s.bindViolation a)

/-- The staged words of a channel become its message (R451). -/
def State.commitMessage (s : State) (n : Nat) : State :=
  (List.range 16).foldl (fun t w => t.wr ⟨.MBX_SHn_RXBUF_w, n, w⟩ (t.rd ⟨.MBX_SHn_TXBUF_w, n, w⟩)) s

/-- MBX_SHARED_SEND: a read of MBX_SHn_SEND (R451, R453). -/
def execMbxSharedSend (a : Agent) (n : Nat) (s : State) : Host.Outcome State Fault Refusal :=
  if !s.mbxOpen a ∨ 16 ≤ n then .next (s.answer [0#32])
  else if !(s.sharedLive n && bindingIs (s.txId n) a) then .next ((s.bindViolation a).answerErr .unsupported)
  else if s.bit F.MBX_SHn_STATUS_FULL n then
    .next (s.answerErr (match a with | .host _ _ => .completerAbort | .internal _ => .accessFault))
  else
    .next ((((s.commitMessage n).setBit F.MBX_SHn_STATUS_FULL n).raise (0x44C + n) s.fr).answer [1#32])

/-- MBX_RXBUF_READ: word `w` of channel `n`'s message; the read of byte 63 clears FULL and raises the emptied source (R452). -/
def execMbxRxbufRead (a : Agent) (n w : Nat) (s : State) : Host.Outcome State Fault Refusal :=
  if !s.mbxOpen a ∨ 16 ≤ n ∨ 16 ≤ w then .next (s.answer [0#32])
  else if !(s.sharedLive n && bindingIs (s.rxId n) a) then .next ((s.bindViolation a).answer [0#32])
  else
    let t := s.answer [s.rd ⟨.MBX_SHn_RXBUF_w, n, w⟩]
    if w = 15 ∧ s.bit F.MBX_SHn_STATUS_FULL n then .next ((t.clrBit F.MBX_SHn_STATUS_FULL n).raise (0x45C + n) s.fr)
    else .next t

/-! ## Private channels (R447 to R449) -/

/-- MBX_PORT_SELECT: a write of a stall number to port `p` of function `fn` (R449). -/
def execMbxPortSelect (fn p k : Nat) (s : State) : Host.Outcome State Fault Refusal :=
  if !s.booted ∨ 16 ≤ p then .next s
  else
    let st := s.stall k
    let port : MbxPort :=
      match st.msg with
      | some m => if s.stallFn k = some fn then { valid := true, stall := k, data := m, msgNo := st.msgNo } else { stall := k }
      | none => { stall := k }
    let s := { s with ports := Store.put s.ports (fn, p) port }
    .next ((s.set F.MBX_PORTp_STATUS_STALL k fn p).setIf F.MBX_PORTp_STATUS_VALID port.valid fn p)

/-- The message a port latched leaves its channel (R449). -/
def State.takePrivate (s : State) (fn : Nat) (port : MbxPort) : State :=
  let st := s.stall port.stall
  if st.msg.isSome && st.msgNo == port.msgNo then
    (s.setStall port.stall { st with msg := none }).setPrivFull fn port.stall false
  else s

/-- MBX_PORT_DATA_READ: word `w` of the latched copy, or 0; the read of byte 63 clears the full flag and VALID (R449, R459). -/
def execMbxPortDataRead (fn p w : Nat) (s : State) : Host.Outcome State Fault Refusal :=
  if !s.booted ∨ 16 ≤ p ∨ 16 ≤ w then .next (s.answer [0#32])
  else
    let port := Store.getD s.ports (fn, p) {}
    if !port.valid then .next (s.answer [0#32])
    else
      let t := s.answer [BitVec.ofNat 32 (Bytes.le port.data (4 * w) 4)]
      if w = 15 then
        let t := { t.takePrivate fn port with ports := Store.put s.ports (fn, p) { port with valid := false } }
        .next (t.clrBit F.MBX_PORTp_STATUS_VALID fn p)
      else .next t

/-! ## The router (R454 to R458) -/

/-- Latency of a destination, in tu (R455). For interrupt and fault inputs the bound of the table is used. -/
def destLatency (dest : Nat) : Tu := if dest < 0x130 then 81920 else if dest < 0x138 then 409600 else 204800

/-- A route passes an event: MARK_MASK for a MARK source, POL for a Crier line or gate (R457). -/
def routePasses (e : RaisedEvent) (pol mask : Nat) : Bool :=
  if 0x200 ≤ e.source ∧ e.source ≤ 0x21F then bitOf mask e.mark
  else if 0x400 ≤ e.source ∧ e.source ≤ 0x40B then pol == 0 || (pol == 1 && e.rising) || (pol == 2 && !e.rising)
  else true

/-- The enabled routes whose source is `src`, by number. -/
def State.routesOf (s : State) (src : Nat) : List Nat :=
  (s.regs.filter fun p => p.1.name == .EVR_ROUTEn_0 && F.EVR_ROUTEn_0_EN.get p.2 == 1 && F.EVR_ROUTEn_0_SOURCE.get p.2 == src).map
    (·.1.i)

/-- The event that is presented first; of several at one instant the one raised first. -/
def firstEvent : List RaisedEvent → Option RaisedEvent
  | [] => none
  | e :: l => some (l.foldl (fun b x => if x.at_ < b.at_ then x else b) e)

/-- EVENT_PRESENT: the raised event with the earliest presentation instant is presented to every enabled route that passes it (R454, R457). -/
def execEventPresent (s : State) : Host.Outcome State Fault Refusal :=
  match firstEvent s.events with
  | none => .next s
  | some e =>
    let s := { s.advanceTo e.at_ with events := s.events.erase e }
    let rs := (s.routesOf e.source).filter fun n =>
      routePasses e (s.get F.EVR_ROUTEn_0_POL n) (s.get F.EVR_ROUTEn_1_MARK_MASK n)
    .next { s with arrivals := s.arrivals ++ rs.map fun n =>
      let dest := s.get F.EVR_ROUTEn_0_DEST n
      { dest, source := e.source, at_ := e.at_ + destLatency dest, route := n, action := s.get F.EVR_ROUTEn_0_ACTION n,
        fn := s.get F.EVR_ROUTEn_2_FUNC n, vector := s.get F.EVR_ROUTEn_2_VECTOR n } }

/-- The sequencer whose event input or acquisition input is a destination (R455). -/
def destSeq (dest : Nat) : Option Nat :=
  if dest < 0x100 then some (dest / 8) else if 0x110 ≤ dest ∧ dest < 0x130 then some (dest - 0x110) else none

/-- A route whose destination belongs to a sequencer with a burst admitted or queued may not be written (R458). -/
def State.routeBusy (s : State) (dest : Nat) : Bool := match destSeq dest with | some n => s.seqBusy n | none => false

/-- ROUTE_WRITE: a write of EVR_ROUTEn_0 (R458). -/
def execRouteWrite (n : Nat) (v : Word) (s : State) : Host.Outcome State Fault Refusal :=
  if !s.booted ∨ 2048 ≤ n then .next s
  else
    let old := s.rd ⟨.EVR_ROUTEn_0, n, 0⟩
    let new := v &&& BitVec.ofNat 32 RegName.EVR_ROUTEn_0.spec.rw
    let en := F.EVR_ROUTEn_0_EN.get new == 1
    let dest := F.EVR_ROUTEn_0_DEST.get new
    if s.routeBusy (F.EVR_ROUTEn_0_DEST.get old) ∨ s.routeBusy dest then .next (s.setBit F.EVR_EVENTS_SETUP_BLOCKED)
    else if F.EVR_ROUTEn_0_EN.get old = 1 ∧ F.EVR_ROUTEn_0_EN.put new 0 ≠ F.EVR_ROUTEn_0_EN.put old 0 then
      .next (s.setBit F.EVR_EVENTS_ROUTE_REJECT)
    else if en ∧ (0x476 < F.EVR_ROUTEn_0_SOURCE.get new ∨ 0x13F < dest ∨ F.EVR_ROUTEn_0_POL.get new = 3 ∨
        (0x130 ≤ dest ∧ dest ≤ 0x137 ∧ vecCount (s.get F.EVR_ROUTEn_2_FUNC n) ≤ s.get F.EVR_ROUTEn_2_VECTOR n)) then
      .next (s.setBit F.EVR_EVENTS_ROUTE_REJECT)
    else .next (s.wr ⟨.EVR_ROUTEn_0, n, 0⟩ new)

end Sys2Proof.Machine
end

