-- ==== Sys2Proof/Machine/Ledger.lean ====
section
/-!
DEFINITION. The Ledger: events, records, repeat counts, reading (spec/23_ledger.md).
-/

namespace Sys2Proof.Machine

/-! ## CRC-32C -/

/-- One bit of CRC-32C, reflected. -/
def crcBit (c : BitVec 32) : BitVec 32 := if c.getLsbD 0 then (c >>> 1) ^^^ 0x82F63B78#32 else c >>> 1

/-- One byte of CRC-32C. -/
def crcByte (c : BitVec 32) (b : Byte) : BitVec 32 :=
  (List.range 8).foldl (fun c _ => crcBit c) (c ^^^ b.zeroExtend 32)

/-- CRC-32C of a byte string. -/
def crc32c (bs : Bytes) : BitVec 32 := ~~~(bs.foldl crcByte 0xFFFFFFFF#32)

/-- The little-endian bytes of words. -/
def wordBytes (ws : List Word) : Bytes := ws.flatMap fun w => leBytes w.toNat 4

/-! ## Records (R566) -/

/-- Records of the MRAM. -/
def ledgerSize : Nat := 524288

/-- Code and source of a record. -/
def recCode (r : List Word) : Nat := (r.getD 2 0#32).toNat % 2 ^ 16
def recSource (r : List Word) : Nat := (r.getD 2 0#32).toNat / 2 ^ 16
def recRepeat (r : List Word) : Nat := (r.getD 7 0#32).toNat % 2 ^ 16
def recMark (r : List Word) : Nat := (r.getD 7 0#32).toNat / 2 ^ 16

/-- The first six words of a record: TIME with its flags, CODE, SOURCE, AUX, DATA (R566). -/
def State.recordHead (s : State) (e : LedgerEv) : List Word :=
  let time := unsigned (s.deviceTime.fdiv (2 ^ 20)) 56 + s.get F.TIME_STATUS_COARSE * 2 ^ 56 + s.get F.TIME_STATUS_LOST * 2 ^ 57
  [BitVec.ofNat 32 time, BitVec.ofNat 32 (time / 2 ^ 32), BitVec.ofNat 32 (e.code + e.source % 2 ^ 16 * 2 ^ 16),
   BitVec.ofNat 32 e.aux, BitVec.ofNat 32 e.data, BitVec.ofNat 32 (e.data / 2 ^ 32)]

/-- A whole record: its head, CHECK, and the commit word's REPEAT and MARK. -/
def mkRecord (head : List Word) (rep mark : Nat) : List Word :=
  head ++ [crc32c (wordBytes head), BitVec.ofNat 32 (rep + mark * 2 ^ 16)]

/-- The state of a record (R577): 0 FREE, 1 COMMITTED, 2 TORN, 3 CORRUPT. -/
def recState (r : List Word) : Nat :=
  if r.getD 6 0#32 = 0xFFFFFFFF#32 ∧ r.getD 7 0#32 = 0xFFFFFFFF#32 then 0
  else if recMark r = 0xA55A ∧ r.getD 6 0#32 = crc32c (wordBytes (r.take 6)) then 1
  else if recMark r = 0x0F0F then 2
  else 3

/-- An erased record. -/
def erased : List Word := List.replicate 8 0xFFFFFFFF#32

/-- Free records beyond reservations (R572). -/
def State.ledgerFree (s : State) : Nat := ledgerSize - s.ledgRecs.length - s.get F.LEDG_FREE_RESERVED

/-- Bring the Ledger's status registers up to date (R580). -/
def State.refreshLedger (s : State) : State :=
  let n := s.ledgRecs.length
  ((((s.set F.LEDG_NEXT_INDEX n).set F.LEDG_FREE_FREE (ledgerSize - n - s.get F.LEDG_FREE_RESERVED)).set F.LEDG_STATUS_PENDING
    s.ledgQueue.length).setIf F.LEDG_STATUS_WRITING s.ledgWrite.isSome)

/-! ## Taking events (R569 to R573) -/

/-- A loss is counted (R571, R575). -/
def State.ledgerLose (s : State) (n : Nat) : State :=
  if n = 0 then s else (s.countUp F.LEDG_LOST_COUNT n).setBit F.LEDG_EVENTS_OVERRUN

/-- An event is not recorded because no record is free (R573). -/
def State.unrecorded (s : State) : State :=
  ((s.setBit F.LEDG_STATUS_FULL).setBit F.LEDG_EVENTS_FULL).countUp F.LEDG_UNRECORDED_COUNT

/-- The event folds into the most recent record (R569). A BOOT record starts every boot, and a reserved record stands for itself. -/
def State.folds (s : State) (e : LedgerEv) : Bool :=
  match s.ledgRecs.getLast? with
  | none => false
  | some r => recState r == 1 && recCode r == e.code && recSource r == e.source && decide (recRepeat r < 65535) &&
      e.code != 1 && !e.reserved

/-- Start the write that an event needs (R569, R573). -/
def State.startWrite (s : State) (e : LedgerEv) : State :=
  if e.reserved then
    { s with ledgWrite := some { words := mkRecord (s.recordHead e) 1 0xA55A, reserved := true } }
  else if s.bit F.LEDG_STATUS_FULL then s.unrecorded
  else if s.folds e then
    { s with ledgWrite := some { words := s.ledgRecs.getLast?.getD [], update := true } }
  else if s.ledgerFree = 0 then s.unrecorded
  else { s with ledgWrite := some { words := mkRecord (s.recordHead e) 1 0xA55A } }

/-- R571: with room in the queue, no write in progress and no torn record to seal (R576), the lost events' OVERRUN record is written. -/
def State.overrunIfDue (s : State) : State :=
  let n := s.get F.LEDG_LOST_COUNT
  if n ≠ 0 ∧ s.ledgQueue.length < 64 ∧ s.ledgWrite.isNone ∧ s.ledgTorn.isNone ∧ !s.bit F.LEDG_STATUS_WARN then
    (s.set F.LEDG_LOST_COUNT 0).startWrite { code := 3, source := 0, aux := n, data := 0 }
  else s

/-- The event that enters the queue next: of the oldest instant, the lowest CODE, then the lowest SOURCE (R570). -/
def nextLedgerEvent : List LedgerEv → Option LedgerEv
  | [] => none
  | e :: es => some (es.foldl (fun b x =>
      if x.at_ = e.at_ ∧ (x.code < b.code ∨ (x.code = b.code ∧ x.source < b.source)) then x else b) e)

/-- An event enters the queue ahead of another: it arrived in the same instant and has the lower CODE, then the lower SOURCE (R570). -/
def LedgerEv.precedes (e x : LedgerEv) : Bool :=
  x.at_ == e.at_ && (decide (e.code < x.code) || (e.code == x.code && decide (e.source < x.source)))

/-- LEDGER_EVENT: an event enters the keeper's queue, or is counted as lost (R570, R571, R575). The event of a
reserved record always has its place (R541). -/
def execLedgerEvent (s : State) : Host.Outcome State Fault Refusal :=
  match nextLedgerEvent s.ledgerEvents with
  | none => .next s
  | some e =>
    let s := { s with ledgerEvents := s.ledgerEvents.erase e }
    let s := if (s.ledgQueue.length ≥ 64 ∧ !e.reserved) ∨ s.bit F.LEDG_STATUS_WARN then s.ledgerLose 1
      else { s with ledgQueue := s.ledgQueue.takeWhile (!e.precedes ·) ++ e :: s.ledgQueue.dropWhile (!e.precedes ·) }
    .next s.overrunIfDue.refreshLedger

/-- LEDGER_TAKE: the keeper takes the oldest queued event (R569, R570, R573), once a torn record is sealed (R576). -/
def execLedgerTake (s : State) : Host.Outcome State Fault Refusal :=
  match s.ledgQueue with
  | [] => .next s
  | e :: es =>
    if s.ledgWrite.isSome ∨ s.ledgTorn.isSome ∨ s.bit F.LEDG_STATUS_WARN then .next s
    else .next (({ s with ledgQueue := es }.startWrite e).refreshLedger)

/-- A record with REPEAT raised by one (R569). -/
def raisedRepeat (r : List Word) : List Word := r.set 7 (BitVec.ofNat 32 (recRepeat r + 1 + recMark r * 2 ^ 16))

/-- LEDGER_WRITE_DONE: the record write or count update completes (R567, R569, R571, R572). -/
def execLedgerWriteDone (s : State) : Host.Outcome State Fault Refusal :=
  match s.ledgWrite with
  | none => .next s
  | some w =>
    let s := { s with ledgWrite := none }
    let s := if w.update then
        { s with ledgRecs := s.ledgRecs.dropLast ++ [raisedRepeat w.words] }
      else { s with ledgRecs := s.ledgRecs ++ [w.words] }
    let s := if w.reserved then s.set F.LEDG_FREE_RESERVED (s.get F.LEDG_FREE_RESERVED - 1) else s
    .next s.overrunIfDue.refreshLedger

/-- VKEEP_WARNING: VKEEP is below 3.0 V. The keeper takes no more events; those queued are lost (R575). -/
def execVkeepWarning (s : State) : Host.Outcome State Fault Refusal :=
  if s.bit F.LEDG_STATUS_WARN then .next s
  else .next (({ (s.setBit F.LEDG_STATUS_WARN).ledgerLose s.ledgQueue.length with ledgQueue := [] }).refreshLedger)

/-- The words of record `i` as a reader finds them. While a new record is being written, its first six words read either way
(R568), and during a count update REPEAT is the old or the new value (table *Ledger events at the same moment*): free values decide. -/
def State.ledgerWords (s : State) (i : Nat) : State × List Word :=
  if i < s.ledgRecs.length then
    let r := s.ledgRecs.getD i erased
    if i + 1 = s.ledgRecs.length ∧ s.ledgWrite.any (·.update) then (s.useFree, if s.freeVal % 2 = 1 then raisedRepeat r else r) else (s, r)
  else match s.ledgWrite with
    | some w =>
      if w.update ∨ i ≠ s.ledgRecs.length then (s, erased)
      else (s.useFree 3, (w.words.zipIdx).map fun p =>
        if p.2 < 6 ∧ Config.freeValue (s.free + p.2 / 2) % 2 = 1 then p.1 else 0xFFFFFFFF#32)
    | none => (s, erased)

/-- LEDGER_READ: a read of LEDG_REC_0 latches the record at LEDG_READ_IDX (R577, R578). -/
def execLedgerRead (s : State) : Host.Outcome State Fault Refusal :=
  if !s.booted then .next (s.answer [0#32])
  else
    let (s, ws) := s.ledgerWords (s.get F.LEDG_READ_IDX_INDEX)
    let st := recState ws
    let s := (ws.zipIdx).foldl (fun s p => s.wr ⟨.LEDG_REC_w, p.2, 0⟩ p.1) s
    let s := s.set F.LEDG_READ_STATE_STATE st
    let s := if st = 3 then s.setBit F.LEDG_EVENTS_CORRUPT else s
    .next (s.answer [ws.getD 0 0#32])

end Sys2Proof.Machine
end

