-- ==== Sys2Proof/Machine/Mapping.lean ====
section
/-!
DEFINITION. Where local addresses lie: the interleave map of R463 and what a range touches, and the Tally slots' channels.
-/

namespace Sys2Proof.Machine

/-- The live grain (log2) and the live enabled channels, ascending (R463). -/
def State.grainLog2 (s : State) : Nat := s.get F.DRAM_ILV_STATUS_LIVE_GRAIN
def State.liveChannels (s : State) : List Nat :=
  setBits ((s.rd ⟨.DRAM_ILV_LIVE_w, 0, 0⟩).toNat + (s.rd ⟨.DRAM_ILV_LIVE_w, 1, 0⟩).toNat * 2 ^ 32) 64

/-- The DRAM channel of a local address (R463). -/
def State.chanOf (s : State) (a : Nat) : Nat :=
  let ch := s.liveChannels
  ch.getD (a / 2 ^ s.grainLog2 % ch.length) 0

/-- Where a local address lies: channel, bank, row, byte of the row (R463). -/
structure Place where
  chan : Nat
  bank : Nat
  row : Nat
  col : Nat
  deriving DecidableEq, Repr

/-- The map of R463. -/
def State.placeOf (s : State) (a : Nat) : Place :=
  let g := 2 ^ s.grainLog2
  let off := a / g / s.liveChannels.length * g + a % g
  { chan := s.chanOf a, bank := off / 2 ^ 10 % 2 ^ 5, row := off / 2 ^ 15, col := off % 2 ^ 10 }

/-- How many numbers below `n` are `i` modulo `e`. -/
def residues (n e i : Nat) : Nat := (n + e - 1 - i) / e

/-- Grains of a range: in all, and on each enabled channel (R406); a partly touched grain counts as whole. -/
def State.rangeGrains (s : State) (a len : Nat) : Nat × List (Nat × Nat) :=
  if len = 0 then (0, [])
  else
    let g := 2 ^ s.grainLog2
    let ch := s.liveChannels
    let lo := a / g
    let hi := (a + len - 1) / g + 1
    (hi - lo, ch.zipIdx.map fun p => (p.1, residues hi ch.length p.2 - residues lo ch.length p.2))

/-- The stack of a DRAM channel: 16 channels each (R462). -/
def stackOf (ch : Nat) : Nat := ch / 16

/-- The stacks that a list of ranges touches. -/
def State.stacksOf (s : State) (ranges : List (Nat × Nat)) : List Nat :=
  (ranges.flatMap fun r => ((s.rangeGrains r.1 r.2).2.filter fun p => p.2 != 0).map fun p => stackOf p.1).eraseDups

/-- The stacks that an admitted order charges. -/
def State.chargedStacks (s : State) (w : Work) : List Nat := s.stacksOf (w.resv.rates.flatMap (·.ranges))

/-- The channel whose comparator a stamp source is (R276). -/
def sourceChan (src : Nat) : Option Nat := if src < 0x200 then some (src % 256) else none

/-- The Row of a stamp source; gates and NONE have none (R276). -/
def sourceRow (src : Nat) : Option Nat :=
  if src < 0x200 then some (src % 256 / 64) else if src < 0x208 then some ((src - 0x200) / 2) else none

/-- The source of a slot. -/
def State.slotSource (s : State) (n : Nat) : Nat := s.get F.TALLY_SLOTn_CFG_SOURCE n

/-- The order's watch has a slot on one of a channel's comparators. -/
def State.watchesChan (s : State) (w : Work) (c : Nat) : Bool :=
  w.watches && w.watchSlots.any fun n => sourceChan (s.slotSource n) == some c

/-- The order's watch has a slot on a Row (R279). -/
def Work.watchesRow (w : Work) (r : Nat) : Bool := w.watches && w.watchSlots.any fun n => n / 32 == r

end Sys2Proof.Machine
end

