-- ==== Sys2Proof/Machine/Pins.lean ====
section
/-!
DEFINITION. Pin channels: level commits and their checks, gradual level changes, enables, comparator outcomes, the protection
detectors and the safe state of one channel (spec/02_pin_channels.md).
-/

namespace Sys2Proof.Machine

/-! ## Level sets -/

/-- The staged level and mode registers, in the order of their offsets (R68). -/
def stagedRegs : List RegName :=
  [.CHn_MODE, .CHn_LEVEL_VIH, .CHn_LEVEL_VIL, .CHn_LEVEL_VOH, .CHn_LEVEL_VOL, .CHn_LEVEL_VCOM, .CHn_LOAD_IOH, .CHn_LOAD_IOL,
   .CHn_CLAMP_HI, .CHn_CLAMP_LO, .CHn_PMU_FORCE, .CHn_PMU_VCLAMP, .CHn_PMU_ICLAMP, .CHn_SLEW]

/-- Their live copies. -/
def liveRegs : List RegName :=
  [.CHn_MODE_LIVE, .CHn_LEVEL_VIH_LIVE, .CHn_LEVEL_VIL_LIVE, .CHn_LEVEL_VOH_LIVE, .CHn_LEVEL_VOL_LIVE, .CHn_LEVEL_VCOM_LIVE,
   .CHn_LOAD_IOH_LIVE, .CHn_LOAD_IOL_LIVE, .CHn_CLAMP_HI_LIVE, .CHn_CLAMP_LO_LIVE, .CHn_PMU_FORCE_LIVE, .CHn_PMU_VCLAMP_LIVE,
   .CHn_PMU_ICLAMP_LIVE, .CHn_SLEW_LIVE]

/-- A level set: the 14 words of a channel's staged or live copy. -/
abbrev LevelSet := List Word

def State.staged (s : State) (c : Nat) : LevelSet := stagedRegs.map fun r => s.rd ⟨r, c, 0⟩
def State.live (s : State) (c : Nat) : LevelSet := liveRegs.map fun r => s.rd ⟨r, c, 0⟩
def LevelSet.w (l : LevelSet) (k : Nat) : Nat := (l.getD k 0#32).toNat
def LevelSet.mode (l : LevelSet) (lsb width : Nat) : Nat := bitsOf (l.w 0) lsb width
def LevelSet.drvRange (l : LevelSet) : Nat := l.mode 0 1
def LevelSet.hysH (l : LevelSet) : Nat := l.mode 4 2
def LevelSet.hysL (l : LevelSet) : Nat := l.mode 6 2
def LevelSet.pmuMode (l : LevelSet) : Nat := l.mode 12 2
def LevelSet.pmuRange (l : LevelSet) : Nat := l.mode 16 3
def LevelSet.swmFilter (l : LevelSet) : Nat := l.mode 24 5
def LevelSet.vih (l : LevelSet) : Nat := l.w 1
def LevelSet.vil (l : LevelSet) : Nat := l.w 2
def LevelSet.voh (l : LevelSet) : Nat := l.w 3
def LevelSet.vol (l : LevelSet) : Nat := l.w 4
def LevelSet.vcom (l : LevelSet) : Nat := l.w 5
def LevelSet.ioh (l : LevelSet) : Nat := l.w 6
def LevelSet.iol (l : LevelSet) : Nat := l.w 7
def LevelSet.clHi (l : LevelSet) : Nat := l.w 8
def LevelSet.clLo (l : LevelSet) : Nat := l.w 9
def LevelSet.force (l : LevelSet) : Nat := l.w 10
def LevelSet.vclHi (l : LevelSet) : Nat := bitsOf (l.w 11) 16 16
def LevelSet.vclLo (l : LevelSet) : Nat := bitsOf (l.w 11) 0 16
def LevelSet.iclHi (l : LevelSet) : Int := signed (bitsOf (l.w 12) 16 16) 16
def LevelSet.iclLo (l : LevelSet) : Int := signed (bitsOf (l.w 12) 0 16) 16
def LevelSet.slew (l : LevelSet) : Nat := l.w 13

/-- PMU modes that force (R49). -/
def fvmi : Nat := 1
def fimv : Nat := 2
def forces (mode : Nat) : Bool := mode == fvmi || mode == fimv

/-- Code limits of VIH and VIL by driver range (R40). -/
def driverLimits (range : Nat) : Nat × Nat := if range = 0 then (0, 0xFFFF) else (0x2000, 0x8000)

/-- Hysteresis in mV (R43). -/
def hysMv (code : Nat) : Nat := match code with | 0 => 0 | 1 => 4 | 2 => 12 | _ => 32

/-- The values of a set that take a calibration correction. The checks of R56 judge them twice: as the targets and as corrected (R39). -/
structure Levels where
  vih : Int
  vil : Int
  voh : Int
  vol : Int
  vcom : Int
  force : Int
  clHi : Int
  clLo : Int
  ioh : Int
  iol : Int
  deriving DecidableEq, Repr

/-- The targets of a set. -/
def LevelSet.targets (l : LevelSet) : Levels :=
  { vih := l.vih, vil := l.vil, voh := l.voh, vol := l.vol, vcom := l.vcom,
    force := if l.pmuMode = fimv then signed l.force 16 else l.force, clHi := l.clHi, clLo := l.clLo, ioh := l.ioh, iol := l.iol }

/-- The corrected values of a set, as its DACs are driven (R529). In OFF and FNMV the force takes no correction. -/
def State.correctedSet (s : State) (c : Nat) (l : LevelSet) : Levels :=
  let gd := s.cal c (if l.drvRange = 0 then 28 else 32) 4
  let gc := s.cal c 36 4
  { vih := Machine.corrected l.vih (s.cal c 12 2) gd
    vil := Machine.corrected l.vil (s.cal c 14 2) gd
    voh := Machine.corrected l.voh (s.cal c 16 2) gc
    vol := Machine.corrected l.vol (s.cal c 18 2) gc
    vcom := Machine.corrected l.vcom (s.cal c 20 2) 0
    force := if l.pmuMode = fvmi then Machine.corrected l.force (s.cal c 26 2) 0
      else if l.pmuMode = fimv then s.pmuI c l.pmuRange (signed l.force 16)
      else l.force
    clHi := Machine.corrected l.clHi (s.cal c 22 2) 0
    clLo := Machine.corrected l.clLo (s.cal c 24 2) 0
    ioh := (l.ioh : Int) + s.cal c 40 2
    iol := (l.iol : Int) + s.cal c 42 2 }

/-- The six ramped levels, in the order of `Chan.frm`. -/
def Levels.ramped (v : Levels) : List Int := [v.vih, v.vil, v.voh, v.vol, v.vcom, v.force]

/-- Every value, in the order in which `Config.inHardwareRange` numbers them. -/
def Levels.all (v : Levels) : List Int := v.ramped ++ [v.clHi, v.clLo, v.ioh, v.iol]

/-- The six ramped levels of a set as their DACs are driven (R529). -/
def State.correctedLevels (s : State) (c : Nat) (l : LevelSet) : List Int := (s.correctedSet c l).ramped

/-- Every corrected value lies within its hardware range. The spec gives no such ranges: a value that its correction does not move
lies within, any other as `Config.inHardwareRange` says (log entry 10). -/
def State.hardwareOk (s : State) (c : Nat) (l : LevelSet) : Bool :=
  ((l.targets.all.zip (s.correctedSet c l).all).zipIdx).all fun p =>
    decide (p.1.1 = p.1.2) || Config.inHardwareRange p.2 l.drvRange p.1.2

/-! ## Commit checks (R56) -/

/-- The limits of check RANGE on values that take a correction. -/
def Levels.rangeOk (v : Levels) (drvRange : Nat) : Bool :=
  let (lo, hi) := driverLimits drvRange
  decide ((lo : Int) ≤ v.vih) && decide (v.vih ≤ hi) && decide ((lo : Int) ≤ v.vil) && decide (v.vil ≤ hi) &&
  decide (v.ioh ≤ 24000) && decide (v.iol ≤ 24000)

/-- Check RANGE passes. -/
def State.rangeOk (s : State) (c : Nat) (l : LevelSet) : Bool :=
  decide (l.pmuRange ≤ 4) && l.targets.rangeOk l.drvRange && (s.correctedSet c l).rangeOk l.drvRange &&
  decide (l.swmFilter ≤ 30) && decide (1 ≤ l.slew) && decide (l.slew ≤ 1000) && s.hardwareOk c l

/-- The swing, threshold and clamp orders of check ORDER, with the sum of the hystereses in mV. One code is 1/8,192 V. -/
def Levels.orderOk (v : Levels) (drvRange hys : Nat) : Bool :=
  decide (v.vil * 10 + 8192 ≤ v.vih * 10) && (drvRange == 0 || decide (v.vih * 10 ≤ v.vil * 10 + 12 * 8192)) &&
  decide (2000 * v.vol + 8192 * hys ≤ 2000 * v.voh) && decide (v.clLo ≤ v.clHi)

/-- Check ORDER passes. -/
def State.orderOk (s : State) (c : Nat) (l : LevelSet) : Bool :=
  let hys := hysMv l.hysH + hysMv l.hysL
  l.targets.orderOk l.drvRange hys && (s.correctedSet c l).orderOk l.drvRange hys && decide (l.vclLo ≤ l.vclHi) && decide (l.iclLo ≤ l.iclHi)

/-- The levels of check CLAMP lie in the clamp window. -/
def Levels.clampOk (v : Levels) (l : LevelSet) : Bool :=
  let inWin (x : Int) : Bool := decide (v.clLo ≤ x) && decide (x ≤ v.clHi)
  inWin v.vih && inWin v.vil && inWin v.vcom && inWin l.vclHi && inWin l.vclLo && (l.pmuMode != fvmi || inWin v.force)

/-- Check CLAMP passes. -/
def State.clampOk (s : State) (c : Nat) (l : LevelSet) : Bool := l.targets.clampOk l && (s.correctedSet c l).clampOk l

/-- Check PMU passes. The PMU's clamps take no correction (R529). -/
def LevelSet.pmuOk (l : LevelSet) : Bool :=
  (l.pmuMode != fvmi || (decide (0 ≤ l.iclHi) && decide (l.iclLo ≤ 0) && decide (328 ≤ l.iclHi - l.iclLo))) &&
  (l.pmuMode != fimv || decide (l.vclLo + 820 ≤ l.vclHi))

/-- The result of the commit checks on a channel's staged set, in the order of the table (R56); SAFE on an unused Row too (R591). BUSY is checked only for the
commit register. -/
def State.commitResult (s : State) (c : Nat) (register : Bool) : Nat :=
  let l := s.staged c
  if register && s.chanBusy c then 1
  else if s.bit F.CHn_STATUS_SAFE c || s.rowOff (c / 64) then 2
  else if !s.rangeOk c l then 3
  else if !s.orderOk c l then 4
  else if !s.clampOk c l then 5
  else if !l.pmuOk then 6
  else 0

/-! ## Gradual level changes (R58 to R62) -/

/-- R64: a commit that turns the PMU into a forcing mode beside a connected driver or load disconnects the PMU. -/
def State.pmuConflict (s : State) (c mode : Nat) : State :=
  if forces mode && s.bit F.CHn_ENABLE_PMU_EN c && (s.bit F.CHn_ENABLE_DRV_EN c || s.bit F.CHn_ENABLE_LOAD_EN c) then
    (s.clrBit F.CHn_ENABLE_PMU_EN c).setBit F.CHn_EVENTS_ENABLE_CONFLICT c
  else s

/-- An accepted commit: the staged registers are copied to the live copy together (R55). -/
def State.applyCommit (s : State) (c : Nat) : State :=
  let l := s.staged c
  let s := (liveRegs.zip l).foldl (fun s p => s.wr ⟨p.1, c, 0⟩ p.2) s
  ((s.set F.CHn_STATUS_COMMIT_RESULT 0 c).pmuConflict c l.pmuMode).requestRamp c

/-- A rejected commit (R56). -/
def State.rejectCommit (s : State) (c result : Nat) : State :=
  (s.set F.CHn_STATUS_COMMIT_RESULT result c).setBit F.CHn_EVENTS_COMMIT_REJECT c

/-- LEVEL_COMMIT: a write of 1 to CHn_LEVEL_COMMIT.COMMIT (R55, R56). -/
def execLevelCommit (c : Nat) (s : State) : Host.Outcome State Fault Refusal :=
  if !s.booted ∨ 256 ≤ c then .next s
  else
    let r := s.commitResult c true
    .next (if r = 0 then s.applyCommit c else s.rejectCommit c r)

/-- The length of a ramp in tu (R58): the largest change in volts over the slew in V/µs. One code is 1/8,192 V; a forced current
counts 1 V for full scale, 32,768 codes (R58). `slew` is in 0.1 V/µs. -/
def rampLen (frm target : List Rat) (mode slew : Nat) : Rat :=
  let volts := ((frm.zip target).zipIdx).map fun p =>
    if p.2 = 5 ∧ !forces mode then 0
    else max (p.1.2 - p.1.1) (p.1.1 - p.1.2) / (if p.2 = 5 ∧ mode = fimv then 32768 else 8192)
  volts.foldl max 0 * 10 * 4096000 / slew

/-- The straight line of a channel starts now toward its live targets; with T = 0 it ends at once (R59). -/
def State.startLine (s : State) (c : Nat) (frm : List Rat) : State :=
  let l := s.live c
  let target := (s.correctedLevels c l).map fun (v : Int) => (v : Rat)
  let frm := if forces l.pmuMode then frm else frm.set 5 (target.getD 5 0)
  let len := rampLen frm target l.pmuMode l.slew
  let ch := s.chan c
  let s := s.setChan c { ch with phase := if len = 0 then .settling else .ramping, frm, target, start := s.fr, len,
                                 range := l.drvRange, pmuMode := l.pmuMode, pmuRange := l.pmuRange, hiZ := ch.hiZ && len ≠ 0 }
  s.setIf F.CHn_STATUS_RAMPING (len ≠ 0) c

/-- R51: a PMU range change in FIMV, from a current that is not 0, first ramps the current to 0. -/
def Chan.zeroes (ch : Chan) (l : LevelSet) (frm : List Rat) : Bool :=
  l.pmuMode == fimv && ch.pmuMode == fimv && ch.pmuRange != l.pmuRange && frm.getD 5 0 != 0

/-- The levels leave `frm`: for zero current where a range change in FIMV asks it (R51), else for the live targets. -/
def State.startLeg (s : State) (c : Nat) (frm : List Rat) : State :=
  let l := s.live c
  let ch := s.chan c
  if ch.zeroes l frm then
    s.setChan c { ch with phase := .zeroing, frm, target := frm.set 5 0, start := s.fr, len := rampLen frm (frm.set 5 0) fimv l.slew }
  else s.startLine c frm

/-- VIH and VIL clamped into the limits of a driver range (R42). -/
def clampDrive (range : Nat) (frm : List Rat) : List Rat :=
  let (lo, hi) := driverLimits range
  let clampTo (v : Rat) : Rat := max (lo : Rat) (min (hi : Rat) v)
  (frm.set 0 (clampTo (frm.getD 0 0))).set 1 (clampTo (frm.getD 1 0))

/-- R51: at the start of the ramp a change of mode into FVMI or FIMV sets the force DAC to zero force of the new mode. -/
def zeroForce (old new : Nat) (frm : List Rat) : List Rat :=
  if old = new then frm
  else if new = fvmi then frm.set 5 0x3000
  else if new = fimv then frm.set 5 0
  else frm

/-- R51: a range change in FVMI switches at the start of the ramp, within 1 µs, in which the clamp of the lower-current range applies. -/
def Chan.switchPmu (ch : Chan) (l : LevelSet) (t : Tu) : Chan :=
  if l.pmuMode = fvmi ∧ ch.pmuMode = fvmi ∧ ch.pmuRange ≠ l.pmuRange then
    { ch with clampRange := min ch.pmuRange l.pmuRange, clampUntil := t + 4096000 }
  else ch

/-- The range whose current clamp applies at an instant (R50, R51). -/
def Chan.clampRangeAt (ch : Chan) (t : Tu) : Nat := if t < ch.clampUntil then ch.clampRange else ch.pmuRange

/-- RAMP_START: the ramp of an accepted commit starts (R42, R51, R59, R62). Where the commit changes both ranges in FIMV, the driver switches
before the current ramps to 0 (log entry 37). -/
def execRampStart (c : Nat) (s : State) : Host.Outcome State Fault Refusal :=
  let ch := s.chan c
  if ch.phase ≠ .starting then .next s
  else
    let l := s.live c
    let s := (s.setBit F.CHn_STATUS_RAMPING c).clrBit F.CHn_STATUS_SETTLED c
    let frm := zeroForce ch.pmuMode l.pmuMode ch.frm
    let ch := { ch with frm, winLo := min ch.winLo l.clLo, winHi := max ch.winHi l.clHi }.switchPmu l s.fr
    if ch.range ≠ l.drvRange then .next (s.setChan c { ch with phase := .switching, start := s.fr, hiZ := true })
    else .next ((s.setChan c ch).startLeg c frm)

/-- RANGE_SWITCH_DONE: 1 µs after the ramp's start the driver range is switched; VIH and VIL start from their previous values,
clamped into the new range's limits (R42). -/
def execRangeSwitchDone (c : Nat) (s : State) : Host.Outcome State Fault Refusal :=
  let ch := s.chan c
  if ch.phase ≠ .switching then .next s
  else
    let range := (s.live c).drvRange
    let s := (s.advanceTo (ch.start + 4096000)).setChan c { ch with range }
    .next (s.startLeg c (clampDrive range ch.frm))

/-- RAMP_END: T has elapsed (R59), and a driver that was switched drives again (R42). The ramp to zero current of a range change is followed
by the ramp to the target (R51). -/
def execRampEnd (c : Nat) (s : State) : Host.Outcome State Fault Refusal :=
  let ch := s.chan c
  let done := ch.start + ch.len.ceil.toNat
  if ch.phase = .zeroing then .next ((s.advanceTo done).startLine c ch.target)
  else if ch.phase = .ramping then
    .next (((s.advanceTo done).setChan c { ch with phase := .settling, frm := ch.target, hiZ := false }).clrBit F.CHn_STATUS_RAMPING c)
  else .next s

/-- Orders that wait for channel `c` to settle: a LEVEL_SET after its accepted commit (R386), a CAL_LOAD after its commit (R536). -/
def State.settledFor (s : State) (c : Nat) : State :=
  s.works.foldl (fun t p =>
    if p.2.left.contains c ∧ (p.2.opcode = Op.levelSet ∨ p.2.opcode = Op.calLoad) ∧ p.2.stage = .running ∧ p.2.cause = 0 then
      let w := { p.2 with left := p.2.left.filter (· ≠ c) }
      let t := t.setWork p.1 w
      if w.left = [] then (t.calDone p.1).finalReceipt p.1 Status.complete 0 w.detail else t
    else t) s

/-- RAMP_DONE: settling ends; the new window is in force, the level verification is pending, and sequence entries that wait for SETTLED
start (R59, R62, R512, R518). -/
def execRampDone (c : Nat) (s : State) : Host.Outcome State Fault Refusal :=
  let ch := s.chan c
  if ch.phase ≠ .settling then .next s
  else
    let l := s.live c
    let s := s.setChan c { ch with phase := .idle, winLo := l.clLo, winHi := l.clHi, verifyPending := true }
    .next ((((s.setBit F.CHn_STATUS_SETTLED c).setBit F.CHn_EVENTS_RAMP_DONE c).settledFor c).adcKick)

/-- The legs still to come of a channel whose levels stand at `frm`: the ramp to zero current of a range change in FIMV, and the ramp to the
live targets (R51, R58). -/
def State.legsFrom (s : State) (c : Nat) (frm : List Rat) : Nat :=
  let l := s.live c
  let target := (s.correctedLevels c l).map fun (v : Int) => (v : Rat)
  if (s.chan c).zeroes l frm then
    (rampLen frm (frm.set 5 0) fimv l.slew).ceil.toNat + (rampLen (frm.set 5 0) target fimv l.slew).ceil.toNat
  else (rampLen frm target l.pmuMode l.slew).ceil.toNat

/-- The end of a channel's ramp as the Toll counts it (R403), with the bound of R59 for a ramp that has not started. -/
def State.rampEndAt (s : State) (c : Nat) : Option Tu :=
  let ch := s.chan c
  let l := s.live c
  let frm := zeroForce ch.pmuMode l.pmuMode ch.frm
  match ch.phase with
  | .idle | .halted => none
  | .settling | .ramping => some (ch.start + ch.len.ceil.toNat)
  | .starting =>
    if ch.range ≠ l.drvRange then some (s.fr + 819200 + 4096000 + s.legsFrom c (clampDrive l.drvRange frm))
    else some (s.fr + 819200 + s.legsFrom c frm)
  | .switching => some (ch.start + 4096000 + s.legsFrom c (clampDrive l.drvRange ch.frm))
  | .zeroing => some (ch.start + ch.len.ceil.toNat +
      (rampLen ch.target ((s.correctedLevels c l).map fun (v : Int) => (v : Rat)) fimv l.slew).ceil.toNat)

/-! ## LEVEL_SET (R55, R56, R386) -/

/-- The records of a LEVEL_SET are written to the staged registers of every named channel (R55). -/
def State.writeLevels (s : State) (w : Work) : State :=
  w.lvChans.foldl (fun s c => (stagedRegs.zipIdx).foldl (fun s r =>
    s.wr ⟨r.1, c, 0⟩ (BitVec.ofNat 32 (w.levelWord c r.2) &&& BitVec.ofNat 32 r.1.spec.rw)) s) s

/-- The first named channel whose commit is rejected, with its result (R56). -/
def State.firstReject (s : State) (cs : List Nat) : Option (Nat × Nat) :=
  (cs.find? fun c => s.commitResult c false ≠ 0).map fun c => (c, s.commitResult c false)

/-- The admitted LEVEL_SET writes and commits its records in one step (R55, R56, R386). -/
def State.levelSet (s : State) (k : Nat) (w : Work) : State :=
  let s := s.writeLevels w
  match s.firstReject w.lvChans with
  | some (c, r) =>
    let w := { w with result := r, failCh := c }
    ((s.rejectCommit c r).setWork k w).finalReceipt k Status.complete 0 w.detail
  | none =>
    (w.lvChans.foldl (fun t c => t.applyCommit c) s).setWork k
      { w with stage := .running, left := w.lvChans, count := w.lvChans.length }

/-- LEVEL_SET: offered to the Toll; once admitted, commits (R386). -/
def execLevelSet (k : Nat) (s : State) : Host.Outcome State Fault Refusal :=
  .next (s.tollOrder k Op.levelSet fun w => s.levelSet k w)

/-! ## Enables (R63, R66, R220) -/

/-- A channel is in use by its lane (R218). -/
def State.laneUses (s : State) (c : Nat) : Bool :=
  let m := s.get F.LANEn_MODE_MODE (c / 4)
  m == 2 || (m == 1 && decide (c % 4 < 2))

/-- CHANNEL_ENABLE_WRITE: a write of CHn_ENABLE (R63, R66, R220, R591). -/
def execChannelEnableWrite (c : Nat) (v : Word) (s : State) : Host.Outcome State Fault Refusal :=
  if !s.booted ∨ 256 ≤ c then .next s
  else
    let v := v &&& 7#32
    let pmu := F.CHn_ENABLE_PMU_EN.get v == 1
    let outs := F.CHn_ENABLE_DRV_EN.get v == 1 || F.CHn_ENABLE_LOAD_EN.get v == 1
    if v ≠ 0#32 ∧ (s.bit F.CHn_STATUS_SAFE c ∨ s.rowOff (c / 64)) then .next (s.setBit F.CHn_EVENTS_ENABLE_BLOCKED c)
    else if v ≠ 0#32 ∧ s.laneUses c then .next (s.setBit F.CHn_EVENTS_ENABLE_CONFLICT c)
    else if pmu ∧ outs ∧ forces (s.get F.CHn_MODE_LIVE_PMU_MODE c) then .next (s.setBit F.CHn_EVENTS_ENABLE_CONFLICT c)
    else .next (s.wr ⟨.CHn_ENABLE, c, 0⟩ v)

/-- What the driver does at the land: 0 high impedance, 1 low, 2 high. It does what the pattern asks only while DRV_EN is 1 (R41), and not from the
start of a range switch to the end of its ramp (R42). In P2 and deeper states drivers, loads and PMUs are disconnected from the lands (R581). -/
def State.landsOn (s : State) : Bool := decide (s.get F.PWR_STATUS_STATE < 2)
def State.driverOn (s : State) (c : Nat) : Bool := s.landsOn && s.bit F.CHn_ENABLE_DRV_EN c && !(s.chan c).hiZ
def State.driverState (s : State) (c : Nat) : Nat := if s.driverOn c then (s.chan c).drive else 0

/-- The active load is connected (R48). -/
def State.loadConnected (s : State) (c : Nat) : Bool :=
  s.landsOn && s.bit F.CHn_ENABLE_LOAD_EN c && (if s.bit F.CHn_MODE_LIVE_LOAD_MODE c then s.driverState c == 0 else (s.chan c).loadOn)

/-- The channel enters the safe state at once: its enables clear, so that the driver is at high impedance and the load and PMU disconnect, and a
ramp in progress or about to start halts (R65, R71). -/
def State.channelSafe (s : State) (c : Nat) : State :=
  let ch := { s.chan c with drive := 0, loadOn := false }
  let s := (s.wr ⟨.CHn_ENABLE, c, 0⟩ 0#32).setBit F.CHn_STATUS_SAFE c
  match ch.phase with
  | .starting | .switching | .zeroing | .ramping =>
    (((s.setChan c { ch with phase := .halted, frm := ch.present s.fr }).setBit F.CHn_STATUS_HALTED c).clrBit F.CHn_STATUS_RAMPING c).clrBit
      F.CHn_STATUS_SETTLED c
  | _ => s.setChan c ch

/-! ## Outcomes and detectors (R45, R47, R50, R53, R54) -/

/-- The sticky bit of an outcome (R47, R71). -/
def sawField (o : Nat) : Fld := ⟨.CHn_CMP_MON, o, 1⟩

/-- The slopes of the transitions that an outcome change makes (R196): rising when the high comparator comes to report above,
falling when the low comparator comes to report below. -/
def slopesOf (a b : Nat) : List Bool :=
  (if (b = 2 ∨ b = 3) ∧ ¬(a = 2 ∨ a = 3) then [true] else []) ++ (if (b = 0 ∨ b = 3) ∧ ¬(a = 0 ∨ a = 3) then [false] else [])

/-- The front end stamps a transition at land instant `t`, unless it follows the last stamped one by less than the resolving time of
1,024 tu (R196). Answers whether it is stamped. -/
def Chan.stamp (ch : Chan) (t : Int) (warm : Bool) : Chan × Bool :=
  match ch.stampAt with
  | some u => if t - u < 1024 then (ch, false) else ({ ch with stampAt := some t, stampWarm := warm }, true)
  | none => ({ ch with stampAt := some t, stampWarm := warm }, true)

/-- The WARM condition of R301 holds now. -/
def State.warm (s : State) : Bool := s.bit F.TALLY_STATUS_WARM

/-- The stamps of a change from outcome `a` to outcome `b` at land instant `t`. -/
def State.stampChange (s : State) (c a b : Nat) (t : Int) : State :=
  (slopesOf a b).foldl (fun s _ => s.setChan c ((s.chan c).stamp t s.warm).1) s

/-- A source makes a transition at `t`: it is on its way to the slot of a watch that has not closed (R276, R277). -/
def State.srcEdge (s : State) (source : Nat) (rising : Bool) (t : Tu) : State :=
  if s.watches.any fun e => !e.2.closed && e.2.slots.any fun x => x.source == source then
    { s with srcEdges := s.srcEdges ++ [{ source, rising, at_ := t }] }
  else s

/-- The transitions of the two comparator sources of a channel when its outcome goes from `a` to `b` (R44, R277): the high comparator reports
above in HIGH and INVALID, the low one in MID and HIGH. -/
def State.srcEdges2 (s : State) (c a b : Nat) (t : Tu) : State :=
  let hi (o : Nat) : Bool := o == 2 || o == 3
  let lo (o : Nat) : Bool := o == 1 || o == 2
  let s := if hi a != hi b then s.srcEdge c (hi b) t else s
  if lo a != lo b then s.srcEdge (0x100 + c) (lo b) t else s

/-- A comparator pair reports INVALID: a wrong-pass detection (R45, R544). -/
def State.disagreement (s : State) (c : Nat) : State := s.detect { kind := 2, cause := 0x212, source := 0x400 + c }

/-- The comparator pair of a channel comes to report outcome `o` now (R44, R45, R47). The outcome that already stands when monitor use begins or when
its sticky bit is cleared sets no bit, because the pin does not reach it then (DESIGN CHOICE, log entry 37). -/
def State.reach (s : State) (c o : Nat) : State :=
  let a := s.get F.CHn_STATUS_LIVE_OUTCOME c
  let s := ((s.stampChange c a o s.fr).srcEdges2 c a o s.fr).set F.CHn_STATUS_LIVE_OUTCOME o c
  let s := if s.bit F.CHn_MODE_LIVE_CMP_USE c ∧ !s.bit F.CHn_STATUS_OWNED c ∧ !s.bit (sawField o) c then
      (s.setBit (sawField o) c).raise c (s.fr + 98304)
    else s
  if o = 3 then s.disagreement c else s

/-- COMPARATOR_OUTCOME_CHANGE: the comparator pair of a channel reports outcome `o` (R44, R45, R47). -/
def execComparatorOutcomeChange (c o : Nat) (s : State) : Host.Outcome State Fault Refusal :=
  if 256 ≤ c ∨ 4 ≤ o then .next s else .next (s.reach c o)

/-- COMPARATOR_DISAGREEMENT: a comparator pair reports INVALID (R45). -/
def execComparatorDisagreement (c : Nat) (s : State) : Host.Outcome State Fault Refusal :=
  if 256 ≤ c then .next s else .next (s.reach c 3)

/-- The channel's front end is powered: the Row is used and the device is not in P4 (R53, R590, R591). -/
def State.frontEndOn (s : State) (c : Nat) : Bool := !s.rowOff (c / 64) && s.get F.PWR_STATUS_STATE != 4

/-- A DUT-overstress report of a channel: its event bit, its protection event and the detection (R53, R54, R454). -/
def State.overstress (s : State) (f : Fld) (c source : Nat) : State :=
  (({ s with safetyDue := s.safetyDue ++ [c] }.setBit f c).raise (0x100 + c) s.fr).detect { kind := 1, cause := 0x220, source := source + c }

/-- SWM_TRIP: the pin stays outside the clamp window for the filter time, whatever the enables, while the monitor is powered (R53). -/
def execSwmTrip (c : Nat) (s : State) : Host.Outcome State Fault Refusal :=
  if 256 ≤ c ∨ !s.frontEndOn c then .next s else .next (s.overstress F.CHn_EVENTS_SWM_TRIP c 0x000)

/-- DRV_STUCK: the output stage carries over 2 mA for the filter time while the driver is at high impedance (R54). In P3 only the safety window
monitors are powered (R582). -/
def execDrvStuck (c : Nat) (s : State) : Host.Outcome State Fault Refusal :=
  if 256 ≤ c ∨ !s.frontEndOn c ∨ 3 ≤ s.get F.PWR_STATUS_STATE ∨ s.driverState c ≠ 0 then .next s else .next (s.overstress F.CHn_EVENTS_DRV_STUCK c 0x100)

/-- The PMU is connected and in a mode that the test admits (R49, R581). -/
def State.pmuIn (s : State) (c : Nat) (p : Nat → Bool) : Bool := s.landsOn && s.bit F.CHn_ENABLE_PMU_EN c && p (s.get F.CHn_MODE_LIVE_PMU_MODE c)

/-- PMU_OVER: the current that the PMU measures, in FVMI, exceeds 110 % of full scale for the filter time (R49, R54). -/
def execPmuOver (c : Nat) (s : State) : Host.Outcome State Fault Refusal :=
  if 256 ≤ c ∨ !s.frontEndOn c ∨ !s.pmuIn c (· == fvmi) then .next s else .next (s.overstress F.CHn_EVENTS_PMU_OVER c 0x200)

/-- PMU_CLAMP: a clamp of a forcing PMU engages (R49, R50). -/
def execPmuClamp (c : Nat) (s : State) : Host.Outcome State Fault Refusal :=
  if 256 ≤ c ∨ !s.pmuIn c forces then .next s else .next ((s.setBit F.CHn_EVENTS_PMU_CLAMP c).raise (0x100 + c) s.fr)

end Sys2Proof.Machine
end

