-- ==== Sys2Proof/Machine/Faults.lean ====
section
/-!
DEFINITION. The fault collector, the safe state, supply dips and disables (spec/22_safety_faults.md).
-/

namespace Sys2Proof.Machine

/-! ## What a detection does (R544, R547) -/

/-- A one-bit field of a rail in FLT_SUPPLY. -/
def warnFld (r : Nat) : Fld := ⟨.FLT_SUPPLY, 16 + r, 1⟩
def dippedFld (r : Nat) : Fld := ⟨.FLT_SUPPLY, r, 1⟩

/-- Kinds with a safe state: OVERSTRESS, THERMAL, and SUPPLY on a pin rail (R544, R554). -/
def kindSafe (kind source : Nat) : Bool := kind == 1 || kind == 9 || (kind == 8 && decide (0x902 ≤ source))

/-- An order that uses a channel or lane (R544): a burst, or an order that names channels. -/
def Work.usesPins (w : Work) : Bool := [Op.burst, Op.levelSet, Op.pmuMeasure, Op.calLoad].contains w.opcode

/-- An order that passes the Toll and is admitted. -/
def Work.isAdmitted (w : Work) : Bool := isToll w.opcode && w.admittedRcpt

/-- An item or graph that has started. -/
def Work.started (w : Work) : Bool :=
  (w.opcode == Op.work || w.opcode == Op.graph) &&
  (match w.stage with | .running | .saving | .preempted | .delayed | .closing => true | _ => false)

/-- The scope of a dip on a rail (R554). -/
def Work.inDipScope (w : Work) (rail : Nat) : Bool :=
  if rail < 2 then w.isAdmitted || (w.started && w.stage == .running) else w.isAdmitted && w.usesPins

/-- The window of an admitted order contains an instant of a dip interval that has begun (R555). -/
def Work.overlapsDip (w : Work) (now : Tu) : Bool := !w.isAdmitted || decide (w.resv.start ≤ now)

/-- The work that a detection makes VOID (R544). -/
def State.affected (s : State) (d : Detection) (w : Work) : Bool :=
  match d.kind with
  | 1 => w.isAdmitted && w.usesPins
  | 2 => d.cause == 0x212 && decide (0x400 ≤ d.source) && decide (d.source < 0x500) &&
      ((w.opcode == Op.burst && w.burstChans.contains (d.source - 0x400)) || s.watchesChan w (d.source - 0x400))
  | 3 => w.opcode == Op.burst || (w.opcode == Op.tallyArm && w.held)
  | 4 => w.isAdmitted && decide (d.reading < w.pace)
  | 5 =>
    if 0x620 ≤ d.source ∧ d.source < 0x624 then
      (w.opcode == Op.burst && w.burstChans.any fun c => c / 64 == d.source - 0x620) || w.watchesRow (d.source - 0x620) ||
      (w.opcode == Op.calLoad && w.calRows.contains (d.source - 0x620))
    else if 0x624 ≤ d.source ∧ d.source < 0x628 then w.isAdmitted && (s.chargedStacks w).contains (d.source - 0x624)
    else false
  | 7 => d.source < 0x820 && w.opcode == Op.burst && w.bSeq == d.source - 0x800
  | 8 => w.inDipScope (d.source - 0x900) && w.overlapsDip s.fr
  | 9 => w.isAdmitted
  | _ => false

/-- Every work that a detection affects ends VOID with the detection's cause (R547). -/
def State.voidFor (s : State) (d : Detection) : State :=
  s.voidAll (((s.works.filter fun p => s.affected d p.2).map Prod.fst) ++ d.works) d.cause

/-- The device enters the safe state: every channel acts as R65 sets, every lane transmitter goes to high impedance (R240),
DUT_SAFE_N goes low (R550). -/
def State.enterSafe (s : State) : State :=
  if s.bit F.FLT_STATUS_SAFE then s
  else
    let s := (List.range 256).foldl (fun t c => t.channelSafe c) s
    { s.clrBit F.FLT_STATUS_DUT_SAFE_N with
      safeEntry := some (s.safeEntry.getD s.fr)
      laneTxOff := (List.range 64).filter fun k => s.get F.LANEn_MODE_MODE k = 2 || s.laneTxOff.contains k }

/-- A FAULT record's event (R548, R566). -/
def faultEvent (d : Detection) (later : Bool) (fr : Tu) : LedgerEv :=
  { code := 0x20, source := d.source, aux := d.kind * 2 ^ 28 + d.cause * 2 ^ 16 + (if later then 1 else 0), data := fr % 2 ^ 64 }

/-- A first fault is latched (R545, R549). -/
def State.latchFirst (s : State) (d : Detection) : State :=
  let word := BitVec.ofNat 32 (d.kind * 2 ^ 28 + d.cause * 2 ^ 16 + d.source)
  let t := s.fr80
  let s := s.wr ⟨.FLT_FIRST, 0, 0⟩ word
  let s := (s.wr80 .FLT_FIRST_TIME_0 .FLT_FIRST_TIME_1 .FLT_FIRST_TIME_2 0 t).set F.FLT_FIRST_TIME_2_ROUTED d.routed
  let s := ((s.setBit F.FLT_STATUS_HANDLING).setBit F.FLT_STATUS_FIRST_VALID).setBit F.FLT_EVENTS_FAULT
  let s := if s.bit F.FLT_MIRROR_TIME_2_VALID then s
    else ((s.wr ⟨.FLT_MIRROR, 0, 0⟩ word).wr80 .FLT_MIRROR_TIME_0 .FLT_MIRROR_TIME_1 .FLT_MIRROR_TIME_2 0 t).setBit
      F.FLT_MIRROR_TIME_2_VALID
  (s.raise 0x476 s.fr).ledger (faultEvent d false s.fr)

/-- The instant that a group of three time registers holds (R545, R549). -/
def State.firstAt (s : State) (a b c : RegName) : Nat :=
  (s.rd ⟨a, 0, 0⟩).toNat + (s.rd ⟨b, 0, 0⟩).toNat * 2 ^ 32 + (s.rd ⟨c, 0, 0⟩).toNat % 2 ^ 16 * 2 ^ 64

/-- The oldest detection; of detections of one instant in CLEAR, the one with the lowest source (R563). -/
def lowestSource : List Detection → Option Detection
  | [] => none
  | d :: ds => some (ds.foldl (fun b x => if x.at_ = d.at_ ∧ x.source < b.source then x else b) d)

/-- A detection latches in the instant of the first fault and has the lower source: it becomes the first fault in its place, the earlier one is
merged (R563). -/
def State.relatch (s : State) (d : Detection) : State :=
  let old := s.rd ⟨.FLT_FIRST, 0, 0⟩
  let s := { s with ledgerEvents := s.ledgerEvents.filter fun e => !(e.code == 0x20 && e.at_ == s.fr && e.source == old.toNat % 2 ^ 16)
                    events := s.events.filter fun e => !(e.source == 0x476 && e.at_ == s.fr) }
  let s := if s.rd ⟨.FLT_MIRROR, 0, 0⟩ = old ∧ s.firstAt .FLT_MIRROR_TIME_0 .FLT_MIRROR_TIME_1 .FLT_MIRROR_TIME_2 = s.fr80 then
      s.clrBit F.FLT_MIRROR_TIME_2_VALID else s
  (s.latchFirst d).countUp F.FLT_STATUS_MERGED

/-- What the collector records of a detection (R545, R548). One of the instant at which HANDLING ended counts as in HANDLING (R563). -/
def State.collect (s : State) (d : Detection) : State :=
  if s.bit F.FLT_STATUS_HANDLING ∧ s.firstAt .FLT_FIRST_TIME_0 .FLT_FIRST_TIME_1 .FLT_FIRST_TIME_2 = s.fr80 ∧ d.source < s.get F.FLT_FIRST_SOURCE then
    s.relatch d
  else if s.bit F.FLT_STATUS_HANDLING ∨ (s.bit F.FLT_STATUS_FIRST_VALID ∧ s.handledAt.any (d.at_ ≤ ·)) then s.countUp F.FLT_STATUS_MERGED
  else if s.bit F.FLT_STATUS_FIRST_VALID then
    (((s.setBit F.FLT_STATUS_OVERFLOW).countUp F.FLT_LATER_COUNT).set F.FLT_LATER_LAST_SOURCE d.source).ledger
      (faultEvent d true s.fr)
  else s.latchFirst d

/-- FAULT_DETECTION: the oldest detection reaches the collector (R545, R547, R550). -/
def execFaultDetection (s : State) : Host.Outcome State Fault Refusal :=
  match lowestSource s.detections with
  | none => .next s
  | some d =>
    let s := ({ s with detections := s.detections.erase d }.collect d).voidFor d
    .next (if kindSafe d.kind d.source then s.enterSafe else s)

/-- The kind and source of the latched first fault have a safe state. -/
def State.firstSafe (s : State) : Bool := kindSafe (s.get F.FLT_FIRST_KIND) (s.get F.FLT_FIRST_SOURCE)

/-- HANDLING_END: the reaction of the first fault is complete: the safe state is confirmed, or every affected work has its notice
(R546). -/
def execHandlingEnd (s : State) : Host.Outcome State Fault Refusal :=
  if !s.bit F.FLT_STATUS_HANDLING then .next s
  else if s.firstSafe then
    .next (if s.bit F.FLT_STATUS_SAFE then { s.clrBit F.FLT_STATUS_HANDLING with handledAt := some s.fr } else s)
  else if s.seqs.any fun p => p.2.notice.isSome then .next s
  else .next { s.clrBit F.FLT_STATUS_HANDLING with handledAt := some s.fr }

/-- 5 µs in tu (R552). -/
def safeBound : Tu := 20480000

/-- SAFE_STATE_CONFIRM: every channel shows SAFE and every stage carries less than 2 mA (R552). -/
def execSafeStateConfirm (s : State) : Host.Outcome State Fault Refusal :=
  match s.safeEntry with
  | none => .next s
  | some t =>
    if t + safeBound < s.fr then .next s
    else .next { s.setBit F.FLT_STATUS_SAFE with safeEntry := none }

/-- ESCALATION_TIMEOUT: the safe state is not confirmed within 5 µs; a confirmation at exactly 5 µs still counts (R552, R563). The reset
follows as its own step. -/
def execEscalationTimeout (s : State) : Host.Outcome State Fault Refusal :=
  match s.safeEntry with
  | none => .next s
  | some t =>
    let s := (s.advanceTo (t + safeBound + 1)).setBit F.FLT_MIRROR_TIME_2_ESCALATED
    let s := s.ledger { code := 0x23, source := s.get F.FLT_FIRST_SOURCE, aux := (s.rd ⟨.FLT_MIRROR, 0, 0⟩).toNat, data := 0 }
    .next { s with safeEntry := none, resets := s.resets ++ [(5, s.fr)] }

/-- DUT_SAFE_N is high when nothing of R551 holds it low. -/
def State.refreshDutSafe (s : State) : State :=
  s.setIf F.FLT_STATUS_DUT_SAFE_N (s.booted && !s.bit F.FLT_STATUS_SAFE && s.safeEntry.isNone && s.powerGood && s.resets.isEmpty &&
    s.inReset.isNone)

/-- An accepted clear (R553). -/
def State.clearFault (s : State) : State :=
  let s := (((((s.wr ⟨.FLT_FIRST, 0, 0⟩ 0#32).wr ⟨.FLT_FIRST_TIME_0, 0, 0⟩ 0#32).wr ⟨.FLT_FIRST_TIME_1, 0, 0⟩ 0#32).wr
    ⟨.FLT_FIRST_TIME_2, 0, 0⟩ 0#32).wr ⟨.FLT_LATER, 0, 0⟩ 0#32).set F.FLT_STATUS_MERGED 0
  let s := (((s.clrBit F.FLT_STATUS_OVERFLOW).clrBit F.FLT_STATUS_FIRST_VALID).clrBit F.FLT_STATUS_SAFE).set
    F.FLT_STATUS_CLEAR_RESULT 0
  { (List.range 256).foldl (fun (t : State) c => t.clrBit F.CHn_STATUS_SAFE c) s with handledAt := none }.refreshDutSafe

/-- The detector of a source asserts, as far as State holds what it detects: a rail that warns, the master out of lock, a comparator pair that is
INVALID (R45, R75, R554). -/
def State.asserts (s : State) (source : Nat) : Bool :=
  if 0x900 ≤ source ∧ source < 0x905 then s.bit (warnFld (source - 0x900))
  else if source = 0x600 then !s.bit F.TSBANK_REF_MASTER_LOCK
  else if 0x400 ≤ source ∧ source < 0x500 then s.get F.CHn_STATUS_LIVE_OUTCOME (source - 0x400) == 3
  else false

/-- FLT_CLEAR: a write of 1 to FLT_CLEAR.CLEAR; `asserting`: a detector of the first fault or of a later detection still asserts, beside
what State shows of them (R553). -/
def execFltClear (asserting : Bool) (s : State) : Host.Outcome State Fault Refusal :=
  if !s.booted then .next s
  else if !s.bit F.FLT_STATUS_FIRST_VALID then .next (s.set F.FLT_STATUS_CLEAR_RESULT 3)
  else if s.bit F.FLT_STATUS_HANDLING ∨ s.safeEntry.isSome then
    .next ((s.set F.FLT_STATUS_CLEAR_RESULT 1).setBit F.FLT_EVENTS_CLEAR_REJECT)
  else if asserting ∨ s.asserts (s.get F.FLT_FIRST_SOURCE) ∨ (s.bit F.FLT_STATUS_OVERFLOW ∧ s.asserts (s.get F.FLT_LATER_LAST_SOURCE)) then
    .next ((s.set F.FLT_STATUS_CLEAR_RESULT 2).setBit F.FLT_EVENTS_CLEAR_REJECT)
  else .next s.clearFault

/-- FLT_MIRROR_ACK: a write of 1 to FLT_MIRROR_ACK.ACK (R549). -/
def execFltMirrorAck (s : State) : Host.Outcome State Fault Refusal :=
  if s.booted then .next ((s.clrBit F.FLT_MIRROR_TIME_2_VALID).clrBit F.FLT_MIRROR_TIME_2_ESCALATED) else .next s

/-! ## Disables (R557 to R559, R565) -/

/-- FLT_DISABLE: a write of a function number (R557, R563, R565). -/
def execFltDisable (f : Nat) (s : State) : Host.Outcome State Fault Refusal :=
  if !s.booted ∨ 64 ≤ f then .next s
  else if s.bit F.FLT_DISABLE_STATUS_BUSY ∧ s.get F.FLT_DISABLE_STATUS_FN ≠ f then .next (s.setBit F.FLT_EVENTS_DISABLE_IGNORED)
  else if (s.func f).disabling then .next s
  else .next ((s.startDisable f none).disableBusy f)

/-- A DISABLE order of function `f` that has started. -/
def Work.disables (w : Work) (f : Nat) : Bool := w.opcode == Op.disable && w.stage == .running && w.body 32 1 == f

/-- DISABLE_DONE: the last item of a disabled function has its final receipt: its stalls close, and the DISABLE orders complete
(R394, R559). -/
def execDisableDone (f : Nat) (s : State) : Host.Outcome State Fault Refusal :=
  let fn := s.func f
  if !fn.disabling ∨ (s.works.any fun p => p.2.fn == f && !p.2.disables f) then .next s
  else
    let s := s.endDisable f
    let s := (s.stallsOf f).foldl (fun t k =>
      if (t.stall k).st = .closed ∨ (t.works.any fun p => p.2.stall == k) then t else (t.writeState k .closed).closeStall k) s
    let ks := s.works.filter fun p => p.2.disables f
    .next (ks.foldl (fun t p => t.finalReceipt p.1 Status.complete 0
      (if p.2.result = 1 then [] else leBytes (min fn.voided 0xFFFF) 2 ++ leBytes (min fn.withdrawn 0xFFFF) 2)) s)

/-! ## Supply dips (R554 to R556) -/

/-- The supply-dip hold (R556). -/
def State.setHold (s : State) (b : Bool) : State := (s.setIf F.FLT_STATUS_HOLD b).setIf F.TOLL_STATUS_HOLD b

/-- SUPPLY_WARNING: rail `r` crosses its warning level (R554, R555, R556). -/
def execSupplyWarning (r : Nat) (s : State) : Host.Outcome State Fault Refusal :=
  if 5 ≤ r ∨ s.bit (warnFld r) then .next s
  else
    let s := (((s.setBit (warnFld r)).setBit (dippedFld r)).setBit F.FLT_EVENTS_DIP).setHold true
    .next { s.detect { kind := 8, cause := 0x226, source := 0x900 + r } with
            holdEnd := none, warnSince := Store.put s.warnSince r s.fr }

/-- SUPPLY_WARNING_END: rail `r` has returned 10 mV past its warning level; `lowest` is the lowest reading during the dip, in mV
(R554, R555, R566). When no rail warns, the hold ends 10 ms later (R556). -/
def execSupplyWarningEnd (r : Nat) (lowest : Int) (s : State) : Host.Outcome State Fault Refusal :=
  if 5 ≤ r ∨ !s.bit (warnFld r) then .next s
  else
    let s := s.clrBit (warnFld r)
    let ns := (s.fr - Store.getD s.warnSince r s.fr + 4096000) / 4096
    let s := s.ledger { code := 0x21, source := 0x900 + r, aux := unsigned lowest 32, data := ns }
    .next { s with warnSince := Store.del s.warnSince r
                   holdEnd := if s.get F.FLT_SUPPLY_WARN = 0 then some (s.fr + 40960000000) else none }

/-- SUPPLY_HOLD_END: every rail has stayed out of warning for 10 ms (R556). -/
def execSupplyHoldEnd (s : State) : Host.Outcome State Fault Refusal :=
  match s.holdEnd with
  | none => .next s
  | some t => .next { (s.advanceTo t).setHold false with holdEnd := none }

end Sys2Proof.Machine
end

