-- ==== Sys2Proof/Machine/Timing.lean ====
section
/-!
DEFINITION. Timing sets, their banks and commits (spec/03_timing_generation.md).
-/

namespace Sys2Proof.Machine

/-! ## Timing-set records (R91) -/

/-- A timing set. -/
structure TSet where
  period : Nat
  data : Nat
  ret : Nat
  drvOn : Nat
  drvOff : Nat
  winOpen : Nat
  winClose : Nat
  valid : Bool
  stream : Bool
  format : Nat
  deriving DecidableEq, Repr

/-- Set `t` of channel `c` in a bank (TSBANK_STAGE or TSBANK_LIVE). -/
def State.tset (s : State) (bank : RegName) (c t : Nat) : TSet :=
  let w (i : Nat) : Nat := (s.rd ⟨bank, c, 8 * t + i⟩).toNat
  { period := w 0, data := w 1, ret := w 2, drvOn := w 3, drvOff := w 4, winOpen := w 5, winClose := w 6,
    valid := bitOf (w 7) 4, stream := bitOf (w 7) 3, format := bitsOf (w 7) 0 3 }

def TSet.returns (t : TSet) : Bool := !t.stream && decide (1 ≤ t.format) && decide (t.format ≤ 4)
/-- Offset of the first and of the last drive transition (R89). -/
def TSet.first (t : TSet) : Nat := if !t.stream && t.format == 4 then 0 else t.data
def TSet.last (t : TSet) : Nat := if t.returns then t.ret else t.data

/-- Check RANGE of R94. -/
def TSet.rangeOk (t : TSet) : Bool :=
  decide (t.format ≤ 4) &&
  (if t.stream then decide (256 ≤ t.period) && decide (t.period ≤ 1280) && t.format == 0 && t.drvOn == 0 && t.drvOff == 0 && t.ret == 0
   else decide (1280 ≤ t.period)) &&
  [t.data, t.ret, t.drvOn, t.drvOff, t.winOpen, t.winClose].all fun e => decide (e < t.period)

/-- The pulse checks within a set at width `w` (R90, R94). -/
def TSet.pulseOk (t : TSet) (w : Nat) : Bool :=
  (!t.returns || decide (t.data + w ≤ t.ret)) && (t.stream || t.format != 4 || decide (w ≤ t.data))

/-- Check ORDER of R94. -/
def TSet.orderOk (t : TSet) : Bool := decide (t.winOpen ≤ t.winClose) && t.pulseOk 256

/-- The valid sets of one mode of a channel: number and set. -/
def State.validSets (s : State) (bank : RegName) (c : Nat) (stream : Bool) : List (Nat × TSet) :=
  ((List.range 32).map fun t => (t, s.tset bank c t)).filter fun p => p.2.valid && p.2.stream == stream

/-- The least member of a list. -/
def least : List Nat → Nat
  | [] => 0
  | a :: l => l.foldl min a

/-- The boundary condition of R89. -/
def boundaryOk (sets : List (Nat × TSet)) (w : Nat) : Bool :=
  sets.isEmpty || decide (w ≤ least (sets.map fun p => p.2.first) + least (sets.map fun p => p.2.period - p.2.last))

/-- The lowest-numbered set that gives the smallest P − l (R94). -/
def tightest (sets : List (Nat × TSet)) : Nat :=
  let m := least (sets.map fun p => p.2.period - p.2.last)
  ((sets.find? fun p => p.2.period - p.2.last == m).map Prod.fst).getD 0

/-- The first (channel, set), in order, whose valid set fails a check. -/
def State.firstSet (s : State) (bank : RegName) (cs : List Nat) (ok : TSet → Bool) : Option (Nat × Nat) :=
  (cs.flatMap fun c => (List.range 32).map fun t => (c, t)).find? fun p =>
    (s.tset bank p.1 p.2).valid && !ok (s.tset bank p.1 p.2)

/-- Check BOUNDARY: the first channel that fails, edge-mode sets before stream-mode sets. -/
def State.boundaryFail (s : State) (bank : RegName) (cs : List Nat) (w : Nat) : Option (Nat × Nat) :=
  (cs.flatMap fun c => [(c, false), (c, true)]).findSome? fun p =>
    let sets := s.validSets bank p.1 p.2
    if boundaryOk sets w then none else some (p.1, tightest sets)

/-- Two channels agree on a set number (check DOMAIN). -/
def sameDomain (a b : TSet) : Bool := a.valid == b.valid && (!a.valid || (a.period == b.period && a.stream == b.stream))

/-- Check DOMAIN: the first channel and set that differ from the lowest-numbered channel. -/
def State.domainFail (s : State) (bank : RegName) : List Nat → Option (Nat × Nat)
  | [] => none
  | c0 :: cs => (cs.flatMap fun c => (List.range 32).map fun t => (c, t)).find? fun p =>
      !sameDomain (s.tset bank c0 p.2) (s.tset bank p.1 p.2)

/-- Minimum UI and mode of every burst admitted or queued on a sequencer. -/
def State.declaredUis (s : State) (n : Nat) : List (Nat × Bool) :=
  (s.works.filter fun p => p.2.burstPresent && p.2.bSeq == n).map fun p => (p.2.uiMin, p.2.stream)

/-- Check DECLARATION. -/
def State.declarationFail (s : State) (cs : List Nat) (n : Nat) : Option (Nat × Nat) :=
  let ds := s.declaredUis n
  cs.head?.bind fun c =>
    ((List.range 32).find? fun t =>
      cs.any fun ch => let x := s.tset .TSBANK_STAGE ch t
        x.valid && ds.any fun d => d.2 == x.stream && decide (x.period < d.1)).map fun t => (c, t)

/-- The commit checks in their order (R94): result code, FAIL_CH, FAIL_SET. `n` is 32 for the unowned channels. -/
def State.timingChecks (s : State) (cs : List Nat) (n : Nat) : Nat × Nat × Nat :=
  match s.firstSet .TSBANK_STAGE cs TSet.rangeOk with
  | some p => (1, p)
  | none =>
  match s.firstSet .TSBANK_STAGE cs TSet.orderOk with
  | some p => (2, p)
  | none =>
  match s.boundaryFail .TSBANK_STAGE cs 256 with
  | some p => (3, p)
  | none =>
  match (if n < 32 then s.domainFail .TSBANK_STAGE cs else none) with
  | some p => (4, p)
  | none =>
  match s.declarationFail cs n with
  | some p => (5, p)
  | none => (0, 0, 0)

/-! ## Commits (R92 to R97) -/

/-- Channels that a sequencer owns, ascending (R129). -/
def State.owned (s : State) (n : Nat) : List Nat := s.mask256 .SEQn_OWN_LIVE_w n

/-- Channels that no sequencer owns (R93). -/
def State.unowned (s : State) : List Nat := (List.range 256).filter fun c => (s.owner c).isNone

/-- A field of TSBANK_STATUS_n, or of TSBANK_STATUS_FREE for `n` = 32. -/
def tsStatus (n : Nat) (f : Fld) : Fld := if n < 32 then f else { f with reg := .TSBANK_STATUS_FREE }

/-- Index of the status register. -/
def tsIdx (n : Nat) : Nat := if n < 32 then n else 0

/-- A commit is requested for `n` (R93, R94, R97); `w`: the TIMING_COMMIT order that asks for it. Answers whether it is accepted. -/
def State.requestTiming (s : State) (n : Nat) (w : Option Nat) : State × Bool :=
  match Store.get? s.tsPending n with
  | some p => ({ s with tsPending := Store.put s.tsPending n { p with works := p.works ++ w.toList } }, true)
  | none =>
    let cs := if n < 32 then s.owned n else s.unowned
    let (r, ch, st) := s.timingChecks cs n
    let i := tsIdx n
    let s := s.set (tsStatus n F.TSBANK_STATUS_n_RESULT) r i
    if r = 0 then
      ({ s.setBit (tsStatus n F.TSBANK_STATUS_n_PENDING) i with
         tsPending := Store.put s.tsPending n { accept := s.fr, chans := cs, works := w.toList } }, true)
    else
      (((s.set (tsStatus n F.TSBANK_STATUS_n_FAIL_CH) ch i).set (tsStatus n F.TSBANK_STATUS_n_FAIL_SET) st i).setBit
        (tsStatus n F.TSBANK_STATUS_n_REJECT) i, false)

/-- TSBANK_COMMIT: a write of 1 to TSBANK_COMMIT_n (R93). -/
def execTsbankCommit (n : Nat) (s : State) : Host.Outcome State Fault Refusal :=
  if !s.booted ∨ 32 ≤ n then .next s else .next (s.requestTiming n none).1

/-- TSBANK_COMMIT_FREE: a write of 1 to TSBANK_COMMIT_FREE (R93). -/
def execTsbankCommitFree (s : State) : Host.Outcome State Fault Refusal :=
  if s.booted then .next (s.requestTiming 32 none).1 else .next s

/-- The commit target of a TIMING_COMMIT: a sequencer, or 32 for the unowned channels (R381). -/
def Work.tsTarget (w : Work) : Nat := if bitOf (w.body 32 1) 7 then 32 else w.body 32 1 % 32

/-- TIMING_COMMIT: a commit by order (R93, R385); a rejected one completes at once with its result (R396). -/
def execTimingCommit (k : Nat) (s : State) : Host.Outcome State Fault Refusal :=
  .next (s.onWork k Op.timingCommit fun w =>
    if w.stage ≠ .routed then s
    else
      let n := w.tsTarget
      let (t, ok) := s.requestTiming n (some k)
      if ok then t.modWork k fun w => { w with stage := .running }
      else
        let st := (t.rd ⟨if n < 32 then .TSBANK_STATUS_n else .TSBANK_STATUS_FREE, tsIdx n, 0⟩)
        t.finalReceipt k Status.complete 0
          (leBytes (F.TSBANK_STATUS_n_RESULT.get st) 1 ++ leBytes (F.TSBANK_STATUS_n_FAIL_CH.get st) 1 ++
            leBytes (F.TSBANK_STATUS_n_FAIL_SET.get st) 1))

/-- The staged bank of the channels becomes their live bank (R92). Words that neither bank lists are 0 in both. -/
def State.copyBank (s : State) (cs : List Nat) : State :=
  { s with regs := (s.regs.filter fun p => !(p.1.name == .TSBANK_LIVE && cs.contains p.1.i)) ++
      ((s.regs.filter fun p => p.1.name == .TSBANK_STAGE && cs.contains p.1.i).map fun p => ({ p.1 with name := .TSBANK_LIVE }, p.2)) }

/-- The commit lead: 1 µs (R95). -/
def commitLead : Tu := 4096000

/-- The sequencer is between its first cycle and its last, or waits to go on. -/
def Seq.live (q : Seq) : Bool := match q.phase with | .off | .ended => false | _ => true

/-- The sequencer's next cycle is settled: its instruction has been taken, and no boundary stands at which it could pause, hold or stop. -/
def Seq.cycling (q : Seq) : Bool := q.phase == .emit && q.run.isSome && !q.paused && !q.bdry

/-- An admitted burst that has not started will start a cycle on the sequencer before an instant. -/
def State.startsBefore (s : State) (n : Nat) (t : Tu) : Bool :=
  s.works.any fun p => p.2.opcode == Op.burst && p.2.bSeq == n && (p.2.stage == .admitted || p.2.stage == .window) && decide (p.2.s0 < t)

/-- The instant at which a pending commit takes effect now, if it does (R95): a vector boundary is the start of a cycle that does start. -/
def State.tsEffect (s : State) (n : Nat) (p : TsCommit) : Option Tu :=
  let q := s.seqSt n
  let due := p.accept + commitLead
  if 32 ≤ n then some due
  else if !q.live then (if s.startsBefore n due then none else some (max due q.nextStart))
  else if q.cycling ∧ due ≤ q.nextStart then some q.nextStart
  else none

/-- TIMING_COMMIT_EFFECT: a pending commit takes effect (R95, R96); its orders complete (R385). -/
def execTimingCommitEffect (n : Nat) (s : State) : Host.Outcome State Fault Refusal :=
  match Store.get? s.tsPending n with
  | none => .next s
  | some p =>
    match s.tsEffect n p with
    | none => .next s
    | some t =>
      let s := if (s.seqSt n).cycling ∧ n < 32 then s else s.advanceTo t
      let s := { s.copyBank p.chans with tsPending := Store.del s.tsPending n }
      let i := tsIdx n
      let s := (s.clrBit (tsStatus n F.TSBANK_STATUS_n_PENDING) i).setBit (tsStatus n F.TSBANK_STATUS_n_DONE) i
      let s := if n < 32 then s.wr80 .TSBANK_CTIME_0_n .TSBANK_CTIME_1_n .TSBANK_CTIME_2_n n (t % 2 ^ 80) else s
      .next (p.works.foldl (fun s k => s.finalReceipt k Status.complete 0 (leBytes 0 3 ++ leBytes (s.dt80 t) 10)) s)

/-- TSBANK_STAGE_WRITE: word `w` of staged set `t` of channel `c` (R92, R96, R107). -/
def execTsbankStageWrite (c t w : Nat) (v : Word) (s : State) : Host.Outcome State Fault Refusal :=
  if !s.booted ∨ 256 ≤ c ∨ 32 ≤ t ∨ 8 ≤ w then .next s
  else
    match s.tsPending.find? fun p => p.2.chans.contains c with
    | some (n, _) => .next (s.setBit (tsStatus n F.TSBANK_STATUS_n_STAGE_BLOCKED) (tsIdx n))
    | none => .next (s.wr ⟨.TSBANK_STAGE, c, 8 * t + w⟩ (if w = 7 then v &&& 0x1F#32 else v))

/-- DRIFT_DETECTION: a Row's delay line or temperature drifts (`stack` false), or a stack sensor leaves 0 °C to 100 °C (`stack`
true) (R35, R103, R467). The Row is then due for a re-measurement (R302). -/
def execDriftDetection (stack : Bool) (i : Nat) (s : State) : Host.Outcome State Fault Refusal :=
  if 4 ≤ i then .next s
  else
    let s := if stack then s.setBit F.DRAM_EVENTS_TEMP_RANGE else { s with driftRows := (i :: s.driftRows).eraseDups }
    .next (s.detect { kind := 5, cause := 0x223, source := (if stack then 0x624 else 0x620) + i })

end Sys2Proof.Machine
end

