-- ==== Sys2Proof/Machine/Sequencer.lean ====
section
/-!
DEFINITION. Pattern sequencers: ownership, instructions, windows and spills, decisions, holds, sessions, boundaries
(spec/04_pattern_memory.md, spec/05_sequencers.md). A cycle itself is in Cycle.lean.
-/

namespace Sys2Proof.Machine

/-! ## Ownership (R129 to R130) -/

/-- OWNERSHIP_COMMIT: a write of 1 to SEQn_OWN_COMMIT (R130). -/
def execOwnershipCommit (n : Nat) (s : State) : Host.Outcome State Fault Refusal :=
  if !s.booted ∨ 32 ≤ n then .next s
  else
    let mask := s.mask256 .SEQn_OWN_w n
    let r := if s.seqBusy n || (Store.get? s.tsPending n).isSome then 1
      else if mask.any (fun c => match s.owner c with | some m => m != n | none => false) then 2 else 0
    let s := s.set F.SEQn_STATUS_OWN_RESULT r n
    if r = 0 then .next ((s.wrWords .SEQn_OWN_LIVE_w n 8 (s.rdWords .SEQn_OWN_w n 8)).setBit F.SEQn_EVENTS_OWN_DONE n)
    else .next (s.setBit F.SEQn_EVENTS_OWN_REJECT n)

/-- The site of a channel on its sequencer (R131). -/
def State.siteOf (s : State) (n c : Nat) : Nat := bitsOf (s.rd ⟨.SEQn_SITE_MAP_m, n, c / 4⟩).toNat (8 * (c % 4)) 8

/-! ## Credits, line store, costs (R124, R125, R141) -/

def fcreditMax : Nat := 32768
def icreditMax : Nat := 4194304

/-- Bits of one segment. -/
def segBits : Nat := 2 ^ 25

/-- The segments that a bit span enters. -/
def spanSegs (b n : Nat) : List Nat :=
  if n = 0 then [] else (List.range ((b + n - 1) / segBits + 1 - b / segBits)).map (b / segBits + ·)

/-- Read lines of local memory through the line store: the cause of a void with the line, or the sequencer after the reads. -/
def State.readLines (s : State) (q : Seq) : List Nat → Except (Nat × Nat) Seq
  | [] => .ok q
  | l :: ls =>
    if q.lines.contains l then s.readLines { q with lines := l :: q.lines.erase l } ls
    else if q.fcredit < 512 then .error (0x205, l)
    else if s.poison.contains l then .error (0x224, l)
    else s.readLines { q with fcredit := q.fcredit - 512, lines := (l :: q.lines).take 32 } ls

/-- Fixed microwords and microwords per beat of an opcode (table 'Instruction costs'). -/
def insCost (op : Nat) : Nat × Nat :=
  match op with
  | 0x01 => (4, 1) | 0x02 => (4, 1) | 0x03 => (3, 0) | 0x04 => (2, 0) | 0x05 => (6, 0) | 0x06 => (5, 0) | 0x07 => (3, 0)
  | 0x08 => (8, 4) | 0x09 => (6, 0) | 0x0A => (4, 0) | 0x0B => (6, 2) | 0x0C => (2, 0) | 0x0D => (3, 0) | 0x0E => (3, 0)
  | 0x0F => (4, 0) | 0x10 => (2, 0) | 0x11 => (3, 0) | 0x12 => (3, 0) | 0x13 => (4, 0) | _ => (0, 0)

/-- The tu that microwords of an opcode cost, with the change that a patch reports (R141, R189). -/
def State.fixedCost (s : State) (op : Nat) : Nat :=
  ((insCost op).1 + signed (s.get F.BOOT_UCCOST_n_FIXED_DELTA op) 8).toNat * 1024
def State.beatCost (s : State) (op : Nat) : Nat :=
  ((insCost op).2 + signed (s.get F.BOOT_UCCOST_n_BEAT_DELTA op) 8).toNat * 1024

/-- Subtract from the instruction credit; none when it would become negative. -/
def Seq.charge (q : Seq) (c : Nat) : Option Seq := if q.icredit < c then none else some { q with icredit := q.icredit - c }

/-! ## The end of a burst's program (R160, R161) -/

/-- The work that holds a sequencer, with what runs there. -/
def State.onSeq (s : State) (n : Nat) (f : Nat → Work → Seq → State) : State :=
  let q := s.seqSt n
  match q.work with
  | none => s
  | some k => match s.work? k with | some w => f k w q | none => s

def State.lane (s : State) (k : Nat) : Lane := Store.getD s.lanes k {}
def State.setLane (s : State) (k : Nat) (v : Lane) : State := { s with lanes := Store.put s.lanes k v }

/-- The lanes bound to a sequencer (R230), and those of them that compare. -/
def State.boundLanes (s : State) (n : Nat) : List Nat :=
  (List.range 64).filter fun k => s.bit F.LANEn_BIND_BOUND k && s.get F.LANEn_BIND_SEQ k == n
def State.cmpLanes (s : State) (n : Nat) : List Nat := (s.boundLanes n).filter fun k => s.bit F.LANEn_BIND_CMP_EN k

/-- The lanes that take part in a burst: the copy of its admission (R230). Their other copied registers ignore writes until the burst
has ended, so that the registers are the copies. -/
def State.burstLanes (s : State) (w : Work) : List Nat := if w.held then w.lanes else s.boundLanes w.bSeq
def State.burstCmpLanes (s : State) (w : Work) : List Nat := (s.burstLanes w).filter fun k => s.bit F.LANEn_BIND_CMP_EN k

/-- A lane's event: its bit and its event on the router (R222, R454); `e`: 0 LOCK, 1 LOL, 2 LOS, 3 MATCH, 4 MISMATCH, 5 CMP_DONE. -/
def State.laneEvent (s : State) (k e : Nat) : State := (s.setBit ⟨.LANEn_EVENTS, e, 1⟩ k).raise (0x240 + 64 * e + k) s.fr

/-- The compare of a lane ends with a result (R235). A PASS stands in CMP_RESULT only once the copies have been checked (R238); `checked`: they have
been. -/
def State.endCompare (s : State) (k result : Nat) (checked : Bool := true) : State :=
  let s := s.setLane k { s.lane k with phase := .done, cmpBlock := false, passDue := result == 1 && !checked }
  (if result = 1 ∧ !checked then s else s.set F.LANEn_STATUS_CMP_RESULT result k).laneEvent k 5

/-- PASS or FAIL (R235). -/
def Lane.verdict (l : Lane) : Nat := if l.blockErrs = 0 then 1 else 2

/-- At the start of a burst's first cycle the compare lanes look for their start condition, and the counts of the burst begin (R234, R237). -/
def State.armCompares (s : State) (w : Work) : State :=
  (s.burstLanes w).foldl (fun s k =>
    s.setLane k { s.lane k with
      phase := if s.bit F.LANEn_BIND_CMP_EN k then .armed else .off, cmpBlock := false, anchored := false, started := false, passDue := false,
      blocks := 0, blockErrs := 0, bitErrs := 0, headerErrs := 0, firstErr := none, startVector := none, lockLosses := 0,
      losSeen := s.bit F.LANEn_STATUS_LOS k, huntSlow := false }) s

/-- The block that is being received is the COUNT-th one to compare: its header was examined no later than now, so that it counts (R241). -/
def State.lastBlock (s : State) (k : Nat) : Bool :=
  let l := s.lane k
  l.cmpBlock && s.get F.LANEn_CMP_COUNT_COUNT k == l.blocks + 1

/-- The burst's last cycle ends, or the burst ends VOID: the compares that are under way end (R235). -/
def State.endCompares (s : State) (w : Work) (void : Bool) : State :=
  (s.burstCmpLanes w).foldl (fun s k =>
    let l := s.lane k
    if !void && s.lastBlock k then s
    else match l.phase with
      | .armed => s.endCompare k (if void then 5 else 0)
      | .running => s.endCompare k (if void then 5 else if s.get F.LANEn_CMP_COUNT_COUNT k = 0 then l.verdict else 4) false
      | _ => s) s

/-- PARK = FLOAT: every owned channel's driver goes to high impedance and its load disconnects (R160). -/
def State.parkFloat (s : State) (n : Nat) : State :=
  (s.owned n).foldl (fun t c => t.setChan c { t.chan c with drive := 0, loadOn := false }) s

/-! ## CAP_STATUS -/

/-- STATE of CAP_STATUS (R217). -/
def CapRun.code (c : CapRun) (w : Work) : Nat :=
  if !w.hasCapture then 0
  else if c.done then 4
  else if c.full then 5
  else if !c.on then 6
  else if w.capMode ≠ 2 then 1
  else if c.triggered then 3 else 2

/-- Bring CAP_STATUS up to date. -/
def State.refreshCap (s : State) (n : Nat) (w : Work) : State :=
  let c := (s.seqSt n).cap
  ((s.set F.CAP_STATUS_STATE (c.code w) n).setIf F.CAP_STATUS_CAPTURE_ON c.on n).setIf F.CAP_STATUS_TRIGGERED c.triggered n

/-- The sequencer starts no further cycle: the end of its last cycle is reached. Marks that wait for the next cycle are raised there when END
follows (R158). RUN_STATE shows CLOSING until the final receipt also for a burst that ends VOID, and ADMITTED for one that ends VOID before its
start (DESIGN CHOICE, log entry 38). -/
def State.endSeq (s : State) (n k : Nat) (stage : Stage) (float : Bool) : State :=
  let q := s.seqSt n
  let s := if q.started then s.advanceTo q.nextStart else s
  let s := if float then s.parkFloat n else s
  let s := match s.work? k with
    | some w => (if q.started then s else s.armCompares w).endCompares w (stage != Stage.closing)
    | none => s
  let s := if stage = .closing then q.acts.foldl (fun t a => match a with
      | .mark m => t.raise (0x200 + n) q.nextStart true m
      | _ => t) s else s
  let s := s.setSeq n { q with phase := .ended, run := none, brf := none, mat := none, holdSt := none, acts := [], bdry := false,
                               paused := false, pauseReq := none, stopReq := none, notice := none, noticed := none,
                               cap := { q.cap with on := false } }
  let s := ((s.modWork k fun w => { w with stage, endAt := q.nextStart }).closeWatchBy k q.nextStart).set F.SEQn_STATUS_RUN_STATE 5 n
  match s.work? k with
  | some w => s.refreshCap n w
  | none => s

/-- The burst ends VOID by its own program; its channels park FLOAT at the end of its last started cycle (R161). An uncorrectable
line is a memory-corruption detection of its own (R126). -/
def State.stopBurst (s : State) (n k cause : Nat) : State :=
  (s.modWork k fun w => { w with cause := if w.cause = 0 then cause else w.cause }).endSeq n k .stopped true

/-- A read through the line store fails: the credit, or an uncorrectable line (R125, R126, R479). -/
def State.readFailed (s : State) (n k : Nat) (e : Nat × Nat) : State :=
  (if e.1 = 0x224 then s.eccDetect (64 * e.2) 64 [k] else s).stopBurst n k e.1

/-- END or STOP: the burst's closing interval begins (R160, R167). Where a cause already stands, the burst ends VOID and parks FLOAT (R161). -/
def State.finishBurst (s : State) (n k : Nat) (w : Work) (float : Bool) : State :=
  s.endSeq n k (if w.cause = 0 then .closing else .stopped) (float || w.cause ≠ 0)

/-! ## Instruction words (R135 to R137) -/

/-- An instruction word. -/
structure Ins where
  op : Nat
  mod : Nat
  x : Nat
  y : Nat
  z : Nat
  deriving DecidableEq, Repr

/-- The local address of an instruction (R135). -/
def insAddr (seg idx : Nat) : Nat := seg * segSize + 16 * idx

/-- The fields of an instruction word. -/
def decodeIns (v : Nat) : Ins :=
  { op := bitsOf v 0 8, mod := bitsOf v 8 8, x := bitsOf v 16 16, y := bitsOf v 32 32, z := bitsOf v 64 64 }

/-- The instruction at an address. -/
def State.insAt (s : State) (seg idx : Nat) : Ins := decodeIns (Mem.le s.mem (insAddr seg idx) 16)

/-- OP is listed, the used fields hold permitted values and the reserved bits are 0 (R136, R137, R157); `n`: owned channels. -/
def Ins.ok (i : Ins) (n : Nat) : Bool :=
  let seg := decide (i.x < 2 ^ 15)
  let idx := decide (i.y < 2 ^ 18)
  match i.op with
  | 0x01 => decide (i.mod < 2) && seg && decide (1 ≤ i.y) && decide (i.y ≤ 2 ^ 24) && decide (i.z < 2 ^ 24)
  | 0x02 => decide (i.mod < 2) && seg && decide (1 ≤ i.y) && decide (i.z < 2 ^ 24)
  | 0x03 => decide (i.mod < 4) && i.x == 0 && decide (1 ≤ i.y) && i.z == 0
  | 0x04 => decide (i.mod < 4) && i.x == 0 && idx && i.z == 0
  | 0x05 | 0x07 => i.mod == 0 && seg && idx && i.z == 0
  | 0x06 | 0x11 | 0x12 => i.mod == 0 && i.x == 0 && i.y == 0 && i.z == 0
  | 0x08 => decide (i.mod < 8) && i.mod % 4 != 3 && seg && decide (1 ≤ i.y) && bitsOf i.z 37 3 == 0 && decide (i.z < 2 ^ 58) &&
      decide (1 ≤ bitsOf i.z 24 13) && decide (bitsOf i.z 24 13 ≤ 4096)
  | 0x09 => decide (i.mod < 16) && i.mod % 4 != 3 && seg && idx && i.z == 0
  | 0x0A => decide (i.mod < 32) && seg && idx && i.z == 0
  | 0x0B => i.mod == 0 && seg && decide (1 ≤ i.y) && decide (i.z < 2 ^ 48)
  | 0x0C => decide (i.mod < 4) && decide (i.x < 2 ^ 10) && i.y == 0 && i.z == 0
  | 0x0D => i.mod == 0 && i.x == 0 && decide (i.y < 4) && decide (i.z < 2 ^ (n - 64 * i.y))
  | 0x0E => decide (i.mod < 2) && i.x == 0 && decide (i.y < 4) && decide (i.z < 2 ^ (n - 64 * i.y))
  | 0x0F => decide (i.mod < 64) && i.x == 0 && decide (i.z < 2 ^ 18)
  | 0x10 => i.mod == 0 && i.x == 0 && decide (i.y < 16) && i.z == 0
  | 0x13 => decide (i.mod < 2) && i.x == 0 && i.y == 0 && i.z == 0
  | _ => false

/-- The instruction names a segment in X. -/
def Ins.namesSeg (i : Ins) : Bool := [0x01, 0x02, 0x05, 0x07, 0x08, 0x09, 0x0A, 0x0B].contains i.op

/-- The sequencer runs its burst and may take the next instruction: no boundary is due and it is not paused. -/
def Seq.free (q : Seq) : Bool := !q.bdry && !q.paused

/-- The instruction of a row is carried out on sequencer `n`: fetched, checked (R110, R136), charged (R141), then `body`. Without
effect when another valid instruction is due. -/
def State.instr (s : State) (n op : Nat) (body : State → Nat → Work → Seq → Ins → State) : State :=
  s.onSeq n fun k w q =>
    if w.stage ≠ .running ∨ q.phase ≠ .ready ∨ !q.free then s
    else if 2 ^ 18 ≤ q.nidx then s.stopBurst n k 0x207
    else if !w.segs.contains q.nseg then s.stopBurst n k 0x206
    else
      match s.readLines q [insAddr q.nseg q.nidx / 64] with
      | .error e => s.readFailed n k e
      | .ok q' =>
        let i := s.insAt q.nseg q.nidx
        if !i.ok (s.owned n).length then s.stopBurst n k 0x203
        else if i.op ≠ op then s
        else if i.namesSeg && !w.segs.contains i.x then s.stopBurst n k 0x206
        else
          match q'.charge (s.fixedCost op) with
          | none => s.stopBurst n k 0x204
          | some q' => body s k w { q' with seg := q.nseg, idx := q.nidx, nidx := q.nidx + 1, onceRead := false, ucount := 0,
                                            irOp := i.op, irMod := i.mod, irX := i.x, irY := i.y, irZ := i.z } i

/-- Control goes to an address. -/
def Seq.goto (q : Seq) (seg idx : Nat) : Seq := { q with nseg := seg, nidx := idx }

/-! ## Runs, repeats, shifts (R121, R122, R142, R143) -/

/-- Groups of timing-set selectors (R121). -/
def groupsOf (n : Nat) : Nat := if n ≤ 128 then 1 else 2

/-- Width of a row in bits (R121); `b`: bits of a code, `n`: owned channels. -/
def rowWidth (b n : Nat) (selecting : Bool) : Nat := (if selecting then 5 * groupsOf n else 0) + b * n

/-- Rows `z` to `z` + `n` − 1 of a form end within their segment (R122). -/
def State.rowsFit (s : State) (n : Nat) (w : Work) (form : Bool) (z rows : Nat) : Bool :=
  decide ((z + rows) * rowWidth w.bitsPerUi (s.owned n).length form ≤ segBits)

/-- A run is handed to the run-ahead path. -/
def Seq.emit (q : Seq) (r : Run) : Seq := { q with phase := .emit, run := some r }

/-- VEC (R142). -/
def execSeqVec (n : Nat) (s : State) : Host.Outcome State Fault Refusal :=
  .next (s.instr n 0x01 fun s k w q i =>
    let form := i.mod == 1
    if !s.rowsFit n w form i.z i.y then s.stopBurst n k 0x207
    else s.setSeq n (q.emit { kind := .vec, seg := i.x, row := i.z, form, left := i.y }))

/-- REPEAT (R142). -/
def execSeqRepeat (n : Nat) (s : State) : Host.Outcome State Fault Refusal :=
  .next (s.instr n 0x02 fun s k w q i =>
    let form := i.mod == 1
    if !s.rowsFit n w form i.z 1 then s.stopBurst n k 0x207
    else s.setSeq n (q.emit { kind := .repeat_, seg := i.x, row := i.z, form, left := i.y }))

/-- SHIFT (R143). -/
def execSeqShift (n : Nat) (s : State) : Host.Outcome State Fault Refusal :=
  .next (s.instr n 0x0B fun s k w q i =>
    let t := bitsOf i.z 24 24
    if !s.rowsFit n w false t 1 then s.stopBurst n k 0x207
    else s.setSeq n (q.emit { kind := .shift, seg := i.x, row := t, chainRow := bitsOf i.z 0 24, left := i.y }))

/-! ## Loops, calls, windows (R145 to R149) -/

/-- The window of the current depth. -/
def Seq.win (q : Seq) : Win := Store.getD q.wins q.depth {}

/-- Set counter `c` of the current window. -/
def Seq.setCounter (q : Seq) (c v : Nat) : Seq :=
  { q with wins := Store.put q.wins q.depth { q.win with c := q.win.c.set c v } }

/-- LOOP (R146). -/
def execSeqLoop (n : Nat) (s : State) : Host.Outcome State Fault Refusal :=
  .next (s.instr n 0x03 fun s _ _ q i => s.setSeq n (q.setCounter i.mod i.y))

/-- ENDLOOP (R146). -/
def execEndloop (n : Nat) (s : State) : Host.Outcome State Fault Refusal :=
  .next (s.instr n 0x04 fun s k _ q i =>
    let c := q.win.c.getD i.mod 0
    if c = 0 then s.stopBurst n k 0x202
    else
      let q := q.setCounter i.mod (c - 1)
      s.setSeq n (if c = 1 then q else q.goto q.seg i.y))

/-- JUMP (R136). -/
def execSeqJump (n : Nat) (s : State) : Host.Outcome State Fault Refusal :=
  .next (s.instr n 0x07 fun s _ _ q i => s.setSeq n (q.goto i.x i.y))

/-- One bit of CRC-16/CCITT-FALSE. -/
def crc16Bit (c : Nat) : Nat := if 2 ^ 15 ≤ c then (c * 2 % 2 ^ 16) ^^^ 0x1021 else c * 2

/-- CRC-16/CCITT-FALSE of a byte string. -/
def crc16 (bs : Bytes) : Nat :=
  bs.foldl (fun c b => (List.range 8).foldl (fun c _ => crc16Bit c) (c ^^^ (b.toNat * 2 ^ 8))) 0xFFFF

/-- The 32 bytes of a spill slot (R148). -/
def spillSlot (d : Nat) (x : Win) : Bytes :=
  let b := leBytes (x.ret % 2 ^ 33) 8 ++ (x.c.flatMap fun v => leBytes v 4) ++ leBytes d 2 ++ leBytes 0 2
  b ++ leBytes (crc16 b) 2 ++ leBytes 0 2

/-- The spill area that a sequencer's registers name (R148). -/
def State.spillBase (s : State) (n : Nat) : Nat :=
  s.get F.SEQn_SPILL_0_BASE_LO n * 64 + s.get F.SEQn_SPILL_1_BASE_HI n * 2 ^ 32

/-- Program windows in use, and the first free one of windows 0 to 6. -/
def Seq.resident (q : Seq) : List Nat := q.wins.filterMap fun p => p.2.slot
def Seq.freeSlot (q : Seq) : Option Nat := (List.range 7).find? fun i => !q.resident.contains i

/-- The lowest depth whose window is resident. -/
def Seq.lowestResident (q : Seq) : Option Nat := (List.range (q.depth + 1)).find? fun d => ((Store.getD q.wins d {}).slot).isSome

/-- The window of depth `d` is written to its spill slot and marked spilled (R148). -/
def State.spill (s : State) (q : Seq) (d : Nat) : State × Seq :=
  let x := Store.getD q.wins d {}
  ({ s with mem := Mem.setBytes s.mem (q.spillAt + 32 * d) (spillSlot d x) },
   { q with wins := Store.put q.wins d { x with slot := none } })

/-- The content of spill slot `d`, none when its CHECK or DEPTH disagrees (R149). -/
def State.spillRead (s : State) (q : Seq) (d : Nat) : Option Win :=
  let b := Mem.bytes s.mem (q.spillAt + 32 * d) 32
  if Bytes.le b 24 2 = d ∧ Bytes.le b 28 2 = crc16 (b.take 28) then
    some { ret := Bytes.le b 0 8, c := (List.range 4).map fun i => Bytes.le b (8 + 4 * i) 4, slot := none }
  else none

/-- Segment and index of an address operand (R148, R174). -/
def retSeg (r : Nat) : Nat := r / 2 ^ 18
def retIdx (r : Nat) : Nat := r % 2 ^ 18

/-- The address operand of an instruction. The instruction after index 262,143, which a CALL there returns to, is index 0 of the next segment
(DESIGN CHOICE, log entry 38: the spec gives that CALL no return address). -/
def retOf (seg idx : Nat) : Nat := seg * 2 ^ 18 + idx

/-- A window opens for the next depth in a free slot. -/
def Seq.openWin (q : Seq) (slot ret : Nat) : Seq :=
  { q with depth := q.depth + 1, wins := Store.put q.wins (q.depth + 1) { ret, slot := some slot } }

/-- The window of the current depth closes. -/
def Seq.closeWin (q : Seq) : Seq := { q with depth := q.depth - 1, wins := Store.del q.wins q.depth }

/-- CALL (R147, R148). -/
def execSeqCall (n : Nat) (s : State) : Host.Outcome State Fault Refusal :=
  .next (s.instr n 0x05 fun s k _ q i =>
    let ret := retOf q.seg q.nidx
    if q.dmax ≤ q.depth then s.stopBurst n k 0x200
    else match q.freeSlot with
      | some sl => s.setSeq n ((q.openWin sl ret).goto i.x i.y)
      | none =>
        match q.charge (24 * 1024), q.lowestResident with
        | some q, some d =>
          let sl := ((Store.getD q.wins d {}).slot).getD 0
          let (s, q) := s.spill q d
          s.setSeq n ((q.openWin sl ret).goto i.x i.y)
        | _, _ => s.stopBurst n k 0x204)

/-- A fill whose slot fails its check (R149). -/
def State.fillFailed (s : State) (n k : Nat) : State :=
  (s.detect { kind := 6, cause := 0x224, source := 0x0703, works := [k] }).stopBurst n k 0x224

/-- RETURN (R147, R148, R149). -/
def execSeqReturn (n : Nat) (s : State) : Host.Outcome State Fault Refusal :=
  .next (s.instr n 0x06 fun s k _ q _ =>
    if q.depth = 0 then s.stopBurst n k 0x201
    else
      let ret := q.win.ret
      let d := q.depth - 1
      let back := (q.closeWin).goto (retSeg ret) (retIdx ret)
      match (Store.getD q.wins d {}).slot with
      | some _ => s.setSeq n back
      | none =>
        match back.charge (280 * 1024) with
        | none => s.stopBurst n k 0x204
        | some back =>
          if s.poisoned (q.spillAt + 32 * d) 32 then s.readFailed n k (0x224, s.badLine (q.spillAt + 32 * d) 32)
          else match s.spillRead q d, back.freeSlot with
            | some x, some sl => s.setSeq n { back with wins := Store.put back.wins d { x with slot := some sl } }
            | _, _ => s.fillFailed n k)

/-! ## Sites and decisions (R150 to R156) -/

/-- The set that holds one site. -/
def siteBit (i : Nat) : Set256 := 1#256 <<< i

/-- Bring SEQn_SITE_FAIL and SEQn_SITE_ACTIVE up to date (R152). -/
def State.refreshSites (s : State) (n : Nat) : State :=
  let q := s.seqSt n
  (s.wrWords .SEQn_SITE_FAIL_w n 8 q.bfail.toNat).wrWords .SEQn_SITE_ACTIVE_w n 8 q.active.toNat

/-- The period of a quiet cycle: that of the set that the last emitted vector selected, in the bank now live (R150, R168); before the first vector
that of the set that group 0's selector names on the lowest owned channel (log entry 12). -/
def State.periodNow (s : State) (n : Nat) (q : Seq) : Nat :=
  match s.owned n, q.lastSet with
  | c :: _, some i => let t := s.tset .TSBANK_LIVE c i; if t.period = 0 then q.period else t.period
  | c :: _, none => let t := s.tset .TSBANK_LIVE c q.sel0; if q.period ≠ 0 then q.period else if t.valid then t.period else 0
  | [], _ => q.period

/-- Quiet cycles that cover an interval (R154). -/
def quietCount (interval period : Nat) : Nat := ceilDiv interval period

/-- The outcome lead of a decision (R151). -/
def outcomeLead : Tu := 163840

/-- The lead of a decision instant (R140). -/
def decisionLead : Tu := 81920

/-- BRFAIL's decision (R154): the new A and whether the branch is taken. -/
def brfailTaken (sites : Nat) (invert : Bool) (a f : Set256) : Set256 × Bool :=
  let a' := if sites = 2 then a &&& ~~~f else a
  let t := if sites = 0 then a &&& f != 0 else if sites = 1 then a != 0 && a &&& ~~~f == 0 else a' == 0
  (a', t != invert)

/-- BRFAIL (R154). The first call emits its quiet cycles; the second decides after them. -/
def execBrfail (n : Nat) (s : State) : Host.Outcome State Fault Refusal :=
  let q := s.seqSt n
  match q.phase, q.brf with
  | .brDecide, some b =>
    let (a, t) := brfailTaken b.sites b.invert q.active q.lfail
    let q := { q with phase := .ready, brf := none, active := a, retired := q.retired ||| (q.active &&& ~~~a),
                      lfail := if b.clear then 0 else q.lfail }
    .next ((s.setSeq n (if t then q.goto b.seg b.idx else q)).refreshSites n)
  | _, _ => .next (s.instr n 0x09 fun s k _ q i =>
      let p := s.periodNow n q
      if p = 0 then s.stopBurst n k 0x209
      else
        let b : BrFail := { sites := i.mod % 4, invert := bitOf i.mod 2, clear := bitOf i.mod 3, seg := i.x, idx := i.y }
        s.setSeq n { q.emit { kind := .quiet, left := quietCount outcomeLead p } with brf := some b, period := p })

/-- The instants of an input's events since its latch was last cleared. -/
def Seq.evOf (q : Seq) (e : Nat) : List Tu := Store.getD q.ev e []

/-- The decision instant of the boundary before the next cycle (R140). -/
def Seq.decision (q : Seq) : Tu := q.nextStart - decisionLead

/-- An event latch as it stands at the decision instant before the next cycle (R155). -/
def Seq.latched (q : Seq) (e : Nat) : Bool := (q.evOf e).any fun t => decide (t ≤ q.decision)

/-- The latch of an input is cleared as it stood at the decision instant; later events stay latched (R155). -/
def Seq.clearLatch (q : Seq) (e : Nat) : Seq :=
  match (q.evOf e).filter fun t => decide (q.decision < t) with
  | [] => { q with ev := Store.del q.ev e }
  | l => { q with ev := Store.put q.ev e l }

/-- Time passes the decision instant before the next cycle, so that all that arrives at it has been seen (R140). -/
def State.pastDecision (s : State) (q : Seq) : State := s.advanceTo (q.decision + 1)

/-- BREVT (R155). -/
def execBrevt (n : Nat) (s : State) : Host.Outcome State Fault Refusal :=
  .next (s.instr n 0x0A fun s _ _ q i =>
    let e := i.mod % 8
    let t := q.latched e != bitOf i.mod 4
    let q := if bitOf i.mod 3 then q.clearLatch e else q
    (s.pastDecision q).setSeq n (if t then q.goto i.x i.y else q))

/-- The matched sites whose outcomes are known at the coming boundary (R156). -/
def Seq.known (q : Seq) (m : MatchSt) : Set256 :=
  (m.ended.filter fun p => decide (p.1 + outcomeLead ≤ q.nextStart)).foldl (fun l p => l ||| ~~~p.2) q.matched

/-- The exit condition of a MATCH. -/
def matchExit (sites : Nat) (a l : Set256) : Bool :=
  if sites = 0 then a &&& l != 0 else if sites = 1 then a != 0 && a &&& ~~~l == 0 else a &&& ~~~l == 0

/-- One iteration of a MATCH starts: its rows form one beat. -/
def Seq.iterate (q : Seq) (m : MatchSt) : Seq :=
  { q.emit { kind := .match_, seg := m.seg, row := m.row, form := m.form, left := m.rows } with
    mat := some { m with fails := 0 }, onceRead := false }

/-- Quiet cycles needed before the outcome of the last iteration is known at the coming boundary. -/
def Seq.matchQuiet (q : Seq) (m : MatchSt) : Nat :=
  match m.ended.getLast? with
  | some p => quietCount (p.1 + outcomeLead - q.nextStart) q.period
  | none => 0

/-- The decision of a MATCH at an iteration boundary (R156): exit, a further iteration, or the final quiet cycles. The time-out has
a row of its own. -/
def Seq.matchDecide (q : Seq) (m : MatchSt) : Seq :=
  let l := q.known m
  let q := { q with matched := l }
  if matchExit m.sites q.active l then { q with phase := .ready, mat := none }
  else if m.iters < m.limit then q.iterate m
  else if 0 < q.matchQuiet m then { q.emit { kind := .quiet, left := q.matchQuiet m } with mat := some { m with quietDone := true } }
  else q

/-- MATCH (R156). The first call starts the first iteration; at each iteration boundary a call decides. -/
def execSeqMatch (n : Nat) (s : State) : Host.Outcome State Fault Refusal :=
  let q := s.seqSt n
  match q.phase, q.mat with
  | .matchDecide, some m => .next (if q.free then s.setSeq n (q.matchDecide m) else s)
  | _, _ => .next (s.instr n 0x08 fun s k w q i =>
      let form := bitOf i.mod 2
      let r := bitsOf i.z 24 13
      let row := bitsOf i.z 0 24
      if !s.rowsFit n w form row r then s.stopBurst n k 0x207
      else
        let m : MatchSt := { sites := i.mod % 4, form, seg := i.x, row, rows := r, limit := i.y, timeout := bitsOf i.z 40 18 }
        s.setSeq n ({ q with matched := 0 }.iterate m))

/-- MATCH_TIMEOUT: the limit is reached, the last outcome is known and the exit condition does not hold (R156). -/
def execMatchTimeout (n : Nat) (s : State) : Host.Outcome State Fault Refusal :=
  let q := s.seqSt n
  match q.phase, q.mat with
  | .matchDecide, some m =>
    let l := q.known m
    if !q.free ∨ matchExit m.sites q.active l ∨ m.iters < m.limit ∨ 0 < q.matchQuiet m then .next s
    else
      let q := { q with phase := .ready, mat := none, matched := l }
      if m.sites = 2 then
        .next ((s.setSeq n { q with active := q.active &&& l, retired := q.retired ||| (q.active &&& ~~~l) }).refreshSites n)
      else .next (s.setSeq n (q.goto q.seg m.timeout))
  | _, _ => .next s

/-! ## Instructions without cycles (R138, R157, R158) -/

/-- An action waits for the next cycle start (R138). -/
def Seq.act (q : Seq) (a : SeqAct) : Seq := { q with acts := q.acts ++ [a] }

/-- SETTS (R158). -/
def execSetts (n : Nat) (s : State) : Host.Outcome State Fault Refusal :=
  .next (s.instr n 0x0C fun s _ _ q i => s.setSeq n (q.act (.setts i.mod (i.x % 32) (i.x / 32))))

/-- DIR (R157). -/
def execSeqDir (n : Nat) (s : State) : Host.Outcome State Fault Refusal :=
  .next (s.instr n 0x0D fun s _ _ q i => s.setSeq n (q.act (.dir i.y i.z)))

/-- EDGECMP (R157). -/
def execEdgecmp (n : Nat) (s : State) : Host.Outcome State Fault Refusal :=
  .next (s.instr n 0x0E fun s _ _ q i => s.setSeq n (q.act (.edgecmp (i.mod == 1) i.y i.z)))

/-- MARK (R158). -/
def execSeqMark (n : Nat) (s : State) : Host.Outcome State Fault Refusal :=
  .next (s.instr n 0x10 fun s _ _ q i => s.setSeq n (q.act (.mark i.y)))

/-- CAPTURE_ON (R158). -/
def execCaptureOn (n : Nat) (s : State) : Host.Outcome State Fault Refusal :=
  .next (s.instr n 0x11 fun s k w q _ => if w.hasCapture then s.setSeq n (q.act .captureOn) else s.stopBurst n k 0x20D)

/-- CAPTURE_OFF (R158). -/
def execCaptureOff (n : Nat) (s : State) : Host.Outcome State Fault Refusal :=
  .next (s.instr n 0x12 fun s _ _ q _ => s.setSeq n (q.act .captureOff))

/-- END (R160). -/
def execSeqEnd (n : Nat) (s : State) : Host.Outcome State Fault Refusal :=
  .next (s.instr n 0x13 fun s k w q i => (s.setSeq n q).finishBurst n k w (i.mod == 0))

/-! ## Holds (R159) -/

/-- Level of a Crier line (R259). -/
def State.crierLevel (s : State) (line : Nat) : Bool := (Store.getD s.crier line (false, 0)).1

/-- Put a change after those of the same or an earlier instant. -/
def dueInsert (x : Tu × Bool) : List (Tu × Bool) → List (Tu × Bool)
  | [] => [x]
  | y :: ys => if y.1 ≤ x.1 then y :: dueInsert x ys else x :: y :: ys

/-- The changes of a line that wait for their action instants, as free-running instants, earliest first (R261). -/
def State.crierDue (s : State) (line : Nat) : List (Tu × Bool) :=
  ((s.crierWait.filter fun c => c.line == line).map fun c => ((c.at_ - s.corr).toNat, c.level)).foldl (fun l x => dueInsert x l) []

/-- The level of a line at an instant: its changes with action instants up to then count (R259, R261). -/
def State.crierLevelAt (s : State) (line : Nat) (t : Tu) : Bool :=
  ((s.crierDue line).filter fun c => decide (c.1 ≤ t)).foldl (fun _ c => c.2) (s.crierLevel line)

/-- One nanosecond in tu. -/
def ns : Tu := 4096

/-- A HOLD's level condition is met by a level. -/
def holdLevel (cond : Nat) (level : Bool) : Bool := (cond == 0 && level) || (cond == 1 && !level)

/-- The sequencer enters a HOLD at the end of its last cycle. -/
def State.enterHold (s : State) (n : Nat) (q : Seq) (line cond timeout : Nat) (jump : Bool) (target : Nat) : State :=
  let e := q.nextStart
  let s := s.advanceTo e
  let h : HoldSt := { line, cond, entry := e, deadline := if timeout = 0 then none else some (e + timeout * ns), jump, target,
                      release := if holdLevel cond (s.crierLevelAt line e) then some e else none, nextBoundary := e + outcomeLead }
  (s.setSeq n { q with phase := .hold, holdSt := some h }).set F.SEQn_STATUS_RUN_STATE 3 n

/-- HOLD (R159). -/
def execSeqHold (n : Nat) (s : State) : Host.Outcome State Fault Refusal :=
  .next (s.instr n 0x0F fun s _ _ q i => s.enterHold n q (i.mod % 8) (bitsOf i.mod 3 2) i.y (bitOf i.mod 5) i.z)

/-- A change of a line to a level meets a HOLD's condition. -/
def HoldSt.meets (h : HoldSt) (level : Bool) : Bool :=
  if h.cond = 0 ∨ h.cond = 2 then level else !level

/-- A change at an instant comes after a HOLD's entry and no later than its timeout (R159, R168). -/
def HoldSt.inTime (h : HoldSt) (t : Tu) : Bool :=
  decide (h.entry < t) && (match h.deadline with | some d => decide (t ≤ d) | none => true)

/-- A change that comes no later than a HOLD's entry decides the level at the entry (R159, R272); `early`: such a change waits. -/
def State.holdAtEntry (s : State) (h : HoldSt) : Option Tu :=
  let early := (s.crierDue h.line).filter fun c => decide (c.1 ≤ h.entry)
  if early ≠ [] then (if holdLevel h.cond (s.crierLevelAt h.line h.entry) then some h.entry else none) else h.release

/-- The instant at which a HOLD is released, as far as the changes that wait show it. -/
def State.holdRelease (s : State) (h : HoldSt) : Option Tu :=
  (s.holdAtEntry h).or (((s.crierDue h.line).find? fun c => h.meets c.2 && h.inTime c.1).map (·.1))

/-- A HOLD after its line has taken a level at an instant (R159, R272). -/
def HoldSt.seen (h : HoldSt) (level : Bool) (t : Tu) : HoldSt :=
  if t ≤ h.entry then
    if h.release.all fun r => decide (r ≤ h.entry) then { h with release := if holdLevel h.cond level then some h.entry else none } else h
  else if h.release.isNone && h.meets level && h.inTime t then { h with release := some t }
  else h

/-- A Crier line takes a level at an action instant: sequencers that hold for it are released (R159). -/
def State.crierHolds (s : State) (line : Nat) (level : Bool) (t : Tu) : State :=
  { s with seqs := s.seqs.map fun p =>
      match p.2.holdSt with
      | some h => if h.line = line then (p.1, { p.2 with holdSt := some (h.seen level t) }) else p
      | none => p }

/-- The instant at which the burst's declared duration ends (R376); none for a session or before the first cycle. -/
def Seq.durationEnd (q : Seq) (w : Work) : Option Tu := if w.session ∨ !q.started then none else some (q.first0 + w.duration)

/-- The sequencer goes on from a hold at cycle 0 of a new count (R79), behind an instruction boundary, at which notices, STOP and PAUSE are sampled
(R139, R163). -/
def State.leaveHold (s : State) (n : Nat) (q : Seq) (start : Tu) : State :=
  (s.setSeq n { q with phase := .ready, holdSt := none, nextStart := start, reset := true, icredit := icreditMax, bdry := true }).set
    F.SEQn_STATUS_RUN_STATE 2 n

/-- The wait of a hold reaches an instant only within the declared duration. -/
def beforeEnd (t : Tu) : Option Tu → Bool
  | some b => decide (t ≤ b)
  | none => true

/-- HOLD_RELEASE (R159). -/
def execHoldRelease (n : Nat) (s : State) : Host.Outcome State Fault Refusal :=
  .next (s.onSeq n fun k w q =>
    match q.holdSt with
    | some { release := some r, .. } =>
      if w.stage ≠ .running then s
      else if beforeEnd r (q.durationEnd w) then (s.advanceTo r).leaveHold n q (r + outcomeLead)
      else (s.advanceTo (q.first0 + w.duration)).stopBurst n k 0x20F
    | _ => s)

/-- HOLD_TIMEOUT: the timeout of a hold is reached without a release (R159); a bound of the burst's duration at or before it ends the
burst first (R376). -/
def execHoldTimeout (n : Nat) (s : State) : Host.Outcome State Fault Refusal :=
  .next (s.onSeq n fun k w q =>
    match q.holdSt with
    | none => s
    | some h =>
      if w.stage ≠ .running ∨ (s.holdRelease h).isSome then s
      else match h.deadline, q.durationEnd w with
        | some d, b =>
          if (match b with | some b => decide (b ≤ d) | none => false) then (s.advanceTo (b.getD d)).stopBurst n k 0x20F
          else if h.jump then (s.advanceTo d).leaveHold n (q.goto q.seg h.target) (d + outcomeLead)
          else (s.advanceTo d).stopBurst n k 0x20E
        | none, _ => s)

/-- HOLD_DURATION_BOUND: a timed burst that waits in a HOLD reaches the bound of its duration; a release or a timeout before the bound
comes first (R159, R376). -/
def execHoldDurationBound (n : Nat) (s : State) : Host.Outcome State Fault Refusal :=
  .next (s.onSeq n fun k w q =>
    match q.holdSt, q.durationEnd w with
    | some h, some b =>
      let timed : Bool := match h.deadline with | some d => decide (d < b) | none => false
      let freed : Bool := match s.holdRelease h with | some r => decide (r ≤ b) | none => false
      if w.stage ≠ .running ∨ timed ∨ freed then s
      else (s.advanceTo b).stopBurst n k 0x20F
    | _, _ => s)

/-! ## Instruction boundaries (R139, R140, R163, R167, R181) -/

/-- A request or notice that arrived at or before an instant. -/
def arrived (r : Option Tu) (t : Tu) : Bool := match r with | some a => decide (a ≤ t) | none => false

/-- The state of RESUME and PC at a boundary (R170, R181). -/
def State.markPc (s : State) (n : Nat) (q : Seq) : State :=
  ((s.set F.SEQn_PC_0_INDEX q.idx n).set F.SEQn_PC_1_SEG q.seg n).set F.SEQn_PC_1_DEPTH q.depth n

/-- The travel of a fault notice, at the bound of R182 (log entry 31). -/
def noticeTravel : Tu := 81920

/-- The cause of a fault notice or disable that has reached the engine by an instant (R182). -/
def Seq.voidedBy (q : Seq) (d : Tu) : Option Nat :=
  match q.noticed, q.notice with
  | some (c, t), _ => if t ≤ d then some c else none
  | none, some (c, t) => if t + noticeTravel ≤ d then some c else none
  | none, none => none

/-- The session ends by STOP as by END with PARK = FLOAT (R167). -/
def State.stopSession (s : State) (n k : Nat) (w : Work) : State :=
  (s.modWork k fun w => { w with rflags := w.rflags ||| 1 }).finishBurst n k w true

/-- INSTRUCTION_BOUNDARY: a boundary's decision instant: notices, STOP and PAUSE are sampled, in this rank (R168, R181). A pause takes effect at the
boundary itself, where no cycle starts (R163). The boundaries of a HOLD that waits, which precede no known cycle, stand 163,840 tu apart from its
entry on, and each is decided 81,920 tu before it (DESIGN CHOICE, log entry 38). -/
def execInstructionBoundary (n : Nat) (s : State) : Host.Outcome State Fault Refusal :=
  .next (s.onSeq n fun k w q =>
    if w.stage ≠ .running ∨ q.paused ∨ q.phase = .brDecide then s
    else match q.holdSt with
      | some h =>
        if h.release.isSome then s
        else
          let d := h.nextBoundary - decisionLead
          let s := (s.advanceTo (d + 1)).markPc n q
          match q.voidedBy d with
          | some c => s.stopBurst n k c
          | none =>
            if arrived q.stopReq d then s.stopSession n k w
            else s.setSeq n { q with holdSt := some { h with nextBoundary := h.nextBoundary + outcomeLead }, ucount := 0 }
      | none =>
        if !q.bdry then s
        else
          let d := q.decision
          let q := { q with bdry := false, ucount := 0 }
          let s := ((s.pastDecision q).markPc n q).setSeq n q
          match q.voidedBy d with
          | some c => s.stopBurst n k c
          | none =>
            if arrived q.stopReq d then s.stopSession n k w
            else if arrived q.pauseReq d then
              (((s.advanceTo q.nextStart).setSeq n { q with paused := true, pauseReq := none }).set F.SEQn_STATUS_RUN_STATE 4 n).setBit
                F.SEQn_EVENTS_PAUSED n
            else s)

/-- FAULT_NOTICE_ARRIVAL: a fault notice or disable reaches the micro-engine (R182). A paused session stops at once (R168). -/
def execFaultNoticeArrival (n : Nat) (s : State) : Host.Outcome State Fault Refusal :=
  .next (s.onSeq n fun k _ q =>
    match q.notice with
    | none => s
    | some (c, t) =>
      let s := s.advanceTo (t + noticeTravel)
      let q := { q with notice := none, noticed := some (c, t + noticeTravel) }
      if q.paused then (s.setSeq n q).stopBurst n k c else s.setSeq n q)

/-! ## Sessions (R162 to R167) -/

/-- A session burst is admitted on a sequencer: until its final receipt is issued (R162, R399). -/
def State.sessionOn (s : State) (n : Nat) : Option (Nat × Work) :=
  s.works.find? fun p => p.2.burstAdmitted && p.2.bSeq == n && p.2.session

/-- CTRL_IGNORED is set when no session is admitted (R162); otherwise `f`. -/
def State.onSession (s : State) (n : Nat) (f : Nat → Work → Seq → State) : State :=
  match s.sessionOn n with
  | some (k, w) => f k w (s.seqSt n)
  | none => s.setBit F.SEQn_EVENTS_CTRL_IGNORED n

/-- SESSION_PAUSE: a write of PAUSE alone (R163). -/
def execSessionPause (n : Nat) (s : State) : Host.Outcome State Fault Refusal :=
  if !s.booted ∨ 32 ≤ n then .next s
  else .next (s.onSession n fun _ _ q =>
    if q.paused ∨ q.pauseReq.isSome then s else s.setSeq n { q with pauseReq := some s.fr })

/-- What a resume continues with, and whether it breaks a SHIFT (R165). The target of an earlier redirect with BREAK 0 stands until it is reached or
another redirect replaces it. -/
def Seq.resumed (q : Seq) : Seq × Bool :=
  match q.redirect with
  | none => (q, false)
  | some (seg, idx, brk) =>
    let q := { q with redirect := none, after := none }
    match q.run with
    | some r =>
      match r.kind with
      | .vec | .repeat_ | .shift =>
        if brk then ({ q with run := none, phase := .ready }.goto seg idx, r.kind == .shift)
        else ({ q with after := some (seg, idx) }, false)
      | _ => ({ q with run := none, mat := none, phase := .ready }.goto seg idx, false)
    | none => ({ q with mat := none, phase := .ready }.goto seg idx, false)

/-- SESSION_RESUME: a write of RESUME (R165). -/
def execSessionResume (n : Nat) (s : State) : Host.Outcome State Fault Refusal :=
  if !s.booted ∨ 32 ≤ n then .next s
  else .next (s.onSession n fun k _ q =>
    if !q.paused then s
    else
      let (q, broken) := q.resumed
      let q := { q with paused := false, nextStart := s.fr + outcomeLead, reset := true, icredit := icreditMax, bdry := true }
      let s := if broken then s.modWork k fun w => { w with rflags := w.rflags ||| 2 } else s
      ((s.setSeq n q).clrBit F.SEQn_STATUS_REDIRECT_ARMED n).set F.SEQn_STATUS_RUN_STATE 2 n)

/-- SESSION_STOP: a write of STOP (R167). -/
def execSessionStop (n : Nat) (s : State) : Host.Outcome State Fault Refusal :=
  if !s.booted ∨ 32 ≤ n then .next s
  else .next (s.onSession n fun k w q =>
    if q.paused then s.stopSession n k w
    else if q.stopReq.isSome then s
    else s.setSeq n { q with stopReq := some s.fr })

/-- REDIRECT_ARM: a write of SEQn_REDIRECT_1 arms the redirect to the address that the two registers then hold (R162, R164). -/
def execRedirectArm (n : Nat) (v : Word) (s : State) : Host.Outcome State Fault Refusal :=
  if !s.booted ∨ 32 ≤ n then .next s
  else .next (s.onSession n fun _ _ q =>
    if q.paused then
      let s := (s.wr ⟨.SEQn_REDIRECT_1, n, 0⟩ (v &&& 0x17FFF#32)).setBit F.SEQn_STATUS_REDIRECT_ARMED n
      s.setSeq n { q with redirect := some (F.SEQn_REDIRECT_1_SEG.get v, s.get F.SEQn_REDIRECT_0_INDEX n, F.SEQn_REDIRECT_1_BREAK.get v == 1) }
    else s.setBit F.SEQn_EVENTS_REDIRECT_IGNORED n)

/-! ## The vector pool and BAR4 (R109, R115, R128, R338) -/

/-- A segment lies in the locked pool (R109). -/
def State.inPool (s : State) (g : Nat) : Bool :=
  s.bit F.DRAM_SEG_CTRL_LOCK && decide (s.get F.DRAM_SEG_FIRST_FIRST ≤ g) &&
    decide (g < s.get F.DRAM_SEG_FIRST_FIRST + s.get F.DRAM_SEG_COUNT_COUNT)

/-- POOL_LOCK_WRITE: a write of 1 to DRAM_SEG_CTRL.LOCK (R128). -/
def execPoolLockWrite (s : State) : Host.Outcome State Fault Refusal :=
  let c := s.get F.DRAM_SEG_COUNT_COUNT
  if !s.booted ∨ s.bit F.DRAM_SEG_CTRL_LOCK then .next s
  else if c = 0 ∨ 24576 < s.get F.DRAM_SEG_FIRST_FIRST + c then .next (s.setBit F.DRAM_SEG_EVENTS_POOL_INVALID)
  else .next (s.setBit F.DRAM_SEG_CTRL_LOCK)

end Sys2Proof.Machine
end

