-- ==== Sys2Proof/Machine/Lanes.lean ====
section
/-!
DEFINITION. Protocol lanes: modes, block alignment, the matcher, lane compare and its result block (spec/08_protocol_lanes.md).
-/

namespace Sys2Proof.Machine

/-! ## Modes (R240, R243) -/

/-- Channels in use in a mode (R218). -/
def modeChans (k mode : Nat) : List Nat :=
  if mode = 1 then [4 * k, 4 * k + 1] else if mode = 2 then [4 * k, 4 * k + 1, 4 * k + 2, 4 * k + 3] else []

/-- A write of LANEn_MODE while OFF is rejected (R243). -/
def State.modeRejected (s : State) (k : Nat) (v : Word) : Bool :=
  let m := F.LANEn_MODE_MODE.get v
  let r := F.LANEn_MODE_RATE.get v
  m == 3 || decide (r < 8000) || decide (32000 < r) || (F.LANEn_MODE_DESCR.get v == 1 && F.LANEn_MODE_CODING.get v == 1) ||
  (modeChans k m).any (fun c => s.rd ⟨.CHn_ENABLE, c, 0⟩ != 0#32) || (m == 2 && !s.bit F.CHn_MODE_LIVE_DRV_RANGE (4 * k + 2))

/-- The lane leaves its state: entry to ACQUIRE clears the locks (R222); `state` 0 OFF, 1 ACQUIRE. -/
def State.laneDrop (s : State) (k state : Nat) : State :=
  ((s.set F.LANEn_STATUS_STATE state k).clrBit F.LANEn_STATUS_CDR_LOCK k).clrBit F.LANEn_STATUS_BLOCK_LOCK k

/-- The lane leaves LOCKED: the loss is counted and a compare that runs ends LOST (R235, R237). -/
def State.lockLost (s : State) (k : Nat) : State :=
  let l := s.lane k
  let s := s.setLane k { l with lockLosses := l.lockLosses + 1, cmpBlock := false }
  if l.phase = .running then s.endCompare k 3 else s

/-- Any write of LANEn_MODE (R243). -/
def State.laneModeWrite (s : State) (k : Nat) (v : Word) : State :=
  let v := v &&& 0x7FFF00F3#32
  if s.get F.LANEn_MODE_MODE k = 0 then
    if s.modeRejected k v then s.setBit F.LANEn_EVENTS_MODE_REJECT k
    else
      let s := s.wr ⟨.LANEn_MODE, k, 0⟩ v
      if F.LANEn_MODE_MODE.get v = 0 then s
      else
        let s := if F.LANEn_MODE_MODE.get v = 2 ∧ (s.bit F.FLT_STATUS_SAFE ∨ s.safeEntry.isSome) then
            { s with laneTxOff := k :: s.laneTxOff } else s
        let s := s.setLane k { s.lane k with txFrom := if F.LANEn_MODE_MODE.get v = 2 then some s.fr else none }
        s.laneDrop k 1
  else if F.LANEn_MODE_MODE.get v ≠ 0 then s.setBit F.LANEn_EVENTS_SETUP_BLOCKED k
  else if s.bit F.LANEn_BIND_BOUND k ∧ s.seqBusy (s.get F.LANEn_BIND_SEQ k) then s.setBit F.LANEn_EVENTS_SETUP_BLOCKED k
  else
    let s := (((s.set F.LANEn_MODE_MODE 0 k).laneDrop k 0).clrBit F.LANEn_STATUS_LOS k).setLane k { s.lane k with txFrom := none }
    { s with laneTxOff := s.laneTxOff.filter (· ≠ k) }

/-- LANE_MODE_ENABLE: a write of LANEn_MODE (R243). -/
def execLaneModeEnable (k : Nat) (v : Word) (s : State) : Host.Outcome State Fault Refusal :=
  if !s.booted ∨ 64 ≤ k then .next s else .next (s.laneModeWrite k v)

/-- LANE_MODE_OFF: a write of LANEn_MODE that sets OFF (R222, R243). -/
def execLaneModeOff (k : Nat) (s : State) : Host.Outcome State Fault Refusal :=
  if !s.booted ∨ 64 ≤ k then .next s else .next (s.laneModeWrite k (F.LANEn_MODE_MODE.put (s.rd ⟨.LANEn_MODE, k, 0⟩) 0))

/-! ## Alignment (R222 to R225) -/

def State.laneState (s : State) (k : Nat) : Nat := s.get F.LANEn_STATUS_STATE k

/-- Entry to HUNT, where the next candidate block starts at received bit `next` (R222, R224). -/
def State.enterHunt (s : State) (k next : Nat) : State :=
  (s.set F.LANEn_STATUS_STATE 2 k).setLane k { s.lane k with valid := 0, examined := 0, next }

/-- CDR_LOCK: the CDR locks while LOS is clear; the first candidate block starts at the next received bit, which is bit 0 (R222). -/
def execCdrLock (k : Nat) (s : State) : Host.Outcome State Fault Refusal :=
  if 64 ≤ k ∨ s.laneState k ≠ 1 ∨ s.bit F.LANEn_STATUS_LOS k then .next s
  else .next ((s.setBit F.LANEn_STATUS_CDR_LOCK k).enterHunt k 0)

/-- CDR_LOCK_LOSS: the CDR loses lock (R222). -/
def execCdrLockLoss (k : Nat) (s : State) : Host.Outcome State Fault Refusal :=
  if 64 ≤ k ∨ s.laneState k < 2 then .next s
  else
    let s := if s.laneState k = 3 then s.lockLost k else s
    .next ((s.laneDrop k 1).laneEvent k 1)

/-- LOS_ASSERT: the amplitude falls below the threshold (R222, R225). -/
def execLosAssert (k : Nat) (s : State) : Host.Outcome State Fault Refusal :=
  if 64 ≤ k ∨ s.laneState k = 0 ∨ s.get F.LANEn_LOS_LOS_THRESH k = 0 ∨ s.bit F.LANEn_STATUS_LOS k then .next s
  else
    let s := if s.laneState k = 3 then s.lockLost k else s
    let s := (s.setLane k { s.lane k with losSeen := true }).setBit F.LANEn_STATUS_LOS k
    .next ((s.laneDrop k 1).laneEvent k 2)

/-- LOS_CLEAR: the amplitude has stayed above the threshold plus hysteresis for 1 µs (R225). -/
def execLosClear (k : Nat) (s : State) : Host.Outcome State Fault Refusal :=
  if 64 ≤ k then .next s else .next (s.clrBit F.LANEn_STATUS_LOS k)

/-- A valid header (R223). -/
def headerValid (h : Nat) : Bool := h == 1 || h == 2

/-- The start condition of a lane's compare holds (R234). -/
def State.cmpStart (s : State) (k : Nat) : Bool :=
  let l := s.lane k
  s.bit F.LANEn_STATUS_BLOCK_LOCK k &&
  (match s.get F.LANEn_BIND_START k with | 0 => true | 1 => l.anchored | 2 => l.started | _ => false)

/-- Payload width of a lane. -/
def State.payloadBits (s : State) (k : Nat) : Nat := if s.bit F.LANEn_MODE_CODING k then 128 else 64

/-- Bit address of expected block `i` (R233). -/
def State.expectedAt (s : State) (k i : Nat) : Nat :=
  s.get F.LANEn_CMP_SEG_SEG k * segBits + (s.get F.LANEn_CMP_FIRST_FIRST k + i) * (s.payloadBits k + 2)

/-- The cause for which an expected block may not be read (R233, R479): 0 none. -/
def State.expectedBad (s : State) (k : Nat) (w : Work) (i : Nat) : Nat :=
  if s.bit F.LANEn_BIND_CMP_SRC k then 0
  else
    let b := s.expectedAt k i
    let n := s.payloadBits k + 2
    let segs := spanSegs b n
    if segs.any fun g => !s.inPool g then 0x207
    else if segs.any fun g => !w.segs.contains g then 0x206
    else if s.poisoned (b / 8) ((n + 7) / 8 + 1) then 0x224 else 0

/-- The next block that the compare of a lane reads, if it reads one: the compare runs, or starts with the next header (R233, R234). -/
def State.nextExpected (s : State) (k : Nat) : Option Nat :=
  let l := s.lane k
  let i := l.blocks + (if l.cmpBlock then 1 else 0)
  let c := s.get F.LANEn_CMP_COUNT_COUNT k
  if (l.phase == .running || (l.phase == .armed && (l.cmpBlock || s.cmpStart k))) && (c == 0 || decide (i < c)) then some i else none

/-- The expected block that the compare reads next is read ahead of its arrival: one that may not be read ends the burst VOID (R233). -/
def State.readAhead (s : State) (k : Nat) : State :=
  let n := s.get F.LANEn_BIND_SEQ k
  s.onSeq n fun wk w _ =>
    match s.nextExpected k with
    | none => s
    | some i =>
      let bad := s.expectedBad k w i
      if bad = 0 ∨ w.stage ≠ .running ∨ !(s.burstCmpLanes w).contains k then s
      else if bad = 0x224 then (s.eccDetect (s.expectedAt k i / 8) 64 [wk]).stopBurst n wk bad
      else s.stopBurst n wk bad

/-- LANE_HEADER: the two bits of the header at the lane's alignment are examined (R222 to R224, R234). In HUNT an invalid header moves the next
candidate one bit later. -/
def execLaneHeader (k h : Nat) (s : State) : Host.Outcome State Fault Refusal :=
  if 64 ≤ k ∨ 4 ≤ h then .next s
  else
    let l := s.lane k
    let next := l.next + s.payloadBits k + 2
    if s.laneState k = 2 then
      if !headerValid h then .next (s.setLane k { l with valid := 0, examined := l.examined + 1, next := next + 1 })
      else if l.valid < 63 then .next (s.setLane k { l with valid := l.valid + 1, examined := l.examined + 1, next })
      else
        let l := { l with valid := 0, window := List.replicate 64 false, descr := BitVec.ofNat 58 s.freeVal, cmpBlock := false, next }
        .next (((((s.useFree.setLane k l).set F.LANEn_STATUS_STATE 3 k).setBit F.LANEn_STATUS_BLOCK_LOCK k).laneEvent k 0).readAhead k)
    else if s.laneState k = 3 then
      let win := ((!headerValid h) :: l.window).take 64
      if 16 ≤ win.countP id then
        .next ((((s.setLane k { l with window := win }).lockLost k).clrBit F.LANEn_STATUS_BLOCK_LOCK k |>.enterHunt k next).laneEvent k 1)
      else
        let cmp := l.phase == .running || (l.phase == .armed && s.cmpStart k)
        let start := if cmp then some (l.startVector.getD (s.seqSt (s.get F.LANEn_BIND_SEQ k)).vecNow) else l.startVector
        .next ((s.setLane k { l with window := win, cmpBlock := cmp, startVector := start, next }).readAhead k)
    else .next s

/-- HUNT_SLOW: HUNT_LIMIT × 1,024 headers were examined without lock (R222). -/
def execHuntSlow (k : Nat) (s : State) : Host.Outcome State Fault Refusal :=
  let lim := s.get F.LANEn_HUNT_HUNT_LIMIT k * 1024
  if 64 ≤ k ∨ s.laneState k ≠ 2 ∨ lim = 0 ∨ (s.lane k).examined < lim then .next s
  else .next ((s.setLane k { s.lane k with examined := 0, huntSlow := true }).setBit F.LANEn_EVENTS_HUNT_SLOW k)

/-! ## Blocks: descrambler, matcher, compare (R227, R229, R233 to R235) -/

/-- Descramble `n` payload bits, lowest first: each received bit enters the register (R227). -/
def descramble (reg : BitVec 58) (v : Nat) : Nat → Nat → BitVec 58 × Nat
  | _, 0 => (reg, 0)
  | i, n + 1 =>
    let b := bitOf v i
    let out := b != (reg.getLsbD 38 != reg.getLsbD 57)
    let (reg', rest) := descramble ((reg <<< 1) ||| (if b then 1#58 else 0#58)) v (i + 1) n
    (reg', (if out then 1 else 0) + 2 * rest)

/-- The two taps of a PRBS by TX_SRC; LOOPBACK compares against PRBS31 (R228, R233). -/
def prbsTaps (src : Nat) : Nat × Nat := match src with | 0 => (6, 5) | 1 => (14, 13) | _ => (30, 27)

/-- The next `n` bits of a PRBS, lowest first. -/
def prbsNext (src : Nat) (reg : BitVec 31) : Nat → BitVec 31 × Nat
  | 0 => (reg, 0)
  | n + 1 =>
    let b := reg.getLsbD (prbsTaps src).1 != reg.getLsbD (prbsTaps src).2
    let (reg', rest) := prbsNext src ((reg <<< 1) ||| (if b then 1#31 else 0#31)) n
    (reg', (if b then 1 else 0) + 2 * rest)

/-- The register after a payload has seeded the sequence (R233): its last 31 bits, newest bit 0. -/
def prbsSeed (v n : Nat) : BitVec 31 :=
  BitVec.ofNat 31 (((List.range 31).map fun i => if bitOf v (n - 1 - i) then 2 ^ i else 0).sum)

/-- The number of 1 bits below `n`. -/
def popCount (v n : Nat) : Nat := (setBits v n).length

/-! ## The transmitter (R228, R240) -/

/-- What a lane's transmitter drives on its positive leg; the negative leg is the complement. -/
inductive TxOut where
  | highZ
  | level (high : Bool)
  /-- LOOPBACK: the bit that was received so many UIs before. -/
  | received (ui : Nat)
  deriving DecidableEq, Repr

/-- Bit `i` of a PRBS stream: blocks with header 0b01, whose payloads of `n` bits carry the sequence on. -/
def txBit (src : Nat) (start : BitVec 31) (n i : Nat) : Bool :=
  if i % (n + 2) < 2 then i % (n + 2) == 0
  else bitOf (prbsNext src start (i / (n + 2) * n + i % (n + 2) - 1)).2 (i / (n + 2) * n + i % (n + 2) - 2)

/-- What the transmitter of lane `k` drives at an instant: RATE bits in each µs, 4,096,000 tu, from the accepted MODE write on (R219, R228). -/
def State.txOut (s : State) (k : Nat) (t : Tu) : TxOut :=
  match (s.lane k).txFrom with
  | none => .highZ
  | some t0 =>
    let src := s.get F.LANEn_MODE_TX_SRC k
    if s.laneTxOff.contains k then .highZ
    else if src = 3 then (if s.bit F.LANEn_STATUS_CDR_LOCK k then .received (Config.loopLatency k % 65) else .level false)
    else .level (txBit src (Config.prbsStart k t0) (s.payloadBits k) ((t - t0) * s.get F.LANEn_MODE_RATE k / 4096000))

/-- The codes to which the positive and negative legs are driven at an instant: the live VIH and VIL of channel 4k + 2, as its ramp has them
(R58, R228); none: high impedance, or the bit is one that LOOPBACK received. -/
def State.txLegs (s : State) (k : Nat) (t : Tu) : Option (Rat × Rat) :=
  let l := (s.chan (4 * k + 2)).present t
  match s.txOut k t with
  | .level b => some (if b then (l.getD 0 0, l.getD 1 0) else (l.getD 1 0, l.getD 0 0))
  | _ => none

/-! ## The matcher and the compare -/

/-- The matcher's test of a block (R229). -/
def State.matches_ (s : State) (k h payload : Nat) : Bool :=
  let n := s.payloadBits k
  let v := s.rdWords .LANEn_MATCH_w k 4
  let m := s.rdWords .LANEn_MMASK_w k 4
  s.bit F.LANEn_MATCH_HDR_EN k && ((payload ^^^ v) &&& m) % 2 ^ n == 0 &&
    (!s.bit F.LANEn_MATCH_HDR_HDR_CARE k || h == s.get F.LANEn_MATCH_HDR_HDR k)

/-- The copies of a lane's compare unit and matcher disagree: a wrong-pass detection (R238). -/
def State.lanesDiffer (s : State) (k work : Nat) : State :=
  (s.countUp F.CAP_CHECK_CNT_FAILS).detect { kind := 2, cause := 0x210, source := 0x540 + k, works := [work] }

/-- The expected header and payload of block `i`, and the lane's sequence after it. -/
def State.expected (s : State) (k : Nat) (l : Lane) (h payload : Nat) : Lane × Nat × Nat :=
  let n := s.payloadBits k
  if s.bit F.LANEn_BIND_CMP_SRC k then
    if l.blocks = 0 then ({ l with prbs := prbsSeed payload n }, h, payload)
    else
      let (r, v) := prbsNext (s.get F.LANEn_MODE_TX_SRC k) l.prbs n
      ({ l with prbs := r }, 1, v)
  else
    let v := Mem.bits s.mem (s.expectedAt k l.blocks) (n + 2)
    (l, v % 4, v / 4)

/-- A compared block is judged; `differ`: the copies of the unit disagree, which is looked at every 4,096 compared blocks and at the end of compare,
before a PASS is written (R235, R238, R241). `work`: the burst. -/
def State.judgeBlock (s : State) (k h payload work : Nat) (differ : Bool) : State :=
  let (l, eh, ep) := s.expected k (s.lane k) h payload
  let n := s.payloadBits k
  let he := h != eh
  let be := popCount ((payload ^^^ ep) &&& s.rdWords .LANEn_PMASK_w k 4) n
  let bad := he || be != 0
  let first := bad && l.firstErr.isNone
  let l := { l with phase := .running, cmpBlock := false, blocks := l.blocks + 1, blockErrs := l.blockErrs + (if bad then 1 else 0),
                    bitErrs := l.bitErrs + be, headerErrs := min (l.headerErrs + (if he then 1 else 0)) 0xFFFFFFFF,
                    firstErr := if first then some l.blocks else l.firstErr }
  let s := s.setLane k l
  let s := if first then s.laneEvent k 4 else s
  let c := s.get F.LANEn_CMP_COUNT_COUNT k
  let ends := c != 0 && l.blocks == c
  if differ ∧ (ends ∨ l.blocks % 4096 = 0) then s.lanesDiffer k work
  else if ends then s.endCompare k l.verdict else s

/-- LANE_BLOCK: a received block (`h` its header, `payload` as received on the line) is tested by the matcher and, when compare runs,
judged; `differ`: the two copies of the unit disagree (R227, R229, R233 to R235, R238). -/
def execLaneBlock (k h payload : Nat) (differ : Bool) (s : State) : Host.Outcome State Fault Refusal :=
  if 64 ≤ k ∨ !s.bit F.LANEn_STATUS_BLOCK_LOCK k then .next s
  else
    let n := s.payloadBits k
    let v := payload % 2 ^ n
    let (reg, d) := descramble (s.lane k).descr v 0 n
    let v := if s.bit F.LANEn_MODE_DESCR k then d else v
    let s := s.setLane k { s.lane k with descr := reg }
    let hit := s.matches_ k h v
    let s := if hit then s.laneEvent k 3 else s
    let seq := s.get F.LANEn_BIND_SEQ k
    let s := s.onSeq seq fun wk w _ =>
      if !(s.lane k).cmpBlock ∨ (w.stage ≠ .running ∧ w.stage ≠ .closing) then s
      else
        let i := (s.lane k).blocks
        let bad := s.expectedBad k w i
        if bad = 0 then s.judgeBlock k h v wk differ
        else if bad = 0x224 then (s.eccDetect (s.expectedAt k i / 8) 64 [wk]).stopBurst seq wk bad
        else s.stopBurst seq wk bad
    let l := s.lane k
    .next ((s.setLane k { l with cmpBlock := false, anchored := l.anchored || (hit && l.phase == CmpPhase.armed) }).readAhead k)

/-- A compare-start event reaches the lanes bound to a sequencer (R234, R455). -/
def State.startCompares (s : State) (n : Nat) : State :=
  (s.boundLanes n).foldl (fun s k => (s.setLane k { s.lane k with started := true }).readAhead k) s

/-- The compare lanes of a burst read ahead (R233). -/
def State.readAheadAll (s : State) (w : Work) : State := (s.burstCmpLanes w).foldl (fun s k => s.readAhead k) s

/-- The checks at the end of compare have cleared: a PASS that waits for them stands (R235, R238). A block that did not arrive in the closing
interval leaves its compare unfinished. -/
def State.settleCompares (s : State) (w : Work) : State :=
  (s.burstCmpLanes w).foldl (fun s k =>
    let l := s.lane k
    if l.passDue then (s.setLane k { l with passDue := false }).set F.LANEn_STATUS_CMP_RESULT 1 k
    else if l.phase = .running ∨ l.phase = .armed then s.endCompare k (if l.phase = .armed then 0 else 4)
    else s) s

/-- The result block of a lane (R237). -/
def State.laneResult (s : State) (k : Nat) (void : Bool) (cause : Nat) : Bytes :=
  let l := s.lane k
  let flags := ofSet ((if s.bit F.LANEn_MODE_CODING k then [0] else []) ++ (if s.bit F.LANEn_MODE_DESCR k then [1] else []) ++
    (if s.bit F.LANEn_BIND_CMP_SRC k then [2] else []) ++ (if l.losSeen then [3] else []) ++ (if l.huntSlow then [4] else [])) 8
  leBytes 0x4C414E31 4 ++ leBytes 1 2 ++ leBytes k 1 ++ leBytes (if void then 5 else s.get F.LANEn_STATUS_CMP_RESULT k) 1 ++
  leBytes (if void then cause else 0) 2 ++ leBytes flags 1 ++ leBytes 0 1 ++ leBytes l.lockLosses 4 ++ leBytes l.blocks 8 ++
  leBytes l.blockErrs 8 ++ leBytes l.bitErrs 8 ++ leBytes l.headerErrs 4 ++ leBytes 0 4 ++
  leBytes (l.firstErr.getD (2 ^ 64 - 1)) 8 ++ leBytes (l.startVector.getD (2 ^ 64 - 1)) 8

/-- The result blocks of a burst's compare lanes, in ascending lane number (R237). -/
def State.writeLaneResults (s : State) (w : Work) (void : Bool) (cause : Nat) : State :=
  ((s.burstCmpLanes w).zipIdx).foldl (fun s p =>
    { s with mem := Mem.setBytes s.mem (w.laneArea + 64 * p.2) (s.laneResult p.1 void cause) }) s

end Sys2Proof.Machine
end

