-- ==== Sys2Proof/Machine/Cycle.lean ====
section
/-!
DEFINITION. One cycle of a sequencer: its row, its timing sets, what each owned channel does and how it is judged, and the row of
the burst's capture (spec/03_timing_generation.md, spec/04_pattern_memory.md, spec/07_compare_capture.md).
-/

namespace Sys2Proof.Machine

/-! ## State codes (R117 to R120) -/

/-- What a code asks of a channel. -/
inductive CycAct where
  /-- Drive data. -/
  | drive (v : Bool)
  /-- Stream mode HOLD: no data edge. -/
  | hold
  /-- Expect one comparator outcome (R195). -/
  | level (o : Nat)
  /-- CV: expect LOW or HIGH. -/
  | valid
  | mask
  | highZ
  | load
  /-- Expect a transition: 0 falling, 1 rising, 2 either (R197). -/
  | edge (slope : Nat)
  /-- EX: stamp without judging. -/
  | stampOnly
  deriving DecidableEq, Repr

/-- Edge-mode codes (R119); `prev` is the previous data value. 0xF is rejected before. -/
def edgeCode (code : Nat) (prev : Bool) : CycAct :=
  match code with
  | 0 => .drive false | 1 => .drive true | 2 => .drive prev | 3 => .drive !prev
  | 4 => .level 0 | 5 => .level 2 | 6 => .level 1 | 7 => .valid | 8 => .mask | 9 => .highZ | 10 => .load
  | 11 => .edge 1 | 12 => .edge 0 | 13 => .edge 2 | _ => .stampOnly

/-- Stream-mode codes (R117). -/
def streamCode (code : Nat) (drv ec prev : Bool) : CycAct :=
  if drv then match code with | 0 => .drive false | 1 => .drive true | 2 => .hold | _ => .drive prev
  else if ec then match code with | 0 => .edge 0 | 1 => .edge 1 | 2 => .mask | _ => .edge 2
  else match code with | 0 => .level 0 | 1 => .level 2 | 2 => .mask | _ => .level 1

/-- The act carries an edge-compare code (R197, R207). -/
def CycAct.edgeCompare : CycAct → Bool | .edge _ | .stampOnly => true | _ => false
/-- Codes that are judged while the channel's site is active (R193). -/
def CycAct.judgeable : CycAct → Bool | .level _ | .valid | .edge _ => true | _ => false

/-! ## Rows (R121 to R123, R142, R143) -/

/-- What the coming cycle is: its period, its selectors, the selectors in force after it, and each owned channel's code and set.
A quiet cycle has no codes. -/
structure CyclePlan where
  q : Seq
  period : Nat
  sel0 : Nat := 0
  sel1 : Nat := 0
  codes : List (Nat × Nat × TSet) := []
  deriving DecidableEq, Repr

/-- The lines that `n` bits from bit `b` touch. -/
def bitLines (b n : Nat) : List Nat :=
  if n = 0 then [] else (List.range ((b + n - 1) / 512 + 1 - b / 512)).map (b / 512 + ·)

/-- The chain channels among the owned ones (R143). -/
def State.chainChans (s : State) (n : Nat) : List Nat := s.mask256 .SEQn_CHAIN_w n

/-- The bits of the coming cycle's row, after the reads they need: the row's value, and the chain row of a SHIFT. -/
def State.fetchRow (s : State) (n : Nat) (w : Work) (q : Seq) (r : Run) : Except (Nat × Nat) (Seq × Nat × Nat) :=
  let b := w.bitsPerUi
  let own := s.owned n
  let wid := rowWidth b own.length r.form
  let at_ := r.seg * segBits + r.row * wid
  let once := (r.kind == .repeat_ || r.kind == .shift) && q.onceRead
  match s.readLines q (if once then [] else bitLines at_ wid) with
  | .error e => .error e
  | .ok q =>
    let q := { q with onceRead := true }
    let v := Mem.bits s.mem at_ wid
    if r.kind ≠ .shift then .ok (q, v, 0)
    else
      let m := (s.chainChans n).length
      let cb := r.seg * segBits + r.chainRow * b * m
      if (spanSegs cb (b * m)).any (fun g => !s.inPool g) then .error (0x207, 0)
      else if (spanSegs cb (b * m)).any (fun g => !w.segs.contains g) then .error (0x206, 0)
      else match s.readLines q (bitLines cb (b * m)) with
        | .error e => .error e
        | .ok q => .ok (q, v, Mem.bits s.mem cb (b * m))

/-- Code of owned position `j` of a row, or of its chain position (R121, R143). -/
def State.codeOf (s : State) (n : Nat) (w : Work) (r : Run) (row chain c j : Nat) : Nat :=
  let b := w.bitsPerUi
  let ch := s.chainChans n
  if r.kind = .shift ∧ ch.contains c then bitsOf chain (b * ch.findIdx (· == c)) b
  else bitsOf row ((if r.form then 5 * groupsOf (s.owned n).length else 0) + b * j) b

/-- The selectors after the SETTS actions that wait (R138, R158). -/
def setSels (acts : List SeqAct) (p : Nat × Nat) : Nat × Nat :=
  acts.foldl (fun p a => match a with
    | .setts g a b => (if bitOf g 0 then a else p.1, if bitOf g 1 then b else p.2)
    | _ => p) p

/-- The groups that a waiting SETTS names. -/
def settsGroups (acts : List SeqAct) : List Nat :=
  acts.flatMap fun a => match a with | .setts g _ _ => setBits g 2 | _ => []

/-- The plan of a cycle with a row, or the cause for which it does not start: TS_INVALID, TS_MODE, TS_PERIOD_SPLIT (R99, R123),
STATE_INVALID (R120), and the reads. -/
def State.planRow (s : State) (n : Nat) (w : Work) (q : Seq) (r : Run) : Except (Nat × Nat) CyclePlan :=
  match s.fetchRow n w q r with
  | .error e => .error e
  | .ok (q, row, chain) =>
    let own := s.owned n
    let sel := setSels q.acts (q.sel0, q.sel1)
    let row0 := bitsOf row 0 5
    let row1 := if groupsOf own.length = 2 then bitsOf row 5 5 else sel.2
    let now : Nat × Nat := if r.form then (row0, row1) else sel
    let after : Nat × Nat := (if (settsGroups q.acts).contains 0 then sel.1 else now.1,
      if (settsGroups q.acts).contains 1 then sel.2 else now.2)
    let codes := own.zipIdx.map fun p =>
      (p.1, s.codeOf n w r row chain p.1 p.2, s.tset .TSBANK_LIVE p.1 (if p.2 < 128 then now.1 else now.2))
    match codes with
    | [] => .error (0x209, 0)
    | (_, _, t0) :: _ =>
      if codes.any fun p => !p.2.2.valid then .error (0x209, 0)
      else if codes.any fun p => p.2.2.stream != w.stream then .error (0x20A, 0)
      else if codes.any fun p => p.2.2.period != t0.period then .error (0x20B, 0)
      else if !w.stream ∧ (codes.any fun p => p.2.1 == 15 && !s.laneUses p.1) then .error (0x208, 0)
      else .ok { q := { q with sel0 := after.1, sel1 := after.2, lastSet := some now.1 }, period := t0.period, sel0 := now.1, sel1 := now.2, codes }

/-- The plan of the coming cycle (R150 for a quiet one). -/
def State.planCycle (s : State) (n : Nat) (w : Work) (q : Seq) (r : Run) : Except (Nat × Nat) CyclePlan :=
  if r.kind = .quiet then
    let sel := setSels q.acts (q.sel0, q.sel1)
    .ok { q := { q with sel0 := sel.1, sel1 := sel.2 }, period := s.periodNow n q }
  else s.planRow n w q r

/-! ## Outcomes, transitions, judgement (R193 to R198) -/

/-- The outcome changes of one channel in the cycle: offset from S(k) + O_c, outcome. -/
def changesOf (i : CycleIn) (c period : Nat) : List (Nat × Nat) :=
  (i.outs.filter fun p => p.1 == c && decide (p.2.1 < period) && decide (p.2.2 < 4)).map fun p => (p.2.1, p.2.2)

/-- The outcome at an offset, given the outcome before the cycle and the changes. -/
def outcomeAt (o0 : Nat) (ch : List (Nat × Nat)) (t : Nat) : Nat := ch.foldl (fun o p => if p.1 ≤ t then p.2 else o) o0

/-- The first outcome in a window that differs from the expectation, with its offset (R194). -/
def firstDiffer (o0 : Nat) (ch : List (Nat × Nat)) (lo hi : Nat) (ok : Nat → Bool) : Option (Nat × Nat) :=
  if !ok (outcomeAt o0 ch lo) then some (lo, outcomeAt o0 ch lo)
  else ch.find? fun p => decide (lo < p.1) && decide (p.1 ≤ hi) && !ok p.2

/-- The transitions that outcome changes make: offset and slope, true rising (R196). -/
def transitions (o0 : Nat) : List (Nat × Nat) → List (Nat × Bool)
  | [] => []
  | (t, o) :: cs => (slopesOf o0 o).map (fun b => (t, b)) ++ transitions o cs

/-- How one channel fared in a cycle. -/
structure ChanResult where
  chan : Nat
  /-- Latched outcome and latch instant (R194, R213). -/
  latch : Nat
  latchAt : Int
  judged : Bool := false
  fail : Bool := false
  /-- Transitions counted beyond the kept ones (R197). -/
  extra : Nat := 0
  /-- Kept stamps, relative to W_o, with slope. -/
  stamps : List (Int × Bool) := []
  /-- OUT and CLASS of the EC record (R207). -/
  out : Nat := 0
  cls : Nat := 0
  /-- Latest stamped transition before the latch instant, with WARM (R213). -/
  last : Option (Int × Bool) := none
  deriving DecidableEq, Repr

/-- The stamped transitions of a cycle, as land instants with slope (R196). -/
def stampAll (ch : Chan) (warm : Bool) (base : Int) : List (Nat × Bool) → Chan × List (Int × Bool)
  | [] => (ch, [])
  | (t, up) :: ts =>
    let (ch', ok) := ch.stamp (base + t) warm
    let (ch'', l) := stampAll ch' warm base ts
    (ch'', if ok then (base + t, up) :: l else l)

/-- Latest stamped transition before an instant. -/
def lastBefore (ch : Chan) (warm : Bool) (st : List (Int × Bool)) (t : Int) : Option (Int × Bool) :=
  match (st.filter fun p => decide (p.1 < t)).getLast? with
  | some p => some (p.1, warm)
  | none => match ch.stampAt with | some u => if u < t then some (u, ch.stampWarm) else none | none => none

/-- The edge-compare outcome (R198): 0 EARLY, 1 IN, 2 LATE, 3 MISSING. -/
def edgeOutcome (kept : List (Int × Bool)) (slope : Nat) (wo wc : Int) : Nat :=
  match kept.find? fun p => slope == 2 || p.2 == (slope == 1) with
  | none => 3
  | some (t, _) => if t < wo then 0 else if t ≤ wc then 1 else 2

/-- Judge one channel's cycle (R193 to R198, R207). `active`: its site is in A; `glitch`: its bit in CAP_GLITCH_FAIL; `strobe`: the
cycle is judged at a strobe (R86). -/
def judgeChan (c : Nat) (ch : Chan) (t : TSet) (a : CycAct) (active glitch strobe warm : Bool) (s0 : Int) (o0 : Nat)
    (cs : List (Nat × Nat)) : Chan × ChanResult :=
  let wo : Int := s0 + t.winOpen
  let hi := if strobe then t.winOpen else t.winClose
  let wc : Int := s0 + hi
  let trs := transitions o0 cs
  let (ch', st) := stampAll ch warm s0 trs
  let judged := active && a.judgeable
  let atOpen := outcomeAt o0 cs t.winOpen
  let base : ChanResult := { chan := c, latch := atOpen, latchAt := wo, judged }
  match a with
  | .edge slope =>
    let kept := st.take 2
    let extra := trs.length - kept.length
    let out := edgeOutcome kept slope wo wc
    let fail := judged && !(out == 1 && (extra == 0 || !glitch))
    (ch', { base with latchAt := if judged then wc else wo, fail, extra, stamps := kept.map (fun p => (p.1 - wo, p.2)),
                      out := if judged then out else 0, cls := if judged then 1 else 3,
                      last := lastBefore ch warm st (if judged then wc else wo) })
  | .stampOnly =>
    let kept := st.take 2
    (ch', { base with extra := trs.length - kept.length, stamps := kept.map (fun p => (p.1 - wo, p.2)),
                      cls := if active then 2 else 3, last := lastBefore ch warm st wo })
  | .level o =>
    if judged then
      match firstDiffer o0 cs t.winOpen hi (· == o) with
      | some (f, x) => (ch', { base with latch := x, latchAt := s0 + f, fail := true, last := lastBefore ch warm st (s0 + f) })
      | none => (ch', { base with last := lastBefore ch warm st wo })
    else (ch', { base with last := lastBefore ch warm st wo })
  | .valid =>
    if judged then
      match firstDiffer o0 cs t.winOpen hi (fun x => x == 0 || x == 2) with
      | some (f, x) => (ch', { base with latch := x, latchAt := s0 + f, fail := true, last := lastBefore ch warm st (s0 + f) })
      | none => (ch', { base with last := lastBefore ch warm st wo })
    else (ch', { base with last := lastBefore ch warm st wo })
  | _ => (ch', { base with last := lastBefore ch warm st wo })

/-! ## Edges (R82 to R86, R48, R118) -/

/-- The waveform of a drive cycle: the level changes with their offsets (R83). -/
def TSet.wave (t : TSet) (d : Bool) : List (Nat × Bool) :=
  match t.format with
  | 1 => [(t.data, d), (t.ret, false)]
  | 2 => [(t.data, d), (t.ret, true)]
  | 3 => [(t.data, d), (t.ret, !d)]
  | 4 => [(0, !d), (t.data, d), (t.ret, !d)]
  | _ => [(t.data, d)]

/-- Drive code of the channel's driver for a level: 0 is high impedance. -/
def driveOf (v : Bool) : Nat := if v then 2 else 1

/-- What gates a channel's driver and load: the driver may act (R41, R42), the load may connect (LOAD_EN), and LOAD_MODE is 1 (R48). -/
structure PinGate where
  drv : Bool
  load : Bool
  idle : Bool
  deriving DecidableEq, Repr

/-- An edge reaches the land: the driver's only while the driver may act, the load's only while the load may connect (R41, R48). -/
def PinGate.passes (g : PinGate) (e : PinEdge) : Bool := match e.act with | .loadOn | .loadOff => g.load | _ => g.drv

/-- What a cycle does to one channel's driver and load: the channel after it, which holds what the pattern asks, and the edges it places at
the land (R41, R48, R84, R86). With LOAD_MODE 1 the load follows the driver's high impedance. -/
def driveChan (c : Nat) (ch : Chan) (t : TSet) (a : CycAct) (s0 start : Int) (g : PinGate) : Chan × List PinEdge :=
  let e (o : Nat) (x : EdgeAct) : PinEdge := { chan := c, at_ := s0 + o, act := x }
  let idleLoad (o : Nat) (x : EdgeAct) : List PinEdge := if g.idle && g.drv then [e o x] else []
  let unload : List PinEdge := if !g.idle && ch.loadOn && a != .load then [{ chan := c, at_ := start, act := .loadOff }] else []
  let offAt := if t.stream then t.data else t.drvOff
  let off : List PinEdge := if ch.drive ≠ 0 then e offAt .driverOff :: idleLoad offAt .loadOn else []
  let (ch, es) : Chan × List PinEdge := match a with
  | .drive d =>
    let onAt := if t.stream then t.data else t.drvOn
    let on : List PinEdge := if ch.drive = 0 then idleLoad onAt .loadOff ++ [e onAt .driverOn] else []
    let wave := if t.stream then [(t.data, d)] else t.wave d
    let fin := (wave.getLast?.map Prod.snd).getD d
    ({ ch with drive := driveOf fin, lvl := fin, prev := d, loadOn := false },
      unload ++ on ++ wave.map fun p => e p.1 (.data p.2))
  | .hold => ({ ch with loadOn := false }, unload)
  | .load => ({ ch with drive := 0, loadOn := true }, off ++ (if g.idle || ch.loadOn then [] else [e t.drvOff .loadOn]))
  | _ => ({ ch with drive := 0, loadOn := false }, unload ++ off)
  (ch, es.filter g.passes)

/-- The gate of a channel (R41, R42, R48). -/
def State.pinGate (s : State) (c : Nat) : PinGate :=
  { drv := s.driverOn c, load := s.bit F.CHn_ENABLE_LOAD_EN c, idle := s.bit F.CHn_MODE_LIVE_LOAD_MODE c }

/-! ## Capture (R204 to R210) -/

/-- Rows that a capture region holds (R205). -/
def State.capRows (w : Work) (bits : Nat) : Nat := if bits = 0 then 0 else (w.capSize - 1024) * 8 / bits

/-- A signed 24-bit offset, saturated, and whether it was (R207). -/
def sat24 (v : Int) : Nat × Bool :=
  if v > 8388607 then (8388607, true) else if v < -8388607 then (unsigned (-8388607) 24, true) else (unsigned v 24, false)

/-- The EC record of a channel (R207). -/
def ecRecord (r : ChanResult) : Nat :=
  let st (i : Nat) : Option (Int × Bool) := r.stamps[i]?
  let off (i : Nat) : Nat × Bool := match st i with | some p => sat24 p.1 | none => (0, false)
  let slope (i : Nat) : Nat := match st i with | some (_, true) => 1 | _ => 0
  let has (i : Nat) : Nat := if (st i).isSome then 1 else 0
  r.out + (if r.extra ≠ 0 then 4 else 0) + slope 0 * 8 + slope 1 * 16 + has 0 * 32 + has 1 * 64 +
    (if (off 0).2 || (off 1).2 then 128 else 0) + min r.extra 7 * 2 ^ 8 + r.cls * 2 ^ 11 + (off 0).1 * 2 ^ 16 + (off 1).1 * 2 ^ 40

/-- Concatenate fields of one width, the first lowest. -/
def packBits (width : Nat) (l : List Nat) : Nat := l.foldr (fun v acc => v % 2 ^ width + acc * 2 ^ width) 0

/-- The row of a captured cycle (R204, R207, R239); `widths` lists the lanes of a LANE_RAW row with the widths of their slots. -/
def captureRow (w : Work) (rs : List ChanResult) (raw : List (Nat × Nat × Nat × Bool × Bool)) (widths : List (Nat × Nat)) : Nat :=
  match w.capKind with
  | 0 => packBits 1 (rs.map fun r => if r.fail then 1 else 0)
  | 1 => packBits 2 (rs.map fun r => r.latch)
  | 3 => packBits 64 ((rs.filter fun r => w.recordMask.contains r.chan).map ecRecord)
  | _ => (widths.foldr (fun p acc =>
      let b := p.2 - 16
      let x := (raw.find? fun l => l.1 == p.1).map Prod.snd
      let (cnt, bits, lock, los) := x.getD (0, 0, false, false)
      let cnt := min cnt b
      cnt + (if lock then 2 ^ 12 else 0) + (if los then 2 ^ 13 else 0) + bits % 2 ^ cnt * 2 ^ 16 + acc * 2 ^ p.2) 0)

/-- What the lanes of a LANE_RAW row received in the cycle: LOCKED is BLOCK_LOCK at its start unless the lock is lost in it, LOS is LOS at its
start or an assertion in it (R239). -/
def State.rawLanes (s : State) (raw : List (Nat × Nat × Nat × Bool × Bool)) : List (Nat × Nat × Nat × Bool × Bool) :=
  (List.range 64).map fun k =>
    let (cnt, bits, lost, los) := ((raw.find? fun l => l.1 == k).map Prod.snd).getD (0, 0, false, false)
    (k, cnt, bits, s.bit F.LANEn_STATUS_BLOCK_LOCK k && !lost, s.bit F.LANEn_STATUS_LOS k || los)

/-- Slot widths of a LANE_RAW capture (R239): lane and 16 + B bits; P_max is the longest valid period of the burst's mode. -/
def State.laneSlots (s : State) (n : Nat) (w : Work) : List (Nat × Nat) :=
  let pmax := ((s.owned n).flatMap fun c => (s.validSets .TSBANK_LIVE c w.stream).map fun p => p.2.period).foldl max 0
  w.recordMask.map fun c => (c / 4, 16 + ceilDiv (pmax * s.get F.LANEn_MODE_RATE (c / 4)) 4096000 + 2)

/-- Row width of the burst's capture in bits (R204, R239). -/
def State.capRowBits (s : State) (w : Work) : Nat :=
  match w.capKind with
  | 0 => (s.owned w.bSeq).length
  | 1 => 2 * (s.owned w.bSeq).length
  | 3 => 64 * w.recordMask.length
  | _ => ((s.laneSlots w.bSeq w).map Prod.snd).sum

/-- Add a row to the CRC of the bit stream (R210). -/
def CapRun.addCrc (c : CapRun) (row width : Nat) : CapRun :=
  let v := c.tail + row * 2 ^ c.tailBits
  let n := c.tailBits + width
  { c with crc := (leBytes v (n / 8)).foldl crcByte c.crc, tail := v / 2 ^ (n / 8 * 8), tailBits := n % 8 }

/-- The region row of the next captured row, if it is written (R208). -/
def CapRun.place (c : CapRun) (w : Work) (rows : Nat) (isTrigger : Bool) : Option Nat :=
  if w.capMode = 0 then (if c.rows < rows then some c.rows else none)
  else if w.capMode = 1 then some (c.rows % rows)
  else if isTrigger then some w.capPre
  else if c.triggered then
    let i := w.capPre + (c.rows - c.trigIndex)
    if i < rows then some i else none
  else if w.capPre = 0 then none else some (c.rows % w.capPre)

/-- A captured cycle writes its row (R206, R208). A TRIGGER capture that is DONE has stopped. -/
def State.captureWrite (s : State) (n : Nat) (w : Work) (row : Nat) (isTrigger : Bool) : State :=
  let q := s.seqSt n
  let c := q.cap
  let rows := State.capRows w c.rowBits
  let put (s : State) (c : CapRun) : State := s.setSeq n { q with cap := c }
  if c.done then s else match c.place w rows isTrigger with
  | some i =>
    let s := { s with mem := Mem.setBits s.mem ((w.capRegion + 1024) * 8 + i * c.rowBits) c.rowBits row }
    let c := c.addCrc row c.rowBits
    let c := { c with rows := c.rows + 1, wrapped := c.wrapped || (w.capMode == 1 && decide (rows ≤ c.rows)),
                      done := c.done || (w.capMode == 2 && (isTrigger || c.triggered) && i + 1 == rows) }
    let newFull := w.capMode == 0 && c.rows == rows && !c.full
    let s := put s { c with full := c.full || newFull }
    if newFull then s.setBit F.CAP_EVENTS_FULL n else s
  | none => put s { c with rows := c.rows + 1, unrecorded := c.unrecorded + (if w.capMode = 0 then 1 else 0) }

/-- Value of an index field that has none: all ones (R210). -/
def noIdx : Nat := 2 ^ 64 - 1

/-- Oldest retained row: its region row and its captured-row index (R208, R210, R214). -/
def CapRun.oldest (c : CapRun) (w : Work) (rows : Nat) : Nat × Option Nat :=
  if c.rows = 0 then (if w.capMode = 0 then 0 else noIdx, none)
  else if w.capMode = 0 then (0, some 0)
  else if w.capMode = 1 then if rows < c.rows then (c.rows % rows, some (c.rows - rows)) else (0, some 0)
  else
    let before := if c.triggered then c.trigIndex else c.rows
    if w.capPre = 0 ∨ before = 0 then if c.triggered then (w.capPre, some c.trigIndex) else (noIdx, none)
    else if w.capPre ≤ before then (before % w.capPre, some (before - w.capPre))
    else (0, some 0)

/-- The capture header (R210); `status`: 0 RUNNING, 1 COMPLETE, 2 VOID. -/
def captureHeader (w : Work) (c : CapRun) (status : Nat) : Bytes :=
  let rows := State.capRows w c.rowBits
  let (orow, oidx) := c.oldest w rows
  let ovec := match oidx with | some i => if c.gaps then noIdx else c.firstVector + i | none => noIdx
  let flags := ofSet ((if c.triggered then [0] else []) ++ (if c.noEdge then [1] else []) ++ (if c.routed then [2] else []) ++
    (if c.full then [3] else []) ++ (if c.wrapped then [4] else []) ++ (if c.gaps then [5] else []) ++
    (if 56 < c.spanCount then [6] else []) ++ (if c.warm then [7] else [])) 8
  let crc := if c.tailBits = 0 then c.crc else crcByte c.crc (BitVec.ofNat 8 c.tail)
  leBytes 0x43415031 4 ++ leBytes 1 2 ++ leBytes (w.capKind + 4 * w.capMode) 1 ++ leBytes status 1 ++
  leBytes (if status = 2 then w.cause else 0) 2 ++ leBytes w.bSeq 1 ++ leBytes flags 1 ++ leBytes c.rowBits 4 ++
  leBytes w.stall 2 ++ leBytes 0 2 ++ leBytes w.seq 4 ++ leBytes c.rows 8 ++ leBytes orow 8 ++ leBytes ovec 8 ++
  leBytes (c.trigRow.getD noIdx) 8 ++ leBytes (if c.triggered then c.trigVector else noIdx) 8 ++
  leBytes (if c.triggered then c.trigTime else 2 ^ 80 - 1) 10 ++ leBytes c.trigChan 2 ++ leBytes 0 4 ++
  leBytes c.unrecorded 8 ++ leBytes (~~~crc).toNat 4 ++ leBytes c.spanCount 4 ++ leBytes 0 32 ++
  ((List.range 56).flatMap fun i => match c.spans[i]? with
    | some p => leBytes p.1 8 ++ leBytes p.2 8
    | none => leBytes noIdx 8 ++ leBytes noIdx 8)

/-- Write the capture header of a burst (R210). -/
def State.writeCapHeader (s : State) (w : Work) (status : Nat) : State :=
  if w.hasCapture then { s with mem := Mem.setBytes s.mem w.capRegion (captureHeader w (s.seqSt w.bSeq).cap status) } else s

/-! ## The acquisition trigger (R211 to R213) -/

/-- The trigger bits of a cycle (R211), as a 256-bit set. -/
def trigBits (kind : Nat) (rs : List ChanResult) : Set256 :=
  rs.foldl (fun (b : Set256) (r : ChanResult) =>
    let v := if kind = 1 then r.latch == 2 else if kind = 2 then r.latch == 0 else if kind = 3 then r.fail else false
    if v then b ||| siteBit r.chan else b) 0

/-- The later of two stamps; of equal ones the lower channel, which comes first. -/
def laterStamp (b : Option (Int × Bool × Nat)) (r : ChanResult) : Option (Int × Bool × Nat) :=
  match r.last, b with
  | some (t, w), some (u, _, _) => if u < t then some (t, w, r.chan) else b
  | some (t, w), none => some (t, w, r.chan)
  | none, _ => b

/-- Time, channel, NO_EDGE and WARM of a pattern match (R213). -/
def matchTime (kind : Nat) (mask bits : Set256) (prev : Option Set256) (rs : List ChanResult) (start : Tu) : Int × Nat × Bool × Bool :=
  let cared := rs.filter fun r => mask.getLsbD r.chan
  let changed : List ChanResult := match prev with
    | some p => cared.filter fun (r : ChanResult) => bits.getLsbD r.chan != p.getLsbD r.chan
    | none => []
  match cared with
  | [] => ((start : Int), 0xFFFF, true, false)
  | c0 :: _ =>
    match (if kind = 3 then (none : Option (Int × Bool × Nat)) else changed.foldl laterStamp none) with
    | some (t, w, c) => (t, c, false, w)
    | none => (c0.latchAt, c0.chan, true, false)

/-- The instant at which the trigger is evaluated: the last cared channel's latch, or the cycle's start where none is cared (R212). -/
def evalInstant (mask : Set256) (rs : List ChanResult) (start : Tu) : Tu :=
  match rs.filter fun r => mask.getLsbD r.chan with
  | [] => start
  | r :: l => (l.foldl (fun (m : Int) (x : ChanResult) => max m x.latchAt) r.latchAt).toNat

/-- The trigger is evaluated on a captured cycle that starts at `start`; when it fires, its place in the header is recorded and the
capture-trigger event is raised at the instant of the evaluation (R211 to R213). -/
def State.evalTrigger (s : State) (n : Nat) (w : Work) (rs : List ChanResult) (failSites : Set256) (start : Tu) (vector : Nat) : State × Bool :=
  let q := s.seqSt n
  let c := q.cap
  if c.triggered then (s, false)
  else
    let kind := s.get F.CAP_TRIG_CTRL_KIND n
    let mask := BitVec.ofNat 256 (s.rdWords .CAP_TRIG_MASK_w n 8)
    let val := BitVec.ofNat 256 (s.rdWords .CAP_TRIG_VAL_w n 8)
    let bits := trigBits kind rs
    let pat := kind != 0 && ((bits ^^^ val) &&& mask) == 0
    let routed := s.bit F.CAP_TRIG_CTRL_ROUTED n && (match c.routedAt with | some t => decide (t < start) | none => false)
    let mark := !s.bit F.CAP_TRIG_CTRL_MARK_EN n || q.marks.contains (s.get F.CAP_TRIG_CTRL_MARK_NUM n)
    let crier := !s.bit F.CAP_TRIG_CTRL_CRIER_EN n ||
      s.crierLevelAt (s.get F.CAP_TRIG_CTRL_CRIER_LINE n) start == s.bit F.CAP_TRIG_CTRL_CRIER_LEVEL n
    let site := !s.bit F.CAP_TRIG_CTRL_SITE_EN n || failSites.getLsbD (s.get F.CAP_TRIG_CTRL_SITE_NUM n)
    let c' := { c with prevBits := some bits }
    if (pat || routed) && mark && crier && site then
      let (t, ch, noEdge, warm) :=
        if pat then matchTime kind mask bits c.prevBits rs start else (((c.routedAt.getD 0 : Tu) : Int), 0xFFFF, true, s.warm)
      let warm := warm || (noEdge && s.warm)
      let rows := State.capRows w c.rowBits
      let row := if w.capMode = 2 then some w.capPre else if w.capMode = 1 then some (c.rows % rows)
        else if c.rows < rows then some c.rows else none
      let c' := { c' with triggered := true, noEdge, routed := !pat, warm, trigRow := row, trigVector := vector,
                          trigTime := unsigned t 80, trigChan := ch, trigIndex := c.rows }
      (((s.setSeq n { q with cap := c' }).setBit F.CAP_EVENTS_TRIGGER n).raise (0x220 + n) (evalInstant mask rs start), true)
    else (s.setSeq n { q with cap := c' }, false)

/-- Channels whose EC_OFFSET measurements a burst declares (R308, table *Measurement operations*). -/
def Work.ecChans (w : Work) : List Nat :=
  if w.opcode = Op.burst ∧ w.hasWatch ∧ w.capKind = 3 then
    (List.range w.measCount).filterMap fun i => if Bytes.le w.meas (64 * i) 1 = 8 then some (Bytes.le w.meas (64 * i + 2) 2) else none
  else []

/-- The capture unit hands the EC records of a written row to the graph unit: OFF1 where VALID1 is 1 and CLASS is 1 or 2 (R207). -/
def State.tapEc (s : State) (n : Nat) (w : Work) (rs : List ChanResult) (start : Tu) : State :=
  let q := s.seqSt n
  let l := (rs.filter fun r => w.ecChans.contains r.chan).map fun r =>
    (r.chan, (match r.stamps with
      | (o, _) :: _ => if r.cls = 1 ∨ r.cls = 2 then some (signed (sat24 o).1 24, ((start : Int) + s.timeOffset r.chan + o).toNat) else none
      | [] => none), s.warm)
  s.setSeq n { q with cap := { q.cap with ecTap := q.cap.ecTap ++ l } }

/-! ## The cycle -/

/-- Add to a count that saturates at its all-ones value (R199). -/
def satAdd (w a b : Nat) : Nat := min (a + b) (2 ^ w - 1)

/-- Count a failing site of a cycle (R199). -/
def bumpSite (m : Store Nat (Nat × Nat)) (site vector : Nat) : Store Nat (Nat × Nat) :=
  match Store.get? m site with
  | some (n, f) => Store.put m site (satAdd 64 n 1, f)
  | none => Store.put m site (1, vector)

/-- The results of a cycle enter the fail state and the counts (R152, R156, R199). -/
def Seq.score (q : Seq) (rs : List (ChanResult × Nat)) (inMatch : Bool) : Seq :=
  let failing := (rs.filter fun p => p.1.fail).map Prod.snd
  let f : Set256 := failing.foldl (fun b i => b ||| siteBit i) 0
  let q := { q with
    chFails := rs.foldl (fun (m : Store Nat Nat) (p : ChanResult × Nat) => if p.1.fail then Store.put m p.1.chan (satAdd 32 (Store.getD m p.1.chan 0) 1) else m) q.chFails
    chGlitches := rs.foldl (fun (m : Store Nat Nat) (p : ChanResult × Nat) =>
      if p.1.extra ≠ 0 ∧ q.active.getLsbD p.2 then Store.put m p.1.chan (satAdd 32 (Store.getD m p.1.chan 0) p.1.extra) else m)
      q.chGlitches }
  if inMatch then { q with mat := q.mat.map fun m => { m with fails := m.fails ||| f } }
  else { q with lfail := q.lfail ||| f, bfail := q.bfail ||| f,
                siteFails := failing.eraseDups.foldl (fun m i => bumpSite m i q.vectors) q.siteFails }

/-- The actions that take effect at a cycle's start, other than SETTS (R138, R157, R158). -/
def State.startActs (s : State) (n : Nat) (w : Work) (start : Tu) (acts : List SeqAct) : State :=
  acts.foldl (fun s a =>
    let q := s.seqSt n
    let own := s.owned n
    let sel (g bits : Nat) : Set256 :=
      (setBits bits 64).foldl (fun b i => match own[64 * g + i]? with | some c => b ||| siteBit c | none => b) 0
    let grp (g : Nat) : Set256 := sel g (2 ^ 64 - 1)
    match a with
    | .setts _ _ _ => s
    | .dir g bits => if w.stream then s.setSeq n { q with drive := (q.drive &&& ~~~(grp g)) ||| sel g bits } else s
    | .edgecmp e g bits =>
      if w.stream then s.setSeq n { q with ec := if e then q.ec ||| sel g bits else q.ec &&& ~~~(sel g bits) } else s
    | .mark m => (s.setSeq n { q with marks := m :: q.marks }).raise (0x200 + n) start true m
    | .captureOn =>
      let c := q.cap
      if c.on then s
      else
        let c := { c with on := true, firstVector := if c.rows = 0 then q.vectors else c.firstVector,
                          gaps := c.gaps || (w.capMode != 0 && c.wasOff) }
        let c := if w.capMode = 0 then
            { c with spanCount := c.spanCount + 1,
                     spans := if c.spans.length < 56 then
                         c.spans ++ [(if c.rows < State.capRows w c.rowBits then c.rows else noIdx, q.vectors)] else c.spans }
          else c
        s.setSeq n { q with cap := c }
    | .captureOff => if q.cap.on then s.setSeq n { q with cap := { q.cap with on := false, wasOff := true } } else s) s

/-- An EDGECMP entry waits, in stream mode (R157). -/
def entersEdgecmp (w : Work) (acts : List SeqAct) : Bool :=
  w.stream && acts.any fun a => match a with | .edgecmp e _ _ => e | _ => false

/-- The run after one of its cycles (R139, R142, R143). -/
def Seq.advanceRun (q : Seq) (r : Run) : Seq :=
  let r := { r with left := r.left - 1, beat := r.beat - 1,
                    row := if r.kind = .vec ∨ r.kind = .match_ then r.row + 1 else r.row,
                    chainRow := if r.kind = .shift then r.chainRow + 1 else r.chainRow }
  if r.left ≠ 0 then { q with run := some r, bdry := q.bdry || r.beat == 0 }
  else
    let q := { q with run := none, bdry := true }
    let decide_ : SeqPhase := if q.mat.any (·.micro) then .ready else .matchDecide
    match r.kind with
    | .match_ => { q with phase := decide_, mat := q.mat.map fun m =>
        { m with iters := m.iters + 1, ended := m.ended ++ [(q.nextStart, m.fails)], fails := 0 } }
    | .quiet => { q with phase := if q.brf.isSome then .brDecide else if q.mat.isSome then decide_ else .ready }
    | _ => match q.after with
      | some (g, i) => { q with phase := .ready, after := none, nseg := g, nidx := i }
      | none => { q with phase := .ready }

/-- Credit that a started cycle adds (R125, R141). -/
def Seq.earn (q : Seq) (w : Work) (n period : Nat) : Seq :=
  { q with fcredit := min (q.fcredit + rowWidth w.bitsPerUi n true + 2) fcreditMax,
           icredit := min (q.icredit + period * w.pace / 4096) icreditMax }

/-- Opcode whose per-beat cost a run has. -/
def RunKind.opcode : RunKind → Nat
  | .vec => 0x01 | .repeat_ => 0x02 | .shift => 0x0B | .match_ => 0x08 | .quiet => 0

/-- A new beat begins: its microwords are charged (R139, R141). -/
def State.startBeat (s : State) (q : Seq) (r : Run) : Option (Seq × Run) :=
  if r.beat ≠ 0 then some (q, r)
  else
    let len := if r.kind = .match_ ∨ r.kind = .quiet then r.left else min 4096 r.left
    if r.kind = .quiet then some (q, { r with beat := len })
    else (q.charge (s.beatCost r.kind.opcode)).map fun q => (q, { r with beat := len })

/-- The outcomes of a channel through a cycle: its comparators' transitions reach the Tally, and an INVALID at any instant is reported (R45,
R277). `o0` stands at the start; the changes are offsets from `s0`. -/
def State.outcomes (s : State) (c o0 : Nat) (cs : List (Nat × Nat)) (s0 : Int) : State :=
  let (s, o) := cs.foldl (fun (x : State × Nat) p => (x.1.srcEdges2 c x.2 p.2 (s0 + (p.1 : Int)).toNat, p.2)) (s, o0)
  let s := s.set F.CHn_STATUS_LIVE_OUTCOME o c
  if o0 = 3 ∨ (cs.any fun p => p.2 == 3) then s.disagreement c else s

/-- Site number and activity of a channel's cycle, its act, and its judgement. -/
def State.runChan (s : State) (n : Nat) (w : Work) (start : Tu) (period : Nat) (io : CycleIn) (p : Nat × Nat × TSet) :
    State × ChanResult × Nat :=
  let (c, code, t) := p
  let q := s.seqSt n
  let ch := s.chan c
  let site := s.siteOf n c
  let lane := s.laneUses c
  let a : CycAct := if lane then .mask
    else if w.stream then streamCode code (q.drive.getLsbD c) (q.ec.getLsbD c) ch.prev else edgeCode code ch.prev
  let s0 : Int := (start : Int) + s.timeOffset c
  let o0 := s.get F.CHn_STATUS_LIVE_OUTCOME c
  let cs := changesOf io c period
  let (ch1, es) := if lane then (ch, []) else driveChan c ch t a s0 s0 (s.pinGate c)
  let (ch2, r) := judgeChan c ch1 t a (q.active.getLsbD site) (q.glitchFail.contains c) (w.stream && !a.edgeCompare) s.warm s0 o0 cs
  let es := es.map fun (e : PinEdge) => { e with corr := s.edgeCorr c e.at_ }
  let s := { s.setChan c { ch2 with latch := some r.latch } with edges := s.edges ++ es }
  let s := if r.latch = 3 then (s.countUp F.CAP_CHECK_CNT_FAILS).setBit F.CAP_EVENTS_CHECK_FAIL n else s
  (s.outcomes c o0 cs s0, r, site)

/-- The channels of a cycle with a row, in ascending order. -/
def State.runChans (s : State) (n : Nat) (w : Work) (start : Tu) (period : Nat) (io : CycleIn) :
    List (Nat × Nat × TSet) → State × List (ChanResult × Nat)
  | [] => (s, [])
  | p :: ps =>
    let (s, r, site) := s.runChan n w start period io p
    let (s, rs) := s.runChans n w start period io ps
    (s, (r, site) :: rs)

/-- In a quiet cycle, a hold or a pause no window opens; transitions are still stamped (R81, R150, R196). -/
def State.quietChans (s : State) (n : Nat) (start : Tu) (period : Nat) (io : CycleIn) : State :=
  (s.owned n).foldl (fun s c =>
    let s0 : Int := (start : Int) + s.timeOffset c
    let o0 := s.get F.CHn_STATUS_LIVE_OUTCOME c
    let cs := changesOf io c period
    let (ch, _) := stampAll (s.chan c) s.warm s0 (transitions o0 cs)
    (s.setChan c { ch with latch := none }).outcomes c o0 cs s0) s

/-- The instant and number of a cycle (R77, R79, R101). -/
def State.startCount (s : State) (n : Nat) (q : Seq) (period : Nat) : State × Seq :=
  let reset := q.reset || (q.period != 0 && period != q.period)
  let q' := { q with period, cycle := if reset then 0 else (q.cycle + 1) % 2 ^ 48, reset := false,
                     first0 := if q.started then q.first0 else q.nextStart, started := true }
  let s := if reset then s.wr80 .TSBANK_EPOCH_0_n .TSBANK_EPOCH_1_n .TSBANK_EPOCH_2_n n (q.nextStart % 2 ^ 80) else s
  ((s.wr ⟨.TSBANK_CYCLE_0_n, n, 0⟩ (BitVec.ofNat 32 q'.cycle)).wr ⟨.TSBANK_CYCLE_1_n, n, 0⟩ (BitVec.ofNat 32 (q'.cycle / 2 ^ 32)), q')

/-- A failed verdict check of the beat (R202). -/
def State.checkFailed (s : State) (n : Nat) (check : Nat) : State :=
  if check = 0 then s
  else ((s.countUp F.CAP_CHECK_CNT_FAILS).setBit F.CAP_EVENTS_CHECK_FAIL n).detect
    { kind := 2, cause := if check = 1 then 0x210 else if check = 2 then 0x211 else 0x213, source := 0x500 + n,
      works := ((s.seqSt n).work).toList }

/-- A planned cycle starts. -/
def State.runCycle (s : State) (n : Nat) (w : Work) (r : Run) (p : CyclePlan) (io : CycleIn) : State :=
  let start := p.q.nextStart
  let s := s.advanceTo start
  let s := if p.q.started then s else s.armCompares w
  let acts := p.q.acts
  let quiet := r.kind == .quiet
  let (s, q) := s.startCount n p.q p.period
  let q := (q.earn w (s.owned n).length p.period)
  let s := s.setSeq n { q with acts := [] }
  let s := { s.startActs n w start acts with edges := [] }
  let s := if quiet then s.quietChans n start p.period io
    else
      let (s, rs) := s.runChans n w start p.period io p.codes
      let q := (s.seqSt n).score rs (r.kind == .match_)
      let s := (s.setSeq n q).refreshSites n
      let res := rs.map Prod.fst
      let failSites : Set256 := rs.foldl (fun b x => if x.1.fail then b ||| siteBit x.2 else b) 0
      let s := if q.cap.on then
          let (s, trig) := s.evalTrigger n w res failSites start q.vectors
          let written := !q.cap.done && ((s.seqSt n).cap.place w (State.capRows w q.cap.rowBits) trig).isSome
          let s := if written then s.tapEc n w res start else s
          s.captureWrite n w (captureRow w res (s.rawLanes io.raw) q.cap.widths) trig
        else s
      s.setSeq n { s.seqSt n with vectors := q.vectors + 1, vecNow := q.vectors }
  let s := s.checkFailed n io.check
  let q := s.seqSt n
  let s := (s.setSeq n ({ q with nextStart := start + p.period }.advanceRun r)).refreshCap n w
  if p.q.started then s else s.readAheadAll w

/-- CYCLE_START: the next cycle of sequencer `n`'s run starts, or the burst ends VOID because it may not (R77 to R87, R99, R120 to
R125, R137, R157, R376). A channel that is in edge-compare when a later cycle's period falls below 1,024 tu goes on in edge-compare: the spec
gives a cause for the entry alone (DESIGN CHOICE, log entry 38). -/
def execCycleStart (n : Nat) (io : CycleIn) (s : State) : Host.Outcome State Fault Refusal :=
  .next (s.onSeq n fun k w q =>
    match q.run with
    | none => s
    | some r =>
      if w.stage ≠ .running ∨ q.phase ≠ .emit ∨ !q.free ∨ !s.bit F.TSBANK_REF_MASTER_LOCK then s
      else if (match Store.get? s.tsPending n with | some p => decide (p.accept + commitLead ≤ q.nextStart) | none => false) then s
      else match s.startBeat q r with
        | none => s.stopBurst n k 0x204
        | some (q, r) =>
          match s.planCycle n w q r with
          | .error e => s.readFailed n k e
          | .ok p =>
            let first := if q.started then q.first0 else q.nextStart
            if !w.session && decide (first + w.duration < q.nextStart + p.period) then s.stopBurst n k 0x20F
            else if entersEdgecmp w q.acts && decide (p.period < 1024) then s.stopBurst n k 0x20C
            else s.runCycle n w r p io)

/-! ## Burst start (R134) -/

/-- The active site mask at burst start (R134). -/
def State.startSites (s : State) (n : Nat) (w : Work) : Set256 :=
  let en := s.mask256 .SEQn_SITE_EN_w n
  (s.owned n).foldl (fun b c =>
    let i := s.siteOf n c
    if en.contains i && w.sites.contains i then b ||| siteBit i else b) 0

/-- BURST_START: the burst's window has begun, every channel it owns is settled (R61) and its start instant arrives: the sequencer takes the state of
R134, and cycle 0 follows at that instant (R79), behind an instruction boundary. The line store is empty then: the spec does not say that it keeps
lines from one burst to the next (DESIGN CHOICE, log entry 38). -/
def execBurstStart (k : Nat) (s : State) : Host.Outcome State Fault Refusal :=
  .next (s.onWork k Op.burst fun w =>
    let n := w.bSeq
    if w.stage ≠ .window ∨ (s.seqSt n).work ≠ some k ∨ !s.bit F.TSBANK_REF_MASTER_LOCK ∨
        (w.burstChans.any fun c => !s.bit F.CHn_STATUS_SETTLED c) then s
    else
      let s := s.advanceTo w.s0
      let old := s.seqSt n
      let a := s.startSites n w
      let dir : Set256 := if w.stream then BitVec.ofNat 256 (s.rdWords .SEQn_DIRINIT_w n 8) else 0
      let seg := w.body 32 2 % 2 ^ 15
      let idx := w.body 36 4 % 2 ^ 18
      let q : Seq := { work := some k, phase := .ready, bdry := true, seg, idx, nseg := seg, nidx := idx, dmax := w.callDepth,
                       drive := dir, active := a, atStart := a, nextStart := w.s0, spillAt := s.spillBase n, glitchFail := old.glitchFail,
                       pauseReq := old.pauseReq, stopReq := old.stopReq,
                       cap := { rowBits := old.cap.rowBits, widths := old.cap.widths } }
      let s := (s.setSeq n q).setWork k { w with stage := .running }
      let s := (s.set F.SEQn_STATUS_RUN_STATE 2 n).refreshSites n
      (s.writeCapHeader w 0).refreshCap n w)

end Sys2Proof.Machine
end

