-- ==== Sys2Proof/Machine/Flags.lean ====
section
/-!
DEFINITION. The three flags of a micro-engine (R175).
-/

namespace Sys2Proof.Machine

/-- Z (result zero), N (bit 63 of the result), C (carry or borrow out of bit 63). -/
structure Flags where
  z : Bool
  n : Bool
  c : Bool
  deriving DecidableEq, Repr

/-- The flags of a 64-bit result with a carry. -/
def flagsOf (r : BitVec 64) (c : Bool) : Flags := { z := r == 0#64, n := r.getLsbD 63, c }

/-- A + B: C is the carry out of bit 63. -/
def addFlags (a b : BitVec 64) : BitVec 64 × Flags := (a + b, flagsOf (a + b) (decide (2 ^ 64 ≤ a.toNat + b.toNat)))

/-- A − B: C is the borrow. -/
def subFlags (a b : BitVec 64) : BitVec 64 × Flags := (a - b, flagsOf (a - b) (decide (a.toNat < b.toNat)))

/-- A logical result: no carry leaves bit 63 (log entry 13). -/
def logicFlags (r : BitVec 64) : BitVec 64 × Flags := (r, flagsOf r false)

end Sys2Proof.Machine
end

