-- ==== Sys2Proof/Machine/Operands.lean ====
section
/-!
DEFINITION. The operand forms of a microword: its fields (R173) and the operand selectors (R174).
-/

namespace Sys2Proof.Machine

/-- The fields of a microword (R173). -/
structure Uop where
  uop : Nat
  a : Nat
  b : Nat
  imm : Nat
  deriving DecidableEq, Repr

def decodeUop (w : Word) : Uop :=
  { uop := bitsOf w.toNat 26 6, a := bitsOf w.toNat 21 5, b := bitsOf w.toNat 16 5, imm := bitsOf w.toNat 0 16 }

/-- IMM, sign-extended to 64 bits. -/
def Uop.simm (u : Uop) : BitVec 64 := (BitVec.ofNat 16 u.imm).signExtend 64

/-- The selector names a 256-bit site set. -/
def isSet (sel : Nat) : Bool := decide (0x16 ≤ sel) && decide (sel ≤ 0x19)

/-- RESID: windows that hold a program depth. -/
def Seq.residMap (q : Seq) : Nat := ofSet q.resident 7

/-- EVL: the event latches, as they stand at the decision instant of the coming boundary (R140, R155). -/
def Seq.evl (q : Seq) : Nat := ofSet ((List.range 8).filter q.latched) 8

/-- The sites that the running MATCH has matched: those whose outcomes are known at the coming boundary (R156). -/
def Seq.matchedNow (q : Seq) : Set256 := match q.mat with | some m => q.known m | none => q.matched

/-- A scalar operand. A site set that a micro-operation other than SITEOP and FAILRD names reads as a free value (log entry 13). -/
def State.uread (s : State) (q : Seq) (sel : Nat) : BitVec 64 :=
  if sel < 8 then q.t.getD sel 0#64
  else if isSet sel then BitVec.ofNat 64 s.freeVal
  else BitVec.ofNat 64 (match sel with
    | 0x08 => q.irMod | 0x09 => q.irX | 0x0A => q.irY | 0x0B => q.irZ
    | 0x0C => retOf q.seg q.idx | 0x0D => retOf q.nseg q.nidx | 0x0E => q.depth | 0x0F => q.dmax
    | 0x10 => q.win.c.getD 0 0 | 0x11 => q.win.c.getD 1 0 | 0x12 => q.win.c.getD 2 0 | 0x13 => q.win.c.getD 3 0
    | 0x14 => q.win.ret | 0x15 => q.residMap | 0x1A => q.evl | 0x1B => q.period | 0x1C => q.icredit | 0x1D => q.fcredit
    | 0x1E => q.spillAt | _ => 0)

/-- Set or clear an event latch by a write of EVL. -/
def Seq.putLatch (q : Seq) (e : Nat) (on : Bool) : Seq :=
  if !on then q.clearLatch e
  else if q.latched e then q
  else { q with ev := Store.put q.ev e (q.decision :: q.evOf e) }

/-- Write a scalar operand, 64 bits wide (R174); a loop counter holds 32 bits (R145). ZERO, ICREDIT and FCREDIT discard it (R174); so do RESID,
which shows the windows, and the site sets (log entry 13). -/
def Seq.uwrite (q : Seq) (sel : Nat) (v : BitVec 64) : Seq :=
  let x := v.toNat
  if sel < 8 then { q with t := q.t.set sel v }
  else match sel with
    | 0x08 => { q with irMod := x } | 0x09 => { q with irX := x } | 0x0A => { q with irY := x } | 0x0B => { q with irZ := x }
    | 0x0C => { q with seg := retSeg x, idx := retIdx x } | 0x0D => { q with nseg := retSeg x, nidx := retIdx x }
    | 0x0E => { q with depth := x } | 0x0F => { q with dmax := x }
    | 0x10 => q.setCounter 0 (x % 2 ^ 32) | 0x11 => q.setCounter 1 (x % 2 ^ 32)
    | 0x12 => q.setCounter 2 (x % 2 ^ 32) | 0x13 => q.setCounter 3 (x % 2 ^ 32)
    | 0x14 => { q with wins := Store.put q.wins q.depth { q.win with ret := x } }
    | 0x1A => (List.range 8).foldl (fun q e => q.putLatch e (bitOf x e)) q
    | 0x1B => { q with period := x } | 0x1E => { q with spillAt := x }
    | _ => q

/-- An operand of SITEOP: a site set, or a scalar with zeros above it. -/
def State.readSet (s : State) (q : Seq) (sel : Nat) : Set256 :=
  match sel with
  | 0x16 => q.lfail | 0x17 => q.bfail | 0x18 => q.active | 0x19 => q.matchedNow | _ => (s.uread q sel).zeroExtend 256

/-- The instruction in progress retires sites: BRFAIL or MATCH with MASK (R153). -/
def Seq.retiring (q : Seq) : Bool := (q.irOp == 0x08 || q.irOp == 0x09) && q.irMod % 4 == 2

/-- Write the result of a set operation; a scalar takes the lowest 64 bits. Sites that a retiring instruction takes out of A are retired, as copy B
records them (R202). -/
def Seq.writeSet (q : Seq) (sel : Nat) (v : Set256) : Seq :=
  match sel with
  | 0x16 => { q with lfail := v } | 0x17 => { q with bfail := v }
  | 0x18 => { q with active := v, retired := if q.retiring then q.retired ||| (q.active &&& ~~~v) else q.retired }
  | 0x19 => { q with matched := v, mat := q.mat.map fun m => { m with ended := m.ended.filter fun p => decide (q.nextStart < p.1 + outcomeLead) } }
  | _ => q.uwrite sel (v.extractLsb' 0 64)

end Sys2Proof.Machine
end

