-- ==== Sys2Proof/Machine/Microcode.lean ====
section
/-!
DEFINITION. The micro-engines: microwords, next addresses, engine checks (spec/06_microcode.md). A sequencer's program advances by
instruction rows (Sequencer.lean) or by the microwords here; both act on the one state of the sequencer (log entry 13).
-/

namespace Sys2Proof.Machine

/-- The microword at an address (R176): the ROM, whose contents are not published, or the patch RAM. -/
def State.microword (s : State) (a : Nat) : Word :=
  if a < 0x4000 then Config.romWord a else s.patch.getD (a - 0x4000) 0#32

/-- An address lies in one of the two stores. -/
def uaddrOk (a : Nat) : Bool := decide (a < 0x4200)

/-- The match register that replaces a ROM address, lowest number first (R178). -/
def State.patchMatch (s : State) (a : Nat) : Option Nat :=
  ((List.range 32).find? fun i => s.bit F.BOOT_UCMATCH_n_EN i && s.get F.BOOT_UCMATCH_n_ROM_ADDR i == a).map fun i =>
    0x4000 + s.get F.BOOT_UCMATCH_n_PATCH_ADDR i

/-- The address after the microword at `a` (R177, R178); none: loss of control. `to`: the address of a branch, dispatch or return. -/
def State.nextAddr (s : State) (a : Nat) (target : Option Nat) : Option Nat :=
  let stepped := target.isNone && (a == 0x3FFF || a == 0x41FF)
  let next := target.getD (a + 1)
  let next := if a < 0x4000 ∧ next < 0x4000 then (s.patchMatch next).getD next else next
  if stepped || !uaddrOk next then none else some next

/-- A loss-of-control fault of a micro-engine (R180): the burst is VOID and its program stops. -/
def State.lossOfControl (s : State) (n k : Nat) : State :=
  (s.detect { kind := 7, cause := 0x225, source := 0x800 + n, works := [k] }).stopBurst n k 0x225

/-- The engine may execute a microword: its burst runs, no beat is under way, no boundary is due, the watchdog has not expired. -/
def engineReady (w : Work) (q : Seq) : Bool := w.stage == .running && q.phase == .ready && q.free && decide (q.ucount < 1024)

/-- Micro-operations that the table lists (R175). -/
def uopListed (u : Nat) : Bool :=
  decide (u ≤ 0x0D) || (decide (0x10 ≤ u) && decide (u ≤ 0x17)) || (decide (0x20 ≤ u) && decide (u ≤ 0x2B)) || u == 0x30 || u == 0x31 ||
  u == 0x38 || u == 0x39

/-- Execute the current microword of sequencer `n` when its UOP is `op`: the credit pays for it (R141), the watchdog counts it
(R180), then `body` carries it out and gives the address to go to, if it is not the next one. -/
def State.micro (s : State) (n op : Nat) (body : State → Nat → Work → Seq → Uop → State × Option Nat) : State :=
  s.onSeq n fun k w q =>
    let u := decodeUop (s.microword q.upc)
    if !engineReady w q ∨ u.uop ≠ op then s
    else match q.charge 1024 with
      | none => s.stopBurst n k 0x204
      | some q =>
        let q := { q with ucount := q.ucount + 1 }
        let at_ := q.upc
        let used := if isSet u.a || isSet u.b then 1 else 0
        let s := if u.a = 0x1A ∨ u.b = 0x1A then s.pastDecision q else s
        let (s, target) := body (s.setSeq n q) k w q u
        let s := s.useFree used
        if (s.seqSt n).phase = .ended then s
        else match s.nextAddr at_ target with
          | some a => s.setSeq n { s.seqSt n with upc := a }
          | none => s.lossOfControl n k

/-- A micro-operation that only changes the engine. -/
def State.microQ (s : State) (n op : Nat) (f : State → Seq → Uop → Seq) : State :=
  s.micro n op fun s _ _ q u => (s.setSeq n (f s q u), none)

/-- A ← v with flags. -/
def Seq.setFlags (q : Seq) (f : Flags) : Seq := { q with fz := f.z, fn := f.n, fc := f.c }

/-- A micro-operation that writes A. -/
def State.microA (s : State) (n op : Nat) (f : BitVec 64 → BitVec 64 → Uop → BitVec 64) : State :=
  s.microQ n op fun s q u => q.uwrite u.a (f (s.uread q u.a) (s.uread q u.b) u)

/-- A micro-operation that writes A and sets the flags. -/
def State.microF (s : State) (n op : Nat) (f : BitVec 64 → BitVec 64 → Uop → BitVec 64 × Flags) : State :=
  s.microQ n op fun s q u =>
    let r := f (s.uread q u.a) (s.uread q u.b) u
    (q.uwrite u.a r.1).setFlags r.2

/-- A branch that is taken under a condition. -/
def State.microBr (s : State) (n op : Nat) (c : State → Seq → Uop → Bool) : State :=
  s.micro n op fun s _ _ q u => (s, if c s q u then some u.imm else none)

/-- NOP -/
def execUopNop (n : Nat) (s : State) : Host.Outcome State Fault Refusal := .next (s.microQ n 0x00 fun _ q _ => q)
/-- MOV: A ← B. -/
def execUopMov (n : Nat) (s : State) : Host.Outcome State Fault Refusal := .next (s.microA n 0x01 fun _ b _ => b)
/-- LDI: A ← IMM. -/
def execLdi (n : Nat) (s : State) : Host.Outcome State Fault Refusal := .next (s.microA n 0x02 fun _ _ u => BitVec.ofNat 64 u.imm)
/-- LDIH: A ← (A << 16) | IMM. -/
def execLdih (n : Nat) (s : State) : Host.Outcome State Fault Refusal :=
  .next (s.microA n 0x03 fun a _ u => (a <<< 16) ||| BitVec.ofNat 64 u.imm)
/-- ADD -/
def execUopAdd (n : Nat) (s : State) : Host.Outcome State Fault Refusal := .next (s.microF n 0x04 fun a b _ => addFlags a b)
/-- SUB -/
def execUopSub (n : Nat) (s : State) : Host.Outcome State Fault Refusal := .next (s.microF n 0x05 fun a b _ => subFlags a b)
/-- ADDI -/
def execAddi (n : Nat) (s : State) : Host.Outcome State Fault Refusal := .next (s.microF n 0x06 fun a _ u => addFlags a u.simm)
/-- AND -/
def execUopAnd (n : Nat) (s : State) : Host.Outcome State Fault Refusal := .next (s.microF n 0x07 fun a b _ => logicFlags (a &&& b))
/-- OR -/
def execUopOr (n : Nat) (s : State) : Host.Outcome State Fault Refusal := .next (s.microF n 0x08 fun a b _ => logicFlags (a ||| b))
/-- XOR -/
def execUopXor (n : Nat) (s : State) : Host.Outcome State Fault Refusal := .next (s.microF n 0x09 fun a b _ => logicFlags (a ^^^ b))
/-- SHF: left when IMM[6] is 0, logical right when it is 1, by IMM[5:0]. -/
def execUopShf (n : Nat) (s : State) : Host.Outcome State Fault Refusal :=
  .next (s.microA n 0x0A fun a _ u => if bitOf u.imm 6 then a >>> (u.imm % 64) else a <<< (u.imm % 64))
/-- CMP: flags from A − B. -/
def execUopCmp (n : Nat) (s : State) : Host.Outcome State Fault Refusal :=
  .next (s.microQ n 0x0B fun s q u => q.setFlags (subFlags (s.uread q u.a) (s.uread q u.b)).2)
/-- CMPI: flags from A − IMM, sign-extended. -/
def execCmpi (n : Nat) (s : State) : Host.Outcome State Fault Refusal :=
  .next (s.microQ n 0x0C fun s q u => q.setFlags (subFlags (s.uread q u.a) u.simm).2)
/-- FIELD: bits of B from IMM[5:0] upward, IMM[11:6] + 1 bits wide. -/
def execUopField (n : Nat) (s : State) : Host.Outcome State Fault Refusal :=
  .next (s.microA n 0x0D fun _ b u => BitVec.ofNat 64 (bitsOf b.toNat (u.imm % 64) (bitsOf u.imm 6 6 + 1)))
/-- BR -/
def execUopBr (n : Nat) (s : State) : Host.Outcome State Fault Refusal := .next (s.microBr n 0x10 fun _ _ _ => true)
/-- BRZ -/
def execBrz (n : Nat) (s : State) : Host.Outcome State Fault Refusal := .next (s.microBr n 0x11 fun _ q _ => q.fz)
/-- BRNZ -/
def execBrnz (n : Nat) (s : State) : Host.Outcome State Fault Refusal := .next (s.microBr n 0x12 fun _ q _ => !q.fz)
/-- BRN -/
def execBrn (n : Nat) (s : State) : Host.Outcome State Fault Refusal := .next (s.microBr n 0x13 fun _ q _ => q.fn)
/-- BRC -/
def execBrc (n : Nat) (s : State) : Host.Outcome State Fault Refusal := .next (s.microBr n 0x14 fun _ q _ => q.fc)
/-- BRB: branches if the bit of A that B numbers is 1. -/
def execBrb (n : Nat) (s : State) : Host.Outcome State Fault Refusal :=
  .next (s.microBr n 0x15 fun s q u => (s.uread q u.a).getLsbD (s.uread q u.b).toNat)
/-- DISP: next ← IMM + (A & 0x3F). -/
def execDisp (n : Nat) (s : State) : Host.Outcome State Fault Refusal :=
  .next (s.micro n 0x16 fun s _ _ q u => (s, some (u.imm + (s.uread q u.a).toNat % 64)))

/-- DISPOP: fetches and decodes the next instruction word, under the checks of R110 and R136, and dispatches on its opcode: the boundary between
two instructions, at which the watchdog's count starts anew (R139, R180). The scratch registers become undefined (R174): free values. -/
def execDispop (n : Nat) (s : State) : Host.Outcome State Fault Refusal :=
  .next (s.micro n 0x17 fun s k w q u =>
    if 2 ^ 18 ≤ q.nidx then (s.stopBurst n k 0x207, none)
    else if !w.segs.contains q.nseg then (s.stopBurst n k 0x206, none)
    else match s.readLines q [insAddr q.nseg q.nidx / 64] with
      | .error e => (s.readFailed n k e, none)
      | .ok q =>
        let i := s.insAt q.nseg q.nidx
        if !i.ok (s.owned n).length then (s.stopBurst n k 0x203, none)
        else if i.namesSeg && !w.segs.contains i.x then (s.stopBurst n k 0x206, none)
        else
          let t := (List.range 8).map fun j => BitVec.ofNat 64 (Config.freeValue (s.free + j))
          ((s.useFree 8).setSeq n { q with seg := q.nseg, idx := q.nidx, nidx := q.nidx + 1, irMod := i.mod, irX := i.x, irY := i.y,
                                           irZ := i.z, irOp := i.op, t, onceRead := false, ucount := 0, mat := none,
                                           matched := if i.op = 0x08 then 0 else q.matched }, some (u.imm + i.op)))

/-- RUN: hands one beat of rows to the run-ahead path: B rows from row A of segment IRX; in chain mode the template row is that of
IRZ. A row count outside 1 to 4,096 is a free value in that range (log entry 13). In a MATCH the beat is an iteration, whose fails go to its matched
sites (R152, R156). -/
def execUopRun (n : Nat) (s : State) : Host.Outcome State Fault Refusal :=
  .next (s.micro n 0x20 fun s k w q u =>
    let a := (s.uread q u.a).toNat
    let b := (s.uread q u.b).toNat
    let cnt := if 1 ≤ b ∧ b ≤ 4096 then b else 1 + s.freeVal % 4096
    let form := bitOf u.imm 0
    let chain := bitOf u.imm 1
    let seg := q.irX % 2 ^ 15
    if !w.segs.contains seg then (s.stopBurst n k 0x206, none)
    else if !chain && !s.rowsFit n w form a cnt then (s.stopBurst n k 0x207, none)
    else
      let r : Run := if chain then { kind := .shift, seg, row := bitsOf q.irZ 24 24, chainRow := a, left := cnt, beat := cnt }
        else { kind := if q.irOp = 0x08 then .match_ else .vec, seg, row := a, form, left := cnt, beat := cnt }
      let m : MatchSt := q.mat.getD
        { sites := q.irMod % 4, form, seg, row := a, rows := cnt, limit := q.irY, timeout := bitsOf q.irZ 40 18, micro := true }
      let q := if r.kind = .match_ then { q with mat := some { m with fails := 0 } } else q
      ((s.useFree).setSeq n { q.emit r with ucount := 0, onceRead := false }, none))

/-- QUIET: hands one beat of A quiet cycles. -/
def execUopQuiet (n : Nat) (s : State) : Host.Outcome State Fault Refusal :=
  .next (s.micro n 0x21 fun s k _ q u =>
    let a := (s.uread q u.a).toNat
    let p := s.periodNow n q
    if a = 0 then (s, none)
    else if p = 0 then (s.stopBurst n k 0x209, none)
    else (s.setSeq n { q.emit { kind := .quiet, left := a, beat := a } with period := p, ucount := 0 }, none))

/-- The action that ACT queues (log entry 13): 0 SETTS with A as X, 1 DIR and 2 EDGECMP with A as Z, 3 MARK with A as Y, 4
CAPTURE_ON, 5 CAPTURE_OFF; the other fields are those of the current instruction. -/
def uopAction (q : Seq) (sel a : Nat) : Option SeqAct :=
  match sel with
  | 0 => some (.setts (q.irMod % 4) (a % 32) (a / 32 % 32))
  | 1 => some (.dir (q.irY % 4) (a % 2 ^ 64))
  | 2 => some (.edgecmp (bitOf q.irMod 0) (q.irY % 4) (a % 2 ^ 64))
  | 3 => some (.mark (a % 16))
  | 4 => some .captureOn
  | 5 => some .captureOff
  | _ => none

/-- ACT: queues an action for the next cycle start. -/
def execUopAct (n : Nat) (s : State) : Host.Outcome State Fault Refusal :=
  .next (s.micro n 0x22 fun s k w q u =>
    match uopAction q (u.imm % 8) (s.uread q u.a).toNat with
    | some .captureOn => if w.hasCapture then (s.setSeq n (q.act .captureOn), none) else (s.stopBurst n k 0x20D, none)
    | some a => (s.setSeq n (q.act a), none)
    | none => (s, none))

/-- WPUSH: opens a program window for depth DEPTH + 1 with return address NPC; with no free program window outside a trap it is a
window-state failure (R180). -/
def execWpush (n : Nat) (s : State) : Host.Outcome State Fault Refusal :=
  .next (s.micro n 0x23 fun s k _ q _ =>
    match q.freeSlot with
    | some sl => (s.setSeq n (q.openWin sl (retOf q.nseg q.nidx)), none)
    | none => if q.trap.isNone then (s.lossOfControl n k, none) else (s, none))

/-- WPOP: closes the window of the current depth. At depth 0 nothing is outstanding and nothing closes (log entry 13). -/
def execWpop (n : Nat) (s : State) : Host.Outcome State Fault Refusal :=
  .next (s.microQ n 0x24 fun _ q _ => if q.depth = 0 then q else q.closeWin)

/-- SPILL: writes the window of depth A to spill slot A. -/
def execUopSpill (n : Nat) (s : State) : Host.Outcome State Fault Refusal :=
  .next (s.micro n 0x25 fun s _ _ q u =>
    let d := (s.uread q u.a).toNat
    let (s, q) := s.spill q d
    (s.setSeq n { q with memBusy := true, spilling := some d }, none))

/-- FILL: reads spill slot A into a free window and checks it (R149). -/
def execUopFill (n : Nat) (s : State) : Host.Outcome State Fault Refusal :=
  .next (s.micro n 0x26 fun s k _ q u =>
    let d := (s.uread q u.a).toNat
    if s.poisoned (q.spillAt + 32 * d) 32 then (s.readFailed n k (0x224, s.badLine (q.spillAt + 32 * d) 32), none)
    else match s.spillRead q d, q.freeSlot with
      | some x, some sl => (s.setSeq n { q with wins := Store.put q.wins d { x with slot := some sl }, memBusy := true }, none)
      | some _, none => (s, none)
      | none, _ => (s.fillFailed n k, none))

/-- MEMWAIT: waits for the last SPILL or FILL. -/
def execMemwait (n : Nat) (s : State) : Host.Outcome State Fault Refusal :=
  .next (s.microQ n 0x27 fun _ q _ => { q with memBusy := false, spilling := none })

/-- FAILRD: A ← LFAIL, BFAIL or MATCHED, as IMM[1:0] selects in this order; the fourth code is open: MATCHED of a free value
(log entry 13). A scalar A takes the lowest 64 sites. -/
def execFailrd (n : Nat) (s : State) : Host.Outcome State Fault Refusal :=
  .next (s.micro n 0x28 fun s _ _ q u =>
    let v : Set256 := match u.imm % 4 with
      | 0 => q.lfail | 1 => q.bfail | 2 => q.matchedNow | _ => BitVec.ofNat 256 s.freeVal
    (((s.useFree).setSeq n (q.writeSet u.a v)).refreshSites n, none))

/-- SITEOP: a set operation on A and B, site sets or scalars; the spec names no operations, so the result is a free function of them. -/
def execSiteop (n : Nat) (s : State) : Host.Outcome State Fault Refusal :=
  .next (s.micro n 0x29 fun s _ _ q u =>
    ((s.setSeq n (q.writeSet u.a (Config.siteOp (u.imm % 16) (s.readSet q u.a) (s.readSet q u.b)))).refreshSites n, none))

/-- CRIER: waits for line IRMOD[2:0] under condition IRMOD[4:3], with timeout IRY; it is the wait of a HOLD (R159). -/
def execUopCrier (n : Nat) (s : State) : Host.Outcome State Fault Refusal :=
  .next (s.micro n 0x2A fun s _ _ q _ =>
    (s.enterHold n { q with ucount := 0 } (q.irMod % 8) (bitsOf q.irMod 3 2) q.irY (bitOf q.irMod 5) (q.irZ % 2 ^ 18), none))

/-- LATCH: clears event latch IMM[2:0]. -/
def execUopLatch (n : Nat) (s : State) : Host.Outcome State Fault Refusal :=
  .next (s.micro n 0x2B fun s _ _ q u => ((s.pastDecision q).setSeq n (q.clearLatch (u.imm % 8)), none))

/-- TRAP: enters window 7, whose return address is the return point, at the handler address IMM; in window 7 it is a window-state failure
(R145, R180). -/
def execUopTrap (n : Nat) (s : State) : Host.Outcome State Fault Refusal :=
  .next (s.micro n 0x30 fun s k _ q u =>
    if q.trap.isSome then (s.lossOfControl n k, none)
    else (s.setSeq n { q with trap := some (q.upc + 1), w7 := { ret := q.upc + 1, slot := some 7 } }, some u.imm))

/-- TRAPRET: leaves window 7 and continues after the microword that trapped; outside window 7 it is a window-state failure. -/
def execTrapret (n : Nat) (s : State) : Host.Outcome State Fault Refusal :=
  .next (s.micro n 0x31 fun s k _ q _ =>
    match q.trap with
    | some r => (s.setSeq n { q with trap := none }, some r)
    | none => (s.lossOfControl n k, none))

/-- VOIDB: ends the burst VOID with the cause code IMM. -/
def execVoidb (n : Nat) (s : State) : Host.Outcome State Fault Refusal :=
  .next (s.micro n 0x38 fun s k _ _ u => (s.stopBurst n k u.imm, none))

/-- ENDB: ends the burst as END, with park mode IRMOD[0]. -/
def execEndb (n : Nat) (s : State) : Host.Outcome State Fault Refusal :=
  .next (s.micro n 0x39 fun s k w q _ => (s.finishBurst n k w (!bitOf q.irMod 0), none))

/-- ILLEGAL_UOP: a microword with an unlisted UOP is not executed; loss of control (R175, R180). -/
def execIllegalUop (n : Nat) (s : State) : Host.Outcome State Fault Refusal :=
  .next (s.onSeq n fun k w q =>
    if !engineReady w q ∨ uopListed (decodeUop (s.microword q.upc)).uop then s else s.lossOfControl n k)

/-- ENGINE_WATCHDOG_EXPIRY: 1,024 microwords without an instruction boundary (R180). -/
def execEngineWatchdogExpiry (n : Nat) (s : State) : Host.Outcome State Fault Refusal :=
  .next (s.onSeq n fun k w q => if w.stage ≠ .running ∨ q.ucount < 1024 then s else s.lossOfControl n k)

/-- The content of a spill slot is undefined: free values (R190). -/
def State.openSlot (s : State) (q : Seq) (d : Nat) : State :=
  let b : Bytes := (List.range 32).map fun i => BitVec.ofNat 8 (Config.freeValue (s.free + i))
  { s.useFree 32 with mem := Mem.setBytes s.mem (q.spillAt + 32 * d) b }

/-- MICROWORD_FETCH_ERROR: a corrected error is counted; an uncorrectable one is a memory-corruption fault of the burst. One in the trap handler
during a spill leaves the content of the slot undefined (R180, R190). -/
def execMicrowordFetchError (n : Nat) (corrected : Bool) (s : State) : Host.Outcome State Fault Refusal :=
  if corrected then .next (s.countUp F.BOOT_UCODE_ERR_CORRECTED)
  else .next (s.onSeq n fun k w q =>
    if w.stage ≠ .running then s
    else
      let s := match q.trap, q.spilling with
        | some _, some d => s.openSlot q d
        | _, _ => s
      (s.detect { kind := 6, cause := 0x224, source := 0x0702, works := [k] }).stopBurst n k 0x224)

end Sys2Proof.Machine
end

