-- ==== Sys2Proof/Machine/Ethernet.lean ====
section
/-!
DEFINITION. PTP messages in Ethernet frames: where a message lies, its correctionField and originTimestamp, the checksum of UDP/IPv6
(R494 to R496). The layout of the frames is that of IEEE 802.3, IPv4, IPv6, UDP and IEEE 1588-2019 (log entry 17).
-/

namespace Sys2Proof.Machine

/-- `n` bytes from offset `off` as a big-endian number. -/
def Bytes.be (bs : Bytes) (off : Nat) : Nat → Nat
  | 0 => 0
  | n + 1 => (bs.getD off 0#8).toNat * 256 ^ n + Bytes.be bs (off + 1) n

/-- Write the `n` big-endian bytes of a number at offset `off`. -/
def Bytes.setBe (bs : Bytes) (off v n : Nat) : Bytes := bs.take off ++ (leBytes v n).reverse ++ bs.drop (off + n)

/-- Where a PTP message lies in a frame: transport (0 Layer 2, 1 UDP/IPv4, 2 UDP/IPv6), offsets of the UDP header and of the message. -/
structure PtpAt where
  transport : Nat
  udp : Nat
  msg : Nat
  vlan : Bool
  deriving DecidableEq, Repr

/-- The PTP message of a frame that R494 supports; none for any other frame. -/
def ptpAt (f : Bytes) : Option PtpAt :=
  let vlan := Bytes.be f 12 2 == 0x8100
  let t := if vlan then 16 else 12
  let p := t + 2
  let port (u : Nat) : Bool := Bytes.be f (u + 2) 2 == 319 || Bytes.be f (u + 2) 2 == 320
  let v4 := p + 4 * (Bytes.be f p 1 % 16)
  let found : Option PtpAt :=
    match Bytes.be f t 2 with
    | 0x88F7 => some { transport := 0, udp := p, msg := p, vlan }
    | 0x0800 => if Bytes.be f p 1 / 16 = 4 ∧ Bytes.be f (p + 9) 1 = 17 ∧ port v4 then some { transport := 1, udp := v4, msg := v4 + 8, vlan } else none
    | 0x86DD => if Bytes.be f (p + 6) 1 = 17 ∧ port (p + 40) then some { transport := 2, udp := p + 40, msg := p + 48, vlan } else none
    | _ => none
  found.filter fun a => Bytes.be f (a.msg + 1) 1 % 16 == 2 && decide (Bytes.be f (a.msg + 1) 1 / 16 ≤ 1) && decide (a.msg + 34 ≤ f.length)

/-- messageType: 0 Sync, 1 Delay_Req, 2 Pdelay_Req, 3 Pdelay_Resp, the event messages that a port stamps. -/
def PtpAt.kind (a : PtpAt) (f : Bytes) : Nat := Bytes.be f a.msg 1 % 16
def PtpAt.event (a : PtpAt) (f : Bytes) : Bool := decide (a.kind f ≤ 3) && (a.transport == 0 || Bytes.be f (a.udp + 2) 2 == 319)

/-- Add tu to the correctionField, which counts 2⁻¹⁶ ns (R488). -/
def PtpAt.correct (a : PtpAt) (f : Bytes) (tu : Int) : Bytes :=
  if tu = 0 then f else Bytes.setBe f (a.msg + 8) (unsigned (signed (Bytes.be f (a.msg + 8) 8) 64 + 16 * tu) 64) 8

/-- The ones' complement sum of the 16-bit words of a byte string, an odd last byte padded with 0. -/
def onesSum : Bytes → Nat
  | [] => 0
  | [a] => a.toNat * 256
  | a :: b :: l => a.toNat * 256 + b.toNat + onesSum l

/-- The checksum of a UDP message whose bytes changed from `old` to `new`: 0 over IPv4; over IPv6 the last two bytes of the payload keep
it correct (R496). -/
def PtpAt.mend (a : PtpAt) (old new : Bytes) : Bytes :=
  if a.transport = 1 then Bytes.setBe new (a.udp + 6) 0 2
  else if a.transport = 2 ∧ old ≠ new then
    let len := Bytes.be new (a.udp + 4) 2
    let pad := a.udp + len - 2
    let cut (f : Bytes) : Bytes := (f.drop a.udp).take (len - 2)
    let x := Bytes.be new pad 2
    let swap (v : Nat) : Nat := if len % 2 = 1 then v % 256 * 256 + v / 256 else v
    let w := (swap x + onesSum (cut old) + 65535 * (onesSum (cut new) + 1) - onesSum (cut new)) % 65535
    Bytes.setBe new pad (swap w) 2
  else new

/-- A frame as it is transmitted: delayAsymmetry is taken off the correctionField of Delay_Req and Pdelay_Req; in one-step operation a
Sync carries its transmit stamp, `dt` in device time (R495, R496). -/
def sentFrame (f : Bytes) (asym : Int) (oneStep : Bool) (dt : Nat) : Bytes :=
  match ptpAt f with
  | none => f
  | some a =>
    if !a.event f then f
    else if a.kind f = 1 ∨ a.kind f = 2 then if asym = 0 then f else a.mend f (a.correct f (-asym))
    else if a.kind f = 0 ∧ oneStep then
      let second := 4096000000000
      let g := Bytes.setBe (Bytes.setBe f (a.msg + 34) (dt / second) 6) (a.msg + 40) (dt % second / 4096) 4
      a.mend f (a.correct g (dt % 4096 : Nat))
    else f

/-- A frame as it is received: delayAsymmetry is added to the correctionField of Sync and Pdelay_Resp (R495). -/
def heardFrame (f : Bytes) (asym : Int) : Bytes :=
  match ptpAt f with
  | none => f
  | some a => if a.event f ∧ (a.kind f = 0 ∨ a.kind f = 3) then a.correct f asym else f

end Sys2Proof.Machine
end

