-- ==== Sys2Proof/Machine/HallOps.lean ====
section
/-!
DEFINITION. The hall as one device sees it: routes, messages, joint parts (spec/09_halls.md).
-/

namespace Sys2Proof.Machine

/-! Message types (R248). -/
namespace Msg
def probe := 0x01
def probeReply := 0x02
def advert := 0x03
def time := 0x04
def crierCfg := 0x05
def prepare := 0x08
def vote := 0x09
def commit := 0x0A
def abort := 0x0B
def done := 0x0C
def release := 0x0D
def voidNotice := 0x0E
def linkDown := 0x10
end Msg

/-- This device's ring position, the hall size, hall time now. -/
def State.pos (s : State) : Nat := s.get F.GSL_STRAP_POS
def State.hallSize (s : State) : Nat := s.get F.GSL_HALL_STATUS_SIZE
def State.hallTime (s : State) : Int := (s.fr : Int) + s.corr
/-- The hall's size, before an election that of the cabling (R246). -/
def State.ringSize (s : State) : Nat := if s.hallSize = 0 then Config.hallSize else s.hallSize
def State.gslPort (s : State) (p : Nat) : GslPort := Store.getD s.gsl p {}
def State.setGslPort (s : State) (p : Nat) (v : GslPort) : State := { s with gsl := Store.put s.gsl p v }

/-- A port carries a type of message: its link is in the ring and UP; adverts also cross a link in CAL, since the election comes
before the calibration (R249, R271). -/
def State.carries (s : State) (p mtype : Nat) : Bool :=
  let st := s.get F.GSL_PORTn_STATUS_STATE p
  s.get F.GSL_PORTn_CFG_ROLE p ≤ 1 && !(s.gslPort p).bad && (st == 3 || (st == 2 && mtype == Msg.advert))

/-- The port of a ring role that carries a type of message. -/
def State.ringPort (s : State) (role mtype : Nat) : Option Nat :=
  (List.range 4).find? fun p => s.get F.GSL_PORTn_CFG_ROLE p == role && s.carries p mtype

/-- The links of the way from position `a` to `b` that leaves by DOWN, and of the other way; link `i` joins position `i` to the next. -/
def wayDown (n a b : Nat) : List Nat := (List.range ((b + n - a) % n)).map fun i => (a + i) % n
def wayUp (n a b : Nat) : List Nat := (List.range ((a + n - b) % n)).map fun i => (b + i) % n

/-- The route from `a` to `b` (R255): whether it leaves by DOWN, and its links. -/
def State.gslRoute (s : State) (a b : Nat) : Bool × List Nat :=
  let n := s.ringSize
  let d := wayDown n a b
  let u := wayUp n a b
  let bad (l : List Nat) : Bool := l.any s.linksDown.contains
  if d.length ≤ u.length then (if bad d then (false, u) else (true, d))
  else (if bad u then (true, d) else (false, u))

/-- Put a message in the queue of the ring port of a role; without a link it is lost. -/
def State.enqueueMsg (s : State) (role : Nat) (m : GslMsg) : State :=
  match s.ringPort role m.mtype with
  | some p => s.setGslPort p { s.gslPort p with out := (s.gslPort p).out ++ [m] }
  | none => s

/-- Send a message to a ring position, or to every device (R248, R255). -/
def State.sendMsg (s : State) (mtype dst data arg : Nat) : State :=
  let m : GslMsg := { mtype, src := s.pos, dst, data := data % 2 ^ 64, arg := arg % 2 ^ 12 }
  if dst = 0x3F then (s.enqueueMsg 0 m).enqueueMsg 1 m
  else s.enqueueMsg (if (s.gslRoute s.pos dst).1 then 1 else 0) m

/-! ## The Crier configuration in force (R261, R263) -/

def State.crierEn (s : State) (l : Nat) : Bool := bitOf s.crierNow.en l
def State.crierPos (s : State) (l : Nat) : Nat := s.crierNow.pos.getD l 0
/-- LAT in tu. -/
def State.crierLat (s : State) : Nat := s.crierNow.lat * 4096

/-! ## Joint parts (R264 to R270) -/

def State.joint (s : State) (j : Nat) : Option Joint := Store.get? s.joints j
def State.setJoint (s : State) (j : Nat) (v : Joint) : State := { s with joints := Store.put s.joints j v }
def State.dropJoint (s : State) (j : Nat) : State := { s with joints := Store.del s.joints j }

/-- This device coordinates the joint burst of an order: its ID is the lowest (R264). -/
def State.coordinates (s : State) (w : Work) : Bool := w.participants.head? == some s.devId

/-- Ring position of a participant. -/
def State.posOf (s : State) (id : Nat) : Nat :=
  if id = s.devId then s.pos else match s.peers.find? (·.2.id == id) with | some p => p.1 | none => s.pos

/-- Message to every other participant. -/
def State.sendParts (s : State) (w : Work) (mtype arg : Nat) : State :=
  (w.participants.filter (· != s.devId)).foldl (fun s id => s.sendMsg mtype (s.posOf id) w.jointId arg) s

/-- The links that a joint burst crosses (R264). -/
def State.crossed (s : State) (w : Work) : List Nat :=
  let parts := w.participants.map s.posOf
  let co := s.posOf ((w.participants.head?).getD s.devId)
  let from_ := [co, s.get F.GSL_HALL_STATUS_MASTER_POS] ++ w.jointLines.map s.crierPos
  (from_.flatMap fun a => parts.flatMap fun b => (s.gslRoute a b).2).eraseDups

/-- The link of a ring port: the DOWN port of position p is on link p, the UP port on the one before (R246). -/
def State.portLink (s : State) (p : Nat) : Option Nat :=
  match s.get F.GSL_PORTn_CFG_ROLE p with
  | 0 => some ((s.pos + s.ringSize - 1) % s.ringSize)
  | 1 => some s.pos
  | _ => none

/-- A joint burst holds the link of a port (R274). -/
def State.portHeld (s : State) (p : Nat) : Bool :=
  match s.portLink p with
  | none => false
  | some l => s.works.any fun x => x.2.held && x.2.opcode == Op.burst && x.2.isJoint && (s.crossed x.2).contains l

/-- A part that has not begun to run leaves the exchange REFUSED (R266). -/
def State.refusePart (s : State) (k cause : Nat) : State :=
  match s.work? k with
  | none => s
  | some w => ((s.finalReceipt k Status.refused cause).dropJoint w.jointId).setBit F.TOLL_EVENTS_REFUSED

end Sys2Proof.Machine
end

