-- ==== Sys2Proof/Machine/Tally.lean ====
section
/-!
DEFINITION. The Tally: slots, watches, stamp records and regions, gates, the oven and single-start multi-stop runs
(spec/10_tally_stamping.md).
-/

namespace Sys2Proof.Machine

/-! ## Slots (R279 to R282, R289) -/

def TSlot.arm (x : TSlot) : Nat := F.TALLY_SLOTn_CFG_ARM.get x.cfg
def TSlot.disarm (x : TSlot) : Nat := F.TALLY_SLOTn_CFG_DISARM.get x.cfg
def TSlot.once (x : TSlot) : Bool := F.TALLY_SLOTn_CFG_ONCE.get x.cfg == 1
def TSlot.markers (x : TSlot) : Bool := F.TALLY_SLOTn_CFG_MARKERS.get x.cfg == 1
def TSlot.toGraph (x : TSlot) : Bool := F.TALLY_SLOTn_CFG_TO_GRAPH.get x.cfg == 1
def TSlot.toRegion (x : TSlot) : Bool := F.TALLY_SLOTn_CFG_TO_REGION.get x.cfg == 1
def TSlot.gate (x : TSlot) : Nat := F.TALLY_SLOTn_ARMSEL_GATE.get x.armsel
def TSlot.armLine (x : TSlot) : Nat := F.TALLY_SLOTn_ARMSEL_ARM_LINE.get x.armsel
def TSlot.disarmLine (x : TSlot) : Nat := F.TALLY_SLOTn_ARMSEL_DISARM_LINE.get x.armsel

/-- The slot uses its gate to arm or disarm (R289). -/
def TSlot.usesGate (x : TSlot) (g : Nat) : Bool := x.gate == g && ((decide (1 ≤ x.arm) && decide (x.arm ≤ 4)) || x.disarm == 3)

/-- A transition of a slope is the slot's edge (R279). -/
def TSlot.takes (x : TSlot) (rising : Bool) : Bool :=
  match x.slope with
  | 0 => rising | 1 => !rising | 2 => true | _ => false

/-- The slot as a watch takes it at its admission: copies of its registers (R287). -/
def State.slotCopy (s : State) (n : Nat) : TSlot :=
  { slot := n, cfg := s.rd ⟨.TALLY_SLOTn_CFG, n, 0⟩, armsel := s.rd ⟨.TALLY_SLOTn_ARMSEL, n, 0⟩,
    h := s.get F.TALLY_SLOTn_HOLD_H n, hs := s.get F.TALLY_SLOTn_SUST_HS n, depth := s.get F.TALLY_SLOTn_BURST_B n,
    nstamp := s.get F.TALLY_SLOTn_NSTAMP_NSTAMP n,
    dur := s.get F.TALLY_SLOTn_DUR_0_DUR_LO n + 2 ^ 32 * s.get F.TALLY_SLOTn_DUR_1_DUR_HI n }

/-- The Toll admits a watch: its slots, inputs and units are fixed, and END is converted (R287, R309, R382). -/
def State.admitWatch (s : State) (k : Nat) (w : Work) (units : List Nat) : State :=
  let slots := w.watchSlots.map s.slotCopy
  let ins := (slots.filter fun x => decide (0x200 ≤ x.source) && decide (x.source ≤ 0x207)).map fun x =>
    (x.source - 0x200, s.rd ⟨.TALLY_INn_CFG, x.source - 0x200, 0⟩)
  let arm := w.opcode == Op.tallyArm
  let wt : Watch := { slots, inCfg := ins, units, closeAt := if arm ∧ w.body 32 10 ≠ 0 then some (s.toFree (w.body 32 10)) else none,
                      limit := if arm then w.body 48 8 else 0 }
  let s := { s with watches := Store.put s.watches k wt }
  s.set F.TALLY_MEAS_UNITS_HELD (ofSet (setBits (s.get F.TALLY_MEAS_UNITS_HELD) 16 ++ units) 16)

/-- The close instant of a watch, as far as it is known: the first of its causes (R285). -/
def Watch.endBy (wt : Watch) : Option Tu :=
  match wt.closeAt, wt.limitAt with
  | some a, some b => some (min a b)
  | some a, none => some a
  | none, b => b

/-- The watch is open: its slots count and stamp (R285). -/
def Watch.isOpen (wt : Watch) : Bool := wt.openAt.isSome && !wt.closed

/-- The watch is open at an instant: at or after its open instant and before its close instant. -/
def Watch.openIn (wt : Watch) (t : Tu) : Bool :=
  (match wt.openAt with | some o => decide (o ≤ t) | none => false) && !wt.closed &&
  (match wt.endBy with | some c => decide (t < c) | none => true)

/-! ## Records (R283, R292 to R295) -/

/-- The 16 bytes of a record (R293). -/
def StampRec.bytes (r : StampRec) : Bytes :=
  leBytes (r.time % 2 ^ 80) 10 ++ leBytes r.source 2 ++
  leBytes (ofSet ((if r.rising then [0] else []) ++ (if r.held then [1] else []) ++ (if r.warm then [2] else []) ++
    (if r.first then [3] else []) ++ (if r.marker then [4] else [])) 8) 1 ++ leBytes r.seq 3

/-- A slot of watch `k` produces a record: it enters its Row's concentrator; the record that reaches RECORD_LIMIT fixes the close
instant (R283, R388). -/
def State.produce (s : State) (k slot : Nat) (r : StampRec) : State :=
  let wt := Store.getD s.watches k {}
  let n := wt.records + 1
  { s with
    conc := s.conc ++ [{ row := slot / 32, work := k, slot, stamp := r }]
    watches := Store.put s.watches k
      { wt with records := n, limitAt := if wt.limit ≠ 0 ∧ n = wt.limit then some (r.time + 1) else wt.limitAt } }

/-- A record leaves the concentrator for its region and for the graph tap (R280, R283, R295, R308). -/
def State.storeRecord (s : State) (c : ConcRec) : State :=
  match s.work? c.work, Store.get? s.watches c.work with
  | some w, some wt =>
    match wt.slots.find? (·.slot == c.slot) with
    | none => s
    | some x =>
      let wt := { wt with warmSeen := wt.warmSeen || c.stamp.warm
                          tap := if x.toGraph && !c.stamp.marker then wt.tap ++ [(c.slot, c.stamp)] else wt.tap }
      if !x.toRegion then { s with watches := Store.put s.watches c.work wt }
      else
        let rows := w.watchRows
        let i := wt.regionRecs
        let at_ : Option Nat := if w.watchRing then some (i % rows) else if i < rows then some i else none
        let wt := { wt with regionRecs := i + 1, wrapped := wt.wrapped || (w.watchRing && decide (rows ≤ i)),
                            full := wt.full || (!w.watchRing && decide (rows ≤ i + 1)),
                            notRecorded := wt.notRecorded + (if at_.isNone then 1 else 0) }
        let s := { s with watches := Store.put s.watches c.work wt }
        match at_ with
        | some p => { s with mem := Mem.setBytes s.mem (w.watchRegion + 512 + 16 * p) c.stamp.bytes }
        | none => s
  | _, _ => s

/-! ## What comes to a slot at one instant (R281, R282, R289, R292, R305) -/

/-- Store a slot of watch `k`; its status and its count follow (R282, R307). -/
def State.putSlot (s : State) (k : Nat) (x : TSlot) : State :=
  let wt := Store.getD s.watches k {}
  let s := { s with watches := Store.put s.watches k { wt with slots := wt.slots.map fun (y : TSlot) => if y.slot = x.slot then x else y } }
  ((s.setIf F.TALLY_SLOTn_STATUS_ARMED x.armed x.slot).set F.TALLY_SLOTn_COUNT_0_COUNT_LO x.count x.slot).set
    F.TALLY_SLOTn_COUNT_1_COUNT_HI (x.count / 2 ^ 32) x.slot

/-- The marker of an arm or disarm (R292). -/
def State.marker (s : State) (k : Nat) (x : TSlot) (arm : Bool) (t : Tu) : State :=
  if x.markers then
    s.produce k x.slot { time := t, source := x.source, rising := arm, warm := s.warm, marker := true, seq := x.count % 2 ^ 24 }
  else s

/-- The slot may arm at `t`: OPEN and ONCE arm once; not up to the disarm instant of its last stamp (R289). -/
def TSlot.mayArm (x : TSlot) (t : Tu) : Bool := !(decide (0 < x.arms) && (x.once || x.arm == 0)) && x.barred.all (· < t)

/-- The slot armed at `t`: its credit restarts at B × H_s (R281, R289). -/
def TSlot.armedAt (x : TSlot) (t : Tu) : TSlot :=
  { x with armed := true, arms := x.arms + 1, credit := x.depth * x.hs, tLast := t, tStamp := none, armStamps := 0,
           disarmAt := if x.disarm = 1 then some (t + x.dur) else none }

/-- The stamp decision at an edge `t` (R281): the slot after it, and whether it is stamped. -/
def TSlot.decide_ (x : TSlot) (t : Tu) : TSlot × Bool :=
  let credit := min (x.depth * x.hs) (x.credit + (t - x.tLast))
  let ok := (match x.tStamp with | none => true | some u => decide (x.h ≤ t - u)) && decide (x.hs ≤ credit)
  if ok then ({ x with credit := credit - x.hs, tStamp := some t, tLast := t }, true)
  else ({ x with credit, tLast := t }, false)

/-- An armed slot counts an edge and stamps it or holds it off; the NSTAMP-th stamp disarms it 1 tu later (R281, R282, R289, R293). -/
def State.slotEdge (s : State) (k : Nat) (x : TSlot) (rising : Bool) (t : Tu) : State :=
  let (y, ok) := x.decide_ t
  let y := { y with count := (x.count + 1) % 2 ^ 64 }
  if ok then
    let r : StampRec := { time := t, source := x.source, rising, held := x.held, warm := s.warm, first := x.armStamps == 0, seq := y.count % 2 ^ 24 }
    let y := { y with held := false, armStamps := x.armStamps + 1, stamps := x.stamps + 1 }
    let s := s.produce k x.slot r
    if x.disarm = 2 ∧ y.armStamps = x.nstamp then
      let y := { y with armed := false, barred := some (t + 1) }
      (s.putSlot k y).marker k y false (t + 1)
    else s.putSlot k y
  else (s.putSlot k { y with held := true }).setBit F.TALLY_SLOTn_EVENTS_HELD x.slot

/-- Take back what a slot produced from `t` on. Its records are still in the concentrator, because a record leaves it later than the instant it
carries. -/
def State.unstamp (s : State) (k slot : Nat) (t : Tu) : State :=
  let gone (c : ConcRec) : Bool := c.work == k && c.slot == slot && decide (t ≤ c.stamp.time)
  let n := (s.conc.filter gone).length
  let wt := Store.getD s.watches k {}
  let records := wt.records - n
  { s with conc := s.conc.filter fun c => !gone c
           watches := Store.put s.watches k { wt with records, limitAt := if records < wt.limit then none else wt.limitAt } }

/-- The slot after all that came to it at one instant (R289, R305). An armed slot disarms on a disarm condition, and its edge is then not counted;
a disarmed one arms unless a disarm condition holds too, and then counts the edge. -/
def State.settleSlot (s : State) (k : Nat) (x : TSlot) (e : SlotTie) : State :=
  let counted (s : State) (x : TSlot) : State :=
    match e.edge with
    | some rising => s.slotEdge k x rising e.at_
    | none => s.putSlot k x
  if e.before.armed then
    if e.disarm then
      let y := { x with armed := false, disarmAt := none }
      (s.putSlot k y).marker k y false e.at_
    else counted s x
  else if e.arm && !e.disarm && x.mayArm e.at_ then
    let y := x.armedAt e.at_
    counted ((s.putSlot k y).marker k y true e.at_) y
  else s.putSlot k x

/-- Something comes to a slot of watch `k` at `t`: the instant is settled anew from the slot as it stood before it, so that the order in which
commands of one instant come does not matter (R305). -/
def State.atSlot (s : State) (k n : Nat) (t : Tu) (f : SlotTie → SlotTie) : State :=
  match (Store.getD s.watches k {}).slots.find? (·.slot == n) with
  | none => s
  | some x =>
    let fresh : SlotTie := { at_ := t, before := x.toSlotRun, heldBit := s.bit F.TALLY_SLOTn_EVENTS_HELD n }
    let e := f (match x.tie with | some e => if e.at_ = t then e else fresh | none => fresh)
    let s := s.unstamp k n t
    let s := if e.heldBit then s else s.clrBit F.TALLY_SLOTn_EVENTS_HELD n
    s.settleSlot k { x with toSlotRun := e.before, tie := some e } e

/-- DUR of the armed slots of watch `k` that has elapsed by `t` disarms them, each at its own instant (R289). -/
def State.expireSlots (s : State) (k : Nat) (t : Tu) : State :=
  (Store.getD s.watches k {}).slots.foldl (fun s x =>
    match x.disarmAt with
    | some d => if d ≤ t then s.atSlot k x.slot d fun e => { e with disarm := true } else s
    | none => s) s

/-- The first of the transitions on their way to the slots of a watch that come before `t`. -/
def State.nextEdge (s : State) (wt : Watch) (t : Tu) : Option SrcEdge :=
  (s.srcEdges.filter fun e => decide (e.at_ < t) && wt.slots.any fun x => x.source == e.source).foldl
    (fun (b : Option SrcEdge) e => match b with
      | some b => if e.at_ < b.at_ then some e else some b
      | none => some e) none

/-- A transition reaches the slots of watch `k` that take it, where the watch is open at its instant (R277, R279, R285). -/
def State.takeEdge (s : State) (k : Nat) (e : SrcEdge) : State :=
  let s := { s.expireSlots k e.at_ with srcEdges := s.srcEdges.erase e }
  let wt := Store.getD s.watches k {}
  if wt.openIn e.at_ then
    (wt.slots.filter fun x => x.source == e.source && x.takes e.rising).foldl
      (fun s x => s.atSlot k x.slot e.at_ fun y => { y with edge := some e.rising }) s
  else s

/-- All transitions before `t` reach the slots of an open watch `k`, in time order; `fuel` bounds their number. -/
def State.drainEdges (k : Nat) (t : Tu) : Nat → State → State
  | 0, s => s
  | fuel + 1, s =>
    match s.nextEdge (Store.getD s.watches k {}) t with
    | some e => State.drainEdges k t fuel (s.takeEdge k e)
    | none => s

/-- An open watch is brought up to `t`: the transitions before it, and the DURs that have elapsed. -/
def State.catchUp (s : State) (k : Nat) (t : Tu) : State :=
  if (Store.getD s.watches k {}).isOpen then (State.drainEdges k t s.srcEdges.length s).expireSlots k t else s

/-- Every open watch is brought up to `t`. -/
def State.catchUpAll (s : State) (t : Tu) : State := (Store.keys s.watches).foldl (fun s k => s.catchUp k t) s

/-- A condition comes at `t` to the slots that meet a test, in the watches that are open then. -/
def State.atSlots (s : State) (t : Tu) (p : TSlot → Bool) (f : TSlot → SlotTie → SlotTie) : State :=
  let s := s.catchUpAll t
  s.watches.foldl (fun s e =>
    if e.2.openIn t then (e.2.slots.filter p).foldl (fun s x => s.atSlot e.1 x.slot t (f x)) s else s) s

/-- STAMP_RECORD_WRITE: the oldest record of a Row's concentrator is written, later than the instant it carries (R283). -/
def execStampRecordWrite (r : Nat) (s : State) : Host.Outcome State Fault Refusal :=
  match s.conc.find? (·.row == r) with
  | none => .next s
  | some c =>
    let t := c.stamp.time + 1
    let s := (s.advanceTo t).catchUp c.work t
    match s.conc.find? (·.row == r) with
    | none => .next s
    | some c => .next ({ s with conc := s.conc.erase c }.storeRecord c)

/-! ## Edges (R277, R281) -/

/-- An unclosed watch and its slot of a number. -/
def State.watchedSlot (s : State) (n : Nat) : Option (Nat × Watch × TSlot) :=
  s.watches.findSome? fun e => if e.2.closed then none else (e.2.slots.find? (·.slot == n)).map fun x => (e.1, e.2, x)

/-- A source code of a TALLY_IN input. -/
def isTallyIn (src : Nat) : Bool := decide (0x200 ≤ src) && decide (src ≤ 0x207)

/-- SLOT_EDGE: a transition reaches slot `n`. A TALLY_IN source makes it now, at `t`, with a direction; a comparator or gate made it when its
outcome or level changed (R277, R281, R282, R289). -/
def execSlotEdge (n : Nat) (rising : Bool) (t : Tu) (s : State) : Host.Outcome State Fault Refusal :=
  match s.watchedSlot n with
  | none => .next s
  | some (k, wt, x) =>
    let s := if isTallyIn x.source then (s.advanceTo t).srcEdge x.source rising (s.advanceTo t).fr else s
    match (if wt.isOpen then s.srcEdges.find? (·.source == x.source) else none) with
    | none => .next s
    | some e => .next (((s.advanceTo e.at_).catchUp k e.at_).takeEdge k e)

/-! ## Arming (R289 to R292) -/

/-- SLOT_DISARM_TIMER: DUR of slot `n` elapses (R289). -/
def execSlotDisarmTimer (n : Nat) (s : State) : Host.Outcome State Fault Refusal :=
  match s.watchedSlot n with
  | none => .next s
  | some (k, wt, x) =>
    match x.disarmAt with
    | none => .next s
    | some d => if wt.endBy.any (· ≤ d) then .next s else .next ((s.advanceTo d).catchUp k d)

/-- What an accepted gate transition is to a slot: an arm or a disarm condition, or neither (R289). -/
def TSlot.onGate (x : TSlot) (rising : Bool) (e : SlotTie) : SlotTie :=
  match x.arm with
  | 1 => if rising then { e with arm := true } else { e with disarm := true }
  | 2 => if rising then { e with disarm := true } else { e with arm := true }
  | 3 => if !rising then e else if e.before.armed then { e with disarm := e.disarm || x.disarm == 3 } else { e with arm := true }
  | 4 => if rising then e else if e.before.armed then { e with disarm := e.disarm || x.disarm == 3 } else { e with arm := true }
  | _ => e

/-- A gate transition is accepted at `t` (R290). -/
def State.acceptGate (s : State) (g : Nat) (rising : Bool) (t : Tu) : State :=
  let s := { s with gates := Store.put s.gates g { level := (Store.getD s.gates g {}).level, last := some t } }
  let lv := setBits (s.get F.TALLY_STATUS_GATE_LEVEL) 4
  let s := s.set F.TALLY_STATUS_GATE_LEVEL (ofSet (if rising then g :: lv else lv.filter (· != g)) 4)
  s.atSlots t (·.usesGate g) fun x => x.onGate rising

/-- The accepted level of a gate. -/
def State.gateLevel (s : State) (g : Nat) : Bool := bitOf (s.get F.TALLY_STATUS_GATE_LEVEL) g

/-- The event of an accepted gate change leaves for the router (R454): source 0x408 + g. -/
def State.gateEvent (s : State) (g : Nat) (rising : Bool) (t : Tu) : State := s.raise (0x408 + g) (t + 98304) rising

/-- TGATE_TRANSITION: gate `g` changes to a level at `t`, which is a transition of the source; it is accepted, or refused with GATE_FAST within
1 µs of the last accepted transition (R277, R290). -/
def execTgateTransition (g : Nat) (level : Bool) (t : Tu) (s : State) : Host.Outcome State Fault Refusal :=
  if 4 ≤ g then .next s
  else
    let s := s.advanceTo t
    let t := s.fr
    let gt := Store.getD s.gates g {}
    if gt.level = level then .next s
    else
      let s := { s with gates := Store.put s.gates g { gt with level } }.srcEdge (0x210 + g) level t
      let early := match gt.last with | some l => decide (t < l + 4096000) | none => false
      if early then
        let s := s.set F.TALLY_EVENTS_GATE_FAST (ofSet (g :: setBits (s.get F.TALLY_EVENTS_GATE_FAST) 4) 4)
        .next { s with watches := s.watches.map fun e =>
          (e.1, if e.2.openIn t && e.2.slots.any (·.usesGate g) then { e.2 with gateFast := true } else e.2) }
      else if s.gateLevel g = level then .next s
      else .next ((s.acceptGate g level t).gateEvent g level t)

/-- GATE_SETTLE_ACCEPT: 1 µs after the last accepted transition, a gate level that differs from the accepted one is accepted (R290). -/
def execGateSettleAccept (g : Nat) (s : State) : Host.Outcome State Fault Refusal :=
  let gt := Store.getD s.gates g {}
  match gt.last with
  | none => .next s
  | some l =>
    if 4 ≤ g ∨ gt.level = s.gateLevel g then .next s
    else
      let s := s.advanceTo (l + 4096000)
      .next ((s.acceptGate g gt.level (l + 4096000)).gateEvent g gt.level (l + 4096000))

/-- An event arrives on Tally arm line `l` at `t` (R289, R291). -/
def State.armLineEvent (s : State) (l : Nat) (t : Tu) : State :=
  s.atSlots t (fun x => (x.disarm == 4 && x.disarmLine == l) || (x.arm == 5 && x.armLine == l)) fun x e =>
    { e with disarm := e.disarm || (x.disarm == 4 && x.disarmLine == l), arm := e.arm || (x.arm == 5 && x.armLine == l) }

/-! ## Watches (R285, R378, R388) -/

/-- TALLY_ARM: offered to the Toll (R388); WATCH_OPEN opens its watch. -/
def execTallyArm (k : Nat) (s : State) : Host.Outcome State Fault Refusal :=
  .next (s.tollOrder k Op.tallyArm fun _ => s)

/-- TALLY_DISARM: closes the open watch of its stall whose TALLY_ARM carried ARM_SEQ, or completes with NOT_FOUND (R388). -/
def execTallyDisarm (k : Nat) (s : State) : Host.Outcome State Fault Refusal :=
  .next (s.onWork k Op.tallyDisarm fun w =>
    if w.stage ≠ .routed then s
    else
      let s := s.catchUpAll s.fr
      match s.works.find? fun p => p.2.opcode == Op.tallyArm && p.2.stall == w.stall && p.2.seq == w.body 32 4 &&
          p.2.stage == .running && (Store.getD s.watches p.1 {}).openIn s.fr with
      | none => s.finalReceipt k Status.complete 0 (leBytes 1 1)
      | some (j, _) => (s.closeWatchBy j s.fr).finalReceipt k Status.complete)

/-- The open instant is an arm condition of the slot (R289). -/
def State.armsAtOpen (s : State) (x : TSlot) : Bool :=
  x.arm == 0 || (x.arm == 1 && s.gateLevel x.gate) || (x.arm == 2 && !s.gateLevel x.gate)

/-- A watch opens at `t`: its slots' counts start at 0, the slots whose arm condition holds arm, the RUNNING header is
written; transitions before it are lost to its slots (R282, R285, R289, R295). -/
def State.openWatch (s : State) (k : Nat) (w : Work) (t : Tu) : State :=
  let wt := Store.getD s.watches k {}
  let s := { s with watches := Store.put s.watches k { wt with openAt := some t, closeAt := wt.closeAt.map (max t) }
                    srcEdges := s.srcEdges.filter fun e => decide (t ≤ e.at_) || !(wt.slots.any fun x => x.source == e.source) }
  let s := wt.slots.foldl (fun s x =>
    let s := (s.putSlot k { x with toSlotRun := ({} : SlotRun), tie := none }).setBit F.TALLY_SLOTn_STATUS_IN_WATCH x.slot
    s.atSlot k x.slot t fun e => { e with arm := s.armsAtOpen x }) s
  (s.writeStreamHeader k w 0).catchUp k (t + 1)

/-- WATCH_OPEN: the open instant of an admitted TALLY_ARM, or of a running burst's watch, arrives (R285, R378, R388). -/
def execWatchOpen (k : Nat) (s : State) : Host.Outcome State Fault Refusal :=
  match s.work? k, Store.get? s.watches k with
  | some w, some wt =>
    if wt.openAt.isSome then .next s
    else if w.opcode = Op.tallyArm ∧ w.stage = .window then
      let s := (s.advanceTo w.s0).modWork k fun w => { w with stage := .running }
      .next (s.openWatch k w w.s0)
    else if w.opcode = Op.burst ∧ w.stage = .running then .next (s.openWatch k w w.s0)
    else .next s
  | _, _ => .next s

/-- The close instant of a watch that is to close: that of a void order, the burst's end, or the earliest of R285. -/
def Watch.closeInstant (wt : Watch) (w : Work) : Option Tu :=
  if w.opcode = Op.burst then (if w.stage = .closing ∨ w.stage = .stopped then some (wt.closeAt.getD w.endAt) else none)
  else if w.stage = .stopped ∨ w.stage = .running then wt.endBy else none

/-- A watch closes at `t`: armed slots disarm, the records in the concentrators are written, then the final header (R283, R285,
R289, R295). -/
def State.closeWatch (s : State) (k : Nat) (w : Work) (t : Tu) : State :=
  let s := s.catchUp k t
  let wt := Store.getD s.watches k {}
  let s := wt.slots.foldl (fun s x =>
    (s.atSlot k x.slot t fun e => { e with disarm := true }).clrBit F.TALLY_SLOTn_STATUS_IN_WATCH x.slot) s
  let s := { s with srcEdges := s.srcEdges.filter fun e => !(wt.slots.any fun x => x.source == e.source) }
  let s := (s.conc.filter (·.work == k)).foldl State.storeRecord { s with conc := s.conc.filter (·.work != k) }
  let wt := Store.getD s.watches k ({} : Watch)
  let s := { s with watches := Store.put s.watches k { wt with closed := true, closeAt := some t } }
  if wt.openAt.isSome then s.writeStreamHeader k w w.endStatus else s

/-- WATCH_CLOSE: the watch of an order reaches its close instant; its final header is written, and its receipt where no results are
due (R285, R288, R324). -/
def execWatchClose (k : Nat) (s : State) : Host.Outcome State Fault Refusal :=
  match s.work? k, Store.get? s.watches k with
  | some w, some wt =>
    if wt.closed then .next s
    else match wt.closeInstant w with
      | none => .next s
      | some t => let s := s.advanceTo t; .next ((s.closeWatch k w t).endWatch k w)
  | _, _ => .next s

/-! ## The oscillator and its oven (R297 to R301) -/

/-- OCXO_APPEAR: a 10 MHz signal appears on OCXO_IN; a candidate drives REFOUT (R297). -/
def execOcxoAppear (s : State) : Host.Outcome State Fault Refusal :=
  if s.bit F.GSL_STRAP_CANDIDATE then .next ((s.setBit F.TALLY_STATUS_OCXO_PRESENT).setBit F.TALLY_STATUS_REFOUT_ON) else .next s

/-- OCXO_LOSS: the signal is lost and REFOUT stops (R297). -/
def execOcxoLoss (s : State) : Host.Outcome State Fault Refusal :=
  .next ((s.clrBit F.TALLY_STATUS_OCXO_PRESENT).clrBit F.TALLY_STATUS_REFOUT_ON)

/-- Bring the WARM condition up to date (R301): the hall is READY (state 3) and the master's oven is. `masterOven` is what this
device knows of the master's OVEN_READY (R300). A change acts on the records from this instant on. -/
def State.refreshWarm (s : State) : State :=
  let oven := if s.bit F.GSL_HALL_STATUS_IS_MASTER then s.bit F.TALLY_STATUS_OVEN_READY else s.masterOven
  let b := !(s.get F.GSL_HALL_STATUS_STATE == 3 && oven)
  if b = s.warm then s
  else
    let s := (s.catchUpAll s.fr).setIf F.TALLY_STATUS_WARM b
    { s with conc := s.conc.map fun c => if c.stamp.time = s.fr then { c with stamp := { c.stamp with warm := b } } else c }

/-- OVEN_READY changes. -/
def State.setOvenReady (s : State) (b : Bool) : State := (s.setIf F.TALLY_STATUS_OVEN_READY b).refreshWarm

/-- In-band time in 10 ms readings, and its whole seconds (R299, R307). -/
def State.setInBand (s : State) (n : Nat) : State :=
  { s.set F.TALLY_OVEN_INBAND_SECONDS (min (n / 100) 255) with oven := { s.oven with inBand := n } }

/-- The error of the oven controller (R299). -/
def State.ovenError (s : State) (reading : Nat) : Int :=
  if s.bit F.TALLY_OVEN_CTRL_POL then (reading : Int) - s.get F.TALLY_OVEN_SET_SET else (s.get F.TALLY_OVEN_SET_SET : Int) - reading

/-- The duty loop of R299; its divisions round down. -/
def State.ovenLoop (s : State) (e : Int) : State :=
  let i := s.oven.i
  let u : Int := ((s.get F.TALLY_OVEN_GAIN_KP : Int) * e).fdiv 16 + ((s.get F.TALLY_OVEN_GAIN_KI : Int) * i).fdiv 256
  let top : Int := s.get F.TALLY_OVEN_CTRL_HEAT_MAX
  if top < u then s.set F.TALLY_OVEN_STATUS_DUTY top.toNat
  else if u < 0 then s.set F.TALLY_OVEN_STATUS_DUTY 0
  else { s.set F.TALLY_OVEN_STATUS_DUTY u.toNat with oven := { s.oven with i := i + e } }

/-- OVEN_READING: a 10 ms thermistor reading reaches the controller (R298, R299). -/
def execOvenReading (reading : Nat) (s : State) : Host.Outcome State Fault Refusal :=
  let reading := reading % 2 ^ 16
  let s := { s.set F.TALLY_OVEN_STATUS_READING reading with oven := { s.oven with last := s.fr } }
  let e := s.ovenError reading
  let band : Int := s.get F.TALLY_OVEN_BAND_BAND
  match s.get F.TALLY_OVEN_STATUS_STATE with
  | 1 =>
    let s := s.ovenLoop e
    if e.natAbs ≤ band then
      let s := s.setInBand (s.oven.inBand + 1)
      if 12000 ≤ s.oven.inBand then .next (((s.set F.TALLY_OVEN_STATUS_STATE 2).setBit F.TALLY_EVENTS_OVEN_READY_SET).setOvenReady true)
      else .next s
    else .next (s.setInBand 0)
  | 2 =>
    let s := s.ovenLoop e
    if 2 * band < e.natAbs then
      .next ((((s.set F.TALLY_OVEN_STATUS_STATE 1).setBit F.TALLY_EVENTS_OVEN_LOST).setInBand 0).setOvenReady false)
    else if e.natAbs ≤ band then .next (s.setInBand (s.oven.inBand + 1))
    else .next s
  | 3 => .next ((s.set F.TALLY_OVEN_STATUS_STATE 1).setInBand 0)
  | _ => .next s

/-- OVEN_HOLD: no reading for 100 ms; the duty is held (R299). -/
def execOvenHold (s : State) : Host.Outcome State Fault Refusal :=
  if s.get F.TALLY_OVEN_STATUS_STATE = 1 ∨ s.get F.TALLY_OVEN_STATUS_STATE = 2 then
    .next (((s.set F.TALLY_OVEN_STATUS_STATE 3).setBit F.TALLY_EVENTS_OVEN_HOLD).setOvenReady false)
  else .next s

/-- A write of TALLY_OVEN_CTRL (R299, R307): ENABLE starts and stops the controller. -/
def State.ovenCtrlWrite (s : State) (v : Word) : State :=
  let was := s.bit F.TALLY_OVEN_CTRL_ENABLE
  let s := s.wr ⟨.TALLY_OVEN_CTRL, 0, 0⟩ (v &&& 0x80001FFF#32)
  let now := s.bit F.TALLY_OVEN_CTRL_ENABLE
  if now && !was then
    { (s.set F.TALLY_OVEN_STATUS_STATE 1).setInBand 0 with oven := { s.oven with i := 0, inBand := 0 } }
  else if was && !now then ((s.set F.TALLY_OVEN_STATUS_STATE 0).set F.TALLY_OVEN_STATUS_DUTY 0).setOvenReady false
  else s

/-- OVEN_ENABLE: TALLY_OVEN_CTRL.ENABLE is set (R299). -/
def execOvenEnable (s : State) : Host.Outcome State Fault Refusal :=
  if s.booted then .next (s.ovenCtrlWrite (s.rd ⟨.TALLY_OVEN_CTRL, 0, 0⟩ ||| 0x80000000#32)) else .next s

/-- OVEN_DISABLE: TALLY_OVEN_CTRL.ENABLE is cleared (R299). -/
def execOvenDisable (s : State) : Host.Outcome State Fault Refusal :=
  if s.booted then .next (s.ovenCtrlWrite (s.rd ⟨.TALLY_OVEN_CTRL, 0, 0⟩ &&& 0x7FFFFFFF#32)) else .next s

/-! ## Single-start multi-stop (R302 to R304) -/

/-- An open watch holds a slot on a Row (R304). -/
def State.watchOnRow (s : State) (r : Nat) : Bool := s.watches.any fun e => !e.2.closed && e.2.slots.any fun x => x.slot / 32 == r

/-- The runs of EDGE_LIN on a Row (R538, steps 3 and 4): from the first channel's edge to the other 63 channels, and from the second channel's to
the first; 1,024 repeats. -/
def edgeLinRun (row : Nat) (r : SsmsRun) : Bool :=
  let stops := r.stops.map fun p => p.1 % 256
  r.repeats == 1024 &&
  ((r.start == .channel (64 * row) && stops == (List.range 63).map (64 * row + 1 + ·)) ||
    (r.start == .channel (64 * row + 1) && stops == [64 * row]))

/-- Boot firmware runs the steps of which step 6 holds the detector self-tests (R604); the model takes them as one command (log entry 40). -/
def State.bootRuns (s : State) : Bool :=
  !s.booted && s.inReset.isNone && decide (2 ≤ s.get F.BOOT_STATUS_STAGE) && decide (s.get F.BOOT_STATUS_STAGE ≤ 7)

/-- A built-in procedure that uses the mode runs on a Row, and asks for such a run: EDGE_LIN, the detector self-tests of boot, or the
re-measurement after a drift detection on the Row (R302, R538, R604). -/
def State.ssmsProcedure (s : State) (row : Nat) (r : SsmsRun) : Bool :=
  (s.edgeLinOn row && edgeLinRun row r) || (!s.edgeLinOn row && (s.bootRuns || s.driftRows.contains row))

/-- The start and the stops lie on the Row; the stops are 1 to 64 comparator sources (R302). -/
def SsmsRun.onRow (r : SsmsRun) (row : Nat) : Bool :=
  (match r.start with
    | .channel c => decide (c < 256) && c / 64 == row
    | .input i _ => decide (i < 8) && i / 2 == row) &&
  decide (1 ≤ r.stops.length) && decide (r.stops.length ≤ 64) && decide (1 ≤ r.repeats) && decide (r.repeats ≤ 65535) &&
  r.stops.all fun p => decide (p.1 < 512) && p.1 % 256 / 64 == row

/-- SSMS_RUN: a built-in procedure starts a run on a Row, unless an open watch holds a slot there (R302, R304). TALLY_SSMS_STATUS shows the run
that started last; the repeats completed while it runs are a free value up to its number, because no command marks one (DESIGN CHOICE, log
entry 40). -/
def execSsmsRun (row : Nat) (stops : SsmsEdges) (repeats addr : Nat) (s : State) : Host.Outcome State Fault Refusal :=
  let r : SsmsRun := { start := stops.start, stops := stops.stops, repeats, addr }
  if 4 ≤ row ∨ !r.onRow row ∨ !s.ssmsProcedure row r ∨ s.watchOnRow row ∨ (Store.get? s.ssms row).isSome then .next s
  else
    let s := { s.useFree 1 with ssms := Store.put s.ssms row r }
    let s := s.set F.TALLY_STATUS_SSMS_BUSY (ofSet (row :: setBits (s.get F.TALLY_STATUS_SSMS_BUSY) 4) 4)
    .next ((((((s.set F.TALLY_SSMS_STATUS_REPEATS (Config.freeValue (s.free - 1) % (repeats + 1))).set F.TALLY_SSMS_STATUS_STOPS stops.stops.length).set
      F.TALLY_SSMS_STATUS_ROW row).clrBit F.TALLY_SSMS_STATUS_DONE).setBit F.TALLY_SSMS_STATUS_BUSY))

/-- Round a quotient to the nearest integer, ties away from zero (R312). -/
def divNear (a : Int) (b : Nat) : Int :=
  if b = 0 then 0 else if a < 0 then -(((2 * a.natAbs + b) / (2 * b) : Nat) : Int) else (((2 * a.natAbs + b) / (2 * b) : Nat) : Int)

/-- The interval of a stop in a repeat: its first transition of its slope at or after the start, up to 2²⁴ tu (R302). -/
def repInterval (p : SsmsRep) (src : Nat) (rising : Bool) : Option Nat :=
  let ts := (p.seen.filter fun e => e.1 == src && e.2.1 == rising && decide (p.start ≤ e.2.2)).map fun e => e.2.2 - p.start
  (ts.foldl (fun (b : Option Nat) x => some (match b with | some y => min x y | none => x)) none).filter (· ≤ 2 ^ 24)

/-- The mean interval of a stop in 2⁻⁸ tu, and the repeats in which it was seen; none gives a mean of 0 (R303). -/
def ssmsMean (reps : List SsmsRep) (stop : Nat × Bool) : Int × Nat :=
  let xs := reps.filterMap fun p => repInterval p stop.1 stop.2
  (divNear ((256 * xs.sum : Nat) : Int) xs.length, xs.length)

/-- The result block of a run (R303). -/
def ssmsBlock (row : Nat) (r : SsmsRun) (reps : List SsmsRep) : Bytes :=
  leBytes 0x53534D31 4 ++ leBytes 1 2 ++ leBytes row 1 ++ leBytes r.stops.length 1 ++ leBytes r.repeats 2 ++
  leBytes (((reps.head?).map SsmsRep.start).getD 0 % 2 ^ 80) 10 ++ leBytes 0 44 ++
  r.stops.flatMap fun p => let m := ssmsMean reps p; leBytes (unsigned m.1 48) 6 ++ leBytes m.2 2

/-- What a run of EDGE_LIN measured joins the procedure's means; its runs come in the order of their fine codes (R538). -/
def State.noteMeans (s : State) (row : Nat) (r : SsmsRun) (reps : List SsmsRep) : State :=
  match s.calRun with
  | some c =>
    if s.edgeLinOn row then
      { s with calRun := some { c with means := r.stops.foldl (fun (m : Store Nat (List (Int × Nat))) p =>
        Store.put m (p.1 % 256) (Store.getD m (p.1 % 256) [] ++ [ssmsMean reps p])) c.means } }
    else s
  | none => s

/-- SSMS_RUN_DONE: the run on a Row has made all its repeats, `reps` in order, and writes its result block (R302, R303). A re-measurement after a
drift detection is over then. -/
def execSsmsRunDone (row : Nat) (reps : List SsmsRep) (s : State) : Host.Outcome State Fault Refusal :=
  match Store.get? s.ssms row with
  | none => .next s
  | some r =>
    if reps.length ≠ r.repeats then .next s
    else
      let s := { (s.noteMeans row r reps).ssmsStop [row] with
        mem := Mem.setBytes s.mem r.addr (ssmsBlock row r reps), driftRows := if s.edgeLinOn row then s.driftRows else s.driftRows.erase row }
      .next (if s.get F.TALLY_SSMS_STATUS_ROW = row then
        (s.set F.TALLY_SSMS_STATUS_REPEATS r.repeats).setBit F.TALLY_SSMS_STATUS_DONE else s)

end Sys2Proof.Machine
end

