-- ==== Sys2Proof/Machine/Statistics.lean ====
section
/-!
DEFINITION. The Tally's measurements: samples, statistics and result blocks (spec/11_tally_statistics.md). A sample is an integer in
units of 2⁻²⁴ of its base unit (R312).
-/

namespace Sys2Proof.Machine

/-! ## Descriptors (R308) -/

/-- A measurement descriptor. -/
structure Meas where
  op : Nat
  stats : Nat
  a : Nat
  b : Nat
  gate : Nat
  low : Int
  width : Nat
  bins : Nat
  result : Nat
  hist : Nat
  deriving DecidableEq, Repr

/-- Descriptor `i` of a list. -/
def Meas.ofBytes (bs : Bytes) (i : Nat) : Meas :=
  let g (o n : Nat) : Nat := Bytes.le bs (64 * i + o) n
  { op := g 0 1, stats := g 1 1, a := g 2 2, b := g 4 2, gate := g 8 8, low := signed (g 16 16) 128, width := g 32 8, bins := g 40 4,
    result := g 48 8, hist := g 56 8 }

def Meas.list (bs : Bytes) (n : Nat) : List Meas := (List.range n).map (Meas.ofBytes bs)

/-- The descriptors of a watch. -/
def Work.measures (w : Work) : List Meas := Meas.list w.meas w.measCount

def Meas.mean (m : Meas) : Bool := bitOf m.stats 0
def Meas.stddev (m : Meas) : Bool := bitOf m.stats 1
def Meas.minmax (m : Meas) : Bool := bitOf m.stats 2
def Meas.histo (m : Meas) : Bool := bitOf m.stats 3
def Meas.adev (m : Meas) : Bool := bitOf m.stats 4
/-- Operations with a gate; operations on two slots (R313). -/
def Meas.gated (m : Meas) : Bool := decide (1 ≤ m.op) && decide (m.op ≤ 3)
def Meas.paired (m : Meas) : Bool := m.op == 4 || m.op == 5 || m.op == 7
/-- The slots that a measurement reads. -/
def Meas.slots (m : Meas) : List Nat := if m.op = 8 then [] else if m.paired then [m.a, m.b] else [m.a]

/-- A descriptor keeps to its own tables (R310); `raw` is its 64 bytes. -/
def Meas.formOk (m : Meas) (raw : Bytes) : Bool :=
  decide (1 ≤ m.op) && decide (m.op ≤ 8) && decide (m.stats < 32) && Bytes.le raw 6 2 == 0 && Bytes.le raw 44 4 == 0 &&
  (if m.op = 8 then decide (m.a ≤ 255) else decide (m.a ≤ 127)) &&
  (if m.paired then decide (m.b ≤ 127) else m.b == 0xFFFF) &&
  (if m.gated then decide (4096000 ≤ m.gate) && decide (m.gate ≤ 4096000000000000) else m.gate == 0) &&
  m.low == signed (unsigned m.low 104) 104 && decide (1 ≤ m.width) &&
  (if m.histo then decide (1 ≤ m.bins) && decide (m.bins ≤ 65536) && m.hist % 64 == 0 else m.bins == 0 && m.hist == 0) &&
  m.result % 64 == 0 && (!m.adev || m.op == 1)

/-! ## Records and samples (R313 to R316) -/

/-- A record with its reconstructed count (R313). -/
structure MRec where
  t : Tu
  c : Nat
  first : Bool
  rising : Bool
  deriving DecidableEq, Repr

/-- Reconstruct the counts of a slot's records (R313). -/
def mrecs (prev : Option (Nat × Nat)) : List StampRec → List MRec
  | [] => []
  | r :: rs =>
    let c := match prev with
      | none => r.seq
      | some (c, q) => c + (r.seq + 2 ^ 24 - q) % 2 ^ 24
    { t := r.time, c, first := r.first, rising := r.rising } :: mrecs (some (c, r.seq)) rs

/-- What a gate or record gives. -/
inductive Sample where
  | val (x : Int) (first last : Tu)
  | missing
  | skipped
  deriving DecidableEq, Repr

/-- The first record at or after an instant, with its position. -/
def firstAt (rs : List MRec) (t : Tu) : Option (Nat × MRec) := (rs.zipIdx.find? fun p => decide (t ≤ p.1.t)).map fun p => (p.2, p.1)

/-- Frequency over a span, in sample units (R315, R323). -/
def freqOf (dc dt : Nat) : Int := divNear ((dc * 4096000000000 * 2 ^ 24 : Nat) : Int) dt

/-- Gate `i` from its boundary stamps (R314, R315). -/
def gateSample (op : Nat) (rs : List MRec) (p q : Nat × MRec) : Sample :=
  let dc := q.2.c - p.2.c
  let dt := q.2.t - p.2.t
  if p.1 = q.1 then .missing
  else if (rs.zipIdx.any fun r => decide (p.1 < r.2) && decide (r.2 ≤ q.1) && r.1.first) then .skipped
  else if op ≠ 3 ∧ dc = 0 then .missing
  else .val (if op = 1 then freqOf dc dt else if op = 2 then divNear ((dt * 2 ^ 24 : Nat) : Int) dc else ((dc * 2 ^ 24 : Nat) : Int)) p.2.t q.2.t

/-- The boundary stamps e_0 to e_n of the gates whose end occurs before the close (R314). -/
def boundaries (rs : List MRec) (gate : Nat) : List (Nat × MRec) :=
  match rs, rs.getLast? with
  | r :: _, some l => (List.range (if gate = 0 then 0 else (l.t - r.t) / gate + 1)).filterMap fun i => firstAt rs (r.t + i * gate)
  | _, _ => []

/-- Apply `f` to each adjacent pair. -/
def adjacent {α β : Type} (f : α → α → β) : List α → List β
  | a :: b :: t => f a b :: adjacent f (b :: t)
  | _ => []

/-- Samples of INTERVAL, RISE and PHASE (R316); `close`: the watch's close instant. -/
def pairSamples (op : Nat) (bs : List MRec) (close : Tu) : List MRec → List Sample
  | [] => []
  | a :: rest =>
    let next := rest.head?
    let lim := match next with | some n => n.t | none => close
    let x := match bs.find? fun b => decide (a.t ≤ b.t) && decide (b.t < lim) with
      | none => .missing
      | some b =>
        if op = 5 then
          match next with
          | some n => if n.c = a.c + 1 then .val (divNear (((b.t - a.t) * 2 ^ 24 : Nat) : Int) (n.t - a.t)) a.t n.t else .skipped
          | none => .skipped
        else .val (((b.t - a.t) * 2 ^ 24 : Nat) : Int) a.t b.t
    x :: pairSamples op bs close rest

/-- Samples of DUTY (R316). -/
def dutySamples : List MRec → List Sample
  | [] => []
  | r :: rest =>
    let more := dutySamples rest
    if !r.rising ∨ !(rest.any fun x => !x.rising) ∨ !(rest.any (·.rising)) then more
    else match rest with
      | f :: r' :: _ =>
        (if !f.rising && r'.rising && f.c == r.c + 1 && r'.c == f.c + 1 && !f.first && !r'.first then
          .val (divNear (((f.t - r.t) * 2 ^ 24 : Nat) : Int) (r'.t - r.t)) r.t r'.t
        else .skipped) :: more
      | _ => .skipped :: more

/-- Samples of EC_OFFSET from the records of a channel (table *Measurement operations*). -/
def ecSamples (ec : List (Nat × Option (Int × Tu) × Bool)) (c : Nat) : List Sample :=
  (ec.filter fun p => p.1 == c).map fun p => match p.2.1 with
    | some (o, t) => .val (o * 2 ^ 24) t t
    | none => .missing

/-! ## Accumulators (R318 to R321) -/

/-- The accumulators of a measurement. -/
structure Acc where
  n : Nat := 0
  x1 : Int := 0
  s : Int := 0
  sOv : Bool := false
  q : Nat := 0
  qOv : Bool := false
  mn : Int := 0
  mx : Int := 0
  deriving DecidableEq, Repr

/-- Add a square to a 192-bit accumulator (R319, R320): the sum, and whether it has overflowed. -/
def addSquare (q : Nat) (ov : Bool) (d : Int) : Nat × Bool :=
  if ov then (q, true)
  else if 2 ^ 168 ≤ d.natAbs ^ 2 ∨ 2 ^ 192 ≤ q + d.natAbs ^ 2 then (2 ^ 192 - 1, true)
  else (q + d.natAbs ^ 2, false)

/-- One sample enters the accumulators (R318 to R320). -/
def Acc.add (a : Acc) (x : Int) : Acc :=
  if a.n = 0 then { n := 1, x1 := x, mn := x, mx := x }
  else
    let d := x - a.x1
    let t := a.s + d
    let (s, sOv) := if a.sOv then (a.s, true) else if 2 ^ 127 ≤ t then (2 ^ 127 - 1, true) else if t < -(2 ^ 127) then (-(2 ^ 127), true)
      else (t, false)
    let (q, qOv) := addSquare a.q a.qOv d
    { a with n := a.n + 1, s, sOv, q, qOv, mn := min a.mn x, mx := max a.mx x }

/-- Integer square root by bits, from bit `k` down. -/
def isqrtAux (n : Nat) : Nat → Nat → Nat
  | 0, r => r
  | k + 1, r => let t := r + 2 ^ k; isqrtAux n k (if t * t ≤ n then t else r)

/-- ⌊√n⌋ for n below 2^512. -/
def isqrt (n : Nat) : Nat := isqrtAux n 256 0

/-- √(a/b) rounded to the nearest integer. -/
def sqrtNear (a b : Nat) : Nat :=
  if b = 0 then 0 else let r := isqrt (a / b); if b * (2 * r + 1) ^ 2 ≤ 4 * a then r + 1 else r

def Acc.meanVal (a : Acc) : Int := divNear (a.x1 * a.n + a.s) a.n
def Acc.stddevVal (a : Acc) : Nat := sqrtNear (a.n * a.q - a.s.natAbs ^ 2) (a.n * (a.n - 1))

/-- Bin counts, underflow and overflow (R322). -/
def histogram (m : Meas) (xs : List Int) : List Nat × Nat × Nat :=
  let idx := xs.map fun x => (x - m.low).fdiv m.width
  ((List.range m.bins).map fun (b : Nat) => (idx.filter fun i => i == Int.ofNat b).length,
   (idx.filter (· < 0)).length, (idx.filter ((m.bins : Int) ≤ ·)).length)

/-! ## Allan deviation (R323) -/

/-- Block frequencies of octave `j`: none where a gate of the block is MISSING or SKIPPED. -/
def blockFreqs (bnd : List (Nat × MRec)) (ok : List Bool) (j : Nat) : List (Option Int) :=
  let n := 2 ^ j
  (List.range (ok.length / n)).map fun k =>
    if (ok.drop (k * n)).take n |>.all id then
      match bnd[k * n]?, bnd[(k + 1) * n]? with
      | some p, some q => some (freqOf (q.2.c - p.2.c) (q.2.t - p.2.t))
      | _, _ => none
    else none

/-- The pairs of octave `j`: their number, the sum of squared differences, and whether it overflowed. -/
def octave (fs : List (Option Int)) : Nat × Nat × Bool :=
  (adjacent (fun a b => (a, b)) fs).foldl (fun acc p => match p with
    | (some x, some y) => let (q, ov) := addSquare acc.2.1 acc.2.2 (y - x); (acc.1 + 1, q, ov)
    | _ => acc) (0, 0, false)

/-- σ of an octave in units of 2⁻⁶⁴ (R324). -/
def sigma (m q : Nat) (ov : Bool) (f : Nat) (free : Nat) : Nat :=
  if m = 0 then 0 else if ov then 2 ^ 64 - 1 else if f = 0 then free % 2 ^ 64
  else min (sqrtNear (q * 2 ^ 128) (2 * m * f ^ 2)) (2 ^ 64 - 1)

/-! ## Result blocks (R324, R325) -/

/-- The inputs of a measurement: records by slot, EC records, close instant. -/
structure MeasIn where
  recs : List (Nat × StampRec)
  ec : List (Nat × Option (Int × Tu) × Bool) := []
  close : Tu
  offline : Bool := false
  truncated : Bool := false

def MeasIn.slot (i : MeasIn) (n : Nat) : List MRec := mrecs none ((i.recs.filter fun p => p.1 == n).map Prod.snd)

/-- The samples of a measurement in order. -/
def Meas.samples (m : Meas) (i : MeasIn) : List Sample :=
  if m.gated then let rs := i.slot m.a; adjacent (gateSample m.op rs) (boundaries rs m.gate)
  else if m.paired then pairSamples m.op (i.slot m.b) i.close (i.slot m.a)
  else if m.op = 6 then dutySamples (i.slot m.a)
  else ecSamples i.ec m.a

/-- What a measurement writes: its block, its bins, the statistics voided by overflow. -/
structure MeasOut where
  block : Bytes
  bins : Bytes
  overflow : Bool
  voided : Nat

/-- A measurement's result (R318 to R325). `cause` = 0 for a COMPLETE watch; `f i` is free value `i`, for the fields that the spec
leaves open. -/
def Meas.run (m : Meas) (i : MeasIn) (cause : Nat) (f : Nat → Nat) : MeasOut :=
  let ss := m.samples i
  let vals := ss.filterMap fun s => match s with | .val x a b => some (x, a, b) | _ => none
  let xs := vals.map Prod.fst
  let a := xs.foldl Acc.add {}
  let missing := (ss.filter (· == .missing)).length
  let skipped := (ss.filter (· == .skipped)).length
  let bnd := boundaries (i.slot m.a) m.gate
  let ok := ss.map fun s => match s with | .val _ _ _ => true | _ => false
  let fbar := if a.sOv then
      (match bnd.head?, bnd.getLast? with | some p, some q => freqOf (q.2.c - p.2.c) (q.2.t - p.2.t) | _, _ => 0)
    else a.meanVal
  let octs := (List.range 16).map fun j => if m.adev then octave (blockFreqs bnd ok j) else (0, 0, false)
  let h := if m.histo then histogram m xs else ([], 0, 0)
  let void := cause ≠ 0
  let st (req : Bool) (empty ov : Bool) : Nat := if !req then 3 else if void then 1 else if empty then 2 else if ov then 1 else 0
  let mean := st m.mean (a.n == 0) a.sOv
  let sd := st m.stddev (decide (a.n < 2)) (a.sOv || a.qOv)
  let mm := st m.minmax (a.n == 0) false
  let hs := st m.histo false false
  let ad := st m.adev (octs.all fun o => o.1 == 0) false
  let fld (status v k : Nat) (n : Nat) : Bytes := leBytes (if status = 0 then v else if status = 2 then 0 else f k) n
  let overflow := a.sOv || a.qOv || octs.any fun o => o.2.2
  let warm := i.recs.any (fun p => m.slots.contains p.1 && p.2.warm) || (m.op == 8 && i.ec.any fun p => p.1 == m.a && p.2.2)
  let flags := ofSet ((if overflow then [0] else []) ++ (if warm then [1] else []) ++ (if i.offline then [2] else []) ++
    (if i.truncated then [3] else [])) 8
  let first := match vals.head? with | some v => v.2.1 % 2 ^ 80 | none => f 0
  let last := match vals.getLast? with | some v => v.2.2 % 2 ^ 80 | none => f 1
  let block := leBytes 0x53544131 4 ++ leBytes 1 2 ++ leBytes m.op 1 ++ leBytes (if void then 2 else 1) 1 ++ leBytes cause 2 ++
    leBytes flags 1 ++ leBytes 0 1 ++ leBytes (mean + 4 * sd + 16 * mm + 64 * mm + 256 * hs + 1024 * ad) 4 ++
    leBytes a.n 8 ++ leBytes missing 8 ++ leBytes skipped 8 ++ leBytes first 10 ++ leBytes last 10 ++ leBytes 0 4 ++
    leBytes (if a.n = 0 then f 2 else unsigned a.x1 128) 16 ++ fld mean (unsigned a.meanVal 128) 3 16 ++
    fld sd a.stddevVal 4 16 ++ fld mm (unsigned a.mn 128) 5 16 ++ fld mm (unsigned a.mx 128) 6 16 ++
    leBytes (unsigned a.s 128) 16 ++ leBytes a.q 24 ++ leBytes 0 8 ++ leBytes (if m.histo then h.2.1 else f 7) 8 ++
    leBytes (if m.histo then h.2.2 else f 8) 8 ++ leBytes 0 48 ++
    (octs.zipIdx.flatMap fun o => if m.adev then leBytes o.1.1 8 ++ leBytes (sigma o.1.1 o.1.2.1 o.1.2.2 fbar.natAbs (f (9 + o.2))) 8
      else leBytes (f (9 + o.2)) 16)
  { block, bins := h.1.flatMap fun n => leBytes n 8, overflow
    voided := if void then 0 else (if mean = 1 then 1 else 0) + (if sd = 1 then 1 else 0) }

/-- One measurement writes its block and its bins; the measurement registers follow (R320, R324, R328). -/
def State.writeResult (s : State) (m : Meas) (i : MeasIn) (cause : Nat) : State :=
  let o := m.run i cause fun k => Config.freeValue (s.free + k)
  let mem := Mem.setBytes s.mem m.result o.block
  let s := { s.useFree 25 with mem := if m.histo then Mem.setBytes mem m.hist o.bins else mem }
  let s := if o.overflow then s.setBit F.TALLY_MEAS_EVENTS_ACC_OVERFLOW else s
  let s := if cause ≠ 0 then s.setBit F.TALLY_MEAS_EVENTS_RESULT_VOID else s
  s.countUp F.TALLY_MEAS_OVF_CNT_COUNT o.voided

/-- MEASUREMENT_RESULTS: the measurements of a closed watch write their results; a TALLY_ARM then gets its receipt (R324, R325). -/
def execMeasurementResults (k : Nat) (s : State) : Host.Outcome State Fault Refusal :=
  match s.work? k, Store.get? s.watches k with
  | some w, some wt =>
    if !wt.closed ∨ wt.measured ∨ w.measCount = 0 then .next s
    else
      let i : MeasIn := { recs := wt.tap, ec := if w.opcode = Op.burst then (s.seqSt w.bSeq).cap.ecTap else [], close := wt.closeAt.getD 0 }
      let s := w.measures.foldl (fun s m => s.writeResult m i w.cause) s
      .next (({ s with watches := Store.put s.watches k { wt with measured := true } }).endWatch k w)
  | _, _ => .next s

end Sys2Proof.Machine
end

