-- ==== Sys2Proof/Machine/Bursts.lean ====
section
/-!
DEFINITION. How a burst ends: its closing interval, its headers, summary and verdict area, its final receipt, and the close of a
joint burst (R34, R36, R200, R202, R268, R380, R396).
-/

namespace Sys2Proof.Machine

/-- The burst's watch is closed and its results are written, or it has none (R285, R324). -/
def State.watchDone (s : State) (k : Nat) (w : Work) : Bool :=
  match Store.get? s.watches k with
  | none => true
  | some wt => wt.closed && (w.measCount == 0 || wt.measured)

/-- The sites with an owned channel. -/
def State.ownedSites (s : State) (n : Nat) : List Nat := ((s.owned n).map (s.siteOf n)).eraseDups

/-- The summary block (R200): 6,208 bytes. -/
def State.summaryBlock (s : State) (w : Work) (status : Nat) : Bytes :=
  let q := s.seqSt w.bSeq
  let own := s.owned w.bSeq
  let sites := s.ownedSites w.bSeq
  leBytes 0x53554D31 4 ++ leBytes 1 2 ++ leBytes status 1 ++ leBytes 0 1 ++ leBytes (if status = 2 then w.cause else 0) 2 ++
  leBytes w.bSeq 1 ++ leBytes (w.rflags % 4) 1 ++ leBytes 0 4 ++ leBytes q.vectors 8 ++ leBytes 0 40 ++
  ((List.range 256).flatMap fun i => match Store.get? q.siteFails i with
    | some p => if sites.contains i then leBytes p.1 8 ++ leBytes p.2 8 else leBytes 0 16
    | none => if sites.contains i then leBytes 0 8 ++ leBytes (2 ^ 64 - 1) 8 else leBytes 0 16) ++
  ((List.range 256).flatMap fun c => if own.contains c then leBytes (Store.getD q.chFails c 0) 4 ++ leBytes (Store.getD q.chGlitches c 0) 4
    else leBytes 0 8)

/-- What a burst writes at its end, before its final receipt (R36, R200, R210, R235, R380). -/
def State.closeOutputs (s : State) (w : Work) (status : Nat) : State :=
  let q := s.seqSt w.bSeq
  let s := s.writeCapHeader w status
  let s := if w.hasSummary then { s with mem := Mem.setBytes s.mem w.summaryAddr (s.summaryBlock w status) } else s
  let s := if w.hasLaneArea then s.writeLaneResults w (status == 2) w.cause else s
  s.writeVerdict w status (if status = 2 then w.cause else 0) q.bfail.toNat (q.atStart &&& ~~~q.active).toNat

/-- The DETAIL of a burst's final receipt (R396). -/
def State.burstDetail (s : State) (w : Work) : Bytes :=
  let q := s.seqSt w.bSeq
  leBytes q.vectors 8 ++ leBytes (setBits q.atStart.toNat 256).length 2 ++ leBytes (setBits q.bfail.toNat 256).length 2 ++
    leBytes (setBits (q.atStart &&& ~~~q.active).toNat 256).length 2

/-- The WARM flag of a burst's final receipt (R364): a capture or watch of it carried WARM. -/
def State.markWarm (s : State) (k : Nat) (w : Work) : State :=
  if (w.hasCapture && (s.seqSt w.bSeq).cap.warm) || (Store.getD s.watches k {}).warmSeen then
    s.modWork k fun w => { w with rflags := w.rflags ||| 4 } else s

/-- The final receipt of a burst. -/
def State.endBurst (s : State) (k : Nat) (w : Work) : State :=
  let d := s.burstDetail w
  (s.markWarm k w).finalReceipt k (if w.cause = 0 then Status.complete else Status.void) w.cause d

/-! ## The close of a joint burst (R268) -/

/-- The coordinator holds DONE from every participant: RELEASE, and its own COMPLETE (R268). -/
def State.releaseJoint (s : State) (k : Nat) (w : Work) (j : Joint) : State :=
  if j.doneSent && decide (w.partCount ≤ j.dones.length + 1) then
    ((s.sendParts w Msg.release 0).endBurst k w).dropJoint w.jointId
  else s

/-- A participant's part has closed: it sends DONE; the coordinator counts its own (R268). -/
def State.sendDone (s : State) (k : Nat) (w : Work) : State :=
  let j := { (s.joint w.jointId).getD { work := some k } with doneSent := true }
  let s := (s.setJoint w.jointId j).modWork k fun w => { w with stage := .ended }
  if s.coordinates w then s.releaseJoint k w j
  else s.sendMsg Msg.done (s.posOf ((w.participants.head?).getD 0)) w.jointId 0

/-- A participant voids its part before DONE: VOID_NOTICE to the coordinator; the coordinator tells the others (R268). -/
def State.sendVoid (s : State) (w : Work) : State :=
  if (s.joint w.jointId).all (·.phase != .admitted) ∨ w.cause = 0x232 ∨ w.cause = 0x233 then s.dropJoint w.jointId
  else
    let s := if s.coordinates w then s.sendParts w Msg.abort 0x233
      else s.sendMsg Msg.voidNotice (s.posOf ((w.participants.head?).getD 0)) w.jointId w.cause
    s.dropJoint w.jointId

/-- An admitted joint part ends VOID because another part or a link failed (R268, R270). A part that has closed writes its outputs again,
VOID, with its final receipt (R36). -/
def State.jointVoid (s : State) (k cause : Nat) : State :=
  match s.work? k with
  | none => s
  | some w =>
    if (s.joint w.jointId).any (·.doneSent) || s.completeRaised k then
      (((s.dropComplete k).setWork k { w with cause, stage := .stopped }).voidWatch k).dropJoint w.jointId
    else s.voidWork k cause

/-! ## The rows -/

/-- The checks at close that the sequencer's own counts decide: each site's BURST_FAIL bit equals whether its FAIL_CYCLES is not 0, and A matches
the retirements that copy B records (R202). -/
def Seq.closeOk (q : Seq) : Bool :=
  q.bfail == q.siteFails.foldl (fun (b : Set256) p => if p.2.1 ≠ 0 then b ||| siteBit p.1 else b) 0 &&
  q.active == q.atStart &&& ~~~q.retired

/-- CLOSING_INTERVAL_END: 10 µs after the last vector. `check` is the outcome of the checks at close: 0 all hold, 1 copy B of the compare logic
differs, 2 CAPTURE_CRC, 64 + n the copies of lane n's compare differ (R34, R202, R238). The burst is COMPLETE only when no check fails and no
detection that affects it waits. -/
def execClosingIntervalEnd (k check : Nat) (s : State) : Host.Outcome State Fault Refusal :=
  .next (s.onWork k Op.burst fun w =>
    if w.stage ≠ .closing then s
    else
      let s := s.advanceTo (w.endAt + 40960000)
      if check = 1 ∨ !(s.seqSt w.bSeq).closeOk then s.checkFailed w.bSeq 1
      else if 64 ≤ check ∧ (s.burstCmpLanes w).contains (check - 64) then s.lanesDiffer (check - 64) k
      else if check = 2 then s.checkFailed w.bSeq 3
      else if (s.detections.any fun d => s.affected d w || d.works.contains k) || !s.watchDone k w then s
      else
        let s := (s.settleCompares w).closeOutputs w 1
        if w.isJoint then s.sendDone k w else s.endBurst k w)

/-- VOID_FINAL_RECEIPT: a burst that ended VOID and has stopped writes its void headers and its receipt (R36, R161, R380). -/
def execVoidFinalReceipt (k : Nat) (s : State) : Host.Outcome State Fault Refusal :=
  .next (s.onWork k Op.burst fun w =>
    if w.stage ≠ .stopped ∨ !s.watchDone k w then s
    else
      let s := ((if (s.seqSt w.bSeq).started then s else s.armCompares w).endCompares w true).closeOutputs w 2
      let s := if w.isJoint then s.sendVoid w else s
      s.endBurst k w)

end Sys2Proof.Machine
end

