-- ==== Sys2Proof/Machine/Charges.lean ====
section
/-!
DEFINITION. The Toll's DRAM and pace budgets: the rates an order reserves, what they charge, the worst-case service W_c
(R29, R406 to R409, R470, R471, R476).
-/

namespace Sys2Proof.Machine

/-! ## Rates (R406) -/

/-- ρ of a slot in G records/s (R284). -/
def TSlot.rho (x : TSlot) : Rat := (4096 : Rat) / x.hs + (if x.markers then 2 / 1000 else 0)

/-- Rate of `bits` per UI in GB/s. -/
def Work.uiRate (w : Work) (bits : Nat) : Rat := (bits : Rat) * 4096 / w.uiMin / 8

/-- The spill area of a burst: base and length (R148). -/
def State.spillArea (s : State) (w : Work) : Nat × Nat := (s.spillBase w.bSeq, 32 * (w.callDepth - 6))

/-- The expected stream of a lane compare, to its declared count or to the end of the consecutive declared segments (R233). -/
def State.laneStream (s : State) (w : Work) (k : Nat) : Nat × Nat :=
  let at_ := s.expectedAt k 0 / 8
  let n := s.get F.LANEn_CMP_COUNT_COUNT k
  if n ≠ 0 then (at_, (n * (s.payloadBits k + 2) + 7) / 8)
  else
    let g := s.get F.LANEn_CMP_SEG_SEG k
    let segs := ((List.range w.segCount).takeWhile fun i => w.segs.contains (g + i)).length
    (at_, (g + segs) * segSize - at_)

/-- The memory rates of a burst (R124, R149, R204, R232, R239, R284). -/
def State.burstRates (s : State) (w : Work) (pace : Nat) : List MemRate :=
  let n := w.bSeq
  let own := s.owned n
  let pattern : MemRate := { requester := n, ranges := w.segs.map fun g => (g * segSize, segSize),
                             rate := w.uiRate (rowWidth w.bitsPerUi own.length true + 2), buffer := 65536 }
  let sp : MemRate := { requester := n, ranges := [s.spillArea w], rate := (32 : Rat) * 4 * pace / (30 * 4096), buffer := 65536 }
  let cap : List MemRate := if !w.hasCapture then []
    else if w.capKind = 2 then (s.laneSlots n w).map fun p =>
      { requester := 64 + p.1, ranges := [(w.capRegion, w.capSize)], rate := w.uiRate p.2, buffer := 16384 }
    else [{ requester := 32 + n, ranges := [(w.capRegion, w.capSize)], rate := w.uiRate (s.capRowBits w), buffer := 65536 }]
  let lanes : List MemRate := ((s.cmpLanes n).filter fun k => !s.bit F.LANEn_BIND_CMP_SRC k).map fun k =>
    { requester := 64 + k, ranges := [s.laneStream w k], rate := (s.get F.LANEn_MODE_RATE k : Rat) * 1001 / 8000000, buffer := 16384 }
  [pattern] ++ (if 6 < w.callDepth then [sp, sp] else []) ++ cap ++ lanes

/-- The memory rates of a watch: 16 bytes per record of each slot with TO_REGION (R284). -/
def State.watchRates (s : State) (w : Work) : List MemRate :=
  ((w.watchSlots.map s.slotCopy).filter TSlot.toRegion).map fun x =>
    { requester := 128 + x.slot / 32, ranges := [(w.watchRegion, w.watchSize)], rate := x.rho * 16, buffer := 32768 }

/-- The memory rates of an order at an assumed pace (R29, R406). -/
def State.memRates (s : State) (w : Work) (pace : Nat) : List MemRate :=
  let op := w.opcode
  let rate : Rat := (w.body 56 2 : Rat) / 10
  let dst : MemRate := { requester := 132, ranges := [w.fillRange], rate, buffer := 262144 }
  let src : MemRate := { requester := 132, ranges := [(w.body 32 8, w.body 48 8)], rate, buffer := 262144 }
  (if op = Op.burst then s.burstRates w pace else []) ++ (if w.watches then s.watchRates w else []) ++
  (if op = Op.segmentWrite then [src, dst] else if op = Op.segmentStream then [dst] else if op = Op.captureRead then [src] else [])

/-- The declared host rate, in units of 0.1 GB/s (R331). -/
def Work.hostRate10 (w : Work) : Nat := if w.opcode = Op.segmentStream ∨ w.opcode = Op.captureRead then w.body 56 2 else 0

/-- The interior load of an order (R408). -/
def Resv.load (r : Resv) : Rat := (r.rates.map (·.rate)).sum + r.hostRate

/-! ## Charges -/

/-- What a rate costs a DRAM channel (R406). -/
def State.rateOn (s : State) (r : MemRate) (c : Nat) : Rat :=
  let gs := r.ranges.map fun p => s.rangeGrains p.1 p.2
  let n := (gs.map Prod.fst).sum
  let nc := (gs.map fun g => Store.getD g.2 c 0).sum
  if n = 0 then 0 else r.rate * nc / n

/-- What an order costs a DRAM channel. -/
def State.chargeOn (s : State) (r : Resv) (c : Nat) : Rat := (r.rates.map fun x => s.rateOn x c).sum

/-- The window contains an instant (R405). -/
def Resv.contains (r : Resv) (t : Tu) : Bool := decide (r.start ≤ t) && (match r.stop with | some e => decide (t < e) | none => true)

/-- Two windows overlap. -/
def Resv.overlaps (a b : Resv) : Bool :=
  (match a.stop with | some e => decide (b.start < e) | none => true) && (match b.stop with | some e => decide (a.start < e) | none => true)

/-- The reservations of the work that holds them. -/
def State.admittedResv (s : State) : List Resv := (s.works.filter fun p => p.2.held).map fun p => p.2.resv

/-- The instants of a window at which a sum over windows can rise: its start and the starts within it. -/
def Resv.instants (o : Resv) (others : List Resv) (more : List Tu) : List Tu :=
  (o.start :: ((others.map (·.start)) ++ more).filter o.contains).eraseDups

/-- A make-up interval: its start and end (R409). -/
def State.makeUp (s : State) (p : Postpone) : Tu × Tu := (p.stop, p.stop + p.owed * s.get F.TOLL_REFRESH_TRFC * 4096)

/-- The reserved requesters mapped to a channel at an instant (R471). -/
def State.mapped (s : State) (rs : List Resv) (c : Nat) (t : Tu) : List Nat :=
  ((rs.filter fun r => decide (r.start ≤ t)).flatMap fun r =>
    (r.rates.filter fun x => s.rateOn x c != 0).map (·.requester)).eraseDups

/-- W_c in ns at an instant, for an order with a window (R409, R476). `post`: the postponements by stack. -/
def State.serviceTime (s : State) (rs : List Resv) (post : Store Nat Postpone) (win : Resv) (c : Nat) (t : Tu) : Rat :=
  let nr := (s.mapped rs c t).length
  let n := nr + 6
  let tg : Nat := if n ≤ 16 then 32 else 34
  let g : Nat := 2 ^ s.grainLog2
  let p := Store.get? post (stackOf c)
  let f : Rat := match p with | some p => if p.start ≤ t ∧ t < p.stop then 0 else 1 | none => 1
  let trfc : Rat := s.get F.TOLL_REFRESH_TRFC
  let trefi : Rat := s.get F.TOLL_REFRESH_TREFI
  let u : Rat := ((rs.filter fun r => r.contains t).map fun r => s.chargeOn r c).sum / 64
  let mk : Rat := match p with
    | some p =>
      let m := s.makeUp p
      if win.overlaps { start := m.1, stop := some m.2 } then (p.owed : Rat) * trfc else 0
    | none => 0
  ((n : Rat) * tg + (nr : Rat) * g / 64 + f * trfc) / (1 - u - f * trfc / trefi) + mk

/-- CAP_CH in GB/s (R402). -/
def capCh : Rat := 515625 / 10000

/-- A rate's buffer holds what may gather while its channel serves others (R407). -/
def State.bufferOk (s : State) (rs : List Resv) (post : Store Nat Postpone) (win : Resv) (c : Nat) (t : Tu) : Bool :=
  win.rates.all fun x =>
    let r := s.rateOn x c
    r == 0 || decide ((2 ^ s.grainLog2 : Nat) + r * s.serviceTime rs post win c t ≤ x.buffer)

/-- The DRAM budget holds for an offered order beside others (R407). -/
def State.dramOk (s : State) (others : List Resv) (o : Resv) (post : Store Nat Postpone) : Bool :=
  let rs := o :: others
  let ts := o.instants others (post.flatMap fun p => [p.2.start, p.2.stop, (s.makeUp p.2).2])
  let cs := s.liveChannels.filter fun c => s.chargeOn o c != 0
  ts.all fun t => cs.all fun c =>
    decide (((rs.filter fun r => r.contains t).map fun r => s.chargeOn r c).sum ≤ capCh) &&
    (rs.filter fun r => r.contains t).all fun r => s.bufferOk rs post r c t

/-- The pace budget holds (R408). -/
def paceOk (others : List Resv) (o : Resv) (pace : Nat) : Bool :=
  (o.instants others []).all fun t =>
    decide ((((o :: others).filter fun r => r.contains t).map Resv.load).sum ≤ (3600 : Rat) * pace / 4096)

/-! ## Refresh (R409) -/

/-- A postponement is outstanding on a stack: from the admission until the end of its make-up interval. -/
def State.postponeOut (s : State) (st : Nat) : Bool :=
  match Store.get? s.postponed st with | some p => decide (s.fr < (s.makeUp p).2) | none => false

/-- The postponement that an offered timed burst takes, by stack; none where it does not qualify. -/
def State.postponeFor (s : State) (w : Work) (o : Resv) (s0 : Tu) (idle : Bool) : Store Nat Postpone :=
  let d := s0 + w.duration - o.start
  let trefi := s.get F.TOLL_REFRESH_TREFI * 4096
  let memStacks := s.stacksOf (o.rates.flatMap (·.ranges))
  if w.timed ∧ trefi ≠ 0 ∧ d ≤ 8 * trefi ∧ (idle ∨ memStacks.all fun st => !s.postponeOut st) then
    memStacks.map fun st => (st, { start := o.start, stop := s0 + w.duration, owed := ceilDiv d trefi })
  else []

end Sys2Proof.Machine
end

