-- ==== Sys2Proof/Machine/Awning.lean ====
section
/-!
DEFINITION. The Awning: the thermal model, its predictions, the power budget and the published headroom (R410 to R415, R419).
Temperatures are in °C, powers in W.
-/

namespace Sys2Proof.Machine

/-! ## The model (R410, R412) -/

def State.awnBase (s : State) : Rat := (s.get F.AWN_BASE_BASE : Rat) / 10
def State.awnCool (s : State) : Rat := (s.get F.AWN_COOLANT_TEMP : Rat) / 10
def State.awnRes (s : State) (n : Nat) : Rat := (s.get F.AWN_RES_n_RES n : Rat) / 1000
def State.awnCap (s : State) (n : Nat) : Rat := (s.get F.AWN_CAP_n_CAP n : Rat) / 100
/-- T_LIMIT − AWN_GUARD (R402, R413). -/
def State.awnLimit (s : State) : Rat := 105 - (s.get F.AWN_GUARD_GUARD : Rat) / 10

/-- A total power split over nodes 0 to 2 (R412). -/
def State.awnSplit (s : State) (p : Rat) : List Rat :=
  [p * s.get F.AWN_SPLIT_CORE / 256, p * s.get F.AWN_SPLIT_PE / 256, p * s.get F.AWN_SPLIT_DRAM / 256]

/-- One step of 100 µs with powers into nodes 0 to 2 (R412). -/
def State.awnStep (s : State) (t p : List Rat) : List Rat :=
  let dt : Rat := 1 / 10000
  let at_ (l : List Rat) (j : Nat) : Rat := l.getD j 0
  let q (j : Nat) : Rat := (at_ t j - at_ t 3) / s.awnRes j
  let node (j : Nat) : Rat := at_ t j + dt * (at_ p j - q j) / s.awnCap j
  [node 0, node 1, node 2, at_ t 3 + dt * (q 0 + q 1 + q 2 - (at_ t 3 - s.awnCool) / s.awnRes 3) / s.awnCap 3]

/-- The steady state at powers into nodes 0 to 2 (R412). -/
def State.awnSteady (s : State) (p : List Rat) : List Rat :=
  let lid := s.awnCool + p.sum * s.awnRes 3
  ((List.range 3).map fun j => lid + p.getD j 0 * s.awnRes j) ++ [lid]

/-- Every junction is at most a limit. -/
def junctionsOk (t : List Rat) (lim : Rat) : Bool := (t.take 3).all fun x => decide (x ≤ lim)

/-- 100 µs in tu. -/
def awnTick : Tu := 409600000

/-- Mean and peak power of a set at an instant, the base included (R412, R413). -/
def State.meanAt (s : State) (rs : List Resv) (t : Tu) : Rat := s.awnBase + ((rs.filter fun r => r.contains t).map (·.mean)).sum
def State.peakAt (s : State) (rs : List Resv) (t : Tu) : Rat := s.awnBase + ((rs.filter fun r => r.contains t).map (·.peak)).sum

/-- The prediction from `now` over `n` steps keeps every junction within the limit at the steps from `start` on. -/
def State.awnRun (s : State) (rs : List Resv) (start : Tu) : Nat → Tu → List Rat → Bool
  | 0, _, _ => true
  | n + 1, now, t =>
    let t' := s.awnStep t (s.awnSplit (s.meanAt rs now))
    (decide (now + awnTick < start) || junctionsOk t' s.awnLimit) && s.awnRun rs start n (now + awnTick) t'

/-- The latest of a list of ends. -/
def latest : List Tu → Option Tu
  | [] => none
  | a :: l => some (l.foldl max a)

/-- The thermal part of R413 for a window beside others. -/
def State.thermalOk (s : State) (temps : List Rat) (others : List Resv) (o : Resv) : Bool :=
  let rs := o :: others.filter fun r => r.overlaps o
  (match latest (rs.filterMap (·.stop)) with
    | some e => s.awnRun (o :: others) o.start (ceilDiv (e - s.fr) awnTick) s.fr temps
    | none => true) &&
  (rs.all (fun r => r.stop.isSome) || junctionsOk (s.awnSteady (s.awnSplit (s.awnBase + (rs.map (·.mean)).sum))) s.awnLimit)

/-- The supply part of R413. -/
def State.supplyOk (s : State) (others : List Resv) (o : Resv) : Bool :=
  (o.instants others []).all fun t =>
    decide (s.peakAt (o :: others) t ≤ s.get F.AWN_SUPPLY_PEAK_W) && decide (s.meanAt (o :: others) t ≤ s.get F.AWN_SUPPLY_MEAN_W)

/-- The Awning budget holds for an offered order beside others (R413). `idle`: on the otherwise idle device of step 16. -/
def State.awningOk (s : State) (others : List Resv) (o : Resv) (idle : Bool) : Bool :=
  s.supplyOk others o && s.thermalOk (if idle then s.awnSteady (s.awnSplit s.awnBase) else s.awn) others o

/-- Peak and mean power of an order (R412): declared for a burst, implicit for the rest. `units`: graph units of its measurements. -/
def Work.power (w : Work) (units : Nat) : Rat × Rat :=
  let op := w.opcode
  if op = Op.burst then
    let peak : Rat := (w.peakMw : Rat) / 1000
    (peak, if w.session then peak else (w.energy : Rat) * 4096 / w.duration)
  else
    let p : Rat := if op = Op.segmentWrite ∨ op = Op.segmentStream ∨ op = Op.captureRead then (w.body 56 2 : Rat) / 200
      else if op = Op.tallyArm then (w.watchSlots.length : Rat) + 3 * units
      else if op = Op.pmuMeasure then (26 : Rat) * w.chanRange.length / 100
      else 0
    (p, p)

/-! ## Headroom (R415) -/

/-- The largest `x` for which base + x × rise stays within the limit, over the junctions of one step. -/
def headLimit (lim : Rat) (base rise : List Rat) : List Rat :=
  (List.range 3).filterMap fun j => if 0 < rise.getD j 0 then some ((lim - base.getD j 0) / rise.getD j 0) else none

/-- The bounds that the steps of the next 10 ms put on a constant power added to node 0. -/
def State.headSteps (s : State) (rs : List Resv) : Nat → Tu → List Rat → List Rat → List Rat
  | 0, _, _, _ => []
  | n + 1, now, base, rise =>
    let p := s.awnSplit (s.meanAt rs now)
    let b' := s.awnStep base p
    let one := s.awnStep (List.zipWith (· + ·) base rise) (match p with | a :: l => (a + 1) :: l | [] => [])
    let r' := List.zipWith (· - ·) one b'
    headLimit s.awnLimit b' r' ++ s.headSteps rs n (now + awnTick) b' r'

/-- The power that core and graph work may add at an instant, from given temperatures (R415); never below 0. -/
def State.headroomAt (s : State) (rs : List Resv) (t : Tu) (temps : List Rat) : Rat :=
  let a : Rat := (s.get F.AWN_SUPPLY_MEAN_W : Rat) - s.meanAt rs t
  let b : Rat := (s.get F.AWN_SUPPLY_PEAK_W : Rat) - s.peakAt rs t
  max 0 ((s.headSteps rs 100 t temps [0, 0, 0, 0]).foldl min (min a b))

/-- Publish the modelled temperatures and the headroom (R411, R415, R421). -/
def State.publishAwn (s : State) : State :=
  let s := (List.range 4).foldl (fun s n => s.set F.AWN_TEMP_n_TEMP (unsigned ((s.awn.getD n 0 * 10).floor) 16) n) s
  s.set F.AWN_HEADROOM_HEADROOM (min 65535 (s.headroomAt s.admittedResv s.fr s.awn * 10).floor.toNat)

/-- The domains that feed each junction node (tables *Awning nodes* and *Domain states*). -/
def nodeDomains : List (List Nat) := [[12, 13, 14, 15, 16, 17, 18, 19], [0, 1, 2, 3, 4, 5, 6, 7], [8, 9, 10, 11]]

/-- The domain energy counters after the energies of one interval, in µJ; PWR_ENERGY_n shows whole mJ (R598). -/
def State.countEnergy (s : State) (uj : List Nat) : State :=
  let total := (List.range 20).map fun d => s.energy.getD d 0 + uj.getD d 0
  { (List.range 20).foldl (fun (s : State) d => s.set F.PWR_ENERGY_n_ENERGY (total.getD d 0 / 1000) d) s with energy := total }

/-- AWNING_UPDATE: 100 µs have passed; `uj`: the energy that each of the 20 domains drew in them, in µJ (R411, R598). -/
def execAwningUpdate (uj : List Nat) (s : State) : Host.Outcome State Fault Refusal :=
  let watts (ds : List Nat) : Rat := ((ds.map fun d => uj.getD d 0).sum : Rat) / 100
  let s := s.countEnergy uj
  .next { s with awn := s.awnStep s.awn (nodeDomains.map watts) }.publishAwn

/-- AWNING_SENSOR_CORRECT: every 1 ms; `sens`: the sensor readings of nodes 0 to 3, in 0.1 °C (R411). A junction reading above
105 °C is a THERMAL detection (R414, R544). -/
def execAwningSensorCorrect (sens : List Int) (s : State) : Host.Outcome State Fault Refusal :=
  let r (n : Nat) : Rat := (sens.getD n 0 : Rat) / 10
  let above := (List.range 4).any fun n => decide (s.awn.getD n 0 + 1 < r n) && decide (n < sens.length)
  let s := { s with awn := (List.range 4).map fun n => if n < sens.length then max (s.awn.getD n 0) (r n) else s.awn.getD n 0 }
  let s := ((List.range 3).filter fun n => decide (1050 < sens.getD n 0)).foldl (fun (s : State) n =>
    s.detect { kind := 9, cause := 0x227, source := 0xA00 + n }) s
  let s := if above then (s.setBit F.AWN_EVENTS_SENSOR_ABOVE).raise 0x475 s.fr else s
  .next s.publishAwn

/-- The admitted demand keeps the limits as they stand (R419). -/
def State.demandOk (s : State) : Bool :=
  let rs := s.admittedResv
  let all : Resv := { start := s.fr, stop := latest (rs.filterMap (·.stop)) }
  let ts := s.fr :: (rs.map (·.start)).filter (s.fr ≤ ·)
  ts.all (fun t => decide (s.peakAt rs t ≤ s.get F.AWN_SUPPLY_PEAK_W) && decide (s.meanAt rs t ≤ s.get F.AWN_SUPPLY_MEAN_W)) &&
  (rs.isEmpty || s.thermalOk s.awn rs { all with stop := if rs.any (fun r => r.stop.isNone) then none else all.stop })

/-- A limit register takes a value, which applies from the next decision; LIMIT_WRITE is set when it leaves admitted demand above a
new limit (R419, R420). -/
def State.limitWrite (s : State) (r : RegName) (v : Word) : State :=
  let s := s.wr ⟨r, 0, 0⟩ (v &&& BitVec.ofNat 32 r.spec.rw)
  if s.demandOk then s else (s.setBit F.AWN_EVENTS_LIMIT_WRITE).raise 0x474 s.fr

/-- AWN_LIMIT_WRITE: a write of AWN_SUPPLY (`which` 0), AWN_COOLANT (1) or AWN_GUARD (2) (R419). -/
def execAwnLimitWrite (which : Nat) (v : Word) (s : State) : Host.Outcome State Fault Refusal :=
  if !s.booted then .next s else
  match which with
  | 0 => .next (s.limitWrite .AWN_SUPPLY v)
  | 1 => .next (s.limitWrite .AWN_COOLANT v)
  | 2 => .next (s.limitWrite .AWN_GUARD v)
  | _ => .next s

end Sys2Proof.Machine
end

