-- ==== Sys2Proof/Machine/Admission.lean ====
section
/-!
DEFINITION. The Toll's admission checks that refuse an order: steps 1 to 12 of R401, and the placement of measurements (R309).
-/

namespace Sys2Proof.Machine

/-! ## Local areas -/

/-- Two ranges (address, length) share a byte. -/
def meet (a b : Nat × Nat) : Bool := decide (0 < a.2) && decide (0 < b.2) && decide (a.1 < b.1 + b.2) && decide (b.1 < a.1 + a.2)

/-- The vector pool as a range (R109). -/
def State.poolRange (s : State) : Nat × Nat :=
  if s.bit F.DRAM_SEG_CTRL_LOCK then (s.get F.DRAM_SEG_FIRST_FIRST * segSize, s.get F.DRAM_SEG_COUNT_COUNT * segSize) else (0, 0)

/-- A range lies beyond local memory (R464). -/
def State.beyond (s : State) (a : Nat × Nat) : Bool := decide (s.memSize < a.1 + a.2)

def Work.capArea (w : Work) : List (Nat × Nat) := if w.opcode = Op.burst ∧ w.hasCapture then [(w.capRegion, w.capSize)] else []
def Work.summaryArea (w : Work) : List (Nat × Nat) := if w.opcode = Op.burst ∧ w.hasSummary then [(w.summaryAddr, 6208)] else []
def State.spillAreas (s : State) (w : Work) : List (Nat × Nat) := if w.opcode = Op.burst ∧ 6 < w.callDepth then [s.spillArea w] else []
def State.laneAreas (s : State) (w : Work) : List (Nat × Nat) :=
  if w.opcode = Op.burst ∧ (s.burstCmpLanes w).length ≠ 0 then [(w.laneArea, 64 * (s.burstCmpLanes w).length)] else []
def Work.stampArea (w : Work) : List (Nat × Nat) := if w.watches then [(w.watchRegion, w.watchSize)] else []
def Meas.areas (m : Meas) : List (Nat × Nat) := (m.result, 512) :: (if m.histo then [(m.hist, 8 * m.bins)] else [])
def Work.resultAreas (w : Work) : List (Nat × Nat) := if w.watches then w.measures.flatMap Meas.areas else []

/-- The local ranges that an admitted order declares (R479, R480). -/
def State.localRanges (s : State) (w : Work) : List (Nat × Nat) :=
  (if w.opcode = Op.burst then w.segs.map fun g => (g * segSize, segSize) else []) ++ w.capArea ++ w.summaryArea ++ s.spillAreas w ++
  s.laneAreas w ++ w.stampArea ++ w.resultAreas ++
  (if w.opcode = Op.segmentWrite then [w.fillRange, (w.body 32 8, w.body 48 8)] else if w.opcode = Op.segmentStream then [w.fillRange]
   else if w.opcode = Op.captureRead then [(w.body 32 8, w.body 48 8)] else [])

/-- The work that holds reservations, other than order `k`. -/
def State.holders (s : State) (k : Nat) : List (Nat × Work) := s.works.filter fun p => p.2.held && p.1 != k

/-! ## Steps 5 to 9 -/

/-- The first cause whose condition holds. -/
def firstCause : List (Bool × Nat) → Option Nat
  | [] => none
  | (b, c) :: l => if b then some c else firstCause l

/-- Step 5: segments (R110, R113, R114). -/
def State.segCheck (s : State) (w : Work) : Option Nat :=
  if w.opcode = Op.burst then
    firstCause [(w.segs.any fun g => !s.inPool g, 0x110), (w.segs.any fun g => (s.seg g).filling, 0x112),
      (w.segs.any fun g => !(s.seg g).valid, 0x113)]
  else if w.opcode = Op.segmentWrite ∨ w.opcode = Op.segmentStream then
    firstCause [(w.fillSegs.any fun g => !s.inPool g, 0x110), (w.fillSegs.any fun g => (s.seg g).refs != 0, 0x111),
      (w.fillSegs.any fun g => (s.seg g).filling, 0x112)]
  else none

/-- Step 6: the sequencer (R133). -/
def State.seqCheck (s : State) (w : Work) : Option Nat :=
  let n := w.bSeq
  if w.opcode ≠ Op.burst then none
  else firstCause [(w.burstChans != s.owned n, 0x120), ((s.chainChans n).any fun c => !(s.owned n).contains c, 0x121),
    (decide (6 < w.callDepth) && (meet (s.spillArea w) s.poolRange || s.beyond (s.spillArea w)), 0x122)]

/-- The banks that step 7 checks: the live bank, and the staged bank while a commit is pending on the sequencer (R100). -/
def State.tsBanks (s : State) (n : Nat) : List RegName :=
  [.TSBANK_LIVE] ++ (if (Store.get? s.tsPending n).isSome then [.TSBANK_STAGE] else [])

/-- Step 7: drive range and timing banks (R41, R90, R100). -/
def State.timingCheck (s : State) (w : Work) : Option Nat :=
  if w.opcode ≠ Op.burst then none
  else
    let cs := w.burstChans
    let banks := s.tsBanks w.bSeq
    let high := cs.filter fun c => !s.bit F.CHn_MODE_LIVE_DRV_RANGE c
    firstCause [(high != [] && (w.stream || decide (w.uiMin < 1280)), 0x108),
      (banks.any fun b => (s.domainFail b cs).isSome, 0x119),
      (banks.any fun b => cs.any fun c => (s.validSets b c w.stream).any fun p => decide (p.2.period < w.uiMin), 0x11A),
      (banks.any fun b => high.any fun c => let v := s.validSets b c w.stream; !boundaryOk v 640 || v.any fun p => !p.2.pulseOk 640, 0x118)]

/-- The channels of a LANE_RAW mask that name no lane bound to the sequencer (R239). -/
def State.badLaneMask (s : State) (w : Work) : Bool :=
  w.recordMask == [] || w.recordMask.any (fun c => c % 4 != 0 || !(s.boundLanes w.bSeq).contains (c / 4)) ||
  (s.laneSlots w.bSeq w).any fun p => decide (4095 < p.2 - 16)

/-- Step 8: capture; a reserved mode is refused with the same cause (R205, R208, R211, R239). -/
def State.captureCheck (s : State) (k : Nat) (w : Work) : Option Nat :=
  if w.opcode ≠ Op.burst ∨ !w.hasCapture then none
  else
    let a := (w.capRegion, w.capSize)
    let own := s.owned w.bSeq
    let rows := State.capRows w (s.capRowBits w)
    let spills := s.spillAreas w ++ (s.holders k).flatMap fun p => s.spillAreas p.2
    firstCause [(meet a s.poolRange || (w.summaryArea ++ spills).any (meet a) || s.beyond a || rows == 0 ||
      w.capMode == 3 || (w.capKind == 3 && w.recordMask == []) || w.recordMask.any (fun c => !own.contains c) ||
      (w.capKind == 2 && s.badLaneMask w) || decide (rows < w.capPre + 1) ||
      (s.mask256 .CAP_TRIG_MASK_w w.bSeq).any fun c => !own.contains c, 0x123)]

/-- Step 9: lanes (R231). -/
def State.laneCheck (s : State) (k : Nat) (w : Work) : Option Nat :=
  if w.opcode ≠ Op.burst then none
  else
    let n := w.bSeq
    let own := s.owned n
    let bound := s.boundLanes n
    let used (l : Nat) : List Nat := modeChans l (s.get F.LANEn_MODE_MODE l)
    let all := s.holders k
    let caps := w.capArea ++ all.flatMap fun p => p.2.capArea
    let spills := s.spillAreas w ++ all.flatMap fun p => s.spillAreas p.2
    firstCause [
      ((bound.any fun l => (used l).any fun c => !own.contains c) ||
        (List.range 64).any (fun l => !bound.contains l && (used l).any own.contains), 0x128),
      (bound.any fun l => s.get F.LANEn_MODE_MODE l == 0 || (s.bit F.LANEn_BIND_CMP_EN l &&
        ((s.get F.LANEn_BIND_START l == 1 && !s.bit F.LANEn_MATCH_HDR_EN l))) || s.get F.LANEn_BIND_START l == 3, 0x129),
      ((s.laneAreas w).any fun a => meet a s.poolRange || (caps ++ w.summaryArea ++ spills).any (meet a) || s.beyond a, 0x12A)]

/-! ## Step 10: watches (R284, R286, R304, R309, R310) -/

/-- The watches that are open: admitted and not closed. -/
def State.openWatches (s : State) (k : Nat) : List (Nat × Watch) := s.watches.filter fun p => !p.2.closed && p.1 != k

/-- A source of R276 on a Row; gates are on every Row. -/
def sourceOn (src row : Nat) : Bool :=
  match sourceRow src with | some r => r == row | none => decide (0x210 ≤ src) && decide (src ≤ 0x213)

/-- DISARM values that an ARM value permits (table *Slot arming*). -/
def disarmOk (arm disarm : Nat) : Bool :=
  match arm with
  | 0 | 5 => [0, 1, 2, 4].contains disarm
  | 1 | 2 => disarm == 0
  | 3 | 4 => decide (disarm ≤ 4)
  | _ => false

/-- The slot's fields keep the limits of R281 and of the arming tables. -/
def TSlot.fieldsOk (x : TSlot) : Bool :=
  decide (1024 ≤ x.h) && decide (4096 ≤ x.hs) && decide (x.h ≤ x.hs) && decide (1 ≤ x.depth) && decide (x.depth ≤ 64) &&
  disarmOk x.arm x.disarm && (x.disarm != 1 || decide (1024 ≤ x.dur)) && (x.disarm != 2 || decide (1 ≤ x.nstamp)) &&
  F.TALLY_SLOTn_CFG_SLOPE.get x.cfg != 3

/-- Cause TALLY_SLOT (R286). -/
def State.slotBad (s : State) (k : Nat) (x : TSlot) : Bool :=
  let others := (s.openWatches k).flatMap fun p => p.2.slots
  others.any (fun y => y.slot == x.slot) || !sourceOn x.source (x.slot / 32) || others.any (fun y => y.source == x.source) ||
  !x.fieldsOk || !(x.toRegion || x.toGraph)

/-- Combination of RISE: the two comparators of one channel, in the order of the edge (table *Measurement operations*). -/
def riseOk (srcA slopeA srcB slopeB : Nat) : Bool :=
  (decide (0x100 ≤ srcA) && decide (srcA < 0x200) && srcB + 0x100 == srcA && slopeA == 0 && slopeB == 0) ||
  (decide (srcA < 0x100) && srcB == srcA + 0x100 && slopeA == 1 && slopeB == 1)

/-- A descriptor breaks its tables or names a slot that it may not (R310). `i`: its place in the list. -/
def State.measBad (s : State) (w : Work) (i : Nat) (m : Meas) : Bool :=
  let slot (n : Nat) : TSlot := s.slotCopy n
  !m.formOk ((w.meas.drop (64 * i)).take 64) ||
  m.slots.any (fun n => !w.watchSlots.contains n || !(slot n).toGraph) ||
  (m.op == 6 && (slot m.a).slope != 2) ||
  (m.op == 7 && !riseOk (slot m.a).source (slot m.a).slope (slot m.b).source (slot m.b).slope) ||
  (m.op == 8 && !(w.opcode == Op.burst && w.hasCapture && w.capKind == 3 && w.recordMask.contains m.a))

/-- Each area of a list meets no other of the list. -/
def apart : List (Nat × Nat) → Bool
  | [] => true
  | a :: l => !(l.any (meet a)) && apart l

/-- What a graph unit carries in a placement (R309): slots, further rates, measurements, bins. -/
structure UnitLoad where
  slots : List Nat := []
  ec : Rat := 0
  meas : Nat := 0
  bins : Nat := 0
  deriving DecidableEq, Repr

/-- The unit with one more measurement. -/
def UnitLoad.add (u : UnitLoad) (m : Meas) (ecRate : Rat) : UnitLoad :=
  { slots := (u.slots ++ m.slots).eraseDups, ec := u.ec + (if m.op = 8 then ecRate else 0), meas := u.meas + 1,
    bins := u.bins + (if m.histo then m.bins else 0) }

/-- The unit keeps the limits of R309. -/
def State.unitOk (s : State) (u : UnitLoad) (pace : Nat) : Bool :=
  decide ((u.slots.map fun n => (s.slotCopy n).rho).sum + u.ec ≤ (pace : Rat) / 4096) && decide (u.meas ≤ 8) && decide (u.bins ≤ 65536)

/-- A placement of measurements on at most `free` units, if one exists: the units' loads (R309). -/
def State.place (s : State) (pace : Nat) (ecRate : Rat) (free : Nat) : List Meas → List UnitLoad → Option (List UnitLoad)
  | [], us => some us
  | m :: ms, us =>
    (List.range (min (us.length + 1) free)).findSome? fun i =>
      let u := (us.getD i {}).add m ecRate
      if s.unitOk u pace then s.place pace ecRate free ms (if i < us.length then us.set i u else us ++ [u]) else none

/-- Rate of EC records for placement (R313). -/
def Work.ecRate (w : Work) : Rat := if w.opcode = Op.burst ∧ w.uiMin ≠ 0 then (4096 : Rat) / w.uiMin else 0

/-- Graph units that no watch holds, ascending. -/
def State.freeUnits (s : State) : List Nat := (List.range 16).filter fun u => !bitOf (s.get F.TALLY_MEAS_UNITS_HELD) u

/-- The units that a watch's measurements take, where a placement on free units exists. -/
def State.placement (s : State) (w : Work) (pace : Nat) : Option (List Nat) :=
  if !w.watches then some []
  else (s.place pace w.ecRate s.freeUnits.length w.measures []).map fun us => s.freeUnits.take us.length

/-- Step 10: R286, R304 (and EDGE_LIN, R541), R284, and R310 but for its last cause; TALLY_GRAPH where no placement exists on 16 units (R401). -/
def State.watchCheck (s : State) (k : Nat) (w : Work) (pace : Nat) : Option Nat :=
  if !w.watches then none
  else
    let slots := w.watchSlots.map s.slotCopy
    let hold := s.holders k
    let region := (w.watchRegion, w.watchSize)
    let areas := w.capArea ++ w.summaryArea ++ s.spillAreas w ++ s.laneAreas w ++
      hold.flatMap fun p => p.2.capArea ++ p.2.summaryArea ++ s.spillAreas p.2 ++ s.laneAreas p.2
    let stamps := hold.flatMap fun p => p.2.stampArea
    let results := w.resultAreas
    let open_ := (s.openWatches k).flatMap fun p => p.2.slots
    firstCause [
      (slots.any fun x => s.slotBad k x, 0x139),
      (meet region s.poolRange || (areas ++ stamps).any (meet region) || s.beyond region || decide (w.watchSize < 528), 0x13A),
      (slots.any fun x => bitOf (s.get F.TALLY_STATUS_SSMS_BUSY) (x.slot / 32) || s.edgeLinOn (x.slot / 32), 0x13B),
      ((List.range 4).any fun r => decide (4 < (((slots ++ open_).filter fun x => x.slot / 32 == r).map TSlot.rho).sum), 0x138),
      ((w.measures.zipIdx.any fun p => s.measBad w p.2 p.1) ||
        slots.any (fun x => x.toGraph && !(w.measures.any fun m => m.slots.contains x.slot)) ||
        results.any (fun a => meet a s.poolRange || (areas ++ stamps ++ [region] ++ hold.flatMap fun p => p.2.resultAreas).any (meet a) ||
          s.beyond a) || !apart results, 0x13C),
      ((s.place pace w.ecRate 16 w.measures []).isNone, 0x13D)]

/-! ## The whole list -/

/-- The order names a channel, lane or TALLY_IN source of an unused Row (R591). -/
def State.namesOffRow (s : State) (w : Work) : Bool :=
  w.chans.any (fun c => s.rowOff (c / 64)) ||
  (w.opcode == Op.burst && (s.boundLanes w.bSeq).any fun k => s.rowOff (k / 16)) ||
  (w.watches && w.watchSlots.any fun n => match sourceRow (s.slotCopy n).source with | some r => s.rowOff r | none => false)

/-- Step 2: a channel of the order is in the safe state, or a declared channel of a burst is halted (R61). -/
def State.safeCheck (s : State) (w : Work) : Bool :=
  (w.usesPins && (s.bit F.FLT_STATUS_SAFE || w.chans.any fun c => s.bit F.CHn_STATUS_SAFE c)) ||
  (w.opcode == Op.burst && w.burstChans.any fun c => s.bit F.CHn_STATUS_HALTED c) || s.namesOffRow w

/-- The joint burst names a device outside this hall. -/
def State.crossesHalls (s : State) (w : Work) : Bool :=
  w.participants.any fun id => id != s.devId && !(s.peers.any fun p => p.2.id == id && s.members.contains p.1)

/-- Step 11: a joint burst (R262, R266, R270, R271). Between halls it needs the installation time, which COARSE says is not yet agreed. -/
def State.jointCheck (s : State) (w : Work) : Option Nat :=
  if w.opcode ≠ Op.burst ∨ !w.isJoint then none
  else firstCause [(!w.launchEn, 0x131), (!s.bit F.GSL_HALL_STATUS_JOINT_OK || (s.crossesHalls w && s.bit F.TIME_STATUS_COARSE), 0x135),
    (w.jointLines.any fun l => bitOf (s.get F.CRIER_STATUS_LAT_SHORT) l, 0x130), ((s.crossed w).any s.linksDown.contains, 0x134)]

/-- Steps 1 to 12 of the table *Admission checks* (R401): the cause of the first that refuses. -/
def State.admissionCause (s : State) (k : Nat) (w : Work) (pace : Nat) : Option Nat :=
  if !s.bit F.TSBANK_REF_MASTER_LOCK then some 0x107
  else if s.safeCheck w then some 0x106
  else if s.get F.STALL_HOST_STATUS_RATE < w.hostRate10 then some 0x104
  else if w.opcode = Op.calLoad ∧ s.ledgerFree = 0 then some 0x140
  else
    s.segCheck w <|> s.seqCheck w <|> s.timingCheck w <|> s.captureCheck k w <|> s.laneCheck k w <|> s.watchCheck k w pace <|>
    s.jointCheck w <|> (if w.opcode = Op.burst ∧ (w.segs.any fun g => 65535 ≤ (s.seg g).refs) then some 0x103 else none)

end Sys2Proof.Machine
end

