-- ==== Sys2Proof/Machine/Toll.lean ====
section
/-!
DEFINITION. The Toll's decision, the delay list and the begin of a window (R398 to R405, R416 to R419).
-/

namespace Sys2Proof.Machine

/-! ## Constants (R402) -/

/-- A pace-bound constant at an assumed pace. -/
def atPace (v pace : Nat) : Nat := ceilDiv (v * 4096) pace

/-- The assumed pace (R21). -/
def State.assumedPace (s : State) : Nat := min 4096 (s.get F.PWR_PACE_READING)

/-- The Toll's lead of an order: L_A for a burst (R403). -/
def Work.lead (w : Work) (pace : Nat) : Tu := if w.opcode = Op.burst then atPace 32768000 pace else 0

/-- The device is in P3 and its exit has not begun: every channel counts as ramping until the exit's end (R588). -/
def State.dormant (s : State) : Bool := decide (3 ≤ s.get F.PWR_STATUS_STATE) && !s.bit F.PWR_STATUS_EXITING

/-- The ready instant (R403, R588). -/
def State.readyAt (s : State) (w : Work) : Tu :=
  if w.opcode ≠ Op.burst then s.fr
  else w.burstChans.foldl (fun t c =>
    let ramp := if s.dormant then some (s.fr + 8192000000 + 8192000) else (s.rampEndAt c).map (· + 8192000)
    let ver := if (s.chan c).verified ∧ !s.dormant then 0 else max s.fr (ramp.getD s.fr) + 16384000
    max t (max (ramp.getD 0) ver)) s.fr

/-- The promise of a timed burst (R405). -/
def Work.promiseAt (w : Work) (s0 : Tu) (pace : Nat) : Tu :=
  s0 + w.duration + max 40960000 (if w.hasWatch ∧ w.measCount ≠ 0 then 81920000 else 0) + (if w.isJoint then 81920000 else 0) +
    atPace 8192000 pace

/-! ## Held resources (R401) -/

/-- Some element of one list is in another. -/
def share (a b : List Nat) : Bool := a.any b.contains

/-- The other orders that hold a resource of the order, but for graph units (table *Held resources*, R401). -/
def State.blockers (s : State) (k : Nat) (w : Work) : List (Nat × Work) :=
  let op := w.opcode
  let hold := s.holders k
  let pinOrder (x : Work) : Bool := [Op.levelSet, Op.pmuMeasure, Op.calLoad].contains x.opcode
  let bursts := s.works.filter fun p => p.1 != k && p.2.opcode == Op.burst && (p.2.held || p.2.stage == .waiting)
  if op = Op.burst then
    (hold.filter fun p => p.2.opcode == Op.burst && (p.2.bSeq == w.bSeq || (p.2.isJoint && share p.2.jointLines w.jointLines))) ++
    hold.filter fun p => pinOrder p.2 && share p.2.chans w.burstChans
  else if op = Op.levelSet ∨ op = Op.pmuMeasure then
    (bursts.filter fun p => share p.2.burstChans w.chans) ++ hold.filter fun p => pinOrder p.2 && share p.2.chans w.chans
  else if op = Op.calLoad then
    (bursts.filter fun p => share p.2.burstChans w.chans) ++
    hold.filter fun p => (p.2.opcode == Op.levelSet || p.2.opcode == Op.pmuMeasure) && share p.2.chans w.chans
  else []

/-- Open watches hold the graph units that the order's measurements need (R309, R401). -/
def State.unitsHeld (s : State) (w : Work) (pace : Nat) : Bool :=
  (w.opcode == Op.burst || w.opcode == Op.tallyArm) && (s.placement w pace).isNone

/-- Step 13: a resource of the order is held (table *Held resources*). -/
def State.resourceHeld (s : State) (k : Nat) (w : Work) (pace : Nat) : Bool :=
  s.blockers k w != [] || s.unitsHeld w pace

/-! ## The decision (R401) -/

/-- What a decision finds. -/
inductive Verdict where
  | refuse (cause : Nat)
  | wait
  | pass (r : Resv) (s0 : Tu) (post : Store Nat Postpone)

/-- The reservation that an order would take with a start instant (R405, R406, R412). -/
def State.resvFor (s : State) (w : Work) (pace : Nat) (s0 : Tu) : Resv :=
  let p := w.power ((s.placement w pace).getD []).length
  { start := s0 - w.lead pace, stop := if w.timed then some (w.promiseAt s0 pace) else none, rates := s.memRates w pace,
    hostRate := (w.hostRate10 : Rat) / 10, peak := p.1, mean := p.2 }

/-- The start instant of an order decided now (R404). -/
def State.startAt (s : State) (w : Work) (pace : Nat) : Tu :=
  if w.launchEn then s.toFree w.launch else if w.opcode = Op.burst then max (s.fr + w.lead pace) (s.readyAt w) else s.fr

/-- Steps 1 to 17 (R401). -/
def State.tollVerdict (s : State) (k : Nat) (w : Work) : Verdict :=
  let pace := s.assumedPace
  match s.admissionCause k w pace with
  | some c => .refuse c
  | none =>
    if s.resourceHeld k w pace || s.bit F.TOLL_STATUS_HOLD then .wait
    else
      let la := w.lead pace
      let tr := s.readyAt w
      let s0 := s.startAt w pace
      if s0 < s.fr + la ∨ s0 < tr then .refuse 0x102
      else
        let r := s.resvFor w pace s0
        let alone := s.postponeFor w r s0 true
        if !s.dramOk [] r alone then .refuse 0x100
        else if !s.awningOk [] r true then .refuse 0x101
        else if !paceOk [] r pace then .refuse 0x102
        else
          let others := (s.holders k).map fun p => p.2.resv
          let post := s.postponeFor w r s0 false
          let all := post.foldl (fun (m : Store Nat Postpone) (p : Nat × Postpone) => Store.put m p.1 p.2) (s.postponed.filter fun p => s.postponeOut p.1)
          if s.dramOk others r all && s.awningOk others r false && paceOk others r pace then .pass r s0 post else .wait

/-- A refusal by the start test of an order with a launch time (R404, R418, R421). -/
def State.lateRefusal (s : State) (w : Work) (cause : Nat) : Bool :=
  let s0 := s.toFree w.launch
  w.launchEn && cause == 0x102 && (decide (s0 < s.fr + w.lead s.assumedPace) || decide (s0 < s.readyAt w))

/-- A Toll refusal: its receipt, its event bits and router events (R399, R421, R454). -/
def State.tollRefuse (s : State) (k : Nat) (w : Work) (cause : Nat) : State :=
  let s := if s.lateRefusal w cause then (s.setBit F.TOLL_EVENTS_LATE).raise 0x46E s.fr else s
  ((s.setBit F.TOLL_EVENTS_REFUSED).raise 0x46C s.fr).finalReceipt k Status.refused cause

/-- CAP_GLITCH_FAIL as the list of its set channels (R216). -/
def State.glitchFail (s : State) : List Nat :=
  (List.range 256).filter fun c => bitOf (s.get F.CAP_GLITCH_FAIL_w_GLITCH_FAIL (c / 32)) (c % 32)

/-- Resources taken and budgets reserved (R112, R132, R287, R399, R405, R409, R534). -/
def State.take (s : State) (k : Nat) (w : Work) (r : Resv) (s0 : Tu) (post : Store Nat Postpone) : State :=
  let pace := s.assumedPace
  let units := (s.placement w pace).getD []
  let w := { w with held := true, pace, s0, resv := r, decided := s.fr, decidedDt := s.dt80 s.fr, promise := (if w.timed then w.promiseAt s0 pace else 0),
                    lanes := if w.opcode = Op.burst then s.boundLanes w.bSeq else [],
                    wasValid := if w.isFill then w.fillSegs.filter (fun g => (s.seg g).valid) else [],
                    wasPost := post.map fun p => (p.1, Store.get? s.postponed p.1) }
  let s := s.setWork k w
  let s := { s with postponed := post.foldl (fun (m : Store Nat Postpone) (p : Nat × Postpone) => Store.put m p.1 p.2) s.postponed }
  let s := if w.watches then s.admitWatch k w units else s
  if w.opcode = Op.burst then
    let s := w.segs.foldl (fun s g => s.setSeg g { s.seg g with refs := (s.seg g).refs + 1 }) s
    let widths := if w.hasCapture ∧ w.capKind = 2 then s.laneSlots w.bSeq w else []
    let q : Seq := { work := some k, cap := { rowBits := s.capRowBits w, widths }, glitchFail := s.glitchFail }
    (s.setSeq w.bSeq q).setIf F.SEQn_STATUS_SESSION w.session w.bSeq
  else if w.isFill then w.fillSegs.foldl (fun s g => s.setSeg g { s.seg g with filling := true, valid := false }) s
  else if w.opcode = Op.calLoad then ((s.set F.LEDG_FREE_RESERVED (s.get F.LEDG_FREE_RESERVED + 1)).refreshLedger).joinEngine k
  else s

/-- The ADMITTED receipt of an order whose resources are taken (R25, R364, R396); the sequencer of a burst shows ADMITTED (R170). -/
def State.admitOrder (s : State) (k : Nat) : State :=
  match s.work? k with
  | none => s
  | some w =>
    let d : Bytes := if w.opcode = Op.burst then leBytes w.pace 2 ++ leBytes (w.s0 % 2 ^ 80) 10
      else if w.opcode = Op.tallyArm then leBytes (w.s0 % 2 ^ 80) 10 else []
    let s := if w.opcode = Op.burst then s.set F.SEQn_STATUS_RUN_STATE 1 w.bSeq else s
    (s.setWork k { w with stage := .admitted, admittedRcpt := true }).raiseReceipt
      { work := k, status := Status.admitted, final := false, detail := d }

/-- A decision is taken back: what `take` took is free again (R23). -/
def State.untake (s : State) (k : Nat) (w : Work) : State :=
  let s := (if w.opcode = Op.burst then s.releaseBurst k w else s).releaseWatch k
  let s := if w.isFill then
      w.fillSegs.foldl (fun s g => s.setSeg g { s.seg g with filling := false, valid := w.wasValid.contains g }) s else s
  let s := if w.opcode = Op.calLoad then s.releaseRecord.refreshLedger else s
  let s := { s with postponed := w.wasPost.foldl (fun (m : Store Nat Postpone) (p : Nat × Option Postpone) =>
    match p.2 with | some x => Store.put m p.1 x | none => Store.del m p.1) s.postponed }
  s.setWork k { w with held := false, admittedRcpt := false, resv := {}, lanes := [], wasValid := [], wasPost := [] }

/-- The ADMITTED receipt of an order is raised and not yet issued: the Toll is still deciding (R23). A joint part's decision stands from HELD
on (log entry 33). -/
def State.deciding (s : State) (k : Nat) (w : Work) : Bool :=
  w.stage == .admitted && !w.isJoint && s.receipts.any fun r => r.work == k && r.status == Status.admitted

/-- A new reading that is lower than the one an order's decision latched, and below the floor pace, restarts the decision (R23): the
assumed pace is the lower of the two, so this is a reading below it. -/
def State.restartDecisions (s : State) (reading : Nat) : State :=
  (s.works.filter fun p => s.deciding p.1 p.2 && decide (reading < p.2.pace)).foldl (fun s p =>
    let s := s.untake p.1 p.2
    { s.modWork p.1 (fun w => { w with stage := .offered }) with
      receipts := s.receipts.filter fun r => !(r.work == p.1 && r.status == Status.admitted) }) s

/-! ## The delay list (R416, R417) -/

/-- Orders on the delay list. -/
def State.waiting (s : State) : List (Nat × Work) := s.works.filter fun p => p.2.stage == .waiting

/-- The first instant within RETRY_MAX at which the Awning, run forward with the admitted work alone, predicts an order's mean power
of headroom (R416). -/
def State.headroomFrom (s : State) (rs : List Resv) (need : Rat) : Nat → Tu → List Rat → Option Tu
  | 0, _, _ => none
  | n + 1, t, temps =>
    let temps := s.awnStep temps (s.awnSplit (s.meanAt rs t))
    let t := t + awnTick
    if need ≤ s.headroomAt rs t temps then some t else s.headroomFrom rs need n t temps

/-- RETRY_MAX, 10 ms (R402). -/
def retryMax : Tu := 40960000000

/-- The last 1 µs tick of device time at or before an instant (R418). -/
def State.tickBefore (s : State) (t : Tu) : Tu := s.toFree ((s.deviceTimeAt t).toNat / 4096000 * 4096000)

/-- The windows and make-up intervals whose end could change the check that failed (R416): those of the orders that hold a resource of
the order, those of the watches that hold graph units, none during a supply-dip hold, else every one that meets its window. -/
def State.freeingEnds (s : State) (k : Nat) (w : Work) (pace : Nat) (r : Resv) : List Tu :=
  let stops (l : List (Nat × Work)) : List Tu := l.filterMap fun p => p.2.resv.stop
  if s.blockers k w != [] then stops (s.blockers k w)
  else if s.unitsHeld w pace then stops ((s.holders k).filter fun p => p.2.watches)
  else if s.bit F.TOLL_STATUS_HOLD then []
  else stops ((s.holders k).filter fun p => p.2.resv.overlaps r) ++ s.postponed.map fun p => (s.makeUp p.2).2

/-- The Awning's budget is a check that fails beside the admitted work (R413). -/
def State.awningFails (s : State) (k : Nat) (w : Work) (pace : Nat) (r : Resv) : Bool :=
  !s.resourceHeld k w pace && !s.bit F.TOLL_STATUS_HOLD && !s.awningOk ((s.holders k).map fun p => p.2.resv) r false

/-- The release time of an order that enters the delay list (R416, R418). -/
def State.releaseAt (s : State) (k : Nat) (w : Work) : Tu :=
  let pace := s.assumedPace
  let r := s.resvFor w pace (s.startAt w pace)
  let rs := (s.holders k).map fun p => p.2.resv
  let head := if s.awningFails k w pace r then (s.headroomFrom rs r.mean 100 s.fr s.awn).toList else []
  let launch := if w.launchEn then [s.tickBefore (s.toFree w.launch - w.lead pace)] else []
  ((s.freeingEnds k w pace r ++ head ++ launch ++ s.holdEnd.toList).filter (s.fr < ·)).foldl min (s.fr + retryMax)


/-- Lexicographic order of decision keys. -/
def keyLt : List Nat → List Nat → Bool
  | a :: as, b :: bs => decide (a < b) || (a == b && keyLt as bs)
  | _, _ => false

/-- The least of a list under a key. -/
def firstBy (key : Work → List Nat) : List (Nat × Work) → Option (Nat × Work)
  | [] => none
  | p :: l => some (l.foldl (fun b x => if keyLt (key x.2) (key b.2) then x else b) p)

/-! ## Joint parts at the Toll (R266) -/

/-- Ten milliseconds: the timers of R266. -/
def jointTimer : Tu := 40960000000

/-- A joint part of this device is refused: a participant votes NO, with the cause as its argument; a coordinator's order is refused (R266). -/
def State.jointRefuse (s : State) (k : Nat) (w : Work) (cause : Nat) : State :=
  let s := match s.joint w.jointId with
    | some j => match j.prep with | some p => s.sendMsg Msg.vote p w.jointId cause | none => s
    | none => s
  (s.tollRefuse k w cause).dropJoint w.jointId

/-- An order that can wait enters the delay list, or is refused where it is full (R399); a joint part then votes NO (R266). -/
def State.defer (s : State) (k : Nat) (w : Work) : State :=
  if 4096 ≤ s.waiting.length then
    let s := (s.setBit F.TOLL_EVENTS_LIST_FULL).raise 0x46F s.fr
    if w.opcode = Op.burst ∧ w.isJoint then s.jointRefuse k w 0x103 else s.tollRefuse k w 0x103
  else
    { (((s.setWork k { w with stage := .waiting, release := s.releaseAt k w, entered := s.nextEntry }).setBit F.TOLL_EVENTS_DEFERRED).raise
        0x46D s.fr) with nextEntry := s.nextEntry + 1 }

/-- The budgets of a joint part hold: its reservations are HELD (R266). From then on the part counts in its segments' references, although it is not
yet ADMITTED (DESIGN CHOICE, log entry 38; R112 counts admitted bursts). -/
def State.jointHeld (s : State) (k : Nat) (w : Work) (r : Resv) (s0 : Tu) (post : Store Nat Postpone) : State :=
  let s := (s.take k w r s0 post).modWork k fun w => { w with stage := .joint }
  let j := (s.joint w.jointId).getD { work := some k }
  if s.coordinates w then
    (s.setJoint w.jointId { j with phase := .preparing, work := some k, timer := some (s.fr + jointTimer), prepared := 2 }).sendMsg
      Msg.prepare (s.posOf (w.participants.getD 1 0)) w.jointId 0
  else
    (s.setJoint w.jointId { j with phase := .held, work := some k, timer := some (s.fr + jointTimer) }).sendMsg
      Msg.vote (j.prep.getD 0) w.jointId 0

/-- A joint burst's own order reaches its Toll: a participant without PREPARE waits for it (R266). -/
def State.jointAwaits (s : State) (k : Nat) (w : Work) : Option State :=
  match s.joint w.jointId with
  | some j =>
    if j.prep.isSome ∨ s.coordinates w ∨ j.phase ≠ .awaiting then none
    else some ((s.setJoint w.jointId { j with work := some k }).modWork k fun w => { w with stage := .joint })
  | none =>
    if s.coordinates w then none
    else some ((s.setJoint w.jointId { work := some k, timer := some (s.fr + jointTimer) }).modWork k fun w => { w with stage := .joint })

/-- The Toll decides a joint part (R266). -/
def State.decideJoint (s : State) (k : Nat) (w : Work) : State :=
  match s.jointAwaits k w with
  | some t => t
  | none =>
    let j := (s.joint w.jointId).getD {}
    let s := s.setJoint w.jointId { j with phase := .deciding, work := some k, timer := none }
    match s.tollVerdict k w with
    | .refuse c => s.jointRefuse k w c
    | .wait => s.defer k w
    | .pass r s0 post => s.jointHeld k w r s0 post

/-! ## The rows -/

/-- TOLL_DECISION: the Toll decides the first order offered to it (R398, R399, R401). -/
def execTollDecision (s : State) : Host.Outcome State Fault Refusal :=
  match firstBy (·.key) (s.works.filter fun p => p.2.stage == .offered) with
  | none => .next s
  | some (k, w) =>
    let s := s.set F.TOLL_STATUS_PACE (s.get F.PWR_PACE_READING)
    if w.opcode = Op.burst ∧ w.isJoint then .next (s.decideJoint k w)
    else match s.tollVerdict k w with
      | .refuse c => .next (s.tollRefuse k w c)
      | .wait => .next (s.defer k w)
      | .pass r s0 post => .next ((s.take k w r s0 post).admitOrder k)

/-- The first 1 µs tick of device time at or after an instant (R417). -/
def State.tickAt (s : State) (t : Tu) : Tu :=
  s.toFree (ceilDiv (s.deviceTimeAt t).toNat 4096000 * 4096000)

/-- DELAY_RELEASE: the tick at or after the earliest release time: the order is offered again, before those that arrive then (R398,
R417). -/
def execDelayRelease (s : State) : Host.Outcome State Fault Refusal :=
  match firstBy (fun w => [w.release, w.entered]) s.waiting with
  | none => .next s
  | some (k, w) =>
    let s := s.advanceTo (s.tickAt w.release)
    .next (s.setWork k { w with stage := .offered, key := [s.fr, 0, w.release, w.entered] })

/-- WINDOW_START: the window of an admitted order begins (R405). A window that begins during a supply warning overlaps the dip
(R554, R555). -/
def execWindowStart (k : Nat) (s : State) : Host.Outcome State Fault Refusal :=
  match s.work? k with
  | none => .next s
  | some w =>
    if w.stage ≠ .admitted then .next s
    else
      let s := (s.advanceTo w.resv.start).setWork k { w with stage := .window }
      if (Store.keys s.warnSince).any fun r => { w with stage := .window }.inDipScope r then .next (s.voidWork k 0x226) else .next s

end Sys2Proof.Machine
end

