-- ==== Sys2Proof/Machine/Time.lean ====
section
/-!
DEFINITION. Device time: its changes, the calendar, the servo, the receive rings, the backup count (spec/19_time_network.md).
-/

namespace Sys2Proof.Machine

/-- One second, one microsecond in tu (R488). -/
def second : Nat := 4096000000000
def microTu : Nat := 4096000

/-! ## Changes of OFFSET and RATE (R485 to R487) -/

/-- Write OFFSET. -/
def State.setOffset (s : State) (o : Int) : State :=
  let v := unsigned o 96
  ((s.wr ⟨.TIME_OFFSET_0, 0, 0⟩ (BitVec.ofNat 32 v)).wr ⟨.TIME_OFFSET_1, 0, 0⟩ (BitVec.ofNat 32 (v / 2 ^ 32))).wr
    ⟨.TIME_OFFSET_2, 0, 0⟩ (BitVec.ofNat 32 (v / 2 ^ 64))

/-- Write RATE. -/
def State.setRate (s : State) (r : Int) : State :=
  let v := unsigned r 40
  (s.wr ⟨.TIME_RATE_0, 0, 0⟩ (BitVec.ofNat 32 v)).set F.TIME_RATE_1_RATE (v / 2 ^ 32)

/-- A new pair takes effect; a change that changes something counts in GEN (R486). -/
def State.applyTime (s : State) (o r : Int) : State :=
  if o = s.offset ∧ r = s.rate then s
  else ((s.setOffset o).setRate r).set F.TIME_STATUS_GEN ((s.get F.TIME_STATUS_GEN + 1) % 2 ^ 16)

/-- OFFSET after a step and a change of rate at a hall instant: device time jumps by the step only (R486). -/
def State.changedOffset (s : State) (step rate h : Int) : Int :=
  s.offset + step + (h * s.rate).fdiv (2 ^ 48) - (h * rate).fdiv (2 ^ 48)

/-- The device belongs to a hall of more than one device that has elected its master (R487). -/
def State.inHall (s : State) : Bool := decide (1 < s.hallSize) && (s.get F.GSL_HALL_STATUS_STATE == 2 || s.get F.GSL_HALL_STATUS_STATE == 3)

/-- The device follows a hall master (R487). -/
def State.isMember (s : State) : Bool := s.bit F.TIME_STATUS_MEMBER

/-- A change requested here: at once outside a hall; on a hall master it waits for the pair of TIME messages, and joins a change
that has not yet taken effect (R487, R505). -/
def State.requestTime (s : State) (step rate : Int) : State :=
  if s.inHall then
    let old := match s.timeNext with | some c => c.step | none => 0
    { s with timeNext := some { step := old + step, rate } }
  else s.applyTime (s.changedOffset step rate s.hallTime) rate

/-- RATE as last set: that of the change that waits, or the one in force (R505). -/
def State.rateSet (s : State) : Int := match s.timeNext with | some c => c.rate | none => s.rate

/-- OFFSET would leave its range with a step (R507). -/
def State.stepTooFar (s : State) (step : Int) : Bool :=
  let old := match s.timeNext with | some c => c.step | none => 0
  decide (2 ^ 87 < (s.offset + old + step).natAbs)

/-- Limit of RATE: 1,000 ppm (R485). -/
def rateMax : Int := 281474976

/-- A host step or calendar write disciplines device time; on a member COARSE is the hall's (R488, R504). -/
def State.timeIsSet (s : State) : State := { s.clrBit F.TIME_STATUS_COARSE with timeSet := true }

/-- The device ignores a TIME_CMD: a member, or an enabled servo (R487, R498). -/
def State.cmdIgnored (s : State) : Bool := s.isMember || s.bit F.PTP_SERVO_CTRL_EN

/-- The staged step and rate. -/
def State.stagedStep (s : State) : Int :=
  signed ((s.rd ⟨.TIME_STEP_0, 0, 0⟩).toNat + (s.rd ⟨.TIME_STEP_1, 0, 0⟩).toNat * 2 ^ 32 + (s.rd ⟨.TIME_STEP_2, 0, 0⟩).toNat * 2 ^ 64) 96
def State.stagedRate (s : State) : Int :=
  signed ((s.rd ⟨.TIME_RATE_STAGE_0, 0, 0⟩).toNat + s.get F.TIME_RATE_STAGE_1_RATE * 2 ^ 32) 40

/-- STEP and RATE of a TIME_CMD write: one change (R486, R505, R507). -/
def State.stepRate (s : State) (step rate : Bool) : State :=
  let stepOk := step && !s.stepTooFar s.stagedStep
  let rateOk := rate && decide (s.stagedRate.natAbs ≤ 281474976)
  let s := if (step && !stepOk) || (rate && !rateOk) then s.setBit F.TIME_EVENTS_RANGE else s
  if stepOk || rateOk then
    let s := s.requestTime (if stepOk then s.stagedStep else 0) (if rateOk then s.stagedRate else s.rateSet)
    if stepOk then s.timeIsSet else s
  else s

/-! ## Calendar (R491 to R493) -/

/-- A leap year (R491). -/
def leapYear (y : Nat) : Bool := y % 4 == 0 && (y % 100 != 0 || y % 400 == 0)

/-- Days of a month. -/
def monthDays (y m : Nat) : Nat := if m = 2 then (if leapYear y then 29 else 28) else if m = 4 ∨ m = 6 ∨ m = 9 ∨ m = 11 then 30 else 31

/-- Days from 1970-01-01 to 1 January of a year from 1970 on. -/
def yearStart (y : Nat) : Nat :=
  let leaps (n : Nat) : Nat := n / 4 - n / 100 + n / 400
  365 * (y - 1970) + leaps (y - 1) - leaps 1969

/-- Days of a year before the first of a month. -/
def monthStart (y m : Nat) : Nat := ((List.range (m - 1)).map fun i => monthDays y (i + 1)).sum

/-- The year, month and day of a day count since 1970-01-01, from 2000 to 2399. -/
def dateOf (n : Nat) : Option (Nat × Nat × Nat) :=
  match ((List.range 400).map (2000 + ·)).find? fun y => decide (yearStart y ≤ n) && decide (n < yearStart (y + 1)) with
  | none => none
  | some y =>
    let d := n - yearStart y
    match ((List.range 12).map (· + 1)).find? fun m => decide (monthStart y m ≤ d) && decide (d < monthStart y (m + 1)) with
    | none => none
    | some m => some (y, m, d - monthStart y m + 1)

/-- UTC_OFFSET, signed. -/
def State.utcOffset (s : State) : Int := signed (s.get F.TIME_UTC_UTC_OFFSET) 16

/-- TIME_CAL_0 and TIME_CAL_1 at a device time (R491). -/
def State.calWords (s : State) (d : Int) : Nat × Nat :=
  let sec := d.fdiv second - s.utcOffset
  if sec < 0 then (0, 0)
  else
    let n := sec.toNat
    match dateOf (n / 86400) with
    | none => (0, 0)
    | some (y, m, day) =>
      let t := n % 86400
      let us := (d.fmod second).toNat / microTu
      ((y - 2000) * 2 ^ 23 + m * 2 ^ 19 + day * 2 ^ 14 + t / 3600 * 2 ^ 9 + t / 60 % 60 * 2 ^ 3 + ((n / 86400 + 3) % 7 + 1),
       2 ^ 31 + t % 60 * 2 ^ 25 + us * 2 ^ 5)

/-- The staged date as a device time; none where a check of R493 fails. -/
def State.stagedDate (s : State) : Option Int :=
  let y := 2000 + s.get F.TIME_CALSET_0_YEAR
  let m := s.get F.TIME_CALSET_0_MONTH
  let d := s.get F.TIME_CALSET_0_DAY
  let h := s.get F.TIME_CALSET_0_HOUR
  let mi := s.get F.TIME_CALSET_0_MINUTE
  let sec := s.get F.TIME_CALSET_1_SECOND
  let us := s.get F.TIME_CALSET_1_MICRO
  let resv := (s.rd ⟨.TIME_CALSET_0, 0, 0⟩).toNat % 8 + (s.rd ⟨.TIME_CALSET_1, 0, 0⟩).toNat % 32 + (s.rd ⟨.TIME_CALSET_1, 0, 0⟩).toNat / 2 ^ 31
  if y ≤ 2399 ∧ 1 ≤ m ∧ m ≤ 12 ∧ 1 ≤ d ∧ d ≤ monthDays y m ∧ h ≤ 23 ∧ mi ≤ 59 ∧ sec ≤ 59 ∧ us ≤ 999999 ∧ resv = 0 then
    let n : Nat := (yearStart y + monthStart y m + d - 1) * 86400 + h * 3600 + mi * 60 + sec
    some (((n : Int) + s.utcOffset) * second + us * microTu)
  else none

/-- CAL of a TIME_CMD write (R493). -/
def State.calCommit (s : State) : State :=
  match s.stagedDate with
  | none => s.setBit F.TIME_EVENTS_DATE_INVALID
  | some d =>
    let step := d - s.deviceTime - (match s.timeNext with | some c => c.step | none => 0)
    if s.stepTooFar step then s.setBit F.TIME_EVENTS_RANGE
    else ((s.requestTime step s.rateSet).timeIsSet).clrBit F.TIME_STATUS_LOST

/-- A write of TIME_CMD: a step and a rate are one change, a calendar commit follows them. -/
def State.timeCmd (s : State) (v : Word) : State :=
  if v.toNat % 8 = 0 then s
  else if s.cmdIgnored then s.setBit F.TIME_EVENTS_CMD_IGNORED
  else
    let s := s.stepRate (v.getLsbD 0) (v.getLsbD 1)
    if v.getLsbD 2 then s.calCommit else s

/-- TIME_STEP: TIME_CMD.STEP, with RATE in the same write where `rate` (R486, R505). -/
def execTimeStep (rate : Bool) (s : State) : Host.Outcome State Fault Refusal :=
  if s.booted then .next (s.timeCmd (if rate then 3#32 else 1#32)) else .next s

/-- TIME_RATE: TIME_CMD.RATE (R486). -/
def execTimeRate (s : State) : Host.Outcome State Fault Refusal := if s.booted then .next (s.timeCmd 2#32) else .next s

/-- TIME_CAL: TIME_CMD.CAL (R493). -/
def execTimeCal (s : State) : Host.Outcome State Fault Refusal := if s.booted then .next (s.timeCmd 4#32) else .next s

/-- TIME_CHANGE_EFFECT: the hall instant of a pair of TIME messages (R487). -/
def execTimeChangeEffect (s : State) : Host.Outcome State Fault Refusal :=
  match s.timeNext with
  | some { rate, offset := some o, at_ := some h, .. } =>
    .next ({ s.advanceTo (h - s.corr).toNat with timeNext := none }.applyTime o rate)
  | _ => .next s

/-- UTC_OFFSET_WRITE (R492). -/
def execUtcOffsetWrite (v : Word) (s : State) : Host.Outcome State Fault Refusal :=
  if s.booted then .next (s.set F.TIME_UTC_UTC_OFFSET v.toNat) else .next s

/-! ## The servo (R498, R499) -/

/-- Bound a number. -/
def clampInt (x lo hi : Int) : Int := max lo (min hi x)

/-- The PI update with the servo in a state (R498). -/
def State.servoUpdate (s : State) (theta : Int) : State :=
  let integ := clampInt (s.servo.integ + theta) (-2 ^ 40) (2 ^ 40)
  let y := -((theta * s.get F.PTP_SERVO_GAIN_KP).fdiv (2 ^ 16)) - (integ * s.get F.PTP_SERVO_GAIN_KI).fdiv (2 ^ 24)
  let y := clampInt y (-rateMax) rateMax
  let slew : Int := s.get F.PTP_SERVO_CTRL_LOCK_SLEW
  let y := if s.get F.PTP_SERVO_STATUS_STATE = 3 then clampInt y (s.rateSet - slew) (s.rateSet + slew) else y
  ({ s with servo := { s.servo with integ } }).requestTime 0 y

/-- An input is counted toward LOCK, or ends the count (R499). -/
def State.servoCount (s : State) (theta : Int) : State :=
  { s with servo := { s.servo with good := if theta.natAbs ≤ s.get F.PTP_SERVO_THRESH_LOCK_THRESH then s.servo.good + 1 else 0 } }

/-- One offset input (R498, R499). -/
def State.servoInput (s : State) (theta : Int) : State :=
  let s := { s with servo := { s.servo with last := s.fr } }
  if s.get F.PTP_SERVO_THRESH_STEP_THRESH * 4096 < theta.natAbs then
    let s := if s.stepTooFar (-theta) then s.setBit F.TIME_EVENTS_RANGE else s.requestTime (-theta) s.rateSet
    ({ s with servo := { s.servo with integ := 0, good := 0 } }).set F.PTP_SERVO_STATUS_STATE 1
  else
    let t := s.servoUpdate theta
    match s.get F.PTP_SERVO_STATUS_STATE with
    | 1 => ({ t with servo := { t.servo with good := 0 } }).set F.PTP_SERVO_STATUS_STATE 2
    | 3 => if 4 * s.get F.PTP_SERVO_THRESH_LOCK_THRESH < theta.natAbs then
        ({ t with servo := { t.servo with good := 0 } }).set F.PTP_SERVO_STATUS_STATE 2 else t
    | _ =>
      let t := (t.servoCount theta).set F.PTP_SERVO_STATUS_STATE 2
      if 16 ≤ t.servo.good then (t.set F.PTP_SERVO_STATUS_STATE 3).timeIsSet else t

/-- SERVO_INPUT: a write of PTP_SERVO_IN_1 applies the input; without effect with the servo off or on a member (R498). -/
def execServoInput (v : Word) (s : State) : Host.Outcome State Fault Refusal :=
  if !s.booted ∨ s.get F.PTP_SERVO_STATUS_STATE = 0 ∨ s.isMember then .next s
  else .next (s.servoInput (signed ((s.rd ⟨.PTP_SERVO_IN_0, 0, 0⟩).toNat + v.toNat * 2 ^ 32) 64))

/-- SERVO_HOLDOVER: HOLD_TIMEOUT seconds without an input (R499). -/
def execServoHoldover (s : State) : Host.Outcome State Fault Refusal :=
  let st := s.get F.PTP_SERVO_STATUS_STATE
  if st = 1 ∨ st = 2 ∨ st = 3 then
    let s := s.advanceTo (s.servo.last + s.get F.PTP_SERVO_CTRL_HOLD_TIMEOUT * second)
    .next (({ s with servo := { s.servo with good := 0 } }).set F.PTP_SERVO_STATUS_STATE 4)
  else .next s

/-- A write of PTP_SERVO_CTRL; EN has no effect on a member (R498, R499). -/
def State.servoCtrlWrite (s : State) (v : Word) : State :=
  let s := ((s.set F.PTP_SERVO_CTRL_HOLD_TIMEOUT (v.toNat / 2 ^ 16)).set F.PTP_SERVO_CTRL_LOCK_SLEW v.toNat).setIf F.PTP_SERVO_CTRL_EN (v.getLsbD 31)
  if s.isMember then s
  else if !v.getLsbD 31 then s.set F.PTP_SERVO_STATUS_STATE 0
  else if s.get F.PTP_SERVO_STATUS_STATE = 0 then
    ({ s with servo := { integ := 0, good := 0, last := s.fr } }).set F.PTP_SERVO_STATUS_STATE 1
  else s

/-! ## Ethernet reception (R495, R497) -/

/-- The first address of a port's receive ring. -/
def State.rxBase (s : State) (n : Nat) : Nat :=
  s.get F.PTP_PORTn_RXRING_0_BASE_LO n * 2 ^ 11 + s.get F.PTP_PORTn_RXRING_1_BASE_HI n * 2 ^ 32

/-- A frame is dropped and counted. -/
def State.rxDrop (s : State) (n : Nat) : State := s.countUp F.PTP_PORTn_COUNTS_DROP 1 n

/-- A signed 32-bit register of a port, in tu. -/
def State.portSigned (s : State) (r : RegName) (n : Nat) : Int := signed (s.rd ⟨r, n, 0⟩).toNat 32

/-- The descriptor of a received frame (R497). A frame that is not an event message carries no stamps; its stamp bytes are free. -/
def State.rxDescriptor (s : State) (n : Nat) (len : Nat) (event vlan : Bool) (pcs : Int) : Bytes :=
  let f : Int := pcs - s.portSigned .PTP_PORTn_RXLAT n
  leBytes len 2 ++ leBytes ((if event then 1 else 0) + (if vlan then 2 else 0)) 1 ++ [0#8] ++
    leBytes (s.rd ⟨.PTP_PORTn_RXPROD, n, 0⟩).toNat 4 ++
    (if event then leBytes (unsigned f 80) 10 ++ leBytes (s.dt80 f.toNat) 10 else leBytes s.freeVal 20) ++ leBytes 0 4

/-- The frames written in the present second (R497). -/
def State.rxRate (s : State) (n : Nat) : Tu × Nat :=
  let p := Store.getD s.ptpRate n (s.fr, 0)
  if p.1 + second ≤ s.fr then (s.fr, 0) else p

/-- PTP_FRAME_RECEIVE: a frame without its FCS arrives at a port; `fcs`: its FCS is correct; `pcs` is its PCS stamp (R494, R495, R497). -/
def execPtpFrameReceive (n : Nat) (frame : Bytes) (fcs : Bool) (pcs : Nat) (s : State) : Host.Outcome State Fault Refusal :=
  if !s.bit F.PTP_PORTn_CFG_EN n then .next s
  else
    match ptpAt frame with
    | none => .next (s.countUp F.PTP_PORTn_COUNTS_OTHER 1 n)
    | some a =>
      if !fcs ∨ !bitOf (s.get F.PTP_PORTn_CFG_TRANSPORT n) a.transport then .next (s.countUp F.PTP_PORTn_COUNTS_OTHER 1 n)
      else
        let r := s.rxRate n
        let prod := (s.rd ⟨.PTP_PORTn_RXPROD, n, 0⟩).toNat
        let used := (prod + 2 ^ 32 - (s.rd ⟨.PTP_PORTn_RXCONS, n, 0⟩).toNat) % 2 ^ 32
        let size := 2 ^ s.get F.PTP_PORTn_RXRING_1_SIZE_LOG2 n
        if 100000 ≤ r.2 ∨ size ≤ used then .next (s.rxDrop n)
        else
          let event := a.event frame
          let d := s.rxDescriptor n frame.length event a.vlan pcs ++ heardFrame frame (s.portSigned .PTP_PORTn_ASYM n)
          let at_ := s.rxBase n + prod % size * 2048
          let s := ({ s with mem := Mem.setBytes s.mem at_ d, ptpRate := Store.put s.ptpRate n (r.1, r.2 + 1) }).unpoison at_ d.length
          .next ((if event then s else s.useFree).wr ⟨.PTP_PORTn_RXPROD, n, 0⟩ (BitVec.ofNat 32 (prod + 1)))

/-! ## Ethernet transmission (R392, R495, R496, R500) -/

/-- The frame that leaves a port next: a late one at once, the others by launch instant. -/
def nextFrame : List LaunchFrame → Option LaunchFrame
  | [] => none
  | f :: l => some (l.foldl (fun b x => if (x.late && !b.late) || (x.late == b.late && decide (x.at_ < b.at_)) then x else b) f)

/-- FRAME_TRANSMIT: a frame leaves port `p`; `pcs`: the PCS stamp of its first bit, which at the connector lies within 8 ns of the launch
instant unless the frame is late (R500). Its receipt carries the stamp (R396). -/
def execFrameTransmit (p pcs : Nat) (s : State) : Host.Outcome State Fault Refusal :=
  match nextFrame (s.frames p) with
  | none => .next s
  | some f =>
    let stamp := ((pcs : Int) + s.portSigned .PTP_PORTn_TXLAT p).toNat
    if !f.late ∧ (stamp + 32768 < f.at_ ∨ f.at_ + 32768 < stamp) then .next s
    else
      let s := (s.advanceTo stamp).setFrames p ((s.frames p).erase f)
      let dt := s.dt80 stamp
      match s.work? f.work with
      | none => .next s
      | some w =>
        let sent := sentFrame w.data (s.portSigned .PTP_PORTn_ASYM p) (s.bit F.PTP_PORTn_CFG_ONE_STEP p) dt
        .next ({ s with ethOut := Store.put s.ethOut p (sent, stamp) }.finalReceipt f.work Status.complete 0
          (leBytes dt 10 ++ leBytes (if f.late then 1 else 0) 1))

/-! ## Backup time (R502, R503) -/

/-- BACKUP_TIME_WRITE: at a whole second of device time the core die writes it to the keeper (R502). -/
def execBackupTimeWrite (s : State) : Host.Outcome State Fault Refusal :=
  if !s.timeSet then .next s
  else
    let s := s.advanceTo (s.toFree (ceilDiv s.deviceTime.toNat second * second))
    let us := s.deviceTime.toNat / microTu % 2 ^ 56
    .next (((s.wr ⟨.TIME_BACKUP_0, 0, 0⟩ (BitVec.ofNat 32 us)).set F.TIME_BACKUP_1_COUNT (us / 2 ^ 32)).setBit F.TIME_BACKUP_1_TV)

/-- TV_CLEAR: the keeper rail falls below its retention threshold (R503). -/
def execTvClear (s : State) : Host.Outcome State Fault Refusal := .next (s.clrBit F.TIME_BACKUP_1_TV)

end Sys2Proof.Machine
end

