-- ==== Sys2Proof/Machine/Halls.lean ====
section
/-!
DEFINITION. Halls: frames, links, the election, hall time, the Crier bus and the exchange of joint bursts (spec/09_halls.md).
-/

namespace Sys2Proof.Machine

/-! ## The state of the hall (R252, R256, R262, R271) -/

/-- Bring JOINT_OK, WARM and a member's COARSE up to date (R274, R301, R504). -/
def State.refreshHall (s : State) : State :=
  let ready := s.get F.GSL_HALL_STATUS_STATE == 3
  let s := (s.setIf F.GSL_HALL_STATUS_JOINT_OK (ready && s.bit F.GSL_CTRL_ID_LOCK && !s.idConflict)).refreshWarm
  if s.isMember then s.setIf F.TIME_STATUS_COARSE (!ready) else s

def State.setHallState (s : State) (v : Nat) : State := (s.set F.GSL_HALL_STATUS_STATE v).refreshHall

/-- The port that ends on a link: its DOWN port on the link of its own number, its UP port on the one before. -/
def State.ownPort (s : State) (l : Nat) : Option Nat := (List.range 4).find? fun p => s.portLink p == some l

/-- Offset of the far end of a link in the direction DOWN, as this device knows it (R254, R256). -/
def State.linkTheta (s : State) (l : Nat) : Int :=
  match s.ownPort l with
  | some p => if s.get F.GSL_PORTn_CFG_ROLE p = 1 then (s.gslPort p).theta else -(s.gslPort p).theta
  | none => Config.linkTheta l s.fr

/-- The hall correction (R256): the negated sum of the offsets along the route from the master; 0 on the master. -/
def State.correction (s : State) : Int :=
  let r := s.gslRoute (s.get F.GSL_HALL_STATUS_MASTER_POS) s.pos
  let sum := (r.2.map s.linkTheta).sum
  if s.bit F.GSL_HALL_STATUS_IS_MASTER then 0 else if r.1 then -sum else sum

/-- Take a new hall correction; device time changes with it (R256, R486). -/
def State.refreshCorr (s : State) : State :=
  let c := s.correction
  if c = s.corr then s
  else (s.wr80 .GSL_CORR_0 .GSL_CORR_1 .GSL_CORR_2 0 (unsigned c 80)).set F.TIME_STATUS_GEN ((s.get F.TIME_STATUS_GEN + 1) % 2 ^ 16)

/-- The route from a position to this device uses only links that are UP. -/
def State.reaches (s : State) (a : Nat) : Bool := !(s.gslRoute a s.pos).2.any s.linksDown.contains

/-- DELAY of a link as this device knows it. -/
def State.linkDelay (s : State) (l : Nat) : Nat :=
  match s.ownPort l with
  | some p => s.get F.GSL_PORTn_DELAY_DELAY p
  | none => Config.linkDelay l s.fr

/-- The latencies of a route from a position to this device: the DELAY of every link, and the forwarding of every device between (R262). -/
def State.routeDelay (s : State) (a : Nat) : Nat :=
  let links := (s.gslRoute a s.pos).2
  (links.map s.linkDelay).sum +
    (((links.map fun l => (l + 1) % s.ringSize).filter fun p => p != a && p != s.pos).map Config.forwardLatency).sum

/-- A line of a configuration is unusable on this device (R262, R263): its source names no device of the hall, or a change at the start of its
window, which takes the window, a frame time and the route, cannot arrive 100 ns before its action instant. -/
def State.latShort (s : State) (c : CrierCfg) (l : Nat) : Bool :=
  let a := c.pos.getD l 0
  bitOf c.en l && (!s.members.contains a || !s.reaches a || decide (c.lat * 4096 < 2 * 40960 + s.routeDelay a + 409600))

/-- Check every enabled line, of the configuration in force and of those that wait (R262). -/
def State.checkLat (s : State) : State :=
  s.set F.CRIER_STATUS_LAT_SHORT (ofSet ((List.range 8).filter fun l => (s.crierNow :: s.crierCfg).any fun c => s.latShort c l) 8)

/-- Routes have changed: the correction and the lines are checked anew (R256, R262, R270). -/
def State.rerouted (s : State) : State :=
  if s.get F.GSL_HALL_STATUS_STATE = 3 then s.refreshCorr.checkLat else s

/-! ## Election and formation (R252, R253, R271) -/

/-- The data and argument of this device's ADVERT (R248). -/
def State.advertData (s : State) : Nat := (s.rd ⟨.GSL_SERIAL_0, 0, 0⟩).toNat + (s.rd ⟨.GSL_SERIAL_1, 0, 0⟩).toNat * 2 ^ 32
def State.advertArg (s : State) : Nat := s.get F.GSL_STRAP_CANDIDATE + 2 * s.get F.TALLY_STATUS_OVEN_READY

/-- What this device would record from its own ADVERT. -/
def State.selfPeer (s : State) : Peer :=
  { id := s.devId, serial := s.advertData, candidate := s.bit F.GSL_STRAP_CANDIDATE, oven := s.bit F.TALLY_STATUS_OVEN_READY }

/-- The member of a list with the lowest serial number. -/
def lowestSerial : List (Nat × Peer) → Option (Nat × Peer)
  | [] => none
  | p :: l => some (l.foldl (fun b x => if x.2.serial < b.2.serial then x else b) p)

/-- The master among the devices known (R252). -/
def electMaster (l : List (Nat × Peer)) : Option (Nat × Peer) :=
  let c := l.filter (·.2.candidate)
  match lowestSerial (c.filter (·.2.oven)) with
  | some p => some p
  | none => lowestSerial c

/-- A device ID that this device has and another has reported: neither takes part in joint bursts until reset (R247). -/
def State.checkIds (s : State) : State :=
  if s.peers.any fun p => p.2.id == s.devId then { s.setBit F.GSL_HALL_EVENTS_DEVID_CONFLICT with idConflict := true }.refreshHall else s

/-- The ring positions that this device can reach, other than its own. -/
def State.reachable (s : State) : List Nat := (List.range s.ringSize).filter fun a => a != s.pos && s.reaches a

/-- Every ring link that this device ends on is UP, or is known to be down or out of the ring (R271 step 5). -/
def State.ringCalibrated (s : State) : Bool :=
  decide (s.ringSize ≤ 1) || (List.range 4).all fun p =>
    s.get F.GSL_PORTn_CFG_ROLE p ≥ 2 || (s.gslPort p).bad || s.get F.GSL_PORTn_STATUS_STATE p == 3 ||
      (match s.portLink p with | some l => s.linksDown.contains l | none => true)

/-- Send the Crier configuration to every device (R248, R263). -/
def State.sendCrierCfg (s : State) (c : CrierCfg) : State :=
  s.sendMsg Msg.crierCfg 0x3F (c.lat % 2 ^ 13 + (c.pos.zipIdx.map fun p => p.1 % 64 * 2 ^ (13 + 6 * p.2)).sum) (c.en % 256)

/-- The hall is ready on this device: its links are calibrated and the master's Crier values are in force (R271 steps 5 to 7). -/
def State.tryReady (s : State) : State :=
  let master := s.bit F.GSL_HALL_STATUS_IS_MASTER
  if s.get F.GSL_HALL_STATUS_STATE = 2 ∧ s.ringCalibrated ∧ s.reaches (s.get F.GSL_HALL_STATUS_MASTER_POS) ∧ (master ∨ s.hallCfg) then
    let s := if master then s.sendCrierCfg s.crierNow else s
    (((s.refreshCorr.setHallState 3).setBit F.GSL_HALL_EVENTS_HALL_READY)).checkLat
  else s

/-- A line takes a level at an instant on this device: its LEVEL bit, its change source, the holds that wait for it (R159, R261). -/
def State.crierTakes (s : State) (l : Nat) (level : Bool) (t : Tu) : State :=
  let s := { s with crier := Store.put s.crier l (level, t) }
  let bits := (setBits (s.get F.CRIER_STATUS_LEVEL) 8).filter (· != l) ++ (if level then [l] else [])
  ((s.set F.CRIER_STATUS_LEVEL (ofSet bits 8)).raise (0x400 + l) t level).crierHolds l level t

/-- An enabled line whose source is no device of the hall stays low (R263). -/
def State.dropLines (s : State) : State :=
  ((List.range 8).filter fun l => s.crierEn l && !s.members.contains (s.crierPos l)).foldl (fun s l =>
    let s := { s with crierWait := s.crierWait.filter (·.line != l) }
    if s.crierLevel l then s.crierTakes l false s.fr else s) s

/-- The election is final: the adverts of every other position that can be reached have come since it began (R252). A device whose master clock is
not locked takes no part (R253, R271). -/
def State.tryElect (s : State) : State :=
  let st := s.get F.GSL_HALL_STATUS_STATE
  if (st ≠ 1 ∧ st ≠ 4) ∨ !s.bit F.TSBANK_REF_MASTER_LOCK ∨ !(s.reachable.all fun a => (Store.get? s.peers a).any (·.fresh)) then s
  else
    let devs := (s.pos, s.selfPeer) :: s.peers.filter fun p => s.reachable.contains p.1
    let s := { s with members := devs.map fun (p : Nat × Peer) => p.1 }.dropLines
    let n := s.ringSize
    match electMaster devs with
    | none => ((s.setBit F.GSL_HALL_EVENTS_NO_MASTER).clrBit F.TIME_STATUS_MEMBER).setHallState 5
    | some (m, p) =>
      let me := m == s.pos
      let changed : Bool := s.hallSize == 0 || s.get F.GSL_HALL_STATUS_MASTER_POS != m
      let s := if changed then s.setBit F.GSL_HALL_EVENTS_MASTER_CHANGE else s
      let s := ((s.set F.GSL_HALL_STATUS_SIZE n).set F.GSL_HALL_STATUS_MASTER_POS m).setIf F.GSL_HALL_STATUS_IS_MASTER me
      let s := (s.setIf F.GSL_HALL_STATUS_REF_FOREIGN (m != Config.refSource)).setIf F.TIME_STATUS_MEMBER (!me)
      ({ s with masterOven := p.oven, hallCfg := false }.setHallState 2).tryReady

/-- Begin an election: an ADVERT goes to every device, and those of an earlier election no longer count (R252). -/
def State.startElection (s : State) (st : Nat) : State :=
  let s := { s with electAt := s.fr, peers := s.peers.map fun (p : Nat × Peer) => (p.1, { p.2 with fresh := false }) }
  ((s.setHallState st).sendMsg Msg.advert 0x3F s.advertData s.advertArg).tryElect

/-- The ring links of this device are trained and the master clock has locked: the hall's election begins (R271 steps 2 to 4); a device that lost its
hall with its lock begins one when it has locked again (R253). -/
def State.tryForm (s : State) : State :=
  let up (role : Nat) : Bool := (List.range 4).any fun p =>
    s.get F.GSL_PORTn_CFG_ROLE p == role && s.get F.GSL_PORTn_STATUS_STATE p ≥ 2 && s.get F.GSL_PORTn_STATUS_STATE p ≤ 3
  let st := s.get F.GSL_HALL_STATUS_STATE
  if (st = 0 ∨ (st = 4 ∧ s.members = [])) ∧ s.bit F.TSBANK_REF_MASTER_LOCK ∧ (s.ringSize ≤ 1 ∨ (up 0 ∧ up 1)) then
    s.startElection (if st = 0 then 1 else 4)
  else s

/-- Joint parts end because of a link or the hall: what is admitted ends VOID, what is not is refused (R253, R270). -/
def State.endJoints (s : State) (hit : Work → Bool) : State :=
  s.joints.foldl (fun s p =>
    match p.2.work with
    | none => s
    | some k =>
      match s.work? k with
      | none => s
      | some w =>
        if !hit w then s
        else match p.2.phase with
          | .admitted => s.jointVoid k 0x232
          | .awaiting => s
          | _ => s.refusePart k 0x134) s

/-- The hall is lost (R253): its joint bursts end, and the remaining devices hold a new election. A master that has lost its lock waits until it has
it again. -/
def State.hallLost (s : State) : State :=
  let st := s.get F.GSL_HALL_STATUS_STATE
  if st ≠ 2 ∧ st ≠ 3 then s.tryElect
  else
    let s := (s.endJoints fun _ => true).setBit F.GSL_HALL_EVENTS_HALL_LOST
    if s.bit F.TSBANK_REF_MASTER_LOCK then s.startElection 4
    else { s.clrBit F.GSL_HALL_STATUS_IS_MASTER with members := [] }.setHallState 4

/-- The master can no longer be reached over links that are UP (R253), or the routes have changed (R255). -/
def State.checkMaster (s : State) : State :=
  if !s.bit F.GSL_HALL_STATUS_IS_MASTER && !s.reaches (s.get F.GSL_HALL_STATUS_MASTER_POS) then s.hallLost else s.rerouted.tryElect

/-- A ring link is no longer UP (R255, R270). Each device acts once. -/
def State.linkFails (s : State) (l : Nat) : State :=
  if s.linksDown.contains l then s
  else
    let s := s.endJoints fun w => (s.crossed w).contains l
    { s with linksDown := l :: s.linksDown }.checkMaster

/-- A message that only links in UP carry has come from a position on a port: every link that it crossed is UP (R249, R255, R270). -/
def State.heardFrom (s : State) (p src : Nat) : State :=
  let links := if s.get F.GSL_PORTn_CFG_ROLE p = 0 then wayDown s.ringSize src s.pos else wayUp s.ringSize src s.pos
  if links.any s.linksDown.contains then { s with linksDown := s.linksDown.filter fun l => !links.contains l }.rerouted else s

/-! ## Frames (R248, R260, R261) -/

/-- The hall window of hall time now. -/
def State.window (s : State) : Int := s.hallTime.fdiv 40960

/-- One line's closed windows before `now`: the windows with a change of level as (window, level, first offset), whether a pulse was
squashed, and the driver after them (R260). -/
def closeDrv (now : Int) : Nat → CrierDrv → List (Int × Bool × Nat) × Bool × CrierDrv
  | 0, d => ([], false, d)
  | fuel + 1, d =>
    match d.changes with
    | [] => ([], false, d)
    | (t, b) :: rest =>
      let w := t.fdiv 40960
      if now ≤ w then ([], false, d)
      else
        let same := (t, b) :: rest.takeWhile fun c => c.1.fdiv 40960 == w
        let last := (same.getLast?.map (·.2)).getD b
        let r := closeDrv now fuel { level := last, changes := rest.dropWhile fun c => c.1.fdiv 40960 == w }
        if last == d.level then (r.1, true, r.2.2) else ((w, last, (t - w * 40960).toNat) :: r.1, r.2.1, r.2.2)

/-- A change waits for its action instant, once (R261). -/
def State.awaitCrier (s : State) (c : CrierChange) : State :=
  let last := (Store.getD s.crier c.line (false, 0)).2
  if s.crierWait.contains c ∨ (c.at_ - s.corr ≤ last ∧ 0 < last) then s else { s with crierWait := s.crierWait ++ [c] }

/-- Put a Crier change in the frames of a port; changes of one window go together. -/
def State.queueCrier (s : State) (p : Nat) (w : Int) (c : Nat × Bool × Nat) : State :=
  let g := s.gslPort p
  if g.crier.any (·.1 == w) then
    s.setGslPort p { g with crier := g.crier.map fun x => if x.1 == w then (w, x.2 ++ [c]) else x }
  else s.setGslPort p { g with crier := g.crier ++ [(w, [c])] }

/-- The ports on which Crier changes leave: both ring links that are UP. -/
def State.crierPorts (s : State) : List Nat := (List.range 4).filter fun p => s.carries p Msg.crierCfg

/-- The windows that have ended are closed on every line driven here (R260, R261). -/
def State.closeWindows (s : State) : State :=
  s.crierDrv.foldl (fun s d =>
    let r := closeDrv s.window d.2.changes.length d.2
    let s := { s with crierDrv := Store.put s.crierDrv d.1 r.2.2 }
    let s := if r.2.1 then s.set F.CRIER_EVENTS_SQUASHED (s.get F.CRIER_EVENTS_SQUASHED ||| 2 ^ d.1) else s
    r.1.foldl (fun s c =>
      let s := s.awaitCrier { line := d.1, level := c.2.1, at_ := c.1 * 40960 + c.2.2 + s.crierLat }
      s.crierPorts.foldl (fun s p => s.queueCrier p c.1 (d.1, c.2.1, c.2.2)) s) s) s

/-- The ring port opposite a port. -/
def State.opposite (s : State) (p mtype : Nat) : Option Nat :=
  match s.get F.GSL_PORTn_CFG_ROLE p with
  | 0 => s.ringPort 1 mtype
  | 1 => s.ringPort 0 mtype
  | _ => none

/-- The 280 bits of a frame (R248). -/
def frameBits (mark : Bool) (level : Nat) (win : Int) (cs : List (Nat × Bool × Nat)) (m : GslMsg) : Nat :=
  let body := (if mark then 2 else 1) + level % 256 * 2 ^ 2 + (cs.map fun c => 2 ^ (10 + c.1) + c.2.2 % 2 ^ 16 * 2 ^ (18 + 16 * c.1)).sum +
    m.mtype % 64 * 2 ^ 146 + m.src % 64 * 2 ^ 152 + m.dst % 64 * 2 ^ 158 + m.data % 2 ^ 64 * 2 ^ 164 + m.arg % 2 ^ 12 * 2 ^ 228 +
    (win.fmod 256).toNat * 2 ^ 240
  body + (crc32c (leBytes body 31)).toNat * 2 ^ 248

/-- OFFSET as the 88 bits of a pair of TIME messages, and the pair's hall instant (R487). -/
def State.beginPair (s : State) (c : TimeChange) (n : Int) : TimeChange :=
  let h := (n + 1 + ceilDiv s.crierNow.lat 10 + 64) * 40960
  { c with first := some n, at_ := some h, offset := some (s.changedOffset c.step c.rate h) }

/-- The TIME message that a frame of the master carries (R487): frame 0 of a pair starts with the first frame after a change, or in a
window whose number is a multiple of 65,536. -/
def State.timeMsg (s : State) (n : Int) : State × Option GslMsg :=
  if !s.bit F.GSL_HALL_STATUS_IS_MASTER ∨ !s.inHall then (s, none)
  else
    let c : Option TimeChange := match s.timeNext with
      | some c => some c
      | none => if n.fmod 65536 = 0 then some { rate := s.rate } else none
    match c with
    | none => (s, none)
    | some c =>
      let c := if c.first.isNone then s.beginPair c n else c
      let s := { s with timeNext := some c }
      let m : GslMsg := { mtype := Msg.time, src := s.pos, dst := 0x3F }
      let o := unsigned (c.offset.getD 0) 88
      if c.first = some n then (s, some { m with data := o % 2 ^ 64, arg := 0 })
      else if c.first = some (n - 1) then (s, some { m with data := o / 2 ^ 64 + unsigned c.rate 40 * 2 ^ 24, arg := 1 })
      else (s, none)

/-- The message of the frame that reports window `n` on a port: TIME, then a due PROBE, then what waits (R254, R300, R487). -/
def State.frameMsg (s : State) (p : Nat) (n : Int) : State × GslMsg :=
  let none_ : GslMsg := { mtype := 0, src := s.pos, dst := 0 }
  let t := if s.carries p Msg.time then s.timeMsg n else (s, none)
  let s := t.1
  match t.2 with
  | some m => (s, m)
  | none =>
    let st := s.get F.GSL_PORTn_STATUS_STATE p
    let g := s.gslPort p
    if (st = 2 ∧ n.fmod 2 = 0) ∨ (st = 3 ∧ n.fmod 16 = 0) then
      (s.setGslPort p { g with probes := (g.probes.filter fun t => decide (s.fr < t + 4096000)) ++ [s.fr] },
       { mtype := Msg.probe, src := s.pos, dst := s.get F.GSL_PORTn_STATUS_PEER_POS p, data := s.fr % 2 ^ 64, arg := p })
    else if s.bit F.GSL_HALL_STATUS_IS_MASTER && s.carries p Msg.advert && n.fmod 65536 == 2 then
      (s, { mtype := Msg.advert, src := s.pos, dst := 0x3F, data := s.advertData, arg := s.advertArg })
    else match g.out with
      | [] => (s, none_)
      | m :: rest =>
        (s.setGslPort p { g with out := rest }, if m.mtype = Msg.probeReply then { m with data := s.fr - m.data } else m)

/-- The earliest change of a line that waits for a frame and falls in a window after `w`: its level. -/
def laterChange (l : Nat) (w : Int) (q : List (Int × List (Nat × Bool × Nat))) : Option Bool :=
  let cs := q.flatMap fun x => (x.2.filter fun c => c.1 == l && decide (w < x.1)).map fun c => (x.1, c.2.1)
  match cs with
  | [] => none
  | c :: cs => some (cs.foldl (fun b x => if x.1 < b.1 then x else b) c).2

/-- LEVEL bits of a frame on a port that reports window `w`: lines driven here at the end of their last closed window, others as last received, and
each line that changes in a later window as it stood before that change. -/
def State.frameLevel (s : State) (p : Nat) (w : Int) : Nat :=
  let got := match s.opposite p Msg.crierCfg with | some q => (s.gslPort q).level | none => 0
  ofSet ((List.range 8).filter fun l => s.crierEn l &&
    (match laterChange l w (s.gslPort p).crier with
      | some b => !b
      | none => if s.crierPos l = s.pos then (Store.getD s.crierDrv l {}).level else bitOf got l)) 8

/-- GSL_FRAME_SEND: the frame of one REFIN period on a port whose transmitter runs (R248, R249). -/
def execGslFrameSend (p : Nat) (s : State) : Host.Outcome State Fault Refusal :=
  if s.get F.GSL_PORTn_CFG_ROLE p = 3 ∨ s.get F.GSL_PORTn_STATUS_STATE p = 0 ∨ !s.bit F.TSBANK_REF_REF_PRESENT then .next s
  else
    let s := s.closeWindows
    let n := s.window - 1
    let (s, m) := s.frameMsg p n
    let g := s.gslPort p
    let ring := s.carries p Msg.crierCfg
    let part : Int × List (Nat × Bool × Nat) := match g.crier with
      | c :: _ => if ring && (m.mtype != Msg.time || c.1 == n) then c else (n, [])
      | [] => (n, [])
    let g := if part.2.isEmpty then g else { g with crier := g.crier.drop 1 }
    let mark := s.bit F.GSL_HALL_STATUS_IS_MASTER && part.1.fmod 65536 == 0
    .next (s.setGslPort p { g with sent := frameBits mark (if ring then s.frameLevel p part.1 else 0) part.1 part.2 m })

/-- Hops from a position to this device in the direction in which a port receives. -/
def State.hopsFrom (s : State) (p src : Nat) : Nat :=
  let n := s.ringSize
  if s.get F.GSL_PORTn_CFG_ROLE p = 0 then (s.pos + n - src % n) % n else (src + n - s.pos % n) % n

/-- A message for every device, or a change, goes on until it has travelled half the ring (R248). -/
def State.goesOn (s : State) (p src : Nat) : Bool := src != s.pos && decide (s.hopsFrom p src < ceilDiv s.ringSize 2)

/-- The Crier changes of a frame from a ring link that is UP (R248, R261). -/
def State.takeCrier (s : State) (p : Nat) (win : Int) (frame : Nat) : State :=
  (List.range 8).foldl (fun s l =>
    let off := bitsOf frame (18 + 16 * l) 16
    if bitOf frame (10 + l) && s.crierEn l && s.crierPos l != s.pos && decide (off < 40960) then
      let lev := bitOf frame (2 + l)
      let s := s.awaitCrier { line := l, level := lev, at_ := win * 40960 + off + s.crierLat }
      match s.opposite p Msg.crierCfg with
      | some q => if s.goesOn p (s.crierPos l) then s.queueCrier q win (l, lev, off) else s
      | none => s
    else s) s

/-- The message of a frame: kept when it is for this device, passed on at the opposite ring port otherwise (R248). -/
def State.takeMessage (s : State) (p : Nat) (m : GslMsg) : State :=
  let probe := m.mtype == Msg.probe || m.mtype == Msg.probeReply
  if m.mtype = 0 then s
  else if probe then { s with gslIn := s.gslIn ++ [(p, m)] }
  else if !s.carries p m.mtype then s
  else
    let s := if m.mtype = Msg.advert then s else s.heardFrom p m.src
    let mine := (m.dst == s.pos || m.dst == 0x3F) && m.src != s.pos
    let s := if mine then { s with gslIn := s.gslIn ++ [(p, m)] } else s
    let on := if m.dst = 0x3F then s.goesOn p m.src else m.dst != s.pos
    match s.opposite p m.mtype with
    | some q => if on then s.setGslPort q { s.gslPort q with out := (s.gslPort q).out ++ [{ m with at_ := 0, win := 0 }] } else s
    | none => s

/-- GSL_FRAME_RECEIVE: a frame arrives on a port at an instant (R248). It is used only when its CRC verifies and its header is valid.
A valid frame on a link that is DOWN starts its training again (R249), and it shows that the receiver has its signal. -/
def execGslFrameReceive (p frame : Nat) (t : Tu) (s : State) : Host.Outcome State Fault Refusal :=
  let s := s.advanceTo t
  let role := s.get F.GSL_PORTn_CFG_ROLE p
  let hdr := bitsOf frame 0 2
  let ok := decide (hdr = 1 ∨ hdr = 2) && crc32c (leBytes (bitsOf frame 0 248) 31) == BitVec.ofNat 32 (bitsOf frame 248 32)
  let st := s.get F.GSL_PORTn_STATUS_STATE p
  if role = 3 ∨ st = 0 ∨ !ok then .next s
  else
    let s := s.clrBit F.GSL_PORTn_STATUS_LOS p
    if st = 4 then .next (s.set F.GSL_PORTn_STATUS_STATE 1 p)
    else
      let now := s.window
      let win := now - (now - bitsOf frame 240 8).fmod 256
      let s := if s.carries p Msg.crierCfg then
          (s.setGslPort p { s.gslPort p with level := bitsOf frame 2 8 }).takeCrier p win frame else s
      let m : GslMsg := { mtype := bitsOf frame 146 6, src := bitsOf frame 152 6, dst := bitsOf frame 158 6, data := bitsOf frame 164 64,
                          arg := bitsOf frame 228 12, at_ := t, win }
      .next (s.takeMessage p m)

/-! ## Messages. A message row acts on the oldest received message of its type (log entry 1). -/

/-- The oldest received message of a type, with the port it came on, and the state without it. -/
def State.takeMsg (s : State) (mtype : Nat) : Option (Nat × GslMsg × State) :=
  match s.gslIn.find? (·.2.mtype == mtype) with
  | some (p, m) => some (p, m, { s with gslIn := s.gslIn.erase (p, m) })
  | none => none

/-- Carry out a received message of a type. -/
def State.onMsg (s : State) (mtype : Nat) (f : State → Nat → GslMsg → State) : State :=
  match s.takeMsg mtype with
  | some (p, m, s) => f s p m
  | none => s

/-- PROBE: answered with PROBE_REPLY on the same port, ahead of what waits; the residence is known when it is sent (R254). -/
def execProbe (s : State) : Host.Outcome State Fault Refusal :=
  .next (s.onMsg Msg.probe fun s p m =>
    let g := s.gslPort p
    s.setGslPort p { g with out := { mtype := Msg.probeReply, src := s.pos, dst := m.src, data := m.at_, arg := p } :: g.out })

/-- PROBE_REPLY: the reply to the oldest probe that waits for one: one measurement of delay and offset, kept as twice their values; `t2` is the far
end's receive instant (R254). CAL takes 65,536 of them. -/
def execProbeReply (t2 : Tu) (s : State) : Host.Outcome State Fault Refusal :=
  .next (s.onMsg Msg.probeReply fun s p m =>
    let g := s.gslPort p
    let st := s.get F.GSL_PORTn_STATUS_STATE p
    match g.probes with
    | [] => s
    | t1 :: rest =>
      let d2 : Int := (m.at_ : Int) - t1 - m.data + 2 * signed (s.get F.GSL_PORTn_ASYM_ASYM p) 16
      let th2 : Int := 2 * ((t2 : Int) - t1) - d2
      let g := { g with probes := rest }
      if st = 3 ∨ (st = 2 ∧ g.n < 65536) then s.setGslPort p { g with n := g.n + 1, sumD := g.sumD + d2, sumT := g.sumT + th2 }
      else s.setGslPort p g)

/-- An advert that comes after an election is final and is neither the master's periodic one nor a late copy begins a new one at another device:
step 4 of R271 takes at most 1 ms (log entry 15). -/
def State.newElection (s : State) (m : GslMsg) : Bool :=
  let st := s.get F.GSL_HALL_STATUS_STATE
  (st == 2 || st == 3) && decide (s.electAt + 4096000000 ≤ m.at_) &&
    !(m.src == s.get F.GSL_HALL_STATUS_MASTER_POS && m.win.fmod 65536 == 2)

/-- ADVERT: what a device advertises is recorded; `id` is the device ID it reports (R247, R252, R300). -/
def execAdvert (id : Nat) (s : State) : Host.Outcome State Fault Refusal :=
  .next (s.onMsg Msg.advert fun s _ m =>
    let oven := bitOf m.arg 1
    let s := if s.newElection m then s.startElection 1 else s
    let s := { s with peers := Store.put s.peers m.src { id, serial := m.data, candidate := bitOf m.arg 0, oven } }
    let st : Nat := s.get F.GSL_HALL_STATUS_STATE
    let s := if (st = 2 ∨ st = 3) ∧ m.src = s.get F.GSL_HALL_STATUS_MASTER_POS then { s with masterOven := oven } else s
    s.checkIds.refreshHall.tryElect)

/-- TIME_MESSAGE: the two halves of a pair; frame 1 gives the window from which the hall instant counts (R487). With a pair the device takes its
correction anew, so that a link that was calibrated again elsewhere counts with its new value (R256, R258; log entry 15). -/
def execTimeMessage (s : State) : Host.Outcome State Fault Refusal :=
  .next (s.onMsg Msg.time fun s _ m =>
    if m.arg = 0 then { s with timeHalf := some m.data }
    else match s.timeHalf with
      | none => s
      | some lo =>
        { s with
          timeHalf := none
          timeNext := some { rate := signed (m.data / 2 ^ 24) 40, offset := some (signed (lo + m.data % 2 ^ 24 * 2 ^ 64) 88),
                             first := some (m.win - 1), at_ := some ((m.win + ceilDiv s.crierNow.lat 10 + 64) * 40960) } }.rerouted)

/-- The first window that begins at least 10 µs after a hall instant (R263). -/
def crierEffect (t : Int) : Int := -((-(t + 40960000)).fdiv 40960) * 40960

/-- CRIER_CFG: the master's Crier configuration, which waits for its instant; every enabled line is checked; `commit` is the hall instant of its
commit (R262, R263). -/
def execCrierCfg (commit : Int) (s : State) : Host.Outcome State Fault Refusal :=
  .next (s.onMsg Msg.crierCfg fun s _ m =>
    let c : CrierCfg := { lat := m.data % 2 ^ 13, en := m.arg % 256, pos := (List.range 8).map fun i => bitsOf m.data (13 + 6 * i) 6,
                          at_ := crierEffect commit }
    { s with crierCfg := s.crierCfg ++ [c] }.checkLat)

/-! ## Joint admission (R266 to R268) -/

/-- The own order of a joint part, while it has no final receipt. -/
def State.jointWork (s : State) (j : Joint) : Option (Nat × Work) :=
  match j.work with
  | some k => match s.work? k with | some w => some (k, w) | none => none
  | none => none

/-- PREPARE (R266): with the own order waiting, the Toll decides its part; otherwise it is held for 10 ms. -/
def execJointPrepare (s : State) : Host.Outcome State Fault Refusal :=
  .next (s.onMsg Msg.prepare fun s _ m =>
    match s.joint m.data with
    | none => s.setJoint m.data { prep := some m.src, timer := some (s.fr + jointTimer) }
    | some j =>
      if j.phase ≠ .awaiting then s
      else match s.jointWork j with
        | some (k, w) => (s.setJoint m.data { j with prep := some m.src, timer := none, phase := .deciding }).offer k w
        | none => s.setJoint m.data { j with prep := some m.src })

/-- The coordinator ends the exchange: ABORT to all, its own order REFUSED (R266). -/
def State.abortJoint (s : State) (k : Nat) (w : Work) (cause : Nat) : State := (s.sendParts w Msg.abort cause).refusePart k cause

/-- VOTE (R266): argument 0 is YES, a NO carries its cause. A vote that arrives as the admission timer expires comes too late (R272). -/
def execJointVote (s : State) : Host.Outcome State Fault Refusal :=
  .next (s.onMsg Msg.vote fun s _ m =>
    match s.joint m.data with
    | none => s
    | some j =>
      match s.jointWork j with
      | none => s
      | some (k, w) =>
        if j.phase ≠ .preparing then s
        else if j.timer.any fun t => decide (t ≤ m.at_) then s.abortJoint k w 0x133
        else if m.arg ≠ 0 then s.abortJoint k w m.arg
        else match w.participants[j.prepared]? with
          | some id => (s.setJoint m.data { j with prepared := j.prepared + 1 }).sendMsg Msg.prepare (s.posOf id) m.data 0
          | none =>
            if s.fr + 204800000 ≤ w.s0 then
              ((s.setJoint m.data { j with phase := .admitted, timer := none }).sendParts w Msg.commit 0).admitOrder k
            else s.abortJoint k w 0x132)

/-- COMMIT: a HELD part is admitted (R266). -/
def execJointCommit (s : State) : Host.Outcome State Fault Refusal :=
  .next (s.onMsg Msg.commit fun s _ m =>
    match s.joint m.data with
    | some j =>
      match s.jointWork j with
      | some (k, _) => if j.phase = .held then (s.setJoint m.data { j with phase := .admitted, timer := none }).admitOrder k else s
      | none => s
    | none => s)

/-- ABORT (R266, R268). -/
def execJointAbort (s : State) : Host.Outcome State Fault Refusal :=
  .next (s.onMsg Msg.abort fun s _ m =>
    match s.joint m.data with
    | none => s
    | some j =>
      match s.jointWork j with
      | none => s.dropJoint m.data
      | some (k, _) => if j.phase = .admitted then s.jointVoid k 0x233 else s.refusePart k m.arg)

/-- DONE: the coordinator counts the participants whose part has closed (R268). -/
def execJointDone (s : State) : Host.Outcome State Fault Refusal :=
  .next (s.onMsg Msg.done fun s _ m =>
    match s.joint m.data with
    | none => s
    | some j =>
      match s.jointWork j with
      | none => s
      | some (k, w) =>
        if j.phase ≠ .admitted ∨ j.dones.contains m.src then s
        else
          let j := { j with dones := j.dones ++ [m.src] }
          (s.setJoint m.data j).releaseJoint k w j)

/-- RELEASE: a participant that has sent DONE writes COMPLETE (R268). -/
def execJointRelease (s : State) : Host.Outcome State Fault Refusal :=
  .next (s.onMsg Msg.release fun s _ m =>
    match s.joint m.data with
    | none => s
    | some j =>
      match s.jointWork j with
      | none => s
      | some (k, w) => if j.doneSent then (s.endBurst k w).dropJoint m.data else s)

/-- VOID_NOTICE: the coordinator tells every participant, and its own part ends (R268). -/
def execVoidNotice (s : State) : Host.Outcome State Fault Refusal :=
  .next (s.onMsg Msg.voidNotice fun s _ m =>
    match s.joint m.data with
    | none => s
    | some j =>
      match s.jointWork j with
      | none => s
      | some (k, w) => (s.sendParts w Msg.abort 0x233).jointVoid k 0x233)

/-- JOINT_WAIT_TIMEOUT: 10 ms without PREPARE or without the own order (R266). -/
def execJointWaitTimeout (id : Nat) (s : State) : Host.Outcome State Fault Refusal :=
  match s.joint id with
  | some { phase := .awaiting, timer := some t, prep, work, .. } =>
    let s := s.advanceTo t
    let s := match prep with | some p => s.sendMsg Msg.vote p id 0x133 | none => s
    match work with
    | some k => .next ((s.refusePart k 0x133).dropJoint id)
    | none => .next (s.dropJoint id)
  | _ => .next s

/-- JOINT_ADMISSION_TIMEOUT: 10 ms without every vote, or without COMMIT (R266). -/
def execJointAdmissionTimeout (id : Nat) (s : State) : Host.Outcome State Fault Refusal :=
  match s.joint id with
  | none => .next s
  | some j =>
    match s.jointWork j, j.timer with
    | some (k, w), some t =>
      let s := s.advanceTo t
      if j.phase = .preparing then .next (s.abortJoint k w 0x133)
      else if j.phase = .held then .next (s.refusePart k 0x133)
      else .next s
    | _, _ => .next s

/-! ## Links (R249, R250, R258, R275) -/

/-- LINK_DOWN: a message that a link is lost. Of a ring link its first position is the DOWN end; a link outside the ring has its UP end first, and no
route uses it (log entry 15). A device detects the loss of a link that it ends on by itself (R248, R250, R270). -/
def execLinkDown (s : State) : Host.Outcome State Fault Refusal :=
  .next (s.onMsg Msg.linkDown fun s _ m =>
    let l := m.data % 64
    if bitsOf m.data 6 6 ≠ (l + 1) % s.ringSize ∨ (s.ownPort l).isSome then s else s.linkFails l)

/-- The neighbour's position fits the port's role (R246). -/
def State.fitsRing (s : State) (p peer : Nat) : Bool :=
  let n := s.ringSize
  match s.get F.GSL_PORTn_CFG_ROLE p with
  | 0 => decide (2 ≤ n) && peer == (s.pos + n - 1) % n
  | 1 => decide (2 ≤ n) && peer == (s.pos + 1) % n
  | _ => true

/-- LINK_TRAINED: the port's link is trained; `peer` is its neighbour's position (R246, R249). -/
def execLinkTrained (p peer : Nat) (s : State) : Host.Outcome State Fault Refusal :=
  if s.get F.GSL_PORTn_STATUS_STATE p ≠ 1 ∨ s.get F.GSL_PORTn_CFG_ROLE p = 3 then .next s
  else
    let fits := s.fitsRing p peer
    let s := (s.set F.GSL_PORTn_STATUS_STATE 2 p).set F.GSL_PORTn_STATUS_PEER_POS peer p
    let s := s.setGslPort p { s.gslPort p with probes := [], n := 0, sumD := 0, sumT := 0, bad := !fits }
    .next (if fits then s else s.setBit F.GSL_HALL_EVENTS_TOPOLOGY).tryForm

/-- Half the mean of `n` doubled measurements, in whole tu; the rounding of a value between two tu is free (R254). -/
def State.halfMean (s : State) (sum : Int) (n : Nat) : Int :=
  let f := sum.fdiv (2 * n)
  if sum = f * (2 * n) then f else f + (s.freeVal % 2 : Nat)

/-- LINK_CAL_DONE: 65,536 round trips are averaged and the link enters UP (R249, R254, R258). -/
def execLinkCalDone (p : Nat) (s : State) : Host.Outcome State Fault Refusal :=
  let g := s.gslPort p
  if s.get F.GSL_PORTn_STATUS_STATE p ≠ 2 ∨ g.n < 65536 then .next s
  else
    let d := s.halfMean g.sumD g.n
    let th := s.halfMean g.sumT g.n
    let s := (((s.useFree).setGslPort p { g with n := 0, sumD := 0, sumT := 0, theta := th }).set F.GSL_PORTn_DELAY_DELAY (unsigned d 20) p).set
      F.GSL_PORTn_STATUS_STATE 3 p
    let s := (s.clrBit F.GSL_PORTn_STATUS_LOS p).setBit F.GSL_PORTn_EVENTS_LINK_UP p
    let s := match s.portLink p with
      | some l => if g.bad then s else { s with linksDown := s.linksDown.erase l }
      | none => s
    .next s.rerouted.tryReady

/-- The positions that LINK_DOWN names for a port's link: its DOWN end first for a link of the ring, its UP end first for another (log entry 15). -/
def State.linkEnds (s : State) (p : Nat) : Nat :=
  let n := s.ringSize
  let peer := s.get F.GSL_PORTn_STATUS_PEER_POS p
  match s.portLink p with
  | some l => if (s.gslPort p).bad then (l + 1) % n + l * 64 else l + (l + 1) % n * 64
  | none => if peer = (s.pos + 1) % n then peer + s.pos * 64 else s.pos + peer * 64

/-- LINK_LOSS: loss of signal, or 1 µs without a valid frame (R250, R270). With a drift of the link at the same instant it is one event, the loss
(R272). -/
def execLinkLoss (p : Nat) (los : Bool) (s : State) : Host.Outcome State Fault Refusal :=
  if s.get F.GSL_PORTn_CFG_ROLE p = 3 then .next s
  else
    let s := s.setIf F.GSL_PORTn_STATUS_LOS los p
    let st := s.get F.GSL_PORTn_STATUS_STATE p
    let drifted := st == 2 && (s.gslPort p).driftAt == some s.fr
    if st ≠ 3 ∧ !drifted then .next s
    else
      let s := (s.set F.GSL_PORTn_STATUS_STATE 4 p).setBit F.GSL_PORTn_EVENTS_LINK_DOWN p
      let s := if drifted then s.clrBit F.GSL_PORTn_EVENTS_DRIFT p else s
      let s := { s with detections := s.detections.filter fun d => !(d.kind == 5 && d.source == 0x628 + p) }
      let s := s.sendMsg Msg.linkDown 0x3F (s.linkEnds p) p
      match s.portLink p with
      | none => .next s
      | some l =>
        if (s.gslPort p).bad then .next s
        else .next ((if drifted then { s with linksDown := s.linksDown.erase l } else s).linkFails l)

/-- LINK_DRIFT_CHECK: the end of a 1 ms window of a link in UP (R258). -/
def execLinkDriftCheck (p : Nat) (s : State) : Host.Outcome State Fault Refusal :=
  let g := s.gslPort p
  if s.get F.GSL_PORTn_STATUS_STATE p ≠ 3 then .next s
  else
    let s := s.setGslPort p { g with n := 0, sumD := 0, sumT := 0 }
    let diff : Int := g.sumD - 2 * (g.n : Int) * s.get F.GSL_PORTn_DELAY_DELAY p
    if diff.natAbs ≤ 8 * g.n then .next s
    else
      let l := s.portLink p
      let ks := (s.works.filter fun x => x.2.held && x.2.opcode == Op.burst && x.2.isJoint &&
        (match l with | some l => (s.crossed x.2).contains l | none => false)).map (·.1)
      let s := (s.setBit F.GSL_PORTn_EVENTS_DRIFT p).detect { kind := 5, cause := 0x223, source := 0x628 + p, works := ks }
      let s := (s.set F.GSL_PORTn_STATUS_STATE 2 p).setGslPort p { s.gslPort p with driftAt := some s.fr, probes := [] }
      match l with
      | none => .next s
      | some l => .next { s with linksDown := l :: s.linksDown.erase l }.checkMaster

/-- A write of a port's ROLE (R249, R275). A port that takes another role passes through TRAIN and CAL before it carries traffic, and the
link of its old role is lost to the ring. -/
def State.roleWrite (s : State) (p role : Nat) : State :=
  if s.portHeld p then s.setBit F.GSL_PORTn_EVENTS_SETUP_BLOCKED p
  else
    let old := s.get F.GSL_PORTn_CFG_ROLE p
    let link := s.portLink p
    if role = old then (if role ≠ 3 ∧ s.get F.GSL_PORTn_STATUS_STATE p = 0 then s.set F.GSL_PORTn_STATUS_STATE 1 p else s)
    else
      let s := ((s.set F.GSL_PORTn_CFG_ROLE role p).set F.GSL_PORTn_STATUS_STATE (if role = 3 then 0 else 1) p).setGslPort p {}
      match link with
      | some l => s.linkFails l
      | none => s

/-- PORT_ROLE_WRITE (R275). -/
def execPortRoleWrite (p : Nat) (v : Word) (s : State) : Host.Outcome State Fault Refusal :=
  if s.booted ∧ p < 4 then .next (s.roleWrite p (v.toNat % 4)) else .next s

/-- A write of a port's ASYM (R275). -/
def State.asymWrite (s : State) (p : Nat) (v : Word) : State :=
  let st := s.get F.GSL_PORTn_STATUS_STATE p
  if st = 0 ∨ st = 4 then s.set F.GSL_PORTn_ASYM_ASYM v.toNat p else s.setBit F.GSL_PORTn_EVENTS_SETUP_BLOCKED p

/-- REFORM: a write of 1 to GSL_CTRL.REFORM (R272, R274). Whether a joint burst is admitted on other devices of the hall is a bit of a free value
(log entry 15). -/
def execReform (s : State) : Host.Outcome State Fault Refusal :=
  if !s.booted then .next s
  else if s.works.any fun p => p.2.opcode == Op.burst && p.2.isJoint && p.2.admittedRcpt then .next (s.setBit F.GSL_HALL_EVENTS_HALL_BUSY)
  else .next (if s.freeVal % 2 = 1 then s.useFree.setBit F.GSL_HALL_EVENTS_HALL_BUSY else s.useFree.startElection 1)

/-! ## The Crier bus (R259 to R263) -/

/-- The configuration that the registers of the master hold. -/
def State.crierRegs (s : State) : CrierCfg :=
  { lat := s.get F.CRIER_LAT_LAT, en := ofSet ((List.range 8).filter fun l => s.bit F.CRIER_SRC_n_EN l) 8,
    pos := (List.range 8).map fun l => s.get F.CRIER_SRC_n_POS l, at_ := crierEffect s.hallTime }

/-- CRIER_COMMIT: `busy` is what other devices of the hall report (R263). -/
def execCrierCommit (busy : Bool) (s : State) : Host.Outcome State Fault Refusal :=
  let c := s.crierRegs
  let reject (r : Nat) : State := (s.set F.CRIER_STATUS_RESULT r).setBit F.CRIER_EVENTS_REJECT
  if !s.booted then .next s
  else if !s.bit F.GSL_HALL_STATUS_IS_MASTER then .next (reject 3)
  else if c.lat < 200 ∨ 8000 < c.lat ∨ ((List.range 8).any fun l => bitOf c.en l && decide (s.hallSize ≤ c.pos.getD l 0)) then .next (reject 2)
  else if busy || s.works.any fun p => p.2.burstPresent then .next (reject 1)
  else .next ({ s.set F.CRIER_STATUS_RESULT 0 with crierCfg := s.crierCfg ++ [c] }.checkLat.sendCrierCfg c)

/-- CRIER_CONFIG_EFFECT: the oldest configuration that waits takes effect. On a member the registers show it; on the master they hold what its host
has staged. A member of a hall that forms has the master's values from then on (R262, R263, R271). -/
def execCrierConfigEffect (s : State) : Host.Outcome State Fault Refusal :=
  match s.crierCfg with
  | [] => .next s
  | c :: rest =>
    let s := s.advanceTo (c.at_ - s.corr).toNat
    let moved := (List.range 8).filter fun l => s.crierEn l && (!bitOf c.en l || c.pos.getD l 0 != s.crierPos l)
    let s := moved.foldl (fun s l =>
      let s := { s with crierDrv := Store.del s.crierDrv l, crierWait := s.crierWait.filter (·.line != l) }
      if s.crierLevel l then s.crierTakes l false s.fr else s) s
    let s := { s with crierNow := c, crierCfg := rest }
    if s.bit F.GSL_HALL_STATUS_IS_MASTER then .next s.checkLat
    else
      let s := s.set F.CRIER_LAT_LAT c.lat
      let s := (List.range 8).foldl (fun s l => (s.setIf F.CRIER_SRC_n_EN (bitOf c.en l) l).set F.CRIER_SRC_n_POS (c.pos.getD l 0) l) s
      .next ({ s.checkLat with hallCfg := true }.tryReady)

/-- The change with the earliest action instant. -/
def firstChange : List CrierChange → Option CrierChange
  | [] => none
  | c :: l => some (l.foldl (fun b x => if x.at_ < b.at_ then x else b) c)

/-- A device that sends no frames closes the earliest window with a change of one of its drivers itself, at the window's end (R260). -/
def State.closeLone (s : State) : State :=
  match s.crierPorts, s.crierDrv.flatMap fun d => d.2.changes.map (·.1) with
  | [], t :: ts =>
    let e := ((t :: ts).foldl min t).fdiv 40960 * 40960 + 40960
    if s.crierWait.any fun c => decide (c.at_ < e) then s else (s.advanceTo (e - s.corr).toNat).closeWindows
  | _, _ => s

/-- CRIER_ACTION: the action instant of a change (R261). A line whose source names no device stays low (R263). -/
def execCrierAction (s : State) : Host.Outcome State Fault Refusal :=
  let s := s.closeLone
  match firstChange s.crierWait with
  | none => .next s
  | some c =>
    let s := { s.advanceTo (c.at_ - s.corr).toNat with crierWait := s.crierWait.erase c }
    if s.crierEn c.line ∧ s.members.contains (s.crierPos c.line) then .next (s.crierTakes c.line c.level (c.at_ - s.corr).toNat) else .next s

/-- The driver's present level. -/
def CrierDrv.now (d : CrierDrv) : Bool := (d.changes.getLast?.map (·.2)).getD d.level

/-- The router sets the driver of a line sourced here at an instant (R259, R456). -/
def State.driveCrier (s : State) (l : Nat) (level : Bool) (t : Tu) : State :=
  if s.crierEn l ∧ s.crierPos l = s.pos then
    let d := Store.getD s.crierDrv l {}
    if d.now == level then s
    else { s with crierDrv := Store.put s.crierDrv l { d with changes := d.changes ++ [((t : Int) + s.corr, level)] } }
  else s

end Sys2Proof.Machine
end

