-- ==== Sys2Proof/Machine/Scheduler.lean ====
section
/-!
DEFINITION. Work items on the cores: queues, dispatch, pre-emption, service calls, the delay list (spec/16_scheduler_cores.md).
-/

namespace Sys2Proof.Machine

/-! ## Queues and cores (R423, R426 to R428) -/

def State.item (s : State) (k : Nat) : Item := Store.getD s.items k {}
def State.setItem (s : State) (k : Nat) (v : Item) : State := { s with items := Store.put s.items k v }
def State.graph (s : State) (k : Nat) : GraphRun := Store.getD s.graphs k {}
def State.setGraph (s : State) (k : Nat) (v : GraphRun) : State := { s with graphs := Store.put s.graphs k v }
def State.setStage (s : State) (k : Nat) (st : Stage) : State := s.modWork k fun w => { w with stage := st }

/-- Class of a WORK order (R381). -/
def Work.cls (w : Work) : Nat := w.body 48 1 % 4

/-- The work items in a stage. -/
def State.itemsIn (s : State) (st : Stage) : List (Nat × Work) := s.works.filter fun p => p.2.opcode == Op.work && p.2.stage == st

/-- Cores 0, 8, 16 and 24 are the safety cores (R424). -/
def safetyCore (c : Nat) : Bool := c % 8 == 0

/-- The item on a core: running, or while its context is saved. -/
def State.itemOn (s : State) (c : Nat) : Option (Nat × Work) :=
  s.works.find? fun p => p.2.opcode == Op.work && (p.2.stage == .running || p.2.stage == .saving) && (s.item p.1).core == some c

/-- The pool: cores of TOLL_SCHED_POOL that are not locked out (R428). -/
def State.inCorePool (s : State) (c : Nat) : Bool :=
  decide (c < 32) && bitOf (s.get F.TOLL_SCHED_POOL_CORES) c && !bitOf (s.get F.TOLL_SCHED_LOCKOUT_CORES) c

/-- A core may take items of a class (R428). -/
def State.suits (s : State) (cls c : Nat) : Bool := s.inCorePool c && (cls != 0 || safetyCore c)

/-- The cores that are free for an item of a class: other than safety cores first (R428). -/
def State.freeCores (s : State) (cls : Nat) : List Nat :=
  let free := (List.range 32).filter fun c => s.suits cls c && (s.itemOn c).isNone
  if cls = 0 ∨ (free.filter (!safetyCore ·)).isEmpty then free else free.filter (!safetyCore ·)

/-- The charge of running work in units of 0.1 W (R430). -/
def State.runCharge (s : State) : Nat :=
  (s.itemsIn .running).length * s.get F.TOLL_SCHED_CHARGE_P_CORE +
    (s.works.filter fun p => p.2.opcode == Op.graph && p.2.stage == .running).length * s.get F.TOLL_SCHED_CHARGE_P_GU

/-- Put an item, or a suspended graph, at the head of its queue: a lower place than any before. -/
def State.headPlace (s : State) : Int := -(s.schedNo + 1 : Int)
def State.nextNo (s : State) : State := { s with schedNo := s.schedNo + 1 }

/-- The least of a list under an integer key. -/
def leastBy (key : Nat → Int) : List (Nat × Work) → Option (Nat × Work)
  | [] => none
  | p :: l => some (l.foldl (fun b x => if key x.1 < key b.1 then x else b) p)

/-- The first eligible item of a class: PREEMPTED items whose writes are acknowledged, then QUEUED ones (R428, R435). -/
def State.firstOf (s : State) (cls : Nat) : Option (Nat × Work) :=
  match leastBy (fun k => (s.item k).place) ((s.itemsIn .preempted).filter fun p => p.2.cls == cls && !(s.item p.1).unacked) with
  | some p => some p
  | none => firstBy (·.key) ((s.itemsIn .queued).filter fun p => p.2.cls == cls)

/-- The first eligible item of the highest class that has one (R428). -/
def State.nextItem (s : State) : Option (Nat × Work) := (List.range 4).findSome? s.firstOf

/-- The scheduler refuses an order whose queue is full (R426, R436, R445). -/
def State.queueFull (s : State) (k : Nat) : State :=
  ((s.setBit F.TOLL_SCHED_EVENTS_QUEUE_FULL).raise 0x470 s.fr).finalReceipt k Status.refused 0x103

/-- WORK: a work item enters its class queue (R422, R426). -/
def execOrderWork (k : Nat) (s : State) : Host.Outcome State Fault Refusal :=
  .next (s.onWork k Op.work fun w =>
    if w.stage ≠ .routed then s
    else if 4096 ≤ ((s.itemsIn .queued).filter fun p => p.2.cls == w.cls).length then s.queueFull k
    else (s.setWork k { w with stage := .queued, key := [s.fr, w.stall, k] }).setItem k {})

/-- Work that is dispatched while VCORE or VSRAM warns is on its core or unit within the dip interval (R554, R555). -/
def State.dippedStart (s : State) (k : Nat) : State :=
  match s.work? k with
  | some w => if (Store.keys s.warnSince).any w.inDipScope then s.voidWork k 0x226 else s
  | none => s

/-- ITEM_DISPATCH: the first eligible item of the highest class that has one goes to `core`, one of the suitable free cores (R428,
R430, R435). -/
def execItemDispatch (core : Nat) (s : State) : Host.Outcome State Fault Refusal :=
  match s.nextItem with
  | none => .next s
  | some (k, w) =>
    if (s.freeCores w.cls).contains core ∧ s.runCharge + s.get F.TOLL_SCHED_CHARGE_P_CORE ≤ s.get F.AWN_HEADROOM_HEADROOM then
      let it := s.item k
      let s := if it.last.isSome ∧ it.last ≠ some core then (s.setBit F.TOLL_SCHED_EVENTS_MIGRATED).raise 0x472 s.fr else s
      .next (((s.setItem k { it with core := some core, num := s.schedNo, madeRoom := none }).nextNo.setStage k .running).dippedStart k)
    else .next s

/-- Items whose context is saved: they fill the context store (R426). -/
def State.contexts (s : State) : Nat := (s.itemsIn .preempted).length + (s.itemsIn .delayed).length + (s.itemsIn .saving).length

/-- The victim of a pre-emption: a running item of the lowest class on a suitable core, the one dispatched last (R429). -/
def State.victim (s : State) (cls : Nat) : Option (Nat × Work) :=
  let l := (s.itemsIn .running).filter fun p => decide (cls < p.2.cls) && (match (s.item p.1).core with | some c => s.suits cls c | none => false)
  let low := l.foldl (fun m p => max m p.2.cls) 0
  leastBy (fun k => -((s.item k).num : Int)) (l.filter fun p => p.2.cls == low)

/-- An item is interrupted: its context is being saved, until CONTEXT_SAVED (R429). -/
def State.interrupt (s : State) (k : Nat) (for_ : Option Nat) : State :=
  (s.setItem k { s.item k with madeRoom := for_ }).setStage k .saving

/-- An item has a victim that is still being saved for it (R443). -/
def State.hasVictim (s : State) (k : Nat) : Bool := (s.itemsIn .saving).any fun p => (s.item p.1).madeRoom == some k

/-- PREEMPT: the first eligible item that has no free core and no victim yet takes one (R429, R430). -/
def execPreempt (s : State) : Host.Outcome State Fault Refusal :=
  match (List.range 4).findSome? fun cls => match s.firstOf cls with | some p => if s.hasVictim p.1 then none else some p | none => none with
  | none => .next s
  | some (k, w) =>
    if !(s.freeCores w.cls).isEmpty ∨ 4096 ≤ s.contexts ∨ s.get F.AWN_HEADROOM_HEADROOM < s.runCharge then .next s
    else match s.victim w.cls with
      | none => .next s
      | some (v, _) => .next (s.interrupt v (some k))

/-- An item leaves its core; its writes may be outstanding (R435). -/
def State.leaveCore (s : State) (k : Nat) : State :=
  let it := s.item k
  s.setItem k { it with core := none, last := if it.core.isSome then it.core else it.last, unacked := true, madeRoom := none }

/-- An item goes to the head of its class (R427). -/
def State.toHead (s : State) (k : Nat) : State :=
  ((s.setItem k { s.item k with place := s.headPlace }).nextNo).setStage k .preempted

/-- CONTEXT_SAVED: the context of the interrupted item on a core is saved; an item that ended VOID only waits for its writes (R427, R429). -/
def execContextSaved (core : Nat) (s : State) : Host.Outcome State Fault Refusal :=
  match s.itemOn core with
  | none => .next s
  | some (k, w) =>
    if w.stage ≠ .saving then .next s
    else if w.cause ≠ 0 then .next ((s.leaveCore k).setStage k .stopped)
    else .next ((s.leaveCore k).toHead k)

/-- Pre-empt the items of a class, the one dispatched last first, until the charge fits (R430) or the context store is full (R429). -/
def shedClass (cls : Nat) : Nat → State → State
  | 0, s => s
  | fuel + 1, s =>
    if s.runCharge ≤ s.get F.AWN_HEADROOM_HEADROOM ∨ 4096 ≤ s.contexts then s
    else match leastBy (fun k => -((s.item k).num : Int)) ((s.itemsIn .running).filter fun p => p.2.cls == cls) with
      | none => s
      | some (k, _) => shedClass cls fuel (((s.setBit F.TOLL_SCHED_EVENTS_SHED)).interrupt k none)

/-- WORK_SHED: headroom below the running charge: items of class 3, then 2, then 1 are pre-empted until it fits (R430). -/
def execWorkShed (s : State) : Host.Outcome State Fault Refusal :=
  let t := shedClass 1 32 (shedClass 2 32 (shedClass 3 32 s))
  if (t.itemsIn .running).length < (s.itemsIn .running).length then .next (t.raise 0x471 s.fr) else .next t

/-! ## Service calls (R432, R433) -/

/-- A service call of the item that runs on a core. -/
def State.onCore (s : State) (core : Nat) (f : Nat → Work → State) : State :=
  match s.itemOn core with
  | some (k, w) => if w.cause = 0 then f k w else s
  | none => s

/-- a0 and a1 after a call. -/
def State.ret (s : State) (a0 : Nat) (a1 : Nat := 0) : State := { s with callRet := (a0, a1) }

/-- An item ends: EXIT wins over a pre-emption that is under way (R427, R443). -/
def State.itemEnds (s : State) (k ret : Nat) : State :=
  (s.leaveCore k).modWork k fun w => { w with stage := .closing, count := ret % 2 ^ 64 }

/-- EXIT (R432). -/
def execCallExit (core ret : Nat) (s : State) : Host.Outcome State Fault Refusal := .next (s.onCore core fun k _ => s.itemEnds k ret)

/-- ITEM_EXCEPTION: an unhandled exception (R433). -/
def execItemException (core code : Nat) (s : State) : Host.Outcome State Fault Refusal :=
  .next (s.onCore core fun k _ => s.itemEnds k (0xFFFFFFFF * 2 ^ 32 + code % 2 ^ 32))

/-- WAIT_FOR (R432, R434). -/
def execWaitFor (core us : Nat) (s : State) : Host.Outcome State Fault Refusal :=
  .next (s.onCore core fun k w =>
    if w.stage ≠ .running then s
    else if us = 0 ∨ 4294967295 < us then s.ret 3
    else if 4096 ≤ (s.itemsIn .delayed).length then s.ret 1
    else
      let s := (s.ret 0).leaveCore k
      ((s.setItem k { s.item k with release := s.deviceTime + us * microTu, entered := s.schedNo }).nextNo).setStage k .delayed)

/-- TIME (R432). -/
def execCallTime (core : Nat) (s : State) : Host.Outcome State Fault Refusal :=
  .next (s.onCore core fun _ _ => s.ret (s.dt80 s.fr % 2 ^ 64) (s.dt80 s.fr / 2 ^ 64))

/-- HOST_WRITE (R339, R432). -/
def execHostWrite (core src dst n : Nat) (s : State) : Host.Outcome State Fault Refusal :=
  .next (s.onCore core fun k w =>
    if n < 64 ∨ 2 ^ 24 < n ∨ n % 64 ≠ 0 ∨ 2 ^ 52 < dst + n then s.ret 3
    else if s.poisoned src n then s.eccDetect src n [k]
    else (s.send (.copy w.fn dst src n)).ret 0)

/-- MBX_SEND (R432, R448). -/
def execMbxSend (core a : Nat) (s : State) : Host.Outcome State Fault Refusal :=
  .next (s.onCore core fun k w =>
    let st := s.stall w.stall
    if st.msg.isSome then s.ret 2
    else if s.poisoned a 64 then s.eccDetect a 64 [k]
    else
      let s := s.setStall w.stall { st with msg := some (Mem.bytes s.mem a 64), msgNo := st.msgNo + 1 }
      (((s.setPrivFull w.fn w.stall true).raise (0x40C + w.fn) s.fr)).ret 0)

/-! ## The delay list and the ends (R434, R435) -/

/-- Entries of the delay list in list order: release time, then entry (R434). -/
def State.delayOrder (s : State) : List Nat :=
  ((s.itemsIn .delayed).map (·.1)).foldl (fun l k =>
    let lt (a b : Nat) : Bool := decide ((s.item a).release < (s.item b).release) ||
      (decide ((s.item a).release = (s.item b).release) && decide ((s.item a).entered < (s.item b).entered))
    l.takeWhile (lt · k) ++ k :: l.dropWhile (lt · k)) []

/-- The device time of the first 1 µs tick at or after a device time. -/
def tickOf (d : Int) : Int := -((-d).fdiv microTu) * microTu

/-- ITEM_DELAY_RELEASE: the tick at or after the earliest release time: every entry that it reaches goes to the head of its class, in
list order (R434). -/
def execItemDelayRelease (s : State) : Host.Outcome State Fault Refusal :=
  match s.delayOrder with
  | [] => .next s
  | k :: _ =>
    let tick := tickOf (max (s.item k).release s.deviceTime)
    let s := s.advanceTo (s.toFree tick.toNat)
    .next ((s.delayOrder.filter fun k => decide ((s.item k).release ≤ tick)).reverse.foldl (fun s k => s.toHead k) s)

/-- ITEM_WRITES_ACKED: every write of an item's placements is acknowledged: it may be dispatched, or its receipt is issued (R435). For
a suspended graph: it may resume (R439). -/
def execItemWritesAcked (k : Nat) (s : State) : Host.Outcome State Fault Refusal :=
  match s.work? k with
  | none => .next s
  | some w =>
    if w.opcode = Op.graph then .next (s.setGraph k { s.graph k with unacked := false })
    else if w.opcode ≠ Op.work then .next s
    else
      let s := s.setItem k { s.item k with unacked := false }
      if w.stage = .closing then .next (s.finalReceipt k Status.complete 0 w.detail)
      else if w.stage = .stopped then .next (s.finalReceipt k Status.void w.cause)
      else .next s

/-- LOCKSTEP_MISMATCH: a safety core's checker finds a mismatch (R424, R544). -/
def execLockstepMismatch (core : Nat) (s : State) : Host.Outcome State Fault Refusal :=
  if !safetyCore core ∨ 32 ≤ core then .next s
  else
    let s := s.set F.TOLL_SCHED_LOCKOUT_CORES (ofSet (core :: setBits (s.get F.TOLL_SCHED_LOCKOUT_CORES) 32) 32)
    let s := (s.setBit F.TOLL_SCHED_EVENTS_LOCKOUT).raise 0x473 s.fr
    .next (s.detect { kind := 7, cause := 0x225, source := 0x820 + core / 8, works := ((s.itemOn core).map (·.1)).toList })

/-- SCHED_POOL_WRITE (R445). -/
def execSchedPoolWrite (v : Word) (s : State) : Host.Outcome State Fault Refusal :=
  if !s.booted then .next s
  else if v &&& 0x01010101#32 = 0#32 then .next (s.setBit F.TOLL_SCHED_EVENTS_POOL_REJECT)
  else .next (s.set F.TOLL_SCHED_POOL_CORES v.toNat)

end Sys2Proof.Machine
end

