-- ==== Sys2Proof/Machine/Graphs.lean ====
section
/-!
DEFINITION. Graphs on the graph units: dependencies, the descriptor, the node operations (R390, R436 to R440).
-/

namespace Sys2Proof.Machine

/-- KIND 1: an offline measurement (R311). -/
def Work.offline (w : Work) : Bool := w.body 40 1 == 1

/-- A node of a KIND 0 descriptor (R437). -/
structure Node where
  op : Nat
  /-- The input node. -/
  inp : Option Nat
  src : Nat
  dst : Nat
  count : Nat
  param : Nat
  deriving DecidableEq, Repr

/-- Node `i` of a descriptor. -/
def nodeOf (d : Bytes) (i : Nat) : Node :=
  let o := 64 + 32 * i
  { op := Bytes.le d o 1, inp := if Bytes.le d (o + 2) 2 = 0xFFFF then none else some (Bytes.le d (o + 2) 2), src := Bytes.le d (o + 8) 8,
    dst := Bytes.le d (o + 16) 8, count := Bytes.le d (o + 24) 4, param := Bytes.le d (o + 28) 4 }

def nodeCount (d : Bytes) : Nat := Bytes.le d 6 1
def nodesOf (d : Bytes) : List Node := (List.range (nodeCount d)).map (nodeOf d)

/-- Bytes that an element takes, in bits: RUNS reads bits, SELECT stamp records, COPY bytes, the others 64-bit words (R437). -/
def elementBits (op : Nat) : Nat := if op = 4 then 1 else if op = 5 then 128 else if op = 7 then 8 else 64

/-- Most bytes that a node writes, from its input's bytes: the range at DST that it may use. -/
def outRoom (n : Node) (bytes : Nat) : Nat :=
  match n.op with
  | 1 => 16
  | 2 | 3 => 8
  | 4 => n.param
  | 5 => bytes / 16 * 16 + 16
  | 6 => 64
  | _ => bytes

/-- The ranges at DST of every node: (address, length). -/
def dstRanges (ns : List Node) : List (Nat × Nat) :=
  ns.foldl (fun acc n =>
    let bytes := match n.inp with
      | some j => (acc.getD j (0, 0)).2
      | none => (n.count * elementBits n.op + 7) / 8
    acc ++ [(n.dst, outRoom n bytes)]) []

/-- Ranges meet pairwise nowhere. -/
def disjoint : List (Nat × Nat) → Bool
  | [] => true
  | r :: rs => rs.all (fun q => !meet r q) && disjoint rs

/-- A node keeps to the tables *Graph descriptor* and *Graph nodes* (R437). -/
def nodeOk (d : Bytes) (i : Nat) : Bool :=
  let n := nodeOf d i
  let o := 64 + 32 * i
  decide (1 ≤ n.op) && decide (n.op ≤ 7) && Bytes.le d (o + 1) 1 == 0 && Bytes.le d (o + 4) 4 == 0 && n.dst % 64 == 0 &&
  (match n.inp with
   | some j => decide (j < i) && n.src == 0
   | none => n.src % 8 == 0 && n.count != 0) &&
  (if n.op = 4 then n.param % 8 == 0 else if n.op = 5 then decide (n.param < 2 ^ 17) else n.param == 0)

/-- The descriptor keeps to its tables (R436, R437). -/
def State.descriptorOk (s : State) (d : Bytes) : Bool :=
  Bytes.le d 0 4 == 0x47524131 && Bytes.le d 4 2 == 1 && decide (1 ≤ nodeCount d) && decide (nodeCount d ≤ 64) &&
  (List.range 57).all (fun i => Bytes.le d (7 + i) 1 == 0) && (List.range (nodeCount d)).all (nodeOk d) &&
  (dstRanges (nodesOf d)).all (fun r => !meet r s.poolRange && decide (r.1 + r.2 ≤ 96 * 2 ^ 30)) && disjoint (dstRanges (nodesOf d))

/-- The descriptors of a KIND 1 list (R308, R311). -/
def Work.offlineMeasures (w : Work) : List Meas := Meas.list w.meas (w.body 42 1)

/-- The slots of a stream header with their sources (R295). -/
def State.regionSlots (s : State) (a : Nat) : List (Nat × Nat) :=
  (List.range (min 16 (Mem.le s.mem (a + 10) 1))).map fun i => (Mem.le s.mem (a + 128 + 24 * i) 2, Mem.le s.mem (a + 130 + 24 * i) 2)

/-- The slope of a slot of a region, where the device knows it: the header does not hold it. -/
def State.regionSlope (s : State) (a n : Nat) : Option Nat :=
  (Store.get? s.regions a).bind fun r => (r.slots.find? (·.1 == n)).map (·.2.2)

/-- The stamp region of a closed watch: its header stands there in final form, and no open watch writes it (R295, R311). -/
def State.regionClosed (s : State) (a : Nat) : Bool :=
  Mem.le s.mem a 4 == 0x54414C31 && Mem.le s.mem (a + 4) 2 == 1 && (Mem.le s.mem (a + 7) 1 == 1 || Mem.le s.mem (a + 7) 1 == 2) &&
  !(s.watches.any fun e => !e.2.closed && (s.work? e.1).any fun w => w.watchRegion == a)

/-- A descriptor of an offline measurement keeps to its tables: its slots stand in the region's header, DUTY reads a slot with SLOPE BOTH, RISE the two
comparators of a channel; EC_OFFSET is declared by bursts only (R310, R311, R313). A slope that the device does not know passes. -/
def State.offlineMeasOk (s : State) (a : Nat) (m : Meas) (raw : Bytes) : Bool :=
  let src (n : Nat) : Nat := (((s.regionSlots a).find? (·.1 == n)).map (·.2)).getD 0xFFFF
  let slope (n other : Nat) : Nat := (s.regionSlope a n).getD other
  let rise := if src m.a < 0x100 then 1 else 0
  m.formOk raw && m.op != 8 && m.slots.all (fun n => (s.regionSlots a).any (·.1 == n)) &&
  (m.op != 6 || slope m.a 2 == 2) && (m.op != 7 || riseOk (src m.a) (slope m.a rise) (src m.b) (slope m.b rise))

/-- A KIND 1 order keeps to the rules of offline measurements: the region is that of a closed watch, every descriptor keeps to its tables, and
the result areas keep clear of what R310 names (R310, R311, R436). -/
def State.offlineOk (s : State) (k : Nat) (w : Work) : Bool :=
  let a := w.body 44 8
  let areas := w.offlineMeasures.flatMap Meas.areas
  let taken := (a, 512 + 16 * ((Store.get? s.regions a).map Region.rows).getD 0) ::
    (s.works.filter fun p => p.1 != k).flatMap fun p =>
      if p.2.held then p.2.capArea ++ p.2.summaryArea ++ s.spillAreas p.2 ++ s.laneAreas p.2 ++ p.2.stampArea ++ p.2.resultAreas
      else if p.2.opcode = Op.graph ∧ p.2.offline then p.2.offlineMeasures.flatMap Meas.areas else []
  s.regionClosed a && (w.offlineMeasures.zipIdx).all (fun p => s.offlineMeasOk a p.1 ((w.meas.drop (64 * p.2)).take 64)) &&
  areas.all (fun r => !meet r s.poolRange && !s.beyond r && !taken.any (meet r)) && apart areas

/-- Graphs of the graph queue that may be dispatched. -/
def State.queuedGraphs (s : State) : List (Nat × Work) :=
  s.works.filter fun p => p.2.opcode == Op.graph && (p.2.stage == .queued || p.2.stage == .preempted)

/-- Graphs in the graph queue: those that may be dispatched, and those that have entered and whose list is being read and checked (R436). -/
def State.graphsInQueue (s : State) : Nat :=
  s.queuedGraphs.length +
    (s.works.filter fun p => p.2.opcode == Op.graph && (p.2.stage == .dataRead || (p.2.stage == .routed && p.2.meas != []))).length

/-- The descriptor of a graph that has entered the queue is checked (R436). -/
def State.checkGraph (s : State) (k : Nat) (w : Work) : State :=
  let a := w.body 32 8
  if !w.offline && s.poisoned a (64 + 32 * Mem.le s.mem (a + 6) 1) then
    (s.eccDetect a (64 + 32 * Mem.le s.mem (a + 6) 1) [k]).finalReceipt k Status.void 0x224
  else
    let d := if w.offline then [] else Mem.bytes s.mem a (64 + 32 * Mem.le s.mem (a + 6) 1)
    if (if w.offline then s.offlineOk k w else s.descriptorOk d) then
      s.setWork k { w with stage := .queued, data := d }
    else s.finalReceipt k Status.malformed 0x013

/-- A graph whose dependencies are satisfied enters the queue, or is refused where it is full; the list of an offline measurement is then
read (R311, R436). -/
def State.startGraph (s : State) (k : Nat) (w : Work) : State :=
  if 1024 ≤ s.graphsInQueue then s.queueFull k
  else
    let s := (s.setGraph k { place := s.schedNo }).nextNo
    if w.offline then s.setWork k { w with stage := .dataRead } else s.checkGraph k w

/-- The earlier orders of its stall that a GRAPH waits for: they bear a SEQ of its dependencies (R390). -/
def State.depends (s : State) (k : Nat) (w : Work) : List Nat :=
  let seqs := (List.range (w.body 41 1)).map fun i => w.body (52 + 4 * i) 4
  (s.works.filter fun p => decide (p.1 < k) && p.2.stall == w.stall && seqs.contains p.2.seq).map (·.1)

/-- GRAPH: waits for its dependencies, then enters the graph queue (R390, R436). -/
def execOrderGraph (k : Nat) (s : State) : Host.Outcome State Fault Refusal :=
  .next (s.onWork k Op.graph fun w =>
    if w.stage ≠ .routed then s
    else
      let deps := s.depends k w
      if w.meas ≠ [] then s.checkGraph k w else if deps.isEmpty then s.startGraph k w else s.setWork k { w with stage := .depWait, waits := deps })

/-- GRAPH_DEPENDENCY_MET: the final receipt of every order that it waits for is issued (R390). -/
def execGraphDependencyMet (k : Nat) (s : State) : Host.Outcome State Fault Refusal :=
  .next (s.onWork k Op.graph fun w =>
    if w.stage ≠ .depWait ∨ w.waits.any fun d => (s.work? d).isSome then s else s.startGraph k w)

/-! ## Dispatch and suspension (R438, R439) -/

/-- The graph on a unit. -/
def State.graphOn (s : State) (u : Nat) : Option (Nat × Work) :=
  s.works.find? fun p => p.2.opcode == Op.graph && (s.graph p.1).unit == some u

/-- The lowest-numbered unit that no open watch holds and no graph occupies (R438). -/
def State.freeUnit (s : State) : Option Nat :=
  (List.range 16).find? fun u => !bitOf (s.get F.TALLY_MEAS_UNITS_HELD) u && (s.graphOn u).isNone

/-- GRAPH_DISPATCH: the first graph of the queue runs on the lowest free unit under the headroom rule (R430, R438, R439). -/
def execGraphDispatch (s : State) : Host.Outcome State Fault Refusal :=
  match leastBy (fun k => (s.graph k).place) (s.queuedGraphs.filter fun p => !(s.graph p.1).unacked), s.freeUnit with
  | some (k, _), some u =>
    if s.runCharge + s.get F.TOLL_SCHED_CHARGE_P_GU ≤ s.get F.AWN_HEADROOM_HEADROOM then
      .next (((s.setGraph k { s.graph k with unit := some u }).setStage k .running).dippedStart k)
    else .next s
  | _, _ => .next s

/-- GRAPH_SUSPEND: a watch holds the unit on which a graph runs: the graph goes back to the head of the queue (R439). -/
def execGraphSuspend (u : Nat) (s : State) : Host.Outcome State Fault Refusal :=
  match s.graphOn u with
  | none => .next s
  | some (k, w) =>
    if w.stage = .running ∧ bitOf (s.get F.TALLY_MEAS_UNITS_HELD) u then
      .next (((s.setGraph k { s.graph k with unit := none, place := s.headPlace, unacked := true }).nextNo).setStage k .preempted)
    else .next s

/-! ## Node operations (R437) -/

/-- The range that a node reads: address and bytes. An input node's whole output, its terminating records excluded, is its input. -/
def State.nodeInput (s : State) (k : Nat) (d : Bytes) (n : Node) : Nat × Nat :=
  match n.inp with
  | some j => ((nodeOf d j).dst, (s.graph k).outs.getD j 0)
  | none => (n.src, (n.count * elementBits n.op + 7) / 8)

/-- The 64-bit words of a byte string. -/
def words64 (bs : Bytes) : List Nat := (List.range (bs.length / 8)).map fun i => Bytes.le bs (8 * i) 8

/-- Run the next node of a running graph, if its operation is `op`: `go` gives its output and how much of it is terminating records. -/
def State.runNode (s : State) (k op : Nat) (go : Node → Bytes → Bytes × Nat) : State :=
  s.onWork k Op.graph fun w =>
    let g := s.graph k
    let i := g.outs.length
    if w.stage ≠ .running ∨ w.offline ∨ nodeCount w.data ≤ i then s
    else
      let n := nodeOf w.data i
      let r := s.nodeInput k w.data n
      if n.op ≠ op then s
      else if s.poisoned r.1 r.2 then s.eccDetect r.1 r.2 [k]
      else
        let o := go n (Mem.bytes s.mem r.1 r.2)
        ({ s with mem := Mem.setBytes s.mem n.dst o.1 }.unpoison n.dst o.1.length).setGraph k { g with outs := g.outs ++ [o.1.length - o.2] }

/-- SUM (R437). -/
def execGraphSum (k : Nat) (s : State) : Host.Outcome State Fault Refusal :=
  .next (s.runNode k 1 fun _ bs => (leBytes (words64 bs).sum 16, 0))

/-- OR (R437). -/
def execGraphOr (k : Nat) (s : State) : Host.Outcome State Fault Refusal :=
  .next (s.runNode k 2 fun _ bs => (leBytes ((words64 bs).foldl (· ||| ·) 0) 8, 0))

/-- POPCOUNT (R437). -/
def execGraphPopcount (k : Nat) (s : State) : Host.Outcome State Fault Refusal :=
  .next (s.runNode k 3 fun _ bs => (leBytes ((words64 bs).map fun w => (setBits w 64).length).sum 8, 0))

/-- The runs of 1 bits of a bit list: first index and length. -/
def runsOf (bits : List Bool) : List (Nat × Nat) :=
  (bits.foldl (fun (a : List (Nat × Nat) × Nat) b =>
    if b then (match a.1.getLast? with
      | some r => if r.1 + r.2 = a.2 then (a.1.dropLast ++ [(r.1, r.2 + 1)], a.2 + 1) else (a.1 ++ [(a.2, 1)], a.2 + 1)
      | none => ([(a.2, 1)], a.2 + 1))
    else (a.1, a.2 + 1)) ([], 0)).1

/-- RUNS: the runs that fit in the output space beside the final record (R437). -/
def execGraphRuns (k : Nat) (s : State) : Host.Outcome State Fault Refusal :=
  .next (s.runNode k 4 fun n bs =>
    let cnt := if n.inp.isSome then 8 * bs.length else n.count
    let bits := (List.range cnt).map fun i => bitOf (Bytes.le bs (i / 8) 1) (i % 8)
    let rs := runsOf bits
    let room := n.param / 8
    if room = 0 then ([], 0)
    else
      let kept := rs.take (room - 1)
      ((kept.flatMap fun r => leBytes (r.1 + r.2 * 2 ^ 32) 8) ++
        leBytes (if kept.length = rs.length then 2 ^ 64 - 1 else 2 ^ 63 - 1) 8, 8))

/-- The 16-byte records of a byte string. -/
def records16 (bs : Bytes) : List Bytes := (List.range (bs.length / 16)).map fun i => (bs.drop (16 * i)).take 16

/-- SELECT: the stamp records of a source, markers dropped on request (R293, R437). -/
def execGraphSelect (k : Nat) (s : State) : Host.Outcome State Fault Refusal :=
  .next (s.runNode k 5 fun n bs =>
    let src := n.param % 2 ^ 16
    let keep (r : Bytes) : Bool := (src == 0xFFFF || Bytes.le r 10 2 == src) && !(bitOf n.param 16 && bitOf (Bytes.le r 12 1) 4)
    (((records16 bs).filter keep).flatten ++ List.replicate 16 0xFF#8, 16))

/-- STATS: count, sum, extremes, sum of squares of the deviations from the first (R437). Extremes of no element are free. -/
def execGraphStats (k : Nat) (s : State) : Host.Outcome State Fault Refusal :=
  let f := s.freeVal
  .next ((s.useFree).runNode k 6 fun _ bs =>
    let xs := (words64 bs).map fun w => signed w 64
    let lo := 2 ^ 127
    let sum := clampInt xs.sum (-lo) (lo - 1)
    let dev := (xs.map fun x => (x - xs.headD 0).natAbs ^ 2).sum
    let ext (g : Int → Int → Int) : Nat := match xs with | [] => f | x :: t => unsigned (t.foldl g x) 64
    (leBytes xs.length 8 ++ leBytes (unsigned sum 128) 16 ++ leBytes (ext min) 8 ++ leBytes (ext max) 8 ++
      leBytes (min dev (2 ^ 192 - 1)) 24, 0))

/-- COPY (R437). -/
def execGraphCopy (k : Nat) (s : State) : Host.Outcome State Fault Refusal := .next (s.runNode k 7 fun _ bs => (bs, 0))

/-! ## The end of a graph (R311, R440) -/

/-- The stored records of a stamp region, oldest first (R295, R311). A region that this device did not write counts by its header. -/
def State.regionRecords (s : State) (a : Nat) : List Bytes :=
  let ring := bitOf (Mem.le s.mem (a + 6) 1) 0
  let stored := Mem.le s.mem (a + 24) 8 - Mem.le s.mem (a + 40) 8
  let p := match Store.get? s.regions a with | some r => (r.rows, r.recs) | none => (stored, stored)
  let n := min p.1 p.2
  let first := if ring then Mem.le s.mem (a + 32) 8 else 0
  (List.range n).map fun i => Mem.bytes s.mem (a + 512 + 16 * (if ring then (first + i) % p.1 else i)) 16

/-- A stamp record from its bytes (R293). -/
def stampOf (r : Bytes) : StampRec :=
  let f := Bytes.le r 12 1
  { time := Bytes.le r 0 10, source := Bytes.le r 10 2, rising := bitOf f 0, held := bitOf f 1, warm := bitOf f 2, first := bitOf f 3,
    marker := bitOf f 4, seq := Bytes.le r 13 3 }

/-- What an offline measurement reads (R311). -/
def State.offlineIn (s : State) (w : Work) : MeasIn :=
  let a := w.body 44 8
  let recs := (s.regionRecords a).map stampOf
  { recs := (s.regionSlots a).flatMap fun p => (recs.filter fun r => r.source == p.2 && !r.marker).map fun r => (p.1, r)
    close := Mem.le s.mem (a + 64) 10
    offline := true
    truncated := bitOf (Mem.le s.mem (a + 11) 1) 0 || bitOf (Mem.le s.mem (a + 11) 1) 1 }

/-- Bytes of a stamp region that an offline measurement reads. -/
def State.regionLen (s : State) (a : Nat) : Nat := 512 + 16 * (s.regionRecords a).length

/-- GRAPH_END: the last node has written, or an offline measurement has its samples; every write is acknowledged (R324, R440). -/
def execGraphEnd (k : Nat) (s : State) : Host.Outcome State Fault Refusal :=
  .next (s.onWork k Op.graph fun w =>
    let free (s : State) : State := s.setGraph k { s.graph k with unit := none }
    let results (s : State) : State :=
      if w.offline then w.offlineMeasures.foldl (fun s m => s.writeResult m (s.offlineIn w) w.cause) s else s
    if w.stage = .stopped then (free (results s)).finalReceipt k Status.void w.cause
    else if w.stage ≠ .running then s
    else if w.offline then
      let a := w.body 44 8
      if s.poisoned a (s.regionLen a) then s.eccDetect a (s.regionLen a) [k]
      else (free (results s)).finalReceipt k Status.complete
    else if (s.graph k).outs.length = nodeCount w.data then (free s).finalReceipt k Status.complete
    else s)

end Sys2Proof.Machine
end

