-- ==== Sys2Proof/Machine/Coherence.lean ====
section
/-!
DEFINITION. The states of the L1 data lines, and the requests at a directory's element (R441, R442). Local memory in State is the
coherent view: a line's stores reach it with the write-back or the recall that returns the line.
-/

namespace Sys2Proof.Machine

/-- Cores that hold a line, other than one. -/
def State.holdersOf (s : State) (line core : Nat) : List Nat :=
  (s.l1.filter fun p => p.1.2 == line && p.1.1 != core).map (·.1.1)

/-- Another core holds a line in M. -/
def State.dirtyHolder (s : State) (line core : Nat) : Option Nat :=
  (s.l1.find? fun p => p.1.2 == line && p.1.1 != core && p.2 == .modified).map (·.1.1)

/-- An admitted request that needs no recall completes: ownership leaves every other copy I; a read leaves them S, and gains E where
there is none (R441). -/
def State.grant (s : State) (r : CohReq) : State :=
  let others := s.holdersOf r.line r.core
  if r.own then
    { s with l1 := Store.put (s.l1.filter fun p => p.1.2 != r.line) (r.core, r.line) .modified }
  else
    let l := s.l1.map fun p => if p.1.2 == r.line then (p.1, LineState.shared) else p
    { s with l1 := Store.put l (r.core, r.line) (if others.isEmpty then .exclusive else .shared) }

/-- The requests that stand at the element of a line. -/
def State.standing (s : State) (line : Nat) : List CohReq := s.cohWait.filter (·.line == line)

/-- The request that the element lets in next: one that lost the previous arbitration first; otherwise the arbiter decides, and its
decision is free (R441). -/
def State.arbitrate (s : State) (line : Nat) : Option CohReq :=
  let l := s.standing line
  match l.find? fun r => (Store.getD s.losers line []).contains r.core with
  | some r => some r
  | none => l[s.freeVal % l.length]?

/-- An arbitration is counted when two or more ownership requests take part, and its losers are remembered (R441, R445). -/
def State.countRace (s : State) (r : CohReq) : State :=
  let owns := (s.standing r.line).filter (·.own)
  let lost := ((s.standing r.line).filter (· != r)).map (·.core)
  let s := { s with losers := if lost.isEmpty then Store.del s.losers r.line else Store.put s.losers r.line lost }
  if 2 ≤ owns.length then s.countUp F.TOLL_SCHED_COH_RACES else s

/-- Requests for a line are admitted one by one until one needs a recall (R441, R443). -/
def admitLine (line : Nat) : Nat → State → State
  | 0, s => s
  | fuel + 1, s =>
    if (Store.get? s.recalls line).isSome then s
    else match s.arbitrate line with
      | none => s
      | some r =>
        let s := (s.countRace r).useFree
        let s := { s with cohWait := s.cohWait.erase r }
        match s.dirtyHolder line r.core with
        | some h => { s with recalls := Store.put s.recalls line (h, r) }
        | none => admitLine line fuel (s.grant r)

/-- New requests stand at the element; a core that reads a poisoned line makes its item VOID (R427, R479). -/
def State.cohRequest (s : State) (cores : List Nat) (line : Nat) (own : Bool) : State :=
  let cores := cores.filter (· < 32)
  let s := if s.poison.contains line then
      s.eccDetect (64 * line) 64 (cores.filterMap fun c => (s.itemOn c).map (·.1)) else s
  let s := { s with cohWait := s.cohWait ++ cores.map fun core => { core, line, own } }
  admitLine line (s.standing line).length s

/-- READ_REQUEST: an L1 asks for a line in S or E (R441). -/
def execReadRequest (core line : Nat) (s : State) : Host.Outcome State Fault Refusal := .next (s.cohRequest [core] line false)

/-- OWNERSHIP_REQUEST: the L1s whose requests for a line in M reach the element at one instant (R441, R443). -/
def execOwnershipRequest (cores : List Nat) (line : Nat) (s : State) : Host.Outcome State Fault Refusal :=
  .next (s.cohRequest cores line true)

/-- A dirty line comes back with its 64 bytes (R441). -/
def State.returnLine (s : State) (line : Nat) (data : Bytes) : State :=
  if data.length = 64 then ({ s with mem := Mem.setBytes s.mem (64 * line) data }).unpoison (64 * line) 64 else s

/-- A recall that waits for a core to return its line is served (R441, R442). -/
def State.serveRecall (s : State) (line : Nat) (keepShared : Bool) : State :=
  match Store.get? s.recalls line with
  | none => s
  | some (h, r) =>
    let s := { s with recalls := Store.del s.recalls line }
    let s := if r.own || !keepShared then { s with l1 := Store.del s.l1 (h, line) } else { s with l1 := Store.put s.l1 (h, line) .shared }
    let s := s.grant r
    admitLine line (s.standing line).length s

/-- WRITE_BACK: an L1 returns a dirty line, ahead of every waiting request (R441). -/
def execWriteBack (core line : Nat) (data : Bytes) (s : State) : Host.Outcome State Fault Refusal :=
  if Store.get? s.l1 (core, line) ≠ some .modified then .next s
  else
    let s := s.returnLine line data
    if (Store.get? s.recalls line).any (·.1 == core) then .next (s.serveRecall line false)
    else
      let s := { s with l1 := Store.del s.l1 (core, line) }
      .next (admitLine line (s.standing line).length s)

/-- RECALL_ANSWER: the L1 that holds a recalled line in M returns it after one store, or after 60 ns (R442). -/
def execRecallAnswer (line : Nat) (data : Bytes) (s : State) : Host.Outcome State Fault Refusal :=
  if (Store.get? s.recalls line).isSome then .next ((s.returnLine line data).serveRecall line true) else .next s

end Sys2Proof.Machine
end

