-- ==== Sys2Proof/Machine/Memory.lean ====
section
/-!
DEFINITION. Local memory: the BAR4 aperture, the interleave map, the arbiters, refresh, self-refresh, the scrubber
(spec/18_memory_system.md).
-/

namespace Sys2Proof.Machine

/-! ## Error correction (R479, R480) -/

/-- Corrected errors are counted (R479). -/
def State.corrected (s : State) (n : Nat) : State :=
  if n = 0 then s else (s.countUp F.DRAM_ECC_CNT_CORRECTED n).setBit F.DRAM_EVENTS_ECC_CORR

/-- The admitted orders whose declared local ranges include a line (R479, R480). -/
def State.rangesHit (s : State) (line : Nat) : List Nat :=
  (s.works.filter fun p => p.2.admittedRcpt && (s.localRanges p.2).any fun r => meet r (64 * line, 64)).map (·.1)

/-- An uncorrectable line is recorded and poisoned; the detection affects the orders whose ranges include it (R479, R480). -/
def State.lineLost (s : State) (line source : Nat) : State :=
  let s := (s.eccAddr line).detect { kind := 6, cause := 0x224, source, works := s.rangesHit line }
  if s.poison.contains line then s else { s with poison := line :: s.poison }

/-! ## The BAR4 aperture (R115, R338, R479) -/

/-- The local address of a BAR4 offset: base bits below the BAR's size are ignored (R338). -/
def State.bar4Addr (s : State) (x : Nat) : Nat :=
  s.get F.STALL_HOST_BAR4_BASE_BASE * 2 ^ 28 / 2 ^ s.bar4Log2 * 2 ^ s.bar4Log2 + x

/-- A host access to BAR4 reaches local memory: boot step 8 has been reached, and the packet keeps to one 4 KiB page (R610). -/
def State.bar4Open (s : State) (x n : Nat) : Bool :=
  s.booted && decide (0 < n) && decide (x % 4096 + n ≤ 4096) && s.inBar 0 4 x n

/-- BAR4_WRITE (R115, R338). -/
def execBar4Write (x : Nat) (data : Bytes) (s : State) : Host.Outcome State Fault Refusal :=
  let a := s.bar4Addr x
  let g := a / segSize
  if !s.bar4Open x data.length ∨ s.memSize < a + data.length then .next s
  else if s.inPool g ∧ ((s.seg g).filling ∨ (s.seg g).refs ≠ 0) then .next (s.setBit F.DRAM_SEG_EVENTS_APERTURE_BLOCKED)
  else
    let s := ({ s with mem := Mem.setBytes s.mem a data }).unpoison a data.length
    .next (if s.inPool g then s.setSeg g { s.seg g with valid := false } else s)

/-- The bytes that a BAR4 read returns: all ones in a line with an uncorrectable error and beyond local memory (R338, R479). -/
def State.bar4Bytes (s : State) (a n : Nat) (bad : List Nat) : Bytes :=
  (List.range n).map fun i =>
    let b := a + i
    if s.memSize ≤ b ∨ s.poison.contains (b / 64) ∨ bad.contains (b / 64) then 0xFF#8 else Mem.byte s.mem b

/-- The words of a byte string. -/
def wordsOf (bs : Bytes) : List Word := (List.range ((bs.length + 3) / 4)).map fun i => BitVec.ofNat 32 (Bytes.le bs (4 * i) 4)

/-- BAR4_READ: `bad` are the lines in which the read finds a new uncorrectable error, `corr` the errors it corrects (R338, R479). -/
def execBar4Read (x n : Nat) (bad : List Nat) (corr : Nat) (s : State) : Host.Outcome State Fault Refusal :=
  let a := s.bar4Addr x
  if !s.bar4Open x n then .next (s.answer (wordsOf (List.replicate n 0#8)))
  else
    let s := s.answer (wordsOf (s.bar4Bytes a n bad))
    let lost := ((List.range ((a % 64 + n + 63) / 64)).map (a / 64 + ·)).filter fun l =>
      decide (64 * l < s.memSize) && (s.poison.contains l || bad.contains l)
    .next (lost.foldl (fun s l => (s.setBit F.DRAM_EVENTS_ECC_UNCORR).lineLost l 0x700) (s.corrected corr))

/-- PATROL_SCRUB: the scrubber reads a line; `result` is 0 no error, 1 corrected, 2 uncorrectable (R480). A poisoned line reports its
fault again. -/
def execPatrolScrub (line result : Nat) (s : State) : Host.Outcome State Fault Refusal :=
  if s.memSize ≤ 64 * line then .next s
  else if result = 2 ∨ s.poison.contains line then .next ((s.setBit F.DRAM_EVENTS_SCRUB_UNCORR).lineLost line 0x701)
  else .next (s.corrected result)

/-! ## The map (R465) -/

/-- The staged pair is refused with a result of the table *Interleave commit results*. -/
def State.ilvReject (s : State) (r : Nat) : State := (s.set F.DRAM_ILV_STATUS_RESULT r).setBit F.DRAM_EVENTS_ILV_REJECT

/-- DRAM_ILV_COMMIT (R465). -/
def execDramIlvCommit (s : State) : Host.Outcome State Fault Refusal :=
  let g := s.get F.DRAM_ILV_STAGE_GRAIN_LOG2
  let w0 := s.rd ⟨.DRAM_ILV_CH_STAGE_w, 0, 0⟩
  let w1 := s.rd ⟨.DRAM_ILV_CH_STAGE_w, 1, 0⟩
  let ch := setBits (w0.toNat + w1.toNat * 2 ^ 32) 64
  if !s.booted then .next s
  else if g < 8 ∨ 16 < g ∨ ch.isEmpty then .next (s.ilvReject 1)
  else if ch.any Config.channelBad then .next (s.ilvReject 2)
  else
    let s := (s.set F.DRAM_ILV_STATUS_RESULT 0).set F.DRAM_ILV_STATUS_NEXT_GRAIN g
    .next (((s.wr ⟨.DRAM_ILV_NEXT_w, 0, 0⟩ w0).wr ⟨.DRAM_ILV_NEXT_w, 1, 0⟩ w1).setBit F.DRAM_ILV_STATUS_PENDING)

/-! ## Arbiters (R470 to R475) -/

def State.arb (s : State) (c : Nat) : Arb := Store.getD s.arbs c {}
def State.setArb (s : State) (c : Nat) (a : Arb) : State := { s with arbs := Store.put s.arbs c a }

/-- The six permanent requesters and the scrubber's number range: 133 to 138, and 139 (R470). -/
def permanent : List Nat := [133, 134, 135, 136, 137, 138, 139]

/-- The reserved requesters mapped to a channel now: those of admitted orders whose window has begun (R471). -/
def State.mappedNow (s : State) (c : Nat) : List Nat :=
  (s.mapped s.admittedResv c s.fr).filter (· < 133)

/-- N_c, with the six permanent requesters of R471; 0 for a channel outside the live set. -/
def State.mappedCount (s : State) (c : Nat) : Nat := if s.liveChannels.contains c then (s.mappedNow c).length + 6 else 0

/-- ARBITER_REQUEST: a requester mapped to a channel raises its request there, for lines that lie on the channel (R463, R472). A request that
meets the closing of rows for self-refresh cancels the entry (R477). -/
def execArbiterRequest (c : Nat) (r : ArbiterAsk) (s : State) : Host.Outcome State Fault Refusal :=
  let n := r.requester
  let ls := r.lines.filter fun l => decide (64 * l < s.memSize) && s.chanOf (64 * l) == c
  if !s.liveChannels.contains c ∨ !(permanent.contains n ∨ (s.mappedNow c).contains n) ∨ ls = [] then .next s
  else
    let a := s.arb c
    let s := if s.sref = .closing then { s with sref := .none_ } else s
    let asks := Store.put a.asks n (Store.getD a.asks n [] ++ ls)
    .next (s.setArb c { a with raised := if a.raised.contains n then a.raised else a.raised ++ [n], asks })

/-- The words of ARB_CLASS. -/
def State.classWords (s : State) : List Nat := (List.range 9).map fun m => (s.rd ⟨.ARB_CLASS_m, m, 0⟩).toNat

/-- Class of a requester in the words of ARB_CLASS (R483). -/
def classIn (ws : List Nat) (r : Nat) : Nat := bitsOf (ws.getD (r / 16) 0) (2 * (r % 16)) 2

/-- The classes of a round: those of its beginning (R482). -/
def State.roundClasses (s : State) (a : Arb) : List Nat := if a.granted = [] then s.classWords else a.classes

/-- The winner of a grant in the compact arrangement (R473). -/
def State.compactWinner (s : State) (a : Arb) : Option Nat :=
  match a.raised.filter fun r => !a.granted.contains r with
  | [] => none
  | x :: t =>
    let class_ := classIn (s.roundClasses a)
    let least := t.foldl (fun m r => min m (class_ r)) (class_ x)
    nextAfter ((x :: t).filter fun r => class_ r == least) (Store.get? a.last least)

/-- What a grant to a requester transfers: all that a reserved one asked for, one line of an unreserved one; and what remains, for which it stays
raised (R472). -/
def Arb.serve (a : Arb) (r : Nat) : List Nat × Arb :=
  let ls := Store.getD a.asks r []
  let n := if r < 133 then ls.length else 1
  let rest := ls.drop n
  (ls.take n,
    { a with raised := if rest = [] then a.raised.erase r else a.raised, served := some r,
             asks := if rest = [] then Store.del a.asks r else Store.put a.asks r rest })

/-- The accesses of a grant, in order: the row of each is open in its bank from then on, in place of the row that was (R466). -/
def State.openRowsOf (s : State) (lines : List Nat) : State :=
  { s with openRows := lines.foldl (fun (m : Store (Nat × Nat) Nat) l =>
      let p := s.placeOf (64 * l)
      Store.put m (p.chan, p.bank) p.row) s.openRows }

/-- Rows close on the channels that meet a test (R466, R468, R477). -/
def State.closeRows (s : State) (p : Nat → Bool) : State := { s with openRows := s.openRows.filter fun e => !p e.1.1 }

/-- The round after a grant in the compact arrangement: it ends when every requester that is raised has been granted once in it (R473). -/
def State.compactGrant (s : State) (a : Arb) (r : Nat) : Arb :=
  let b := (a.serve r).2
  let granted := a.granted ++ [r]
  let classes := s.roundClasses a
  { b with granted := if b.raised.all granted.contains then [] else granted, classes, ranks := [],
           last := Store.put a.last (classIn classes r) r }

/-- The ranks of the full arrangement: those in force, with requesters that have been mapped since at the end (R474). -/
def State.fullRanks (s : State) (c : Nat) (a : Arb) : List Nat :=
  let all := (List.range 140).filter fun r => permanent.contains r || (s.mappedNow c).contains r || a.raised.contains r
  let kept := a.ranks.filter all.contains
  kept ++ all.filter fun r => !kept.contains r

/-- The grant to a requester, with the arbiter after it: it follows a refresh that occupies the channel, and its accesses open rows (R466, R468). -/
def State.doGrant (s : State) (c r : Nat) (after : Arb) : State :=
  let a := s.arb c
  ((s.advanceTo a.busy).setArb c after).openRowsOf (a.serve r).1

/-- ARBITER_GRANT: the arbiter of a channel grants the next requester (R471, R473, R474). Nothing is granted in self-refresh (R477). -/
def execArbiterGrant (c : Nat) (s : State) : Host.Outcome State Fault Refusal :=
  let a := s.arb c
  if s.sref = .in_ then .next s
  else if 16 < s.mappedCount c then
    let ranks := s.fullRanks c a
    match ranks.find? a.raised.contains with
    | none => .next s
    | some r => .next (s.doGrant c r { (a.serve r).2 with granted := [], ranks := ranks.erase r ++ [r] })
  else match s.compactWinner a with
    | none => .next s
    | some r => .next (s.doGrant c r (s.compactGrant a r))

/-- REQUEST_WITHDRAW: the requester that was granted last withdraws: one dead slot (R475). -/
def execRequestWithdraw (c : Nat) (s : State) : Host.Outcome State Fault Refusal :=
  let a := s.arb c
  if a.served.isNone then .next s else .next ((s.setArb c { a with served := none }).countUp F.ARB_DEAD_CNT_DEAD)

/-! ## Refresh (R468, R469) -/

def State.debtOf (s : State) (c : Nat) : Nat := Store.getD s.debt c 0

/-- Refresh is held back on a stack: the span of its postponement, or what follows it until the make-up (R469). -/
def State.holdRefresh (s : State) (st : Nat) : Bool :=
  match Store.get? s.postponed st with | some p => decide (p.start ≤ s.fr) | none => false

/-- A channel issues `n` refreshes back to back: each closes its rows and occupies it for TRFC (R466, R468). -/
def State.refresh (s : State) (c n : Nat) : State :=
  if n = 0 then s
  else
    let a := s.arb c
    let s := (s.setArb c { a with busy := max a.busy s.fr + n * s.get F.TOLL_REFRESH_TRFC * 4096 }).closeRows (· == c)
    { s with debt := Store.del s.debt c }

/-- REFRESH_DUE: TREFI has passed on a channel: its debt rises, and outside a postponement the refreshes owed are issued (R468, R469). In
self-refresh the debt does not rise (R478). -/
def execRefreshDue (c : Nat) (s : State) : Host.Outcome State Fault Refusal :=
  if s.sref = .in_ ∨ 64 ≤ c then .next s
  else if s.holdRefresh (stackOf c) then .next { s with debt := Store.put s.debt c (min (s.debtOf c + 1) 8) }
  else .next (s.refresh c (s.debtOf c + 1))

/-- REFRESH_MAKEUP: at the end of a postponed span every channel of the stack issues what it owes; the make-up interval passes
(R409, R469). -/
def execRefreshMakeup (st : Nat) (s : State) : Host.Outcome State Fault Refusal :=
  match Store.get? s.postponed st with
  | none => .next s
  | some p =>
    let s := s.advanceTo (s.makeUp p).1
    let s := (s.debt.filter fun d => stackOf d.1 == st).foldl (fun s d => s.refresh d.1 d.2) s
    .next ({ s with postponed := Store.del s.postponed st }.advanceTo (s.makeUp p).2)

/-- DRAM_STATUS as it reads (R469, R483). -/
def State.dramStatus (s : State) : Nat :=
  let owed (st : Nat) : Nat := ((s.debt.filter fun d => stackOf d.1 == st).map (·.2)).foldl max 0
  ((List.range 4).map fun st => min (owed st) 8 * 2 ^ (4 * st)).sum + ofSet ((List.range 4).filter s.postponeOut) 4 * 2 ^ 24 +
    (if s.sref = .in_ then 0xF * 2 ^ 28 else 0)

/-! ## Self-refresh (R477, R478) -/

/-- An admitted order's window charges a stack. -/
def State.windowCharges (s : State) : Bool :=
  s.works.any fun p => p.2.held && p.2.resv.contains s.fr && !p.2.resv.rates.isEmpty

/-- T_SRMIN, and T_XS with the controller's restart of 120 ns, in tu (R477). -/
def srMin : Tu := 30 * 4096
def srExit : Tu := (170 + 120) * 4096

/-- SELF_REFRESH_ENTRY: in P2 or deeper the controller first closes the open rows; a second command issues self-refresh (R466, R477). -/
def execSelfRefreshEntry (s : State) : Host.Outcome State Fault Refusal :=
  if s.get F.PWR_STATUS_STATE < 2 ∨ s.bit F.PWR_STATUS_EXITING ∨ s.windowCharges then .next s
  else match s.sref with
    | .none_ => .next { s with sref := .closing, openRows := [] }
    | .closing => .next { s with sref := .in_, srefAt := s.fr }
    | .in_ => .next s

/-- SELF_REFRESH_EXIT: the stacks leave self-refresh, no earlier than T_SRMIN after its command, and the controller restarts; the refresh debt
starts again at 0 (R477, R478). -/
def execSelfRefreshExit (s : State) : Host.Outcome State Fault Refusal :=
  if s.sref = .in_ then .next { s.advanceTo (max s.fr (s.srefAt + srMin) + srExit) with sref := .none_, debt := [] } else .next s

end Sys2Proof.Machine
end

