-- ==== Sys2Proof/Machine/Converters.lean ====
section
/-!
DEFINITION. The converters: measurement and sequence orders, monitor scans, urgent requests, level verification and the result queues
(spec/20_converters_monitors.md). The reading of a conversion is an operand, in the VALUE unit of its input (log entry 20).
-/

namespace Sys2Proof.Machine

/-! ## Results (R509 to R511) -/

/-- A result whose last conversion has ended (table *Converter result*). -/
def State.resultWord (s : State) (c : Nat) (r : AdcRun) : Nat :=
  let m := s.pmuLive c r.input
  let failed := s.adcFailed c
  let off := decide (r.input < 4) && (m.1 == 0 || !s.bit F.CHn_ENABLE_PMU_EN (4 * c + r.input))
  let value := if failed || off then 0 else unsigned (divNear r.sum r.total) 16
  let b (x : Bool) (i : Nat) : Nat := if x then 2 ^ i else 0
  value + c * 2 ^ 16 + r.input * 2 ^ 22 + r.sel * 2 ^ 26 + r.gain * 2 ^ 30 + b r.overRange 32 + b r.restarted 33 + 2 ^ 34 + b off 35 +
    b (r.mixed || m != (r.mode, r.range)) 36 + b failed 37 + (r.total - 1) % 1024 * 2 ^ 40

/-- The tag of a stored result (table *Result tag*). -/
def resultTag (w : Work) (ix : Nat) : Nat := w.stall % 2 ^ 12 + w.seq * 2 ^ 16 + ix % 2 ^ 16 * 2 ^ 48

/-- A PMU_MEASURE has a channel's result; its array is written once every channel has one, in channel order (R387, R514). -/
def State.pmuResult (s : State) (r : AdcRun) (word : Nat) : State :=
  s.onWork r.work Op.pmuMeasure fun w =>
    if w.stage ≠ .running ∨ w.cause ≠ 0 then s
    else
      let i := 8 * (r.ix - w.body 40 2)
      let w := { w with data := w.data.take i ++ leBytes word 8 ++ w.data.drop (i + 8), left := w.left.filter (· != r.ix) }
      if w.left = [] then (s.send (.data w.fn (w.body 32 8) w.data)).setWork r.work { w with count := w.body 42 2 }
      else s.setWork r.work w

/-- A sequence order has a result, which enters the queue of the converter's Row (R513, R521). -/
def State.seqResult (s : State) (c : Nat) (r : AdcRun) (word : Nat) : State :=
  match s.work? r.work with
  | none => s
  | some w =>
    let s := { s with results := Store.put s.results (c / 16) (s.queue (c / 16) ++ [(word, resultTag w r.ix)]) }
    let w := { w with count := w.count + 1 }
    let a := s.adc c
    let s := (s.setWork r.work w).setAdc c (if a.seqs.head? = some r.work then { a with last := some s.fr } else a)
    if w.sequencing ∧ w.count = w.entries * w.repeats then s.finalReceipt r.work Status.complete 0 (leBytes w.count 4)
    else s.adcEnd r.work

/-! ## Orders -/

/-- PMU_MEASURE: offered to the Toll; once admitted, it takes its converters at their next entry boundaries (R387, R514). -/
def execPmuMeasure (k : Nat) (s : State) : Host.Outcome State Fault Refusal :=
  .next (s.tollOrder k Op.pmuMeasure fun w =>
    let s := s.setWork k { w with stage := .running, left := w.chanRange, data := List.replicate (8 * w.body 42 2) 0#8 }
    (w.chanRange.foldl (fun (s : State) h => s.setAdc (h / 4) (s.adc (h / 4))) s).adcKick)

/-- ADC_SEQUENCE: its list is read; then its entries are checked and it joins the converters that it names (R512, R513). -/
def execAdcSequence (k : Nat) (s : State) : Host.Outcome State Fault Refusal :=
  .next (s.onWork k Op.adcSequence fun w =>
    if w.stage = .routed then s.setWork k { w with stage := .dataRead, data := [] }
    else if w.stage ≠ .dataRead ∨ w.data.length ≠ 8 * w.entries then s
    else
      let es := (List.range w.entries).map w.entry
      let cs := (es.map entryAdc).eraseDups
      if es.any fun e => !entryOk e then s.finalReceipt k Status.malformed 0x013
      else if cs.any fun c => decide (8 ≤ (s.adc c).seqs.length) then s.finalReceipt k Status.refused 0x103
      else
        let s := s.setWork k { w with stage := .running, count := 0, result := 0 }
        (cs.foldl (fun (s : State) c => s.setAdc c { s.adc c with seqs := (s.adc c).seqs ++ [k] }) s).adcKick)

/-! ## Conversions -/

/-- Channels of a converter in its verification round. -/
def State.roundOf (s : State) (c : Nat) : List Nat := (List.range 4).map (4 * c + ·) |>.filter fun h => (s.chan h).inRound

/-- VERIFYING: the Rows on which a verification round runs (R518). -/
def State.verifying (s : State) : Nat := ofSet ((List.range 4).filter fun r => (List.range 16).any fun i => s.roundOf (16 * r + i) != []) 4

/-- A safety request has a value; its fourth ends it (R517). -/
def State.safetyValue (s : State) (c : Nat) (a : Adc) (v : Int) : State :=
  match a.safety with
  | [] => s
  | (h, vs) :: rest =>
    let vs := vs ++ [if s.adcFailed c then 0 else v]
    if vs.length < 4 then s.setAdc c { a with safety := (h, vs) :: rest }
    else { s.setAdc c { a with safety := rest } with safetyRes := Store.put s.safetyRes h vs }

/-- CONVERSION_DONE: converter `c` completes a conversion with reading `v`; `over`: its input lay outside the span (R509, R513). While an
urgent request runs, the conversion is one of a safety request's (R517). -/
def execConversionDone (c : Nat) (v : Int) (overRange : Bool) (s : State) : Host.Outcome State Fault Refusal :=
  let a := s.adc c
  if a.safety ≠ [] then .next (s.safetyValue c a v)
  else if s.roundOf c ≠ [] then .next s
  else
    match a.run with
    | none => .next s
    | some r =>
      let m := s.pmuLive c r.input
      let r := { r with n := r.n + 1, sum := r.sum + v, overRange := r.overRange || overRange, mixed := r.mixed || m != (r.mode, r.range) }
      if r.n < r.total then .next (s.setAdc c { a with run := some r })
      else
        let word := s.resultWord c r
        let s := s.setAdc c { a with run := none }
        .next ((if r.pmu then s.pmuResult r word else s.seqResult c r word).adcKick)

/-- ADC_AFTER_DELAY: the delay of the AFTER entry that converter `c` waits for has elapsed, and its conversions start (R512). -/
def execAdcAfterDelay (c : Nat) (s : State) : Host.Outcome State Fault Refusal :=
  let a := s.adc c
  match a.run, a.seqs, a.last with
  | none, k :: _, some t =>
    (match s.work? k with
     | some w =>
       (match w.nextIx c a.next with
        | some i =>
          let e := w.entry (i % w.entries)
          if w.sequencing ∧ entryTrigger e = 1 then .next (s.advanceTo (t + entryDelay e * 4096000)).adcKick else .next s
        | none => .next s)
     | none => .next s)
  | _, _, _ => .next s

/-! ## Monitoring (R515, R516, R520) -/

/-- A 16-bit VALUE lies outside a window, all signed. -/
def outside (v lo hi : Nat) : Bool := decide (signed v 16 < signed lo 16) || decide (signed hi 16 < signed v 16)

/-- The alarm of R516. -/
def State.scanAlarm (s : State) (v : List Nat) : Bool :=
  let rail (i m : Nat) : Bool := outside (v.getD i 0) (s.get F.ADC_RAIL_LIMIT_m_LO m) (s.get F.ADC_RAIL_LIMIT_m_HI m)
  decide (signed (s.get F.ADC_ALARM_TEMP_TEMP) 16 < signed (v.getD 0 0) 16) || rail 1 0 || rail 2 1 || rail 3 2

/-- The self-check of R520: inputs 14 and 15, in 0.5 mV. -/
def selfCheckFails (c : Nat) (gnd ref : Int) : Bool :=
  decide (20 < gnd.natAbs) || decide (10 < (ref - Config.rowReference (c / 16)).natAbs)

/-- A converter leaves service (R520). -/
def State.failAdc (s : State) (c : Nat) : State :=
  (s.set F.ADC_FAILED_w_FAILED (ofSet (c % 32 :: setBits (s.get F.ADC_FAILED_w_FAILED (c / 32)) 32) 32) (c / 32)).setBit F.ADC_EVENTS_SELFCHECK

/-- A converter may scan: no urgent request runs on it. A round that a safety request aborted resumes after the scan (R517, R523). -/
def State.mayScan (s : State) (c : Nat) : Bool := (s.adc c).safety == [] && (s.roundOf c == [] || (s.adc c).roundAborted)

/-- MONITOR_SCAN: converter `c` scans; `v`: the readings of inputs 8, 9, 10, 11, 14 and 15 (R515, R516, R520). A converter out of
service reads 0. A die temperature above 105 °C is a THERMAL detection (R544). -/
def execMonitorScan (c : Nat) (v : List Int) (s : State) : Host.Outcome State Fault Refusal :=
  if 64 ≤ c ∨ !s.rowPowered (c / 16) ∨ !s.mayScan c then .next s
  else
    let failed := s.adcFailed c
    let x := (List.range 4).map fun i => if failed then 0 else unsigned (v.getD i 0) 16
    let s := (((s.set F.ADC_MONn_0_TEMP (x.getD 0 0) c).set F.ADC_MONn_0_RAIL_HI (x.getD 1 0) c).set F.ADC_MONn_1_RAIL_LO (x.getD 2 0) c).set
      F.ADC_MONn_1_RAIL_A (x.getD 3 0) c
    let s := if s.scanAlarm x then (s.setBit F.ADC_EVENTS_ALARM).raise (0x3C0 + c) s.fr else s
    let s := if 10500 < signed (x.getD 0 0) 16 then s.detect { kind := 9, cause := 0x227, source := 0xA01 } else s
    .next (if !failed && selfCheckFails c (v.getD 4 0) (v.getD 5 0) then s.failAdc c else s)

/-- OVEN_CONVERSION: ADC00 converts the thermistor 16 times; `sum`: the sum of the raw codes, which is the oven controller's reading
(R298, R515). -/
def execOvenConversion (sum : Nat) (s : State) : Host.Outcome State Fault Refusal :=
  if !s.rowPowered 0 ∨ !s.mayScan 0 then .next s
  else execOvenReading (if s.adcFailed 0 then 0 else sum) s

/-! ## Urgent requests (R517 to R519) -/

/-- An urgent request aborts the conversion in progress, whose result then sets RESTARTED (R517). -/
def State.abortConversion (s : State) (c : Nat) : State :=
  match (s.adc c).run with
  | some r => (s.setAdc c { s.adc c with run := some { r with restarted := true } }).setBit F.ADC_EVENTS_RESTART
  | none => s

/-- A round takes the channels that are pending (R518). -/
def State.startRound (s : State) (c : Nat) : State :=
  ((List.range 4).map (4 * c + ·)).foldl (fun s h =>
    if (s.chan h).verifyPending then s.setChan h { s.chan h with verifyPending := false, inRound := true } else s)
    (s.setAdc c { s.adc c with roundAborted := false })

/-- A channel of the converter waits for its verification. -/
def State.verifyWaits (s : State) (c : Nat) : Bool := (List.range 4).any fun i => (s.chan (4 * c + i)).verifyPending

/-- URGENT_REQUEST: the safety monitor's request for channel `h` after an overstress detection (`safety`), or the begin of a
verification round on the converter of `h` (R517, R518). A safety request aborts a verification's conversion. -/
def execUrgentRequest (h : Nat) (safety : Bool) (s : State) : Host.Outcome State Fault Refusal :=
  let c := h / 4
  let a := s.adc c
  if safety then
    if !s.safetyDue.contains h then .next s
    else
      let idle := a.safety = [] ∧ s.roundOf c = []
      let s := { s with safetyDue := s.safetyDue.erase h }
      let s := if idle then s.abortConversion c else if a.safety = [] then s.setBit F.ADC_EVENTS_RESTART else s
      .next (s.setAdc c { s.adc c with safety := (s.adc c).safety ++ [(h, [])], roundAborted := s.roundOf c != [] })
  else if !s.verifyWaits c ∨ s.roundOf c ≠ [] ∨ !s.rowPowered (c / 16) then .next s
  else
    let s := if a.safety = [] then s.abortConversion c else s
    .next (s.startRound c)

/-- The largest deviation that passes, 5.0 mV in steps of 122.0703125 µV (R518). -/
def devLimit : Nat := 41

/-- LEVEL_VERIFY: the DEV readback of the next channel of converter `c`'s round is converted (R518, R519). A converter out of service
fails it (R520). After the round, the channels that became pending form the next one. -/
def execLevelVerify (c dev : Nat) (s : State) : Host.Outcome State Fault Refusal :=
  match s.roundOf c with
  | [] => .next s
  | h :: _ =>
    if (s.adc c).safety ≠ [] then .next s
    else
      let failed := s.adcFailed c
      let ok := !failed && decide (dev ≤ devLimit)
      let s := (s.setChan h { s.chan h with inRound := false, verified := ok }).setAdc c { s.adc c with roundAborted := false }
      let s := if ok then s
        else (((s.setBit F.ADC_EVENTS_VERIFY_FAIL).set F.ADC_VERIFY_INFO_DEV (if failed then 0 else dev)).set F.ADC_VERIFY_INFO_CH h).detect
          { kind := 1, cause := 0x220, source := 0x300 + h }
      .next (if s.roundOf c = [] then s.startRound c else s)

/-! ## Result queues (R521, R522) -/

/-- The four words of a queue entry. -/
def resultWords (e : Nat × Nat) : List Word :=
  [BitVec.ofNat 32 e.1, BitVec.ofNat 32 (e.1 / 2 ^ 32), BitVec.ofNat 32 e.2, BitVec.ofNat 32 (e.2 / 2 ^ 32)]

/-- RESULT_QUEUE_POP: a read of ADC_RQr_0 pops the head entry and latches words 1 to 3 (R106, R522). -/
def execResultQueuePop (r : Nat) (s : State) : Host.Outcome State Fault Refusal :=
  if !s.booted ∨ 4 ≤ r then .next s
  else
    let ws := resultWords ((s.queue r).headD (0, 0))
    let latch := [RegName.ADC_RQr_1, .ADC_RQr_2, .ADC_RQr_3].zip (ws.drop 1)
    let s := s.set F.ADC_STATUS_STALLED (ofSet ((setBits (s.get F.ADC_STATUS_STALLED) 4).filter (· != r)) 4)
    .next { s with
      results := Store.put s.results r ((s.queue r).drop 1)
      latch := latch.foldl (fun (m : Store Reg Word) (p : RegName × Word) => Store.put m ⟨p.1, r, 0⟩ p.2) s.latch
      rdata := ws.take 1
      rstat := .ok }

end Sys2Proof.Machine
end

