-- ==== Sys2Proof/Machine/CalEngine.lean ====
section
/-!
DEFINITION. The calibration engine: images, their checks, the built-in procedures and the commit of a user layer (R532 to R541).
-/

namespace Sys2Proof.Machine

/-! ## Fields of a record (tables *Channel calibration record* and *Calibration limits*) -/

/-- A signed field: byte offset, bytes, largest user magnitude, least and greatest combined value. -/
structure CalField where
  off : Nat
  bytes : Nat
  user : Int
  lo : Int
  hi : Int
  deriving DecidableEq, Repr

/-- The fields in the order of their offsets. -/
def calFields : List CalField :=
  [⟨4, 4, 65535, 0, 2097151⟩, ⟨8, 2, 10, -20, 20⟩] ++
  ((List.range 8).map fun i => ⟨12 + 2 * i, 2, 512, -2048, 2048⟩) ++
  ((List.range 3).map fun i => ⟨28 + 4 * i, 4, 10486, -52429, 52429⟩) ++
  ((List.range 2).map fun i => ⟨40 + 2 * i, 2, 240, -1000, 1000⟩) ++
  ((List.range 6).flatMap fun i => [⟨44 + 4 * i, 2, 1638, -3277, 3277⟩, ⟨46 + 4 * i, 2, 655, -3277, 3277⟩]) ++
  ((List.range 32).map fun i => ⟨68 + i, 1, 127, -127, 127⟩)

/-- The user values of a channel in force, in the order of `calFields`. -/
def State.userValues (s : State) (c : Nat) : List Int := calFields.map fun f => recField (s.userWord c) f.off f.bytes

/-- The values of a record in an image. -/
def recordValues (img : Bytes) (at_ : Nat) : List Int := calFields.map fun f => signed (Bytes.le img (at_ + f.off) f.bytes) (8 * f.bytes)

/-- The 32 words of a channel's record with given values. -/
def recordWords (c : Nat) (vs : List Int) : List Word :=
  let n := (calFields.zip vs).foldl (fun a p => a + unsigned p.2 (8 * p.1.bytes) * 2 ^ (8 * p.1.off)) c
  (List.range 32).map fun j => BitVec.ofNat 32 (n / 2 ^ (32 * j))

/-- The channels of Rows, ascending. -/
def rowChans (rows : List Nat) : List Nat := rows.flatMap fun r => (List.range 64).map (64 * r + ·)

/-! ## Images (R532, R533) -/

/-- An image with its CRC field at 0, and its CRC. -/
def imageCrc (img : Bytes) : Nat := (crc32c (img.take 60 ++ leBytes 0 4 ++ img.drop 64)).toNat

/-- FACTORY_ID as CAL_FACT_ID shows it. -/
def State.factoryIdNow (s : State) : Nat := s.get F.CAL_FACT_ID_0_ID_LO + s.get F.CAL_FACT_ID_1_ID_HI * 2 ^ 32

/-- The records of the user layer in force for a list of channels. -/
def State.userRecords (s : State) (cs : List Nat) : Bytes := cs.flatMap fun c => wordBytes ((List.range 32).map fun j => s.rd ⟨.CAL_USER, c, j⟩)

/-- The image that CAL_SAVE writes (R533). -/
def State.saveImage (s : State) (rows : List Nat) : Bytes :=
  let head := leBytes 0x43414C31 4 ++ leBytes 1 2 ++ leBytes 0 1 ++ leBytes (ofSet rows 4) 1 ++ leBytes Config.serial.toNat 8 ++
    leBytes s.factoryIdNow 8 ++ leBytes (64 * rows.length) 2 ++ leBytes 0 6 ++ leBytes (s.dt80 s.fr) 10 ++ leBytes 0 22
  let img := head ++ s.userRecords (rowChans rows)
  img.take 60 ++ leBytes (imageCrc img) 4 ++ img.drop 64

/-! ## The checks (table *Calibration results*) -/

/-- A rejection: result, first failing channel, byte offset of the failing field. -/
abbrev CalFail := Nat × Nat × Nat

/-- Bytes of a span are all 0. -/
def spanZero (img : Bytes) (off n : Nat) : Bool := Bytes.le img off n == 0

/-- Check FORMAT of a header and of the records' reserved bytes. -/
def formatCheck (img : Bytes) : Option CalFail :=
  let kind := Bytes.le img 6 1
  let proc := Bytes.le img 26 1
  let scope := Bytes.le img 7 1
  let recs := if kind = 0 then 64 * (setBits scope 4).length else 0
  if Bytes.le img 0 4 != 0x43414C31 || Bytes.le img 4 2 != 1 || decide (1 < kind) || decide (16 ≤ scope) ||
      (if kind = 0 then proc != 0 else proc == 0 || decide (3 < proc)) || !spanZero img 27 5 || !spanZero img 42 18 ||
      img.length != 64 + 128 * recs || Bytes.le img 60 4 != imageCrc img then some (1, 0, 0)
  else
    (List.range recs).findSome? fun i =>
      let a := 64 + 128 * i
      ([(2, 2), (10, 2), (100, 28)].find? fun p => !spanZero img (a + p.1) p.2).map fun p =>
        (1, (rowChans (setBits scope 4)).getD i 0, p.1)

/-- Check DEVICE: a LAYER image names this device and its factory layer. -/
def State.deviceCheck (s : State) (img : Bytes) : Option CalFail :=
  if Bytes.le img 6 1 = 0 ∧ (Bytes.le img 8 8 ≠ Config.serial.toNat ∨ Bytes.le img 16 8 ≠ s.factoryIdNow) then some (2, 0, 0) else none

/-- Check SCOPE against the order's SCOPE. -/
def scopeCheck (img : Bytes) (rows : List Nat) : Option CalFail :=
  let layer := Bytes.le img 6 1 = 0
  if setBits (Bytes.le img 7 1) 4 ≠ rows ∨ Bytes.le img 24 2 ≠ (if layer then 64 * rows.length else 0) then some (3, 0, 0)
  else if layer then
    (((rowChans rows).zipIdx).find? fun p => Bytes.le img (64 + 128 * p.2) 2 != p.1).map fun p => (3, p.1, 0)
  else none

/-- The first field of a layer that a test finds wrong. -/
def layerFind (layer : List (Nat × List Int)) (code : Nat) (bad : Nat → CalField → Int → Bool) : Option CalFail :=
  layer.findSome? fun p => ((calFields.zip p.2).find? fun q => bad p.1 q.1 q.2).map fun q => (code, p.1, q.1.off)

/-- The user layer with new values, as it stands after a commit (R535). -/
def State.writeLayer (s : State) (layer : List (Nat × List Int)) : State :=
  layer.foldl (fun s p => ((recordWords p.1 p.2).zipIdx).foldl (fun s q => s.wr ⟨.CAL_USER, p.1, q.2⟩ q.1) s) s

/-- Byte offsets of the offsets that correct the values of `Levels.all`. -/
def targetOffs (l : LevelSet) : List Nat := [12, 14, 16, 18, 20, if l.pmuMode = fimv then 44 + 4 * l.pmuRange else 26, 22, 24, 40, 42]

/-- Check LEVEL: with the new corrections every live set passes check RANGE (R56). `s` holds the new layer. -/
def State.levelCheck (s : State) (cs : List Nat) : Option CalFail :=
  (cs.find? fun c => !s.rangeOk c (s.live c)).map fun c =>
    let l := s.live c
    let (lo, hi) := driverLimits l.drvRange
    let i := ((l.targets.all.zip (s.correctedSet c l).all).zipIdx).findIdx fun p =>
      !(decide (p.1.1 = p.1.2) || Config.inHardwareRange p.2 l.drvRange p.1.2) ||
      (decide (p.2 < 2) && (decide (p.1.2 < (lo : Int)) || decide ((hi : Int) < p.1.2))) || (decide (8 ≤ p.2) && decide (24000 < p.1.2))
    (6, c, (targetOffs l).getD i 0)

/-- Checks LIMIT, COMBINED and LEVEL of a new layer. -/
def State.layerCheck (s : State) (layer : List (Nat × List Int)) : Option CalFail :=
  layerFind layer 4 (fun _ f v => decide (v < -f.user) || decide (f.user < v)) <|>
  layerFind layer 5 (fun c f v =>
    let x := v + recField (s.factWord c) f.off f.bytes
    decide (x < f.lo) || decide (f.hi < x)) <|>
  (s.writeLayer layer).levelCheck (layer.map Prod.fst)

/-! ## Results (R534, R536) -/

/-- SOURCE of the order's Ledger record: Rows and procedure. -/
def CalRun.source (r : CalRun) : Nat := ofSet r.rows 4 + r.proc * 16

/-- A rejected CAL_LOAD: the rejection record, the result and the COMPLETE receipt (R534, R536). -/
def State.calReject (s : State) (r : CalRun) (f : CalFail) : State :=
  let s := (((s.set F.CAL_STATUS_RESULT f.1).set F.CAL_STATUS_FAIL_CH f.2.1).set F.CAL_STATUS_FAIL_FIELD f.2.2).setBit F.CAL_EVENTS_REJECT
  let s := s.ledger { code := 0x31, source := r.source, aux := f.1 * 2 ^ 28 + f.2.1 * 2 ^ 8 + f.2.2, data := s.factoryIdNow, reserved := true }
  ((s.modWork r.work fun w => { w with count := 1 }).calDone r.work).finalReceipt r.work Status.complete

/-- The checks on a new layer, then its acceptance or rejection. `later`: the failures that come after check LEVEL in the table. -/
def State.calJudge (s : State) (r : CalRun) (layer : List (Nat × List Int)) (later : Option CalFail) : State :=
  match s.layerCheck layer <|> later with
  | some f => s.calReject r f
  | none => { s with calRun := some { r with phase := .accepted, layer } }

/-! ## The rows -/

/-- An order still waits for the engine: a CAL_SAVE that is routed, an admitted CAL_LOAD whose window has begun (R405, R533). -/
def State.awaitsEngine (s : State) (k : Nat) : Bool :=
  match s.work? k with
  | some w => (w.opcode == Op.calSave && w.stage == .routed) ||
      (w.opcode == Op.calLoad && w.cause == 0 && (w.stage == .window || (w.stage == .admitted && decide (w.resv.start ≤ s.fr))))
  | none => false

/-- The order that the engine serves next: the first of those that wait, in the order they reached it (R533). -/
def State.engineNext (s : State) : Option Nat := s.calQueue.find? s.awaitsEngine

/-- CAL_LOAD: offered to the Toll; once admitted, the engine takes it when it is free, in the order of admission (R533, R534). -/
def execCalLoad (k : Nat) (s : State) : Host.Outcome State Fault Refusal :=
  .next (s.tollOrder k Op.calLoad fun w =>
    if s.calRun.isSome ∨ s.engineNext ≠ some k then s
    else
      let s := (((s.setBit F.CAL_STATUS_BUSY).set F.CAL_STATUS_ROWS (ofSet w.calRows 4)).set F.CAL_ORDER_0_STALL w.stall).set
        F.CAL_ORDER_1_SEQ w.seq
      { s.setWork k { w with stage := .running } with calRun := some { work := k, rows := w.calRows } })

/-- CAL_SAVE: writes the image of the user layer in force, once the engine is free (R393, R533). -/
def execCalSave (k : Nat) (s : State) : Host.Outcome State Fault Refusal :=
  .next (s.onWork k Op.calSave fun w =>
    if w.stage ≠ .routed ∨ s.calRun.isSome ∨ s.engineNext ≠ some k then s
    else
      let img := s.saveImage w.calRows
      if w.body 40 4 < img.length then s.finalReceipt k Status.refused 0x103
      else (s.send (.data w.fn (w.body 32 8) img)).setWork k { w with stage := .running, count := img.length, result := Bytes.le img 60 4 })

/-- A procedure begins: its channels go to the calibration bus; EDGE_LIN finds no open watch on its Rows (R537, R538). -/
def State.calBegin (s : State) (r : CalRun) : State :=
  match (if r.proc = 1 then r.rows.find? s.watchOnRow else none) with
  | some row => s.calReject r (7, 64 * row, 0)
  | none =>
    { (rowChans r.rows).foldl (fun (s : State) c => s.setChan c { s.chan c with onCalBus := true }) s with
      calRun := some { r with phase := .measuring } }

/-- CAL_IMAGE_READ: the engine has read the image `img`, LENGTH bytes; it checks a layer or begins a procedure (R534). -/
def execCalImageRead (img : Bytes) (s : State) : Host.Outcome State Fault Refusal :=
  match s.calRun with
  | none => .next s
  | some r =>
    match s.work? r.work with
    | none => .next s
    | some w =>
      if r.phase ≠ .reading ∨ img.length ≠ w.body 40 4 then .next s
      else
        let kind := Bytes.le img 6 1
        let proc := Bytes.le img 26 1
        let r := { r with kind, proc := if kind = 1 then proc else 0 }
        match formatCheck img <|> s.deviceCheck img <|> scopeCheck img r.rows with
        | some f => .next ((s.set F.CAL_STATUS_PROC (if f.1 = 1 then 0 else r.proc)).calReject { r with proc := if f.1 = 1 then 0 else r.proc } f)
        | none =>
          let s := s.set F.CAL_STATUS_PROC r.proc
          if r.proc = 0 then .next (s.calJudge r (((rowChans r.rows).zipIdx).map fun p => (p.1, recordValues img (64 + 128 * p.2))) none)
          else .next (s.calBegin r)

/-- The procedure that runs in the engine is procedure `p`. -/
def State.measuring (s : State) (p : Nat) : Option CalRun := s.calRun.filter fun r => r.phase == .measuring && r.proc == p

/-- The user values of a channel with those of the fields `sel` replaced, in their order. -/
def State.mergeValues (s : State) (c : Nat) (sel : CalField → Bool) (vs : List Int) : List Int :=
  ((calFields.zip (s.userValues c)).foldl (fun (a : List Int × List Int) p =>
    if sel p.1 then (a.1 ++ [a.2.headD 0], a.2.drop 1) else (a.1 ++ [p.2], a.2)) ([], vs)).1

/-- d(f) of a channel, in 2⁻⁸ tu (R538). -/
def edgeD (means : List Int) (f : Nat) : Int := means.getD f 0 - means.getD 0 0 - 256 * f

/-- The combined INL that EDGE_LIN gives at index `k`: −round(d(8k) / 32) (R538). -/
def edgeInl (means : List Int) (k : Nat) : Int := -(divNear (edgeD means (8 * (k % 32))) 32)

/-- |d(f)/256 + c(f)| in 1/256 tu, where c(f) is the interpolation between INL⌊f/8⌋ and the next (R530, R538). -/
def edgeResidual (means : List Int) (f : Nat) : Nat :=
  let a := edgeInl means (f / 8)
  let b := edgeInl means (f / 8 + 1)
  (edgeD means f + 4 * (8 * a + (b - a) * ((f % 8 : Nat) : Int))).natAbs

/-- EDGE_LIN has measured every channel of its Rows at every fine code (R538). -/
def CalRun.edgesDone (r : CalRun) : Bool := (rowChans r.rows).all fun c => (Store.getD r.means c []).length == 256

/-- The measurement of a channel failed in EDGE_LIN (result MEASURE): as a stop it was MISSING, or its converter is out of service or took a
saturated reading (R303, R520, R538). -/
def State.edgeFailed (s : State) (r : CalRun) (saturated : Bool) (conv c : Nat) : Bool :=
  (Store.getD r.means c []).any (·.2 == 0) || s.adcFailed (c / 4) || (saturated && c / 4 == conv)

/-- EDGE_LIN: the procedure's runs have ended, and its results are judged; a stop that a run did not see is MISSING. `temps`: for each Row, the
mean of its input-8 readings; `saturated`: the reading of converter `conv` saturated (R303, R538). -/
def execEdgeLin (temps : List Int) (saturated : Bool) (conv : Nat) (s : State) : Host.Outcome State Fault Refusal :=
  match s.measuring 1 with
  | none => .next s
  | some r =>
    let cs := rowChans r.rows
    let m (i : Nat) : List Int := (Store.getD r.means (cs.getD i 0) []).map Prod.fst
    if !r.edgesDone then .next s
    else match cs.find? (s.edgeFailed r saturated conv) with
    | some c => .next ((s.calBusOff r.rows).calReject r (8, c, 0))
    | none =>
      let s := s.calBusOff r.rows
      let layer := (cs.zipIdx).map fun p => (p.1, s.mergeValues p.1 (fun f => decide (68 ≤ f.off))
        ((List.range 32).map fun k => edgeInl (m p.2) k - recField (s.factWord p.1) (68 + k) 1))
      let res := (cs.zipIdx).findSome? fun p =>
        ((List.range 256).find? fun f => decide (1024 < edgeResidual (m p.2) f)).map fun f => ((9, p.1, 68 + f / 8) : CalFail)
      let refs := (r.rows.zipIdx).map fun p => (p.1, unsigned ((m (64 * p.2 + 1)).getD 0 0) 32, unsigned (temps.getD p.2 0) 16)
      .next (s.calJudge { r with refs } layer res)

/-- A procedure whose measured user values are operands: `vals` for each channel, `residual` for each channel (R539, R540). -/
def State.trim (s : State) (r : CalRun) (sel : CalField → Bool) (limit : Nat) (vals : List (List Int)) (residual : List Nat) (failed : Bool) : State :=
  let cs := rowChans r.rows
  let s := s.calBusOff r.rows
  let out := cs.find? fun c => s.adcFailed (c / 4)
  if failed ∨ out.isSome then s.calReject r (8, out.getD (cs.headD 0), 0)
  else
    let layer := (cs.zipIdx).map fun p => (p.1, s.mergeValues p.1 sel (vals.getD p.2 []))
    s.calJudge r layer (((cs.zipIdx).find? fun p => decide (limit < residual.getD p.2 0)).map fun p => (9, p.1, 0))

/-- LEVEL_TRIM: the procedure has measured. `vals`: for each channel, the new user values of ZTRIM, the OFF_ level fields, the gains and
the load offsets, in record order; `residual` in µV (R539). -/
def execLevelTrim (vals : List (List Int)) (residual : List Nat) (failed : Bool) (s : State) : Host.Outcome State Fault Refusal :=
  match s.measuring 2 with
  | none => .next s
  | some r => .next (s.trim r (fun f => decide (8 ≤ f.off) && decide (f.off < 44)) 1000 vals residual failed)

/-- PMU_TRIM: the procedure has measured. `vals`: for each channel, the new user values of PMU_I0 to PMU_I4 and PMU_V; `residual` in
codes (R540). -/
def execPmuTrim (vals : List (List Int)) (residual : List Nat) (failed : Bool) (s : State) : Host.Outcome State Fault Refusal :=
  match s.measuring 3 with
  | none => .next s
  | some r => .next (s.trim r (fun f => decide (44 ≤ f.off) && decide (f.off < 68)) 4 vals residual failed)

/-- A change of values moves a level, load or PMU correction (R531). -/
def rampsFor (old new : List Int) : Bool :=
  (calFields.zip (old.zip new)).any fun p => decide (12 ≤ p.1.off) && decide (p.1.off < 68) && p.2.1 != p.2.2

/-- CAL_COMMIT: the engine writes the reserved record, and the new values replace the old together (R535, R536). -/
def execCalCommit (s : State) : Host.Outcome State Fault Refusal :=
  match s.calRun with
  | none => .next s
  | some r =>
    if r.phase ≠ .accepted then .next s
    else
      let cs := r.layer.map Prod.fst
      let moved := (r.layer.filter fun p => rampsFor (s.userValues p.1) p.2).map Prod.fst
      let s := s.writeLayer r.layer
      let s := s.ledger { code := 0x30, source := r.source, aux := (crc32c (s.userRecords cs)).toNat, data := s.factoryIdNow, reserved := true }
      let s := s.wr ⟨.CAL_USER_CRC, 0, 0⟩ (crc32c (s.userRecords (List.range 256)))
      let s := (((((s.countUp F.CAL_COMMITS_COUNT).setBit F.CAL_EVENTS_COMMIT).set F.CAL_STATUS_RESULT 0).set F.CAL_STATUS_FAIL_CH 0).set
        F.CAL_STATUS_FAIL_FIELD 0)
      let s := r.refs.foldl (fun s p => (s.set F.CAL_LINr_0_REFDLY p.2.1 p.1).set F.CAL_LINr_1_TEMP p.2.2 p.1) s
      let s := moved.foldl (fun s c => s.requestRamp c) s
      let left := cs.filter fun c => moved.contains c || !s.bit F.CHn_STATUS_SETTLED c || (s.chan c).phase != .idle
      let s := { s.modWork r.work fun w => { w with count := 1, left } with calRun := some { r with phase := .committed } }
      .next (if left = [] then (s.calDone r.work).finalReceipt r.work Status.complete else s)

end Sys2Proof.Machine
end

