-- ==== Sys2Proof/Machine/Reset.lean ====
section
/-!
DEFINITION. What a reset other than a function-level reset leaves (R600).
-/

namespace Sys2Proof.Machine

/-- A register that a reset leaves unchanged: the keeper-retained ones, the oven's among them (R298, R600), and the sampled straps
(R603). -/
def RegName.kept (r : RegName) : Bool :=
  r.keeper || [RegName.TALLY_OVEN_STATUS, .TALLY_OVEN_INBAND, .BOOT_STRAP, .GSL_STRAP].contains r

/-- Fields that a reset leaves unchanged beside the registers of `RegName.kept` (R482, R573, R613). -/
def keptFields : List Fld :=
  [F.BOOT_RESET_CAUSE_WDT_LOOP, F.DRAM_ILV_STATUS_PENDING, F.DRAM_ILV_STATUS_NEXT_GRAIN, F.LEDG_STATUS_FULL]

/-- Everything outside the keeper takes its reset state (R600). The Ledger, its queued events, the backup count and the oven
controller keep theirs. -/
def State.resetDevice (s : State) : State :=
  let t : State :=
    { State.reset with
      regs := s.regs.filter fun p => p.1.name.kept
      free := s.free
      rdata := s.rdata
      rstat := s.rstat
      ledgerEvents := s.ledgerEvents
      ledgRecs := s.ledgRecs
      ledgQueue := s.ledgQueue
      ledgWrite := s.ledgWrite
      ledgTorn := s.ledgTorn
      oven := s.oven
      perstLow := s.perstLow
      resetNLow := s.resetNLow
      powerGood := s.powerGood
      p4Event := s.p4Event
      resets := s.resets
      inReset := s.inReset
      pending := s.pending }
  let t := keptFields.foldl (fun t f => t.set f (s.get f)) t
  let t := t.setIf F.LEDG_EVENTS_FULL (s.bit F.LEDG_STATUS_FULL)
  (t.setIf F.TALLY_STATUS_OVEN_READY (s.get F.TALLY_OVEN_STATUS_STATE = 2)).refreshLedger

end Sys2Proof.Machine
end

