-- ==== Sys2Proof/Machine/Power.lean ====
section
/-!
DEFINITION. Power states, unused Rows, the VCORE request and the pace gauge (spec/24_power_thermal.md, R18 to R22).
-/

namespace Sys2Proof.Machine

/-! ## Idle, pending instants (R584, R585) -/

/-- The entry that converter `c` waits for with an AFTER trigger: its instant (R512). -/
def State.afterAt (s : State) (c : Nat) : Option Tu :=
  let a := s.adc c
  match a.run, a.seqs, a.last with
  | none, k :: _, some t =>
    (s.work? k).bind fun w => (w.nextIx c a.next).bind fun i =>
      let e := w.entry (i % w.entries)
      if entryTrigger e = 1 then some (t + entryDelay e * 4096000) else none
  | _, _, _ => none

/-- An ADC_SEQUENCE is in an AFTER wait: no converter converts for it and one waits for its delay. -/
def State.afterWaits (s : State) (k : Nat) : Bool :=
  s.adcIdleFor k && s.adcs.any fun p => p.2.seqs.head? == some k && (s.afterAt p.1).isSome

/-- A piece of work keeps the device from being idle (R584). -/
def State.busyWork (s : State) (k : Nat) (w : Work) : Bool :=
  match w.stage with
  | .waiting | .joint | .delayed | .depWait => false
  | .admitted => decide (w.resv.start ≤ s.fr)
  | .running => !(w.opcode == Op.adcSequence && s.afterWaits k)
  | _ => true

/-- The device is idle (R584). -/
def State.idle (s : State) : Bool :=
  !(s.works.any fun p => s.busyWork p.1 p.2) && !(s.watches.any fun p => p.2.openAt.isSome && !p.2.closed) && s.tsPending.isEmpty &&
  s.receipts.isEmpty && s.triggers.isEmpty &&
  (List.range 256).all (fun c => !s.bit F.CHn_STATUS_RAMPING c && s.bit F.CHn_STATUS_SETTLED c) &&
  s.chans.all (fun p => !p.2.verifyPending && !p.2.inRound) && !s.bit F.FLT_STATUS_HANDLING

/-- The pending instants (R585). -/
def State.pendingInstants (s : State) : List Tu :=
  (s.works.filterMap fun p =>
    match p.2.stage with
    | .admitted => if s.fr < p.2.resv.start then some p.2.resv.start else none
    | .waiting => some p.2.release
    | .delayed => some (s.toFree (Store.getD s.items p.1 {}).release.toNat)
    | _ => none) ++
  (s.adcs.filterMap fun p => s.afterAt p.1) ++ ((s.frames0 ++ s.frames1).map (·.at_))

/-- The earliest of a list of instants. -/
def earliest : List Tu → Option Tu
  | [] => none
  | a :: l => some (l.foldl min a)

/-! ## The choice of a state (R581, R586) -/

/-- Exit latency of a state, in µs. -/
def exitLatency (n : Nat) : Nat := match n with | 0 => 0 | 1 => 2 | 2 => 25 | 3 => 2000 | _ => 400000

/-- One µs in tu. -/
def usTu : Tu := 4096000

/-- The exit latency is within the host's tolerance. -/
def State.tolerates (s : State) (n : Nat) : Bool := decide (exitLatency n ≤ s.get F.PWR_LTR_LTR)

/-- The exit ends by the earliest pending instant. -/
def State.inTime (s : State) (n : Nat) : Bool :=
  match earliest s.pendingInstants with
  | some d => decide (s.fr + exitLatency n * usTu ≤ d)
  | none => true

/-- Every lane is OFF and both Ethernet ports are disabled. -/
def State.lanesPortsOff (s : State) : Bool :=
  (List.range 64).all (fun k => s.get F.LANEn_MODE_MODE k == 0) && (List.range 2).all fun p => !s.bit F.PTP_PORTn_CFG_EN p

/-- No stall is AWAKE; every stall is CLOSED. -/
def State.noneAwake (s : State) : Bool := s.stalls.all fun p => p.2.st != .awake
def State.allClosed (s : State) : Bool := s.stalls.all fun p => p.2.st == .closed

/-- The entry conditions of a state (table *Entry conditions*). -/
def State.entryOk (s : State) (n : Nat) : Bool :=
  (decide (n < 2) || s.lanesPortsOff) && (decide (n < 3) || s.noneAwake) &&
  (decide (n < 4) || (s.bit F.PWR_STATUS_P4_PENDING && s.p4Req.any (fun t => decide (s.fr ≤ t + 1000 * usTu)) && s.allClosed &&
    s.pendingInstants.isEmpty))

/-- The deepest state that the power manager may take. -/
def State.deepest (s : State) : Nat :=
  if !s.idle then 0
  else ([4, 3, 2, 1].find? fun n => decide (n ≤ s.get F.PWR_POLICY_MAX_STATE) && s.tolerates n && s.inTime n && s.entryOk n).getD 0

/-- Why the state below `st` was not taken (R598 BLOCK); where several hold, the lowest code but POLICY. -/
def State.blockCode (s : State) (st : Nat) : Nat :=
  let n := st + 1
  if !s.idle then 1
  else if 5 ≤ n then 0
  else if !s.tolerates n then 2
  else if !s.inTime n then 3
  else if 3 ≤ n ∧ !s.noneAwake then 4
  else if 2 ≤ n ∧ !s.lanesPortsOff then 5
  else if s.get F.PWR_POLICY_MAX_STATE < n then 6
  else 0

/-! ## Domains (R582, R591) -/

/-- The domains that are ON in a state (table *Domain states*). -/
def domainsOn (n : Nat) : List Nat :=
  match n with
  | 0 => List.range 20
  | 1 => (List.range 20).filter (· != 18)
  | 2 => [4, 5, 6, 7, 12, 14, 16, 17]
  | 3 => [12, 14]
  | _ => []

/-- Bring PWR_DOMAINS and the converters' power up to date (R582, R589, R591). -/
def State.refreshDomains (s : State) (n : Nat) (adcOn : Bool) : State :=
  let off (d : Nat) : Bool := decide (d < 8) && s.rowOff (d % 4)
  (s.set F.PWR_DOMAINS_ON (ofSet ((domainsOn n).filter fun d => !off d) 20)).set F.ADC_STATUS_POWERED
    (ofSet ((List.range 4).filter fun r => adcOn && !s.rowOff r) 4)

/-- The device takes a state (R586). -/
def State.setPower (s : State) (n : Nat) : State :=
  ((s.set F.PWR_STATUS_STATE n).setBit F.PWR_EVENTS_STATE_CHANGE).refreshDomains n (n ≤ 2)

/-- A Row's channels return from MON: each level DAC goes to its corrected live target, settles and is verified (R588, R591). `until_`
bounds the end of the exit. A halted channel stays halted. -/
def State.wakeRow (s : State) (r : Nat) (until_ : Tu) : State :=
  (rowChans [r]).foldl (fun (s : State) c =>
    let ch := s.chan c
    if ch.phase = .halted then s
    else
      let target := (s.correctedLevels c (s.live c)).map fun (v : Int) => (v : Rat)
      (s.setChan c { ch with phase := .settling, frm := target, target, start := until_, len := 0, verified := false, verifyPending := false,
                             inRound := false }).clrBit F.CHn_STATUS_SETTLED c) s

/-! ## P4 (R590) -/

/-- Device time, in whole µs, is written into the backup count, once it has been set (R502). -/
def State.writeBackup (s : State) : State :=
  if !s.timeSet then s
  else
    let us := s.deviceTime.toNat / microTu % 2 ^ 56
    ((s.wr ⟨.TIME_BACKUP_0, 0, 0⟩ (BitVec.ofNat 32 us)).set F.TIME_BACKUP_1_COUNT (us / 2 ^ 32)).setBit F.TIME_BACKUP_1_TV

/-- The device enters P4: everything outside the keeper loses its state, and DUT_SAFE_N is low (R590). -/
def State.enterP4 (s : State) : State :=
  (s.writeBackup.resetDevice.set F.PWR_STATUS_STATE 4).set F.PWR_DOMAINS_ON 0

/-! ## The rows -/

/-- The power manager chooses (R586): it goes deeper where it may, and shows IDLE and BLOCK. A rise passes through an exit. -/
def State.choosePower (s : State) : State :=
  let st := s.get F.PWR_STATUS_STATE
  let n := s.deepest
  if s.bit F.PWR_STATUS_EXITING then s.setIf F.PWR_STATUS_IDLE s.idle
  else if st < n ∧ n = 4 then s.enterP4
  else
    let s := if st < n then s.setPower n else s
    (s.setIf F.PWR_STATUS_IDLE s.idle).set F.PWR_STATUS_BLOCK (s.blockCode (max st n))

/-- POWER_STATE_SELECT: a scheduler tick or a change of idleness (R586). -/
def execPowerStateSelect (s : State) : Host.Outcome State Fault Refusal :=
  if !s.booted then .next s else .next s.choosePower

/-- POWER_EXIT_START: a wake event, or the planned instant of the exit (R587). Before the self-refresh command the entry to self-refresh is
abandoned (R477, R596). From P3 the Rows' converters and channels start to
return (R588). -/
def execPowerExitStart (planned : Bool) (s : State) : Host.Outcome State Fault Refusal :=
  let st := s.get F.PWR_STATUS_STATE
  if !s.booted ∨ st = 0 ∨ 4 ≤ st ∨ s.bit F.PWR_STATUS_EXITING then .next s
  else
    let s := if planned then
        (match earliest s.pendingInstants with | some d => s.advanceTo (d - exitLatency st * usTu) | none => s)
      else s
    let s := { s.setBit F.PWR_STATUS_EXITING with sref := if s.sref = .closing then .none_ else s.sref }
    if st < 3 then .next s
    else
      let until_ := s.fr + exitLatency 3 * usTu
      let s := s.refreshDomains 3 true
      .next (((List.range 4).filter fun r => !s.rowOff r).foldl (fun (s : State) r => s.wakeRow r until_) s)

/-- Every channel of the Rows in use is settled and verified, or halted. -/
def State.rowsReady (s : State) : Bool :=
  (List.range 256).all fun c => s.rowOff (c / 64) || (s.chan c).phase == .halted || (s.bit F.CHn_STATUS_SETTLED c && (s.chan c).verified)

/-- POWER_EXIT_COMPLETE: every domain is ON and the conditions of R588 hold; the device is in P0. -/
def execPowerExitComplete (s : State) : Host.Outcome State Fault Refusal :=
  let st := s.get F.PWR_STATUS_STATE
  if !s.bit F.PWR_STATUS_EXITING ∨ s.sref ≠ .none_ ∨ (3 ≤ st ∧ !s.rowsReady) then .next s
  else
    let s := (s.clrBit F.PWR_STATUS_EXITING).setPower 0
    .next (((s.setIf F.PWR_STATUS_IDLE s.idle).set F.PWR_STATUS_BLOCK (s.blockCode 0)).adcKick)

/-- P4_REQ: a write of 1 to PWR_CTRL.P4_REQ (R590). The device enters P4 at once where it may. -/
def execP4Req (s : State) : Host.Outcome State Fault Refusal :=
  if !s.booted then .next s
  else
    let s := if s.bit F.PWR_STATUS_P4_PENDING then s else { s.setBit F.PWR_STATUS_P4_PENDING with p4Req := some s.fr }
    .next (if s.deepest = 4 ∧ !s.bit F.PWR_STATUS_EXITING then s.enterP4 else s)

/-- P4_REQUEST_EXPIRY: a request has stood for 1 ms (R590). -/
def execP4RequestExpiry (s : State) : Host.Outcome State Fault Refusal :=
  match s.p4Req with
  | none => .next s
  | some t =>
    .next { ((s.advanceTo (t + 1000 * usTu)).clrBit F.PWR_STATUS_P4_PENDING).setBit F.PWR_EVENTS_P4_REJECT with p4Req := none }

/-- An event ends P4: a reset with the source P4_EXIT follows (R590, R599). -/
def State.endP4 (s : State) (event : Nat) : State :=
  { s.clrBit F.FLT_STATUS_DUT_SAFE_N with resets := s.resets ++ [(6, s.fr)], p4Event := event }

/-- P4_WAKE_TIMER: the backup count reaches PWR_WAKE (R590). -/
def execP4WakeTimer (s : State) : Host.Outcome State Fault Refusal :=
  if s.get F.PWR_STATUS_STATE = 4 ∧ s.bit F.PWR_WAKE_1_EN ∧ s.inReset.isNone then .next (s.endP4 2) else .next s

/-- An admitted or waiting Toll order, an open watch or a lane that is not OFF uses a Row (R591). -/
def State.rowUsed (s : State) (r : Nat) : Bool :=
  (s.works.any fun p => (p.2.admittedRcpt || p.2.stage == .waiting) &&
    (p.2.chans.any (fun c => c / 64 == r) || (p.2.watches && p.2.watchSlots.any fun n => n / 32 == r))) ||
  s.watchOnRow r || (List.range 16).any fun i => s.get F.LANEn_MODE_MODE (16 * r + i) != 0

/-- A Row turns off: its converters stop, and the ADC_SEQUENCE orders that run on them end VOID (R523, R591). -/
def State.rowGoesOff (s : State) (r : Nat) : State :=
  let on := s.adcs.filter fun p => p.1 / 16 == r
  let ks := on.filterMap fun p => p.2.run.bind fun x => if x.pmu then none else some x.work
  let s := on.foldl (fun (s : State) p => s.setAdc p.1 { s.adc p.1 with run := none, safety := [] }) s
  s.voidAll ks.eraseDups 0x230

/-- ROW_OFF_WRITE: a write of PWR_ROW_OFF (R591). -/
def execRowOffWrite (v : Word) (s : State) : Host.Outcome State Fault Refusal :=
  let new := F.PWR_ROW_OFF_OFF.get v
  let sets := (List.range 4).filter fun r => bitOf new r && !s.rowOff r
  let clears := (List.range 4).filter fun r => !bitOf new r && s.rowOff r
  if !s.booted then .next s
  else if sets.any s.rowUsed then .next (s.setBit F.PWR_EVENTS_ROW_BLOCKED)
  else
    let st := s.get F.PWR_STATUS_STATE
    let s := s.set F.PWR_ROW_OFF_OFF new
    let s := s.refreshDomains st (st ≤ 2 || s.bit F.PWR_STATUS_EXITING)
    let s := sets.foldl (fun s r => s.rowGoesOff r) s
    let until_ := s.fr + exitLatency 3 * usTu
    .next ((clears.foldl (fun s r => s.wakeRow r until_) s).adcKick)

/-! ## VCORE and pace (R19, R22, R594) -/

/-- REQ for a pace reading and a VCORE in mV (R594): 1 RAISE, 2 LOWER, 0 HOLD. -/
def vcoreReq (reading mv minMv : Nat) : Nat :=
  if reading < 4352 ∨ mv < minMv + 10 then 1 else if 4864 < reading ∧ minMv + 20 ≤ mv then 2 else 0

/-- VCORE_REQUEST_UPDATE: every 100 µs; `mv`: the measured VCORE (R594). The lands VREQ_UP and VREQ_DN show the two bits of REQ. -/
def execVcoreRequestUpdate (mv : Nat) (s : State) : Host.Outcome State Fault Refusal :=
  let s := s.set F.PWR_VCORE_NOW_MV mv
  .next (s.set F.PWR_PACE_REQ (vcoreReq (s.get F.PWR_PACE_READING) mv (s.get F.PWR_VCORE_MIN_MV)))

/-- The pace fault of a reading (R22): it undercuts the assumed pace of work in flight, or of work whose receipt was issued in the window
that the reading covers; that receipt stands (R23). -/
def State.paceFault (s : State) (reading : Nat) : State :=
  let low : Bool := (s.works.any fun p => p.2.isAdmitted && decide (reading < p.2.pace)) || s.donePaces.any (reading < ·)
  { (if low then s.detect { kind := 4, cause := 0x222, source := 0x610, reading } else s) with donePaces := [] }

/-- PACE_READING_PUBLISH: at the end of a 1 µs window the gauge publishes the pace of its slowest replica, `pace`, less its tolerance of
64 units (R19, R22, R23). A pace whose value less 64 does not fit the unsigned 16-bit reading is published as 0 or as 65,535; the spec is
silent there (DESIGN CHOICE, log entry 31). -/
def execPaceReadingPublish (pace : Nat) (s : State) : Host.Outcome State Fault Refusal :=
  let reading := min (pace - 64) 65535
  .next (((s.set F.PWR_PACE_READING reading).restartDecisions reading).paceFault reading)

/-- RUN_AHEAD_UNDERRUN: a buffer of burst `k` underruns or overruns: a pace fault of that burst (R18). -/
def execRunAheadUnderrun (k : Nat) (s : State) : Host.Outcome State Fault Refusal :=
  match s.work? k with
  | some w =>
    if w.opcode = Op.burst ∧ w.isAdmitted then .next (s.detect { kind := 4, cause := 0x222, source := 0x610, works := [k], reading := 65535 })
    else .next s
  | none => .next s

end Sys2Proof.Machine
end

