-- ==== Sys2Proof/Machine/Boot.lean ====
section
/-!
DEFINITION. Resets and boot (spec/25_boot_reset.md), the master clock's lock (R75), the power failure of the Ledger (R576).
-/

namespace Sys2Proof.Machine

/-! ## Firmware and patch images (R606, R607, R185, R186) -/

/-- Sections that a firmware image names: offset and length. -/
def fwSections (img : Bytes) : List (Nat × Nat) :=
  [(Bytes.le img 28 4, 2416), (Bytes.le img 32 4, 4096), (Bytes.le img 36 4, 128)].filter fun p => p.1 != 0

/-- Check FORM of a firmware image. -/
def fwFormOk (img : Bytes) : Bool :=
  let len := Bytes.le img 12 4
  let wdt := Bytes.le img 40 4
  Bytes.le img 0 4 == 0x46574731 && Bytes.le img 4 2 == 1 && spanZero img 7 1 && spanZero img 44 20 && len % 16 == 0 &&
  decide (4096 ≤ len) && decide (len ≤ 12582912) && img.length == len && (wdt == 0 || (decide (10 ≤ wdt) && decide (wdt ≤ 65535)))

/-- Check CONTENT of a firmware image. -/
def fwContentOk (img : Bytes) : Bool :=
  let stop := img.length - 96
  let inside (a n : Nat) : Bool := decide (64 ≤ a) && decide (a + n ≤ stop)
  inside (Bytes.le img 24 4) 4 && Bytes.le img 24 4 % 4 == 0 && (fwSections img).all (fun p => inside p.1 p.2) && apart (fwSections img)

/-- The result of a firmware check (table *Firmware results*); `flash`: the image comes from flash. -/
def fwResult (img : Bytes) (flash readOk : Bool) (b : BootIn) : Nat :=
  if flash && Bytes.le img 0 4 == 0xFFFFFFFF then 1
  else if !readOk then 2
  else if !fwFormOk img then 3
  else if 4 ≤ Bytes.le img 6 1 ∨ Config.keyRevoked (Bytes.le img 6 1) then 4
  else if !b.fwSig then 5
  else if Bytes.le img 8 4 < Config.minFwSvn then 6
  else if !fwContentOk img then 7
  else 0

/-- Match entries of a patch's plaintext. -/
def patchEntry (plain : Bytes) (i : Nat) : Nat := Bytes.le plain (2048 + 4 * i) 4

/-- Check CONTENT of a patch's plaintext with WORDS words: over all its microwords and match entries. -/
def patchContentOk (plain : Bytes) (words : Nat) : Bool :=
  let on := ((List.range 32).map (patchEntry plain)).filter fun e => bitOf e 31
  spanZero plain 2214 26 && on.all (fun e => decide (bitsOf e 0 9 < words)) && decide ((on.map fun e => bitsOf e 16 14).Nodup) &&
  (List.range 512).all fun i => uopListed (decodeUop (BitVec.ofNat 32 (Bytes.le plain (4 * i) 4))).uop

/-- The result of a patch check (table *Patch load results*). `p`: the patch image; empty = absent. Its signature, tag and plaintext are what its
bytes make them (R185). -/
def patchResult (p : Bytes) : Nat :=
  let words := Bytes.le p 24 2
  let entries := Bytes.le p 26 2
  if p = [] then 1
  else if Bytes.le p 0 4 != 0x48504355 || Bytes.le p 4 2 != 1 || !spanZero p 7 1 || !spanZero p 40 24 || words == 0 || decide (512 < words) ||
      decide (32 < entries) then 2
  else if 4 ≤ Bytes.le p 6 1 ∨ Config.keyRevoked (Bytes.le p 6 1) then 3
  else if !Config.patchSigOk p then 4
  else if Bytes.le p 8 4 ≠ Config.romRev.toNat then 5
  else if Bytes.le p 12 4 < Config.minPatchSvn then 6
  else if !Config.patchTagOk p then 7
  else if !patchContentOk (Config.patchPlain p) words then 8
  else 0

/-! ## Boot steps (R604) -/

/-- Boot halts (R609). -/
def State.bootHalt (s : State) (reason : Nat) : State := (s.set F.BOOT_STATUS_STAGE 15).set F.BOOT_STATUS_HALT reason

/-- The watchdog starts a fresh period (R611). -/
def State.wdtStart (s : State) (ms : Nat) : State :=
  { (s.setIf F.BOOT_WDT_RUNNING (ms ≠ 0)).set F.BOOT_WDT_REMAIN_MS ms with wdtMs := ms, wdtFrom := s.fr }

/-- The watchdog is stopped while boot waits without limit (R611). -/
def State.wdtStop (s : State) : State := s.clrBit F.BOOT_WDT_RUNNING

/-- Boot waits for a push (R605). -/
def State.waitPush (s : State) : State := { (s.setBit F.BOOT_STATUS_WAIT_PUSH).wdtStop with pushing := false }

/-- The BOOT record's event (R566, R604). -/
def State.bootRecord (s : State) : State :=
  s.ledger { code := 1, source := s.get F.BOOT_RESET_CAUSE_CAUSE, aux := s.get F.BOOT_COUNT_COUNT, data := Config.serial.toNat }

/-- Step 2 begins (R605). -/
def State.bootStep2 (s : State) : State :=
  let s := s.set F.BOOT_STATUS_STAGE 2
  match s.get F.BOOT_STRAP_BOOT_SRC with
  | 1 => s.waitPush
  | 3 => s.bootHalt 1
  | _ => s

/-- The registers of a family, written from the factory calibration area with the fields of a mask. -/
def State.loadFactory (s : State) (r : RegName) (i j off : Nat) (mask : Word) : State :=
  s.wr ⟨r, i, j⟩ ((s.rd ⟨r, i, j⟩ &&& ~~~mask) ||| (Config.factoryReg off &&& mask))

/-- Step 3: the patch is loaded or its RAM and match registers stay clear; its record is written (R186 to R188). -/
def State.bootStep3 (s : State) (img : Bytes) : State :=
  let at_ := Bytes.le img 28 4
  let p := if at_ = 0 then [] else (img.drop at_).take 2416
  let plain := Config.patchPlain p
  let r := patchResult p
  let s := (s.set F.BOOT_STATUS_STAGE 3).set F.BOOT_UCODE_STATUS_RESULT r
  let s := if r ≠ 0 then s
    else
      let words := Bytes.le p 24 2
      let entries := Bytes.le p 26 2
      let s := { s with patch := (List.range 512).map fun i => BitVec.ofNat 32 (if i < words then Bytes.le plain (4 * i) 4 else 0) }
      let s := (List.range 32).foldl (fun s i =>
        s.wr ⟨.BOOT_UCMATCH_n, i, 0⟩ (BitVec.ofNat 32 (patchEntry plain i) &&& BitVec.ofNat 32 (RegName.BOOT_UCMATCH_n).spec.rwl)) s
      let s := (List.range 19).foldl (fun s i => s.wr ⟨.BOOT_UCCOST_n, i + 1, 0⟩ (BitVec.ofNat 32 (Bytes.le plain (2176 + 2 * i) 2))) s
      let s := (s.set F.BOOT_UCODE_STATUS_ENTRIES entries).set F.BOOT_UCODE_STATUS_WORDS words
      ((s.wr ⟨.BOOT_UCODE_SVN, 0, 0⟩ (BitVec.ofNat 32 (Bytes.le p 12 4))).wr ⟨.BOOT_UCODE_ID_0, 0, 0⟩ (BitVec.ofNat 32 (Bytes.le p 16 4))).wr
        ⟨.BOOT_UCODE_ID_1, 0, 0⟩ (BitVec.ofNat 32 (Bytes.le p 20 4))
  let s := s.setBit F.BOOT_UCODE_CTRL_LOCK
  s.ledger { code := 0x10, source := r, aux := Bytes.le p 12 4, data := Bytes.le p 16 8 }

/-- Step 4: interface delays, the next map live, every byte of local memory 0 (R465, R467, R604). -/
def State.bootStep4 (s : State) : State :=
  let s := s.set F.BOOT_STATUS_STAGE 4
  let s := (List.range 64).foldl (fun s c => (List.range 4).foldl (fun s w =>
    s.loadFactory .DRAM_PHYn_w c w (0x6A0100 + 0x10 * c + 4 * w) 0xFFFFFFFF#32) s) s
  let s := s.setBit F.DRAM_PHY_CTRL_LOCK
  let s := (s.loadFactory .DRAM_SREF 0 0 (RegName.DRAM_SREF).spec.base 0xFFFFFFFF#32).loadFactory .TOLL_REFRESH 0 0
    (RegName.TOLL_REFRESH).spec.base 0xFFFFFFFF#32
  let n0 := s.rd ⟨.DRAM_ILV_NEXT_w, 0, 0⟩
  let n1 := s.rd ⟨.DRAM_ILV_NEXT_w, 1, 0⟩
  let e := (setBits n0.toNat 32).length + (setBits n1.toNat 32).length
  let s := (s.wr ⟨.DRAM_ILV_LIVE_w, 0, 0⟩ n0).wr ⟨.DRAM_ILV_LIVE_w, 1, 0⟩ n1
  let s := ((s.set F.DRAM_ILV_STATUS_LIVE_GRAIN (s.get F.DRAM_ILV_STATUS_NEXT_GRAIN)).set F.DRAM_ILV_STATUS_LIVE_CHANNELS e).clrBit
    F.DRAM_ILV_STATUS_PENDING
  { s.set F.DRAM_SIZE_MIB (1536 * e) with mem := [], poison := [] }

/-- Step 5: the factory layer and the other values of the factory calibration area take effect; hall formation starts, with
the training of every port that is not OFF (R249, R271, R410, R495, R524, R527, R594). -/
def State.bootStep5 (s : State) : State :=
  let s := { s with factApplied := true }
  let s := (s.set F.CAL_FACT_ID_0_ID_LO (Config.factoryId.toNat % 2 ^ 32)).set F.CAL_FACT_ID_1_ID_HI (Config.factoryId.toNat / 2 ^ 32)
  let one (s : State) (r : RegName) (i off : Nat) (m : Word) : State := s.loadFactory r i 0 (r.spec.base + off) m
  let s := (List.range 4).foldl (fun s r => one (one s .CAL_LINr_0 r (8 * r) 0xFFFFFFFF#32) .CAL_LINr_1 r (8 * r) 0xFFFF#32) s
  let s := (List.range 3).foldl (fun s m => one s .ADC_RAIL_LIMIT_m m (4 * m) 0xFFFFFFFF#32) s
  let s := (List.range 4).foldl (fun s n => one (one s .AWN_RES_n n (4 * n) 0xFFFF#32) .AWN_CAP_n n (4 * n) 0xFFFF#32) s
  let s := (List.range 2).foldl (fun s n => one (one s .PTP_PORTn_TXLAT n (0x40 * n) 0xFFFFFFFF#32) .PTP_PORTn_RXLAT n (0x40 * n) 0xFFFFFFFF#32) s
  let s := one (one (one s .AWN_BASE 0 0 0xFFFF#32) .AWN_SPLIT 0 0 0xFFFFFF#32) .PWR_VCORE 0 0 0xFFFF0000#32
  let s := (List.range 256).foldl (fun (s : State) c =>
    let target := (s.correctedLevels c (s.live c)).map fun (v : Int) => (v : Rat)
    s.setChan c { s.chan c with frm := target, target }) s
  let s := (List.range 4).foldl (fun s p =>
    if s.get F.GSL_PORTn_CFG_ROLE p = 3 then s else s.set F.GSL_PORTn_STATUS_STATE 1 p) s
  (s.refreshDomains 0 true).tryForm

/-- Step 7: the stall map and the mailbox bindings are written and locked (R345, R450). -/
def State.bootStep7 (s : State) (img : Bytes) : State :=
  let plan := Bytes.le img 32 4
  let mbx := Bytes.le img 36 4
  let s := s.set F.BOOT_STATUS_STAGE 7
  let fnOf (k : Nat) : Nat := if plan = 0 then k / 64 else Bytes.le img (plan + k) 1
  let s := (List.range 1024).foldl (fun s m =>
    s.wr ⟨.STALL_FN_MAP_m, m, 0⟩ (BitVec.ofNat 32 (fnOf (4 * m) + fnOf (4 * m + 1) * 2 ^ 8 + fnOf (4 * m + 2) * 2 ^ 16 + fnOf (4 * m + 3) * 2 ^ 24))) s
  let s := s.setBit F.STALL_FN_CTRL_LOCK
  let s := (List.range 16).foldl (fun s n =>
    if mbx = 0 then s
    else (s.wr ⟨.MBX_SHn_TX_ID, n, 0⟩ (BitVec.ofNat 32 (Bytes.le img (mbx + 8 * n) 4))).wr ⟨.MBX_SHn_RX_ID, n, 0⟩
      (BitVec.ofNat 32 (Bytes.le img (mbx + 8 * n + 4) 4))) s
  s.setBit F.MBX_BIND_CTRL_LOCK

/-- Step 8: stalls may open (R604, R611). -/
def State.bootStep8 (s : State) (img : Bytes) (us : Nat) : State :=
  let s := ((s.set F.BOOT_STATUS_STAGE 8).set F.BOOT_TIME_US us).set F.BOOT_RESET_CAUSE_WDT_LOOP 0
  { s.wdtStart (Bytes.le img 40 4) with booted := true }.refreshDutSafe

/-- Steps 3 to 8 with a loaded image, to the first that fails (R604, R609). -/
def State.bootOn (s : State) (img : Bytes) (b : BootIn) : State :=
  let s := s.bootStep3 img
  if 2 ≤ s.get F.BOOT_UCODE_STATUS_RESULT then s.bootHalt 3
  else
    let s := s.bootStep4
    if b.dramFail then s.bootHalt 4
    else
      let s := s.set F.BOOT_STATUS_STAGE 5
      if !b.factorySig then
        ((s.setBit F.CAL_EVENTS_FACTORY_BAD).ledger { code := 0x32, source := 0, aux := 0, data := Config.factoryId.toNat }).bootHalt 5
      else
        let s := (s.bootStep5.set F.BOOT_STATUS_STAGE 6).set F.FLT_SELFTEST_FAIL b.selftest
        let s := (b.selfCheck.zipIdx).foldl (fun (s : State) p => if p.2 < 64 && selfCheckFails p.2 p.1.1 p.1.2 then s.failAdc p.2 else s) s
        if s.get F.FLT_SELFTEST_FAIL ≠ 0 then
          ((s.setBit F.FLT_EVENTS_SELFTEST_FAIL).ledger { code := 0x22, source := 0, aux := s.get F.FLT_SELFTEST_FAIL, data := 0 }).bootHalt 6
        else (s.bootStep7 img).bootStep8 img b.us

/-- FIRMWARE_CHECK_DONE: an image from flash or a push has been read and checked (R605 to R608); boot goes on, waits or halts. -/
def execFirmwareCheckDone (img : Bytes) (readOk : Bool) (b : BootIn) (s : State) : Host.Outcome State Fault Refusal :=
  let push := s.bit F.BOOT_STATUS_WAIT_PUSH
  if s.get F.BOOT_STATUS_STAGE ≠ 2 ∨ s.inReset.isSome ∨ (push && !s.pushing) then .next s
  else
    let ok := readOk && (!push || ((s.func 0).busMaster && img.length == s.get F.BOOT_PUSH_LEN_LENGTH))
    let r := fwResult img (!push) ok b
    let s := s.set F.BOOT_STATUS_FW_RESULT r
    if r = 0 then
      let s := { (s.set F.BOOT_STATUS_SOURCE (if push then 2 else 1)).clrBit F.BOOT_STATUS_WAIT_PUSH with pushing := false }
      let s := ((s.set F.BOOT_FW_SVN_SVN (Bytes.le img 8 4)).set F.BOOT_FW_ID_0_ID_LO (Bytes.le img 16 4)).set F.BOOT_FW_ID_1_ID_HI
        (Bytes.le img 20 4)
      .next (s.bootOn img b)
    else if push then .next ((s.setBit F.BOOT_STATUS_PUSH_DONE).waitPush)
    else if s.get F.BOOT_STRAP_BOOT_SRC = 2 then .next s.waitPush
    else .next (s.bootHalt 2)

/-- BOOT_PUSH_GO: a write of 1 to BOOT_PUSH_CMD.GO (R608). -/
def execBootPushGo (s : State) : Host.Outcome State Fault Refusal :=
  let addr := s.get F.BOOT_PUSH_0_ADDR_LO * 64 + s.get F.BOOT_PUSH_1_ADDR_HI * 2 ^ 32
  if !s.bit F.BOOT_STATUS_WAIT_PUSH ∨ s.pushing ∨ 2 ^ 52 < addr + s.get F.BOOT_PUSH_LEN_LENGTH then .next (s.setBit F.BOOT_STATUS_PUSH_IGNORED)
  else .next { s.wdtStart 2000 with pushing := true }

/-! ## The master clock (R75, R504) -/

/-- Boot step 1 reads the backup time: `count` is the keeper's count in µs. A valid one is a step, and device time is then set (R486, R488,
R504). -/
def State.readBackup (s : State) (count : Nat) : State :=
  let s := s.setBit F.TIME_STATUS_COARSE
  if s.bit F.TIME_BACKUP_1_TV then
    let s := (s.wr ⟨.TIME_BACKUP_0, 0, 0⟩ (BitVec.ofNat 32 count)).set F.TIME_BACKUP_1_COUNT (count / 2 ^ 32)
    { s.applyTime (s.offset + ((count % 2 ^ 56 * 4096000 : Nat) : Int) - s.deviceTime) s.rate with timeSet := true }
  else (s.setBit F.TIME_STATUS_LOST).ledger { code := 2, source := 0, aux := 0, data := s.fr }

/-- Step 1 ends at the first lock (R604). -/
def State.bootStep1Ends (s : State) (count : Nat) : State :=
  let wait := s.bit F.BOOT_STATUS_WAIT_REF
  let s := if wait then s else s.bootRecord
  let s := s.readBackup count
  let s := if wait then (s.clrBit F.BOOT_STATUS_WAIT_REF).wdtStart 2000 else s
  s.bootStep2

/-- MASTER_LOCK: REFIN is present and within its limits (`none`: REF_PRESENT), and the master locks to it (R75, R107). After a reset the lock
starts the free-running counter (R484) and ends boot step 1, which reads the backup count, `count` µs (R504). -/
def execMasterLock (count : Option Nat) (s : State) : Host.Outcome State Fault Refusal :=
  if s.bit F.TSBANK_REF_MASTER_LOCK ∨ s.inReset.isSome ∨ s.get F.PWR_STATUS_STATE = 4 then .next s
  else match count with
  | none => .next (s.setBit F.TSBANK_REF_REF_PRESENT)
  | some count =>
    let s := (s.setBit F.TSBANK_REF_MASTER_LOCK).setBit F.TSBANK_REF_REF_PRESENT
    let s := if s.frRuns then s else { s with fr := 0, frRuns := true }
    let s := if s.get F.BOOT_STATUS_STAGE = 1 then s.bootStep1Ends count else s
    .next (if 5 ≤ s.get F.BOOT_STATUS_STAGE ∧ s.get F.BOOT_STATUS_STAGE ≤ 8 then s.tryForm else s)

/-- REFERENCE_LOSS: REFIN leaves its limits (`refin`) or the master loses lock (R75). It is a fault once the master has locked since the last
reset, which the free-running counter shows (R484). The hall of a master is lost (R253). -/
def execReferenceLoss (refin : Bool) (s : State) : Host.Outcome State Fault Refusal :=
  if !(if refin then s.bit F.TSBANK_REF_REF_PRESENT else s.bit F.TSBANK_REF_MASTER_LOCK) ∨ s.inReset.isSome ∨ s.get F.PWR_STATUS_STATE = 4 then
    .next s
  else
    let s := (s.clrBit F.TSBANK_REF_MASTER_LOCK).setBit F.TSBANK_REF_LOCK_LOST
    let s := if refin then s.clrBit F.TSBANK_REF_REF_PRESENT else s
    let s := if s.frRuns then s.detect { kind := 3, cause := 0x221, source := 0x600 } else s
    .next (if s.bit F.GSL_HALL_STATUS_IS_MASTER then s.hallLost else s)

/-! ## Reset sources (R599 to R602) -/

/-- A source asserts a reset: DUT_SAFE_N goes low (R551, R602). -/
def State.assertReset (s : State) (source : Nat) : State :=
  { s.clrBit F.FLT_STATUS_DUT_SAFE_N with resets := s.resets ++ [(source, s.fr)] }

/-- A Ledger write that power cuts short after `n` of its 8-byte words (R568, R576): a new record is torn unless all four were written, a
count update is done or not. -/
def State.cutLedger (s : State) (n : Nat) : State :=
  match s.ledgWrite with
  | none => s
  | some w =>
    let s := { s with ledgWrite := none }
    if w.update then
      if n = 0 then s
      else { s with ledgRecs := s.ledgRecs.dropLast ++ [raisedRepeat w.words] }
    else if n = 0 then s
    else if 4 ≤ n then { s with ledgRecs := s.ledgRecs ++ [w.words] }
    else { s with ledgTorn := some (w.words.take (2 * n) ++ List.replicate (8 - 2 * n) 0xFFFFFFFF#32) }

/-- Both keeper supplies were lost: the keeper's own state takes its reset values; the Ledger's records stay (R15, R298, R465, R503, R576). -/
def State.loseKeeper (s : State) : State :=
  { s with
    regs := s.regs.filter fun p => p.1.name == RegName.BOOT_COUNT || !p.1.name.kept
    oven := {}
    ledgQueue := []
    ledgerEvents := []
    ledgWrite := none }.set F.BOOT_RESET_CAUSE_WDT_LOOP 0 |>.set F.DRAM_ILV_STATUS_PENDING 0 |>.set F.DRAM_ILV_STATUS_NEXT_GRAIN 12

/-- POWER_ON: a supervised rail crosses its reset level, or VKEEP rises before main power is good (R599). `cut`: a Ledger write in progress
was cut after that many words; `keeperLost`: VKEEP and VBAK were both lost. -/
def execPowerOn (keeperLost : Bool) (cut : Option Nat) (s : State) : Host.Outcome State Fault Refusal :=
  let s := match cut with | some n => s.cutLedger n | none => s
  let s := if keeperLost then s.loseKeeper else s
  .next ({ s with powerGood := false }.assertReset 1)

/-- POWER_GOOD: every rail has stood beyond its warning level for 2 ms (R601). -/
def execPowerGood (s : State) : Host.Outcome State Fault Refusal := .next { s with powerGood := true }

/-- PERST: PERST# goes low, or high again (R599). In P4 its release ends P4 (R590). -/
def execPerst (low : Bool) (s : State) : Host.Outcome State Fault Refusal :=
  if low = s.perstLow then .next s
  else
    let t := { s with perstLow := low }
    if s.get F.PWR_STATUS_STATE = 4 then .next (if low then t else t.endP4 0)
    else .next (if low then t.assertReset 2 else t)

/-- RESET_N: RESET_N has been low for 100 ns, or goes high again (R599). In P4 it ends P4 (R590). -/
def execResetN (low : Bool) (s : State) : Host.Outcome State Fault Refusal :=
  if low = s.resetNLow then .next s
  else
    let t := { s with resetNLow := low }
    if s.get F.PWR_STATUS_STATE = 4 then .next (if low then t.endP4 1 else t)
    else .next (if low then t.assertReset 3 else t)

/-- WATCHDOG: its period expires; a restart in that instant wins (R611, R612). Before step 8 the expiry counts in WDT_LOOP. -/
def execWatchdog (s : State) : Host.Outcome State Fault Refusal :=
  if !s.bit F.BOOT_WDT_RUNNING ∨ s.inReset.isSome ∨ s.get F.PWR_STATUS_STATE = 4 then .next s
  else
    let s := if s.frRuns then s.advanceTo (s.wdtFrom + s.wdtMs * 4096000000 + 1) else s
    .next ((if s.booted then s else s.countUp F.BOOT_RESET_CAUSE_WDT_LOOP).assertReset 4)

/-- RESET_ASSERT: the resets that sources have asserted take effect as one (R600, R602, R612): the lowest code of one instant is recorded;
a source that joins later, or a reset in progress, is not. -/
def execResetAssert (s : State) : Host.Outcome State Fault Refusal :=
  match s.resets with
  | [] => .next s
  | r :: rs =>
    let cause := ((rs.filter (·.2 == r.2)).map Prod.fst).foldl min r.1
    let run : ResetRun := s.inReset.getD { cause, p4Event := s.p4Event }
    .next { s.resetDevice with inReset := some run, resets := [], booted := false }

/-- The keeper seals a torn record (R576). -/
def State.sealTorn (s : State) : State :=
  match s.ledgTorn with
  | none => s
  | some ws =>
    let head := ws.take 6
    let n := s.ledgRecs.length
    (({ s with ledgRecs := s.ledgRecs ++ [mkRecord head 0 0x0F0F], ledgTorn := none }.setBit F.LEDG_EVENTS_TORN).ledger
      { code := 4, source := 0, aux := n, data := 0 }).refreshLedger

/-- RESET_RELEASE: every source has released the reset; the straps are sampled and boot starts (R603, R604). `ref`: the master locks within
the 20 ms of step 1. -/
def execResetRelease (src : Nat) (cand : Bool) (pos : Nat) (ref : Bool) (s : State) : Host.Outcome State Fault Refusal :=
  match s.inReset with
  | none => .next s
  | some run =>
    if !s.powerGood ∨ s.perstLow ∨ s.resetNLow then .next s
    else
      let s := ((s.set F.BOOT_STRAP_BOOT_SRC src).setIf F.GSL_STRAP_CANDIDATE cand).set F.GSL_STRAP_POS pos
      let s := (s.set F.BOOT_RESET_CAUSE_CAUSE run.cause).set F.BOOT_RESET_CAUSE_P4_EVENT (if run.cause = 6 then run.p4Event else 0)
      let s := s.set F.BOOT_COUNT_COUNT ((s.get F.BOOT_COUNT_COUNT + 1) % 2 ^ 32)
      let s := { (s.set F.BOOT_STATUS_STAGE 1).wdtStart 2000 with inReset := none }.sealTorn
      let s := if ref then s else ((s.setBit F.BOOT_STATUS_WAIT_REF).wdtStop).setBit F.TIME_STATUS_COARSE
      if 3 ≤ s.get F.BOOT_RESET_CAUSE_WDT_LOOP then .next (s.bootRecord.bootHalt 7)
      else .next (if ref then s else s.bootRecord)

/-- BOOT_WDT_RESTART: a write in the internal control space; 0x5A5A restarts the period (R611). -/
def execBootWdtRestart (a : Agent) (v : Word) (s : State) : Host.Outcome State Fault Refusal :=
  match a with
  | .host _ _ => .next s
  | .internal _ =>
    if s.booted ∧ s.bit F.BOOT_WDT_RUNNING ∧ v = 0x5A5A#32 then .next (s.wdtStart s.wdtMs) else .next s

end Sys2Proof.Machine
end

