-- ==== Sys2Proof/Machine/Events.lean ====
section
/-!
DEFINITION. The arrival of events at their destinations (R455 to R457), the end of a Crier pulse, errors of on-die memories (R479).
-/

namespace Sys2Proof.Machine

/-- The arrival that comes first; at one instant the lower-numbered route (R459). -/
def firstArrival : List Arrival → Option Arrival
  | [] => none
  | a :: l => some (l.foldl (fun b x => if x.at_ < b.at_ ∨ (x.at_ = b.at_ ∧ x.route < b.route) then x else b) a)

/-- A held Crier line takes only the MARK and capture-trigger sources of the burst that holds it (R259). -/
def State.crierTakesSource (s : State) (l source : Nat) : Bool :=
  s.works.all fun p =>
    !(p.2.held && p.2.opcode == Op.burst && p.2.isJoint && p.2.jointLines.contains l) ||
      source == 0x200 + p.2.bSeq || source == 0x220 + p.2.bSeq

/-- The present level of a Crier line's driver here. -/
def State.driverLevel (s : State) (l : Nat) : Bool := (Store.getD s.crierDrv l {}).now

/-- The ACTION of a route at the driver of a Crier line (R456). -/
def State.crierRoute (s : State) (l action : Nat) (t : Tu) : State :=
  match action with
  | 0 => s.driveCrier l true t
  | 1 => s.driveCrier l false t
  | 2 => s.driveCrier l (!s.driverLevel l) t
  | _ => { s.driveCrier l true t with pulses := s.pulses ++ [(l, t + 40960)] }

/-- A capture-trigger event reaches the capture unit of a sequencer; the first one since the burst's start is kept (R212). It is also
the compare-start of the lanes bound to it (R234). -/
def State.acquire (s : State) (n : Nat) (t : Tu) : State :=
  let q := s.seqSt n
  (s.setSeq n { q with cap := { q.cap with routedAt := q.cap.routedAt.or (some t) } }).startCompares n

/-- An event sets the latch of a sequencer's event input (R155). -/
def State.latchEvent (s : State) (n k : Nat) (t : Tu) : State :=
  let q := s.seqSt n
  s.setSeq n { q with ev := Store.put q.ev k (q.evOf k ++ [t]) }

/-- What an arrival does at its destination (table *Destinations*). -/
def State.act (s : State) (a : Arrival) : State :=
  if a.dest < 0x100 then s.latchEvent (a.dest / 8) (a.dest % 8) a.at_
  else if a.dest < 0x108 then s.crierRoute (a.dest - 0x100) a.action a.at_
  else if a.dest < 0x110 then s.armLineEvent (a.dest - 0x108) a.at_
  else if a.dest < 0x130 then s.acquire (a.dest - 0x110) a.at_
  else if a.dest < 0x138 then s.trigger a.fn a.vector
  else if a.dest < 0x140 then s.detect { kind := 1, cause := 0x220, source := 0x580 + (a.dest - 0x138), routed := a.source }
  else s

/-- EVENT_ARRIVAL: the next event on its way arrives. Less than 1,024 tu after an arrival at its destination it merges into that
arrival and is counted (R457). -/
def execEventArrival (s : State) : Host.Outcome State Fault Refusal :=
  match firstArrival s.arrivals with
  | none => .next s
  | some a =>
    let s := { s.advanceTo a.at_ with arrivals := s.arrivals.erase a }
    if 0x100 ≤ a.dest ∧ a.dest < 0x108 ∧ !s.crierTakesSource (a.dest - 0x100) a.source then .next s
    else
      let near : Bool := match Store.get? s.lastArrival a.dest with | some t => decide (a.at_ < t + 1024) | none => false
      if near then .next (s.countUp F.EVR_MERGED_CNT_COUNT)
      else .next ({ s with lastArrival := Store.put s.lastArrival a.dest a.at_ }.act a)

/-- The pulse that ends first. -/
def firstPulse : List (Nat × Tu) → Option (Nat × Tu)
  | [] => none
  | p :: l => some (l.foldl (fun b x => if x.2 < b.2 then x else b) p)

/-- CRIER_PULSE_END: 40,960 tu after the arrival of a PULSE route the driver sets its line low (R456). -/
def execCrierPulseEnd (s : State) : Host.Outcome State Fault Refusal :=
  match firstPulse s.pulses with
  | none => .next s
  | some p => .next ({ s.advanceTo p.2 with pulses := s.pulses.erase p }.driveCrier p.1 false p.2)

/-- ON_DIE_MEMORY_ERROR: an access to an on-die memory finds an uncorrectable error. `k`: the work that made the access, where one did;
`line`: the line of local memory that the memory held, where it held one (R479). -/
def execOnDieMemoryError (k line : Option Nat) (s : State) : Host.Outcome State Fault Refusal :=
  let s := s.setBit F.DRAM_EVENTS_ECC_UNCORR
  let s := match line with | some l => s.eccAddr l | none => s
  .next (s.detect { kind := 6, cause := 0x224, source := 0x702, works := k.toList })

end Sys2Proof.Machine
end

