-- ==== Sys2Proof/WellFormed.lean ====
section
/-!
DEFINITION. Which commands name things that the device has: channels below 256, sequencers below 32, lanes below 64, and so on. A command
that names no such thing cannot occur; its meaning is not relied on.
-/

namespace Sys2Proof

/-- A BAR2 access that R641 carries out: whole words, 4 to 64 bytes, within one 64-byte block. -/
def wideAccess (off n : Nat) : Bool := n % 4 == 0 && decide (4 ≤ n) && decide (n ≤ 64) && off % 4 == 0 && decide (off % 64 + n ≤ 64)

/-- A function of an access target exists in the manual: 0 to 63 (R334). -/
def Target.wf : Target → Bool
  | .bar0 _ => true
  | .vfBar0 fn _ => decide (1 ≤ fn) && decide (fn < 64)
  | .bar2 fn _ _ => decide (fn < 64)
  | .internal _ _ => true
  | .config fn _ => decide (fn < 64)

/-- The operands of a command lie in their ranges (R334, R351 and the chapters that number the units). -/
def Instr.wf : Instr → Bool
  | .registerWrite t _ => t.wf
  | .unalignedAccess t n _ => t.wf && decide (0 < n)
  | .bar2WideAccess fn _ off n _ _ => decide (fn < 64) && wideAccess off n
  | .readClearRead _ => true
  | .wideValueRead _ => true
  | .paceReadingPublish _ => true
  | .runAheadUnderrun _ => true
  | .closingIntervalEnd _ _ => true
  | .levelCommit c => decide (c < 256)
  | .rangeSwitchDone c => decide (c < 256)
  | .rampStart c => decide (c < 256)
  | .rampEnd c => decide (c < 256)
  | .rampDone c => decide (c < 256)
  | .channelEnableWrite c _ => decide (c < 256)
  | .comparatorOutcomeChange c o => decide (c < 256) && decide (o < 4)
  | .comparatorDisagreement c => decide (c < 256)
  | .swmTrip c => decide (c < 256)
  | .drvStuck c => decide (c < 256)
  | .pmuOver c => decide (c < 256)
  | .pmuClamp c => decide (c < 256)
  | .masterLock _ => true
  | .referenceLoss _ => true
  | .tsbankCommit n => decide (n < 32)
  | .tsbankCommitFree => true
  | .timingCommitEffect n => decide (n < 32)
  | .tsbankStageWrite c t w _ => decide (c < 256) && decide (t < 32) && decide (w < 8)
  | .cycleStart n _ => decide (n < 32)
  | .bar4Write _ _ => true
  | .bar4Read _ n _ _ => decide (0 < n)
  | .poolLockWrite => true
  | .ownershipCommit n => decide (n < 32)
  | .seqVec n => decide (n < 32)
  | .seqRepeat n => decide (n < 32)
  | .seqLoop n => decide (n < 32)
  | .endloop n => decide (n < 32)
  | .seqCall n => decide (n < 32)
  | .seqReturn n => decide (n < 32)
  | .seqJump n => decide (n < 32)
  | .seqMatch n => decide (n < 32)
  | .matchTimeout n => decide (n < 32)
  | .brfail n => decide (n < 32)
  | .brevt n => decide (n < 32)
  | .seqShift n => decide (n < 32)
  | .setts n => decide (n < 32)
  | .seqDir n => decide (n < 32)
  | .edgecmp n => decide (n < 32)
  | .seqHold n => decide (n < 32)
  | .holdRelease n => decide (n < 32)
  | .holdTimeout n => decide (n < 32)
  | .seqMark n => decide (n < 32)
  | .captureOn n => decide (n < 32)
  | .captureOff n => decide (n < 32)
  | .seqEnd n => decide (n < 32)
  | .instructionBoundary n => decide (n < 32)
  | .sessionPause n => decide (n < 32)
  | .sessionResume n => decide (n < 32)
  | .sessionStop n => decide (n < 32)
  | .redirectArm n _ => decide (n < 32)
  | .voidFinalReceipt _ => true
  | .faultNoticeArrival n => decide (n < 32)
  | .engineWatchdogExpiry n => decide (n < 32)
  | .microwordFetchError n _ => decide (n < 32)
  | .uopNop n => decide (n < 32)
  | .uopMov n => decide (n < 32)
  | .ldi n => decide (n < 32)
  | .ldih n => decide (n < 32)
  | .uopAdd n => decide (n < 32)
  | .uopSub n => decide (n < 32)
  | .addi n => decide (n < 32)
  | .uopAnd n => decide (n < 32)
  | .uopOr n => decide (n < 32)
  | .uopXor n => decide (n < 32)
  | .uopShf n => decide (n < 32)
  | .uopCmp n => decide (n < 32)
  | .cmpi n => decide (n < 32)
  | .uopField n => decide (n < 32)
  | .uopBr n => decide (n < 32)
  | .brz n => decide (n < 32)
  | .brnz n => decide (n < 32)
  | .brn n => decide (n < 32)
  | .brc n => decide (n < 32)
  | .brb n => decide (n < 32)
  | .disp n => decide (n < 32)
  | .dispop n => decide (n < 32)
  | .uopRun n => decide (n < 32)
  | .uopQuiet n => decide (n < 32)
  | .uopAct n => decide (n < 32)
  | .wpush n => decide (n < 32)
  | .wpop n => decide (n < 32)
  | .uopSpill n => decide (n < 32)
  | .uopFill n => decide (n < 32)
  | .memwait n => decide (n < 32)
  | .failrd n => decide (n < 32)
  | .siteop n => decide (n < 32)
  | .uopCrier n => decide (n < 32)
  | .uopLatch n => decide (n < 32)
  | .uopTrap n => decide (n < 32)
  | .trapret n => decide (n < 32)
  | .voidb n => decide (n < 32)
  | .endb n => decide (n < 32)
  | .illegalUop n => decide (n < 32)
  | .laneModeEnable k _ => decide (k < 64)
  | .laneModeOff k => decide (k < 64)
  | .cdrLock k => decide (k < 64)
  | .cdrLockLoss k => decide (k < 64)
  | .losAssert k => decide (k < 64)
  | .losClear k => decide (k < 64)
  | .laneHeader k h => decide (k < 64) && decide (h < 4)
  | .huntSlow k => decide (k < 64)
  | .laneBlock k h _ _ => decide (k < 64) && decide (h < 4)
  | .gslFrameSend p => decide (p < 4)
  | .gslFrameReceive p _ _ => decide (p < 4)
  | .probe => true
  | .probeReply _ => true
  | .advert _ => true
  | .timeMessage => true
  | .crierCfg _ => true
  | .jointPrepare => true
  | .jointVote => true
  | .jointCommit => true
  | .jointAbort => true
  | .jointDone => true
  | .jointRelease => true
  | .voidNotice => true
  | .linkDown => true
  | .linkTrained p _ => decide (p < 4)
  | .linkCalDone p => decide (p < 4)
  | .linkLoss p _ => decide (p < 4)
  | .linkDriftCheck p => decide (p < 4)
  | .portRoleWrite p _ => decide (p < 4)
  | .reform => true
  | .crierCommit _ => true
  | .crierConfigEffect => true
  | .crierAction => true
  | .jointWaitTimeout _ => true
  | .jointAdmissionTimeout _ => true
  | .slotEdge n _ _ => decide (n < 128)
  | .stampRecordWrite r => decide (r < 4)
  | .watchOpen _ => true
  | .watchClose _ => true
  | .tgateTransition g _ _ => decide (g < 4)
  | .gateSettleAccept g => decide (g < 4)
  | .slotDisarmTimer n => decide (n < 128)
  | .ocxoAppear => true
  | .ocxoLoss => true
  | .ovenReading _ => true
  | .ovenHold => true
  | .ovenEnable => true
  | .ovenDisable => true
  | .ssmsRun row stops repeats _ =>
    decide (row < 4) && decide (1 ≤ stops.stops.length) && decide (stops.stops.length ≤ 64) && decide (1 ≤ repeats) && decide (repeats ≤ 65535)
  | .ssmsRunDone row _ => decide (row < 4)
  | .measurementResults _ => true
  | .linkUp _ _ _ _ => true
  | .rateDrop _ _ => true
  | .dlDown => true
  | .vfEnableWrite _ => true
  | .busMasterClear f => decide (f < 64)
  | .d3hotEntry f => decide (f < 64)
  | .d3hotExit f => decide (f < 64)
  | .functionLevelReset f => decide (f < 64)
  | .flrDone f => decide (f < 64)
  | .readFailed _ _ => true
  | .msixTrigger => true
  | .msixUnmask f v => decide (f < 64) && decide (v < (if f = 0 then 2048 else 64))
  | .stallOpen f k => decide (f < 64) && decide (k < 4096)
  | .stallOpenComplete k _ _ => decide (k < 4096)
  | .stallClose f k => decide (f < 64) && decide (k < 4096)
  | .stallClosed k => decide (k < 4096)
  | .stallWake f k => decide (f < 64) && decide (k < 4096)
  | .doorbellPoll f line => decide (f < 64) && decide (line < 512)
  | .doorbellReadDone k _ => decide (k < 4096)
  | .stallSleep k => decide (k < 4096)
  | .orderFetch k => decide (k < 4096)
  | .fetchAllowanceTick _ => true
  | .orderReceived _ _ => true
  | .receiptWrite => true
  | .fenceRelease _ => true
  | .orderNop _ => true
  | .orderBurst _ => true
  | .segmentWrite _ => true
  | .segmentStream _ _ => true
  | .fillComplete _ => true
  | .timingLoad _ => true
  | .timingCommit _ => true
  | .levelSet _ => true
  | .pmuMeasure _ => true
  | .adcSequence _ => true
  | .tallyArm _ => true
  | .tallyDisarm _ => true
  | .captureRead _ => true
  | .orderWork _ => true
  | .orderGraph _ => true
  | .graphDependencyMet _ => true
  | .orderFence _ => true
  | .frameLaunch _ => true
  | .frameTransmit p _ => decide (p < 2)
  | .calLoad _ => true
  | .calSave _ => true
  | .orderDisable _ => true
  | .tollDecision => true
  | .delayRelease => true
  | .windowStart _ => true
  | .burstStart _ => true
  | .awningUpdate _ => true
  | .awningSensorCorrect _ => true
  | .awnLimitWrite which _ => decide (which < 3)
  | .itemDispatch core => decide (core < 32)
  | .preempt => true
  | .contextSaved core => decide (core < 32)
  | .workShed => true
  | .callExit core _ => decide (core < 32)
  | .waitFor core _ => decide (core < 32)
  | .callTime core => decide (core < 32)
  | .hostWrite core _ _ _ => decide (core < 32)
  | .mbxSend core _ => decide (core < 32)
  | .itemException core _ => decide (core < 32)
  | .itemDelayRelease => true
  | .itemWritesAcked _ => true
  | .lockstepMismatch core => decide (core < 32)
  | .graphDispatch => true
  | .graphSum _ => true
  | .graphOr _ => true
  | .graphPopcount _ => true
  | .graphRuns _ => true
  | .graphSelect _ => true
  | .graphStats _ => true
  | .graphCopy _ => true
  | .graphSuspend u => decide (u < 16)
  | .graphEnd _ => true
  | .readRequest core _ => decide (core < 32)
  | .ownershipRequest _ _ => true
  | .writeBack core _ _ => decide (core < 32)
  | .recallAnswer _ _ => true
  | .schedPoolWrite _ => true
  | .mbxPortSelect fn p k => decide (fn < 64) && decide (p < 16) && decide (k < 4096)
  | .mbxPortDataRead fn p w => decide (fn < 64) && decide (p < 16) && decide (w < 16)
  | .mbxTxbufWrite _ n w _ => decide (n < 16) && decide (w < 16)
  | .mbxSharedSend _ n => decide (n < 16)
  | .mbxRxbufRead _ n w => decide (n < 16) && decide (w < 16)
  | .eventPresent => true
  | .eventArrival => true
  | .routeWrite n _ => decide (n < 2048)
  | .bootWdtRestart _ _ => true
  | .dramIlvCommit => true
  | .arbiterRequest c r =>
    decide (c < 64) && decide (r.requester < 140)
  | .arbiterGrant c => decide (c < 64)
  | .requestWithdraw c => decide (c < 64)
  | .refreshDue c => decide (c < 64)
  | .refreshMakeup st => decide (st < 4)
  | .selfRefreshEntry => true
  | .selfRefreshExit => true
  | .patrolScrub _ result => decide (result < 3)
  | .timeStep _ => true
  | .timeRate => true
  | .timeCal => true
  | .timeChangeEffect => true
  | .utcOffsetWrite _ => true
  | .timeNowRead => true
  | .servoInput _ => true
  | .servoHoldover => true
  | .ptpFrameReceive n _ _ _ => decide (n < 2)
  | .backupTimeWrite => true
  | .tvClear => true
  | .conversionDone c _ _ => decide (c < 64)
  | .adcAfterDelay c => decide (c < 64)
  | .monitorScan c _ => decide (c < 64)
  | .ovenConversion _ => true
  | .urgentRequest h _ => decide (h < 256)
  | .levelVerify c _ => decide (c < 64)
  | .resultQueuePop r => decide (r < 4)
  | .calImageRead _ => true
  | .edgeLin _ _ conv => decide (conv < 64)
  | .levelTrim _ _ _ => true
  | .pmuTrim _ _ _ => true
  | .calCommit => true
  | .faultDetection => true
  | .handlingEnd => true
  | .safeStateConfirm => true
  | .escalationTimeout => true
  | .fltClear _ => true
  | .fltDisable f => decide (f < 64)
  | .disableDone f => decide (f < 64)
  | .fltMirrorAck => true
  | .supplyWarning r => decide (r < 5)
  | .supplyWarningEnd r _ => decide (r < 5)
  | .supplyHoldEnd => true
  | .ledgerEvent => true
  | .ledgerTake => true
  | .ledgerWriteDone => true
  | .vkeepWarning => true
  | .ledgerRead => true
  | .powerStateSelect => true
  | .powerExitStart _ => true
  | .powerExitComplete => true
  | .p4Req => true
  | .p4RequestExpiry => true
  | .p4WakeTimer => true
  | .rowOffWrite _ => true
  | .vcoreRequestUpdate _ => true
  | .powerOn _ _ => true
  | .powerGood => true
  | .perst _ => true
  | .resetN _ => true
  | .watchdog => true
  | .resetAssert => true
  | .resetRelease src _ pos _ => decide (src < 4) && decide (pos < 64)
  | .bootPushGo => true
  | .firmwareCheckDone _ _ _ => true
  | .hostReadCompletion _ _ _ _ => true
  | .lastDataWriteIssued _ => true
  | .holdDurationBound n => decide (n < 32)
  | .crierPulseEnd => true
  | .linkRetrainHigher _ _ => true
  | .driftDetection _ unit => decide (unit < 4)
  | .onDieMemoryError _ _ => true

end Sys2Proof
end

