-- ==== Sys2Proof/Machine/Access.lean ====
section
/-!
DEFINITION. Register accesses: which register an offset names (R638 to R640), what a read returns and latches (R10, R11, R106, R490), what
a write does (R9 to R14 and the rule of each register), configuration space and the MSI-X table (R334, R336, R344).
-/

namespace Sys2Proof.Machine

/-! ## Offsets -/

/-- The indices that an offset from a family's base gives; none between registers and beyond the family (R10). -/
def dimIndex : List (Nat × Nat) → Nat → Option (Nat × Nat)
  | [], d => if d = 0 then some (0, 0) else none
  | [(a, n)], d => if d % a = 0 ∧ d / a < n then some (d / a, 0) else none
  | (a, n) :: (b, m) :: _, d => if d / a < n ∧ d % a % b = 0 ∧ d % a / b < m then some (d / a, d % a / b) else none

/-- The indices of a family's register at an offset. -/
def RegSpec.index (p : RegSpec) (off : Nat) : Option (Nat × Nat) := if off < p.base then none else dimIndex p.dims (off - p.base)

/-- The register of BAR0 at an offset (R638). -/
def bar0At (off : Nat) : Option Reg :=
  allRegs.findSome? fun n => if n.spec.space = .bar0 then (n.spec.index off).map fun p => { name := n, i := p.1, j := p.2 } else none

/-- The register of a function's BAR2 at an offset (R640). Its first index is the function; a port's data words have 16·p + w as second. -/
def bar2At (fn off : Nat) : Option Reg :=
  allRegs.findSome? fun n =>
    match n.spec.space with
    | .shared => (n.spec.index off).map fun p => { name := n, i := p.1, j := p.2 }
    | .bar2 => (n.spec.index off).map fun p => { name := n, i := fn, j := if n = RegName.MBX_PORTp_DATA_w then 16 * p.1 + p.2 else p.1 }
    | _ => none

/-- The register of the internal control space at an offset (R453). -/
def internalAt (off : Nat) : Option Reg :=
  allRegs.findSome? fun n =>
    if n.spec.space = .shared ∨ n.spec.space = .internal then (n.spec.index off).map fun p => { name := n, i := p.1, j := p.2 } else none

/-- Before boot step 8 only the BOOT_ block of BAR0 answers (R610). -/
def State.bar0Open (s : State) (off : Nat) : Bool := s.booted || (decide (0x780000 ≤ off) && decide (off < 0x780100))

/-! ## The present value of a register -/

/-- DRAM_SEG_STATE of the segment that DRAM_SEG_QUERY names (R128). -/
def State.segStateWord (s : State) : Nat :=
  let g := s.get F.DRAM_SEG_QUERY_SEG
  let x := s.seg g
  x.refs % 2 ^ 16 * 2 ^ 16 + (if s.inPool g then 8 else 0) + (if x.valid then 4 else 0) + (if x.refs ≠ 0 then 2 else if x.filling then 1 else 0)

/-- Charges at present on the 16 channels of a stack, in 0.1 GB/s, and the interior load, in GB/s (R408, R421). -/
def State.stackCharge (s : State) (st : Nat) : Nat :=
  let rs := s.admittedResv.filter fun r => r.contains s.fr
  ((rs.flatMap fun r => (List.range' (16 * st) 16).map fun c => s.chargeOn r c).sum * 10).floor.toNat
def State.interiorLoad (s : State) : Nat := ((s.admittedResv.filter fun r => r.contains s.fr).map Resv.load).sum.floor.toNat

/-- Cores and graph units that run (R445). -/
def State.busyCores (s : State) : List Nat := (List.range 32).filter fun c => (s.itemOn c).isSome
def State.busyUnits (s : State) : List Nat := (List.range 16).filter fun u => (s.graphOn u).isSome

/-- Whole milliseconds left in the watchdog's period (R611, R614). -/
def State.wdtRemain (s : State) : Nat := s.wdtMs - (s.fr - s.wdtFrom) / 4096000000

/-- A word with its field at `lsb` of `w` bits replaced by a number, which saturates. -/
def withField (v : Word) (lsb w x : Nat) : Word := Fld.put ⟨.TIME_CMD, lsb, w⟩ v (min x (2 ^ w - 1))

/-- What a read of a register finds at this instant, before any latch. Fields that follow from the rest of the state are computed;
write-only fields read 0 (R11). -/
def State.value (s : State) (r : Reg) : Word :=
  let v := s.rd r
  let w (n : Nat) : Word := BitVec.ofNat 32 n
  match r.name with
  | .TIME_NOW_0 => w (s.dt80 s.fr)
  | .TIME_NOW_1 => w (s.dt80 s.fr / 2 ^ 32)
  | .TIME_NOW_2 => w (s.dt80 s.fr / 2 ^ 64)
  | .TIME_FR_0 => w s.fr80
  | .TIME_FR_1 => w (s.fr80 / 2 ^ 32)
  | .TIME_FR_2 => w (s.fr80 / 2 ^ 64)
  | .TIME_CAL_0 => w (s.calWords s.deviceTime).1
  | .TIME_CAL_1 => w (s.calWords s.deviceTime).2
  | .DRAM_SEG_STATE => w s.segStateWord
  | .DRAM_STATUS => w s.dramStatus
  | .ARB_CHn_STATUS => w (s.mappedCount r.i + (if 16 < s.mappedCount r.i then 2 ^ 31 else 0))
  | .GSL_PORTn_STATUS => if s.portHeld r.i then v ||| 0x100#32 else v
  | .STALL_HOST_TAGS => withField v 16 16 s.tagsInUse
  | .TOLL_STATUS => withField v 0 13 s.waiting.length
  | .TOLL_STACKn_RES => withField v 0 16 (s.stackCharge r.i)
  | .TOLL_INTERIOR => withField v 0 16 s.interiorLoad
  | .TOLL_SCHED_STATUS =>
    withField (withField (withField v 26 6 (s.itemsIn .running).length) 21 5 s.busyUnits.length) 0 13 (s.itemsIn .delayed).length
  | .TOLL_SCHED_GQDEPTH => withField v 0 11 s.graphsInQueue
  | .TOLL_SCHED_QDEPTH_n => withField v 0 13 ((s.itemsIn .queued).filter fun p => p.2.cls == r.i).length
  | .TOLL_SCHED_BUSY => w (ofSet s.busyCores 32)
  | .TOLL_SCHED_GBUSY => w (ofSet s.busyUnits 16)
  | .ADC_STATUS => withField v 8 4 s.verifying
  | .ADC_RQr_0 => w ((s.queue r.i).headD (0, 0)).1
  | .ADC_RQr_1 => w (((s.queue r.i).headD (0, 0)).1 / 2 ^ 32)
  | .ADC_RQr_2 => w ((s.queue r.i).headD (0, 0)).2
  | .ADC_RQr_3 => w (((s.queue r.i).headD (0, 0)).2 / 2 ^ 32)
  | .ADC_RQr_STATUS => w ((s.queue r.i).length + s.occupancy r.i * 2 ^ 16)
  | .CAL_FACT => if s.factApplied then Config.factoryWord r.i r.j else 0#32
  | .CHn_STATUS => if 3 ≤ s.get F.PWR_STATUS_STATE then v &&& 0xFFFFFFDF#32 else v
  | .ARB_CLASS_m => if r.i = 8 then v &&& 0x00FFFFFF#32 else v
  | .BOOT_WDT => if s.bit F.BOOT_WDT_RUNNING then withField v 0 16 s.wdtRemain else v
  | n => v &&& ~~~(BitVec.ofNat 32 n.spec.wo)

/-! ## Reads -/

/-- The higher words of the wide value whose lowest word is a register, lowest first; none for any other register (R106 and the rules
that cite it). -/
def RegName.higher (r : Reg) : List Reg :=
  let at_ (ns : List RegName) : List Reg := ns.map fun n => { r with name := n }
  let words (k : Nat) : List Reg := if r.j = 0 then (List.range' 1 (k - 1)).map fun j => { r with j } else []
  match r.name with
  | .TSBANK_CTIME_0_n => at_ [.TSBANK_CTIME_1_n, .TSBANK_CTIME_2_n]
  | .TSBANK_EPOCH_0_n => at_ [.TSBANK_EPOCH_1_n, .TSBANK_EPOCH_2_n]
  | .TSBANK_CYCLE_0_n => at_ [.TSBANK_CYCLE_1_n]
  | .SEQn_PC_0 => at_ [.SEQn_PC_1]
  | .SEQn_SITE_FAIL_w => words 8
  | .SEQn_SITE_ACTIVE_w => words 8
  | .BOOT_UCODE_ID_0 => at_ [.BOOT_UCODE_ID_1]
  | .GSL_SERIAL_0 => at_ [.GSL_SERIAL_1]
  | .GSL_CORR_0 => at_ [.GSL_CORR_1, .GSL_CORR_2]
  | .TALLY_SLOTn_COUNT_0 => at_ [.TALLY_SLOTn_COUNT_1]
  | .DRAM_ECC_ADDR_0 => at_ [.DRAM_ECC_ADDR_1]
  | .TIME_NOW_0 => at_ [.TIME_NOW_1, .TIME_NOW_2]
  | .TIME_FR_0 => at_ [.TIME_FR_1, .TIME_FR_2]
  | .TIME_CAL_0 => at_ [.TIME_CAL_1]
  | .TIME_OFFSET_0 => at_ [.TIME_OFFSET_1, .TIME_OFFSET_2]
  | .TIME_RATE_0 => at_ [.TIME_RATE_1]
  | .TIME_BACKUP_0 => at_ [.TIME_BACKUP_1]
  | .ADC_RQr_0 => at_ [.ADC_RQr_1, .ADC_RQr_2, .ADC_RQr_3]
  | .CAL_ORDER_0 => at_ [.CAL_ORDER_1]
  | .CAL_FACT_ID_0 => at_ [.CAL_FACT_ID_1]
  | .FLT_FIRST_TIME_0 => at_ [.FLT_FIRST_TIME_1, .FLT_FIRST_TIME_2]
  | .FLT_MIRROR_TIME_0 => at_ [.FLT_MIRROR_TIME_1, .FLT_MIRROR_TIME_2]
  | .PWR_WAKE_0 => at_ [.PWR_WAKE_1]
  | .BOOT_FW_ID_0 => at_ [.BOOT_FW_ID_1]
  | _ => []

/-- The lowest word of the wide value that a register is a higher word of, where it is the highest: the read that ends the latch. -/
def RegName.lowest (r : Reg) : Option Reg :=
  let at_ (n : RegName) : Option Reg := some { r with name := n }
  match r.name with
  | .TSBANK_CTIME_2_n => at_ .TSBANK_CTIME_0_n
  | .TSBANK_EPOCH_2_n => at_ .TSBANK_EPOCH_0_n
  | .TSBANK_CYCLE_1_n => at_ .TSBANK_CYCLE_0_n
  | .SEQn_PC_1 => at_ .SEQn_PC_0
  | .SEQn_SITE_FAIL_w => if r.j = 7 then some { r with j := 0 } else none
  | .SEQn_SITE_ACTIVE_w => if r.j = 7 then some { r with j := 0 } else none
  | .BOOT_UCODE_ID_1 => at_ .BOOT_UCODE_ID_0
  | .GSL_SERIAL_1 => at_ .GSL_SERIAL_0
  | .GSL_CORR_2 => at_ .GSL_CORR_0
  | .TALLY_SLOTn_COUNT_1 => at_ .TALLY_SLOTn_COUNT_0
  | .DRAM_ECC_ADDR_1 => at_ .DRAM_ECC_ADDR_0
  | .TIME_NOW_2 => at_ .TIME_NOW_0
  | .TIME_FR_2 => at_ .TIME_FR_0
  | .TIME_CAL_1 => at_ .TIME_CAL_0
  | .TIME_OFFSET_2 => at_ .TIME_OFFSET_0
  | .TIME_RATE_1 => at_ .TIME_RATE_0
  | .TIME_BACKUP_1 => at_ .TIME_BACKUP_0
  | .ADC_RQr_3 => at_ .ADC_RQr_0
  | .CAL_ORDER_1 => at_ .CAL_ORDER_0
  | .CAL_FACT_ID_1 => at_ .CAL_FACT_ID_0
  | .FLT_FIRST_TIME_2 => at_ .FLT_FIRST_TIME_0
  | .FLT_MIRROR_TIME_2 => at_ .FLT_MIRROR_TIME_0
  | .PWR_WAKE_1 => at_ .PWR_WAKE_0
  | .BOOT_FW_ID_1 => at_ .BOOT_FW_ID_0
  | _ => none

/-- A word of a wide value: its lowest word, or one above it. -/
def RegName.wideWord (r : Reg) : Bool := RegName.higher r != [] || (allRegs.any fun n => (RegName.higher { r with name := n, j := 0 }).contains r)

/-- Latch the present values of registers. -/
def State.latchAll (s : State) (rs : List Reg) : State :=
  { s with latch := rs.foldl (fun (m : Store Reg Word) r => Store.put m r (s.value r)) s.latch }

/-- Drop the latches of registers. -/
def State.unlatch (s : State) (rs : List Reg) : State := { s with latch := s.latch.filter fun p => !rs.contains p.1 }

/-- A read of a register without a read rule of its own: a latched word returns its latch, and the read of the highest word ends the
latch; the lowest word, unless itself latched, latches the words above it (R106). -/
def State.readPlain (s : State) (r : Reg) : State :=
  match Store.get? s.latch r with
  | some v =>
    let done := match RegName.lowest r with | some l => l :: RegName.higher l | none => if r.name = .TIME_STATUS then [r] else []
    (s.answer [v]).unlatch done
  | none => (s.answer [s.value r]).latchAll (RegName.higher r)

/-- A read of TIME_NOW_0 latches device time, free-running time, GEN and the calendar view at one instant (R490). GEN stays latched until
the next read of TIME_STATUS. -/
def State.readNow (s : State) : State :=
  let rs : List RegName := [.TIME_NOW_1, .TIME_NOW_2, .TIME_FR_0, .TIME_FR_1, .TIME_FR_2, .TIME_CAL_0, .TIME_CAL_1, .TIME_STATUS]
  (s.answer [s.value { name := .TIME_NOW_0 }]).latchAll (rs.map fun n => { name := n })

/-- A read of an RC register: its value, and the bits returned as 1 are cleared (R11). -/
def State.readClear (s : State) (r : Reg) : State :=
  let v := s.rd r
  (s.answer [v]).wr r (v &&& ~~~(v &&& BitVec.ofNat 32 r.name.spec.rc))

/-- A read of a register by an agent. -/
def readReg (a : Agent) (r : Reg) (s : State) : Host.Outcome State Fault Refusal :=
  match r.name with
  | .TIME_NOW_0 => .next s.readNow
  | .LEDG_REC_w => if r.i = 0 then Sys2Proof.Machine.execLedgerRead s else .next (s.answer [s.rd r])
  | .ADC_RQr_0 => Sys2Proof.Machine.execResultQueuePop r.i s
  | .MBX_PORTp_DATA_w => Sys2Proof.Machine.execMbxPortDataRead r.i (r.j / 16) (r.j % 16) s
  | .MBX_SHn_SEND => Sys2Proof.Machine.execMbxSharedSend a r.i s
  | .MBX_SHn_RXBUF_w => Sys2Proof.Machine.execMbxRxbufRead a r.i r.j s
  | n => if n.spec.rc ≠ 0 then .next (s.readClear r) else .next (s.readPlain r)

/-! ## Writes -/

/-- A write under the access codes of the register's fields alone: RW and unlocked RWL fields are stored, W1C bits are cleared, all other
bits stay (R10, R11, R13). -/
def State.writePlain (s : State) (r : Reg) (v : Word) : State :=
  let p := r.name.spec
  let locked : Bool := match r.name.lock with | some l => s.rd { name := l } &&& 1#32 != 0#32 | none => false
  let m := BitVec.ofNat 32 (if locked then p.rw else p.rw ||| p.rwl)
  let c := v &&& BitVec.ofNat 32 p.w1c
  if p.rw = 0 ∧ p.w1c = 0 ∧ p.rwl = 0 then s
  else s.wr r ((s.rd r &&& ~~~(m ||| c)) ||| (v &&& m))

/-- A set-up write is ignored, with an event bit, under a condition; otherwise it takes effect. -/
def State.writeUnless (s : State) (blocked : Bool) (event : State → State) (r : Reg) (v : Word) : State :=
  if blocked then event s else s.writePlain r v

/-- A burst is admitted or queued on the sequencer that a lane is bound to (R230). -/
def State.laneBusy (s : State) (k : Nat) : Bool := s.bit F.LANEn_BIND_BOUND k && s.seqBusy (s.get F.LANEn_BIND_SEQ k)

/-- A slot stands in an open watch; an input is the gate of such a slot's source (R276, R287). -/
def State.slotInWatch (s : State) (n : Nat) : Bool := s.watches.any fun p => !p.2.closed && p.2.slots.any (·.slot == n)
def State.inputInWatch (s : State) (i : Nat) : Bool :=
  s.watches.any fun p => !p.2.closed && p.2.slots.any fun x => x.source == 0x200 + i

/-- Both halves of a write of SEQn_SESSION: the highest-ranking bit alone acts, and a write of more than one sets CTRL_IGNORED (R162). -/
def sessionWrite (n : Nat) (v : Word) (s : State) : Host.Outcome State Fault Refusal :=
  let bits := (setBits v.toNat 3).length
  let s := if (s.sessionOn n).isNone ∨ 1 < bits then s.setBit F.SEQn_EVENTS_CTRL_IGNORED n else s
  if v.getLsbD 2 then Sys2Proof.Machine.execSessionStop n s
  else if v.getLsbD 1 then Sys2Proof.Machine.execSessionResume n s
  else if v.getLsbD 0 then Sys2Proof.Machine.execSessionPause n s
  else .next s

/-- A stall of the function is not CLOSED (R369). -/
def State.anyStallOpen (s : State) (f : Nat) : Bool := s.stalls.any fun p => p.2.fn == f && (p.2.opening || p.2.st != .closed)

/-- A condition outside the model that a command register needs is a free value (log entry 4). -/
def State.freeBit (s : State) : Bool := s.freeVal % 2 == 1

/-- A write of a register that has a rule of its own; none for a register that acts by its access codes alone. -/
def writeSpecial (a : Agent) (r : Reg) (v : Word) (s : State) : Option (Host.Outcome State Fault Refusal) :=
  let go := v.getLsbD 0
  let n := r.i
  let cmd (o : Host.Outcome State Fault Refusal) : Option (Host.Outcome State Fault Refusal) := some (if go then o else .next s)
  let setUp (blocked : Bool) (event : State → State) : Option (Host.Outcome State Fault Refusal) := some (.next (s.writeUnless blocked event r v))
  match r.name with
  | .CHn_LEVEL_COMMIT => cmd (Sys2Proof.Machine.execLevelCommit n s)
  | .CHn_ENABLE => some (Sys2Proof.Machine.execChannelEnableWrite n v s)
  | .TSBANK_COMMIT_n => cmd (Sys2Proof.Machine.execTsbankCommit n s)
  | .TSBANK_COMMIT_FREE => cmd (Sys2Proof.Machine.execTsbankCommitFree s)
  | .TSBANK_STAGE => some (Sys2Proof.Machine.execTsbankStageWrite n (r.j / 8) (r.j % 8) v s)
  | .DRAM_SEG_CTRL => cmd (Sys2Proof.Machine.execPoolLockWrite s)
  | .SEQn_OWN_COMMIT => cmd (Sys2Proof.Machine.execOwnershipCommit n s)
  | .SEQn_SESSION => some (sessionWrite n v s)
  | .SEQn_REDIRECT_0 => setUp (s.sessionOn n).isNone fun s => s.setBit F.SEQn_EVENTS_CTRL_IGNORED n
  | .SEQn_REDIRECT_1 => some (Sys2Proof.Machine.execRedirectArm n v s)
  | .SEQn_DIRINIT_w | .SEQn_CHAIN_w | .SEQn_SITE_EN_w | .SEQn_SITE_MAP_m | .SEQn_SPILL_0 | .SEQn_SPILL_1 =>
    setUp (s.seqBusy n) fun s => s.setBit F.SEQn_EVENTS_SETUP_BLOCKED n
  | .CAP_TRIG_VAL_w | .CAP_TRIG_MASK_w | .CAP_TRIG_CTRL => setUp (s.seqBusy n) fun s => s.setBit F.CAP_EVENTS_SETUP_BLOCKED n
  | .LANEn_MODE => some (Sys2Proof.Machine.execLaneModeEnable n v s)
  | .LANEn_EQ | .LANEn_HUNT => setUp (s.get F.LANEn_MODE_MODE n != 0) fun s => s.setBit F.LANEn_EVENTS_SETUP_BLOCKED n
  | .LANEn_BIND | .LANEn_CMP_SEG | .LANEn_CMP_FIRST | .LANEn_CMP_COUNT | .LANEn_MATCH_w | .LANEn_MMASK_w | .LANEn_MATCH_HDR | .LANEn_PMASK_w =>
    setUp (s.laneBusy n) fun s => s.setBit F.LANEn_EVENTS_SETUP_BLOCKED n
  | .GSL_CTRL =>
    let s := (s.writePlain r v).refreshHall
    some (if v.getLsbD 1 then Sys2Proof.Machine.execReform s else .next s)
  | .GSL_DEVID => some (.next (s.writePlain r v).checkIds)
  | .GSL_PORTn_CFG => some (Sys2Proof.Machine.execPortRoleWrite n v s)
  | .GSL_PORTn_ASYM => some (.next (s.asymWrite n v))
  | .CRIER_LAT | .CRIER_SRC_n => setUp s.isMember id
  | .CRIER_COMMIT => cmd (Sys2Proof.Machine.execCrierCommit s.freeBit s.useFree)
  | .TALLY_OVEN_CTRL => some (.next (s.ovenCtrlWrite v))
  | .TALLY_INn_CFG => setUp (s.inputInWatch n) fun s => s.setBit F.TALLY_EVENTS_SETUP_BLOCKED
  | .TALLY_SLOTn_CFG | .TALLY_SLOTn_ARMSEL | .TALLY_SLOTn_HOLD | .TALLY_SLOTn_SUST | .TALLY_SLOTn_BURST | .TALLY_SLOTn_NSTAMP
  | .TALLY_SLOTn_DUR_0 | .TALLY_SLOTn_DUR_1 => setUp (s.slotInWatch n) fun s => s.setBit F.TALLY_SLOTn_EVENTS_SETUP_BLOCKED n
  | .STALL_HOST_CTO => setUp (decide (v.toNat % 2 ^ 10 < 1) || decide (1000 < v.toNat % 2 ^ 10)) id
  | .STALL_POLL =>
    let p := F.STALL_POLL_POLL.get v
    some (.next (s.writeUnless (decide (p < 1) || decide (1000 < p)) id r v).refreshWatch)
  | .STALL_WAKE => some (Sys2Proof.Machine.execStallWake n (v.toNat % 4096) s)
  | .STALL_CTL =>
    some (if v.getLsbD 12 then Sys2Proof.Machine.execStallClose n (v.toNat % 4096) s else Sys2Proof.Machine.execStallOpen n (v.toNat % 4096) s)
  | .STALL_DB_BASE_0 | .STALL_DB_BASE_1 | .STALL_TABLE_BASE_0 | .STALL_TABLE_BASE_1 =>
    setUp (s.anyStallOpen n) fun s => s.setBit F.STALL_EVENTS_BASE_BLOCKED n
  | .AWN_SUPPLY => some (.next (s.limitWrite .AWN_SUPPLY v))
  | .AWN_COOLANT => some (.next (s.limitWrite .AWN_COOLANT v))
  | .AWN_GUARD => some (.next (s.limitWrite .AWN_GUARD v))
  | .TOLL_SCHED_POOL => some (Sys2Proof.Machine.execSchedPoolWrite v s)
  | .EVR_ROUTEn_0 => some (Sys2Proof.Machine.execRouteWrite n v s)
  | .EVR_ROUTEn_1 | .EVR_ROUTEn_2 =>
    if s.routeBusy (s.get F.EVR_ROUTEn_0_DEST n) then some (.next (s.setBit F.EVR_EVENTS_SETUP_BLOCKED))
    else
      let t := s.writePlain r v
      some (.next (if s.bit F.EVR_ROUTEn_0_EN n && t.rd r != s.rd r then s.setBit F.EVR_EVENTS_ROUTE_REJECT else t))
  | .MBX_PORTp_SEL => some (Sys2Proof.Machine.execMbxPortSelect n r.j (v.toNat % 4096) s)
  | .MBX_SHn_TXBUF_w => some (Sys2Proof.Machine.execMbxTxbufWrite a n r.j v s)
  | .BOOT_WDT_RESTART => some (Sys2Proof.Machine.execBootWdtRestart a v s)
  | .DRAM_ILV_COMMIT => cmd (Sys2Proof.Machine.execDramIlvCommit s)
  | .TIME_CMD => some (.next (s.timeCmd v))
  | .TIME_UTC => some (Sys2Proof.Machine.execUtcOffsetWrite v s)
  | .PTP_SERVO_CTRL => some (.next (s.servoCtrlWrite v))
  | .PTP_SERVO_IN_0 => some (.next (s.wr r v))
  | .PTP_SERVO_IN_1 => some (Sys2Proof.Machine.execServoInput v s)
  | .PTP_PORTn_CFG | .PTP_PORTn_TXLAT | .PTP_PORTn_RXLAT | .PTP_PORTn_RXRING_0 | .PTP_PORTn_RXRING_1 =>
    setUp (s.bit F.PTP_PORTn_CFG_EN n) fun s => s.setBit F.TIME_EVENTS_SETUP_BLOCKED
  | .FLT_CLEAR => cmd (Sys2Proof.Machine.execFltClear s.freeBit s.useFree)
  | .FLT_DISABLE => some (Sys2Proof.Machine.execFltDisable (v.toNat % 64) s)
  | .FLT_MIRROR_ACK => cmd (Sys2Proof.Machine.execFltMirrorAck s)
  | .PWR_LTR => some (.next (s.writePlain r v).refreshWatch)
  | .PWR_POLICY => setUp (decide (5 ≤ v.toNat % 8)) id
  | .PWR_CTRL => cmd (Sys2Proof.Machine.execP4Req s)
  | .PWR_ROW_OFF => some (Sys2Proof.Machine.execRowOffWrite v s)
  | .BOOT_PUSH_CMD => cmd (Sys2Proof.Machine.execBootPushGo s)
  | _ => none

/-- A write of a register by an agent. -/
def writeReg (a : Agent) (r : Reg) (v : Word) (s : State) : Host.Outcome State Fault Refusal :=
  match writeSpecial a r v s with
  | some o => o
  | none => .next (s.writePlain r v)

/-! ## Configuration space and MSI-X (R330, R334, R336, R338, R344) -/

/-- Every pending vector of a function that may issue does so (R344). -/
def State.issueAll (s : State) (f : Nat) : State := ((s.func f).vecs.map (·.1)).foldl (fun s v => s.issueMsix f v) s

/-- A write of a configuration register of a function (log entry 6). -/
def configWrite (fn : Nat) (c : ConfigReg) (v : Word) (s : State) : Host.Outcome State Fault Refusal :=
  let go := v.getLsbD 0
  let f := s.func fn
  let opts (o : LinkOpts) : Host.Outcome State Fault Refusal := .next (s.setFunc fn { f with opts := o })
  if !s.configOpen ∨ !f.present then .next s
  else
    match c with
    | .busMaster => if go then .next ((s.setFunc fn { f with busMaster := true }).issueAll fn) else Sys2Proof.Machine.execBusMasterClear fn s
    | .msixEnable => .next ((s.setFunc fn { f with msixEnable := go }).issueAll fn)
    | .msixFunctionMask => .next ((s.setFunc fn { f with msixMask := go }).issueAll fn)
    | .numVfs => .next (if fn = 0 then { s with numVfs := v.toNat % 2 ^ 16 } else s)
    | .ariHierarchy => .next (if fn = 0 then { s with ari := go } else s)
    | .bar4Size => .next (if fn = 0 ∧ 28 ≤ v.toNat ∧ v.toNat ≤ 37 then { s with bar4Log2 := v.toNat } else s)
    | .deviceControl =>
      opts { f.opts with maxPayload := bitsOf v.toNat 5 3, maxRead := bitsOf v.toNat 12 3, relaxedOrdering := v.getLsbD 4, noSnoop := v.getLsbD 11 }
    | .deviceControl2 => opts { f.opts with idOrdering := v.getLsbD 8 }
    | .linkControl => opts { f.opts with aspmL1 := v.getLsbD 1 }
    | .aerControl => opts { f.opts with ecrcGenerate := v.getLsbD 6, ecrcCheck := v.getLsbD 8 }
    | .aerStatus => opts { f.opts with aer := f.opts.aer.filter fun b => !v.getLsbD b }

/-- The word that a read of a configuration register returns, in the layout of its write (log entry 6). -/
def State.configWord (s : State) (fn : Nat) (c : ConfigReg) : Nat :=
  let f := s.func fn
  let bit (b : Bool) (i : Nat) : Nat := if b then 2 ^ i else 0
  match c with
  | .busMaster => bit f.busMaster 0
  | .msixEnable => bit f.msixEnable 0
  | .msixFunctionMask => bit f.msixMask 0
  | .numVfs => if fn = 0 then s.numVfs else 0
  | .ariHierarchy => if fn = 0 then bit s.ari 0 else 0
  | .bar4Size => if fn = 0 then s.bar4Log2 else 0
  | .deviceControl => f.opts.maxPayload * 2 ^ 5 + f.opts.maxRead * 2 ^ 12 + bit f.opts.relaxedOrdering 4 + bit f.opts.noSnoop 11
  | .deviceControl2 => bit f.opts.idOrdering 8
  | .linkControl => bit f.opts.aspmL1 1
  | .aerControl => bit f.opts.ecrcGenerate 6 + bit f.opts.ecrcCheck 8
  | .aerStatus => ofSet f.opts.aer 32

/-- The attributes with which a posted write goes out: Relaxed Ordering, ID-Based Ordering, No Snoop (R330). Receipts, MSI-X messages and
state words never carry Relaxed Ordering (R340). -/
def State.writeAttrs (s : State) (w : HostWrite) : Bool × Bool × Bool :=
  match w with
  | .receipt fn .. | .msix fn .. | .stateWord fn .. => (false, (s.func fn).opts.idOrdering, (s.func fn).opts.noSnoop)
  | .data fn .. | .copy fn .. => ((s.func fn).opts.relaxedOrdering, (s.func fn).opts.idOrdering, (s.func fn).opts.noSnoop)

/-- A write of one word of a function's MSI-X table (R344). -/
def State.msixTableWrite (s : State) (fn off : Nat) (v : Word) : State :=
  let k := off / 16
  match off % 16 with
  | 0 => s.modVec fn k fun x => { x with addr := x.addr / 2 ^ 32 * 2 ^ 32 + v.toNat }
  | 4 => s.modVec fn k fun x => { x with addr := x.addr % 2 ^ 32 + v.toNat * 2 ^ 32 }
  | 8 => s.modVec fn k fun x => { x with data := v.toNat }
  | 12 => (s.modVec fn k fun x => { x with masked := v.getLsbD 0 }).issueMsix fn k
  | _ => s

/-- A word of a function's MSI-X table (R344). -/
def State.msixTableWord (s : State) (fn off : Nat) : Word :=
  let x := Store.getD (s.func fn).vecs (off / 16) {}
  BitVec.ofNat 32 (match off % 16 / 4 with | 0 => x.addr | 1 => x.addr / 2 ^ 32 | 2 => x.data | _ => if x.masked then 1 else 0)

/-- A word of a function's pending-bit array (R344). -/
def State.pbaWord (s : State) (fn off : Nat) : Word :=
  BitVec.ofNat 32 (ofSet ((List.range 32).filter fun b => (Store.getD (s.func fn).vecs (8 * off + b) {}).pending) 32)

/-- Offsets into the MSI-X tables and pending-bit arrays in BAR0 of the PF (R638) and of a VF (R640). -/
def msixTable (fn off : Nat) : Option Nat :=
  if fn = 0 then (if 0x1FE0000 ≤ off ∧ off < 0x1FE8000 then some (off - 0x1FE0000) else none)
  else if off < 0x400 then some off else none
def msixPba (fn off : Nat) : Option Nat :=
  if fn = 0 then (if 0x1FF0000 ≤ off ∧ off < 0x1FF0100 then some (off - 0x1FF0000) else none)
  else if 0x8000 ≤ off ∧ off < 0x8008 then some (off - 0x8000) else none

/-- PCIe Base 6.0 admits aligned accesses of 4 and 8 bytes to the MSI-X structures. -/
def msixAligned (off n : Nat) : Bool := (n == 4 || n == 8) && off % n == 0

/-- A read of `n` bytes that begins in the MSI-X table or pending-bit array (R9, R344). What PCIe leaves undefined is a free value. -/
def State.msixRead (s : State) (fn off n : Nat) : State :=
  let ks := (List.range (n / 4)).map (4 * ·)
  if !msixAligned off n then (s.answer (wordsOf ((List.range n).map fun i => BitVec.ofNat 8 (Config.freeValue (s.free + i))))).useFree n
  else match msixTable fn off, msixPba fn off with
    | some o, _ => s.answer (ks.map fun i => s.msixTableWord fn (o + i))
    | _, some o => s.answer (ks.map fun i => s.pbaWord fn (o + i))
    | _, _ => s

/-- A write of words that begins in the MSI-X table or pending-bit array (R9, R344). What PCIe leaves undefined, an unaligned write of the
table and a write of the pending-bit array, leaves free values in the entries and bits it covers. -/
def State.msixWrite (s : State) (fn off n : Nat) (data : List Word) : State :=
  match msixTable fn off, msixPba fn off with
  | some o, _ =>
    if msixAligned off n then ((List.range (n / 4)).zip data).foldl (fun t p => t.msixTableWrite fn (o + 4 * p.1) p.2) s
    else (List.range (n / 4 + 1)).foldl (fun t i => (t.msixTableWrite fn (o / 4 * 4 + 4 * i) (BitVec.ofNat 32 t.freeVal)).useFree) s
  | _, some o =>
    (List.range (8 * n)).foldl (fun t i =>
      ((t.modVec fn (8 * o + i) fun x => { x with pending := bitOf t.freeVal 0 }).useFree).issueMsix fn (8 * o + i)) s
  | _, _ => s

/-! ## The rows -/

/-- An access to a function that does not exist completes with Unsupported Request (PCIe Base 6.0, log entry 6). -/
def State.noFunction (s : State) : State := s.answerErr .unsupported

/-- An aligned 32-bit write (R8, R10, R11). -/
def execRegisterWrite (t : Target) (v : Word) (s : State) : Host.Outcome State Fault Refusal :=
  let write (a : Agent) : Option Reg → Host.Outcome State Fault Refusal
    | some r => writeReg a r v s
    | none => .next s
  match t with
  | .bar0 off =>
    if off % 4 ≠ 0 ∨ !s.bar0Open off then .next s
    else if (msixTable 0 off).isSome ∨ (msixPba 0 off).isSome then .next (s.msixWrite 0 off 4 [v])
    else write (.host 0 0) (bar0At off)
  | .vfBar0 fn off =>
    if off % 4 ≠ 0 ∨ !s.booted ∨ fn = 0 ∨ !(s.func fn).present then .next s
    else .next (s.msixWrite fn off 4 [v])
  | .bar2 fn rid off => if off % 4 ≠ 0 ∨ !s.booted ∨ !(s.func fn).present then .next s else write (.host fn rid) (bar2At fn off)
  | .internal id off => if off % 4 ≠ 0 then .next s else write (.internal id) (internalAt off)
  | .config fn c => configWrite fn c v s

/-- An aligned 32-bit read. An offset that no register occupies reads 0, and so does every offset that does not answer yet (R10, R610). -/
def readAt (t : Target) (s : State) : Host.Outcome State Fault Refusal :=
  let read (a : Agent) : Option Reg → Host.Outcome State Fault Refusal
    | some r => readReg a r s
    | none => .next (s.answer [0#32])
  match t with
  | .bar0 off =>
    if !s.bar0Open off then .next (s.answer [0#32])
    else if (msixTable 0 off).isSome ∨ (msixPba 0 off).isSome then .next (s.msixRead 0 off 4)
    else read (.host 0 0) (bar0At off)
  | .vfBar0 fn off =>
    if !(s.func fn).present then .next s.noFunction
    else if s.booted ∧ ((msixTable fn off).isSome ∨ (msixPba fn off).isSome) then .next (s.msixRead fn off 4)
    else .next (s.answer [0#32])
  | .bar2 fn rid off =>
    if !(s.func fn).present then .next s.noFunction
    else if !s.booted then .next (s.answer [0#32])
    else read (.host fn rid) (bar2At fn off)
  | .internal id off => read (.internal id) (internalAt off)
  | .config fn c => .next (if s.configOpen ∧ (s.func fn).present then s.answer [BitVec.ofNat 32 (s.configWord fn c)] else s.noFunction)

/-- Carry out a list of accesses in order; the words they return are gathered, and the first that returns none ends the data. -/
def gather (reads : List (State → Host.Outcome State Fault Refusal)) (s : State) (acc : List Word) : Host.Outcome State Fault Refusal :=
  match reads with
  | [] => .next { s with rdata := acc }
  | f :: rest =>
    match f s with
    | .next t => if t.rstat = .ok then gather rest t (acc ++ t.rdata) else .next t
    | o => o

/-- Carry out a list of writes in order. -/
def inOrder (writes : List (State → Host.Outcome State Fault Refusal)) (s : State) : Host.Outcome State Fault Refusal :=
  match writes with
  | [] => .next s
  | f :: rest =>
    match f s with
    | .next t => inOrder rest t
    | o => o

/-- BAR2_WIDE_ACCESS: a BAR2 access of R641, of `n` bytes or of the words `data`; `rid` is the requester ID. -/
def execBar2WideAccess (fn rid off n : Nat) (write : Bool) (data : List Word) (s : State) : Host.Outcome State Fault Refusal :=
  if !wideAccess off n ∨ !(s.func fn).present ∨ (write ∧ data.length ≠ n / 4) then .next s
  else if write then
    inOrder ((data.zipIdx).map fun p => execRegisterWrite (.bar2 fn rid (off + 4 * p.2)) p.1) s
  else
    gather ((List.range (n / 4)).map fun i => readAt (.bar2 fn rid (off + 4 * i))) (s.answer []) []

/-- An access that is not an aligned 32-bit access and is not excepted: a write is discarded, a read returns all ones (R9). -/
def State.unaligned (s : State) (n : Nat) (write : Bool) : State := if write then s else s.answer (wordsOf (List.replicate n 0xFF#8))

/-- UNALIGNED_ACCESS: an access of `n` bytes that is not an aligned 32-bit access, R641 and the MSI-X structures excepted (R9). An access of
another shape that comes as this command is carried out as what it is (log entry 29); `write` holds the words of a write, none for a read. -/
def execUnalignedAccess (t : Target) (n : Nat) (write : Option (List Word)) (s : State) : Host.Outcome State Fault Refusal :=
  let one (off : Nat) : Bool := off % 4 == 0 && n == 4
  let plain : Host.Outcome State Fault Refusal :=
    match write with | some data => execRegisterWrite t (data.headD 0#32) s | none => readAt t s
  let msix (fn off : Nat) : Host.Outcome State Fault Refusal := .next (match write with | some data => s.msixWrite fn off n data | none => s.msixRead fn off n)
  if n = 0 then .next s
  else match t with
    | .bar0 off =>
      if one off then plain
      else if s.bar0Open off ∧ ((msixTable 0 off).isSome ∨ (msixPba 0 off).isSome) then msix 0 off
      else .next (s.unaligned n write.isSome)
    | .vfBar0 fn off =>
      if one off then plain
      else if s.booted ∧ fn ≠ 0 ∧ (s.func fn).present ∧ ((msixTable fn off).isSome ∨ (msixPba fn off).isSome) then msix fn off
      else .next (s.unaligned n write.isSome)
    | .bar2 fn rid off =>
      if one off then plain
      else if wideAccess off n then execBar2WideAccess fn rid off n write.isSome (write.getD []) s
      else .next (s.unaligned n write.isSome)
    | .internal _ off => if one off then plain else .next s
    | .config _ _ => if n = 4 then plain else .next s

/-- READ_CLEAR_READ: an aligned 32-bit read at a BAR0 offset; a register with RC bits returns its value and clears the bits it returned as 1
(R11). -/
def execReadClearRead (off : Nat) (s : State) : Host.Outcome State Fault Refusal :=
  if off % 4 = 0 then readAt (.bar0 off) s else .next (s.unaligned 4 false)

/-- WIDE_VALUE_READ: an aligned 32-bit read at a BAR0 offset; the lowest word of a wide value latches the words above it (R106). -/
def execWideValueRead (off : Nat) (s : State) : Host.Outcome State Fault Refusal :=
  if off % 4 = 0 then readAt (.bar0 off) s else .next (s.unaligned 4 false)

/-- TIME_NOW_READ: a read of TIME_NOW_0 (R490). -/
def execTimeNowRead (s : State) : Host.Outcome State Fault Refusal := if s.booted then .next s.readNow else .next (s.answer [0#32])

end Sys2Proof.Machine
end

