-- ==== Sys2Proof/Machine/Dispatch.lean ====
section
/-! DEFINITION. One arm per command: a direct call of its meaning. -/

namespace Sys2Proof.Machine

def exec (i : Instr) (s : State) : Host.Outcome State Fault Refusal :=
  match i with
  | .registerWrite t v => Sys2Proof.Machine.execRegisterWrite t v s
  | .unalignedAccess t n write => Sys2Proof.Machine.execUnalignedAccess t n write s
  | .bar2WideAccess fn rid off n write data => Sys2Proof.Machine.execBar2WideAccess fn rid off n write data s
  | .readClearRead off => Sys2Proof.Machine.execReadClearRead off s
  | .wideValueRead off => Sys2Proof.Machine.execWideValueRead off s
  | .paceReadingPublish pace => Sys2Proof.Machine.execPaceReadingPublish pace s
  | .runAheadUnderrun k => Sys2Proof.Machine.execRunAheadUnderrun k s
  | .closingIntervalEnd k check => Sys2Proof.Machine.execClosingIntervalEnd k check s
  | .levelCommit c => Sys2Proof.Machine.execLevelCommit c s
  | .rangeSwitchDone c => Sys2Proof.Machine.execRangeSwitchDone c s
  | .rampStart c => Sys2Proof.Machine.execRampStart c s
  | .rampEnd c => Sys2Proof.Machine.execRampEnd c s
  | .rampDone c => Sys2Proof.Machine.execRampDone c s
  | .channelEnableWrite c v => Sys2Proof.Machine.execChannelEnableWrite c v s
  | .comparatorOutcomeChange c o => Sys2Proof.Machine.execComparatorOutcomeChange c o s
  | .comparatorDisagreement c => Sys2Proof.Machine.execComparatorDisagreement c s
  | .swmTrip c => Sys2Proof.Machine.execSwmTrip c s
  | .drvStuck c => Sys2Proof.Machine.execDrvStuck c s
  | .pmuOver c => Sys2Proof.Machine.execPmuOver c s
  | .pmuClamp c => Sys2Proof.Machine.execPmuClamp c s
  | .masterLock count => Sys2Proof.Machine.execMasterLock count s
  | .referenceLoss refin => Sys2Proof.Machine.execReferenceLoss refin s
  | .tsbankCommit n => Sys2Proof.Machine.execTsbankCommit n s
  | .tsbankCommitFree => Sys2Proof.Machine.execTsbankCommitFree s
  | .timingCommitEffect n => Sys2Proof.Machine.execTimingCommitEffect n s
  | .tsbankStageWrite c t w v => Sys2Proof.Machine.execTsbankStageWrite c t w v s
  | .cycleStart n io => Sys2Proof.Machine.execCycleStart n io s
  | .bar4Write x data => Sys2Proof.Machine.execBar4Write x data s
  | .bar4Read x n bad corr => Sys2Proof.Machine.execBar4Read x n bad corr s
  | .poolLockWrite => Sys2Proof.Machine.execPoolLockWrite s
  | .ownershipCommit n => Sys2Proof.Machine.execOwnershipCommit n s
  | .seqVec n => Sys2Proof.Machine.execSeqVec n s
  | .seqRepeat n => Sys2Proof.Machine.execSeqRepeat n s
  | .seqLoop n => Sys2Proof.Machine.execSeqLoop n s
  | .endloop n => Sys2Proof.Machine.execEndloop n s
  | .seqCall n => Sys2Proof.Machine.execSeqCall n s
  | .seqReturn n => Sys2Proof.Machine.execSeqReturn n s
  | .seqJump n => Sys2Proof.Machine.execSeqJump n s
  | .seqMatch n => Sys2Proof.Machine.execSeqMatch n s
  | .matchTimeout n => Sys2Proof.Machine.execMatchTimeout n s
  | .brfail n => Sys2Proof.Machine.execBrfail n s
  | .brevt n => Sys2Proof.Machine.execBrevt n s
  | .seqShift n => Sys2Proof.Machine.execSeqShift n s
  | .setts n => Sys2Proof.Machine.execSetts n s
  | .seqDir n => Sys2Proof.Machine.execSeqDir n s
  | .edgecmp n => Sys2Proof.Machine.execEdgecmp n s
  | .seqHold n => Sys2Proof.Machine.execSeqHold n s
  | .holdRelease n => Sys2Proof.Machine.execHoldRelease n s
  | .holdTimeout n => Sys2Proof.Machine.execHoldTimeout n s
  | .seqMark n => Sys2Proof.Machine.execSeqMark n s
  | .captureOn n => Sys2Proof.Machine.execCaptureOn n s
  | .captureOff n => Sys2Proof.Machine.execCaptureOff n s
  | .seqEnd n => Sys2Proof.Machine.execSeqEnd n s
  | .instructionBoundary n => Sys2Proof.Machine.execInstructionBoundary n s
  | .sessionPause n => Sys2Proof.Machine.execSessionPause n s
  | .sessionResume n => Sys2Proof.Machine.execSessionResume n s
  | .sessionStop n => Sys2Proof.Machine.execSessionStop n s
  | .redirectArm n v => Sys2Proof.Machine.execRedirectArm n v s
  | .voidFinalReceipt k => Sys2Proof.Machine.execVoidFinalReceipt k s
  | .faultNoticeArrival n => Sys2Proof.Machine.execFaultNoticeArrival n s
  | .engineWatchdogExpiry n => Sys2Proof.Machine.execEngineWatchdogExpiry n s
  | .microwordFetchError n corrected => Sys2Proof.Machine.execMicrowordFetchError n corrected s
  | .uopNop n => Sys2Proof.Machine.execUopNop n s
  | .uopMov n => Sys2Proof.Machine.execUopMov n s
  | .ldi n => Sys2Proof.Machine.execLdi n s
  | .ldih n => Sys2Proof.Machine.execLdih n s
  | .uopAdd n => Sys2Proof.Machine.execUopAdd n s
  | .uopSub n => Sys2Proof.Machine.execUopSub n s
  | .addi n => Sys2Proof.Machine.execAddi n s
  | .uopAnd n => Sys2Proof.Machine.execUopAnd n s
  | .uopOr n => Sys2Proof.Machine.execUopOr n s
  | .uopXor n => Sys2Proof.Machine.execUopXor n s
  | .uopShf n => Sys2Proof.Machine.execUopShf n s
  | .uopCmp n => Sys2Proof.Machine.execUopCmp n s
  | .cmpi n => Sys2Proof.Machine.execCmpi n s
  | .uopField n => Sys2Proof.Machine.execUopField n s
  | .uopBr n => Sys2Proof.Machine.execUopBr n s
  | .brz n => Sys2Proof.Machine.execBrz n s
  | .brnz n => Sys2Proof.Machine.execBrnz n s
  | .brn n => Sys2Proof.Machine.execBrn n s
  | .brc n => Sys2Proof.Machine.execBrc n s
  | .brb n => Sys2Proof.Machine.execBrb n s
  | .disp n => Sys2Proof.Machine.execDisp n s
  | .dispop n => Sys2Proof.Machine.execDispop n s
  | .uopRun n => Sys2Proof.Machine.execUopRun n s
  | .uopQuiet n => Sys2Proof.Machine.execUopQuiet n s
  | .uopAct n => Sys2Proof.Machine.execUopAct n s
  | .wpush n => Sys2Proof.Machine.execWpush n s
  | .wpop n => Sys2Proof.Machine.execWpop n s
  | .uopSpill n => Sys2Proof.Machine.execUopSpill n s
  | .uopFill n => Sys2Proof.Machine.execUopFill n s
  | .memwait n => Sys2Proof.Machine.execMemwait n s
  | .failrd n => Sys2Proof.Machine.execFailrd n s
  | .siteop n => Sys2Proof.Machine.execSiteop n s
  | .uopCrier n => Sys2Proof.Machine.execUopCrier n s
  | .uopLatch n => Sys2Proof.Machine.execUopLatch n s
  | .uopTrap n => Sys2Proof.Machine.execUopTrap n s
  | .trapret n => Sys2Proof.Machine.execTrapret n s
  | .voidb n => Sys2Proof.Machine.execVoidb n s
  | .endb n => Sys2Proof.Machine.execEndb n s
  | .illegalUop n => Sys2Proof.Machine.execIllegalUop n s
  | .laneModeEnable k v => Sys2Proof.Machine.execLaneModeEnable k v s
  | .laneModeOff k => Sys2Proof.Machine.execLaneModeOff k s
  | .cdrLock k => Sys2Proof.Machine.execCdrLock k s
  | .cdrLockLoss k => Sys2Proof.Machine.execCdrLockLoss k s
  | .losAssert k => Sys2Proof.Machine.execLosAssert k s
  | .losClear k => Sys2Proof.Machine.execLosClear k s
  | .laneHeader k h => Sys2Proof.Machine.execLaneHeader k h s
  | .huntSlow k => Sys2Proof.Machine.execHuntSlow k s
  | .laneBlock k h payload differ => Sys2Proof.Machine.execLaneBlock k h payload differ s
  | .gslFrameSend p => Sys2Proof.Machine.execGslFrameSend p s
  | .gslFrameReceive p frame t => Sys2Proof.Machine.execGslFrameReceive p frame t s
  | .probe => Sys2Proof.Machine.execProbe s
  | .probeReply t2 => Sys2Proof.Machine.execProbeReply t2 s
  | .advert id => Sys2Proof.Machine.execAdvert id s
  | .timeMessage => Sys2Proof.Machine.execTimeMessage s
  | .crierCfg commit => Sys2Proof.Machine.execCrierCfg commit s
  | .jointPrepare => Sys2Proof.Machine.execJointPrepare s
  | .jointVote => Sys2Proof.Machine.execJointVote s
  | .jointCommit => Sys2Proof.Machine.execJointCommit s
  | .jointAbort => Sys2Proof.Machine.execJointAbort s
  | .jointDone => Sys2Proof.Machine.execJointDone s
  | .jointRelease => Sys2Proof.Machine.execJointRelease s
  | .voidNotice => Sys2Proof.Machine.execVoidNotice s
  | .linkDown => Sys2Proof.Machine.execLinkDown s
  | .linkTrained p peer => Sys2Proof.Machine.execLinkTrained p peer s
  | .linkCalDone p => Sys2Proof.Machine.execLinkCalDone p s
  | .linkLoss p los => Sys2Proof.Machine.execLinkLoss p los s
  | .linkDriftCheck p => Sys2Proof.Machine.execLinkDriftCheck p s
  | .portRoleWrite p v => Sys2Proof.Machine.execPortRoleWrite p v s
  | .reform => Sys2Proof.Machine.execReform s
  | .crierCommit busy => Sys2Proof.Machine.execCrierCommit busy s
  | .crierConfigEffect => Sys2Proof.Machine.execCrierConfigEffect s
  | .crierAction => Sys2Proof.Machine.execCrierAction s
  | .jointWaitTimeout id => Sys2Proof.Machine.execJointWaitTimeout id s
  | .jointAdmissionTimeout id => Sys2Proof.Machine.execJointAdmissionTimeout id s
  | .slotEdge n rising t => Sys2Proof.Machine.execSlotEdge n rising t s
  | .stampRecordWrite r => Sys2Proof.Machine.execStampRecordWrite r s
  | .watchOpen k => Sys2Proof.Machine.execWatchOpen k s
  | .watchClose k => Sys2Proof.Machine.execWatchClose k s
  | .tgateTransition g level t => Sys2Proof.Machine.execTgateTransition g level t s
  | .gateSettleAccept g => Sys2Proof.Machine.execGateSettleAccept g s
  | .slotDisarmTimer n => Sys2Proof.Machine.execSlotDisarmTimer n s
  | .ocxoAppear => Sys2Proof.Machine.execOcxoAppear s
  | .ocxoLoss => Sys2Proof.Machine.execOcxoLoss s
  | .ovenReading reading => Sys2Proof.Machine.execOvenReading reading s
  | .ovenHold => Sys2Proof.Machine.execOvenHold s
  | .ovenEnable => Sys2Proof.Machine.execOvenEnable s
  | .ovenDisable => Sys2Proof.Machine.execOvenDisable s
  | .ssmsRun row stops repeats addr => Sys2Proof.Machine.execSsmsRun row stops repeats addr s
  | .ssmsRunDone row reps => Sys2Proof.Machine.execSsmsRunDone row reps s
  | .measurementResults k => Sys2Proof.Machine.execMeasurementResults k s
  | .linkUp speed width flit tags10 => Sys2Proof.Machine.execLinkUp speed width flit tags10 s
  | .rateDrop speed width => Sys2Proof.Machine.execRateDrop speed width s
  | .dlDown => Sys2Proof.Machine.execDlDown s
  | .vfEnableWrite enable => Sys2Proof.Machine.execVfEnableWrite enable s
  | .busMasterClear f => Sys2Proof.Machine.execBusMasterClear f s
  | .d3hotEntry f => Sys2Proof.Machine.execD3hotEntry f s
  | .d3hotExit f => Sys2Proof.Machine.execD3hotExit f s
  | .functionLevelReset f => Sys2Proof.Machine.execFunctionLevelReset f s
  | .flrDone f => Sys2Proof.Machine.execFlrDone f s
  | .readFailed how what => Sys2Proof.Machine.execReadFailed how what s
  | .msixTrigger => Sys2Proof.Machine.execMsixTrigger s
  | .msixUnmask f v => Sys2Proof.Machine.execMsixUnmask f v s
  | .stallOpen f k => Sys2Proof.Machine.execStallOpen f k s
  | .stallOpenComplete k desc doorbell => Sys2Proof.Machine.execStallOpenComplete k desc doorbell s
  | .stallClose f k => Sys2Proof.Machine.execStallClose f k s
  | .stallClosed k => Sys2Proof.Machine.execStallClosed k s
  | .stallWake f k => Sys2Proof.Machine.execStallWake f k s
  | .doorbellPoll f line => Sys2Proof.Machine.execDoorbellPoll f line s
  | .doorbellReadDone k word => Sys2Proof.Machine.execDoorbellReadDone k word s
  | .stallSleep k => Sys2Proof.Machine.execStallSleep k s
  | .orderFetch k => Sys2Proof.Machine.execOrderFetch k s
  | .fetchAllowanceTick k => Sys2Proof.Machine.execFetchAllowanceTick k s
  | .orderReceived k bytes => Sys2Proof.Machine.execOrderReceived k bytes s
  | .receiptWrite => Sys2Proof.Machine.execReceiptWrite s
  | .fenceRelease k => Sys2Proof.Machine.execFenceRelease k s
  | .orderNop k => Sys2Proof.Machine.execOrderNop k s
  | .orderBurst k => Sys2Proof.Machine.execOrderBurst k s
  | .segmentWrite k => Sys2Proof.Machine.execSegmentWrite k s
  | .segmentStream k data => Sys2Proof.Machine.execSegmentStream k data s
  | .fillComplete k => Sys2Proof.Machine.execFillComplete k s
  | .timingLoad k => Sys2Proof.Machine.execTimingLoad k s
  | .timingCommit k => Sys2Proof.Machine.execTimingCommit k s
  | .levelSet k => Sys2Proof.Machine.execLevelSet k s
  | .pmuMeasure k => Sys2Proof.Machine.execPmuMeasure k s
  | .adcSequence k => Sys2Proof.Machine.execAdcSequence k s
  | .tallyArm k => Sys2Proof.Machine.execTallyArm k s
  | .tallyDisarm k => Sys2Proof.Machine.execTallyDisarm k s
  | .captureRead k => Sys2Proof.Machine.execCaptureRead k s
  | .orderWork k => Sys2Proof.Machine.execOrderWork k s
  | .orderGraph k => Sys2Proof.Machine.execOrderGraph k s
  | .graphDependencyMet k => Sys2Proof.Machine.execGraphDependencyMet k s
  | .orderFence k => Sys2Proof.Machine.execOrderFence k s
  | .frameLaunch k => Sys2Proof.Machine.execFrameLaunch k s
  | .frameTransmit p pcs => Sys2Proof.Machine.execFrameTransmit p pcs s
  | .calLoad k => Sys2Proof.Machine.execCalLoad k s
  | .calSave k => Sys2Proof.Machine.execCalSave k s
  | .orderDisable k => Sys2Proof.Machine.execOrderDisable k s
  | .tollDecision => Sys2Proof.Machine.execTollDecision s
  | .delayRelease => Sys2Proof.Machine.execDelayRelease s
  | .windowStart k => Sys2Proof.Machine.execWindowStart k s
  | .burstStart k => Sys2Proof.Machine.execBurstStart k s
  | .awningUpdate uj => Sys2Proof.Machine.execAwningUpdate uj s
  | .awningSensorCorrect sens => Sys2Proof.Machine.execAwningSensorCorrect sens s
  | .awnLimitWrite which v => Sys2Proof.Machine.execAwnLimitWrite which v s
  | .itemDispatch core => Sys2Proof.Machine.execItemDispatch core s
  | .preempt => Sys2Proof.Machine.execPreempt s
  | .contextSaved core => Sys2Proof.Machine.execContextSaved core s
  | .workShed => Sys2Proof.Machine.execWorkShed s
  | .callExit core ret => Sys2Proof.Machine.execCallExit core ret s
  | .waitFor core us => Sys2Proof.Machine.execWaitFor core us s
  | .callTime core => Sys2Proof.Machine.execCallTime core s
  | .hostWrite core src dst n => Sys2Proof.Machine.execHostWrite core src dst n s
  | .mbxSend core a => Sys2Proof.Machine.execMbxSend core a s
  | .itemException core code => Sys2Proof.Machine.execItemException core code s
  | .itemDelayRelease => Sys2Proof.Machine.execItemDelayRelease s
  | .itemWritesAcked k => Sys2Proof.Machine.execItemWritesAcked k s
  | .lockstepMismatch core => Sys2Proof.Machine.execLockstepMismatch core s
  | .graphDispatch => Sys2Proof.Machine.execGraphDispatch s
  | .graphSum k => Sys2Proof.Machine.execGraphSum k s
  | .graphOr k => Sys2Proof.Machine.execGraphOr k s
  | .graphPopcount k => Sys2Proof.Machine.execGraphPopcount k s
  | .graphRuns k => Sys2Proof.Machine.execGraphRuns k s
  | .graphSelect k => Sys2Proof.Machine.execGraphSelect k s
  | .graphStats k => Sys2Proof.Machine.execGraphStats k s
  | .graphCopy k => Sys2Proof.Machine.execGraphCopy k s
  | .graphSuspend u => Sys2Proof.Machine.execGraphSuspend u s
  | .graphEnd k => Sys2Proof.Machine.execGraphEnd k s
  | .readRequest core line => Sys2Proof.Machine.execReadRequest core line s
  | .ownershipRequest cores line => Sys2Proof.Machine.execOwnershipRequest cores line s
  | .writeBack core line data => Sys2Proof.Machine.execWriteBack core line data s
  | .recallAnswer line data => Sys2Proof.Machine.execRecallAnswer line data s
  | .schedPoolWrite v => Sys2Proof.Machine.execSchedPoolWrite v s
  | .mbxPortSelect fn p k => Sys2Proof.Machine.execMbxPortSelect fn p k s
  | .mbxPortDataRead fn p w => Sys2Proof.Machine.execMbxPortDataRead fn p w s
  | .mbxTxbufWrite a n w v => Sys2Proof.Machine.execMbxTxbufWrite a n w v s
  | .mbxSharedSend a n => Sys2Proof.Machine.execMbxSharedSend a n s
  | .mbxRxbufRead a n w => Sys2Proof.Machine.execMbxRxbufRead a n w s
  | .eventPresent => Sys2Proof.Machine.execEventPresent s
  | .eventArrival => Sys2Proof.Machine.execEventArrival s
  | .routeWrite n v => Sys2Proof.Machine.execRouteWrite n v s
  | .bootWdtRestart a v => Sys2Proof.Machine.execBootWdtRestart a v s
  | .dramIlvCommit => Sys2Proof.Machine.execDramIlvCommit s
  | .arbiterRequest c r => Sys2Proof.Machine.execArbiterRequest c r s
  | .arbiterGrant c => Sys2Proof.Machine.execArbiterGrant c s
  | .requestWithdraw c => Sys2Proof.Machine.execRequestWithdraw c s
  | .refreshDue c => Sys2Proof.Machine.execRefreshDue c s
  | .refreshMakeup st => Sys2Proof.Machine.execRefreshMakeup st s
  | .selfRefreshEntry => Sys2Proof.Machine.execSelfRefreshEntry s
  | .selfRefreshExit => Sys2Proof.Machine.execSelfRefreshExit s
  | .patrolScrub line result => Sys2Proof.Machine.execPatrolScrub line result s
  | .timeStep rate => Sys2Proof.Machine.execTimeStep rate s
  | .timeRate => Sys2Proof.Machine.execTimeRate s
  | .timeCal => Sys2Proof.Machine.execTimeCal s
  | .timeChangeEffect => Sys2Proof.Machine.execTimeChangeEffect s
  | .utcOffsetWrite v => Sys2Proof.Machine.execUtcOffsetWrite v s
  | .timeNowRead => Sys2Proof.Machine.execTimeNowRead s
  | .servoInput v => Sys2Proof.Machine.execServoInput v s
  | .servoHoldover => Sys2Proof.Machine.execServoHoldover s
  | .ptpFrameReceive n frame fcs pcs => Sys2Proof.Machine.execPtpFrameReceive n frame fcs pcs s
  | .backupTimeWrite => Sys2Proof.Machine.execBackupTimeWrite s
  | .tvClear => Sys2Proof.Machine.execTvClear s
  | .conversionDone c v overRange => Sys2Proof.Machine.execConversionDone c v overRange s
  | .adcAfterDelay c => Sys2Proof.Machine.execAdcAfterDelay c s
  | .monitorScan c v => Sys2Proof.Machine.execMonitorScan c v s
  | .ovenConversion sum => Sys2Proof.Machine.execOvenConversion sum s
  | .urgentRequest h safety => Sys2Proof.Machine.execUrgentRequest h safety s
  | .levelVerify c dev => Sys2Proof.Machine.execLevelVerify c dev s
  | .resultQueuePop r => Sys2Proof.Machine.execResultQueuePop r s
  | .calImageRead img => Sys2Proof.Machine.execCalImageRead img s
  | .edgeLin temps saturated conv => Sys2Proof.Machine.execEdgeLin temps saturated conv s
  | .levelTrim vals residual failed => Sys2Proof.Machine.execLevelTrim vals residual failed s
  | .pmuTrim vals residual failed => Sys2Proof.Machine.execPmuTrim vals residual failed s
  | .calCommit => Sys2Proof.Machine.execCalCommit s
  | .faultDetection => Sys2Proof.Machine.execFaultDetection s
  | .handlingEnd => Sys2Proof.Machine.execHandlingEnd s
  | .safeStateConfirm => Sys2Proof.Machine.execSafeStateConfirm s
  | .escalationTimeout => Sys2Proof.Machine.execEscalationTimeout s
  | .fltClear asserting => Sys2Proof.Machine.execFltClear asserting s
  | .fltDisable f => Sys2Proof.Machine.execFltDisable f s
  | .disableDone f => Sys2Proof.Machine.execDisableDone f s
  | .fltMirrorAck => Sys2Proof.Machine.execFltMirrorAck s
  | .supplyWarning r => Sys2Proof.Machine.execSupplyWarning r s
  | .supplyWarningEnd r lowest => Sys2Proof.Machine.execSupplyWarningEnd r lowest s
  | .supplyHoldEnd => Sys2Proof.Machine.execSupplyHoldEnd s
  | .ledgerEvent => Sys2Proof.Machine.execLedgerEvent s
  | .ledgerTake => Sys2Proof.Machine.execLedgerTake s
  | .ledgerWriteDone => Sys2Proof.Machine.execLedgerWriteDone s
  | .vkeepWarning => Sys2Proof.Machine.execVkeepWarning s
  | .ledgerRead => Sys2Proof.Machine.execLedgerRead s
  | .powerStateSelect => Sys2Proof.Machine.execPowerStateSelect s
  | .powerExitStart planned => Sys2Proof.Machine.execPowerExitStart planned s
  | .powerExitComplete => Sys2Proof.Machine.execPowerExitComplete s
  | .p4Req => Sys2Proof.Machine.execP4Req s
  | .p4RequestExpiry => Sys2Proof.Machine.execP4RequestExpiry s
  | .p4WakeTimer => Sys2Proof.Machine.execP4WakeTimer s
  | .rowOffWrite v => Sys2Proof.Machine.execRowOffWrite v s
  | .vcoreRequestUpdate mv => Sys2Proof.Machine.execVcoreRequestUpdate mv s
  | .powerOn keeperLost cut => Sys2Proof.Machine.execPowerOn keeperLost cut s
  | .powerGood => Sys2Proof.Machine.execPowerGood s
  | .perst low => Sys2Proof.Machine.execPerst low s
  | .resetN low => Sys2Proof.Machine.execResetN low s
  | .watchdog => Sys2Proof.Machine.execWatchdog s
  | .resetAssert => Sys2Proof.Machine.execResetAssert s
  | .resetRelease src cand pos ref => Sys2Proof.Machine.execResetRelease src cand pos ref s
  | .bootPushGo => Sys2Proof.Machine.execBootPushGo s
  | .firmwareCheckDone img readOk b => Sys2Proof.Machine.execFirmwareCheckDone img readOk b s
  | .hostReadCompletion k data meas parts => Sys2Proof.Machine.execHostReadCompletion k data meas parts s
  | .lastDataWriteIssued k => Sys2Proof.Machine.execLastDataWriteIssued k s
  | .holdDurationBound n => Sys2Proof.Machine.execHoldDurationBound n s
  | .crierPulseEnd => Sys2Proof.Machine.execCrierPulseEnd s
  | .linkRetrainHigher speed width => Sys2Proof.Machine.execLinkRetrainHigher speed width s
  | .driftDetection stack unit => Sys2Proof.Machine.execDriftDetection stack unit s
  | .onDieMemoryError k line => Sys2Proof.Machine.execOnDieMemoryError k line s

end Sys2Proof.Machine
end

