-- ==== Sys2Proof/Safety.lean ====
section
/-!
DEFINITION. What counts as a safe run of the block (every step answers a next state), and what a step leaves unchanged: registers outside
a list of families, and the bytes of local memory outside a range; when a sequencer's instruction and a micro-engine's microword are
due; what the keeper's write in progress may be.
-/

namespace Sys2Proof

open Sys2Proof.Machine

/-- The block goes on from a state: its next step neither faults nor refuses. -/
def goesOn (s : State) : Prop := ∃ t, step s = .next t

/-- The block goes on for `n` steps. -/
def goesOnFor : Nat → State → Prop
  | 0, _ => True
  | n + 1, s => ∃ t, step s = .next t ∧ goesOnFor n t

/-- Every register outside the listed families reads as before. -/
def regsBut (l : List RegName) (s t : State) : Prop := ∀ r : Reg, r.name ∉ l → t.rd r = s.rd r

/-- Every byte of local memory reads as before. -/
def memSame (s t : State) : Prop := ∀ a, Mem.byte t.mem a = Mem.byte s.mem a

/-- Every byte of local memory outside `n` bytes from `a` reads as before. -/
def memBut (a n : Nat) (s t : State) : Prop := ∀ x, x < a ∨ a + n ≤ x → Mem.byte t.mem x = Mem.byte s.mem x

/-- The instruction of an opcode that sequencer `n` takes now (R110, R125, R136, R141): its burst runs, no boundary is due and it is
not paused, the address lies in a segment of the burst, its line can be read, the word holds permitted values and names only segments
of the burst, and the instruction credit covers it. With it the burst, the sequencer after the fetch and the fields of the word. -/
def dueIns (s : State) (n op : Nat) : Option (Nat × Work × Seq × Ins) :=
  let q := s.seqSt n
  match q.work with
  | none => none
  | some k =>
    match s.work? k with
    | none => none
    | some w =>
      if w.stage = .running ∧ q.phase = .ready ∧ q.free = true ∧ q.nidx < 2 ^ 18 ∧ w.segs.contains q.nseg = true then
        match s.readLines q [insAddr q.nseg q.nidx / 64] with
        | .error _ => none
        | .ok q' =>
          let i := s.insAt q.nseg q.nidx
          if i.op = op ∧ i.ok (s.owned n).length = true ∧ (i.namesSeg = true → w.segs.contains i.x = true) then
            (q'.charge (s.fixedCost op)).map fun r =>
              (k, w, { r with seg := q.nseg, idx := q.nidx, nidx := q.nidx + 1, onceRead := false, ucount := 0,
                              irOp := i.op, irMod := i.mod, irX := i.x, irY := i.y, irZ := i.z }, i)
          else none
      else none

/-- The microword of a micro-operation that sequencer `n`'s engine executes now (R141, R175, R180), with the burst, the engine after
the charge of one microword, and the fields of the word. -/
def dueUop (s : State) (n op : Nat) : Option (Nat × Work × Seq × Uop) :=
  let q := s.seqSt n
  match q.work with
  | none => none
  | some k =>
    match s.work? k with
    | none => none
    | some w =>
      let u := decodeUop (s.microword q.upc)
      if engineReady w q = true ∧ u.uop = op then (q.charge 1024).map fun r => (k, w, { r with ucount := r.ucount + 1 }, u) else none

/-- The state in which a microword acts: one that names the event latches acts after the decision instant before the next cycle (R140,
R155). -/
def atUop (s : State) (u : Uop) (q : Seq) : State := if u.a = 0x1A ∨ u.b = 0x1A then s.pastDecision q else s

/-- The state after a microword that leaves its engine as `q` and goes on at address `a`; a site set among its operands has used up a
free value (log entry 13). -/
def afterUop (s : State) (n : Nat) (u : Uop) (q : Seq) (a : Nat) : State :=
  ((atUop s u q).useFree (if isSet u.a || isSet u.b then 1 else 0)).setSeq n { q with upc := a }

/-- The next node of a running graph, when its operation is `op`, with its order (R437). -/
def dueNode (s : State) (k op : Nat) : Option (Work × Node) :=
  match s.work? k with
  | none => none
  | some w =>
    let n := nodeOf w.data (s.graph k).outs.length
    if w.opcode = Op.graph ∧ w.stage = .running ∧ w.offline = false ∧ (s.graph k).outs.length < nodeCount w.data ∧ n.op = op then some (w, n)
    else none

/-- A record with one more in its repeat count (R569); CHECK and MARK stay. -/
def countedUp (r : List Word) : List Word := r.set 7 (BitVec.ofNat 32 (recRepeat r + 1 + recMark r * 2 ^ 16))

/-- What the keeper's write in progress may be: none while a torn record waits for its seal (R576); a count update works on the most
recent record, which is committed and whose count has room (R569). -/
def ledgerInv (s : State) : Prop :=
  (s.ledgTorn.isSome = true → s.ledgWrite = none) ∧
  ∀ w, s.ledgWrite = some w → w.update = true →
    s.ledgRecs.getLast? = some w.words ∧ recState w.words = 1 ∧ recRepeat w.words < 65535

end Sys2Proof
end

