-- ==== Sys2Proof/Certificates/Slice0/Obligations.lean ====
section
/-!
DEFINITION. The statements for the provers. Each says of commands of one family, or of every command, what the rules of the spec say.
-/

open Sys2Proof Sys2Proof.Machine

/-- For every command c, every rest of the queue and every state s, a step of the state whose queue is c followed by rest is exec of c on the state whose queue is rest. How commands wait and are taken is the model's own form of the block (log entry 1). -/
def Obligations.StepRunsFrontCommand : Prop :=
  ∀ (c : Instr) (rest : List Instr) (s : State), step { s with pending := c :: rest } = exec c { s with pending := rest }

/-- On an empty queue a step adds 1 to the free-running counter once the master has locked, and changes nothing else; before the lock it changes nothing. This is the model's choice (log entry 9). -/
def Obligations.IdleStepPassesOneTick : Prop :=
  ∀ s : State, s.pending = [] → step s = .next (if s.frRuns then { s with fr := s.fr + 1 } else s)

/-- A write to a BAR0 register without a rule of its own stores the bits of RW fields and of unlocked RWL fields, clears W1C bits that are written 1, and leaves every other bit, every other register, and local memory. A register has a rule of its own where writeSpecial answers. -/
def Obligations.RegisterWriteFollowsAccessCodes : Prop :=
  ∀ (off : Nat) (v : Word) (s : State) (r : Reg), s.booted = true → off % 4 = 0 → msixTable 0 off = none → msixPba 0 off = none → bar0At off = some r →
    writeSpecial (.host 0 0) r v s = none →
    ∃ t, exec (.registerWrite (.bar0 off) v) s = .next t ∧ t.mem = s.mem ∧ (∀ r', r' ≠ r → t.rd r' = s.rd r') ∧
      ∀ b, b < 32 → (t.rd r).getLsbD b =
        (let locked : Bool := match r.name.lock with | some l => (s.rd ⟨l, 0, 0⟩).getLsbD 0 | none => false
         if r.name.spec.rw.testBit b || (r.name.spec.rwl.testBit b && !locked) then v.getLsbD b
         else if r.name.spec.w1c.testBit b then (s.rd r).getLsbD b && !v.getLsbD b
         else (s.rd r).getLsbD b)

/-- A write of a register without a rule of its own takes effect under the access codes also through the BAR2 of a function that exists, and through the internal control space. A BAR0 access outside the MSI-X structures that is not an aligned 32-bit access returns all ones in every byte it covers, or is discarded if it is a write, and so does a BAR2 access that R641 does not admit. An aligned access of 8 bytes to the MSI-X table of the PF writes its two words, the lower first, or returns them, as PCIe Base 6.0 admits it. A 64-bit BAR2 write to registers without a rule of their own is carried out as two aligned 32-bit writes, the lower offset first. A read of an RC register returns its value and clears the bits it returned as 1, no other register and no memory. A read of the lowest word of a wide value without a latch, of a register without a read rule of its own, returns its value and latches the words above it, and changes nothing else. A read of TIME_NOW_0 returns it and latches, at this one instant, TIME_NOW_1 and _2, TIME_FR_0 to _2, TIME_CAL_0 and _1 and TIME_STATUS, which holds GEN; no register changes. -/
def Obligations.RegisterAccesses : Prop :=
  (∀ (fn rid off : Nat) (v : Word) (r : Reg) (s : State), s.booted = true → (s.func fn).present = true → off % 4 = 0 → bar2At fn off = some r →
    writeSpecial (.host fn rid) r v s = none → exec (.registerWrite (.bar2 fn rid off) v) s = .next (s.writePlain r v)) ∧
  (∀ (id off : Nat) (v : Word) (r : Reg) (s : State), off % 4 = 0 → internalAt off = some r → writeSpecial (.internal id) r v s = none →
    exec (.registerWrite (.internal id off) v) s = .next (s.writePlain r v)) ∧
  (∀ (off n : Nat) (data : List Word) (s : State), 0 < n → ¬ (off % 4 = 0 ∧ n = 4) → msixTable 0 off = none → msixPba 0 off = none →
    exec (.unalignedAccess (.bar0 off) n (some data)) s = .next s ∧
    exec (.unalignedAccess (.bar0 off) n none) s = .next (s.answer (wordsOf (List.replicate n 0xFF#8)))) ∧
  (∀ (fn rid off n : Nat) (data : List Word) (s : State), 0 < n → ¬ (off % 4 = 0 ∧ n = 4) → wideAccess off n = false →
    exec (.unalignedAccess (.bar2 fn rid off) n (some data)) s = .next s ∧
    exec (.unalignedAccess (.bar2 fn rid off) n none) s = .next (s.answer (wordsOf (List.replicate n 0xFF#8)))) ∧
  (∀ (off o : Nat) (d0 d1 : Word) (s : State), s.booted = true → off % 8 = 0 → msixTable 0 off = some o →
    exec (.unalignedAccess (.bar0 off) 8 (some [d0, d1])) s = .next ((s.msixTableWrite 0 o d0).msixTableWrite 0 (o + 4) d1) ∧
    exec (.unalignedAccess (.bar0 off) 8 none) s = .next (s.answer [s.msixTableWord 0 o, s.msixTableWord 0 (o + 4)])) ∧
  (∀ (fn rid off : Nat) (d0 d1 : Word) (r0 r1 : Reg) (s : State), wideAccess off 8 = true → (s.func fn).present = true → s.booted = true →
    bar2At fn off = some r0 → bar2At fn (off + 4) = some r1 → (∀ u, writeSpecial (.host fn rid) r0 d0 u = none) →
    (∀ u, writeSpecial (.host fn rid) r1 d1 u = none) →
    exec (.bar2WideAccess fn rid off 8 true [d0, d1]) s = .next ((s.writePlain r0 d0).writePlain r1 d1)) ∧
  (∀ (off : Nat) (r : Reg) (s : State), off % 4 = 0 → msixTable 0 off = none → msixPba 0 off = none → bar0At off = some r → r.name.spec.rc ≠ 0 → s.booted = true →
    ∃ t, exec (.readClearRead off) s = .next t ∧ t.rdata = [s.rd r] ∧ t.rstat = .ok ∧
      t.rd r = s.rd r &&& ~~~(s.rd r &&& BitVec.ofNat 32 r.name.spec.rc) ∧ (∀ r', r' ≠ r → t.rd r' = s.rd r') ∧ t.mem = s.mem) ∧
  (∀ (off : Nat) (r : Reg) (s : State), off % 4 = 0 → msixTable 0 off = none → msixPba 0 off = none → bar0At off = some r → RegName.higher r ≠ [] → s.booted = true → Store.get? s.latch r = none →
    r.name ≠ .TIME_NOW_0 → r.name ≠ .LEDG_REC_w → r.name ≠ .ADC_RQr_0 → r.name ≠ .MBX_PORTp_DATA_w → r.name ≠ .MBX_SHn_SEND →
    r.name ≠ .MBX_SHn_RXBUF_w → r.name.spec.rc = 0 →
    exec (.wideValueRead off) s = .next ((s.answer [s.value r]).latchAll (RegName.higher r))) ∧
  (∀ s : State, s.booted = true → ∃ t, exec .timeNowRead s = .next t ∧ t.rdata = [s.value ⟨.TIME_NOW_0, 0, 0⟩] ∧ t.regs = s.regs ∧
    ∀ n, n ∈ ([.TIME_NOW_1, .TIME_NOW_2, .TIME_FR_0, .TIME_FR_1, .TIME_FR_2, .TIME_CAL_0, .TIME_CAL_1, .TIME_STATUS] : List RegName) →
      Store.get? t.latch ⟨n, 0, 0⟩ = some ((s.answer [s.value ⟨.TIME_NOW_0, 0, 0⟩]).value ⟨n, 0, 0⟩))

/-- A write of 1 to CHn_LEVEL_COMMIT with the first failing check r sets COMMIT_RESULT to r and COMMIT_REJECT and changes nothing else: the live copy, the staged registers and the front end stay. With no failing check every live register takes its staged value, COMMIT_RESULT becomes 0, HALTED clears, and only the live copy, CHn_STATUS, CHn_EVENTS and CHn_ENABLE of registers may change; local memory stays. What the checks compare with a hardware range is open (log entry 10). -/
def Obligations.LevelCommitChecksThenCopies : Prop :=
  (∀ (c r : Nat) (s : State), s.booted = true → c < 256 → s.commitResult c true = r → r ≠ 0 →
    exec (.levelCommit c) s = .next ((s.set F.CHn_STATUS_COMMIT_RESULT r c).setBit F.CHn_EVENTS_COMMIT_REJECT c)) ∧
  (∀ (c : Nat) (s : State), s.booted = true → c < 256 → s.commitResult c true = 0 →
    ∃ t, exec (.levelCommit c) s = .next t ∧ (∀ p ∈ liveRegs.zip stagedRegs, t.rd ⟨p.1, c, 0⟩ = s.rd ⟨p.2, c, 0⟩) ∧
      t.get F.CHn_STATUS_COMMIT_RESULT c = 0 ∧ t.bit F.CHn_STATUS_HALTED c = false ∧
      regsBut (liveRegs ++ [.CHn_STATUS, .CHn_EVENTS, .CHn_ENABLE]) s t ∧ memSame s t)

/-- When a channel's comparator pair comes to report an outcome, the transitions that the change makes are stamped and go to the slots whose sources they are, and LIVE_OUTCOME takes the outcome; on a channel that no sequencer owns and whose comparators are in use, the outcome's sticky bit, if it is 0, is set and the channel's event is raised 24 ns later; the outcome INVALID is also a wrong-pass detection that names the channel (R44, R45, R47, R196, R277, R454). COMPARATOR_DISAGREEMENT is the outcome INVALID in the same way (R45). A window trip on a used Row outside P4, whatever the enables, sets SWM_TRIP, raises the channel's protection event, asks for a safety measurement of the channel, and is a DUT-overstress detection with source c (R53, R454, R521, R544). A stuck driver, while the driver is commanded to high impedance and the Row is used and powered above P3, sets DRV_STUCK and acts likewise with source 0x100 + c (R54). An over-current of a connected PMU that measures current (FVMI) sets PMU_OVER and acts likewise with source 0x200 + c (R49, R54). A clamp of a connected PMU that forces (FVMI, FIMV) sets PMU_CLAMP and raises the protection event alone (R49, R50). -/
def Obligations.ChannelEvents : Prop :=
  (∀ (c o : Nat) (s : State), c < 256 → o < 4 →
    let u := ((s.stampChange c (s.get F.CHn_STATUS_LIVE_OUTCOME c) o s.fr).srcEdges2 c (s.get F.CHn_STATUS_LIVE_OUTCOME c) o s.fr).set F.CHn_STATUS_LIVE_OUTCOME o c
    let v := if u.bit F.CHn_MODE_LIVE_CMP_USE c = true ∧ u.bit F.CHn_STATUS_OWNED c = false ∧ u.bit ⟨.CHn_CMP_MON, o, 1⟩ c = false then (u.setBit ⟨.CHn_CMP_MON, o, 1⟩ c).raise c (u.fr + 98304) else u
    exec (.comparatorOutcomeChange c o) s = .next (if o = 3 then v.detect { kind := 2, cause := 0x212, source := 0x400 + c } else v)) ∧
  (∀ (c : Nat) (s : State), c < 256 →
    let u := ((s.stampChange c (s.get F.CHn_STATUS_LIVE_OUTCOME c) 3 s.fr).srcEdges2 c (s.get F.CHn_STATUS_LIVE_OUTCOME c) 3 s.fr).set F.CHn_STATUS_LIVE_OUTCOME 3 c
    let v := if u.bit F.CHn_MODE_LIVE_CMP_USE c = true ∧ u.bit F.CHn_STATUS_OWNED c = false ∧ u.bit ⟨.CHn_CMP_MON, 3, 1⟩ c = false then (u.setBit ⟨.CHn_CMP_MON, 3, 1⟩ c).raise c (u.fr + 98304) else u
    exec (.comparatorDisagreement c) s = .next (v.detect { kind := 2, cause := 0x212, source := 0x400 + c })) ∧
  (∀ (c : Nat) (s : State), c < 256 → s.rowOff (c / 64) = false → s.get F.PWR_STATUS_STATE ≠ 4 →
    exec (.swmTrip c) s = .next ((({ s with safetyDue := s.safetyDue ++ [c] }.setBit F.CHn_EVENTS_SWM_TRIP c).raise (0x100 + c) s.fr).detect { kind := 1, cause := 0x220, source := c })) ∧
  (∀ (c : Nat) (s : State), c < 256 → s.rowOff (c / 64) = false → s.get F.PWR_STATUS_STATE < 3 → s.driverState c = 0 →
    exec (.drvStuck c) s = .next ((({ s with safetyDue := s.safetyDue ++ [c] }.setBit F.CHn_EVENTS_DRV_STUCK c).raise (0x100 + c) s.fr).detect { kind := 1, cause := 0x220, source := 0x100 + c })) ∧
  (∀ (c : Nat) (s : State), c < 256 → s.rowOff (c / 64) = false → s.get F.PWR_STATUS_STATE < 2 → s.bit F.CHn_ENABLE_PMU_EN c = true → s.get F.CHn_MODE_LIVE_PMU_MODE c = 1 →
    exec (.pmuOver c) s = .next ((({ s with safetyDue := s.safetyDue ++ [c] }.setBit F.CHn_EVENTS_PMU_OVER c).raise (0x100 + c) s.fr).detect { kind := 1, cause := 0x220, source := 0x200 + c })) ∧
  (∀ (c : Nat) (s : State), c < 256 → s.get F.PWR_STATUS_STATE < 2 → s.bit F.CHn_ENABLE_PMU_EN c = true → (s.get F.CHn_MODE_LIVE_PMU_MODE c = 1 ∨ s.get F.CHn_MODE_LIVE_PMU_MODE c = 2) →
    exec (.pmuClamp c) s = .next ((s.setBit F.CHn_EVENTS_PMU_CLAMP c).raise (0x100 + c) s.fr))

/-- The ramp of an accepted commit starts: RAMPING is 1, SETTLED 0, the safety window is the widest of the old and the new one, and a change of mode into a forcing mode sets the force DAC to zero force; where the commit changes the driver range, the driver goes to high impedance and the front end switches first (R42, R51, R59, R62). Otherwise the levels leave their present values at once, for zero current where startLeg finds a range change in FIMV (R51), else for the live targets (R58). The range switch ends 1 µs after the start of the ramp: the levels leave their previous values, VIH and VIL clamped into the limits of the new range (R42). At the end of the straight line, no earlier than its length after its start, the levels stand at their targets, RAMPING is 0, a driver that was switched drives again, and the channel settles (R42, R59). A line to zero current is followed by the line to the live targets (R51). When the channel has settled, SETTLED and RAMP_DONE are set, the new safety window is in force, a verification is pending, and the orders and converter entries that wait for the channel go on (R59, R62, R386, R512, R518). A write of CHn_ENABLE outside the safe state, on a used Row and a channel that no lane uses, is stored, unless it connects a forcing PMU beside the driver or the load: then it sets ENABLE_CONFLICT alone (R63). A write that sets an enable in the safe state or on an unused Row sets ENABLE_BLOCKED alone (R66, R591). One that sets an enable of a channel that its lane uses sets ENABLE_CONFLICT alone (R220). A write that clears all three enables is always stored. A routed LEVEL_SET is offered to the Toll (R398). Admitted, it writes its records to the staged registers of its channels; where every channel passes the checks of R56 but BUSY, it commits them all in this step and waits for them to settle (R55, R386); otherwise the first failing channel takes its result and COMMIT_REJECT, no channel commits, and the final receipt names the channel and the result (R56, R386). The order of the two switches of one commit and the detectors' conditions are the model's (log entry 37). -/
def Obligations.ChannelLevels : Prop :=
  (∀ (c : Nat) (s : State), (s.chan c).phase = .starting → (s.chan c).range ≠ (s.live c).drvRange →
    exec (.rampStart c) s = .next (((s.setBit F.CHn_STATUS_RAMPING c).clrBit F.CHn_STATUS_SETTLED c).setChan c
      { { s.chan c with frm := zeroForce (s.chan c).pmuMode (s.live c).pmuMode (s.chan c).frm, winLo := min (s.chan c).winLo (s.live c).clLo, winHi := max (s.chan c).winHi (s.live c).clHi }.switchPmu (s.live c) s.fr with phase := .switching, start := s.fr, hiZ := true })) ∧
  (∀ (c : Nat) (s : State), (s.chan c).phase = .starting → (s.chan c).range = (s.live c).drvRange →
    exec (.rampStart c) s = .next ((((s.setBit F.CHn_STATUS_RAMPING c).clrBit F.CHn_STATUS_SETTLED c).setChan c
      ({ s.chan c with frm := zeroForce (s.chan c).pmuMode (s.live c).pmuMode (s.chan c).frm, winLo := min (s.chan c).winLo (s.live c).clLo, winHi := max (s.chan c).winHi (s.live c).clHi }.switchPmu (s.live c) s.fr)).startLeg c
      (zeroForce (s.chan c).pmuMode (s.live c).pmuMode (s.chan c).frm))) ∧
  (∀ (c : Nat) (s : State), (s.chan c).phase = .switching →
    exec (.rangeSwitchDone c) s = .next (((s.advanceTo ((s.chan c).start + 4096000)).setChan c { s.chan c with range := (s.live c).drvRange }).startLeg c
      (clampDrive (s.live c).drvRange (s.chan c).frm))) ∧
  (∀ (c : Nat) (s : State), (s.chan c).phase = .ramping →
    exec (.rampEnd c) s = .next (((s.advanceTo ((s.chan c).start + (s.chan c).len.ceil.toNat)).setChan c
      { s.chan c with phase := .settling, frm := (s.chan c).target, hiZ := false }).clrBit F.CHn_STATUS_RAMPING c)) ∧
  (∀ (c : Nat) (s : State), (s.chan c).phase = .zeroing →
    exec (.rampEnd c) s = .next ((s.advanceTo ((s.chan c).start + (s.chan c).len.ceil.toNat)).startLine c (s.chan c).target)) ∧
  (∀ (c : Nat) (s : State), (s.chan c).phase = .settling →
    exec (.rampDone c) s = .next (((((s.setChan c { s.chan c with phase := .idle, winLo := (s.live c).clLo, winHi := (s.live c).clHi, verifyPending := true }).setBit
      F.CHn_STATUS_SETTLED c).setBit F.CHn_EVENTS_RAMP_DONE c).settledFor c).adcKick)) ∧
  (∀ (c : Nat) (v : Word) (s : State), s.booted = true → c < 256 → s.bit F.CHn_STATUS_SAFE c = false → s.rowOff (c / 64) = false →
    s.laneUses c = false →
    exec (.channelEnableWrite c v) s = .next
      (if forces (s.get F.CHn_MODE_LIVE_PMU_MODE c) = true ∧ v.getLsbD 2 = true ∧ (v.getLsbD 0 = true ∨ v.getLsbD 1 = true) then
        s.setBit F.CHn_EVENTS_ENABLE_CONFLICT c
      else s.wr ⟨.CHn_ENABLE, c, 0⟩ (v &&& 7#32))) ∧
  (∀ (c : Nat) (v : Word) (s : State), s.booted = true → c < 256 → (s.bit F.CHn_STATUS_SAFE c = true ∨ s.rowOff (c / 64) = true) → v &&& 7#32 ≠ 0#32 →
    exec (.channelEnableWrite c v) s = .next (s.setBit F.CHn_EVENTS_ENABLE_BLOCKED c)) ∧
  (∀ (c : Nat) (v : Word) (s : State), s.booted = true → c < 256 → s.bit F.CHn_STATUS_SAFE c = false → s.rowOff (c / 64) = false → s.laneUses c = true → v &&& 7#32 ≠ 0#32 →
    exec (.channelEnableWrite c v) s = .next (s.setBit F.CHn_EVENTS_ENABLE_CONFLICT c)) ∧
  (∀ (c : Nat) (v : Word) (s : State), s.booted = true → c < 256 → v &&& 7#32 = 0#32 →
    exec (.channelEnableWrite c v) s = .next (s.wr ⟨.CHn_ENABLE, c, 0⟩ 0#32)) ∧
  (∀ (k : Nat) (w : Work) (s : State), s.work? k = some w → w.opcode = Op.levelSet → w.stage = .routed →
    exec (.levelSet k) s = .next (s.setWork k { w with stage := .offered, key := [s.fr, 1, w.stall, k] })) ∧
  (∀ (k : Nat) (w : Work) (s : State), s.work? k = some w → w.opcode = Op.levelSet → w.stage = .window →
    (s.writeLevels w).firstReject w.lvChans = none →
    exec (.levelSet k) s = .next ((w.lvChans.foldl (fun t c => t.applyCommit c) (s.writeLevels w)).setWork k
      { w with stage := .running, left := w.lvChans, count := w.lvChans.length })) ∧
  (∀ (k c r : Nat) (w : Work) (s : State), s.work? k = some w → w.opcode = Op.levelSet → w.stage = .window →
    (s.writeLevels w).firstReject w.lvChans = some (c, r) →
    exec (.levelSet k) s = .next (((((s.writeLevels w).set F.CHn_STATUS_COMMIT_RESULT r c).setBit F.CHn_EVENTS_COMMIT_REJECT c).setWork k
      { w with result := r, failCh := c }).finalReceipt k Status.complete 0 { w with result := r, failCh := c }.detail))

/-- A commit request of a sequencer without a pending commit runs the checks on the channels that it owns: a failing check sets RESULT, FAIL_CH, FAIL_SET and REJECT and changes nothing else; otherwise RESULT is 0, PENDING is set, and the request is kept with its instant and those channels (R93, R94). A request while a commit is pending merges into it (R97). TSBANK_COMMIT_FREE does the same for the channels that no sequencer owns, in TSBANK_STATUS_FREE. When a commit takes effect, at the instant that tsEffect gives (R95), the live bank of its channels holds what their staged bank held, every other live word and every staged word stay, PENDING clears, DONE is set, the CTIME of a sequencer holds the instant, local memory stays, and each order that waits for it gets COMPLETE with the instant in device time (R92, R95, R385). A write of a staged word of a channel in a pending commit sets STAGE_BLOCKED alone; otherwise the word is stored, its reserved bits as 0 (R96, R107). A TIMING_COMMIT order makes the same request of its target and, accepted, waits for the commit (R385). Rejected for a sequencer, it completes at once with RESULT, FAIL_CH and FAIL_SET (R385, R396). A drift of Row n, or a stack n outside its temperature range, which also sets TEMP_RANGE, is a detection with cause 0x223 and source 0x620 + n or 0x624 + n; the Row is then due for a re-measurement (R35, R103, R302, R467). -/
def Obligations.TimingCommits : Prop :=
  (∀ (n r ch st : Nat) (s : State), s.booted = true → n < 32 → Store.get? s.tsPending n = none → s.timingChecks (s.owned n) n = (r, ch, st) →
    exec (.tsbankCommit n) s = .next
      (if r = 0 then
        { (s.set F.TSBANK_STATUS_n_RESULT 0 n).setBit F.TSBANK_STATUS_n_PENDING n with tsPending := Store.put s.tsPending n { accept := s.fr, chans := s.owned n, works := [] } }
      else
        (((s.set F.TSBANK_STATUS_n_RESULT r n).set F.TSBANK_STATUS_n_FAIL_CH ch n).set F.TSBANK_STATUS_n_FAIL_SET st n).setBit F.TSBANK_STATUS_n_REJECT n)) ∧
  (∀ (n : Nat) (p : TsCommit) (s : State), s.booted = true → n < 32 → Store.get? s.tsPending n = some p →
    exec (.tsbankCommit n) s = .next { s with tsPending := Store.put s.tsPending n p }) ∧
  (∀ (r ch st : Nat) (s : State), s.booted = true → Store.get? s.tsPending 32 = none → s.timingChecks s.unowned 32 = (r, ch, st) →
    exec .tsbankCommitFree s = .next
      (if r = 0 then
        { (s.set (tsStatus 32 F.TSBANK_STATUS_n_RESULT) 0).setBit (tsStatus 32 F.TSBANK_STATUS_n_PENDING) with tsPending := Store.put s.tsPending 32 { accept := s.fr, chans := s.unowned, works := [] } }
      else
        (((s.set (tsStatus 32 F.TSBANK_STATUS_n_RESULT) r).set (tsStatus 32 F.TSBANK_STATUS_n_FAIL_CH) ch).set (tsStatus 32 F.TSBANK_STATUS_n_FAIL_SET) st).setBit (tsStatus 32 F.TSBANK_STATUS_n_REJECT))) ∧
  (∀ (n : Nat) (t : Tu) (p : TsCommit) (s : State), n ≤ 32 → Store.get? s.tsPending n = some p → s.tsEffect n p = some t →
    ∃ u, exec (.timingCommitEffect n) s = .next (p.works.foldl (fun v k => v.finalReceipt k Status.complete 0 (leBytes 0 3 ++ leBytes (v.dt80 t) 10)) u) ∧
      u.fr = (if n < 32 ∧ (s.seqSt n).cycling = true then s.fr else max s.fr t) ∧ Store.get? u.tsPending n = none ∧
      u.bit (tsStatus n F.TSBANK_STATUS_n_PENDING) (tsIdx n) = false ∧ u.bit (tsStatus n F.TSBANK_STATUS_n_DONE) (tsIdx n) = true ∧ u.mem = s.mem ∧
      (n < 32 → u.rd ⟨.TSBANK_CTIME_0_n, n, 0⟩ = BitVec.ofNat 32 t) ∧
      (∀ c j, u.rd ⟨.TSBANK_STAGE, c, j⟩ = s.rd ⟨.TSBANK_STAGE, c, j⟩) ∧
      (∀ c j, c ∈ p.chans → u.rd ⟨.TSBANK_LIVE, c, j⟩ = s.rd ⟨.TSBANK_STAGE, c, j⟩) ∧
      (∀ c j, c ∉ p.chans → u.rd ⟨.TSBANK_LIVE, c, j⟩ = s.rd ⟨.TSBANK_LIVE, c, j⟩)) ∧
  (∀ (c t w : Nat) (v : Word) (s : State), s.booted = true → c < 256 → t < 32 → w < 8 →
    exec (.tsbankStageWrite c t w v) s = .next
      (match s.tsPending.find? fun p => p.2.chans.contains c with
      | some p => s.setBit (tsStatus p.1 F.TSBANK_STATUS_n_STAGE_BLOCKED) (tsIdx p.1)
      | none => s.wr ⟨.TSBANK_STAGE, c, 8 * t + w⟩ (if w = 7 then v &&& 0x1F#32 else v))) ∧
  (∀ (k : Nat) (w : Work) (s : State), s.work? k = some w → w.opcode = Op.timingCommit → w.stage = .routed →
    (s.requestTiming w.tsTarget (some k)).2 = true →
    exec (.timingCommit k) s = .next ((s.requestTiming w.tsTarget (some k)).1.modWork k fun w => { w with stage := .running })) ∧
  (∀ (k : Nat) (w : Work) (s : State), s.work? k = some w → w.opcode = Op.timingCommit → w.stage = .routed → w.tsTarget < 32 →
    (s.requestTiming w.tsTarget (some k)).2 = false →
    exec (.timingCommit k) s = .next ((s.requestTiming w.tsTarget (some k)).1.finalReceipt k Status.complete 0
      ([F.TSBANK_STATUS_n_RESULT, F.TSBANK_STATUS_n_FAIL_CH, F.TSBANK_STATUS_n_FAIL_SET].flatMap fun f => leBytes ((s.requestTiming w.tsTarget (some k)).1.get f w.tsTarget) 1))) ∧
  (∀ (stack : Bool) (n : Nat) (s : State), n < 4 →
    exec (.driftDetection stack n) s = .next ((if stack then s.setBit F.DRAM_EVENTS_TEMP_RANGE else { s with driftRows := (n :: s.driftRows).eraseDups }).detect
      { kind := 5, cause := 0x223, source := (if stack then 0x624 else 0x620) + n }))

/-- An instruction is due where dueIns gives it: its burst runs, no boundary is due, the burst is not paused, its address lies in a declared segment, its line can be read, its fields are permitted, and the instruction credit covers its cost (R110, R125, R136, R137, R141); it is then fetched and charged. VEC hands rows Z to Z + Y − 1 of segment X, of the form in MOD, to the run-ahead path as one run (R142); rows that do not end in their segment end the burst VOID with cause 0x207 (R122). REPEAT hands over row Z, Y times (R142); a row that does not end in its segment ends the burst likewise. SHIFT hands over its template row with its chain rows, Y times (R143); a template row that does not end in its segment ends the burst likewise. BRFAIL first emits the quiet cycles that cover 163,840 tu at the period in force (R150, R154); then it decides on the active sites A and the local fail set: MASK retires the failed sites, the branch is taken as brfailTaken says, CLEAR empties the fail set, and the site registers follow (R152, R153, R154). MATCH starts its first iteration of rows with no site matched (R156). At an iteration boundary it exits where its exit condition holds for the outcomes known there; otherwise it starts a further iteration while its limit is not reached; and at its limit it emits the quiet cycles after which the last outcome is known. The time-out, once every outcome is known and the exit condition does not hold, goes to the time-out index of the own segment; with MASK it instead retires the sites that have not matched and goes on (R153, R156). Which set gives the period of a quiet cycle before the first vector is the model's (log entry 12). -/
def Obligations.InstructionsThatEmitCycles : Prop :=
  (∀ (n k : Nat) (w : Work) (q : Seq) (i : Ins) (s : State), dueIns s n 0x01 = some (k, w, q, i) → s.rowsFit n w (i.mod == 1) i.z i.y = true →
    exec (.seqVec n) s = .next (s.setSeq n { q with phase := .emit, run := some { kind := .vec, seg := i.x, row := i.z, form := i.mod == 1, left := i.y } })) ∧
  (∀ (n k : Nat) (w : Work) (q : Seq) (i : Ins) (s : State), dueIns s n 0x01 = some (k, w, q, i) → s.rowsFit n w (i.mod == 1) i.z i.y = false →
    exec (.seqVec n) s = .next (s.stopBurst n k 0x207)) ∧
  (∀ (n k : Nat) (w : Work) (q : Seq) (i : Ins) (s : State), dueIns s n 0x02 = some (k, w, q, i) → s.rowsFit n w (i.mod == 1) i.z 1 = true →
    exec (.seqRepeat n) s = .next (s.setSeq n { q with phase := .emit, run := some { kind := .repeat_, seg := i.x, row := i.z, form := i.mod == 1, left := i.y } })) ∧
  (∀ (n k : Nat) (w : Work) (q : Seq) (i : Ins) (s : State), dueIns s n 0x02 = some (k, w, q, i) → s.rowsFit n w (i.mod == 1) i.z 1 = false →
    exec (.seqRepeat n) s = .next (s.stopBurst n k 0x207)) ∧
  (∀ (n k : Nat) (w : Work) (q : Seq) (i : Ins) (s : State), dueIns s n 0x0B = some (k, w, q, i) → s.rowsFit n w false (bitsOf i.z 24 24) 1 = true →
    exec (.seqShift n) s = .next (s.setSeq n { q with phase := .emit, run := some { kind := .shift, seg := i.x, row := bitsOf i.z 24 24, chainRow := bitsOf i.z 0 24, left := i.y } })) ∧
  (∀ (n k : Nat) (w : Work) (q : Seq) (i : Ins) (s : State), dueIns s n 0x0B = some (k, w, q, i) → s.rowsFit n w false (bitsOf i.z 24 24) 1 = false →
    exec (.seqShift n) s = .next (s.stopBurst n k 0x207)) ∧
  (∀ (n k : Nat) (w : Work) (q : Seq) (i : Ins) (s : State), dueIns s n 0x09 = some (k, w, q, i) → (s.seqSt n).brf = none → s.periodNow n q ≠ 0 →
    exec (.brfail n) s = .next (s.setSeq n { q with phase := .emit, run := some { kind := .quiet, left := quietCount outcomeLead (s.periodNow n q) }, brf := some { sites := i.mod % 4, invert := bitOf i.mod 2, clear := bitOf i.mod 3, seg := i.x, idx := i.y }, period := s.periodNow n q })) ∧
  (∀ (n : Nat) (b : BrFail) (s : State), (s.seqSt n).phase = .brDecide → (s.seqSt n).brf = some b →
    exec (.brfail n) s = .next ((s.setSeq n (let r := brfailTaken b.sites b.invert (s.seqSt n).active (s.seqSt n).lfail; let q := { s.seqSt n with phase := .ready, brf := none, active := r.1, retired := (s.seqSt n).retired ||| ((s.seqSt n).active &&& ~~~r.1), lfail := if b.clear then 0 else (s.seqSt n).lfail }; if r.2 then { q with nseg := b.seg, nidx := b.idx } else q)).refreshSites n)) ∧
  (∀ (n k : Nat) (w : Work) (q : Seq) (i : Ins) (s : State), dueIns s n 0x08 = some (k, w, q, i) → (s.seqSt n).mat = none → s.rowsFit n w (bitOf i.mod 2) (bitsOf i.z 0 24) (bitsOf i.z 24 13) = true →
    exec (.seqMatch n) s = .next (s.setSeq n { q with phase := .emit, run := some { kind := .match_, seg := i.x, row := bitsOf i.z 0 24, form := bitOf i.mod 2, left := bitsOf i.z 24 13 }, matched := 0, mat := some { sites := i.mod % 4, form := bitOf i.mod 2, seg := i.x, row := bitsOf i.z 0 24, rows := bitsOf i.z 24 13, limit := i.y, timeout := bitsOf i.z 40 18 }, onceRead := false })) ∧
  (∀ (n : Nat) (m : MatchSt) (s : State), (s.seqSt n).phase = .matchDecide → (s.seqSt n).mat = some m → (s.seqSt n).free = true →
    matchExit m.sites (s.seqSt n).active ((s.seqSt n).known m) = true →
    exec (.seqMatch n) s = .next (s.setSeq n { s.seqSt n with phase := .ready, mat := none, matched := (s.seqSt n).known m })) ∧
  (∀ (n : Nat) (m : MatchSt) (s : State), (s.seqSt n).phase = .matchDecide → (s.seqSt n).mat = some m → (s.seqSt n).free = true →
    matchExit m.sites (s.seqSt n).active ((s.seqSt n).known m) = false → m.iters < m.limit →
    exec (.seqMatch n) s = .next (s.setSeq n { s.seqSt n with phase := .emit, run := some { kind := .match_, seg := m.seg, row := m.row, form := m.form, left := m.rows }, matched := (s.seqSt n).known m, mat := some { m with fails := 0 }, onceRead := false })) ∧
  (∀ (n : Nat) (m : MatchSt) (s : State), (s.seqSt n).phase = .matchDecide → (s.seqSt n).mat = some m → (s.seqSt n).free = true →
    matchExit m.sites (s.seqSt n).active ((s.seqSt n).known m) = false → m.limit ≤ m.iters → 0 < (s.seqSt n).matchQuiet m →
    exec (.seqMatch n) s = .next (s.setSeq n { s.seqSt n with phase := .emit, run := some { kind := .quiet, left := (s.seqSt n).matchQuiet m }, matched := (s.seqSt n).known m, mat := some { m with quietDone := true } })) ∧
  (∀ (n : Nat) (m : MatchSt) (s : State), (s.seqSt n).phase = .matchDecide → (s.seqSt n).mat = some m → (s.seqSt n).free = true →
    matchExit m.sites (s.seqSt n).active ((s.seqSt n).known m) = false → m.limit ≤ m.iters → (s.seqSt n).matchQuiet m = 0 → m.sites ≠ 2 →
    exec (.matchTimeout n) s = .next (s.setSeq n { s.seqSt n with phase := .ready, mat := none, matched := (s.seqSt n).known m, nseg := (s.seqSt n).seg, nidx := m.timeout })) ∧
  (∀ (n : Nat) (m : MatchSt) (s : State), (s.seqSt n).phase = .matchDecide → (s.seqSt n).mat = some m → (s.seqSt n).free = true →
    matchExit m.sites (s.seqSt n).active ((s.seqSt n).known m) = false → m.limit ≤ m.iters → (s.seqSt n).matchQuiet m = 0 → m.sites = 2 →
    exec (.matchTimeout n) s = .next ((s.setSeq n { s.seqSt n with phase := .ready, mat := none, matched := (s.seqSt n).known m, active := (s.seqSt n).active &&& (s.seqSt n).known m, retired := (s.seqSt n).retired ||| ((s.seqSt n).active &&& ~~~(s.seqSt n).known m) }).refreshSites n))

/-- LOOP k m sets counter k of the current window to m. ENDLOOP k decrements counter k: if the result is not 0, control goes to index Y of the ENDLOOP's own segment; if it is 0, control falls through to the next instruction. An ENDLOOP that finds its counter at 0 is not executed, and the burst ends VOID with cause 0x202, LOOP_UNSET. Each depth has four counters. -/
def Obligations.LoopsCountDown : Prop :=
  (∀ (n k : Nat) (w : Work) (q : Seq) (i : Ins) (s : State), dueIns s n 0x03 = some (k, w, q, i) → exec (.seqLoop n) s = .next (s.setSeq n { q with wins := Store.put q.wins q.depth { q.win with c := q.win.c.set i.mod i.y } })) ∧
  (∀ (n k : Nat) (w : Work) (q : Seq) (i : Ins) (s : State), dueIns s n 0x04 = some (k, w, q, i) → q.win.c.getD i.mod 0 ≠ 0 →
    exec (.endloop n) s = .next (s.setSeq n (let p := { q with wins := Store.put q.wins q.depth { q.win with c := q.win.c.set i.mod (q.win.c.getD i.mod 0 - 1) } }; if q.win.c.getD i.mod 0 = 1 then p else { p with nseg := q.seg, nidx := i.y }))) ∧
  (∀ (n k : Nat) (w : Work) (q : Seq) (i : Ins) (s : State), dueIns s n 0x04 = some (k, w, q, i) → q.win.c.getD i.mod 0 = 0 →
    exec (.endloop n) s = .next (s.stopBurst n k 0x202)) ∧
  (∀ (n : Nat) (i : Ins), (i.op = 3 ∨ i.op = 4) → i.ok n = true → i.mod < 4)

/-- JUMP, due as dueIns says, goes to index Y of segment X (R136). CALL below the declared depth opens a free window for the next depth, with the address of the next instruction as return address, and goes to its target (R147); with no free window, and the credit for a spill, it first writes the window of the lowest resident depth to its spill slot and takes its place (R148); at the declared depth the burst ends VOID with cause 0x200. RETURN closes the window of the current depth and goes to its return address (R147); where the window below was spilled, it is filled from its slot into a free window, once its check agrees (R149); a slot that fails its check is a memory-corruption detection and ends the burst VOID with cause 0x224; at depth 0 the burst ends VOID with cause 0x201. BREVT reads its event latch as it stands at the decision instant before the next cycle: it branches where the latch is set, or clear under INVERT, and CLEAR removes what had arrived by then (R140, R155). SETTS, DIR, EDGECMP, MARK, CAPTURE_ON of a burst that declares a capture, and CAPTURE_OFF queue their action for the start of the next cycle and change nothing else (R138, R157, R158). CAPTURE_ON without a declared capture ends the burst VOID with cause 0x20D. END ends the program at the end of its last cycle, with its park mode: the closing interval begins; where a cause already stands, the burst ends VOID and parks FLOAT (R160, R161). HOLD enters its wait at the end of the last cycle, with RUN_STATE 3, its line, condition, time-out of Y ns and target; a level condition that the line meets at the entry releases it there (R159). The return address of a CALL at the last index is the model's (log entry 38). -/
def Obligations.InstructionsThatTransferControl : Prop :=
  (∀ (n k : Nat) (w : Work) (q : Seq) (i : Ins) (s : State), dueIns s n 0x07 = some (k, w, q, i) → exec (.seqJump n) s = .next (s.setSeq n { q with nseg := i.x, nidx := i.y })) ∧
  (∀ (n k sl : Nat) (w : Work) (q : Seq) (i : Ins) (s : State), dueIns s n 0x05 = some (k, w, q, i) → q.depth < q.dmax → q.freeSlot = some sl →
    exec (.seqCall n) s = .next (s.setSeq n { q with depth := q.depth + 1, wins := Store.put q.wins (q.depth + 1) { ret := retOf q.seg q.nidx, slot := some sl }, nseg := i.x, nidx := i.y })) ∧
  (∀ (n k d sl : Nat) (w : Work) (q p : Seq) (i : Ins) (s : State), dueIns s n 0x05 = some (k, w, q, i) → q.depth < q.dmax → q.freeSlot = none → q.charge 24576 = some p → q.lowestResident = some d →
    (Store.getD p.wins d {}).slot = some sl →
    exec (.seqCall n) s = .next (({ s with mem := Mem.setBytes s.mem (p.spillAt + 32 * d) (spillSlot d (Store.getD p.wins d {})) }).setSeq n
      (({ p with wins := Store.put p.wins d { Store.getD p.wins d {} with slot := none } }.openWin sl (retOf q.seg q.nidx)).goto i.x i.y))) ∧
  (∀ (n k : Nat) (w : Work) (q : Seq) (i : Ins) (s : State), dueIns s n 0x05 = some (k, w, q, i) → q.dmax ≤ q.depth →
    exec (.seqCall n) s = .next (s.stopBurst n k 0x200)) ∧
  (∀ (n k sl : Nat) (w : Work) (q : Seq) (i : Ins) (s : State), dueIns s n 0x06 = some (k, w, q, i) → q.depth ≠ 0 → (Store.getD q.wins (q.depth - 1) {}).slot = some sl →
    exec (.seqReturn n) s = .next (s.setSeq n { q with depth := q.depth - 1, wins := Store.del q.wins q.depth, nseg := retSeg q.win.ret, nidx := retIdx q.win.ret })) ∧
  (∀ (n k sl : Nat) (x : Win) (w : Work) (q b : Seq) (i : Ins) (s : State), dueIns s n 0x06 = some (k, w, q, i) → q.depth ≠ 0 → (Store.getD q.wins (q.depth - 1) {}).slot = none →
    ((q.closeWin).goto (retSeg q.win.ret) (retIdx q.win.ret)).charge 286720 = some b → s.poisoned (q.spillAt + 32 * (q.depth - 1)) 32 = false → s.spillRead q (q.depth - 1) = some x → b.freeSlot = some sl →
    exec (.seqReturn n) s = .next (s.setSeq n { b with wins := Store.put b.wins (q.depth - 1) { x with slot := some sl } })) ∧
  (∀ (n k : Nat) (w : Work) (q b : Seq) (i : Ins) (s : State), dueIns s n 0x06 = some (k, w, q, i) → q.depth ≠ 0 → (Store.getD q.wins (q.depth - 1) {}).slot = none →
    ((q.closeWin).goto (retSeg q.win.ret) (retIdx q.win.ret)).charge 286720 = some b → s.poisoned (q.spillAt + 32 * (q.depth - 1)) 32 = false → s.spillRead q (q.depth - 1) = none →
    exec (.seqReturn n) s = .next ((s.detect { kind := 6, cause := 0x224, source := 0x0703, works := [k] }).stopBurst n k 0x224)) ∧
  (∀ (n k : Nat) (w : Work) (q : Seq) (i : Ins) (s : State), dueIns s n 0x06 = some (k, w, q, i) → q.depth = 0 →
    exec (.seqReturn n) s = .next (s.stopBurst n k 0x201)) ∧
  (∀ (n k : Nat) (w : Work) (q : Seq) (i : Ins) (s : State), dueIns s n 0x0A = some (k, w, q, i) → 
    exec (.brevt n) s = .next (let p := if bitOf i.mod 3 then q.clearLatch (i.mod % 8) else q; (s.pastDecision p).setSeq n (if (q.latched (i.mod % 8) != bitOf i.mod 4) = true then { p with nseg := i.x, nidx := i.y } else p))) ∧
  (∀ (n k : Nat) (w : Work) (q : Seq) (i : Ins) (s : State), dueIns s n 0x0C = some (k, w, q, i) → exec (.setts n) s = .next (s.setSeq n { q with acts := q.acts ++ [.setts i.mod (i.x % 32) (i.x / 32)] })) ∧
  (∀ (n k : Nat) (w : Work) (q : Seq) (i : Ins) (s : State), dueIns s n 0x0D = some (k, w, q, i) → exec (.seqDir n) s = .next (s.setSeq n { q with acts := q.acts ++ [.dir i.y i.z] })) ∧
  (∀ (n k : Nat) (w : Work) (q : Seq) (i : Ins) (s : State), dueIns s n 0x0E = some (k, w, q, i) → exec (.edgecmp n) s = .next (s.setSeq n { q with acts := q.acts ++ [.edgecmp (i.mod == 1) i.y i.z] })) ∧
  (∀ (n k : Nat) (w : Work) (q : Seq) (i : Ins) (s : State), dueIns s n 0x10 = some (k, w, q, i) → exec (.seqMark n) s = .next (s.setSeq n { q with acts := q.acts ++ [.mark i.y] })) ∧
  (∀ (n k : Nat) (w : Work) (q : Seq) (i : Ins) (s : State), dueIns s n 0x11 = some (k, w, q, i) → w.hasCapture = true →
    exec (.captureOn n) s = .next (s.setSeq n { q with acts := q.acts ++ [.captureOn] })) ∧
  (∀ (n k : Nat) (w : Work) (q : Seq) (i : Ins) (s : State), dueIns s n 0x12 = some (k, w, q, i) → exec (.captureOff n) s = .next (s.setSeq n { q with acts := q.acts ++ [.captureOff] })) ∧
  (∀ (n k : Nat) (w : Work) (q : Seq) (i : Ins) (s : State), dueIns s n 0x11 = some (k, w, q, i) → w.hasCapture = false →
    exec (.captureOn n) s = .next (s.stopBurst n k 0x20D)) ∧
  (∀ (n k : Nat) (w : Work) (q : Seq) (i : Ins) (s : State), dueIns s n 0x13 = some (k, w, q, i) → 
    exec (.seqEnd n) s = .next ((s.setSeq n q).endSeq n k (if w.cause = 0 then .closing else .stopped) (i.mod == 0 || w.cause ≠ 0))) ∧
  (∀ (n k : Nat) (w : Work) (q : Seq) (i : Ins) (s : State), dueIns s n 0x0F = some (k, w, q, i) → 
    ∃ t, exec (.seqHold n) s = .next t ∧ t.mem = s.mem ∧ t.works = s.works ∧ t.get F.SEQn_STATUS_RUN_STATE n = 3 ∧ regsBut [.SEQn_STATUS] s t ∧ t.fr = max s.fr q.nextStart ∧
      t.seqSt n = { q with phase := .hold, holdSt := some { line := i.mod % 8, cond := bitsOf i.mod 3 2, entry := q.nextStart, deadline := if i.y = 0 then none else some (q.nextStart + i.y * 4096), jump := bitOf i.mod 5, target := i.z, release := if holdLevel (bitsOf i.mod 3 2) (s.crierLevelAt (i.mod % 8) q.nextStart) then some q.nextStart else none, nextBoundary := q.nextStart + 163840 } })

/-- A released hold goes on 163,840 tu after its release, at cycle 0 of a new count with full instruction credit, behind an instruction boundary (R79, R141, R159, R163); a release after the bound of the burst's duration comes too late: the burst ends VOID at the bound with cause 0x20F (R376). A hold that is not released by its time-out goes on in the same way at its target, or, where it has none, ends the burst VOID with cause 0x20E (R159); a bound of the burst's duration at or before the time-out comes first. A hold that neither a release by the bound of the duration nor an earlier time-out ends is ended there, VOID with cause 0x20F (R376). An instruction boundary is decided 81,920 tu before it: the PC registers take the instruction, the count of microwords starts anew, and without a notice or a STOP that has arrived by then the program goes on, or, where a PAUSE has arrived, pauses at the boundary with RUN_STATE 4 and PAUSED set (R140, R163, R168, R170, R180, R181); a notice that has arrived stops the burst with its cause (R181, R182); otherwise a STOP that has arrived ends the session as by END with PARK = FLOAT (R167). In a hold that is not released, each boundary samples the notices and STOP in the same way, and the next one follows 163,840 tu later (R139). A fault notice reaches the engine 81,920 tu after its latch, the bound of R182 (log entry 31); it stops a paused session at once (R168). For an admitted session, a write of PAUSE keeps the request with its instant (R163); so does one of STOP, which ends a paused session at once, with its flag in the receipt and PARK = FLOAT (R167); a write of RESUME lets a paused session go on 163,840 tu later at cycle 0 of a new count, from where it paused or from an armed redirect as Seq.resumed says, and disarms it (R165); without an admitted session each of the three sets CTRL_IGNORED alone (R162). A write of SEQn_REDIRECT_1 while the session is paused arms a redirect to the address that the two registers then hold (R164); otherwise it sets REDIRECT_IGNORED alone. -/
def Obligations.HoldsAndSessions : Prop :=
  (∀ (n k r : Nat) (w : Work) (h : HoldSt) (s : State), (s.seqSt n).work = some k → s.work? k = some w → (s.seqSt n).holdSt = some h → h.release = some r →
    w.stage = .running → beforeEnd r ((s.seqSt n).durationEnd w) = true →
    exec (.holdRelease n) s = .next (((s.advanceTo r).setSeq n { s.seqSt n with phase := .ready, holdSt := none, nextStart := r + 163840, reset := true, icredit := 4194304, bdry := true }).set F.SEQn_STATUS_RUN_STATE 2 n)) ∧
  (∀ (n k r b : Nat) (w : Work) (h : HoldSt) (s : State), (s.seqSt n).work = some k → s.work? k = some w → (s.seqSt n).holdSt = some h → h.release = some r →
    w.stage = .running → (s.seqSt n).durationEnd w = some b → b < r →
    exec (.holdRelease n) s = .next ((s.advanceTo ((s.seqSt n).first0 + w.duration)).stopBurst n k 0x20F)) ∧
  (∀ (n k d : Nat) (w : Work) (h : HoldSt) (s : State), (s.seqSt n).work = some k → s.work? k = some w → (s.seqSt n).holdSt = some h → s.holdRelease h = none → h.deadline = some d →
    w.stage = .running → ((s.seqSt n).durationEnd w).all (fun b => decide (d < b)) = true → h.jump = true →
    exec (.holdTimeout n) s = .next (((s.advanceTo d).setSeq n { s.seqSt n with phase := .ready, holdSt := none, nseg := (s.seqSt n).seg, nidx := h.target, nextStart := d + 163840, reset := true, icredit := 4194304, bdry := true }).set F.SEQn_STATUS_RUN_STATE 2 n)) ∧
  (∀ (n k d : Nat) (w : Work) (h : HoldSt) (s : State), (s.seqSt n).work = some k → s.work? k = some w → (s.seqSt n).holdSt = some h → s.holdRelease h = none → h.deadline = some d →
    w.stage = .running → ((s.seqSt n).durationEnd w).all (fun b => decide (d < b)) = true → h.jump = false →
    exec (.holdTimeout n) s = .next ((s.advanceTo d).stopBurst n k 0x20E)) ∧
  (∀ (n k b d : Nat) (w : Work) (h : HoldSt) (s : State), (s.seqSt n).work = some k → s.work? k = some w → (s.seqSt n).holdSt = some h → s.holdRelease h = none → h.deadline = some d →
    w.stage = .running → (s.seqSt n).durationEnd w = some b → b ≤ d →
    exec (.holdTimeout n) s = .next ((s.advanceTo b).stopBurst n k 0x20F)) ∧
  (∀ (n k b : Nat) (w : Work) (h : HoldSt) (s : State), (s.seqSt n).work = some k → s.work? k = some w → (s.seqSt n).holdSt = some h → h.deadline.all (fun d => decide (b ≤ d)) = true →
    (s.holdRelease h).all (fun r => decide (b < r)) = true → w.stage = .running → (s.seqSt n).durationEnd w = some b →
    exec (.holdDurationBound n) s = .next ((s.advanceTo b).stopBurst n k 0x20F)) ∧
  (∀ (n k : Nat) (w : Work) (s : State), (s.seqSt n).work = some k → s.work? k = some w → (s.seqSt n).holdSt = none → w.stage = .running → (s.seqSt n).paused = false →
    (s.seqSt n).phase ≠ .brDecide → (s.seqSt n).bdry = true → (s.seqSt n).voidedBy ((s.seqSt n).nextStart - 81920) = none → arrived (s.seqSt n).stopReq ((s.seqSt n).nextStart - 81920) = false →
    let q := { s.seqSt n with bdry := false, ucount := 0 }
    let u := ((s.advanceTo ((s.seqSt n).nextStart - 81920 + 1)).markPc n q).setSeq n q
    exec (.instructionBoundary n) s = .next (if arrived (s.seqSt n).pauseReq ((s.seqSt n).nextStart - 81920) = true then
        (((u.advanceTo (s.seqSt n).nextStart).setSeq n { q with paused := true, pauseReq := none }).set F.SEQn_STATUS_RUN_STATE 4 n).setBit F.SEQn_EVENTS_PAUSED n
      else u)) ∧
  (∀ (n k c : Nat) (w : Work) (s : State), (s.seqSt n).work = some k → s.work? k = some w → (s.seqSt n).holdSt = none → w.stage = .running → (s.seqSt n).paused = false →
    (s.seqSt n).phase ≠ .brDecide → (s.seqSt n).bdry = true → (s.seqSt n).voidedBy ((s.seqSt n).nextStart - 81920) = some c →
    let q := { s.seqSt n with bdry := false, ucount := 0 }
    exec (.instructionBoundary n) s = .next ((((s.advanceTo ((s.seqSt n).nextStart - 81920 + 1)).markPc n q).setSeq n q).stopBurst n k c)) ∧
  (∀ (n k : Nat) (w : Work) (s : State), (s.seqSt n).work = some k → s.work? k = some w → (s.seqSt n).holdSt = none → w.stage = .running → (s.seqSt n).paused = false →
    (s.seqSt n).phase ≠ .brDecide → (s.seqSt n).bdry = true → (s.seqSt n).voidedBy ((s.seqSt n).nextStart - 81920) = none → arrived (s.seqSt n).stopReq ((s.seqSt n).nextStart - 81920) = true →
    let q := { s.seqSt n with bdry := false, ucount := 0 }
    exec (.instructionBoundary n) s = .next ((((s.advanceTo ((s.seqSt n).nextStart - 81920 + 1)).markPc n q).setSeq n q).stopSession n k w)) ∧
  (∀ (n k : Nat) (w : Work) (h : HoldSt) (s : State), (s.seqSt n).work = some k → s.work? k = some w → (s.seqSt n).holdSt = some h → h.release = none → w.stage = .running → (s.seqSt n).paused = false →
    (s.seqSt n).phase ≠ .brDecide → (s.seqSt n).voidedBy (h.nextBoundary - 81920) = none →
    let u := (s.advanceTo (h.nextBoundary - 81920 + 1)).markPc n (s.seqSt n)
    exec (.instructionBoundary n) s = .next (if arrived (s.seqSt n).stopReq (h.nextBoundary - 81920) = true then u.stopSession n k w
      else u.setSeq n { s.seqSt n with holdSt := some { h with nextBoundary := h.nextBoundary + 163840 }, ucount := 0 })) ∧
  (∀ (n k c t : Nat) (w : Work) (s : State), (s.seqSt n).work = some k → s.work? k = some w → (s.seqSt n).notice = some (c, t) →
    exec (.faultNoticeArrival n) s = .next (if (s.seqSt n).paused = true then ((s.advanceTo (t + 81920)).setSeq n { s.seqSt n with notice := none, noticed := some (c, t + 81920) }).stopBurst n k c
      else (s.advanceTo (t + 81920)).setSeq n { s.seqSt n with notice := none, noticed := some (c, t + 81920) })) ∧
  (∀ (n k : Nat) (w : Work) (s : State), s.booted = true → n < 32 → s.sessionOn n = some (k, w) → (s.seqSt n).paused = false → (s.seqSt n).pauseReq = none →
    exec (.sessionPause n) s = .next (s.setSeq n { s.seqSt n with pauseReq := some s.fr })) ∧
  (∀ (n k : Nat) (w : Work) (s : State), s.booted = true → n < 32 → s.sessionOn n = some (k, w) → (s.seqSt n).paused = false → (s.seqSt n).stopReq = none →
    exec (.sessionStop n) s = .next (s.setSeq n { s.seqSt n with stopReq := some s.fr })) ∧
  (∀ (n k : Nat) (w : Work) (s : State), s.booted = true → n < 32 → s.sessionOn n = some (k, w) → (s.seqSt n).paused = true →
    exec (.sessionStop n) s = .next ((s.modWork k fun w => { w with rflags := w.rflags ||| 1 }).finishBurst n k w true)) ∧
  (∀ (n k : Nat) (w : Work) (s : State), s.booted = true → n < 32 → s.sessionOn n = some (k, w) → (s.seqSt n).paused = true →
    exec (.sessionResume n) s = .next ((((if (s.seqSt n).resumed.2 = true then s.modWork k fun w => { w with rflags := w.rflags ||| 2 } else s).setSeq n { (s.seqSt n).resumed.1 with paused := false, nextStart := s.fr + 163840, reset := true, icredit := 4194304, bdry := true }).clrBit F.SEQn_STATUS_REDIRECT_ARMED n).set F.SEQn_STATUS_RUN_STATE 2 n)) ∧
  (∀ (n : Nat) (s : State), s.booted = true → n < 32 → s.sessionOn n = none →
    exec (.sessionPause n) s = .next (s.setBit F.SEQn_EVENTS_CTRL_IGNORED n) ∧ exec (.sessionStop n) s = .next (s.setBit F.SEQn_EVENTS_CTRL_IGNORED n) ∧
    exec (.sessionResume n) s = .next (s.setBit F.SEQn_EVENTS_CTRL_IGNORED n)) ∧
  (∀ (n k : Nat) (v : Word) (w : Work) (s : State), s.booted = true → n < 32 → s.sessionOn n = some (k, w) → (s.seqSt n).paused = true →
    exec (.redirectArm n v) s = .next (((s.wr ⟨.SEQn_REDIRECT_1, n, 0⟩ (v &&& 0x17FFF#32)).setBit F.SEQn_STATUS_REDIRECT_ARMED n).setSeq n { s.seqSt n with redirect := some (F.SEQn_REDIRECT_1_SEG.get v, s.get F.SEQn_REDIRECT_0_INDEX n, F.SEQn_REDIRECT_1_BREAK.get v == 1) })) ∧
  (∀ (n k : Nat) (v : Word) (w : Work) (s : State), s.booted = true → n < 32 → s.sessionOn n = some (k, w) → (s.seqSt n).paused = false →
    exec (.redirectArm n v) s = .next (s.setBit F.SEQn_EVENTS_REDIRECT_IGNORED n))

/-- An ownership commit of a sequencer without a burst and without a pending timing commit, whose staged channels no other sequencer owns, replaces the live mask, sets OWN_RESULT 0 and OWN_DONE (R129, R130); with a burst or a pending commit it sets OWN_RESULT 1 and OWN_REJECT alone, and for another sequencer's channel OWN_RESULT 2 and OWN_REJECT alone. A write of LOCK locks a pool of at least one segment that ends within the 24,576 segments; any other pool sets POOL_INVALID alone (R128). -/
def Obligations.PoolAndOwnership : Prop :=
  (∀ (n : Nat) (s : State), s.booted = true → n < 32 → s.seqBusy n = false → Store.get? s.tsPending n = none →
    (∀ c ∈ s.mask256 .SEQn_OWN_w n, s.owner c = none ∨ s.owner c = some n) →
    exec (.ownershipCommit n) s = .next ((((s.set F.SEQn_STATUS_OWN_RESULT 0 n).wrWords .SEQn_OWN_LIVE_w n 8 (s.rdWords .SEQn_OWN_w n 8))).setBit F.SEQn_EVENTS_OWN_DONE n)) ∧
  (∀ (n : Nat) (s : State), s.booted = true → n < 32 → (s.seqBusy n = true ∨ (Store.get? s.tsPending n).isSome = true) →
    exec (.ownershipCommit n) s = .next ((s.set F.SEQn_STATUS_OWN_RESULT 1 n).setBit F.SEQn_EVENTS_OWN_REJECT n)) ∧
  (∀ (n c m : Nat) (s : State), s.booted = true → n < 32 → s.seqBusy n = false → Store.get? s.tsPending n = none → c ∈ s.mask256 .SEQn_OWN_w n → s.owner c = some m → m ≠ n →
    exec (.ownershipCommit n) s = .next ((s.set F.SEQn_STATUS_OWN_RESULT 2 n).setBit F.SEQn_EVENTS_OWN_REJECT n)) ∧
  (∀ s : State, s.booted = true → s.bit F.DRAM_SEG_CTRL_LOCK = false → s.get F.DRAM_SEG_COUNT_COUNT ≠ 0 → s.get F.DRAM_SEG_FIRST_FIRST + s.get F.DRAM_SEG_COUNT_COUNT ≤ 24576 →
    exec .poolLockWrite s = .next (s.setBit F.DRAM_SEG_CTRL_LOCK)) ∧
  (∀ s : State, s.booted = true → s.bit F.DRAM_SEG_CTRL_LOCK = false → (s.get F.DRAM_SEG_COUNT_COUNT = 0 ∨ 24576 < s.get F.DRAM_SEG_FIRST_FIRST + s.get F.DRAM_SEG_COUNT_COUNT) →
    exec .poolLockWrite s = .next (s.setBit F.DRAM_SEG_EVENTS_POOL_INVALID))

/-- A microword is due where dueUop gives it: its burst runs, no boundary is due, the watchdog has not expired, its UOP is the one named, and the credit covers one microword; it is then charged and counted (R141, R180), and the engine goes to the next address, where nextAddr gives one (R177, R178). Nothing else of the state changes but what follows. NOP writes nothing. Where there is no next address, the microword (shown for NOP) ends in a loss of control (R180). MOV writes B to A, LDI writes IMM, LDIH A shifted left by 16 with IMM below, ADD the sum, SUB the difference, ADDI the sum with the sign-extended IMM, AND, OR and XOR the bitwise result, each of these six with Z, N and C, where C is the carry of a sum, the borrow of a difference and 0 of a bitwise result; SHF writes A shifted right (IMM[6]) or left by IMM[5:0], CMP sets the flags of A − B and CMPI those of A less the sign-extended IMM and write nothing else, FIELD writes the IMM[11:6] + 1 bits of B from IMM[5:0] upward (R174, R175). That a bitwise result clears C, and what a scalar access to a site set reads and writes, are the model's choices (log entry 13). -/
def Obligations.MicrowordsThatCompute : Prop :=
  (∀ (n k a : Nat) (w : Work) (q : Seq) (u : Uop) (s : State), dueUop s n 0x00 = some (k, w, q, u) → s.nextAddr q.upc none = some a →
    exec (.uopNop n) s = .next (afterUop s n u (q) a)) ∧
  (∀ (n k : Nat) (w : Work) (q : Seq) (u : Uop) (s : State), dueUop s n 0 = some (k, w, q, u) → s.nextAddr q.upc none = none →
    exec (.uopNop n) s = .next ((((atUop s u q).useFree (if isSet u.a || isSet u.b then 1 else 0)).setSeq n q).lossOfControl n k)) ∧
  (∀ (n k a : Nat) (w : Work) (q : Seq) (u : Uop) (s : State), dueUop s n 0x01 = some (k, w, q, u) → s.nextAddr q.upc none = some a →
    exec (.uopMov n) s = .next (afterUop s n u (q.uwrite u.a (s.uread q u.b)) a)) ∧
  (∀ (n k a : Nat) (w : Work) (q : Seq) (u : Uop) (s : State), dueUop s n 0x02 = some (k, w, q, u) → s.nextAddr q.upc none = some a →
    exec (.ldi n) s = .next (afterUop s n u (q.uwrite u.a (BitVec.ofNat 64 u.imm)) a)) ∧
  (∀ (n k a : Nat) (w : Work) (q : Seq) (u : Uop) (s : State), dueUop s n 0x03 = some (k, w, q, u) → s.nextAddr q.upc none = some a →
    exec (.ldih n) s = .next (afterUop s n u (q.uwrite u.a (((s.uread q u.a) <<< 16) ||| BitVec.ofNat 64 u.imm)) a)) ∧
  (∀ (n k a : Nat) (w : Work) (q : Seq) (u : Uop) (s : State), dueUop s n 0x04 = some (k, w, q, u) → s.nextAddr q.upc none = some a →
    exec (.uopAdd n) s = .next (afterUop s n u ({ q.uwrite u.a ((s.uread q u.a) + (s.uread q u.b)) with fz := ((s.uread q u.a) + (s.uread q u.b)) == 0#64, fn := ((s.uread q u.a) + (s.uread q u.b)).getLsbD 63, fc := decide (2 ^ 64 ≤ (s.uread q u.a).toNat + (s.uread q u.b).toNat) }) a)) ∧
  (∀ (n k a : Nat) (w : Work) (q : Seq) (u : Uop) (s : State), dueUop s n 0x05 = some (k, w, q, u) → s.nextAddr q.upc none = some a →
    exec (.uopSub n) s = .next (afterUop s n u ({ q.uwrite u.a ((s.uread q u.a) - (s.uread q u.b)) with fz := ((s.uread q u.a) - (s.uread q u.b)) == 0#64, fn := ((s.uread q u.a) - (s.uread q u.b)).getLsbD 63, fc := decide ((s.uread q u.a).toNat < (s.uread q u.b).toNat) }) a)) ∧
  (∀ (n k a : Nat) (w : Work) (q : Seq) (u : Uop) (s : State), dueUop s n 0x06 = some (k, w, q, u) → s.nextAddr q.upc none = some a →
    exec (.addi n) s = .next (afterUop s n u ({ q.uwrite u.a ((s.uread q u.a) + u.simm) with fz := ((s.uread q u.a) + u.simm) == 0#64, fn := ((s.uread q u.a) + u.simm).getLsbD 63, fc := decide (2 ^ 64 ≤ (s.uread q u.a).toNat + u.simm.toNat) }) a)) ∧
  (∀ (n k a : Nat) (w : Work) (q : Seq) (u : Uop) (s : State), dueUop s n 0x07 = some (k, w, q, u) → s.nextAddr q.upc none = some a →
    exec (.uopAnd n) s = .next (afterUop s n u ({ q.uwrite u.a ((s.uread q u.a) &&& (s.uread q u.b)) with fz := ((s.uread q u.a) &&& (s.uread q u.b)) == 0#64, fn := ((s.uread q u.a) &&& (s.uread q u.b)).getLsbD 63, fc := false }) a)) ∧
  (∀ (n k a : Nat) (w : Work) (q : Seq) (u : Uop) (s : State), dueUop s n 0x08 = some (k, w, q, u) → s.nextAddr q.upc none = some a →
    exec (.uopOr n) s = .next (afterUop s n u ({ q.uwrite u.a ((s.uread q u.a) ||| (s.uread q u.b)) with fz := ((s.uread q u.a) ||| (s.uread q u.b)) == 0#64, fn := ((s.uread q u.a) ||| (s.uread q u.b)).getLsbD 63, fc := false }) a)) ∧
  (∀ (n k a : Nat) (w : Work) (q : Seq) (u : Uop) (s : State), dueUop s n 0x09 = some (k, w, q, u) → s.nextAddr q.upc none = some a →
    exec (.uopXor n) s = .next (afterUop s n u ({ q.uwrite u.a ((s.uread q u.a) ^^^ (s.uread q u.b)) with fz := ((s.uread q u.a) ^^^ (s.uread q u.b)) == 0#64, fn := ((s.uread q u.a) ^^^ (s.uread q u.b)).getLsbD 63, fc := false }) a)) ∧
  (∀ (n k a : Nat) (w : Work) (q : Seq) (u : Uop) (s : State), dueUop s n 0x0A = some (k, w, q, u) → s.nextAddr q.upc none = some a →
    exec (.uopShf n) s = .next (afterUop s n u (q.uwrite u.a (if bitOf u.imm 6 then (s.uread q u.a) >>> (u.imm % 64) else (s.uread q u.a) <<< (u.imm % 64))) a)) ∧
  (∀ (n k a : Nat) (w : Work) (q : Seq) (u : Uop) (s : State), dueUop s n 0x0B = some (k, w, q, u) → s.nextAddr q.upc none = some a →
    exec (.uopCmp n) s = .next (afterUop s n u ({ q with fz := ((s.uread q u.a) - (s.uread q u.b)) == 0#64, fn := ((s.uread q u.a) - (s.uread q u.b)).getLsbD 63, fc := decide ((s.uread q u.a).toNat < (s.uread q u.b).toNat) }) a)) ∧
  (∀ (n k a : Nat) (w : Work) (q : Seq) (u : Uop) (s : State), dueUop s n 0x0C = some (k, w, q, u) → s.nextAddr q.upc none = some a →
    exec (.cmpi n) s = .next (afterUop s n u ({ q with fz := ((s.uread q u.a) - u.simm) == 0#64, fn := ((s.uread q u.a) - u.simm).getLsbD 63, fc := decide ((s.uread q u.a).toNat < u.simm.toNat) }) a)) ∧
  (∀ (n k a : Nat) (w : Work) (q : Seq) (u : Uop) (s : State), dueUop s n 0x0D = some (k, w, q, u) → s.nextAddr q.upc none = some a →
    exec (.uopField n) s = .next (afterUop s n u (q.uwrite u.a (BitVec.ofNat 64 (bitsOf (s.uread q u.b).toNat (u.imm % 64) (bitsOf u.imm 6 6 + 1)))) a))

/-- A BR that is due goes to IMM; BRZ (Z is 1), BRNZ (Z is 0), BRN (N is 1), BRC (C is 1) and BRB (the bit of A that B numbers is 1) go there under their condition and otherwise to the next address; DISP goes to IMM plus the low six bits of A (R175, R177). TRAP enters window 7, which holds the return point, and goes to IMM; in window 7 it is a loss of control. TRAPRET leaves window 7 and goes to the return point; outside it, it is a loss of control (R145, R180). A microword with an unlisted UOP and 1,024 microwords without a boundary are losses of control: a detection of kind 7 with source 0x800 + n, and the burst stops VOID with cause 0x225 (R175, R180). A corrected fetch error is counted; an uncorrectable one is a memory-corruption detection and stops the burst VOID with cause 0x224, and in the trap handler during a spill it leaves the content of the slot open: free values (R180, R190). -/
def Obligations.MicrowordsThatBranch : Prop :=
  (∀ (n k a : Nat) (w : Work) (q : Seq) (u : Uop) (s : State), dueUop s n 0x10 = some (k, w, q, u) → s.nextAddr q.upc (some u.imm) = some a →
    exec (.uopBr n) s = .next (afterUop s n u q a)) ∧
  (∀ (n k a : Nat) (w : Work) (q : Seq) (u : Uop) (s : State), dueUop s n 0x11 = some (k, w, q, u) → s.nextAddr q.upc (if q.fz = true then some u.imm else none) = some a →
    exec (.brz n) s = .next (afterUop s n u q a)) ∧
  (∀ (n k a : Nat) (w : Work) (q : Seq) (u : Uop) (s : State), dueUop s n 0x12 = some (k, w, q, u) → s.nextAddr q.upc (if q.fz = false then some u.imm else none) = some a →
    exec (.brnz n) s = .next (afterUop s n u q a)) ∧
  (∀ (n k a : Nat) (w : Work) (q : Seq) (u : Uop) (s : State), dueUop s n 0x13 = some (k, w, q, u) → s.nextAddr q.upc (if q.fn = true then some u.imm else none) = some a →
    exec (.brn n) s = .next (afterUop s n u q a)) ∧
  (∀ (n k a : Nat) (w : Work) (q : Seq) (u : Uop) (s : State), dueUop s n 0x14 = some (k, w, q, u) → s.nextAddr q.upc (if q.fc = true then some u.imm else none) = some a →
    exec (.brc n) s = .next (afterUop s n u q a)) ∧
  (∀ (n k a : Nat) (w : Work) (q : Seq) (u : Uop) (s : State), dueUop s n 0x15 = some (k, w, q, u) → s.nextAddr q.upc (if (s.uread q u.a).getLsbD (s.uread q u.b).toNat = true then some u.imm else none) = some a →
    exec (.brb n) s = .next (afterUop s n u q a)) ∧
  (∀ (n k a : Nat) (w : Work) (q : Seq) (u : Uop) (s : State), dueUop s n 0x16 = some (k, w, q, u) → s.nextAddr q.upc (some (u.imm + (s.uread q u.a).toNat % 64)) = some a →
    exec (.disp n) s = .next (afterUop s n u q a)) ∧
  (∀ (n k a : Nat) (w : Work) (q : Seq) (u : Uop) (s : State), dueUop s n 0x30 = some (k, w, q, u) → s.nextAddr q.upc (some u.imm) = some a →
    q.trap = none →
    exec (.uopTrap n) s = .next (afterUop s n u { q with trap := some (q.upc + 1), w7 := { ret := q.upc + 1, slot := some 7 } } a)) ∧
  (∀ (n k : Nat) (w : Work) (q : Seq) (u : Uop) (s : State), dueUop s n 0x30 = some (k, w, q, u) → q.trap.isSome = true →
    exec (.uopTrap n) s = .next ((((atUop s u q).setSeq n q).lossOfControl n k).useFree (if isSet u.a || isSet u.b then 1 else 0))) ∧
  (∀ (n k a r : Nat) (w : Work) (q : Seq) (u : Uop) (s : State), dueUop s n 0x31 = some (k, w, q, u) → q.trap = some r → s.nextAddr q.upc (some r) = some a →
    exec (.trapret n) s = .next (afterUop s n u { q with trap := none } a)) ∧
  (∀ (n k : Nat) (w : Work) (q : Seq) (u : Uop) (s : State), dueUop s n 0x31 = some (k, w, q, u) → q.trap = none →
    exec (.trapret n) s = .next ((((atUop s u q).setSeq n q).lossOfControl n k).useFree (if isSet u.a || isSet u.b then 1 else 0))) ∧
  (∀ (n k : Nat) (w : Work) (s : State), (s.seqSt n).work = some k → s.work? k = some w → engineReady w (s.seqSt n) = true →
    uopListed (decodeUop (s.microword (s.seqSt n).upc)).uop = false →
    exec (.illegalUop n) s = .next ((s.detect { kind := 7, cause := 0x225, source := 0x800 + n, works := [k] }).stopBurst n k 0x225)) ∧
  (∀ (n k : Nat) (w : Work) (s : State), (s.seqSt n).work = some k → s.work? k = some w → w.stage = .running → 1024 ≤ (s.seqSt n).ucount →
    exec (.engineWatchdogExpiry n) s = .next ((s.detect { kind := 7, cause := 0x225, source := 0x800 + n, works := [k] }).stopBurst n k 0x225)) ∧
  (∀ (n : Nat) (s : State), exec (.microwordFetchError n true) s = .next (s.countUp F.BOOT_UCODE_ERR_CORRECTED)) ∧
  (∀ (n k : Nat) (w : Work) (s : State), (s.seqSt n).work = some k → s.work? k = some w → w.stage = .running → ((s.seqSt n).trap = none ∨ (s.seqSt n).spilling = none) →
    exec (.microwordFetchError n false) s = .next ((s.detect { kind := 6, cause := 0x224, source := 0x0702, works := [k] }).stopBurst n k 0x224)) ∧
  (∀ (n k d r : Nat) (w : Work) (s : State), (s.seqSt n).work = some k → s.work? k = some w → w.stage = .running → (s.seqSt n).trap = some r → (s.seqSt n).spilling = some d →
    exec (.microwordFetchError n false) s = .next (((s.openSlot (s.seqSt n) d).detect { kind := 6, cause := 0x224, source := 0x0702, works := [k] }).stopBurst n k 0x224))

/-- A DISPOP that is due, at an instruction word that can be fetched, is permitted and names only declared segments, fills IRMOD, IRX, IRY and IRZ from it, makes it the current instruction, leaves every scratch register undefined (free values), starts the count of microwords anew, and goes to IMM plus the opcode (R136, R174, R175, R180). RUN outside a MATCH and outside chain mode hands B rows from row A of segment IRX, of the form in IMM[0], to the run-ahead path as one beat, where B is 1 to 4,096, the segment is declared and the rows end in it; rows that do not end in it end the burst VOID with cause 0x207. QUIET hands over one beat of A quiet cycles at the period in force. ACT queues the action that uopAction names for the next cycle start. WPUSH opens a free window for the next depth with the address of the next instruction as return address; without a free program window, outside a trap, it is a loss of control (R180). WPOP above depth 0 closes the window of the current depth. SPILL writes the window of depth A to spill slot A, in the layout of R148, and the window is no longer resident; FILL reads it back, where its check agrees, into a free window (R149); MEMWAIT ends the wait for them. FAILRD writes LFAIL, BFAIL or MATCHED, as IMM[1:0] selects, to A. SITEOP writes to A a function of its code and the two operands that the spec leaves open. CRIER enters the wait of a HOLD on line IRMOD[2:0] under condition IRMOD[4:3] at the end of the last cycle (R159). LATCH clears event latch IMM[2:0] as it stands at the decision instant before the next cycle. VOIDB ends the burst VOID with cause IMM; ENDB ends it as END with park mode IRMOD[0] (R160). The codes of ACT and SITEOP are the model's (log entry 13). -/
def Obligations.MicrowordsOfTheProgram : Prop :=
  (∀ (n k a : Nat) (w : Work) (q q1 : Seq) (u : Uop) (s : State), dueUop s n 0x17 = some (k, w, q, u) → q.nidx < 2 ^ 18 → w.segs.contains q.nseg = true →
    s.readLines q [insAddr q.nseg q.nidx / 64] = .ok q1 → (s.insAt q.nseg q.nidx).ok (s.owned n).length = true →
    ((s.insAt q.nseg q.nidx).namesSeg = true → w.segs.contains (s.insAt q.nseg q.nidx).x = true) →
    s.nextAddr q.upc (some (u.imm + (s.insAt q.nseg q.nidx).op)) = some a →
    ∃ t, exec (.dispop n) s = .next t ∧ t.regs = s.regs ∧ t.mem = s.mem ∧ t.works = s.works ∧ (t.seqSt n).upc = a ∧ (t.seqSt n).ucount = 0 ∧
      (t.seqSt n).seg = q.nseg ∧ (t.seqSt n).idx = q.nidx ∧ (t.seqSt n).nidx = q.nidx + 1 ∧ (t.seqSt n).irMod = (s.insAt q.nseg q.nidx).mod ∧
      (t.seqSt n).irX = (s.insAt q.nseg q.nidx).x ∧ (t.seqSt n).irY = (s.insAt q.nseg q.nidx).y ∧ (t.seqSt n).irZ = (s.insAt q.nseg q.nidx).z ∧
      (t.seqSt n).t = (List.range 8).map fun j => BitVec.ofNat 64 (Config.freeValue (s.free + j))) ∧
  (∀ (n k a : Nat) (w : Work) (q : Seq) (u : Uop) (s : State), dueUop s n 0x20 = some (k, w, q, u) → s.nextAddr q.upc none = some a →
    bitOf u.imm 1 = false → q.irOp ≠ 8 → 1 ≤ (s.uread q u.b).toNat → (s.uread q u.b).toNat ≤ 4096 → w.segs.contains (q.irX % 2 ^ 15) = true →
    s.rowsFit n w (bitOf u.imm 0) (s.uread q u.a).toNat (s.uread q u.b).toNat = true →
    ∃ t, exec (.uopRun n) s = .next t ∧ t.regs = s.regs ∧ t.mem = s.mem ∧ t.works = s.works ∧
      t.seqSt n = { q with phase := .emit, run := some { kind := .vec, seg := q.irX % 2 ^ 15, row := (s.uread q u.a).toNat, form := bitOf u.imm 0, left := (s.uread q u.b).toNat, beat := (s.uread q u.b).toNat }, ucount := 0, onceRead := false, upc := a }) ∧
  (∀ (n k : Nat) (w : Work) (q : Seq) (u : Uop) (s : State), dueUop s n 0x20 = some (k, w, q, u) → bitOf u.imm 1 = false → w.segs.contains (q.irX % 2 ^ 15) = true → 1 ≤ (s.uread q u.b).toNat → (s.uread q u.b).toNat ≤ 4096 →
    s.rowsFit n w (bitOf u.imm 0) (s.uread q u.a).toNat (s.uread q u.b).toNat = false →
    exec (.uopRun n) s = .next ((((atUop s u q).setSeq n q).stopBurst n k 0x207).useFree (if isSet u.a || isSet u.b then 1 else 0))) ∧
  (∀ (n k a : Nat) (w : Work) (q : Seq) (u : Uop) (s : State), dueUop s n 0x21 = some (k, w, q, u) → s.nextAddr q.upc none = some a →
    (s.uread q u.a).toNat ≠ 0 → s.periodNow n q ≠ 0 →
    exec (.uopQuiet n) s = .next (afterUop s n u { q with phase := .emit, run := some { kind := .quiet, left := (s.uread q u.a).toNat, beat := (s.uread q u.a).toNat }, period := s.periodNow n q, ucount := 0 } a)) ∧
  (∀ (n k a : Nat) (w : Work) (q : Seq) (u : Uop) (s : State) (act : SeqAct), dueUop s n 0x22 = some (k, w, q, u) → s.nextAddr q.upc none = some a →
    uopAction q (u.imm % 8) (s.uread q u.a).toNat = some act → (act = .captureOn → w.hasCapture = true) →
    exec (.uopAct n) s = .next (afterUop s n u { q with acts := q.acts ++ [act] } a)) ∧
  (∀ (n k a sl : Nat) (w : Work) (q : Seq) (u : Uop) (s : State), dueUop s n 0x23 = some (k, w, q, u) → s.nextAddr q.upc none = some a → q.freeSlot = some sl →
    exec (.wpush n) s = .next (afterUop s n u { q with depth := q.depth + 1, wins := Store.put q.wins (q.depth + 1) { ret := retOf q.nseg q.nidx, slot := some sl } } a)) ∧
  (∀ (n k : Nat) (w : Work) (q : Seq) (u : Uop) (s : State), dueUop s n 0x23 = some (k, w, q, u) → q.freeSlot = none → q.trap = none →
    exec (.wpush n) s = .next ((((atUop s u q).setSeq n q).lossOfControl n k).useFree (if isSet u.a || isSet u.b then 1 else 0))) ∧
  (∀ (n k a : Nat) (w : Work) (q : Seq) (u : Uop) (s : State), dueUop s n 0x24 = some (k, w, q, u) → s.nextAddr q.upc none = some a →
    q.depth ≠ 0 →
    exec (.wpop n) s = .next (afterUop s n u { q with depth := q.depth - 1, wins := Store.del q.wins q.depth } a)) ∧
  (∀ (n k a : Nat) (w : Work) (q : Seq) (u : Uop) (s : State), dueUop s n 0x25 = some (k, w, q, u) → s.nextAddr q.upc none = some a →
    ∃ t, exec (.uopSpill n) s = .next t ∧ t.regs = s.regs ∧ t.works = s.works ∧
      t.mem = Mem.setBytes s.mem (q.spillAt + 32 * (s.uread q u.a).toNat) (spillSlot (s.uread q u.a).toNat (Store.getD q.wins (s.uread q u.a).toNat {})) ∧
      (Store.getD (t.seqSt n).wins (s.uread q u.a).toNat {}).slot = none ∧ (t.seqSt n).memBusy = true) ∧
  (∀ (n k a sl : Nat) (x : Win) (w : Work) (q : Seq) (u : Uop) (s : State), dueUop s n 0x26 = some (k, w, q, u) → s.nextAddr q.upc none = some a →
    s.poisoned (q.spillAt + 32 * (s.uread q u.a).toNat) 32 = false → s.spillRead q (s.uread q u.a).toNat = some x → q.freeSlot = some sl →
    exec (.uopFill n) s = .next (afterUop s n u { q with wins := Store.put q.wins (s.uread q u.a).toNat { x with slot := some sl }, memBusy := true } a)) ∧
  (∀ (n k a : Nat) (w : Work) (q : Seq) (u : Uop) (s : State), dueUop s n 0x27 = some (k, w, q, u) → s.nextAddr q.upc none = some a →
    exec (.memwait n) s = .next (afterUop s n u { q with memBusy := false, spilling := none } a)) ∧
  (∀ (n k a : Nat) (w : Work) (q : Seq) (u : Uop) (s : State), dueUop s n 0x28 = some (k, w, q, u) → s.nextAddr q.upc none = some a →
    u.imm % 4 ≠ 3 →
    ∃ t, exec (.failrd n) s = .next t ∧ t.mem = s.mem ∧ t.works = s.works ∧ regsBut [.SEQn_SITE_FAIL_w, .SEQn_SITE_ACTIVE_w] s t ∧
      t.seqSt n = { q.writeSet u.a (if u.imm % 4 = 0 then q.lfail else if u.imm % 4 = 1 then q.bfail else q.matchedNow) with upc := a }) ∧
  (∀ (n k a : Nat) (w : Work) (q : Seq) (u : Uop) (s : State), dueUop s n 0x29 = some (k, w, q, u) → s.nextAddr q.upc none = some a →
    ∃ t, exec (.siteop n) s = .next t ∧ t.mem = s.mem ∧ t.works = s.works ∧ regsBut [.SEQn_SITE_FAIL_w, .SEQn_SITE_ACTIVE_w] s t ∧
      t.seqSt n = { q.writeSet u.a (Config.siteOp (u.imm % 16) (s.readSet q u.a) (s.readSet q u.b)) with upc := a }) ∧
  (∀ (n k a : Nat) (w : Work) (q : Seq) (u : Uop) (s : State), dueUop s n 0x2A = some (k, w, q, u) → s.nextAddr q.upc none = some a →
    ∃ t, exec (.uopCrier n) s = .next t ∧ t.mem = s.mem ∧ t.works = s.works ∧ t.get F.SEQn_STATUS_RUN_STATE n = 3 ∧ regsBut [.SEQn_STATUS] s t ∧
      t.fr = max (atUop s u q).fr q.nextStart ∧ (t.seqSt n).phase = .hold ∧ (t.seqSt n).ucount = 0 ∧ (t.seqSt n).upc = a ∧
      (t.seqSt n).holdSt.map (fun h => (h.line, h.cond, h.entry)) = some (q.irMod % 8, bitsOf q.irMod 3 2, q.nextStart)) ∧
  (∀ (n k a : Nat) (w : Work) (q : Seq) (u : Uop) (s : State), u.a ≠ 0x1A → u.b ≠ 0x1A → dueUop s n 0x2B = some (k, w, q, u) → s.nextAddr q.upc none = some a →
    exec (.uopLatch n) s = .next ((((s.pastDecision q).useFree (if isSet u.a || isSet u.b then 1 else 0)).setSeq n { q.clearLatch (u.imm % 8) with upc := a }))) ∧
  (∀ (n k : Nat) (w : Work) (q : Seq) (u : Uop) (s : State), dueUop s n 0x38 = some (k, w, q, u) →
    exec (.voidb n) s = .next ((((atUop s u q).setSeq n q).stopBurst n k u.imm).useFree (if isSet u.a || isSet u.b then 1 else 0))) ∧
  (∀ (n k : Nat) (w : Work) (q : Seq) (u : Uop) (s : State), dueUop s n 0x39 = some (k, w, q, u) →
    exec (.endb n) s = .next ((((atUop s u q).setSeq n q).finishBurst n k w (!bitOf q.irMod 0)).useFree (if isSet u.a || isSet u.b then 1 else 0)))

/-- A write of LANEn_MODE while the lane is OFF that modeRejected refuses sets MODE_REJECT alone (R243); an accepted one is stored, the lane enters ACQUIRE with both locks clear, and in TRX its transmitter runs from that instant on, at high impedance in the safe state (R222, R228, R240, R243). Another mode while it is not OFF sets SETUP_BLOCKED alone. A write of OFF takes the lane to OFF with its locks and LOS clear and its transmitter stopped, or sets SETUP_BLOCKED alone where its sequencer has a burst admitted or queued (R243). In ACQUIRE without LOS a CDR lock takes the lane to HUNT, where the next bit received starts a candidate block (R222). A loss of CDR lock takes a lane in HUNT back to ACQUIRE with the event LOL, and a locked one too, counting the loss and ending a running compare LOST (R222, R235, R237); a loss of signal, with a threshold set and LOS 0, sets LOS and acts likewise with the event LOS, in a locked lane too (R225); LOS clears when the signal is back. In HUNT an invalid header moves the next candidate one bit later and starts the count of valid ones anew; a valid one counts; the 64th in a row locks the lane, with BLOCK_LOCK and the event LOCK; the descrambler is then open, and a compare reads ahead (R222, R223, R227, R233). In LOCKED the 16th invalid header among the last 64 is a loss of lock: the lane hunts again from the alignment in force, with the event LOL (R224); otherwise the block that follows is compared where the compare runs or its start condition holds, and the first such block keeps the vector in progress (R234, R237). HUNT_SLOW is set once its limit of headers was examined (R222). A block changes nothing without block lock. On a locked lane it enters the descrambler, whose result is its payload where the lane descrambles, and one that the matcher finds raises MATCH and anchors an armed compare (R227, R229, R234); without a burst on the sequencer nothing else happens, and a block to compare whose expected block may be read is judged: its header and payload under PMASK against the expected ones, with their counts, the first error, and the result at the COUNT-th block (R233, R235, R237, R238). -/
def Obligations.ProtocolLanes : Prop :=
  (∀ (k : Nat) (v : Word) (s : State), k < 64 → s.booted = true → s.get F.LANEn_MODE_MODE k = 0 → s.modeRejected k (v &&& 0x7FFF00F3#32) = true →
    exec (.laneModeEnable k v) s = .next (s.setBit F.LANEn_EVENTS_MODE_REJECT k)) ∧
  (∀ (k : Nat) (v : Word) (s : State), k < 64 → s.booted = true → s.get F.LANEn_MODE_MODE k = 0 → s.modeRejected k (v &&& 0x7FFF00F3#32) = false → F.LANEn_MODE_MODE.get (v &&& 0x7FFF00F3#32) ≠ 0 →
    let u := s.wr ⟨.LANEn_MODE, k, 0⟩ (v &&& 0x7FFF00F3#32)
    let x := if F.LANEn_MODE_MODE.get (v &&& 0x7FFF00F3#32) = 2 ∧ (u.bit F.FLT_STATUS_SAFE = true ∨ s.safeEntry.isSome = true) then { u with laneTxOff := k :: s.laneTxOff } else u
    exec (.laneModeEnable k v) s = .next ((((x.setLane k { s.lane k with txFrom := if F.LANEn_MODE_MODE.get (v &&& 0x7FFF00F3#32) = 2 then some s.fr else none }).set F.LANEn_STATUS_STATE 1 k).clrBit F.LANEn_STATUS_CDR_LOCK k).clrBit F.LANEn_STATUS_BLOCK_LOCK k)) ∧
  (∀ (k : Nat) (v : Word) (s : State), k < 64 → s.booted = true → s.get F.LANEn_MODE_MODE k ≠ 0 → F.LANEn_MODE_MODE.get (v &&& 0x7FFF00F3#32) ≠ 0 →
    exec (.laneModeEnable k v) s = .next (s.setBit F.LANEn_EVENTS_SETUP_BLOCKED k)) ∧
  (∀ (k : Nat) (s : State), k < 64 → s.booted = true → s.get F.LANEn_MODE_MODE k ≠ 0 → (s.bit F.LANEn_BIND_BOUND k = false ∨ s.seqBusy (s.get F.LANEn_BIND_SEQ k) = false) →
    ∃ t, exec (.laneModeOff k) s = .next t ∧ t.get F.LANEn_MODE_MODE k = 0 ∧ t.get F.LANEn_STATUS_STATE k = 0 ∧ t.bit F.LANEn_STATUS_CDR_LOCK k = false ∧ t.bit F.LANEn_STATUS_BLOCK_LOCK k = false ∧ t.bit F.LANEn_STATUS_LOS k = false ∧ k ∉ t.laneTxOff ∧
      t.lane k = { s.lane k with txFrom := none } ∧ regsBut [.LANEn_MODE, .LANEn_STATUS] s t ∧ t.mem = s.mem) ∧
  (∀ (k : Nat) (s : State), k < 64 → s.booted = true → s.get F.LANEn_MODE_MODE k ≠ 0 → s.bit F.LANEn_BIND_BOUND k = true → s.seqBusy (s.get F.LANEn_BIND_SEQ k) = true →
    exec (.laneModeOff k) s = .next (s.setBit F.LANEn_EVENTS_SETUP_BLOCKED k)) ∧
  (∀ (k : Nat) (s : State), k < 64 → s.laneState k = 1 → s.bit F.LANEn_STATUS_LOS k = false →
    exec (.cdrLock k) s = .next (((s.setBit F.LANEn_STATUS_CDR_LOCK k).set F.LANEn_STATUS_STATE 2 k).setLane k { s.lane k with valid := 0, examined := 0, next := 0 })) ∧
  (∀ (k : Nat) (s : State), k < 64 → s.laneState k = 2 →
    exec (.cdrLockLoss k) s = .next ((((s.set F.LANEn_STATUS_STATE 1 k).clrBit F.LANEn_STATUS_CDR_LOCK k).clrBit F.LANEn_STATUS_BLOCK_LOCK k).laneEvent k 1)) ∧
  (∀ (k : Nat) (s : State), k < 64 → s.laneState k = 3 →
    exec (.cdrLockLoss k) s = .next (((((s.lockLost k).set F.LANEn_STATUS_STATE 1 k).clrBit F.LANEn_STATUS_CDR_LOCK k).clrBit F.LANEn_STATUS_BLOCK_LOCK k).laneEvent k 1)) ∧
  (∀ (k : Nat) (s : State), k < 64 → (s.laneState k = 1 ∨ s.laneState k = 2) → s.get F.LANEn_LOS_LOS_THRESH k ≠ 0 → s.bit F.LANEn_STATUS_LOS k = false →
    exec (.losAssert k) s = .next ((((((s.setLane k { s.lane k with losSeen := true }).setBit F.LANEn_STATUS_LOS k).set F.LANEn_STATUS_STATE 1 k).clrBit F.LANEn_STATUS_CDR_LOCK k).clrBit F.LANEn_STATUS_BLOCK_LOCK k).laneEvent k 2)) ∧
  (∀ (k : Nat) (s : State), k < 64 → s.laneState k = 3 → s.get F.LANEn_LOS_LOS_THRESH k ≠ 0 → s.bit F.LANEn_STATUS_LOS k = false →
    exec (.losAssert k) s = .next (((((((s.lockLost k).setLane k { (s.lockLost k).lane k with losSeen := true }).setBit F.LANEn_STATUS_LOS k).set F.LANEn_STATUS_STATE 1 k).clrBit F.LANEn_STATUS_CDR_LOCK k).clrBit F.LANEn_STATUS_BLOCK_LOCK k).laneEvent k 2)) ∧
  (∀ (k : Nat) (s : State), k < 64 → exec (.losClear k) s = .next (s.clrBit F.LANEn_STATUS_LOS k)) ∧
  (∀ (h k : Nat) (s : State), k < 64 → s.laneState k = 2 → (h = 0 ∨ h = 3) →
    exec (.laneHeader k h) s = .next (s.setLane k { s.lane k with valid := 0, examined := (s.lane k).examined + 1, next := (s.lane k).next + s.payloadBits k + 2 + 1 })) ∧
  (∀ (h k : Nat) (s : State), k < 64 → s.laneState k = 2 → (h = 1 ∨ h = 2) → (s.lane k).valid < 63 →
    exec (.laneHeader k h) s = .next (s.setLane k { s.lane k with valid := (s.lane k).valid + 1, examined := (s.lane k).examined + 1, next := (s.lane k).next + s.payloadBits k + 2 })) ∧
  (∀ (h k : Nat) (s : State), k < 64 → s.laneState k = 2 → (h = 1 ∨ h = 2) → 63 ≤ (s.lane k).valid →
    exec (.laneHeader k h) s = .next (((((s.useFree.setLane k { s.lane k with valid := 0, window := List.replicate 64 false, descr := BitVec.ofNat 58 s.freeVal, cmpBlock := false, next := (s.lane k).next + s.payloadBits k + 2 }).set F.LANEn_STATUS_STATE 3 k).setBit F.LANEn_STATUS_BLOCK_LOCK k).laneEvent k 0).readAhead k)) ∧
  (∀ (h k : Nat) (s : State), k < 64 → s.laneState k = 3 → h < 4 → 16 ≤ (((!headerValid h) :: (s.lane k).window).take 64).countP id →
    exec (.laneHeader k h) s = .next (((((s.setLane k { s.lane k with window := ((!headerValid h) :: (s.lane k).window).take 64 }).lockLost k).clrBit F.LANEn_STATUS_BLOCK_LOCK k).enterHunt k ((s.lane k).next + s.payloadBits k + 2)).laneEvent k 1)) ∧
  (∀ (h k : Nat) (s : State), k < 64 → s.laneState k = 3 → h < 4 → (((!headerValid h) :: (s.lane k).window).take 64).countP id < 16 →
    let l := s.lane k
    let c := l.phase == .running || (l.phase == .armed && s.cmpStart k)
    exec (.laneHeader k h) s = .next ((s.setLane k { l with window := ((!headerValid h) :: l.window).take 64, cmpBlock := c, startVector := if c then some (l.startVector.getD (s.seqSt (s.get F.LANEn_BIND_SEQ k)).vecNow) else l.startVector, next := l.next + s.payloadBits k + 2 }).readAhead k)) ∧
  (∀ (k : Nat) (s : State), k < 64 → s.laneState k = 2 → s.get F.LANEn_HUNT_HUNT_LIMIT k ≠ 0 → s.get F.LANEn_HUNT_HUNT_LIMIT k * 1024 ≤ (s.lane k).examined →
    exec (.huntSlow k) s = .next ((s.setLane k { s.lane k with examined := 0, huntSlow := true }).setBit F.LANEn_EVENTS_HUNT_SLOW k)) ∧
  (∀ (k h v : Nat) (d : Bool) (s : State), s.bit F.LANEn_STATUS_BLOCK_LOCK k = false → exec (.laneBlock k h v d) s = .next s) ∧
  (∀ (k h v : Nat) (d : Bool) (s : State), k < 64 → s.bit F.LANEn_STATUS_BLOCK_LOCK k = true → (s.seqSt (s.get F.LANEn_BIND_SEQ k)).work = none →
    let n := s.payloadBits k
    let p := descramble (s.lane k).descr (v % 2 ^ n) 0 n
    let x := if s.bit F.LANEn_MODE_DESCR k then p.2 else v % 2 ^ n
    let u := if (s.setLane k { s.lane k with descr := p.1 }).matches_ k h x then (s.setLane k { s.lane k with descr := p.1 }).laneEvent k 3 else s.setLane k { s.lane k with descr := p.1 }
    exec (.laneBlock k h v d) s = .next ((u.setLane k { u.lane k with cmpBlock := false, anchored := (u.lane k).anchored || ((s.setLane k { s.lane k with descr := p.1 }).matches_ k h x && (u.lane k).phase == CmpPhase.armed) }).readAhead k)) ∧
  (∀ (h v k y : Nat) (d : Bool) (w : Work) (s : State), k < 64 → s.bit F.LANEn_STATUS_BLOCK_LOCK k = true →
    let n := s.payloadBits k
    let p := descramble (s.lane k).descr (v % 2 ^ n) 0 n
    let x := if s.bit F.LANEn_MODE_DESCR k then p.2 else v % 2 ^ n
    let u := if (s.setLane k { s.lane k with descr := p.1 }).matches_ k h x then (s.setLane k { s.lane k with descr := p.1 }).laneEvent k 3 else s.setLane k { s.lane k with descr := p.1 }
    (u.seqSt (u.get F.LANEn_BIND_SEQ k)).work = some y → u.work? y = some w → (w.stage = .running ∨ w.stage = .closing) → (u.lane k).cmpBlock = true → u.expectedBad k w (u.lane k).blocks = 0 →
    exec (.laneBlock k h v d) s = .next (((u.judgeBlock k h x y d).setLane k { (u.judgeBlock k h x y d).lane k with cmpBlock := false, anchored := ((u.judgeBlock k h x y d).lane k).anchored || ((s.setLane k { s.lane k with descr := p.1 }).matches_ k h x && ((u.judgeBlock k h x y d).lane k).phase == CmpPhase.armed) }).readAhead k))

/-- At its start instant, with every channel it owns settled and the master clock locked, an admitted burst whose window has begun takes over its sequencer: depth 0, empty fail state, full credits, the sites of R134 active, an empty line store, its entry point the address of the first instruction, an instruction boundary due; the burst runs, and RUN_STATE is 2 (R61, R134). A cycle of a run starts while the sequencer is free, the clock is locked and no timing commit is due before it; the start of a beat charges its microwords, and planCycle gives the row and its sets, or for a quiet cycle the period in force. In a burst within its declared duration, whose entry to edge-compare has a period of 1,024 tu or more, the cycle takes its period from the end of the previous one: the counter of cycles goes on, or starts anew where the period changed (R79, R101), vectors count all cycles but quiet ones, and the run goes one row on (R77, R121, R139, R142, R143, R150). Shown where no compare lane reads ahead at cycle 0; in every case the cycle runs as runCycle has it. A beat that the instruction credit does not cover stops the burst VOID with cause 0x204 (R141); a row that planCycle refuses stops it with the cause it gives (R99, R120, R123, R125, R126); a cycle that would end after the declared duration stops it with cause 0x20F (R376), and an entry to edge-compare with a shorter period with cause 0x20C (R157). Ten microseconds after the last vector a burst whose checks hold, that no detection affects and whose watch is done writes its outputs and raises its final receipt, COMPLETE where no cause stands (R34, R36, R396); a joint part sends DONE instead (R268). A difference of copy B, a BURST_FAIL bit that disagrees with FAIL_CYCLES, or an active mask that disagrees with the retirements is a detection with cause 0x210 (R202), one of a lane's compare copies likewise with that lane as source (R238), and a capture CRC that differs one with cause 0x213. A stopped burst whose watch is done writes its void outputs and raises its receipt with its cause (R36, R161). -/
def Obligations.CyclesAndBurstEnds : Prop :=
  (∀ (k : Nat) (w : Work) (s : State), s.work? k = some w → w.opcode = Op.burst → w.stage = .window → (s.seqSt w.bSeq).work = some k → s.bit F.TSBANK_REF_MASTER_LOCK = true →
    (∀ c ∈ w.burstChans, s.bit F.CHn_STATUS_SETTLED c = true) →
    ∃ t, exec (.burstStart k) s = .next t ∧ t.work? k = some { w with stage := .running } ∧ t.get F.SEQn_STATUS_RUN_STATE w.bSeq = 2 ∧ t.fr = max s.fr w.s0 ∧ (w.hasCapture = false → t.mem = s.mem) ∧
      t.seqSt w.bSeq = { work := some k, phase := .ready, bdry := true, seg := w.body 32 2 % 2 ^ 15, idx := w.body 36 4 % 2 ^ 18, nseg := w.body 32 2 % 2 ^ 15, nidx := w.body 36 4 % 2 ^ 18, dmax := w.callDepth, drive := if w.stream then BitVec.ofNat 256 (s.rdWords .SEQn_DIRINIT_w w.bSeq 8) else 0, active := s.startSites w.bSeq w, atStart := s.startSites w.bSeq w, nextStart := w.s0, spillAt := s.spillBase w.bSeq, glitchFail := (s.seqSt w.bSeq).glitchFail, pauseReq := (s.seqSt w.bSeq).pauseReq, stopReq := (s.seqSt w.bSeq).stopReq, cap := { rowBits := (s.seqSt w.bSeq).cap.rowBits, widths := (s.seqSt w.bSeq).cap.widths } }) ∧
  (∀ (q1 : Seq) (r1 : Run) (p : CyclePlan) (n k : Nat) (w : Work) (r : Run) (c : CycleIn) (s : State), (s.seqSt n).work = some k → s.work? k = some w → (s.seqSt n).run = some r → w.stage = .running → (s.seqSt n).phase = .emit →
    (s.seqSt n).free = true → s.bit F.TSBANK_REF_MASTER_LOCK = true → (∀ p, Store.get? s.tsPending n = some p → (s.seqSt n).nextStart < p.accept + commitLead) →
    s.startBeat (s.seqSt n) r = some (q1, r1) → s.planCycle n w q1 r1 = .ok p →
    (w.session = true ∨ q1.nextStart + p.period ≤ (if q1.started then q1.first0 else q1.nextStart) + w.duration) → (entersEdgecmp w q1.acts = true → 1024 ≤ p.period) → (p.q.started = true ∨ s.burstCmpLanes w = []) →
    ∃ t, exec (.cycleStart n c) s = .next t ∧ t.fr = max s.fr p.q.nextStart ∧ (t.seqSt n).nextStart = p.q.nextStart + p.period ∧ (t.seqSt n).period = p.period ∧ (t.seqSt n).started = true ∧ (t.seqSt n).acts = [] ∧
      (t.seqSt n).cycle = (if p.q.reset = true ∨ (p.q.period ≠ 0 ∧ p.period ≠ p.q.period) then 0 else (p.q.cycle + 1) % 2 ^ 48) ∧ (t.seqSt n).vectors = (if r1.kind = .quiet then p.q.vectors else p.q.vectors + 1) ∧
      (t.seqSt n).run = if r1.left ≤ 1 then none else some { r1 with left := r1.left - 1, beat := r1.beat - 1, row := if r1.kind = .vec ∨ r1.kind = .match_ then r1.row + 1 else r1.row, chainRow := if r1.kind = .shift then r1.chainRow + 1 else r1.chainRow }) ∧
  (∀ (q1 : Seq) (r1 : Run) (p : CyclePlan) (n k : Nat) (w : Work) (r : Run) (c : CycleIn) (s : State), (s.seqSt n).work = some k → s.work? k = some w → (s.seqSt n).run = some r → w.stage = .running → (s.seqSt n).phase = .emit →
    (s.seqSt n).free = true → s.bit F.TSBANK_REF_MASTER_LOCK = true → (∀ p, Store.get? s.tsPending n = some p → (s.seqSt n).nextStart < p.accept + commitLead) →
    s.startBeat (s.seqSt n) r = some (q1, r1) → s.planCycle n w q1 r1 = .ok p →
    (w.session = true ∨ q1.nextStart + p.period ≤ (if q1.started then q1.first0 else q1.nextStart) + w.duration) → (entersEdgecmp w q1.acts = true → 1024 ≤ p.period) →
    exec (.cycleStart n c) s = .next (s.runCycle n w r1 p c)) ∧
  (∀ (n k : Nat) (w : Work) (r : Run) (c : CycleIn) (s : State), (s.seqSt n).work = some k → s.work? k = some w → (s.seqSt n).run = some r → w.stage = .running → (s.seqSt n).phase = .emit →
    (s.seqSt n).free = true → s.bit F.TSBANK_REF_MASTER_LOCK = true → (∀ p, Store.get? s.tsPending n = some p → (s.seqSt n).nextStart < p.accept + commitLead) →
    s.startBeat (s.seqSt n) r = none →
    exec (.cycleStart n c) s = .next (s.stopBurst n k 0x204)) ∧
  (∀ (q1 : Seq) (r1 : Run) (e : Nat × Nat) (n k : Nat) (w : Work) (r : Run) (c : CycleIn) (s : State), (s.seqSt n).work = some k → s.work? k = some w → (s.seqSt n).run = some r → w.stage = .running → (s.seqSt n).phase = .emit →
    (s.seqSt n).free = true → s.bit F.TSBANK_REF_MASTER_LOCK = true → (∀ p, Store.get? s.tsPending n = some p → (s.seqSt n).nextStart < p.accept + commitLead) →
    s.startBeat (s.seqSt n) r = some (q1, r1) → s.planCycle n w q1 r1 = .error e →
    exec (.cycleStart n c) s = .next (s.readFailed n k e)) ∧
  (∀ (q1 : Seq) (r1 : Run) (p : CyclePlan) (n k : Nat) (w : Work) (r : Run) (c : CycleIn) (s : State), (s.seqSt n).work = some k → s.work? k = some w → (s.seqSt n).run = some r → w.stage = .running → (s.seqSt n).phase = .emit →
    (s.seqSt n).free = true → s.bit F.TSBANK_REF_MASTER_LOCK = true → (∀ p, Store.get? s.tsPending n = some p → (s.seqSt n).nextStart < p.accept + commitLead) →
    s.startBeat (s.seqSt n) r = some (q1, r1) → s.planCycle n w q1 r1 = .ok p →
    w.session = false → (if q1.started then q1.first0 else q1.nextStart) + w.duration < q1.nextStart + p.period →
    exec (.cycleStart n c) s = .next (s.stopBurst n k 0x20F)) ∧
  (∀ (q1 : Seq) (r1 : Run) (p : CyclePlan) (n k : Nat) (w : Work) (r : Run) (c : CycleIn) (s : State), (s.seqSt n).work = some k → s.work? k = some w → (s.seqSt n).run = some r → w.stage = .running → (s.seqSt n).phase = .emit →
    (s.seqSt n).free = true → s.bit F.TSBANK_REF_MASTER_LOCK = true → (∀ p, Store.get? s.tsPending n = some p → (s.seqSt n).nextStart < p.accept + commitLead) →
    s.startBeat (s.seqSt n) r = some (q1, r1) → s.planCycle n w q1 r1 = .ok p →
    (w.session = true ∨ q1.nextStart + p.period ≤ (if q1.started then q1.first0 else q1.nextStart) + w.duration) → entersEdgecmp w q1.acts = true → p.period < 1024 →
    exec (.cycleStart n c) s = .next (s.stopBurst n k 0x20C)) ∧
  (∀ (k : Nat) (w : Work) (s : State), s.work? k = some w → w.opcode = Op.burst → w.stage = .closing →
    let u := s.advanceTo (w.endAt + 40960000)
    (u.seqSt w.bSeq).closeOk = true → (u.detections.any fun d => u.affected d w || d.works.contains k) = false → u.watchDone k w = true → w.isJoint = false →
    ∃ t, exec (.closingIntervalEnd k 0) s = .next t ∧ t.fr = u.fr ∧ t.works = (((u.settleCompares w).closeOutputs w 1).endBurst k w).works ∧ t.mem = ((u.settleCompares w).closeOutputs w 1).mem ∧
      t.receipts = s.receipts ++ [{ work := k, status := if w.cause = 0 then 0 else 2, final := true, cause := w.cause, detail := u.burstDetail w, no := s.raiseNo }]) ∧
  (∀ (k : Nat) (w : Work) (s : State), s.work? k = some w → w.opcode = Op.burst → w.stage = .closing →
    let u := s.advanceTo (w.endAt + 40960000)
    (u.seqSt w.bSeq).closeOk = true → (u.detections.any fun d => u.affected d w || d.works.contains k) = false → u.watchDone k w = true → w.isJoint = true →
    exec (.closingIntervalEnd k 0) s = .next (((u.settleCompares w).closeOutputs w 1).sendDone k w)) ∧
  (∀ (k c : Nat) (w : Work) (s : State), s.work? k = some w → w.opcode = Op.burst → w.stage = .closing →
    let u := s.advanceTo (w.endAt + 40960000)
    (c = 1 ∨ (u.seqSt w.bSeq).closeOk = false) →
    exec (.closingIntervalEnd k c) s = .next (u.checkFailed w.bSeq 1)) ∧
  (∀ (k c : Nat) (w : Work) (s : State), s.work? k = some w → w.opcode = Op.burst → w.stage = .closing →
    let u := s.advanceTo (w.endAt + 40960000)
    (u.seqSt w.bSeq).closeOk = true → 64 ≤ c → (u.burstCmpLanes w).contains (c - 64) = true →
    exec (.closingIntervalEnd k c) s = .next (u.lanesDiffer (c - 64) k)) ∧
  (∀ (k : Nat) (w : Work) (s : State), s.work? k = some w → w.opcode = Op.burst → w.stage = .closing →
    let u := s.advanceTo (w.endAt + 40960000)
    (u.seqSt w.bSeq).closeOk = true →
    exec (.closingIntervalEnd k 2) s = .next (u.checkFailed w.bSeq 3)) ∧
  (∀ (k : Nat) (w : Work) (s : State), s.work? k = some w → w.opcode = Op.burst → w.stage = .stopped → s.watchDone k w = true →
    ∃ t, exec (.voidFinalReceipt k) s = .next t ∧ t.fr = s.fr ∧
      t.receipts = s.receipts ++ [{ work := k, status := if w.cause = 0 then 0 else 2, final := true, cause := w.cause, detail := s.burstDetail w, no := s.raiseNo }])

/-- A gate level that does not change only passes time. A change within 1 µs of the last accepted transition is refused with GATE_FAST; the accepted level stays (R290). Any other change to the level that is not the accepted one is accepted: GATE_LEVEL follows, and the event of the gate leaves 24 ns later (R290, R454). A level that differs from the accepted one is accepted 1 µs after the last accepted transition. When DUR of an armed slot elapses before its watch closes, the watch is brought up to that instant: the slot is disarmed (R289, shown for a watch of one slot to which no edge is on its way). An edge for a slot of no watch changes nothing; for one of an open watch, the next transition of the slot's source — for a TALLY_IN input the one of the command — reaches the slots that take it (R277, R279). An armed slot counts its edge and, where the hold-off and the credit of R281 allow it, stamps it: a record with the instant, source, slope and count enters the concentrator of its Row (R281 to R283, R293; shown for a watch of one slot on a TALLY_IN input). The oldest record of a Row's concentrator leaves it after its instant, for its region and the graph tap (R280, R283). At its start instant an admitted TALLY_ARM opens its watch, which then runs, and a running burst the watch it declares, at its own start instant; the RUNNING header is all the memory that changes (R285, R295). A watch of an order closes at its close instant (R285); that of a TALLY_ARM without measurements then raises its receipt with the number of records as its detail (R324, R396). A TALLY_DISARM whose stall has no open watch of the sequence number it names completes with NOT_FOUND; otherwise it closes that watch at this instant and completes (R388). The results of a closed watch are written once; a TALLY_ARM then raises its receipt, and a burst does not yet (R324, R325). -/
def Obligations.TallySlotsAndWatches : Prop :=
  (∀ (g t : Nat) (b : Bool) (s : State), g < 4 → (Store.getD s.gates g {}).level = b →
    exec (.tgateTransition g b t) s = .next (s.advanceTo t)) ∧
  (∀ (g t l : Nat) (b : Bool) (s : State), g < 4 → (Store.getD s.gates g {}).level ≠ b → (Store.getD s.gates g {}).last = some l → max s.fr t < l + 4096000 →
    ∃ u, exec (.tgateTransition g b t) s = .next u ∧ u.regs = (s.set F.TALLY_EVENTS_GATE_FAST (ofSet (g :: setBits (s.get F.TALLY_EVENTS_GATE_FAST) 4) 4)).regs ∧ u.gateLevel g = s.gateLevel g ∧
      u.gates = Store.put s.gates g { Store.getD s.gates g {} with level := b } ∧ u.events = s.events ∧ u.conc = s.conc ∧ u.mem = s.mem) ∧
  (∀ (g t : Nat) (b : Bool) (s : State), g < 4 → (Store.getD s.gates g {}).level ≠ b → (∀ l, (Store.getD s.gates g {}).last = some l → l + 4096000 ≤ max s.fr t) → s.gateLevel g = !b →
    ∃ u, exec (.tgateTransition g b t) s = .next u ∧ u.fr = max s.fr t ∧ u.gateLevel g = b ∧ Store.get? u.gates g = some { level := b, last := some (max s.fr t) } ∧
      u.events = s.events ++ [{ source := 0x408 + g, at_ := max s.fr t + 98304, rising := b, mark := 0 }] ∧ regsBut [.TALLY_STATUS, .TALLY_SLOTn_COUNT_0, .TALLY_SLOTn_COUNT_1, .TALLY_SLOTn_STATUS, .TALLY_SLOTn_EVENTS] s u ∧ u.mem = s.mem) ∧
  (∀ (g l : Nat) (b : Bool) (s : State), g < 4 → (Store.getD s.gates g {}).level = b → (Store.getD s.gates g {}).last = some l → s.gateLevel g = !b →
    ∃ u, exec (.gateSettleAccept g) s = .next u ∧ u.gateLevel g = b ∧ u.fr = max s.fr (l + 4096000) ∧ u.events = s.events ++ [{ source := 0x408 + g, at_ := l + 4096000 + 98304, rising := b, mark := 0 }] ∧
      regsBut [.TALLY_STATUS, .TALLY_SLOTn_COUNT_0, .TALLY_SLOTn_COUNT_1, .TALLY_SLOTn_STATUS, .TALLY_SLOTn_EVENTS] s u ∧ u.mem = s.mem) ∧
  (∀ (n k d : Nat) (wt : Watch) (x : TSlot) (s : State), s.watchedSlot n = some (k, wt, x) → x.disarmAt = some d → wt.endBy.any (· ≤ d) = false →
    exec (.slotDisarmTimer n) s = .next ((s.advanceTo d).catchUp k d)) ∧
  (∀ (n k d : Nat) (wt : Watch) (x : TSlot) (s : State), s.watches = [(k, wt)] → wt.isOpen = true → wt.slots = [x] → x.slot = n → x.disarmAt = some d → wt.endBy.any (· ≤ d) = false → x.armed = true → x.tie = none → s.srcEdges = [] →
    ∃ t, exec (.slotDisarmTimer n) s = .next t ∧ t.fr = max s.fr d ∧ t.bit F.TALLY_SLOTn_STATUS_ARMED n = false ∧ ((Store.getD t.watches k {}).slots.map fun y => (y.armed, y.disarmAt, y.count)) = [(false, none, x.count)] ∧ t.mem = s.mem) ∧
  (∀ (n t : Nat) (b : Bool) (s : State), s.watchedSlot n = none → exec (.slotEdge n b t) s = .next s) ∧
  (∀ (n t k : Nat) (b : Bool) (wt : Watch) (x : TSlot) (e : SrcEdge) (s : State), s.watchedSlot n = some (k, wt, x) → wt.isOpen = true →
    let u := if isTallyIn x.source then (s.advanceTo t).srcEdge x.source b (max s.fr t) else s
    u.srcEdges.find? (·.source == x.source) = some e → exec (.slotEdge n b t) s = .next (((u.advanceTo e.at_).catchUp k e.at_).takeEdge k e)) ∧
  (∀ (n k t o : Nat) (b : Bool) (wt : Watch) (x : TSlot) (s : State), s.watches = [(k, wt)] → wt.openAt = some o → o ≤ max s.fr t → wt.closed = false → wt.endBy = none → wt.limit = 0 → wt.slots = [x] → x.slot = n → isTallyIn x.source = true →
    s.srcEdges = [] → x.tie = none → s.conc = [] → x.disarmAt = none → x.armed = true → x.takes b = true → (x.decide_ (max s.fr t)).2 = true → x.disarm ≠ 2 →
    ∃ u, exec (.slotEdge n b t) s = .next u ∧ u.fr = max s.fr t ∧ u.mem = s.mem ∧
      u.conc = [{ row := n / 32, work := k, slot := n, stamp := { time := max s.fr t, source := x.source, rising := b, held := x.held, warm := s.warm, first := x.armStamps == 0, seq := (x.count + 1) % 2 ^ 64 % 2 ^ 24 } }] ∧
      ((Store.getD u.watches k {}).slots.map fun y => y.toSlotRun) = [{ (x.decide_ (max s.fr t)).1.toSlotRun with count := (x.count + 1) % 2 ^ 64, held := false, armStamps := x.armStamps + 1, stamps := x.stamps + 1 }] ∧
      (Store.getD u.watches k {}).records = wt.records + 1 ∧ regsBut [.TALLY_SLOTn_COUNT_0, .TALLY_SLOTn_COUNT_1, .TALLY_SLOTn_STATUS, .TALLY_SLOTn_EVENTS] s u) ∧
  (∀ (r : Nat) (c d : ConcRec) (s : State), s.conc.find? (·.row == r) = some c →
    let u := (s.advanceTo (c.stamp.time + 1)).catchUp c.work (c.stamp.time + 1)
    u.conc.find? (·.row == r) = some d → exec (.stampRecordWrite r) s = .next ({ u with conc := u.conc.erase d }.storeRecord d)) ∧
  (∀ (k : Nat) (w : Work) (wt : Watch) (s : State), s.work? k = some w → Store.get? s.watches k = some wt → wt.openAt = none → w.opcode = Op.tallyArm → w.stage = .window →
    ∃ t, exec (.watchOpen k) s = .next t ∧ t.fr = max s.fr w.s0 ∧ t.work? k = some { w with stage := .running } ∧ (Store.getD t.watches k {}).openAt = some w.s0 ∧
      regsBut [.TALLY_SLOTn_COUNT_0, .TALLY_SLOTn_COUNT_1, .TALLY_SLOTn_STATUS, .TALLY_SLOTn_EVENTS] s t ∧ memBut w.watchRegion 512 s t) ∧
  (∀ (k : Nat) (w : Work) (wt : Watch) (s : State), s.work? k = some w → Store.get? s.watches k = some wt → wt.openAt = none → w.opcode = Op.burst → w.stage = .running →
    ∃ t, exec (.watchOpen k) s = .next t ∧ t.fr = s.fr ∧ t.works = s.works ∧ (Store.getD t.watches k {}).openAt = some w.s0 ∧ regsBut [.TALLY_SLOTn_COUNT_0, .TALLY_SLOTn_COUNT_1, .TALLY_SLOTn_STATUS, .TALLY_SLOTn_EVENTS] s t ∧ memBut w.watchRegion 512 s t) ∧
  (∀ (k c : Nat) (w : Work) (wt : Watch) (s : State), s.work? k = some w → Store.get? s.watches k = some wt → wt.closed = false → wt.closeInstant w = some c →
    exec (.watchClose k) s = .next (((s.advanceTo c).closeWatch k w c).endWatch k w) ∧ (Store.getD ((s.advanceTo c).closeWatch k w c).watches k {}).closed = true) ∧
  (∀ (k c : Nat) (w : Work) (wt : Watch) (s : State), s.work? k = some w → Store.get? s.watches k = some wt → wt.closed = false → w.opcode = Op.tallyArm → wt.closeInstant w = some c → w.measCount = 0 →
    ∃ t, exec (.watchClose k) s = .next t ∧ t.fr = max s.fr c ∧ regsBut [.TALLY_SLOTn_COUNT_0, .TALLY_SLOTn_COUNT_1, .TALLY_SLOTn_STATUS, .TALLY_SLOTn_EVENTS] s t ∧ (Store.getD t.watches k {}).closed = true ∧ (Store.getD t.watches k {}).closeAt = some c ∧
      t.receipts = s.receipts ++ [{ work := k, status := if w.cause = 0 then 0 else 2, final := true, cause := w.cause, detail := leBytes (Store.getD t.watches k {}).records 8, no := s.raiseNo }]) ∧
  (∀ (k : Nat) (w : Work) (s : State), s.work? k = some w → w.opcode = Op.tallyDisarm → w.stage = .routed →
    let u := s.catchUpAll s.fr
    (u.works.find? fun p => p.2.opcode == Op.tallyArm && p.2.stall == w.stall && p.2.seq == w.body 32 4 && p.2.stage == .running && (Store.getD u.watches p.1 {}).openIn u.fr) = none →
    exec (.tallyDisarm k) s = .next (u.finalReceipt k 0 0 (leBytes 1 1))) ∧
  (∀ (k j : Nat) (w v : Work) (s : State), s.work? k = some w → w.opcode = Op.tallyDisarm → w.stage = .routed →
    let u := s.catchUpAll s.fr
    (u.works.find? fun p => p.2.opcode == Op.tallyArm && p.2.stall == w.stall && p.2.seq == w.body 32 4 && p.2.stage == .running && (Store.getD u.watches p.1 {}).openIn u.fr) = some (j, v) →
    exec (.tallyDisarm k) s = .next ((u.closeWatchBy j u.fr).finalReceipt k 0)) ∧
  (∀ (k : Nat) (w : Work) (wt : Watch) (s : State), s.work? k = some w → Store.get? s.watches k = some wt → wt.closed = true → wt.measured = false → w.measCount ≠ 0 → w.opcode = Op.tallyArm →
    ∃ t, exec (.measurementResults k) s = .next t ∧ (Store.getD t.watches k {}).measured = true ∧ t.fr = s.fr ∧
      t.receipts = s.receipts ++ [{ work := k, status := if w.cause = 0 then 0 else 2, final := true, cause := w.cause, detail := leBytes wt.records 8, no := s.raiseNo }] ∧
      regsBut [.TALLY_MEAS_EVENTS, .TALLY_MEAS_OVF_CNT] s t) ∧
  (∀ (k : Nat) (w : Work) (wt : Watch) (s : State), s.work? k = some w → Store.get? s.watches k = some wt → wt.closed = true → wt.measured = false → w.measCount ≠ 0 → w.opcode = Op.burst →
    ∃ t, exec (.measurementResults k) s = .next t ∧ (Store.getD t.watches k {}).measured = true ∧ t.fr = s.fr ∧ t.receipts = s.receipts ∧ t.works = s.works ∧
      regsBut [.TALLY_MEAS_EVENTS, .TALLY_MEAS_OVF_CNT] s t)

/-- A signal on OCXO_IN of a candidate sets OCXO_PRESENT and REFOUT_ON; its loss clears both (R297). A reading of the thermistor is stored in every state (R298, R307); a controller that is off takes no other notice of it. In WARMING a reading outside the band starts the time in the band anew, one inside it lengthens it, and the 12,000th in a row makes the oven READY with its event. In READY a reading beyond twice the band is OVEN_LOST and takes the controller back to WARMING; any other leaves it READY. In HOLD a reading takes it to WARMING (R299). Without a reading for 100 ms a running controller holds, with its event, and is not READY. Setting ENABLE starts the controller in WARMING with an empty integral; clearing it stops it with duty 0 and OVEN_READY clear (R299). A built-in procedure that uses the mode starts a run of its start source, stops and repeats on a Row without an open watch and without another run (R302, R304); BUSY and ROW show it. A run that has made all its repeats writes its result block; BUSY stays while another Row's run is active, and the run that ROW shows is DONE with its repeats (R303, R307). -/
def Obligations.OscillatorAndRuns : Prop :=
  (∀ s : State, exec .ocxoAppear s = .next (if s.bit F.GSL_STRAP_CANDIDATE = true then (s.setBit F.TALLY_STATUS_OCXO_PRESENT).setBit F.TALLY_STATUS_REFOUT_ON else s)) ∧
  (∀ s : State, exec .ocxoLoss s = .next ((s.clrBit F.TALLY_STATUS_OCXO_PRESENT).clrBit F.TALLY_STATUS_REFOUT_ON)) ∧
  (∀ (r : Nat) (s : State), s.get F.TALLY_OVEN_STATUS_STATE = 0 → 
    ∃ t, exec (.ovenReading r) s = .next t ∧ t.get F.TALLY_OVEN_STATUS_READING = r % 2 ^ 16 ∧ t.oven.last = s.fr ∧ t.mem = s.mem ∧ t.get F.TALLY_OVEN_STATUS_STATE = 0 ∧ regsBut [.TALLY_OVEN_STATUS] s t) ∧
  (∀ (r : Nat) (s : State), s.get F.TALLY_OVEN_STATUS_STATE = 1 → s.get F.TALLY_OVEN_BAND_BAND < (s.ovenError (r % 2 ^ 16)).natAbs →
    ∃ t, exec (.ovenReading r) s = .next t ∧ t.get F.TALLY_OVEN_STATUS_READING = r % 2 ^ 16 ∧ t.oven.last = s.fr ∧ t.mem = s.mem ∧ t.get F.TALLY_OVEN_STATUS_STATE = 1 ∧ t.oven.inBand = 0 ∧ regsBut [.TALLY_OVEN_STATUS, .TALLY_OVEN_INBAND] s t) ∧
  (∀ (r : Nat) (s : State), s.get F.TALLY_OVEN_STATUS_STATE = 1 → (s.ovenError (r % 2 ^ 16)).natAbs ≤ s.get F.TALLY_OVEN_BAND_BAND → s.oven.inBand + 1 < 12000 →
    ∃ t, exec (.ovenReading r) s = .next t ∧ t.get F.TALLY_OVEN_STATUS_READING = r % 2 ^ 16 ∧ t.oven.last = s.fr ∧ t.mem = s.mem ∧ t.get F.TALLY_OVEN_STATUS_STATE = 1 ∧ t.oven.inBand = s.oven.inBand + 1 ∧ regsBut [.TALLY_OVEN_STATUS, .TALLY_OVEN_INBAND] s t) ∧
  (∀ (r : Nat) (s : State), s.get F.TALLY_OVEN_STATUS_STATE = 1 → (s.ovenError (r % 2 ^ 16)).natAbs ≤ s.get F.TALLY_OVEN_BAND_BAND → 12000 ≤ s.oven.inBand + 1 →
    ∃ t, exec (.ovenReading r) s = .next t ∧ t.get F.TALLY_OVEN_STATUS_READING = r % 2 ^ 16 ∧ t.oven.last = s.fr ∧ t.mem = s.mem ∧ t.get F.TALLY_OVEN_STATUS_STATE = 2 ∧ t.bit F.TALLY_EVENTS_OVEN_READY_SET = true ∧ t.bit F.TALLY_STATUS_OVEN_READY = true ∧ regsBut [.TALLY_OVEN_STATUS, .TALLY_OVEN_INBAND, .TALLY_EVENTS, .TALLY_STATUS, .TALLY_SLOTn_COUNT_0, .TALLY_SLOTn_COUNT_1, .TALLY_SLOTn_STATUS, .TALLY_SLOTn_EVENTS] s t) ∧
  (∀ (r : Nat) (s : State), s.get F.TALLY_OVEN_STATUS_STATE = 2 → 2 * s.get F.TALLY_OVEN_BAND_BAND < (s.ovenError (r % 2 ^ 16)).natAbs →
    ∃ t, exec (.ovenReading r) s = .next t ∧ t.get F.TALLY_OVEN_STATUS_READING = r % 2 ^ 16 ∧ t.oven.last = s.fr ∧ t.mem = s.mem ∧ t.get F.TALLY_OVEN_STATUS_STATE = 1 ∧ t.oven.inBand = 0 ∧ t.bit F.TALLY_EVENTS_OVEN_LOST = true ∧ t.bit F.TALLY_STATUS_OVEN_READY = false ∧ regsBut [.TALLY_OVEN_STATUS, .TALLY_OVEN_INBAND, .TALLY_EVENTS, .TALLY_STATUS, .TALLY_SLOTn_COUNT_0, .TALLY_SLOTn_COUNT_1, .TALLY_SLOTn_STATUS, .TALLY_SLOTn_EVENTS] s t) ∧
  (∀ (r : Nat) (s : State), s.get F.TALLY_OVEN_STATUS_STATE = 2 → (s.ovenError (r % 2 ^ 16)).natAbs ≤ 2 * s.get F.TALLY_OVEN_BAND_BAND →
    ∃ t, exec (.ovenReading r) s = .next t ∧ t.get F.TALLY_OVEN_STATUS_READING = r % 2 ^ 16 ∧ t.oven.last = s.fr ∧ t.mem = s.mem ∧ t.get F.TALLY_OVEN_STATUS_STATE = 2 ∧ t.oven.inBand = (if (s.ovenError (r % 2 ^ 16)).natAbs ≤ s.get F.TALLY_OVEN_BAND_BAND then s.oven.inBand + 1 else s.oven.inBand) ∧ regsBut [.TALLY_OVEN_STATUS, .TALLY_OVEN_INBAND] s t) ∧
  (∀ (r : Nat) (s : State), s.get F.TALLY_OVEN_STATUS_STATE = 3 → 
    ∃ t, exec (.ovenReading r) s = .next t ∧ t.get F.TALLY_OVEN_STATUS_READING = r % 2 ^ 16 ∧ t.oven.last = s.fr ∧ t.mem = s.mem ∧ t.get F.TALLY_OVEN_STATUS_STATE = 1 ∧ t.oven.inBand = 0 ∧ regsBut [.TALLY_OVEN_STATUS, .TALLY_OVEN_INBAND] s t) ∧
  (∀ s : State, (s.get F.TALLY_OVEN_STATUS_STATE = 1 ∨ s.get F.TALLY_OVEN_STATUS_STATE = 2) →
    exec .ovenHold s = .next ((((s.set F.TALLY_OVEN_STATUS_STATE 3).setBit F.TALLY_EVENTS_OVEN_HOLD).clrBit F.TALLY_STATUS_OVEN_READY).refreshWarm)) ∧
  (∀ s : State, s.booted = true → s.bit F.TALLY_OVEN_CTRL_ENABLE = false →
    ∃ t, exec .ovenEnable s = .next t ∧ t.bit F.TALLY_OVEN_CTRL_ENABLE = true ∧ t.get F.TALLY_OVEN_STATUS_STATE = 1 ∧ t.oven = { s.oven with i := 0, inBand := 0 } ∧
      regsBut [.TALLY_OVEN_CTRL, .TALLY_OVEN_STATUS, .TALLY_OVEN_INBAND] s t ∧ t.mem = s.mem) ∧
  (∀ s : State, s.booted = true → s.bit F.TALLY_OVEN_CTRL_ENABLE = true →
    ∃ t, exec .ovenDisable s = .next t ∧ t.bit F.TALLY_OVEN_CTRL_ENABLE = false ∧ t.get F.TALLY_OVEN_STATUS_STATE = 0 ∧ t.get F.TALLY_OVEN_STATUS_DUTY = 0 ∧
      t.bit F.TALLY_STATUS_OVEN_READY = false ∧ regsBut [.TALLY_OVEN_CTRL, .TALLY_OVEN_STATUS, .TALLY_STATUS, .TALLY_SLOTn_COUNT_0, .TALLY_SLOTn_COUNT_1, .TALLY_SLOTn_STATUS, .TALLY_SLOTn_EVENTS] s t ∧ t.mem = s.mem) ∧
  (∀ (row n a : Nat) (x : SsmsStart) (l : List (Nat × Bool)) (s : State), row < 4 →
    let q : SsmsRun := { start := x, stops := l, repeats := n, addr := a }
    q.onRow row = true → s.ssmsProcedure row q = true → s.watchOnRow row = false → Store.get? s.ssms row = none →
    ∃ t, exec (.ssmsRun row { start := x, stops := l } n a) s = .next t ∧ Store.get? t.ssms row = some q ∧ t.bit F.TALLY_SSMS_STATUS_BUSY = true ∧ t.bit F.TALLY_SSMS_STATUS_DONE = false ∧
      t.get F.TALLY_SSMS_STATUS_ROW = row ∧ regsBut [.TALLY_STATUS, .TALLY_SSMS_STATUS] s t ∧ t.mem = s.mem) ∧
  (∀ (r : Nat) (q : SsmsRun) (l : List SsmsRep) (s : State), Store.get? s.ssms r = some q → l.length = q.repeats →
    ∃ t, exec (.ssmsRunDone r l) s = .next t ∧ t.mem = Mem.setBytes s.mem q.addr (ssmsBlock r q l) ∧ Store.get? t.ssms r = none ∧ t.bit F.TALLY_SSMS_STATUS_BUSY = !t.ssms.isEmpty ∧
      (s.get F.TALLY_SSMS_STATUS_ROW = r → t.bit F.TALLY_SSMS_STATUS_DONE = true ∧ t.get F.TALLY_SSMS_STATUS_REPEATS = q.repeats % 2 ^ 16) ∧
      regsBut [.TALLY_STATUS, .TALLY_SSMS_STATUS] s t)

/-- A row acts on the oldest received message of its type, and without one it changes nothing. A PROBE is answered on its port ahead of what waits, with its receive instant (R254). A PROBE_REPLY, in UP or among the first 65,536 of CAL, gives one measurement of twice the delay and twice the offset, against the oldest probe that waits for a reply (R254). Without such a probe it gives none. An ADVERT, which at a new election begins one here too, is recorded for its ring position (R247, R252); one with this device's own ID is a conflict of IDs with its event (R247). The first half of a TIME message is kept; the second gives the change of rate and offset with its hall instant, and the routes are taken anew (R487). A second half without its first is dropped. A CRIER_CFG gives a Crier configuration that waits for its effect instant, and the lines are checked with it (R262, R263). A LINK_DOWN of a ring link between other devices makes that link known as not UP (R255, R270); of any other link it changes no route. -/
def Obligations.MessagesOfAHall : Prop :=
  (∀ (a : Nat) (b : Int) (s : State), s.gslIn = [] →
    exec .probe s = .next s ∧ exec (.probeReply a) s = .next s ∧ exec (.advert a) s = .next s ∧ exec .timeMessage s = .next s ∧ exec (.crierCfg b) s = .next s ∧ exec .jointPrepare s = .next s ∧ exec .jointVote s = .next s ∧ exec .jointCommit s = .next s ∧ exec .jointAbort s = .next s ∧ exec .jointDone s = .next s ∧ exec .jointRelease s = .next s ∧ exec .voidNotice s = .next s ∧ exec .linkDown s = .next s) ∧
  (∀ (p : Nat) (m : GslMsg) (r s : State), s.takeMsg Msg.probe = some (p, m, r) → 
    exec .probe s = .next (r.setGslPort p { r.gslPort p with out := { mtype := Msg.probeReply, src := r.pos, dst := m.src, data := m.at_, arg := p } :: (r.gslPort p).out })) ∧
  (∀ (t1 t2 : Nat) (l : List Tu) (p : Nat) (m : GslMsg) (r s : State), s.takeMsg Msg.probeReply = some (p, m, r) → (r.gslPort p).probes = t1 :: l → (r.get F.GSL_PORTn_STATUS_STATE p = 3 ∨ (r.get F.GSL_PORTn_STATUS_STATE p = 2 ∧ (r.gslPort p).n < 65536)) →
    exec (.probeReply t2) s = .next (r.setGslPort p { r.gslPort p with probes := l, n := (r.gslPort p).n + 1, sumD := (r.gslPort p).sumD + ((m.at_ : Int) - t1 - m.data + 2 * signed (r.get F.GSL_PORTn_ASYM_ASYM p) 16), sumT := (r.gslPort p).sumT + (2 * ((t2 : Int) - t1) - ((m.at_ : Int) - t1 - m.data + 2 * signed (r.get F.GSL_PORTn_ASYM_ASYM p) 16)) })) ∧
  (∀ (t2 p : Nat) (m : GslMsg) (r s : State), s.takeMsg Msg.probeReply = some (p, m, r) → (r.gslPort p).probes = [] →
    exec (.probeReply t2) s = .next r) ∧
  (∀ (id p : Nat) (m : GslMsg) (r s : State), s.takeMsg Msg.advert = some (p, m, r) → 
    let u := if r.newElection m then r.startElection 1 else r
    (∀ e ∈ u.peers, e.2.id ≠ r.devId) → id ≠ r.devId →
    ∃ t, exec (.advert id) s = .next t ∧ t.peers = Store.put u.peers m.src { id := id, serial := m.data, candidate := bitOf m.arg 0, oven := bitOf m.arg 1 } ∧ t.idConflict = r.idConflict) ∧
  (∀ (p : Nat) (m : GslMsg) (r s : State), s.takeMsg Msg.advert = some (p, m, r) → 
    ∃ t, exec (.advert r.devId) s = .next t ∧ t.idConflict = true ∧ t.bit F.GSL_HALL_EVENTS_DEVID_CONFLICT = true) ∧
  (∀ (p : Nat) (m : GslMsg) (r s : State), s.takeMsg Msg.time = some (p, m, r) → m.arg = 0 →
    exec .timeMessage s = .next { r with timeHalf := some m.data }) ∧
  (∀ (lo p : Nat) (m : GslMsg) (r s : State), s.takeMsg Msg.time = some (p, m, r) → m.arg ≠ 0 → r.timeHalf = some lo →
    exec .timeMessage s = .next { r with timeHalf := none, timeNext := some { rate := signed (m.data / 2 ^ 24) 40, offset := some (signed (lo + m.data % 2 ^ 24 * 2 ^ 64) 88), first := some (m.win - 1), at_ := some ((m.win + ceilDiv r.crierNow.lat 10 + 64) * 40960) } }.rerouted) ∧
  (∀ (p : Nat) (m : GslMsg) (r s : State), s.takeMsg Msg.time = some (p, m, r) → m.arg ≠ 0 → r.timeHalf = none →
    exec .timeMessage s = .next r) ∧
  (∀ (commit : Int) (p : Nat) (m : GslMsg) (r s : State), s.takeMsg Msg.crierCfg = some (p, m, r) → 
    ∃ t, exec (.crierCfg commit) s = .next t ∧ t.crierCfg = r.crierCfg ++ [{ lat := m.data % 2 ^ 13, en := m.arg % 256, pos := (List.range 8).map fun i => bitsOf m.data (13 + 6 * i) 6, at_ := crierEffect commit }] ∧
      t.crierNow = r.crierNow ∧ regsBut [.CRIER_STATUS] r t) ∧
  (∀ (p : Nat) (m : GslMsg) (r s : State), s.takeMsg Msg.linkDown = some (p, m, r) → bitsOf m.data 6 6 = (m.data % 64 + 1) % r.ringSize → r.ownPort (m.data % 64) = none →
    exec .linkDown s = .next (r.linkFails (m.data % 64))) ∧
  (∀ (p : Nat) (m : GslMsg) (r s : State), s.takeMsg Msg.linkDown = some (p, m, r) → (bitsOf m.data 6 6 ≠ (m.data % 64 + 1) % r.ringSize ∨ (r.ownPort (m.data % 64)).isSome = true) →
    exec .linkDown s = .next r)

/-- A PREPARE without its order is held for 10 ms; one whose own order waits offers that order to the Toll (R266). At the coordinator a NO vote ends the exchange with its cause: ABORT to all, its own order REFUSED. A YES vote prepares the next participant; the last one commits all parts and admits its own, where at least 50 µs remain to the start, and ends the exchange with cause 0x132 where less remains. A vote at the expiry of the 10 ms timer or later comes too late: cause 0x133 (R266, R272). COMMIT admits a held part (R266). ABORT refuses a part that is not admitted, voids one that is with cause 0x233, and drops a PREPARE that is held without its order (R266, R268). The coordinator counts each DONE, and with the last one sends RELEASE and ends its own part with its final receipt. RELEASE ends a part that has sent DONE (R268). VOID_NOTICE makes the coordinator abort every part and void its own with cause 0x233. A part that waits 10 ms for its PREPARE is refused with cause 0x133, and a PREPARE that waits 10 ms for its order is answered NO with that cause. Ten milliseconds without COMMIT refuse a held part, and without every vote end the exchange, with cause 0x133 (R266). -/
def Obligations.JointBurstsInAHall : Prop :=
  (∀ (p : Nat) (m : GslMsg) (r s : State), s.takeMsg Msg.prepare = some (p, m, r) → r.joint m.data = none →
    exec .jointPrepare s = .next (r.setJoint m.data { prep := some m.src, timer := some (r.fr + jointTimer) })) ∧
  (∀ (p k : Nat) (m : GslMsg) (j : Joint) (w : Work) (r s : State), s.takeMsg Msg.prepare = some (p, m, r) → r.joint m.data = some j → r.jointWork j = some (k, w) → j.phase = .awaiting →
    exec .jointPrepare s = .next ((r.setJoint m.data { j with prep := some m.src, timer := none, phase := .deciding }).offer k w)) ∧
  (∀ (p k : Nat) (m : GslMsg) (j : Joint) (w : Work) (r s : State), s.takeMsg Msg.vote = some (p, m, r) → r.joint m.data = some j → r.jointWork j = some (k, w) → j.phase = .preparing → (∀ t, j.timer = some t → m.at_ < t) → m.arg ≠ 0 →
    exec .jointVote s = .next ((r.sendParts w Msg.abort m.arg).refusePart k m.arg)) ∧
  (∀ (id p k : Nat) (m : GslMsg) (j : Joint) (w : Work) (r s : State), s.takeMsg Msg.vote = some (p, m, r) → r.joint m.data = some j → r.jointWork j = some (k, w) → j.phase = .preparing → (∀ t, j.timer = some t → m.at_ < t) → m.arg = 0 → w.participants[j.prepared]? = some id →
    exec .jointVote s = .next ((r.setJoint m.data { j with prepared := j.prepared + 1 }).sendMsg Msg.prepare (r.posOf id) m.data 0)) ∧
  (∀ (p k : Nat) (m : GslMsg) (j : Joint) (w : Work) (r s : State), s.takeMsg Msg.vote = some (p, m, r) → r.joint m.data = some j → r.jointWork j = some (k, w) → j.phase = .preparing → (∀ t, j.timer = some t → m.at_ < t) → m.arg = 0 → w.participants[j.prepared]? = none → r.fr + 204800000 ≤ w.s0 →
    exec .jointVote s = .next (((r.setJoint m.data { j with phase := .admitted, timer := none }).sendParts w Msg.commit 0).admitOrder k)) ∧
  (∀ (p k : Nat) (m : GslMsg) (j : Joint) (w : Work) (r s : State), s.takeMsg Msg.vote = some (p, m, r) → r.joint m.data = some j → r.jointWork j = some (k, w) → j.phase = .preparing → (∀ t, j.timer = some t → m.at_ < t) → m.arg = 0 → w.participants[j.prepared]? = none → w.s0 < r.fr + 204800000 →
    exec .jointVote s = .next ((r.sendParts w Msg.abort 0x132).refusePart k 0x132)) ∧
  (∀ (t p k : Nat) (m : GslMsg) (j : Joint) (w : Work) (r s : State), s.takeMsg Msg.vote = some (p, m, r) → r.joint m.data = some j → r.jointWork j = some (k, w) → j.phase = .preparing → j.timer = some t → t ≤ m.at_ →
    exec .jointVote s = .next ((r.sendParts w Msg.abort 0x133).refusePart k 0x133)) ∧
  (∀ (p k : Nat) (m : GslMsg) (j : Joint) (w : Work) (r s : State), s.takeMsg Msg.commit = some (p, m, r) → r.joint m.data = some j → r.jointWork j = some (k, w) → j.phase = .held →
    exec .jointCommit s = .next ((r.setJoint m.data { j with phase := .admitted, timer := none }).admitOrder k)) ∧
  (∀ (p k : Nat) (m : GslMsg) (j : Joint) (w : Work) (r s : State), s.takeMsg Msg.abort = some (p, m, r) → r.joint m.data = some j → r.jointWork j = some (k, w) → j.phase ≠ .admitted →
    exec .jointAbort s = .next (r.refusePart k m.arg)) ∧
  (∀ (p k : Nat) (m : GslMsg) (j : Joint) (w : Work) (r s : State), s.takeMsg Msg.abort = some (p, m, r) → r.joint m.data = some j → r.jointWork j = some (k, w) → j.phase = .admitted →
    exec .jointAbort s = .next (r.jointVoid k 0x233)) ∧
  (∀ (p : Nat) (m : GslMsg) (j : Joint) (r s : State), s.takeMsg Msg.abort = some (p, m, r) → r.joint m.data = some j → r.jointWork j = none →
    exec .jointAbort s = .next (r.dropJoint m.data)) ∧
  (∀ (p k : Nat) (m : GslMsg) (j : Joint) (w : Work) (r s : State), s.takeMsg Msg.done = some (p, m, r) → r.joint m.data = some j → r.jointWork j = some (k, w) → j.phase = .admitted → m.src ∉ j.dones → (j.doneSent && decide (w.partCount ≤ j.dones.length + 2)) = false →
    exec .jointDone s = .next (r.setJoint m.data { j with dones := j.dones ++ [m.src] })) ∧
  (∀ (p k : Nat) (m : GslMsg) (j : Joint) (w : Work) (r s : State), s.takeMsg Msg.done = some (p, m, r) → r.joint m.data = some j → r.jointWork j = some (k, w) → j.phase = .admitted → m.src ∉ j.dones → j.doneSent = true → w.partCount ≤ j.dones.length + 2 →
    exec .jointDone s = .next ((((r.setJoint m.data { j with dones := j.dones ++ [m.src] }).sendParts w Msg.release 0).endBurst k w).dropJoint w.jointId)) ∧
  (∀ (p k : Nat) (m : GslMsg) (j : Joint) (w : Work) (r s : State), s.takeMsg Msg.release = some (p, m, r) → r.joint m.data = some j → r.jointWork j = some (k, w) → j.doneSent = true →
    exec .jointRelease s = .next ((r.endBurst k w).dropJoint m.data)) ∧
  (∀ (p k : Nat) (m : GslMsg) (j : Joint) (w : Work) (r s : State), s.takeMsg Msg.voidNotice = some (p, m, r) → r.joint m.data = some j → r.jointWork j = some (k, w) → 
    exec .voidNotice s = .next ((r.sendParts w Msg.abort 0x233).jointVoid k 0x233)) ∧
  (∀ (x t : Nat) (j : Joint) (s : State), s.joint x = some j → j.phase = .awaiting → j.timer = some t →
    let u := match j.prep with | some p => (s.advanceTo t).sendMsg Msg.vote p x 0x133 | none => s.advanceTo t
    exec (.jointWaitTimeout x) s = .next ((match j.work with | some k => u.refusePart k 0x133 | none => u).dropJoint x)) ∧
  (∀ (x t k : Nat) (j : Joint) (w : Work) (s : State), s.joint x = some j → s.jointWork j = some (k, w) → j.timer = some t → j.phase = .held →
    exec (.jointAdmissionTimeout x) s = .next ((s.advanceTo t).refusePart k 0x133)) ∧
  (∀ (x t k : Nat) (j : Joint) (w : Work) (s : State), s.joint x = some j → s.jointWork j = some (k, w) → j.timer = some t → j.phase = .preparing →
    exec (.jointAdmissionTimeout x) s = .next (((s.advanceTo t).sendParts w Msg.abort 0x133).refusePart k 0x133))

/-- A frame with a bad CRC or header, or on a port that is unused or OFF, is not used (R248). A good one clears LOS and starts the training of a port that is DOWN (R249); on any other port its Crier changes, where the link carries them, and its message are taken, with the hall window that its eight bits of window number name (R248, R261). A port with a role that is not OFF sends a frame each REFIN period; that changes no register but CRIER_EVENTS (R248, R249, R260). In TRAIN with nothing to send it is an empty one for the window that has closed, and in CAL every second one carries a PROBE with its send instant (R254; both shown for a port of a member without driven Crier lines). A trained link enters CAL with its neighbour's position; one that does not fit the ring sets TOPOLOGY and stays out of it (R246, R249); the hall forms once both ring links are trained (R271). After 65,536 exchanges it enters UP with LINK_UP and the mean of its delay (R254, R258). A loss on a link that is not UP shows in LOS alone. In UP it takes the port to DOWN with LINK_DOWN, and every device is told; a link of the ring is then known as not UP (R250, R270). A loss at the instant of a drift of the link counts as the loss alone (R272). The end of a 1 ms window of a link in UP starts the sums anew; a mean delay more than 4 tu from DELAY is reported with cause 0x223, sets DRIFT and takes the link to CAL, out of the routes (R258). A write of a role is blocked while a joint burst holds the link (R274). Otherwise another role takes the port to TRAIN, or to OFF where it is UNUSED, and the ring loses the link of the old one; the same role changes nothing, but starts a port that is OFF (R249, R275). REFORM while this device holds an admitted joint burst is refused with HALL_BUSY; otherwise it begins an election, unless a joint burst is admitted on another device, which a free value says (R272, R274; log entry 15); before the end of boot it is nothing. -/
def Obligations.LinksAndFrames : Prop :=
  (∀ (p f t : Nat) (s : State), (s.get F.GSL_PORTn_CFG_ROLE p = 3 ∨ s.get F.GSL_PORTn_STATUS_STATE p = 0 ∨ bitsOf f 0 2 = 0 ∨ bitsOf f 0 2 = 3 ∨ crc32c (leBytes (bitsOf f 0 248) 31) ≠ BitVec.ofNat 32 (bitsOf f 248 32)) →
    exec (.gslFrameReceive p f t) s = .next (s.advanceTo t)) ∧
  (∀ (p f t : Nat) (s : State), s.get F.GSL_PORTn_CFG_ROLE p ≠ 3 → (bitsOf f 0 2 = 1 ∨ bitsOf f 0 2 = 2) → crc32c (leBytes (bitsOf f 0 248) 31) = BitVec.ofNat 32 (bitsOf f 248 32) →
    s.get F.GSL_PORTn_STATUS_STATE p = 4 → exec (.gslFrameReceive p f t) s = .next (((s.advanceTo t).clrBit F.GSL_PORTn_STATUS_LOS p).set F.GSL_PORTn_STATUS_STATE 1 p)) ∧
  (∀ (p f t : Nat) (s : State), s.get F.GSL_PORTn_CFG_ROLE p ≠ 3 → (bitsOf f 0 2 = 1 ∨ bitsOf f 0 2 = 2) → crc32c (leBytes (bitsOf f 0 248) 31) = BitVec.ofNat 32 (bitsOf f 248 32) →
    s.get F.GSL_PORTn_STATUS_STATE p ≠ 0 → s.get F.GSL_PORTn_STATUS_STATE p ≠ 4 →
    let u := (s.advanceTo t).clrBit F.GSL_PORTn_STATUS_LOS p
    let x := u.window - (u.window - bitsOf f 240 8).fmod 256
    exec (.gslFrameReceive p f t) s = .next ((if u.carries p Msg.crierCfg = true then (u.setGslPort p { u.gslPort p with level := bitsOf f 2 8 }).takeCrier p x f else u).takeMessage p { mtype := bitsOf f 146 6, src := bitsOf f 152 6, dst := bitsOf f 158 6, data := bitsOf f 164 64, arg := bitsOf f 228 12, at_ := t, win := u.window - (u.window - bitsOf f 240 8).fmod 256 })) ∧
  (∀ (p : Nat) (s : State), s.get F.GSL_PORTn_CFG_ROLE p ≠ 3 → s.get F.GSL_PORTn_STATUS_STATE p ≠ 0 → s.bit F.TSBANK_REF_REF_PRESENT = true →
    ∃ t, exec (.gslFrameSend p) s = .next t ∧ regsBut [.CRIER_EVENTS] s t ∧ t.mem = s.mem ∧ t.works = s.works ∧ t.fr = s.fr ∧ t.gslIn = s.gslIn) ∧
  (∀ (p : Nat) (s : State), s.get F.GSL_PORTn_CFG_ROLE p ≠ 3 → s.get F.GSL_PORTn_STATUS_STATE p = 1 → s.bit F.TSBANK_REF_REF_PRESENT = true → s.crierDrv = [] → (s.gslPort p).out = [] → s.bit F.GSL_HALL_STATUS_IS_MASTER = false →
    exec (.gslFrameSend p) s = .next (s.setGslPort p { s.gslPort p with sent := (frameBits false 0 (s.window - 1) [] { mtype := 0, src := s.pos, dst := 0 }) })) ∧
  (∀ (p : Nat) (s : State), s.get F.GSL_PORTn_CFG_ROLE p ≠ 3 → s.get F.GSL_PORTn_STATUS_STATE p = 2 → s.bit F.TSBANK_REF_REF_PRESENT = true → s.crierDrv = [] → (s.window - 1).fmod 2 = 0 → s.bit F.GSL_HALL_STATUS_IS_MASTER = false →
    exec (.gslFrameSend p) s = .next (s.setGslPort p { s.gslPort p with probes := ((s.gslPort p).probes.filter fun t => decide (s.fr < t + 4096000)) ++ [s.fr], sent := frameBits false 0 (s.window - 1) [] { mtype := Msg.probe, src := s.pos, dst := s.get F.GSL_PORTn_STATUS_PEER_POS p, data := s.fr % 2 ^ 64, arg := p } })) ∧
  (∀ (p x : Nat) (s : State), s.get F.GSL_PORTn_STATUS_STATE p = 1 → s.get F.GSL_PORTn_CFG_ROLE p ≠ 3 →
    let u := ((s.set F.GSL_PORTn_STATUS_STATE 2 p).set F.GSL_PORTn_STATUS_PEER_POS x p).setGslPort p { s.gslPort p with probes := [], n := 0, sumD := 0, sumT := 0, bad := !s.fitsRing p x }
    exec (.linkTrained p x) s = .next (if s.fitsRing p x = true then u.tryForm else (u.setBit F.GSL_HALL_EVENTS_TOPOLOGY).tryForm)) ∧
  (∀ (p : Nat) (s : State), s.get F.GSL_PORTn_STATUS_STATE p = 2 → 65536 ≤ (s.gslPort p).n →
    ∃ t, exec (.linkCalDone p) s = .next t ∧ t.get F.GSL_PORTn_STATUS_STATE p = 3 ∧ t.bit F.GSL_PORTn_EVENTS_LINK_UP p = true ∧ t.bit F.GSL_PORTn_STATUS_LOS p = false ∧
      t.get F.GSL_PORTn_DELAY_DELAY p = unsigned (s.halfMean (s.gslPort p).sumD (s.gslPort p).n) 20 % 2 ^ 20 ∧ t.works = s.works ∧ t.mem = s.mem) ∧
  (∀ (p : Nat) (b : Bool) (s : State), s.get F.GSL_PORTn_CFG_ROLE p ≠ 3 → s.get F.GSL_PORTn_STATUS_STATE p ≠ 3 → (s.get F.GSL_PORTn_STATUS_STATE p ≠ 2 ∨ (s.gslPort p).driftAt ≠ some s.fr) →
    exec (.linkLoss p b) s = .next (s.setIf F.GSL_PORTn_STATUS_LOS b p)) ∧
  (∀ (p : Nat) (b : Bool) (s : State), s.get F.GSL_PORTn_CFG_ROLE p ≠ 3 → s.get F.GSL_PORTn_STATUS_STATE p = 3 →
    let u := { ((s.setIf F.GSL_PORTn_STATUS_LOS b p).set F.GSL_PORTn_STATUS_STATE 4 p).setBit F.GSL_PORTn_EVENTS_LINK_DOWN p with detections := s.detections.filter fun d => !(d.kind == 5 && d.source == 0x628 + p) }
    let x := u.sendMsg Msg.linkDown 0x3F (u.linkEnds p) p
    (s.portLink p = none ∨ (s.gslPort p).bad = true) → exec (.linkLoss p b) s = .next x) ∧
  (∀ (p l : Nat) (b : Bool) (s : State), s.get F.GSL_PORTn_CFG_ROLE p ≠ 3 → s.get F.GSL_PORTn_STATUS_STATE p = 3 →
    let u := { ((s.setIf F.GSL_PORTn_STATUS_LOS b p).set F.GSL_PORTn_STATUS_STATE 4 p).setBit F.GSL_PORTn_EVENTS_LINK_DOWN p with detections := s.detections.filter fun d => !(d.kind == 5 && d.source == 0x628 + p) }
    let x := u.sendMsg Msg.linkDown 0x3F (u.linkEnds p) p
    s.portLink p = some l → (s.gslPort p).bad = false → (x.gslPort p).bad = false → exec (.linkLoss p b) s = .next (x.linkFails l)) ∧
  (∀ (p : Nat) (b : Bool) (s : State), s.get F.GSL_PORTn_CFG_ROLE p ≠ 3 → s.get F.GSL_PORTn_STATUS_STATE p = 2 → (s.gslPort p).driftAt = some s.fr →
    ∃ t, exec (.linkLoss p b) s = .next t ∧ t.get F.GSL_PORTn_STATUS_STATE p = 4 ∧ t.bit F.GSL_PORTn_EVENTS_LINK_DOWN p = true ∧ t.bit F.GSL_PORTn_EVENTS_DRIFT p = false) ∧
  (∀ (p : Nat) (s : State), s.get F.GSL_PORTn_STATUS_STATE p = 3 → ((s.gslPort p).sumD - 2 * ((s.gslPort p).n : Int) * s.get F.GSL_PORTn_DELAY_DELAY p).natAbs ≤ 8 * (s.gslPort p).n →
    exec (.linkDriftCheck p) s = .next (s.setGslPort p { s.gslPort p with n := 0, sumD := 0, sumT := 0 })) ∧
  (∀ (p : Nat) (s : State), s.get F.GSL_PORTn_STATUS_STATE p = 3 → 8 * (s.gslPort p).n < ((s.gslPort p).sumD - 2 * ((s.gslPort p).n : Int) * s.get F.GSL_PORTn_DELAY_DELAY p).natAbs →
    ∃ t, exec (.linkDriftCheck p) s = .next t ∧ t.get F.GSL_PORTn_STATUS_STATE p = 2 ∧ t.bit F.GSL_PORTn_EVENTS_DRIFT p = true ∧
      (∀ l ∈ (s.portLink p).toList, l ∈ t.linksDown) ∧ (t.detections.any fun d => d.kind == 5 && d.cause == 0x223 && d.source == 0x628 + p) = true) ∧
  (∀ (p : Nat) (v : Word) (s : State), s.booted = true → p < 4 → s.portHeld p = true →
    exec (.portRoleWrite p v) s = .next (s.setBit F.GSL_PORTn_EVENTS_SETUP_BLOCKED p)) ∧
  (∀ (p : Nat) (v : Word) (s : State), s.booted = true → p < 4 → s.portHeld p = false → s.get F.GSL_PORTn_CFG_ROLE p ≠ v.toNat % 4 → s.portLink p = none →
    exec (.portRoleWrite p v) s = .next (((s.set F.GSL_PORTn_CFG_ROLE (v.toNat % 4) p).set F.GSL_PORTn_STATUS_STATE (if v.toNat % 4 = 3 then 0 else 1) p).setGslPort p {})) ∧
  (∀ (p l : Nat) (v : Word) (s : State), s.booted = true → p < 4 → s.portHeld p = false → s.get F.GSL_PORTn_CFG_ROLE p ≠ v.toNat % 4 → s.portLink p = some l →
    exec (.portRoleWrite p v) s = .next ((((s.set F.GSL_PORTn_CFG_ROLE (v.toNat % 4) p).set F.GSL_PORTn_STATUS_STATE (if v.toNat % 4 = 3 then 0 else 1) p).setGslPort p {}).linkFails l)) ∧
  (∀ (p : Nat) (v : Word) (s : State), s.booted = true → p < 4 → s.portHeld p = false → s.get F.GSL_PORTn_CFG_ROLE p = v.toNat % 4 → (v.toNat % 4 = 3 ∨ s.get F.GSL_PORTn_STATUS_STATE p ≠ 0) →
    exec (.portRoleWrite p v) s = .next s) ∧
  (∀ (p : Nat) (v : Word) (s : State), s.booted = true → p < 4 → s.portHeld p = false → s.get F.GSL_PORTn_CFG_ROLE p = v.toNat % 4 → v.toNat % 4 ≠ 3 → s.get F.GSL_PORTn_STATUS_STATE p = 0 →
    exec (.portRoleWrite p v) s = .next (s.set F.GSL_PORTn_STATUS_STATE 1 p)) ∧
  (∀ s : State, s.booted = true → (s.works.any fun p => p.2.opcode == Op.burst && p.2.isJoint && p.2.admittedRcpt) = true →
    exec .reform s = .next (s.setBit F.GSL_HALL_EVENTS_HALL_BUSY)) ∧
  (∀ s : State, s.booted = true → (s.works.any fun p => p.2.opcode == Op.burst && p.2.isJoint && p.2.admittedRcpt) = false →
    exec .reform s = .next (if s.freeVal % 2 = 1 then s.useFree.setBit F.GSL_HALL_EVENTS_HALL_BUSY else s.useFree.startElection 1)) ∧
  (∀ s : State, s.booted = false → exec .reform s = .next s)

/-- A commit on a device that is not the hall master is rejected with RESULT 3 and REJECT, one with LAT out of range or with an enabled line whose source is outside the hall with RESULT 2, and one while a burst is present in the hall with RESULT 1. An accepted one is sent to every device and waits for its effect instant (R263). There the oldest configuration that waits comes into force; the master's registers keep what its host has staged, and a member's show the new values (R263). With nothing waiting neither row changes anything. At the action instant of a change its line takes the level: the LEVEL bit follows, and its change event is raised (R261); of several changes that wait the earliest acts, and a line that is not enabled or whose source names no device of the hall stays low (R263). -/
def Obligations.CrierBus : Prop :=
  (∀ (b : Bool) (s : State), s.booted = true → s.bit F.GSL_HALL_STATUS_IS_MASTER = false →
    exec (.crierCommit b) s = .next ((s.set F.CRIER_STATUS_RESULT 3).setBit F.CRIER_EVENTS_REJECT)) ∧
  (∀ (b : Bool) (s : State), s.booted = true → s.bit F.GSL_HALL_STATUS_IS_MASTER = true → (s.get F.CRIER_LAT_LAT < 200 ∨ 8000 < s.get F.CRIER_LAT_LAT) →
    exec (.crierCommit b) s = .next ((s.set F.CRIER_STATUS_RESULT 2).setBit F.CRIER_EVENTS_REJECT)) ∧
  (∀ (b : Bool) (l : Nat) (s : State), s.booted = true → s.bit F.GSL_HALL_STATUS_IS_MASTER = true → l < 8 → bitOf s.crierRegs.en l = true → s.hallSize ≤ s.crierRegs.pos.getD l 0 →
    exec (.crierCommit b) s = .next ((s.set F.CRIER_STATUS_RESULT 2).setBit F.CRIER_EVENTS_REJECT)) ∧
  (∀ (b : Bool) (s : State), s.booted = true → s.bit F.GSL_HALL_STATUS_IS_MASTER = true → 200 ≤ s.get F.CRIER_LAT_LAT → s.get F.CRIER_LAT_LAT ≤ 8000 →
    (∀ l ∈ List.range 8, bitOf s.crierRegs.en l = true → s.crierRegs.pos.getD l 0 < s.hallSize) → (b || s.works.any fun p => p.2.burstPresent) = true →
    exec (.crierCommit b) s = .next ((s.set F.CRIER_STATUS_RESULT 1).setBit F.CRIER_EVENTS_REJECT)) ∧
  (∀ s : State, s.booted = true → s.bit F.GSL_HALL_STATUS_IS_MASTER = true → 200 ≤ s.get F.CRIER_LAT_LAT → s.get F.CRIER_LAT_LAT ≤ 8000 →
    (∀ l ∈ List.range 8, bitOf s.crierRegs.en l = true → s.crierRegs.pos.getD l 0 < s.hallSize) → (s.works.any fun p => p.2.burstPresent) = false →
    ∃ t, exec (.crierCommit false) s = .next t ∧ t.crierCfg = s.crierCfg ++ [s.crierRegs] ∧ t.get F.CRIER_STATUS_RESULT = 0 ∧ t.crierNow = s.crierNow ∧ regsBut [.CRIER_STATUS] s t) ∧
  (∀ (c : CrierCfg) (l : List CrierCfg) (s : State), s.crierCfg = c :: l → s.bit F.GSL_HALL_STATUS_IS_MASTER = true →
    ∃ t, exec .crierConfigEffect s = .next t ∧ t.crierNow = c ∧ t.crierCfg = l ∧ t.get F.CRIER_LAT_LAT = s.get F.CRIER_LAT_LAT) ∧
  (∀ (c : CrierCfg) (l : List CrierCfg) (s : State), s.crierCfg = c :: l → s.bit F.GSL_HALL_STATUS_IS_MASTER = false →
    ∃ t, exec .crierConfigEffect s = .next t ∧ t.crierNow = c ∧ t.crierCfg = l ∧ t.hallCfg = true ∧ t.get F.CRIER_LAT_LAT = c.lat % 2 ^ 13 ∧
      ∀ i ∈ List.range 8, t.bit F.CRIER_SRC_n_EN i = bitOf c.en i ∧ t.get F.CRIER_SRC_n_POS i = c.pos.getD i 0 % 2 ^ 6) ∧
  (∀ s : State, s.crierCfg = [] → s.crierWait = [] → s.crierDrv = [] → exec .crierConfigEffect s = .next s ∧ exec .crierAction s = .next s) ∧
  (∀ (c : CrierChange) (s : State), s.crierWait = [c] → s.crierDrv = [] → s.crierEn c.line = true → s.members.contains (s.crierPos c.line) = true →
    ∃ t, exec .crierAction s = .next t ∧ t.crierWait = [] ∧ t.crierLevel c.line = c.level ∧ t.fr = max s.fr (c.at_ - s.corr).toNat ∧
      t.events = s.events ++ [{ source := 0x400 + c.line, at_ := (c.at_ - s.corr).toNat, rising := c.level, mark := 0 }] ∧ regsBut [.CRIER_STATUS] s t ∧ t.mem = s.mem ∧ t.works = s.works) ∧
  (∀ (c : CrierChange) (s : State), s.crierDrv = [] → firstChange s.crierWait = some c → s.crierEn c.line = true → s.members.contains (s.crierPos c.line) = true →
    let u := { s.advanceTo (c.at_ - s.corr).toNat with crierWait := s.crierWait.erase c }
    exec .crierAction s = .next (u.crierTakes c.line c.level (c.at_ - s.corr).toNat)) ∧
  (∀ (c : CrierChange) (s : State), s.crierDrv = [] → firstChange s.crierWait = some c → (s.crierEn c.line = false ∨ s.members.contains (s.crierPos c.line) = false) →
    exec .crierAction s = .next { s.advanceTo (c.at_ - s.corr).toNat with crierWait := s.crierWait.erase c })

/-- A link that trains to a legal rate and width while down shows them, DL_UP, its tag limit and LINK_UP; RATE is the x16 throughput scaled by width / 16 and rounded down (R329, R331, R342). A retrain to a higher rate changes the shown rate and width and nothing of the admitted work; one to a lower rate also sets RATE_DROP and voids, with cause 0x231, the admitted orders whose host rate no longer fits (R332). A loss of the link sets LINK_DOWN and resets the PF (R333). -/
def Obligations.HostLinkStates : Prop :=
  (∀ (speed width : Nat) (flit tags : Bool) (s : State), s.bit F.STALL_HOST_STATUS_DL_UP = false → linkLegal speed width flit = true →
    ∃ t, exec (.linkUp speed width flit tags) s = .next t ∧ t.bit F.STALL_HOST_STATUS_DL_UP = true ∧ t.bit F.STALL_HOST_EVENTS_LINK_UP = true ∧
      t.get F.STALL_HOST_STATUS_RATE = rateX16 speed * width / 16 ∧ t.get F.STALL_HOST_STATUS_SPEED = speed ∧ t.get F.STALL_HOST_STATUS_WIDTH = width ∧
      t.get F.STALL_HOST_TAGS_LIMIT = (if flit then 16384 else if tags then 1024 else 256) ∧
      regsBut [.STALL_HOST_STATUS, .STALL_HOST_TAGS, .STALL_HOST_EVENTS] s t ∧ memSame s t) ∧
  (∀ (speed width : Nat) (s : State), s.bit F.STALL_HOST_STATUS_DL_UP = true → linkLegal speed width (s.bit F.STALL_HOST_STATUS_FLIT) = true →
    s.get F.STALL_HOST_STATUS_RATE ≤ linkRate speed width →
    exec (.linkRetrainHigher speed width) s = .next (s.setLink speed width (s.bit F.STALL_HOST_STATUS_FLIT))) ∧
  (∀ (speed width : Nat) (s : State), s.bit F.STALL_HOST_STATUS_DL_UP = true → linkLegal speed width (s.bit F.STALL_HOST_STATUS_FLIT) = true →
    linkRate speed width < s.get F.STALL_HOST_STATUS_RATE →
    let t := (s.setLink speed width (s.bit F.STALL_HOST_STATUS_FLIT)).setBit F.STALL_HOST_EVENTS_RATE_DROP
    exec (.rateDrop speed width) s = .next (t.voidAll (t.overRate (linkRate speed width)) 0x231)) ∧
  (∀ s : State, s.bit F.STALL_HOST_STATUS_DL_UP = true →
    exec .dlDown s = .next (((((s.setLink 0 0 false).clrBit F.STALL_HOST_STATUS_DL_UP).set F.STALL_HOST_TAGS_LIMIT 0).setBit
      F.STALL_HOST_EVENTS_LINK_DOWN).flr 0))

/-- A write of 1 to VF Enable with a count outside what the hierarchy allows is rejected with VF_REJECT; an allowed one makes VFs 1 to NumVFs exist (R334). A write of 0 resets every enabled VF, and they cease to exist. A function-level reset of a VF that exists ends its work and its configuration and MSI-X state, and STALL_HOST_FLR shows it; one of the PF also clears VF Enable (R346, R347). The reset is done, with FLR_DONE, once no work of the function is left, and completes the disable that it acts as (R346, R559). Clearing Bus Master acts as a disable of the function's work, and its stalls close at once (R336, R351); so does an entry to D3hot, whose stalls drain; leaving D3hot resets the function (R336). The oldest trigger that no receipt raised before it stands before sends the message of its vector, where the function's enable, mask and Bus Master allow it, and otherwise leaves its pending bit set (R340, R344). An unmasking of a vector sends its pending message. -/
def Obligations.FunctionsAndInterrupts : Prop :=
  (∀ s : State, 2 ≤ s.get F.BOOT_STATUS_STAGE → (s.numVfs = 0 ∨ 63 < s.numVfs ∨ (7 < s.numVfs ∧ s.ari = false)) →
    exec (.vfEnableWrite true) s = .next (s.setBit F.STALL_HOST_EVENTS_VF_REJECT)) ∧
  (∀ s : State, 2 ≤ s.get F.BOOT_STATUS_STAGE → s.vfEnable = false → 1 ≤ s.numVfs → s.numVfs ≤ 63 → (s.numVfs ≤ 7 ∨ s.ari = true) →
    ∃ t, exec (.vfEnableWrite true) s = .next t ∧ t.vfEnable = true ∧ (∀ f ∈ List.range 64, (t.func f).present = ((s.func f).present || (decide (1 ≤ f) && decide (f ≤ s.numVfs)))) ∧
      t.regs = s.regs ∧ t.mem = s.mem ∧ t.works = s.works) ∧
  (∀ s : State, 2 ≤ s.get F.BOOT_STATUS_STAGE → s.vfEnable = true →
    ∃ t, exec (.vfEnableWrite false) s = .next t ∧ t = s.clearVfs ∧ t.vfEnable = false) ∧
  (∀ (f : Nat) (s : State), (s.func f).present = true → f ≠ 0 → f < 64 → s.booted = true →
    ∃ t, exec (.functionLevelReset f) s = .next t ∧ t = s.flrOne f ∧ (t.func f).inReset = true ∧ (t.func f).busMaster = false ∧ (t.func f).vecs = [] ∧ (∀ g ∈ t.triggers, g.fn ≠ f) ∧
      t.get F.STALL_HOST_FLR_FN = f) ∧
  (∀ s : State, (s.func 0).present = true → s.booted = true →
    exec (.functionLevelReset 0) s = .next ((s.clearVfs).flrOne 0)) ∧
  (∀ (f : Nat) (s : State), (s.func f).inReset = true → (s.works.any fun p => p.2.fn == f) = false →
    let u := if (s.func f).disabling then s.endDisable f else s
    exec (.flrDone f) s = .next ((u.setFunc f { u.func f with inReset := false }).setBit F.STALL_HOST_EVENTS_FLR_DONE)) ∧
  (∀ (f : Nat) (s : State), 2 ≤ s.get F.BOOT_STATUS_STAGE → (s.func f).busMaster = true →
    ∃ t, exec (.busMasterClear f) s = .next t ∧ (t.func f).busMaster = false ∧ (t.func f).disabling = ((s.func f).disabling || t.hasWork f) ∧ (∀ k ∈ s.stallsOf f, (t.stall k).st = .closed)) ∧
  (∀ (f : Nat) (s : State), 2 ≤ s.get F.BOOT_STATUS_STAGE → (s.func f).present = true → (s.func f).d3hot = false →
    ∃ t, exec (.d3hotEntry f) s = .next t ∧ (t.func f).d3hot = true ∧ (t.func f).disabling = ((s.func f).disabling || t.hasWork f) ∧
      (∀ k ∈ s.stallsOf f, (t.stall k).st = .closed ∨ (t.stall k).st = .draining)) ∧
  (∀ (f : Nat) (s : State), (s.func f).d3hot = true →
    exec (.d3hotExit f) s = .next ((s.flr f).setFunc f { (s.flr f).func f with d3hot := false })) ∧
  (∀ (g : Trigger) (s : State), s.triggers.find? s.triggerFirst = some g → g.vector < vecCount g.fn →
    (s.func g.fn).busMaster = true → (s.func g.fn).msixEnable = true → (s.func g.fn).msixMask = false → (Store.getD (s.func g.fn).vecs g.vector {}).masked = false →
    ∃ t, exec .msixTrigger s = .next t ∧ t.triggers = s.triggers.erase g ∧ t.tx = s.tx ++ [.msix g.fn g.vector (Store.getD (s.func g.fn).vecs g.vector {}).addr (Store.getD (s.func g.fn).vecs g.vector {}).data] ∧
      (Store.getD (t.func g.fn).vecs g.vector {}).pending = false ∧ t.regs = s.regs ∧ t.mem = s.mem) ∧
  (∀ (g : Trigger) (s : State), s.triggers.find? s.triggerFirst = some g → g.vector < vecCount g.fn →
    ((s.func g.fn).busMaster = false ∨ (s.func g.fn).msixEnable = false ∨ (s.func g.fn).msixMask = true ∨ (Store.getD (s.func g.fn).vecs g.vector {}).masked = true) →
    ∃ t, exec .msixTrigger s = .next t ∧ t.triggers = s.triggers.erase g ∧ t.tx = s.tx ∧ (Store.getD (t.func g.fn).vecs g.vector {}).pending = true ∧ t.regs = s.regs ∧ t.mem = s.mem) ∧
  (∀ (f v : Nat) (s : State), v < vecCount f → (s.func f).present = true →
    exec (.msixUnmask f v) s = .next ((s.modVec f v fun x => { x with masked := false }).issueMsix f v))

/-- An open is rejected, with RESULT and CTL_REJECT, with 1 by a function that does not own the stall, with 2 of a stall that is not CLOSED, with 3 without Bus Master, and with 4 where a word that it would read lies beyond 2⁵² (R339, R354); any other waits for its descriptor and doorbell word. With a valid descriptor and a doorbell word of 0 it is then AWAKE with RESULT 0 and CTL_DONE, its rings and vector as the descriptor has them and its indices 0; a bad descriptor is rejected with 5 and another doorbell word with 6 (R352, R354). A close by the owner of a stall that is open moves it to DRAINING with RESULT 0; by another function it is rejected with 1, and of a stall that is CLOSED or DRAINING with 2 (R355). A DRAINING stall without work whose function is not being disabled closes, with CTL_DONE where a close was accepted. A wake of an ASLEEP stall makes it AWAKE with a doorbell read; of an AWAKE one it asks for one more read; any other is ignored with WAKE_IGNORED (R360). A stall without new orders for IDLE µs writes ASLEEP and reads its doorbell once more (R359). -/
def Obligations.StallsOpenAndClose : Prop :=
  (∀ (f k : Nat) (s : State), s.booted = true → k < 4096 → (s.stallFn k ≠ some f ∨ (s.func f).present = false) →
    exec (.stallOpen f k) s = .next (((s.set F.STALL_CTL_STATUS_STALL k f).set F.STALL_CTL_STATUS_RESULT 1 f).setBit F.STALL_EVENTS_CTL_REJECT f)) ∧
  (∀ (f k : Nat) (s : State), s.booted = true → k < 4096 → s.stallFn k = some f → (s.func f).present = true → ((s.stall k).st ≠ .closed ∨ (s.stall k).opening = true) →
    exec (.stallOpen f k) s = .next (((s.set F.STALL_CTL_STATUS_STALL k f).set F.STALL_CTL_STATUS_RESULT 2 f).setBit F.STALL_EVENTS_CTL_REJECT f)) ∧
  (∀ (f k : Nat) (s : State), s.booted = true → k < 4096 → s.stallFn k = some f → (s.func f).present = true → (s.stall k).st = .closed → (s.stall k).opening = false → (s.func f).busMaster = false →
    exec (.stallOpen f k) s = .next (((s.set F.STALL_CTL_STATUS_STALL k f).set F.STALL_CTL_STATUS_RESULT 3 f).setBit F.STALL_EVENTS_CTL_REJECT f)) ∧
  (∀ (f k : Nat) (s : State), s.booted = true → k < 4096 → s.stallFn k = some f → (s.func f).present = true → (s.stall k).st = .closed → (s.stall k).opening = false → (s.func f).busMaster = true → (2 ^ 52 < s.tableBase f + 32 * k + 32 ∨ 2 ^ 52 < s.dbBase f + 8 * k + 8) →
    exec (.stallOpen f k) s = .next (((s.set F.STALL_CTL_STATUS_STALL k f).set F.STALL_CTL_STATUS_RESULT 4 f).setBit F.STALL_EVENTS_CTL_REJECT f)) ∧
  (∀ (f k : Nat) (s : State), s.booted = true → k < 4096 → s.stallFn k = some f → (s.func f).present = true → (s.stall k).st = .closed → (s.stall k).opening = false → (s.func f).busMaster = true → s.tableBase f + 32 * k + 32 ≤ 2 ^ 52 → s.dbBase f + 8 * k + 8 ≤ 2 ^ 52 → 
    exec (.stallOpen f k) s = .next ((s.set F.STALL_CTL_STATUS_STALL k f).setStall k { s.stall k with opening := true, fn := f })) ∧
  (∀ (k : Nat) (d : Bytes) (s : State), (s.stall k).opening = true → descriptorOk (s.stall k).fn d = true →
    ∃ t, exec (.stallOpenComplete k d 0) s = .next t ∧ (t.stall k).st = .awake ∧ (t.stall k).orderBase = Bytes.le d 0 8 ∧
      (t.stall k).rcptBase = Bytes.le d 8 8 ∧ (t.stall k).orderLog2 = Bytes.le d 16 1 ∧ (t.stall k).rcptLog2 = Bytes.le d 17 1 ∧
      (t.stall k).vector = Bytes.le d 18 2 ∧ (t.stall k).prod = 0 ∧ (t.stall k).cons = 0 ∧
      t.get F.STALL_CTL_STATUS_RESULT (s.stall k).fn = 0 ∧ t.bit F.STALL_EVENTS_CTL_DONE (s.stall k).fn = true ∧ memSame s t ∧ t.works = s.works) ∧
  (∀ (k x : Nat) (d : Bytes) (s : State), (s.stall k).opening = true → descriptorOk (s.stall k).fn d = false →
    exec (.stallOpenComplete k d x) s = .next (((s.setStall k { s.stall k with opening := false }).set F.STALL_CTL_STATUS_RESULT 5 (s.stall k).fn).setBit F.STALL_EVENTS_CTL_REJECT (s.stall k).fn)) ∧
  (∀ (k x : Nat) (d : Bytes) (s : State), (s.stall k).opening = true → descriptorOk (s.stall k).fn d = true → x ≠ 0 →
    exec (.stallOpenComplete k d x) s = .next (((s.setStall k { s.stall k with opening := false }).set F.STALL_CTL_STATUS_RESULT 6 (s.stall k).fn).setBit F.STALL_EVENTS_CTL_REJECT (s.stall k).fn)) ∧
  (∀ (f k : Nat) (s : State), s.booted = true → k < 4096 → s.stallFn k = some f → (s.func f).present = true → (s.stall k).st ≠ .closed → (s.stall k).st ≠ .draining →
    exec (.stallClose f k) s = .next ((((s.set F.STALL_CTL_STATUS_STALL k f).set F.STALL_CTL_STATUS_RESULT 0 f).setStall k { s.stall k with st := .draining, closeReq := true }).refreshWatch)) ∧
  (∀ (f k : Nat) (s : State), s.booted = true → k < 4096 → (s.stallFn k ≠ some f ∨ (s.func f).present = false) →
    exec (.stallClose f k) s = .next (((s.set F.STALL_CTL_STATUS_STALL k f).set F.STALL_CTL_STATUS_RESULT 1 f).setBit F.STALL_EVENTS_CTL_REJECT f)) ∧
  (∀ (f k : Nat) (s : State), s.booted = true → k < 4096 → s.stallFn k = some f → (s.func f).present = true → ((s.stall k).st = .closed ∨ (s.stall k).st = .draining) →
    exec (.stallClose f k) s = .next (((s.set F.STALL_CTL_STATUS_STALL k f).set F.STALL_CTL_STATUS_RESULT 2 f).setBit F.STALL_EVENTS_CTL_REJECT f)) ∧
  (∀ (k : Nat) (s : State), (s.stall k).st = .draining → (s.works.any fun p => p.2.stall == k) = false → (s.func (s.stall k).fn).disabling = false →
    ∃ t, exec (.stallClosed k) s = .next t ∧ t = (s.writeState k .closed).closeStall k ∧ (t.stall k).st = .closed ∧ ((s.stall k).closeReq = true → t.bit F.STALL_EVENTS_CTL_DONE (s.stall k).fn = true)) ∧
  (∀ (f k : Nat) (s : State), s.booted = true → s.stallFn k = some f → (s.stall k).st = .asleep →
    exec (.stallWake f k) s = .next (((s.setStall k { s.stall k with st := .awake, dbRead := true, idleFrom := s.fr }).writeState k .awake).refreshWatch)) ∧
  (∀ (f k : Nat) (s : State), s.booted = true → s.stallFn k = some f → (s.stall k).st = .awake →
    exec (.stallWake f k) s = .next (s.setStall k { s.stall k with dbRead := true, again := (s.stall k).dbRead })) ∧
  (∀ (f k : Nat) (s : State), s.booted = true → (s.stallFn k ≠ some f ∨ ((s.stall k).st ≠ .asleep ∧ (s.stall k).st ≠ .awake)) →
    exec (.stallWake f k) s = .next (s.setBit F.STALL_EVENTS_WAKE_IGNORED f)) ∧
  (∀ (k : Nat) (s : State), (s.stall k).st = .awake → s.get F.STALL_POLL_IDLE ≠ 0 → (s.stall k).finalRead = false →
    exec (.stallSleep k) s = .next (((s.advanceTo ((s.stall k).idleFrom + s.get F.STALL_POLL_IDLE * 4096000)).writeState k .asleep).setStall k
      { s.stall k with dbRead := true, finalRead := true }))

/-- A poll reads the doorbell words of the AWAKE stalls of a line (R358). A doorbell word whose PROD is out of its ring halts the stall with reason 1, one whose RCONS is with reason 2, and none of it is used (R366). A good one is taken whole, and a new PROD starts the idle time anew; the final read of a stall that falls asleep writes AWAKE where it shows a new PROD and otherwise puts it to sleep, or is followed by the extra read that a wake asked for (R359, R360). The word of a stall that is no longer AWAKE is not used. A fetch, with the device's allowance, by the stall whose turn it is takes the order at CONS, reserves two receipt slots and uses one of each allowance; a turn ends after 16 orders (R361). A tick raises an allowance by 1, up to 16. -/
def Obligations.BellWatcherAndFetch : Prop :=
  (∀ (f line : Nat) (s : State), s.mayIssue f = true →
    exec (.doorbellPoll f line) s = .next (((((List.range 8).map (8 * line + ·)).filter fun k => (s.stall k).st == .awake && (s.stall k).fn == f).foldl
      (fun t k => t.setStall k { t.stall k with dbRead := true }) s).refreshWatch)) ∧
  (∀ (k word : Nat) (s : State), (s.stall k).dbRead = true → (s.stall k).st = .awake → 2 ^ (s.stall k).orderLog2 < (word % 2 ^ 32 + 2 ^ 32 - (s.stall k).cons) % 2 ^ 32 →
    exec (.doorbellReadDone k word) s = .next (s.haltStall k 1)) ∧
  (∀ (k word : Nat) (s : State), (s.stall k).dbRead = true → (s.stall k).st = .awake → (word % 2 ^ 32 + 2 ^ 32 - (s.stall k).cons) % 2 ^ 32 ≤ 2 ^ (s.stall k).orderLog2 →
    2 ^ (s.stall k).rcptLog2 < ((s.stall k).rprod + 2 ^ 32 - word / 2 ^ 32 % 2 ^ 32) % 2 ^ 32 →
    exec (.doorbellReadDone k word) s = .next (s.haltStall k 2)) ∧
  (∀ (k word : Nat) (s : State), (s.stall k).dbRead = true → (s.stall k).st = .awake → (s.stall k).finalRead = false → (word % 2 ^ 32 + 2 ^ 32 - (s.stall k).cons) % 2 ^ 32 ≤ 2 ^ (s.stall k).orderLog2 →
    ((s.stall k).rprod + 2 ^ 32 - word / 2 ^ 32 % 2 ^ 32) % 2 ^ 32 ≤ 2 ^ (s.stall k).rcptLog2 →
    exec (.doorbellReadDone k word) s = .next (s.setStall k { s.stall k with prod := word % 2 ^ 32, rcons := word / 2 ^ 32 % 2 ^ 32, dbRead := (s.stall k).again, again := false, finalRead := false, dbFails := 0, idleFrom := if word % 2 ^ 32 ≠ (s.stall k).prod then s.fr else (s.stall k).idleFrom })) ∧
  (∀ (k word : Nat) (s : State), (s.stall k).dbRead = true → (s.stall k).st = .awake → (s.stall k).finalRead = true → (word % 2 ^ 32 + 2 ^ 32 - (s.stall k).cons) % 2 ^ 32 ≤ 2 ^ (s.stall k).orderLog2 →
    ((s.stall k).rprod + 2 ^ 32 - word / 2 ^ 32 % 2 ^ 32) % 2 ^ 32 ≤ 2 ^ (s.stall k).rcptLog2 →
    word % 2 ^ 32 ≠ (s.stall k).prod → exec (.doorbellReadDone k word) s = .next ((s.setStall k { s.stall k with prod := word % 2 ^ 32, rcons := word / 2 ^ 32 % 2 ^ 32, dbRead := (s.stall k).again, again := false, finalRead := false, dbFails := 0, idleFrom := if word % 2 ^ 32 ≠ (s.stall k).prod then s.fr else (s.stall k).idleFrom }).writeState k .awake)) ∧
  (∀ (k word : Nat) (s : State), (s.stall k).dbRead = true → (s.stall k).st = .awake → (s.stall k).finalRead = true → (s.stall k).again = false → (word % 2 ^ 32 + 2 ^ 32 - (s.stall k).cons) % 2 ^ 32 ≤ 2 ^ (s.stall k).orderLog2 →
    ((s.stall k).rprod + 2 ^ 32 - word / 2 ^ 32 % 2 ^ 32) % 2 ^ 32 ≤ 2 ^ (s.stall k).rcptLog2 →
    word % 2 ^ 32 = (s.stall k).prod → exec (.doorbellReadDone k word) s = .next ((s.setStall k { s.stall k with prod := word % 2 ^ 32, rcons := word / 2 ^ 32 % 2 ^ 32, dbRead := (s.stall k).again, again := false, finalRead := false, dbFails := 0, idleFrom := if word % 2 ^ 32 ≠ (s.stall k).prod then s.fr else (s.stall k).idleFrom, st := .asleep }).refreshWatch)) ∧
  (∀ (k word : Nat) (s : State), (s.stall k).dbRead = true → (s.stall k).st = .awake → (s.stall k).finalRead = true → (s.stall k).again = true → (word % 2 ^ 32 + 2 ^ 32 - (s.stall k).cons) % 2 ^ 32 ≤ 2 ^ (s.stall k).orderLog2 →
    ((s.stall k).rprod + 2 ^ 32 - word / 2 ^ 32 % 2 ^ 32) % 2 ^ 32 ≤ 2 ^ (s.stall k).rcptLog2 →
    word % 2 ^ 32 = (s.stall k).prod → exec (.doorbellReadDone k word) s = .next (s.setStall k { s.stall k with prod := word % 2 ^ 32, rcons := word / 2 ^ 32 % 2 ^ 32, dbRead := true, again := false, finalRead := true, dbFails := 0 })) ∧
  (∀ (k word : Nat) (s : State), (s.stall k).dbRead = true → (s.stall k).st ≠ .awake →
    exec (.doorbellReadDone k word) s = .next (s.setStall k { s.stall k with dbRead := false, again := false, finalRead := false })) ∧
  (∀ (k : Nat) (s : State), s.devAllowance ≠ 0 → s.turnStall = some k →
    ∃ t, exec (.orderFetch k) s = .next t ∧ t.work? s.nextWork = some { stall := k, fn := (s.stall k).fn, idx := (s.stall k).cons } ∧
      t.stall k = { s.stall k with cons := ((s.stall k).cons + 1) % 2 ^ 32, reserved := (s.stall k).reserved + 2, allowance := (s.stall k).allowance - 1 } ∧
      t.devAllowance = s.devAllowance - 1 ∧ t.nextWork = s.nextWork + 1 ∧ t.turn = (k, if s.turn.1 = k ∧ s.turn.2 < 16 then s.turn.2 + 1 else 1) ∧ t.regs = s.regs ∧ t.mem = s.mem ∧
      (∀ n, n < s.nextWork → t.work? n = s.work? n)) ∧
  (∀ (k : Nat) (s : State),
    exec (.fetchAllowanceTick (some k)) s = .next (s.setStall k { s.stall k with allowance := min ((s.stall k).allowance + 1) 16 }) ∧
    exec (.fetchAllowanceTick none) s = .next { s with devAllowance := min (s.devAllowance + 1) 16 })

/-- A fetched order whose header or body checks find a cause ends with a MALFORMED receipt of that cause (R362); one with a reservation block waits for its read (R374); one without permission ends DENIED with its cause; any other is free to start unless a fence stands before it (R368). A block that fails its form check ends the order MALFORMED with cause 0x015, a burst whose entry segment is not declared with cause 0x013 (R374, R381); a good one takes the order to its permission check. The data of a TIMING_LOAD is its image, of a FRAME_LAUNCH the frame for its port's queue, of a GRAPH its measurement list; any other order keeps it for its own row. A fenced order is released when nothing before it stands in the way (R368). The oldest raised receipt that no trigger raised before it stands before enters the transmit queue at its ring entry, RPROD moves on by one, and a final receipt releases its order (R340, R353, R364, R399); for a function that may issue no request, or a stall that was closed under the work, nothing is written (R336, R346, R351). A failed read sets CPL_TIMEOUT or CPL_ERROR, is reported through AER, and has the stall or the order answer for it (R343, R366): that of a block refuses the order with cause 0x105, and that of an opening stall rejects the open with 4 (R354). -/
def Obligations.OrderChecksAndReceipts : Prop :=
  (∀ (k : Nat) (w : Work) (b : Bytes) (s : State), s.work? k = some w → w.stage = .fetched →
    let v := { w with ord := b }
    s.malformed v ≠ 0 →
    exec (.orderReceived k b) s = .next ((s.setWork k v).finalReceipt k 5 (s.malformed v))) ∧
  (∀ (k : Nat) (w : Work) (b : Bytes) (s : State), s.work? k = some w → w.stage = .fetched →
    let v := { w with ord := b }
    s.malformed v = 0 → needsBlock v.opcode = true →
    exec (.orderReceived k b) s = .next (s.setWork k { v with stage := .blockRead })) ∧
  (∀ (k : Nat) (w : Work) (b : Bytes) (s : State), s.work? k = some w → w.stage = .fetched →
    let v := { w with ord := b }
    s.malformed v = 0 → needsBlock v.opcode = false → s.denied v ≠ 0 →
    exec (.orderReceived k b) s = .next ((s.setWork k v).finalReceipt k 6 (s.denied v))) ∧
  (∀ (k : Nat) (w : Work) (b : Bytes) (s : State), s.work? k = some w → w.stage = .fetched →
    let v := { w with ord := b }
    s.malformed v = 0 → needsBlock v.opcode = false → s.denied v = 0 →
    exec (.orderReceived k b) s = .next (if s.fenceBlocks k v = true then s.setWork k { v with stage := .fenced } else s.routed k v)) ∧
  (∀ (k : Nat) (w : Work) (d m p : Bytes) (s : State), s.work? k = some w → w.stage = .blockRead →
    let v := { w with blk := d, meas := m, parts := p }
    v.blockOk s.devId = false →
    exec (.hostReadCompletion k d m p) s = .next ((s.setWork k v).finalReceipt k 5 0x015)) ∧
  (∀ (k : Nat) (w : Work) (d m p : Bytes) (s : State), s.work? k = some w → w.stage = .blockRead →
    let v := { w with blk := d, meas := m, parts := p }
    v.blockOk s.devId = true → v.opcode = Op.burst → v.segs.contains (v.body 32 2) = false →
    exec (.hostReadCompletion k d m p) s = .next ((s.setWork k v).finalReceipt k 5 0x013)) ∧
  (∀ (k : Nat) (w : Work) (d m p : Bytes) (s : State), s.work? k = some w → w.stage = .blockRead →
    let v := { w with blk := d, meas := m, parts := p }
    v.blockOk s.devId = true → (v.opcode = Op.burst → v.segs.contains (v.body 32 2) = true) →
    exec (.hostReadCompletion k d m p) s = .next (s.permit k { v with formed := true })) ∧
  (∀ (k : Nat) (w : Work) (d m p : Bytes) (s : State), s.work? k = some w → w.stage = .dataRead → w.opcode = Op.timingLoad →
    exec (.hostReadCompletion k d m p) s = .next (s.timingImage k w d)) ∧
  (∀ (k : Nat) (w : Work) (d m p : Bytes) (s : State), s.work? k = some w → w.stage = .dataRead → w.opcode = Op.frameLaunch →
    exec (.hostReadCompletion k d m p) s = .next (s.queueFrame k w d)) ∧
  (∀ (k : Nat) (w : Work) (d m p : Bytes) (s : State), s.work? k = some w → w.stage = .dataRead → w.opcode = Op.graph →
    exec (.hostReadCompletion k d m p) s = .next (s.setWork k { w with meas := d, stage := .routed })) ∧
  (∀ (k : Nat) (w : Work) (d m p : Bytes) (s : State), s.work? k = some w → w.stage = .dataRead → w.opcode ∉ [Op.timingLoad, Op.frameLaunch, Op.graph] →
    exec (.hostReadCompletion k d m p) s = .next (s.setWork k { w with data := d })) ∧
  (∀ (k : Nat) (w : Work) (s : State), s.work? k = some w → w.stage = .fenced → s.fenceBlocks k w = false →
    exec (.fenceRelease k) s = .next (s.routed k w)) ∧
  (∀ (w : Work) (r : RaisedReceipt) (s : State), s.receipts.find? s.receiptFirst = some r → s.work? r.work = some w → s.mayIssue w.fn = true → w.slots ≠ 0 →
    let u := { s with receipts := s.receipts.erase r }
    ∃ t, exec .receiptWrite s = .next t ∧ t.receipts = u.receipts ∧ (t.stall w.stall).rprod = ((s.stall w.stall).rprod + 1) % 2 ^ 32 ∧
      t.tx = s.tx ++ [.receipt w.fn w.stall ((s.stall w.stall).rcptBase + 64 * ((s.stall w.stall).rprod % 2 ^ (s.stall w.stall).rcptLog2)) (u.receiptOf w r)] ∧
      t.mem = s.mem ∧ (r.final = true → t.work? r.work = none)) ∧
  (∀ (w : Work) (r : RaisedReceipt) (s : State), s.receipts.find? s.receiptFirst = some r → s.work? r.work = some w → (s.mayIssue w.fn = false ∨ w.slots = 0) →
    let u := { s with receipts := s.receipts.erase r }
    exec .receiptWrite s = .next (if r.final = true then (u.countEnded w.fn r.status).releaseWork r.work r.status else u)) ∧
  (∀ (k : Nat) (e : ReadFailure) (s : State),
    exec (.readFailed e (.doorbell k)) s = .next ((s.reportRead e (s.stall k).fn).doorbellFailed k) ∧
    exec (.readFailed e (.order k)) s = .next ((s.reportRead e (((s.work? k).map (·.fn)).getD 0)).orderReadFailed k) ∧
    exec (.readFailed e (.data k)) s = .next ((s.reportRead e (((s.work? k).map (·.fn)).getD 0)).dataReadFailed k)) ∧
  (∀ (k : Nat) (w : Work) (e : ReadFailure) (s : State), s.work? k = some w → w.stage = .blockRead → w.admittedRcpt = false →
    exec (.readFailed e (.data k)) s = .next ((s.reportRead e w.fn).finalReceipt k 3 0x105)) ∧
  (∀ (k : Nat) (e : ReadFailure) (s : State), (s.stall k).opening = true →
    ∃ t, exec (.readFailed e (.open_ k)) s = .next t ∧ (t.stall k).opening = false ∧ t.get F.STALL_CTL_STATUS_RESULT (s.stall k).fn = 4 ∧ t.bit F.STALL_EVENTS_CTL_REJECT (s.stall k).fn = true)

/-- BURST, SEGMENT_WRITE, SEGMENT_STREAM, CAPTURE_READ and TALLY_ARM that are free to start are offered to the Toll with the instant, and nothing else changes (R398, R399). In its window SEGMENT_STREAM writes its host data into its segments byte for byte, with every other byte of memory and every register unchanged (R383); SEGMENT_WRITE copies its local range there (R383), and CAPTURE_READ issues the copy of its local range to host memory (R389); a poisoned line in the range is a MEMORY detection that names the order instead (R479). A fill's last write raises its COMPLETE receipt, and so does the last data write of a CAPTURE_READ and of a PMU_MEASURE that has converted every channel, and that of a CAL_SAVE with its bytes written and its result (R111, R340, R387, R396). -/
def Obligations.OrdersThatPassTheToll : Prop :=
  (∀ (k : Nat) (w : Work) (s : State), s.work? k = some w → w.opcode = Op.burst → w.stage = .routed →
    exec (.orderBurst k) s = .next (s.setWork k { w with stage := .offered, key := [s.fr, 1, w.stall, k] })) ∧
  (∀ (k : Nat) (w : Work) (s : State), s.work? k = some w → w.opcode = Op.segmentWrite → w.stage = .routed →
    exec (.segmentWrite k) s = .next (s.setWork k { w with stage := .offered, key := [s.fr, 1, w.stall, k] })) ∧
  (∀ (k : Nat) (w : Work) (d : Bytes) (s : State), s.work? k = some w → w.opcode = Op.segmentStream → w.stage = .routed →
    exec (.segmentStream k d) s = .next (s.setWork k { w with stage := .offered, key := [s.fr, 1, w.stall, k] })) ∧
  (∀ (k : Nat) (w : Work) (s : State), s.work? k = some w → w.opcode = Op.captureRead → w.stage = .routed →
    exec (.captureRead k) s = .next (s.setWork k { w with stage := .offered, key := [s.fr, 1, w.stall, k] })) ∧
  (∀ (k : Nat) (w : Work) (s : State), s.work? k = some w → w.opcode = Op.tallyArm → w.stage = .routed →
    exec (.tallyArm k) s = .next (s.setWork k { w with stage := .offered, key := [s.fr, 1, w.stall, k] })) ∧
  (∀ (k : Nat) (w : Work) (d : Bytes) (s : State), Mem.wf s.mem = true → s.work? k = some w → w.opcode = Op.segmentStream → w.stage = .window → d.length = w.fillRange.2 →
    ∃ t, exec (.segmentStream k d) s = .next t ∧ t.work? k = some { w with stage := .running, count := d.length } ∧
      memBut w.fillRange.1 d.length s t ∧ (∀ n, n < d.length → Mem.byte t.mem (w.fillRange.1 + n) = d.getD n 0#8) ∧ t.regs = s.regs) ∧
  (∀ (k : Nat) (w : Work) (s : State), s.work? k = some w → w.opcode = Op.segmentWrite → w.stage = .window → s.poisoned (w.body 32 8) w.fillRange.2 = false →
    ∃ t, exec (.segmentWrite k) s = .next t ∧ t.work? k = some { w with stage := .running, count := w.fillRange.2 } ∧
      t.mem = Mem.copy s.mem (w.body 32 8) w.fillRange.1 w.fillRange.2 ∧ t.regs = s.regs) ∧
  (∀ (k : Nat) (w : Work) (s : State), s.work? k = some w → w.opcode = Op.segmentWrite → w.stage = .window → s.poisoned (w.body 32 8) w.fillRange.2 = true →
    exec (.segmentWrite k) s = .next (s.eccDetect (w.body 32 8) w.fillRange.2 [k])) ∧
  (∀ (k : Nat) (w : Work) (s : State), s.work? k = some w → w.opcode = Op.captureRead → w.stage = .window → s.poisoned (w.body 32 8) (w.body 48 8) = false →
    exec (.captureRead k) s = .next ((s.send (.copy w.fn (w.body 40 8) (w.body 32 8) (w.body 48 8))).setWork k { w with stage := .running, count := w.body 48 8 })) ∧
  (∀ (k : Nat) (w : Work) (s : State), s.work? k = some w → w.opcode = Op.captureRead → w.stage = .window → s.poisoned (w.body 32 8) (w.body 48 8) = true →
    exec (.captureRead k) s = .next (s.eccDetect (w.body 32 8) (w.body 48 8) [k])) ∧
  (∀ (k : Nat) (w : Work) (s : State), s.work? k = some w → (w.opcode = Op.segmentWrite ∨ w.opcode = Op.segmentStream) → w.stage = .running →
    exec (.fillComplete k) s = .next (s.finalReceipt k 0 0 w.detail)) ∧
  (∀ (k : Nat) (w : Work) (s : State), s.work? k = some w → (w.opcode = Op.captureRead ∨ w.opcode = Op.pmuMeasure) → w.stage = .running → w.cause = 0 → w.left = [] →
    exec (.lastDataWriteIssued k) s = .next (s.finalReceipt k 0 0 w.detail)) ∧
  (∀ (k : Nat) (w : Work) (s : State), s.work? k = some w → w.opcode = Op.calSave → w.stage = .running → w.cause = 0 → w.left = [] →
    exec (.lastDataWriteIssued k) s = .next (s.finalReceipt k 0 0 (leBytes w.count 4 ++ leBytes w.result 4)))

/-- A NOP that is free to start completes (R395). TIMING_LOAD is refused with cause 0x11B while a commit is pending on one of its channels, else it reads its image (R96, R384). A FENCE, itself behind a fence or not, completes once no earlier order of its stall or of a named stall is left, and waits while an earlier one of its stall is (R391). FRAME_LAUNCH reads its frame (R392). DISABLE starts the disable of its function, shown BUSY with zero counts, and runs until it is done; one of a function whose disable runs joins it (R394, R397, R559, R563). -/
def Obligations.OrdersThatBypassTheToll : Prop :=
  (∀ (k : Nat) (w : Work) (s : State), s.work? k = some w → w.opcode = Op.nop → w.stage = .routed →
    exec (.orderNop k) s = .next (s.finalReceipt k 0)) ∧
  (∀ (k : Nat) (w : Work) (s : State), s.work? k = some w → w.opcode = Op.timingLoad → w.stage = .routed → s.tsPendingOn w.chanRange = true →
    exec (.timingLoad k) s = .next (s.finalReceipt k 3 0x11B)) ∧
  (∀ (k : Nat) (w : Work) (s : State), s.work? k = some w → w.opcode = Op.timingLoad → w.stage = .routed → s.tsPendingOn w.chanRange = false →
    exec (.timingLoad k) s = .next (s.setWork k { w with stage := .dataRead })) ∧
  (∀ (k : Nat) (w : Work) (s : State), s.work? k = some w → w.opcode = Op.fence → (w.stage = .routed ∨ w.stage = .fenced) →
    (∀ p ∈ s.works, p.1 < k → p.2.stall ≠ w.stall ∧ p.2.stall ∉ (List.range (w.body 32 1)).map fun j => w.body (34 + 2 * j) 2) →
    exec (.orderFence k) s = .next (s.finalReceipt k 0)) ∧
  (∀ (k : Nat) (w : Work) (s : State), s.work? k = some w → w.opcode = Op.fence → (∃ p ∈ s.works, p.1 < k ∧ p.2.stall = w.stall) →
    exec (.orderFence k) s = .next s) ∧
  (∀ (k : Nat) (w : Work) (s : State), s.work? k = some w → w.opcode = Op.frameLaunch → w.stage = .routed →
    exec (.frameLaunch k) s = .next (s.setWork k { w with stage := .dataRead })) ∧
  (∀ (k : Nat) (w : Work) (s : State), s.work? k = some w → w.opcode = Op.disable → w.stage = .routed → (s.func (w.body 32 1)).disabling = false →
    exec (.orderDisable k) s = .next (((s.setWork k { w with stage := .running }).startDisable (w.body 32 1) (some k)).disableBusy (w.body 32 1))) ∧
  (∀ (k : Nat) (w : Work) (s : State), s.work? k = some w → w.opcode = Op.disable → w.stage = .routed → (s.func (w.body 32 1)).disabling = true →
    exec (.orderDisable k) s = .next (s.setWork k { w with stage := .running, result := 1 }))

/-- The Toll decides the first order offered to it; without one nothing happens. PACE shows the reading of each decision; an order that cannot hold is refused with its cause, one that can hold later enters the delay list or is refused where it is full, and one that passes takes its resources and gets its ADMITTED receipt (R399, R401, R405). A participant of a joint burst waits for its PREPARE with the 10 ms timer; one that is refused votes NO where it was prepared, one that can hold later is delayed, and one that passes is HELD, and goes on with the exchange (R266). The tick at or after the earliest release time offers that order again, ahead of what arrives then (R398, R417); without an order on the list nothing happens. The window of an admitted order begins at its reserved start (R405); one that begins in the scope of a rail that warns overlaps the dip, and its order is void with cause 0x226 (R554, R555). Every 100 µs the modelled temperatures take one step with the energies drawn, which are counted (R411, R598). A sensor that reads higher raises its node's temperature, and a junction above 105 °C is a THERMAL detection (R411, R414). A limit register takes its value for the next decision; one that leaves admitted demand above the new limit also sets LIMIT_WRITE with its router event (R419, R420). -/
def Obligations.TollAndAwning : Prop :=
  (∀ s : State, (∀ p ∈ s.works, p.2.stage ≠ .offered) → exec .tollDecision s = .next s) ∧
  (∀ (k c : Nat) (w : Work) (s : State), firstBy (·.key) (s.works.filter fun p => p.2.stage == .offered) = some (k, w) → (w.opcode = Op.burst → w.isJoint = false) →
    let u := s.set F.TOLL_STATUS_PACE (s.get F.PWR_PACE_READING)
    (match u.tollVerdict k w with | .refuse x => some x | _ => none) = some c →
    exec .tollDecision s = .next (u.tollRefuse k w c)) ∧
  (∀ (k : Nat) (w : Work) (s : State), firstBy (·.key) (s.works.filter fun p => p.2.stage == .offered) = some (k, w) → (w.opcode = Op.burst → w.isJoint = false) →
    let u := s.set F.TOLL_STATUS_PACE (s.get F.PWR_PACE_READING)
    (match u.tollVerdict k w with | .wait => true | _ => false) = true →
    exec .tollDecision s = .next (u.defer k w)) ∧
  (∀ (k x : Nat) (w : Work) (r : Resv) (post : Store Nat Postpone) (s : State), firstBy (·.key) (s.works.filter fun p => p.2.stage == .offered) = some (k, w) → (w.opcode = Op.burst → w.isJoint = false) →
    let u := s.set F.TOLL_STATUS_PACE (s.get F.PWR_PACE_READING)
    (match u.tollVerdict k w with | .pass a b c => some (a, b, c) | _ => none) = some (r, x, post) →
    ∃ t, exec .tollDecision s = .next t ∧ t = (u.take k w r x post).admitOrder k ∧
      (t.work? k).map (fun v => (v.stage, v.s0, v.held, v.admittedRcpt)) = some (.admitted, x, true, true)) ∧
  (∀ (k : Nat) (w : Work) (s : State), firstBy (·.key) (s.works.filter fun p => p.2.stage == .offered) = some (k, w) → w.opcode = Op.burst → w.isJoint = true →
    let u := s.set F.TOLL_STATUS_PACE (s.get F.PWR_PACE_READING)
    u.joint w.jointId = none → u.coordinates w = false →
    exec .tollDecision s = .next ((u.setJoint w.jointId { work := some k, timer := some (s.fr + jointTimer) }).modWork k fun w => { w with stage := .joint })) ∧
  (∀ (k c : Nat) (w : Work) (s : State), firstBy (·.key) (s.works.filter fun p => p.2.stage == .offered) = some (k, w) → w.opcode = Op.burst → w.isJoint = true →
    let u := s.set F.TOLL_STATUS_PACE (s.get F.PWR_PACE_READING)
    u.jointAwaits k w = none →
    let v := u.setJoint w.jointId { (u.joint w.jointId).getD {} with phase := .deciding, work := some k, timer := none }
    (match v.tollVerdict k w with | .refuse x => some x | _ => none) = some c →
    exec .tollDecision s = .next (v.jointRefuse k w c)) ∧
  (∀ (k : Nat) (w : Work) (s : State), firstBy (·.key) (s.works.filter fun p => p.2.stage == .offered) = some (k, w) → w.opcode = Op.burst → w.isJoint = true →
    let u := s.set F.TOLL_STATUS_PACE (s.get F.PWR_PACE_READING)
    u.jointAwaits k w = none →
    let v := u.setJoint w.jointId { (u.joint w.jointId).getD {} with phase := .deciding, work := some k, timer := none }
    (match v.tollVerdict k w with | .wait => true | _ => false) = true →
    exec .tollDecision s = .next (v.defer k w)) ∧
  (∀ (k x : Nat) (w : Work) (r : Resv) (post : Store Nat Postpone) (s : State), firstBy (·.key) (s.works.filter fun p => p.2.stage == .offered) = some (k, w) → w.opcode = Op.burst → w.isJoint = true →
    let u := s.set F.TOLL_STATUS_PACE (s.get F.PWR_PACE_READING)
    u.jointAwaits k w = none →
    let v := u.setJoint w.jointId { (u.joint w.jointId).getD {} with phase := .deciding, work := some k, timer := none }
    (match v.tollVerdict k w with | .pass a b c => some (a, b, c) | _ => none) = some (r, x, post) →
    exec .tollDecision s = .next (v.jointHeld k w r x post)) ∧
  (∀ s : State, s.waiting = [] → exec .delayRelease s = .next s) ∧
  (∀ (k : Nat) (w : Work) (s : State), firstBy (fun w => [w.release, w.entered]) s.waiting = some (k, w) →
    exec .delayRelease s = .next ((s.advanceTo (s.tickAt w.release)).setWork k { w with stage := .offered, key := [max s.fr (s.tickAt w.release), 0, w.release, w.entered] })) ∧
  (∀ (k : Nat) (w : Work) (s : State), s.work? k = some w → w.stage = .admitted → ((Store.keys s.warnSince).any fun r => { w with stage := .window }.inDipScope r) = false →
    exec (.windowStart k) s = .next ((s.advanceTo w.resv.start).setWork k { w with stage := .window })) ∧
  (∀ (k : Nat) (w : Work) (s : State), s.work? k = some w → w.stage = .admitted → ((Store.keys s.warnSince).any fun r => { w with stage := .window }.inDipScope r) = true →
    exec (.windowStart k) s = .next (((s.advanceTo w.resv.start).setWork k { w with stage := .window }).voidWork k 0x226)) ∧
  (∀ (l : List Nat) (s : State), ∃ t, exec (.awningUpdate l) s = .next t ∧
    t.awn = s.awnStep s.awn (nodeDomains.map fun ds => ((ds.map fun d => l.getD d 0).sum : Rat) / 100) ∧ t.energy = ((List.range 20).map fun d => s.energy.getD d 0 + l.getD d 0) ∧
    regsBut [.PWR_ENERGY_n, .AWN_TEMP_n, .AWN_HEADROOM] s t ∧ t.mem = s.mem ∧ t.works = s.works) ∧
  (∀ (a b c d : Int) (s : State), ∃ t, exec (.awningSensorCorrect [a, b, c, d]) s = .next t ∧
      t.awn = [max (s.awn.getD 0 0) ((a : Rat) / 10), max (s.awn.getD 1 0) ((b : Rat) / 10), max (s.awn.getD 2 0) ((c : Rat) / 10), max (s.awn.getD 3 0) ((d : Rat) / 10)] ∧
      t.detections = s.detections ++ (((List.range 3).filter fun n => decide (1050 < [a, b, c, d].getD n 0)).map fun n => { kind := 9, cause := 0x227, source := 0xA00 + n, at_ := s.fr }) ∧
      regsBut [.AWN_EVENTS, .AWN_TEMP_n, .AWN_HEADROOM] s t ∧ t.works = s.works ∧ t.mem = s.mem) ∧
  (∀ (x : Nat) (r : RegName) (v : Word) (s : State), s.booted = true → [RegName.AWN_SUPPLY, .AWN_COOLANT, .AWN_GUARD][x]? = some r → (s.wr ⟨r, 0, 0⟩ (v &&& BitVec.ofNat 32 r.spec.rw)).demandOk = true →
    exec (.awnLimitWrite x v) s = .next (s.wr ⟨r, 0, 0⟩ (v &&& BitVec.ofNat 32 r.spec.rw))) ∧
  (∀ (x : Nat) (r : RegName) (v : Word) (s : State), s.booted = true → [RegName.AWN_SUPPLY, .AWN_COOLANT, .AWN_GUARD][x]? = some r → (s.wr ⟨r, 0, 0⟩ (v &&& BitVec.ofNat 32 r.spec.rw)).demandOk = false →
    exec (.awnLimitWrite x v) s = .next (((s.wr ⟨r, 0, 0⟩ (v &&& BitVec.ofNat 32 r.spec.rw)).setBit F.AWN_EVENTS_LIMIT_WRITE).raise 0x474 s.fr))

/-- A work item enters its class queue (R422, R426), or is refused with cause 0x103 and QUEUE_FULL where 4,096 stand in it (R426). The first item of the highest class goes to one of the suitable free cores within the headroom (R428, R430); one that ran on another core before sets MIGRATED (R435). No item goes to another core or beyond the headroom. Without a free core it pre-empts the running item of the lowest class below its own that was dispatched last, whose context is then saved (R429, R430); nothing is pre-empted where a core is free, the context store is full, the running charge is above the headroom, or no lower class runs. A saved context frees the core and puts the item at the head of its class (R427); an item that is void then waits only for its writes (R427). No work is shed within the headroom, nor any item of class 0; a sole running item of another class is pre-empted when the running charge exceeds the headroom, with SHED (R430). EXIT, and an unhandled exception with its code below 32 set bits, end an item: it leaves its core and waits for its writes (R432, R433); WAIT_FOR out of its range answers 3, with a full delay list 1, else it answers 0 and delays the item by u µs of device time (R432, R434). TIME answers with device time; HOST_WRITE out of its range answers 3, else 0 and the copy enters the transmit queue (R339, R432); MBX_SEND answers 2 on a full channel, else 0 and fills it with its 64 bytes (R432, R448). A source with a poisoned line is a MEMORY detection that names the item (R479). The tick at or after the earliest release time puts every item that it reaches at the head of its class, in list order (R434). Once its writes are acknowledged an item that has ended completes, one that is void gets its VOID receipt, and one that waits may be dispatched, like a suspended graph (R435, R439). A lockstep mismatch locks its safety core out and is a detection that names the item on it (R424). A write of the pool is taken, unless it holds no safety core: that sets POOL_REJECT (R445). -/
def Obligations.WorkItems : Prop :=
  (∀ (k : Nat) (w : Work) (s : State), s.work? k = some w → w.opcode = Op.work → w.stage = .routed → ((s.itemsIn .queued).filter fun p => p.2.cls == w.cls).length < 4096 →
    exec (.orderWork k) s = .next ((s.setWork k { w with stage := .queued, key := [s.fr, w.stall, k] }).setItem k {})) ∧
  (∀ (k : Nat) (w : Work) (s : State), s.work? k = some w → w.opcode = Op.work → w.stage = .routed → 4096 ≤ ((s.itemsIn .queued).filter fun p => p.2.cls == w.cls).length →
    exec (.orderWork k) s = .next (((s.setBit F.TOLL_SCHED_EVENTS_QUEUE_FULL).raise 0x470 s.fr).finalReceipt k 3 0x103)) ∧
  (∀ (c k : Nat) (w : Work) (s : State), s.nextItem = some (k, w) → (s.freeCores w.cls).contains c = true → s.runCharge + s.get F.TOLL_SCHED_CHARGE_P_CORE ≤ s.get F.AWN_HEADROOM_HEADROOM → 
    ((s.item k).last = none ∨ (s.item k).last = some c) →
    exec (.itemDispatch c) s = .next ((((s.setItem k { s.item k with core := some c, num := s.schedNo, madeRoom := none }).nextNo).setStage k .running).dippedStart k)) ∧
  (∀ (c d k : Nat) (w : Work) (s : State), s.nextItem = some (k, w) → (s.freeCores w.cls).contains c = true → s.runCharge + s.get F.TOLL_SCHED_CHARGE_P_CORE ≤ s.get F.AWN_HEADROOM_HEADROOM → 
    (s.item k).last = some d → d ≠ c →
    exec (.itemDispatch c) s = .next ((((((s.setBit F.TOLL_SCHED_EVENTS_MIGRATED).raise 0x472 s.fr).setItem k { s.item k with core := some c, num := s.schedNo, madeRoom := none }).nextNo).setStage k .running).dippedStart k)) ∧
  (∀ (c k : Nat) (w : Work) (s : State), s.nextItem = some (k, w) → ((s.freeCores w.cls).contains c = false ∨ s.get F.AWN_HEADROOM_HEADROOM < s.runCharge + s.get F.TOLL_SCHED_CHARGE_P_CORE) →
    exec (.itemDispatch c) s = .next s) ∧
  (∀ (k v : Nat) (w x : Work) (s : State), ((List.range 4).findSome? fun cls => match s.firstOf cls with | some p => if s.hasVictim p.1 = true then none else some p | none => none) = some (k, w) → (s.freeCores w.cls) = [] → s.contexts < 4096 →
    s.runCharge ≤ s.get F.AWN_HEADROOM_HEADROOM → s.victim w.cls = some (v, x) →
    exec .preempt s = .next ((s.setItem v { s.item v with madeRoom := some k }).setStage v .saving)) ∧
  (∀ (k : Nat) (w : Work) (s : State), ((List.range 4).findSome? fun cls => match s.firstOf cls with | some p => if s.hasVictim p.1 = true then none else some p | none => none) = some (k, w) → (s.freeCores w.cls ≠ [] ∨ 4096 ≤ s.contexts ∨ s.get F.AWN_HEADROOM_HEADROOM < s.runCharge ∨ s.victim w.cls = none) →
    exec .preempt s = .next s) ∧
  (∀ (c k : Nat) (w : Work) (s : State), s.itemOn c = some (k, w) → w.stage = .saving → w.cause = 0 → exec (.contextSaved c) s = .next ((s.leaveCore k).toHead k)) ∧
  (∀ (c k : Nat) (w : Work) (s : State), s.itemOn c = some (k, w) → w.stage = .saving → w.cause ≠ 0 → exec (.contextSaved c) s = .next ((s.leaveCore k).setStage k .stopped)) ∧
  (∀ s : State, s.runCharge ≤ s.get F.AWN_HEADROOM_HEADROOM → exec .workShed s = .next s) ∧
  (∀ s : State, (∀ p ∈ s.itemsIn .running, p.2.cls = 0) → exec .workShed s = .next s) ∧
  (∀ (k : Nat) (w : Work) (s : State), s.itemsIn .running = [(k, w)] → 1 ≤ w.cls → s.get F.AWN_HEADROOM_HEADROOM < s.runCharge → s.contexts < 4096 → Store.wf s.works →
    exec .workShed s = .next ((((s.setBit F.TOLL_SCHED_EVENTS_SHED).interrupt k none)).raise 0x471 s.fr)) ∧
  (∀ (x c k : Nat) (w : Work) (s : State), s.itemOn c = some (k, w) → w.cause = 0 → 
    exec (.callExit c x) s = .next ((s.leaveCore k).modWork k fun w => { w with stage := .closing, count := x % 2 ^ 64 })) ∧
  (∀ (x c k : Nat) (w : Work) (s : State), s.itemOn c = some (k, w) → w.cause = 0 → 
    exec (.itemException c x) s = .next ((s.leaveCore k).modWork k fun w => { w with stage := .closing, count := (0xFFFFFFFF * 2 ^ 32 + x % 2 ^ 32) % 2 ^ 64 })) ∧
  (∀ (u c k : Nat) (w : Work) (s : State), s.itemOn c = some (k, w) → w.cause = 0 → w.stage = .running → (u = 0 ∨ 4294967295 < u) → exec (.waitFor c u) s = .next { s with callRet := (3, 0) }) ∧
  (∀ (u c k : Nat) (w : Work) (s : State), s.itemOn c = some (k, w) → w.cause = 0 → w.stage = .running → 1 ≤ u → u ≤ 4294967295 → 4096 ≤ (s.itemsIn .delayed).length → exec (.waitFor c u) s = .next { s with callRet := (1, 0) }) ∧
  (∀ (u c k : Nat) (w : Work) (s : State), s.itemOn c = some (k, w) → w.cause = 0 → w.stage = .running → 1 ≤ u → u ≤ 4294967295 → (s.itemsIn .delayed).length < 4096 →
    ∃ t, exec (.waitFor c u) s = .next t ∧ t.callRet = (0, 0) ∧ t.work? k = some { w with stage := .delayed } ∧ (t.item k).release = s.deviceTime + u * 4096000 ∧ (t.item k).core = none ∧ (t.item k).unacked = true ∧ t.regs = s.regs ∧ t.mem = s.mem) ∧
  (∀ (c k : Nat) (w : Work) (s : State), s.itemOn c = some (k, w) → w.cause = 0 → exec (.callTime c) s = .next { s with callRet := (s.dt80 s.fr % 2 ^ 64, s.dt80 s.fr / 2 ^ 64) }) ∧
  (∀ (a d n c k : Nat) (w : Work) (s : State), s.itemOn c = some (k, w) → w.cause = 0 → (n < 64 ∨ 2 ^ 24 < n ∨ n % 64 ≠ 0 ∨ 2 ^ 52 < d + n) → exec (.hostWrite c a d n) s = .next { s with callRet := (3, 0) }) ∧
  (∀ (a d n c k : Nat) (w : Work) (s : State), s.itemOn c = some (k, w) → w.cause = 0 → 64 ≤ n → n ≤ 2 ^ 24 → n % 64 = 0 → d + n ≤ 2 ^ 52 → s.poisoned a n = false →
    exec (.hostWrite c a d n) s = .next { s with tx := s.tx ++ [.copy w.fn d a n], callRet := (0, 0) }) ∧
  (∀ (a d n c k : Nat) (w : Work) (s : State), s.itemOn c = some (k, w) → w.cause = 0 → 64 ≤ n → n ≤ 2 ^ 24 → n % 64 = 0 → d + n ≤ 2 ^ 52 → s.poisoned a n = true →
    exec (.hostWrite c a d n) s = .next (s.eccDetect a n [k])) ∧
  (∀ (a c k : Nat) (w : Work) (s : State), s.itemOn c = some (k, w) → w.cause = 0 → (s.stall w.stall).msg.isSome = true → exec (.mbxSend c a) s = .next { s with callRet := (2, 0) }) ∧
  (∀ (a c k : Nat) (w : Work) (s : State), s.itemOn c = some (k, w) → w.cause = 0 → (s.stall w.stall).msg = none → s.poisoned a 64 = true → exec (.mbxSend c a) s = .next (s.eccDetect a 64 [k])) ∧
  (∀ (a c k : Nat) (w : Work) (s : State), s.itemOn c = some (k, w) → w.cause = 0 → (s.stall w.stall).msg = none → s.poisoned a 64 = false →
    ∃ t, exec (.mbxSend c a) s = .next t ∧ (t.stall w.stall).msg = some (Mem.bytes s.mem a 64) ∧ t.callRet = (0, 0) ∧ t.mem = s.mem ∧ t.works = s.works ∧ t.events = s.events ++ [{ source := 0x40C + w.fn, at_ := s.fr, rising := true, mark := 0 }]) ∧
  (∀ s : State, s.delayOrder = [] → exec .itemDelayRelease s = .next s) ∧
  (∀ (k : Nat) (l : List Nat) (s : State), s.delayOrder = k :: l →
    let d := tickOf (max (s.item k).release s.deviceTime)
    exec .itemDelayRelease s = .next (((k :: l).filter fun j => decide ((s.item j).release ≤ d)).reverse.foldl (fun s j => s.toHead j) (s.advanceTo (s.toFree d.toNat)))) ∧
  (∀ (k : Nat) (w : Work) (s : State), s.work? k = some w → w.opcode = Op.work → w.stage = .closing →
    exec (.itemWritesAcked k) s = .next ((s.setItem k { s.item k with unacked := false }).finalReceipt k 0 0 w.detail)) ∧
  (∀ (k : Nat) (w : Work) (s : State), s.work? k = some w → w.opcode = Op.work → w.stage = .stopped →
    exec (.itemWritesAcked k) s = .next ((s.setItem k { s.item k with unacked := false }).finalReceipt k 2 w.cause)) ∧
  (∀ (k : Nat) (w : Work) (s : State), s.work? k = some w → w.opcode = Op.work → w.stage ≠ .closing → w.stage ≠ .stopped →
    exec (.itemWritesAcked k) s = .next (s.setItem k { s.item k with unacked := false })) ∧
  (∀ (k : Nat) (w : Work) (s : State), s.work? k = some w → w.opcode = Op.graph →
    exec (.itemWritesAcked k) s = .next (s.setGraph k { s.graph k with unacked := false })) ∧
  (∀ (c : Nat) (s : State), c < 32 → c % 8 = 0 →
    ∃ t, exec (.lockstepMismatch c) s = .next t ∧ bitOf (t.get F.TOLL_SCHED_LOCKOUT_CORES) c = true ∧ t.bit F.TOLL_SCHED_EVENTS_LOCKOUT = true ∧
      t.detections = s.detections ++ [{ kind := 7, cause := 0x225, source := 0x820 + c / 8, works := ((s.itemOn c).map (·.1)).toList, at_ := s.fr }] ∧ regsBut [.TOLL_SCHED_LOCKOUT, .TOLL_SCHED_EVENTS] s t ∧ t.works = s.works) ∧
  (∀ (v : Word) (s : State), s.booted = true → v &&& 0x01010101#32 ≠ 0#32 → exec (.schedPoolWrite v) s = .next (s.set F.TOLL_SCHED_POOL_CORES v.toNat)) ∧
  (∀ (v : Word) (s : State), s.booted = true → v &&& 0x01010101#32 = 0#32 → exec (.schedPoolWrite v) s = .next (s.setBit F.TOLL_SCHED_EVENTS_POOL_REJECT))

/-- A graph waits for the orders of its stall on which it depends (R390); without any it takes its place in the graph queue with the descriptor that it reads, which ends it MALFORMED with cause 0x013 where it breaks its tables (R436, R437), and VOID with cause 0x224 where a line of it is poisoned (R479); an offline measurement reads its list from host memory, and a full queue refuses with cause 0x103 (R436, R445). With its list an offline measurement of a closed watch's region is queued, and one that breaks the rules of such a list is MALFORMED (R311, R436). A graph whose dependencies are gone starts in the same way, and one that still has one waits on (R390). The first graph of the queue runs on the lowest free unit within the headroom (R430, R438); without one, none runs. A watch that holds its unit suspends it, to the head of the queue (R439). Each node of a running graph reads its input and writes its output at DST, nothing else in memory and no register (R437): SUM the 16-byte sum of the 64-bit words, OR their 8-byte OR, POPCOUNT the number of ones, COPY the bytes; RUNS the runs of ones that fit before its final record, which tells whether all did, and nothing without room for one; SELECT the stamp records of its source, on request without markers, and an ending record; STATS the count, the saturated sum, the least and the greatest, and the saturated sum of squares of the deviations from the first, of which the extremes of no element are a free value. A node whose input holds a poisoned line writes nothing and is a MEMORY detection that names the graph (R479). When every node has written the graph completes (R440), and not before; an offline measurement completes with the results of its descriptors from the region's records (R311, R324), or a MEMORY detection where a line of the region is poisoned; one that is void ends VOID with its cause. -/
def Obligations.GraphsAndNodes : Prop :=
  (∀ (k : Nat) (w : Work) (s : State), s.work? k = some w → w.opcode = Op.graph → w.stage = .routed → w.meas = [] → s.depends k w ≠ [] →
    exec (.orderGraph k) s = .next (s.setWork k { w with stage := .depWait, waits := s.depends k w })) ∧
  (∀ (k : Nat) (w : Work) (s : State), s.work? k = some w → w.opcode = Op.graph → w.stage = .routed → w.meas = [] → s.depends k w = [] → s.graphsInQueue < 1024 → w.offline = false → s.poisoned (w.body 32 8) (64 + 32 * Mem.le s.mem (w.body 32 8 + 6) 1) = false →
    s.descriptorOk (Mem.bytes s.mem (w.body 32 8) (64 + 32 * Mem.le s.mem (w.body 32 8 + 6) 1)) = true →
    exec (.orderGraph k) s = .next (((s.setGraph k { place := s.schedNo }).nextNo).setWork k { w with stage := .queued, data := Mem.bytes s.mem (w.body 32 8) (64 + 32 * Mem.le s.mem (w.body 32 8 + 6) 1) })) ∧
  (∀ (k : Nat) (w : Work) (s : State), s.work? k = some w → w.opcode = Op.graph → w.stage = .routed → w.meas = [] → s.depends k w = [] → s.graphsInQueue < 1024 → w.offline = false → s.poisoned (w.body 32 8) (64 + 32 * Mem.le s.mem (w.body 32 8 + 6) 1) = false →
    s.descriptorOk (Mem.bytes s.mem (w.body 32 8) (64 + 32 * Mem.le s.mem (w.body 32 8 + 6) 1)) = false →
    exec (.orderGraph k) s = .next (((s.setGraph k { place := s.schedNo }).nextNo).finalReceipt k 5 0x013)) ∧
  (∀ (k : Nat) (w : Work) (s : State), s.work? k = some w → w.opcode = Op.graph → w.stage = .routed → w.meas = [] → s.depends k w = [] → s.graphsInQueue < 1024 → w.offline = false → s.poisoned (w.body 32 8) (64 + 32 * Mem.le s.mem (w.body 32 8 + 6) 1) = true →
    exec (.orderGraph k) s = .next ((((s.setGraph k { place := s.schedNo }).nextNo).eccDetect (w.body 32 8) (64 + 32 * Mem.le s.mem (w.body 32 8 + 6) 1) [k]).finalReceipt k 2 0x224)) ∧
  (∀ (k : Nat) (w : Work) (s : State), s.work? k = some w → w.opcode = Op.graph → w.stage = .routed → w.meas = [] → s.depends k w = [] → s.graphsInQueue < 1024 → w.offline = true →
    exec (.orderGraph k) s = .next (((s.setGraph k { place := s.schedNo }).nextNo).setWork k { w with stage := .dataRead })) ∧
  (∀ (k : Nat) (w : Work) (s : State), s.work? k = some w → w.opcode = Op.graph → w.stage = .routed → w.meas = [] → s.depends k w = [] → 1024 ≤ s.graphsInQueue →
    exec (.orderGraph k) s = .next (((s.setBit F.TOLL_SCHED_EVENTS_QUEUE_FULL).raise 0x470 s.fr).finalReceipt k 3 0x103)) ∧
  (∀ (k : Nat) (w : Work) (s : State), s.work? k = some w → w.opcode = Op.graph → w.stage = .routed → w.meas ≠ [] → w.offline = true → s.offlineOk k w = true →
    exec (.orderGraph k) s = .next (s.setWork k { w with stage := .queued, data := [] })) ∧
  (∀ (k : Nat) (w : Work) (s : State), s.work? k = some w → w.opcode = Op.graph → w.stage = .routed → w.meas ≠ [] → w.offline = true → s.offlineOk k w = false →
    exec (.orderGraph k) s = .next (s.finalReceipt k 5 0x013)) ∧
  (∀ (k : Nat) (w : Work) (s : State), s.work? k = some w → w.opcode = Op.graph → w.stage = .depWait → (∀ d ∈ w.waits, s.work? d = none) →
    exec (.graphDependencyMet k) s = .next (s.startGraph k w)) ∧
  (∀ (k : Nat) (w : Work) (s : State), s.work? k = some w → w.opcode = Op.graph → w.stage = .depWait → (∃ d ∈ w.waits, (s.work? d).isSome = true) →
    exec (.graphDependencyMet k) s = .next s) ∧
  (∀ (k u : Nat) (w : Work) (s : State), leastBy (fun k => (s.graph k).place) (s.queuedGraphs.filter fun p => !(s.graph p.1).unacked) = some (k, w) → s.freeUnit = some u →
    s.runCharge + s.get F.TOLL_SCHED_CHARGE_P_GU ≤ s.get F.AWN_HEADROOM_HEADROOM →
    exec .graphDispatch s = .next (((s.setGraph k { s.graph k with unit := some u }).setStage k .running).dippedStart k)) ∧
  (∀ (s : State), (s.freeUnit = none ∨ s.get F.AWN_HEADROOM_HEADROOM < s.runCharge + s.get F.TOLL_SCHED_CHARGE_P_GU) →
    exec .graphDispatch s = .next s) ∧
  (∀ (u k : Nat) (w : Work) (s : State), s.graphOn u = some (k, w) → w.stage = .running → bitOf (s.get F.TALLY_MEAS_UNITS_HELD) u = true →
    ∃ t, exec (.graphSuspend u) s = .next t ∧ t.graph k = { s.graph k with unit := none, place := -(s.schedNo + 1 : Int), unacked := true } ∧ t.work? k = some { w with stage := .preempted } ∧ t.regs = s.regs ∧ t.mem = s.mem) ∧
  (∀ (k : Nat) (w : Work) (n : Node) (s : State), dueNode s k 1 = some (w, n) → s.poisoned (s.nodeInput k w.data n).1 (s.nodeInput k w.data n).2 = false →
    ∃ t, exec (.graphSum k) s = .next t ∧ t.mem = Mem.setBytes s.mem n.dst (leBytes (words64 (Mem.bytes s.mem (s.nodeInput k w.data n).1 (s.nodeInput k w.data n).2)).sum 16) ∧ t.regs = s.regs ∧ t.works = s.works ∧ (t.graph k).outs = (s.graph k).outs ++ [16]) ∧
  (∀ (k : Nat) (w : Work) (n : Node) (s : State), dueNode s k 2 = some (w, n) → s.poisoned (s.nodeInput k w.data n).1 (s.nodeInput k w.data n).2 = false →
    ∃ t, exec (.graphOr k) s = .next t ∧ t.mem = Mem.setBytes s.mem n.dst (leBytes ((words64 (Mem.bytes s.mem (s.nodeInput k w.data n).1 (s.nodeInput k w.data n).2)).foldl (· ||| ·) 0) 8) ∧ t.regs = s.regs ∧ t.works = s.works ∧ (t.graph k).outs = (s.graph k).outs ++ [8]) ∧
  (∀ (k : Nat) (w : Work) (n : Node) (s : State), dueNode s k 3 = some (w, n) → s.poisoned (s.nodeInput k w.data n).1 (s.nodeInput k w.data n).2 = false →
    ∃ t, exec (.graphPopcount k) s = .next t ∧ t.mem = Mem.setBytes s.mem n.dst (leBytes ((words64 (Mem.bytes s.mem (s.nodeInput k w.data n).1 (s.nodeInput k w.data n).2)).map fun x => (setBits x 64).length).sum 8) ∧ t.regs = s.regs ∧ t.works = s.works ∧ (t.graph k).outs = (s.graph k).outs ++ [8]) ∧
  (∀ (k : Nat) (w : Work) (n : Node) (rs : List (Nat × Nat)) (s : State), dueNode s k 4 = some (w, n) → 8 ≤ n.param → s.poisoned (s.nodeInput k w.data n).1 (s.nodeInput k w.data n).2 = false →
    runsOf ((List.range (if n.inp.isSome = true then 8 * (s.nodeInput k w.data n).2 else n.count)).map fun j => bitOf (Bytes.le (Mem.bytes s.mem (s.nodeInput k w.data n).1 (s.nodeInput k w.data n).2) (j / 8) 1) (j % 8)) = rs →
    ∃ t, exec (.graphRuns k) s = .next t ∧ t.regs = s.regs ∧ t.works = s.works ∧ (t.graph k).outs = (s.graph k).outs ++ [8 * (rs.take (n.param / 8 - 1)).length] ∧
      t.mem = Mem.setBytes s.mem n.dst (((rs.take (n.param / 8 - 1)).flatMap fun r => leBytes (r.1 + r.2 * 2 ^ 32) 8) ++
        leBytes (if rs.length ≤ n.param / 8 - 1 then 2 ^ 64 - 1 else 2 ^ 63 - 1) 8)) ∧
  (∀ (k : Nat) (w : Work) (n : Node) (s : State), dueNode s k 4 = some (w, n) → n.param < 8 → s.poisoned (s.nodeInput k w.data n).1 (s.nodeInput k w.data n).2 = false →
    ∃ t, exec (.graphRuns k) s = .next t ∧ t.regs = s.regs ∧ t.works = s.works ∧ (t.graph k).outs = (s.graph k).outs ++ [0] ∧ t.mem = s.mem) ∧
  (∀ (k : Nat) (w : Work) (n : Node) (s : State), dueNode s k 5 = some (w, n) → s.poisoned (s.nodeInput k w.data n).1 (s.nodeInput k w.data n).2 = false →
    let l := (records16 (Mem.bytes s.mem (s.nodeInput k w.data n).1 (s.nodeInput k w.data n).2)).filter fun r => (n.param % 2 ^ 16 == 0xFFFF || Bytes.le r 10 2 == n.param % 2 ^ 16) && !(bitOf n.param 16 && bitOf (Bytes.le r 12 1) 4)
    ∃ t, exec (.graphSelect k) s = .next t ∧ t.mem = Mem.setBytes s.mem n.dst (l.flatten ++ List.replicate 16 0xFF#8) ∧ t.regs = s.regs ∧ t.works = s.works ∧ (t.graph k).outs = (s.graph k).outs ++ [(l.flatten ++ List.replicate 16 0xFF#8).length - 16]) ∧
  (∀ (k : Nat) (w : Work) (n : Node) (x : Int) (l : List Int) (s : State), dueNode s k 6 = some (w, n) → s.poisoned (s.nodeInput k w.data n).1 (s.nodeInput k w.data n).2 = false →
    (words64 (Mem.bytes s.mem (s.nodeInput k w.data n).1 (s.nodeInput k w.data n).2)).map (fun v => signed v 64) = x :: l →
    ∃ t, exec (.graphStats k) s = .next t ∧ t.regs = s.regs ∧ t.works = s.works ∧ (t.graph k).outs = (s.graph k).outs ++ [64] ∧
      t.mem = Mem.setBytes s.mem n.dst (leBytes (l.length + 1) 8 ++ leBytes (unsigned (clampInt (x :: l).sum (-2 ^ 127) (2 ^ 127 - 1)) 128) 16 ++ leBytes (unsigned (l.foldl min x) 64) 8 ++ leBytes (unsigned (l.foldl max x) 64) 8 ++
        leBytes (min (((x :: l).map fun y => (y - x).natAbs ^ 2).sum) (2 ^ 192 - 1)) 24)) ∧
  (∀ (k : Nat) (w : Work) (n : Node) (s : State), dueNode s k 6 = some (w, n) → s.poisoned (s.nodeInput k w.data n).1 (s.nodeInput k w.data n).2 = false →
    words64 (Mem.bytes s.mem (s.nodeInput k w.data n).1 (s.nodeInput k w.data n).2) = [] →
    ∃ t, exec (.graphStats k) s = .next t ∧ t.regs = s.regs ∧ t.works = s.works ∧ (t.graph k).outs = (s.graph k).outs ++ [64] ∧
      t.mem = Mem.setBytes s.mem n.dst (leBytes 0 8 ++ leBytes 0 16 ++ leBytes s.freeVal 8 ++ leBytes s.freeVal 8 ++ leBytes 0 24)) ∧
  (∀ (k : Nat) (w : Work) (n : Node) (s : State), dueNode s k 7 = some (w, n) → s.poisoned (s.nodeInput k w.data n).1 (s.nodeInput k w.data n).2 = false →
    ∃ t, exec (.graphCopy k) s = .next t ∧ t.mem = Mem.setBytes s.mem n.dst ((Mem.bytes s.mem (s.nodeInput k w.data n).1 (s.nodeInput k w.data n).2)) ∧ t.regs = s.regs ∧ t.works = s.works ∧ (t.graph k).outs = (s.graph k).outs ++ [(s.nodeInput k w.data n).2]) ∧
  (∀ (k op : Nat) (i : Instr) (w : Work) (n : Node) (s : State), (i, op) ∈ [(.graphSum k, 1), (.graphOr k, 2), (.graphPopcount k, 3), (.graphRuns k, 4), (.graphSelect k, 5), (.graphStats k, 6), (.graphCopy k, 7)] → dueNode s k op = some (w, n) →
    s.poisoned (s.nodeInput k w.data n).1 (s.nodeInput k w.data n).2 = true →
    ∃ t, exec i s = .next t ∧ t.mem = s.mem ∧ t.works = s.works ∧ t.detections = s.detections ++ [{ kind := 6, cause := 0x224, source := 0x0700, works := [k], at_ := s.fr }]) ∧
  (∀ (k : Nat) (w : Work) (s : State), s.work? k = some w → w.opcode = Op.graph → w.stage = .running → w.offline = false → (s.graph k).outs.length = nodeCount w.data →
    exec (.graphEnd k) s = .next ((s.setGraph k { s.graph k with unit := none }).finalReceipt k 0)) ∧
  (∀ (k : Nat) (w : Work) (s : State), s.work? k = some w → w.opcode = Op.graph → w.stage = .running → w.offline = false → (s.graph k).outs.length ≠ nodeCount w.data →
    exec (.graphEnd k) s = .next s) ∧
  (∀ (k : Nat) (w : Work) (s : State), s.work? k = some w → w.opcode = Op.graph → w.stage = .running → w.offline = true → s.poisoned (w.body 44 8) (s.regionLen (w.body 44 8)) = false →
    let u := w.offlineMeasures.foldl (fun s m => s.writeResult m (s.offlineIn w) w.cause) s
    exec (.graphEnd k) s = .next ((u.setGraph k { u.graph k with unit := none }).finalReceipt k 0)) ∧
  (∀ (k : Nat) (w : Work) (s : State), s.work? k = some w → w.opcode = Op.graph → w.stage = .running → w.offline = true → s.poisoned (w.body 44 8) (s.regionLen (w.body 44 8)) = true →
    exec (.graphEnd k) s = .next (s.eccDetect (w.body 44 8) (s.regionLen (w.body 44 8)) [k])) ∧
  (∀ (k : Nat) (w : Work) (s : State), s.work? k = some w → w.opcode = Op.graph → w.stage = .stopped →
    let u := if w.offline = true then w.offlineMeasures.foldl (fun s m => s.writeResult m (s.offlineIn w) w.cause) s else s
    exec (.graphEnd k) s = .next ((u.setGraph k { u.graph k with unit := none }).finalReceipt k 2 w.cause))

/-- A word written by the bound sender of a live channel is staged (R446, R450, R451); one of any other agent sets BIND_VIOLATION of its function. A send by any agent but the bound sender ends as an unsupported request with BIND_VIOLATION; one on a full channel ends for a function with Completer Abort, for an inside agent with an access fault (R451, R453); any other makes the staged words the channel's message, sets FULL, raises source 0x44C + n and reads 1 (R451). A read of a message reads 0 with BIND_VIOLATION for any agent but the bound receiver, and the word for that one, whose read of word 15 clears FULL and raises source 0x45C + n (R452). Selecting a stall of the function latches its message in the port, which shows the stall and VALID; of an empty channel, or of another function's stall, nothing is latched (R449). A read of the port returns the latched word, that of word 15 also takes the message off its channel and clears VALID, and one without a latched message reads 0 (R449, R459). -/
def Obligations.Mailboxes : Prop :=
  (∀ (a : Agent) (n w : Nat) (v : Word) (s : State), s.mbxOpen a = true → n < 16 → w < 16 → (s.sharedLive n && bindingIs (s.txId n) a) = true →
    exec (.mbxTxbufWrite a n w v) s = .next (s.wr ⟨.MBX_SHn_TXBUF_w, n, w⟩ v)) ∧
  (∀ (a : Agent) (n w : Nat) (v : Word) (s : State), s.mbxOpen a = true → n < 16 → w < 16 → (s.sharedLive n && bindingIs (s.txId n) a) = false →
    exec (.mbxTxbufWrite a n w v) s = .next (s.bindViolation a)) ∧
  (∀ (a : Agent) (n : Nat) (s : State), s.mbxOpen a = true → n < 16 → (s.sharedLive n && bindingIs (s.txId n) a) = false →
    exec (.mbxSharedSend a n) s = .next ((s.bindViolation a).answerErr .unsupported)) ∧
  (∀ (f r n : Nat) (s : State), s.booted = true → n < 16 → (s.sharedLive n && bindingIs (s.txId n) (.host f r)) = true → s.bit F.MBX_SHn_STATUS_FULL n = true →
    exec (.mbxSharedSend (.host f r) n) s = .next (s.answerErr .completerAbort)) ∧
  (∀ (d n : Nat) (s : State), n < 16 → (s.sharedLive n && bindingIs (s.txId n) (.internal d)) = true → s.bit F.MBX_SHn_STATUS_FULL n = true →
    exec (.mbxSharedSend (.internal d) n) s = .next (s.answerErr .accessFault)) ∧
  (∀ (a : Agent) (n : Nat) (s : State), s.mbxOpen a = true → n < 16 → (s.sharedLive n && bindingIs (s.txId n) a) = true → s.bit F.MBX_SHn_STATUS_FULL n = false →
    exec (.mbxSharedSend a n) s = .next ((((s.commitMessage n).setBit F.MBX_SHn_STATUS_FULL n).raise (0x44C + n) s.fr).answer [1#32])) ∧
  (∀ (a : Agent) (n w : Nat) (s : State), s.mbxOpen a = true → n < 16 → w < 16 → (s.sharedLive n && bindingIs (s.rxId n) a) = false →
    exec (.mbxRxbufRead a n w) s = .next ((s.bindViolation a).answer [0#32])) ∧
  (∀ (a : Agent) (n w : Nat) (s : State), s.mbxOpen a = true → n < 16 → w < 16 → (s.sharedLive n && bindingIs (s.rxId n) a) = true → (w ≠ 15 ∨ s.bit F.MBX_SHn_STATUS_FULL n = false) →
    exec (.mbxRxbufRead a n w) s = .next (s.answer [s.rd ⟨.MBX_SHn_RXBUF_w, n, w⟩])) ∧
  (∀ (a : Agent) (n : Nat) (s : State), s.mbxOpen a = true → n < 16 → (s.sharedLive n && bindingIs (s.rxId n) a) = true → s.bit F.MBX_SHn_STATUS_FULL n = true →
    exec (.mbxRxbufRead a n 15) s = .next
      (((s.answer [s.rd ⟨.MBX_SHn_RXBUF_w, n, 15⟩]).clrBit F.MBX_SHn_STATUS_FULL n).raise (0x45C + n) s.fr)) ∧
  (∀ (fn p k : Nat) (m : Bytes) (s : State), s.booted = true → p < 16 → (s.stall k).msg = some m → s.stallFn k = some fn →
    exec (.mbxPortSelect fn p k) s = .next
      (({ s with ports := Store.put s.ports (fn, p) { valid := true, stall := k, data := m, msgNo := (s.stall k).msgNo } }.set
        F.MBX_PORTp_STATUS_STALL k fn p).setBit F.MBX_PORTp_STATUS_VALID fn p)) ∧
  (∀ (fn p k : Nat) (s : State), s.booted = true → p < 16 → ((s.stall k).msg = none ∨ s.stallFn k ≠ some fn) →
    exec (.mbxPortSelect fn p k) s = .next
      (({ s with ports := Store.put s.ports (fn, p) { stall := k } }.set F.MBX_PORTp_STATUS_STALL k fn p).clrBit F.MBX_PORTp_STATUS_VALID fn p)) ∧
  (∀ (fn p w : Nat) (s : State), s.booted = true → p < 16 → w < 15 → (Store.getD s.ports (fn, p) {}).valid = true →
    exec (.mbxPortDataRead fn p w) s = .next (s.answer [BitVec.ofNat 32 (Bytes.le (Store.getD s.ports (fn, p) {}).data (4 * w) 4)])) ∧
  (∀ (fn p w : Nat) (s : State), s.booted = true → p < 16 → w = 15 → (Store.getD s.ports (fn, p) {}).valid = true →
    exec (.mbxPortDataRead fn p w) s = .next (({ (s.answer [BitVec.ofNat 32 (Bytes.le (Store.getD s.ports (fn, p) {}).data 60 4)]).takePrivate fn (Store.getD s.ports (fn, p) {}) with ports := Store.put s.ports (fn, p) { (Store.getD s.ports (fn, p) {}) with valid := false } }).clrBit F.MBX_PORTp_STATUS_VALID fn p)) ∧
  (∀ (fn p w : Nat) (s : State), s.booted = true → p < 16 → w < 16 → (Store.getD s.ports (fn, p) {}).valid = false →
    exec (.mbxPortDataRead fn p w) s = .next (s.answer [0#32]))

/-- The raised event of the earliest instant is presented: it goes to every enabled route that passes it, with the route's destination and latency, and leaves the queue (R454, R455, R457); without one nothing happens. An arrival at a Crier line that a joint burst holds acts only for that burst's own sources (R259). One less than 1,024 tu after the last at its destination is only counted as merged (R457). Any other sets the latch of a sequencer's event input (R155), drives a Crier line high, low, to its other level or for a pulse of 40,960 tu (R456), reaches an arm line of the Tally, the capture unit and the lanes of a sequencer (R212, R234), an interrupt vector, or a fault input (R455). A route write is ignored with SETUP_BLOCKED while a burst uses its old or new destination (which of them counts: log entry 41), with ROUTE_REJECT where it changes an enabled route otherwise than by EN or enables one with values that no table lists, and otherwise stored (R458). The pulse that ends first takes its line low (R456). -/
def Obligations.EventRouter : Prop :=
  (∀ s : State, s.events = [] → exec .eventPresent s = .next s) ∧
  (∀ (e : RaisedEvent) (s : State), firstEvent s.events = some e →
    ∃ t, exec .eventPresent s = .next t ∧ t.events = s.events.erase e ∧ t.fr = max s.fr e.at_ ∧ t.regs = s.regs ∧ t.mem = s.mem ∧
      t.arrivals = s.arrivals ++ ((s.routesOf e.source).filter fun n => routePasses e (s.get F.EVR_ROUTEn_0_POL n) (s.get F.EVR_ROUTEn_1_MARK_MASK n)).map fun n =>
        { dest := s.get F.EVR_ROUTEn_0_DEST n, source := e.source, at_ := e.at_ + destLatency (s.get F.EVR_ROUTEn_0_DEST n), route := n, action := s.get F.EVR_ROUTEn_0_ACTION n, fn := s.get F.EVR_ROUTEn_2_FUNC n, vector := s.get F.EVR_ROUTEn_2_VECTOR n }) ∧
  (∀ s : State, s.arrivals = [] → exec .eventArrival s = .next s) ∧
  (∀ (a : Arrival) (s : State), firstArrival s.arrivals = some a → 0x100 ≤ a.dest → a.dest < 0x108 → s.crierTakesSource (a.dest - 0x100) a.source = false →
    exec .eventArrival s = .next { s.advanceTo a.at_ with arrivals := s.arrivals.erase a }) ∧
  (∀ (a : Arrival) (x : Tu) (s : State), firstArrival s.arrivals = some a → (0x100 ≤ a.dest → a.dest < 0x108 → s.crierTakesSource (a.dest - 0x100) a.source = true) → Store.get? s.lastArrival a.dest = some x → a.at_ < x + 1024 →
    exec .eventArrival s = .next ({ s.advanceTo a.at_ with arrivals := s.arrivals.erase a }.countUp F.EVR_MERGED_CNT_COUNT)) ∧
  (∀ (a : Arrival) (s : State), firstArrival s.arrivals = some a → a.dest < 0x100 → (∀ x, Store.get? s.lastArrival a.dest = some x → x + 1024 ≤ a.at_) →
    let u := { s.advanceTo a.at_ with arrivals := s.arrivals.erase a, lastArrival := Store.put s.lastArrival a.dest a.at_ }
    exec .eventArrival s = .next (u.latchEvent (a.dest / 8) (a.dest % 8) a.at_)) ∧
  (∀ (a : Arrival) (s : State), firstArrival s.arrivals = some a → 0x100 ≤ a.dest → a.dest < 0x108 → s.crierTakesSource (a.dest - 0x100) a.source = true → (∀ x, Store.get? s.lastArrival a.dest = some x → x + 1024 ≤ a.at_) →
    let u := { s.advanceTo a.at_ with arrivals := s.arrivals.erase a, lastArrival := Store.put s.lastArrival a.dest a.at_ }
    (a.action = 0 → exec .eventArrival s = .next (u.driveCrier (a.dest - 0x100) true a.at_)) ∧ (a.action = 1 → exec .eventArrival s = .next (u.driveCrier (a.dest - 0x100) false a.at_)) ∧
    (a.action = 2 → exec .eventArrival s = .next (u.driveCrier (a.dest - 0x100) (!u.driverLevel (a.dest - 0x100)) a.at_)) ∧
    (3 ≤ a.action → exec .eventArrival s = .next { u.driveCrier (a.dest - 0x100) true a.at_ with pulses := s.pulses ++ [(a.dest - 0x100, a.at_ + 40960)] })) ∧
  (∀ (a : Arrival) (s : State), firstArrival s.arrivals = some a → 0x108 ≤ a.dest → a.dest < 0x110 → (∀ x, Store.get? s.lastArrival a.dest = some x → x + 1024 ≤ a.at_) →
    let u := { s.advanceTo a.at_ with arrivals := s.arrivals.erase a, lastArrival := Store.put s.lastArrival a.dest a.at_ }
    exec .eventArrival s = .next (u.armLineEvent (a.dest - 0x108) a.at_)) ∧
  (∀ (a : Arrival) (s : State), firstArrival s.arrivals = some a → 0x110 ≤ a.dest → a.dest < 0x130 → (∀ x, Store.get? s.lastArrival a.dest = some x → x + 1024 ≤ a.at_) →
    let u := { s.advanceTo a.at_ with arrivals := s.arrivals.erase a, lastArrival := Store.put s.lastArrival a.dest a.at_ }
    exec .eventArrival s = .next (u.acquire (a.dest - 0x110) a.at_)) ∧
  (∀ (a : Arrival) (s : State), firstArrival s.arrivals = some a → 0x130 ≤ a.dest → a.dest < 0x138 → (∀ x, Store.get? s.lastArrival a.dest = some x → x + 1024 ≤ a.at_) →
    let u := { s.advanceTo a.at_ with arrivals := s.arrivals.erase a, lastArrival := Store.put s.lastArrival a.dest a.at_ }
    exec .eventArrival s = .next (u.trigger a.fn a.vector)) ∧
  (∀ (a : Arrival) (s : State), firstArrival s.arrivals = some a → 0x138 ≤ a.dest → a.dest < 0x140 → (∀ x, Store.get? s.lastArrival a.dest = some x → x + 1024 ≤ a.at_) →
    let u := { s.advanceTo a.at_ with arrivals := s.arrivals.erase a, lastArrival := Store.put s.lastArrival a.dest a.at_ }
    exec .eventArrival s = .next (u.detect { kind := 1, cause := 0x220, source := 0x580 + (a.dest - 0x138), routed := a.source })) ∧
  (∀ (n : Nat) (v : Word) (s : State), s.booted = true → n < 2048 →
    let o := s.rd ⟨.EVR_ROUTEn_0, n, 0⟩
    let w := v &&& BitVec.ofNat 32 RegName.EVR_ROUTEn_0.spec.rw
    (s.routeBusy (F.EVR_ROUTEn_0_DEST.get o) = true ∨ s.routeBusy (F.EVR_ROUTEn_0_DEST.get w) = true) →
    exec (.routeWrite n v) s = .next (s.setBit F.EVR_EVENTS_SETUP_BLOCKED)) ∧
  (∀ (n : Nat) (v : Word) (s : State), s.booted = true → n < 2048 →
    let o := s.rd ⟨.EVR_ROUTEn_0, n, 0⟩
    let w := v &&& BitVec.ofNat 32 RegName.EVR_ROUTEn_0.spec.rw
    s.routeBusy (F.EVR_ROUTEn_0_DEST.get o) = false → s.routeBusy (F.EVR_ROUTEn_0_DEST.get w) = false → 
    ((F.EVR_ROUTEn_0_EN.get o = 1 ∧ F.EVR_ROUTEn_0_EN.put w 0 ≠ F.EVR_ROUTEn_0_EN.put o 0) ∨ (F.EVR_ROUTEn_0_EN.get w = 1 ∧ (0x476 < F.EVR_ROUTEn_0_SOURCE.get w ∨ 0x13F < F.EVR_ROUTEn_0_DEST.get w ∨ F.EVR_ROUTEn_0_POL.get w = 3 ∨ (0x130 ≤ F.EVR_ROUTEn_0_DEST.get w ∧ F.EVR_ROUTEn_0_DEST.get w ≤ 0x137 ∧ vecCount (s.get F.EVR_ROUTEn_2_FUNC n) ≤ s.get F.EVR_ROUTEn_2_VECTOR n)))) →
    exec (.routeWrite n v) s = .next (s.setBit F.EVR_EVENTS_ROUTE_REJECT)) ∧
  (∀ (n : Nat) (v : Word) (s : State), s.booted = true → n < 2048 →
    let o := s.rd ⟨.EVR_ROUTEn_0, n, 0⟩
    let w := v &&& BitVec.ofNat 32 RegName.EVR_ROUTEn_0.spec.rw
    s.routeBusy (F.EVR_ROUTEn_0_DEST.get o) = false → s.routeBusy (F.EVR_ROUTEn_0_DEST.get w) = false → 
    (F.EVR_ROUTEn_0_EN.get o = 1 → F.EVR_ROUTEn_0_EN.put w 0 = F.EVR_ROUTEn_0_EN.put o 0) → (F.EVR_ROUTEn_0_EN.get w = 1 → ¬(0x476 < F.EVR_ROUTEn_0_SOURCE.get w ∨ 0x13F < F.EVR_ROUTEn_0_DEST.get w ∨ F.EVR_ROUTEn_0_POL.get w = 3 ∨ (0x130 ≤ F.EVR_ROUTEn_0_DEST.get w ∧ F.EVR_ROUTEn_0_DEST.get w ≤ 0x137 ∧ vecCount (s.get F.EVR_ROUTEn_2_FUNC n) ≤ s.get F.EVR_ROUTEn_2_VECTOR n))) →
    exec (.routeWrite n v) s = .next (s.wr ⟨.EVR_ROUTEn_0, n, 0⟩ w)) ∧
  (∀ s : State, s.pulses = [] → exec .crierPulseEnd s = .next s) ∧
  (∀ (p : Nat × Tu) (s : State), firstPulse s.pulses = some p →
    exec .crierPulseEnd s = .next ({ s.advanceTo p.2 with pulses := s.pulses.erase p }.driveCrier p.1 false p.2))

/-- A TIME_CMD on a hall member or with the servo on is ignored with CMD_IGNORED (R487, R498). Outside a hall an accepted step and rate take effect as one change: device time jumps by the step only, and a step makes it set (R486, R488, R505). On a hall master the change waits for the pair of TIME messages and joins one that waits already (R487). A step beyond the range of OFFSET, and a rate beyond 1,000 ppm, are refused with RANGE, each alone (R485, R507). A date that does not exist is DATE_INVALID; another is the step that makes device time that date, and clears LOST (R493, R503), unless OFFSET would leave its range (R507). The change of a pair of TIME messages takes effect at its hall instant (R487). UTC_OFFSET takes the value written (R492). A servo input does nothing with the servo off or on a member; one beyond STEP_THRESH steps device time, or is RANGE, and the servo is in acquisition; any other updates the rate by the PI rule: in acquisition it goes on to tracking, LOCKED stays, until an input beyond four times LOCK_THRESH, and tracking locks with the sixteenth input in a row within LOCK_THRESH (R498, R499). HOLD_TIMEOUT seconds after the last input a running servo is in holdover (R499). At a whole second device time that has been set is written to the backup in µs, with TV set (R502); the keeper clears TV when its rail falls (R503). -/
def Obligations.DeviceTime : Prop :=
  (∀ (b : Bool) (s : State), s.booted = true → s.cmdIgnored = true →
    exec (.timeStep b) s = .next (s.setBit F.TIME_EVENTS_CMD_IGNORED) ∧ exec .timeRate s = .next (s.setBit F.TIME_EVENTS_CMD_IGNORED) ∧ exec .timeCal s = .next (s.setBit F.TIME_EVENTS_CMD_IGNORED)) ∧
  (∀ s : State, s.booted = true → s.cmdIgnored = false → s.stepTooFar s.stagedStep = false → s.inHall = false →
    exec (.timeStep false) s = .next (s.applyTime (s.changedOffset s.stagedStep s.rateSet s.hallTime) s.rateSet).timeIsSet) ∧
  (∀ s : State, s.booted = true → s.cmdIgnored = false → s.stepTooFar s.stagedStep = false → s.inHall = true →
    exec (.timeStep false) s = .next ({ s with timeNext := some { step := (match s.timeNext with | some c => c.step | none => 0) + s.stagedStep, rate := s.rateSet } }.timeIsSet)) ∧
  (∀ s : State, s.booted = true → s.cmdIgnored = false → s.stepTooFar s.stagedStep = true → 
    exec (.timeStep false) s = .next (s.setBit F.TIME_EVENTS_RANGE)) ∧
  (∀ s : State, s.booted = true → s.cmdIgnored = false → s.stepTooFar s.stagedStep = false → s.stagedRate.natAbs ≤ 281474976 → s.inHall = false →
    exec (.timeStep true) s = .next (s.applyTime (s.changedOffset s.stagedStep s.stagedRate s.hallTime) s.stagedRate).timeIsSet) ∧
  (∀ s : State, s.booted = true → s.cmdIgnored = false → s.stepTooFar s.stagedStep = false → s.stagedRate.natAbs ≤ 281474976 → s.inHall = true →
    exec (.timeStep true) s = .next ({ s with timeNext := some { step := (match s.timeNext with | some c => c.step | none => 0) + s.stagedStep, rate := s.stagedRate } }.timeIsSet)) ∧
  (∀ s : State, s.booted = true → s.cmdIgnored = false → s.stepTooFar s.stagedStep = true → s.stagedRate.natAbs ≤ 281474976 → s.inHall = false →
    exec (.timeStep true) s = .next ((s.setBit F.TIME_EVENTS_RANGE).applyTime ((s.setBit F.TIME_EVENTS_RANGE).changedOffset 0 s.stagedRate (s.setBit F.TIME_EVENTS_RANGE).hallTime) s.stagedRate)) ∧
  (∀ s : State, s.booted = true → s.cmdIgnored = false → s.stepTooFar s.stagedStep = true → s.stagedRate.natAbs ≤ 281474976 → s.inHall = true →
    exec (.timeStep true) s = .next ({ s.setBit F.TIME_EVENTS_RANGE with timeNext := some { step := (match s.timeNext with | some c => c.step | none => 0) + 0, rate := s.stagedRate } })) ∧
  (∀ s : State, s.booted = true → s.cmdIgnored = false → s.stepTooFar s.stagedStep = false → 281474976 < s.stagedRate.natAbs → s.inHall = false →
    exec (.timeStep true) s = .next ((s.setBit F.TIME_EVENTS_RANGE).applyTime ((s.setBit F.TIME_EVENTS_RANGE).changedOffset s.stagedStep s.rateSet (s.setBit F.TIME_EVENTS_RANGE).hallTime) s.rateSet).timeIsSet) ∧
  (∀ s : State, s.booted = true → s.cmdIgnored = false → s.stepTooFar s.stagedStep = false → 281474976 < s.stagedRate.natAbs → s.inHall = true →
    exec (.timeStep true) s = .next ({ s.setBit F.TIME_EVENTS_RANGE with timeNext := some { step := (match s.timeNext with | some c => c.step | none => 0) + s.stagedStep, rate := s.rateSet } }.timeIsSet)) ∧
  (∀ s : State, s.booted = true → s.cmdIgnored = false → s.stepTooFar s.stagedStep = true → 281474976 < s.stagedRate.natAbs → 
    exec (.timeStep true) s = .next (s.setBit F.TIME_EVENTS_RANGE)) ∧
  (∀ s : State, s.booted = true → s.cmdIgnored = false → s.stagedRate.natAbs ≤ 281474976 → s.inHall = false →
    exec .timeRate s = .next (s.applyTime (s.changedOffset 0 s.stagedRate s.hallTime) s.stagedRate)) ∧
  (∀ s : State, s.booted = true → s.cmdIgnored = false → s.stagedRate.natAbs ≤ 281474976 → s.inHall = true →
    exec .timeRate s = .next { s with timeNext := some { step := (match s.timeNext with | some c => c.step | none => 0) + 0, rate := s.stagedRate } }) ∧
  (∀ s : State, s.booted = true → s.cmdIgnored = false → 281474976 < s.stagedRate.natAbs → 
    exec .timeRate s = .next (s.setBit F.TIME_EVENTS_RANGE)) ∧
  (∀ s : State, s.booted = true → s.cmdIgnored = false → s.stagedDate = none →
    exec .timeCal s = .next (s.setBit F.TIME_EVENTS_DATE_INVALID)) ∧
  (∀ (d : Int) (s : State), s.booted = true → s.cmdIgnored = false → s.stagedDate = some d → s.stepTooFar (d - s.deviceTime - (match s.timeNext with | some c => c.step | none => 0)) = false → s.inHall = false →
    exec .timeCal s = .next (((s.applyTime (s.changedOffset (d - s.deviceTime - (match s.timeNext with | some c => c.step | none => 0)) s.rateSet s.hallTime) s.rateSet).timeIsSet).clrBit F.TIME_STATUS_LOST)) ∧
  (∀ (d : Int) (s : State), s.booted = true → s.cmdIgnored = false → s.stagedDate = some d → s.stepTooFar (d - s.deviceTime - (match s.timeNext with | some c => c.step | none => 0)) = false → s.inHall = true →
    exec .timeCal s = .next (({ s with timeNext := some { step := (match s.timeNext with | some c => c.step | none => 0) + (d - s.deviceTime - (match s.timeNext with | some c => c.step | none => 0)), rate := s.rateSet } }.timeIsSet).clrBit F.TIME_STATUS_LOST)) ∧
  (∀ (d : Int) (s : State), s.booted = true → s.cmdIgnored = false → s.stagedDate = some d → s.stepTooFar (d - s.deviceTime - (match s.timeNext with | some c => c.step | none => 0)) = true →
    exec .timeCal s = .next (s.setBit F.TIME_EVENTS_RANGE)) ∧
  (∀ (c : TimeChange) (o h : Int) (s : State), s.timeNext = some c → c.offset = some o → c.at_ = some h →
    exec .timeChangeEffect s = .next ({ s.advanceTo (h - s.corr).toNat with timeNext := none }.applyTime o c.rate)) ∧
  (∀ (s : State), (∀ c, s.timeNext = some c → c.offset = none) → exec .timeChangeEffect s = .next s) ∧
  (∀ (v : Word) (s : State), s.booted = true → exec (.utcOffsetWrite v) s = .next (s.set F.TIME_UTC_UTC_OFFSET v.toNat)) ∧
  (∀ (v : Word) (s : State), s.booted = true → (s.get F.PTP_SERVO_STATUS_STATE = 0 ∨ s.isMember = true) → exec (.servoInput v) s = .next s) ∧
  (∀ (v : Word) (th : Int) (s : State), s.booted = true → s.isMember = false → s.get F.PTP_SERVO_STATUS_STATE ≠ 0 → signed ((s.rd ⟨.PTP_SERVO_IN_0, 0, 0⟩).toNat + v.toNat * 2 ^ 32) 64 = th → s.get F.PTP_SERVO_THRESH_STEP_THRESH * 4096 < th.natAbs → s.stepTooFar (-th) = false →
    let u := { s with servo := { s.servo with last := s.fr } }
    let x := u.requestTime (-th) s.rateSet
    exec (.servoInput v) s = .next (({ x with servo := { x.servo with integ := 0, good := 0 } }).set F.PTP_SERVO_STATUS_STATE 1)) ∧
  (∀ (v : Word) (th : Int) (s : State), s.booted = true → s.isMember = false → s.get F.PTP_SERVO_STATUS_STATE ≠ 0 → signed ((s.rd ⟨.PTP_SERVO_IN_0, 0, 0⟩).toNat + v.toNat * 2 ^ 32) 64 = th → s.get F.PTP_SERVO_THRESH_STEP_THRESH * 4096 < th.natAbs → s.stepTooFar (-th) = true →
    let u := { s with servo := { s.servo with last := s.fr } }
    exec (.servoInput v) s = .next (({ u.setBit F.TIME_EVENTS_RANGE with servo := { u.servo with integ := 0, good := 0 } }).set F.PTP_SERVO_STATUS_STATE 1)) ∧
  (∀ (v : Word) (th : Int) (s : State), s.booted = true → s.isMember = false → s.get F.PTP_SERVO_STATUS_STATE = 1 → signed ((s.rd ⟨.PTP_SERVO_IN_0, 0, 0⟩).toNat + v.toNat * 2 ^ 32) 64 = th → th.natAbs ≤ s.get F.PTP_SERVO_THRESH_STEP_THRESH * 4096 → 
    let u := { s with servo := { s.servo with last := s.fr } }
    let x := u.servoUpdate th
    exec (.servoInput v) s = .next (({ x with servo := { x.servo with good := 0 } }).set F.PTP_SERVO_STATUS_STATE 2)) ∧
  (∀ (v : Word) (th : Int) (s : State), s.booted = true → s.isMember = false → s.get F.PTP_SERVO_STATUS_STATE = 3 → signed ((s.rd ⟨.PTP_SERVO_IN_0, 0, 0⟩).toNat + v.toNat * 2 ^ 32) 64 = th → th.natAbs ≤ s.get F.PTP_SERVO_THRESH_STEP_THRESH * 4096 → th.natAbs ≤ 4 * s.get F.PTP_SERVO_THRESH_LOCK_THRESH →
    let u := { s with servo := { s.servo with last := s.fr } }
    exec (.servoInput v) s = .next (u.servoUpdate th)) ∧
  (∀ (v : Word) (th : Int) (s : State), s.booted = true → s.isMember = false → s.get F.PTP_SERVO_STATUS_STATE = 3 → signed ((s.rd ⟨.PTP_SERVO_IN_0, 0, 0⟩).toNat + v.toNat * 2 ^ 32) 64 = th → th.natAbs ≤ s.get F.PTP_SERVO_THRESH_STEP_THRESH * 4096 → 4 * s.get F.PTP_SERVO_THRESH_LOCK_THRESH < th.natAbs →
    let u := { s with servo := { s.servo with last := s.fr } }
    let x := u.servoUpdate th
    exec (.servoInput v) s = .next (({ x with servo := { x.servo with good := 0 } }).set F.PTP_SERVO_STATUS_STATE 2)) ∧
  (∀ (v : Word) (th : Int) (s : State), s.booted = true → s.isMember = false → (s.get F.PTP_SERVO_STATUS_STATE = 2 ∨ s.get F.PTP_SERVO_STATUS_STATE = 4) → signed ((s.rd ⟨.PTP_SERVO_IN_0, 0, 0⟩).toNat + v.toNat * 2 ^ 32) 64 = th → th.natAbs ≤ s.get F.PTP_SERVO_THRESH_STEP_THRESH * 4096 → (th.natAbs ≤ s.get F.PTP_SERVO_THRESH_LOCK_THRESH → s.servo.good + 1 < 16) →
    let u := { s with servo := { s.servo with last := s.fr } }
    exec (.servoInput v) s = .next (((u.servoUpdate th).servoCount th).set F.PTP_SERVO_STATUS_STATE 2)) ∧
  (∀ (v : Word) (th : Int) (s : State), s.booted = true → s.isMember = false → (s.get F.PTP_SERVO_STATUS_STATE = 2 ∨ s.get F.PTP_SERVO_STATUS_STATE = 4) → signed ((s.rd ⟨.PTP_SERVO_IN_0, 0, 0⟩).toNat + v.toNat * 2 ^ 32) 64 = th → th.natAbs ≤ s.get F.PTP_SERVO_THRESH_STEP_THRESH * 4096 → th.natAbs ≤ s.get F.PTP_SERVO_THRESH_LOCK_THRESH → 15 ≤ s.servo.good →
    let u := { s with servo := { s.servo with last := s.fr } }
    exec (.servoInput v) s = .next (((((u.servoUpdate th).servoCount th).set F.PTP_SERVO_STATUS_STATE 2).set F.PTP_SERVO_STATUS_STATE 3).timeIsSet)) ∧
  (∀ s : State, (s.get F.PTP_SERVO_STATUS_STATE = 1 ∨ s.get F.PTP_SERVO_STATUS_STATE = 2 ∨ s.get F.PTP_SERVO_STATUS_STATE = 3) →
    exec .servoHoldover s = .next (({ s.advanceTo (s.servo.last + s.get F.PTP_SERVO_CTRL_HOLD_TIMEOUT * 4096000000000) with servo := { s.servo with good := 0 } }).set F.PTP_SERVO_STATUS_STATE 4)) ∧
  (∀ s : State, (s.get F.PTP_SERVO_STATUS_STATE = 0 ∨ 4 ≤ s.get F.PTP_SERVO_STATUS_STATE) → exec .servoHoldover s = .next s) ∧
  (∀ s : State, s.timeSet = true →
    ∃ t, exec .backupTimeWrite s = .next t ∧ t.bit F.TIME_BACKUP_1_TV = true ∧ t.fr = max s.fr (s.toFree (ceilDiv s.deviceTime.toNat 4096000000000 * 4096000000000)) ∧
      t.rd ⟨.TIME_BACKUP_0, 0, 0⟩ = BitVec.ofNat 32 ((s.deviceTimeAt t.fr).toNat / 4096000 % 2 ^ 56) ∧ regsBut [.TIME_BACKUP_0, .TIME_BACKUP_1] s t ∧ memSame s t) ∧
  (∀ s : State, s.timeSet = false → exec .backupTimeWrite s = .next s) ∧
  (∀ s : State, exec .tvClear s = .next (s.clrBit F.TIME_BACKUP_1_TV))

/-- A port that is off takes no frame. A frame that is not PTP, has a bad FCS or a transport that the port does not take is counted in OTHER, one beyond 100,000 a second or beyond the room of its ring in DROP (R495, R497). Any other enters the receive ring with its descriptor, whose stamps are a free value where it is no event message, and RXPROD moves on by one (R497). The frame that leaves a port next goes within 8 ns of its launch instant, a late one at once; its order completes with its transmit stamp and LATE (R392, R396, R500), and at no other instant. -/
def Obligations.EthernetFrames : Prop :=
  (∀ (n c : Nat) (f : Bytes) (b : Bool) (s : State), s.bit F.PTP_PORTn_CFG_EN n = false → exec (.ptpFrameReceive n f b c) s = .next s) ∧
  (∀ (n c : Nat) (f : Bytes) (b : Bool) (s : State), s.bit F.PTP_PORTn_CFG_EN n = true → ptpAt f = none →
    exec (.ptpFrameReceive n f b c) s = .next (s.countUp F.PTP_PORTn_COUNTS_OTHER 1 n)) ∧
  (∀ (n c : Nat) (f : Bytes) (a : PtpAt) (b : Bool) (s : State), s.bit F.PTP_PORTn_CFG_EN n = true → ptpAt f = some a → (b = false ∨ bitOf (s.get F.PTP_PORTn_CFG_TRANSPORT n) a.transport = false) →
    exec (.ptpFrameReceive n f b c) s = .next (s.countUp F.PTP_PORTn_COUNTS_OTHER 1 n)) ∧
  (∀ (n c : Nat) (f : Bytes) (a : PtpAt) (s : State), s.bit F.PTP_PORTn_CFG_EN n = true → ptpAt f = some a → bitOf (s.get F.PTP_PORTn_CFG_TRANSPORT n) a.transport = true → (100000 ≤ (s.rxRate n).2 ∨ 2 ^ s.get F.PTP_PORTn_RXRING_1_SIZE_LOG2 n ≤ ((s.rd ⟨.PTP_PORTn_RXPROD, n, 0⟩).toNat + 2 ^ 32 - (s.rd ⟨.PTP_PORTn_RXCONS, n, 0⟩).toNat) % 2 ^ 32) →
    exec (.ptpFrameReceive n f true c) s = .next (s.countUp F.PTP_PORTn_COUNTS_DROP 1 n)) ∧
  (∀ (n c : Nat) (f : Bytes) (a : PtpAt) (s : State), s.bit F.PTP_PORTn_CFG_EN n = true → ptpAt f = some a → bitOf (s.get F.PTP_PORTn_CFG_TRANSPORT n) a.transport = true → (s.rxRate n).2 < 100000 → ((s.rd ⟨.PTP_PORTn_RXPROD, n, 0⟩).toNat + 2 ^ 32 - (s.rd ⟨.PTP_PORTn_RXCONS, n, 0⟩).toNat) % 2 ^ 32 < 2 ^ s.get F.PTP_PORTn_RXRING_1_SIZE_LOG2 n →
    ∃ t, exec (.ptpFrameReceive n f true c) s = .next t ∧ t.rd ⟨.PTP_PORTn_RXPROD, n, 0⟩ = s.rd ⟨.PTP_PORTn_RXPROD, n, 0⟩ + 1#32 ∧ regsBut [.PTP_PORTn_RXPROD] s t ∧
      t.mem = Mem.setBytes s.mem (s.rxBase n + (s.rd ⟨.PTP_PORTn_RXPROD, n, 0⟩).toNat % 2 ^ s.get F.PTP_PORTn_RXRING_1_SIZE_LOG2 n * 2048)
        (s.rxDescriptor n f.length (a.event f) a.vlan c ++ heardFrame f (s.portSigned .PTP_PORTn_ASYM n)) ∧ t.works = s.works) ∧
  (∀ (p c : Nat) (f : LaunchFrame) (w : Work) (s : State), nextFrame (s.frames p) = some f → s.work? f.work = some w → p < 2 →
    (f.late = true ∨ (f.at_ ≤ ((c : Int) + s.portSigned .PTP_PORTn_TXLAT p).toNat + 32768 ∧ ((c : Int) + s.portSigned .PTP_PORTn_TXLAT p).toNat ≤ f.at_ + 32768)) →
    ∃ t, exec (.frameTransmit p c) s = .next t ∧ t.regs = s.regs ∧ t.mem = s.mem ∧ t.fr = max s.fr ((c : Int) + s.portSigned .PTP_PORTn_TXLAT p).toNat ∧ t.frames p = (s.frames p).erase f ∧
      Store.get? t.ethOut p = some (sentFrame w.data (s.portSigned .PTP_PORTn_ASYM p) (s.bit F.PTP_PORTn_CFG_ONE_STEP p) (s.dt80 ((c : Int) + s.portSigned .PTP_PORTn_TXLAT p).toNat), ((c : Int) + s.portSigned .PTP_PORTn_TXLAT p).toNat) ∧
      t.receipts = s.receipts ++ [{ work := f.work, status := 0, final := true, cause := 0, no := s.raiseNo, detail := leBytes (s.dt80 ((c : Int) + s.portSigned .PTP_PORTn_TXLAT p).toNat) 10 ++ leBytes (if f.late = true then 1 else 0) 1 }]) ∧
  (∀ (p c : Nat) (f : LaunchFrame) (s : State), nextFrame (s.frames p) = some f → f.late = false → (((c : Int) + s.portSigned .PTP_PORTn_TXLAT p).toNat + 32768 < f.at_ ∨ f.at_ + 32768 < ((c : Int) + s.portSigned .PTP_PORTn_TXLAT p).toNat) →
    exec (.frameTransmit p c) s = .next s) ∧
  (∀ (p c : Nat) (s : State), s.frames p = [] → exec (.frameTransmit p c) s = .next s)

/-- A BAR4 write within local memory stores its bytes and nothing else (R338); into a segment that is FILLING or ACTIVE it is discarded with APERTURE_BLOCKED, and into a FREE one it leaves the content UNDEFINED (R115); beyond local memory or the aperture it is dropped. A read outside the aperture answers 0; any other the bytes of local memory, all ones beyond it and in a line with an uncorrectable error, and counts corrected errors (R338, R479); such a line is poisoned, with ECC_UNCORR, and no byte changes. The scrubber changes nothing in a good line, counts a corrected error, and poisons an uncorrectable line, a MEMORY detection that names the admitted orders whose ranges include it (R480). An interleave commit with a bad grain or no channel is rejected with 1, one with a channel marked unusable with 2, and any other is pending with the staged pair (R465). A request of a mapped requester for lines of its channel stands at the arbiter until they are served (R463, R472); it cancels a self-refresh entry that has begun (R477); no other requester is heard (R471). Without a request, and in self-refresh, nothing is granted. With at most 16 mapped requesters the round of the compact arrangement decides, with more the ranks of the full one; a grant waits for the channel's refresh, and opens the rows of its accesses (R466, R468, R473, R474). A withdrawal after a grant counts a dead slot (R475). A due refresh adds to the channel's debt, up to 8, while refresh is held back; otherwise the debt is paid: each refresh closes the channel's rows and occupies it for TRFC (R466, R468, R469). In self-refresh the debt does not rise (R478). At the end of a postponed span every channel of the stack pays what it owes, and the make-up interval passes (R409, R469). In P2 and deeper, with no window that charges a stack, a first command closes the open rows, and the next issues self-refresh; in other conditions nothing is entered (R477). The exit comes no earlier than 30 ns after that command, and takes 290 ns; the debt starts again at 0 (R477, R478). -/
def Obligations.LocalMemory : Prop :=
  (∀ (x : Nat) (d : Bytes) (s : State), Mem.wf s.mem = true → s.bar4Open x d.length = true → s.bar4Addr x + d.length ≤ s.memSize → s.inPool (s.bar4Addr x / segSize) = false →
    ∃ t, exec (.bar4Write x d) s = .next t ∧ (∀ n, n < d.length → Mem.byte t.mem (s.bar4Addr x + n) = d.getD n 0#8) ∧ memBut (s.bar4Addr x) d.length s t ∧ t.regs = s.regs ∧ t.works = s.works) ∧
  (∀ (x : Nat) (d : Bytes) (s : State), s.bar4Open x d.length = true → s.bar4Addr x + d.length ≤ s.memSize → s.inPool (s.bar4Addr x / segSize) = true → ((s.seg (s.bar4Addr x / segSize)).filling = true ∨ (s.seg (s.bar4Addr x / segSize)).refs ≠ 0) →
    exec (.bar4Write x d) s = .next (s.setBit F.DRAM_SEG_EVENTS_APERTURE_BLOCKED)) ∧
  (∀ (x : Nat) (d : Bytes) (s : State), s.bar4Open x d.length = true → s.bar4Addr x + d.length ≤ s.memSize → s.inPool (s.bar4Addr x / segSize) = true → (s.seg (s.bar4Addr x / segSize)).filling = false → (s.seg (s.bar4Addr x / segSize)).refs = 0 →
    ∃ t, exec (.bar4Write x d) s = .next t ∧ t.mem = Mem.setBytes s.mem (s.bar4Addr x) d ∧ t.seg (s.bar4Addr x / segSize) = { s.seg (s.bar4Addr x / segSize) with valid := false } ∧ t.regs = s.regs) ∧
  (∀ (x : Nat) (d : Bytes) (s : State), (s.bar4Open x d.length = false ∨ s.memSize < s.bar4Addr x + d.length) → exec (.bar4Write x d) s = .next s) ∧
  (∀ (x n corr : Nat) (bad : List Nat) (s : State), s.bar4Open x n = false →
    exec (.bar4Read x n bad corr) s = .next (s.answer (wordsOf (List.replicate n 0#8)))) ∧
  (∀ (x n corr : Nat) (bad : List Nat) (s : State), s.bar4Open x n = true → (((List.range ((s.bar4Addr x % 64 + n + 63) / 64)).map (s.bar4Addr x / 64 + ·)).filter fun l => decide (64 * l < s.memSize) && (s.poison.contains l || bad.contains l)) = [] →
    exec (.bar4Read x n bad corr) s = .next ((s.answer (wordsOf ((List.range n).map fun j => if s.memSize ≤ s.bar4Addr x + j ∨ (s.bar4Addr x + j) / 64 ∈ s.poison ∨ (s.bar4Addr x + j) / 64 ∈ bad then 0xFF#8 else Mem.byte s.mem (s.bar4Addr x + j)))).corrected corr)) ∧
  (∀ (x n corr : Nat) (bad : List Nat) (s : State), s.bar4Open x n = true →
    let ls := ((List.range ((s.bar4Addr x % 64 + n + 63) / 64)).map (s.bar4Addr x / 64 + ·)).filter fun l => decide (64 * l < s.memSize) && (s.poison.contains l || bad.contains l)
    ls ≠ [] →
    ∃ t, exec (.bar4Read x n bad corr) s = .next t ∧ t.rdata = wordsOf (s.bar4Bytes (s.bar4Addr x) n bad) ∧ t.bit F.DRAM_EVENTS_ECC_UNCORR = true ∧ (∀ l ∈ ls, t.poison.contains l = true) ∧ t.mem = s.mem ∧ t.works = s.works) ∧
  (∀ (l x : Nat) (s : State), s.memSize ≤ 64 * l → exec (.patrolScrub l x) s = .next s) ∧
  (∀ (l : Nat) (s : State), 64 * l < s.memSize → l ∉ s.poison → exec (.patrolScrub l 0) s = .next s) ∧
  (∀ (l : Nat) (s : State), 64 * l < s.memSize → l ∉ s.poison →
    exec (.patrolScrub l 1) s = .next ((s.countUp F.DRAM_ECC_CNT_CORRECTED).setBit F.DRAM_EVENTS_ECC_CORR)) ∧
  (∀ (l x : Nat) (s : State), 64 * l < s.memSize → (x = 2 ∨ l ∈ s.poison) →
    ∃ t, exec (.patrolScrub l x) s = .next t ∧ t.bit F.DRAM_EVENTS_SCRUB_UNCORR = true ∧ l ∈ t.poison ∧ t.mem = s.mem ∧ t.works = s.works ∧
      t.detections = s.detections ++ [{ kind := 6, cause := 0x224, source := 0x701, works := s.rangesHit l, at_ := s.fr }]) ∧
  (∀ s : State, s.booted = true → (s.get F.DRAM_ILV_STAGE_GRAIN_LOG2 < 8 ∨ 16 < s.get F.DRAM_ILV_STAGE_GRAIN_LOG2 ∨ setBits ((s.rd ⟨.DRAM_ILV_CH_STAGE_w, 0, 0⟩).toNat + (s.rd ⟨.DRAM_ILV_CH_STAGE_w, 1, 0⟩).toNat * 2 ^ 32) 64 = []) →
    exec .dramIlvCommit s = .next ((s.set F.DRAM_ILV_STATUS_RESULT 1).setBit F.DRAM_EVENTS_ILV_REJECT)) ∧
  (∀ s : State, s.booted = true → 8 ≤ s.get F.DRAM_ILV_STAGE_GRAIN_LOG2 → s.get F.DRAM_ILV_STAGE_GRAIN_LOG2 ≤ 16 →
    setBits ((s.rd ⟨.DRAM_ILV_CH_STAGE_w, 0, 0⟩).toNat + (s.rd ⟨.DRAM_ILV_CH_STAGE_w, 1, 0⟩).toNat * 2 ^ 32) 64 ≠ [] →
    exec .dramIlvCommit s = .next (if (setBits ((s.rd ⟨.DRAM_ILV_CH_STAGE_w, 0, 0⟩).toNat + (s.rd ⟨.DRAM_ILV_CH_STAGE_w, 1, 0⟩).toNat * 2 ^ 32) 64).any Config.channelBad then
        (s.set F.DRAM_ILV_STATUS_RESULT 2).setBit F.DRAM_EVENTS_ILV_REJECT
      else ((((s.set F.DRAM_ILV_STATUS_RESULT 0).set F.DRAM_ILV_STATUS_NEXT_GRAIN (s.get F.DRAM_ILV_STAGE_GRAIN_LOG2)).wr ⟨.DRAM_ILV_NEXT_w, 0, 0⟩ (s.rd ⟨.DRAM_ILV_CH_STAGE_w, 0, 0⟩)).wr
        ⟨.DRAM_ILV_NEXT_w, 1, 0⟩ (s.rd ⟨.DRAM_ILV_CH_STAGE_w, 1, 0⟩)).setBit F.DRAM_ILV_STATUS_PENDING)) ∧
  (∀ (c r : Nat) (l : List Nat) (s : State), s.liveChannels.contains c = true → (permanent.contains r || (s.mappedNow c).contains r) = true → let ls := l.filter fun x => decide (64 * x < s.memSize) && s.chanOf (64 * x) == c
    ls ≠ [] → s.sref ≠ .closing →
    exec (.arbiterRequest c { requester := r, lines := l }) s = .next ((s).setArb c { s.arb c with raised := if (s.arb c).raised.contains r = true then (s.arb c).raised else (s.arb c).raised ++ [r], asks := Store.put (s.arb c).asks r (Store.getD (s.arb c).asks r [] ++ ls) })) ∧
  (∀ (c r : Nat) (l : List Nat) (s : State), s.liveChannels.contains c = true → (permanent.contains r || (s.mappedNow c).contains r) = true → let ls := l.filter fun x => decide (64 * x < s.memSize) && s.chanOf (64 * x) == c
    ls ≠ [] → s.sref = .closing →
    exec (.arbiterRequest c { requester := r, lines := l }) s = .next (({ s with sref := .none_ }).setArb c { s.arb c with raised := if (s.arb c).raised.contains r = true then (s.arb c).raised else (s.arb c).raised ++ [r], asks := Store.put (s.arb c).asks r (Store.getD (s.arb c).asks r [] ++ ls) })) ∧
  (∀ (c r : Nat) (l : List Nat) (s : State), (s.liveChannels.contains c = false ∨ (permanent.contains r || (s.mappedNow c).contains r) = false) →
    exec (.arbiterRequest c { requester := r, lines := l }) s = .next s) ∧
  (∀ (c : Nat) (s : State), (s.sref = .in_ ∨ (s.arb c).raised = []) → exec (.arbiterGrant c) s = .next s) ∧
  (∀ (c r : Nat) (s : State), s.sref ≠ .in_ → s.mappedCount c ≤ 16 → s.compactWinner (s.arb c) = some r →
    exec (.arbiterGrant c) s = .next (((s.advanceTo (s.arb c).busy).setArb c (s.compactGrant (s.arb c) r)).openRowsOf ((s.arb c).serve r).1)) ∧
  (∀ (c r : Nat) (s : State), s.sref ≠ .in_ → 16 < s.mappedCount c → (s.fullRanks c (s.arb c)).find? (s.arb c).raised.contains = some r →
    exec (.arbiterGrant c) s = .next (((s.advanceTo (s.arb c).busy).setArb c { ((s.arb c).serve r).2 with granted := [], ranks := (s.fullRanks c (s.arb c)).erase r ++ [r] }).openRowsOf ((s.arb c).serve r).1)) ∧
  (∀ (c r : Nat) (s : State), (s.arb c).served = some r →
    exec (.requestWithdraw c) s = .next ((s.setArb c { s.arb c with served := none }).countUp F.ARB_DEAD_CNT_DEAD)) ∧
  (∀ (c : Nat) (s : State), (s.arb c).served = none → exec (.requestWithdraw c) s = .next s) ∧
  (∀ (c : Nat) (s : State), s.sref ≠ .in_ → c < 64 → s.holdRefresh (stackOf c) = true →
    exec (.refreshDue c) s = .next { s with debt := Store.put s.debt c (min (s.debtOf c + 1) 8) }) ∧
  (∀ (c : Nat) (s : State), s.sref ≠ .in_ → c < 64 → s.holdRefresh (stackOf c) = false →
    exec (.refreshDue c) s = .next { ((s.setArb c { s.arb c with busy := max (s.arb c).busy s.fr + (s.debtOf c + 1) * s.get F.TOLL_REFRESH_TRFC * 4096 }).closeRows (· == c)) with debt := Store.del s.debt c }) ∧
  (∀ (c : Nat) (s : State), s.sref = .in_ → exec (.refreshDue c) s = .next s) ∧
  (∀ (st : Nat) (p : Postpone) (s : State), Store.get? s.postponed st = some p →
    let u := (s.debt.filter fun d => stackOf d.1 == st).foldl (fun s d => s.refresh d.1 d.2) (s.advanceTo (s.makeUp p).1)
    exec (.refreshMakeup st) s = .next ({ u with postponed := Store.del s.postponed st }.advanceTo (s.makeUp p).2)) ∧
  (∀ (st : Nat) (s : State), Store.get? s.postponed st = none → exec (.refreshMakeup st) s = .next s) ∧
  (∀ s : State, 2 ≤ s.get F.PWR_STATUS_STATE → s.bit F.PWR_STATUS_EXITING = false → s.windowCharges = false → s.sref = .none_ →
    exec .selfRefreshEntry s = .next { s with sref := .closing, openRows := [] }) ∧
  (∀ s : State, 2 ≤ s.get F.PWR_STATUS_STATE → s.bit F.PWR_STATUS_EXITING = false → s.windowCharges = false → s.sref = .closing →
    exec .selfRefreshEntry s = .next { s with sref := .in_, srefAt := s.fr }) ∧
  (∀ s : State, (s.get F.PWR_STATUS_STATE < 2 ∨ s.bit F.PWR_STATUS_EXITING = true ∨ s.windowCharges = true ∨ s.sref = .in_) →
    exec .selfRefreshEntry s = .next s) ∧
  (∀ s : State, s.sref = .in_ → exec .selfRefreshExit s = .next { s.advanceTo (max s.fr (s.srefAt + 122880) + 1187840) with sref := .none_, debt := [] }) ∧
  (∀ s : State, s.sref ≠ .in_ → exec .selfRefreshExit s = .next s)

/-- A sole read request of a line that no other core holds gets it in E, of one that others hold clean in S; a sole ownership request takes it in M and leaves no other copy (R441). One that finds the line in M in another core starts a recall for itself, and one that finds a recall in progress stands at the element (R441, R442). Several cores' requests of one instant stand there together (R443). A request of a poisoned line is a MEMORY detection that names the core's item (R479). A write-back stores its 64 bytes and gives up the line; where the line is recalled it also serves the recall. A recall answer stores its 64 bytes and gives the line to the request that waits: in M for ownership, else in S (R442). -/
def Obligations.CoreCaches : Prop :=
  (∀ (c l : Nat) (s : State), c < 32 → l ∉ s.poison → (∀ r ∈ s.cohWait, r.line ≠ l) → Store.get? s.recalls l = none → s.dirtyHolder l c = none →
    ∃ t, exec (.readRequest c l) s = .next t ∧ Store.get? t.l1 (c, l) = some (if s.holdersOf l c = [] then .exclusive else .shared) ∧ t.cohWait = s.cohWait ∧ t.mem = s.mem ∧ t.regs = s.regs) ∧
  (∀ (c l : Nat) (s : State), c < 32 → l ∉ s.poison → (∀ r ∈ s.cohWait, r.line ≠ l) → Store.get? s.recalls l = none → s.dirtyHolder l c = none →
    ∃ t, exec (.ownershipRequest [c] l) s = .next t ∧ Store.get? t.l1 (c, l) = some .modified ∧ t.holdersOf l c = [] ∧ t.cohWait = s.cohWait ∧ t.mem = s.mem ∧ t.regs = s.regs) ∧
  (∀ (c h l : Nat) (s : State), c < 32 → l ∉ s.poison → (∀ r ∈ s.cohWait, r.line ≠ l) → Store.get? s.recalls l = none → s.dirtyHolder l c = some h →
    (∃ t, exec (.readRequest c l) s = .next t ∧ Store.get? t.recalls l = some (h, { core := c, line := l, own := false }) ∧ t.cohWait = s.cohWait ∧ t.l1 = s.l1 ∧ t.mem = s.mem) ∧
    (∃ t, exec (.ownershipRequest [c] l) s = .next t ∧ Store.get? t.recalls l = some (h, { core := c, line := l, own := true }) ∧ t.cohWait = s.cohWait ∧ t.l1 = s.l1 ∧ t.mem = s.mem)) ∧
  (∀ (c l : Nat) (s : State), c < 32 → l ∉ s.poison → (Store.get? s.recalls l).isSome = true →
    exec (.readRequest c l) s = .next { s with cohWait := s.cohWait ++ [{ core := c, line := l, own := false }] } ∧
    exec (.ownershipRequest [c] l) s = .next { s with cohWait := s.cohWait ++ [{ core := c, line := l, own := true }] }) ∧
  (∀ (cs : List Nat) (l : Nat) (s : State), (∀ c ∈ cs, c < 32) → l ∉ s.poison → (Store.get? s.recalls l).isSome = true →
    exec (.ownershipRequest cs l) s = .next { s with cohWait := s.cohWait ++ cs.map fun c => { core := c, line := l, own := true } }) ∧
  (∀ (c l : Nat) (s : State), c < 32 → l ∈ s.poison →
    ∃ t, exec (.readRequest c l) s = .next t ∧ t.detections = s.detections ++ [{ kind := 6, cause := 0x224, source := 0x0700, works := ((s.itemOn c).map (·.1)).toList, at_ := s.fr }] ∧ t.mem = s.mem ∧ t.works = s.works) ∧
  (∀ (c l : Nat) (d : Bytes) (s : State), Store.get? s.l1 (c, l) = some .modified → d.length = 64 → (∀ p, Store.get? s.recalls l = some p → p.1 ≠ c) → (∀ r ∈ s.cohWait, r.line ≠ l) →
    ∃ t, exec (.writeBack c l d) s = .next t ∧ t.mem = Mem.setBytes s.mem (64 * l) d ∧ Store.get? t.l1 (c, l) = none ∧ t.regs = s.regs ∧ t.works = s.works) ∧
  (∀ (c l : Nat) (d : Bytes) (q : CohReq) (s : State), Store.get? s.l1 (c, l) = some .modified → d.length = 64 → Store.get? s.recalls l = some (c, q) → q.line = l → q.core ≠ c → (∀ r ∈ s.cohWait, r.line ≠ l) →
    ∃ t, exec (.writeBack c l d) s = .next t ∧ t.mem = Mem.setBytes s.mem (64 * l) d ∧ Store.get? t.recalls l = none ∧ Store.get? t.l1 (c, l) = none ∧
      (q.own = true → Store.get? t.l1 (q.core, l) = some .modified) ∧ t.regs = s.regs) ∧
  (∀ (c l : Nat) (d : Bytes) (s : State), Store.get? s.l1 (c, l) ≠ some .modified → exec (.writeBack c l d) s = .next s) ∧
  (∀ (l h : Nat) (q : CohReq) (d : Bytes) (s : State), Store.get? s.recalls l = some (h, q) → q.line = l → h ≠ q.core → d.length = 64 → (∀ r ∈ s.cohWait, r.line ≠ l) →
    ∃ t, exec (.recallAnswer l d) s = .next t ∧ t.mem = Mem.setBytes s.mem (64 * l) d ∧ Store.get? t.recalls l = none ∧
      Store.get? t.l1 (q.core, l) = some (if q.own = true then .modified else .shared) ∧ t.regs = s.regs) ∧
  (∀ (l : Nat) (d : Bytes) (s : State), Store.get? s.recalls l = none → exec (.recallAnswer l d) s = .next s)

/-- A PMU_MEASURE is offered to the Toll; in its window it runs with all its channels left, and its converters take it at their entry boundaries (R387, R514). An ADC_SEQUENCE reads its list; without it it does nothing; a reserved entry ends it MALFORMED with cause 0x013, a converter that holds eight orders refuses it with cause 0x103, and else it joins every converter that it names (R512, R513). A conversion adds its reading to the result under way (R509, R511); the last one of a result hands it to its PMU_MEASURE, or to the queue of the converter's Row with its sequence's tag, and the converter goes on at its entry boundary (R513, R514, R521). A safety request takes the conversions before all others, and its fourth ends it; a converter out of service gives it zeros (R517, R520). An AFTER entry starts its delay in µs after the last result (R512). A scan shows its four readings, 0 for a converter out of service; a reading outside its limits sets ALARM, a die above 105 °C is a THERMAL detection, and a failed self-check takes the converter out of service (R515, R516, R520). A converter without power, or in an urgent request, does not scan. ADC00's sum of the thermistor is the oven controller's reading, 0 while it is out of service (R515, R520); with the controller off it is shown and nothing more. A safety request that is due aborts the conversion in progress, whose result shows RESTARTED, or the verification of a round, and stands behind those before it (R517). A verification round takes the channels that wait, and aborts the conversion in progress likewise (R517, R518). A readback within 41 steps verifies its channel; the last channel of a round begins the next round with those that wait since (R518). One beyond 41 steps, or of a converter out of service, fails its channel with VERIFY_FAIL, its channel and deviation, and an overstress detection (R519, R520); it waits while a safety request runs (R517). A read of a queue's first word pops its head entry, zeros for an empty queue, and latches the other three words (R106, R522). -/
def Obligations.Converters : Prop :=
  (∀ (k : Nat) (w : Work) (s : State), s.work? k = some w → w.opcode = Op.pmuMeasure → w.stage = .routed →
    exec (.pmuMeasure k) s = .next (s.setWork k { w with stage := .offered, key := [s.fr, 1, w.stall, k] })) ∧
  (∀ (k : Nat) (w : Work) (s : State), s.work? k = some w → w.opcode = Op.pmuMeasure → w.stage = .window →
    exec (.pmuMeasure k) s = .next ((w.chanRange.foldl (fun (t : State) h => t.setAdc (h / 4) (t.adc (h / 4))) (s.setWork k { w with stage := .running, left := w.chanRange, data := List.replicate (8 * w.body 42 2) 0#8 })).adcKick)) ∧
  (∀ (k : Nat) (w : Work) (s : State), s.work? k = some w → w.opcode = Op.adcSequence → w.stage = .routed →
    exec (.adcSequence k) s = .next (s.setWork k { w with stage := .dataRead, data := [] })) ∧
  (∀ (k : Nat) (w : Work) (s : State), s.work? k = some w → w.opcode = Op.adcSequence → w.stage = .dataRead → w.data.length ≠ 8 * w.entries →
    exec (.adcSequence k) s = .next s) ∧
  (∀ (k : Nat) (w : Work) (s : State), s.work? k = some w → w.opcode = Op.adcSequence → w.stage = .dataRead → w.data.length = 8 * w.entries → ((List.range w.entries).map w.entry).any (fun e => !entryOk e) = true →
    exec (.adcSequence k) s = .next (s.finalReceipt k 5 0x013)) ∧
  (∀ (k : Nat) (w : Work) (s : State), s.work? k = some w → w.opcode = Op.adcSequence → w.stage = .dataRead → w.data.length = 8 * w.entries → ((List.range w.entries).map w.entry).any (fun e => !entryOk e) = false →
    (((List.range w.entries).map w.entry).map entryAdc).eraseDups.any (fun c => decide (8 ≤ (s.adc c).seqs.length)) = true →
    exec (.adcSequence k) s = .next (s.finalReceipt k 3 0x103)) ∧
  (∀ (k : Nat) (w : Work) (s : State), s.work? k = some w → w.opcode = Op.adcSequence → w.stage = .dataRead → w.data.length = 8 * w.entries → ((List.range w.entries).map w.entry).any (fun e => !entryOk e) = false →
    (((List.range w.entries).map w.entry).map entryAdc).eraseDups.any (fun c => decide (8 ≤ (s.adc c).seqs.length)) = false →
    exec (.adcSequence k) s = .next (((((List.range w.entries).map w.entry).map entryAdc).eraseDups.foldl (fun (t : State) c => t.setAdc c { t.adc c with seqs := (t.adc c).seqs ++ [k] }) (s.setWork k { w with stage := .running, count := 0, result := 0 })).adcKick)) ∧
  (∀ (c : Nat) (v : Int) (o : Bool) (r : AdcRun) (s : State), (s.adc c).safety = [] → s.roundOf c = [] → (s.adc c).run = some r →
    let x := { r with n := r.n + 1, sum := r.sum + v, overRange := r.overRange || o, mixed := r.mixed || (s.pmuLive c r.input != (r.mode, r.range)) }
    x.n < r.total →
    exec (.conversionDone c v o) s = .next (s.setAdc c { s.adc c with run := some x })) ∧
  (∀ (c : Nat) (v : Int) (o : Bool) (r : AdcRun) (s : State), (s.adc c).safety = [] → s.roundOf c = [] → (s.adc c).run = some r →
    let x := { r with n := r.n + 1, sum := r.sum + v, overRange := r.overRange || o, mixed := r.mixed || (s.pmuLive c r.input != (r.mode, r.range)) }
    r.total ≤ x.n → r.pmu = true →
    exec (.conversionDone c v o) s = .next (((s.setAdc c { s.adc c with run := none }).pmuResult x (s.resultWord c x)).adcKick)) ∧
  (∀ (c : Nat) (v : Int) (o : Bool) (r : AdcRun) (s : State), (s.adc c).safety = [] → s.roundOf c = [] → (s.adc c).run = some r →
    let x := { r with n := r.n + 1, sum := r.sum + v, overRange := r.overRange || o, mixed := r.mixed || (s.pmuLive c r.input != (r.mode, r.range)) }
    r.total ≤ x.n → r.pmu = false →
    exec (.conversionDone c v o) s = .next (((s.setAdc c { s.adc c with run := none }).seqResult c x (s.resultWord c x)).adcKick)) ∧
  (∀ (c h : Nat) (v : Int) (o : Bool) (vs : List Int) (l : List (Nat × List Int)) (s : State), (s.adc c).safety = (h, vs) :: l → vs.length < 3 →
    exec (.conversionDone c v o) s = .next (s.setAdc c { s.adc c with safety := (h, vs ++ [if s.adcFailed c = true then 0 else v]) :: l })) ∧
  (∀ (c h : Nat) (v : Int) (o : Bool) (vs : List Int) (l : List (Nat × List Int)) (s : State), (s.adc c).safety = (h, vs) :: l → 3 ≤ vs.length →
    exec (.conversionDone c v o) s = .next ({ s.setAdc c { s.adc c with safety := l } with safetyRes := Store.put s.safetyRes h (vs ++ [if s.adcFailed c = true then 0 else v]) })) ∧
  (∀ (c : Nat) (v : Int) (o : Bool) (s : State), (s.adc c).safety = [] → (s.roundOf c ≠ [] ∨ (s.adc c).run = none) →
    exec (.conversionDone c v o) s = .next s) ∧
  (∀ (c k t d : Nat) (l : List Nat) (w : Work) (s : State), (s.adc c).run = none → (s.adc c).seqs = k :: l → (s.adc c).last = some t → s.work? k = some w → w.sequencing = true → w.nextIx c (s.adc c).next = some d →
    entryTrigger (w.entry (d % w.entries)) = 1 →
    exec (.adcAfterDelay c) s = .next (s.advanceTo (t + entryDelay (w.entry (d % w.entries)) * 4096000)).adcKick) ∧
  (∀ (c : Nat) (v : List Int) (s : State), c < 64 → s.rowPowered (c / 16) = true → s.mayScan c = true →
    let x := ((List.range 4).map fun i => if s.adcFailed c = true then 0 else unsigned (v.getD i 0) 16)
    ∃ t, exec (.monitorScan c v) s = .next t ∧ t.get F.ADC_MONn_0_TEMP c = x.getD 0 0 % 2 ^ 16 ∧ t.get F.ADC_MONn_0_RAIL_HI c = x.getD 1 0 % 2 ^ 16 ∧ t.get F.ADC_MONn_1_RAIL_LO c = x.getD 2 0 % 2 ^ 16 ∧
      t.get F.ADC_MONn_1_RAIL_A c = x.getD 3 0 % 2 ^ 16 ∧ t.bit F.ADC_EVENTS_ALARM = (s.bit F.ADC_EVENTS_ALARM || s.scanAlarm x) ∧
      t.detections = s.detections ++ (if 10500 < signed (x.getD 0 0) 16 then [{ kind := 9, cause := 0x227, source := 0xA01, at_ := s.fr }] else []) ∧
      t.adcFailed c = (s.adcFailed c || selfCheckFails c (v.getD 4 0) (v.getD 5 0)) ∧
      regsBut [.ADC_MONn_0, .ADC_MONn_1, .ADC_EVENTS, .ADC_FAILED_w] s t ∧ t.mem = s.mem ∧ t.works = s.works) ∧
  (∀ (c : Nat) (v : List Int) (s : State), (s.rowPowered (c / 16) = false ∨ s.mayScan c = false) → exec (.monitorScan c v) s = .next s) ∧
  (∀ (x : Nat) (s : State), s.rowPowered 0 = true → s.mayScan 0 = true → s.adcFailed 0 = false →
    exec (.ovenConversion x) s = exec (.ovenReading x) s) ∧
  (∀ (x : Nat) (s : State), s.rowPowered 0 = true → s.mayScan 0 = true → s.adcFailed 0 = true →
    exec (.ovenConversion x) s = exec (.ovenReading 0) s) ∧
  (∀ (x : Nat) (s : State), s.rowPowered 0 = true → s.mayScan 0 = true → s.adcFailed 0 = false → s.get F.TALLY_OVEN_STATUS_STATE = 0 →
    exec (.ovenConversion x) s = .next { s.set F.TALLY_OVEN_STATUS_READING (x % 2 ^ 16) with oven := { s.oven with last := s.fr } }) ∧
  (∀ (h : Nat) (s : State), s.safetyDue.contains h = true → (s.adc (h / 4)).safety = [] → s.roundOf (h / 4) = [] →
    exec (.urgentRequest h true) s = .next (({ (s.abortConversion (h / 4)) with safetyDue := s.safetyDue.erase h }).setAdc (h / 4) { ((s.abortConversion (h / 4))).adc (h / 4) with safety := (s.adc (h / 4)).safety ++ [(h, [])], roundAborted := s.roundOf (h / 4) != [] })) ∧
  (∀ (h : Nat) (s : State), s.safetyDue.contains h = true → (s.adc (h / 4)).safety = [] → s.roundOf (h / 4) ≠ [] →
    exec (.urgentRequest h true) s = .next (({ (s.setBit F.ADC_EVENTS_RESTART) with safetyDue := s.safetyDue.erase h }).setAdc (h / 4) { ((s.setBit F.ADC_EVENTS_RESTART)).adc (h / 4) with safety := (s.adc (h / 4)).safety ++ [(h, [])], roundAborted := s.roundOf (h / 4) != [] })) ∧
  (∀ (h : Nat) (s : State), s.safetyDue.contains h = true → (s.adc (h / 4)).safety ≠ [] →
    exec (.urgentRequest h true) s = .next (({ s with safetyDue := s.safetyDue.erase h }).setAdc (h / 4) { (s).adc (h / 4) with safety := (s.adc (h / 4)).safety ++ [(h, [])], roundAborted := s.roundOf (h / 4) != [] })) ∧
  (∀ (h : Nat) (s : State), s.verifyWaits (h / 4) = true → s.roundOf (h / 4) = [] → s.rowPowered (h / 4 / 16) = true → (s.adc (h / 4)).safety = [] →
    exec (.urgentRequest h false) s = .next ((s.abortConversion (h / 4)).startRound (h / 4))) ∧
  (∀ (h : Nat) (s : State), s.verifyWaits (h / 4) = true → s.roundOf (h / 4) = [] → s.rowPowered (h / 4 / 16) = true → (s.adc (h / 4)).safety ≠ [] →
    exec (.urgentRequest h false) s = .next (s.startRound (h / 4))) ∧
  (∀ (c d h : Nat) (l : List Nat) (s : State), s.roundOf c = h :: l → (s.adc c).safety = [] → l ≠ [] → h ∉ l → s.adcFailed c = false → d ≤ 41 →
    exec (.levelVerify c d) s = .next ((s.setChan h { s.chan h with inRound := false, verified := true }).setAdc c { s.adc c with roundAborted := false })) ∧
  (∀ (c d h : Nat) (l : List Nat) (s : State), s.roundOf c = h :: l → (s.adc c).safety = [] → l = [] → s.adcFailed c = false → d ≤ 41 →
    exec (.levelVerify c d) s = .next (((s.setChan h { s.chan h with inRound := false, verified := true }).setAdc c { s.adc c with roundAborted := false }).startRound c)) ∧
  (∀ (c d h : Nat) (l : List Nat) (s : State), s.roundOf c = h :: l → (s.adc c).safety = [] → l ≠ [] → h ∉ l → (s.adcFailed c = true ∨ 41 < d) →
    ∃ t, exec (.levelVerify c d) s = .next t ∧ (t.chan h).verified = false ∧ (t.chan h).inRound = false ∧ t.bit F.ADC_EVENTS_VERIFY_FAIL = true ∧ t.get F.ADC_VERIFY_INFO_CH = h % 2 ^ 8 ∧ regsBut [.ADC_EVENTS, .ADC_VERIFY_INFO] s t ∧
      t.detections = s.detections ++ [{ kind := 1, cause := 0x220, source := 0x300 + h, at_ := s.fr }]) ∧
  (∀ (c d h : Nat) (l : List Nat) (s : State), s.roundOf c = h :: l → (s.adc c).safety = [] → l = [] → (s.adcFailed c = true ∨ 41 < d) →
    ∃ t, exec (.levelVerify c d) s = .next t ∧ t.bit F.ADC_EVENTS_VERIFY_FAIL = true ∧ t.get F.ADC_VERIFY_INFO_CH = h % 2 ^ 8 ∧ t.get F.ADC_VERIFY_INFO_DEV = (if s.adcFailed c = true then 0 else d) % 2 ^ 16 ∧ regsBut [.ADC_EVENTS, .ADC_VERIFY_INFO] s t ∧
      t.detections = s.detections ++ [{ kind := 1, cause := 0x220, source := 0x300 + h, at_ := s.fr }]) ∧
  (∀ (c d : Nat) (s : State), (s.roundOf c = [] ∨ (s.adc c).safety ≠ []) → exec (.levelVerify c d) s = .next s) ∧
  (∀ (r : Nat) (e : Nat × Nat) (s : State), s.booted = true → r < 4 → (s.queue r).headD (0, 0) = e →
    ∃ t, exec (.resultQueuePop r) s = .next t ∧ t.rdata = [BitVec.ofNat 32 e.1] ∧ t.rstat = .ok ∧ t.queue r = (s.queue r).drop 1 ∧ Store.get? t.latch ⟨.ADC_RQr_1, r, 0⟩ = some (BitVec.ofNat 32 (e.1 / 2 ^ 32)) ∧
      Store.get? t.latch ⟨.ADC_RQr_2, r, 0⟩ = some (BitVec.ofNat 32 e.2) ∧ Store.get? t.latch ⟨.ADC_RQr_3, r, 0⟩ = some (BitVec.ofNat 32 (e.2 / 2 ^ 32)) ∧ regsBut [.ADC_STATUS] s t ∧ t.mem = s.mem)

/-- A CAL_LOAD is offered to the Toll; in its window the engine takes it when it is free and its turn has come, and shows BUSY, its Rows, its stall and its SEQ (R533, R534). CAL_SAVE is refused with cause 0x103 where its image does not fit, else it writes the image of the user layer in force (R393, R533). Until then both wait. An image that fails check FORMAT, DEVICE or SCOPE is rejected with the first failure: its result, channel and field are shown with REJECT, a Ledger record is made from the reserved one, the engine is free and the order COMPLETE (R534, R536). A good LAYER image is judged by checks LIMIT, COMBINED and LEVEL, and a good procedure image puts the channels of its Rows on the calibration bus and measures, unless a watch is open on a Row of EDGE_LIN: result 7 (R534, R537, R538). EDGE_LIN is rejected with result 8 and the first channel whose stop is missing or whose converter is out of service or took a saturated reading; one whose new INL values and residuals keep their limits has its layer and its references accepted, and a failed check rejects it with that check's result, a residual beyond 4 tu with result 9 (R303, R530, R538). Before every fine code is measured it goes on. LEVEL_TRIM and PMU_TRIM that could not measure, or with a converter out of service, are rejected with result 8; new values and residuals that keep their limits are accepted as a layer, a failed check rejects them with its result, and a residual beyond its limit with result 9 (R539, R540). At the commit instant the accepted layer's values replace the user records together, COMMIT is set and counted, and a Ledger event carries their CRC (R535, R536); where no channel has to settle the order is COMPLETE, else it waits for the channels whose levels ramp or have not settled (R531, R535). -/
def Obligations.CalibrationEngine : Prop :=
  (∀ (k : Nat) (w : Work) (s : State), s.work? k = some w → w.opcode = Op.calLoad → w.stage = .routed →
    exec (.calLoad k) s = .next (s.setWork k { w with stage := .offered, key := [s.fr, 1, w.stall, k] })) ∧
  (∀ (k : Nat) (w : Work) (s : State), s.work? k = some w → w.opcode = Op.calLoad → w.stage = .window → s.calRun = none → s.engineNext = some k →
    ∃ t, exec (.calLoad k) s = .next t ∧ t.calRun = some { work := k, rows := w.calRows } ∧ t.work? k = some { w with stage := .running } ∧ t.bit F.CAL_STATUS_BUSY = true ∧ t.get F.CAL_STATUS_ROWS = ofSet w.calRows 4 % 16 ∧ t.get F.CAL_ORDER_0_STALL = w.stall % 2 ^ F.CAL_ORDER_0_STALL.width ∧
      t.get F.CAL_ORDER_1_SEQ = w.seq % 2 ^ F.CAL_ORDER_1_SEQ.width ∧ regsBut [.CAL_STATUS, .CAL_ORDER_0, .CAL_ORDER_1] s t ∧ t.mem = s.mem) ∧
  (∀ (k : Nat) (w : Work) (s : State), s.work? k = some w → w.opcode = Op.calSave → w.stage = .routed → s.calRun = none → s.engineNext = some k → w.body 40 4 < (s.saveImage w.calRows).length →
    exec (.calSave k) s = .next (s.finalReceipt k 3 0x103)) ∧
  (∀ (k : Nat) (w : Work) (s : State), s.work? k = some w → w.opcode = Op.calSave → w.stage = .routed → s.calRun = none → s.engineNext = some k → (s.saveImage w.calRows).length ≤ w.body 40 4 →
    exec (.calSave k) s = .next ((s.send (.data w.fn (w.body 32 8) (s.saveImage w.calRows))).setWork k { w with stage := .running, count := (s.saveImage w.calRows).length, result := Bytes.le (s.saveImage w.calRows) 60 4 })) ∧
  (∀ (k : Nat) (w : Work) (s : State), (s.calRun.isSome = true ∨ s.engineNext ≠ some k) → s.work? k = some w →
    (w.opcode = Op.calLoad → w.stage = .window → exec (.calLoad k) s = .next s) ∧ (w.opcode = Op.calSave → w.stage = .routed → exec (.calSave k) s = .next s)) ∧
  (∀ (b : Bytes) (f : CalFail) (r : CalRun) (w : Work) (s : State), s.calRun = some r → s.work? r.work = some w → r.phase = .reading → b.length = w.body 40 4 →
    (formatCheck b <|> s.deviceCheck b <|> scopeCheck b r.rows) = some f →
    let p := if Bytes.le b 6 1 = 1 then Bytes.le b 26 1 else 0
    exec (.calImageRead b) s = .next ((s.set F.CAL_STATUS_PROC (if f.1 = 1 then 0 else p)).calReject { r with kind := Bytes.le b 6 1, proc := if f.1 = 1 then 0 else p } f)) ∧
  (∀ (b : Bytes) (f : CalFail) (r : CalRun) (w : Work) (s : State), s.calRun = some r → s.work? r.work = some w → r.phase = .reading → b.length = w.body 40 4 →
    (formatCheck b <|> s.deviceCheck b <|> scopeCheck b r.rows) = some f → f.1 = 1 →
    ∃ t, exec (.calImageRead b) s = .next t ∧ t.calRun = none ∧ t.get F.CAL_STATUS_RESULT = 1 ∧ t.bit F.CAL_STATUS_BUSY = false ∧ t.bit F.CAL_EVENTS_REJECT = true ∧ regsBut [.CAL_STATUS, .CAL_EVENTS] s t ∧
      t.receipts = s.receipts ++ [{ work := r.work, status := 0, final := true, cause := 0, detail := [], no := s.raiseNo }] ∧
      t.ledgerEvents = s.ledgerEvents ++ [{ code := 0x31, source := ofSet r.rows 4, aux := 2 ^ 28 + f.2.1 * 2 ^ 8 + f.2.2, data := s.factoryIdNow, reserved := true, at_ := s.fr }] ∧ t.mem = s.mem) ∧
  (∀ (b : Bytes) (r : CalRun) (w : Work) (s : State), s.calRun = some r → s.work? r.work = some w → r.phase = .reading → b.length = w.body 40 4 →
    Bytes.le b 6 1 ≠ 1 →
    exec (.calImageRead b) s = .next (match (formatCheck b <|> s.deviceCheck b <|> scopeCheck b r.rows) with
      | some f => (s.set F.CAL_STATUS_PROC 0).calReject { r with kind := Bytes.le b 6 1, proc := 0 } f
      | none => (s.set F.CAL_STATUS_PROC 0).calJudge { r with kind := Bytes.le b 6 1, proc := 0 } (((rowChans r.rows).zipIdx).map fun p => (p.1, recordValues b (64 + 128 * p.2))) none)) ∧
  (∀ (b : Bytes) (r : CalRun) (w : Work) (s : State), s.calRun = some r → s.work? r.work = some w → r.phase = .reading → b.length = w.body 40 4 →
    (formatCheck b <|> s.deviceCheck b <|> scopeCheck b r.rows) = none → Bytes.le b 6 1 = 1 → Bytes.le b 26 1 ≠ 0 → (Bytes.le b 26 1 = 1 → ∀ x ∈ r.rows, s.watchOnRow x = false) →
    ∃ t, exec (.calImageRead b) s = .next t ∧ t.calRun = some { r with kind := 1, proc := Bytes.le b 26 1, phase := .measuring } ∧ (∀ c ∈ rowChans r.rows, (t.chan c).onCalBus = true) ∧ regsBut [.CAL_STATUS] s t ∧ t.mem = s.mem ∧ t.works = s.works) ∧
  (∀ (b : Bytes) (x : Nat) (r : CalRun) (w : Work) (s : State), s.calRun = some r → s.work? r.work = some w → r.phase = .reading → b.length = w.body 40 4 →
    (formatCheck b <|> s.deviceCheck b <|> scopeCheck b r.rows) = none → Bytes.le b 6 1 = 1 → Bytes.le b 26 1 = 1 → r.rows.find? s.watchOnRow = some x →
    exec (.calImageRead b) s = .next ((s.set F.CAL_STATUS_PROC 1).calReject { r with kind := 1, proc := 1 } (7, 64 * x, 0))) ∧
  (∀ (r : CalRun) (m : List Int) (b : Bool) (v : Nat) (c : Nat) (s : State), s.calRun = some r → r.phase = .measuring → r.proc = 1 → r.edgesDone = true → (rowChans r.rows).find? (s.edgeFailed r b v) = some c →
    exec (.edgeLin m b v) s = .next ((s.calBusOff r.rows).calReject r (8, c, 0))) ∧
  (∀ (r : CalRun) (m : List Int) (b : Bool) (v : Nat) (s : State), s.calRun = some r → r.phase = .measuring → r.proc = 1 → r.edgesDone = true → (rowChans r.rows).find? (s.edgeFailed r b v) = none →
    let n := fun j => (Store.getD r.means ((rowChans r.rows).getD j 0) []).map Prod.fst
    let l := ((rowChans r.rows).zipIdx).map fun p => (p.1, (s.calBusOff r.rows).mergeValues p.1 (fun f => decide (68 ≤ f.off)) ((List.range 32).map fun k => edgeInl (n p.2) k - recField ((s.calBusOff r.rows).factWord p.1) (68 + k) 1))
    let e := (r.rows.zipIdx).map fun p => (p.1, unsigned ((n (64 * p.2 + 1)).getD 0 0) 32, unsigned (m.getD p.2 0) 16)
    (∀ p ∈ (rowChans r.rows).zipIdx, ∀ f ∈ List.range 256, edgeResidual (n p.2) f ≤ 1024) → (s.calBusOff r.rows).layerCheck l = none →
    exec (.edgeLin m b v) s = .next ({ s.calBusOff r.rows with calRun := some { r with refs := e, phase := .accepted, layer := l } })) ∧
  (∀ (r : CalRun) (m : List Int) (b : Bool) (v : Nat) (f : CalFail) (s : State), s.calRun = some r → r.phase = .measuring → r.proc = 1 → r.edgesDone = true → (rowChans r.rows).find? (s.edgeFailed r b v) = none →
    let n := fun j => (Store.getD r.means ((rowChans r.rows).getD j 0) []).map Prod.fst
    let l := ((rowChans r.rows).zipIdx).map fun p => (p.1, (s.calBusOff r.rows).mergeValues p.1 (fun f => decide (68 ≤ f.off)) ((List.range 32).map fun k => edgeInl (n p.2) k - recField ((s.calBusOff r.rows).factWord p.1) (68 + k) 1))
    let e := (r.rows.zipIdx).map fun p => (p.1, unsigned ((n (64 * p.2 + 1)).getD 0 0) 32, unsigned (m.getD p.2 0) 16)
    (s.calBusOff r.rows).layerCheck l = some f →
    exec (.edgeLin m b v) s = .next ((s.calBusOff r.rows).calReject { r with refs := e } f)) ∧
  (∀ (r : CalRun) (m : List Int) (b : Bool) (v : Nat) (f : CalFail) (s : State), s.calRun = some r → r.phase = .measuring → r.proc = 1 → r.edgesDone = true → (rowChans r.rows).find? (s.edgeFailed r b v) = none →
    let n := fun j => (Store.getD r.means ((rowChans r.rows).getD j 0) []).map Prod.fst
    let l := ((rowChans r.rows).zipIdx).map fun p => (p.1, (s.calBusOff r.rows).mergeValues p.1 (fun f => decide (68 ≤ f.off)) ((List.range 32).map fun k => edgeInl (n p.2) k - recField ((s.calBusOff r.rows).factWord p.1) (68 + k) 1))
    let e := (r.rows.zipIdx).map fun p => (p.1, unsigned ((n (64 * p.2 + 1)).getD 0 0) 32, unsigned (m.getD p.2 0) 16)
    (((rowChans r.rows).zipIdx).findSome? fun p => ((List.range 256).find? fun f => decide (1024 < edgeResidual (n p.2) f)).map fun f => ((9, p.1, 68 + f / 8) : CalFail)) = some f →
    exec (.edgeLin m b v) s = .next ((s.calBusOff r.rows).calReject { r with refs := e } (((s.calBusOff r.rows).layerCheck l).getD f))) ∧
  (∀ (r : CalRun) (m : List Int) (b : Bool) (v : Nat) (s : State), s.calRun = some r → r.edgesDone = false → exec (.edgeLin m b v) s = .next s) ∧
  (∀ (r : CalRun) (m : List (List Int)) (e : List Nat) (s : State), s.calRun = some r → r.phase = .measuring → r.proc = 2 → (∀ c ∈ rowChans r.rows, s.adcFailed (c / 4) = false) →
    exec (.levelTrim m e true) s = .next ((s.calBusOff r.rows).calReject r (8, (rowChans r.rows).headD 0, 0))) ∧
  (∀ (r : CalRun) (m : List (List Int)) (e : List Nat) (b : Bool) (s : State), s.calRun = some r → r.phase = .measuring → r.proc = 2 → (∃ c ∈ rowChans r.rows, s.adcFailed (c / 4) = true) →
    exec (.levelTrim m e b) s = .next ((s.calBusOff r.rows).calReject r (8, ((rowChans r.rows).find? fun c => s.adcFailed (c / 4)).getD 0, 0))) ∧
  (∀ (r : CalRun) (m : List (List Int)) (e : List Nat) (s : State), s.calRun = some r → r.phase = .measuring → r.proc = 2 → (∀ c ∈ rowChans r.rows, s.adcFailed (c / 4) = false) →
    let l := ((rowChans r.rows).zipIdx).map fun p => (p.1, (s.calBusOff r.rows).mergeValues p.1 (fun f => decide (8 ≤ f.off) && decide (f.off < 44)) (m.getD p.2 []))
    (∀ p ∈ (rowChans r.rows).zipIdx, e.getD p.2 0 ≤ 1000) → (s.calBusOff r.rows).layerCheck l = none →
    exec (.levelTrim m e false) s = .next ({ s.calBusOff r.rows with calRun := some { r with phase := .accepted, layer := l } })) ∧
  (∀ (r : CalRun) (m : List (List Int)) (e : List Nat) (f : CalFail) (s : State), s.calRun = some r → r.phase = .measuring → r.proc = 2 → (∀ c ∈ rowChans r.rows, s.adcFailed (c / 4) = false) →
    let l := ((rowChans r.rows).zipIdx).map fun p => (p.1, (s.calBusOff r.rows).mergeValues p.1 (fun f => decide (8 ≤ f.off) && decide (f.off < 44)) (m.getD p.2 []))
    (s.calBusOff r.rows).layerCheck l = some f →
    exec (.levelTrim m e false) s = .next ((s.calBusOff r.rows).calReject r f)) ∧
  (∀ (r : CalRun) (m : List (List Int)) (e : List Nat) (j d : Nat) (s : State), s.calRun = some r → r.phase = .measuring → r.proc = 2 → (∀ c ∈ rowChans r.rows, s.adcFailed (c / 4) = false) →
    let l := ((rowChans r.rows).zipIdx).map fun p => (p.1, (s.calBusOff r.rows).mergeValues p.1 (fun f => decide (8 ≤ f.off) && decide (f.off < 44)) (m.getD p.2 []))
    ((rowChans r.rows).zipIdx).find? (fun p => decide (1000 < e.getD p.2 0)) = some (j, d) →
    exec (.levelTrim m e false) s = .next ((s.calBusOff r.rows).calReject r (((s.calBusOff r.rows).layerCheck l).getD (9, j, 0)))) ∧
  (∀ (r : CalRun) (m : List (List Int)) (e : List Nat) (s : State), s.calRun = some r → r.phase = .measuring → r.proc = 3 → (∀ c ∈ rowChans r.rows, s.adcFailed (c / 4) = false) →
    exec (.pmuTrim m e true) s = .next ((s.calBusOff r.rows).calReject r (8, (rowChans r.rows).headD 0, 0))) ∧
  (∀ (r : CalRun) (m : List (List Int)) (e : List Nat) (b : Bool) (s : State), s.calRun = some r → r.phase = .measuring → r.proc = 3 → (∃ c ∈ rowChans r.rows, s.adcFailed (c / 4) = true) →
    exec (.pmuTrim m e b) s = .next ((s.calBusOff r.rows).calReject r (8, ((rowChans r.rows).find? fun c => s.adcFailed (c / 4)).getD 0, 0))) ∧
  (∀ (r : CalRun) (m : List (List Int)) (e : List Nat) (s : State), s.calRun = some r → r.phase = .measuring → r.proc = 3 → (∀ c ∈ rowChans r.rows, s.adcFailed (c / 4) = false) →
    let l := ((rowChans r.rows).zipIdx).map fun p => (p.1, (s.calBusOff r.rows).mergeValues p.1 (fun f => decide (44 ≤ f.off) && decide (f.off < 68)) (m.getD p.2 []))
    (∀ p ∈ (rowChans r.rows).zipIdx, e.getD p.2 0 ≤ 4) → (s.calBusOff r.rows).layerCheck l = none →
    exec (.pmuTrim m e false) s = .next ({ s.calBusOff r.rows with calRun := some { r with phase := .accepted, layer := l } })) ∧
  (∀ (r : CalRun) (m : List (List Int)) (e : List Nat) (f : CalFail) (s : State), s.calRun = some r → r.phase = .measuring → r.proc = 3 → (∀ c ∈ rowChans r.rows, s.adcFailed (c / 4) = false) →
    let l := ((rowChans r.rows).zipIdx).map fun p => (p.1, (s.calBusOff r.rows).mergeValues p.1 (fun f => decide (44 ≤ f.off) && decide (f.off < 68)) (m.getD p.2 []))
    (s.calBusOff r.rows).layerCheck l = some f →
    exec (.pmuTrim m e false) s = .next ((s.calBusOff r.rows).calReject r f)) ∧
  (∀ (r : CalRun) (m : List (List Int)) (e : List Nat) (j d : Nat) (s : State), s.calRun = some r → r.phase = .measuring → r.proc = 3 → (∀ c ∈ rowChans r.rows, s.adcFailed (c / 4) = false) →
    let l := ((rowChans r.rows).zipIdx).map fun p => (p.1, (s.calBusOff r.rows).mergeValues p.1 (fun f => decide (44 ≤ f.off) && decide (f.off < 68)) (m.getD p.2 []))
    ((rowChans r.rows).zipIdx).find? (fun p => decide (4 < e.getD p.2 0)) = some (j, d) →
    exec (.pmuTrim m e false) s = .next ((s.calBusOff r.rows).calReject r (((s.calBusOff r.rows).layerCheck l).getD (9, j, 0)))) ∧
  (∀ (r : CalRun) (w : Work) (s : State), s.calRun = some r → s.work? r.work = some w → r.phase = .accepted → (r.layer.map Prod.fst).Nodup →
    ((r.layer.filter fun p => rampsFor (s.userValues p.1) p.2 || !s.bit F.CHn_STATUS_SETTLED p.1 || (s.chan p.1).phase != .idle).map Prod.fst) = [] →
    ∃ t, exec .calCommit s = .next t ∧ t.bit F.CAL_EVENTS_COMMIT = true ∧ t.get F.CAL_STATUS_RESULT = 0 ∧ t.get F.CAL_STATUS_FAIL_CH = 0 ∧ t.get F.CAL_STATUS_FAIL_FIELD = 0 ∧
      t.get F.CAL_COMMITS_COUNT = min (s.get F.CAL_COMMITS_COUNT + 1) (2 ^ F.CAL_COMMITS_COUNT.width - 1) ∧
      (∀ c ∈ List.range 256, ∀ j ∈ List.range 32, t.rd ⟨.CAL_USER, c, j⟩ = (s.writeLayer r.layer).rd ⟨.CAL_USER, c, j⟩) ∧
      t.ledgerEvents = s.ledgerEvents ++ [{ code := 0x30, source := r.source, aux := (crc32c ((s.writeLayer r.layer).userRecords (r.layer.map Prod.fst))).toNat, data := s.factoryIdNow, reserved := true, at_ := s.fr }] ∧
      regsBut [.CAL_USER, .CAL_USER_CRC, .CAL_COMMITS, .CAL_EVENTS, .CAL_STATUS, .CAL_LINr_0, .CAL_LINr_1, .CHn_STATUS] s t ∧ t.mem = s.mem ∧ t.calRun = none ∧ t.bit F.CAL_STATUS_BUSY = false ∧
      t.receipts = s.receipts ++ [{ work := r.work, status := 0, final := true, cause := 0, detail := [], no := s.raiseNo }]) ∧
  (∀ (r : CalRun) (w : Work) (s : State), s.calRun = some r → s.work? r.work = some w → r.phase = .accepted → (r.layer.map Prod.fst).Nodup →
    ((r.layer.filter fun p => rampsFor (s.userValues p.1) p.2 || !s.bit F.CHn_STATUS_SETTLED p.1 || (s.chan p.1).phase != .idle).map Prod.fst) ≠ [] →
    ∃ t, exec .calCommit s = .next t ∧ t.bit F.CAL_EVENTS_COMMIT = true ∧ t.get F.CAL_STATUS_RESULT = 0 ∧ t.get F.CAL_STATUS_FAIL_CH = 0 ∧ t.get F.CAL_STATUS_FAIL_FIELD = 0 ∧
      t.get F.CAL_COMMITS_COUNT = min (s.get F.CAL_COMMITS_COUNT + 1) (2 ^ F.CAL_COMMITS_COUNT.width - 1) ∧
      (∀ c ∈ List.range 256, ∀ j ∈ List.range 32, t.rd ⟨.CAL_USER, c, j⟩ = (s.writeLayer r.layer).rd ⟨.CAL_USER, c, j⟩) ∧
      t.ledgerEvents = s.ledgerEvents ++ [{ code := 0x30, source := r.source, aux := (crc32c ((s.writeLayer r.layer).userRecords (r.layer.map Prod.fst))).toNat, data := s.factoryIdNow, reserved := true, at_ := s.fr }] ∧
      regsBut [.CAL_USER, .CAL_USER_CRC, .CAL_COMMITS, .CAL_EVENTS, .CAL_STATUS, .CAL_LINr_0, .CAL_LINr_1, .CHn_STATUS] s t ∧ t.mem = s.mem ∧ t.calRun = some { r with phase := .committed } ∧ t.work? r.work = some { w with count := 1, left := ((r.layer.filter fun p => rampsFor (s.userValues p.1) p.2 || !s.bit F.CHn_STATUS_SETTLED p.1 || (s.chan p.1).phase != .idle).map Prod.fst) } ∧ t.receipts = s.receipts) ∧
  (∀ s : State, (∀ r, s.calRun = some r → r.phase ≠ .accepted) → exec .calCommit s = .next s)

/-- A detection reaches the collector: in CLEAR it is latched as the first fault; one of the same instant and a lower source takes the first fault's place (R563); during HANDLING, its last instant included, one is only merged; after it one sets OVERFLOW, counts in LATER with its source and makes a Ledger record (R545, R548). In every case the work it affects is void, and a kind with a safe state enters it (R547, R550). A first fault without work shows its kind, cause and source, HANDLING, FIRST_VALID and FAULT, raises router source 0x476 and a Ledger event, and changes no other register (R545, R548, R549). HANDLING ends with the confirmed safe state for a kind that has one, else when every notice has reached its sequencer, and not before (R546). The safe state is confirmed within 5 µs of its entry; no later confirmation counts, and without one the device sets ESCALATED, records it and resets itself (R552). A clear is NONE without a fault, BUSY while handling, ASSERTING while a detector of the first fault or of the last later one asserts, and otherwise clears the record (R553). -/
def Obligations.FaultCollector : Prop :=
  (∀ s : State, s.detections = [] → exec .faultDetection s = .next s) ∧
  (∀ (d : Detection) (s : State), lowestSource s.detections = some d → s.bit F.FLT_STATUS_HANDLING = false → s.bit F.FLT_STATUS_FIRST_VALID = false →
    let u := { s with detections := s.detections.erase d }
    let v := (u.latchFirst d).voidFor d
    exec .faultDetection s = .next (if kindSafe d.kind d.source = true then v.enterSafe else v)) ∧
  (∀ (d : Detection) (s : State), lowestSource s.detections = some d → s.bit F.FLT_STATUS_HANDLING = true → (s.firstAt .FLT_FIRST_TIME_0 .FLT_FIRST_TIME_1 .FLT_FIRST_TIME_2 = s.fr80 ∧ d.source < s.get F.FLT_FIRST_SOURCE) →
    let u := { s with detections := s.detections.erase d }
    let v := (u.relatch d).voidFor d
    exec .faultDetection s = .next (if kindSafe d.kind d.source = true then v.enterSafe else v)) ∧
  (∀ (d : Detection) (s : State), lowestSource s.detections = some d → s.bit F.FLT_STATUS_HANDLING = true → ¬(s.firstAt .FLT_FIRST_TIME_0 .FLT_FIRST_TIME_1 .FLT_FIRST_TIME_2 = s.fr80 ∧ d.source < s.get F.FLT_FIRST_SOURCE) →
    let u := { s with detections := s.detections.erase d }
    let v := (u.countUp F.FLT_STATUS_MERGED).voidFor d
    exec .faultDetection s = .next (if kindSafe d.kind d.source = true then v.enterSafe else v)) ∧
  (∀ (d : Detection) (x : Tu) (s : State), lowestSource s.detections = some d → s.bit F.FLT_STATUS_HANDLING = false → s.bit F.FLT_STATUS_FIRST_VALID = true → s.handledAt = some x → d.at_ ≤ x →
    let u := { s with detections := s.detections.erase d }
    let v := (u.countUp F.FLT_STATUS_MERGED).voidFor d
    exec .faultDetection s = .next (if kindSafe d.kind d.source = true then v.enterSafe else v)) ∧
  (∀ (d : Detection) (s : State), lowestSource s.detections = some d → s.bit F.FLT_STATUS_HANDLING = false → s.bit F.FLT_STATUS_FIRST_VALID = true → (∀ x, s.handledAt = some x → x < d.at_) → 
    let u := { s with detections := s.detections.erase d }
    let v := ((((u.setBit F.FLT_STATUS_OVERFLOW).countUp F.FLT_LATER_COUNT).set F.FLT_LATER_LAST_SOURCE d.source).ledger (faultEvent d true s.fr)).voidFor d
    exec .faultDetection s = .next (if kindSafe d.kind d.source = true then v.enterSafe else v)) ∧
  (∀ (d : Detection) (s : State), lowestSource s.detections = some d → kindSafe d.kind d.source = false → s.works = [] → d.works = [] →
    s.bit F.FLT_STATUS_HANDLING = false → s.bit F.FLT_STATUS_FIRST_VALID = false →
    ∃ t, exec .faultDetection s = .next t ∧ t.detections = s.detections.erase d ∧ t.bit F.FLT_STATUS_HANDLING = true ∧ t.bit F.FLT_STATUS_FIRST_VALID = true ∧
      t.bit F.FLT_EVENTS_FAULT = true ∧ t.rd ⟨.FLT_FIRST, 0, 0⟩ = BitVec.ofNat 32 (d.kind * 2 ^ 28 + d.cause * 2 ^ 16 + d.source) ∧
      t.mem = s.mem ∧ t.ledgerEvents.length = s.ledgerEvents.length + 1 ∧ t.events = s.events ++ [{ source := 0x476, at_ := s.fr }] ∧
      regsBut [.FLT_FIRST, .FLT_FIRST_TIME_0, .FLT_FIRST_TIME_1, .FLT_FIRST_TIME_2, .FLT_STATUS, .FLT_EVENTS, .FLT_MIRROR, .FLT_MIRROR_TIME_0,
        .FLT_MIRROR_TIME_1, .FLT_MIRROR_TIME_2] s t) ∧
  (∀ s : State, s.bit F.FLT_STATUS_HANDLING = true → s.firstSafe = true → s.bit F.FLT_STATUS_SAFE = true →
    exec .handlingEnd s = .next { s.clrBit F.FLT_STATUS_HANDLING with handledAt := some s.fr }) ∧
  (∀ s : State, s.bit F.FLT_STATUS_HANDLING = true → s.firstSafe = false → (s.seqs.any fun p => p.2.notice.isSome) = false →
    exec .handlingEnd s = .next { s.clrBit F.FLT_STATUS_HANDLING with handledAt := some s.fr }) ∧
  (∀ s : State, (s.bit F.FLT_STATUS_HANDLING = false ∨ (s.firstSafe = true ∧ s.bit F.FLT_STATUS_SAFE = false) ∨ (s.firstSafe = false ∧ (s.seqs.any fun p => p.2.notice.isSome) = true)) →
    exec .handlingEnd s = .next s) ∧
  (∀ (t : Tu) (s : State), s.safeEntry = some t → s.fr ≤ t + 20480000 →
    exec .safeStateConfirm s = .next { s.setBit F.FLT_STATUS_SAFE with safeEntry := none }) ∧
  (∀ (s : State), (∀ t, s.safeEntry = some t → t + 20480000 < s.fr) →
    exec .safeStateConfirm s = .next s) ∧
  (∀ (t : Tu) (s : State), s.safeEntry = some t →
    ∃ u, exec .escalationTimeout s = .next u ∧ u.resets = s.resets ++ [(5, max s.fr (t + 20480001))] ∧ u.safeEntry = none ∧ u.bit F.FLT_MIRROR_TIME_2_ESCALATED = true ∧
      u.fr = max s.fr (t + 20480001) ∧ u.mem = s.mem ∧ u.ledgerEvents.length = s.ledgerEvents.length + 1 ∧ regsBut [.FLT_MIRROR_TIME_2] s u) ∧
  (∀ s : State, s.safeEntry = none → exec .escalationTimeout s = .next s) ∧
  (∀ (a : Bool) (s : State), s.booted = true → s.bit F.FLT_STATUS_FIRST_VALID = false →
    exec (.fltClear a) s = .next (s.set F.FLT_STATUS_CLEAR_RESULT 3)) ∧
  (∀ (a : Bool) (s : State), s.booted = true → s.bit F.FLT_STATUS_FIRST_VALID = true → (s.bit F.FLT_STATUS_HANDLING = true ∨ s.safeEntry.isSome = true) →
    exec (.fltClear a) s = .next ((s.set F.FLT_STATUS_CLEAR_RESULT 1).setBit F.FLT_EVENTS_CLEAR_REJECT)) ∧
  (∀ (a : Bool) (s : State), s.booted = true → s.bit F.FLT_STATUS_FIRST_VALID = true → s.bit F.FLT_STATUS_HANDLING = false → s.safeEntry = none →
    (a = true ∨ s.asserts (s.get F.FLT_FIRST_SOURCE) = true ∨ (s.bit F.FLT_STATUS_OVERFLOW = true ∧ s.asserts (s.get F.FLT_LATER_LAST_SOURCE) = true)) →
    exec (.fltClear a) s = .next ((s.set F.FLT_STATUS_CLEAR_RESULT 2).setBit F.FLT_EVENTS_CLEAR_REJECT)) ∧
  (∀ (a : Bool) (s : State), s.booted = true → s.bit F.FLT_STATUS_FIRST_VALID = true → s.bit F.FLT_STATUS_HANDLING = false → s.safeEntry = none →
    ¬(a = true ∨ s.asserts (s.get F.FLT_FIRST_SOURCE) = true ∨ (s.bit F.FLT_STATUS_OVERFLOW = true ∧ s.asserts (s.get F.FLT_LATER_LAST_SOURCE) = true)) →
    exec (.fltClear a) s = .next s.clearFault)

/-- An acknowledged mirror loses VALID and ESCALATED and nothing else (R549). A disable while another function's is shown is ignored with DISABLE_IGNORED, one of the same function joins it, and any other starts, shown BUSY (R557, R563, R565). A disable waits for the last work of its function other than its DISABLE orders; then its stalls close and its DISABLE orders complete with their counts, which one that joined does not carry (R394, R559); without stalls and work it shows its counts and DISABLE_DONE, and BUSY clears. A rail's warning sets its WARN and DIPPED bits, DIP and the hold, and is a SUPPLY detection (R554, R556). Its end makes a Ledger record of the lowest reading and the length, and when no rail warns lets the hold end 10 ms later (R555, R556, R566). The hold then ends at that instant (R556). An error of an on-die memory sets ECC_UNCORR and is a MEMORY detection that names the work; the address of a line of local memory that it held is recorded (R479). -/
def Obligations.DisablesAndSupplyDips : Prop :=
  (∀ s : State, s.booted = true → exec .fltMirrorAck s = .next ((s.clrBit F.FLT_MIRROR_TIME_2_VALID).clrBit F.FLT_MIRROR_TIME_2_ESCALATED)) ∧
  (∀ (f : Nat) (s : State), s.booted = true → f < 64 → s.bit F.FLT_DISABLE_STATUS_BUSY = true → s.get F.FLT_DISABLE_STATUS_FN ≠ f →
    exec (.fltDisable f) s = .next (s.setBit F.FLT_EVENTS_DISABLE_IGNORED)) ∧
  (∀ (f : Nat) (s : State), s.booted = true → f < 64 → (s.bit F.FLT_DISABLE_STATUS_BUSY = true → s.get F.FLT_DISABLE_STATUS_FN = f) → (s.func f).disabling = true →
    exec (.fltDisable f) s = .next s) ∧
  (∀ (f : Nat) (s : State), s.booted = true → f < 64 → (s.bit F.FLT_DISABLE_STATUS_BUSY = true → s.get F.FLT_DISABLE_STATUS_FN = f) → (s.func f).disabling = false →
    exec (.fltDisable f) s = .next ((s.startDisable f none).disableBusy f)) ∧
  (∀ (f : Nat) (s : State), ((s.func f).disabling = false ∨ (s.works.any fun p => p.2.fn == f && !p.2.disables f) = true) → exec (.disableDone f) s = .next s) ∧
  (∀ (f : Nat) (s : State), (s.func f).disabling = true → (s.works.any fun p => p.2.fn == f && !p.2.disables f) = false →
    let u := (s.endDisable f).stallsOf f
    exec (.disableDone f) s = .next ((s.works.filter fun p => p.2.disables f).foldl (fun t p => t.finalReceipt p.1 0 0
        (if p.2.result = 1 then [] else leBytes (min (s.func f).voided 0xFFFF) 2 ++ leBytes (min (s.func f).withdrawn 0xFFFF) 2))
      (u.foldl (fun t k => if (t.stall k).st = .closed ∨ (t.works.any fun p => p.2.stall == k) = true then t else (t.writeState k .closed).closeStall k) (s.endDisable f)))) ∧
  (∀ (f : Nat) (s : State), (s.func f).disabling = true → s.works = [] → s.stalls = [] → s.bit F.FLT_DISABLE_STATUS_BUSY = true → s.get F.FLT_DISABLE_STATUS_FN = f →
    ∃ t, exec (.disableDone f) s = .next t ∧ (t.func f).disabling = false ∧ t.bit F.FLT_DISABLE_STATUS_BUSY = false ∧
      t.get F.FLT_DISABLE_STATUS_VOIDED = min (s.func f).voided 0xFFF ∧ t.get F.FLT_DISABLE_STATUS_WITHDRAWN = min (s.func f).withdrawn 0xFFF ∧
      t.bit F.FLT_EVENTS_DISABLE_DONE = true ∧ regsBut [.FLT_DISABLE_STATUS, .FLT_EVENTS] s t ∧ t.mem = s.mem) ∧
  (∀ (r : Nat) (s : State), r < 5 → s.bit ⟨.FLT_SUPPLY, 16 + r, 1⟩ = false →
    ∃ t, exec (.supplyWarning r) s = .next t ∧ t.bit ⟨.FLT_SUPPLY, 16 + r, 1⟩ = true ∧ t.bit ⟨.FLT_SUPPLY, r, 1⟩ = true ∧ t.bit F.FLT_EVENTS_DIP = true ∧
      t.bit F.FLT_STATUS_HOLD = true ∧ t.bit F.TOLL_STATUS_HOLD = true ∧ t.holdEnd = none ∧ Store.get? t.warnSince r = some s.fr ∧
      t.detections = s.detections ++ [{ kind := 8, cause := 0x226, source := 0x900 + r, at_ := s.fr }] ∧
      regsBut [.FLT_SUPPLY, .FLT_EVENTS, .FLT_STATUS, .TOLL_STATUS] s t ∧ t.mem = s.mem ∧ t.works = s.works) ∧
  (∀ (r : Nat) (s : State), (5 ≤ r ∨ s.bit ⟨.FLT_SUPPLY, 16 + r, 1⟩ = true) → exec (.supplyWarning r) s = .next s) ∧
  (∀ (r : Nat) (lo : Int) (s : State), r < 5 → s.bit ⟨.FLT_SUPPLY, 16 + r, 1⟩ = true →
    ∃ t, exec (.supplyWarningEnd r lo) s = .next t ∧ t.bit ⟨.FLT_SUPPLY, 16 + r, 1⟩ = false ∧ Store.get? t.warnSince r = none ∧
      t.ledgerEvents = s.ledgerEvents ++ [{ code := 0x21, source := 0x900 + r, aux := unsigned lo 32, data := (s.fr - Store.getD s.warnSince r s.fr + 4096000) / 4096, at_ := s.fr }] ∧
      t.holdEnd = (if t.get F.FLT_SUPPLY_WARN = 0 then some (s.fr + 40960000000) else none) ∧ regsBut [.FLT_SUPPLY] s t ∧ t.mem = s.mem ∧ t.works = s.works) ∧
  (∀ (r : Nat) (lo : Int) (s : State), (5 ≤ r ∨ s.bit ⟨.FLT_SUPPLY, 16 + r, 1⟩ = false) → exec (.supplyWarningEnd r lo) s = .next s) ∧
  (∀ (t : Tu) (s : State), s.holdEnd = some t →
    exec .supplyHoldEnd s = .next { ((s.advanceTo t).clrBit F.FLT_STATUS_HOLD).clrBit F.TOLL_STATUS_HOLD with holdEnd := none }) ∧
  (∀ s : State, s.holdEnd = none → exec .supplyHoldEnd s = .next s) ∧
  (∀ (k : Option Nat) (l : Nat) (s : State),
    exec (.onDieMemoryError k none) s = .next ((s.setBit F.DRAM_EVENTS_ECC_UNCORR).detect { kind := 6, cause := 0x224, source := 0x702, works := k.toList }) ∧
    exec (.onDieMemoryError k (some l)) s = .next (((s.setBit F.DRAM_EVENTS_ECC_UNCORR).eccAddr l).detect { kind := 6, cause := 0x224, source := 0x702, works := k.toList }))

/-- An event enters the keeper's queue while it has room, one of a reserved record always: by its instant, then its code, then its source (R541, R570); beyond that, and during a VKEEP warning, it is lost and counted (R571, R575). The keeper takes the oldest queued event only when no write is in progress, no torn record waits and no warning stands. The event of a reserved record is written as a new one; one with the code and source of the last record raises that record's count; any other is written as a new record (R567, R569), unless the Ledger is FULL or no record is free: then it is counted as unrecorded (R573). A finished write of a new record puts it after the last record, a finished count update replaces the last record by its words with REPEAT raised by 1 (R567, R569); the write of a reserved record uses up one reservation (R572). Lost events are recorded by an OVERRUN record with their count as soon as there is room and no write is in progress (R571). A VKEEP warning empties the queue into the lost count (R575). A read of LEDG_REC_0 returns word 0 of the record at LEDG_READ_IDX and latches its words and its state (R577, R578); during a count update of that record its last word is the old or the new one, as a free value decides; a record that is being written reads its words or erased ones (R568); a record that was never written reads erased and FREE. -/
def Obligations.LedgerKeeping : Prop :=
  (∀ s : State, s.ledgerEvents = [] → exec .ledgerEvent s = .next s) ∧
  (∀ (e : LedgerEv) (s : State), nextLedgerEvent s.ledgerEvents = some e → (s.ledgQueue.length < 64 ∨ e.reserved = true) → s.bit F.LEDG_STATUS_WARN = false →
    exec .ledgerEvent s = .next ({ s with ledgerEvents := s.ledgerEvents.erase e, ledgQueue := s.ledgQueue.takeWhile (!e.precedes ·) ++ e :: s.ledgQueue.dropWhile (!e.precedes ·) }.overrunIfDue.refreshLedger)) ∧
  (∀ (e : LedgerEv) (s : State), nextLedgerEvent s.ledgerEvents = some e → ((64 ≤ s.ledgQueue.length ∧ e.reserved = false) ∨ s.bit F.LEDG_STATUS_WARN = true) →
    exec .ledgerEvent s = .next (({ s with ledgerEvents := s.ledgerEvents.erase e }.ledgerLose 1).overrunIfDue.refreshLedger)) ∧
  (∀ s : State, (s.ledgQueue = [] ∨ s.ledgWrite.isSome = true ∨ s.ledgTorn.isSome = true ∨ s.bit F.LEDG_STATUS_WARN = true) → exec .ledgerTake s = .next s) ∧
  (∀ (e : LedgerEv) (es : List LedgerEv) (s : State), s.ledgQueue = e :: es → s.ledgWrite = none → s.ledgTorn = none → s.bit F.LEDG_STATUS_WARN = false → e.reserved = true →
    exec .ledgerTake s = .next (({ s with ledgQueue := es, ledgWrite := some { words := mkRecord (({ s with ledgQueue := es } : State).recordHead e) 1 0xA55A, reserved := true } }).refreshLedger)) ∧
  (∀ (e : LedgerEv) (es : List LedgerEv) (s : State), s.ledgQueue = e :: es → s.ledgWrite = none → s.ledgTorn = none → s.bit F.LEDG_STATUS_WARN = false → e.reserved = false → s.bit F.LEDG_STATUS_FULL = false → s.folds e = true →
    exec .ledgerTake s = .next (({ s with ledgQueue := es, ledgWrite := some { words := s.ledgRecs.getLast?.getD [], update := true } }).refreshLedger)) ∧
  (∀ (e : LedgerEv) (es : List LedgerEv) (s : State), s.ledgQueue = e :: es → s.ledgWrite = none → s.ledgTorn = none → s.bit F.LEDG_STATUS_WARN = false → e.reserved = false → s.bit F.LEDG_STATUS_FULL = false → s.folds e = false → s.ledgerFree ≠ 0 →
    exec .ledgerTake s = .next (({ s with ledgQueue := es, ledgWrite := some { words := mkRecord (({ s with ledgQueue := es } : State).recordHead e) 1 0xA55A } }).refreshLedger)) ∧
  (∀ (e : LedgerEv) (es : List LedgerEv) (s : State), s.ledgQueue = e :: es → s.ledgWrite = none → s.ledgTorn = none → s.bit F.LEDG_STATUS_WARN = false → e.reserved = false → (s.bit F.LEDG_STATUS_FULL = true ∨ (s.folds e = false ∧ s.ledgerFree = 0)) →
    exec .ledgerTake s = .next (({ s with ledgQueue := es }.unrecorded).refreshLedger)) ∧
  (∀ s : State, s.ledgWrite = none → exec .ledgerWriteDone s = .next s) ∧
  (∀ (w : LedgerWrite) (s : State), s.ledgWrite = some w → w.reserved = false →
    let u := { s with ledgWrite := none, ledgRecs := if w.update = true then s.ledgRecs.dropLast ++ [w.words.set 7 (BitVec.ofNat 32 (recRepeat w.words + 1 + recMark w.words * 2 ^ 16))] else s.ledgRecs ++ [w.words] }
    exec .ledgerWriteDone s = .next u.overrunIfDue.refreshLedger) ∧
  (∀ (w : LedgerWrite) (s : State), s.ledgWrite = some w → w.reserved = true →
    let u := { s with ledgWrite := none, ledgRecs := if w.update = true then s.ledgRecs.dropLast ++ [w.words.set 7 (BitVec.ofNat 32 (recRepeat w.words + 1 + recMark w.words * 2 ^ 16))] else s.ledgRecs ++ [w.words] }
    exec .ledgerWriteDone s = .next (u.set F.LEDG_FREE_RESERVED (u.get F.LEDG_FREE_RESERVED - 1)).overrunIfDue.refreshLedger) ∧
  (∀ s : State, (s.get F.LEDG_LOST_COUNT = 0 → s.overrunIfDue = s) ∧
    (s.get F.LEDG_LOST_COUNT ≠ 0 → s.ledgQueue.length < 64 → s.ledgWrite = none → s.ledgTorn = none → s.bit F.LEDG_STATUS_WARN = false →
      s.overrunIfDue = (s.set F.LEDG_LOST_COUNT 0).startWrite { code := 3, source := 0, aux := s.get F.LEDG_LOST_COUNT, data := 0 })) ∧
  (∀ s : State, s.bit F.LEDG_STATUS_WARN = false →
    exec .vkeepWarning s = .next (({ (s.setBit F.LEDG_STATUS_WARN).ledgerLose s.ledgQueue.length with ledgQueue := [] }).refreshLedger)) ∧
  (∀ s : State, s.bit F.LEDG_STATUS_WARN = true → exec .vkeepWarning s = .next s) ∧
  (∀ s : State, s.booted = true → (s.get F.LEDG_READ_IDX_INDEX) < s.ledgRecs.length → ((s.ledgWrite.any (·.update)) = true → (s.get F.LEDG_READ_IDX_INDEX) + 1 ≠ s.ledgRecs.length) →
    let r := s.ledgRecs.getD (s.get F.LEDG_READ_IDX_INDEX) erased
    ∃ t, exec .ledgerRead s = .next t ∧ t.rdata = [r.getD 0 0#32] ∧ t.rstat = .ok ∧ t.get F.LEDG_READ_STATE_STATE = recState r ∧
      (∀ j ∈ List.range r.length, t.rd ⟨.LEDG_REC_w, j, 0⟩ = r.getD j 0#32) ∧ t.ledgRecs = s.ledgRecs ∧ t.mem = s.mem ∧ regsBut [.LEDG_REC_w, .LEDG_READ_STATE, .LEDG_EVENTS] s t) ∧
  (∀ s : State, s.booted = true → (s.get F.LEDG_READ_IDX_INDEX) + 1 = s.ledgRecs.length → (s.ledgWrite.any (·.update)) = true →
    let r := s.ledgRecs.getD (s.get F.LEDG_READ_IDX_INDEX) erased
    ∃ t, exec .ledgerRead s = .next t ∧ t.rdata = [r.getD 0 0#32] ∧ t.rstat = .ok ∧ (t.rd ⟨.LEDG_REC_w, 7, 0⟩ = r.getD 7 0#32 ∨ t.rd ⟨.LEDG_REC_w, 7, 0⟩ = (raisedRepeat r).getD 7 0#32) ∧
      t.ledgRecs = s.ledgRecs ∧ t.mem = s.mem) ∧
  (∀ (w : LedgerWrite) (s : State), s.booted = true → (s.get F.LEDG_READ_IDX_INDEX) = s.ledgRecs.length → s.ledgWrite = some w → w.update = false → 6 ≤ w.words.length →
    ∃ t, exec .ledgerRead s = .next t ∧ t.rstat = .ok ∧ (t.rdata = [w.words.getD 0 0#32] ∨ t.rdata = [0xFFFFFFFF#32]) ∧
      t.ledgRecs = s.ledgRecs ∧ t.mem = s.mem) ∧
  (∀ s : State, s.booted = true → s.ledgRecs.length ≤ (s.get F.LEDG_READ_IDX_INDEX) → ((s.get F.LEDG_READ_IDX_INDEX) = s.ledgRecs.length → ∀ w, s.ledgWrite = some w → w.update = true) →
    ∃ t, exec .ledgerRead s = .next t ∧ t.rdata = [0xFFFFFFFF#32] ∧ t.rstat = .ok ∧ t.get F.LEDG_READ_STATE_STATE = 0 ∧ t.ledgRecs = s.ledgRecs ∧ t.mem = s.mem)

/-- Before boot has ended a selection changes nothing. While an exit runs it shows IDLE alone; without one, where the deepest permitted state is not deeper than the present one, it shows IDLE and BLOCK and nothing else. Where it is deeper, and not P4, STATE takes it, STATE_CHANGE is set and the domains and converters follow; memory and every register but PWR_STATUS, PWR_EVENTS, PWR_DOMAINS and ADC_STATUS stay. Where it is P4 the device enters P4: everything outside the keeper loses its state, every domain is off and DUT_SAFE_N is low, while the Ledger keeps its records. An exit starts only from P1 to P3 with none running. From P1 and P2 it sets EXITING and abandons an entry to self-refresh that has not been commanded; a planned one starts the exit latency before the earliest pending instant; from P3 the converters of the Rows in use are powered again and their channels return. An exit does not end before the stacks have left self-refresh and, from P3, the Rows are ready; it ends in P0, with EXITING 0 and the converters free to start. A P4 request before the end of boot is nothing. One stands with its instant and is met at once where P4 is permitted and no exit runs; a second leaves the first one's instant. It expires after 1 ms with P4_REJECT; without a request nothing expires. In P4 an enabled wake count asserts a reset of source 6 with event 2; elsewhere it wakes nothing. -/
def Obligations.PowerStates : Prop :=
  (∀ s : State, s.booted = false → exec .powerStateSelect s = .next s) ∧
  (∀ s : State, s.booted = true → s.bit F.PWR_STATUS_EXITING = true → exec .powerStateSelect s = .next (s.setIf F.PWR_STATUS_IDLE s.idle)) ∧
  (∀ s : State, s.booted = true → s.bit F.PWR_STATUS_EXITING = false → ¬ s.get F.PWR_STATUS_STATE < s.deepest →
    exec .powerStateSelect s = 
      .next ((s.setIf F.PWR_STATUS_IDLE s.idle).set F.PWR_STATUS_BLOCK ((s.setIf F.PWR_STATUS_IDLE s.idle).blockCode (max (s.get F.PWR_STATUS_STATE) s.deepest)))) ∧
  (∀ s : State, s.booted = true → s.bit F.PWR_STATUS_EXITING = false → s.get F.PWR_STATUS_STATE < s.deepest → s.deepest < 4 →
    let u := s.setPower s.deepest
    exec .powerStateSelect s = .next ((u.setIf F.PWR_STATUS_IDLE u.idle).set F.PWR_STATUS_BLOCK ((u.setIf F.PWR_STATUS_IDLE u.idle).blockCode (max (s.get F.PWR_STATUS_STATE) s.deepest)))) ∧
  (∀ s : State, s.booted = true → s.bit F.PWR_STATUS_EXITING = false → s.get F.PWR_STATUS_STATE < s.deepest → s.deepest < 4 →
    ∃ t, exec .powerStateSelect s = .next t ∧ t.get F.PWR_STATUS_STATE = s.deepest ∧ t.bit F.PWR_EVENTS_STATE_CHANGE = true ∧
      regsBut [.PWR_STATUS, .PWR_EVENTS, .PWR_DOMAINS, .ADC_STATUS] s t ∧ t.mem = s.mem) ∧
  (∀ s : State, s.booted = true → s.bit F.PWR_STATUS_EXITING = false → s.get F.PWR_STATUS_STATE < s.deepest → s.deepest = 4 →
    exec .powerStateSelect s = .next s.enterP4 ∧ s.enterP4.get F.PWR_STATUS_STATE = 4 ∧ s.enterP4.rd ⟨.PWR_DOMAINS, 0, 0⟩ &&& 0xFFFFF#32 = 0#32 ∧
      s.enterP4.works = [] ∧ s.enterP4.mem = [] ∧ s.enterP4.booted = false ∧ s.enterP4.bit F.FLT_STATUS_DUT_SAFE_N = false ∧ s.enterP4.ledgRecs = s.ledgRecs) ∧
  (∀ (p : Bool) (s : State), (s.booted = false ∨ s.get F.PWR_STATUS_STATE = 0 ∨ 4 ≤ s.get F.PWR_STATUS_STATE ∨ s.bit F.PWR_STATUS_EXITING = true) → exec (.powerExitStart p) s = .next s) ∧
  (∀ (p : Bool) (s : State), s.booted = true → (s.get F.PWR_STATUS_STATE = 1 ∨ s.get F.PWR_STATUS_STATE = 2) → s.bit F.PWR_STATUS_EXITING = false → (p = true → earliest s.pendingInstants = none) → 
    exec (.powerExitStart p) s = .next { (s).setBit F.PWR_STATUS_EXITING with sref := if (s).sref = .closing then .none_ else (s).sref }) ∧
  (∀ (d : Tu) (s : State), s.booted = true → (s.get F.PWR_STATUS_STATE = 1 ∨ s.get F.PWR_STATUS_STATE = 2) → s.bit F.PWR_STATUS_EXITING = false → earliest s.pendingInstants = some d →
    let a := s.advanceTo (d - exitLatency (s.get F.PWR_STATUS_STATE) * 4096000)
    exec (.powerExitStart true) s = .next { (a).setBit F.PWR_STATUS_EXITING with sref := if (a).sref = .closing then .none_ else (a).sref }) ∧
  (∀ (p : Bool) (s : State), s.booted = true → s.get F.PWR_STATUS_STATE = 3 → s.bit F.PWR_STATUS_EXITING = false → (p = true → earliest s.pendingInstants = none) → 
    let a : State := { (s).setBit F.PWR_STATUS_EXITING with sref := if (s).sref = .closing then .none_ else (s).sref }
    let b := (a).refreshDomains 3 true
    exec (.powerExitStart p) s = .next (((List.range 4).filter fun r => !b.rowOff r).foldl (fun (v : State) r => v.wakeRow r (a.fr + 8192000000)) b)) ∧
  (∀ (d : Tu) (s : State), s.booted = true → s.get F.PWR_STATUS_STATE = 3 → s.bit F.PWR_STATUS_EXITING = false → earliest s.pendingInstants = some d →
    let c := s.advanceTo (d - 8192000000)
    let a : State := { (c).setBit F.PWR_STATUS_EXITING with sref := if (c).sref = .closing then .none_ else (c).sref }
    let b := (a).refreshDomains 3 true
    exec (.powerExitStart true) s = .next (((List.range 4).filter fun r => !b.rowOff r).foldl (fun (v : State) r => v.wakeRow r (a.fr + 8192000000)) b)) ∧
  (∀ s : State, (s.bit F.PWR_STATUS_EXITING = false ∨ s.sref ≠ .none_ ∨ (3 ≤ s.get F.PWR_STATUS_STATE ∧ s.rowsReady = false)) → exec .powerExitComplete s = .next s) ∧
  (∀ s : State, s.bit F.PWR_STATUS_EXITING = true → s.sref = .none_ → (s.get F.PWR_STATUS_STATE < 3 ∨ s.rowsReady = true) →
    let u := (s.clrBit F.PWR_STATUS_EXITING).setPower 0
    let v := u.setIf F.PWR_STATUS_IDLE u.idle
    exec .powerExitComplete s = .next ((v.set F.PWR_STATUS_BLOCK (v.blockCode 0)).adcKick)) ∧
  (∀ s : State, s.booted = false → exec .p4Req s = .next s) ∧
  (∀ s : State, s.booted = true → s.bit F.PWR_STATUS_P4_PENDING = false →
    let u : State := { s.setBit F.PWR_STATUS_P4_PENDING with p4Req := some s.fr }
    exec .p4Req s = .next (if u.deepest = 4 ∧ u.bit F.PWR_STATUS_EXITING = false then u.enterP4 else u)) ∧
  (∀ s : State, s.booted = true → s.bit F.PWR_STATUS_P4_PENDING = true →
    exec .p4Req s = .next (if s.deepest = 4 ∧ s.bit F.PWR_STATUS_EXITING = false then s.enterP4 else s)) ∧
  (∀ (t : Tu) (s : State), s.p4Req = some t →
    exec .p4RequestExpiry s = .next { ((s.advanceTo (t + 4096000000)).clrBit F.PWR_STATUS_P4_PENDING).setBit F.PWR_EVENTS_P4_REJECT with p4Req := none }) ∧
  (∀ s : State, s.p4Req = none → exec .p4RequestExpiry s = .next s) ∧
  (∀ s : State, s.get F.PWR_STATUS_STATE = 4 → s.bit F.PWR_WAKE_1_EN = true → s.inReset = none →
    exec .p4WakeTimer s = .next { s.clrBit F.FLT_STATUS_DUT_SAFE_N with resets := s.resets ++ [(6, s.fr)], p4Event := 2 }) ∧
  (∀ s : State, (s.get F.PWR_STATUS_STATE ≠ 4 ∨ s.bit F.PWR_WAKE_1_EN = false ∨ s.inReset ≠ none) → exec .p4WakeTimer s = .next s)

/-- Before the end of boot a write of PWR_ROW_OFF changes nothing. A write that newly names a Row in use is ignored with ROW_BLOCKED; otherwise OFF takes the value, the domains follow, the Rows named newly go off and the Rows named no longer wake. Every 100 µs MV_NOW shows the measured VCORE and REQ is RAISE below the pace 4,352 or within 10 mV of the minimum, LOWER above 4,864 with 20 mV in hand, else HOLD. The pace reading is the slowest replica's pace less 64, no more than 65,535 (the model's choice, log entry 31); decisions that took a higher one restart; where it undercuts the assumed pace of admitted work, or of work that ended in the window, a pace fault is detected. Without work and with no higher pace assumed in the window, only PWR_PACE changes. An underrun of an admitted burst's buffer is a pace fault of that burst; other work has no such fault. -/
def Obligations.RowsVoltageAndPace : Prop :=
  (∀ (v : Word) (s : State), s.booted = false → exec (.rowOffWrite v) s = .next s) ∧
  (∀ (v : Word) (s : State), s.booted = true →
    ((((List.range 4).filter fun r => bitOf (F.PWR_ROW_OFF_OFF.get v) r && !s.rowOff r).any s.rowUsed) = true) →
    exec (.rowOffWrite v) s = .next (s.setBit F.PWR_EVENTS_ROW_BLOCKED)) ∧
  (∀ (v : Word) (s : State), s.booted = true →
    let sets := (List.range 4).filter fun r => bitOf (F.PWR_ROW_OFF_OFF.get v) r && !s.rowOff r
    let clears := (List.range 4).filter fun r => !bitOf (F.PWR_ROW_OFF_OFF.get v) r && s.rowOff r
    sets.any s.rowUsed = false →
    let a := s.set F.PWR_ROW_OFF_OFF (F.PWR_ROW_OFF_OFF.get v)
    let b := sets.foldl (fun t r => t.rowGoesOff r) (a.refreshDomains (s.get F.PWR_STATUS_STATE) (s.get F.PWR_STATUS_STATE ≤ 2 || a.bit F.PWR_STATUS_EXITING))
    exec (.rowOffWrite v) s = .next ((clears.foldl (fun t r => t.wakeRow r (b.fr + 8192000000)) b).adcKick)) ∧
  (∀ (mv : Nat) (s : State),
    let u := s.set F.PWR_VCORE_NOW_MV mv
    exec (.vcoreRequestUpdate mv) s = .next (u.set F.PWR_PACE_REQ
      (if u.get F.PWR_PACE_READING < 4352 ∨ mv < u.get F.PWR_VCORE_MIN_MV + 10 then 1
       else if 4864 < u.get F.PWR_PACE_READING ∧ u.get F.PWR_VCORE_MIN_MV + 20 ≤ mv then 2 else 0))) ∧
  (∀ (pace : Nat) (s : State),
    let rd := min (pace - 64) 65535
    let u := (s.set F.PWR_PACE_READING rd).restartDecisions rd
    let low := u.works.any (fun p => p.2.isAdmitted && decide (rd < p.2.pace)) || u.donePaces.any (rd < ·)
    exec (.paceReadingPublish pace) s = .next
      { (if low then u.detect { kind := 4, cause := 0x222, source := 0x610, reading := rd } else u) with donePaces := [] }) ∧
  (∀ (pace : Nat) (s : State), s.works = [] → (∀ p ∈ s.donePaces, p ≤ min (pace - 64) 65535) →
    ∃ t, exec (.paceReadingPublish pace) s = .next t ∧ t.get F.PWR_PACE_READING = min (pace - 64) 65535 ∧ t.detections = s.detections ∧ regsBut [.PWR_PACE] s t ∧ t.mem = s.mem) ∧
  (∀ (k : Nat) (w : Work) (s : State), s.work? k = some w → w.opcode = Op.burst → w.isAdmitted = true →
    exec (.runAheadUnderrun k) s = .next (s.detect { kind := 4, cause := 0x222, source := 0x610, works := [k], reading := 65535 })) ∧
  (∀ (k : Nat) (s : State), (∀ w, s.work? k = some w → w.opcode ≠ Op.burst ∨ w.isAdmitted = false) →
    exec (.runAheadUnderrun k) s = .next s)

/-- POWER_ON asserts reset 1, with power no longer good and DUT_SAFE_N low; a Ledger write in progress may be cut short by it, and with both keeper supplies lost the keeper's queue, oven, backup count and loop count take their reset values, BOOT_COUNT and the Ledger's records staying. POWER_GOOD says that power is good. A reset input that stays where it is does nothing. PERST# low, RESET_N low and the watchdog assert resets 2, 3 and 4, each at its instant, with DUT_SAFE_N low; in P4 PERST# low does nothing but be held, and PERST# rising or RESET_N falling ends P4: reset 6. Their release is held. A stopped watchdog does not expire; one that runs expires after its period, and before step 8 counts in WDT_LOOP. Without an asserted source no reset takes effect. Else the asserted sources take effect as one reset, whose cause is the lowest code of the first instant, or stays that of a reset in progress: no work, stall, watch, queue entry or stored byte is left, the clock stops at 0, and the Ledger, its queue and write, the oven, BOOT_COUNT, WDT_LOOP and the next grain stay. A reset is released only with power good and both reset inputs high. The release samples the straps, records the cause, raises the boot count and puts boot in step 1 with the watchdog at 2,000 ms; without a lock in time it also shows WAIT_REF and COARSE, stops the watchdog and makes the BOOT record; after three watchdog resets it halts boot with reason 7; and it has the keeper seal a torn record. A write of 0x5A5A from inside restarts the running watchdog's period; another value or a write by a host changes nothing. -/
def Obligations.ResetSourcesAndRelease : Prop :=
  (∀ s : State, exec (.powerOn false none) s = .next { (s).clrBit F.FLT_STATUS_DUT_SAFE_N with powerGood := false, resets := s.resets ++ [(1, (s).fr)] }) ∧
  (∀ (n : Nat) (s : State),
    let a := s.cutLedger n
    exec (.powerOn false (some n)) s = .next { (a).clrBit F.FLT_STATUS_DUT_SAFE_N with powerGood := false, resets := s.resets ++ [(1, (a).fr)] }) ∧
  (∀ (cut : Option Nat) (s : State),
    ∃ t, exec (.powerOn true cut) s = .next t ∧ t.resets = s.resets ++ [(1, s.fr)] ∧ t.powerGood = false ∧ t.bit F.FLT_STATUS_DUT_SAFE_N = false ∧
      t.ledgQueue = [] ∧ t.ledgerEvents = [] ∧ t.ledgWrite = none ∧ t.oven = {} ∧ t.bit F.TIME_BACKUP_1_TV = false ∧ t.get F.BOOT_RESET_CAUSE_WDT_LOOP = 0 ∧
      t.get F.BOOT_COUNT_COUNT = s.get F.BOOT_COUNT_COUNT ∧ t.mem = s.mem ∧ t.works = s.works ∧ (cut = none → t.ledgRecs = s.ledgRecs)) ∧
  (∀ s : State, exec .powerGood s = .next { s with powerGood := true }) ∧
  (∀ (low : Bool) (s : State), low = s.perstLow → exec (.perst low) s = .next s) ∧
  (∀ s : State, s.perstLow = false → s.get F.PWR_STATUS_STATE ≠ 4 → exec (.perst true) s = .next { (s).clrBit F.FLT_STATUS_DUT_SAFE_N with perstLow := true, resets := s.resets ++ [(2, (s).fr)] }) ∧
  (∀ s : State, s.perstLow = true → s.get F.PWR_STATUS_STATE ≠ 4 → exec (.perst false) s = .next { s with perstLow := false }) ∧
  (∀ s : State, s.perstLow = false → s.get F.PWR_STATUS_STATE = 4 → exec (.perst true) s = .next { s with perstLow := true }) ∧
  (∀ s : State, s.perstLow = true → s.get F.PWR_STATUS_STATE = 4 → exec (.perst false) s = .next { (s).clrBit F.FLT_STATUS_DUT_SAFE_N with perstLow := false, p4Event := 0, resets := s.resets ++ [(6, (s).fr)] }) ∧
  (∀ (low : Bool) (s : State), low = s.resetNLow → exec (.resetN low) s = .next s) ∧
  (∀ s : State, s.resetNLow = false →
    exec (.resetN true) s = .next (if s.get F.PWR_STATUS_STATE = 4 then { (s).clrBit F.FLT_STATUS_DUT_SAFE_N with resetNLow := true, p4Event := 1, resets := s.resets ++ [(6, (s).fr)] } else { (s).clrBit F.FLT_STATUS_DUT_SAFE_N with resetNLow := true, resets := s.resets ++ [(3, (s).fr)] })) ∧
  (∀ s : State, s.resetNLow = true → exec (.resetN false) s = .next { s with resetNLow := false }) ∧
  (∀ s : State, (s.bit F.BOOT_WDT_RUNNING = false ∨ s.inReset ≠ none ∨ s.get F.PWR_STATUS_STATE = 4) → exec .watchdog s = .next s) ∧
  (∀ s : State, s.bit F.BOOT_WDT_RUNNING = true → s.inReset = none → s.get F.PWR_STATUS_STATE ≠ 4 →
    let a := if s.frRuns = true then s.advanceTo (s.wdtFrom + s.wdtMs * 4096000000 + 1) else s
    let b := if s.booted = true then a else a.countUp F.BOOT_RESET_CAUSE_WDT_LOOP
    exec .watchdog s = .next { (b).clrBit F.FLT_STATUS_DUT_SAFE_N with resets := s.resets ++ [(4, (b).fr)] }) ∧
  (∀ s : State, s.resets = [] → exec .resetAssert s = .next s) ∧
  (∀ (r : Nat × Tu) (rs : List (Nat × Tu)) (s : State), s.resets = r :: rs →
    let cause := ((rs.filter (·.2 == r.2)).map Prod.fst).foldl min r.1
    ∃ t, exec .resetAssert s = .next t ∧ t.resets = [] ∧ t.booted = false ∧ t.bit F.FLT_STATUS_DUT_SAFE_N = false ∧
      t.inReset = some (s.inReset.getD { cause := cause, p4Event := s.p4Event }) ∧
      t.works = [] ∧ t.stalls = [] ∧ t.watches = [] ∧ t.events = [] ∧ t.receipts = [] ∧ t.mem = [] ∧ t.chans = [] ∧ t.seqs = [] ∧ t.lanes = [] ∧ t.detections = [] ∧
      t.fr = 0 ∧ t.frRuns = false ∧ t.ledgRecs = s.ledgRecs ∧ t.ledgQueue = s.ledgQueue ∧ t.ledgerEvents = s.ledgerEvents ∧ t.ledgWrite = s.ledgWrite ∧ t.oven = s.oven ∧
      t.rd ⟨.BOOT_COUNT, 0, 0⟩ = s.rd ⟨.BOOT_COUNT, 0, 0⟩ ∧ t.get F.BOOT_RESET_CAUSE_WDT_LOOP = s.get F.BOOT_RESET_CAUSE_WDT_LOOP ∧
      t.get F.DRAM_ILV_STATUS_NEXT_GRAIN = s.get F.DRAM_ILV_STATUS_NEXT_GRAIN ∧ t.bit F.DRAM_SEG_CTRL_LOCK = false) ∧
  (∀ (src pos : Nat) (cand ref : Bool) (s : State), (s.inReset = none ∨ s.powerGood = false ∨ s.perstLow = true ∨ s.resetNLow = true) → exec (.resetRelease src cand pos ref) s = .next s) ∧
  (∀ (src pos : Nat) (cand ref : Bool) (run : ResetRun) (s : State), s.inReset = some run → s.powerGood = true → s.perstLow = false → s.resetNLow = false → ref = true → s.ledgTorn = none → s.get F.BOOT_RESET_CAUSE_WDT_LOOP < 3 →
    ∃ t, exec (.resetRelease src cand pos ref) s = .next t ∧ t.inReset = none ∧ t.get F.BOOT_STRAP_BOOT_SRC = src % 4 ∧ t.get F.GSL_STRAP_POS = pos % 64 ∧
      t.bit F.GSL_STRAP_CANDIDATE = cand ∧ t.get F.BOOT_RESET_CAUSE_CAUSE = run.cause % 16 ∧ t.get F.BOOT_COUNT_COUNT = (s.get F.BOOT_COUNT_COUNT + 1) % 2 ^ 32 ∧
      t.mem = s.mem ∧ t.works = s.works ∧ t.get F.BOOT_STATUS_STAGE = 1 ∧ t.bit F.BOOT_STATUS_WAIT_REF = s.bit F.BOOT_STATUS_WAIT_REF ∧ t.bit F.BOOT_WDT_RUNNING = true ∧ t.wdtMs = 2000 ∧ t.wdtFrom = s.fr ∧ t.ledgerEvents = s.ledgerEvents) ∧
  (∀ (src pos : Nat) (cand ref : Bool) (run : ResetRun) (s : State), s.inReset = some run → s.powerGood = true → s.perstLow = false → s.resetNLow = false → ref = false → s.ledgTorn = none → s.get F.BOOT_RESET_CAUSE_WDT_LOOP < 3 →
    ∃ t, exec (.resetRelease src cand pos ref) s = .next t ∧ t.inReset = none ∧ t.get F.BOOT_STRAP_BOOT_SRC = src % 4 ∧ t.get F.GSL_STRAP_POS = pos % 64 ∧
      t.bit F.GSL_STRAP_CANDIDATE = cand ∧ t.get F.BOOT_RESET_CAUSE_CAUSE = run.cause % 16 ∧ t.get F.BOOT_COUNT_COUNT = (s.get F.BOOT_COUNT_COUNT + 1) % 2 ^ 32 ∧
      t.mem = s.mem ∧ t.works = s.works ∧ t.get F.BOOT_STATUS_STAGE = 1 ∧ t.bit F.BOOT_STATUS_WAIT_REF = true ∧ t.bit F.BOOT_WDT_RUNNING = false ∧ t.bit F.TIME_STATUS_COARSE = true ∧
      t.ledgerEvents = s.ledgerEvents ++ [{ code := 1, source := run.cause % 16, aux := (s.get F.BOOT_COUNT_COUNT + 1) % 2 ^ 32, data := Config.serial.toNat, at_ := s.fr }]) ∧
  (∀ (src pos : Nat) (cand ref : Bool) (run : ResetRun) (s : State), s.inReset = some run → s.powerGood = true → s.perstLow = false → s.resetNLow = false → s.ledgTorn = none → 3 ≤ s.get F.BOOT_RESET_CAUSE_WDT_LOOP →
    ∃ t, exec (.resetRelease src cand pos ref) s = .next t ∧ t.inReset = none ∧ t.get F.BOOT_STRAP_BOOT_SRC = src % 4 ∧ t.get F.GSL_STRAP_POS = pos % 64 ∧
      t.bit F.GSL_STRAP_CANDIDATE = cand ∧ t.get F.BOOT_RESET_CAUSE_CAUSE = run.cause % 16 ∧ t.get F.BOOT_COUNT_COUNT = (s.get F.BOOT_COUNT_COUNT + 1) % 2 ^ 32 ∧
      t.mem = s.mem ∧ t.works = s.works ∧ t.get F.BOOT_STATUS_STAGE = 15 ∧ t.get F.BOOT_STATUS_HALT = 7 ∧
      t.ledgerEvents = s.ledgerEvents ++ [{ code := 1, source := run.cause % 16, aux := (s.get F.BOOT_COUNT_COUNT + 1) % 2 ^ 32, data := Config.serial.toNat, at_ := s.fr }]) ∧
  (∀ (ws : List Word) (src pos : Nat) (cand ref : Bool) (run : ResetRun) (s : State), s.inReset = some run → s.powerGood = true → s.perstLow = false → s.resetNLow = false → s.ledgTorn = some ws →
    ∃ t, exec (.resetRelease src cand pos ref) s = .next t ∧ t.inReset = none ∧ t.get F.BOOT_STRAP_BOOT_SRC = src % 4 ∧ t.get F.GSL_STRAP_POS = pos % 64 ∧
      t.bit F.GSL_STRAP_CANDIDATE = cand ∧ t.get F.BOOT_RESET_CAUSE_CAUSE = run.cause % 16 ∧ t.get F.BOOT_COUNT_COUNT = (s.get F.BOOT_COUNT_COUNT + 1) % 2 ^ 32 ∧
      t.mem = s.mem ∧ t.works = s.works ∧ t.ledgTorn = none ∧
      t.ledgRecs = s.ledgRecs ++ [mkRecord (ws.take 6) 0 0x0F0F] ∧ t.bit F.LEDG_EVENTS_TORN = true) ∧
  (∀ (id : Nat) (s : State), s.booted = true → s.bit F.BOOT_WDT_RUNNING = true →
    exec (.bootWdtRestart (.internal id) 0x5A5A#32) s = .next { (s.setIf F.BOOT_WDT_RUNNING (s.wdtMs ≠ 0)).set F.BOOT_WDT_REMAIN_MS s.wdtMs with wdtFrom := s.fr }) ∧
  (∀ (id : Nat) (v : Word) (s : State), (s.booted = false ∨ s.bit F.BOOT_WDT_RUNNING = false ∨ v ≠ 0x5A5A#32) → exec (.bootWdtRestart (.internal id) v) s = .next s) ∧
  (∀ (fn rid : Nat) (v : Word) (s : State), exec (.bootWdtRestart (.host fn rid) v) s = .next s)

/-- An image is checked in boot step 2 only, and in WAIT_PUSH only after a push. One from flash that passes gives FW_SVN and FW_ID and boot goes on with it; one that fails records the result and, with BOOT_SRC 2, has boot wait for a push, else halts boot with reason 2. A pushed one must have been read by a bus-master PF in its whole length; where it fails, PUSH_DONE is set and boot waits for another. An accepted push restarts the watchdog at 2,000 ms and has the image read; one outside WAIT_PUSH, during another, or whose image does not lie below 2^52 is ignored with PUSH_IGNORED. A locked master, a reset and P4 leave no lock to take. A reference within its limits shows REF_PRESENT. A lock sets MASTER_LOCK and REF_PRESENT, and the first one after a reset starts the free-running counter at 0; in boot steps 5 to 8 the hall may then form; in step 1 the lock ends the step with the backup count read. A reference that is absent, or a lock that is not held, cannot be lost. Else its loss clears MASTER_LOCK, sets LOCK_LOST and, once the master has locked since the last reset, is a REFERENCE detection; REFIN lost clears REF_PRESENT, and a master's loss loses the hall. -/
def Obligations.BootAndReference : Prop :=
  (∀ (img : Bytes) (ok : Bool) (b : BootIn) (s : State), (s.get F.BOOT_STATUS_STAGE ≠ 2 ∨ s.inReset ≠ none ∨ (s.bit F.BOOT_STATUS_WAIT_PUSH = true ∧ s.pushing = false)) →
    exec (.firmwareCheckDone img ok b) s = .next s) ∧
  (∀ (img : Bytes) (ok : Bool) (b : BootIn) (s : State), s.get F.BOOT_STATUS_STAGE = 2 → s.inReset = none → s.bit F.BOOT_STATUS_WAIT_PUSH = false →
    let r := fwResult img true ok b
    exec (.firmwareCheckDone img ok b) s = .next
      (if r = 0 then ((({ ((s.set F.BOOT_STATUS_FW_RESULT 0).set F.BOOT_STATUS_SOURCE 1).clrBit F.BOOT_STATUS_WAIT_PUSH with pushing := false }.set
          F.BOOT_FW_SVN_SVN (Bytes.le img 8 4)).set F.BOOT_FW_ID_0_ID_LO (Bytes.le img 16 4)).set F.BOOT_FW_ID_1_ID_HI (Bytes.le img 20 4)).bootOn img b
      else if s.get F.BOOT_STRAP_BOOT_SRC = 2 then
        { ((s.set F.BOOT_STATUS_FW_RESULT r).setBit F.BOOT_STATUS_WAIT_PUSH).clrBit F.BOOT_WDT_RUNNING with pushing := false }
      else ((s.set F.BOOT_STATUS_FW_RESULT r).set F.BOOT_STATUS_STAGE 15).set F.BOOT_STATUS_HALT 2)) ∧
  (∀ (img : Bytes) (ok : Bool) (b : BootIn) (s : State), s.get F.BOOT_STATUS_STAGE = 2 → s.inReset = none → s.bit F.BOOT_STATUS_WAIT_PUSH = true → s.pushing = true →
    let r := fwResult img false (ok && ((s.func 0).busMaster && img.length == s.get F.BOOT_PUSH_LEN_LENGTH)) b
    exec (.firmwareCheckDone img ok b) s = .next
      (if r = 0 then ((({ ((s.set F.BOOT_STATUS_FW_RESULT 0).set F.BOOT_STATUS_SOURCE 2).clrBit F.BOOT_STATUS_WAIT_PUSH with pushing := false }.set
          F.BOOT_FW_SVN_SVN (Bytes.le img 8 4)).set F.BOOT_FW_ID_0_ID_LO (Bytes.le img 16 4)).set F.BOOT_FW_ID_1_ID_HI (Bytes.le img 20 4)).bootOn img b
      else { (((s.set F.BOOT_STATUS_FW_RESULT r).setBit F.BOOT_STATUS_PUSH_DONE).setBit F.BOOT_STATUS_WAIT_PUSH).clrBit F.BOOT_WDT_RUNNING with pushing := false })) ∧
  (∀ s : State, s.bit F.BOOT_STATUS_WAIT_PUSH = true → s.pushing = false →
    s.get F.BOOT_PUSH_0_ADDR_LO * 64 + s.get F.BOOT_PUSH_1_ADDR_HI * 2 ^ 32 + s.get F.BOOT_PUSH_LEN_LENGTH ≤ 2 ^ 52 →
    exec .bootPushGo s = .next { ((s.setBit F.BOOT_WDT_RUNNING).set F.BOOT_WDT_REMAIN_MS 2000) with wdtMs := 2000, wdtFrom := s.fr, pushing := true }) ∧
  (∀ s : State, (s.bit F.BOOT_STATUS_WAIT_PUSH = false ∨ s.pushing = true ∨ 2 ^ 52 < s.get F.BOOT_PUSH_0_ADDR_LO * 64 + s.get F.BOOT_PUSH_1_ADDR_HI * 2 ^ 32 + s.get F.BOOT_PUSH_LEN_LENGTH) →
    exec .bootPushGo s = .next (s.setBit F.BOOT_STATUS_PUSH_IGNORED)) ∧
  (∀ (n : Option Nat) (s : State), (s.bit F.TSBANK_REF_MASTER_LOCK = true ∨ s.inReset ≠ none ∨ s.get F.PWR_STATUS_STATE = 4) → exec (.masterLock n) s = .next s) ∧
  (∀ s : State, s.bit F.TSBANK_REF_MASTER_LOCK = false → s.inReset = none → s.get F.PWR_STATUS_STATE ≠ 4 → exec (.masterLock none) s = .next (s.setBit F.TSBANK_REF_REF_PRESENT)) ∧
  (∀ (n : Nat) (s : State), s.bit F.TSBANK_REF_MASTER_LOCK = false → s.inReset = none → s.get F.PWR_STATUS_STATE ≠ 4 → s.get F.BOOT_STATUS_STAGE ≠ 1 → (5 ≤ s.get F.BOOT_STATUS_STAGE → 8 < s.get F.BOOT_STATUS_STAGE) →
    let u := (s.setBit F.TSBANK_REF_MASTER_LOCK).setBit F.TSBANK_REF_REF_PRESENT
    let v := if s.frRuns = true then u else { u with fr := 0, frRuns := true }
    exec (.masterLock (some n)) s = .next v) ∧
  (∀ (n : Nat) (s : State), s.bit F.TSBANK_REF_MASTER_LOCK = false → s.inReset = none → s.get F.PWR_STATUS_STATE ≠ 4 → 5 ≤ s.get F.BOOT_STATUS_STAGE → s.get F.BOOT_STATUS_STAGE ≤ 8 →
    let u := (s.setBit F.TSBANK_REF_MASTER_LOCK).setBit F.TSBANK_REF_REF_PRESENT
    let v := if s.frRuns = true then u else { u with fr := 0, frRuns := true }
    exec (.masterLock (some n)) s = .next v.tryForm) ∧
  (∀ (n : Nat) (s : State), s.bit F.TSBANK_REF_MASTER_LOCK = false → s.inReset = none → s.get F.PWR_STATUS_STATE ≠ 4 → s.get F.BOOT_STATUS_STAGE = 1 →
    let u := (s.setBit F.TSBANK_REF_MASTER_LOCK).setBit F.TSBANK_REF_REF_PRESENT
    let v := if s.frRuns = true then u else { u with fr := 0, frRuns := true }
    let w := v.bootStep1Ends n
    exec (.masterLock (some n)) s = .next (if 5 ≤ w.get F.BOOT_STATUS_STAGE ∧ w.get F.BOOT_STATUS_STAGE ≤ 8 then w.tryForm else w)) ∧
  (∀ (refin : Bool) (s : State), ((if refin = true then s.bit F.TSBANK_REF_REF_PRESENT else s.bit F.TSBANK_REF_MASTER_LOCK) = false ∨ s.inReset ≠ none ∨ s.get F.PWR_STATUS_STATE = 4) →
    exec (.referenceLoss refin) s = .next s) ∧
  (∀ (refin : Bool) (s : State), (if refin = true then s.bit F.TSBANK_REF_REF_PRESENT else s.bit F.TSBANK_REF_MASTER_LOCK) = true → s.inReset = none → s.get F.PWR_STATUS_STATE ≠ 4 → s.bit F.GSL_HALL_STATUS_IS_MASTER = false →
    ∃ t, exec (.referenceLoss refin) s = .next t ∧ t.bit F.TSBANK_REF_MASTER_LOCK = false ∧ t.bit F.TSBANK_REF_LOCK_LOST = true ∧
      t.bit F.TSBANK_REF_REF_PRESENT = (!refin && s.bit F.TSBANK_REF_REF_PRESENT) ∧
      t.detections = s.detections ++ (if s.frRuns = true then [{ kind := 3, cause := 0x221, source := 0x600, at_ := s.fr }] else []) ∧ regsBut [.TSBANK_REF] s t ∧ t.mem = s.mem) ∧
  (∀ (refin : Bool) (s : State), (if refin = true then s.bit F.TSBANK_REF_REF_PRESENT else s.bit F.TSBANK_REF_MASTER_LOCK) = true → s.inReset = none → s.get F.PWR_STATUS_STATE ≠ 4 → s.bit F.GSL_HALL_STATUS_IS_MASTER = true →
    let a := (s.clrBit F.TSBANK_REF_MASTER_LOCK).setBit F.TSBANK_REF_LOCK_LOST
    let b := if refin = true then a.clrBit F.TSBANK_REF_REF_PRESENT else a
    exec (.referenceLoss refin) s = .next (if s.frRuns = true then b.detect { kind := 3, cause := 0x221, source := 0x600 } else b).hallLost)

/-- When a detection of a kind with a safe state reaches the collector, every channel at once, without ramping: CHn_ENABLE, which holds DRV_EN, LOAD_EN and PMU_EN, reads 0; the driver is in high impedance and the load is disconnected; a ramp in progress halts with the level DACs at their present values, and HALTED is 1; SAFE is 1. The channel's live levels are unchanged. The reaction starts at the present instant, which SAFE_STATE_CONFIRM holds against the 5 µs, and DUT_SAFE_N goes low. -/
def Obligations.SafeStateEntry : Prop :=
  (∀ (d : Detection) (s : State), lowestSource s.detections = some d → kindSafe d.kind d.source = true →
    let u := ({ s with detections := s.detections.erase d }.collect d).voidFor d
    u.bit F.FLT_STATUS_SAFE = false →
    ∃ t, exec .faultDetection s = .next t ∧ t.safeEntry = some (u.safeEntry.getD u.fr) ∧ t.fr = u.fr ∧ t.bit F.FLT_STATUS_DUT_SAFE_N = false ∧
      (∀ c ∈ List.range 256, t.bit F.CHn_ENABLE_DRV_EN c = false ∧ t.bit F.CHn_ENABLE_LOAD_EN c = false ∧ t.bit F.CHn_ENABLE_PMU_EN c = false ∧ t.bit F.CHn_STATUS_SAFE c = true ∧
        t.live c = u.live c ∧
        (if (u.chan c).phase ∈ [.starting, .switching, .zeroing, .ramping] then
          t.chan c = { u.chan c with phase := .halted, frm := (u.chan c).present u.fr, drive := 0, loadOn := false } ∧
          t.bit F.CHn_STATUS_HALTED c = true ∧ t.bit F.CHn_STATUS_RAMPING c = false ∧ t.bit F.CHn_STATUS_SETTLED c = false
         else t.chan c = { u.chan c with drive := 0, loadOn := false } ∧ t.bit F.CHn_STATUS_HALTED c = u.bit F.CHn_STATUS_HALTED c ∧
          t.bit F.CHn_STATUS_SETTLED c = u.bit F.CHn_STATUS_SETTLED c)) ∧
      t.mem = u.mem ∧ t.works = u.works ∧ regsBut [.CHn_ENABLE, .CHn_STATUS, .FLT_STATUS] u t) ∧
  (∀ (d : Detection) (s : State), s.detections = [d] → kindSafe d.kind d.source = true → s.works = [] → d.works = [] → s.bit F.FLT_STATUS_SAFE = false → s.safeEntry = none →
    ∃ t, exec .faultDetection s = .next t ∧ t.safeEntry = some s.fr ∧ t.fr = s.fr ∧ t.bit F.FLT_STATUS_DUT_SAFE_N = false ∧
      (∀ c ∈ List.range 256, t.bit F.CHn_ENABLE_DRV_EN c = false ∧ t.bit F.CHn_ENABLE_LOAD_EN c = false ∧ t.bit F.CHn_ENABLE_PMU_EN c = false ∧ t.bit F.CHn_STATUS_SAFE c = true ∧
        t.live c = s.live c ∧
        (if (s.chan c).phase ∈ [.starting, .switching, .zeroing, .ramping] then
          t.chan c = { s.chan c with phase := .halted, frm := (s.chan c).present s.fr, drive := 0, loadOn := false } ∧
          t.bit F.CHn_STATUS_HALTED c = true ∧ t.bit F.CHn_STATUS_RAMPING c = false ∧ t.bit F.CHn_STATUS_SETTLED c = false
         else t.chan c = { s.chan c with drive := 0, loadOn := false } ∧ t.bit F.CHn_STATUS_HALTED c = s.bit F.CHn_STATUS_HALTED c ∧
          t.bit F.CHn_STATUS_SETTLED c = s.bit F.CHn_STATUS_SETTLED c)) ∧
      t.mem = s.mem ∧ regsBut [.CHn_ENABLE, .CHn_STATUS, .FLT_FIRST, .FLT_FIRST_TIME_0, .FLT_FIRST_TIME_1, .FLT_FIRST_TIME_2, .FLT_STATUS, .FLT_EVENTS, .FLT_LATER, .FLT_MIRROR, .FLT_MIRROR_TIME_0, .FLT_MIRROR_TIME_1, .FLT_MIRROR_TIME_2] s t)

/-- A NOP order that starts receives its COMPLETE receipt, and nothing else of the device changes but the model's own count of raised receipts; one that has not come to start, or an order of another kind, is left as it is. -/
def Obligations.NopOnlyCompletes : Prop :=
  (∀ (k : Nat) (w : Work) (s : State), s.work? k = some w → w.opcode = Op.nop → w.stage = .routed →
    exec (.orderNop k) s = .next { s with receipts := s.receipts ++ [{ work := k, status := 0, final := true, cause := 0, detail := [], no := s.raiseNo }], raiseNo := s.raiseNo + 1, works := Store.put s.works k { w with stage := .ended } }) ∧
  (∀ (k : Nat) (s : State), (∀ w, s.work? k = some w → w.opcode ≠ Op.nop ∨ w.stage ≠ .routed) → exec (.orderNop k) s = .next s)

/-- No step of the block, whatever its command, clears, erases or rewrites a record of the Ledger: every record keeps its index and its words, but for the count update of R569 of the most recent record, which raises REPEAT by one in its commit word and leaves CHECK, MARK and every other word. The seal of R576 adds its record after them. The number of records never falls, so a full Ledger stays full. -/
def Obligations.CommittedRecordsStay : Prop :=
  ∀ s t : State, ledgerInv s → step s = .next t →
    s.ledgRecs.length ≤ t.ledgRecs.length ∧
    ∀ (j : Nat) (r : List Word), s.ledgRecs[j]? = some r →
      t.ledgRecs[j]? = some r ∨
      (j + 1 = s.ledgRecs.length ∧ (∃ w, s.ledgWrite = some w ∧ w.update = true) ∧ recState r = 1 ∧ recRepeat r < 65535 ∧ t.ledgRecs[j]? = some (countedUp r))

/-- Every step keeps the invariant of the keeper's write: no write is in progress while a torn record waits for its seal, and a count update in progress works on the most recent record, which is committed and whose REPEAT is below 65,535. -/
def Obligations.LedgerWriteInvariant : Prop :=
  ∀ s t : State, ledgerInv s → step s = .next t → ledgerInv t

/-- From a state whose local memory is a list of rising addresses without an entry equal to what an unlisted byte reads as, every step leaves it so. The canonical form and what an unlisted byte reads as are the model's choice (log entry 26). -/
def Obligations.MemoryStaysCanonical : Prop :=
  ∀ s t : State, Mem.wf s.mem = true → step s = .next t → Mem.wf t.mem = true

/-- Every command answers a next state from every state: the model has no fault and no refusal, so a run of any length goes on. Commands that the block is not ready for, or whose operands name nothing, leave it as it is, which is the model's choice (log entry 2). -/
def Obligations.EveryRunGoesOn : Prop :=
  (∀ (c : Instr) (s : State), ∃ t, exec c s = .next t) ∧
  (∀ (n : Nat) (s : State), goesOnFor n s)

/-- A step takes the front command from the queue, and no command, a reset among them, adds, removes or changes a waiting one. The queue is the model's own (log entry 1). -/
def Obligations.CommandsLeaveTheQueue : Prop :=
  (∀ (c : Instr) (s t : State), exec c s = .next t → t.pending = s.pending) ∧
  (∀ (c : Instr) (l : List Instr) (s t : State), s.pending = c :: l → step s = .next t → t.pending = l)

/-- After reset the queue of commands is empty, no order, stall, watch or record stands, local memory is in its canonical form with every byte 0, the invariants of the Ledger hold, boot has not begun, DUT_SAFE_N and MASTER_LOCK are 0, the pool is unlocked, and the registers hold the reset values of their tables, among them the TSBANK_REF fields, CHn_STATUS.SETTLED 1 and LEDG_REC_w all ones. -/
def Obligations.StateAfterReset : Prop :=
  (State.reset.pending = [] ∧ State.reset.works = [] ∧ State.reset.stalls = [] ∧ State.reset.watches = [] ∧ State.reset.seqs = [] ∧
    State.reset.booted = false ∧ Mem.wf State.reset.mem = true ∧ ledgerInv State.reset ∧ State.reset.ledgRecs = []) ∧
  (∀ a : Nat, Mem.byte State.reset.mem a = 0#8) ∧
  (State.reset.bit F.FLT_STATUS_DUT_SAFE_N = false ∧ State.reset.bit F.TSBANK_REF_MASTER_LOCK = false ∧ State.reset.bit F.DRAM_SEG_CTRL_LOCK = false ∧
    (∀ c ∈ List.range 256, State.reset.bit F.CHn_STATUS_SETTLED c = true ∧ State.reset.bit F.CHn_STATUS_SAFE c = false ∧ State.reset.rd ⟨.CHn_ENABLE, c, 0⟩ = 0#32) ∧
    (∀ j ∈ List.range 8, State.reset.rd ⟨.LEDG_REC_w, j, 0⟩ = 0xFFFFFFFF#32))
end

