-- ==== Sys2Proof/Laws/Store.lean ====
section
/-!
SUPPORT. What the operations of the two containers do: `Store` (at most one entry per key) and local memory `Mem` (canonical form kept,
read after write, every other byte unchanged).
-/

namespace Sys2Proof.Machine

variable {κ α : Type} [DecidableEq κ]

@[simp] theorem Store.get?_nil (k : κ) : Store.get? ([] : Store κ α) k = none := rfl

@[simp] theorem Store.get?_put_self (m : Store κ α) (k : κ) (v : α) : Store.get? (Store.put m k v) k = some v := by
  induction m with
  | nil => simp [Store.put, Store.get?]
  | cons p t ih =>
    obtain ⟨k', v'⟩ := p
    by_cases h : k' = k <;> simp [Store.put, Store.get?, h, ih]

theorem Store.get?_put_of_ne (m : Store κ α) {k k' : κ} (v : α) (h : k' ≠ k) :
    Store.get? (Store.put m k v) k' = Store.get? m k' := by
  induction m with
  | nil => simp [Store.put, Store.get?, Ne.symm h]
  | cons p t ih =>
    obtain ⟨a, b⟩ := p
    by_cases ha : a = k
    · subst ha; simp [Store.put, Store.get?, Ne.symm h]
    · simp [Store.put, Store.get?, ha, ih]

/-- Reading a store after a `put`. -/
@[simp] theorem Store.get?_put (m : Store κ α) (k k' : κ) (v : α) :
    Store.get? (Store.put m k v) k' = if k' = k then some v else Store.get? m k' := by
  by_cases h : k' = k
  · subst h; simp
  · simp [h, Store.get?_put_of_ne m v h]

@[simp] theorem Store.getD_put (m : Store κ α) (k k' : κ) (v d : α) :
    Store.getD (Store.put m k v) k' d = if k' = k then v else Store.getD m k' d := by
  by_cases h : k' = k <;> simp [Store.getD, h]

@[simp] theorem Store.getD_nil (k : κ) (d : α) : Store.getD ([] : Store κ α) k d = d := rfl

/-- Reading a store after a `del`. -/
@[simp] theorem Store.get?_del (m : Store κ α) (k k' : κ) :
    Store.get? (Store.del m k) k' = if k' = k then none else Store.get? m k' := by
  induction m with
  | nil => simp [Store.del]
  | cons p t ih =>
    obtain ⟨a, b⟩ := p
    by_cases ha : a = k
    · subst ha
      by_cases h : k' = a
      · subst h; simpa [Store.del] using ih
      · simp [Store.del, Store.get?, h, ih, Ne.symm h]
    · by_cases h : k' = k
      · subst h; simp [Store.del, Store.get?, ha, ih]
      · simp [Store.del, Store.get?, ha, ih, h]

theorem Store.keys_put (m : Store κ α) (k : κ) (v : α) :
    Store.keys (Store.put m k v) = if k ∈ Store.keys m then Store.keys m else Store.keys m ++ [k] := by
  induction m with
  | nil => simp [Store.put, Store.keys]
  | cons p t ih =>
    obtain ⟨a, b⟩ := p
    by_cases ha : a = k
    · subst ha; simp [Store.put, Store.keys]
    · have ih' : (Store.put t k v).map Prod.fst = if k ∈ t.map Prod.fst then t.map Prod.fst else t.map Prod.fst ++ [k] := ih
      by_cases hm : k ∈ t.map Prod.fst
      · simp only [hm, if_true] at ih'; simp_all [Store.put, Store.keys]
      · simp only [hm, if_false] at ih'
        have : ¬ k = a := fun e => ha e.symm
        simp_all [Store.put, Store.keys]

/-- `put` keeps at most one entry per key. -/
theorem Store.wf_put (m : Store κ α) (k : κ) (v : α) (h : Store.wf m) : Store.wf (Store.put m k v) := by
  unfold Store.wf at *
  rw [Store.keys_put]
  split
  · exact h
  · rename_i hk
    exact List.nodup_append.mpr ⟨h, by simp, by intro a ha b hb; simp at hb; subst hb; intro e; exact hk (e ▸ ha)⟩

theorem Store.wf_filter (m : Store κ α) (p : κ × α → Bool) (h : Store.wf m) : Store.wf (m.filter p) :=
  List.Nodup.sublist (List.Sublist.map Prod.fst List.filter_sublist) h

/-! ## Local memory -/

/-- A memory whose addresses all lie above a bound also does for any lower bound. -/
theorem Mem.wfFrom_mono {lo lo' : Option Nat} {m : Mem} (h : Mem.wfFrom lo m = true)
    (hl : ∀ b, lo' = some b → ∃ a, lo = some a ∧ b ≤ a) : Mem.wfFrom lo' m = true := by
  cases m with
  | nil => rfl
  | cons c t =>
    obtain ⟨a, b⟩ := c
    simp only [Mem.wfFrom, Bool.and_eq_true] at h ⊢
    refine ⟨⟨?_, h.1.2⟩, h.2⟩
    cases hlo' : lo' with
    | none => rfl
    | some x =>
      obtain ⟨y, hy, hxy⟩ := hl x hlo'
      subst hy
      have := h.1.1
      simp at this ⊢
      omega

/-- Writing a byte at an address above the bound keeps the canonical form. -/
theorem Mem.wfFrom_setByte {lo : Option Nat} (m : Mem) (a : Nat) (b : Byte) (h : Mem.wfFrom lo m = true)
    (hl : ∀ x, lo = some x → x < a) : Mem.wfFrom lo (Mem.setByte m a b) = true := by
  induction m generalizing lo with
  | nil =>
    by_cases hb : b = 0#8
    · simp [Mem.setByte, hb, Mem.wfFrom]
    · cases lo with
      | none => simp [Mem.setByte, hb, Mem.wfFrom]
      | some x => simp [Mem.setByte, hb, Mem.wfFrom, hl x rfl]
  | cons c t ih =>
    obtain ⟨a', b'⟩ := c
    have h' := h
    simp only [Mem.wfFrom, Bool.and_eq_true] at h
    obtain ⟨⟨h1, h2⟩, h3⟩ := h
    by_cases hlt : a < a'
    · by_cases hb : b = 0#8
      · simpa [Mem.setByte, hlt, hb] using h'
      · simp only [Mem.setByte, hlt, hb, if_true, if_false, Mem.wfFrom, Bool.and_eq_true]
        refine ⟨⟨?_, by simpa using hb⟩, ⟨by simp, h2⟩, h3⟩
        cases lo with
        | none => rfl
        | some x => simpa using hl x rfl
    · by_cases he : a = a'
      · subst he
        by_cases hb : b = 0#8
        · simp only [Mem.setByte, Nat.lt_irrefl, hb, if_true, if_false]
          exact Mem.wfFrom_mono h3 (fun x hx => ⟨a, rfl, Nat.le_of_lt (hl x hx)⟩)
        · simp only [Mem.setByte, Nat.lt_irrefl, hb, if_true, if_false, Mem.wfFrom, Bool.and_eq_true]
          exact ⟨⟨h1, by simpa using hb⟩, h3⟩
      · simp only [Mem.setByte, hlt, he, if_false, Mem.wfFrom, Bool.and_eq_true]
        exact ⟨⟨h1, h2⟩, ih h3 (by intro x hx; cases hx; omega)⟩

/-- Writing a byte keeps the canonical form. -/
@[simp] theorem Mem.wf_setByte (m : Mem) (a : Nat) (b : Byte) (h : Mem.wf m = true) : Mem.wf (Mem.setByte m a b) = true :=
  Mem.wfFrom_setByte m a b h (by simp)

@[simp] theorem Mem.wf_setBytes (m : Mem) (a : Nat) (bs : Bytes) (h : Mem.wf m = true) : Mem.wf (Mem.setBytes m a bs) = true := by
  induction bs generalizing m a with
  | nil => exact h
  | cons b t ih => exact ih _ _ (Mem.wf_setByte m a b h)

@[simp] theorem Mem.wf_setLe (m : Mem) (a v n : Nat) (h : Mem.wf m = true) : Mem.wf (Mem.setLe m a v n) = true :=
  Mem.wf_setBytes m a _ h

@[simp] theorem Mem.wf_setBits (m : Mem) (b w v : Nat) (h : Mem.wf m = true) : Mem.wf (Mem.setBits m b w v) = true :=
  Mem.wf_setLe m _ _ _ h

theorem Mem.wfFrom_filter {lo : Option Nat} (m : Mem) (p : Host.Cell → Bool) (h : Mem.wfFrom lo m = true) :
    Mem.wfFrom lo (m.filter p) = true := by
  induction m generalizing lo with
  | nil => rfl
  | cons c t ih =>
    obtain ⟨a, b⟩ := c
    simp only [Mem.wfFrom, Bool.and_eq_true] at h
    obtain ⟨⟨h1, h2⟩, h3⟩ := h
    rw [List.filter_cons]
    split
    · simp only [Mem.wfFrom, Bool.and_eq_true]; exact ⟨⟨h1, h2⟩, ih h3⟩
    · refine Mem.wfFrom_mono (ih h3) (fun x hx => ⟨a, rfl, ?_⟩)
      subst hx; simp at h1; omega

@[simp] theorem Mem.wf_clear (m : Mem) (a n : Nat) (h : Mem.wf m = true) : Mem.wf (Mem.clear m a n) = true :=
  Mem.wfFrom_filter m _ h

@[simp] theorem Mem.wf_copy (m : Mem) (src dst n : Nat) (h : Mem.wf m = true) : Mem.wf (Mem.copy m src dst n) = true := by
  unfold Mem.copy
  generalize m.filter _ = l
  have : ∀ acc, Mem.wf acc = true → Mem.wf (l.foldl (fun acc c => Mem.setByte acc (dst + (c.1 - src)) c.2) acc) = true := by
    induction l with
    | nil => exact fun _ h => h
    | cons c t ih => exact fun acc h => ih _ (Mem.wf_setByte _ _ _ h)
  exact this _ (Mem.wf_clear m dst n h)

@[simp] theorem Mem.wf_nil : Mem.wf [] = true := rfl

/-- Below every listed address a memory in canonical form reads 0. -/
theorem Mem.byte_below {lo : Nat} {m : Mem} (h : Mem.wfFrom (some lo) m = true) {a : Nat} (ha : a ≤ lo) : Mem.byte m a = 0#8 := by
  induction m generalizing lo with
  | nil => rfl
  | cons c t ih =>
    obtain ⟨a', b⟩ := c
    simp only [Mem.wfFrom, Bool.and_eq_true, decide_eq_true_eq] at h
    obtain ⟨⟨h1, _⟩, h3⟩ := h
    have : ¬ a' = a := by omega
    simp [Mem.byte, this, ih h3 (by omega)]

theorem Mem.byte_setByte_from {lo : Option Nat} (m : Mem) (a a' : Nat) (b : Byte) (h : Mem.wfFrom lo m = true) :
    Mem.byte (Mem.setByte m a b) a' = if a' = a then b else Mem.byte m a' := by
  induction m generalizing lo with
  | nil =>
    by_cases hb : b = 0#8
    · by_cases h' : a' = a <;> simp [Mem.setByte, Mem.byte, hb, h']
    · by_cases h' : a' = a <;> simp [Mem.setByte, Mem.byte, hb, h', Ne.symm]
  | cons c t ih =>
    obtain ⟨x, y⟩ := c
    simp only [Mem.wfFrom, Bool.and_eq_true] at h
    obtain ⟨⟨_, _⟩, h3⟩ := h
    by_cases hlt : a < x
    · by_cases hb : b = 0#8
      · by_cases h' : a' = a
        · have hx : ¬ x = a := by omega
          simp [Mem.setByte, Mem.byte, hb, hlt, h', hx, Mem.byte_below h3 (Nat.le_of_lt hlt)]
        · simp [Mem.setByte, Mem.byte, hb, hlt, h']
      · by_cases h' : a' = a
        · simp [Mem.setByte, Mem.byte, hb, hlt, h']
        · have : ¬ a = a' := fun e => h' e.symm
          simp [Mem.setByte, Mem.byte, hb, hlt, h', this]
    · by_cases he : a = x
      · subst he
        by_cases hb : b = 0#8
        · by_cases h' : a' = a
          · subst h'; simp [Mem.setByte, hb, Mem.byte_below h3 (Nat.le_refl _)]
          · have : ¬ a = a' := fun e => h' e.symm
            simp [Mem.setByte, Mem.byte, hb, h', this]
        · by_cases h' : a' = a
          · subst h'; simp [Mem.setByte, Mem.byte, hb]
          · have : ¬ a = a' := fun e => h' e.symm
            simp [Mem.setByte, Mem.byte, hb, h', this]
      · by_cases hx : x = a'
        · subst hx
          have : ¬ x = a := fun e => he e.symm
          simp [Mem.setByte, Mem.byte, hlt, he, this]
        · simp [Mem.setByte, Mem.byte, hlt, he, hx, ih h3]

/-- Read after write of one byte. -/
theorem Mem.byte_setByte (m : Mem) (a a' : Nat) (b : Byte) (h : Mem.wf m = true) :
    Mem.byte (Mem.setByte m a b) a' = if a' = a then b else Mem.byte m a' :=
  Mem.byte_setByte_from m a a' b h

/-- A write of a byte string leaves every other byte. -/
theorem Mem.byte_setBytes_out (m : Mem) (a : Nat) (bs : Bytes) (a' : Nat) (h : Mem.wf m = true)
    (ho : a' < a ∨ a + bs.length ≤ a') : Mem.byte (Mem.setBytes m a bs) a' = Mem.byte m a' := by
  induction bs generalizing m a with
  | nil => rfl
  | cons b t ih =>
    simp only [List.length_cons] at ho
    rw [Mem.setBytes, ih _ _ (Mem.wf_setByte m a b h) (by omega), Mem.byte_setByte m a a' b h]
    have : ¬ a' = a := by omega
    simp [this]

/-- A byte string that has been written reads back. -/
theorem Mem.byte_setBytes_in (m : Mem) (a : Nat) (bs : Bytes) (n : Nat) (h : Mem.wf m = true) (hn : n < bs.length) :
    Mem.byte (Mem.setBytes m a bs) (a + n) = bs.getD n 0#8 := by
  induction bs generalizing m a n with
  | nil => simp at hn
  | cons b t ih =>
    simp only [List.length_cons] at hn
    cases n with
    | zero =>
      rw [Mem.setBytes, Mem.byte_setBytes_out _ _ _ _ (Mem.wf_setByte m a b h) (by omega), Mem.byte_setByte m a _ b h]
      simp
    | succ k =>
      have := ih (Mem.setByte m a b) (a + 1) k (Mem.wf_setByte m a b h) (by omega)
      rw [Mem.setBytes]
      simpa [Nat.add_assoc, Nat.add_comm 1 k] using this

end Sys2Proof.Machine
end

