-- ==== Sys2Proof/Laws/Registers.lean ====
section
/-!
SUPPORT. What reading and writing registers and their fields do: read after write, every other register and field unchanged.
-/

namespace Sys2Proof.Machine

/-- Reading a register after a write. -/
@[simp] theorem State.rd_wr (s : State) (r r' : Reg) (w : Word) : (s.wr r w).rd r' = if r' = r then w else s.rd r' := by
  simp [State.rd, State.wr]

/-- Reading a register after a field was written. -/
@[simp] theorem State.rd_set (s : State) (f : Fld) (v i j : Nat) (r : Reg) :
    (s.set f v i j).rd r = if r = ⟨f.reg, i, j⟩ then f.put (s.rd ⟨f.reg, i, j⟩) v else s.rd r := by
  simp [State.set]

/-- The word with a field replaced, bit by bit. -/
theorem Fld.getLsbD_put (f : Fld) (w : Word) (v n : Nat) (hf : f.lsb + f.width ≤ 32) :
    (f.put w v).getLsbD n = if f.lsb ≤ n ∧ n < f.lsb + f.width then v.testBit (n - f.lsb) else w.getLsbD n := by
  have bit : ∀ x, (BitVec.ofNat 32 x).getLsbD n = (decide (n < 32) && x.testBit n) := fun x => by
    rw [BitVec.getLsbD, BitVec.toNat_ofNat, Nat.testBit_mod_two_pow]
  rw [Fld.put, BitVec.getLsbD_or, BitVec.getLsbD_and, BitVec.getLsbD_not, bit, bit, Nat.testBit_mul_two_pow, Nat.testBit_mul_two_pow,
    Nat.testBit_two_pow_sub_one, Nat.testBit_mod_two_pow]
  by_cases h1 : f.lsb ≤ n
  · by_cases h2 : n < f.lsb + f.width
    · have h3 : n - f.lsb < f.width := by omega
      have h4 : n < 32 := by omega
      simp [h1, h2, h3, h4]
    · have h3 : ¬ n - f.lsb < f.width := by omega
      by_cases h4 : n < 32
      · simp [h1, h2, h3, h4]
      · simp [h1, h2, h3, h4, BitVec.getLsbD_of_ge w n (Nat.le_of_not_lt h4)]
  · by_cases h4 : n < 32
    · simp [h1, h4]
    · simp [h1, h4, BitVec.getLsbD_of_ge w n (Nat.le_of_not_lt h4)]

/-- A field read back after it was written. -/
theorem Fld.get_put_self (f : Fld) (w : Word) (v : Nat) (hf : f.lsb + f.width ≤ 32) : f.get (f.put w v) = v % 2 ^ f.width := by
  apply Nat.eq_of_testBit_eq
  intro n
  simp only [Fld.get, BitVec.testBit_toNat, BitVec.getLsbD_extractLsb', Fld.getLsbD_put f w v _ hf, Nat.testBit_mod_two_pow]
  by_cases hn : n < f.width <;> simp [hn]

/-- Another field of the word is unchanged by a write of a field that it does not overlap. -/
theorem Fld.get_put_other (f g : Fld) (w : Word) (v : Nat) (hf : f.lsb + f.width ≤ 32)
    (hd : f.lsb + f.width ≤ g.lsb ∨ g.lsb + g.width ≤ f.lsb) : g.get (f.put w v) = g.get w := by
  apply Nat.eq_of_testBit_eq
  intro n
  simp only [Fld.get, BitVec.testBit_toNat, BitVec.getLsbD_extractLsb', Fld.getLsbD_put f w v _ hf]
  by_cases hn : n < g.width
  · have : ¬ (f.lsb ≤ g.lsb + n ∧ g.lsb + n < f.lsb + f.width) := by omega
    simp [hn, this]
  · simp [hn]

/-- A field read back after it was written, in the state. -/
theorem State.get_set_self (s : State) (f : Fld) (v i j : Nat) (hf : f.lsb + f.width ≤ 32) :
    (s.set f v i j).get f i j = v % 2 ^ f.width := by
  simp [State.get, Fld.get_put_self f _ v hf]

/-- A field of another register is unchanged. -/
theorem State.get_set_reg (s : State) (f g : Fld) (v i j i' j' : Nat)
    (h : (⟨g.reg, i', j'⟩ : Reg) ≠ ⟨f.reg, i, j⟩) : (s.set f v i j).get g i' j' = s.get g i' j' := by
  unfold State.get
  rw [State.rd_set, if_neg h]

/-- Another field of the same register is unchanged. -/
theorem State.get_set_fld (s : State) (f g : Fld) (v i j i' j' : Nat) (hf : f.lsb + f.width ≤ 32)
    (hd : f.lsb + f.width ≤ g.lsb ∨ g.lsb + g.width ≤ f.lsb) : (s.set f v i j).get g i' j' = s.get g i' j' := by
  unfold State.get
  rw [State.rd_set]
  split
  · rename_i h
    simp only [Reg.mk.injEq] at h
    obtain ⟨h1, h2, h3⟩ := h
    rw [Fld.get_put_other f g _ v hf hd, h1, h2, h3]
  · rfl

/-- A field of the reset state. -/
theorem State.get_reset (f : Fld) (i j : Nat) : State.reset.get f i j = f.get (resetWord ⟨f.reg, i, j⟩) := rfl

theorem State.rd_reset (r : Reg) : State.reset.rd r = resetWord r := rfl

/-- A register that a list of fields does not reach is unchanged. -/
theorem State.rd_set_of_ne (s : State) (f : Fld) (v i j : Nat) (r : Reg) (h : r.name ≠ f.reg) : (s.set f v i j).rd r = s.rd r := by
  rw [State.rd_set, if_neg (fun e => h (by rw [e]))]

/-- Writing a register keeps one entry per register. -/
theorem State.wr_wf (s : State) (r : Reg) (w : Word) (h : Store.wf s.regs) : Store.wf (s.wr r w).regs := Store.wf_put _ _ _ h

end Sys2Proof.Machine
end

