-- ==== Sys2Proof/Laws/State.lean ====
section
/-!
SUPPORT. What the shared updates of State leave in each field: one lemma per field and update, true by unfolding.
-/

namespace Sys2Proof.Machine

@[simp] theorem State.wr_regs (s : State) (r : Reg) (w : Word) : (s.wr r w).regs = Store.put s.regs r w := rfl
@[simp] theorem State.wr_mem (s : State) (r : Reg) (w : Word) : (s.wr r w).mem = s.mem := rfl
@[simp] theorem State.wr_poison (s : State) (r : Reg) (w : Word) : (s.wr r w).poison = s.poison := rfl
@[simp] theorem State.wr_fr (s : State) (r : Reg) (w : Word) : (s.wr r w).fr = s.fr := rfl
@[simp] theorem State.wr_frRuns (s : State) (r : Reg) (w : Word) : (s.wr r w).frRuns = s.frRuns := rfl
@[simp] theorem State.wr_free (s : State) (r : Reg) (w : Word) : (s.wr r w).free = s.free := rfl
@[simp] theorem State.wr_booted (s : State) (r : Reg) (w : Word) : (s.wr r w).booted = s.booted := rfl
@[simp] theorem State.wr_rdata (s : State) (r : Reg) (w : Word) : (s.wr r w).rdata = s.rdata := rfl
@[simp] theorem State.wr_latch (s : State) (r : Reg) (w : Word) : (s.wr r w).latch = s.latch := rfl
@[simp] theorem State.wr_rstat (s : State) (r : Reg) (w : Word) : (s.wr r w).rstat = s.rstat := rfl
@[simp] theorem State.wr_funcs (s : State) (r : Reg) (w : Word) : (s.wr r w).funcs = s.funcs := rfl
@[simp] theorem State.wr_numVfs (s : State) (r : Reg) (w : Word) : (s.wr r w).numVfs = s.numVfs := rfl
@[simp] theorem State.wr_ari (s : State) (r : Reg) (w : Word) : (s.wr r w).ari = s.ari := rfl
@[simp] theorem State.wr_vfEnable (s : State) (r : Reg) (w : Word) : (s.wr r w).vfEnable = s.vfEnable := rfl
@[simp] theorem State.wr_stalls (s : State) (r : Reg) (w : Word) : (s.wr r w).stalls = s.stalls := rfl
@[simp] theorem State.wr_works (s : State) (r : Reg) (w : Word) : (s.wr r w).works = s.works := rfl
@[simp] theorem State.wr_nextWork (s : State) (r : Reg) (w : Word) : (s.wr r w).nextWork = s.nextWork := rfl
@[simp] theorem State.wr_devAllowance (s : State) (r : Reg) (w : Word) : (s.wr r w).devAllowance = s.devAllowance := rfl
@[simp] theorem State.wr_receipts (s : State) (r : Reg) (w : Word) : (s.wr r w).receipts = s.receipts := rfl
@[simp] theorem State.wr_donePaces (s : State) (r : Reg) (w : Word) : (s.wr r w).donePaces = s.donePaces := rfl
@[simp] theorem State.wr_tx (s : State) (r : Reg) (w : Word) : (s.wr r w).tx = s.tx := rfl
@[simp] theorem State.wr_triggers (s : State) (r : Reg) (w : Word) : (s.wr r w).triggers = s.triggers := rfl
@[simp] theorem State.wr_raiseNo (s : State) (r : Reg) (w : Word) : (s.wr r w).raiseNo = s.raiseNo := rfl
@[simp] theorem State.wr_events (s : State) (r : Reg) (w : Word) : (s.wr r w).events = s.events := rfl
@[simp] theorem State.wr_arrivals (s : State) (r : Reg) (w : Word) : (s.wr r w).arrivals = s.arrivals := rfl
@[simp] theorem State.wr_lastArrival (s : State) (r : Reg) (w : Word) : (s.wr r w).lastArrival = s.lastArrival := rfl
@[simp] theorem State.wr_detections (s : State) (r : Reg) (w : Word) : (s.wr r w).detections = s.detections := rfl
@[simp] theorem State.wr_ledgerEvents (s : State) (r : Reg) (w : Word) : (s.wr r w).ledgerEvents = s.ledgerEvents := rfl
@[simp] theorem State.wr_ports (s : State) (r : Reg) (w : Word) : (s.wr r w).ports = s.ports := rfl
@[simp] theorem State.wr_segs (s : State) (r : Reg) (w : Word) : (s.wr r w).segs = s.segs := rfl
@[simp] theorem State.wr_seqs (s : State) (r : Reg) (w : Word) : (s.wr r w).seqs = s.seqs := rfl
@[simp] theorem State.wr_tsPending (s : State) (r : Reg) (w : Word) : (s.wr r w).tsPending = s.tsPending := rfl
@[simp] theorem State.wr_frames0 (s : State) (r : Reg) (w : Word) : (s.wr r w).frames0 = s.frames0 := rfl
@[simp] theorem State.wr_frames1 (s : State) (r : Reg) (w : Word) : (s.wr r w).frames1 = s.frames1 := rfl
@[simp] theorem State.wr_nextEntry (s : State) (r : Reg) (w : Word) : (s.wr r w).nextEntry = s.nextEntry := rfl
@[simp] theorem State.wr_ethOut (s : State) (r : Reg) (w : Word) : (s.wr r w).ethOut = s.ethOut := rfl
@[simp] theorem State.wr_chans (s : State) (r : Reg) (w : Word) : (s.wr r w).chans = s.chans := rfl
@[simp] theorem State.wr_edges (s : State) (r : Reg) (w : Word) : (s.wr r w).edges = s.edges := rfl
@[simp] theorem State.wr_lanes (s : State) (r : Reg) (w : Word) : (s.wr r w).lanes = s.lanes := rfl
@[simp] theorem State.wr_patch (s : State) (r : Reg) (w : Word) : (s.wr r w).patch = s.patch := rfl
@[simp] theorem State.wr_crier (s : State) (r : Reg) (w : Word) : (s.wr r w).crier = s.crier := rfl
@[simp] theorem State.wr_factApplied (s : State) (r : Reg) (w : Word) : (s.wr r w).factApplied = s.factApplied := rfl
@[simp] theorem State.wr_ledgRecs (s : State) (r : Reg) (w : Word) : (s.wr r w).ledgRecs = s.ledgRecs := rfl
@[simp] theorem State.wr_ledgQueue (s : State) (r : Reg) (w : Word) : (s.wr r w).ledgQueue = s.ledgQueue := rfl
@[simp] theorem State.wr_ledgWrite (s : State) (r : Reg) (w : Word) : (s.wr r w).ledgWrite = s.ledgWrite := rfl
@[simp] theorem State.wr_laneTxOff (s : State) (r : Reg) (w : Word) : (s.wr r w).laneTxOff = s.laneTxOff := rfl
@[simp] theorem State.wr_safeEntry (s : State) (r : Reg) (w : Word) : (s.wr r w).safeEntry = s.safeEntry := rfl
@[simp] theorem State.wr_holdEnd (s : State) (r : Reg) (w : Word) : (s.wr r w).holdEnd = s.holdEnd := rfl
@[simp] theorem State.wr_warnSince (s : State) (r : Reg) (w : Word) : (s.wr r w).warnSince = s.warnSince := rfl
@[simp] theorem State.wr_resets (s : State) (r : Reg) (w : Word) : (s.wr r w).resets = s.resets := rfl
@[simp] theorem State.wr_watches (s : State) (r : Reg) (w : Word) : (s.wr r w).watches = s.watches := rfl
@[simp] theorem State.wr_conc (s : State) (r : Reg) (w : Word) : (s.wr r w).conc = s.conc := rfl
@[simp] theorem State.wr_gates (s : State) (r : Reg) (w : Word) : (s.wr r w).gates = s.gates := rfl
@[simp] theorem State.wr_srcEdges (s : State) (r : Reg) (w : Word) : (s.wr r w).srcEdges = s.srcEdges := rfl
@[simp] theorem State.wr_turn (s : State) (r : Reg) (w : Word) : (s.wr r w).turn = s.turn := rfl
@[simp] theorem State.wr_ssms (s : State) (r : Reg) (w : Word) : (s.wr r w).ssms = s.ssms := rfl
@[simp] theorem State.wr_driftRows (s : State) (r : Reg) (w : Word) : (s.wr r w).driftRows = s.driftRows := rfl
@[simp] theorem State.wr_handledAt (s : State) (r : Reg) (w : Word) : (s.wr r w).handledAt = s.handledAt := rfl
@[simp] theorem State.wr_calQueue (s : State) (r : Reg) (w : Word) : (s.wr r w).calQueue = s.calQueue := rfl
@[simp] theorem State.wr_oven (s : State) (r : Reg) (w : Word) : (s.wr r w).oven = s.oven := rfl
@[simp] theorem State.wr_masterOven (s : State) (r : Reg) (w : Word) : (s.wr r w).masterOven = s.masterOven := rfl
@[simp] theorem State.wr_joints (s : State) (r : Reg) (w : Word) : (s.wr r w).joints = s.joints := rfl
@[simp] theorem State.wr_gsl (s : State) (r : Reg) (w : Word) : (s.wr r w).gsl = s.gsl := rfl
@[simp] theorem State.wr_gslIn (s : State) (r : Reg) (w : Word) : (s.wr r w).gslIn = s.gslIn := rfl
@[simp] theorem State.wr_peers (s : State) (r : Reg) (w : Word) : (s.wr r w).peers = s.peers := rfl
@[simp] theorem State.wr_electAt (s : State) (r : Reg) (w : Word) : (s.wr r w).electAt = s.electAt := rfl
@[simp] theorem State.wr_members (s : State) (r : Reg) (w : Word) : (s.wr r w).members = s.members := rfl
@[simp] theorem State.wr_linksDown (s : State) (r : Reg) (w : Word) : (s.wr r w).linksDown = s.linksDown := rfl
@[simp] theorem State.wr_timeHalf (s : State) (r : Reg) (w : Word) : (s.wr r w).timeHalf = s.timeHalf := rfl
@[simp] theorem State.wr_timeNext (s : State) (r : Reg) (w : Word) : (s.wr r w).timeNext = s.timeNext := rfl
@[simp] theorem State.wr_timeSet (s : State) (r : Reg) (w : Word) : (s.wr r w).timeSet = s.timeSet := rfl
@[simp] theorem State.wr_servo (s : State) (r : Reg) (w : Word) : (s.wr r w).servo = s.servo := rfl
@[simp] theorem State.wr_ptpRate (s : State) (r : Reg) (w : Word) : (s.wr r w).ptpRate = s.ptpRate := rfl
@[simp] theorem State.wr_idConflict (s : State) (r : Reg) (w : Word) : (s.wr r w).idConflict = s.idConflict := rfl
@[simp] theorem State.wr_hallCfg (s : State) (r : Reg) (w : Word) : (s.wr r w).hallCfg = s.hallCfg := rfl
@[simp] theorem State.wr_crierDrv (s : State) (r : Reg) (w : Word) : (s.wr r w).crierDrv = s.crierDrv := rfl
@[simp] theorem State.wr_crierWait (s : State) (r : Reg) (w : Word) : (s.wr r w).crierWait = s.crierWait := rfl
@[simp] theorem State.wr_pulses (s : State) (r : Reg) (w : Word) : (s.wr r w).pulses = s.pulses := rfl
@[simp] theorem State.wr_crierCfg (s : State) (r : Reg) (w : Word) : (s.wr r w).crierCfg = s.crierCfg := rfl
@[simp] theorem State.wr_crierNow (s : State) (r : Reg) (w : Word) : (s.wr r w).crierNow = s.crierNow := rfl
@[simp] theorem State.wr_postponed (s : State) (r : Reg) (w : Word) : (s.wr r w).postponed = s.postponed := rfl
@[simp] theorem State.wr_awn (s : State) (r : Reg) (w : Word) : (s.wr r w).awn = s.awn := rfl
@[simp] theorem State.wr_items (s : State) (r : Reg) (w : Word) : (s.wr r w).items = s.items := rfl
@[simp] theorem State.wr_graphs (s : State) (r : Reg) (w : Word) : (s.wr r w).graphs = s.graphs := rfl
@[simp] theorem State.wr_schedNo (s : State) (r : Reg) (w : Word) : (s.wr r w).schedNo = s.schedNo := rfl
@[simp] theorem State.wr_callRet (s : State) (r : Reg) (w : Word) : (s.wr r w).callRet = s.callRet := rfl
@[simp] theorem State.wr_l1 (s : State) (r : Reg) (w : Word) : (s.wr r w).l1 = s.l1 := rfl
@[simp] theorem State.wr_cohWait (s : State) (r : Reg) (w : Word) : (s.wr r w).cohWait = s.cohWait := rfl
@[simp] theorem State.wr_recalls (s : State) (r : Reg) (w : Word) : (s.wr r w).recalls = s.recalls := rfl
@[simp] theorem State.wr_losers (s : State) (r : Reg) (w : Word) : (s.wr r w).losers = s.losers := rfl
@[simp] theorem State.wr_regions (s : State) (r : Reg) (w : Word) : (s.wr r w).regions = s.regions := rfl
@[simp] theorem State.wr_arbs (s : State) (r : Reg) (w : Word) : (s.wr r w).arbs = s.arbs := rfl
@[simp] theorem State.wr_debt (s : State) (r : Reg) (w : Word) : (s.wr r w).debt = s.debt := rfl
@[simp] theorem State.wr_sref (s : State) (r : Reg) (w : Word) : (s.wr r w).sref = s.sref := rfl
@[simp] theorem State.wr_srefAt (s : State) (r : Reg) (w : Word) : (s.wr r w).srefAt = s.srefAt := rfl
@[simp] theorem State.wr_openRows (s : State) (r : Reg) (w : Word) : (s.wr r w).openRows = s.openRows := rfl
@[simp] theorem State.wr_adcs (s : State) (r : Reg) (w : Word) : (s.wr r w).adcs = s.adcs := rfl
@[simp] theorem State.wr_results (s : State) (r : Reg) (w : Word) : (s.wr r w).results = s.results := rfl
@[simp] theorem State.wr_safetyDue (s : State) (r : Reg) (w : Word) : (s.wr r w).safetyDue = s.safetyDue := rfl
@[simp] theorem State.wr_safetyRes (s : State) (r : Reg) (w : Word) : (s.wr r w).safetyRes = s.safetyRes := rfl
@[simp] theorem State.wr_calRun (s : State) (r : Reg) (w : Word) : (s.wr r w).calRun = s.calRun := rfl
@[simp] theorem State.wr_energy (s : State) (r : Reg) (w : Word) : (s.wr r w).energy = s.energy := rfl
@[simp] theorem State.wr_p4Req (s : State) (r : Reg) (w : Word) : (s.wr r w).p4Req = s.p4Req := rfl
@[simp] theorem State.wr_p4Event (s : State) (r : Reg) (w : Word) : (s.wr r w).p4Event = s.p4Event := rfl
@[simp] theorem State.wr_inReset (s : State) (r : Reg) (w : Word) : (s.wr r w).inReset = s.inReset := rfl
@[simp] theorem State.wr_perstLow (s : State) (r : Reg) (w : Word) : (s.wr r w).perstLow = s.perstLow := rfl
@[simp] theorem State.wr_resetNLow (s : State) (r : Reg) (w : Word) : (s.wr r w).resetNLow = s.resetNLow := rfl
@[simp] theorem State.wr_powerGood (s : State) (r : Reg) (w : Word) : (s.wr r w).powerGood = s.powerGood := rfl
@[simp] theorem State.wr_pushing (s : State) (r : Reg) (w : Word) : (s.wr r w).pushing = s.pushing := rfl
@[simp] theorem State.wr_wdtMs (s : State) (r : Reg) (w : Word) : (s.wr r w).wdtMs = s.wdtMs := rfl
@[simp] theorem State.wr_wdtFrom (s : State) (r : Reg) (w : Word) : (s.wr r w).wdtFrom = s.wdtFrom := rfl
@[simp] theorem State.wr_ledgTorn (s : State) (r : Reg) (w : Word) : (s.wr r w).ledgTorn = s.ledgTorn := rfl
@[simp] theorem State.wr_bar4Log2 (s : State) (r : Reg) (w : Word) : (s.wr r w).bar4Log2 = s.bar4Log2 := rfl
@[simp] theorem State.wr_pending (s : State) (r : Reg) (w : Word) : (s.wr r w).pending = s.pending := rfl

@[simp] theorem State.set_mem (s : State) (f : Fld) (v i j : Nat) : (s.set f v i j).mem = s.mem := rfl
@[simp] theorem State.set_poison (s : State) (f : Fld) (v i j : Nat) : (s.set f v i j).poison = s.poison := rfl
@[simp] theorem State.set_fr (s : State) (f : Fld) (v i j : Nat) : (s.set f v i j).fr = s.fr := rfl
@[simp] theorem State.set_frRuns (s : State) (f : Fld) (v i j : Nat) : (s.set f v i j).frRuns = s.frRuns := rfl
@[simp] theorem State.set_free (s : State) (f : Fld) (v i j : Nat) : (s.set f v i j).free = s.free := rfl
@[simp] theorem State.set_booted (s : State) (f : Fld) (v i j : Nat) : (s.set f v i j).booted = s.booted := rfl
@[simp] theorem State.set_rdata (s : State) (f : Fld) (v i j : Nat) : (s.set f v i j).rdata = s.rdata := rfl
@[simp] theorem State.set_latch (s : State) (f : Fld) (v i j : Nat) : (s.set f v i j).latch = s.latch := rfl
@[simp] theorem State.set_rstat (s : State) (f : Fld) (v i j : Nat) : (s.set f v i j).rstat = s.rstat := rfl
@[simp] theorem State.set_funcs (s : State) (f : Fld) (v i j : Nat) : (s.set f v i j).funcs = s.funcs := rfl
@[simp] theorem State.set_numVfs (s : State) (f : Fld) (v i j : Nat) : (s.set f v i j).numVfs = s.numVfs := rfl
@[simp] theorem State.set_ari (s : State) (f : Fld) (v i j : Nat) : (s.set f v i j).ari = s.ari := rfl
@[simp] theorem State.set_vfEnable (s : State) (f : Fld) (v i j : Nat) : (s.set f v i j).vfEnable = s.vfEnable := rfl
@[simp] theorem State.set_stalls (s : State) (f : Fld) (v i j : Nat) : (s.set f v i j).stalls = s.stalls := rfl
@[simp] theorem State.set_works (s : State) (f : Fld) (v i j : Nat) : (s.set f v i j).works = s.works := rfl
@[simp] theorem State.set_nextWork (s : State) (f : Fld) (v i j : Nat) : (s.set f v i j).nextWork = s.nextWork := rfl
@[simp] theorem State.set_devAllowance (s : State) (f : Fld) (v i j : Nat) : (s.set f v i j).devAllowance = s.devAllowance := rfl
@[simp] theorem State.set_receipts (s : State) (f : Fld) (v i j : Nat) : (s.set f v i j).receipts = s.receipts := rfl
@[simp] theorem State.set_donePaces (s : State) (f : Fld) (v i j : Nat) : (s.set f v i j).donePaces = s.donePaces := rfl
@[simp] theorem State.set_tx (s : State) (f : Fld) (v i j : Nat) : (s.set f v i j).tx = s.tx := rfl
@[simp] theorem State.set_triggers (s : State) (f : Fld) (v i j : Nat) : (s.set f v i j).triggers = s.triggers := rfl
@[simp] theorem State.set_raiseNo (s : State) (f : Fld) (v i j : Nat) : (s.set f v i j).raiseNo = s.raiseNo := rfl
@[simp] theorem State.set_events (s : State) (f : Fld) (v i j : Nat) : (s.set f v i j).events = s.events := rfl
@[simp] theorem State.set_arrivals (s : State) (f : Fld) (v i j : Nat) : (s.set f v i j).arrivals = s.arrivals := rfl
@[simp] theorem State.set_lastArrival (s : State) (f : Fld) (v i j : Nat) : (s.set f v i j).lastArrival = s.lastArrival := rfl
@[simp] theorem State.set_detections (s : State) (f : Fld) (v i j : Nat) : (s.set f v i j).detections = s.detections := rfl
@[simp] theorem State.set_ledgerEvents (s : State) (f : Fld) (v i j : Nat) : (s.set f v i j).ledgerEvents = s.ledgerEvents := rfl
@[simp] theorem State.set_ports (s : State) (f : Fld) (v i j : Nat) : (s.set f v i j).ports = s.ports := rfl
@[simp] theorem State.set_segs (s : State) (f : Fld) (v i j : Nat) : (s.set f v i j).segs = s.segs := rfl
@[simp] theorem State.set_seqs (s : State) (f : Fld) (v i j : Nat) : (s.set f v i j).seqs = s.seqs := rfl
@[simp] theorem State.set_tsPending (s : State) (f : Fld) (v i j : Nat) : (s.set f v i j).tsPending = s.tsPending := rfl
@[simp] theorem State.set_frames0 (s : State) (f : Fld) (v i j : Nat) : (s.set f v i j).frames0 = s.frames0 := rfl
@[simp] theorem State.set_frames1 (s : State) (f : Fld) (v i j : Nat) : (s.set f v i j).frames1 = s.frames1 := rfl
@[simp] theorem State.set_nextEntry (s : State) (f : Fld) (v i j : Nat) : (s.set f v i j).nextEntry = s.nextEntry := rfl
@[simp] theorem State.set_ethOut (s : State) (f : Fld) (v i j : Nat) : (s.set f v i j).ethOut = s.ethOut := rfl
@[simp] theorem State.set_chans (s : State) (f : Fld) (v i j : Nat) : (s.set f v i j).chans = s.chans := rfl
@[simp] theorem State.set_edges (s : State) (f : Fld) (v i j : Nat) : (s.set f v i j).edges = s.edges := rfl
@[simp] theorem State.set_lanes (s : State) (f : Fld) (v i j : Nat) : (s.set f v i j).lanes = s.lanes := rfl
@[simp] theorem State.set_patch (s : State) (f : Fld) (v i j : Nat) : (s.set f v i j).patch = s.patch := rfl
@[simp] theorem State.set_crier (s : State) (f : Fld) (v i j : Nat) : (s.set f v i j).crier = s.crier := rfl
@[simp] theorem State.set_factApplied (s : State) (f : Fld) (v i j : Nat) : (s.set f v i j).factApplied = s.factApplied := rfl
@[simp] theorem State.set_ledgRecs (s : State) (f : Fld) (v i j : Nat) : (s.set f v i j).ledgRecs = s.ledgRecs := rfl
@[simp] theorem State.set_ledgQueue (s : State) (f : Fld) (v i j : Nat) : (s.set f v i j).ledgQueue = s.ledgQueue := rfl
@[simp] theorem State.set_ledgWrite (s : State) (f : Fld) (v i j : Nat) : (s.set f v i j).ledgWrite = s.ledgWrite := rfl
@[simp] theorem State.set_laneTxOff (s : State) (f : Fld) (v i j : Nat) : (s.set f v i j).laneTxOff = s.laneTxOff := rfl
@[simp] theorem State.set_safeEntry (s : State) (f : Fld) (v i j : Nat) : (s.set f v i j).safeEntry = s.safeEntry := rfl
@[simp] theorem State.set_holdEnd (s : State) (f : Fld) (v i j : Nat) : (s.set f v i j).holdEnd = s.holdEnd := rfl
@[simp] theorem State.set_warnSince (s : State) (f : Fld) (v i j : Nat) : (s.set f v i j).warnSince = s.warnSince := rfl
@[simp] theorem State.set_resets (s : State) (f : Fld) (v i j : Nat) : (s.set f v i j).resets = s.resets := rfl
@[simp] theorem State.set_watches (s : State) (f : Fld) (v i j : Nat) : (s.set f v i j).watches = s.watches := rfl
@[simp] theorem State.set_conc (s : State) (f : Fld) (v i j : Nat) : (s.set f v i j).conc = s.conc := rfl
@[simp] theorem State.set_gates (s : State) (f : Fld) (v i j : Nat) : (s.set f v i j).gates = s.gates := rfl
@[simp] theorem State.set_srcEdges (s : State) (f : Fld) (v i j : Nat) : (s.set f v i j).srcEdges = s.srcEdges := rfl
@[simp] theorem State.set_turn (s : State) (f : Fld) (v i j : Nat) : (s.set f v i j).turn = s.turn := rfl
@[simp] theorem State.set_ssms (s : State) (f : Fld) (v i j : Nat) : (s.set f v i j).ssms = s.ssms := rfl
@[simp] theorem State.set_driftRows (s : State) (f : Fld) (v i j : Nat) : (s.set f v i j).driftRows = s.driftRows := rfl
@[simp] theorem State.set_handledAt (s : State) (f : Fld) (v i j : Nat) : (s.set f v i j).handledAt = s.handledAt := rfl
@[simp] theorem State.set_calQueue (s : State) (f : Fld) (v i j : Nat) : (s.set f v i j).calQueue = s.calQueue := rfl
@[simp] theorem State.set_oven (s : State) (f : Fld) (v i j : Nat) : (s.set f v i j).oven = s.oven := rfl
@[simp] theorem State.set_masterOven (s : State) (f : Fld) (v i j : Nat) : (s.set f v i j).masterOven = s.masterOven := rfl
@[simp] theorem State.set_joints (s : State) (f : Fld) (v i j : Nat) : (s.set f v i j).joints = s.joints := rfl
@[simp] theorem State.set_gsl (s : State) (f : Fld) (v i j : Nat) : (s.set f v i j).gsl = s.gsl := rfl
@[simp] theorem State.set_gslIn (s : State) (f : Fld) (v i j : Nat) : (s.set f v i j).gslIn = s.gslIn := rfl
@[simp] theorem State.set_peers (s : State) (f : Fld) (v i j : Nat) : (s.set f v i j).peers = s.peers := rfl
@[simp] theorem State.set_electAt (s : State) (f : Fld) (v i j : Nat) : (s.set f v i j).electAt = s.electAt := rfl
@[simp] theorem State.set_members (s : State) (f : Fld) (v i j : Nat) : (s.set f v i j).members = s.members := rfl
@[simp] theorem State.set_linksDown (s : State) (f : Fld) (v i j : Nat) : (s.set f v i j).linksDown = s.linksDown := rfl
@[simp] theorem State.set_timeHalf (s : State) (f : Fld) (v i j : Nat) : (s.set f v i j).timeHalf = s.timeHalf := rfl
@[simp] theorem State.set_timeNext (s : State) (f : Fld) (v i j : Nat) : (s.set f v i j).timeNext = s.timeNext := rfl
@[simp] theorem State.set_timeSet (s : State) (f : Fld) (v i j : Nat) : (s.set f v i j).timeSet = s.timeSet := rfl
@[simp] theorem State.set_servo (s : State) (f : Fld) (v i j : Nat) : (s.set f v i j).servo = s.servo := rfl
@[simp] theorem State.set_ptpRate (s : State) (f : Fld) (v i j : Nat) : (s.set f v i j).ptpRate = s.ptpRate := rfl
@[simp] theorem State.set_idConflict (s : State) (f : Fld) (v i j : Nat) : (s.set f v i j).idConflict = s.idConflict := rfl
@[simp] theorem State.set_hallCfg (s : State) (f : Fld) (v i j : Nat) : (s.set f v i j).hallCfg = s.hallCfg := rfl
@[simp] theorem State.set_crierDrv (s : State) (f : Fld) (v i j : Nat) : (s.set f v i j).crierDrv = s.crierDrv := rfl
@[simp] theorem State.set_crierWait (s : State) (f : Fld) (v i j : Nat) : (s.set f v i j).crierWait = s.crierWait := rfl
@[simp] theorem State.set_pulses (s : State) (f : Fld) (v i j : Nat) : (s.set f v i j).pulses = s.pulses := rfl
@[simp] theorem State.set_crierCfg (s : State) (f : Fld) (v i j : Nat) : (s.set f v i j).crierCfg = s.crierCfg := rfl
@[simp] theorem State.set_crierNow (s : State) (f : Fld) (v i j : Nat) : (s.set f v i j).crierNow = s.crierNow := rfl
@[simp] theorem State.set_postponed (s : State) (f : Fld) (v i j : Nat) : (s.set f v i j).postponed = s.postponed := rfl
@[simp] theorem State.set_awn (s : State) (f : Fld) (v i j : Nat) : (s.set f v i j).awn = s.awn := rfl
@[simp] theorem State.set_items (s : State) (f : Fld) (v i j : Nat) : (s.set f v i j).items = s.items := rfl
@[simp] theorem State.set_graphs (s : State) (f : Fld) (v i j : Nat) : (s.set f v i j).graphs = s.graphs := rfl
@[simp] theorem State.set_schedNo (s : State) (f : Fld) (v i j : Nat) : (s.set f v i j).schedNo = s.schedNo := rfl
@[simp] theorem State.set_callRet (s : State) (f : Fld) (v i j : Nat) : (s.set f v i j).callRet = s.callRet := rfl
@[simp] theorem State.set_l1 (s : State) (f : Fld) (v i j : Nat) : (s.set f v i j).l1 = s.l1 := rfl
@[simp] theorem State.set_cohWait (s : State) (f : Fld) (v i j : Nat) : (s.set f v i j).cohWait = s.cohWait := rfl
@[simp] theorem State.set_recalls (s : State) (f : Fld) (v i j : Nat) : (s.set f v i j).recalls = s.recalls := rfl
@[simp] theorem State.set_losers (s : State) (f : Fld) (v i j : Nat) : (s.set f v i j).losers = s.losers := rfl
@[simp] theorem State.set_regions (s : State) (f : Fld) (v i j : Nat) : (s.set f v i j).regions = s.regions := rfl
@[simp] theorem State.set_arbs (s : State) (f : Fld) (v i j : Nat) : (s.set f v i j).arbs = s.arbs := rfl
@[simp] theorem State.set_debt (s : State) (f : Fld) (v i j : Nat) : (s.set f v i j).debt = s.debt := rfl
@[simp] theorem State.set_sref (s : State) (f : Fld) (v i j : Nat) : (s.set f v i j).sref = s.sref := rfl
@[simp] theorem State.set_srefAt (s : State) (f : Fld) (v i j : Nat) : (s.set f v i j).srefAt = s.srefAt := rfl
@[simp] theorem State.set_openRows (s : State) (f : Fld) (v i j : Nat) : (s.set f v i j).openRows = s.openRows := rfl
@[simp] theorem State.set_adcs (s : State) (f : Fld) (v i j : Nat) : (s.set f v i j).adcs = s.adcs := rfl
@[simp] theorem State.set_results (s : State) (f : Fld) (v i j : Nat) : (s.set f v i j).results = s.results := rfl
@[simp] theorem State.set_safetyDue (s : State) (f : Fld) (v i j : Nat) : (s.set f v i j).safetyDue = s.safetyDue := rfl
@[simp] theorem State.set_safetyRes (s : State) (f : Fld) (v i j : Nat) : (s.set f v i j).safetyRes = s.safetyRes := rfl
@[simp] theorem State.set_calRun (s : State) (f : Fld) (v i j : Nat) : (s.set f v i j).calRun = s.calRun := rfl
@[simp] theorem State.set_energy (s : State) (f : Fld) (v i j : Nat) : (s.set f v i j).energy = s.energy := rfl
@[simp] theorem State.set_p4Req (s : State) (f : Fld) (v i j : Nat) : (s.set f v i j).p4Req = s.p4Req := rfl
@[simp] theorem State.set_p4Event (s : State) (f : Fld) (v i j : Nat) : (s.set f v i j).p4Event = s.p4Event := rfl
@[simp] theorem State.set_inReset (s : State) (f : Fld) (v i j : Nat) : (s.set f v i j).inReset = s.inReset := rfl
@[simp] theorem State.set_perstLow (s : State) (f : Fld) (v i j : Nat) : (s.set f v i j).perstLow = s.perstLow := rfl
@[simp] theorem State.set_resetNLow (s : State) (f : Fld) (v i j : Nat) : (s.set f v i j).resetNLow = s.resetNLow := rfl
@[simp] theorem State.set_powerGood (s : State) (f : Fld) (v i j : Nat) : (s.set f v i j).powerGood = s.powerGood := rfl
@[simp] theorem State.set_pushing (s : State) (f : Fld) (v i j : Nat) : (s.set f v i j).pushing = s.pushing := rfl
@[simp] theorem State.set_wdtMs (s : State) (f : Fld) (v i j : Nat) : (s.set f v i j).wdtMs = s.wdtMs := rfl
@[simp] theorem State.set_wdtFrom (s : State) (f : Fld) (v i j : Nat) : (s.set f v i j).wdtFrom = s.wdtFrom := rfl
@[simp] theorem State.set_ledgTorn (s : State) (f : Fld) (v i j : Nat) : (s.set f v i j).ledgTorn = s.ledgTorn := rfl
@[simp] theorem State.set_bar4Log2 (s : State) (f : Fld) (v i j : Nat) : (s.set f v i j).bar4Log2 = s.bar4Log2 := rfl
@[simp] theorem State.set_pending (s : State) (f : Fld) (v i j : Nat) : (s.set f v i j).pending = s.pending := rfl

@[simp] theorem State.setFunc_regs (s : State) (k : Nat) (v : Func) : (s.setFunc k v).regs = s.regs := rfl
@[simp] theorem State.setFunc_mem (s : State) (k : Nat) (v : Func) : (s.setFunc k v).mem = s.mem := rfl
@[simp] theorem State.setFunc_poison (s : State) (k : Nat) (v : Func) : (s.setFunc k v).poison = s.poison := rfl
@[simp] theorem State.setFunc_fr (s : State) (k : Nat) (v : Func) : (s.setFunc k v).fr = s.fr := rfl
@[simp] theorem State.setFunc_frRuns (s : State) (k : Nat) (v : Func) : (s.setFunc k v).frRuns = s.frRuns := rfl
@[simp] theorem State.setFunc_free (s : State) (k : Nat) (v : Func) : (s.setFunc k v).free = s.free := rfl
@[simp] theorem State.setFunc_booted (s : State) (k : Nat) (v : Func) : (s.setFunc k v).booted = s.booted := rfl
@[simp] theorem State.setFunc_rdata (s : State) (k : Nat) (v : Func) : (s.setFunc k v).rdata = s.rdata := rfl
@[simp] theorem State.setFunc_latch (s : State) (k : Nat) (v : Func) : (s.setFunc k v).latch = s.latch := rfl
@[simp] theorem State.setFunc_rstat (s : State) (k : Nat) (v : Func) : (s.setFunc k v).rstat = s.rstat := rfl
@[simp] theorem State.setFunc_funcs (s : State) (k : Nat) (v : Func) : (s.setFunc k v).funcs = Store.put s.funcs k v := rfl
@[simp] theorem State.setFunc_numVfs (s : State) (k : Nat) (v : Func) : (s.setFunc k v).numVfs = s.numVfs := rfl
@[simp] theorem State.setFunc_ari (s : State) (k : Nat) (v : Func) : (s.setFunc k v).ari = s.ari := rfl
@[simp] theorem State.setFunc_vfEnable (s : State) (k : Nat) (v : Func) : (s.setFunc k v).vfEnable = s.vfEnable := rfl
@[simp] theorem State.setFunc_stalls (s : State) (k : Nat) (v : Func) : (s.setFunc k v).stalls = s.stalls := rfl
@[simp] theorem State.setFunc_works (s : State) (k : Nat) (v : Func) : (s.setFunc k v).works = s.works := rfl
@[simp] theorem State.setFunc_nextWork (s : State) (k : Nat) (v : Func) : (s.setFunc k v).nextWork = s.nextWork := rfl
@[simp] theorem State.setFunc_devAllowance (s : State) (k : Nat) (v : Func) : (s.setFunc k v).devAllowance = s.devAllowance := rfl
@[simp] theorem State.setFunc_receipts (s : State) (k : Nat) (v : Func) : (s.setFunc k v).receipts = s.receipts := rfl
@[simp] theorem State.setFunc_donePaces (s : State) (k : Nat) (v : Func) : (s.setFunc k v).donePaces = s.donePaces := rfl
@[simp] theorem State.setFunc_tx (s : State) (k : Nat) (v : Func) : (s.setFunc k v).tx = s.tx := rfl
@[simp] theorem State.setFunc_triggers (s : State) (k : Nat) (v : Func) : (s.setFunc k v).triggers = s.triggers := rfl
@[simp] theorem State.setFunc_raiseNo (s : State) (k : Nat) (v : Func) : (s.setFunc k v).raiseNo = s.raiseNo := rfl
@[simp] theorem State.setFunc_events (s : State) (k : Nat) (v : Func) : (s.setFunc k v).events = s.events := rfl
@[simp] theorem State.setFunc_arrivals (s : State) (k : Nat) (v : Func) : (s.setFunc k v).arrivals = s.arrivals := rfl
@[simp] theorem State.setFunc_lastArrival (s : State) (k : Nat) (v : Func) : (s.setFunc k v).lastArrival = s.lastArrival := rfl
@[simp] theorem State.setFunc_detections (s : State) (k : Nat) (v : Func) : (s.setFunc k v).detections = s.detections := rfl
@[simp] theorem State.setFunc_ledgerEvents (s : State) (k : Nat) (v : Func) : (s.setFunc k v).ledgerEvents = s.ledgerEvents := rfl
@[simp] theorem State.setFunc_ports (s : State) (k : Nat) (v : Func) : (s.setFunc k v).ports = s.ports := rfl
@[simp] theorem State.setFunc_segs (s : State) (k : Nat) (v : Func) : (s.setFunc k v).segs = s.segs := rfl
@[simp] theorem State.setFunc_seqs (s : State) (k : Nat) (v : Func) : (s.setFunc k v).seqs = s.seqs := rfl
@[simp] theorem State.setFunc_tsPending (s : State) (k : Nat) (v : Func) : (s.setFunc k v).tsPending = s.tsPending := rfl
@[simp] theorem State.setFunc_frames0 (s : State) (k : Nat) (v : Func) : (s.setFunc k v).frames0 = s.frames0 := rfl
@[simp] theorem State.setFunc_frames1 (s : State) (k : Nat) (v : Func) : (s.setFunc k v).frames1 = s.frames1 := rfl
@[simp] theorem State.setFunc_nextEntry (s : State) (k : Nat) (v : Func) : (s.setFunc k v).nextEntry = s.nextEntry := rfl
@[simp] theorem State.setFunc_ethOut (s : State) (k : Nat) (v : Func) : (s.setFunc k v).ethOut = s.ethOut := rfl
@[simp] theorem State.setFunc_chans (s : State) (k : Nat) (v : Func) : (s.setFunc k v).chans = s.chans := rfl
@[simp] theorem State.setFunc_edges (s : State) (k : Nat) (v : Func) : (s.setFunc k v).edges = s.edges := rfl
@[simp] theorem State.setFunc_lanes (s : State) (k : Nat) (v : Func) : (s.setFunc k v).lanes = s.lanes := rfl
@[simp] theorem State.setFunc_patch (s : State) (k : Nat) (v : Func) : (s.setFunc k v).patch = s.patch := rfl
@[simp] theorem State.setFunc_crier (s : State) (k : Nat) (v : Func) : (s.setFunc k v).crier = s.crier := rfl
@[simp] theorem State.setFunc_factApplied (s : State) (k : Nat) (v : Func) : (s.setFunc k v).factApplied = s.factApplied := rfl
@[simp] theorem State.setFunc_ledgRecs (s : State) (k : Nat) (v : Func) : (s.setFunc k v).ledgRecs = s.ledgRecs := rfl
@[simp] theorem State.setFunc_ledgQueue (s : State) (k : Nat) (v : Func) : (s.setFunc k v).ledgQueue = s.ledgQueue := rfl
@[simp] theorem State.setFunc_ledgWrite (s : State) (k : Nat) (v : Func) : (s.setFunc k v).ledgWrite = s.ledgWrite := rfl
@[simp] theorem State.setFunc_laneTxOff (s : State) (k : Nat) (v : Func) : (s.setFunc k v).laneTxOff = s.laneTxOff := rfl
@[simp] theorem State.setFunc_safeEntry (s : State) (k : Nat) (v : Func) : (s.setFunc k v).safeEntry = s.safeEntry := rfl
@[simp] theorem State.setFunc_holdEnd (s : State) (k : Nat) (v : Func) : (s.setFunc k v).holdEnd = s.holdEnd := rfl
@[simp] theorem State.setFunc_warnSince (s : State) (k : Nat) (v : Func) : (s.setFunc k v).warnSince = s.warnSince := rfl
@[simp] theorem State.setFunc_resets (s : State) (k : Nat) (v : Func) : (s.setFunc k v).resets = s.resets := rfl
@[simp] theorem State.setFunc_watches (s : State) (k : Nat) (v : Func) : (s.setFunc k v).watches = s.watches := rfl
@[simp] theorem State.setFunc_conc (s : State) (k : Nat) (v : Func) : (s.setFunc k v).conc = s.conc := rfl
@[simp] theorem State.setFunc_gates (s : State) (k : Nat) (v : Func) : (s.setFunc k v).gates = s.gates := rfl
@[simp] theorem State.setFunc_srcEdges (s : State) (k : Nat) (v : Func) : (s.setFunc k v).srcEdges = s.srcEdges := rfl
@[simp] theorem State.setFunc_turn (s : State) (k : Nat) (v : Func) : (s.setFunc k v).turn = s.turn := rfl
@[simp] theorem State.setFunc_ssms (s : State) (k : Nat) (v : Func) : (s.setFunc k v).ssms = s.ssms := rfl
@[simp] theorem State.setFunc_driftRows (s : State) (k : Nat) (v : Func) : (s.setFunc k v).driftRows = s.driftRows := rfl
@[simp] theorem State.setFunc_handledAt (s : State) (k : Nat) (v : Func) : (s.setFunc k v).handledAt = s.handledAt := rfl
@[simp] theorem State.setFunc_calQueue (s : State) (k : Nat) (v : Func) : (s.setFunc k v).calQueue = s.calQueue := rfl
@[simp] theorem State.setFunc_oven (s : State) (k : Nat) (v : Func) : (s.setFunc k v).oven = s.oven := rfl
@[simp] theorem State.setFunc_masterOven (s : State) (k : Nat) (v : Func) : (s.setFunc k v).masterOven = s.masterOven := rfl
@[simp] theorem State.setFunc_joints (s : State) (k : Nat) (v : Func) : (s.setFunc k v).joints = s.joints := rfl
@[simp] theorem State.setFunc_gsl (s : State) (k : Nat) (v : Func) : (s.setFunc k v).gsl = s.gsl := rfl
@[simp] theorem State.setFunc_gslIn (s : State) (k : Nat) (v : Func) : (s.setFunc k v).gslIn = s.gslIn := rfl
@[simp] theorem State.setFunc_peers (s : State) (k : Nat) (v : Func) : (s.setFunc k v).peers = s.peers := rfl
@[simp] theorem State.setFunc_electAt (s : State) (k : Nat) (v : Func) : (s.setFunc k v).electAt = s.electAt := rfl
@[simp] theorem State.setFunc_members (s : State) (k : Nat) (v : Func) : (s.setFunc k v).members = s.members := rfl
@[simp] theorem State.setFunc_linksDown (s : State) (k : Nat) (v : Func) : (s.setFunc k v).linksDown = s.linksDown := rfl
@[simp] theorem State.setFunc_timeHalf (s : State) (k : Nat) (v : Func) : (s.setFunc k v).timeHalf = s.timeHalf := rfl
@[simp] theorem State.setFunc_timeNext (s : State) (k : Nat) (v : Func) : (s.setFunc k v).timeNext = s.timeNext := rfl
@[simp] theorem State.setFunc_timeSet (s : State) (k : Nat) (v : Func) : (s.setFunc k v).timeSet = s.timeSet := rfl
@[simp] theorem State.setFunc_servo (s : State) (k : Nat) (v : Func) : (s.setFunc k v).servo = s.servo := rfl
@[simp] theorem State.setFunc_ptpRate (s : State) (k : Nat) (v : Func) : (s.setFunc k v).ptpRate = s.ptpRate := rfl
@[simp] theorem State.setFunc_idConflict (s : State) (k : Nat) (v : Func) : (s.setFunc k v).idConflict = s.idConflict := rfl
@[simp] theorem State.setFunc_hallCfg (s : State) (k : Nat) (v : Func) : (s.setFunc k v).hallCfg = s.hallCfg := rfl
@[simp] theorem State.setFunc_crierDrv (s : State) (k : Nat) (v : Func) : (s.setFunc k v).crierDrv = s.crierDrv := rfl
@[simp] theorem State.setFunc_crierWait (s : State) (k : Nat) (v : Func) : (s.setFunc k v).crierWait = s.crierWait := rfl
@[simp] theorem State.setFunc_pulses (s : State) (k : Nat) (v : Func) : (s.setFunc k v).pulses = s.pulses := rfl
@[simp] theorem State.setFunc_crierCfg (s : State) (k : Nat) (v : Func) : (s.setFunc k v).crierCfg = s.crierCfg := rfl
@[simp] theorem State.setFunc_crierNow (s : State) (k : Nat) (v : Func) : (s.setFunc k v).crierNow = s.crierNow := rfl
@[simp] theorem State.setFunc_postponed (s : State) (k : Nat) (v : Func) : (s.setFunc k v).postponed = s.postponed := rfl
@[simp] theorem State.setFunc_awn (s : State) (k : Nat) (v : Func) : (s.setFunc k v).awn = s.awn := rfl
@[simp] theorem State.setFunc_items (s : State) (k : Nat) (v : Func) : (s.setFunc k v).items = s.items := rfl
@[simp] theorem State.setFunc_graphs (s : State) (k : Nat) (v : Func) : (s.setFunc k v).graphs = s.graphs := rfl
@[simp] theorem State.setFunc_schedNo (s : State) (k : Nat) (v : Func) : (s.setFunc k v).schedNo = s.schedNo := rfl
@[simp] theorem State.setFunc_callRet (s : State) (k : Nat) (v : Func) : (s.setFunc k v).callRet = s.callRet := rfl
@[simp] theorem State.setFunc_l1 (s : State) (k : Nat) (v : Func) : (s.setFunc k v).l1 = s.l1 := rfl
@[simp] theorem State.setFunc_cohWait (s : State) (k : Nat) (v : Func) : (s.setFunc k v).cohWait = s.cohWait := rfl
@[simp] theorem State.setFunc_recalls (s : State) (k : Nat) (v : Func) : (s.setFunc k v).recalls = s.recalls := rfl
@[simp] theorem State.setFunc_losers (s : State) (k : Nat) (v : Func) : (s.setFunc k v).losers = s.losers := rfl
@[simp] theorem State.setFunc_regions (s : State) (k : Nat) (v : Func) : (s.setFunc k v).regions = s.regions := rfl
@[simp] theorem State.setFunc_arbs (s : State) (k : Nat) (v : Func) : (s.setFunc k v).arbs = s.arbs := rfl
@[simp] theorem State.setFunc_debt (s : State) (k : Nat) (v : Func) : (s.setFunc k v).debt = s.debt := rfl
@[simp] theorem State.setFunc_sref (s : State) (k : Nat) (v : Func) : (s.setFunc k v).sref = s.sref := rfl
@[simp] theorem State.setFunc_srefAt (s : State) (k : Nat) (v : Func) : (s.setFunc k v).srefAt = s.srefAt := rfl
@[simp] theorem State.setFunc_openRows (s : State) (k : Nat) (v : Func) : (s.setFunc k v).openRows = s.openRows := rfl
@[simp] theorem State.setFunc_adcs (s : State) (k : Nat) (v : Func) : (s.setFunc k v).adcs = s.adcs := rfl
@[simp] theorem State.setFunc_results (s : State) (k : Nat) (v : Func) : (s.setFunc k v).results = s.results := rfl
@[simp] theorem State.setFunc_safetyDue (s : State) (k : Nat) (v : Func) : (s.setFunc k v).safetyDue = s.safetyDue := rfl
@[simp] theorem State.setFunc_safetyRes (s : State) (k : Nat) (v : Func) : (s.setFunc k v).safetyRes = s.safetyRes := rfl
@[simp] theorem State.setFunc_calRun (s : State) (k : Nat) (v : Func) : (s.setFunc k v).calRun = s.calRun := rfl
@[simp] theorem State.setFunc_energy (s : State) (k : Nat) (v : Func) : (s.setFunc k v).energy = s.energy := rfl
@[simp] theorem State.setFunc_p4Req (s : State) (k : Nat) (v : Func) : (s.setFunc k v).p4Req = s.p4Req := rfl
@[simp] theorem State.setFunc_p4Event (s : State) (k : Nat) (v : Func) : (s.setFunc k v).p4Event = s.p4Event := rfl
@[simp] theorem State.setFunc_inReset (s : State) (k : Nat) (v : Func) : (s.setFunc k v).inReset = s.inReset := rfl
@[simp] theorem State.setFunc_perstLow (s : State) (k : Nat) (v : Func) : (s.setFunc k v).perstLow = s.perstLow := rfl
@[simp] theorem State.setFunc_resetNLow (s : State) (k : Nat) (v : Func) : (s.setFunc k v).resetNLow = s.resetNLow := rfl
@[simp] theorem State.setFunc_powerGood (s : State) (k : Nat) (v : Func) : (s.setFunc k v).powerGood = s.powerGood := rfl
@[simp] theorem State.setFunc_pushing (s : State) (k : Nat) (v : Func) : (s.setFunc k v).pushing = s.pushing := rfl
@[simp] theorem State.setFunc_wdtMs (s : State) (k : Nat) (v : Func) : (s.setFunc k v).wdtMs = s.wdtMs := rfl
@[simp] theorem State.setFunc_wdtFrom (s : State) (k : Nat) (v : Func) : (s.setFunc k v).wdtFrom = s.wdtFrom := rfl
@[simp] theorem State.setFunc_ledgTorn (s : State) (k : Nat) (v : Func) : (s.setFunc k v).ledgTorn = s.ledgTorn := rfl
@[simp] theorem State.setFunc_bar4Log2 (s : State) (k : Nat) (v : Func) : (s.setFunc k v).bar4Log2 = s.bar4Log2 := rfl
@[simp] theorem State.setFunc_pending (s : State) (k : Nat) (v : Func) : (s.setFunc k v).pending = s.pending := rfl

@[simp] theorem State.setStall_regs (s : State) (k : Nat) (v : Stall) : (s.setStall k v).regs = s.regs := rfl
@[simp] theorem State.setStall_mem (s : State) (k : Nat) (v : Stall) : (s.setStall k v).mem = s.mem := rfl
@[simp] theorem State.setStall_poison (s : State) (k : Nat) (v : Stall) : (s.setStall k v).poison = s.poison := rfl
@[simp] theorem State.setStall_fr (s : State) (k : Nat) (v : Stall) : (s.setStall k v).fr = s.fr := rfl
@[simp] theorem State.setStall_frRuns (s : State) (k : Nat) (v : Stall) : (s.setStall k v).frRuns = s.frRuns := rfl
@[simp] theorem State.setStall_free (s : State) (k : Nat) (v : Stall) : (s.setStall k v).free = s.free := rfl
@[simp] theorem State.setStall_booted (s : State) (k : Nat) (v : Stall) : (s.setStall k v).booted = s.booted := rfl
@[simp] theorem State.setStall_rdata (s : State) (k : Nat) (v : Stall) : (s.setStall k v).rdata = s.rdata := rfl
@[simp] theorem State.setStall_latch (s : State) (k : Nat) (v : Stall) : (s.setStall k v).latch = s.latch := rfl
@[simp] theorem State.setStall_rstat (s : State) (k : Nat) (v : Stall) : (s.setStall k v).rstat = s.rstat := rfl
@[simp] theorem State.setStall_funcs (s : State) (k : Nat) (v : Stall) : (s.setStall k v).funcs = s.funcs := rfl
@[simp] theorem State.setStall_numVfs (s : State) (k : Nat) (v : Stall) : (s.setStall k v).numVfs = s.numVfs := rfl
@[simp] theorem State.setStall_ari (s : State) (k : Nat) (v : Stall) : (s.setStall k v).ari = s.ari := rfl
@[simp] theorem State.setStall_vfEnable (s : State) (k : Nat) (v : Stall) : (s.setStall k v).vfEnable = s.vfEnable := rfl
@[simp] theorem State.setStall_stalls (s : State) (k : Nat) (v : Stall) : (s.setStall k v).stalls = Store.put s.stalls k v := rfl
@[simp] theorem State.setStall_works (s : State) (k : Nat) (v : Stall) : (s.setStall k v).works = s.works := rfl
@[simp] theorem State.setStall_nextWork (s : State) (k : Nat) (v : Stall) : (s.setStall k v).nextWork = s.nextWork := rfl
@[simp] theorem State.setStall_devAllowance (s : State) (k : Nat) (v : Stall) : (s.setStall k v).devAllowance = s.devAllowance := rfl
@[simp] theorem State.setStall_receipts (s : State) (k : Nat) (v : Stall) : (s.setStall k v).receipts = s.receipts := rfl
@[simp] theorem State.setStall_donePaces (s : State) (k : Nat) (v : Stall) : (s.setStall k v).donePaces = s.donePaces := rfl
@[simp] theorem State.setStall_tx (s : State) (k : Nat) (v : Stall) : (s.setStall k v).tx = s.tx := rfl
@[simp] theorem State.setStall_triggers (s : State) (k : Nat) (v : Stall) : (s.setStall k v).triggers = s.triggers := rfl
@[simp] theorem State.setStall_raiseNo (s : State) (k : Nat) (v : Stall) : (s.setStall k v).raiseNo = s.raiseNo := rfl
@[simp] theorem State.setStall_events (s : State) (k : Nat) (v : Stall) : (s.setStall k v).events = s.events := rfl
@[simp] theorem State.setStall_arrivals (s : State) (k : Nat) (v : Stall) : (s.setStall k v).arrivals = s.arrivals := rfl
@[simp] theorem State.setStall_lastArrival (s : State) (k : Nat) (v : Stall) : (s.setStall k v).lastArrival = s.lastArrival := rfl
@[simp] theorem State.setStall_detections (s : State) (k : Nat) (v : Stall) : (s.setStall k v).detections = s.detections := rfl
@[simp] theorem State.setStall_ledgerEvents (s : State) (k : Nat) (v : Stall) : (s.setStall k v).ledgerEvents = s.ledgerEvents := rfl
@[simp] theorem State.setStall_ports (s : State) (k : Nat) (v : Stall) : (s.setStall k v).ports = s.ports := rfl
@[simp] theorem State.setStall_segs (s : State) (k : Nat) (v : Stall) : (s.setStall k v).segs = s.segs := rfl
@[simp] theorem State.setStall_seqs (s : State) (k : Nat) (v : Stall) : (s.setStall k v).seqs = s.seqs := rfl
@[simp] theorem State.setStall_tsPending (s : State) (k : Nat) (v : Stall) : (s.setStall k v).tsPending = s.tsPending := rfl
@[simp] theorem State.setStall_frames0 (s : State) (k : Nat) (v : Stall) : (s.setStall k v).frames0 = s.frames0 := rfl
@[simp] theorem State.setStall_frames1 (s : State) (k : Nat) (v : Stall) : (s.setStall k v).frames1 = s.frames1 := rfl
@[simp] theorem State.setStall_nextEntry (s : State) (k : Nat) (v : Stall) : (s.setStall k v).nextEntry = s.nextEntry := rfl
@[simp] theorem State.setStall_ethOut (s : State) (k : Nat) (v : Stall) : (s.setStall k v).ethOut = s.ethOut := rfl
@[simp] theorem State.setStall_chans (s : State) (k : Nat) (v : Stall) : (s.setStall k v).chans = s.chans := rfl
@[simp] theorem State.setStall_edges (s : State) (k : Nat) (v : Stall) : (s.setStall k v).edges = s.edges := rfl
@[simp] theorem State.setStall_lanes (s : State) (k : Nat) (v : Stall) : (s.setStall k v).lanes = s.lanes := rfl
@[simp] theorem State.setStall_patch (s : State) (k : Nat) (v : Stall) : (s.setStall k v).patch = s.patch := rfl
@[simp] theorem State.setStall_crier (s : State) (k : Nat) (v : Stall) : (s.setStall k v).crier = s.crier := rfl
@[simp] theorem State.setStall_factApplied (s : State) (k : Nat) (v : Stall) : (s.setStall k v).factApplied = s.factApplied := rfl
@[simp] theorem State.setStall_ledgRecs (s : State) (k : Nat) (v : Stall) : (s.setStall k v).ledgRecs = s.ledgRecs := rfl
@[simp] theorem State.setStall_ledgQueue (s : State) (k : Nat) (v : Stall) : (s.setStall k v).ledgQueue = s.ledgQueue := rfl
@[simp] theorem State.setStall_ledgWrite (s : State) (k : Nat) (v : Stall) : (s.setStall k v).ledgWrite = s.ledgWrite := rfl
@[simp] theorem State.setStall_laneTxOff (s : State) (k : Nat) (v : Stall) : (s.setStall k v).laneTxOff = s.laneTxOff := rfl
@[simp] theorem State.setStall_safeEntry (s : State) (k : Nat) (v : Stall) : (s.setStall k v).safeEntry = s.safeEntry := rfl
@[simp] theorem State.setStall_holdEnd (s : State) (k : Nat) (v : Stall) : (s.setStall k v).holdEnd = s.holdEnd := rfl
@[simp] theorem State.setStall_warnSince (s : State) (k : Nat) (v : Stall) : (s.setStall k v).warnSince = s.warnSince := rfl
@[simp] theorem State.setStall_resets (s : State) (k : Nat) (v : Stall) : (s.setStall k v).resets = s.resets := rfl
@[simp] theorem State.setStall_watches (s : State) (k : Nat) (v : Stall) : (s.setStall k v).watches = s.watches := rfl
@[simp] theorem State.setStall_conc (s : State) (k : Nat) (v : Stall) : (s.setStall k v).conc = s.conc := rfl
@[simp] theorem State.setStall_gates (s : State) (k : Nat) (v : Stall) : (s.setStall k v).gates = s.gates := rfl
@[simp] theorem State.setStall_srcEdges (s : State) (k : Nat) (v : Stall) : (s.setStall k v).srcEdges = s.srcEdges := rfl
@[simp] theorem State.setStall_turn (s : State) (k : Nat) (v : Stall) : (s.setStall k v).turn = s.turn := rfl
@[simp] theorem State.setStall_ssms (s : State) (k : Nat) (v : Stall) : (s.setStall k v).ssms = s.ssms := rfl
@[simp] theorem State.setStall_driftRows (s : State) (k : Nat) (v : Stall) : (s.setStall k v).driftRows = s.driftRows := rfl
@[simp] theorem State.setStall_handledAt (s : State) (k : Nat) (v : Stall) : (s.setStall k v).handledAt = s.handledAt := rfl
@[simp] theorem State.setStall_calQueue (s : State) (k : Nat) (v : Stall) : (s.setStall k v).calQueue = s.calQueue := rfl
@[simp] theorem State.setStall_oven (s : State) (k : Nat) (v : Stall) : (s.setStall k v).oven = s.oven := rfl
@[simp] theorem State.setStall_masterOven (s : State) (k : Nat) (v : Stall) : (s.setStall k v).masterOven = s.masterOven := rfl
@[simp] theorem State.setStall_joints (s : State) (k : Nat) (v : Stall) : (s.setStall k v).joints = s.joints := rfl
@[simp] theorem State.setStall_gsl (s : State) (k : Nat) (v : Stall) : (s.setStall k v).gsl = s.gsl := rfl
@[simp] theorem State.setStall_gslIn (s : State) (k : Nat) (v : Stall) : (s.setStall k v).gslIn = s.gslIn := rfl
@[simp] theorem State.setStall_peers (s : State) (k : Nat) (v : Stall) : (s.setStall k v).peers = s.peers := rfl
@[simp] theorem State.setStall_electAt (s : State) (k : Nat) (v : Stall) : (s.setStall k v).electAt = s.electAt := rfl
@[simp] theorem State.setStall_members (s : State) (k : Nat) (v : Stall) : (s.setStall k v).members = s.members := rfl
@[simp] theorem State.setStall_linksDown (s : State) (k : Nat) (v : Stall) : (s.setStall k v).linksDown = s.linksDown := rfl
@[simp] theorem State.setStall_timeHalf (s : State) (k : Nat) (v : Stall) : (s.setStall k v).timeHalf = s.timeHalf := rfl
@[simp] theorem State.setStall_timeNext (s : State) (k : Nat) (v : Stall) : (s.setStall k v).timeNext = s.timeNext := rfl
@[simp] theorem State.setStall_timeSet (s : State) (k : Nat) (v : Stall) : (s.setStall k v).timeSet = s.timeSet := rfl
@[simp] theorem State.setStall_servo (s : State) (k : Nat) (v : Stall) : (s.setStall k v).servo = s.servo := rfl
@[simp] theorem State.setStall_ptpRate (s : State) (k : Nat) (v : Stall) : (s.setStall k v).ptpRate = s.ptpRate := rfl
@[simp] theorem State.setStall_idConflict (s : State) (k : Nat) (v : Stall) : (s.setStall k v).idConflict = s.idConflict := rfl
@[simp] theorem State.setStall_hallCfg (s : State) (k : Nat) (v : Stall) : (s.setStall k v).hallCfg = s.hallCfg := rfl
@[simp] theorem State.setStall_crierDrv (s : State) (k : Nat) (v : Stall) : (s.setStall k v).crierDrv = s.crierDrv := rfl
@[simp] theorem State.setStall_crierWait (s : State) (k : Nat) (v : Stall) : (s.setStall k v).crierWait = s.crierWait := rfl
@[simp] theorem State.setStall_pulses (s : State) (k : Nat) (v : Stall) : (s.setStall k v).pulses = s.pulses := rfl
@[simp] theorem State.setStall_crierCfg (s : State) (k : Nat) (v : Stall) : (s.setStall k v).crierCfg = s.crierCfg := rfl
@[simp] theorem State.setStall_crierNow (s : State) (k : Nat) (v : Stall) : (s.setStall k v).crierNow = s.crierNow := rfl
@[simp] theorem State.setStall_postponed (s : State) (k : Nat) (v : Stall) : (s.setStall k v).postponed = s.postponed := rfl
@[simp] theorem State.setStall_awn (s : State) (k : Nat) (v : Stall) : (s.setStall k v).awn = s.awn := rfl
@[simp] theorem State.setStall_items (s : State) (k : Nat) (v : Stall) : (s.setStall k v).items = s.items := rfl
@[simp] theorem State.setStall_graphs (s : State) (k : Nat) (v : Stall) : (s.setStall k v).graphs = s.graphs := rfl
@[simp] theorem State.setStall_schedNo (s : State) (k : Nat) (v : Stall) : (s.setStall k v).schedNo = s.schedNo := rfl
@[simp] theorem State.setStall_callRet (s : State) (k : Nat) (v : Stall) : (s.setStall k v).callRet = s.callRet := rfl
@[simp] theorem State.setStall_l1 (s : State) (k : Nat) (v : Stall) : (s.setStall k v).l1 = s.l1 := rfl
@[simp] theorem State.setStall_cohWait (s : State) (k : Nat) (v : Stall) : (s.setStall k v).cohWait = s.cohWait := rfl
@[simp] theorem State.setStall_recalls (s : State) (k : Nat) (v : Stall) : (s.setStall k v).recalls = s.recalls := rfl
@[simp] theorem State.setStall_losers (s : State) (k : Nat) (v : Stall) : (s.setStall k v).losers = s.losers := rfl
@[simp] theorem State.setStall_regions (s : State) (k : Nat) (v : Stall) : (s.setStall k v).regions = s.regions := rfl
@[simp] theorem State.setStall_arbs (s : State) (k : Nat) (v : Stall) : (s.setStall k v).arbs = s.arbs := rfl
@[simp] theorem State.setStall_debt (s : State) (k : Nat) (v : Stall) : (s.setStall k v).debt = s.debt := rfl
@[simp] theorem State.setStall_sref (s : State) (k : Nat) (v : Stall) : (s.setStall k v).sref = s.sref := rfl
@[simp] theorem State.setStall_srefAt (s : State) (k : Nat) (v : Stall) : (s.setStall k v).srefAt = s.srefAt := rfl
@[simp] theorem State.setStall_openRows (s : State) (k : Nat) (v : Stall) : (s.setStall k v).openRows = s.openRows := rfl
@[simp] theorem State.setStall_adcs (s : State) (k : Nat) (v : Stall) : (s.setStall k v).adcs = s.adcs := rfl
@[simp] theorem State.setStall_results (s : State) (k : Nat) (v : Stall) : (s.setStall k v).results = s.results := rfl
@[simp] theorem State.setStall_safetyDue (s : State) (k : Nat) (v : Stall) : (s.setStall k v).safetyDue = s.safetyDue := rfl
@[simp] theorem State.setStall_safetyRes (s : State) (k : Nat) (v : Stall) : (s.setStall k v).safetyRes = s.safetyRes := rfl
@[simp] theorem State.setStall_calRun (s : State) (k : Nat) (v : Stall) : (s.setStall k v).calRun = s.calRun := rfl
@[simp] theorem State.setStall_energy (s : State) (k : Nat) (v : Stall) : (s.setStall k v).energy = s.energy := rfl
@[simp] theorem State.setStall_p4Req (s : State) (k : Nat) (v : Stall) : (s.setStall k v).p4Req = s.p4Req := rfl
@[simp] theorem State.setStall_p4Event (s : State) (k : Nat) (v : Stall) : (s.setStall k v).p4Event = s.p4Event := rfl
@[simp] theorem State.setStall_inReset (s : State) (k : Nat) (v : Stall) : (s.setStall k v).inReset = s.inReset := rfl
@[simp] theorem State.setStall_perstLow (s : State) (k : Nat) (v : Stall) : (s.setStall k v).perstLow = s.perstLow := rfl
@[simp] theorem State.setStall_resetNLow (s : State) (k : Nat) (v : Stall) : (s.setStall k v).resetNLow = s.resetNLow := rfl
@[simp] theorem State.setStall_powerGood (s : State) (k : Nat) (v : Stall) : (s.setStall k v).powerGood = s.powerGood := rfl
@[simp] theorem State.setStall_pushing (s : State) (k : Nat) (v : Stall) : (s.setStall k v).pushing = s.pushing := rfl
@[simp] theorem State.setStall_wdtMs (s : State) (k : Nat) (v : Stall) : (s.setStall k v).wdtMs = s.wdtMs := rfl
@[simp] theorem State.setStall_wdtFrom (s : State) (k : Nat) (v : Stall) : (s.setStall k v).wdtFrom = s.wdtFrom := rfl
@[simp] theorem State.setStall_ledgTorn (s : State) (k : Nat) (v : Stall) : (s.setStall k v).ledgTorn = s.ledgTorn := rfl
@[simp] theorem State.setStall_bar4Log2 (s : State) (k : Nat) (v : Stall) : (s.setStall k v).bar4Log2 = s.bar4Log2 := rfl
@[simp] theorem State.setStall_pending (s : State) (k : Nat) (v : Stall) : (s.setStall k v).pending = s.pending := rfl

@[simp] theorem State.setWork_regs (s : State) (k : Nat) (v : Work) : (s.setWork k v).regs = s.regs := rfl
@[simp] theorem State.setWork_mem (s : State) (k : Nat) (v : Work) : (s.setWork k v).mem = s.mem := rfl
@[simp] theorem State.setWork_poison (s : State) (k : Nat) (v : Work) : (s.setWork k v).poison = s.poison := rfl
@[simp] theorem State.setWork_fr (s : State) (k : Nat) (v : Work) : (s.setWork k v).fr = s.fr := rfl
@[simp] theorem State.setWork_frRuns (s : State) (k : Nat) (v : Work) : (s.setWork k v).frRuns = s.frRuns := rfl
@[simp] theorem State.setWork_free (s : State) (k : Nat) (v : Work) : (s.setWork k v).free = s.free := rfl
@[simp] theorem State.setWork_booted (s : State) (k : Nat) (v : Work) : (s.setWork k v).booted = s.booted := rfl
@[simp] theorem State.setWork_rdata (s : State) (k : Nat) (v : Work) : (s.setWork k v).rdata = s.rdata := rfl
@[simp] theorem State.setWork_latch (s : State) (k : Nat) (v : Work) : (s.setWork k v).latch = s.latch := rfl
@[simp] theorem State.setWork_rstat (s : State) (k : Nat) (v : Work) : (s.setWork k v).rstat = s.rstat := rfl
@[simp] theorem State.setWork_funcs (s : State) (k : Nat) (v : Work) : (s.setWork k v).funcs = s.funcs := rfl
@[simp] theorem State.setWork_numVfs (s : State) (k : Nat) (v : Work) : (s.setWork k v).numVfs = s.numVfs := rfl
@[simp] theorem State.setWork_ari (s : State) (k : Nat) (v : Work) : (s.setWork k v).ari = s.ari := rfl
@[simp] theorem State.setWork_vfEnable (s : State) (k : Nat) (v : Work) : (s.setWork k v).vfEnable = s.vfEnable := rfl
@[simp] theorem State.setWork_stalls (s : State) (k : Nat) (v : Work) : (s.setWork k v).stalls = s.stalls := rfl
@[simp] theorem State.setWork_works (s : State) (k : Nat) (v : Work) : (s.setWork k v).works = Store.put s.works k v := rfl
@[simp] theorem State.setWork_nextWork (s : State) (k : Nat) (v : Work) : (s.setWork k v).nextWork = s.nextWork := rfl
@[simp] theorem State.setWork_devAllowance (s : State) (k : Nat) (v : Work) : (s.setWork k v).devAllowance = s.devAllowance := rfl
@[simp] theorem State.setWork_receipts (s : State) (k : Nat) (v : Work) : (s.setWork k v).receipts = s.receipts := rfl
@[simp] theorem State.setWork_donePaces (s : State) (k : Nat) (v : Work) : (s.setWork k v).donePaces = s.donePaces := rfl
@[simp] theorem State.setWork_tx (s : State) (k : Nat) (v : Work) : (s.setWork k v).tx = s.tx := rfl
@[simp] theorem State.setWork_triggers (s : State) (k : Nat) (v : Work) : (s.setWork k v).triggers = s.triggers := rfl
@[simp] theorem State.setWork_raiseNo (s : State) (k : Nat) (v : Work) : (s.setWork k v).raiseNo = s.raiseNo := rfl
@[simp] theorem State.setWork_events (s : State) (k : Nat) (v : Work) : (s.setWork k v).events = s.events := rfl
@[simp] theorem State.setWork_arrivals (s : State) (k : Nat) (v : Work) : (s.setWork k v).arrivals = s.arrivals := rfl
@[simp] theorem State.setWork_lastArrival (s : State) (k : Nat) (v : Work) : (s.setWork k v).lastArrival = s.lastArrival := rfl
@[simp] theorem State.setWork_detections (s : State) (k : Nat) (v : Work) : (s.setWork k v).detections = s.detections := rfl
@[simp] theorem State.setWork_ledgerEvents (s : State) (k : Nat) (v : Work) : (s.setWork k v).ledgerEvents = s.ledgerEvents := rfl
@[simp] theorem State.setWork_ports (s : State) (k : Nat) (v : Work) : (s.setWork k v).ports = s.ports := rfl
@[simp] theorem State.setWork_segs (s : State) (k : Nat) (v : Work) : (s.setWork k v).segs = s.segs := rfl
@[simp] theorem State.setWork_seqs (s : State) (k : Nat) (v : Work) : (s.setWork k v).seqs = s.seqs := rfl
@[simp] theorem State.setWork_tsPending (s : State) (k : Nat) (v : Work) : (s.setWork k v).tsPending = s.tsPending := rfl
@[simp] theorem State.setWork_frames0 (s : State) (k : Nat) (v : Work) : (s.setWork k v).frames0 = s.frames0 := rfl
@[simp] theorem State.setWork_frames1 (s : State) (k : Nat) (v : Work) : (s.setWork k v).frames1 = s.frames1 := rfl
@[simp] theorem State.setWork_nextEntry (s : State) (k : Nat) (v : Work) : (s.setWork k v).nextEntry = s.nextEntry := rfl
@[simp] theorem State.setWork_ethOut (s : State) (k : Nat) (v : Work) : (s.setWork k v).ethOut = s.ethOut := rfl
@[simp] theorem State.setWork_chans (s : State) (k : Nat) (v : Work) : (s.setWork k v).chans = s.chans := rfl
@[simp] theorem State.setWork_edges (s : State) (k : Nat) (v : Work) : (s.setWork k v).edges = s.edges := rfl
@[simp] theorem State.setWork_lanes (s : State) (k : Nat) (v : Work) : (s.setWork k v).lanes = s.lanes := rfl
@[simp] theorem State.setWork_patch (s : State) (k : Nat) (v : Work) : (s.setWork k v).patch = s.patch := rfl
@[simp] theorem State.setWork_crier (s : State) (k : Nat) (v : Work) : (s.setWork k v).crier = s.crier := rfl
@[simp] theorem State.setWork_factApplied (s : State) (k : Nat) (v : Work) : (s.setWork k v).factApplied = s.factApplied := rfl
@[simp] theorem State.setWork_ledgRecs (s : State) (k : Nat) (v : Work) : (s.setWork k v).ledgRecs = s.ledgRecs := rfl
@[simp] theorem State.setWork_ledgQueue (s : State) (k : Nat) (v : Work) : (s.setWork k v).ledgQueue = s.ledgQueue := rfl
@[simp] theorem State.setWork_ledgWrite (s : State) (k : Nat) (v : Work) : (s.setWork k v).ledgWrite = s.ledgWrite := rfl
@[simp] theorem State.setWork_laneTxOff (s : State) (k : Nat) (v : Work) : (s.setWork k v).laneTxOff = s.laneTxOff := rfl
@[simp] theorem State.setWork_safeEntry (s : State) (k : Nat) (v : Work) : (s.setWork k v).safeEntry = s.safeEntry := rfl
@[simp] theorem State.setWork_holdEnd (s : State) (k : Nat) (v : Work) : (s.setWork k v).holdEnd = s.holdEnd := rfl
@[simp] theorem State.setWork_warnSince (s : State) (k : Nat) (v : Work) : (s.setWork k v).warnSince = s.warnSince := rfl
@[simp] theorem State.setWork_resets (s : State) (k : Nat) (v : Work) : (s.setWork k v).resets = s.resets := rfl
@[simp] theorem State.setWork_watches (s : State) (k : Nat) (v : Work) : (s.setWork k v).watches = s.watches := rfl
@[simp] theorem State.setWork_conc (s : State) (k : Nat) (v : Work) : (s.setWork k v).conc = s.conc := rfl
@[simp] theorem State.setWork_gates (s : State) (k : Nat) (v : Work) : (s.setWork k v).gates = s.gates := rfl
@[simp] theorem State.setWork_srcEdges (s : State) (k : Nat) (v : Work) : (s.setWork k v).srcEdges = s.srcEdges := rfl
@[simp] theorem State.setWork_turn (s : State) (k : Nat) (v : Work) : (s.setWork k v).turn = s.turn := rfl
@[simp] theorem State.setWork_ssms (s : State) (k : Nat) (v : Work) : (s.setWork k v).ssms = s.ssms := rfl
@[simp] theorem State.setWork_driftRows (s : State) (k : Nat) (v : Work) : (s.setWork k v).driftRows = s.driftRows := rfl
@[simp] theorem State.setWork_handledAt (s : State) (k : Nat) (v : Work) : (s.setWork k v).handledAt = s.handledAt := rfl
@[simp] theorem State.setWork_calQueue (s : State) (k : Nat) (v : Work) : (s.setWork k v).calQueue = s.calQueue := rfl
@[simp] theorem State.setWork_oven (s : State) (k : Nat) (v : Work) : (s.setWork k v).oven = s.oven := rfl
@[simp] theorem State.setWork_masterOven (s : State) (k : Nat) (v : Work) : (s.setWork k v).masterOven = s.masterOven := rfl
@[simp] theorem State.setWork_joints (s : State) (k : Nat) (v : Work) : (s.setWork k v).joints = s.joints := rfl
@[simp] theorem State.setWork_gsl (s : State) (k : Nat) (v : Work) : (s.setWork k v).gsl = s.gsl := rfl
@[simp] theorem State.setWork_gslIn (s : State) (k : Nat) (v : Work) : (s.setWork k v).gslIn = s.gslIn := rfl
@[simp] theorem State.setWork_peers (s : State) (k : Nat) (v : Work) : (s.setWork k v).peers = s.peers := rfl
@[simp] theorem State.setWork_electAt (s : State) (k : Nat) (v : Work) : (s.setWork k v).electAt = s.electAt := rfl
@[simp] theorem State.setWork_members (s : State) (k : Nat) (v : Work) : (s.setWork k v).members = s.members := rfl
@[simp] theorem State.setWork_linksDown (s : State) (k : Nat) (v : Work) : (s.setWork k v).linksDown = s.linksDown := rfl
@[simp] theorem State.setWork_timeHalf (s : State) (k : Nat) (v : Work) : (s.setWork k v).timeHalf = s.timeHalf := rfl
@[simp] theorem State.setWork_timeNext (s : State) (k : Nat) (v : Work) : (s.setWork k v).timeNext = s.timeNext := rfl
@[simp] theorem State.setWork_timeSet (s : State) (k : Nat) (v : Work) : (s.setWork k v).timeSet = s.timeSet := rfl
@[simp] theorem State.setWork_servo (s : State) (k : Nat) (v : Work) : (s.setWork k v).servo = s.servo := rfl
@[simp] theorem State.setWork_ptpRate (s : State) (k : Nat) (v : Work) : (s.setWork k v).ptpRate = s.ptpRate := rfl
@[simp] theorem State.setWork_idConflict (s : State) (k : Nat) (v : Work) : (s.setWork k v).idConflict = s.idConflict := rfl
@[simp] theorem State.setWork_hallCfg (s : State) (k : Nat) (v : Work) : (s.setWork k v).hallCfg = s.hallCfg := rfl
@[simp] theorem State.setWork_crierDrv (s : State) (k : Nat) (v : Work) : (s.setWork k v).crierDrv = s.crierDrv := rfl
@[simp] theorem State.setWork_crierWait (s : State) (k : Nat) (v : Work) : (s.setWork k v).crierWait = s.crierWait := rfl
@[simp] theorem State.setWork_pulses (s : State) (k : Nat) (v : Work) : (s.setWork k v).pulses = s.pulses := rfl
@[simp] theorem State.setWork_crierCfg (s : State) (k : Nat) (v : Work) : (s.setWork k v).crierCfg = s.crierCfg := rfl
@[simp] theorem State.setWork_crierNow (s : State) (k : Nat) (v : Work) : (s.setWork k v).crierNow = s.crierNow := rfl
@[simp] theorem State.setWork_postponed (s : State) (k : Nat) (v : Work) : (s.setWork k v).postponed = s.postponed := rfl
@[simp] theorem State.setWork_awn (s : State) (k : Nat) (v : Work) : (s.setWork k v).awn = s.awn := rfl
@[simp] theorem State.setWork_items (s : State) (k : Nat) (v : Work) : (s.setWork k v).items = s.items := rfl
@[simp] theorem State.setWork_graphs (s : State) (k : Nat) (v : Work) : (s.setWork k v).graphs = s.graphs := rfl
@[simp] theorem State.setWork_schedNo (s : State) (k : Nat) (v : Work) : (s.setWork k v).schedNo = s.schedNo := rfl
@[simp] theorem State.setWork_callRet (s : State) (k : Nat) (v : Work) : (s.setWork k v).callRet = s.callRet := rfl
@[simp] theorem State.setWork_l1 (s : State) (k : Nat) (v : Work) : (s.setWork k v).l1 = s.l1 := rfl
@[simp] theorem State.setWork_cohWait (s : State) (k : Nat) (v : Work) : (s.setWork k v).cohWait = s.cohWait := rfl
@[simp] theorem State.setWork_recalls (s : State) (k : Nat) (v : Work) : (s.setWork k v).recalls = s.recalls := rfl
@[simp] theorem State.setWork_losers (s : State) (k : Nat) (v : Work) : (s.setWork k v).losers = s.losers := rfl
@[simp] theorem State.setWork_regions (s : State) (k : Nat) (v : Work) : (s.setWork k v).regions = s.regions := rfl
@[simp] theorem State.setWork_arbs (s : State) (k : Nat) (v : Work) : (s.setWork k v).arbs = s.arbs := rfl
@[simp] theorem State.setWork_debt (s : State) (k : Nat) (v : Work) : (s.setWork k v).debt = s.debt := rfl
@[simp] theorem State.setWork_sref (s : State) (k : Nat) (v : Work) : (s.setWork k v).sref = s.sref := rfl
@[simp] theorem State.setWork_srefAt (s : State) (k : Nat) (v : Work) : (s.setWork k v).srefAt = s.srefAt := rfl
@[simp] theorem State.setWork_openRows (s : State) (k : Nat) (v : Work) : (s.setWork k v).openRows = s.openRows := rfl
@[simp] theorem State.setWork_adcs (s : State) (k : Nat) (v : Work) : (s.setWork k v).adcs = s.adcs := rfl
@[simp] theorem State.setWork_results (s : State) (k : Nat) (v : Work) : (s.setWork k v).results = s.results := rfl
@[simp] theorem State.setWork_safetyDue (s : State) (k : Nat) (v : Work) : (s.setWork k v).safetyDue = s.safetyDue := rfl
@[simp] theorem State.setWork_safetyRes (s : State) (k : Nat) (v : Work) : (s.setWork k v).safetyRes = s.safetyRes := rfl
@[simp] theorem State.setWork_calRun (s : State) (k : Nat) (v : Work) : (s.setWork k v).calRun = s.calRun := rfl
@[simp] theorem State.setWork_energy (s : State) (k : Nat) (v : Work) : (s.setWork k v).energy = s.energy := rfl
@[simp] theorem State.setWork_p4Req (s : State) (k : Nat) (v : Work) : (s.setWork k v).p4Req = s.p4Req := rfl
@[simp] theorem State.setWork_p4Event (s : State) (k : Nat) (v : Work) : (s.setWork k v).p4Event = s.p4Event := rfl
@[simp] theorem State.setWork_inReset (s : State) (k : Nat) (v : Work) : (s.setWork k v).inReset = s.inReset := rfl
@[simp] theorem State.setWork_perstLow (s : State) (k : Nat) (v : Work) : (s.setWork k v).perstLow = s.perstLow := rfl
@[simp] theorem State.setWork_resetNLow (s : State) (k : Nat) (v : Work) : (s.setWork k v).resetNLow = s.resetNLow := rfl
@[simp] theorem State.setWork_powerGood (s : State) (k : Nat) (v : Work) : (s.setWork k v).powerGood = s.powerGood := rfl
@[simp] theorem State.setWork_pushing (s : State) (k : Nat) (v : Work) : (s.setWork k v).pushing = s.pushing := rfl
@[simp] theorem State.setWork_wdtMs (s : State) (k : Nat) (v : Work) : (s.setWork k v).wdtMs = s.wdtMs := rfl
@[simp] theorem State.setWork_wdtFrom (s : State) (k : Nat) (v : Work) : (s.setWork k v).wdtFrom = s.wdtFrom := rfl
@[simp] theorem State.setWork_ledgTorn (s : State) (k : Nat) (v : Work) : (s.setWork k v).ledgTorn = s.ledgTorn := rfl
@[simp] theorem State.setWork_bar4Log2 (s : State) (k : Nat) (v : Work) : (s.setWork k v).bar4Log2 = s.bar4Log2 := rfl
@[simp] theorem State.setWork_pending (s : State) (k : Nat) (v : Work) : (s.setWork k v).pending = s.pending := rfl

@[simp] theorem State.setSeq_regs (s : State) (n : Nat) (v : Seq) : (s.setSeq n v).regs = s.regs := rfl
@[simp] theorem State.setSeq_mem (s : State) (n : Nat) (v : Seq) : (s.setSeq n v).mem = s.mem := rfl
@[simp] theorem State.setSeq_poison (s : State) (n : Nat) (v : Seq) : (s.setSeq n v).poison = s.poison := rfl
@[simp] theorem State.setSeq_fr (s : State) (n : Nat) (v : Seq) : (s.setSeq n v).fr = s.fr := rfl
@[simp] theorem State.setSeq_frRuns (s : State) (n : Nat) (v : Seq) : (s.setSeq n v).frRuns = s.frRuns := rfl
@[simp] theorem State.setSeq_free (s : State) (n : Nat) (v : Seq) : (s.setSeq n v).free = s.free := rfl
@[simp] theorem State.setSeq_booted (s : State) (n : Nat) (v : Seq) : (s.setSeq n v).booted = s.booted := rfl
@[simp] theorem State.setSeq_rdata (s : State) (n : Nat) (v : Seq) : (s.setSeq n v).rdata = s.rdata := rfl
@[simp] theorem State.setSeq_latch (s : State) (n : Nat) (v : Seq) : (s.setSeq n v).latch = s.latch := rfl
@[simp] theorem State.setSeq_rstat (s : State) (n : Nat) (v : Seq) : (s.setSeq n v).rstat = s.rstat := rfl
@[simp] theorem State.setSeq_funcs (s : State) (n : Nat) (v : Seq) : (s.setSeq n v).funcs = s.funcs := rfl
@[simp] theorem State.setSeq_numVfs (s : State) (n : Nat) (v : Seq) : (s.setSeq n v).numVfs = s.numVfs := rfl
@[simp] theorem State.setSeq_ari (s : State) (n : Nat) (v : Seq) : (s.setSeq n v).ari = s.ari := rfl
@[simp] theorem State.setSeq_vfEnable (s : State) (n : Nat) (v : Seq) : (s.setSeq n v).vfEnable = s.vfEnable := rfl
@[simp] theorem State.setSeq_stalls (s : State) (n : Nat) (v : Seq) : (s.setSeq n v).stalls = s.stalls := rfl
@[simp] theorem State.setSeq_works (s : State) (n : Nat) (v : Seq) : (s.setSeq n v).works = s.works := rfl
@[simp] theorem State.setSeq_nextWork (s : State) (n : Nat) (v : Seq) : (s.setSeq n v).nextWork = s.nextWork := rfl
@[simp] theorem State.setSeq_devAllowance (s : State) (n : Nat) (v : Seq) : (s.setSeq n v).devAllowance = s.devAllowance := rfl
@[simp] theorem State.setSeq_receipts (s : State) (n : Nat) (v : Seq) : (s.setSeq n v).receipts = s.receipts := rfl
@[simp] theorem State.setSeq_donePaces (s : State) (n : Nat) (v : Seq) : (s.setSeq n v).donePaces = s.donePaces := rfl
@[simp] theorem State.setSeq_tx (s : State) (n : Nat) (v : Seq) : (s.setSeq n v).tx = s.tx := rfl
@[simp] theorem State.setSeq_triggers (s : State) (n : Nat) (v : Seq) : (s.setSeq n v).triggers = s.triggers := rfl
@[simp] theorem State.setSeq_raiseNo (s : State) (n : Nat) (v : Seq) : (s.setSeq n v).raiseNo = s.raiseNo := rfl
@[simp] theorem State.setSeq_events (s : State) (n : Nat) (v : Seq) : (s.setSeq n v).events = s.events := rfl
@[simp] theorem State.setSeq_arrivals (s : State) (n : Nat) (v : Seq) : (s.setSeq n v).arrivals = s.arrivals := rfl
@[simp] theorem State.setSeq_lastArrival (s : State) (n : Nat) (v : Seq) : (s.setSeq n v).lastArrival = s.lastArrival := rfl
@[simp] theorem State.setSeq_detections (s : State) (n : Nat) (v : Seq) : (s.setSeq n v).detections = s.detections := rfl
@[simp] theorem State.setSeq_ledgerEvents (s : State) (n : Nat) (v : Seq) : (s.setSeq n v).ledgerEvents = s.ledgerEvents := rfl
@[simp] theorem State.setSeq_ports (s : State) (n : Nat) (v : Seq) : (s.setSeq n v).ports = s.ports := rfl
@[simp] theorem State.setSeq_segs (s : State) (n : Nat) (v : Seq) : (s.setSeq n v).segs = s.segs := rfl
@[simp] theorem State.setSeq_seqs (s : State) (n : Nat) (v : Seq) : (s.setSeq n v).seqs = Store.put s.seqs n v := rfl
@[simp] theorem State.setSeq_tsPending (s : State) (n : Nat) (v : Seq) : (s.setSeq n v).tsPending = s.tsPending := rfl
@[simp] theorem State.setSeq_frames0 (s : State) (n : Nat) (v : Seq) : (s.setSeq n v).frames0 = s.frames0 := rfl
@[simp] theorem State.setSeq_frames1 (s : State) (n : Nat) (v : Seq) : (s.setSeq n v).frames1 = s.frames1 := rfl
@[simp] theorem State.setSeq_nextEntry (s : State) (n : Nat) (v : Seq) : (s.setSeq n v).nextEntry = s.nextEntry := rfl
@[simp] theorem State.setSeq_ethOut (s : State) (n : Nat) (v : Seq) : (s.setSeq n v).ethOut = s.ethOut := rfl
@[simp] theorem State.setSeq_chans (s : State) (n : Nat) (v : Seq) : (s.setSeq n v).chans = s.chans := rfl
@[simp] theorem State.setSeq_edges (s : State) (n : Nat) (v : Seq) : (s.setSeq n v).edges = s.edges := rfl
@[simp] theorem State.setSeq_lanes (s : State) (n : Nat) (v : Seq) : (s.setSeq n v).lanes = s.lanes := rfl
@[simp] theorem State.setSeq_patch (s : State) (n : Nat) (v : Seq) : (s.setSeq n v).patch = s.patch := rfl
@[simp] theorem State.setSeq_crier (s : State) (n : Nat) (v : Seq) : (s.setSeq n v).crier = s.crier := rfl
@[simp] theorem State.setSeq_factApplied (s : State) (n : Nat) (v : Seq) : (s.setSeq n v).factApplied = s.factApplied := rfl
@[simp] theorem State.setSeq_ledgRecs (s : State) (n : Nat) (v : Seq) : (s.setSeq n v).ledgRecs = s.ledgRecs := rfl
@[simp] theorem State.setSeq_ledgQueue (s : State) (n : Nat) (v : Seq) : (s.setSeq n v).ledgQueue = s.ledgQueue := rfl
@[simp] theorem State.setSeq_ledgWrite (s : State) (n : Nat) (v : Seq) : (s.setSeq n v).ledgWrite = s.ledgWrite := rfl
@[simp] theorem State.setSeq_laneTxOff (s : State) (n : Nat) (v : Seq) : (s.setSeq n v).laneTxOff = s.laneTxOff := rfl
@[simp] theorem State.setSeq_safeEntry (s : State) (n : Nat) (v : Seq) : (s.setSeq n v).safeEntry = s.safeEntry := rfl
@[simp] theorem State.setSeq_holdEnd (s : State) (n : Nat) (v : Seq) : (s.setSeq n v).holdEnd = s.holdEnd := rfl
@[simp] theorem State.setSeq_warnSince (s : State) (n : Nat) (v : Seq) : (s.setSeq n v).warnSince = s.warnSince := rfl
@[simp] theorem State.setSeq_resets (s : State) (n : Nat) (v : Seq) : (s.setSeq n v).resets = s.resets := rfl
@[simp] theorem State.setSeq_watches (s : State) (n : Nat) (v : Seq) : (s.setSeq n v).watches = s.watches := rfl
@[simp] theorem State.setSeq_conc (s : State) (n : Nat) (v : Seq) : (s.setSeq n v).conc = s.conc := rfl
@[simp] theorem State.setSeq_gates (s : State) (n : Nat) (v : Seq) : (s.setSeq n v).gates = s.gates := rfl
@[simp] theorem State.setSeq_srcEdges (s : State) (n : Nat) (v : Seq) : (s.setSeq n v).srcEdges = s.srcEdges := rfl
@[simp] theorem State.setSeq_turn (s : State) (n : Nat) (v : Seq) : (s.setSeq n v).turn = s.turn := rfl
@[simp] theorem State.setSeq_ssms (s : State) (n : Nat) (v : Seq) : (s.setSeq n v).ssms = s.ssms := rfl
@[simp] theorem State.setSeq_driftRows (s : State) (n : Nat) (v : Seq) : (s.setSeq n v).driftRows = s.driftRows := rfl
@[simp] theorem State.setSeq_handledAt (s : State) (n : Nat) (v : Seq) : (s.setSeq n v).handledAt = s.handledAt := rfl
@[simp] theorem State.setSeq_calQueue (s : State) (n : Nat) (v : Seq) : (s.setSeq n v).calQueue = s.calQueue := rfl
@[simp] theorem State.setSeq_oven (s : State) (n : Nat) (v : Seq) : (s.setSeq n v).oven = s.oven := rfl
@[simp] theorem State.setSeq_masterOven (s : State) (n : Nat) (v : Seq) : (s.setSeq n v).masterOven = s.masterOven := rfl
@[simp] theorem State.setSeq_joints (s : State) (n : Nat) (v : Seq) : (s.setSeq n v).joints = s.joints := rfl
@[simp] theorem State.setSeq_gsl (s : State) (n : Nat) (v : Seq) : (s.setSeq n v).gsl = s.gsl := rfl
@[simp] theorem State.setSeq_gslIn (s : State) (n : Nat) (v : Seq) : (s.setSeq n v).gslIn = s.gslIn := rfl
@[simp] theorem State.setSeq_peers (s : State) (n : Nat) (v : Seq) : (s.setSeq n v).peers = s.peers := rfl
@[simp] theorem State.setSeq_electAt (s : State) (n : Nat) (v : Seq) : (s.setSeq n v).electAt = s.electAt := rfl
@[simp] theorem State.setSeq_members (s : State) (n : Nat) (v : Seq) : (s.setSeq n v).members = s.members := rfl
@[simp] theorem State.setSeq_linksDown (s : State) (n : Nat) (v : Seq) : (s.setSeq n v).linksDown = s.linksDown := rfl
@[simp] theorem State.setSeq_timeHalf (s : State) (n : Nat) (v : Seq) : (s.setSeq n v).timeHalf = s.timeHalf := rfl
@[simp] theorem State.setSeq_timeNext (s : State) (n : Nat) (v : Seq) : (s.setSeq n v).timeNext = s.timeNext := rfl
@[simp] theorem State.setSeq_timeSet (s : State) (n : Nat) (v : Seq) : (s.setSeq n v).timeSet = s.timeSet := rfl
@[simp] theorem State.setSeq_servo (s : State) (n : Nat) (v : Seq) : (s.setSeq n v).servo = s.servo := rfl
@[simp] theorem State.setSeq_ptpRate (s : State) (n : Nat) (v : Seq) : (s.setSeq n v).ptpRate = s.ptpRate := rfl
@[simp] theorem State.setSeq_idConflict (s : State) (n : Nat) (v : Seq) : (s.setSeq n v).idConflict = s.idConflict := rfl
@[simp] theorem State.setSeq_hallCfg (s : State) (n : Nat) (v : Seq) : (s.setSeq n v).hallCfg = s.hallCfg := rfl
@[simp] theorem State.setSeq_crierDrv (s : State) (n : Nat) (v : Seq) : (s.setSeq n v).crierDrv = s.crierDrv := rfl
@[simp] theorem State.setSeq_crierWait (s : State) (n : Nat) (v : Seq) : (s.setSeq n v).crierWait = s.crierWait := rfl
@[simp] theorem State.setSeq_pulses (s : State) (n : Nat) (v : Seq) : (s.setSeq n v).pulses = s.pulses := rfl
@[simp] theorem State.setSeq_crierCfg (s : State) (n : Nat) (v : Seq) : (s.setSeq n v).crierCfg = s.crierCfg := rfl
@[simp] theorem State.setSeq_crierNow (s : State) (n : Nat) (v : Seq) : (s.setSeq n v).crierNow = s.crierNow := rfl
@[simp] theorem State.setSeq_postponed (s : State) (n : Nat) (v : Seq) : (s.setSeq n v).postponed = s.postponed := rfl
@[simp] theorem State.setSeq_awn (s : State) (n : Nat) (v : Seq) : (s.setSeq n v).awn = s.awn := rfl
@[simp] theorem State.setSeq_items (s : State) (n : Nat) (v : Seq) : (s.setSeq n v).items = s.items := rfl
@[simp] theorem State.setSeq_graphs (s : State) (n : Nat) (v : Seq) : (s.setSeq n v).graphs = s.graphs := rfl
@[simp] theorem State.setSeq_schedNo (s : State) (n : Nat) (v : Seq) : (s.setSeq n v).schedNo = s.schedNo := rfl
@[simp] theorem State.setSeq_callRet (s : State) (n : Nat) (v : Seq) : (s.setSeq n v).callRet = s.callRet := rfl
@[simp] theorem State.setSeq_l1 (s : State) (n : Nat) (v : Seq) : (s.setSeq n v).l1 = s.l1 := rfl
@[simp] theorem State.setSeq_cohWait (s : State) (n : Nat) (v : Seq) : (s.setSeq n v).cohWait = s.cohWait := rfl
@[simp] theorem State.setSeq_recalls (s : State) (n : Nat) (v : Seq) : (s.setSeq n v).recalls = s.recalls := rfl
@[simp] theorem State.setSeq_losers (s : State) (n : Nat) (v : Seq) : (s.setSeq n v).losers = s.losers := rfl
@[simp] theorem State.setSeq_regions (s : State) (n : Nat) (v : Seq) : (s.setSeq n v).regions = s.regions := rfl
@[simp] theorem State.setSeq_arbs (s : State) (n : Nat) (v : Seq) : (s.setSeq n v).arbs = s.arbs := rfl
@[simp] theorem State.setSeq_debt (s : State) (n : Nat) (v : Seq) : (s.setSeq n v).debt = s.debt := rfl
@[simp] theorem State.setSeq_sref (s : State) (n : Nat) (v : Seq) : (s.setSeq n v).sref = s.sref := rfl
@[simp] theorem State.setSeq_srefAt (s : State) (n : Nat) (v : Seq) : (s.setSeq n v).srefAt = s.srefAt := rfl
@[simp] theorem State.setSeq_openRows (s : State) (n : Nat) (v : Seq) : (s.setSeq n v).openRows = s.openRows := rfl
@[simp] theorem State.setSeq_adcs (s : State) (n : Nat) (v : Seq) : (s.setSeq n v).adcs = s.adcs := rfl
@[simp] theorem State.setSeq_results (s : State) (n : Nat) (v : Seq) : (s.setSeq n v).results = s.results := rfl
@[simp] theorem State.setSeq_safetyDue (s : State) (n : Nat) (v : Seq) : (s.setSeq n v).safetyDue = s.safetyDue := rfl
@[simp] theorem State.setSeq_safetyRes (s : State) (n : Nat) (v : Seq) : (s.setSeq n v).safetyRes = s.safetyRes := rfl
@[simp] theorem State.setSeq_calRun (s : State) (n : Nat) (v : Seq) : (s.setSeq n v).calRun = s.calRun := rfl
@[simp] theorem State.setSeq_energy (s : State) (n : Nat) (v : Seq) : (s.setSeq n v).energy = s.energy := rfl
@[simp] theorem State.setSeq_p4Req (s : State) (n : Nat) (v : Seq) : (s.setSeq n v).p4Req = s.p4Req := rfl
@[simp] theorem State.setSeq_p4Event (s : State) (n : Nat) (v : Seq) : (s.setSeq n v).p4Event = s.p4Event := rfl
@[simp] theorem State.setSeq_inReset (s : State) (n : Nat) (v : Seq) : (s.setSeq n v).inReset = s.inReset := rfl
@[simp] theorem State.setSeq_perstLow (s : State) (n : Nat) (v : Seq) : (s.setSeq n v).perstLow = s.perstLow := rfl
@[simp] theorem State.setSeq_resetNLow (s : State) (n : Nat) (v : Seq) : (s.setSeq n v).resetNLow = s.resetNLow := rfl
@[simp] theorem State.setSeq_powerGood (s : State) (n : Nat) (v : Seq) : (s.setSeq n v).powerGood = s.powerGood := rfl
@[simp] theorem State.setSeq_pushing (s : State) (n : Nat) (v : Seq) : (s.setSeq n v).pushing = s.pushing := rfl
@[simp] theorem State.setSeq_wdtMs (s : State) (n : Nat) (v : Seq) : (s.setSeq n v).wdtMs = s.wdtMs := rfl
@[simp] theorem State.setSeq_wdtFrom (s : State) (n : Nat) (v : Seq) : (s.setSeq n v).wdtFrom = s.wdtFrom := rfl
@[simp] theorem State.setSeq_ledgTorn (s : State) (n : Nat) (v : Seq) : (s.setSeq n v).ledgTorn = s.ledgTorn := rfl
@[simp] theorem State.setSeq_bar4Log2 (s : State) (n : Nat) (v : Seq) : (s.setSeq n v).bar4Log2 = s.bar4Log2 := rfl
@[simp] theorem State.setSeq_pending (s : State) (n : Nat) (v : Seq) : (s.setSeq n v).pending = s.pending := rfl

@[simp] theorem State.setChan_regs (s : State) (c : Nat) (v : Chan) : (s.setChan c v).regs = s.regs := rfl
@[simp] theorem State.setChan_mem (s : State) (c : Nat) (v : Chan) : (s.setChan c v).mem = s.mem := rfl
@[simp] theorem State.setChan_poison (s : State) (c : Nat) (v : Chan) : (s.setChan c v).poison = s.poison := rfl
@[simp] theorem State.setChan_fr (s : State) (c : Nat) (v : Chan) : (s.setChan c v).fr = s.fr := rfl
@[simp] theorem State.setChan_frRuns (s : State) (c : Nat) (v : Chan) : (s.setChan c v).frRuns = s.frRuns := rfl
@[simp] theorem State.setChan_free (s : State) (c : Nat) (v : Chan) : (s.setChan c v).free = s.free := rfl
@[simp] theorem State.setChan_booted (s : State) (c : Nat) (v : Chan) : (s.setChan c v).booted = s.booted := rfl
@[simp] theorem State.setChan_rdata (s : State) (c : Nat) (v : Chan) : (s.setChan c v).rdata = s.rdata := rfl
@[simp] theorem State.setChan_latch (s : State) (c : Nat) (v : Chan) : (s.setChan c v).latch = s.latch := rfl
@[simp] theorem State.setChan_rstat (s : State) (c : Nat) (v : Chan) : (s.setChan c v).rstat = s.rstat := rfl
@[simp] theorem State.setChan_funcs (s : State) (c : Nat) (v : Chan) : (s.setChan c v).funcs = s.funcs := rfl
@[simp] theorem State.setChan_numVfs (s : State) (c : Nat) (v : Chan) : (s.setChan c v).numVfs = s.numVfs := rfl
@[simp] theorem State.setChan_ari (s : State) (c : Nat) (v : Chan) : (s.setChan c v).ari = s.ari := rfl
@[simp] theorem State.setChan_vfEnable (s : State) (c : Nat) (v : Chan) : (s.setChan c v).vfEnable = s.vfEnable := rfl
@[simp] theorem State.setChan_stalls (s : State) (c : Nat) (v : Chan) : (s.setChan c v).stalls = s.stalls := rfl
@[simp] theorem State.setChan_works (s : State) (c : Nat) (v : Chan) : (s.setChan c v).works = s.works := rfl
@[simp] theorem State.setChan_nextWork (s : State) (c : Nat) (v : Chan) : (s.setChan c v).nextWork = s.nextWork := rfl
@[simp] theorem State.setChan_devAllowance (s : State) (c : Nat) (v : Chan) : (s.setChan c v).devAllowance = s.devAllowance := rfl
@[simp] theorem State.setChan_receipts (s : State) (c : Nat) (v : Chan) : (s.setChan c v).receipts = s.receipts := rfl
@[simp] theorem State.setChan_donePaces (s : State) (c : Nat) (v : Chan) : (s.setChan c v).donePaces = s.donePaces := rfl
@[simp] theorem State.setChan_tx (s : State) (c : Nat) (v : Chan) : (s.setChan c v).tx = s.tx := rfl
@[simp] theorem State.setChan_triggers (s : State) (c : Nat) (v : Chan) : (s.setChan c v).triggers = s.triggers := rfl
@[simp] theorem State.setChan_raiseNo (s : State) (c : Nat) (v : Chan) : (s.setChan c v).raiseNo = s.raiseNo := rfl
@[simp] theorem State.setChan_events (s : State) (c : Nat) (v : Chan) : (s.setChan c v).events = s.events := rfl
@[simp] theorem State.setChan_arrivals (s : State) (c : Nat) (v : Chan) : (s.setChan c v).arrivals = s.arrivals := rfl
@[simp] theorem State.setChan_lastArrival (s : State) (c : Nat) (v : Chan) : (s.setChan c v).lastArrival = s.lastArrival := rfl
@[simp] theorem State.setChan_detections (s : State) (c : Nat) (v : Chan) : (s.setChan c v).detections = s.detections := rfl
@[simp] theorem State.setChan_ledgerEvents (s : State) (c : Nat) (v : Chan) : (s.setChan c v).ledgerEvents = s.ledgerEvents := rfl
@[simp] theorem State.setChan_ports (s : State) (c : Nat) (v : Chan) : (s.setChan c v).ports = s.ports := rfl
@[simp] theorem State.setChan_segs (s : State) (c : Nat) (v : Chan) : (s.setChan c v).segs = s.segs := rfl
@[simp] theorem State.setChan_seqs (s : State) (c : Nat) (v : Chan) : (s.setChan c v).seqs = s.seqs := rfl
@[simp] theorem State.setChan_tsPending (s : State) (c : Nat) (v : Chan) : (s.setChan c v).tsPending = s.tsPending := rfl
@[simp] theorem State.setChan_frames0 (s : State) (c : Nat) (v : Chan) : (s.setChan c v).frames0 = s.frames0 := rfl
@[simp] theorem State.setChan_frames1 (s : State) (c : Nat) (v : Chan) : (s.setChan c v).frames1 = s.frames1 := rfl
@[simp] theorem State.setChan_nextEntry (s : State) (c : Nat) (v : Chan) : (s.setChan c v).nextEntry = s.nextEntry := rfl
@[simp] theorem State.setChan_ethOut (s : State) (c : Nat) (v : Chan) : (s.setChan c v).ethOut = s.ethOut := rfl
@[simp] theorem State.setChan_chans (s : State) (c : Nat) (v : Chan) : (s.setChan c v).chans = Store.put s.chans c v := rfl
@[simp] theorem State.setChan_edges (s : State) (c : Nat) (v : Chan) : (s.setChan c v).edges = s.edges := rfl
@[simp] theorem State.setChan_lanes (s : State) (c : Nat) (v : Chan) : (s.setChan c v).lanes = s.lanes := rfl
@[simp] theorem State.setChan_patch (s : State) (c : Nat) (v : Chan) : (s.setChan c v).patch = s.patch := rfl
@[simp] theorem State.setChan_crier (s : State) (c : Nat) (v : Chan) : (s.setChan c v).crier = s.crier := rfl
@[simp] theorem State.setChan_factApplied (s : State) (c : Nat) (v : Chan) : (s.setChan c v).factApplied = s.factApplied := rfl
@[simp] theorem State.setChan_ledgRecs (s : State) (c : Nat) (v : Chan) : (s.setChan c v).ledgRecs = s.ledgRecs := rfl
@[simp] theorem State.setChan_ledgQueue (s : State) (c : Nat) (v : Chan) : (s.setChan c v).ledgQueue = s.ledgQueue := rfl
@[simp] theorem State.setChan_ledgWrite (s : State) (c : Nat) (v : Chan) : (s.setChan c v).ledgWrite = s.ledgWrite := rfl
@[simp] theorem State.setChan_laneTxOff (s : State) (c : Nat) (v : Chan) : (s.setChan c v).laneTxOff = s.laneTxOff := rfl
@[simp] theorem State.setChan_safeEntry (s : State) (c : Nat) (v : Chan) : (s.setChan c v).safeEntry = s.safeEntry := rfl
@[simp] theorem State.setChan_holdEnd (s : State) (c : Nat) (v : Chan) : (s.setChan c v).holdEnd = s.holdEnd := rfl
@[simp] theorem State.setChan_warnSince (s : State) (c : Nat) (v : Chan) : (s.setChan c v).warnSince = s.warnSince := rfl
@[simp] theorem State.setChan_resets (s : State) (c : Nat) (v : Chan) : (s.setChan c v).resets = s.resets := rfl
@[simp] theorem State.setChan_watches (s : State) (c : Nat) (v : Chan) : (s.setChan c v).watches = s.watches := rfl
@[simp] theorem State.setChan_conc (s : State) (c : Nat) (v : Chan) : (s.setChan c v).conc = s.conc := rfl
@[simp] theorem State.setChan_gates (s : State) (c : Nat) (v : Chan) : (s.setChan c v).gates = s.gates := rfl
@[simp] theorem State.setChan_srcEdges (s : State) (c : Nat) (v : Chan) : (s.setChan c v).srcEdges = s.srcEdges := rfl
@[simp] theorem State.setChan_turn (s : State) (c : Nat) (v : Chan) : (s.setChan c v).turn = s.turn := rfl
@[simp] theorem State.setChan_ssms (s : State) (c : Nat) (v : Chan) : (s.setChan c v).ssms = s.ssms := rfl
@[simp] theorem State.setChan_driftRows (s : State) (c : Nat) (v : Chan) : (s.setChan c v).driftRows = s.driftRows := rfl
@[simp] theorem State.setChan_handledAt (s : State) (c : Nat) (v : Chan) : (s.setChan c v).handledAt = s.handledAt := rfl
@[simp] theorem State.setChan_calQueue (s : State) (c : Nat) (v : Chan) : (s.setChan c v).calQueue = s.calQueue := rfl
@[simp] theorem State.setChan_oven (s : State) (c : Nat) (v : Chan) : (s.setChan c v).oven = s.oven := rfl
@[simp] theorem State.setChan_masterOven (s : State) (c : Nat) (v : Chan) : (s.setChan c v).masterOven = s.masterOven := rfl
@[simp] theorem State.setChan_joints (s : State) (c : Nat) (v : Chan) : (s.setChan c v).joints = s.joints := rfl
@[simp] theorem State.setChan_gsl (s : State) (c : Nat) (v : Chan) : (s.setChan c v).gsl = s.gsl := rfl
@[simp] theorem State.setChan_gslIn (s : State) (c : Nat) (v : Chan) : (s.setChan c v).gslIn = s.gslIn := rfl
@[simp] theorem State.setChan_peers (s : State) (c : Nat) (v : Chan) : (s.setChan c v).peers = s.peers := rfl
@[simp] theorem State.setChan_electAt (s : State) (c : Nat) (v : Chan) : (s.setChan c v).electAt = s.electAt := rfl
@[simp] theorem State.setChan_members (s : State) (c : Nat) (v : Chan) : (s.setChan c v).members = s.members := rfl
@[simp] theorem State.setChan_linksDown (s : State) (c : Nat) (v : Chan) : (s.setChan c v).linksDown = s.linksDown := rfl
@[simp] theorem State.setChan_timeHalf (s : State) (c : Nat) (v : Chan) : (s.setChan c v).timeHalf = s.timeHalf := rfl
@[simp] theorem State.setChan_timeNext (s : State) (c : Nat) (v : Chan) : (s.setChan c v).timeNext = s.timeNext := rfl
@[simp] theorem State.setChan_timeSet (s : State) (c : Nat) (v : Chan) : (s.setChan c v).timeSet = s.timeSet := rfl
@[simp] theorem State.setChan_servo (s : State) (c : Nat) (v : Chan) : (s.setChan c v).servo = s.servo := rfl
@[simp] theorem State.setChan_ptpRate (s : State) (c : Nat) (v : Chan) : (s.setChan c v).ptpRate = s.ptpRate := rfl
@[simp] theorem State.setChan_idConflict (s : State) (c : Nat) (v : Chan) : (s.setChan c v).idConflict = s.idConflict := rfl
@[simp] theorem State.setChan_hallCfg (s : State) (c : Nat) (v : Chan) : (s.setChan c v).hallCfg = s.hallCfg := rfl
@[simp] theorem State.setChan_crierDrv (s : State) (c : Nat) (v : Chan) : (s.setChan c v).crierDrv = s.crierDrv := rfl
@[simp] theorem State.setChan_crierWait (s : State) (c : Nat) (v : Chan) : (s.setChan c v).crierWait = s.crierWait := rfl
@[simp] theorem State.setChan_pulses (s : State) (c : Nat) (v : Chan) : (s.setChan c v).pulses = s.pulses := rfl
@[simp] theorem State.setChan_crierCfg (s : State) (c : Nat) (v : Chan) : (s.setChan c v).crierCfg = s.crierCfg := rfl
@[simp] theorem State.setChan_crierNow (s : State) (c : Nat) (v : Chan) : (s.setChan c v).crierNow = s.crierNow := rfl
@[simp] theorem State.setChan_postponed (s : State) (c : Nat) (v : Chan) : (s.setChan c v).postponed = s.postponed := rfl
@[simp] theorem State.setChan_awn (s : State) (c : Nat) (v : Chan) : (s.setChan c v).awn = s.awn := rfl
@[simp] theorem State.setChan_items (s : State) (c : Nat) (v : Chan) : (s.setChan c v).items = s.items := rfl
@[simp] theorem State.setChan_graphs (s : State) (c : Nat) (v : Chan) : (s.setChan c v).graphs = s.graphs := rfl
@[simp] theorem State.setChan_schedNo (s : State) (c : Nat) (v : Chan) : (s.setChan c v).schedNo = s.schedNo := rfl
@[simp] theorem State.setChan_callRet (s : State) (c : Nat) (v : Chan) : (s.setChan c v).callRet = s.callRet := rfl
@[simp] theorem State.setChan_l1 (s : State) (c : Nat) (v : Chan) : (s.setChan c v).l1 = s.l1 := rfl
@[simp] theorem State.setChan_cohWait (s : State) (c : Nat) (v : Chan) : (s.setChan c v).cohWait = s.cohWait := rfl
@[simp] theorem State.setChan_recalls (s : State) (c : Nat) (v : Chan) : (s.setChan c v).recalls = s.recalls := rfl
@[simp] theorem State.setChan_losers (s : State) (c : Nat) (v : Chan) : (s.setChan c v).losers = s.losers := rfl
@[simp] theorem State.setChan_regions (s : State) (c : Nat) (v : Chan) : (s.setChan c v).regions = s.regions := rfl
@[simp] theorem State.setChan_arbs (s : State) (c : Nat) (v : Chan) : (s.setChan c v).arbs = s.arbs := rfl
@[simp] theorem State.setChan_debt (s : State) (c : Nat) (v : Chan) : (s.setChan c v).debt = s.debt := rfl
@[simp] theorem State.setChan_sref (s : State) (c : Nat) (v : Chan) : (s.setChan c v).sref = s.sref := rfl
@[simp] theorem State.setChan_srefAt (s : State) (c : Nat) (v : Chan) : (s.setChan c v).srefAt = s.srefAt := rfl
@[simp] theorem State.setChan_openRows (s : State) (c : Nat) (v : Chan) : (s.setChan c v).openRows = s.openRows := rfl
@[simp] theorem State.setChan_adcs (s : State) (c : Nat) (v : Chan) : (s.setChan c v).adcs = s.adcs := rfl
@[simp] theorem State.setChan_results (s : State) (c : Nat) (v : Chan) : (s.setChan c v).results = s.results := rfl
@[simp] theorem State.setChan_safetyDue (s : State) (c : Nat) (v : Chan) : (s.setChan c v).safetyDue = s.safetyDue := rfl
@[simp] theorem State.setChan_safetyRes (s : State) (c : Nat) (v : Chan) : (s.setChan c v).safetyRes = s.safetyRes := rfl
@[simp] theorem State.setChan_calRun (s : State) (c : Nat) (v : Chan) : (s.setChan c v).calRun = s.calRun := rfl
@[simp] theorem State.setChan_energy (s : State) (c : Nat) (v : Chan) : (s.setChan c v).energy = s.energy := rfl
@[simp] theorem State.setChan_p4Req (s : State) (c : Nat) (v : Chan) : (s.setChan c v).p4Req = s.p4Req := rfl
@[simp] theorem State.setChan_p4Event (s : State) (c : Nat) (v : Chan) : (s.setChan c v).p4Event = s.p4Event := rfl
@[simp] theorem State.setChan_inReset (s : State) (c : Nat) (v : Chan) : (s.setChan c v).inReset = s.inReset := rfl
@[simp] theorem State.setChan_perstLow (s : State) (c : Nat) (v : Chan) : (s.setChan c v).perstLow = s.perstLow := rfl
@[simp] theorem State.setChan_resetNLow (s : State) (c : Nat) (v : Chan) : (s.setChan c v).resetNLow = s.resetNLow := rfl
@[simp] theorem State.setChan_powerGood (s : State) (c : Nat) (v : Chan) : (s.setChan c v).powerGood = s.powerGood := rfl
@[simp] theorem State.setChan_pushing (s : State) (c : Nat) (v : Chan) : (s.setChan c v).pushing = s.pushing := rfl
@[simp] theorem State.setChan_wdtMs (s : State) (c : Nat) (v : Chan) : (s.setChan c v).wdtMs = s.wdtMs := rfl
@[simp] theorem State.setChan_wdtFrom (s : State) (c : Nat) (v : Chan) : (s.setChan c v).wdtFrom = s.wdtFrom := rfl
@[simp] theorem State.setChan_ledgTorn (s : State) (c : Nat) (v : Chan) : (s.setChan c v).ledgTorn = s.ledgTorn := rfl
@[simp] theorem State.setChan_bar4Log2 (s : State) (c : Nat) (v : Chan) : (s.setChan c v).bar4Log2 = s.bar4Log2 := rfl
@[simp] theorem State.setChan_pending (s : State) (c : Nat) (v : Chan) : (s.setChan c v).pending = s.pending := rfl

@[simp] theorem State.setAdc_regs (s : State) (c : Nat) (v : Adc) : (s.setAdc c v).regs = s.regs := rfl
@[simp] theorem State.setAdc_mem (s : State) (c : Nat) (v : Adc) : (s.setAdc c v).mem = s.mem := rfl
@[simp] theorem State.setAdc_poison (s : State) (c : Nat) (v : Adc) : (s.setAdc c v).poison = s.poison := rfl
@[simp] theorem State.setAdc_fr (s : State) (c : Nat) (v : Adc) : (s.setAdc c v).fr = s.fr := rfl
@[simp] theorem State.setAdc_frRuns (s : State) (c : Nat) (v : Adc) : (s.setAdc c v).frRuns = s.frRuns := rfl
@[simp] theorem State.setAdc_free (s : State) (c : Nat) (v : Adc) : (s.setAdc c v).free = s.free := rfl
@[simp] theorem State.setAdc_booted (s : State) (c : Nat) (v : Adc) : (s.setAdc c v).booted = s.booted := rfl
@[simp] theorem State.setAdc_rdata (s : State) (c : Nat) (v : Adc) : (s.setAdc c v).rdata = s.rdata := rfl
@[simp] theorem State.setAdc_latch (s : State) (c : Nat) (v : Adc) : (s.setAdc c v).latch = s.latch := rfl
@[simp] theorem State.setAdc_rstat (s : State) (c : Nat) (v : Adc) : (s.setAdc c v).rstat = s.rstat := rfl
@[simp] theorem State.setAdc_funcs (s : State) (c : Nat) (v : Adc) : (s.setAdc c v).funcs = s.funcs := rfl
@[simp] theorem State.setAdc_numVfs (s : State) (c : Nat) (v : Adc) : (s.setAdc c v).numVfs = s.numVfs := rfl
@[simp] theorem State.setAdc_ari (s : State) (c : Nat) (v : Adc) : (s.setAdc c v).ari = s.ari := rfl
@[simp] theorem State.setAdc_vfEnable (s : State) (c : Nat) (v : Adc) : (s.setAdc c v).vfEnable = s.vfEnable := rfl
@[simp] theorem State.setAdc_stalls (s : State) (c : Nat) (v : Adc) : (s.setAdc c v).stalls = s.stalls := rfl
@[simp] theorem State.setAdc_works (s : State) (c : Nat) (v : Adc) : (s.setAdc c v).works = s.works := rfl
@[simp] theorem State.setAdc_nextWork (s : State) (c : Nat) (v : Adc) : (s.setAdc c v).nextWork = s.nextWork := rfl
@[simp] theorem State.setAdc_devAllowance (s : State) (c : Nat) (v : Adc) : (s.setAdc c v).devAllowance = s.devAllowance := rfl
@[simp] theorem State.setAdc_receipts (s : State) (c : Nat) (v : Adc) : (s.setAdc c v).receipts = s.receipts := rfl
@[simp] theorem State.setAdc_donePaces (s : State) (c : Nat) (v : Adc) : (s.setAdc c v).donePaces = s.donePaces := rfl
@[simp] theorem State.setAdc_tx (s : State) (c : Nat) (v : Adc) : (s.setAdc c v).tx = s.tx := rfl
@[simp] theorem State.setAdc_triggers (s : State) (c : Nat) (v : Adc) : (s.setAdc c v).triggers = s.triggers := rfl
@[simp] theorem State.setAdc_raiseNo (s : State) (c : Nat) (v : Adc) : (s.setAdc c v).raiseNo = s.raiseNo := rfl
@[simp] theorem State.setAdc_events (s : State) (c : Nat) (v : Adc) : (s.setAdc c v).events = s.events := rfl
@[simp] theorem State.setAdc_arrivals (s : State) (c : Nat) (v : Adc) : (s.setAdc c v).arrivals = s.arrivals := rfl
@[simp] theorem State.setAdc_lastArrival (s : State) (c : Nat) (v : Adc) : (s.setAdc c v).lastArrival = s.lastArrival := rfl
@[simp] theorem State.setAdc_detections (s : State) (c : Nat) (v : Adc) : (s.setAdc c v).detections = s.detections := rfl
@[simp] theorem State.setAdc_ledgerEvents (s : State) (c : Nat) (v : Adc) : (s.setAdc c v).ledgerEvents = s.ledgerEvents := rfl
@[simp] theorem State.setAdc_ports (s : State) (c : Nat) (v : Adc) : (s.setAdc c v).ports = s.ports := rfl
@[simp] theorem State.setAdc_segs (s : State) (c : Nat) (v : Adc) : (s.setAdc c v).segs = s.segs := rfl
@[simp] theorem State.setAdc_seqs (s : State) (c : Nat) (v : Adc) : (s.setAdc c v).seqs = s.seqs := rfl
@[simp] theorem State.setAdc_tsPending (s : State) (c : Nat) (v : Adc) : (s.setAdc c v).tsPending = s.tsPending := rfl
@[simp] theorem State.setAdc_frames0 (s : State) (c : Nat) (v : Adc) : (s.setAdc c v).frames0 = s.frames0 := rfl
@[simp] theorem State.setAdc_frames1 (s : State) (c : Nat) (v : Adc) : (s.setAdc c v).frames1 = s.frames1 := rfl
@[simp] theorem State.setAdc_nextEntry (s : State) (c : Nat) (v : Adc) : (s.setAdc c v).nextEntry = s.nextEntry := rfl
@[simp] theorem State.setAdc_ethOut (s : State) (c : Nat) (v : Adc) : (s.setAdc c v).ethOut = s.ethOut := rfl
@[simp] theorem State.setAdc_chans (s : State) (c : Nat) (v : Adc) : (s.setAdc c v).chans = s.chans := rfl
@[simp] theorem State.setAdc_edges (s : State) (c : Nat) (v : Adc) : (s.setAdc c v).edges = s.edges := rfl
@[simp] theorem State.setAdc_lanes (s : State) (c : Nat) (v : Adc) : (s.setAdc c v).lanes = s.lanes := rfl
@[simp] theorem State.setAdc_patch (s : State) (c : Nat) (v : Adc) : (s.setAdc c v).patch = s.patch := rfl
@[simp] theorem State.setAdc_crier (s : State) (c : Nat) (v : Adc) : (s.setAdc c v).crier = s.crier := rfl
@[simp] theorem State.setAdc_factApplied (s : State) (c : Nat) (v : Adc) : (s.setAdc c v).factApplied = s.factApplied := rfl
@[simp] theorem State.setAdc_ledgRecs (s : State) (c : Nat) (v : Adc) : (s.setAdc c v).ledgRecs = s.ledgRecs := rfl
@[simp] theorem State.setAdc_ledgQueue (s : State) (c : Nat) (v : Adc) : (s.setAdc c v).ledgQueue = s.ledgQueue := rfl
@[simp] theorem State.setAdc_ledgWrite (s : State) (c : Nat) (v : Adc) : (s.setAdc c v).ledgWrite = s.ledgWrite := rfl
@[simp] theorem State.setAdc_laneTxOff (s : State) (c : Nat) (v : Adc) : (s.setAdc c v).laneTxOff = s.laneTxOff := rfl
@[simp] theorem State.setAdc_safeEntry (s : State) (c : Nat) (v : Adc) : (s.setAdc c v).safeEntry = s.safeEntry := rfl
@[simp] theorem State.setAdc_holdEnd (s : State) (c : Nat) (v : Adc) : (s.setAdc c v).holdEnd = s.holdEnd := rfl
@[simp] theorem State.setAdc_warnSince (s : State) (c : Nat) (v : Adc) : (s.setAdc c v).warnSince = s.warnSince := rfl
@[simp] theorem State.setAdc_resets (s : State) (c : Nat) (v : Adc) : (s.setAdc c v).resets = s.resets := rfl
@[simp] theorem State.setAdc_watches (s : State) (c : Nat) (v : Adc) : (s.setAdc c v).watches = s.watches := rfl
@[simp] theorem State.setAdc_conc (s : State) (c : Nat) (v : Adc) : (s.setAdc c v).conc = s.conc := rfl
@[simp] theorem State.setAdc_gates (s : State) (c : Nat) (v : Adc) : (s.setAdc c v).gates = s.gates := rfl
@[simp] theorem State.setAdc_srcEdges (s : State) (c : Nat) (v : Adc) : (s.setAdc c v).srcEdges = s.srcEdges := rfl
@[simp] theorem State.setAdc_turn (s : State) (c : Nat) (v : Adc) : (s.setAdc c v).turn = s.turn := rfl
@[simp] theorem State.setAdc_ssms (s : State) (c : Nat) (v : Adc) : (s.setAdc c v).ssms = s.ssms := rfl
@[simp] theorem State.setAdc_driftRows (s : State) (c : Nat) (v : Adc) : (s.setAdc c v).driftRows = s.driftRows := rfl
@[simp] theorem State.setAdc_handledAt (s : State) (c : Nat) (v : Adc) : (s.setAdc c v).handledAt = s.handledAt := rfl
@[simp] theorem State.setAdc_calQueue (s : State) (c : Nat) (v : Adc) : (s.setAdc c v).calQueue = s.calQueue := rfl
@[simp] theorem State.setAdc_oven (s : State) (c : Nat) (v : Adc) : (s.setAdc c v).oven = s.oven := rfl
@[simp] theorem State.setAdc_masterOven (s : State) (c : Nat) (v : Adc) : (s.setAdc c v).masterOven = s.masterOven := rfl
@[simp] theorem State.setAdc_joints (s : State) (c : Nat) (v : Adc) : (s.setAdc c v).joints = s.joints := rfl
@[simp] theorem State.setAdc_gsl (s : State) (c : Nat) (v : Adc) : (s.setAdc c v).gsl = s.gsl := rfl
@[simp] theorem State.setAdc_gslIn (s : State) (c : Nat) (v : Adc) : (s.setAdc c v).gslIn = s.gslIn := rfl
@[simp] theorem State.setAdc_peers (s : State) (c : Nat) (v : Adc) : (s.setAdc c v).peers = s.peers := rfl
@[simp] theorem State.setAdc_electAt (s : State) (c : Nat) (v : Adc) : (s.setAdc c v).electAt = s.electAt := rfl
@[simp] theorem State.setAdc_members (s : State) (c : Nat) (v : Adc) : (s.setAdc c v).members = s.members := rfl
@[simp] theorem State.setAdc_linksDown (s : State) (c : Nat) (v : Adc) : (s.setAdc c v).linksDown = s.linksDown := rfl
@[simp] theorem State.setAdc_timeHalf (s : State) (c : Nat) (v : Adc) : (s.setAdc c v).timeHalf = s.timeHalf := rfl
@[simp] theorem State.setAdc_timeNext (s : State) (c : Nat) (v : Adc) : (s.setAdc c v).timeNext = s.timeNext := rfl
@[simp] theorem State.setAdc_timeSet (s : State) (c : Nat) (v : Adc) : (s.setAdc c v).timeSet = s.timeSet := rfl
@[simp] theorem State.setAdc_servo (s : State) (c : Nat) (v : Adc) : (s.setAdc c v).servo = s.servo := rfl
@[simp] theorem State.setAdc_ptpRate (s : State) (c : Nat) (v : Adc) : (s.setAdc c v).ptpRate = s.ptpRate := rfl
@[simp] theorem State.setAdc_idConflict (s : State) (c : Nat) (v : Adc) : (s.setAdc c v).idConflict = s.idConflict := rfl
@[simp] theorem State.setAdc_hallCfg (s : State) (c : Nat) (v : Adc) : (s.setAdc c v).hallCfg = s.hallCfg := rfl
@[simp] theorem State.setAdc_crierDrv (s : State) (c : Nat) (v : Adc) : (s.setAdc c v).crierDrv = s.crierDrv := rfl
@[simp] theorem State.setAdc_crierWait (s : State) (c : Nat) (v : Adc) : (s.setAdc c v).crierWait = s.crierWait := rfl
@[simp] theorem State.setAdc_pulses (s : State) (c : Nat) (v : Adc) : (s.setAdc c v).pulses = s.pulses := rfl
@[simp] theorem State.setAdc_crierCfg (s : State) (c : Nat) (v : Adc) : (s.setAdc c v).crierCfg = s.crierCfg := rfl
@[simp] theorem State.setAdc_crierNow (s : State) (c : Nat) (v : Adc) : (s.setAdc c v).crierNow = s.crierNow := rfl
@[simp] theorem State.setAdc_postponed (s : State) (c : Nat) (v : Adc) : (s.setAdc c v).postponed = s.postponed := rfl
@[simp] theorem State.setAdc_awn (s : State) (c : Nat) (v : Adc) : (s.setAdc c v).awn = s.awn := rfl
@[simp] theorem State.setAdc_items (s : State) (c : Nat) (v : Adc) : (s.setAdc c v).items = s.items := rfl
@[simp] theorem State.setAdc_graphs (s : State) (c : Nat) (v : Adc) : (s.setAdc c v).graphs = s.graphs := rfl
@[simp] theorem State.setAdc_schedNo (s : State) (c : Nat) (v : Adc) : (s.setAdc c v).schedNo = s.schedNo := rfl
@[simp] theorem State.setAdc_callRet (s : State) (c : Nat) (v : Adc) : (s.setAdc c v).callRet = s.callRet := rfl
@[simp] theorem State.setAdc_l1 (s : State) (c : Nat) (v : Adc) : (s.setAdc c v).l1 = s.l1 := rfl
@[simp] theorem State.setAdc_cohWait (s : State) (c : Nat) (v : Adc) : (s.setAdc c v).cohWait = s.cohWait := rfl
@[simp] theorem State.setAdc_recalls (s : State) (c : Nat) (v : Adc) : (s.setAdc c v).recalls = s.recalls := rfl
@[simp] theorem State.setAdc_losers (s : State) (c : Nat) (v : Adc) : (s.setAdc c v).losers = s.losers := rfl
@[simp] theorem State.setAdc_regions (s : State) (c : Nat) (v : Adc) : (s.setAdc c v).regions = s.regions := rfl
@[simp] theorem State.setAdc_arbs (s : State) (c : Nat) (v : Adc) : (s.setAdc c v).arbs = s.arbs := rfl
@[simp] theorem State.setAdc_debt (s : State) (c : Nat) (v : Adc) : (s.setAdc c v).debt = s.debt := rfl
@[simp] theorem State.setAdc_sref (s : State) (c : Nat) (v : Adc) : (s.setAdc c v).sref = s.sref := rfl
@[simp] theorem State.setAdc_srefAt (s : State) (c : Nat) (v : Adc) : (s.setAdc c v).srefAt = s.srefAt := rfl
@[simp] theorem State.setAdc_openRows (s : State) (c : Nat) (v : Adc) : (s.setAdc c v).openRows = s.openRows := rfl
@[simp] theorem State.setAdc_adcs (s : State) (c : Nat) (v : Adc) : (s.setAdc c v).adcs = Store.put s.adcs c v := rfl
@[simp] theorem State.setAdc_results (s : State) (c : Nat) (v : Adc) : (s.setAdc c v).results = s.results := rfl
@[simp] theorem State.setAdc_safetyDue (s : State) (c : Nat) (v : Adc) : (s.setAdc c v).safetyDue = s.safetyDue := rfl
@[simp] theorem State.setAdc_safetyRes (s : State) (c : Nat) (v : Adc) : (s.setAdc c v).safetyRes = s.safetyRes := rfl
@[simp] theorem State.setAdc_calRun (s : State) (c : Nat) (v : Adc) : (s.setAdc c v).calRun = s.calRun := rfl
@[simp] theorem State.setAdc_energy (s : State) (c : Nat) (v : Adc) : (s.setAdc c v).energy = s.energy := rfl
@[simp] theorem State.setAdc_p4Req (s : State) (c : Nat) (v : Adc) : (s.setAdc c v).p4Req = s.p4Req := rfl
@[simp] theorem State.setAdc_p4Event (s : State) (c : Nat) (v : Adc) : (s.setAdc c v).p4Event = s.p4Event := rfl
@[simp] theorem State.setAdc_inReset (s : State) (c : Nat) (v : Adc) : (s.setAdc c v).inReset = s.inReset := rfl
@[simp] theorem State.setAdc_perstLow (s : State) (c : Nat) (v : Adc) : (s.setAdc c v).perstLow = s.perstLow := rfl
@[simp] theorem State.setAdc_resetNLow (s : State) (c : Nat) (v : Adc) : (s.setAdc c v).resetNLow = s.resetNLow := rfl
@[simp] theorem State.setAdc_powerGood (s : State) (c : Nat) (v : Adc) : (s.setAdc c v).powerGood = s.powerGood := rfl
@[simp] theorem State.setAdc_pushing (s : State) (c : Nat) (v : Adc) : (s.setAdc c v).pushing = s.pushing := rfl
@[simp] theorem State.setAdc_wdtMs (s : State) (c : Nat) (v : Adc) : (s.setAdc c v).wdtMs = s.wdtMs := rfl
@[simp] theorem State.setAdc_wdtFrom (s : State) (c : Nat) (v : Adc) : (s.setAdc c v).wdtFrom = s.wdtFrom := rfl
@[simp] theorem State.setAdc_ledgTorn (s : State) (c : Nat) (v : Adc) : (s.setAdc c v).ledgTorn = s.ledgTorn := rfl
@[simp] theorem State.setAdc_bar4Log2 (s : State) (c : Nat) (v : Adc) : (s.setAdc c v).bar4Log2 = s.bar4Log2 := rfl
@[simp] theorem State.setAdc_pending (s : State) (c : Nat) (v : Adc) : (s.setAdc c v).pending = s.pending := rfl

@[simp] theorem State.setGslPort_regs (s : State) (p : Nat) (v : GslPort) : (s.setGslPort p v).regs = s.regs := rfl
@[simp] theorem State.setGslPort_mem (s : State) (p : Nat) (v : GslPort) : (s.setGslPort p v).mem = s.mem := rfl
@[simp] theorem State.setGslPort_poison (s : State) (p : Nat) (v : GslPort) : (s.setGslPort p v).poison = s.poison := rfl
@[simp] theorem State.setGslPort_fr (s : State) (p : Nat) (v : GslPort) : (s.setGslPort p v).fr = s.fr := rfl
@[simp] theorem State.setGslPort_frRuns (s : State) (p : Nat) (v : GslPort) : (s.setGslPort p v).frRuns = s.frRuns := rfl
@[simp] theorem State.setGslPort_free (s : State) (p : Nat) (v : GslPort) : (s.setGslPort p v).free = s.free := rfl
@[simp] theorem State.setGslPort_booted (s : State) (p : Nat) (v : GslPort) : (s.setGslPort p v).booted = s.booted := rfl
@[simp] theorem State.setGslPort_rdata (s : State) (p : Nat) (v : GslPort) : (s.setGslPort p v).rdata = s.rdata := rfl
@[simp] theorem State.setGslPort_latch (s : State) (p : Nat) (v : GslPort) : (s.setGslPort p v).latch = s.latch := rfl
@[simp] theorem State.setGslPort_rstat (s : State) (p : Nat) (v : GslPort) : (s.setGslPort p v).rstat = s.rstat := rfl
@[simp] theorem State.setGslPort_funcs (s : State) (p : Nat) (v : GslPort) : (s.setGslPort p v).funcs = s.funcs := rfl
@[simp] theorem State.setGslPort_numVfs (s : State) (p : Nat) (v : GslPort) : (s.setGslPort p v).numVfs = s.numVfs := rfl
@[simp] theorem State.setGslPort_ari (s : State) (p : Nat) (v : GslPort) : (s.setGslPort p v).ari = s.ari := rfl
@[simp] theorem State.setGslPort_vfEnable (s : State) (p : Nat) (v : GslPort) : (s.setGslPort p v).vfEnable = s.vfEnable := rfl
@[simp] theorem State.setGslPort_stalls (s : State) (p : Nat) (v : GslPort) : (s.setGslPort p v).stalls = s.stalls := rfl
@[simp] theorem State.setGslPort_works (s : State) (p : Nat) (v : GslPort) : (s.setGslPort p v).works = s.works := rfl
@[simp] theorem State.setGslPort_nextWork (s : State) (p : Nat) (v : GslPort) : (s.setGslPort p v).nextWork = s.nextWork := rfl
@[simp] theorem State.setGslPort_devAllowance (s : State) (p : Nat) (v : GslPort) : (s.setGslPort p v).devAllowance = s.devAllowance := rfl
@[simp] theorem State.setGslPort_receipts (s : State) (p : Nat) (v : GslPort) : (s.setGslPort p v).receipts = s.receipts := rfl
@[simp] theorem State.setGslPort_donePaces (s : State) (p : Nat) (v : GslPort) : (s.setGslPort p v).donePaces = s.donePaces := rfl
@[simp] theorem State.setGslPort_tx (s : State) (p : Nat) (v : GslPort) : (s.setGslPort p v).tx = s.tx := rfl
@[simp] theorem State.setGslPort_triggers (s : State) (p : Nat) (v : GslPort) : (s.setGslPort p v).triggers = s.triggers := rfl
@[simp] theorem State.setGslPort_raiseNo (s : State) (p : Nat) (v : GslPort) : (s.setGslPort p v).raiseNo = s.raiseNo := rfl
@[simp] theorem State.setGslPort_events (s : State) (p : Nat) (v : GslPort) : (s.setGslPort p v).events = s.events := rfl
@[simp] theorem State.setGslPort_arrivals (s : State) (p : Nat) (v : GslPort) : (s.setGslPort p v).arrivals = s.arrivals := rfl
@[simp] theorem State.setGslPort_lastArrival (s : State) (p : Nat) (v : GslPort) : (s.setGslPort p v).lastArrival = s.lastArrival := rfl
@[simp] theorem State.setGslPort_detections (s : State) (p : Nat) (v : GslPort) : (s.setGslPort p v).detections = s.detections := rfl
@[simp] theorem State.setGslPort_ledgerEvents (s : State) (p : Nat) (v : GslPort) : (s.setGslPort p v).ledgerEvents = s.ledgerEvents := rfl
@[simp] theorem State.setGslPort_ports (s : State) (p : Nat) (v : GslPort) : (s.setGslPort p v).ports = s.ports := rfl
@[simp] theorem State.setGslPort_segs (s : State) (p : Nat) (v : GslPort) : (s.setGslPort p v).segs = s.segs := rfl
@[simp] theorem State.setGslPort_seqs (s : State) (p : Nat) (v : GslPort) : (s.setGslPort p v).seqs = s.seqs := rfl
@[simp] theorem State.setGslPort_tsPending (s : State) (p : Nat) (v : GslPort) : (s.setGslPort p v).tsPending = s.tsPending := rfl
@[simp] theorem State.setGslPort_frames0 (s : State) (p : Nat) (v : GslPort) : (s.setGslPort p v).frames0 = s.frames0 := rfl
@[simp] theorem State.setGslPort_frames1 (s : State) (p : Nat) (v : GslPort) : (s.setGslPort p v).frames1 = s.frames1 := rfl
@[simp] theorem State.setGslPort_nextEntry (s : State) (p : Nat) (v : GslPort) : (s.setGslPort p v).nextEntry = s.nextEntry := rfl
@[simp] theorem State.setGslPort_ethOut (s : State) (p : Nat) (v : GslPort) : (s.setGslPort p v).ethOut = s.ethOut := rfl
@[simp] theorem State.setGslPort_chans (s : State) (p : Nat) (v : GslPort) : (s.setGslPort p v).chans = s.chans := rfl
@[simp] theorem State.setGslPort_edges (s : State) (p : Nat) (v : GslPort) : (s.setGslPort p v).edges = s.edges := rfl
@[simp] theorem State.setGslPort_lanes (s : State) (p : Nat) (v : GslPort) : (s.setGslPort p v).lanes = s.lanes := rfl
@[simp] theorem State.setGslPort_patch (s : State) (p : Nat) (v : GslPort) : (s.setGslPort p v).patch = s.patch := rfl
@[simp] theorem State.setGslPort_crier (s : State) (p : Nat) (v : GslPort) : (s.setGslPort p v).crier = s.crier := rfl
@[simp] theorem State.setGslPort_factApplied (s : State) (p : Nat) (v : GslPort) : (s.setGslPort p v).factApplied = s.factApplied := rfl
@[simp] theorem State.setGslPort_ledgRecs (s : State) (p : Nat) (v : GslPort) : (s.setGslPort p v).ledgRecs = s.ledgRecs := rfl
@[simp] theorem State.setGslPort_ledgQueue (s : State) (p : Nat) (v : GslPort) : (s.setGslPort p v).ledgQueue = s.ledgQueue := rfl
@[simp] theorem State.setGslPort_ledgWrite (s : State) (p : Nat) (v : GslPort) : (s.setGslPort p v).ledgWrite = s.ledgWrite := rfl
@[simp] theorem State.setGslPort_laneTxOff (s : State) (p : Nat) (v : GslPort) : (s.setGslPort p v).laneTxOff = s.laneTxOff := rfl
@[simp] theorem State.setGslPort_safeEntry (s : State) (p : Nat) (v : GslPort) : (s.setGslPort p v).safeEntry = s.safeEntry := rfl
@[simp] theorem State.setGslPort_holdEnd (s : State) (p : Nat) (v : GslPort) : (s.setGslPort p v).holdEnd = s.holdEnd := rfl
@[simp] theorem State.setGslPort_warnSince (s : State) (p : Nat) (v : GslPort) : (s.setGslPort p v).warnSince = s.warnSince := rfl
@[simp] theorem State.setGslPort_resets (s : State) (p : Nat) (v : GslPort) : (s.setGslPort p v).resets = s.resets := rfl
@[simp] theorem State.setGslPort_watches (s : State) (p : Nat) (v : GslPort) : (s.setGslPort p v).watches = s.watches := rfl
@[simp] theorem State.setGslPort_conc (s : State) (p : Nat) (v : GslPort) : (s.setGslPort p v).conc = s.conc := rfl
@[simp] theorem State.setGslPort_gates (s : State) (p : Nat) (v : GslPort) : (s.setGslPort p v).gates = s.gates := rfl
@[simp] theorem State.setGslPort_srcEdges (s : State) (p : Nat) (v : GslPort) : (s.setGslPort p v).srcEdges = s.srcEdges := rfl
@[simp] theorem State.setGslPort_turn (s : State) (p : Nat) (v : GslPort) : (s.setGslPort p v).turn = s.turn := rfl
@[simp] theorem State.setGslPort_ssms (s : State) (p : Nat) (v : GslPort) : (s.setGslPort p v).ssms = s.ssms := rfl
@[simp] theorem State.setGslPort_driftRows (s : State) (p : Nat) (v : GslPort) : (s.setGslPort p v).driftRows = s.driftRows := rfl
@[simp] theorem State.setGslPort_handledAt (s : State) (p : Nat) (v : GslPort) : (s.setGslPort p v).handledAt = s.handledAt := rfl
@[simp] theorem State.setGslPort_calQueue (s : State) (p : Nat) (v : GslPort) : (s.setGslPort p v).calQueue = s.calQueue := rfl
@[simp] theorem State.setGslPort_oven (s : State) (p : Nat) (v : GslPort) : (s.setGslPort p v).oven = s.oven := rfl
@[simp] theorem State.setGslPort_masterOven (s : State) (p : Nat) (v : GslPort) : (s.setGslPort p v).masterOven = s.masterOven := rfl
@[simp] theorem State.setGslPort_joints (s : State) (p : Nat) (v : GslPort) : (s.setGslPort p v).joints = s.joints := rfl
@[simp] theorem State.setGslPort_gsl (s : State) (p : Nat) (v : GslPort) : (s.setGslPort p v).gsl = Store.put s.gsl p v := rfl
@[simp] theorem State.setGslPort_gslIn (s : State) (p : Nat) (v : GslPort) : (s.setGslPort p v).gslIn = s.gslIn := rfl
@[simp] theorem State.setGslPort_peers (s : State) (p : Nat) (v : GslPort) : (s.setGslPort p v).peers = s.peers := rfl
@[simp] theorem State.setGslPort_electAt (s : State) (p : Nat) (v : GslPort) : (s.setGslPort p v).electAt = s.electAt := rfl
@[simp] theorem State.setGslPort_members (s : State) (p : Nat) (v : GslPort) : (s.setGslPort p v).members = s.members := rfl
@[simp] theorem State.setGslPort_linksDown (s : State) (p : Nat) (v : GslPort) : (s.setGslPort p v).linksDown = s.linksDown := rfl
@[simp] theorem State.setGslPort_timeHalf (s : State) (p : Nat) (v : GslPort) : (s.setGslPort p v).timeHalf = s.timeHalf := rfl
@[simp] theorem State.setGslPort_timeNext (s : State) (p : Nat) (v : GslPort) : (s.setGslPort p v).timeNext = s.timeNext := rfl
@[simp] theorem State.setGslPort_timeSet (s : State) (p : Nat) (v : GslPort) : (s.setGslPort p v).timeSet = s.timeSet := rfl
@[simp] theorem State.setGslPort_servo (s : State) (p : Nat) (v : GslPort) : (s.setGslPort p v).servo = s.servo := rfl
@[simp] theorem State.setGslPort_ptpRate (s : State) (p : Nat) (v : GslPort) : (s.setGslPort p v).ptpRate = s.ptpRate := rfl
@[simp] theorem State.setGslPort_idConflict (s : State) (p : Nat) (v : GslPort) : (s.setGslPort p v).idConflict = s.idConflict := rfl
@[simp] theorem State.setGslPort_hallCfg (s : State) (p : Nat) (v : GslPort) : (s.setGslPort p v).hallCfg = s.hallCfg := rfl
@[simp] theorem State.setGslPort_crierDrv (s : State) (p : Nat) (v : GslPort) : (s.setGslPort p v).crierDrv = s.crierDrv := rfl
@[simp] theorem State.setGslPort_crierWait (s : State) (p : Nat) (v : GslPort) : (s.setGslPort p v).crierWait = s.crierWait := rfl
@[simp] theorem State.setGslPort_pulses (s : State) (p : Nat) (v : GslPort) : (s.setGslPort p v).pulses = s.pulses := rfl
@[simp] theorem State.setGslPort_crierCfg (s : State) (p : Nat) (v : GslPort) : (s.setGslPort p v).crierCfg = s.crierCfg := rfl
@[simp] theorem State.setGslPort_crierNow (s : State) (p : Nat) (v : GslPort) : (s.setGslPort p v).crierNow = s.crierNow := rfl
@[simp] theorem State.setGslPort_postponed (s : State) (p : Nat) (v : GslPort) : (s.setGslPort p v).postponed = s.postponed := rfl
@[simp] theorem State.setGslPort_awn (s : State) (p : Nat) (v : GslPort) : (s.setGslPort p v).awn = s.awn := rfl
@[simp] theorem State.setGslPort_items (s : State) (p : Nat) (v : GslPort) : (s.setGslPort p v).items = s.items := rfl
@[simp] theorem State.setGslPort_graphs (s : State) (p : Nat) (v : GslPort) : (s.setGslPort p v).graphs = s.graphs := rfl
@[simp] theorem State.setGslPort_schedNo (s : State) (p : Nat) (v : GslPort) : (s.setGslPort p v).schedNo = s.schedNo := rfl
@[simp] theorem State.setGslPort_callRet (s : State) (p : Nat) (v : GslPort) : (s.setGslPort p v).callRet = s.callRet := rfl
@[simp] theorem State.setGslPort_l1 (s : State) (p : Nat) (v : GslPort) : (s.setGslPort p v).l1 = s.l1 := rfl
@[simp] theorem State.setGslPort_cohWait (s : State) (p : Nat) (v : GslPort) : (s.setGslPort p v).cohWait = s.cohWait := rfl
@[simp] theorem State.setGslPort_recalls (s : State) (p : Nat) (v : GslPort) : (s.setGslPort p v).recalls = s.recalls := rfl
@[simp] theorem State.setGslPort_losers (s : State) (p : Nat) (v : GslPort) : (s.setGslPort p v).losers = s.losers := rfl
@[simp] theorem State.setGslPort_regions (s : State) (p : Nat) (v : GslPort) : (s.setGslPort p v).regions = s.regions := rfl
@[simp] theorem State.setGslPort_arbs (s : State) (p : Nat) (v : GslPort) : (s.setGslPort p v).arbs = s.arbs := rfl
@[simp] theorem State.setGslPort_debt (s : State) (p : Nat) (v : GslPort) : (s.setGslPort p v).debt = s.debt := rfl
@[simp] theorem State.setGslPort_sref (s : State) (p : Nat) (v : GslPort) : (s.setGslPort p v).sref = s.sref := rfl
@[simp] theorem State.setGslPort_srefAt (s : State) (p : Nat) (v : GslPort) : (s.setGslPort p v).srefAt = s.srefAt := rfl
@[simp] theorem State.setGslPort_openRows (s : State) (p : Nat) (v : GslPort) : (s.setGslPort p v).openRows = s.openRows := rfl
@[simp] theorem State.setGslPort_adcs (s : State) (p : Nat) (v : GslPort) : (s.setGslPort p v).adcs = s.adcs := rfl
@[simp] theorem State.setGslPort_results (s : State) (p : Nat) (v : GslPort) : (s.setGslPort p v).results = s.results := rfl
@[simp] theorem State.setGslPort_safetyDue (s : State) (p : Nat) (v : GslPort) : (s.setGslPort p v).safetyDue = s.safetyDue := rfl
@[simp] theorem State.setGslPort_safetyRes (s : State) (p : Nat) (v : GslPort) : (s.setGslPort p v).safetyRes = s.safetyRes := rfl
@[simp] theorem State.setGslPort_calRun (s : State) (p : Nat) (v : GslPort) : (s.setGslPort p v).calRun = s.calRun := rfl
@[simp] theorem State.setGslPort_energy (s : State) (p : Nat) (v : GslPort) : (s.setGslPort p v).energy = s.energy := rfl
@[simp] theorem State.setGslPort_p4Req (s : State) (p : Nat) (v : GslPort) : (s.setGslPort p v).p4Req = s.p4Req := rfl
@[simp] theorem State.setGslPort_p4Event (s : State) (p : Nat) (v : GslPort) : (s.setGslPort p v).p4Event = s.p4Event := rfl
@[simp] theorem State.setGslPort_inReset (s : State) (p : Nat) (v : GslPort) : (s.setGslPort p v).inReset = s.inReset := rfl
@[simp] theorem State.setGslPort_perstLow (s : State) (p : Nat) (v : GslPort) : (s.setGslPort p v).perstLow = s.perstLow := rfl
@[simp] theorem State.setGslPort_resetNLow (s : State) (p : Nat) (v : GslPort) : (s.setGslPort p v).resetNLow = s.resetNLow := rfl
@[simp] theorem State.setGslPort_powerGood (s : State) (p : Nat) (v : GslPort) : (s.setGslPort p v).powerGood = s.powerGood := rfl
@[simp] theorem State.setGslPort_pushing (s : State) (p : Nat) (v : GslPort) : (s.setGslPort p v).pushing = s.pushing := rfl
@[simp] theorem State.setGslPort_wdtMs (s : State) (p : Nat) (v : GslPort) : (s.setGslPort p v).wdtMs = s.wdtMs := rfl
@[simp] theorem State.setGslPort_wdtFrom (s : State) (p : Nat) (v : GslPort) : (s.setGslPort p v).wdtFrom = s.wdtFrom := rfl
@[simp] theorem State.setGslPort_ledgTorn (s : State) (p : Nat) (v : GslPort) : (s.setGslPort p v).ledgTorn = s.ledgTorn := rfl
@[simp] theorem State.setGslPort_bar4Log2 (s : State) (p : Nat) (v : GslPort) : (s.setGslPort p v).bar4Log2 = s.bar4Log2 := rfl
@[simp] theorem State.setGslPort_pending (s : State) (p : Nat) (v : GslPort) : (s.setGslPort p v).pending = s.pending := rfl

@[simp] theorem State.setItem_regs (s : State) (k : Nat) (v : Item) : (s.setItem k v).regs = s.regs := rfl
@[simp] theorem State.setItem_mem (s : State) (k : Nat) (v : Item) : (s.setItem k v).mem = s.mem := rfl
@[simp] theorem State.setItem_poison (s : State) (k : Nat) (v : Item) : (s.setItem k v).poison = s.poison := rfl
@[simp] theorem State.setItem_fr (s : State) (k : Nat) (v : Item) : (s.setItem k v).fr = s.fr := rfl
@[simp] theorem State.setItem_frRuns (s : State) (k : Nat) (v : Item) : (s.setItem k v).frRuns = s.frRuns := rfl
@[simp] theorem State.setItem_free (s : State) (k : Nat) (v : Item) : (s.setItem k v).free = s.free := rfl
@[simp] theorem State.setItem_booted (s : State) (k : Nat) (v : Item) : (s.setItem k v).booted = s.booted := rfl
@[simp] theorem State.setItem_rdata (s : State) (k : Nat) (v : Item) : (s.setItem k v).rdata = s.rdata := rfl
@[simp] theorem State.setItem_latch (s : State) (k : Nat) (v : Item) : (s.setItem k v).latch = s.latch := rfl
@[simp] theorem State.setItem_rstat (s : State) (k : Nat) (v : Item) : (s.setItem k v).rstat = s.rstat := rfl
@[simp] theorem State.setItem_funcs (s : State) (k : Nat) (v : Item) : (s.setItem k v).funcs = s.funcs := rfl
@[simp] theorem State.setItem_numVfs (s : State) (k : Nat) (v : Item) : (s.setItem k v).numVfs = s.numVfs := rfl
@[simp] theorem State.setItem_ari (s : State) (k : Nat) (v : Item) : (s.setItem k v).ari = s.ari := rfl
@[simp] theorem State.setItem_vfEnable (s : State) (k : Nat) (v : Item) : (s.setItem k v).vfEnable = s.vfEnable := rfl
@[simp] theorem State.setItem_stalls (s : State) (k : Nat) (v : Item) : (s.setItem k v).stalls = s.stalls := rfl
@[simp] theorem State.setItem_works (s : State) (k : Nat) (v : Item) : (s.setItem k v).works = s.works := rfl
@[simp] theorem State.setItem_nextWork (s : State) (k : Nat) (v : Item) : (s.setItem k v).nextWork = s.nextWork := rfl
@[simp] theorem State.setItem_devAllowance (s : State) (k : Nat) (v : Item) : (s.setItem k v).devAllowance = s.devAllowance := rfl
@[simp] theorem State.setItem_receipts (s : State) (k : Nat) (v : Item) : (s.setItem k v).receipts = s.receipts := rfl
@[simp] theorem State.setItem_donePaces (s : State) (k : Nat) (v : Item) : (s.setItem k v).donePaces = s.donePaces := rfl
@[simp] theorem State.setItem_tx (s : State) (k : Nat) (v : Item) : (s.setItem k v).tx = s.tx := rfl
@[simp] theorem State.setItem_triggers (s : State) (k : Nat) (v : Item) : (s.setItem k v).triggers = s.triggers := rfl
@[simp] theorem State.setItem_raiseNo (s : State) (k : Nat) (v : Item) : (s.setItem k v).raiseNo = s.raiseNo := rfl
@[simp] theorem State.setItem_events (s : State) (k : Nat) (v : Item) : (s.setItem k v).events = s.events := rfl
@[simp] theorem State.setItem_arrivals (s : State) (k : Nat) (v : Item) : (s.setItem k v).arrivals = s.arrivals := rfl
@[simp] theorem State.setItem_lastArrival (s : State) (k : Nat) (v : Item) : (s.setItem k v).lastArrival = s.lastArrival := rfl
@[simp] theorem State.setItem_detections (s : State) (k : Nat) (v : Item) : (s.setItem k v).detections = s.detections := rfl
@[simp] theorem State.setItem_ledgerEvents (s : State) (k : Nat) (v : Item) : (s.setItem k v).ledgerEvents = s.ledgerEvents := rfl
@[simp] theorem State.setItem_ports (s : State) (k : Nat) (v : Item) : (s.setItem k v).ports = s.ports := rfl
@[simp] theorem State.setItem_segs (s : State) (k : Nat) (v : Item) : (s.setItem k v).segs = s.segs := rfl
@[simp] theorem State.setItem_seqs (s : State) (k : Nat) (v : Item) : (s.setItem k v).seqs = s.seqs := rfl
@[simp] theorem State.setItem_tsPending (s : State) (k : Nat) (v : Item) : (s.setItem k v).tsPending = s.tsPending := rfl
@[simp] theorem State.setItem_frames0 (s : State) (k : Nat) (v : Item) : (s.setItem k v).frames0 = s.frames0 := rfl
@[simp] theorem State.setItem_frames1 (s : State) (k : Nat) (v : Item) : (s.setItem k v).frames1 = s.frames1 := rfl
@[simp] theorem State.setItem_nextEntry (s : State) (k : Nat) (v : Item) : (s.setItem k v).nextEntry = s.nextEntry := rfl
@[simp] theorem State.setItem_ethOut (s : State) (k : Nat) (v : Item) : (s.setItem k v).ethOut = s.ethOut := rfl
@[simp] theorem State.setItem_chans (s : State) (k : Nat) (v : Item) : (s.setItem k v).chans = s.chans := rfl
@[simp] theorem State.setItem_edges (s : State) (k : Nat) (v : Item) : (s.setItem k v).edges = s.edges := rfl
@[simp] theorem State.setItem_lanes (s : State) (k : Nat) (v : Item) : (s.setItem k v).lanes = s.lanes := rfl
@[simp] theorem State.setItem_patch (s : State) (k : Nat) (v : Item) : (s.setItem k v).patch = s.patch := rfl
@[simp] theorem State.setItem_crier (s : State) (k : Nat) (v : Item) : (s.setItem k v).crier = s.crier := rfl
@[simp] theorem State.setItem_factApplied (s : State) (k : Nat) (v : Item) : (s.setItem k v).factApplied = s.factApplied := rfl
@[simp] theorem State.setItem_ledgRecs (s : State) (k : Nat) (v : Item) : (s.setItem k v).ledgRecs = s.ledgRecs := rfl
@[simp] theorem State.setItem_ledgQueue (s : State) (k : Nat) (v : Item) : (s.setItem k v).ledgQueue = s.ledgQueue := rfl
@[simp] theorem State.setItem_ledgWrite (s : State) (k : Nat) (v : Item) : (s.setItem k v).ledgWrite = s.ledgWrite := rfl
@[simp] theorem State.setItem_laneTxOff (s : State) (k : Nat) (v : Item) : (s.setItem k v).laneTxOff = s.laneTxOff := rfl
@[simp] theorem State.setItem_safeEntry (s : State) (k : Nat) (v : Item) : (s.setItem k v).safeEntry = s.safeEntry := rfl
@[simp] theorem State.setItem_holdEnd (s : State) (k : Nat) (v : Item) : (s.setItem k v).holdEnd = s.holdEnd := rfl
@[simp] theorem State.setItem_warnSince (s : State) (k : Nat) (v : Item) : (s.setItem k v).warnSince = s.warnSince := rfl
@[simp] theorem State.setItem_resets (s : State) (k : Nat) (v : Item) : (s.setItem k v).resets = s.resets := rfl
@[simp] theorem State.setItem_watches (s : State) (k : Nat) (v : Item) : (s.setItem k v).watches = s.watches := rfl
@[simp] theorem State.setItem_conc (s : State) (k : Nat) (v : Item) : (s.setItem k v).conc = s.conc := rfl
@[simp] theorem State.setItem_gates (s : State) (k : Nat) (v : Item) : (s.setItem k v).gates = s.gates := rfl
@[simp] theorem State.setItem_srcEdges (s : State) (k : Nat) (v : Item) : (s.setItem k v).srcEdges = s.srcEdges := rfl
@[simp] theorem State.setItem_turn (s : State) (k : Nat) (v : Item) : (s.setItem k v).turn = s.turn := rfl
@[simp] theorem State.setItem_ssms (s : State) (k : Nat) (v : Item) : (s.setItem k v).ssms = s.ssms := rfl
@[simp] theorem State.setItem_driftRows (s : State) (k : Nat) (v : Item) : (s.setItem k v).driftRows = s.driftRows := rfl
@[simp] theorem State.setItem_handledAt (s : State) (k : Nat) (v : Item) : (s.setItem k v).handledAt = s.handledAt := rfl
@[simp] theorem State.setItem_calQueue (s : State) (k : Nat) (v : Item) : (s.setItem k v).calQueue = s.calQueue := rfl
@[simp] theorem State.setItem_oven (s : State) (k : Nat) (v : Item) : (s.setItem k v).oven = s.oven := rfl
@[simp] theorem State.setItem_masterOven (s : State) (k : Nat) (v : Item) : (s.setItem k v).masterOven = s.masterOven := rfl
@[simp] theorem State.setItem_joints (s : State) (k : Nat) (v : Item) : (s.setItem k v).joints = s.joints := rfl
@[simp] theorem State.setItem_gsl (s : State) (k : Nat) (v : Item) : (s.setItem k v).gsl = s.gsl := rfl
@[simp] theorem State.setItem_gslIn (s : State) (k : Nat) (v : Item) : (s.setItem k v).gslIn = s.gslIn := rfl
@[simp] theorem State.setItem_peers (s : State) (k : Nat) (v : Item) : (s.setItem k v).peers = s.peers := rfl
@[simp] theorem State.setItem_electAt (s : State) (k : Nat) (v : Item) : (s.setItem k v).electAt = s.electAt := rfl
@[simp] theorem State.setItem_members (s : State) (k : Nat) (v : Item) : (s.setItem k v).members = s.members := rfl
@[simp] theorem State.setItem_linksDown (s : State) (k : Nat) (v : Item) : (s.setItem k v).linksDown = s.linksDown := rfl
@[simp] theorem State.setItem_timeHalf (s : State) (k : Nat) (v : Item) : (s.setItem k v).timeHalf = s.timeHalf := rfl
@[simp] theorem State.setItem_timeNext (s : State) (k : Nat) (v : Item) : (s.setItem k v).timeNext = s.timeNext := rfl
@[simp] theorem State.setItem_timeSet (s : State) (k : Nat) (v : Item) : (s.setItem k v).timeSet = s.timeSet := rfl
@[simp] theorem State.setItem_servo (s : State) (k : Nat) (v : Item) : (s.setItem k v).servo = s.servo := rfl
@[simp] theorem State.setItem_ptpRate (s : State) (k : Nat) (v : Item) : (s.setItem k v).ptpRate = s.ptpRate := rfl
@[simp] theorem State.setItem_idConflict (s : State) (k : Nat) (v : Item) : (s.setItem k v).idConflict = s.idConflict := rfl
@[simp] theorem State.setItem_hallCfg (s : State) (k : Nat) (v : Item) : (s.setItem k v).hallCfg = s.hallCfg := rfl
@[simp] theorem State.setItem_crierDrv (s : State) (k : Nat) (v : Item) : (s.setItem k v).crierDrv = s.crierDrv := rfl
@[simp] theorem State.setItem_crierWait (s : State) (k : Nat) (v : Item) : (s.setItem k v).crierWait = s.crierWait := rfl
@[simp] theorem State.setItem_pulses (s : State) (k : Nat) (v : Item) : (s.setItem k v).pulses = s.pulses := rfl
@[simp] theorem State.setItem_crierCfg (s : State) (k : Nat) (v : Item) : (s.setItem k v).crierCfg = s.crierCfg := rfl
@[simp] theorem State.setItem_crierNow (s : State) (k : Nat) (v : Item) : (s.setItem k v).crierNow = s.crierNow := rfl
@[simp] theorem State.setItem_postponed (s : State) (k : Nat) (v : Item) : (s.setItem k v).postponed = s.postponed := rfl
@[simp] theorem State.setItem_awn (s : State) (k : Nat) (v : Item) : (s.setItem k v).awn = s.awn := rfl
@[simp] theorem State.setItem_items (s : State) (k : Nat) (v : Item) : (s.setItem k v).items = Store.put s.items k v := rfl
@[simp] theorem State.setItem_graphs (s : State) (k : Nat) (v : Item) : (s.setItem k v).graphs = s.graphs := rfl
@[simp] theorem State.setItem_schedNo (s : State) (k : Nat) (v : Item) : (s.setItem k v).schedNo = s.schedNo := rfl
@[simp] theorem State.setItem_callRet (s : State) (k : Nat) (v : Item) : (s.setItem k v).callRet = s.callRet := rfl
@[simp] theorem State.setItem_l1 (s : State) (k : Nat) (v : Item) : (s.setItem k v).l1 = s.l1 := rfl
@[simp] theorem State.setItem_cohWait (s : State) (k : Nat) (v : Item) : (s.setItem k v).cohWait = s.cohWait := rfl
@[simp] theorem State.setItem_recalls (s : State) (k : Nat) (v : Item) : (s.setItem k v).recalls = s.recalls := rfl
@[simp] theorem State.setItem_losers (s : State) (k : Nat) (v : Item) : (s.setItem k v).losers = s.losers := rfl
@[simp] theorem State.setItem_regions (s : State) (k : Nat) (v : Item) : (s.setItem k v).regions = s.regions := rfl
@[simp] theorem State.setItem_arbs (s : State) (k : Nat) (v : Item) : (s.setItem k v).arbs = s.arbs := rfl
@[simp] theorem State.setItem_debt (s : State) (k : Nat) (v : Item) : (s.setItem k v).debt = s.debt := rfl
@[simp] theorem State.setItem_sref (s : State) (k : Nat) (v : Item) : (s.setItem k v).sref = s.sref := rfl
@[simp] theorem State.setItem_srefAt (s : State) (k : Nat) (v : Item) : (s.setItem k v).srefAt = s.srefAt := rfl
@[simp] theorem State.setItem_openRows (s : State) (k : Nat) (v : Item) : (s.setItem k v).openRows = s.openRows := rfl
@[simp] theorem State.setItem_adcs (s : State) (k : Nat) (v : Item) : (s.setItem k v).adcs = s.adcs := rfl
@[simp] theorem State.setItem_results (s : State) (k : Nat) (v : Item) : (s.setItem k v).results = s.results := rfl
@[simp] theorem State.setItem_safetyDue (s : State) (k : Nat) (v : Item) : (s.setItem k v).safetyDue = s.safetyDue := rfl
@[simp] theorem State.setItem_safetyRes (s : State) (k : Nat) (v : Item) : (s.setItem k v).safetyRes = s.safetyRes := rfl
@[simp] theorem State.setItem_calRun (s : State) (k : Nat) (v : Item) : (s.setItem k v).calRun = s.calRun := rfl
@[simp] theorem State.setItem_energy (s : State) (k : Nat) (v : Item) : (s.setItem k v).energy = s.energy := rfl
@[simp] theorem State.setItem_p4Req (s : State) (k : Nat) (v : Item) : (s.setItem k v).p4Req = s.p4Req := rfl
@[simp] theorem State.setItem_p4Event (s : State) (k : Nat) (v : Item) : (s.setItem k v).p4Event = s.p4Event := rfl
@[simp] theorem State.setItem_inReset (s : State) (k : Nat) (v : Item) : (s.setItem k v).inReset = s.inReset := rfl
@[simp] theorem State.setItem_perstLow (s : State) (k : Nat) (v : Item) : (s.setItem k v).perstLow = s.perstLow := rfl
@[simp] theorem State.setItem_resetNLow (s : State) (k : Nat) (v : Item) : (s.setItem k v).resetNLow = s.resetNLow := rfl
@[simp] theorem State.setItem_powerGood (s : State) (k : Nat) (v : Item) : (s.setItem k v).powerGood = s.powerGood := rfl
@[simp] theorem State.setItem_pushing (s : State) (k : Nat) (v : Item) : (s.setItem k v).pushing = s.pushing := rfl
@[simp] theorem State.setItem_wdtMs (s : State) (k : Nat) (v : Item) : (s.setItem k v).wdtMs = s.wdtMs := rfl
@[simp] theorem State.setItem_wdtFrom (s : State) (k : Nat) (v : Item) : (s.setItem k v).wdtFrom = s.wdtFrom := rfl
@[simp] theorem State.setItem_ledgTorn (s : State) (k : Nat) (v : Item) : (s.setItem k v).ledgTorn = s.ledgTorn := rfl
@[simp] theorem State.setItem_bar4Log2 (s : State) (k : Nat) (v : Item) : (s.setItem k v).bar4Log2 = s.bar4Log2 := rfl
@[simp] theorem State.setItem_pending (s : State) (k : Nat) (v : Item) : (s.setItem k v).pending = s.pending := rfl

@[simp] theorem State.setGraph_regs (s : State) (k : Nat) (v : GraphRun) : (s.setGraph k v).regs = s.regs := rfl
@[simp] theorem State.setGraph_mem (s : State) (k : Nat) (v : GraphRun) : (s.setGraph k v).mem = s.mem := rfl
@[simp] theorem State.setGraph_poison (s : State) (k : Nat) (v : GraphRun) : (s.setGraph k v).poison = s.poison := rfl
@[simp] theorem State.setGraph_fr (s : State) (k : Nat) (v : GraphRun) : (s.setGraph k v).fr = s.fr := rfl
@[simp] theorem State.setGraph_frRuns (s : State) (k : Nat) (v : GraphRun) : (s.setGraph k v).frRuns = s.frRuns := rfl
@[simp] theorem State.setGraph_free (s : State) (k : Nat) (v : GraphRun) : (s.setGraph k v).free = s.free := rfl
@[simp] theorem State.setGraph_booted (s : State) (k : Nat) (v : GraphRun) : (s.setGraph k v).booted = s.booted := rfl
@[simp] theorem State.setGraph_rdata (s : State) (k : Nat) (v : GraphRun) : (s.setGraph k v).rdata = s.rdata := rfl
@[simp] theorem State.setGraph_latch (s : State) (k : Nat) (v : GraphRun) : (s.setGraph k v).latch = s.latch := rfl
@[simp] theorem State.setGraph_rstat (s : State) (k : Nat) (v : GraphRun) : (s.setGraph k v).rstat = s.rstat := rfl
@[simp] theorem State.setGraph_funcs (s : State) (k : Nat) (v : GraphRun) : (s.setGraph k v).funcs = s.funcs := rfl
@[simp] theorem State.setGraph_numVfs (s : State) (k : Nat) (v : GraphRun) : (s.setGraph k v).numVfs = s.numVfs := rfl
@[simp] theorem State.setGraph_ari (s : State) (k : Nat) (v : GraphRun) : (s.setGraph k v).ari = s.ari := rfl
@[simp] theorem State.setGraph_vfEnable (s : State) (k : Nat) (v : GraphRun) : (s.setGraph k v).vfEnable = s.vfEnable := rfl
@[simp] theorem State.setGraph_stalls (s : State) (k : Nat) (v : GraphRun) : (s.setGraph k v).stalls = s.stalls := rfl
@[simp] theorem State.setGraph_works (s : State) (k : Nat) (v : GraphRun) : (s.setGraph k v).works = s.works := rfl
@[simp] theorem State.setGraph_nextWork (s : State) (k : Nat) (v : GraphRun) : (s.setGraph k v).nextWork = s.nextWork := rfl
@[simp] theorem State.setGraph_devAllowance (s : State) (k : Nat) (v : GraphRun) : (s.setGraph k v).devAllowance = s.devAllowance := rfl
@[simp] theorem State.setGraph_receipts (s : State) (k : Nat) (v : GraphRun) : (s.setGraph k v).receipts = s.receipts := rfl
@[simp] theorem State.setGraph_donePaces (s : State) (k : Nat) (v : GraphRun) : (s.setGraph k v).donePaces = s.donePaces := rfl
@[simp] theorem State.setGraph_tx (s : State) (k : Nat) (v : GraphRun) : (s.setGraph k v).tx = s.tx := rfl
@[simp] theorem State.setGraph_triggers (s : State) (k : Nat) (v : GraphRun) : (s.setGraph k v).triggers = s.triggers := rfl
@[simp] theorem State.setGraph_raiseNo (s : State) (k : Nat) (v : GraphRun) : (s.setGraph k v).raiseNo = s.raiseNo := rfl
@[simp] theorem State.setGraph_events (s : State) (k : Nat) (v : GraphRun) : (s.setGraph k v).events = s.events := rfl
@[simp] theorem State.setGraph_arrivals (s : State) (k : Nat) (v : GraphRun) : (s.setGraph k v).arrivals = s.arrivals := rfl
@[simp] theorem State.setGraph_lastArrival (s : State) (k : Nat) (v : GraphRun) : (s.setGraph k v).lastArrival = s.lastArrival := rfl
@[simp] theorem State.setGraph_detections (s : State) (k : Nat) (v : GraphRun) : (s.setGraph k v).detections = s.detections := rfl
@[simp] theorem State.setGraph_ledgerEvents (s : State) (k : Nat) (v : GraphRun) : (s.setGraph k v).ledgerEvents = s.ledgerEvents := rfl
@[simp] theorem State.setGraph_ports (s : State) (k : Nat) (v : GraphRun) : (s.setGraph k v).ports = s.ports := rfl
@[simp] theorem State.setGraph_segs (s : State) (k : Nat) (v : GraphRun) : (s.setGraph k v).segs = s.segs := rfl
@[simp] theorem State.setGraph_seqs (s : State) (k : Nat) (v : GraphRun) : (s.setGraph k v).seqs = s.seqs := rfl
@[simp] theorem State.setGraph_tsPending (s : State) (k : Nat) (v : GraphRun) : (s.setGraph k v).tsPending = s.tsPending := rfl
@[simp] theorem State.setGraph_frames0 (s : State) (k : Nat) (v : GraphRun) : (s.setGraph k v).frames0 = s.frames0 := rfl
@[simp] theorem State.setGraph_frames1 (s : State) (k : Nat) (v : GraphRun) : (s.setGraph k v).frames1 = s.frames1 := rfl
@[simp] theorem State.setGraph_nextEntry (s : State) (k : Nat) (v : GraphRun) : (s.setGraph k v).nextEntry = s.nextEntry := rfl
@[simp] theorem State.setGraph_ethOut (s : State) (k : Nat) (v : GraphRun) : (s.setGraph k v).ethOut = s.ethOut := rfl
@[simp] theorem State.setGraph_chans (s : State) (k : Nat) (v : GraphRun) : (s.setGraph k v).chans = s.chans := rfl
@[simp] theorem State.setGraph_edges (s : State) (k : Nat) (v : GraphRun) : (s.setGraph k v).edges = s.edges := rfl
@[simp] theorem State.setGraph_lanes (s : State) (k : Nat) (v : GraphRun) : (s.setGraph k v).lanes = s.lanes := rfl
@[simp] theorem State.setGraph_patch (s : State) (k : Nat) (v : GraphRun) : (s.setGraph k v).patch = s.patch := rfl
@[simp] theorem State.setGraph_crier (s : State) (k : Nat) (v : GraphRun) : (s.setGraph k v).crier = s.crier := rfl
@[simp] theorem State.setGraph_factApplied (s : State) (k : Nat) (v : GraphRun) : (s.setGraph k v).factApplied = s.factApplied := rfl
@[simp] theorem State.setGraph_ledgRecs (s : State) (k : Nat) (v : GraphRun) : (s.setGraph k v).ledgRecs = s.ledgRecs := rfl
@[simp] theorem State.setGraph_ledgQueue (s : State) (k : Nat) (v : GraphRun) : (s.setGraph k v).ledgQueue = s.ledgQueue := rfl
@[simp] theorem State.setGraph_ledgWrite (s : State) (k : Nat) (v : GraphRun) : (s.setGraph k v).ledgWrite = s.ledgWrite := rfl
@[simp] theorem State.setGraph_laneTxOff (s : State) (k : Nat) (v : GraphRun) : (s.setGraph k v).laneTxOff = s.laneTxOff := rfl
@[simp] theorem State.setGraph_safeEntry (s : State) (k : Nat) (v : GraphRun) : (s.setGraph k v).safeEntry = s.safeEntry := rfl
@[simp] theorem State.setGraph_holdEnd (s : State) (k : Nat) (v : GraphRun) : (s.setGraph k v).holdEnd = s.holdEnd := rfl
@[simp] theorem State.setGraph_warnSince (s : State) (k : Nat) (v : GraphRun) : (s.setGraph k v).warnSince = s.warnSince := rfl
@[simp] theorem State.setGraph_resets (s : State) (k : Nat) (v : GraphRun) : (s.setGraph k v).resets = s.resets := rfl
@[simp] theorem State.setGraph_watches (s : State) (k : Nat) (v : GraphRun) : (s.setGraph k v).watches = s.watches := rfl
@[simp] theorem State.setGraph_conc (s : State) (k : Nat) (v : GraphRun) : (s.setGraph k v).conc = s.conc := rfl
@[simp] theorem State.setGraph_gates (s : State) (k : Nat) (v : GraphRun) : (s.setGraph k v).gates = s.gates := rfl
@[simp] theorem State.setGraph_srcEdges (s : State) (k : Nat) (v : GraphRun) : (s.setGraph k v).srcEdges = s.srcEdges := rfl
@[simp] theorem State.setGraph_turn (s : State) (k : Nat) (v : GraphRun) : (s.setGraph k v).turn = s.turn := rfl
@[simp] theorem State.setGraph_ssms (s : State) (k : Nat) (v : GraphRun) : (s.setGraph k v).ssms = s.ssms := rfl
@[simp] theorem State.setGraph_driftRows (s : State) (k : Nat) (v : GraphRun) : (s.setGraph k v).driftRows = s.driftRows := rfl
@[simp] theorem State.setGraph_handledAt (s : State) (k : Nat) (v : GraphRun) : (s.setGraph k v).handledAt = s.handledAt := rfl
@[simp] theorem State.setGraph_calQueue (s : State) (k : Nat) (v : GraphRun) : (s.setGraph k v).calQueue = s.calQueue := rfl
@[simp] theorem State.setGraph_oven (s : State) (k : Nat) (v : GraphRun) : (s.setGraph k v).oven = s.oven := rfl
@[simp] theorem State.setGraph_masterOven (s : State) (k : Nat) (v : GraphRun) : (s.setGraph k v).masterOven = s.masterOven := rfl
@[simp] theorem State.setGraph_joints (s : State) (k : Nat) (v : GraphRun) : (s.setGraph k v).joints = s.joints := rfl
@[simp] theorem State.setGraph_gsl (s : State) (k : Nat) (v : GraphRun) : (s.setGraph k v).gsl = s.gsl := rfl
@[simp] theorem State.setGraph_gslIn (s : State) (k : Nat) (v : GraphRun) : (s.setGraph k v).gslIn = s.gslIn := rfl
@[simp] theorem State.setGraph_peers (s : State) (k : Nat) (v : GraphRun) : (s.setGraph k v).peers = s.peers := rfl
@[simp] theorem State.setGraph_electAt (s : State) (k : Nat) (v : GraphRun) : (s.setGraph k v).electAt = s.electAt := rfl
@[simp] theorem State.setGraph_members (s : State) (k : Nat) (v : GraphRun) : (s.setGraph k v).members = s.members := rfl
@[simp] theorem State.setGraph_linksDown (s : State) (k : Nat) (v : GraphRun) : (s.setGraph k v).linksDown = s.linksDown := rfl
@[simp] theorem State.setGraph_timeHalf (s : State) (k : Nat) (v : GraphRun) : (s.setGraph k v).timeHalf = s.timeHalf := rfl
@[simp] theorem State.setGraph_timeNext (s : State) (k : Nat) (v : GraphRun) : (s.setGraph k v).timeNext = s.timeNext := rfl
@[simp] theorem State.setGraph_timeSet (s : State) (k : Nat) (v : GraphRun) : (s.setGraph k v).timeSet = s.timeSet := rfl
@[simp] theorem State.setGraph_servo (s : State) (k : Nat) (v : GraphRun) : (s.setGraph k v).servo = s.servo := rfl
@[simp] theorem State.setGraph_ptpRate (s : State) (k : Nat) (v : GraphRun) : (s.setGraph k v).ptpRate = s.ptpRate := rfl
@[simp] theorem State.setGraph_idConflict (s : State) (k : Nat) (v : GraphRun) : (s.setGraph k v).idConflict = s.idConflict := rfl
@[simp] theorem State.setGraph_hallCfg (s : State) (k : Nat) (v : GraphRun) : (s.setGraph k v).hallCfg = s.hallCfg := rfl
@[simp] theorem State.setGraph_crierDrv (s : State) (k : Nat) (v : GraphRun) : (s.setGraph k v).crierDrv = s.crierDrv := rfl
@[simp] theorem State.setGraph_crierWait (s : State) (k : Nat) (v : GraphRun) : (s.setGraph k v).crierWait = s.crierWait := rfl
@[simp] theorem State.setGraph_pulses (s : State) (k : Nat) (v : GraphRun) : (s.setGraph k v).pulses = s.pulses := rfl
@[simp] theorem State.setGraph_crierCfg (s : State) (k : Nat) (v : GraphRun) : (s.setGraph k v).crierCfg = s.crierCfg := rfl
@[simp] theorem State.setGraph_crierNow (s : State) (k : Nat) (v : GraphRun) : (s.setGraph k v).crierNow = s.crierNow := rfl
@[simp] theorem State.setGraph_postponed (s : State) (k : Nat) (v : GraphRun) : (s.setGraph k v).postponed = s.postponed := rfl
@[simp] theorem State.setGraph_awn (s : State) (k : Nat) (v : GraphRun) : (s.setGraph k v).awn = s.awn := rfl
@[simp] theorem State.setGraph_items (s : State) (k : Nat) (v : GraphRun) : (s.setGraph k v).items = s.items := rfl
@[simp] theorem State.setGraph_graphs (s : State) (k : Nat) (v : GraphRun) : (s.setGraph k v).graphs = Store.put s.graphs k v := rfl
@[simp] theorem State.setGraph_schedNo (s : State) (k : Nat) (v : GraphRun) : (s.setGraph k v).schedNo = s.schedNo := rfl
@[simp] theorem State.setGraph_callRet (s : State) (k : Nat) (v : GraphRun) : (s.setGraph k v).callRet = s.callRet := rfl
@[simp] theorem State.setGraph_l1 (s : State) (k : Nat) (v : GraphRun) : (s.setGraph k v).l1 = s.l1 := rfl
@[simp] theorem State.setGraph_cohWait (s : State) (k : Nat) (v : GraphRun) : (s.setGraph k v).cohWait = s.cohWait := rfl
@[simp] theorem State.setGraph_recalls (s : State) (k : Nat) (v : GraphRun) : (s.setGraph k v).recalls = s.recalls := rfl
@[simp] theorem State.setGraph_losers (s : State) (k : Nat) (v : GraphRun) : (s.setGraph k v).losers = s.losers := rfl
@[simp] theorem State.setGraph_regions (s : State) (k : Nat) (v : GraphRun) : (s.setGraph k v).regions = s.regions := rfl
@[simp] theorem State.setGraph_arbs (s : State) (k : Nat) (v : GraphRun) : (s.setGraph k v).arbs = s.arbs := rfl
@[simp] theorem State.setGraph_debt (s : State) (k : Nat) (v : GraphRun) : (s.setGraph k v).debt = s.debt := rfl
@[simp] theorem State.setGraph_sref (s : State) (k : Nat) (v : GraphRun) : (s.setGraph k v).sref = s.sref := rfl
@[simp] theorem State.setGraph_srefAt (s : State) (k : Nat) (v : GraphRun) : (s.setGraph k v).srefAt = s.srefAt := rfl
@[simp] theorem State.setGraph_openRows (s : State) (k : Nat) (v : GraphRun) : (s.setGraph k v).openRows = s.openRows := rfl
@[simp] theorem State.setGraph_adcs (s : State) (k : Nat) (v : GraphRun) : (s.setGraph k v).adcs = s.adcs := rfl
@[simp] theorem State.setGraph_results (s : State) (k : Nat) (v : GraphRun) : (s.setGraph k v).results = s.results := rfl
@[simp] theorem State.setGraph_safetyDue (s : State) (k : Nat) (v : GraphRun) : (s.setGraph k v).safetyDue = s.safetyDue := rfl
@[simp] theorem State.setGraph_safetyRes (s : State) (k : Nat) (v : GraphRun) : (s.setGraph k v).safetyRes = s.safetyRes := rfl
@[simp] theorem State.setGraph_calRun (s : State) (k : Nat) (v : GraphRun) : (s.setGraph k v).calRun = s.calRun := rfl
@[simp] theorem State.setGraph_energy (s : State) (k : Nat) (v : GraphRun) : (s.setGraph k v).energy = s.energy := rfl
@[simp] theorem State.setGraph_p4Req (s : State) (k : Nat) (v : GraphRun) : (s.setGraph k v).p4Req = s.p4Req := rfl
@[simp] theorem State.setGraph_p4Event (s : State) (k : Nat) (v : GraphRun) : (s.setGraph k v).p4Event = s.p4Event := rfl
@[simp] theorem State.setGraph_inReset (s : State) (k : Nat) (v : GraphRun) : (s.setGraph k v).inReset = s.inReset := rfl
@[simp] theorem State.setGraph_perstLow (s : State) (k : Nat) (v : GraphRun) : (s.setGraph k v).perstLow = s.perstLow := rfl
@[simp] theorem State.setGraph_resetNLow (s : State) (k : Nat) (v : GraphRun) : (s.setGraph k v).resetNLow = s.resetNLow := rfl
@[simp] theorem State.setGraph_powerGood (s : State) (k : Nat) (v : GraphRun) : (s.setGraph k v).powerGood = s.powerGood := rfl
@[simp] theorem State.setGraph_pushing (s : State) (k : Nat) (v : GraphRun) : (s.setGraph k v).pushing = s.pushing := rfl
@[simp] theorem State.setGraph_wdtMs (s : State) (k : Nat) (v : GraphRun) : (s.setGraph k v).wdtMs = s.wdtMs := rfl
@[simp] theorem State.setGraph_wdtFrom (s : State) (k : Nat) (v : GraphRun) : (s.setGraph k v).wdtFrom = s.wdtFrom := rfl
@[simp] theorem State.setGraph_ledgTorn (s : State) (k : Nat) (v : GraphRun) : (s.setGraph k v).ledgTorn = s.ledgTorn := rfl
@[simp] theorem State.setGraph_bar4Log2 (s : State) (k : Nat) (v : GraphRun) : (s.setGraph k v).bar4Log2 = s.bar4Log2 := rfl
@[simp] theorem State.setGraph_pending (s : State) (k : Nat) (v : GraphRun) : (s.setGraph k v).pending = s.pending := rfl

@[simp] theorem State.useFree_regs (s : State) (n : Nat) : (s.useFree n).regs = s.regs := rfl
@[simp] theorem State.useFree_mem (s : State) (n : Nat) : (s.useFree n).mem = s.mem := rfl
@[simp] theorem State.useFree_poison (s : State) (n : Nat) : (s.useFree n).poison = s.poison := rfl
@[simp] theorem State.useFree_fr (s : State) (n : Nat) : (s.useFree n).fr = s.fr := rfl
@[simp] theorem State.useFree_frRuns (s : State) (n : Nat) : (s.useFree n).frRuns = s.frRuns := rfl
@[simp] theorem State.useFree_free (s : State) (n : Nat) : (s.useFree n).free = s.free + n := rfl
@[simp] theorem State.useFree_booted (s : State) (n : Nat) : (s.useFree n).booted = s.booted := rfl
@[simp] theorem State.useFree_rdata (s : State) (n : Nat) : (s.useFree n).rdata = s.rdata := rfl
@[simp] theorem State.useFree_latch (s : State) (n : Nat) : (s.useFree n).latch = s.latch := rfl
@[simp] theorem State.useFree_rstat (s : State) (n : Nat) : (s.useFree n).rstat = s.rstat := rfl
@[simp] theorem State.useFree_funcs (s : State) (n : Nat) : (s.useFree n).funcs = s.funcs := rfl
@[simp] theorem State.useFree_numVfs (s : State) (n : Nat) : (s.useFree n).numVfs = s.numVfs := rfl
@[simp] theorem State.useFree_ari (s : State) (n : Nat) : (s.useFree n).ari = s.ari := rfl
@[simp] theorem State.useFree_vfEnable (s : State) (n : Nat) : (s.useFree n).vfEnable = s.vfEnable := rfl
@[simp] theorem State.useFree_stalls (s : State) (n : Nat) : (s.useFree n).stalls = s.stalls := rfl
@[simp] theorem State.useFree_works (s : State) (n : Nat) : (s.useFree n).works = s.works := rfl
@[simp] theorem State.useFree_nextWork (s : State) (n : Nat) : (s.useFree n).nextWork = s.nextWork := rfl
@[simp] theorem State.useFree_devAllowance (s : State) (n : Nat) : (s.useFree n).devAllowance = s.devAllowance := rfl
@[simp] theorem State.useFree_receipts (s : State) (n : Nat) : (s.useFree n).receipts = s.receipts := rfl
@[simp] theorem State.useFree_donePaces (s : State) (n : Nat) : (s.useFree n).donePaces = s.donePaces := rfl
@[simp] theorem State.useFree_tx (s : State) (n : Nat) : (s.useFree n).tx = s.tx := rfl
@[simp] theorem State.useFree_triggers (s : State) (n : Nat) : (s.useFree n).triggers = s.triggers := rfl
@[simp] theorem State.useFree_raiseNo (s : State) (n : Nat) : (s.useFree n).raiseNo = s.raiseNo := rfl
@[simp] theorem State.useFree_events (s : State) (n : Nat) : (s.useFree n).events = s.events := rfl
@[simp] theorem State.useFree_arrivals (s : State) (n : Nat) : (s.useFree n).arrivals = s.arrivals := rfl
@[simp] theorem State.useFree_lastArrival (s : State) (n : Nat) : (s.useFree n).lastArrival = s.lastArrival := rfl
@[simp] theorem State.useFree_detections (s : State) (n : Nat) : (s.useFree n).detections = s.detections := rfl
@[simp] theorem State.useFree_ledgerEvents (s : State) (n : Nat) : (s.useFree n).ledgerEvents = s.ledgerEvents := rfl
@[simp] theorem State.useFree_ports (s : State) (n : Nat) : (s.useFree n).ports = s.ports := rfl
@[simp] theorem State.useFree_segs (s : State) (n : Nat) : (s.useFree n).segs = s.segs := rfl
@[simp] theorem State.useFree_seqs (s : State) (n : Nat) : (s.useFree n).seqs = s.seqs := rfl
@[simp] theorem State.useFree_tsPending (s : State) (n : Nat) : (s.useFree n).tsPending = s.tsPending := rfl
@[simp] theorem State.useFree_frames0 (s : State) (n : Nat) : (s.useFree n).frames0 = s.frames0 := rfl
@[simp] theorem State.useFree_frames1 (s : State) (n : Nat) : (s.useFree n).frames1 = s.frames1 := rfl
@[simp] theorem State.useFree_nextEntry (s : State) (n : Nat) : (s.useFree n).nextEntry = s.nextEntry := rfl
@[simp] theorem State.useFree_ethOut (s : State) (n : Nat) : (s.useFree n).ethOut = s.ethOut := rfl
@[simp] theorem State.useFree_chans (s : State) (n : Nat) : (s.useFree n).chans = s.chans := rfl
@[simp] theorem State.useFree_edges (s : State) (n : Nat) : (s.useFree n).edges = s.edges := rfl
@[simp] theorem State.useFree_lanes (s : State) (n : Nat) : (s.useFree n).lanes = s.lanes := rfl
@[simp] theorem State.useFree_patch (s : State) (n : Nat) : (s.useFree n).patch = s.patch := rfl
@[simp] theorem State.useFree_crier (s : State) (n : Nat) : (s.useFree n).crier = s.crier := rfl
@[simp] theorem State.useFree_factApplied (s : State) (n : Nat) : (s.useFree n).factApplied = s.factApplied := rfl
@[simp] theorem State.useFree_ledgRecs (s : State) (n : Nat) : (s.useFree n).ledgRecs = s.ledgRecs := rfl
@[simp] theorem State.useFree_ledgQueue (s : State) (n : Nat) : (s.useFree n).ledgQueue = s.ledgQueue := rfl
@[simp] theorem State.useFree_ledgWrite (s : State) (n : Nat) : (s.useFree n).ledgWrite = s.ledgWrite := rfl
@[simp] theorem State.useFree_laneTxOff (s : State) (n : Nat) : (s.useFree n).laneTxOff = s.laneTxOff := rfl
@[simp] theorem State.useFree_safeEntry (s : State) (n : Nat) : (s.useFree n).safeEntry = s.safeEntry := rfl
@[simp] theorem State.useFree_holdEnd (s : State) (n : Nat) : (s.useFree n).holdEnd = s.holdEnd := rfl
@[simp] theorem State.useFree_warnSince (s : State) (n : Nat) : (s.useFree n).warnSince = s.warnSince := rfl
@[simp] theorem State.useFree_resets (s : State) (n : Nat) : (s.useFree n).resets = s.resets := rfl
@[simp] theorem State.useFree_watches (s : State) (n : Nat) : (s.useFree n).watches = s.watches := rfl
@[simp] theorem State.useFree_conc (s : State) (n : Nat) : (s.useFree n).conc = s.conc := rfl
@[simp] theorem State.useFree_gates (s : State) (n : Nat) : (s.useFree n).gates = s.gates := rfl
@[simp] theorem State.useFree_srcEdges (s : State) (n : Nat) : (s.useFree n).srcEdges = s.srcEdges := rfl
@[simp] theorem State.useFree_turn (s : State) (n : Nat) : (s.useFree n).turn = s.turn := rfl
@[simp] theorem State.useFree_ssms (s : State) (n : Nat) : (s.useFree n).ssms = s.ssms := rfl
@[simp] theorem State.useFree_driftRows (s : State) (n : Nat) : (s.useFree n).driftRows = s.driftRows := rfl
@[simp] theorem State.useFree_handledAt (s : State) (n : Nat) : (s.useFree n).handledAt = s.handledAt := rfl
@[simp] theorem State.useFree_calQueue (s : State) (n : Nat) : (s.useFree n).calQueue = s.calQueue := rfl
@[simp] theorem State.useFree_oven (s : State) (n : Nat) : (s.useFree n).oven = s.oven := rfl
@[simp] theorem State.useFree_masterOven (s : State) (n : Nat) : (s.useFree n).masterOven = s.masterOven := rfl
@[simp] theorem State.useFree_joints (s : State) (n : Nat) : (s.useFree n).joints = s.joints := rfl
@[simp] theorem State.useFree_gsl (s : State) (n : Nat) : (s.useFree n).gsl = s.gsl := rfl
@[simp] theorem State.useFree_gslIn (s : State) (n : Nat) : (s.useFree n).gslIn = s.gslIn := rfl
@[simp] theorem State.useFree_peers (s : State) (n : Nat) : (s.useFree n).peers = s.peers := rfl
@[simp] theorem State.useFree_electAt (s : State) (n : Nat) : (s.useFree n).electAt = s.electAt := rfl
@[simp] theorem State.useFree_members (s : State) (n : Nat) : (s.useFree n).members = s.members := rfl
@[simp] theorem State.useFree_linksDown (s : State) (n : Nat) : (s.useFree n).linksDown = s.linksDown := rfl
@[simp] theorem State.useFree_timeHalf (s : State) (n : Nat) : (s.useFree n).timeHalf = s.timeHalf := rfl
@[simp] theorem State.useFree_timeNext (s : State) (n : Nat) : (s.useFree n).timeNext = s.timeNext := rfl
@[simp] theorem State.useFree_timeSet (s : State) (n : Nat) : (s.useFree n).timeSet = s.timeSet := rfl
@[simp] theorem State.useFree_servo (s : State) (n : Nat) : (s.useFree n).servo = s.servo := rfl
@[simp] theorem State.useFree_ptpRate (s : State) (n : Nat) : (s.useFree n).ptpRate = s.ptpRate := rfl
@[simp] theorem State.useFree_idConflict (s : State) (n : Nat) : (s.useFree n).idConflict = s.idConflict := rfl
@[simp] theorem State.useFree_hallCfg (s : State) (n : Nat) : (s.useFree n).hallCfg = s.hallCfg := rfl
@[simp] theorem State.useFree_crierDrv (s : State) (n : Nat) : (s.useFree n).crierDrv = s.crierDrv := rfl
@[simp] theorem State.useFree_crierWait (s : State) (n : Nat) : (s.useFree n).crierWait = s.crierWait := rfl
@[simp] theorem State.useFree_pulses (s : State) (n : Nat) : (s.useFree n).pulses = s.pulses := rfl
@[simp] theorem State.useFree_crierCfg (s : State) (n : Nat) : (s.useFree n).crierCfg = s.crierCfg := rfl
@[simp] theorem State.useFree_crierNow (s : State) (n : Nat) : (s.useFree n).crierNow = s.crierNow := rfl
@[simp] theorem State.useFree_postponed (s : State) (n : Nat) : (s.useFree n).postponed = s.postponed := rfl
@[simp] theorem State.useFree_awn (s : State) (n : Nat) : (s.useFree n).awn = s.awn := rfl
@[simp] theorem State.useFree_items (s : State) (n : Nat) : (s.useFree n).items = s.items := rfl
@[simp] theorem State.useFree_graphs (s : State) (n : Nat) : (s.useFree n).graphs = s.graphs := rfl
@[simp] theorem State.useFree_schedNo (s : State) (n : Nat) : (s.useFree n).schedNo = s.schedNo := rfl
@[simp] theorem State.useFree_callRet (s : State) (n : Nat) : (s.useFree n).callRet = s.callRet := rfl
@[simp] theorem State.useFree_l1 (s : State) (n : Nat) : (s.useFree n).l1 = s.l1 := rfl
@[simp] theorem State.useFree_cohWait (s : State) (n : Nat) : (s.useFree n).cohWait = s.cohWait := rfl
@[simp] theorem State.useFree_recalls (s : State) (n : Nat) : (s.useFree n).recalls = s.recalls := rfl
@[simp] theorem State.useFree_losers (s : State) (n : Nat) : (s.useFree n).losers = s.losers := rfl
@[simp] theorem State.useFree_regions (s : State) (n : Nat) : (s.useFree n).regions = s.regions := rfl
@[simp] theorem State.useFree_arbs (s : State) (n : Nat) : (s.useFree n).arbs = s.arbs := rfl
@[simp] theorem State.useFree_debt (s : State) (n : Nat) : (s.useFree n).debt = s.debt := rfl
@[simp] theorem State.useFree_sref (s : State) (n : Nat) : (s.useFree n).sref = s.sref := rfl
@[simp] theorem State.useFree_srefAt (s : State) (n : Nat) : (s.useFree n).srefAt = s.srefAt := rfl
@[simp] theorem State.useFree_openRows (s : State) (n : Nat) : (s.useFree n).openRows = s.openRows := rfl
@[simp] theorem State.useFree_adcs (s : State) (n : Nat) : (s.useFree n).adcs = s.adcs := rfl
@[simp] theorem State.useFree_results (s : State) (n : Nat) : (s.useFree n).results = s.results := rfl
@[simp] theorem State.useFree_safetyDue (s : State) (n : Nat) : (s.useFree n).safetyDue = s.safetyDue := rfl
@[simp] theorem State.useFree_safetyRes (s : State) (n : Nat) : (s.useFree n).safetyRes = s.safetyRes := rfl
@[simp] theorem State.useFree_calRun (s : State) (n : Nat) : (s.useFree n).calRun = s.calRun := rfl
@[simp] theorem State.useFree_energy (s : State) (n : Nat) : (s.useFree n).energy = s.energy := rfl
@[simp] theorem State.useFree_p4Req (s : State) (n : Nat) : (s.useFree n).p4Req = s.p4Req := rfl
@[simp] theorem State.useFree_p4Event (s : State) (n : Nat) : (s.useFree n).p4Event = s.p4Event := rfl
@[simp] theorem State.useFree_inReset (s : State) (n : Nat) : (s.useFree n).inReset = s.inReset := rfl
@[simp] theorem State.useFree_perstLow (s : State) (n : Nat) : (s.useFree n).perstLow = s.perstLow := rfl
@[simp] theorem State.useFree_resetNLow (s : State) (n : Nat) : (s.useFree n).resetNLow = s.resetNLow := rfl
@[simp] theorem State.useFree_powerGood (s : State) (n : Nat) : (s.useFree n).powerGood = s.powerGood := rfl
@[simp] theorem State.useFree_pushing (s : State) (n : Nat) : (s.useFree n).pushing = s.pushing := rfl
@[simp] theorem State.useFree_wdtMs (s : State) (n : Nat) : (s.useFree n).wdtMs = s.wdtMs := rfl
@[simp] theorem State.useFree_wdtFrom (s : State) (n : Nat) : (s.useFree n).wdtFrom = s.wdtFrom := rfl
@[simp] theorem State.useFree_ledgTorn (s : State) (n : Nat) : (s.useFree n).ledgTorn = s.ledgTorn := rfl
@[simp] theorem State.useFree_bar4Log2 (s : State) (n : Nat) : (s.useFree n).bar4Log2 = s.bar4Log2 := rfl
@[simp] theorem State.useFree_pending (s : State) (n : Nat) : (s.useFree n).pending = s.pending := rfl

@[simp] theorem State.advanceTo_regs (s : State) (t : Tu) : (s.advanceTo t).regs = s.regs := rfl
@[simp] theorem State.advanceTo_mem (s : State) (t : Tu) : (s.advanceTo t).mem = s.mem := rfl
@[simp] theorem State.advanceTo_poison (s : State) (t : Tu) : (s.advanceTo t).poison = s.poison := rfl
@[simp] theorem State.advanceTo_fr (s : State) (t : Tu) : (s.advanceTo t).fr = max s.fr t := rfl
@[simp] theorem State.advanceTo_frRuns (s : State) (t : Tu) : (s.advanceTo t).frRuns = s.frRuns := rfl
@[simp] theorem State.advanceTo_free (s : State) (t : Tu) : (s.advanceTo t).free = s.free := rfl
@[simp] theorem State.advanceTo_booted (s : State) (t : Tu) : (s.advanceTo t).booted = s.booted := rfl
@[simp] theorem State.advanceTo_rdata (s : State) (t : Tu) : (s.advanceTo t).rdata = s.rdata := rfl
@[simp] theorem State.advanceTo_latch (s : State) (t : Tu) : (s.advanceTo t).latch = s.latch := rfl
@[simp] theorem State.advanceTo_rstat (s : State) (t : Tu) : (s.advanceTo t).rstat = s.rstat := rfl
@[simp] theorem State.advanceTo_funcs (s : State) (t : Tu) : (s.advanceTo t).funcs = s.funcs := rfl
@[simp] theorem State.advanceTo_numVfs (s : State) (t : Tu) : (s.advanceTo t).numVfs = s.numVfs := rfl
@[simp] theorem State.advanceTo_ari (s : State) (t : Tu) : (s.advanceTo t).ari = s.ari := rfl
@[simp] theorem State.advanceTo_vfEnable (s : State) (t : Tu) : (s.advanceTo t).vfEnable = s.vfEnable := rfl
@[simp] theorem State.advanceTo_stalls (s : State) (t : Tu) : (s.advanceTo t).stalls = s.stalls := rfl
@[simp] theorem State.advanceTo_works (s : State) (t : Tu) : (s.advanceTo t).works = s.works := rfl
@[simp] theorem State.advanceTo_nextWork (s : State) (t : Tu) : (s.advanceTo t).nextWork = s.nextWork := rfl
@[simp] theorem State.advanceTo_devAllowance (s : State) (t : Tu) : (s.advanceTo t).devAllowance = s.devAllowance := rfl
@[simp] theorem State.advanceTo_receipts (s : State) (t : Tu) : (s.advanceTo t).receipts = s.receipts := rfl
@[simp] theorem State.advanceTo_donePaces (s : State) (t : Tu) : (s.advanceTo t).donePaces = s.donePaces := rfl
@[simp] theorem State.advanceTo_tx (s : State) (t : Tu) : (s.advanceTo t).tx = s.tx := rfl
@[simp] theorem State.advanceTo_triggers (s : State) (t : Tu) : (s.advanceTo t).triggers = s.triggers := rfl
@[simp] theorem State.advanceTo_raiseNo (s : State) (t : Tu) : (s.advanceTo t).raiseNo = s.raiseNo := rfl
@[simp] theorem State.advanceTo_events (s : State) (t : Tu) : (s.advanceTo t).events = s.events := rfl
@[simp] theorem State.advanceTo_arrivals (s : State) (t : Tu) : (s.advanceTo t).arrivals = s.arrivals := rfl
@[simp] theorem State.advanceTo_lastArrival (s : State) (t : Tu) : (s.advanceTo t).lastArrival = s.lastArrival := rfl
@[simp] theorem State.advanceTo_detections (s : State) (t : Tu) : (s.advanceTo t).detections = s.detections := rfl
@[simp] theorem State.advanceTo_ledgerEvents (s : State) (t : Tu) : (s.advanceTo t).ledgerEvents = s.ledgerEvents := rfl
@[simp] theorem State.advanceTo_ports (s : State) (t : Tu) : (s.advanceTo t).ports = s.ports := rfl
@[simp] theorem State.advanceTo_segs (s : State) (t : Tu) : (s.advanceTo t).segs = s.segs := rfl
@[simp] theorem State.advanceTo_seqs (s : State) (t : Tu) : (s.advanceTo t).seqs = s.seqs := rfl
@[simp] theorem State.advanceTo_tsPending (s : State) (t : Tu) : (s.advanceTo t).tsPending = s.tsPending := rfl
@[simp] theorem State.advanceTo_frames0 (s : State) (t : Tu) : (s.advanceTo t).frames0 = s.frames0 := rfl
@[simp] theorem State.advanceTo_frames1 (s : State) (t : Tu) : (s.advanceTo t).frames1 = s.frames1 := rfl
@[simp] theorem State.advanceTo_nextEntry (s : State) (t : Tu) : (s.advanceTo t).nextEntry = s.nextEntry := rfl
@[simp] theorem State.advanceTo_ethOut (s : State) (t : Tu) : (s.advanceTo t).ethOut = s.ethOut := rfl
@[simp] theorem State.advanceTo_chans (s : State) (t : Tu) : (s.advanceTo t).chans = s.chans := rfl
@[simp] theorem State.advanceTo_edges (s : State) (t : Tu) : (s.advanceTo t).edges = s.edges := rfl
@[simp] theorem State.advanceTo_lanes (s : State) (t : Tu) : (s.advanceTo t).lanes = s.lanes := rfl
@[simp] theorem State.advanceTo_patch (s : State) (t : Tu) : (s.advanceTo t).patch = s.patch := rfl
@[simp] theorem State.advanceTo_crier (s : State) (t : Tu) : (s.advanceTo t).crier = s.crier := rfl
@[simp] theorem State.advanceTo_factApplied (s : State) (t : Tu) : (s.advanceTo t).factApplied = s.factApplied := rfl
@[simp] theorem State.advanceTo_ledgRecs (s : State) (t : Tu) : (s.advanceTo t).ledgRecs = s.ledgRecs := rfl
@[simp] theorem State.advanceTo_ledgQueue (s : State) (t : Tu) : (s.advanceTo t).ledgQueue = s.ledgQueue := rfl
@[simp] theorem State.advanceTo_ledgWrite (s : State) (t : Tu) : (s.advanceTo t).ledgWrite = s.ledgWrite := rfl
@[simp] theorem State.advanceTo_laneTxOff (s : State) (t : Tu) : (s.advanceTo t).laneTxOff = s.laneTxOff := rfl
@[simp] theorem State.advanceTo_safeEntry (s : State) (t : Tu) : (s.advanceTo t).safeEntry = s.safeEntry := rfl
@[simp] theorem State.advanceTo_holdEnd (s : State) (t : Tu) : (s.advanceTo t).holdEnd = s.holdEnd := rfl
@[simp] theorem State.advanceTo_warnSince (s : State) (t : Tu) : (s.advanceTo t).warnSince = s.warnSince := rfl
@[simp] theorem State.advanceTo_resets (s : State) (t : Tu) : (s.advanceTo t).resets = s.resets := rfl
@[simp] theorem State.advanceTo_watches (s : State) (t : Tu) : (s.advanceTo t).watches = s.watches := rfl
@[simp] theorem State.advanceTo_conc (s : State) (t : Tu) : (s.advanceTo t).conc = s.conc := rfl
@[simp] theorem State.advanceTo_gates (s : State) (t : Tu) : (s.advanceTo t).gates = s.gates := rfl
@[simp] theorem State.advanceTo_srcEdges (s : State) (t : Tu) : (s.advanceTo t).srcEdges = s.srcEdges := rfl
@[simp] theorem State.advanceTo_turn (s : State) (t : Tu) : (s.advanceTo t).turn = s.turn := rfl
@[simp] theorem State.advanceTo_ssms (s : State) (t : Tu) : (s.advanceTo t).ssms = s.ssms := rfl
@[simp] theorem State.advanceTo_driftRows (s : State) (t : Tu) : (s.advanceTo t).driftRows = s.driftRows := rfl
@[simp] theorem State.advanceTo_handledAt (s : State) (t : Tu) : (s.advanceTo t).handledAt = s.handledAt := rfl
@[simp] theorem State.advanceTo_calQueue (s : State) (t : Tu) : (s.advanceTo t).calQueue = s.calQueue := rfl
@[simp] theorem State.advanceTo_oven (s : State) (t : Tu) : (s.advanceTo t).oven = s.oven := rfl
@[simp] theorem State.advanceTo_masterOven (s : State) (t : Tu) : (s.advanceTo t).masterOven = s.masterOven := rfl
@[simp] theorem State.advanceTo_joints (s : State) (t : Tu) : (s.advanceTo t).joints = s.joints := rfl
@[simp] theorem State.advanceTo_gsl (s : State) (t : Tu) : (s.advanceTo t).gsl = s.gsl := rfl
@[simp] theorem State.advanceTo_gslIn (s : State) (t : Tu) : (s.advanceTo t).gslIn = s.gslIn := rfl
@[simp] theorem State.advanceTo_peers (s : State) (t : Tu) : (s.advanceTo t).peers = s.peers := rfl
@[simp] theorem State.advanceTo_electAt (s : State) (t : Tu) : (s.advanceTo t).electAt = s.electAt := rfl
@[simp] theorem State.advanceTo_members (s : State) (t : Tu) : (s.advanceTo t).members = s.members := rfl
@[simp] theorem State.advanceTo_linksDown (s : State) (t : Tu) : (s.advanceTo t).linksDown = s.linksDown := rfl
@[simp] theorem State.advanceTo_timeHalf (s : State) (t : Tu) : (s.advanceTo t).timeHalf = s.timeHalf := rfl
@[simp] theorem State.advanceTo_timeNext (s : State) (t : Tu) : (s.advanceTo t).timeNext = s.timeNext := rfl
@[simp] theorem State.advanceTo_timeSet (s : State) (t : Tu) : (s.advanceTo t).timeSet = s.timeSet := rfl
@[simp] theorem State.advanceTo_servo (s : State) (t : Tu) : (s.advanceTo t).servo = s.servo := rfl
@[simp] theorem State.advanceTo_ptpRate (s : State) (t : Tu) : (s.advanceTo t).ptpRate = s.ptpRate := rfl
@[simp] theorem State.advanceTo_idConflict (s : State) (t : Tu) : (s.advanceTo t).idConflict = s.idConflict := rfl
@[simp] theorem State.advanceTo_hallCfg (s : State) (t : Tu) : (s.advanceTo t).hallCfg = s.hallCfg := rfl
@[simp] theorem State.advanceTo_crierDrv (s : State) (t : Tu) : (s.advanceTo t).crierDrv = s.crierDrv := rfl
@[simp] theorem State.advanceTo_crierWait (s : State) (t : Tu) : (s.advanceTo t).crierWait = s.crierWait := rfl
@[simp] theorem State.advanceTo_pulses (s : State) (t : Tu) : (s.advanceTo t).pulses = s.pulses := rfl
@[simp] theorem State.advanceTo_crierCfg (s : State) (t : Tu) : (s.advanceTo t).crierCfg = s.crierCfg := rfl
@[simp] theorem State.advanceTo_crierNow (s : State) (t : Tu) : (s.advanceTo t).crierNow = s.crierNow := rfl
@[simp] theorem State.advanceTo_postponed (s : State) (t : Tu) : (s.advanceTo t).postponed = s.postponed := rfl
@[simp] theorem State.advanceTo_awn (s : State) (t : Tu) : (s.advanceTo t).awn = s.awn := rfl
@[simp] theorem State.advanceTo_items (s : State) (t : Tu) : (s.advanceTo t).items = s.items := rfl
@[simp] theorem State.advanceTo_graphs (s : State) (t : Tu) : (s.advanceTo t).graphs = s.graphs := rfl
@[simp] theorem State.advanceTo_schedNo (s : State) (t : Tu) : (s.advanceTo t).schedNo = s.schedNo := rfl
@[simp] theorem State.advanceTo_callRet (s : State) (t : Tu) : (s.advanceTo t).callRet = s.callRet := rfl
@[simp] theorem State.advanceTo_l1 (s : State) (t : Tu) : (s.advanceTo t).l1 = s.l1 := rfl
@[simp] theorem State.advanceTo_cohWait (s : State) (t : Tu) : (s.advanceTo t).cohWait = s.cohWait := rfl
@[simp] theorem State.advanceTo_recalls (s : State) (t : Tu) : (s.advanceTo t).recalls = s.recalls := rfl
@[simp] theorem State.advanceTo_losers (s : State) (t : Tu) : (s.advanceTo t).losers = s.losers := rfl
@[simp] theorem State.advanceTo_regions (s : State) (t : Tu) : (s.advanceTo t).regions = s.regions := rfl
@[simp] theorem State.advanceTo_arbs (s : State) (t : Tu) : (s.advanceTo t).arbs = s.arbs := rfl
@[simp] theorem State.advanceTo_debt (s : State) (t : Tu) : (s.advanceTo t).debt = s.debt := rfl
@[simp] theorem State.advanceTo_sref (s : State) (t : Tu) : (s.advanceTo t).sref = s.sref := rfl
@[simp] theorem State.advanceTo_srefAt (s : State) (t : Tu) : (s.advanceTo t).srefAt = s.srefAt := rfl
@[simp] theorem State.advanceTo_openRows (s : State) (t : Tu) : (s.advanceTo t).openRows = s.openRows := rfl
@[simp] theorem State.advanceTo_adcs (s : State) (t : Tu) : (s.advanceTo t).adcs = s.adcs := rfl
@[simp] theorem State.advanceTo_results (s : State) (t : Tu) : (s.advanceTo t).results = s.results := rfl
@[simp] theorem State.advanceTo_safetyDue (s : State) (t : Tu) : (s.advanceTo t).safetyDue = s.safetyDue := rfl
@[simp] theorem State.advanceTo_safetyRes (s : State) (t : Tu) : (s.advanceTo t).safetyRes = s.safetyRes := rfl
@[simp] theorem State.advanceTo_calRun (s : State) (t : Tu) : (s.advanceTo t).calRun = s.calRun := rfl
@[simp] theorem State.advanceTo_energy (s : State) (t : Tu) : (s.advanceTo t).energy = s.energy := rfl
@[simp] theorem State.advanceTo_p4Req (s : State) (t : Tu) : (s.advanceTo t).p4Req = s.p4Req := rfl
@[simp] theorem State.advanceTo_p4Event (s : State) (t : Tu) : (s.advanceTo t).p4Event = s.p4Event := rfl
@[simp] theorem State.advanceTo_inReset (s : State) (t : Tu) : (s.advanceTo t).inReset = s.inReset := rfl
@[simp] theorem State.advanceTo_perstLow (s : State) (t : Tu) : (s.advanceTo t).perstLow = s.perstLow := rfl
@[simp] theorem State.advanceTo_resetNLow (s : State) (t : Tu) : (s.advanceTo t).resetNLow = s.resetNLow := rfl
@[simp] theorem State.advanceTo_powerGood (s : State) (t : Tu) : (s.advanceTo t).powerGood = s.powerGood := rfl
@[simp] theorem State.advanceTo_pushing (s : State) (t : Tu) : (s.advanceTo t).pushing = s.pushing := rfl
@[simp] theorem State.advanceTo_wdtMs (s : State) (t : Tu) : (s.advanceTo t).wdtMs = s.wdtMs := rfl
@[simp] theorem State.advanceTo_wdtFrom (s : State) (t : Tu) : (s.advanceTo t).wdtFrom = s.wdtFrom := rfl
@[simp] theorem State.advanceTo_ledgTorn (s : State) (t : Tu) : (s.advanceTo t).ledgTorn = s.ledgTorn := rfl
@[simp] theorem State.advanceTo_bar4Log2 (s : State) (t : Tu) : (s.advanceTo t).bar4Log2 = s.bar4Log2 := rfl
@[simp] theorem State.advanceTo_pending (s : State) (t : Tu) : (s.advanceTo t).pending = s.pending := rfl

@[simp] theorem State.raise_regs (s : State) (x : Nat) (t : Tu) (b : Bool) (m : Nat) : (s.raise x t b m).regs = s.regs := rfl
@[simp] theorem State.raise_mem (s : State) (x : Nat) (t : Tu) (b : Bool) (m : Nat) : (s.raise x t b m).mem = s.mem := rfl
@[simp] theorem State.raise_poison (s : State) (x : Nat) (t : Tu) (b : Bool) (m : Nat) : (s.raise x t b m).poison = s.poison := rfl
@[simp] theorem State.raise_fr (s : State) (x : Nat) (t : Tu) (b : Bool) (m : Nat) : (s.raise x t b m).fr = s.fr := rfl
@[simp] theorem State.raise_frRuns (s : State) (x : Nat) (t : Tu) (b : Bool) (m : Nat) : (s.raise x t b m).frRuns = s.frRuns := rfl
@[simp] theorem State.raise_free (s : State) (x : Nat) (t : Tu) (b : Bool) (m : Nat) : (s.raise x t b m).free = s.free := rfl
@[simp] theorem State.raise_booted (s : State) (x : Nat) (t : Tu) (b : Bool) (m : Nat) : (s.raise x t b m).booted = s.booted := rfl
@[simp] theorem State.raise_rdata (s : State) (x : Nat) (t : Tu) (b : Bool) (m : Nat) : (s.raise x t b m).rdata = s.rdata := rfl
@[simp] theorem State.raise_latch (s : State) (x : Nat) (t : Tu) (b : Bool) (m : Nat) : (s.raise x t b m).latch = s.latch := rfl
@[simp] theorem State.raise_rstat (s : State) (x : Nat) (t : Tu) (b : Bool) (m : Nat) : (s.raise x t b m).rstat = s.rstat := rfl
@[simp] theorem State.raise_funcs (s : State) (x : Nat) (t : Tu) (b : Bool) (m : Nat) : (s.raise x t b m).funcs = s.funcs := rfl
@[simp] theorem State.raise_numVfs (s : State) (x : Nat) (t : Tu) (b : Bool) (m : Nat) : (s.raise x t b m).numVfs = s.numVfs := rfl
@[simp] theorem State.raise_ari (s : State) (x : Nat) (t : Tu) (b : Bool) (m : Nat) : (s.raise x t b m).ari = s.ari := rfl
@[simp] theorem State.raise_vfEnable (s : State) (x : Nat) (t : Tu) (b : Bool) (m : Nat) : (s.raise x t b m).vfEnable = s.vfEnable := rfl
@[simp] theorem State.raise_stalls (s : State) (x : Nat) (t : Tu) (b : Bool) (m : Nat) : (s.raise x t b m).stalls = s.stalls := rfl
@[simp] theorem State.raise_works (s : State) (x : Nat) (t : Tu) (b : Bool) (m : Nat) : (s.raise x t b m).works = s.works := rfl
@[simp] theorem State.raise_nextWork (s : State) (x : Nat) (t : Tu) (b : Bool) (m : Nat) : (s.raise x t b m).nextWork = s.nextWork := rfl
@[simp] theorem State.raise_devAllowance (s : State) (x : Nat) (t : Tu) (b : Bool) (m : Nat) : (s.raise x t b m).devAllowance = s.devAllowance := rfl
@[simp] theorem State.raise_receipts (s : State) (x : Nat) (t : Tu) (b : Bool) (m : Nat) : (s.raise x t b m).receipts = s.receipts := rfl
@[simp] theorem State.raise_donePaces (s : State) (x : Nat) (t : Tu) (b : Bool) (m : Nat) : (s.raise x t b m).donePaces = s.donePaces := rfl
@[simp] theorem State.raise_tx (s : State) (x : Nat) (t : Tu) (b : Bool) (m : Nat) : (s.raise x t b m).tx = s.tx := rfl
@[simp] theorem State.raise_triggers (s : State) (x : Nat) (t : Tu) (b : Bool) (m : Nat) : (s.raise x t b m).triggers = s.triggers := rfl
@[simp] theorem State.raise_raiseNo (s : State) (x : Nat) (t : Tu) (b : Bool) (m : Nat) : (s.raise x t b m).raiseNo = s.raiseNo := rfl
@[simp] theorem State.raise_events (s : State) (x : Nat) (t : Tu) (b : Bool) (m : Nat) : (s.raise x t b m).events = s.events ++ [{ source := x, at_ := t, rising := b, mark := m }] := rfl
@[simp] theorem State.raise_arrivals (s : State) (x : Nat) (t : Tu) (b : Bool) (m : Nat) : (s.raise x t b m).arrivals = s.arrivals := rfl
@[simp] theorem State.raise_lastArrival (s : State) (x : Nat) (t : Tu) (b : Bool) (m : Nat) : (s.raise x t b m).lastArrival = s.lastArrival := rfl
@[simp] theorem State.raise_detections (s : State) (x : Nat) (t : Tu) (b : Bool) (m : Nat) : (s.raise x t b m).detections = s.detections := rfl
@[simp] theorem State.raise_ledgerEvents (s : State) (x : Nat) (t : Tu) (b : Bool) (m : Nat) : (s.raise x t b m).ledgerEvents = s.ledgerEvents := rfl
@[simp] theorem State.raise_ports (s : State) (x : Nat) (t : Tu) (b : Bool) (m : Nat) : (s.raise x t b m).ports = s.ports := rfl
@[simp] theorem State.raise_segs (s : State) (x : Nat) (t : Tu) (b : Bool) (m : Nat) : (s.raise x t b m).segs = s.segs := rfl
@[simp] theorem State.raise_seqs (s : State) (x : Nat) (t : Tu) (b : Bool) (m : Nat) : (s.raise x t b m).seqs = s.seqs := rfl
@[simp] theorem State.raise_tsPending (s : State) (x : Nat) (t : Tu) (b : Bool) (m : Nat) : (s.raise x t b m).tsPending = s.tsPending := rfl
@[simp] theorem State.raise_frames0 (s : State) (x : Nat) (t : Tu) (b : Bool) (m : Nat) : (s.raise x t b m).frames0 = s.frames0 := rfl
@[simp] theorem State.raise_frames1 (s : State) (x : Nat) (t : Tu) (b : Bool) (m : Nat) : (s.raise x t b m).frames1 = s.frames1 := rfl
@[simp] theorem State.raise_nextEntry (s : State) (x : Nat) (t : Tu) (b : Bool) (m : Nat) : (s.raise x t b m).nextEntry = s.nextEntry := rfl
@[simp] theorem State.raise_ethOut (s : State) (x : Nat) (t : Tu) (b : Bool) (m : Nat) : (s.raise x t b m).ethOut = s.ethOut := rfl
@[simp] theorem State.raise_chans (s : State) (x : Nat) (t : Tu) (b : Bool) (m : Nat) : (s.raise x t b m).chans = s.chans := rfl
@[simp] theorem State.raise_edges (s : State) (x : Nat) (t : Tu) (b : Bool) (m : Nat) : (s.raise x t b m).edges = s.edges := rfl
@[simp] theorem State.raise_lanes (s : State) (x : Nat) (t : Tu) (b : Bool) (m : Nat) : (s.raise x t b m).lanes = s.lanes := rfl
@[simp] theorem State.raise_patch (s : State) (x : Nat) (t : Tu) (b : Bool) (m : Nat) : (s.raise x t b m).patch = s.patch := rfl
@[simp] theorem State.raise_crier (s : State) (x : Nat) (t : Tu) (b : Bool) (m : Nat) : (s.raise x t b m).crier = s.crier := rfl
@[simp] theorem State.raise_factApplied (s : State) (x : Nat) (t : Tu) (b : Bool) (m : Nat) : (s.raise x t b m).factApplied = s.factApplied := rfl
@[simp] theorem State.raise_ledgRecs (s : State) (x : Nat) (t : Tu) (b : Bool) (m : Nat) : (s.raise x t b m).ledgRecs = s.ledgRecs := rfl
@[simp] theorem State.raise_ledgQueue (s : State) (x : Nat) (t : Tu) (b : Bool) (m : Nat) : (s.raise x t b m).ledgQueue = s.ledgQueue := rfl
@[simp] theorem State.raise_ledgWrite (s : State) (x : Nat) (t : Tu) (b : Bool) (m : Nat) : (s.raise x t b m).ledgWrite = s.ledgWrite := rfl
@[simp] theorem State.raise_laneTxOff (s : State) (x : Nat) (t : Tu) (b : Bool) (m : Nat) : (s.raise x t b m).laneTxOff = s.laneTxOff := rfl
@[simp] theorem State.raise_safeEntry (s : State) (x : Nat) (t : Tu) (b : Bool) (m : Nat) : (s.raise x t b m).safeEntry = s.safeEntry := rfl
@[simp] theorem State.raise_holdEnd (s : State) (x : Nat) (t : Tu) (b : Bool) (m : Nat) : (s.raise x t b m).holdEnd = s.holdEnd := rfl
@[simp] theorem State.raise_warnSince (s : State) (x : Nat) (t : Tu) (b : Bool) (m : Nat) : (s.raise x t b m).warnSince = s.warnSince := rfl
@[simp] theorem State.raise_resets (s : State) (x : Nat) (t : Tu) (b : Bool) (m : Nat) : (s.raise x t b m).resets = s.resets := rfl
@[simp] theorem State.raise_watches (s : State) (x : Nat) (t : Tu) (b : Bool) (m : Nat) : (s.raise x t b m).watches = s.watches := rfl
@[simp] theorem State.raise_conc (s : State) (x : Nat) (t : Tu) (b : Bool) (m : Nat) : (s.raise x t b m).conc = s.conc := rfl
@[simp] theorem State.raise_gates (s : State) (x : Nat) (t : Tu) (b : Bool) (m : Nat) : (s.raise x t b m).gates = s.gates := rfl
@[simp] theorem State.raise_srcEdges (s : State) (x : Nat) (t : Tu) (b : Bool) (m : Nat) : (s.raise x t b m).srcEdges = s.srcEdges := rfl
@[simp] theorem State.raise_turn (s : State) (x : Nat) (t : Tu) (b : Bool) (m : Nat) : (s.raise x t b m).turn = s.turn := rfl
@[simp] theorem State.raise_ssms (s : State) (x : Nat) (t : Tu) (b : Bool) (m : Nat) : (s.raise x t b m).ssms = s.ssms := rfl
@[simp] theorem State.raise_driftRows (s : State) (x : Nat) (t : Tu) (b : Bool) (m : Nat) : (s.raise x t b m).driftRows = s.driftRows := rfl
@[simp] theorem State.raise_handledAt (s : State) (x : Nat) (t : Tu) (b : Bool) (m : Nat) : (s.raise x t b m).handledAt = s.handledAt := rfl
@[simp] theorem State.raise_calQueue (s : State) (x : Nat) (t : Tu) (b : Bool) (m : Nat) : (s.raise x t b m).calQueue = s.calQueue := rfl
@[simp] theorem State.raise_oven (s : State) (x : Nat) (t : Tu) (b : Bool) (m : Nat) : (s.raise x t b m).oven = s.oven := rfl
@[simp] theorem State.raise_masterOven (s : State) (x : Nat) (t : Tu) (b : Bool) (m : Nat) : (s.raise x t b m).masterOven = s.masterOven := rfl
@[simp] theorem State.raise_joints (s : State) (x : Nat) (t : Tu) (b : Bool) (m : Nat) : (s.raise x t b m).joints = s.joints := rfl
@[simp] theorem State.raise_gsl (s : State) (x : Nat) (t : Tu) (b : Bool) (m : Nat) : (s.raise x t b m).gsl = s.gsl := rfl
@[simp] theorem State.raise_gslIn (s : State) (x : Nat) (t : Tu) (b : Bool) (m : Nat) : (s.raise x t b m).gslIn = s.gslIn := rfl
@[simp] theorem State.raise_peers (s : State) (x : Nat) (t : Tu) (b : Bool) (m : Nat) : (s.raise x t b m).peers = s.peers := rfl
@[simp] theorem State.raise_electAt (s : State) (x : Nat) (t : Tu) (b : Bool) (m : Nat) : (s.raise x t b m).electAt = s.electAt := rfl
@[simp] theorem State.raise_members (s : State) (x : Nat) (t : Tu) (b : Bool) (m : Nat) : (s.raise x t b m).members = s.members := rfl
@[simp] theorem State.raise_linksDown (s : State) (x : Nat) (t : Tu) (b : Bool) (m : Nat) : (s.raise x t b m).linksDown = s.linksDown := rfl
@[simp] theorem State.raise_timeHalf (s : State) (x : Nat) (t : Tu) (b : Bool) (m : Nat) : (s.raise x t b m).timeHalf = s.timeHalf := rfl
@[simp] theorem State.raise_timeNext (s : State) (x : Nat) (t : Tu) (b : Bool) (m : Nat) : (s.raise x t b m).timeNext = s.timeNext := rfl
@[simp] theorem State.raise_timeSet (s : State) (x : Nat) (t : Tu) (b : Bool) (m : Nat) : (s.raise x t b m).timeSet = s.timeSet := rfl
@[simp] theorem State.raise_servo (s : State) (x : Nat) (t : Tu) (b : Bool) (m : Nat) : (s.raise x t b m).servo = s.servo := rfl
@[simp] theorem State.raise_ptpRate (s : State) (x : Nat) (t : Tu) (b : Bool) (m : Nat) : (s.raise x t b m).ptpRate = s.ptpRate := rfl
@[simp] theorem State.raise_idConflict (s : State) (x : Nat) (t : Tu) (b : Bool) (m : Nat) : (s.raise x t b m).idConflict = s.idConflict := rfl
@[simp] theorem State.raise_hallCfg (s : State) (x : Nat) (t : Tu) (b : Bool) (m : Nat) : (s.raise x t b m).hallCfg = s.hallCfg := rfl
@[simp] theorem State.raise_crierDrv (s : State) (x : Nat) (t : Tu) (b : Bool) (m : Nat) : (s.raise x t b m).crierDrv = s.crierDrv := rfl
@[simp] theorem State.raise_crierWait (s : State) (x : Nat) (t : Tu) (b : Bool) (m : Nat) : (s.raise x t b m).crierWait = s.crierWait := rfl
@[simp] theorem State.raise_pulses (s : State) (x : Nat) (t : Tu) (b : Bool) (m : Nat) : (s.raise x t b m).pulses = s.pulses := rfl
@[simp] theorem State.raise_crierCfg (s : State) (x : Nat) (t : Tu) (b : Bool) (m : Nat) : (s.raise x t b m).crierCfg = s.crierCfg := rfl
@[simp] theorem State.raise_crierNow (s : State) (x : Nat) (t : Tu) (b : Bool) (m : Nat) : (s.raise x t b m).crierNow = s.crierNow := rfl
@[simp] theorem State.raise_postponed (s : State) (x : Nat) (t : Tu) (b : Bool) (m : Nat) : (s.raise x t b m).postponed = s.postponed := rfl
@[simp] theorem State.raise_awn (s : State) (x : Nat) (t : Tu) (b : Bool) (m : Nat) : (s.raise x t b m).awn = s.awn := rfl
@[simp] theorem State.raise_items (s : State) (x : Nat) (t : Tu) (b : Bool) (m : Nat) : (s.raise x t b m).items = s.items := rfl
@[simp] theorem State.raise_graphs (s : State) (x : Nat) (t : Tu) (b : Bool) (m : Nat) : (s.raise x t b m).graphs = s.graphs := rfl
@[simp] theorem State.raise_schedNo (s : State) (x : Nat) (t : Tu) (b : Bool) (m : Nat) : (s.raise x t b m).schedNo = s.schedNo := rfl
@[simp] theorem State.raise_callRet (s : State) (x : Nat) (t : Tu) (b : Bool) (m : Nat) : (s.raise x t b m).callRet = s.callRet := rfl
@[simp] theorem State.raise_l1 (s : State) (x : Nat) (t : Tu) (b : Bool) (m : Nat) : (s.raise x t b m).l1 = s.l1 := rfl
@[simp] theorem State.raise_cohWait (s : State) (x : Nat) (t : Tu) (b : Bool) (m : Nat) : (s.raise x t b m).cohWait = s.cohWait := rfl
@[simp] theorem State.raise_recalls (s : State) (x : Nat) (t : Tu) (b : Bool) (m : Nat) : (s.raise x t b m).recalls = s.recalls := rfl
@[simp] theorem State.raise_losers (s : State) (x : Nat) (t : Tu) (b : Bool) (m : Nat) : (s.raise x t b m).losers = s.losers := rfl
@[simp] theorem State.raise_regions (s : State) (x : Nat) (t : Tu) (b : Bool) (m : Nat) : (s.raise x t b m).regions = s.regions := rfl
@[simp] theorem State.raise_arbs (s : State) (x : Nat) (t : Tu) (b : Bool) (m : Nat) : (s.raise x t b m).arbs = s.arbs := rfl
@[simp] theorem State.raise_debt (s : State) (x : Nat) (t : Tu) (b : Bool) (m : Nat) : (s.raise x t b m).debt = s.debt := rfl
@[simp] theorem State.raise_sref (s : State) (x : Nat) (t : Tu) (b : Bool) (m : Nat) : (s.raise x t b m).sref = s.sref := rfl
@[simp] theorem State.raise_srefAt (s : State) (x : Nat) (t : Tu) (b : Bool) (m : Nat) : (s.raise x t b m).srefAt = s.srefAt := rfl
@[simp] theorem State.raise_openRows (s : State) (x : Nat) (t : Tu) (b : Bool) (m : Nat) : (s.raise x t b m).openRows = s.openRows := rfl
@[simp] theorem State.raise_adcs (s : State) (x : Nat) (t : Tu) (b : Bool) (m : Nat) : (s.raise x t b m).adcs = s.adcs := rfl
@[simp] theorem State.raise_results (s : State) (x : Nat) (t : Tu) (b : Bool) (m : Nat) : (s.raise x t b m).results = s.results := rfl
@[simp] theorem State.raise_safetyDue (s : State) (x : Nat) (t : Tu) (b : Bool) (m : Nat) : (s.raise x t b m).safetyDue = s.safetyDue := rfl
@[simp] theorem State.raise_safetyRes (s : State) (x : Nat) (t : Tu) (b : Bool) (m : Nat) : (s.raise x t b m).safetyRes = s.safetyRes := rfl
@[simp] theorem State.raise_calRun (s : State) (x : Nat) (t : Tu) (b : Bool) (m : Nat) : (s.raise x t b m).calRun = s.calRun := rfl
@[simp] theorem State.raise_energy (s : State) (x : Nat) (t : Tu) (b : Bool) (m : Nat) : (s.raise x t b m).energy = s.energy := rfl
@[simp] theorem State.raise_p4Req (s : State) (x : Nat) (t : Tu) (b : Bool) (m : Nat) : (s.raise x t b m).p4Req = s.p4Req := rfl
@[simp] theorem State.raise_p4Event (s : State) (x : Nat) (t : Tu) (b : Bool) (m : Nat) : (s.raise x t b m).p4Event = s.p4Event := rfl
@[simp] theorem State.raise_inReset (s : State) (x : Nat) (t : Tu) (b : Bool) (m : Nat) : (s.raise x t b m).inReset = s.inReset := rfl
@[simp] theorem State.raise_perstLow (s : State) (x : Nat) (t : Tu) (b : Bool) (m : Nat) : (s.raise x t b m).perstLow = s.perstLow := rfl
@[simp] theorem State.raise_resetNLow (s : State) (x : Nat) (t : Tu) (b : Bool) (m : Nat) : (s.raise x t b m).resetNLow = s.resetNLow := rfl
@[simp] theorem State.raise_powerGood (s : State) (x : Nat) (t : Tu) (b : Bool) (m : Nat) : (s.raise x t b m).powerGood = s.powerGood := rfl
@[simp] theorem State.raise_pushing (s : State) (x : Nat) (t : Tu) (b : Bool) (m : Nat) : (s.raise x t b m).pushing = s.pushing := rfl
@[simp] theorem State.raise_wdtMs (s : State) (x : Nat) (t : Tu) (b : Bool) (m : Nat) : (s.raise x t b m).wdtMs = s.wdtMs := rfl
@[simp] theorem State.raise_wdtFrom (s : State) (x : Nat) (t : Tu) (b : Bool) (m : Nat) : (s.raise x t b m).wdtFrom = s.wdtFrom := rfl
@[simp] theorem State.raise_ledgTorn (s : State) (x : Nat) (t : Tu) (b : Bool) (m : Nat) : (s.raise x t b m).ledgTorn = s.ledgTorn := rfl
@[simp] theorem State.raise_bar4Log2 (s : State) (x : Nat) (t : Tu) (b : Bool) (m : Nat) : (s.raise x t b m).bar4Log2 = s.bar4Log2 := rfl
@[simp] theorem State.raise_pending (s : State) (x : Nat) (t : Tu) (b : Bool) (m : Nat) : (s.raise x t b m).pending = s.pending := rfl

@[simp] theorem State.detect_regs (s : State) (d : Detection) : (s.detect d).regs = s.regs := rfl
@[simp] theorem State.detect_mem (s : State) (d : Detection) : (s.detect d).mem = s.mem := rfl
@[simp] theorem State.detect_poison (s : State) (d : Detection) : (s.detect d).poison = s.poison := rfl
@[simp] theorem State.detect_fr (s : State) (d : Detection) : (s.detect d).fr = s.fr := rfl
@[simp] theorem State.detect_frRuns (s : State) (d : Detection) : (s.detect d).frRuns = s.frRuns := rfl
@[simp] theorem State.detect_free (s : State) (d : Detection) : (s.detect d).free = s.free := rfl
@[simp] theorem State.detect_booted (s : State) (d : Detection) : (s.detect d).booted = s.booted := rfl
@[simp] theorem State.detect_rdata (s : State) (d : Detection) : (s.detect d).rdata = s.rdata := rfl
@[simp] theorem State.detect_latch (s : State) (d : Detection) : (s.detect d).latch = s.latch := rfl
@[simp] theorem State.detect_rstat (s : State) (d : Detection) : (s.detect d).rstat = s.rstat := rfl
@[simp] theorem State.detect_funcs (s : State) (d : Detection) : (s.detect d).funcs = s.funcs := rfl
@[simp] theorem State.detect_numVfs (s : State) (d : Detection) : (s.detect d).numVfs = s.numVfs := rfl
@[simp] theorem State.detect_ari (s : State) (d : Detection) : (s.detect d).ari = s.ari := rfl
@[simp] theorem State.detect_vfEnable (s : State) (d : Detection) : (s.detect d).vfEnable = s.vfEnable := rfl
@[simp] theorem State.detect_stalls (s : State) (d : Detection) : (s.detect d).stalls = s.stalls := rfl
@[simp] theorem State.detect_works (s : State) (d : Detection) : (s.detect d).works = s.works := rfl
@[simp] theorem State.detect_nextWork (s : State) (d : Detection) : (s.detect d).nextWork = s.nextWork := rfl
@[simp] theorem State.detect_devAllowance (s : State) (d : Detection) : (s.detect d).devAllowance = s.devAllowance := rfl
@[simp] theorem State.detect_receipts (s : State) (d : Detection) : (s.detect d).receipts = s.receipts := rfl
@[simp] theorem State.detect_donePaces (s : State) (d : Detection) : (s.detect d).donePaces = s.donePaces := rfl
@[simp] theorem State.detect_tx (s : State) (d : Detection) : (s.detect d).tx = s.tx := rfl
@[simp] theorem State.detect_triggers (s : State) (d : Detection) : (s.detect d).triggers = s.triggers := rfl
@[simp] theorem State.detect_raiseNo (s : State) (d : Detection) : (s.detect d).raiseNo = s.raiseNo := rfl
@[simp] theorem State.detect_events (s : State) (d : Detection) : (s.detect d).events = s.events := rfl
@[simp] theorem State.detect_arrivals (s : State) (d : Detection) : (s.detect d).arrivals = s.arrivals := rfl
@[simp] theorem State.detect_lastArrival (s : State) (d : Detection) : (s.detect d).lastArrival = s.lastArrival := rfl
@[simp] theorem State.detect_detections (s : State) (d : Detection) : (s.detect d).detections = s.detections ++ [{ d with at_ := s.fr }] := rfl
@[simp] theorem State.detect_ledgerEvents (s : State) (d : Detection) : (s.detect d).ledgerEvents = s.ledgerEvents := rfl
@[simp] theorem State.detect_ports (s : State) (d : Detection) : (s.detect d).ports = s.ports := rfl
@[simp] theorem State.detect_segs (s : State) (d : Detection) : (s.detect d).segs = s.segs := rfl
@[simp] theorem State.detect_seqs (s : State) (d : Detection) : (s.detect d).seqs = s.seqs := rfl
@[simp] theorem State.detect_tsPending (s : State) (d : Detection) : (s.detect d).tsPending = s.tsPending := rfl
@[simp] theorem State.detect_frames0 (s : State) (d : Detection) : (s.detect d).frames0 = s.frames0 := rfl
@[simp] theorem State.detect_frames1 (s : State) (d : Detection) : (s.detect d).frames1 = s.frames1 := rfl
@[simp] theorem State.detect_nextEntry (s : State) (d : Detection) : (s.detect d).nextEntry = s.nextEntry := rfl
@[simp] theorem State.detect_ethOut (s : State) (d : Detection) : (s.detect d).ethOut = s.ethOut := rfl
@[simp] theorem State.detect_chans (s : State) (d : Detection) : (s.detect d).chans = s.chans := rfl
@[simp] theorem State.detect_edges (s : State) (d : Detection) : (s.detect d).edges = s.edges := rfl
@[simp] theorem State.detect_lanes (s : State) (d : Detection) : (s.detect d).lanes = s.lanes := rfl
@[simp] theorem State.detect_patch (s : State) (d : Detection) : (s.detect d).patch = s.patch := rfl
@[simp] theorem State.detect_crier (s : State) (d : Detection) : (s.detect d).crier = s.crier := rfl
@[simp] theorem State.detect_factApplied (s : State) (d : Detection) : (s.detect d).factApplied = s.factApplied := rfl
@[simp] theorem State.detect_ledgRecs (s : State) (d : Detection) : (s.detect d).ledgRecs = s.ledgRecs := rfl
@[simp] theorem State.detect_ledgQueue (s : State) (d : Detection) : (s.detect d).ledgQueue = s.ledgQueue := rfl
@[simp] theorem State.detect_ledgWrite (s : State) (d : Detection) : (s.detect d).ledgWrite = s.ledgWrite := rfl
@[simp] theorem State.detect_laneTxOff (s : State) (d : Detection) : (s.detect d).laneTxOff = s.laneTxOff := rfl
@[simp] theorem State.detect_safeEntry (s : State) (d : Detection) : (s.detect d).safeEntry = s.safeEntry := rfl
@[simp] theorem State.detect_holdEnd (s : State) (d : Detection) : (s.detect d).holdEnd = s.holdEnd := rfl
@[simp] theorem State.detect_warnSince (s : State) (d : Detection) : (s.detect d).warnSince = s.warnSince := rfl
@[simp] theorem State.detect_resets (s : State) (d : Detection) : (s.detect d).resets = s.resets := rfl
@[simp] theorem State.detect_watches (s : State) (d : Detection) : (s.detect d).watches = s.watches := rfl
@[simp] theorem State.detect_conc (s : State) (d : Detection) : (s.detect d).conc = s.conc := rfl
@[simp] theorem State.detect_gates (s : State) (d : Detection) : (s.detect d).gates = s.gates := rfl
@[simp] theorem State.detect_srcEdges (s : State) (d : Detection) : (s.detect d).srcEdges = s.srcEdges := rfl
@[simp] theorem State.detect_turn (s : State) (d : Detection) : (s.detect d).turn = s.turn := rfl
@[simp] theorem State.detect_ssms (s : State) (d : Detection) : (s.detect d).ssms = s.ssms := rfl
@[simp] theorem State.detect_driftRows (s : State) (d : Detection) : (s.detect d).driftRows = s.driftRows := rfl
@[simp] theorem State.detect_handledAt (s : State) (d : Detection) : (s.detect d).handledAt = s.handledAt := rfl
@[simp] theorem State.detect_calQueue (s : State) (d : Detection) : (s.detect d).calQueue = s.calQueue := rfl
@[simp] theorem State.detect_oven (s : State) (d : Detection) : (s.detect d).oven = s.oven := rfl
@[simp] theorem State.detect_masterOven (s : State) (d : Detection) : (s.detect d).masterOven = s.masterOven := rfl
@[simp] theorem State.detect_joints (s : State) (d : Detection) : (s.detect d).joints = s.joints := rfl
@[simp] theorem State.detect_gsl (s : State) (d : Detection) : (s.detect d).gsl = s.gsl := rfl
@[simp] theorem State.detect_gslIn (s : State) (d : Detection) : (s.detect d).gslIn = s.gslIn := rfl
@[simp] theorem State.detect_peers (s : State) (d : Detection) : (s.detect d).peers = s.peers := rfl
@[simp] theorem State.detect_electAt (s : State) (d : Detection) : (s.detect d).electAt = s.electAt := rfl
@[simp] theorem State.detect_members (s : State) (d : Detection) : (s.detect d).members = s.members := rfl
@[simp] theorem State.detect_linksDown (s : State) (d : Detection) : (s.detect d).linksDown = s.linksDown := rfl
@[simp] theorem State.detect_timeHalf (s : State) (d : Detection) : (s.detect d).timeHalf = s.timeHalf := rfl
@[simp] theorem State.detect_timeNext (s : State) (d : Detection) : (s.detect d).timeNext = s.timeNext := rfl
@[simp] theorem State.detect_timeSet (s : State) (d : Detection) : (s.detect d).timeSet = s.timeSet := rfl
@[simp] theorem State.detect_servo (s : State) (d : Detection) : (s.detect d).servo = s.servo := rfl
@[simp] theorem State.detect_ptpRate (s : State) (d : Detection) : (s.detect d).ptpRate = s.ptpRate := rfl
@[simp] theorem State.detect_idConflict (s : State) (d : Detection) : (s.detect d).idConflict = s.idConflict := rfl
@[simp] theorem State.detect_hallCfg (s : State) (d : Detection) : (s.detect d).hallCfg = s.hallCfg := rfl
@[simp] theorem State.detect_crierDrv (s : State) (d : Detection) : (s.detect d).crierDrv = s.crierDrv := rfl
@[simp] theorem State.detect_crierWait (s : State) (d : Detection) : (s.detect d).crierWait = s.crierWait := rfl
@[simp] theorem State.detect_pulses (s : State) (d : Detection) : (s.detect d).pulses = s.pulses := rfl
@[simp] theorem State.detect_crierCfg (s : State) (d : Detection) : (s.detect d).crierCfg = s.crierCfg := rfl
@[simp] theorem State.detect_crierNow (s : State) (d : Detection) : (s.detect d).crierNow = s.crierNow := rfl
@[simp] theorem State.detect_postponed (s : State) (d : Detection) : (s.detect d).postponed = s.postponed := rfl
@[simp] theorem State.detect_awn (s : State) (d : Detection) : (s.detect d).awn = s.awn := rfl
@[simp] theorem State.detect_items (s : State) (d : Detection) : (s.detect d).items = s.items := rfl
@[simp] theorem State.detect_graphs (s : State) (d : Detection) : (s.detect d).graphs = s.graphs := rfl
@[simp] theorem State.detect_schedNo (s : State) (d : Detection) : (s.detect d).schedNo = s.schedNo := rfl
@[simp] theorem State.detect_callRet (s : State) (d : Detection) : (s.detect d).callRet = s.callRet := rfl
@[simp] theorem State.detect_l1 (s : State) (d : Detection) : (s.detect d).l1 = s.l1 := rfl
@[simp] theorem State.detect_cohWait (s : State) (d : Detection) : (s.detect d).cohWait = s.cohWait := rfl
@[simp] theorem State.detect_recalls (s : State) (d : Detection) : (s.detect d).recalls = s.recalls := rfl
@[simp] theorem State.detect_losers (s : State) (d : Detection) : (s.detect d).losers = s.losers := rfl
@[simp] theorem State.detect_regions (s : State) (d : Detection) : (s.detect d).regions = s.regions := rfl
@[simp] theorem State.detect_arbs (s : State) (d : Detection) : (s.detect d).arbs = s.arbs := rfl
@[simp] theorem State.detect_debt (s : State) (d : Detection) : (s.detect d).debt = s.debt := rfl
@[simp] theorem State.detect_sref (s : State) (d : Detection) : (s.detect d).sref = s.sref := rfl
@[simp] theorem State.detect_srefAt (s : State) (d : Detection) : (s.detect d).srefAt = s.srefAt := rfl
@[simp] theorem State.detect_openRows (s : State) (d : Detection) : (s.detect d).openRows = s.openRows := rfl
@[simp] theorem State.detect_adcs (s : State) (d : Detection) : (s.detect d).adcs = s.adcs := rfl
@[simp] theorem State.detect_results (s : State) (d : Detection) : (s.detect d).results = s.results := rfl
@[simp] theorem State.detect_safetyDue (s : State) (d : Detection) : (s.detect d).safetyDue = s.safetyDue := rfl
@[simp] theorem State.detect_safetyRes (s : State) (d : Detection) : (s.detect d).safetyRes = s.safetyRes := rfl
@[simp] theorem State.detect_calRun (s : State) (d : Detection) : (s.detect d).calRun = s.calRun := rfl
@[simp] theorem State.detect_energy (s : State) (d : Detection) : (s.detect d).energy = s.energy := rfl
@[simp] theorem State.detect_p4Req (s : State) (d : Detection) : (s.detect d).p4Req = s.p4Req := rfl
@[simp] theorem State.detect_p4Event (s : State) (d : Detection) : (s.detect d).p4Event = s.p4Event := rfl
@[simp] theorem State.detect_inReset (s : State) (d : Detection) : (s.detect d).inReset = s.inReset := rfl
@[simp] theorem State.detect_perstLow (s : State) (d : Detection) : (s.detect d).perstLow = s.perstLow := rfl
@[simp] theorem State.detect_resetNLow (s : State) (d : Detection) : (s.detect d).resetNLow = s.resetNLow := rfl
@[simp] theorem State.detect_powerGood (s : State) (d : Detection) : (s.detect d).powerGood = s.powerGood := rfl
@[simp] theorem State.detect_pushing (s : State) (d : Detection) : (s.detect d).pushing = s.pushing := rfl
@[simp] theorem State.detect_wdtMs (s : State) (d : Detection) : (s.detect d).wdtMs = s.wdtMs := rfl
@[simp] theorem State.detect_wdtFrom (s : State) (d : Detection) : (s.detect d).wdtFrom = s.wdtFrom := rfl
@[simp] theorem State.detect_ledgTorn (s : State) (d : Detection) : (s.detect d).ledgTorn = s.ledgTorn := rfl
@[simp] theorem State.detect_bar4Log2 (s : State) (d : Detection) : (s.detect d).bar4Log2 = s.bar4Log2 := rfl
@[simp] theorem State.detect_pending (s : State) (d : Detection) : (s.detect d).pending = s.pending := rfl

@[simp] theorem State.ledger_regs (s : State) (e : LedgerEv) : (s.ledger e).regs = s.regs := rfl
@[simp] theorem State.ledger_mem (s : State) (e : LedgerEv) : (s.ledger e).mem = s.mem := rfl
@[simp] theorem State.ledger_poison (s : State) (e : LedgerEv) : (s.ledger e).poison = s.poison := rfl
@[simp] theorem State.ledger_fr (s : State) (e : LedgerEv) : (s.ledger e).fr = s.fr := rfl
@[simp] theorem State.ledger_frRuns (s : State) (e : LedgerEv) : (s.ledger e).frRuns = s.frRuns := rfl
@[simp] theorem State.ledger_free (s : State) (e : LedgerEv) : (s.ledger e).free = s.free := rfl
@[simp] theorem State.ledger_booted (s : State) (e : LedgerEv) : (s.ledger e).booted = s.booted := rfl
@[simp] theorem State.ledger_rdata (s : State) (e : LedgerEv) : (s.ledger e).rdata = s.rdata := rfl
@[simp] theorem State.ledger_latch (s : State) (e : LedgerEv) : (s.ledger e).latch = s.latch := rfl
@[simp] theorem State.ledger_rstat (s : State) (e : LedgerEv) : (s.ledger e).rstat = s.rstat := rfl
@[simp] theorem State.ledger_funcs (s : State) (e : LedgerEv) : (s.ledger e).funcs = s.funcs := rfl
@[simp] theorem State.ledger_numVfs (s : State) (e : LedgerEv) : (s.ledger e).numVfs = s.numVfs := rfl
@[simp] theorem State.ledger_ari (s : State) (e : LedgerEv) : (s.ledger e).ari = s.ari := rfl
@[simp] theorem State.ledger_vfEnable (s : State) (e : LedgerEv) : (s.ledger e).vfEnable = s.vfEnable := rfl
@[simp] theorem State.ledger_stalls (s : State) (e : LedgerEv) : (s.ledger e).stalls = s.stalls := rfl
@[simp] theorem State.ledger_works (s : State) (e : LedgerEv) : (s.ledger e).works = s.works := rfl
@[simp] theorem State.ledger_nextWork (s : State) (e : LedgerEv) : (s.ledger e).nextWork = s.nextWork := rfl
@[simp] theorem State.ledger_devAllowance (s : State) (e : LedgerEv) : (s.ledger e).devAllowance = s.devAllowance := rfl
@[simp] theorem State.ledger_receipts (s : State) (e : LedgerEv) : (s.ledger e).receipts = s.receipts := rfl
@[simp] theorem State.ledger_donePaces (s : State) (e : LedgerEv) : (s.ledger e).donePaces = s.donePaces := rfl
@[simp] theorem State.ledger_tx (s : State) (e : LedgerEv) : (s.ledger e).tx = s.tx := rfl
@[simp] theorem State.ledger_triggers (s : State) (e : LedgerEv) : (s.ledger e).triggers = s.triggers := rfl
@[simp] theorem State.ledger_raiseNo (s : State) (e : LedgerEv) : (s.ledger e).raiseNo = s.raiseNo := rfl
@[simp] theorem State.ledger_events (s : State) (e : LedgerEv) : (s.ledger e).events = s.events := rfl
@[simp] theorem State.ledger_arrivals (s : State) (e : LedgerEv) : (s.ledger e).arrivals = s.arrivals := rfl
@[simp] theorem State.ledger_lastArrival (s : State) (e : LedgerEv) : (s.ledger e).lastArrival = s.lastArrival := rfl
@[simp] theorem State.ledger_detections (s : State) (e : LedgerEv) : (s.ledger e).detections = s.detections := rfl
@[simp] theorem State.ledger_ledgerEvents (s : State) (e : LedgerEv) : (s.ledger e).ledgerEvents = s.ledgerEvents ++ [{ e with at_ := s.fr }] := rfl
@[simp] theorem State.ledger_ports (s : State) (e : LedgerEv) : (s.ledger e).ports = s.ports := rfl
@[simp] theorem State.ledger_segs (s : State) (e : LedgerEv) : (s.ledger e).segs = s.segs := rfl
@[simp] theorem State.ledger_seqs (s : State) (e : LedgerEv) : (s.ledger e).seqs = s.seqs := rfl
@[simp] theorem State.ledger_tsPending (s : State) (e : LedgerEv) : (s.ledger e).tsPending = s.tsPending := rfl
@[simp] theorem State.ledger_frames0 (s : State) (e : LedgerEv) : (s.ledger e).frames0 = s.frames0 := rfl
@[simp] theorem State.ledger_frames1 (s : State) (e : LedgerEv) : (s.ledger e).frames1 = s.frames1 := rfl
@[simp] theorem State.ledger_nextEntry (s : State) (e : LedgerEv) : (s.ledger e).nextEntry = s.nextEntry := rfl
@[simp] theorem State.ledger_ethOut (s : State) (e : LedgerEv) : (s.ledger e).ethOut = s.ethOut := rfl
@[simp] theorem State.ledger_chans (s : State) (e : LedgerEv) : (s.ledger e).chans = s.chans := rfl
@[simp] theorem State.ledger_edges (s : State) (e : LedgerEv) : (s.ledger e).edges = s.edges := rfl
@[simp] theorem State.ledger_lanes (s : State) (e : LedgerEv) : (s.ledger e).lanes = s.lanes := rfl
@[simp] theorem State.ledger_patch (s : State) (e : LedgerEv) : (s.ledger e).patch = s.patch := rfl
@[simp] theorem State.ledger_crier (s : State) (e : LedgerEv) : (s.ledger e).crier = s.crier := rfl
@[simp] theorem State.ledger_factApplied (s : State) (e : LedgerEv) : (s.ledger e).factApplied = s.factApplied := rfl
@[simp] theorem State.ledger_ledgRecs (s : State) (e : LedgerEv) : (s.ledger e).ledgRecs = s.ledgRecs := rfl
@[simp] theorem State.ledger_ledgQueue (s : State) (e : LedgerEv) : (s.ledger e).ledgQueue = s.ledgQueue := rfl
@[simp] theorem State.ledger_ledgWrite (s : State) (e : LedgerEv) : (s.ledger e).ledgWrite = s.ledgWrite := rfl
@[simp] theorem State.ledger_laneTxOff (s : State) (e : LedgerEv) : (s.ledger e).laneTxOff = s.laneTxOff := rfl
@[simp] theorem State.ledger_safeEntry (s : State) (e : LedgerEv) : (s.ledger e).safeEntry = s.safeEntry := rfl
@[simp] theorem State.ledger_holdEnd (s : State) (e : LedgerEv) : (s.ledger e).holdEnd = s.holdEnd := rfl
@[simp] theorem State.ledger_warnSince (s : State) (e : LedgerEv) : (s.ledger e).warnSince = s.warnSince := rfl
@[simp] theorem State.ledger_resets (s : State) (e : LedgerEv) : (s.ledger e).resets = s.resets := rfl
@[simp] theorem State.ledger_watches (s : State) (e : LedgerEv) : (s.ledger e).watches = s.watches := rfl
@[simp] theorem State.ledger_conc (s : State) (e : LedgerEv) : (s.ledger e).conc = s.conc := rfl
@[simp] theorem State.ledger_gates (s : State) (e : LedgerEv) : (s.ledger e).gates = s.gates := rfl
@[simp] theorem State.ledger_srcEdges (s : State) (e : LedgerEv) : (s.ledger e).srcEdges = s.srcEdges := rfl
@[simp] theorem State.ledger_turn (s : State) (e : LedgerEv) : (s.ledger e).turn = s.turn := rfl
@[simp] theorem State.ledger_ssms (s : State) (e : LedgerEv) : (s.ledger e).ssms = s.ssms := rfl
@[simp] theorem State.ledger_driftRows (s : State) (e : LedgerEv) : (s.ledger e).driftRows = s.driftRows := rfl
@[simp] theorem State.ledger_handledAt (s : State) (e : LedgerEv) : (s.ledger e).handledAt = s.handledAt := rfl
@[simp] theorem State.ledger_calQueue (s : State) (e : LedgerEv) : (s.ledger e).calQueue = s.calQueue := rfl
@[simp] theorem State.ledger_oven (s : State) (e : LedgerEv) : (s.ledger e).oven = s.oven := rfl
@[simp] theorem State.ledger_masterOven (s : State) (e : LedgerEv) : (s.ledger e).masterOven = s.masterOven := rfl
@[simp] theorem State.ledger_joints (s : State) (e : LedgerEv) : (s.ledger e).joints = s.joints := rfl
@[simp] theorem State.ledger_gsl (s : State) (e : LedgerEv) : (s.ledger e).gsl = s.gsl := rfl
@[simp] theorem State.ledger_gslIn (s : State) (e : LedgerEv) : (s.ledger e).gslIn = s.gslIn := rfl
@[simp] theorem State.ledger_peers (s : State) (e : LedgerEv) : (s.ledger e).peers = s.peers := rfl
@[simp] theorem State.ledger_electAt (s : State) (e : LedgerEv) : (s.ledger e).electAt = s.electAt := rfl
@[simp] theorem State.ledger_members (s : State) (e : LedgerEv) : (s.ledger e).members = s.members := rfl
@[simp] theorem State.ledger_linksDown (s : State) (e : LedgerEv) : (s.ledger e).linksDown = s.linksDown := rfl
@[simp] theorem State.ledger_timeHalf (s : State) (e : LedgerEv) : (s.ledger e).timeHalf = s.timeHalf := rfl
@[simp] theorem State.ledger_timeNext (s : State) (e : LedgerEv) : (s.ledger e).timeNext = s.timeNext := rfl
@[simp] theorem State.ledger_timeSet (s : State) (e : LedgerEv) : (s.ledger e).timeSet = s.timeSet := rfl
@[simp] theorem State.ledger_servo (s : State) (e : LedgerEv) : (s.ledger e).servo = s.servo := rfl
@[simp] theorem State.ledger_ptpRate (s : State) (e : LedgerEv) : (s.ledger e).ptpRate = s.ptpRate := rfl
@[simp] theorem State.ledger_idConflict (s : State) (e : LedgerEv) : (s.ledger e).idConflict = s.idConflict := rfl
@[simp] theorem State.ledger_hallCfg (s : State) (e : LedgerEv) : (s.ledger e).hallCfg = s.hallCfg := rfl
@[simp] theorem State.ledger_crierDrv (s : State) (e : LedgerEv) : (s.ledger e).crierDrv = s.crierDrv := rfl
@[simp] theorem State.ledger_crierWait (s : State) (e : LedgerEv) : (s.ledger e).crierWait = s.crierWait := rfl
@[simp] theorem State.ledger_pulses (s : State) (e : LedgerEv) : (s.ledger e).pulses = s.pulses := rfl
@[simp] theorem State.ledger_crierCfg (s : State) (e : LedgerEv) : (s.ledger e).crierCfg = s.crierCfg := rfl
@[simp] theorem State.ledger_crierNow (s : State) (e : LedgerEv) : (s.ledger e).crierNow = s.crierNow := rfl
@[simp] theorem State.ledger_postponed (s : State) (e : LedgerEv) : (s.ledger e).postponed = s.postponed := rfl
@[simp] theorem State.ledger_awn (s : State) (e : LedgerEv) : (s.ledger e).awn = s.awn := rfl
@[simp] theorem State.ledger_items (s : State) (e : LedgerEv) : (s.ledger e).items = s.items := rfl
@[simp] theorem State.ledger_graphs (s : State) (e : LedgerEv) : (s.ledger e).graphs = s.graphs := rfl
@[simp] theorem State.ledger_schedNo (s : State) (e : LedgerEv) : (s.ledger e).schedNo = s.schedNo := rfl
@[simp] theorem State.ledger_callRet (s : State) (e : LedgerEv) : (s.ledger e).callRet = s.callRet := rfl
@[simp] theorem State.ledger_l1 (s : State) (e : LedgerEv) : (s.ledger e).l1 = s.l1 := rfl
@[simp] theorem State.ledger_cohWait (s : State) (e : LedgerEv) : (s.ledger e).cohWait = s.cohWait := rfl
@[simp] theorem State.ledger_recalls (s : State) (e : LedgerEv) : (s.ledger e).recalls = s.recalls := rfl
@[simp] theorem State.ledger_losers (s : State) (e : LedgerEv) : (s.ledger e).losers = s.losers := rfl
@[simp] theorem State.ledger_regions (s : State) (e : LedgerEv) : (s.ledger e).regions = s.regions := rfl
@[simp] theorem State.ledger_arbs (s : State) (e : LedgerEv) : (s.ledger e).arbs = s.arbs := rfl
@[simp] theorem State.ledger_debt (s : State) (e : LedgerEv) : (s.ledger e).debt = s.debt := rfl
@[simp] theorem State.ledger_sref (s : State) (e : LedgerEv) : (s.ledger e).sref = s.sref := rfl
@[simp] theorem State.ledger_srefAt (s : State) (e : LedgerEv) : (s.ledger e).srefAt = s.srefAt := rfl
@[simp] theorem State.ledger_openRows (s : State) (e : LedgerEv) : (s.ledger e).openRows = s.openRows := rfl
@[simp] theorem State.ledger_adcs (s : State) (e : LedgerEv) : (s.ledger e).adcs = s.adcs := rfl
@[simp] theorem State.ledger_results (s : State) (e : LedgerEv) : (s.ledger e).results = s.results := rfl
@[simp] theorem State.ledger_safetyDue (s : State) (e : LedgerEv) : (s.ledger e).safetyDue = s.safetyDue := rfl
@[simp] theorem State.ledger_safetyRes (s : State) (e : LedgerEv) : (s.ledger e).safetyRes = s.safetyRes := rfl
@[simp] theorem State.ledger_calRun (s : State) (e : LedgerEv) : (s.ledger e).calRun = s.calRun := rfl
@[simp] theorem State.ledger_energy (s : State) (e : LedgerEv) : (s.ledger e).energy = s.energy := rfl
@[simp] theorem State.ledger_p4Req (s : State) (e : LedgerEv) : (s.ledger e).p4Req = s.p4Req := rfl
@[simp] theorem State.ledger_p4Event (s : State) (e : LedgerEv) : (s.ledger e).p4Event = s.p4Event := rfl
@[simp] theorem State.ledger_inReset (s : State) (e : LedgerEv) : (s.ledger e).inReset = s.inReset := rfl
@[simp] theorem State.ledger_perstLow (s : State) (e : LedgerEv) : (s.ledger e).perstLow = s.perstLow := rfl
@[simp] theorem State.ledger_resetNLow (s : State) (e : LedgerEv) : (s.ledger e).resetNLow = s.resetNLow := rfl
@[simp] theorem State.ledger_powerGood (s : State) (e : LedgerEv) : (s.ledger e).powerGood = s.powerGood := rfl
@[simp] theorem State.ledger_pushing (s : State) (e : LedgerEv) : (s.ledger e).pushing = s.pushing := rfl
@[simp] theorem State.ledger_wdtMs (s : State) (e : LedgerEv) : (s.ledger e).wdtMs = s.wdtMs := rfl
@[simp] theorem State.ledger_wdtFrom (s : State) (e : LedgerEv) : (s.ledger e).wdtFrom = s.wdtFrom := rfl
@[simp] theorem State.ledger_ledgTorn (s : State) (e : LedgerEv) : (s.ledger e).ledgTorn = s.ledgTorn := rfl
@[simp] theorem State.ledger_bar4Log2 (s : State) (e : LedgerEv) : (s.ledger e).bar4Log2 = s.bar4Log2 := rfl
@[simp] theorem State.ledger_pending (s : State) (e : LedgerEv) : (s.ledger e).pending = s.pending := rfl

@[simp] theorem State.trigger_regs (s : State) (f v : Nat) : (s.trigger f v).regs = s.regs := rfl
@[simp] theorem State.trigger_mem (s : State) (f v : Nat) : (s.trigger f v).mem = s.mem := rfl
@[simp] theorem State.trigger_poison (s : State) (f v : Nat) : (s.trigger f v).poison = s.poison := rfl
@[simp] theorem State.trigger_fr (s : State) (f v : Nat) : (s.trigger f v).fr = s.fr := rfl
@[simp] theorem State.trigger_frRuns (s : State) (f v : Nat) : (s.trigger f v).frRuns = s.frRuns := rfl
@[simp] theorem State.trigger_free (s : State) (f v : Nat) : (s.trigger f v).free = s.free := rfl
@[simp] theorem State.trigger_booted (s : State) (f v : Nat) : (s.trigger f v).booted = s.booted := rfl
@[simp] theorem State.trigger_rdata (s : State) (f v : Nat) : (s.trigger f v).rdata = s.rdata := rfl
@[simp] theorem State.trigger_latch (s : State) (f v : Nat) : (s.trigger f v).latch = s.latch := rfl
@[simp] theorem State.trigger_rstat (s : State) (f v : Nat) : (s.trigger f v).rstat = s.rstat := rfl
@[simp] theorem State.trigger_funcs (s : State) (f v : Nat) : (s.trigger f v).funcs = s.funcs := rfl
@[simp] theorem State.trigger_numVfs (s : State) (f v : Nat) : (s.trigger f v).numVfs = s.numVfs := rfl
@[simp] theorem State.trigger_ari (s : State) (f v : Nat) : (s.trigger f v).ari = s.ari := rfl
@[simp] theorem State.trigger_vfEnable (s : State) (f v : Nat) : (s.trigger f v).vfEnable = s.vfEnable := rfl
@[simp] theorem State.trigger_stalls (s : State) (f v : Nat) : (s.trigger f v).stalls = s.stalls := rfl
@[simp] theorem State.trigger_works (s : State) (f v : Nat) : (s.trigger f v).works = s.works := rfl
@[simp] theorem State.trigger_nextWork (s : State) (f v : Nat) : (s.trigger f v).nextWork = s.nextWork := rfl
@[simp] theorem State.trigger_devAllowance (s : State) (f v : Nat) : (s.trigger f v).devAllowance = s.devAllowance := rfl
@[simp] theorem State.trigger_receipts (s : State) (f v : Nat) : (s.trigger f v).receipts = s.receipts := rfl
@[simp] theorem State.trigger_donePaces (s : State) (f v : Nat) : (s.trigger f v).donePaces = s.donePaces := rfl
@[simp] theorem State.trigger_tx (s : State) (f v : Nat) : (s.trigger f v).tx = s.tx := rfl
@[simp] theorem State.trigger_triggers (s : State) (f v : Nat) : (s.trigger f v).triggers = s.triggers ++ [{ fn := f, vector := v, no := s.raiseNo }] := rfl
@[simp] theorem State.trigger_raiseNo (s : State) (f v : Nat) : (s.trigger f v).raiseNo = s.raiseNo + 1 := rfl
@[simp] theorem State.trigger_events (s : State) (f v : Nat) : (s.trigger f v).events = s.events := rfl
@[simp] theorem State.trigger_arrivals (s : State) (f v : Nat) : (s.trigger f v).arrivals = s.arrivals := rfl
@[simp] theorem State.trigger_lastArrival (s : State) (f v : Nat) : (s.trigger f v).lastArrival = s.lastArrival := rfl
@[simp] theorem State.trigger_detections (s : State) (f v : Nat) : (s.trigger f v).detections = s.detections := rfl
@[simp] theorem State.trigger_ledgerEvents (s : State) (f v : Nat) : (s.trigger f v).ledgerEvents = s.ledgerEvents := rfl
@[simp] theorem State.trigger_ports (s : State) (f v : Nat) : (s.trigger f v).ports = s.ports := rfl
@[simp] theorem State.trigger_segs (s : State) (f v : Nat) : (s.trigger f v).segs = s.segs := rfl
@[simp] theorem State.trigger_seqs (s : State) (f v : Nat) : (s.trigger f v).seqs = s.seqs := rfl
@[simp] theorem State.trigger_tsPending (s : State) (f v : Nat) : (s.trigger f v).tsPending = s.tsPending := rfl
@[simp] theorem State.trigger_frames0 (s : State) (f v : Nat) : (s.trigger f v).frames0 = s.frames0 := rfl
@[simp] theorem State.trigger_frames1 (s : State) (f v : Nat) : (s.trigger f v).frames1 = s.frames1 := rfl
@[simp] theorem State.trigger_nextEntry (s : State) (f v : Nat) : (s.trigger f v).nextEntry = s.nextEntry := rfl
@[simp] theorem State.trigger_ethOut (s : State) (f v : Nat) : (s.trigger f v).ethOut = s.ethOut := rfl
@[simp] theorem State.trigger_chans (s : State) (f v : Nat) : (s.trigger f v).chans = s.chans := rfl
@[simp] theorem State.trigger_edges (s : State) (f v : Nat) : (s.trigger f v).edges = s.edges := rfl
@[simp] theorem State.trigger_lanes (s : State) (f v : Nat) : (s.trigger f v).lanes = s.lanes := rfl
@[simp] theorem State.trigger_patch (s : State) (f v : Nat) : (s.trigger f v).patch = s.patch := rfl
@[simp] theorem State.trigger_crier (s : State) (f v : Nat) : (s.trigger f v).crier = s.crier := rfl
@[simp] theorem State.trigger_factApplied (s : State) (f v : Nat) : (s.trigger f v).factApplied = s.factApplied := rfl
@[simp] theorem State.trigger_ledgRecs (s : State) (f v : Nat) : (s.trigger f v).ledgRecs = s.ledgRecs := rfl
@[simp] theorem State.trigger_ledgQueue (s : State) (f v : Nat) : (s.trigger f v).ledgQueue = s.ledgQueue := rfl
@[simp] theorem State.trigger_ledgWrite (s : State) (f v : Nat) : (s.trigger f v).ledgWrite = s.ledgWrite := rfl
@[simp] theorem State.trigger_laneTxOff (s : State) (f v : Nat) : (s.trigger f v).laneTxOff = s.laneTxOff := rfl
@[simp] theorem State.trigger_safeEntry (s : State) (f v : Nat) : (s.trigger f v).safeEntry = s.safeEntry := rfl
@[simp] theorem State.trigger_holdEnd (s : State) (f v : Nat) : (s.trigger f v).holdEnd = s.holdEnd := rfl
@[simp] theorem State.trigger_warnSince (s : State) (f v : Nat) : (s.trigger f v).warnSince = s.warnSince := rfl
@[simp] theorem State.trigger_resets (s : State) (f v : Nat) : (s.trigger f v).resets = s.resets := rfl
@[simp] theorem State.trigger_watches (s : State) (f v : Nat) : (s.trigger f v).watches = s.watches := rfl
@[simp] theorem State.trigger_conc (s : State) (f v : Nat) : (s.trigger f v).conc = s.conc := rfl
@[simp] theorem State.trigger_gates (s : State) (f v : Nat) : (s.trigger f v).gates = s.gates := rfl
@[simp] theorem State.trigger_srcEdges (s : State) (f v : Nat) : (s.trigger f v).srcEdges = s.srcEdges := rfl
@[simp] theorem State.trigger_turn (s : State) (f v : Nat) : (s.trigger f v).turn = s.turn := rfl
@[simp] theorem State.trigger_ssms (s : State) (f v : Nat) : (s.trigger f v).ssms = s.ssms := rfl
@[simp] theorem State.trigger_driftRows (s : State) (f v : Nat) : (s.trigger f v).driftRows = s.driftRows := rfl
@[simp] theorem State.trigger_handledAt (s : State) (f v : Nat) : (s.trigger f v).handledAt = s.handledAt := rfl
@[simp] theorem State.trigger_calQueue (s : State) (f v : Nat) : (s.trigger f v).calQueue = s.calQueue := rfl
@[simp] theorem State.trigger_oven (s : State) (f v : Nat) : (s.trigger f v).oven = s.oven := rfl
@[simp] theorem State.trigger_masterOven (s : State) (f v : Nat) : (s.trigger f v).masterOven = s.masterOven := rfl
@[simp] theorem State.trigger_joints (s : State) (f v : Nat) : (s.trigger f v).joints = s.joints := rfl
@[simp] theorem State.trigger_gsl (s : State) (f v : Nat) : (s.trigger f v).gsl = s.gsl := rfl
@[simp] theorem State.trigger_gslIn (s : State) (f v : Nat) : (s.trigger f v).gslIn = s.gslIn := rfl
@[simp] theorem State.trigger_peers (s : State) (f v : Nat) : (s.trigger f v).peers = s.peers := rfl
@[simp] theorem State.trigger_electAt (s : State) (f v : Nat) : (s.trigger f v).electAt = s.electAt := rfl
@[simp] theorem State.trigger_members (s : State) (f v : Nat) : (s.trigger f v).members = s.members := rfl
@[simp] theorem State.trigger_linksDown (s : State) (f v : Nat) : (s.trigger f v).linksDown = s.linksDown := rfl
@[simp] theorem State.trigger_timeHalf (s : State) (f v : Nat) : (s.trigger f v).timeHalf = s.timeHalf := rfl
@[simp] theorem State.trigger_timeNext (s : State) (f v : Nat) : (s.trigger f v).timeNext = s.timeNext := rfl
@[simp] theorem State.trigger_timeSet (s : State) (f v : Nat) : (s.trigger f v).timeSet = s.timeSet := rfl
@[simp] theorem State.trigger_servo (s : State) (f v : Nat) : (s.trigger f v).servo = s.servo := rfl
@[simp] theorem State.trigger_ptpRate (s : State) (f v : Nat) : (s.trigger f v).ptpRate = s.ptpRate := rfl
@[simp] theorem State.trigger_idConflict (s : State) (f v : Nat) : (s.trigger f v).idConflict = s.idConflict := rfl
@[simp] theorem State.trigger_hallCfg (s : State) (f v : Nat) : (s.trigger f v).hallCfg = s.hallCfg := rfl
@[simp] theorem State.trigger_crierDrv (s : State) (f v : Nat) : (s.trigger f v).crierDrv = s.crierDrv := rfl
@[simp] theorem State.trigger_crierWait (s : State) (f v : Nat) : (s.trigger f v).crierWait = s.crierWait := rfl
@[simp] theorem State.trigger_pulses (s : State) (f v : Nat) : (s.trigger f v).pulses = s.pulses := rfl
@[simp] theorem State.trigger_crierCfg (s : State) (f v : Nat) : (s.trigger f v).crierCfg = s.crierCfg := rfl
@[simp] theorem State.trigger_crierNow (s : State) (f v : Nat) : (s.trigger f v).crierNow = s.crierNow := rfl
@[simp] theorem State.trigger_postponed (s : State) (f v : Nat) : (s.trigger f v).postponed = s.postponed := rfl
@[simp] theorem State.trigger_awn (s : State) (f v : Nat) : (s.trigger f v).awn = s.awn := rfl
@[simp] theorem State.trigger_items (s : State) (f v : Nat) : (s.trigger f v).items = s.items := rfl
@[simp] theorem State.trigger_graphs (s : State) (f v : Nat) : (s.trigger f v).graphs = s.graphs := rfl
@[simp] theorem State.trigger_schedNo (s : State) (f v : Nat) : (s.trigger f v).schedNo = s.schedNo := rfl
@[simp] theorem State.trigger_callRet (s : State) (f v : Nat) : (s.trigger f v).callRet = s.callRet := rfl
@[simp] theorem State.trigger_l1 (s : State) (f v : Nat) : (s.trigger f v).l1 = s.l1 := rfl
@[simp] theorem State.trigger_cohWait (s : State) (f v : Nat) : (s.trigger f v).cohWait = s.cohWait := rfl
@[simp] theorem State.trigger_recalls (s : State) (f v : Nat) : (s.trigger f v).recalls = s.recalls := rfl
@[simp] theorem State.trigger_losers (s : State) (f v : Nat) : (s.trigger f v).losers = s.losers := rfl
@[simp] theorem State.trigger_regions (s : State) (f v : Nat) : (s.trigger f v).regions = s.regions := rfl
@[simp] theorem State.trigger_arbs (s : State) (f v : Nat) : (s.trigger f v).arbs = s.arbs := rfl
@[simp] theorem State.trigger_debt (s : State) (f v : Nat) : (s.trigger f v).debt = s.debt := rfl
@[simp] theorem State.trigger_sref (s : State) (f v : Nat) : (s.trigger f v).sref = s.sref := rfl
@[simp] theorem State.trigger_srefAt (s : State) (f v : Nat) : (s.trigger f v).srefAt = s.srefAt := rfl
@[simp] theorem State.trigger_openRows (s : State) (f v : Nat) : (s.trigger f v).openRows = s.openRows := rfl
@[simp] theorem State.trigger_adcs (s : State) (f v : Nat) : (s.trigger f v).adcs = s.adcs := rfl
@[simp] theorem State.trigger_results (s : State) (f v : Nat) : (s.trigger f v).results = s.results := rfl
@[simp] theorem State.trigger_safetyDue (s : State) (f v : Nat) : (s.trigger f v).safetyDue = s.safetyDue := rfl
@[simp] theorem State.trigger_safetyRes (s : State) (f v : Nat) : (s.trigger f v).safetyRes = s.safetyRes := rfl
@[simp] theorem State.trigger_calRun (s : State) (f v : Nat) : (s.trigger f v).calRun = s.calRun := rfl
@[simp] theorem State.trigger_energy (s : State) (f v : Nat) : (s.trigger f v).energy = s.energy := rfl
@[simp] theorem State.trigger_p4Req (s : State) (f v : Nat) : (s.trigger f v).p4Req = s.p4Req := rfl
@[simp] theorem State.trigger_p4Event (s : State) (f v : Nat) : (s.trigger f v).p4Event = s.p4Event := rfl
@[simp] theorem State.trigger_inReset (s : State) (f v : Nat) : (s.trigger f v).inReset = s.inReset := rfl
@[simp] theorem State.trigger_perstLow (s : State) (f v : Nat) : (s.trigger f v).perstLow = s.perstLow := rfl
@[simp] theorem State.trigger_resetNLow (s : State) (f v : Nat) : (s.trigger f v).resetNLow = s.resetNLow := rfl
@[simp] theorem State.trigger_powerGood (s : State) (f v : Nat) : (s.trigger f v).powerGood = s.powerGood := rfl
@[simp] theorem State.trigger_pushing (s : State) (f v : Nat) : (s.trigger f v).pushing = s.pushing := rfl
@[simp] theorem State.trigger_wdtMs (s : State) (f v : Nat) : (s.trigger f v).wdtMs = s.wdtMs := rfl
@[simp] theorem State.trigger_wdtFrom (s : State) (f v : Nat) : (s.trigger f v).wdtFrom = s.wdtFrom := rfl
@[simp] theorem State.trigger_ledgTorn (s : State) (f v : Nat) : (s.trigger f v).ledgTorn = s.ledgTorn := rfl
@[simp] theorem State.trigger_bar4Log2 (s : State) (f v : Nat) : (s.trigger f v).bar4Log2 = s.bar4Log2 := rfl
@[simp] theorem State.trigger_pending (s : State) (f v : Nat) : (s.trigger f v).pending = s.pending := rfl

@[simp] theorem State.send_regs (s : State) (w : HostWrite) : (s.send w).regs = s.regs := rfl
@[simp] theorem State.send_mem (s : State) (w : HostWrite) : (s.send w).mem = s.mem := rfl
@[simp] theorem State.send_poison (s : State) (w : HostWrite) : (s.send w).poison = s.poison := rfl
@[simp] theorem State.send_fr (s : State) (w : HostWrite) : (s.send w).fr = s.fr := rfl
@[simp] theorem State.send_frRuns (s : State) (w : HostWrite) : (s.send w).frRuns = s.frRuns := rfl
@[simp] theorem State.send_free (s : State) (w : HostWrite) : (s.send w).free = s.free := rfl
@[simp] theorem State.send_booted (s : State) (w : HostWrite) : (s.send w).booted = s.booted := rfl
@[simp] theorem State.send_rdata (s : State) (w : HostWrite) : (s.send w).rdata = s.rdata := rfl
@[simp] theorem State.send_latch (s : State) (w : HostWrite) : (s.send w).latch = s.latch := rfl
@[simp] theorem State.send_rstat (s : State) (w : HostWrite) : (s.send w).rstat = s.rstat := rfl
@[simp] theorem State.send_funcs (s : State) (w : HostWrite) : (s.send w).funcs = s.funcs := rfl
@[simp] theorem State.send_numVfs (s : State) (w : HostWrite) : (s.send w).numVfs = s.numVfs := rfl
@[simp] theorem State.send_ari (s : State) (w : HostWrite) : (s.send w).ari = s.ari := rfl
@[simp] theorem State.send_vfEnable (s : State) (w : HostWrite) : (s.send w).vfEnable = s.vfEnable := rfl
@[simp] theorem State.send_stalls (s : State) (w : HostWrite) : (s.send w).stalls = s.stalls := rfl
@[simp] theorem State.send_works (s : State) (w : HostWrite) : (s.send w).works = s.works := rfl
@[simp] theorem State.send_nextWork (s : State) (w : HostWrite) : (s.send w).nextWork = s.nextWork := rfl
@[simp] theorem State.send_devAllowance (s : State) (w : HostWrite) : (s.send w).devAllowance = s.devAllowance := rfl
@[simp] theorem State.send_receipts (s : State) (w : HostWrite) : (s.send w).receipts = s.receipts := rfl
@[simp] theorem State.send_donePaces (s : State) (w : HostWrite) : (s.send w).donePaces = s.donePaces := rfl
@[simp] theorem State.send_tx (s : State) (w : HostWrite) : (s.send w).tx = s.tx ++ [w] := rfl
@[simp] theorem State.send_triggers (s : State) (w : HostWrite) : (s.send w).triggers = s.triggers := rfl
@[simp] theorem State.send_raiseNo (s : State) (w : HostWrite) : (s.send w).raiseNo = s.raiseNo := rfl
@[simp] theorem State.send_events (s : State) (w : HostWrite) : (s.send w).events = s.events := rfl
@[simp] theorem State.send_arrivals (s : State) (w : HostWrite) : (s.send w).arrivals = s.arrivals := rfl
@[simp] theorem State.send_lastArrival (s : State) (w : HostWrite) : (s.send w).lastArrival = s.lastArrival := rfl
@[simp] theorem State.send_detections (s : State) (w : HostWrite) : (s.send w).detections = s.detections := rfl
@[simp] theorem State.send_ledgerEvents (s : State) (w : HostWrite) : (s.send w).ledgerEvents = s.ledgerEvents := rfl
@[simp] theorem State.send_ports (s : State) (w : HostWrite) : (s.send w).ports = s.ports := rfl
@[simp] theorem State.send_segs (s : State) (w : HostWrite) : (s.send w).segs = s.segs := rfl
@[simp] theorem State.send_seqs (s : State) (w : HostWrite) : (s.send w).seqs = s.seqs := rfl
@[simp] theorem State.send_tsPending (s : State) (w : HostWrite) : (s.send w).tsPending = s.tsPending := rfl
@[simp] theorem State.send_frames0 (s : State) (w : HostWrite) : (s.send w).frames0 = s.frames0 := rfl
@[simp] theorem State.send_frames1 (s : State) (w : HostWrite) : (s.send w).frames1 = s.frames1 := rfl
@[simp] theorem State.send_nextEntry (s : State) (w : HostWrite) : (s.send w).nextEntry = s.nextEntry := rfl
@[simp] theorem State.send_ethOut (s : State) (w : HostWrite) : (s.send w).ethOut = s.ethOut := rfl
@[simp] theorem State.send_chans (s : State) (w : HostWrite) : (s.send w).chans = s.chans := rfl
@[simp] theorem State.send_edges (s : State) (w : HostWrite) : (s.send w).edges = s.edges := rfl
@[simp] theorem State.send_lanes (s : State) (w : HostWrite) : (s.send w).lanes = s.lanes := rfl
@[simp] theorem State.send_patch (s : State) (w : HostWrite) : (s.send w).patch = s.patch := rfl
@[simp] theorem State.send_crier (s : State) (w : HostWrite) : (s.send w).crier = s.crier := rfl
@[simp] theorem State.send_factApplied (s : State) (w : HostWrite) : (s.send w).factApplied = s.factApplied := rfl
@[simp] theorem State.send_ledgRecs (s : State) (w : HostWrite) : (s.send w).ledgRecs = s.ledgRecs := rfl
@[simp] theorem State.send_ledgQueue (s : State) (w : HostWrite) : (s.send w).ledgQueue = s.ledgQueue := rfl
@[simp] theorem State.send_ledgWrite (s : State) (w : HostWrite) : (s.send w).ledgWrite = s.ledgWrite := rfl
@[simp] theorem State.send_laneTxOff (s : State) (w : HostWrite) : (s.send w).laneTxOff = s.laneTxOff := rfl
@[simp] theorem State.send_safeEntry (s : State) (w : HostWrite) : (s.send w).safeEntry = s.safeEntry := rfl
@[simp] theorem State.send_holdEnd (s : State) (w : HostWrite) : (s.send w).holdEnd = s.holdEnd := rfl
@[simp] theorem State.send_warnSince (s : State) (w : HostWrite) : (s.send w).warnSince = s.warnSince := rfl
@[simp] theorem State.send_resets (s : State) (w : HostWrite) : (s.send w).resets = s.resets := rfl
@[simp] theorem State.send_watches (s : State) (w : HostWrite) : (s.send w).watches = s.watches := rfl
@[simp] theorem State.send_conc (s : State) (w : HostWrite) : (s.send w).conc = s.conc := rfl
@[simp] theorem State.send_gates (s : State) (w : HostWrite) : (s.send w).gates = s.gates := rfl
@[simp] theorem State.send_srcEdges (s : State) (w : HostWrite) : (s.send w).srcEdges = s.srcEdges := rfl
@[simp] theorem State.send_turn (s : State) (w : HostWrite) : (s.send w).turn = s.turn := rfl
@[simp] theorem State.send_ssms (s : State) (w : HostWrite) : (s.send w).ssms = s.ssms := rfl
@[simp] theorem State.send_driftRows (s : State) (w : HostWrite) : (s.send w).driftRows = s.driftRows := rfl
@[simp] theorem State.send_handledAt (s : State) (w : HostWrite) : (s.send w).handledAt = s.handledAt := rfl
@[simp] theorem State.send_calQueue (s : State) (w : HostWrite) : (s.send w).calQueue = s.calQueue := rfl
@[simp] theorem State.send_oven (s : State) (w : HostWrite) : (s.send w).oven = s.oven := rfl
@[simp] theorem State.send_masterOven (s : State) (w : HostWrite) : (s.send w).masterOven = s.masterOven := rfl
@[simp] theorem State.send_joints (s : State) (w : HostWrite) : (s.send w).joints = s.joints := rfl
@[simp] theorem State.send_gsl (s : State) (w : HostWrite) : (s.send w).gsl = s.gsl := rfl
@[simp] theorem State.send_gslIn (s : State) (w : HostWrite) : (s.send w).gslIn = s.gslIn := rfl
@[simp] theorem State.send_peers (s : State) (w : HostWrite) : (s.send w).peers = s.peers := rfl
@[simp] theorem State.send_electAt (s : State) (w : HostWrite) : (s.send w).electAt = s.electAt := rfl
@[simp] theorem State.send_members (s : State) (w : HostWrite) : (s.send w).members = s.members := rfl
@[simp] theorem State.send_linksDown (s : State) (w : HostWrite) : (s.send w).linksDown = s.linksDown := rfl
@[simp] theorem State.send_timeHalf (s : State) (w : HostWrite) : (s.send w).timeHalf = s.timeHalf := rfl
@[simp] theorem State.send_timeNext (s : State) (w : HostWrite) : (s.send w).timeNext = s.timeNext := rfl
@[simp] theorem State.send_timeSet (s : State) (w : HostWrite) : (s.send w).timeSet = s.timeSet := rfl
@[simp] theorem State.send_servo (s : State) (w : HostWrite) : (s.send w).servo = s.servo := rfl
@[simp] theorem State.send_ptpRate (s : State) (w : HostWrite) : (s.send w).ptpRate = s.ptpRate := rfl
@[simp] theorem State.send_idConflict (s : State) (w : HostWrite) : (s.send w).idConflict = s.idConflict := rfl
@[simp] theorem State.send_hallCfg (s : State) (w : HostWrite) : (s.send w).hallCfg = s.hallCfg := rfl
@[simp] theorem State.send_crierDrv (s : State) (w : HostWrite) : (s.send w).crierDrv = s.crierDrv := rfl
@[simp] theorem State.send_crierWait (s : State) (w : HostWrite) : (s.send w).crierWait = s.crierWait := rfl
@[simp] theorem State.send_pulses (s : State) (w : HostWrite) : (s.send w).pulses = s.pulses := rfl
@[simp] theorem State.send_crierCfg (s : State) (w : HostWrite) : (s.send w).crierCfg = s.crierCfg := rfl
@[simp] theorem State.send_crierNow (s : State) (w : HostWrite) : (s.send w).crierNow = s.crierNow := rfl
@[simp] theorem State.send_postponed (s : State) (w : HostWrite) : (s.send w).postponed = s.postponed := rfl
@[simp] theorem State.send_awn (s : State) (w : HostWrite) : (s.send w).awn = s.awn := rfl
@[simp] theorem State.send_items (s : State) (w : HostWrite) : (s.send w).items = s.items := rfl
@[simp] theorem State.send_graphs (s : State) (w : HostWrite) : (s.send w).graphs = s.graphs := rfl
@[simp] theorem State.send_schedNo (s : State) (w : HostWrite) : (s.send w).schedNo = s.schedNo := rfl
@[simp] theorem State.send_callRet (s : State) (w : HostWrite) : (s.send w).callRet = s.callRet := rfl
@[simp] theorem State.send_l1 (s : State) (w : HostWrite) : (s.send w).l1 = s.l1 := rfl
@[simp] theorem State.send_cohWait (s : State) (w : HostWrite) : (s.send w).cohWait = s.cohWait := rfl
@[simp] theorem State.send_recalls (s : State) (w : HostWrite) : (s.send w).recalls = s.recalls := rfl
@[simp] theorem State.send_losers (s : State) (w : HostWrite) : (s.send w).losers = s.losers := rfl
@[simp] theorem State.send_regions (s : State) (w : HostWrite) : (s.send w).regions = s.regions := rfl
@[simp] theorem State.send_arbs (s : State) (w : HostWrite) : (s.send w).arbs = s.arbs := rfl
@[simp] theorem State.send_debt (s : State) (w : HostWrite) : (s.send w).debt = s.debt := rfl
@[simp] theorem State.send_sref (s : State) (w : HostWrite) : (s.send w).sref = s.sref := rfl
@[simp] theorem State.send_srefAt (s : State) (w : HostWrite) : (s.send w).srefAt = s.srefAt := rfl
@[simp] theorem State.send_openRows (s : State) (w : HostWrite) : (s.send w).openRows = s.openRows := rfl
@[simp] theorem State.send_adcs (s : State) (w : HostWrite) : (s.send w).adcs = s.adcs := rfl
@[simp] theorem State.send_results (s : State) (w : HostWrite) : (s.send w).results = s.results := rfl
@[simp] theorem State.send_safetyDue (s : State) (w : HostWrite) : (s.send w).safetyDue = s.safetyDue := rfl
@[simp] theorem State.send_safetyRes (s : State) (w : HostWrite) : (s.send w).safetyRes = s.safetyRes := rfl
@[simp] theorem State.send_calRun (s : State) (w : HostWrite) : (s.send w).calRun = s.calRun := rfl
@[simp] theorem State.send_energy (s : State) (w : HostWrite) : (s.send w).energy = s.energy := rfl
@[simp] theorem State.send_p4Req (s : State) (w : HostWrite) : (s.send w).p4Req = s.p4Req := rfl
@[simp] theorem State.send_p4Event (s : State) (w : HostWrite) : (s.send w).p4Event = s.p4Event := rfl
@[simp] theorem State.send_inReset (s : State) (w : HostWrite) : (s.send w).inReset = s.inReset := rfl
@[simp] theorem State.send_perstLow (s : State) (w : HostWrite) : (s.send w).perstLow = s.perstLow := rfl
@[simp] theorem State.send_resetNLow (s : State) (w : HostWrite) : (s.send w).resetNLow = s.resetNLow := rfl
@[simp] theorem State.send_powerGood (s : State) (w : HostWrite) : (s.send w).powerGood = s.powerGood := rfl
@[simp] theorem State.send_pushing (s : State) (w : HostWrite) : (s.send w).pushing = s.pushing := rfl
@[simp] theorem State.send_wdtMs (s : State) (w : HostWrite) : (s.send w).wdtMs = s.wdtMs := rfl
@[simp] theorem State.send_wdtFrom (s : State) (w : HostWrite) : (s.send w).wdtFrom = s.wdtFrom := rfl
@[simp] theorem State.send_ledgTorn (s : State) (w : HostWrite) : (s.send w).ledgTorn = s.ledgTorn := rfl
@[simp] theorem State.send_bar4Log2 (s : State) (w : HostWrite) : (s.send w).bar4Log2 = s.bar4Log2 := rfl
@[simp] theorem State.send_pending (s : State) (w : HostWrite) : (s.send w).pending = s.pending := rfl

@[simp] theorem State.raiseReceipt_regs (s : State) (r : RaisedReceipt) : (s.raiseReceipt r).regs = s.regs := rfl
@[simp] theorem State.raiseReceipt_mem (s : State) (r : RaisedReceipt) : (s.raiseReceipt r).mem = s.mem := rfl
@[simp] theorem State.raiseReceipt_poison (s : State) (r : RaisedReceipt) : (s.raiseReceipt r).poison = s.poison := rfl
@[simp] theorem State.raiseReceipt_fr (s : State) (r : RaisedReceipt) : (s.raiseReceipt r).fr = s.fr := rfl
@[simp] theorem State.raiseReceipt_frRuns (s : State) (r : RaisedReceipt) : (s.raiseReceipt r).frRuns = s.frRuns := rfl
@[simp] theorem State.raiseReceipt_free (s : State) (r : RaisedReceipt) : (s.raiseReceipt r).free = s.free := rfl
@[simp] theorem State.raiseReceipt_booted (s : State) (r : RaisedReceipt) : (s.raiseReceipt r).booted = s.booted := rfl
@[simp] theorem State.raiseReceipt_rdata (s : State) (r : RaisedReceipt) : (s.raiseReceipt r).rdata = s.rdata := rfl
@[simp] theorem State.raiseReceipt_latch (s : State) (r : RaisedReceipt) : (s.raiseReceipt r).latch = s.latch := rfl
@[simp] theorem State.raiseReceipt_rstat (s : State) (r : RaisedReceipt) : (s.raiseReceipt r).rstat = s.rstat := rfl
@[simp] theorem State.raiseReceipt_funcs (s : State) (r : RaisedReceipt) : (s.raiseReceipt r).funcs = s.funcs := rfl
@[simp] theorem State.raiseReceipt_numVfs (s : State) (r : RaisedReceipt) : (s.raiseReceipt r).numVfs = s.numVfs := rfl
@[simp] theorem State.raiseReceipt_ari (s : State) (r : RaisedReceipt) : (s.raiseReceipt r).ari = s.ari := rfl
@[simp] theorem State.raiseReceipt_vfEnable (s : State) (r : RaisedReceipt) : (s.raiseReceipt r).vfEnable = s.vfEnable := rfl
@[simp] theorem State.raiseReceipt_stalls (s : State) (r : RaisedReceipt) : (s.raiseReceipt r).stalls = s.stalls := rfl
@[simp] theorem State.raiseReceipt_works (s : State) (r : RaisedReceipt) : (s.raiseReceipt r).works = s.works := rfl
@[simp] theorem State.raiseReceipt_nextWork (s : State) (r : RaisedReceipt) : (s.raiseReceipt r).nextWork = s.nextWork := rfl
@[simp] theorem State.raiseReceipt_devAllowance (s : State) (r : RaisedReceipt) : (s.raiseReceipt r).devAllowance = s.devAllowance := rfl
@[simp] theorem State.raiseReceipt_receipts (s : State) (r : RaisedReceipt) : (s.raiseReceipt r).receipts = s.receipts ++ [{ r with no := s.raiseNo }] := rfl
@[simp] theorem State.raiseReceipt_donePaces (s : State) (r : RaisedReceipt) : (s.raiseReceipt r).donePaces = s.donePaces := rfl
@[simp] theorem State.raiseReceipt_tx (s : State) (r : RaisedReceipt) : (s.raiseReceipt r).tx = s.tx := rfl
@[simp] theorem State.raiseReceipt_triggers (s : State) (r : RaisedReceipt) : (s.raiseReceipt r).triggers = s.triggers := rfl
@[simp] theorem State.raiseReceipt_raiseNo (s : State) (r : RaisedReceipt) : (s.raiseReceipt r).raiseNo = s.raiseNo + 1 := rfl
@[simp] theorem State.raiseReceipt_events (s : State) (r : RaisedReceipt) : (s.raiseReceipt r).events = s.events := rfl
@[simp] theorem State.raiseReceipt_arrivals (s : State) (r : RaisedReceipt) : (s.raiseReceipt r).arrivals = s.arrivals := rfl
@[simp] theorem State.raiseReceipt_lastArrival (s : State) (r : RaisedReceipt) : (s.raiseReceipt r).lastArrival = s.lastArrival := rfl
@[simp] theorem State.raiseReceipt_detections (s : State) (r : RaisedReceipt) : (s.raiseReceipt r).detections = s.detections := rfl
@[simp] theorem State.raiseReceipt_ledgerEvents (s : State) (r : RaisedReceipt) : (s.raiseReceipt r).ledgerEvents = s.ledgerEvents := rfl
@[simp] theorem State.raiseReceipt_ports (s : State) (r : RaisedReceipt) : (s.raiseReceipt r).ports = s.ports := rfl
@[simp] theorem State.raiseReceipt_segs (s : State) (r : RaisedReceipt) : (s.raiseReceipt r).segs = s.segs := rfl
@[simp] theorem State.raiseReceipt_seqs (s : State) (r : RaisedReceipt) : (s.raiseReceipt r).seqs = s.seqs := rfl
@[simp] theorem State.raiseReceipt_tsPending (s : State) (r : RaisedReceipt) : (s.raiseReceipt r).tsPending = s.tsPending := rfl
@[simp] theorem State.raiseReceipt_frames0 (s : State) (r : RaisedReceipt) : (s.raiseReceipt r).frames0 = s.frames0 := rfl
@[simp] theorem State.raiseReceipt_frames1 (s : State) (r : RaisedReceipt) : (s.raiseReceipt r).frames1 = s.frames1 := rfl
@[simp] theorem State.raiseReceipt_nextEntry (s : State) (r : RaisedReceipt) : (s.raiseReceipt r).nextEntry = s.nextEntry := rfl
@[simp] theorem State.raiseReceipt_ethOut (s : State) (r : RaisedReceipt) : (s.raiseReceipt r).ethOut = s.ethOut := rfl
@[simp] theorem State.raiseReceipt_chans (s : State) (r : RaisedReceipt) : (s.raiseReceipt r).chans = s.chans := rfl
@[simp] theorem State.raiseReceipt_edges (s : State) (r : RaisedReceipt) : (s.raiseReceipt r).edges = s.edges := rfl
@[simp] theorem State.raiseReceipt_lanes (s : State) (r : RaisedReceipt) : (s.raiseReceipt r).lanes = s.lanes := rfl
@[simp] theorem State.raiseReceipt_patch (s : State) (r : RaisedReceipt) : (s.raiseReceipt r).patch = s.patch := rfl
@[simp] theorem State.raiseReceipt_crier (s : State) (r : RaisedReceipt) : (s.raiseReceipt r).crier = s.crier := rfl
@[simp] theorem State.raiseReceipt_factApplied (s : State) (r : RaisedReceipt) : (s.raiseReceipt r).factApplied = s.factApplied := rfl
@[simp] theorem State.raiseReceipt_ledgRecs (s : State) (r : RaisedReceipt) : (s.raiseReceipt r).ledgRecs = s.ledgRecs := rfl
@[simp] theorem State.raiseReceipt_ledgQueue (s : State) (r : RaisedReceipt) : (s.raiseReceipt r).ledgQueue = s.ledgQueue := rfl
@[simp] theorem State.raiseReceipt_ledgWrite (s : State) (r : RaisedReceipt) : (s.raiseReceipt r).ledgWrite = s.ledgWrite := rfl
@[simp] theorem State.raiseReceipt_laneTxOff (s : State) (r : RaisedReceipt) : (s.raiseReceipt r).laneTxOff = s.laneTxOff := rfl
@[simp] theorem State.raiseReceipt_safeEntry (s : State) (r : RaisedReceipt) : (s.raiseReceipt r).safeEntry = s.safeEntry := rfl
@[simp] theorem State.raiseReceipt_holdEnd (s : State) (r : RaisedReceipt) : (s.raiseReceipt r).holdEnd = s.holdEnd := rfl
@[simp] theorem State.raiseReceipt_warnSince (s : State) (r : RaisedReceipt) : (s.raiseReceipt r).warnSince = s.warnSince := rfl
@[simp] theorem State.raiseReceipt_resets (s : State) (r : RaisedReceipt) : (s.raiseReceipt r).resets = s.resets := rfl
@[simp] theorem State.raiseReceipt_watches (s : State) (r : RaisedReceipt) : (s.raiseReceipt r).watches = s.watches := rfl
@[simp] theorem State.raiseReceipt_conc (s : State) (r : RaisedReceipt) : (s.raiseReceipt r).conc = s.conc := rfl
@[simp] theorem State.raiseReceipt_gates (s : State) (r : RaisedReceipt) : (s.raiseReceipt r).gates = s.gates := rfl
@[simp] theorem State.raiseReceipt_srcEdges (s : State) (r : RaisedReceipt) : (s.raiseReceipt r).srcEdges = s.srcEdges := rfl
@[simp] theorem State.raiseReceipt_turn (s : State) (r : RaisedReceipt) : (s.raiseReceipt r).turn = s.turn := rfl
@[simp] theorem State.raiseReceipt_ssms (s : State) (r : RaisedReceipt) : (s.raiseReceipt r).ssms = s.ssms := rfl
@[simp] theorem State.raiseReceipt_driftRows (s : State) (r : RaisedReceipt) : (s.raiseReceipt r).driftRows = s.driftRows := rfl
@[simp] theorem State.raiseReceipt_handledAt (s : State) (r : RaisedReceipt) : (s.raiseReceipt r).handledAt = s.handledAt := rfl
@[simp] theorem State.raiseReceipt_calQueue (s : State) (r : RaisedReceipt) : (s.raiseReceipt r).calQueue = s.calQueue := rfl
@[simp] theorem State.raiseReceipt_oven (s : State) (r : RaisedReceipt) : (s.raiseReceipt r).oven = s.oven := rfl
@[simp] theorem State.raiseReceipt_masterOven (s : State) (r : RaisedReceipt) : (s.raiseReceipt r).masterOven = s.masterOven := rfl
@[simp] theorem State.raiseReceipt_joints (s : State) (r : RaisedReceipt) : (s.raiseReceipt r).joints = s.joints := rfl
@[simp] theorem State.raiseReceipt_gsl (s : State) (r : RaisedReceipt) : (s.raiseReceipt r).gsl = s.gsl := rfl
@[simp] theorem State.raiseReceipt_gslIn (s : State) (r : RaisedReceipt) : (s.raiseReceipt r).gslIn = s.gslIn := rfl
@[simp] theorem State.raiseReceipt_peers (s : State) (r : RaisedReceipt) : (s.raiseReceipt r).peers = s.peers := rfl
@[simp] theorem State.raiseReceipt_electAt (s : State) (r : RaisedReceipt) : (s.raiseReceipt r).electAt = s.electAt := rfl
@[simp] theorem State.raiseReceipt_members (s : State) (r : RaisedReceipt) : (s.raiseReceipt r).members = s.members := rfl
@[simp] theorem State.raiseReceipt_linksDown (s : State) (r : RaisedReceipt) : (s.raiseReceipt r).linksDown = s.linksDown := rfl
@[simp] theorem State.raiseReceipt_timeHalf (s : State) (r : RaisedReceipt) : (s.raiseReceipt r).timeHalf = s.timeHalf := rfl
@[simp] theorem State.raiseReceipt_timeNext (s : State) (r : RaisedReceipt) : (s.raiseReceipt r).timeNext = s.timeNext := rfl
@[simp] theorem State.raiseReceipt_timeSet (s : State) (r : RaisedReceipt) : (s.raiseReceipt r).timeSet = s.timeSet := rfl
@[simp] theorem State.raiseReceipt_servo (s : State) (r : RaisedReceipt) : (s.raiseReceipt r).servo = s.servo := rfl
@[simp] theorem State.raiseReceipt_ptpRate (s : State) (r : RaisedReceipt) : (s.raiseReceipt r).ptpRate = s.ptpRate := rfl
@[simp] theorem State.raiseReceipt_idConflict (s : State) (r : RaisedReceipt) : (s.raiseReceipt r).idConflict = s.idConflict := rfl
@[simp] theorem State.raiseReceipt_hallCfg (s : State) (r : RaisedReceipt) : (s.raiseReceipt r).hallCfg = s.hallCfg := rfl
@[simp] theorem State.raiseReceipt_crierDrv (s : State) (r : RaisedReceipt) : (s.raiseReceipt r).crierDrv = s.crierDrv := rfl
@[simp] theorem State.raiseReceipt_crierWait (s : State) (r : RaisedReceipt) : (s.raiseReceipt r).crierWait = s.crierWait := rfl
@[simp] theorem State.raiseReceipt_pulses (s : State) (r : RaisedReceipt) : (s.raiseReceipt r).pulses = s.pulses := rfl
@[simp] theorem State.raiseReceipt_crierCfg (s : State) (r : RaisedReceipt) : (s.raiseReceipt r).crierCfg = s.crierCfg := rfl
@[simp] theorem State.raiseReceipt_crierNow (s : State) (r : RaisedReceipt) : (s.raiseReceipt r).crierNow = s.crierNow := rfl
@[simp] theorem State.raiseReceipt_postponed (s : State) (r : RaisedReceipt) : (s.raiseReceipt r).postponed = s.postponed := rfl
@[simp] theorem State.raiseReceipt_awn (s : State) (r : RaisedReceipt) : (s.raiseReceipt r).awn = s.awn := rfl
@[simp] theorem State.raiseReceipt_items (s : State) (r : RaisedReceipt) : (s.raiseReceipt r).items = s.items := rfl
@[simp] theorem State.raiseReceipt_graphs (s : State) (r : RaisedReceipt) : (s.raiseReceipt r).graphs = s.graphs := rfl
@[simp] theorem State.raiseReceipt_schedNo (s : State) (r : RaisedReceipt) : (s.raiseReceipt r).schedNo = s.schedNo := rfl
@[simp] theorem State.raiseReceipt_callRet (s : State) (r : RaisedReceipt) : (s.raiseReceipt r).callRet = s.callRet := rfl
@[simp] theorem State.raiseReceipt_l1 (s : State) (r : RaisedReceipt) : (s.raiseReceipt r).l1 = s.l1 := rfl
@[simp] theorem State.raiseReceipt_cohWait (s : State) (r : RaisedReceipt) : (s.raiseReceipt r).cohWait = s.cohWait := rfl
@[simp] theorem State.raiseReceipt_recalls (s : State) (r : RaisedReceipt) : (s.raiseReceipt r).recalls = s.recalls := rfl
@[simp] theorem State.raiseReceipt_losers (s : State) (r : RaisedReceipt) : (s.raiseReceipt r).losers = s.losers := rfl
@[simp] theorem State.raiseReceipt_regions (s : State) (r : RaisedReceipt) : (s.raiseReceipt r).regions = s.regions := rfl
@[simp] theorem State.raiseReceipt_arbs (s : State) (r : RaisedReceipt) : (s.raiseReceipt r).arbs = s.arbs := rfl
@[simp] theorem State.raiseReceipt_debt (s : State) (r : RaisedReceipt) : (s.raiseReceipt r).debt = s.debt := rfl
@[simp] theorem State.raiseReceipt_sref (s : State) (r : RaisedReceipt) : (s.raiseReceipt r).sref = s.sref := rfl
@[simp] theorem State.raiseReceipt_srefAt (s : State) (r : RaisedReceipt) : (s.raiseReceipt r).srefAt = s.srefAt := rfl
@[simp] theorem State.raiseReceipt_openRows (s : State) (r : RaisedReceipt) : (s.raiseReceipt r).openRows = s.openRows := rfl
@[simp] theorem State.raiseReceipt_adcs (s : State) (r : RaisedReceipt) : (s.raiseReceipt r).adcs = s.adcs := rfl
@[simp] theorem State.raiseReceipt_results (s : State) (r : RaisedReceipt) : (s.raiseReceipt r).results = s.results := rfl
@[simp] theorem State.raiseReceipt_safetyDue (s : State) (r : RaisedReceipt) : (s.raiseReceipt r).safetyDue = s.safetyDue := rfl
@[simp] theorem State.raiseReceipt_safetyRes (s : State) (r : RaisedReceipt) : (s.raiseReceipt r).safetyRes = s.safetyRes := rfl
@[simp] theorem State.raiseReceipt_calRun (s : State) (r : RaisedReceipt) : (s.raiseReceipt r).calRun = s.calRun := rfl
@[simp] theorem State.raiseReceipt_energy (s : State) (r : RaisedReceipt) : (s.raiseReceipt r).energy = s.energy := rfl
@[simp] theorem State.raiseReceipt_p4Req (s : State) (r : RaisedReceipt) : (s.raiseReceipt r).p4Req = s.p4Req := rfl
@[simp] theorem State.raiseReceipt_p4Event (s : State) (r : RaisedReceipt) : (s.raiseReceipt r).p4Event = s.p4Event := rfl
@[simp] theorem State.raiseReceipt_inReset (s : State) (r : RaisedReceipt) : (s.raiseReceipt r).inReset = s.inReset := rfl
@[simp] theorem State.raiseReceipt_perstLow (s : State) (r : RaisedReceipt) : (s.raiseReceipt r).perstLow = s.perstLow := rfl
@[simp] theorem State.raiseReceipt_resetNLow (s : State) (r : RaisedReceipt) : (s.raiseReceipt r).resetNLow = s.resetNLow := rfl
@[simp] theorem State.raiseReceipt_powerGood (s : State) (r : RaisedReceipt) : (s.raiseReceipt r).powerGood = s.powerGood := rfl
@[simp] theorem State.raiseReceipt_pushing (s : State) (r : RaisedReceipt) : (s.raiseReceipt r).pushing = s.pushing := rfl
@[simp] theorem State.raiseReceipt_wdtMs (s : State) (r : RaisedReceipt) : (s.raiseReceipt r).wdtMs = s.wdtMs := rfl
@[simp] theorem State.raiseReceipt_wdtFrom (s : State) (r : RaisedReceipt) : (s.raiseReceipt r).wdtFrom = s.wdtFrom := rfl
@[simp] theorem State.raiseReceipt_ledgTorn (s : State) (r : RaisedReceipt) : (s.raiseReceipt r).ledgTorn = s.ledgTorn := rfl
@[simp] theorem State.raiseReceipt_bar4Log2 (s : State) (r : RaisedReceipt) : (s.raiseReceipt r).bar4Log2 = s.bar4Log2 := rfl
@[simp] theorem State.raiseReceipt_pending (s : State) (r : RaisedReceipt) : (s.raiseReceipt r).pending = s.pending := rfl

end Sys2Proof.Machine
end

