-- ==== Sys2Proof/Laws/Ops.lean ====
section
/-!
SUPPORT. What the shared operations do, said once: an operation on an order or a sequencer is one of two things; an instruction or a
microword that is due is its body; a final receipt; one-bit fields; a fold keeps what each of its steps keeps.
-/

namespace Sys2Proof.Machine

/-- A fold over states keeps what each of its steps keeps. -/
theorem foldl_keep {α : Type} (P : State → Prop) (f : State → α → State) (hf : ∀ t x, P t → P (f t x)) (l : List α) {s : State} (h : P s) :
    P (l.foldl f s) := by
  induction l generalizing s with
  | nil => exact h
  | cons a t ih => exact ih (hf s a h)

/-! ## Orders -/

/-- An operation on an order that is there, with its opcode, is its body. -/
theorem State.onWork_eq (s : State) (k op : Nat) (f : Work → State) {w : Work} (h : s.work? k = some w) (ho : w.opcode = op) :
    s.onWork k op f = f w := by
  simp [State.onWork, h, ho]

/-- An operation on an order keeps what the state has and its body keeps. -/
theorem State.onWork_keep (P : State → Prop) {s : State} (k op : Nat) (f : Work → State) (h : P s)
    (hf : ∀ w, s.work? k = some w → w.opcode = op → P (f w)) : P (s.onWork k op f) := by
  unfold State.onWork
  split
  · rename_i w hw
    split
    · rename_i ho; exact hf w hw (by simpa using ho)
    · exact h
  · exact h

/-- An order after the change of an order. -/
theorem State.work?_setWork (s : State) (k k' : Nat) (w : Work) : (s.setWork k w).work? k' = if k' = k then some w else s.work? k' := by
  simp [State.work?, State.setWork]

/-- What a final receipt does to an order that is there: the receipt is raised and the order is ended. -/
theorem State.finalReceipt_eq (s : State) (k status cause : Nat) (detail : Bytes) {w : Work} (h : s.work? k = some w) :
    s.finalReceipt k status cause detail =
      { s with receipts := s.receipts ++ [{ work := k, status, final := true, cause, detail, no := s.raiseNo }], raiseNo := s.raiseNo + 1,
               works := Store.put s.works k { w with stage := .ended } } := by
  have h' : (s.raiseReceipt { work := k, status, final := true, cause, detail }).work? k = some w := h
  simp only [State.finalReceipt, State.modWork, h']
  rfl

/-- A final receipt leaves the registers. -/
@[simp] theorem State.finalReceipt_regs (s : State) (k status cause : Nat) (detail : Bytes) :
    (s.finalReceipt k status cause detail).regs = s.regs := by
  unfold State.finalReceipt State.modWork
  split <;> rfl

@[simp] theorem State.finalReceipt_mem (s : State) (k status cause : Nat) (detail : Bytes) :
    (s.finalReceipt k status cause detail).mem = s.mem := by
  unfold State.finalReceipt State.modWork
  split <;> rfl

@[simp] theorem State.finalReceipt_pending (s : State) (k status cause : Nat) (detail : Bytes) :
    (s.finalReceipt k status cause detail).pending = s.pending := by
  unfold State.finalReceipt State.modWork
  split <;> rfl

/-! ## Sequencers -/

/-- An operation on a sequencer that holds an order is its body. -/
theorem State.onSeq_eq (s : State) (n : Nat) (f : Nat → Work → Seq → State) {k : Nat} {w : Work} (hk : (s.seqSt n).work = some k)
    (hw : s.work? k = some w) : s.onSeq n f = f k w (s.seqSt n) := by
  simp [State.onSeq, hk, hw]

/-- An operation on a sequencer keeps what the state has and its body keeps. -/
theorem State.onSeq_keep (P : State → Prop) {s : State} (n : Nat) (f : Nat → Work → Seq → State) (h : P s)
    (hf : ∀ k w, (s.seqSt n).work = some k → s.work? k = some w → P (f k w (s.seqSt n))) : P (s.onSeq n f) := by
  simp only [State.onSeq]
  split
  · exact h
  · rename_i k hk
    split
    · rename_i w hw; exact hf k w hk hw
    · exact h

/-- A sequencer after the change of a sequencer. -/
theorem State.seqSt_setSeq (s : State) (n m : Nat) (q : Seq) : (s.setSeq n q).seqSt m = if m = n then q else s.seqSt m := by
  simp [State.seqSt, State.setSeq]

/-- An instruction that is due is its body, on the sequencer after the fetch and the charge (R136, R141). -/
theorem State.instr_due (s : State) (n op : Nat) (body : State → Nat → Work → Seq → Ins → State) {k : Nat} {w : Work} {q : Seq} {i : Ins}
    (h : dueIns s n op = some (k, w, q, i)) : s.instr n op body = body s k w q i := by
  unfold dueIns at h
  simp only at h
  split at h
  · cases h
  rename_i k' hk
  split at h
  · cases h
  rename_i w' hw
  split at h
  case isFalse => cases h
  rename_i hc
  obtain ⟨h1, h2, h3, h4, h5⟩ := hc
  split at h
  · cases h
  rename_i q' hq
  split at h
  case isFalse => cases h
  rename_i hi
  obtain ⟨i1, i2, i3⟩ := hi
  cases hch : q'.charge (s.fixedCost op) with
  | none => simp [hch] at h
  | some r =>
    simp only [hch, Option.map_some, Option.some.injEq, Prod.mk.injEq] at h
    obtain ⟨rfl, rfl, rfl, rfl⟩ := h
    have i3' : (s.insAt (s.seqSt n).nseg (s.seqSt n).nidx).namesSeg = false ∨
        w'.segs.contains (s.insAt (s.seqSt n).nseg (s.seqSt n).nidx).x = true := by
      cases hb : (s.insAt (s.seqSt n).nseg (s.seqSt n).nidx).namesSeg with
      | false => exact Or.inl rfl
      | true => exact Or.inr (i3 hb)
    have hn : ¬ 2 ^ 18 ≤ (s.seqSt n).nidx := by omega
    unfold State.instr
    rw [State.onSeq_eq s n _ hk hw]
    have hb : ((s.insAt (s.seqSt n).nseg (s.seqSt n).nidx).namesSeg && !w'.segs.contains (s.insAt (s.seqSt n).nseg (s.seqSt n).nidx).x) = false := by
      rcases i3' with h | h <;> rw [h] <;> simp
    simp only [h1, h2, h3, h5, hq, i1, i2, hch, hn, hb, if_false, Bool.not_true, ne_eq, not_true_eq_false, or_self, Bool.false_eq_true]

/-- A microword that is due is charged, counted and carried out; then the engine goes to the next address, unless the body ended the
burst (R141, R177, R180). -/
theorem State.micro_due (s : State) (n op : Nat) (body : State → Nat → Work → Seq → Uop → State × Option Nat) {k : Nat} {w : Work} {q : Seq}
    {u : Uop} (h : dueUop s n op = some (k, w, q, u)) :
    s.micro n op body =
      let r := body ((atUop s u q).setSeq n q) k w q u
      let t := r.1.useFree (if isSet u.a || isSet u.b then 1 else 0)
      if (t.seqSt n).phase = .ended then t
      else match t.nextAddr q.upc r.2 with
        | some a => t.setSeq n { t.seqSt n with upc := a }
        | none => t.lossOfControl n k := by
  unfold dueUop at h
  simp only at h
  split at h
  · cases h
  rename_i k' hk
  split at h
  · cases h
  rename_i w' hw
  split at h
  case isFalse => cases h
  rename_i hc
  obtain ⟨h1, h2⟩ := hc
  cases hch : (s.seqSt n).charge 1024 with
  | none => simp [hch] at h
  | some r =>
    simp only [hch, Option.map_some, Option.some.injEq, Prod.mk.injEq] at h
    obtain ⟨rfl, rfl, rfl, rfl⟩ := h
    unfold State.micro
    rw [State.onSeq_eq s n _ hk hw]
    simp only [h1, h2, hch, Bool.not_true, Bool.false_eq_true, ne_eq, not_true_eq_false, or_self, if_false]
    all_goals rfl

/-- A write of an operand leaves the start of the next cycle. -/
@[simp] theorem Seq.uwrite_nextStart (q : Seq) (sel : Nat) (v : BitVec 64) : (q.uwrite sel v).nextStart = q.nextStart := by
  have h : ∀ (l : List Nat) (p : Seq), (l.foldl (fun p e => p.putLatch e (bitOf v.toNat e)) p).nextStart = p.nextStart := by
    intro l
    induction l with
    | nil => intro p; rfl
    | cons e l ih =>
      intro p
      simp only [List.foldl_cons, ih]
      unfold Seq.putLatch Seq.clearLatch
      split
      · split <;> rfl
      · split <;> rfl
  unfold Seq.uwrite
  split
  · rfl
  · split <;> first | rfl | exact h _ _

/-- A micro-operation that only changes the engine, when it is due. -/
theorem State.microQ_due (s : State) (n op : Nat) (f : State → Seq → Uop → Seq) {k : Nat} {w : Work} {q : Seq} {u : Uop}
    (h : dueUop s n op = some (k, w, q, u)) :
    s.microQ n op f =
      let r := f ((atUop s u q).setSeq n q) q u
      let t := (((atUop s u q).setSeq n q).setSeq n r).useFree (if isSet u.a || isSet u.b then 1 else 0)
      if (t.seqSt n).phase = .ended then t
      else match t.nextAddr q.upc none with
        | some a => t.setSeq n { t.seqSt n with upc := a }
        | none => t.lossOfControl n k := State.micro_due s n op _ h

/-- A read of lines for a sequencer changes its fetch credit and its line store, and nothing else of it (R125, R136). -/
theorem State.readLines_frame (s : State) (q : Seq) (ls : List Nat) {q' : Seq} (h : s.readLines q ls = .ok q') :
    q' = { q with fcredit := q'.fcredit, lines := q'.lines } := by
  induction ls generalizing q with
  | nil => simp only [State.readLines, Except.ok.injEq] at h; subst h; rfl
  | cons l t ih =>
    unfold State.readLines at h
    split at h
    · have := ih _ h; simpa using this
    · split at h
      · cases h
      · split at h
        · cases h
        · have := ih _ h; simpa using this

/-! ## One-bit fields -/

/-- A one-bit field that has been set, and one that has been cleared. -/
theorem State.bit_setBit (s : State) (f : Fld) (i j : Nat) (hf : f.lsb + f.width ≤ 32) (h1 : 1 ≤ f.width) : (s.setBit f i j).bit f i j = true := by
  have : (1 : Nat) % 2 ^ f.width = 1 := Nat.mod_eq_of_lt (Nat.one_lt_two_pow (by omega))
  simp [State.bit, State.setBit, State.get_set_self s f 1 i j hf, this]

theorem State.bit_clrBit (s : State) (f : Fld) (i j : Nat) (hf : f.lsb + f.width ≤ 32) : (s.clrBit f i j).bit f i j = false := by
  simp [State.bit, State.clrBit, State.get_set_self s f 0 i j hf]

theorem State.bit_setIf (s : State) (f : Fld) (b : Bool) (i j : Nat) (hf : f.lsb + f.width ≤ 32) (h1 : 1 ≤ f.width) :
    (s.setIf f b i j).bit f i j = b := by
  have : (1 : Nat) % 2 ^ f.width = 1 := Nat.mod_eq_of_lt (Nat.one_lt_two_pow (by omega))
  cases b <;> simp [State.bit, State.setIf, State.get_set_self s f _ i j hf, this]

/-- A count that has been raised, saturated at its largest value. -/
theorem State.get_countUp (s : State) (f : Fld) (n i j : Nat) (hf : f.lsb + f.width ≤ 32) :
    (s.countUp f n i j).get f i j = min (s.get f i j + n) (2 ^ f.width - 1) := by
  have hp : 0 < 2 ^ f.width := Nat.two_pow_pos _
  have : min (s.get f i j + n) (2 ^ f.width - 1) % 2 ^ f.width = min (s.get f i j + n) (2 ^ f.width - 1) :=
    Nat.mod_eq_of_lt (Nat.lt_of_le_of_lt (Nat.min_le_right _ _) (Nat.sub_lt hp Nat.one_pos))
  simp [State.countUp, State.get_set_self s f _ i j hf, this]

end Sys2Proof.Machine
end

