-- ==== Sys2Proof/Tests/Slice0.lean ====
section
/-!
SUPPORT. Tests of the model: ill-formed commands are refused; the worked examples of the manual; one witness for every clause of the
statements that has hypotheses: a state and operands that meet all of them.
-/

namespace Sys2Proof.Tests

open Sys2Proof.Machine

set_option Elab.async false
set_option linter.unusedVariables false

/-! ## Ill-formed commands -/

theorem test_ill_formed_1 : List.any (α := Instr)
    [.registerWrite (.bar2 64 0 0) 0#32,
     .unalignedAccess (.bar2 64 0 0) 1 none,
     .unalignedAccess (.bar0 0) 0 none,
     .bar2WideAccess 64 0 0 0 false [],
     .bar2WideAccess 0 0 60 8 false [],
     .levelCommit 256,
     .rangeSwitchDone 256,
     .rampStart 256,
     .rampEnd 256,
     .rampDone 256,
     .channelEnableWrite 256 0#32,
     .comparatorOutcomeChange 256 0,
     .comparatorOutcomeChange 0 4,
     .comparatorDisagreement 256,
     .swmTrip 256,
     .drvStuck 256,
     .pmuOver 256,
     .pmuClamp 256,
     .tsbankCommit 32,
     .timingCommitEffect 32,
     .tsbankStageWrite 256 0 0 0#32,
     .tsbankStageWrite 0 32 0 0#32,
     .tsbankStageWrite 0 0 8 0#32,
     .cycleStart 32 {},
     .bar4Read 0 0 [] 0,
     .ownershipCommit 32,
     .seqVec 32,
     .seqRepeat 32,
     .seqLoop 32,
     .endloop 32] Instr.wf = false := by decide +kernel

theorem test_ill_formed_2 : List.any (α := Instr)
    [.seqCall 32,
     .seqReturn 32,
     .seqJump 32,
     .seqMatch 32,
     .matchTimeout 32,
     .brfail 32,
     .brevt 32,
     .seqShift 32,
     .setts 32,
     .seqDir 32,
     .edgecmp 32,
     .seqHold 32,
     .holdRelease 32,
     .holdTimeout 32,
     .seqMark 32,
     .captureOn 32,
     .captureOff 32,
     .seqEnd 32,
     .instructionBoundary 32,
     .sessionPause 32,
     .sessionResume 32,
     .sessionStop 32,
     .redirectArm 32 0#32,
     .faultNoticeArrival 32,
     .engineWatchdogExpiry 32,
     .microwordFetchError 32 false,
     .uopNop 32,
     .uopMov 32,
     .ldi 32,
     .ldih 32] Instr.wf = false := by decide +kernel

theorem test_ill_formed_3 : List.any (α := Instr)
    [.uopAdd 32,
     .uopSub 32,
     .addi 32,
     .uopAnd 32,
     .uopOr 32,
     .uopXor 32,
     .uopShf 32,
     .uopCmp 32,
     .cmpi 32,
     .uopField 32,
     .uopBr 32,
     .brz 32,
     .brnz 32,
     .brn 32,
     .brc 32,
     .brb 32,
     .disp 32,
     .dispop 32,
     .uopRun 32,
     .uopQuiet 32,
     .uopAct 32,
     .wpush 32,
     .wpop 32,
     .uopSpill 32,
     .uopFill 32,
     .memwait 32,
     .failrd 32,
     .siteop 32,
     .uopCrier 32,
     .uopLatch 32] Instr.wf = false := by decide +kernel

theorem test_ill_formed_4 : List.any (α := Instr)
    [.uopTrap 32,
     .trapret 32,
     .voidb 32,
     .endb 32,
     .illegalUop 32,
     .laneModeEnable 64 0#32,
     .laneModeOff 64,
     .cdrLock 64,
     .cdrLockLoss 64,
     .losAssert 64,
     .losClear 64,
     .laneHeader 64 0,
     .laneHeader 0 4,
     .huntSlow 64,
     .laneBlock 64 0 0 false,
     .laneBlock 0 4 0 false,
     .gslFrameSend 4,
     .gslFrameReceive 4 0 0,
     .linkTrained 4 0,
     .linkCalDone 4,
     .linkLoss 4 false,
     .linkDriftCheck 4,
     .portRoleWrite 4 0#32,
     .slotEdge 128 false 0,
     .stampRecordWrite 4,
     .tgateTransition 4 false 0,
     .gateSettleAccept 4,
     .slotDisarmTimer 128,
     .ssmsRunDone 4 [],
     .busMasterClear 64] Instr.wf = false := by decide +kernel

theorem test_ill_formed_5 : List.any (α := Instr)
    [.d3hotEntry 64,
     .d3hotExit 64,
     .functionLevelReset 64,
     .flrDone 64,
     .msixUnmask 64 0,
     .msixUnmask 0 2048,
     .stallOpen 64 0,
     .stallOpen 0 4096,
     .stallOpenComplete 4096 [] 0,
     .stallClose 64 0,
     .stallClose 0 4096,
     .stallClosed 4096,
     .stallWake 64 0,
     .stallWake 0 4096,
     .doorbellPoll 64 0,
     .doorbellPoll 0 512,
     .doorbellReadDone 4096 0,
     .stallSleep 4096,
     .orderFetch 4096,
     .frameTransmit 2 0,
     .awnLimitWrite 3 0#32,
     .itemDispatch 32,
     .contextSaved 32,
     .callExit 32 0,
     .waitFor 32 0,
     .callTime 32,
     .hostWrite 32 0 0 0,
     .mbxSend 32 0,
     .itemException 32 0,
     .lockstepMismatch 32] Instr.wf = false := by decide +kernel

theorem test_ill_formed_6 : List.any (α := Instr)
    [.graphSuspend 16,
     .readRequest 32 0,
     .writeBack 32 0 [],
     .mbxPortSelect 64 0 0,
     .mbxPortSelect 0 16 0,
     .mbxPortSelect 0 0 4096,
     .mbxPortDataRead 64 0 0,
     .mbxPortDataRead 0 16 0,
     .mbxPortDataRead 0 0 16,
     .mbxTxbufWrite (.host 0 0) 16 0 0#32,
     .mbxTxbufWrite (.host 0 0) 0 16 0#32,
     .mbxSharedSend (.host 0 0) 16,
     .mbxRxbufRead (.host 0 0) 16 0,
     .mbxRxbufRead (.host 0 0) 0 16,
     .routeWrite 2048 0#32,
     .arbiterGrant 64,
     .requestWithdraw 64,
     .refreshDue 64,
     .refreshMakeup 4,
     .patrolScrub 0 3,
     .ptpFrameReceive 2 [] false 0,
     .conversionDone 64 0 false,
     .adcAfterDelay 64,
     .monitorScan 64 [],
     .urgentRequest 256 false,
     .levelVerify 64 0,
     .resultQueuePop 4,
     .edgeLin [] false 64,
     .fltDisable 64,
     .disableDone 64] Instr.wf = false := by decide +kernel

theorem test_ill_formed_7 : List.any (α := Instr)
    [.supplyWarning 5,
     .supplyWarningEnd 5 0,
     .resetRelease 4 false 0 false,
     .resetRelease 0 false 64 false,
     .holdDurationBound 32,
     .driftDetection false 4] Instr.wf = false := by decide +kernel

theorem test_ill_formed_targets : [Target.vfBar0 0 4, .vfBar0 64 4, .bar2 64 0 4, .config 64 .numVfs].any Target.wf = false := by decide +kernel

theorem test_ill_formed_records : [Instr.arbiterRequest 3 { requester := 140, lines := [0] }, .arbiterRequest 64 { requester := 1, lines := [0] },
     .ssmsRun 4 { start := .channel 0, stops := [(0, true)] } 1 0, .ssmsRun 0 { start := .channel 0, stops := [] } 1 0,
     .ssmsRun 0 { start := .channel 0, stops := [(0, true)] } 0 0].any Instr.wf = false := by decide +kernel

theorem test_well_formed : List.all (α := Instr) [.registerWrite (.bar2 63 0 4) 0#32, .bar2WideAccess 63 0 0 64 true [], .msixUnmask 0 2047, .cycleStart 31 {}, .levelCommit 255]
    Instr.wf = true := by decide +kernel

/-! ## States for the tests -/

/-- The block once boot has reached step 8. -/
def up : State := { booted := true }
/-- An order of stall 0 whose first byte is `op`, at a stage. -/
def orderWork (op : Nat) (st : Stage) : Work :=
  { stall := 0, fn := 0, idx := 0, ord := BitVec.ofNat 8 op :: List.replicate 63 0#8, blk := List.replicate 512 0#8, stage := st, admittedRcpt := true, held := true, formed := true }
/-- The block with that order as number 1. -/
def orderAt (op : Nat) (st : Stage) : State := { up with works := [(1, orderWork op st)], nextWork := 2 }
/-- A timing commit of sequencer 3 that is due. -/
def tsDue : State := { up with tsPending := [(3, { accept := 0, chans := [5] })] }
/-- Function 3 while its disable runs and is shown. -/
def disablingS : State :=
  { (up.setBit F.FLT_DISABLE_STATUS_BUSY).set F.FLT_DISABLE_STATUS_FN 3 with funcs := [(3, { present := true, disabling := true, voided := 2 })] }
/-- A burst on sequencer 3 with segment 0 and a capture. -/
def burstW : Work :=
  { stall := 0, fn := 0, idx := 0, ord := 1#8 :: List.replicate 63 0#8, admittedRcpt := true, held := true, formed := true, stage := .running,
    blk := (List.replicate 6 0#8 ++ [3#8, 4#8, 0#8, 0#8, 0#8, 0#8, 8#8, 0#8, 1#8] ++ List.replicate 497 0#8) }
/-- That burst as order 1 on its sequencer. -/
def onSeq3 (w : Work) (q : Seq) : State := { up with works := [(1, w)], nextWork := 2, seqs := [(3, { q with work := some 1 })] }
/-- The sequencer at an instruction word. -/
def atIns (word : Nat) (q : Seq) : State := { onSeq3 burstW { q with phase := .ready, dmax := 8 } with mem := Mem.setBytes [] 0 (leBytes word 16) }
/-- The micro-engine at a microword in the patch RAM. -/
def atUop3 (word : Nat) (q : Seq) : State := { onSeq3 burstW { q with phase := .ready, upc := 0x4000 } with patch := [BitVec.ofNat 32 word] }
/-- The value of a computation that succeeds. -/
def okOf {ε α : Type} (o : Except ε α) (d : α) : α := match o with | .ok x => x | .error _ => d
theorem eq_error {ε α : Type} [DecidableEq ε] (o : Except ε α) (e : ε) (h : (match o with | .ok _ => false | .error x => decide (x = e)) = true) : o = .error e := by
  cases o with
  | ok _ => cases h
  | error x => rw [of_decide_eq_true h]
theorem eq_ok_okOf {ε α : Type} (o : Except ε α) (d : α) (h : o.toBool = true) : o = .ok (okOf o d) := by cases o <;> first | rfl | cases h
def seqOf {α : Type} (o : Option (Nat × Work × Seq × α)) : Seq := (o.map fun p => p.2.2.1).getD {}
def uopOf (o : Option (Nat × Work × Seq × Uop)) : Uop := (o.map fun p => p.2.2.2).getD ⟨0, 0, 0, 0⟩
def insOf (o : Option (Nat × Work × Seq × Ins)) : Ins := (o.map fun p => p.2.2.2).getD ⟨0, 0, 0, 0, 0⟩
/-- The micro-engine at DISPOP before an END. -/
def dispS : State := { atUop3 (0x17 * 2 ^ 26 + 5) {} with mem := Mem.setBytes [] 0 (leBytes 0x13 16) }
/-- The micro-engine at FILL of slot 2, which holds a spilled window. -/
def fillS : State :=
  { atUop3 (0x26 * 2 ^ 26 + 2 ^ 21) { t := [0#64, 2#64, 3#64], spillAt := 4096, depth := 2, wins := [(0, {}), (2, { slot := none })] } with
    mem := Mem.setBytes [] (4096 + 64) (spillSlot 2 { ret := 77, c := [1, 2, 3, 4] }) }
def dispQ1 : Seq := match dispS.readLines (seqOf (dueUop dispS 3 23)) [0] with | .ok q => q | .error _ => {}
/-- A joint burst of participants 5 and 6 with joint ID 0. -/
def jointPartW : Work :=
  { burstW with stage := .joint, blk := List.replicate 6 0#8 ++ [3#8, 16#8] ++ List.replicate 264 0#8 ++ [2#8] ++ List.replicate 239 0#8, parts := [5#8, 0#8, 6#8, 0#8] }
/-- A PTP Sync frame. -/
def ptpF : Bytes := List.replicate 12 0#8 ++ [0x88#8, 0xF7#8, 0#8, 2#8] ++ List.replicate 40 0#8
/-- Local memory of 64 GiB on every channel. -/
def dramS : State := ((up.set F.DRAM_SIZE_MIB 65536).wr ⟨.DRAM_ILV_LIVE_w, 0, 0⟩ 0xFFFFFFFF#32).wr ⟨.DRAM_ILV_LIVE_w, 1, 0⟩ 0xFFFFFFFF#32
/-- A session burst on sequencer 3. -/
def sessW : Work := { burstW with blk := List.replicate 6 0#8 ++ [3#8, 2#8] ++ List.replicate 504 0#8 }
def sessS : State := onSeq3 sessW {}
/-- A graph descriptor of one node: operation `op`, 4 elements of the source at 4096, output at 8192. -/
def graphD (op : Nat) : Bytes :=
  leBytes 0x47524131 4 ++ [1#8, 0#8, 1#8] ++ List.replicate 57 0#8 ++
    (leBytes op 1 ++ leBytes 0 1 ++ leBytes 0xFFFF 2 ++ leBytes 0 4 ++ leBytes 4096 8 ++ leBytes 8192 8 ++ leBytes 4 4 ++ leBytes (if op = 5 then 0xFFFF else if op = 4 then 16 else 0) 4)
def graphW (op : Nat) : Work := { orderWork Op.graph .running with data := graphD op }
def graphS (op : Nat) : State := { up with works := [(1, graphW op)], mem := Mem.setBytes [] 4096 [1#8, 2#8, 0#8, 7#8] }
/-- A capture read that the Toll admits. -/
def tollW : Work := { orderWork Op.captureRead .offered with key := [1] }
def tollS : State := { (((up.setBit F.TSBANK_REF_MASTER_LOCK).set F.AWN_SUPPLY_MEAN_W 500).set F.AWN_SUPPLY_PEAK_W 800).set F.DRAM_SIZE_MIB 65536 with works := [(1, tollW)] }
def passOf : Option (Resv × Nat × Store Nat Postpone) :=
  match (tollS.set F.TOLL_STATUS_PACE (tollS.get F.PWR_PACE_READING)).tollVerdict 1 tollW with | .pass a b c => some (a, b, c) | _ => none
def passR : Resv := (passOf.map (·.1)).getD {}
def passX : Nat := (passOf.map (·.2.1)).getD 0
def passP : Store Nat Postpone := (passOf.map (·.2.2)).getD []
/-- A converter sequence of one entry: input 8 of converter 0. -/
def adcW : Work :=
  { orderWork Op.adcSequence .dataRead with ord := BitVec.ofNat 8 Op.adcSequence :: List.replicate 39 0#8 ++ [1#8, 0#8, 1#8] ++ List.replicate 21 0#8, data := leBytes (8 * 64) 8 }
/-- Sequencer 3 emits a row of segment 0 in a session burst; it owns channel 7, whose set 0 is valid. -/
def rowRun : Run := { kind := .vec, left := 3 }
def rowS : State :=
  { (((onSeq3 sessW { phase := .emit, run := some rowRun, nextStart := 1000 }).setBit F.TSBANK_REF_MASTER_LOCK).wr ⟨.SEQn_OWN_LIVE_w, 3, 0⟩ 0x80#32).wr
      ⟨.TSBANK_LIVE, 7, 0⟩ 4096#32 |>.wr ⟨.TSBANK_LIVE, 7, 7⟩ 16#32 with fr := 5 }
/-- A channel 3 of local memory with 17 mapped requesters. -/
def fullArbS : State :=
  { dramS with arbs := [(3, { raised := [134] })], works := [(1, { orderWork Op.burst .running with
      resv := { rates := (List.range 17).map fun q => { requester := q, ranges := [(0, 65536)], rate := 1, buffer := 64 } } })] }
/-- Sequencer 0 owns every channel but channel 5. -/
def ownedS : State := (List.range 8).foldl (fun t j => t.wr ⟨.SEQn_OWN_LIVE_w, 0, j⟩ (if j = 0 then 0xFFFFFFDF#32 else 0xFFFFFFFF#32)) up
/-- A LEVEL_SET of channel 0 whose record is all zeros. -/
def lvW : Work := { orderWork Op.levelSet .window with blk := List.replicate 32 0#8 ++ [1#8] ++ List.replicate 479 0#8 }
def lvS : State := { orderAt Op.levelSet .window with works := [(1, lvW)] }
/-- A TIMING_COMMIT of sequencer 0 whose channel 5 has a set of period 0. -/
def badTs : State := ((orderAt Op.timingCommit .routed).wr ⟨.SEQn_OWN_LIVE_w, 0, 0⟩ 32#32).wr ⟨.TSBANK_STAGE, 5, 7⟩ 16#32
/-- Sequencer 3 at a CALL with all seven windows resident, and at a RETURN to a window that was spilled, with and without its slot. -/
def callS : State := atIns (5 + 9 * 2 ^ 32) { dmax := 8, depth := 6, spillAt := 4096, wins := (List.range 7).map fun d => (d, { slot := some d }) }
def retS : State :=
  let s := atIns 6 { depth := 1, spillAt := 4096, wins := [(0, { slot := none }), (1, { ret := 9, slot := some 1 })] }
  { s with mem := Mem.setBytes s.mem 4096 (spillSlot 0 { ret := 77, c := [1, 2, 3, 4] }) }
def retBad : State := atIns 6 { depth := 1, spillAt := 4096, wins := [(0, { slot := none }), (1, { ret := 9, slot := some 1 })] }
/-- A burst on sequencer 3 with segment 0 and no capture. -/
def noCapW : Work := { burstW with blk := List.replicate 6 0#8 ++ [3#8, 0#8, 0#8, 0#8, 0#8, 0#8, 8#8, 0#8, 1#8] ++ List.replicate 497 0#8 }
/-- Sequencer 3 in quiet cycles of a burst without duration. -/
def rowB : State := (onSeq3 burstW { phase := .emit, run := some { kind := .quiet, left := 3 }, nextStart := 1000, lastSet := some 0, started := true, first0 := 0 }).setBit F.TSBANK_REF_MASTER_LOCK |>.wr
  ⟨.SEQn_OWN_LIVE_w, 3, 0⟩ 0x80#32 |>.wr ⟨.TSBANK_LIVE, 7, 0⟩ 4096#32 |>.wr ⟨.TSBANK_LIVE, 7, 7⟩ 16#32
/-- Sequencer 3 before an EDGECMP entry in a stream-mode session whose period is 512 tu. -/
def edgeW : Work := { sessW with blk := List.replicate 6 0#8 ++ [3#8, 3#8] ++ List.replicate 504 0#8 }
def edgeS : State :=
  ((((onSeq3 edgeW { phase := .emit, run := some rowRun, nextStart := 1000, acts := [.edgecmp true 0 1] }).setBit F.TSBANK_REF_MASTER_LOCK).wr ⟨.SEQn_OWN_LIVE_w, 3, 0⟩ 0x80#32).wr
      ⟨.TSBANK_LIVE, 7, 0⟩ 512#32).wr ⟨.TSBANK_LIVE, 7, 7⟩ 24#32
def edgeQ : Seq := ((edgeS.startBeat (edgeS.seqSt 3) rowRun).map (·.1)).getD {}
/-- A closing burst with a compare lane. -/
def cmpLaneW : Work := { burstW with stage := .closing, endAt := 5, lanes := [5] }
def cmpLaneS : State := (onSeq3 cmpLaneW {}).setBit F.LANEn_BIND_CMP_EN 5
/-- The block of a session burst on sequencer 3 that declares segment `g`, and an order whose block is being read. -/
def sessBlk (g : Nat) : Bytes :=
  leBytes 0x42525331 4 ++ leBytes 1 2 ++ [3#8, 2#8] ++ leBytes 1280 4 ++ leBytes 0 2 ++ leBytes 1 2 ++ leBytes 0 16 ++ leBytes 1 4 ++ leBytes 0 412 ++ leBytes g 2 ++ leBytes 0 62
def goodBlk : Bytes := sessBlk 0
def badBlk : Bytes := sessBlk 5
def goodBurst : Work := { orderWork 1 .blockRead with blk := [] }
def goodBurstS : State := { up with works := [(1, goodBurst)] }
/-- A joint burst of devices 5 and 6 before the Toll. -/
def jtW : Work := { jointPartW with stage := .offered, key := [1], ord := 1#8 :: 8#8 :: (List.replicate 14 0#8 ++ [0#8, 0#8, 1#8, 0#8, 0#8, 0#8] ++ List.replicate 42 0#8) }
def jtS : State := { ((tollS.setBit F.GSL_HALL_STATUS_JOINT_OK).set F.GSL_HALL_STATUS_SIZE 2).clrBit F.TIME_STATUS_COARSE with works := [(1, jtW)] }
def jtC : State := jtS.set F.GSL_DEVID_DEVID 5
def jtU (s : State) : State := (s.set F.TOLL_STATUS_PACE (s.get F.PWR_PACE_READING)).setJoint 0 { phase := .deciding, work := some 1, timer := none }
def jtPass : Option (Resv × Nat × Store Nat Postpone) := match (jtU jtC).tollVerdict 1 jtW with | .pass a b c => some (a, b, c) | _ => none
def jtR : Resv := (jtPass.map (·.1)).getD {}
def jtX : Nat := (jtPass.map (·.2.1)).getD 0
def jtP : Store Nat Postpone := (jtPass.map (·.2.2)).getD []
/-- A RUNS node without room, and a STATS node without an element. -/
def runs0W : Work := { graphW 4 with data := (graphD 4).set 92 0#8 }
def runs0S : State := { graphS 4 with works := [(1, runs0W)] }
def stats0W : Work := { graphW 6 with data := (graphD 6).set 88 0#8 }
def stats0S : State := { graphS 6 with works := [(1, stats0W)] }
/-- A procedure image (EDGE_LIN) of Row 0, with its CRC. -/
def calImg (kind scope serial fact proc : Nat) : Bytes :=
  let h := leBytes 0x43414C31 4 ++ leBytes 1 2 ++ leBytes kind 1 ++ leBytes scope 1 ++ leBytes serial 8 ++ leBytes fact 8 ++ leBytes 0 2 ++ leBytes proc 1 ++ leBytes 0 37
  h.take 60 ++ leBytes (imageCrc h) 4
def calProcImg : Bytes := calImg 1 1 0 0 1
/-- EDGE_LIN with a residual beyond 4 tu on channel 3. -/
def edgeW9 : CalRun :=
  { work := 1, rows := [0], phase := .measuring, proc := 1,
    means := (List.range 64).map fun c => (c, (List.range 256).map fun (f : Nat) => (if c = 3 ∧ f = 4 then 9000 else 256 * (f : Int), 5)) }

/-- The state of a next outcome. -/
def after (o : Host.Outcome State Fault Refusal) : State := match o with | .next t => t | _ => {}

/-! ## The manual's worked examples -/

/-- 27_register_index.md: the registers at BAR0 0x0050_1434 and 0x0048_2A34. -/
theorem test_register_index : bar0At 0x501434 = some ⟨.SEQn_SESSION, 5, 0⟩ ∧ bar0At 0x482A34 = some ⟨.TSBANK_LIVE, 10, 17 * 8 + 5⟩ := by decide +kernel

/-- 12_host_link.md: a link at 32.0 GT/s x8 reads RATE 280. -/
theorem test_link_rate : (after (exec (.linkUp 5 8 true true) up)).get F.STALL_HOST_STATUS_RATE = 280 := by decide +kernel

/-- 18_memory_system.md: local address 0x0000_1234_5678 lies on channel 5 under the reset map. -/
theorem test_local_map : (dramS.set F.DRAM_ILV_STATUS_LIVE_GRAIN 12).chanOf 0x12345678 = 5 := by decide +kernel

/-- 18_memory_system.md: W_c of burst A is 617.3 ns at a grain of 4 KiB, whose buffers hold, and 2,796.1 ns at 64 KiB, whose do not. -/
def burstA : Resv :=
  { start := 0, stop := some 1720320000, rates := [{ requester := 4, ranges := [(0, 4194304)], rate := 216, buffer := 65536 },
      { requester := 36, ranges := [(2 ^ 30, 2 ^ 27)], rate := 512 / 5, buffer := 65536 }] }
def grainS (g : Nat) : State := ((dramS.set F.DRAM_ILV_STATUS_LIVE_GRAIN g).set F.TOLL_REFRESH_TRFC 160).set F.TOLL_REFRESH_TREFI 3900
theorem test_service_time : ((grainS 12).serviceTime [burstA] [] burstA 5 100 * 10).floor = 6173 ∧ ((grainS 16).serviceTime [burstA] [] burstA 5 100 * 10).floor = 27960 := by
  decide +kernel
theorem test_buffers : (grainS 12).bufferOk [burstA] [] burstA 5 100 = true ∧ (grainS 16).bufferOk [burstA] [] burstA 5 100 = false := by decide +kernel

/-- 02_pin_channels.md: the ramp of the 1.8 V to 3.3 V move lasts 0.75 µs. -/
theorem test_ramp_length : rampLen [27034, 12288, 21873, 17449, 19661, 12288] [39322, 12288, 29860, 21750, 25805, 12288] 0 20 = 3072000 := by decide +kernel

/-- 21_calibration.md: VIH of CH070 is driven to 39,292, and to 39,312 after the new offset. -/
theorem test_corrected : corrected 39322 25 (-2100) = 39292 ∧ corrected 39322 45 (-2100) = 39312 := by decide +kernel

/-- 03_timing_generation.md: a commit accepted at 10,000,500 takes effect at the boundary 14,097,600, and not at the one before. -/
def commitS (start : Nat) : State :=
  { up with seqs := [(2, { work := some 1, started := true, phase := .emit, nextStart := start, run := some { kind := .vec, left := 9 } })],
            works := [(1, burstW)], tsPending := [(2, { accept := 10000500, chans := [] })] }
theorem test_commit_boundary : (commitS 14097600).tsEffect 2 { accept := 10000500, chans := [] } = some 14097600 ∧
    (commitS 14096000).tsEffect 2 { accept := 10000500, chans := [] } = none := by decide +kernel

/-- 05_sequencers.md: RESUME at 6,000,000 starts cycle 0 of the new count at 6,163,840. -/
def pausedS : State := { onSeq3 sessW { paused := true } with fr := 6000000 }
theorem test_resume : ((after (exec (.sessionResume 3) pausedS)).seqSt 3).nextStart = 6163840 := by decide +kernel

/-- 07_compare_capture.md: the records of the first two cycles of CH130, and the outcomes LATE and MISSING of the others. -/
def setTs2 : TSet := { period := 4096, data := 0, ret := 0, drvOn := 0, drvOff := 0, winOpen := 1638, winClose := 2867, valid := true, stream := false, format := 0 }
def ch130 (s0 : Int) (o0 : Nat) (cs : List (Nat × Nat)) : ChanResult := (judgeChan 130 {} setTs2 (.edge 2) true false false false s0 o0 cs).2
theorem test_edge_records : ecRecord (ch130 0 0 [(2050, 2)]) = 0x19C0829 ∧ ecRecord (ch130 4096 2 [(1600, 0)]) = 0xFFFFDA0820 := by decide +kernel
theorem test_edge_outcomes : (ch130 8192 0 [(2900, 2)]).out = 2 ∧ (ch130 8192 0 [(2900, 2)]).stamps = [(1262, true)] ∧ (ch130 12288 2 []).out = 3 := by decide +kernel

/-- 07_compare_capture.md: the trigger of vector 5,000 takes the stamp of CH101; the oldest retained row is 904, vector 3,976. -/
def trigRs : List ChanResult :=
  [{ chan := 96, latch := 2, latchAt := 1600050, last := some (1599870, false) }, { chan := 97, latch := 0, latchAt := 1600055 },
   { chan := 101, latch := 2, latchAt := 1600075, last := some (1599931, false) }, { chan := 103, latch := 2, latchAt := 1600085 }]
theorem test_trigger_time : (matchTime 1 (BitVec.ofNat 256 (0xFF * 2 ^ 96)) (trigBits 1 trigRs) (some (BitVec.ofNat 256 (0x80 * 2 ^ 96))) trigRs 1600000) =
    (1599931, 101, false, false) := by decide +kernel

/-- 10_tally_stamping.md: the stamps and holds of thirteen edges of slot 40, and the record of edge 9. -/
theorem test_slot_credit : ((List.range 13).foldl (fun (p : TSlot × List Bool) k => let r := p.1.decide_ (2048 * k); (r.1, p.2 ++ [r.2]))
    ({ slot := 40, h := 1024, hs := 8192, depth := 4, credit := 32768 }, [])).2 =
    [true, true, true, true, true, false, false, false, true, false, false, false, true] := by decide +kernel
theorem test_stamp_record : ({ time := 0x10000000000 + 16384, source := 0x202, rising := true, held := true, warm := false, seq := 9 } : StampRec).bytes =
    [0x00#8, 0x40#8, 0x00#8, 0x00#8, 0x00#8, 0x01#8, 0x00#8, 0x00#8, 0x00#8, 0x00#8, 0x02#8, 0x02#8, 0x03#8, 0x09#8, 0x00#8, 0x00#8] := by decide +kernel

/-- 15_toll.md: burst A, with S0 = 8 µs and a duration of 400 µs, has the promise 420 µs. -/
theorem test_promise : ({ burstW with blk := List.replicate 16 0#8 ++ leBytes 1638400000 8 ++ List.replicate 488 0#8 }).promiseAt (8 * 4096000) 4096 = 1720320000 := by
  decide +kernel

/-- 19_time_network.md: 2100-02-29 is refused; 2100-02-28 23:59:59.5 UTC is D = 16,824,493,819,904,000,000,000 tu. -/
def calset (a b : Word) : State := ((up.wr ⟨.TIME_CALSET_0, 0, 0⟩ a).wr ⟨.TIME_CALSET_1, 0, 0⟩ b).set F.TIME_UTC_UTC_OFFSET 37
theorem test_date_invalid : (after (exec .timeCal (calset 0x32174000#32 0#32))).bit F.TIME_EVENTS_DATE_INVALID = true := by decide +kernel
theorem test_date : (after (exec .timeCal (calset 0x32172FD8#32 0x76F42400#32))).deviceTime = 16824493819904000000000 := by decide +kernel

/-- 22_safety_faults.md: the first fault of the overstress on CH070 reads FLT_FIRST = 0x1220_0046. -/
theorem test_first_fault : (after (exec .faultDetection { up with detections := [{ kind := 1, cause := 0x220, source := 0x46 }] })).rd ⟨.FLT_FIRST, 0, 0⟩ =
    0x12200046#32 := by decide +kernel


/-! ## Witnesses: a state and operands for every clause that has hypotheses -/

theorem witness_IdleStepPassesOneTick_1 : ∃ s : State,  (s.pending = []) :=
  ⟨up, by decide +kernel⟩

theorem witness_RegisterAccesses_3 : ∃ (off n : Nat) (data : List Word) (s : State),  (0 < n) ∧ (¬ (off % 4 = 0 ∧ n = 4)) ∧ (msixTable 0 off = none) ∧ (msixPba 0 off = none) :=
  ⟨0x400002, 4, [], up, by decide +kernel⟩

theorem witness_RegisterAccesses_4 : ∃ (fn rid off n : Nat) (data : List Word) (s : State),  (0 < n) ∧ (¬ (off % 4 = 0 ∧ n = 4)) ∧ (wideAccess off n = false) :=
  ⟨3, 9, 0x202, 4, [], up, by decide +kernel⟩

theorem witness_RegisterAccesses_5 : ∃ (off o : Nat) (d0 d1 : Word) (s : State),  (s.booted = true) ∧ (off % 8 = 0) ∧ (msixTable 0 off = some o) :=
  ⟨0x1FE0000, 0, 1, 2, up, by decide +kernel⟩

theorem witness_RegisterAccesses_9 : ∃ s : State,  (s.booted = true) :=
  ⟨up, by decide +kernel⟩

theorem witness_LevelCommitChecksThenCopies_1 : ∃ (c r : Nat) (s : State),  (s.booted = true) ∧ (c < 256) ∧ (s.commitResult c true = r) ∧ (r ≠ 0) :=
  ⟨2, 2, ((up.set F.CHn_STATUS_SAFE 1 2)), by decide +kernel⟩

theorem witness_LevelCommitChecksThenCopies_2 : ∃ (c : Nat) (s : State),  (s.booted = true) ∧ (c < 256) ∧ (s.commitResult c true = 0) :=
  ⟨2, ((up.wr ⟨.CHn_LEVEL_VIH,2,0⟩ 0x5000#32)), by decide +kernel⟩

theorem witness_ChannelEvents_1 : ∃ (c o : Nat) (s : State),  (c < 256) ∧ (o < 4) :=
  ⟨3, 2, up, by decide +kernel⟩

theorem witness_ChannelEvents_2 : ∃ (c : Nat) (s : State),  (c < 256) :=
  ⟨3, up, by decide +kernel⟩

theorem witness_ChannelEvents_3 : ∃ (c : Nat) (s : State),  (c < 256) ∧ (s.rowOff (c / 64) = false) ∧ (s.get F.PWR_STATUS_STATE ≠ 4) :=
  ⟨3, up, by decide +kernel⟩

theorem witness_ChannelEvents_4 : ∃ (c : Nat) (s : State),  (c < 256) ∧ (s.rowOff (c / 64) = false) ∧ (s.get F.PWR_STATUS_STATE < 3) ∧ (s.driverState c = 0) :=
  ⟨3, up, by decide +kernel⟩

theorem witness_ChannelEvents_5 : ∃ (c : Nat) (s : State),  (c < 256) ∧ (s.rowOff (c / 64) = false) ∧ (s.get F.PWR_STATUS_STATE < 2) ∧ (s.bit F.CHn_ENABLE_PMU_EN c = true) ∧ (s.get F.CHn_MODE_LIVE_PMU_MODE c = 1) :=
  ⟨3, (((up.setBit F.CHn_ENABLE_PMU_EN 3).set F.CHn_MODE_LIVE_PMU_MODE 1 3)), by decide +kernel⟩

theorem witness_ChannelEvents_6 : ∃ (c : Nat) (s : State),  (c < 256) ∧ (s.get F.PWR_STATUS_STATE < 2) ∧ (s.bit F.CHn_ENABLE_PMU_EN c = true) ∧ ((s.get F.CHn_MODE_LIVE_PMU_MODE c = 1 ∨ s.get F.CHn_MODE_LIVE_PMU_MODE c = 2)) :=
  ⟨3, (((up.setBit F.CHn_ENABLE_PMU_EN 3).set F.CHn_MODE_LIVE_PMU_MODE 2 3)), by decide +kernel⟩

theorem witness_ChannelLevels_1 : ∃ (c : Nat) (s : State),  ((s.chan c).phase = .starting) ∧ ((s.chan c).range ≠ (s.live c).drvRange) :=
  ⟨2, ((up.setChan 2 { phase := .starting, range := 1 })), by decide +kernel⟩

theorem witness_ChannelLevels_2 : ∃ (c : Nat) (s : State),  ((s.chan c).phase = .starting) ∧ ((s.chan c).range = (s.live c).drvRange) :=
  ⟨2, ((up.setChan 2 { phase := .starting, range := 0 })), by decide +kernel⟩

theorem witness_ChannelLevels_3 : ∃ (c : Nat) (s : State),  ((s.chan c).phase = .switching) :=
  ⟨2, ((up.setChan 2 { phase := .switching })), by decide +kernel⟩

theorem witness_ChannelLevels_4 : ∃ (c : Nat) (s : State),  ((s.chan c).phase = .ramping) :=
  ⟨2, ((up.setChan 2 { phase := .ramping, len := 7, target := [1,2,3,4,5,6] })), by decide +kernel⟩

theorem witness_ChannelLevels_5 : ∃ (c : Nat) (s : State),  ((s.chan c).phase = .zeroing) :=
  ⟨2, ((up.setChan 2 { phase := .zeroing, len := 7, target := [1,2,3,4,5,0] })), by decide +kernel⟩

theorem witness_ChannelLevels_6 : ∃ (c : Nat) (s : State),  ((s.chan c).phase = .settling) :=
  ⟨2, ((up.setChan 2 { phase := .settling })), by decide +kernel⟩

theorem witness_ChannelLevels_7 : ∃ (c : Nat) (v : Word) (s : State),  (s.booted = true) ∧ (c < 256) ∧ (s.bit F.CHn_STATUS_SAFE c = false) ∧ (s.rowOff (c / 64) = false) ∧ (s.laneUses c = false) :=
  ⟨2, 5#32, up, by decide +kernel⟩

theorem witness_ChannelLevels_8 : ∃ (c : Nat) (v : Word) (s : State),  (s.booted = true) ∧ (c < 256) ∧ ((s.bit F.CHn_STATUS_SAFE c = true ∨ s.rowOff (c / 64) = true)) ∧ (v &&& 7#32 ≠ 0#32) :=
  ⟨2, 1#32, ((up.set F.CHn_STATUS_SAFE 1 2)), by decide +kernel⟩

theorem witness_ChannelLevels_9 : ∃ (c : Nat) (v : Word) (s : State),  (s.booted = true) ∧ (c < 256) ∧ (s.bit F.CHn_STATUS_SAFE c = false) ∧ (s.rowOff (c / 64) = false) ∧ (s.laneUses c = true) ∧ (v &&& 7#32 ≠ 0#32) :=
  ⟨2, 1#32, ((up.set F.LANEn_MODE_MODE 2 0)), by decide +kernel⟩

theorem witness_ChannelLevels_10 : ∃ (c : Nat) (v : Word) (s : State),  (s.booted = true) ∧ (c < 256) ∧ (v &&& 7#32 = 0#32) :=
  ⟨2, 8#32, up, by decide +kernel⟩

theorem witness_ChannelLevels_11 : ∃ (k : Nat) (w : Work) (s : State),  (s.work? k = some w) ∧ (w.opcode = Op.levelSet) ∧ (w.stage = .routed) :=
  ⟨1, ((orderWork Op.levelSet .routed)), ((orderAt Op.levelSet .routed)), by decide +kernel⟩

theorem witness_ChannelLevels_12 : ∃ (k : Nat) (w : Work) (s : State),  (s.work? k = some w) ∧ (w.opcode = Op.levelSet) ∧ (w.stage = .window) ∧ ((s.writeLevels w).firstReject w.lvChans = none) :=
  ⟨1, ((orderWork Op.levelSet .window)), ((orderAt Op.levelSet .window)), by decide +kernel⟩

theorem witness_ChannelLevels_13 : ∃ (k c r : Nat) (w : Work) (s : State),  (s.work? k = some w) ∧ (w.opcode = Op.levelSet) ∧ (w.stage = .window) ∧ ((s.writeLevels w).firstReject w.lvChans = some (c, r)) :=
  ⟨1, 0, 3, lvW, lvS, by decide +kernel⟩

theorem witness_TimingCommits_1 : ∃ (n r ch st : Nat) (s : State),  (s.booted = true) ∧ (n < 32) ∧ (Store.get? s.tsPending n = none) ∧ (s.timingChecks (s.owned n) n = (r, ch, st)) :=
  ⟨3, 0, 0, 0, up, by decide +kernel⟩

theorem witness_TimingCommits_2 : ∃ (n : Nat) (p : TsCommit) (s : State),  (s.booted = true) ∧ (n < 32) ∧ (Store.get? s.tsPending n = some p) :=
  ⟨3, ({ accept := 0, chans := [5] }), tsDue, by decide +kernel⟩

theorem witness_TimingCommits_3 : ∃ (r ch st : Nat) (s : State),  (s.booted = true) ∧ (Store.get? s.tsPending 32 = none) ∧ (s.timingChecks s.unowned 32 = (r, ch, st)) :=
  ⟨0, 0, 0, ownedS, by decide +kernel⟩

theorem witness_TimingCommits_4 : ∃ (n : Nat) (t : Tu) (p : TsCommit) (s : State),  (n ≤ 32) ∧ (Store.get? s.tsPending n = some p) ∧ (s.tsEffect n p = some t) :=
  ⟨3, 4096000, ({ accept := 0, chans := [5] }), ((tsDue.wr ⟨.TSBANK_STAGE,5,9⟩ 77#32)), by decide +kernel⟩

theorem witness_TimingCommits_5 : ∃ (c t w : Nat) (v : Word) (s : State),  (s.booted = true) ∧ (c < 256) ∧ (t < 32) ∧ (w < 8) :=
  ⟨5, 1, 7, 0xFFFF#32, tsDue, by decide +kernel⟩

theorem witness_TimingCommits_6 : ∃ (k : Nat) (w : Work) (s : State),  (s.work? k = some w) ∧ (w.opcode = Op.timingCommit) ∧ (w.stage = .routed) ∧ ((s.requestTiming w.tsTarget (some k)).2 = true) :=
  ⟨1, ((orderWork Op.timingCommit .routed)), ((orderAt Op.timingCommit .routed)), by decide +kernel⟩

theorem witness_TimingCommits_7 : ∃ (k : Nat) (w : Work) (s : State),  (s.work? k = some w) ∧ (w.opcode = Op.timingCommit) ∧ (w.stage = .routed) ∧ (w.tsTarget < 32) ∧ ((s.requestTiming w.tsTarget (some k)).2 = false) :=
  ⟨1, ((orderWork Op.timingCommit .routed)), badTs, by decide +kernel⟩

theorem witness_TimingCommits_8 : ∃ (stack : Bool) (n : Nat) (s : State),  (n < 4) :=
  ⟨true, 3, up, by decide +kernel⟩

theorem witness_InstructionsThatEmitCycles_1 : ∃ (n k : Nat) (w : Work) (q : Seq) (i : Ins) (s : State),  (dueIns s n 0x01 = some (k, w, q, i)) ∧ (s.rowsFit n w (i.mod == 1) i.z i.y = true) :=
  ⟨3, 1, burstW, ((seqOf (dueIns (atIns 129127208537441697793 {}) 3 1))), ((insOf (dueIns (atIns 129127208537441697793 {}) 3 1))), ((atIns 129127208537441697793 {})), by decide +kernel⟩

theorem witness_InstructionsThatEmitCycles_2 : ∃ (n k : Nat) (w : Work) (q : Seq) (i : Ins) (s : State),  (dueIns s n 0x01 = some (k, w, q, i)) ∧ (s.rowsFit n w (i.mod == 1) i.z i.y = false) :=
  ⟨3, 1, burstW, ((seqOf (dueIns (atIns 129199266110004789505 {}) 3 1))), ((insOf (dueIns (atIns 129199266110004789505 {}) 3 1))), ((atIns 129199266110004789505 {})), by decide +kernel⟩

theorem witness_InstructionsThatEmitCycles_3 : ∃ (n k : Nat) (w : Work) (q : Seq) (i : Ins) (s : State),  (dueIns s n 0x02 = some (k, w, q, i)) ∧ (s.rowsFit n w (i.mod == 1) i.z 1 = true) :=
  ⟨3, 1, burstW, ((seqOf (dueIns (atIns 129127208537441698050 {}) 3 2))), ((insOf (dueIns (atIns 129127208537441698050 {}) 3 2))), ((atIns 129127208537441698050 {})), by decide +kernel⟩

theorem witness_InstructionsThatEmitCycles_4 : ∃ (n k : Nat) (w : Work) (q : Seq) (i : Ins) (s : State),  (dueIns s n 0x02 = some (k, w, q, i)) ∧ (s.rowsFit n w (i.mod == 1) i.z 1 = false) :=
  ⟨3, 1, burstW, ((seqOf (dueIns (atIns 309484991374601016490066178 {}) 3 2))), ((insOf (dueIns (atIns 309484991374601016490066178 {}) 3 2))), ((atIns 309484991374601016490066178 {})), by decide +kernel⟩

theorem witness_InstructionsThatEmitCycles_5 : ∃ (n k : Nat) (w : Work) (q : Seq) (i : Ins) (s : State),  (dueIns s n 0x0B = some (k, w, q, i)) ∧ (s.rowsFit n w false (bitsOf i.z 24 24) 1 = true) :=
  ⟨3, 1, burstW, ((seqOf (dueIns (atIns 129127208537441697803 {}) 3 11))), ((insOf (dueIns (atIns 129127208537441697803 {}) 3 11))), ((atIns 129127208537441697803 {})), by decide +kernel⟩

theorem witness_InstructionsThatEmitCycles_6 : ∃ (n k : Nat) (w : Work) (q : Seq) (i : Ins) (s : State),  (dueIns s n 0x0B = some (k, w, q, i)) ∧ (s.rowsFit n w false (bitsOf i.z 24 24) 1 = false) :=
  ⟨3, 1, burstW, ((seqOf (dueIns ((atIns 5192296549049817807185449079275531 {}).wr ⟨.SEQn_OWN_LIVE_w, 3, 0⟩ 0xFF#32) 3 11))), ((insOf (dueIns ((atIns 5192296549049817807185449079275531 {}).wr ⟨.SEQn_OWN_LIVE_w, 3, 0⟩ 0xFF#32) 3 11))), (((atIns 5192296549049817807185449079275531 {}).wr ⟨.SEQn_OWN_LIVE_w, 3, 0⟩ 0xFF#32)), by decide +kernel⟩

theorem witness_InstructionsThatEmitCycles_7 : ∃ (n k : Nat) (w : Work) (q : Seq) (i : Ins) (s : State),  (dueIns s n 0x09 = some (k, w, q, i)) ∧ ((s.seqSt n).brf = none) ∧ (s.periodNow n q ≠ 0) :=
  ⟨3, 1, burstW, ((seqOf (dueIns (atIns 12884903177 { period := 4096 }) 3 9))), ((insOf (dueIns (atIns 12884903177 { period := 4096 }) 3 9))), ((atIns 12884903177 { period := 4096 })), by decide +kernel⟩

theorem witness_InstructionsThatEmitCycles_8 : ∃ (n : Nat) (b : BrFail) (s : State),  ((s.seqSt n).phase = .brDecide) ∧ ((s.seqSt n).brf = some b) :=
  ⟨3, ({ sites := 1, invert := false, clear := true, seg := 4, idx := 9 }), ((onSeq3 burstW { phase := .brDecide, brf := some { sites := 1, invert := false, clear := true, seg := 4, idx := 9 }, active := 3, lfail := 3 })), by decide +kernel⟩

theorem witness_InstructionsThatEmitCycles_9 : ∃ (n k : Nat) (w : Work) (q : Seq) (i : Ins) (s : State),  (dueIns s n 0x08 = some (k, w, q, i)) ∧ ((s.seqSt n).mat = none) ∧ (s.rowsFit n w (bitOf i.mod 2) (bitsOf i.z 0 24) (bitsOf i.z 24 13) = true) :=
  ⟨3, 1, burstW, ((seqOf (dueIns (atIns 928455158591243743616040968 {}) 3 8))), ((insOf (dueIns (atIns 928455158591243743616040968 {}) 3 8))), ((atIns 928455158591243743616040968 {})), by decide +kernel⟩

theorem witness_InstructionsThatEmitCycles_10 : ∃ (n : Nat) (m : MatchSt) (s : State),  ((s.seqSt n).phase = .matchDecide) ∧ ((s.seqSt n).mat = some m) ∧ ((s.seqSt n).free = true) ∧ (matchExit m.sites (s.seqSt n).active ((s.seqSt n).known m) = true) :=
  ⟨3, ({ sites := 2, form := false, seg := 0, row := 0, rows := 3, limit := 5, timeout := 9 }), ((onSeq3 burstW { phase := .matchDecide, mat := some { sites := 2, form := false, seg := 0, row := 0, rows := 3, limit := 5, timeout := 9 } })), by decide +kernel⟩

theorem witness_InstructionsThatEmitCycles_11 : ∃ (n : Nat) (m : MatchSt) (s : State),  ((s.seqSt n).phase = .matchDecide) ∧ ((s.seqSt n).mat = some m) ∧ ((s.seqSt n).free = true) ∧ (matchExit m.sites (s.seqSt n).active ((s.seqSt n).known m) = false) ∧ (m.iters < m.limit) :=
  ⟨3, ({ sites := 1, form := false, seg := 0, row := 0, rows := 3, limit := 5, timeout := 9 }), ((onSeq3 burstW { phase := .matchDecide, active := 1, mat := some { sites := 1, form := false, seg := 0, row := 0, rows := 3, limit := 5, timeout := 9 } })), by decide +kernel⟩

theorem witness_InstructionsThatEmitCycles_12 : ∃ (n : Nat) (m : MatchSt) (s : State),  ((s.seqSt n).phase = .matchDecide) ∧ ((s.seqSt n).mat = some m) ∧ ((s.seqSt n).free = true) ∧ (matchExit m.sites (s.seqSt n).active ((s.seqSt n).known m) = false) ∧ (m.limit ≤ m.iters) ∧ (0 < (s.seqSt n).matchQuiet m) :=
  ⟨3, ({ sites := 1, form := false, seg := 0, row := 0, rows := 3, limit := 5, timeout := 9, iters := 5, ended := [(100000, 0)] }), ((onSeq3 burstW { phase := .matchDecide, active := 1, period := 4096, nextStart := 100000, mat := some { sites := 1, form := false, seg := 0, row := 0, rows := 3, limit := 5, timeout := 9, iters := 5, ended := [(100000, 0)] } })), by decide +kernel⟩

theorem witness_InstructionsThatEmitCycles_13 : ∃ (n : Nat) (m : MatchSt) (s : State),  ((s.seqSt n).phase = .matchDecide) ∧ ((s.seqSt n).mat = some m) ∧ ((s.seqSt n).free = true) ∧ (matchExit m.sites (s.seqSt n).active ((s.seqSt n).known m) = false) ∧ (m.limit ≤ m.iters) ∧ ((s.seqSt n).matchQuiet m = 0) ∧ (m.sites ≠ 2) :=
  ⟨3, ({ sites := 1, form := false, seg := 0, row := 0, rows := 3, limit := 5, timeout := 9, iters := 5 }), ((onSeq3 burstW { phase := .matchDecide, active := 1, mat := some { sites := 1, form := false, seg := 0, row := 0, rows := 3, limit := 5, timeout := 9, iters := 5 } })), by decide +kernel⟩

theorem witness_InstructionsThatEmitCycles_14 : ∃ (n : Nat) (m : MatchSt) (s : State),  ((s.seqSt n).phase = .matchDecide) ∧ ((s.seqSt n).mat = some m) ∧ ((s.seqSt n).free = true) ∧ (matchExit m.sites (s.seqSt n).active ((s.seqSt n).known m) = false) ∧ (m.limit ≤ m.iters) ∧ ((s.seqSt n).matchQuiet m = 0) ∧ (m.sites = 2) :=
  ⟨3, ({ sites := 2, form := false, seg := 0, row := 0, rows := 3, limit := 5, timeout := 9, iters := 5 }), ((onSeq3 burstW { phase := .matchDecide, active := 1, mat := some { sites := 2, form := false, seg := 0, row := 0, rows := 3, limit := 5, timeout := 9, iters := 5 } })), by decide +kernel⟩

theorem witness_LoopsCountDown_1 : ∃ (n k : Nat) (w : Work) (q : Seq) (i : Ins) (s : State),  (dueIns s n 0x03 = some (k, w, q, i)) :=
  ⟨3, 1, burstW, ((seqOf (dueIns (atIns 21474836995 {}) 3 3))), ((insOf (dueIns (atIns 21474836995 {}) 3 3))), ((atIns 21474836995 {})), by decide +kernel⟩

theorem witness_LoopsCountDown_2 : ∃ (n k : Nat) (w : Work) (q : Seq) (i : Ins) (s : State),  (dueIns s n 0x04 = some (k, w, q, i)) ∧ (q.win.c.getD i.mod 0 ≠ 0) :=
  ⟨3, 1, burstW, ((seqOf (dueIns (atIns 38654705924 { wins := [(0, { c := [0, 3, 0, 0] })] }) 3 4))), ((insOf (dueIns (atIns 38654705924 { wins := [(0, { c := [0, 3, 0, 0] })] }) 3 4))), ((atIns 38654705924 { wins := [(0, { c := [0, 3, 0, 0] })] })), by decide +kernel⟩

theorem witness_LoopsCountDown_3 : ∃ (n k : Nat) (w : Work) (q : Seq) (i : Ins) (s : State),  (dueIns s n 0x04 = some (k, w, q, i)) ∧ (q.win.c.getD i.mod 0 = 0) :=
  ⟨3, 1, burstW, ((seqOf (dueIns (atIns 38654705924 {}) 3 4))), ((insOf (dueIns (atIns 38654705924 {}) 3 4))), ((atIns 38654705924 {})), by decide +kernel⟩

theorem witness_LoopsCountDown_4 : ∃ (n : Nat) (i : Ins),  ((i.op = 3 ∨ i.op = 4)) ∧ (i.ok n = true) :=
  ⟨5, (⟨3, 2, 0, 5, 0⟩), by decide +kernel⟩

theorem witness_InstructionsThatTransferControl_1 : ∃ (n k : Nat) (w : Work) (q : Seq) (i : Ins) (s : State),  (dueIns s n 0x07 = some (k, w, q, i)) :=
  ⟨3, 1, burstW, ((seqOf (dueIns (atIns 38654705671 {}) 3 7))), ((insOf (dueIns (atIns 38654705671 {}) 3 7))), ((atIns 38654705671 {})), by decide +kernel⟩

theorem witness_InstructionsThatTransferControl_2 : ∃ (n k sl : Nat) (w : Work) (q : Seq) (i : Ins) (s : State),  (dueIns s n 0x05 = some (k, w, q, i)) ∧ (q.depth < q.dmax) ∧ (q.freeSlot = some sl) :=
  ⟨3, 1, 1, burstW, ((seqOf (dueIns (atIns 38654705669 {}) 3 5))), ((insOf (dueIns (atIns 38654705669 {}) 3 5))), ((atIns 38654705669 {})), by decide +kernel⟩

theorem witness_InstructionsThatTransferControl_3 : ∃ (n k d sl : Nat) (w : Work) (q p : Seq) (i : Ins) (s : State),  (dueIns s n 0x05 = some (k, w, q, i)) ∧ (q.depth < q.dmax) ∧ (q.freeSlot = none) ∧ (q.charge 24576 = some p) ∧ (q.lowestResident = some d) ∧ ((Store.getD p.wins d {}).slot = some sl) :=
  ⟨3, 1, 0, 0, burstW, ((seqOf (dueIns callS 3 5))), ((((seqOf (dueIns callS 3 5)).charge 24576).getD {})), ((insOf (dueIns callS 3 5))), callS, by decide +kernel⟩

theorem witness_InstructionsThatTransferControl_4 : ∃ (n k : Nat) (w : Work) (q : Seq) (i : Ins) (s : State),  (dueIns s n 0x05 = some (k, w, q, i)) ∧ (q.dmax ≤ q.depth) :=
  ⟨3, 1, burstW, ((seqOf (dueIns (atIns 38654705669 { depth := 8 }) 3 5))), ((insOf (dueIns (atIns 38654705669 { depth := 8 }) 3 5))), ((atIns 38654705669 { depth := 8 })), by decide +kernel⟩

theorem witness_InstructionsThatTransferControl_5 : ∃ (n k sl : Nat) (w : Work) (q : Seq) (i : Ins) (s : State),  (dueIns s n 0x06 = some (k, w, q, i)) ∧ (q.depth ≠ 0) ∧ ((Store.getD q.wins (q.depth - 1) {}).slot = some sl) :=
  ⟨3, 1, 0, burstW, ((seqOf (dueIns (atIns 6 { depth := 1 }) 3 6))), ((insOf (dueIns (atIns 6 { depth := 1 }) 3 6))), ((atIns 6 { depth := 1 })), by decide +kernel⟩

theorem witness_InstructionsThatTransferControl_6 : ∃ (n k sl : Nat) (x : Win) (w : Work) (q b : Seq) (i : Ins) (s : State),  (dueIns s n 0x06 = some (k, w, q, i)) ∧ (q.depth ≠ 0) ∧ ((Store.getD q.wins (q.depth - 1) {}).slot = none) ∧ (((q.closeWin).goto (retSeg q.win.ret) (retIdx q.win.ret)).charge 286720 = some b) ∧ (s.poisoned (q.spillAt + 32 * (q.depth - 1)) 32 = false) ∧ (s.spillRead q (q.depth - 1) = some x) ∧ (b.freeSlot = some sl) :=
  ⟨3, 1, 0, ({ ret := 77, c := [1, 2, 3, 4], slot := none }), burstW, ((seqOf (dueIns retS 3 6))), (((((seqOf (dueIns retS 3 6)).closeWin).goto 0 9).charge 286720 |>.getD {})), ((insOf (dueIns retS 3 6))), retS, by decide +kernel⟩

theorem witness_InstructionsThatTransferControl_7 : ∃ (n k : Nat) (w : Work) (q b : Seq) (i : Ins) (s : State),  (dueIns s n 0x06 = some (k, w, q, i)) ∧ (q.depth ≠ 0) ∧ ((Store.getD q.wins (q.depth - 1) {}).slot = none) ∧ (((q.closeWin).goto (retSeg q.win.ret) (retIdx q.win.ret)).charge 286720 = some b) ∧ (s.poisoned (q.spillAt + 32 * (q.depth - 1)) 32 = false) ∧ (s.spillRead q (q.depth - 1) = none) :=
  ⟨3, 1, burstW, ((seqOf (dueIns retBad 3 6))), (((((seqOf (dueIns retBad 3 6)).closeWin).goto 0 9).charge 286720 |>.getD {})), ((insOf (dueIns retBad 3 6))), retBad, by decide +kernel⟩

theorem witness_InstructionsThatTransferControl_8 : ∃ (n k : Nat) (w : Work) (q : Seq) (i : Ins) (s : State),  (dueIns s n 0x06 = some (k, w, q, i)) ∧ (q.depth = 0) :=
  ⟨3, 1, burstW, ((seqOf (dueIns (atIns 6 {}) 3 6))), ((insOf (dueIns (atIns 6 {}) 3 6))), ((atIns 6 {})), by decide +kernel⟩

theorem witness_InstructionsThatTransferControl_9 : ∃ (n k : Nat) (w : Work) (q : Seq) (i : Ins) (s : State),  (dueIns s n 0x0A = some (k, w, q, i)) :=
  ⟨3, 1, burstW, ((seqOf (dueIns (atIns 38654708490 { ev := [(3, [0])], nextStart := 100000 }) 3 10))), ((insOf (dueIns (atIns 38654708490 { ev := [(3, [0])], nextStart := 100000 }) 3 10))), ((atIns 38654708490 { ev := [(3, [0])], nextStart := 100000 })), by decide +kernel⟩

theorem witness_InstructionsThatTransferControl_10 : ∃ (n k : Nat) (w : Work) (q : Seq) (i : Ins) (s : State),  (dueIns s n 0x0C = some (k, w, q, i)) :=
  ⟨3, 1, burstW, ((seqOf (dueIns (atIns 4522764 {}) 3 12))), ((insOf (dueIns (atIns 4522764 {}) 3 12))), ((atIns 4522764 {})), by decide +kernel⟩

theorem witness_InstructionsThatTransferControl_11 : ∃ (n k : Nat) (w : Work) (q : Seq) (i : Ins) (s : State),  (dueIns s n 0x0D = some (k, w, q, i)) :=
  ⟨3, 1, burstW, ((seqOf (dueIns (atIns 13 {}) 3 13))), ((insOf (dueIns (atIns 13 {}) 3 13))), ((atIns 13 {})), by decide +kernel⟩

theorem witness_InstructionsThatTransferControl_12 : ∃ (n k : Nat) (w : Work) (q : Seq) (i : Ins) (s : State),  (dueIns s n 0x0E = some (k, w, q, i)) :=
  ⟨3, 1, burstW, ((seqOf (dueIns (atIns 270 {}) 3 14))), ((insOf (dueIns (atIns 270 {}) 3 14))), ((atIns 270 {})), by decide +kernel⟩

theorem witness_InstructionsThatTransferControl_13 : ∃ (n k : Nat) (w : Work) (q : Seq) (i : Ins) (s : State),  (dueIns s n 0x10 = some (k, w, q, i)) :=
  ⟨3, 1, burstW, ((seqOf (dueIns (atIns 38654705680 {}) 3 16))), ((insOf (dueIns (atIns 38654705680 {}) 3 16))), ((atIns 38654705680 {})), by decide +kernel⟩

theorem witness_InstructionsThatTransferControl_14 : ∃ (n k : Nat) (w : Work) (q : Seq) (i : Ins) (s : State),  (dueIns s n 0x11 = some (k, w, q, i)) ∧ (w.hasCapture = true) :=
  ⟨3, 1, burstW, ((seqOf (dueIns (atIns 17 {}) 3 17))), ((insOf (dueIns (atIns 17 {}) 3 17))), ((atIns 17 {})), by decide +kernel⟩

theorem witness_InstructionsThatTransferControl_15 : ∃ (n k : Nat) (w : Work) (q : Seq) (i : Ins) (s : State),  (dueIns s n 0x12 = some (k, w, q, i)) :=
  ⟨3, 1, burstW, ((seqOf (dueIns (atIns 18 {}) 3 18))), ((insOf (dueIns (atIns 18 {}) 3 18))), ((atIns 18 {})), by decide +kernel⟩

theorem witness_InstructionsThatTransferControl_16 : ∃ (n k : Nat) (w : Work) (q : Seq) (i : Ins) (s : State),  (dueIns s n 0x11 = some (k, w, q, i)) ∧ (w.hasCapture = false) :=
  ⟨3, 1, noCapW, ((seqOf (dueIns { (atIns 17 {}) with works := [(1, noCapW)] } 3 17))), ((insOf (dueIns { (atIns 17 {}) with works := [(1, noCapW)] } 3 17))), ({ (atIns 17 {}) with works := [(1, noCapW)] }), by decide +kernel⟩

theorem witness_InstructionsThatTransferControl_17 : ∃ (n k : Nat) (w : Work) (q : Seq) (i : Ins) (s : State),  (dueIns s n 0x13 = some (k, w, q, i)) :=
  ⟨3, 1, burstW, ((seqOf (dueIns (atIns 275 {}) 3 19))), ((insOf (dueIns (atIns 275 {}) 3 19))), ((atIns 275 {})), by decide +kernel⟩

theorem witness_InstructionsThatTransferControl_18 : ∃ (n k : Nat) (w : Work) (q : Seq) (i : Ins) (s : State),  (dueIns s n 0x0F = some (k, w, q, i)) :=
  ⟨3, 1, burstW, ((seqOf (dueIns (atIns 92233720407202472207 {}) 3 15))), ((insOf (dueIns (atIns 92233720407202472207 {}) 3 15))), ((atIns 92233720407202472207 {})), by decide +kernel⟩

theorem witness_HoldsAndSessions_1 : ∃ (n k r : Nat) (w : Work) (h : HoldSt) (s : State),  ((s.seqSt n).work = some k) ∧ (s.work? k = some w) ∧ ((s.seqSt n).holdSt = some h) ∧ (h.release = some r) ∧ (w.stage = .running) ∧ (beforeEnd r ((s.seqSt n).durationEnd w) = true) :=
  ⟨3, 1, 500, burstW, ({ line := 0, cond := 0, entry := 0, deadline := none, jump := false, target := 6, release := some 500, nextBoundary := 170000 }), ((onSeq3 burstW { phase := .hold, holdSt := some { line := 0, cond := 0, entry := 0, deadline := none, jump := false, target := 6, release := some 500, nextBoundary := 170000 } })), by decide +kernel⟩

theorem witness_HoldsAndSessions_2 : ∃ (n k r b : Nat) (w : Work) (h : HoldSt) (s : State),  ((s.seqSt n).work = some k) ∧ (s.work? k = some w) ∧ ((s.seqSt n).holdSt = some h) ∧ (h.release = some r) ∧ (w.stage = .running) ∧ ((s.seqSt n).durationEnd w = some b) ∧ (b < r) :=
  ⟨3, 1, 500, 100, burstW, ({ line := 0, cond := 0, entry := 0, deadline := none, jump := false, target := 6, release := some 500, nextBoundary := 170000 }), ((onSeq3 burstW { phase := .hold, holdSt := some { line := 0, cond := 0, entry := 0, deadline := none, jump := false, target := 6, release := some 500, nextBoundary := 170000 }, started := true, first0 := 100 })), by decide +kernel⟩

theorem witness_HoldsAndSessions_3 : ∃ (n k d : Nat) (w : Work) (h : HoldSt) (s : State),  ((s.seqSt n).work = some k) ∧ (s.work? k = some w) ∧ ((s.seqSt n).holdSt = some h) ∧ (s.holdRelease h = none) ∧ (h.deadline = some d) ∧ (w.stage = .running) ∧ (((s.seqSt n).durationEnd w).all (fun b => decide (d < b)) = true) ∧ (h.jump = true) :=
  ⟨3, 1, 500, burstW, ({ line := 0, cond := 0, entry := 0, deadline := some 500, jump := true, target := 6, release := none, nextBoundary := 170000 }), ((onSeq3 burstW { phase := .hold, holdSt := some { line := 0, cond := 0, entry := 0, deadline := some 500, jump := true, target := 6, release := none, nextBoundary := 170000 } })), by decide +kernel⟩

theorem witness_HoldsAndSessions_4 : ∃ (n k d : Nat) (w : Work) (h : HoldSt) (s : State),  ((s.seqSt n).work = some k) ∧ (s.work? k = some w) ∧ ((s.seqSt n).holdSt = some h) ∧ (s.holdRelease h = none) ∧ (h.deadline = some d) ∧ (w.stage = .running) ∧ (((s.seqSt n).durationEnd w).all (fun b => decide (d < b)) = true) ∧ (h.jump = false) :=
  ⟨3, 1, 500, burstW, ({ line := 0, cond := 0, entry := 0, deadline := some 500, jump := false, target := 6, release := none, nextBoundary := 170000 }), ((onSeq3 burstW { phase := .hold, holdSt := some { line := 0, cond := 0, entry := 0, deadline := some 500, jump := false, target := 6, release := none, nextBoundary := 170000 } })), by decide +kernel⟩

theorem witness_HoldsAndSessions_5 : ∃ (n k b d : Nat) (w : Work) (h : HoldSt) (s : State),  ((s.seqSt n).work = some k) ∧ (s.work? k = some w) ∧ ((s.seqSt n).holdSt = some h) ∧ (s.holdRelease h = none) ∧ (h.deadline = some d) ∧ (w.stage = .running) ∧ ((s.seqSt n).durationEnd w = some b) ∧ (b ≤ d) :=
  ⟨3, 1, 100, 500, burstW, ({ line := 0, cond := 0, entry := 0, deadline := some 500, jump := false, target := 6, release := none, nextBoundary := 170000 }), ((onSeq3 burstW { phase := .hold, holdSt := some { line := 0, cond := 0, entry := 0, deadline := some 500, jump := false, target := 6, release := none, nextBoundary := 170000 }, started := true, first0 := 100 })), by decide +kernel⟩

theorem witness_HoldsAndSessions_6 : ∃ (n k b : Nat) (w : Work) (h : HoldSt) (s : State),  ((s.seqSt n).work = some k) ∧ (s.work? k = some w) ∧ ((s.seqSt n).holdSt = some h) ∧ (h.deadline.all (fun d => decide (b ≤ d)) = true) ∧ ((s.holdRelease h).all (fun r => decide (b < r)) = true) ∧ (w.stage = .running) ∧ ((s.seqSt n).durationEnd w = some b) :=
  ⟨3, 1, 100, burstW, ({ line := 0, cond := 0, entry := 0, deadline := none, jump := false, target := 6, release := none, nextBoundary := 170000 }), ((onSeq3 burstW { phase := .hold, holdSt := some { line := 0, cond := 0, entry := 0, deadline := none, jump := false, target := 6, release := none, nextBoundary := 170000 }, started := true, first0 := 100 })), by decide +kernel⟩

theorem witness_HoldsAndSessions_7 : ∃ (n k : Nat) (w : Work) (s : State),  ((s.seqSt n).work = some k) ∧ (s.work? k = some w) ∧ ((s.seqSt n).holdSt = none) ∧ (w.stage = .running) ∧ ((s.seqSt n).paused = false) ∧ ((s.seqSt n).phase ≠ .brDecide) ∧ ((s.seqSt n).bdry = true) ∧ ((s.seqSt n).voidedBy ((s.seqSt n).nextStart - 81920) = none) ∧ (arrived (s.seqSt n).stopReq ((s.seqSt n).nextStart - 81920) = false) :=
  ⟨3, 1, burstW, ((onSeq3 burstW { bdry := true, phase := .ready, nextStart := 90000, pauseReq := some 5 })), by decide +kernel⟩

theorem witness_HoldsAndSessions_8 : ∃ (n k c : Nat) (w : Work) (s : State),  ((s.seqSt n).work = some k) ∧ (s.work? k = some w) ∧ ((s.seqSt n).holdSt = none) ∧ (w.stage = .running) ∧ ((s.seqSt n).paused = false) ∧ ((s.seqSt n).phase ≠ .brDecide) ∧ ((s.seqSt n).bdry = true) ∧ ((s.seqSt n).voidedBy ((s.seqSt n).nextStart - 81920) = some c) :=
  ⟨3, 1, 0x230, burstW, ((onSeq3 burstW { bdry := true, phase := .ready, nextStart := 90000, noticed := some (0x230, 5) })), by decide +kernel⟩

theorem witness_HoldsAndSessions_9 : ∃ (n k : Nat) (w : Work) (s : State),  ((s.seqSt n).work = some k) ∧ (s.work? k = some w) ∧ ((s.seqSt n).holdSt = none) ∧ (w.stage = .running) ∧ ((s.seqSt n).paused = false) ∧ ((s.seqSt n).phase ≠ .brDecide) ∧ ((s.seqSt n).bdry = true) ∧ ((s.seqSt n).voidedBy ((s.seqSt n).nextStart - 81920) = none) ∧ (arrived (s.seqSt n).stopReq ((s.seqSt n).nextStart - 81920) = true) :=
  ⟨3, 1, burstW, ((onSeq3 burstW { bdry := true, phase := .ready, nextStart := 90000, stopReq := some 5 })), by decide +kernel⟩

theorem witness_HoldsAndSessions_10 : ∃ (n k : Nat) (w : Work) (h : HoldSt) (s : State),  ((s.seqSt n).work = some k) ∧ (s.work? k = some w) ∧ ((s.seqSt n).holdSt = some h) ∧ (h.release = none) ∧ (w.stage = .running) ∧ ((s.seqSt n).paused = false) ∧ ((s.seqSt n).phase ≠ .brDecide) ∧ ((s.seqSt n).voidedBy (h.nextBoundary - 81920) = none) :=
  ⟨3, 1, burstW, ({ line := 0, cond := 0, entry := 0, deadline := none, jump := false, target := 6, release := none, nextBoundary := 170000 }), ((onSeq3 burstW { phase := .hold, holdSt := some { line := 0, cond := 0, entry := 0, deadline := none, jump := false, target := 6, release := none, nextBoundary := 170000 } })), by decide +kernel⟩

theorem witness_HoldsAndSessions_11 : ∃ (n k c t : Nat) (w : Work) (s : State),  ((s.seqSt n).work = some k) ∧ (s.work? k = some w) ∧ ((s.seqSt n).notice = some (c, t)) :=
  ⟨3, 1, 0x230, 9, burstW, ((onSeq3 burstW { notice := some (0x230, 9), paused := true })), by decide +kernel⟩

theorem witness_HoldsAndSessions_12 : ∃ (n k : Nat) (w : Work) (s : State),  (s.booted = true) ∧ (n < 32) ∧ (s.sessionOn n = some (k, w)) ∧ ((s.seqSt n).paused = false) ∧ ((s.seqSt n).pauseReq = none) :=
  ⟨3, 1, ({ burstW with blk := List.replicate 6 0#8 ++ [3#8, 2#8] ++ List.replicate 504 0#8 }), ({ up with works := [(1, { burstW with blk := List.replicate 6 0#8 ++ [3#8, 2#8] ++ List.replicate 504 0#8 })], seqs := [(3, { work := some 1 })] }), by decide +kernel⟩

theorem witness_HoldsAndSessions_13 : ∃ (n k : Nat) (w : Work) (s : State),  (s.booted = true) ∧ (n < 32) ∧ (s.sessionOn n = some (k, w)) ∧ ((s.seqSt n).paused = false) ∧ ((s.seqSt n).stopReq = none) :=
  ⟨3, 1, ({ burstW with blk := List.replicate 6 0#8 ++ [3#8, 2#8] ++ List.replicate 504 0#8 }), ({ up with works := [(1, { burstW with blk := List.replicate 6 0#8 ++ [3#8, 2#8] ++ List.replicate 504 0#8 })], seqs := [(3, { work := some 1 })] }), by decide +kernel⟩

theorem witness_HoldsAndSessions_14 : ∃ (n k : Nat) (w : Work) (s : State),  (s.booted = true) ∧ (n < 32) ∧ (s.sessionOn n = some (k, w)) ∧ ((s.seqSt n).paused = true) :=
  ⟨3, 1, ({ burstW with blk := List.replicate 6 0#8 ++ [3#8, 2#8] ++ List.replicate 504 0#8 }), ({ up with works := [(1, { burstW with blk := List.replicate 6 0#8 ++ [3#8, 2#8] ++ List.replicate 504 0#8 })], seqs := [(3, { work := some 1, paused := true })] }), by decide +kernel⟩

theorem witness_HoldsAndSessions_15 : ∃ (n k : Nat) (w : Work) (s : State),  (s.booted = true) ∧ (n < 32) ∧ (s.sessionOn n = some (k, w)) ∧ ((s.seqSt n).paused = true) :=
  ⟨3, 1, ({ burstW with blk := List.replicate 6 0#8 ++ [3#8, 2#8] ++ List.replicate 504 0#8 }), ({ up with works := [(1, { burstW with blk := List.replicate 6 0#8 ++ [3#8, 2#8] ++ List.replicate 504 0#8 })], seqs := [(3, { work := some 1, paused := true })] }), by decide +kernel⟩

theorem witness_HoldsAndSessions_16 : ∃ (n : Nat) (s : State),  (s.booted = true) ∧ (n < 32) ∧ (s.sessionOn n = none) :=
  ⟨3, up, by decide +kernel⟩

theorem witness_HoldsAndSessions_17 : ∃ (n k : Nat) (v : Word) (w : Work) (s : State),  (s.booted = true) ∧ (n < 32) ∧ (s.sessionOn n = some (k, w)) ∧ ((s.seqSt n).paused = true) :=
  ⟨3, 1, 0x10005#32, ({ burstW with blk := List.replicate 6 0#8 ++ [3#8, 2#8] ++ List.replicate 504 0#8 }), ({ up with works := [(1, { burstW with blk := List.replicate 6 0#8 ++ [3#8, 2#8] ++ List.replicate 504 0#8 })], seqs := [(3, { work := some 1, paused := true })] }), by decide +kernel⟩

theorem witness_HoldsAndSessions_18 : ∃ (n k : Nat) (v : Word) (w : Work) (s : State),  (s.booted = true) ∧ (n < 32) ∧ (s.sessionOn n = some (k, w)) ∧ ((s.seqSt n).paused = false) :=
  ⟨3, 1, 0x10005#32, ({ burstW with blk := List.replicate 6 0#8 ++ [3#8, 2#8] ++ List.replicate 504 0#8 }), ({ up with works := [(1, { burstW with blk := List.replicate 6 0#8 ++ [3#8, 2#8] ++ List.replicate 504 0#8 })], seqs := [(3, { work := some 1 })] }), by decide +kernel⟩

theorem witness_PoolAndOwnership_1 : ∃ (n : Nat) (s : State),  (s.booted = true) ∧ (n < 32) ∧ (s.seqBusy n = false) ∧ (Store.get? s.tsPending n = none) ∧ ((∀ c ∈ s.mask256 .SEQn_OWN_w n, s.owner c = none ∨ s.owner c = some n)) :=
  ⟨3, ((up.wr ⟨.SEQn_OWN_w, 3, 1⟩ 6#32)), by decide +kernel⟩

theorem witness_PoolAndOwnership_2 : ∃ (n : Nat) (s : State),  (s.booted = true) ∧ (n < 32) ∧ ((s.seqBusy n = true ∨ (Store.get? s.tsPending n).isSome = true)) :=
  ⟨3, ((onSeq3 burstW {})), by decide +kernel⟩

theorem witness_PoolAndOwnership_3 : ∃ (n c m : Nat) (s : State),  (s.booted = true) ∧ (n < 32) ∧ (s.seqBusy n = false) ∧ (Store.get? s.tsPending n = none) ∧ (c ∈ s.mask256 .SEQn_OWN_w n) ∧ (s.owner c = some m) ∧ (m ≠ n) :=
  ⟨3, 7, 0, ((ownedS.wr ⟨.SEQn_OWN_w, 3, 0⟩ 0x80#32)), by decide +kernel⟩

theorem witness_PoolAndOwnership_4 : ∃ s : State,  (s.booted = true) ∧ (s.bit F.DRAM_SEG_CTRL_LOCK = false) ∧ (s.get F.DRAM_SEG_COUNT_COUNT ≠ 0) ∧ (s.get F.DRAM_SEG_FIRST_FIRST + s.get F.DRAM_SEG_COUNT_COUNT ≤ 24576) :=
  ⟨((up.set F.DRAM_SEG_COUNT_COUNT 16)), by decide +kernel⟩

theorem witness_PoolAndOwnership_5 : ∃ s : State,  (s.booted = true) ∧ (s.bit F.DRAM_SEG_CTRL_LOCK = false) ∧ ((s.get F.DRAM_SEG_COUNT_COUNT = 0 ∨ 24576 < s.get F.DRAM_SEG_FIRST_FIRST + s.get F.DRAM_SEG_COUNT_COUNT)) :=
  ⟨(((up.set F.DRAM_SEG_COUNT_COUNT 16).set F.DRAM_SEG_FIRST_FIRST 24570)), by decide +kernel⟩

theorem witness_MicrowordsThatCompute_1 : ∃ (n k a : Nat) (w : Work) (q : Seq) (u : Uop) (s : State),  (dueUop s n 0x00 = some (k, w, q, u)) ∧ (s.nextAddr q.upc none = some a) :=
  ⟨3, 1, 0x4001, burstW, ((seqOf (dueUop (atUop3 2228229 {}) 3 0))), ((uopOf (dueUop (atUop3 2228229 {}) 3 0))), ((atUop3 2228229 {})), by decide +kernel⟩

theorem witness_MicrowordsThatCompute_2 : ∃ (n k : Nat) (w : Work) (q : Seq) (u : Uop) (s : State),  (dueUop s n 0 = some (k, w, q, u)) ∧ (s.nextAddr q.upc none = none) :=
  ⟨3, 1, burstW, ((seqOf (dueUop { onSeq3 burstW { phase := .ready, upc := 0x41FF } with patch := [] } 3 0))), ((uopOf (dueUop { onSeq3 burstW { phase := .ready, upc := 0x41FF } with patch := [] } 3 0))), ({ onSeq3 burstW { phase := .ready, upc := 0x41FF } with patch := [] }), by decide +kernel⟩

theorem witness_MicrowordsThatCompute_3 : ∃ (n k a : Nat) (w : Work) (q : Seq) (u : Uop) (s : State),  (dueUop s n 0x01 = some (k, w, q, u)) ∧ (s.nextAddr q.upc none = some a) :=
  ⟨3, 1, 0x4001, burstW, ((seqOf (dueUop (atUop3 69337093 {}) 3 1))), ((uopOf (dueUop (atUop3 69337093 {}) 3 1))), ((atUop3 69337093 {})), by decide +kernel⟩

theorem witness_MicrowordsThatCompute_4 : ∃ (n k a : Nat) (w : Work) (q : Seq) (u : Uop) (s : State),  (dueUop s n 0x02 = some (k, w, q, u)) ∧ (s.nextAddr q.upc none = some a) :=
  ⟨3, 1, 0x4001, burstW, ((seqOf (dueUop (atUop3 136445957 {}) 3 2))), ((uopOf (dueUop (atUop3 136445957 {}) 3 2))), ((atUop3 136445957 {})), by decide +kernel⟩

theorem witness_MicrowordsThatCompute_5 : ∃ (n k a : Nat) (w : Work) (q : Seq) (u : Uop) (s : State),  (dueUop s n 0x03 = some (k, w, q, u)) ∧ (s.nextAddr q.upc none = some a) :=
  ⟨3, 1, 0x4001, burstW, ((seqOf (dueUop (atUop3 203554821 {}) 3 3))), ((uopOf (dueUop (atUop3 203554821 {}) 3 3))), ((atUop3 203554821 {})), by decide +kernel⟩

theorem witness_MicrowordsThatCompute_6 : ∃ (n k a : Nat) (w : Work) (q : Seq) (u : Uop) (s : State),  (dueUop s n 0x04 = some (k, w, q, u)) ∧ (s.nextAddr q.upc none = some a) :=
  ⟨3, 1, 0x4001, burstW, ((seqOf (dueUop (atUop3 270663685 {}) 3 4))), ((uopOf (dueUop (atUop3 270663685 {}) 3 4))), ((atUop3 270663685 {})), by decide +kernel⟩

theorem witness_MicrowordsThatCompute_7 : ∃ (n k a : Nat) (w : Work) (q : Seq) (u : Uop) (s : State),  (dueUop s n 0x05 = some (k, w, q, u)) ∧ (s.nextAddr q.upc none = some a) :=
  ⟨3, 1, 0x4001, burstW, ((seqOf (dueUop (atUop3 337772549 {}) 3 5))), ((uopOf (dueUop (atUop3 337772549 {}) 3 5))), ((atUop3 337772549 {})), by decide +kernel⟩

theorem witness_MicrowordsThatCompute_8 : ∃ (n k a : Nat) (w : Work) (q : Seq) (u : Uop) (s : State),  (dueUop s n 0x06 = some (k, w, q, u)) ∧ (s.nextAddr q.upc none = some a) :=
  ⟨3, 1, 0x4001, burstW, ((seqOf (dueUop (atUop3 404881413 {}) 3 6))), ((uopOf (dueUop (atUop3 404881413 {}) 3 6))), ((atUop3 404881413 {})), by decide +kernel⟩

theorem witness_MicrowordsThatCompute_9 : ∃ (n k a : Nat) (w : Work) (q : Seq) (u : Uop) (s : State),  (dueUop s n 0x07 = some (k, w, q, u)) ∧ (s.nextAddr q.upc none = some a) :=
  ⟨3, 1, 0x4001, burstW, ((seqOf (dueUop (atUop3 471990277 {}) 3 7))), ((uopOf (dueUop (atUop3 471990277 {}) 3 7))), ((atUop3 471990277 {})), by decide +kernel⟩

theorem witness_MicrowordsThatCompute_10 : ∃ (n k a : Nat) (w : Work) (q : Seq) (u : Uop) (s : State),  (dueUop s n 0x08 = some (k, w, q, u)) ∧ (s.nextAddr q.upc none = some a) :=
  ⟨3, 1, 0x4001, burstW, ((seqOf (dueUop (atUop3 539099141 {}) 3 8))), ((uopOf (dueUop (atUop3 539099141 {}) 3 8))), ((atUop3 539099141 {})), by decide +kernel⟩

theorem witness_MicrowordsThatCompute_11 : ∃ (n k a : Nat) (w : Work) (q : Seq) (u : Uop) (s : State),  (dueUop s n 0x09 = some (k, w, q, u)) ∧ (s.nextAddr q.upc none = some a) :=
  ⟨3, 1, 0x4001, burstW, ((seqOf (dueUop (atUop3 606208005 {}) 3 9))), ((uopOf (dueUop (atUop3 606208005 {}) 3 9))), ((atUop3 606208005 {})), by decide +kernel⟩

theorem witness_MicrowordsThatCompute_12 : ∃ (n k a : Nat) (w : Work) (q : Seq) (u : Uop) (s : State),  (dueUop s n 0x0A = some (k, w, q, u)) ∧ (s.nextAddr q.upc none = some a) :=
  ⟨3, 1, 0x4001, burstW, ((seqOf (dueUop (atUop3 673316869 {}) 3 10))), ((uopOf (dueUop (atUop3 673316869 {}) 3 10))), ((atUop3 673316869 {})), by decide +kernel⟩

theorem witness_MicrowordsThatCompute_13 : ∃ (n k a : Nat) (w : Work) (q : Seq) (u : Uop) (s : State),  (dueUop s n 0x0B = some (k, w, q, u)) ∧ (s.nextAddr q.upc none = some a) :=
  ⟨3, 1, 0x4001, burstW, ((seqOf (dueUop (atUop3 740425733 {}) 3 11))), ((uopOf (dueUop (atUop3 740425733 {}) 3 11))), ((atUop3 740425733 {})), by decide +kernel⟩

theorem witness_MicrowordsThatCompute_14 : ∃ (n k a : Nat) (w : Work) (q : Seq) (u : Uop) (s : State),  (dueUop s n 0x0C = some (k, w, q, u)) ∧ (s.nextAddr q.upc none = some a) :=
  ⟨3, 1, 0x4001, burstW, ((seqOf (dueUop (atUop3 807534597 {}) 3 12))), ((uopOf (dueUop (atUop3 807534597 {}) 3 12))), ((atUop3 807534597 {})), by decide +kernel⟩

theorem witness_MicrowordsThatCompute_15 : ∃ (n k a : Nat) (w : Work) (q : Seq) (u : Uop) (s : State),  (dueUop s n 0x0D = some (k, w, q, u)) ∧ (s.nextAddr q.upc none = some a) :=
  ⟨3, 1, 0x4001, burstW, ((seqOf (dueUop (atUop3 874643461 {}) 3 13))), ((uopOf (dueUop (atUop3 874643461 {}) 3 13))), ((atUop3 874643461 {})), by decide +kernel⟩

theorem witness_MicrowordsThatBranch_1 : ∃ (n k a : Nat) (w : Work) (q : Seq) (u : Uop) (s : State),  (dueUop s n 0x10 = some (k, w, q, u)) ∧ (s.nextAddr q.upc (some u.imm) = some a) :=
  ⟨3, 1, 5, burstW, ((seqOf (dueUop (atUop3 1075970053 {}) 3 16))), ((uopOf (dueUop (atUop3 1075970053 {}) 3 16))), ((atUop3 1075970053 {})), by decide +kernel⟩

theorem witness_MicrowordsThatBranch_2 : ∃ (n k a : Nat) (w : Work) (q : Seq) (u : Uop) (s : State),  (dueUop s n 0x11 = some (k, w, q, u)) ∧ (s.nextAddr q.upc (if q.fz = true then some u.imm else none) = some a) :=
  ⟨3, 1, 0x4001, burstW, ((seqOf (dueUop (atUop3 1143078917 {}) 3 17))), ((uopOf (dueUop (atUop3 1143078917 {}) 3 17))), ((atUop3 1143078917 {})), by decide +kernel⟩

theorem witness_MicrowordsThatBranch_3 : ∃ (n k a : Nat) (w : Work) (q : Seq) (u : Uop) (s : State),  (dueUop s n 0x12 = some (k, w, q, u)) ∧ (s.nextAddr q.upc (if q.fz = false then some u.imm else none) = some a) :=
  ⟨3, 1, 5, burstW, ((seqOf (dueUop (atUop3 1210187781 {}) 3 18))), ((uopOf (dueUop (atUop3 1210187781 {}) 3 18))), ((atUop3 1210187781 {})), by decide +kernel⟩

theorem witness_MicrowordsThatBranch_4 : ∃ (n k a : Nat) (w : Work) (q : Seq) (u : Uop) (s : State),  (dueUop s n 0x13 = some (k, w, q, u)) ∧ (s.nextAddr q.upc (if q.fn = true then some u.imm else none) = some a) :=
  ⟨3, 1, 0x4001, burstW, ((seqOf (dueUop (atUop3 1277296645 {}) 3 19))), ((uopOf (dueUop (atUop3 1277296645 {}) 3 19))), ((atUop3 1277296645 {})), by decide +kernel⟩

theorem witness_MicrowordsThatBranch_5 : ∃ (n k a : Nat) (w : Work) (q : Seq) (u : Uop) (s : State),  (dueUop s n 0x14 = some (k, w, q, u)) ∧ (s.nextAddr q.upc (if q.fc = true then some u.imm else none) = some a) :=
  ⟨3, 1, 0x4001, burstW, ((seqOf (dueUop (atUop3 1344405509 {}) 3 20))), ((uopOf (dueUop (atUop3 1344405509 {}) 3 20))), ((atUop3 1344405509 {})), by decide +kernel⟩

theorem witness_MicrowordsThatBranch_6 : ∃ (n k a : Nat) (w : Work) (q : Seq) (u : Uop) (s : State),  (dueUop s n 0x15 = some (k, w, q, u)) ∧ (s.nextAddr q.upc (if (s.uread q u.a).getLsbD (s.uread q u.b).toNat = true then some u.imm else none) = some a) :=
  ⟨3, 1, 0x4001, burstW, ((seqOf (dueUop (atUop3 1411514373 {}) 3 21))), ((uopOf (dueUop (atUop3 1411514373 {}) 3 21))), ((atUop3 1411514373 {})), by decide +kernel⟩

theorem witness_MicrowordsThatBranch_7 : ∃ (n k a : Nat) (w : Work) (q : Seq) (u : Uop) (s : State),  (dueUop s n 0x16 = some (k, w, q, u)) ∧ (s.nextAddr q.upc (some (u.imm + (s.uread q u.a).toNat % 64)) = some a) :=
  ⟨3, 1, 5, burstW, ((seqOf (dueUop (atUop3 1478623237 {}) 3 22))), ((uopOf (dueUop (atUop3 1478623237 {}) 3 22))), ((atUop3 1478623237 {})), by decide +kernel⟩

theorem witness_MicrowordsThatBranch_8 : ∃ (n k a : Nat) (w : Work) (q : Seq) (u : Uop) (s : State),  (dueUop s n 0x30 = some (k, w, q, u)) ∧ (s.nextAddr q.upc (some u.imm) = some a) ∧ (q.trap = none) :=
  ⟨3, 1, 5, burstW, ((seqOf (dueUop (atUop3 3223453701 {}) 3 48))), ((uopOf (dueUop (atUop3 3223453701 {}) 3 48))), ((atUop3 3223453701 {})), by decide +kernel⟩

theorem witness_MicrowordsThatBranch_9 : ∃ (n k : Nat) (w : Work) (q : Seq) (u : Uop) (s : State),  (dueUop s n 0x30 = some (k, w, q, u)) ∧ (q.trap.isSome = true) :=
  ⟨3, 1, burstW, ((seqOf (dueUop (atUop3 3223453701 { trap := some 7 }) 3 48))), ((uopOf (dueUop (atUop3 3223453701 { trap := some 7 }) 3 48))), ((atUop3 3223453701 { trap := some 7 })), by decide +kernel⟩

theorem witness_MicrowordsThatBranch_10 : ∃ (n k a r : Nat) (w : Work) (q : Seq) (u : Uop) (s : State),  (dueUop s n 0x31 = some (k, w, q, u)) ∧ (q.trap = some r) ∧ (s.nextAddr q.upc (some r) = some a) :=
  ⟨3, 1, 7, 7, burstW, ((seqOf (dueUop (atUop3 3290562565 { trap := some 7 }) 3 49))), ((uopOf (dueUop (atUop3 3290562565 { trap := some 7 }) 3 49))), ((atUop3 3290562565 { trap := some 7 })), by decide +kernel⟩

theorem witness_MicrowordsThatBranch_11 : ∃ (n k : Nat) (w : Work) (q : Seq) (u : Uop) (s : State),  (dueUop s n 0x31 = some (k, w, q, u)) ∧ (q.trap = none) :=
  ⟨3, 1, burstW, ((seqOf (dueUop (atUop3 3290562565 {}) 3 49))), ((uopOf (dueUop (atUop3 3290562565 {}) 3 49))), ((atUop3 3290562565 {})), by decide +kernel⟩

theorem witness_MicrowordsThatBranch_12 : ∃ (n k : Nat) (w : Work) (s : State),  ((s.seqSt n).work = some k) ∧ (s.work? k = some w) ∧ (engineReady w (s.seqSt n) = true) ∧ (uopListed (decodeUop (s.microword (s.seqSt n).upc)).uop = false) :=
  ⟨3, 1, burstW, ((atUop3 0xFFFFFFFF {})), by decide +kernel⟩

theorem witness_MicrowordsThatBranch_13 : ∃ (n k : Nat) (w : Work) (s : State),  ((s.seqSt n).work = some k) ∧ (s.work? k = some w) ∧ (w.stage = .running) ∧ (1024 ≤ (s.seqSt n).ucount) :=
  ⟨3, 1, burstW, ((onSeq3 burstW { ucount := 1024 })), by decide +kernel⟩

theorem witness_MicrowordsThatBranch_15 : ∃ (n k : Nat) (w : Work) (s : State),  ((s.seqSt n).work = some k) ∧ (s.work? k = some w) ∧ (w.stage = .running) ∧ (((s.seqSt n).trap = none ∨ (s.seqSt n).spilling = none)) :=
  ⟨3, 1, burstW, ((onSeq3 burstW {})), by decide +kernel⟩

theorem witness_MicrowordsThatBranch_16 : ∃ (n k d r : Nat) (w : Work) (s : State),  ((s.seqSt n).work = some k) ∧ (s.work? k = some w) ∧ (w.stage = .running) ∧ ((s.seqSt n).trap = some r) ∧ ((s.seqSt n).spilling = some d) :=
  ⟨3, 1, 0, 7, burstW, ((onSeq3 burstW { trap := some 7, spilling := some 0 })), by decide +kernel⟩

theorem witness_MicrowordsOfTheProgram_1 : ∃ (n k a : Nat) (w : Work) (q q1 : Seq) (u : Uop) (s : State),  (dueUop s n 0x17 = some (k, w, q, u)) ∧ (q.nidx < 2 ^ 18) ∧ (w.segs.contains q.nseg = true) ∧ (s.readLines q [insAddr q.nseg q.nidx / 64] = .ok q1) ∧ ((s.insAt q.nseg q.nidx).ok (s.owned n).length = true) ∧ (((s.insAt q.nseg q.nidx).namesSeg = true → w.segs.contains (s.insAt q.nseg q.nidx).x = true)) ∧ (s.nextAddr q.upc (some (u.imm + (s.insAt q.nseg q.nidx).op)) = some a) :=
  ⟨3, 1, 0x18, burstW, ((seqOf (dueUop dispS 3 23))), dispQ1, ((uopOf (dueUop dispS 3 23))), dispS, by decide +kernel, by decide +kernel, by decide +kernel, rfl, by decide +kernel, by decide +kernel, by decide +kernel⟩

theorem witness_MicrowordsOfTheProgram_2 : ∃ (n k a : Nat) (w : Work) (q : Seq) (u : Uop) (s : State),  (dueUop s n 0x20 = some (k, w, q, u)) ∧ (s.nextAddr q.upc none = some a) ∧ (bitOf u.imm 1 = false) ∧ (q.irOp ≠ 8) ∧ (1 ≤ (s.uread q u.b).toNat) ∧ ((s.uread q u.b).toNat ≤ 4096) ∧ (w.segs.contains (q.irX % 2 ^ 15) = true) ∧ (s.rowsFit n w (bitOf u.imm 0) (s.uread q u.a).toNat (s.uread q u.b).toNat = true) :=
  ⟨3, 1, 0x4001, burstW, ((seqOf (dueUop (atUop3 2149711872 { t := [0#64, 2#64, 3#64] }) 3 32))), ((uopOf (dueUop (atUop3 2149711872 { t := [0#64, 2#64, 3#64] }) 3 32))), ((atUop3 2149711872 { t := [0#64, 2#64, 3#64] })), by decide +kernel⟩

theorem witness_MicrowordsOfTheProgram_3 : ∃ (n k : Nat) (w : Work) (q : Seq) (u : Uop) (s : State),  (dueUop s n 0x20 = some (k, w, q, u)) ∧ (bitOf u.imm 1 = false) ∧ (w.segs.contains (q.irX % 2 ^ 15) = true) ∧ (1 ≤ (s.uread q u.b).toNat) ∧ ((s.uread q u.b).toNat ≤ 4096) ∧ (s.rowsFit n w (bitOf u.imm 0) (s.uread q u.a).toNat (s.uread q u.b).toNat = false) :=
  ⟨3, 1, burstW, ((seqOf (dueUop (atUop3 2149711873 { t := [0#64, 0x2000000#64, 3#64] }) 3 32))), ((uopOf (dueUop (atUop3 2149711873 { t := [0#64, 0x2000000#64, 3#64] }) 3 32))), ((atUop3 2149711873 { t := [0#64, 0x2000000#64, 3#64] })), by decide +kernel⟩

theorem witness_MicrowordsOfTheProgram_4 : ∃ (n k a : Nat) (w : Work) (q : Seq) (u : Uop) (s : State),  (dueUop s n 0x21 = some (k, w, q, u)) ∧ (s.nextAddr q.upc none = some a) ∧ ((s.uread q u.a).toNat ≠ 0) ∧ (s.periodNow n q ≠ 0) :=
  ⟨3, 1, 0x4001, burstW, ((seqOf (dueUop (atUop3 2216820741 { t := [0#64, 2#64, 3#64], period := 4096 }) 3 33))), ((uopOf (dueUop (atUop3 2216820741 { t := [0#64, 2#64, 3#64], period := 4096 }) 3 33))), ((atUop3 2216820741 { t := [0#64, 2#64, 3#64], period := 4096 })), by decide +kernel⟩

theorem witness_MicrowordsOfTheProgram_5 : ∃ (n k a : Nat) (w : Work) (q : Seq) (u : Uop) (s : State) (act : SeqAct),  (dueUop s n 0x22 = some (k, w, q, u)) ∧ (s.nextAddr q.upc none = some a) ∧ (uopAction q (u.imm % 8) (s.uread q u.a).toNat = some act) ∧ ((act = .captureOn → w.hasCapture = true)) :=
  ⟨3, 1, 0x4001, burstW, ((seqOf (dueUop (atUop3 2283929605 {}) 3 34))), ((uopOf (dueUop (atUop3 2283929605 {}) 3 34))), ((atUop3 2283929605 {})), .captureOff, by decide +kernel⟩

theorem witness_MicrowordsOfTheProgram_6 : ∃ (n k a sl : Nat) (w : Work) (q : Seq) (u : Uop) (s : State),  (dueUop s n 0x23 = some (k, w, q, u)) ∧ (s.nextAddr q.upc none = some a) ∧ (q.freeSlot = some sl) :=
  ⟨3, 1, 0x4001, 1, burstW, ((seqOf (dueUop (atUop3 2351038469 {}) 3 35))), ((uopOf (dueUop (atUop3 2351038469 {}) 3 35))), ((atUop3 2351038469 {})), by decide +kernel⟩

theorem witness_MicrowordsOfTheProgram_7 : ∃ (n k : Nat) (w : Work) (q : Seq) (u : Uop) (s : State),  (dueUop s n 0x23 = some (k, w, q, u)) ∧ (q.freeSlot = none) ∧ (q.trap = none) :=
  ⟨3, 1, burstW, ((seqOf (dueUop (atUop3 2351038469 { wins := (List.range 7).map fun d => (d, { slot := some d }) }) 3 35))), ((uopOf (dueUop (atUop3 2351038469 { wins := (List.range 7).map fun d => (d, { slot := some d }) }) 3 35))), ((atUop3 2351038469 { wins := (List.range 7).map fun d => (d, { slot := some d }) })), by decide +kernel⟩

theorem witness_MicrowordsOfTheProgram_8 : ∃ (n k a : Nat) (w : Work) (q : Seq) (u : Uop) (s : State),  (dueUop s n 0x24 = some (k, w, q, u)) ∧ (s.nextAddr q.upc none = some a) ∧ (q.depth ≠ 0) :=
  ⟨3, 1, 0x4001, burstW, ((seqOf (dueUop (atUop3 2418147333 { depth := 1 }) 3 36))), ((uopOf (dueUop (atUop3 2418147333 { depth := 1 }) 3 36))), ((atUop3 2418147333 { depth := 1 })), by decide +kernel⟩

theorem witness_MicrowordsOfTheProgram_9 : ∃ (n k a : Nat) (w : Work) (q : Seq) (u : Uop) (s : State),  (dueUop s n 0x25 = some (k, w, q, u)) ∧ (s.nextAddr q.upc none = some a) :=
  ⟨3, 1, 0x4001, burstW, ((seqOf (dueUop (atUop3 2485256197 { t := [0#64, 2#64, 3#64], wins := [(0, {}), (1, {}), (2, { ret := 77, c := [1, 2, 3, 4], slot := some 2 })], depth := 2, spillAt := 4096 }) 3 37))), ((uopOf (dueUop (atUop3 2485256197 { t := [0#64, 2#64, 3#64], wins := [(0, {}), (1, {}), (2, { ret := 77, c := [1, 2, 3, 4], slot := some 2 })], depth := 2, spillAt := 4096 }) 3 37))), ((atUop3 2485256197 { t := [0#64, 2#64, 3#64], wins := [(0, {}), (1, {}), (2, { ret := 77, c := [1, 2, 3, 4], slot := some 2 })], depth := 2, spillAt := 4096 })), by decide +kernel⟩

theorem witness_MicrowordsOfTheProgram_10 : ∃ (n k a sl : Nat) (x : Win) (w : Work) (q : Seq) (u : Uop) (s : State),  (dueUop s n 0x26 = some (k, w, q, u)) ∧ (s.nextAddr q.upc none = some a) ∧ (s.poisoned (q.spillAt + 32 * (s.uread q u.a).toNat) 32 = false) ∧ (s.spillRead q (s.uread q u.a).toNat = some x) ∧ (q.freeSlot = some sl) :=
  ⟨3, 1, 0x4001, 1, ({ ret := 77, c := [1, 2, 3, 4], slot := none }), burstW, ((seqOf (dueUop fillS 3 0x26))), ((uopOf (dueUop fillS 3 0x26))), fillS, by decide +kernel⟩

theorem witness_MicrowordsOfTheProgram_11 : ∃ (n k a : Nat) (w : Work) (q : Seq) (u : Uop) (s : State),  (dueUop s n 0x27 = some (k, w, q, u)) ∧ (s.nextAddr q.upc none = some a) :=
  ⟨3, 1, 0x4001, burstW, ((seqOf (dueUop (atUop3 2619473925 {}) 3 39))), ((uopOf (dueUop (atUop3 2619473925 {}) 3 39))), ((atUop3 2619473925 {})), by decide +kernel⟩

theorem witness_MicrowordsOfTheProgram_12 : ∃ (n k a : Nat) (w : Work) (q : Seq) (u : Uop) (s : State),  (dueUop s n 0x28 = some (k, w, q, u)) ∧ (s.nextAddr q.upc none = some a) ∧ (u.imm % 4 ≠ 3) :=
  ⟨3, 1, 0x4001, burstW, ((seqOf (dueUop (atUop3 2686582785 { bfail := 9 }) 3 40))), ((uopOf (dueUop (atUop3 2686582785 { bfail := 9 }) 3 40))), ((atUop3 2686582785 { bfail := 9 })), by decide +kernel⟩

theorem witness_MicrowordsOfTheProgram_13 : ∃ (n k a : Nat) (w : Work) (q : Seq) (u : Uop) (s : State),  (dueUop s n 0x29 = some (k, w, q, u)) ∧ (s.nextAddr q.upc none = some a) :=
  ⟨3, 1, 0x4001, burstW, ((seqOf (dueUop (atUop3 2797731841 {}) 3 41))), ((uopOf (dueUop (atUop3 2797731841 {}) 3 41))), ((atUop3 2797731841 {})), by decide +kernel⟩

theorem witness_MicrowordsOfTheProgram_14 : ∃ (n k a : Nat) (w : Work) (q : Seq) (u : Uop) (s : State),  (dueUop s n 0x2A = some (k, w, q, u)) ∧ (s.nextAddr q.upc none = some a) :=
  ⟨3, 1, 0x4001, burstW, ((seqOf (dueUop (atUop3 2820800517 {}) 3 42))), ((uopOf (dueUop (atUop3 2820800517 {}) 3 42))), ((atUop3 2820800517 {})), by decide +kernel⟩

theorem witness_MicrowordsOfTheProgram_15 : ∃ (n k a : Nat) (w : Work) (q : Seq) (u : Uop) (s : State),  (u.a ≠ 0x1A) ∧ (u.b ≠ 0x1A) ∧ (dueUop s n 0x2B = some (k, w, q, u)) ∧ (s.nextAddr q.upc none = some a) :=
  ⟨3, 1, 0x4001, burstW, ((seqOf (dueUop (atUop3 2887909381 { ev := [(5, [9])] }) 3 43))), ((uopOf (dueUop (atUop3 2887909381 { ev := [(5, [9])] }) 3 43))), ((atUop3 2887909381 { ev := [(5, [9])] })), by decide +kernel⟩

theorem witness_MicrowordsOfTheProgram_16 : ∃ (n k : Nat) (w : Work) (q : Seq) (u : Uop) (s : State),  (dueUop s n 0x38 = some (k, w, q, u)) :=
  ⟨3, 1, burstW, ((seqOf (dueUop (atUop3 3760324613 {}) 3 56))), ((uopOf (dueUop (atUop3 3760324613 {}) 3 56))), ((atUop3 3760324613 {})), by decide +kernel⟩

theorem witness_MicrowordsOfTheProgram_17 : ∃ (n k : Nat) (w : Work) (q : Seq) (u : Uop) (s : State),  (dueUop s n 0x39 = some (k, w, q, u)) :=
  ⟨3, 1, burstW, ((seqOf (dueUop (atUop3 3827433477 {}) 3 57))), ((uopOf (dueUop (atUop3 3827433477 {}) 3 57))), ((atUop3 3827433477 {})), by decide +kernel⟩

theorem witness_ProtocolLanes_1 : ∃ (k : Nat) (v : Word) (s : State),  (k < 64) ∧ (s.booted = true) ∧ (s.get F.LANEn_MODE_MODE k = 0) ∧ (s.modeRejected k (v &&& 0x7FFF00F3#32) = true) :=
  ⟨5, 3#32, up, by decide +kernel⟩

theorem witness_ProtocolLanes_2 : ∃ (k : Nat) (v : Word) (s : State),  (k < 64) ∧ (s.booted = true) ∧ (s.get F.LANEn_MODE_MODE k = 0) ∧ (s.modeRejected k (v &&& 0x7FFF00F3#32) = false) ∧ (F.LANEn_MODE_MODE.get (v &&& 0x7FFF00F3#32) ≠ 0) :=
  ⟨5, ((F.LANEn_MODE_MODE.put (F.LANEn_MODE_RATE.put 0#32 10000) 1)), up, by decide +kernel⟩

theorem witness_ProtocolLanes_3 : ∃ (k : Nat) (v : Word) (s : State),  (k < 64) ∧ (s.booted = true) ∧ (s.get F.LANEn_MODE_MODE k ≠ 0) ∧ (F.LANEn_MODE_MODE.get (v &&& 0x7FFF00F3#32) ≠ 0) :=
  ⟨5, 1#32, ((up.set F.LANEn_MODE_MODE 1 5)), by decide +kernel⟩

theorem witness_ProtocolLanes_4 : ∃ (k : Nat) (s : State),  (k < 64) ∧ (s.booted = true) ∧ (s.get F.LANEn_MODE_MODE k ≠ 0) ∧ ((s.bit F.LANEn_BIND_BOUND k = false ∨ s.seqBusy (s.get F.LANEn_BIND_SEQ k) = false)) :=
  ⟨5, ((up.set F.LANEn_MODE_MODE 1 5)), by decide +kernel⟩

theorem witness_ProtocolLanes_5 : ∃ (k : Nat) (s : State),  (k < 64) ∧ (s.booted = true) ∧ (s.get F.LANEn_MODE_MODE k ≠ 0) ∧ (s.bit F.LANEn_BIND_BOUND k = true) ∧ (s.seqBusy (s.get F.LANEn_BIND_SEQ k) = true) :=
  ⟨5, ((((onSeq3 burstW {}).set F.LANEn_MODE_MODE 1 5).setBit F.LANEn_BIND_BOUND 5).set F.LANEn_BIND_SEQ 3 5), by decide +kernel⟩

theorem witness_ProtocolLanes_6 : ∃ (k : Nat) (s : State),  (k < 64) ∧ (s.laneState k = 1) ∧ (s.bit F.LANEn_STATUS_LOS k = false) :=
  ⟨5, ({ up.set F.LANEn_STATUS_STATE 1 5 with lanes := [(5, { valid := 3 })] }), by decide +kernel⟩

theorem witness_ProtocolLanes_7 : ∃ (k : Nat) (s : State),  (k < 64) ∧ (s.laneState k = 2) :=
  ⟨5, ({ up.set F.LANEn_STATUS_STATE 2 5 with lanes := [(5, {})] }), by decide +kernel⟩

theorem witness_ProtocolLanes_8 : ∃ (k : Nat) (s : State),  (k < 64) ∧ (s.laneState k = 3) :=
  ⟨5, ({ up.set F.LANEn_STATUS_STATE 3 5 with lanes := [(5, {})] }), by decide +kernel⟩

theorem witness_ProtocolLanes_9 : ∃ (k : Nat) (s : State),  (k < 64) ∧ ((s.laneState k = 1 ∨ s.laneState k = 2)) ∧ (s.get F.LANEn_LOS_LOS_THRESH k ≠ 0) ∧ (s.bit F.LANEn_STATUS_LOS k = false) :=
  ⟨5, (((up.set F.LANEn_STATUS_STATE 2 5).set F.LANEn_LOS_LOS_THRESH 9 5)), by decide +kernel⟩

theorem witness_ProtocolLanes_10 : ∃ (k : Nat) (s : State),  (k < 64) ∧ (s.laneState k = 3) ∧ (s.get F.LANEn_LOS_LOS_THRESH k ≠ 0) ∧ (s.bit F.LANEn_STATUS_LOS k = false) :=
  ⟨5, (((up.set F.LANEn_STATUS_STATE 3 5).set F.LANEn_LOS_LOS_THRESH 9 5)), by decide +kernel⟩

theorem witness_ProtocolLanes_11 : ∃ (k : Nat) (s : State),  (k < 64) :=
  ⟨5, up, by decide +kernel⟩

theorem witness_ProtocolLanes_12 : ∃ (h k : Nat) (s : State),  (k < 64) ∧ (s.laneState k = 2) ∧ ((h = 0 ∨ h = 3)) :=
  ⟨3, 5, ({ up.set F.LANEn_STATUS_STATE 2 5 with lanes := [(5, { valid := 9 })] }), by decide +kernel⟩

theorem witness_ProtocolLanes_13 : ∃ (h k : Nat) (s : State),  (k < 64) ∧ (s.laneState k = 2) ∧ ((h = 1 ∨ h = 2)) ∧ ((s.lane k).valid < 63) :=
  ⟨1, 5, ({ up.set F.LANEn_STATUS_STATE 2 5 with lanes := [(5, { valid := 62 })] }), by decide +kernel⟩

theorem witness_ProtocolLanes_14 : ∃ (h k : Nat) (s : State),  (k < 64) ∧ (s.laneState k = 2) ∧ ((h = 1 ∨ h = 2)) ∧ (63 ≤ (s.lane k).valid) :=
  ⟨2, 5, ({ up.set F.LANEn_STATUS_STATE 2 5 with lanes := [(5, { valid := 63 })] }), by decide +kernel⟩

theorem witness_ProtocolLanes_15 : ∃ (h k : Nat) (s : State),  (k < 64) ∧ (s.laneState k = 3) ∧ (h < 4) ∧ (16 ≤ (((!headerValid h) :: (s.lane k).window).take 64).countP id) :=
  ⟨0, 5, ({ up.set F.LANEn_STATUS_STATE 3 5 with lanes := [(5, { window := List.replicate 15 true })] }), by decide +kernel⟩

theorem witness_ProtocolLanes_16 : ∃ (h k : Nat) (s : State),  (k < 64) ∧ (s.laneState k = 3) ∧ (h < 4) ∧ ((((!headerValid h) :: (s.lane k).window).take 64).countP id < 16) :=
  ⟨1, 5, ({ up.set F.LANEn_STATUS_STATE 3 5 with lanes := [(5, {})] }), by decide +kernel⟩

theorem witness_ProtocolLanes_17 : ∃ (k : Nat) (s : State),  (k < 64) ∧ (s.laneState k = 2) ∧ (s.get F.LANEn_HUNT_HUNT_LIMIT k ≠ 0) ∧ (s.get F.LANEn_HUNT_HUNT_LIMIT k * 1024 ≤ (s.lane k).examined) :=
  ⟨5, ({ (up.set F.LANEn_STATUS_STATE 2 5).set F.LANEn_HUNT_HUNT_LIMIT 1 5 with lanes := [(5, { examined := 1024 })] }), by decide +kernel⟩

theorem witness_ProtocolLanes_18 : ∃ (k h v : Nat) (d : Bool) (s : State),  (s.bit F.LANEn_STATUS_BLOCK_LOCK k = false) :=
  ⟨5, 1, 77, true, up, by decide +kernel⟩

theorem witness_ProtocolLanes_19 : ∃ (k h v : Nat) (d : Bool) (s : State),  (k < 64) ∧ (s.bit F.LANEn_STATUS_BLOCK_LOCK k = true) ∧ ((s.seqSt (s.get F.LANEn_BIND_SEQ k)).work = none) :=
  ⟨5, 1, 77, false, ((up.setBit F.LANEn_STATUS_BLOCK_LOCK 5)), by decide +kernel⟩

theorem witness_ProtocolLanes_20 : ∃ (h v k y : Nat) (d : Bool) (w : Work) (s : State),  (k < 64) ∧ (s.bit F.LANEn_STATUS_BLOCK_LOCK k = true) ∧ (let n := s.payloadBits k; let p := descramble (s.lane k).descr (v % 2 ^ n) 0 n; let x := if s.bit F.LANEn_MODE_DESCR k then p.2 else v % 2 ^ n; let u := if (s.setLane k { s.lane k with descr := p.1 }).matches_ k h x then (s.setLane k { s.lane k with descr := p.1 }).laneEvent k 3 else s.setLane k { s.lane k with descr := p.1 }; ((u.seqSt (u.get F.LANEn_BIND_SEQ k)).work = some y) ∧ (u.work? y = some w) ∧ ((w.stage = .running ∨ w.stage = .closing)) ∧ ((u.lane k).cmpBlock = true) ∧ (u.expectedBad k w (u.lane k).blocks = 0)) :=
  ⟨1, 77, 5, 1, false, burstW, ({ (((onSeq3 burstW {}).setBit F.LANEn_STATUS_BLOCK_LOCK 5).setBit F.LANEn_BIND_CMP_SRC 5).set F.LANEn_BIND_SEQ 3 5 with lanes := [(5, { cmpBlock := true })] }), by decide +kernel⟩

theorem witness_CyclesAndBurstEnds_1 : ∃ (k : Nat) (w : Work) (s : State),  (s.work? k = some w) ∧ (w.opcode = Op.burst) ∧ (w.stage = .window) ∧ ((s.seqSt w.bSeq).work = some k) ∧ (s.bit F.TSBANK_REF_MASTER_LOCK = true) ∧ ((∀ c ∈ w.burstChans, s.bit F.CHn_STATUS_SETTLED c = true)) :=
  ⟨1, ({ sessW with stage := .window, s0 := 900 }), ({ sessS.setBit F.TSBANK_REF_MASTER_LOCK with works := [(1, { sessW with stage := .window, s0 := 900 })] }), by decide +kernel⟩

theorem witness_CyclesAndBurstEnds_2 : ∃ (q1 : Seq) (r1 : Run) (p : CyclePlan) (n k : Nat) (w : Work) (r : Run) (c : CycleIn) (s : State),  ((s.seqSt n).work = some k) ∧ (s.work? k = some w) ∧ ((s.seqSt n).run = some r) ∧ (w.stage = .running) ∧ ((s.seqSt n).phase = .emit) ∧ ((s.seqSt n).free = true) ∧ (s.bit F.TSBANK_REF_MASTER_LOCK = true) ∧ ((∀ p, Store.get? s.tsPending n = some p → (s.seqSt n).nextStart < p.accept + commitLead)) ∧ (s.startBeat (s.seqSt n) r = some (q1, r1)) ∧ (s.planCycle n w q1 r1 = .ok p) ∧ ((w.session = true ∨ q1.nextStart + p.period ≤ (if q1.started then q1.first0 else q1.nextStart) + w.duration)) ∧ ((entersEdgecmp w q1.acts = true → 1024 ≤ p.period)) ∧ ((p.q.started = true ∨ s.burstCmpLanes w = [])) :=
  ⟨(((rowS.startBeat (rowS.seqSt 3) rowRun).map (·.1)).getD {}), ({ rowRun with beat := 3 }), (okOf (rowS.planCycle 3 sessW (((rowS.startBeat (rowS.seqSt 3) rowRun).map (·.1)).getD {}) { rowRun with beat := 3 }) { q := {}, period := 0 }), 3, 1, sessW, rowRun, {}, rowS, by decide +kernel, by decide +kernel, by decide +kernel, by decide +kernel, by decide +kernel, by decide +kernel, by decide +kernel, by decide +kernel, by decide +kernel, eq_ok_okOf _ _ (by decide +kernel), by decide +kernel, by decide +kernel, by decide +kernel⟩

theorem witness_CyclesAndBurstEnds_3 : ∃ (q1 : Seq) (r1 : Run) (p : CyclePlan) (n k : Nat) (w : Work) (r : Run) (c : CycleIn) (s : State),  ((s.seqSt n).work = some k) ∧ (s.work? k = some w) ∧ ((s.seqSt n).run = some r) ∧ (w.stage = .running) ∧ ((s.seqSt n).phase = .emit) ∧ ((s.seqSt n).free = true) ∧ (s.bit F.TSBANK_REF_MASTER_LOCK = true) ∧ ((∀ p, Store.get? s.tsPending n = some p → (s.seqSt n).nextStart < p.accept + commitLead)) ∧ (s.startBeat (s.seqSt n) r = some (q1, r1)) ∧ (s.planCycle n w q1 r1 = .ok p) ∧ ((w.session = true ∨ q1.nextStart + p.period ≤ (if q1.started then q1.first0 else q1.nextStart) + w.duration)) ∧ ((entersEdgecmp w q1.acts = true → 1024 ≤ p.period)) :=
  ⟨(((rowS.startBeat (rowS.seqSt 3) rowRun).map (·.1)).getD {}), ({ rowRun with beat := 3 }), (okOf (rowS.planCycle 3 sessW (((rowS.startBeat (rowS.seqSt 3) rowRun).map (·.1)).getD {}) { rowRun with beat := 3 }) { q := {}, period := 0 }), 3, 1, sessW, rowRun, {}, rowS, by decide +kernel, by decide +kernel, by decide +kernel, by decide +kernel, by decide +kernel, by decide +kernel, by decide +kernel, by decide +kernel, by decide +kernel, eq_ok_okOf _ _ (by decide +kernel), by decide +kernel, by decide +kernel⟩

theorem witness_CyclesAndBurstEnds_4 : ∃ (n k : Nat) (w : Work) (r : Run) (c : CycleIn) (s : State),  ((s.seqSt n).work = some k) ∧ (s.work? k = some w) ∧ ((s.seqSt n).run = some r) ∧ (w.stage = .running) ∧ ((s.seqSt n).phase = .emit) ∧ ((s.seqSt n).free = true) ∧ (s.bit F.TSBANK_REF_MASTER_LOCK = true) ∧ ((∀ p, Store.get? s.tsPending n = some p → (s.seqSt n).nextStart < p.accept + commitLead)) ∧ (s.startBeat (s.seqSt n) r = none) :=
  ⟨3, 1, sessW, rowRun, {}, ((let s := rowS; s.setSeq 3 { s.seqSt 3 with icredit := 0 })), by decide +kernel⟩

theorem witness_CyclesAndBurstEnds_5 : ∃ (q1 : Seq) (r1 : Run) (e : Nat × Nat) (n k : Nat) (w : Work) (r : Run) (c : CycleIn) (s : State),  ((s.seqSt n).work = some k) ∧ (s.work? k = some w) ∧ ((s.seqSt n).run = some r) ∧ (w.stage = .running) ∧ ((s.seqSt n).phase = .emit) ∧ ((s.seqSt n).free = true) ∧ (s.bit F.TSBANK_REF_MASTER_LOCK = true) ∧ ((∀ p, Store.get? s.tsPending n = some p → (s.seqSt n).nextStart < p.accept + commitLead)) ∧ (s.startBeat (s.seqSt n) r = some (q1, r1)) ∧ (s.planCycle n w q1 r1 = .error e) :=
  ⟨(((rowS.startBeat (rowS.seqSt 3) rowRun).map (·.1)).getD {}), ({ rowRun with beat := 3 }), ((0x209, 0)), 3, 1, sessW, rowRun, {}, ((rowS.wr ⟨.TSBANK_LIVE, 7, 7⟩ 0#32)), by decide +kernel, by decide +kernel, by decide +kernel, by decide +kernel, by decide +kernel, by decide +kernel, by decide +kernel, by decide +kernel, by decide +kernel, eq_error _ _ (by decide +kernel)⟩

theorem witness_CyclesAndBurstEnds_6 : ∃ (q1 : Seq) (r1 : Run) (p : CyclePlan) (n k : Nat) (w : Work) (r : Run) (c : CycleIn) (s : State),  ((s.seqSt n).work = some k) ∧ (s.work? k = some w) ∧ ((s.seqSt n).run = some r) ∧ (w.stage = .running) ∧ ((s.seqSt n).phase = .emit) ∧ ((s.seqSt n).free = true) ∧ (s.bit F.TSBANK_REF_MASTER_LOCK = true) ∧ ((∀ p, Store.get? s.tsPending n = some p → (s.seqSt n).nextStart < p.accept + commitLead)) ∧ (s.startBeat (s.seqSt n) r = some (q1, r1)) ∧ (s.planCycle n w q1 r1 = .ok p) ∧ (w.session = false) ∧ ((if q1.started then q1.first0 else q1.nextStart) + w.duration < q1.nextStart + p.period) :=
  ⟨((rowB.seqSt 3)), ({ kind := .quiet, left := 3, beat := 3 }), (okOf (rowB.planCycle 3 burstW (rowB.seqSt 3) { kind := .quiet, left := 3, beat := 3 }) { q := {}, period := 0 }), 3, 1, burstW, ({ kind := .quiet, left := 3 }), {}, rowB, by decide +kernel, by decide +kernel, by decide +kernel, by decide +kernel, by decide +kernel, by decide +kernel, by decide +kernel, by decide +kernel, by decide +kernel, eq_ok_okOf _ _ (by decide +kernel), by decide +kernel, by decide +kernel⟩

theorem witness_CyclesAndBurstEnds_7 : ∃ (q1 : Seq) (r1 : Run) (p : CyclePlan) (n k : Nat) (w : Work) (r : Run) (c : CycleIn) (s : State),  ((s.seqSt n).work = some k) ∧ (s.work? k = some w) ∧ ((s.seqSt n).run = some r) ∧ (w.stage = .running) ∧ ((s.seqSt n).phase = .emit) ∧ ((s.seqSt n).free = true) ∧ (s.bit F.TSBANK_REF_MASTER_LOCK = true) ∧ ((∀ p, Store.get? s.tsPending n = some p → (s.seqSt n).nextStart < p.accept + commitLead)) ∧ (s.startBeat (s.seqSt n) r = some (q1, r1)) ∧ (s.planCycle n w q1 r1 = .ok p) ∧ ((w.session = true ∨ q1.nextStart + p.period ≤ (if q1.started then q1.first0 else q1.nextStart) + w.duration)) ∧ (entersEdgecmp w q1.acts = true) ∧ (p.period < 1024) :=
  ⟨edgeQ, ({ rowRun with beat := 3 }), (okOf (edgeS.planCycle 3 edgeW edgeQ { rowRun with beat := 3 }) { q := {}, period := 0 }), 3, 1, edgeW, rowRun, {}, edgeS, by decide +kernel, by decide +kernel, by decide +kernel, by decide +kernel, by decide +kernel, by decide +kernel, by decide +kernel, by decide +kernel, by decide +kernel, eq_ok_okOf _ _ (by decide +kernel), by decide +kernel, by decide +kernel, by decide +kernel⟩

theorem witness_CyclesAndBurstEnds_8 : ∃ (k : Nat) (w : Work) (s : State),  (s.work? k = some w) ∧ (w.opcode = Op.burst) ∧ (w.stage = .closing) ∧ (let u := s.advanceTo (w.endAt + 40960000); ((u.seqSt w.bSeq).closeOk = true) ∧ ((u.detections.any fun d => u.affected d w || d.works.contains k) = false) ∧ (u.watchDone k w = true) ∧ (w.isJoint = false)) :=
  ⟨1, ({ burstW with stage := .closing, endAt := 5 }), ((onSeq3 { burstW with stage := .closing, endAt := 5 } {})), by decide +kernel⟩

theorem witness_CyclesAndBurstEnds_9 : ∃ (k : Nat) (w : Work) (s : State),  (s.work? k = some w) ∧ (w.opcode = Op.burst) ∧ (w.stage = .closing) ∧ (let u := s.advanceTo (w.endAt + 40960000); ((u.seqSt w.bSeq).closeOk = true) ∧ ((u.detections.any fun d => u.affected d w || d.works.contains k) = false) ∧ (u.watchDone k w = true) ∧ (w.isJoint = true)) :=
  ⟨1, ({ jointPartW with stage := .closing }), ((onSeq3 { jointPartW with stage := .closing } {})), by decide +kernel⟩

theorem witness_CyclesAndBurstEnds_10 : ∃ (k c : Nat) (w : Work) (s : State),  (s.work? k = some w) ∧ (w.opcode = Op.burst) ∧ (w.stage = .closing) ∧ (let u := s.advanceTo (w.endAt + 40960000); ((c = 1 ∨ (u.seqSt w.bSeq).closeOk = false))) :=
  ⟨1, 1, ({ burstW with stage := .closing, endAt := 5 }), ((onSeq3 { burstW with stage := .closing, endAt := 5 } {})), by decide +kernel⟩

theorem witness_CyclesAndBurstEnds_11 : ∃ (k c : Nat) (w : Work) (s : State),  (s.work? k = some w) ∧ (w.opcode = Op.burst) ∧ (w.stage = .closing) ∧ (let u := s.advanceTo (w.endAt + 40960000); ((u.seqSt w.bSeq).closeOk = true) ∧ (64 ≤ c) ∧ ((u.burstCmpLanes w).contains (c - 64) = true)) :=
  ⟨1, 69, cmpLaneW, cmpLaneS, by decide +kernel⟩

theorem witness_CyclesAndBurstEnds_12 : ∃ (k : Nat) (w : Work) (s : State),  (s.work? k = some w) ∧ (w.opcode = Op.burst) ∧ (w.stage = .closing) ∧ (let u := s.advanceTo (w.endAt + 40960000); ((u.seqSt w.bSeq).closeOk = true)) :=
  ⟨1, ({ burstW with stage := .closing, endAt := 5 }), ((onSeq3 { burstW with stage := .closing, endAt := 5 } {})), by decide +kernel⟩

theorem witness_CyclesAndBurstEnds_13 : ∃ (k : Nat) (w : Work) (s : State),  (s.work? k = some w) ∧ (w.opcode = Op.burst) ∧ (w.stage = .stopped) ∧ (s.watchDone k w = true) :=
  ⟨1, ({ burstW with stage := .stopped, cause := 0x203 }), ((onSeq3 { burstW with stage := .stopped, cause := 0x203 } {})), by decide +kernel⟩

theorem witness_TallySlotsAndWatches_1 : ∃ (g t : Nat) (b : Bool) (s : State),  (g < 4) ∧ ((Store.getD s.gates g {}).level = b) :=
  ⟨2, 77, false, up, by decide +kernel⟩

theorem witness_TallySlotsAndWatches_2 : ∃ (g t l : Nat) (b : Bool) (s : State),  (g < 4) ∧ ((Store.getD s.gates g {}).level ≠ b) ∧ ((Store.getD s.gates g {}).last = some l) ∧ (max s.fr t < l + 4096000) :=
  ⟨2, 77, 5, true, ({ up with gates := [(2, { last := some 5 })] }), by decide +kernel⟩

theorem witness_TallySlotsAndWatches_3 : ∃ (g t : Nat) (b : Bool) (s : State),  (g < 4) ∧ ((Store.getD s.gates g {}).level ≠ b) ∧ ((∀ l, (Store.getD s.gates g {}).last = some l → l + 4096000 ≤ max s.fr t)) ∧ (s.gateLevel g = !b) :=
  ⟨2, 77, true, up, by decide +kernel⟩

theorem witness_TallySlotsAndWatches_4 : ∃ (g l : Nat) (b : Bool) (s : State),  (g < 4) ∧ ((Store.getD s.gates g {}).level = b) ∧ ((Store.getD s.gates g {}).last = some l) ∧ (s.gateLevel g = !b) :=
  ⟨2, 5, true, ({ up with gates := [(2, { level := true, last := some 5 })] }), by decide +kernel⟩

theorem witness_TallySlotsAndWatches_5 : ∃ (n k d : Nat) (wt : Watch) (x : TSlot) (s : State),  (s.watchedSlot n = some (k, wt, x)) ∧ (x.disarmAt = some d) ∧ (wt.endBy.any (· ≤ d) = false) :=
  ⟨9, 1, 500, ({ openAt := some 0, closeAt := some 900, slots := [{ slot := 9, cfg := 0x200#32, armsel := 0#32, h := 0, hs := 0, depth := 1, nstamp := 0, dur := 0, armed := true, disarmAt := some 500 }] }), ({ slot := 9, cfg := 0x200#32, armsel := 0#32, h := 0, hs := 0, depth := 1, nstamp := 0, dur := 0, armed := true, disarmAt := some 500 }), ({ up with watches := [(1, { openAt := some 0, slots := [{ slot := 9, cfg := 0x200#32, armsel := 0#32, h := 0, hs := 0, depth := 1, nstamp := 0, dur := 0, armed := true, disarmAt := some 500 }], closeAt := some 900 })] }), by decide +kernel⟩

theorem witness_TallySlotsAndWatches_6 : ∃ (n k d : Nat) (wt : Watch) (x : TSlot) (s : State),  (s.watches = [(k, wt)]) ∧ (wt.isOpen = true) ∧ (wt.slots = [x]) ∧ (x.slot = n) ∧ (x.disarmAt = some d) ∧ (wt.endBy.any (· ≤ d) = false) ∧ (x.armed = true) ∧ (x.tie = none) ∧ (s.srcEdges = []) :=
  ⟨9, 1, 500, ({ openAt := some 0, slots := [{ slot := 9, cfg := 0x200#32, armsel := 0#32, h := 0, hs := 0, depth := 1, nstamp := 0, dur := 0, armed := true, disarmAt := some 500 }] }), ({ slot := 9, cfg := 0x200#32, armsel := 0#32, h := 0, hs := 0, depth := 1, nstamp := 0, dur := 0, armed := true, disarmAt := some 500 }), ({ up with watches := [(1, { openAt := some 0, slots := [{ slot := 9, cfg := 0x200#32, armsel := 0#32, h := 0, hs := 0, depth := 1, nstamp := 0, dur := 0, armed := true, disarmAt := some 500 }] })] }), by decide +kernel⟩

theorem witness_TallySlotsAndWatches_7 : ∃ (n t : Nat) (b : Bool) (s : State),  (s.watchedSlot n = none) :=
  ⟨9, 500, true, up, by decide +kernel⟩

theorem witness_TallySlotsAndWatches_8 : ∃ (n t k : Nat) (b : Bool) (wt : Watch) (x : TSlot) (e : SrcEdge) (s : State),  (s.watchedSlot n = some (k, wt, x)) ∧ (wt.isOpen = true) ∧ (let u := if isTallyIn x.source then (s.advanceTo t).srcEdge x.source b (max s.fr t) else s; (u.srcEdges.find? (·.source == x.source) = some e)) :=
  ⟨9, 500, 1, true, ({ openAt := some 0, slots := [{ slot := 9, cfg := 0x200#32, armsel := 0#32, h := 0, hs := 0, depth := 1, nstamp := 0, dur := 0, armed := true }] }), ({ slot := 9, cfg := 0x200#32, armsel := 0#32, h := 0, hs := 0, depth := 1, nstamp := 0, dur := 0, armed := true }), ({ source := 0x200, rising := true, at_ := 500 }), ({ up with watches := [(1, { openAt := some 0, slots := [{ slot := 9, cfg := 0x200#32, armsel := 0#32, h := 0, hs := 0, depth := 1, nstamp := 0, dur := 0, armed := true }] })] }), by decide +kernel⟩

theorem witness_TallySlotsAndWatches_9 : ∃ (n k t o : Nat) (b : Bool) (wt : Watch) (x : TSlot) (s : State),  (s.watches = [(k, wt)]) ∧ (wt.openAt = some o) ∧ (o ≤ max s.fr t) ∧ (wt.closed = false) ∧ (wt.endBy = none) ∧ (wt.limit = 0) ∧ (wt.slots = [x]) ∧ (x.slot = n) ∧ (isTallyIn x.source = true) ∧ (s.srcEdges = []) ∧ (x.tie = none) ∧ (s.conc = []) ∧ (x.disarmAt = none) ∧ (x.armed = true) ∧ (x.takes b = true) ∧ ((x.decide_ (max s.fr t)).2 = true) ∧ (x.disarm ≠ 2) :=
  ⟨9, 1, 500, 0, true, ({ openAt := some 0, slots := [{ slot := 9, cfg := 0x200#32, armsel := 0#32, h := 0, hs := 0, depth := 1, nstamp := 0, dur := 0, armed := true }] }), ({ slot := 9, cfg := 0x200#32, armsel := 0#32, h := 0, hs := 0, depth := 1, nstamp := 0, dur := 0, armed := true }), ({ up with watches := [(1, { openAt := some 0, slots := [{ slot := 9, cfg := 0x200#32, armsel := 0#32, h := 0, hs := 0, depth := 1, nstamp := 0, dur := 0, armed := true }] })] }), by decide +kernel⟩

theorem witness_TallySlotsAndWatches_10 : ∃ (r : Nat) (c d : ConcRec) (s : State),  (s.conc.find? (·.row == r) = some c) ∧ (let u := (s.advanceTo (c.stamp.time + 1)).catchUp c.work (c.stamp.time + 1); (u.conc.find? (·.row == r) = some d)) :=
  ⟨0, ({ row := 0, work := 1, slot := 9, stamp := { time := 5, source := 3, rising := true, warm := false, seq := 1 } }), ({ row := 0, work := 1, slot := 9, stamp := { time := 5, source := 3, rising := true, warm := false, seq := 1 } }), ({ up with conc := [{ row := 0, work := 1, slot := 9, stamp := { time := 5, source := 3, rising := true, warm := false, seq := 1 } }] }), by decide +kernel⟩

theorem witness_TallySlotsAndWatches_11 : ∃ (k : Nat) (w : Work) (wt : Watch) (s : State),  (s.work? k = some w) ∧ (Store.get? s.watches k = some wt) ∧ (wt.openAt = none) ∧ (w.opcode = Op.tallyArm) ∧ (w.stage = .window) :=
  ⟨1, ((orderWork Op.tallyArm .window)), {}, ({ orderAt Op.tallyArm .window with watches := [(1, {})] }), by decide +kernel⟩

theorem witness_TallySlotsAndWatches_12 : ∃ (k : Nat) (w : Work) (wt : Watch) (s : State),  (s.work? k = some w) ∧ (Store.get? s.watches k = some wt) ∧ (wt.openAt = none) ∧ (w.opcode = Op.burst) ∧ (w.stage = .running) :=
  ⟨1, burstW, {}, ({ onSeq3 burstW {} with watches := [(1, {})] }), by decide +kernel⟩

theorem witness_TallySlotsAndWatches_13 : ∃ (k c : Nat) (w : Work) (wt : Watch) (s : State),  (s.work? k = some w) ∧ (Store.get? s.watches k = some wt) ∧ (wt.closed = false) ∧ (wt.closeInstant w = some c) :=
  ⟨1, 900, ({ burstW with stage := .closing, endAt := 900 }), ({ openAt := some 5 }), ({ onSeq3 { burstW with stage := .closing, endAt := 900 } {} with watches := [(1, { openAt := some 5 })] }), by decide +kernel⟩

theorem witness_TallySlotsAndWatches_14 : ∃ (k c : Nat) (w : Work) (wt : Watch) (s : State),  (s.work? k = some w) ∧ (Store.get? s.watches k = some wt) ∧ (wt.closed = false) ∧ (w.opcode = Op.tallyArm) ∧ (wt.closeInstant w = some c) ∧ (w.measCount = 0) :=
  ⟨1, 900, ((orderWork Op.tallyArm .running)), ({ openAt := some 5, closeAt := some 900, records := 3 }), ({ orderAt Op.tallyArm .running with watches := [(1, { openAt := some 5, closeAt := some 900, records := 3 })] }), by decide +kernel⟩

theorem witness_TallySlotsAndWatches_15 : ∃ (k : Nat) (w : Work) (s : State),  (s.work? k = some w) ∧ (w.opcode = Op.tallyDisarm) ∧ (w.stage = .routed) ∧ (let u := s.catchUpAll s.fr; ((u.works.find? fun p => p.2.opcode == Op.tallyArm && p.2.stall == w.stall && p.2.seq == w.body 32 4 && p.2.stage == .running && (Store.getD u.watches p.1 {}).openIn u.fr) = none)) :=
  ⟨1, ((orderWork Op.tallyDisarm .routed)), ((orderAt Op.tallyDisarm .routed)), by decide +kernel⟩

theorem witness_TallySlotsAndWatches_16 : ∃ (k j : Nat) (w v : Work) (s : State),  (s.work? k = some w) ∧ (w.opcode = Op.tallyDisarm) ∧ (w.stage = .routed) ∧ (let u := s.catchUpAll s.fr; ((u.works.find? fun p => p.2.opcode == Op.tallyArm && p.2.stall == w.stall && p.2.seq == w.body 32 4 && p.2.stage == .running && (Store.getD u.watches p.1 {}).openIn u.fr) = some (j, v))) :=
  ⟨1, 2, ((orderWork Op.tallyDisarm .routed)), ((orderWork Op.tallyArm .running)), ({ orderAt Op.tallyDisarm .routed with works := [(1, orderWork Op.tallyDisarm .routed), (2, orderWork Op.tallyArm .running)], watches := [(2, { openAt := some 0 })] }), by decide +kernel⟩

theorem witness_TallySlotsAndWatches_17 : ∃ (k : Nat) (w : Work) (wt : Watch) (s : State),  (s.work? k = some w) ∧ (Store.get? s.watches k = some wt) ∧ (wt.closed = true) ∧ (wt.measured = false) ∧ (w.measCount ≠ 0) ∧ (w.opcode = Op.tallyArm) :=
  ⟨1, ({ orderWork Op.tallyArm .running with blk := List.replicate 97 0#8 ++ [1#8] ++ List.replicate 400 0#8 }), ({ closed := true, openAt := some 0, closeAt := some 9 }), ({ up with works := [(1, { orderWork Op.tallyArm .running with blk := List.replicate 97 0#8 ++ [1#8] ++ List.replicate 400 0#8 })], watches := [(1, { closed := true, openAt := some 0, closeAt := some 9 })] }), by decide +kernel⟩

theorem witness_TallySlotsAndWatches_18 : ∃ (k : Nat) (w : Work) (wt : Watch) (s : State),  (s.work? k = some w) ∧ (Store.get? s.watches k = some wt) ∧ (wt.closed = true) ∧ (wt.measured = false) ∧ (w.measCount ≠ 0) ∧ (w.opcode = Op.burst) :=
  ⟨1, ({ burstW with stage := .closing, blk := List.replicate 225 0#8 ++ [1#8] ++ List.replicate 286 0#8 }), ({ closed := true, openAt := some 0, closeAt := some 9 }), ({ up with works := [(1, { burstW with stage := .closing, blk := List.replicate 225 0#8 ++ [1#8] ++ List.replicate 286 0#8 })], watches := [(1, { closed := true, openAt := some 0, closeAt := some 9 })] }), by decide +kernel⟩

theorem witness_OscillatorAndRuns_3 : ∃ (r : Nat) (s : State),  (s.get F.TALLY_OVEN_STATUS_STATE = 0) :=
  ⟨900, up, by decide +kernel⟩

theorem witness_OscillatorAndRuns_4 : ∃ (r : Nat) (s : State),  (s.get F.TALLY_OVEN_STATUS_STATE = 1) ∧ (s.get F.TALLY_OVEN_BAND_BAND < (s.ovenError (r % 2 ^ 16)).natAbs) :=
  ⟨0xFFFF, ((up.set F.TALLY_OVEN_STATUS_STATE 1)), by decide +kernel⟩

theorem witness_OscillatorAndRuns_5 : ∃ (r : Nat) (s : State),  (s.get F.TALLY_OVEN_STATUS_STATE = 1) ∧ ((s.ovenError (r % 2 ^ 16)).natAbs ≤ s.get F.TALLY_OVEN_BAND_BAND) ∧ (s.oven.inBand + 1 < 12000) :=
  ⟨0, (((up.set F.TALLY_OVEN_STATUS_STATE 1).set F.TALLY_OVEN_BAND_BAND 0xFFFF)), by decide +kernel⟩

theorem witness_OscillatorAndRuns_6 : ∃ (r : Nat) (s : State),  (s.get F.TALLY_OVEN_STATUS_STATE = 1) ∧ ((s.ovenError (r % 2 ^ 16)).natAbs ≤ s.get F.TALLY_OVEN_BAND_BAND) ∧ (12000 ≤ s.oven.inBand + 1) :=
  ⟨0, ({ ((up.set F.TALLY_OVEN_STATUS_STATE 1).set F.TALLY_OVEN_BAND_BAND 0xFFFF) with oven := { inBand := 11999 } }), by decide +kernel⟩

theorem witness_OscillatorAndRuns_7 : ∃ (r : Nat) (s : State),  (s.get F.TALLY_OVEN_STATUS_STATE = 2) ∧ (2 * s.get F.TALLY_OVEN_BAND_BAND < (s.ovenError (r % 2 ^ 16)).natAbs) :=
  ⟨0xFFFF, ((up.set F.TALLY_OVEN_STATUS_STATE 2)), by decide +kernel⟩

theorem witness_OscillatorAndRuns_8 : ∃ (r : Nat) (s : State),  (s.get F.TALLY_OVEN_STATUS_STATE = 2) ∧ ((s.ovenError (r % 2 ^ 16)).natAbs ≤ 2 * s.get F.TALLY_OVEN_BAND_BAND) :=
  ⟨0, (((up.set F.TALLY_OVEN_STATUS_STATE 2).set F.TALLY_OVEN_BAND_BAND 0xFFFF)), by decide +kernel⟩

theorem witness_OscillatorAndRuns_9 : ∃ (r : Nat) (s : State),  (s.get F.TALLY_OVEN_STATUS_STATE = 3) :=
  ⟨900, ((up.set F.TALLY_OVEN_STATUS_STATE 3)), by decide +kernel⟩

theorem witness_OscillatorAndRuns_10 : ∃ s : State,  ((s.get F.TALLY_OVEN_STATUS_STATE = 1 ∨ s.get F.TALLY_OVEN_STATUS_STATE = 2)) :=
  ⟨((up.set F.TALLY_OVEN_STATUS_STATE 2)), by decide +kernel⟩

theorem witness_OscillatorAndRuns_11 : ∃ s : State,  (s.booted = true) ∧ (s.bit F.TALLY_OVEN_CTRL_ENABLE = false) :=
  ⟨up, by decide +kernel⟩

theorem witness_OscillatorAndRuns_12 : ∃ s : State,  (s.booted = true) ∧ (s.bit F.TALLY_OVEN_CTRL_ENABLE = true) :=
  ⟨((up.setBit F.TALLY_OVEN_CTRL_ENABLE)), by decide +kernel⟩

theorem witness_OscillatorAndRuns_13 : ∃ (row n a : Nat) (x : SsmsStart) (l : List (Nat × Bool)) (s : State),  (row < 4) ∧ (let q : SsmsRun := { start := x, stops := l, repeats := n, addr := a }; (q.onRow row = true) ∧ (s.ssmsProcedure row q = true) ∧ (s.watchOnRow row = false) ∧ (Store.get? s.ssms row = none)) :=
  ⟨2, 9, 4096, (.channel 130), ([(131, true)]), ({ up with driftRows := [2] }), by decide +kernel⟩

theorem witness_OscillatorAndRuns_14 : ∃ (r : Nat) (q : SsmsRun) (l : List SsmsRep) (s : State),  (Store.get? s.ssms r = some q) ∧ (l.length = q.repeats) :=
  ⟨2, ({ start := .channel 130, stops := [(131, true)], repeats := 1, addr := 4096 }), ([{ start := 5, seen := [(131, true, 9)] }]), ({ up with ssms := [(2, { start := .channel 130, stops := [(131, true)], repeats := 1, addr := 4096 })] }), by decide +kernel⟩

theorem witness_MessagesOfAHall_1 : ∃ (a : Nat) (b : Int) (s : State),  (s.gslIn = []) :=
  ⟨5, 6, up, by decide +kernel⟩

theorem witness_MessagesOfAHall_2 : ∃ (p : Nat) (m : GslMsg) (r s : State),  (s.takeMsg Msg.probe = some (p, m, r)) :=
  ⟨1, ({ mtype := Msg.probe, src := 4, dst := 0 }), ({ up with gslIn := [] }), ({ up with gslIn := [(1, { mtype := Msg.probe, src := 4, dst := 0 })] }), by decide +kernel⟩

theorem witness_MessagesOfAHall_3 : ∃ (t1 t2 : Nat) (l : List Tu) (p : Nat) (m : GslMsg) (r s : State),  (s.takeMsg Msg.probeReply = some (p, m, r)) ∧ ((r.gslPort p).probes = t1 :: l) ∧ ((r.get F.GSL_PORTn_STATUS_STATE p = 3 ∨ (r.get F.GSL_PORTn_STATUS_STATE p = 2 ∧ (r.gslPort p).n < 65536))) :=
  ⟨500, 900, [], 1, ({ mtype := Msg.probeReply, src := 4, dst := 0 }), ({ up.set F.GSL_PORTn_STATUS_STATE 3 1 with gslIn := [], gsl := [(1, { probes := [500] })] }), ({ up.set F.GSL_PORTn_STATUS_STATE 3 1 with gslIn := [(1, { mtype := Msg.probeReply, src := 4, dst := 0 })], gsl := [(1, { probes := [500] })] }), by decide +kernel⟩

theorem witness_MessagesOfAHall_4 : ∃ (t2 p : Nat) (m : GslMsg) (r s : State),  (s.takeMsg Msg.probeReply = some (p, m, r)) ∧ ((r.gslPort p).probes = []) :=
  ⟨900, 1, ({ mtype := Msg.probeReply, src := 4, dst := 0 }), ({ up with gslIn := [] }), ({ up with gslIn := [(1, { mtype := Msg.probeReply, src := 4, dst := 0 })] }), by decide +kernel⟩

theorem witness_MessagesOfAHall_5 : ∃ (id p : Nat) (m : GslMsg) (r s : State),  (s.takeMsg Msg.advert = some (p, m, r)) ∧ (let u := if r.newElection m then r.startElection 1 else r; ((∀ e ∈ u.peers, e.2.id ≠ r.devId)) ∧ (id ≠ r.devId)) :=
  ⟨9, 1, ({ mtype := Msg.advert, src := 4, dst := 0 }), ({ up with gslIn := [] }), ({ up with gslIn := [(1, { mtype := Msg.advert, src := 4, dst := 0 })] }), by decide +kernel⟩

theorem witness_MessagesOfAHall_6 : ∃ (p : Nat) (m : GslMsg) (r s : State),  (s.takeMsg Msg.advert = some (p, m, r)) :=
  ⟨1, ({ mtype := Msg.advert, src := 4, dst := 0 }), ({ up with gslIn := [] }), ({ up with gslIn := [(1, { mtype := Msg.advert, src := 4, dst := 0 })] }), by decide +kernel⟩

theorem witness_MessagesOfAHall_7 : ∃ (p : Nat) (m : GslMsg) (r s : State),  (s.takeMsg Msg.time = some (p, m, r)) ∧ (m.arg = 0) :=
  ⟨1, ({ mtype := Msg.time, src := 4, dst := 0 }), ({ up with gslIn := [] }), ({ up with gslIn := [(1, { mtype := Msg.time, src := 4, dst := 0 })] }), by decide +kernel⟩

theorem witness_MessagesOfAHall_8 : ∃ (lo p : Nat) (m : GslMsg) (r s : State),  (s.takeMsg Msg.time = some (p, m, r)) ∧ (m.arg ≠ 0) ∧ (r.timeHalf = some lo) :=
  ⟨77, 1, ({ mtype := Msg.time, src := 4, dst := 0, arg := 1, data := 99, win := 12 }), ({ up with gslIn := [], timeHalf := some 77 }), ({ up with gslIn := [(1, { mtype := Msg.time, src := 4, dst := 0, arg := 1, data := 99, win := 12 })], timeHalf := some 77 }), by decide +kernel⟩

theorem witness_MessagesOfAHall_9 : ∃ (p : Nat) (m : GslMsg) (r s : State),  (s.takeMsg Msg.time = some (p, m, r)) ∧ (m.arg ≠ 0) ∧ (r.timeHalf = none) :=
  ⟨1, ({ mtype := Msg.time, src := 4, dst := 0, arg := 1, data := 99, win := 12 }), ({ up with gslIn := [] }), ({ up with gslIn := [(1, { mtype := Msg.time, src := 4, dst := 0, arg := 1, data := 99, win := 12 })] }), by decide +kernel⟩

theorem witness_MessagesOfAHall_10 : ∃ (commit : Int) (p : Nat) (m : GslMsg) (r s : State),  (s.takeMsg Msg.crierCfg = some (p, m, r)) :=
  ⟨5, 1, ({ mtype := Msg.crierCfg, src := 4, dst := 0 }), ({ up with gslIn := [] }), ({ up with gslIn := [(1, { mtype := Msg.crierCfg, src := 4, dst := 0 })] }), by decide +kernel⟩

theorem witness_MessagesOfAHall_11 : ∃ (p : Nat) (m : GslMsg) (r s : State),  (s.takeMsg Msg.linkDown = some (p, m, r)) ∧ (bitsOf m.data 6 6 = (m.data % 64 + 1) % r.ringSize) ∧ (r.ownPort (m.data % 64) = none) :=
  ⟨1, ({ mtype := Msg.linkDown, src := 4, dst := 0, data := 5 + 6 * 64 }), ({ up.set F.GSL_HALL_STATUS_SIZE 8 with gslIn := [] }), ({ up.set F.GSL_HALL_STATUS_SIZE 8 with gslIn := [(1, { mtype := Msg.linkDown, src := 4, dst := 0, data := 5 + 6 * 64 })] }), by decide +kernel⟩

theorem witness_MessagesOfAHall_12 : ∃ (p : Nat) (m : GslMsg) (r s : State),  (s.takeMsg Msg.linkDown = some (p, m, r)) ∧ ((bitsOf m.data 6 6 ≠ (m.data % 64 + 1) % r.ringSize ∨ (r.ownPort (m.data % 64)).isSome = true)) :=
  ⟨1, ({ mtype := Msg.linkDown, src := 4, dst := 0, data := 5 + 4 * 64 }), ({ up.set F.GSL_HALL_STATUS_SIZE 8 with gslIn := [] }), ({ up.set F.GSL_HALL_STATUS_SIZE 8 with gslIn := [(1, { mtype := Msg.linkDown, src := 4, dst := 0, data := 5 + 4 * 64 })] }), by decide +kernel⟩

theorem witness_JointBurstsInAHall_1 : ∃ (p : Nat) (m : GslMsg) (r s : State),  (s.takeMsg Msg.prepare = some (p, m, r)) ∧ (r.joint m.data = none) :=
  ⟨1, ({ mtype := Msg.prepare, src := 4, dst := 0 }), ({ up with gslIn := [] }), ({ up with gslIn := [(1, { mtype := Msg.prepare, src := 4, dst := 0 })] }), by decide +kernel⟩

theorem witness_JointBurstsInAHall_2 : ∃ (p k : Nat) (m : GslMsg) (j : Joint) (w : Work) (r s : State),  (s.takeMsg Msg.prepare = some (p, m, r)) ∧ (r.joint m.data = some j) ∧ (r.jointWork j = some (k, w)) ∧ (j.phase = .awaiting) :=
  ⟨1, 1, ({ mtype := Msg.prepare, src := 4, dst := 0 }), ({ work := some 1 }), ({ burstW with stage := .joint, admittedRcpt := false }), ({ ({ up with joints := [(0, { work := some 1 })], works := [(1, { burstW with stage := .joint, admittedRcpt := false })], nextWork := 2 }) with gslIn := [] }), ({ ({ up with joints := [(0, { work := some 1 })], works := [(1, { burstW with stage := .joint, admittedRcpt := false })], nextWork := 2 }) with gslIn := [(1, { mtype := Msg.prepare, src := 4, dst := 0 })] }), by decide +kernel⟩

theorem witness_JointBurstsInAHall_3 : ∃ (p k : Nat) (m : GslMsg) (j : Joint) (w : Work) (r s : State),  (s.takeMsg Msg.vote = some (p, m, r)) ∧ (r.joint m.data = some j) ∧ (r.jointWork j = some (k, w)) ∧ (j.phase = .preparing) ∧ ((∀ t, j.timer = some t → m.at_ < t)) ∧ (m.arg ≠ 0) :=
  ⟨1, 1, ({ mtype := Msg.vote, src := 4, dst := 0, arg := 0x110 }), ({ work := some 1, phase := .preparing }), ({ burstW with stage := .joint, admittedRcpt := false }), ({ ({ up with joints := [(0, { work := some 1, phase := .preparing })], works := [(1, { burstW with stage := .joint, admittedRcpt := false })], nextWork := 2 }) with gslIn := [] }), ({ ({ up with joints := [(0, { work := some 1, phase := .preparing })], works := [(1, { burstW with stage := .joint, admittedRcpt := false })], nextWork := 2 }) with gslIn := [(1, { mtype := Msg.vote, src := 4, dst := 0, arg := 0x110 })] }), by decide +kernel⟩

theorem witness_JointBurstsInAHall_4 : ∃ (id p k : Nat) (m : GslMsg) (j : Joint) (w : Work) (r s : State),  (s.takeMsg Msg.vote = some (p, m, r)) ∧ (r.joint m.data = some j) ∧ (r.jointWork j = some (k, w)) ∧ (j.phase = .preparing) ∧ ((∀ t, j.timer = some t → m.at_ < t)) ∧ (m.arg = 0) ∧ (w.participants[j.prepared]? = some id) :=
  ⟨6, 1, 1, ({ mtype := Msg.vote, src := 4, dst := 0 }), ({ work := some 1, phase := .preparing }), jointPartW, ({ ({ up with joints := [(0, { work := some 1, phase := .preparing })], works := [(1, jointPartW)], nextWork := 2 }) with gslIn := [] }), ({ ({ up with joints := [(0, { work := some 1, phase := .preparing })], works := [(1, jointPartW)], nextWork := 2 }) with gslIn := [(1, { mtype := Msg.vote, src := 4, dst := 0 })] }), by decide +kernel⟩

theorem witness_JointBurstsInAHall_5 : ∃ (p k : Nat) (m : GslMsg) (j : Joint) (w : Work) (r s : State),  (s.takeMsg Msg.vote = some (p, m, r)) ∧ (r.joint m.data = some j) ∧ (r.jointWork j = some (k, w)) ∧ (j.phase = .preparing) ∧ ((∀ t, j.timer = some t → m.at_ < t)) ∧ (m.arg = 0) ∧ (w.participants[j.prepared]? = none) ∧ (r.fr + 204800000 ≤ w.s0) :=
  ⟨1, 1, ({ mtype := Msg.vote, src := 4, dst := 0 }), ({ work := some 1, phase := .preparing, prepared := 2 }), ({ jointPartW with s0 := 300000000 }), ({ ({ up with joints := [(0, { work := some 1, phase := .preparing, prepared := 2 })], works := [(1, { jointPartW with s0 := 300000000 })], nextWork := 2 }) with gslIn := [] }), ({ ({ up with joints := [(0, { work := some 1, phase := .preparing, prepared := 2 })], works := [(1, { jointPartW with s0 := 300000000 })], nextWork := 2 }) with gslIn := [(1, { mtype := Msg.vote, src := 4, dst := 0 })] }), by decide +kernel⟩

theorem witness_JointBurstsInAHall_6 : ∃ (p k : Nat) (m : GslMsg) (j : Joint) (w : Work) (r s : State),  (s.takeMsg Msg.vote = some (p, m, r)) ∧ (r.joint m.data = some j) ∧ (r.jointWork j = some (k, w)) ∧ (j.phase = .preparing) ∧ ((∀ t, j.timer = some t → m.at_ < t)) ∧ (m.arg = 0) ∧ (w.participants[j.prepared]? = none) ∧ (w.s0 < r.fr + 204800000) :=
  ⟨1, 1, ({ mtype := Msg.vote, src := 4, dst := 0 }), ({ work := some 1, phase := .preparing, prepared := 2 }), ({ jointPartW with s0 := 3 }), ({ ({ up with joints := [(0, { work := some 1, phase := .preparing, prepared := 2 })], works := [(1, { jointPartW with s0 := 3 })], nextWork := 2 }) with gslIn := [] }), ({ ({ up with joints := [(0, { work := some 1, phase := .preparing, prepared := 2 })], works := [(1, { jointPartW with s0 := 3 })], nextWork := 2 }) with gslIn := [(1, { mtype := Msg.vote, src := 4, dst := 0 })] }), by decide +kernel⟩

theorem witness_JointBurstsInAHall_7 : ∃ (t p k : Nat) (m : GslMsg) (j : Joint) (w : Work) (r s : State),  (s.takeMsg Msg.vote = some (p, m, r)) ∧ (r.joint m.data = some j) ∧ (r.jointWork j = some (k, w)) ∧ (j.phase = .preparing) ∧ (j.timer = some t) ∧ (t ≤ m.at_) :=
  ⟨0, 1, 1, ({ mtype := Msg.vote, src := 4, dst := 0 }), ({ work := some 1, phase := .preparing, timer := some 0 }), jointPartW, ({ ({ up with joints := [(0, { work := some 1, phase := .preparing, timer := some 0 })], works := [(1, jointPartW)], nextWork := 2 }) with gslIn := [] }), ({ ({ up with joints := [(0, { work := some 1, phase := .preparing, timer := some 0 })], works := [(1, jointPartW)], nextWork := 2 }) with gslIn := [(1, { mtype := Msg.vote, src := 4, dst := 0 })] }), by decide +kernel⟩

theorem witness_JointBurstsInAHall_8 : ∃ (p k : Nat) (m : GslMsg) (j : Joint) (w : Work) (r s : State),  (s.takeMsg Msg.commit = some (p, m, r)) ∧ (r.joint m.data = some j) ∧ (r.jointWork j = some (k, w)) ∧ (j.phase = .held) :=
  ⟨1, 1, ({ mtype := Msg.commit, src := 4, dst := 0 }), ({ work := some 1, phase := .held }), jointPartW, ({ ({ up with joints := [(0, { work := some 1, phase := .held })], works := [(1, jointPartW)], nextWork := 2 }) with gslIn := [] }), ({ ({ up with joints := [(0, { work := some 1, phase := .held })], works := [(1, jointPartW)], nextWork := 2 }) with gslIn := [(1, { mtype := Msg.commit, src := 4, dst := 0 })] }), by decide +kernel⟩

theorem witness_JointBurstsInAHall_9 : ∃ (p k : Nat) (m : GslMsg) (j : Joint) (w : Work) (r s : State),  (s.takeMsg Msg.abort = some (p, m, r)) ∧ (r.joint m.data = some j) ∧ (r.jointWork j = some (k, w)) ∧ (j.phase ≠ .admitted) :=
  ⟨1, 1, ({ mtype := Msg.abort, src := 4, dst := 0, arg := 0x110 }), ({ work := some 1, phase := .held }), jointPartW, ({ ({ up with joints := [(0, { work := some 1, phase := .held })], works := [(1, jointPartW)], nextWork := 2 }) with gslIn := [] }), ({ ({ up with joints := [(0, { work := some 1, phase := .held })], works := [(1, jointPartW)], nextWork := 2 }) with gslIn := [(1, { mtype := Msg.abort, src := 4, dst := 0, arg := 0x110 })] }), by decide +kernel⟩

theorem witness_JointBurstsInAHall_10 : ∃ (p k : Nat) (m : GslMsg) (j : Joint) (w : Work) (r s : State),  (s.takeMsg Msg.abort = some (p, m, r)) ∧ (r.joint m.data = some j) ∧ (r.jointWork j = some (k, w)) ∧ (j.phase = .admitted) :=
  ⟨1, 1, ({ mtype := Msg.abort, src := 4, dst := 0 }), ({ work := some 1, phase := .admitted }), jointPartW, ({ ({ up with joints := [(0, { work := some 1, phase := .admitted })], works := [(1, jointPartW)], nextWork := 2 }) with gslIn := [] }), ({ ({ up with joints := [(0, { work := some 1, phase := .admitted })], works := [(1, jointPartW)], nextWork := 2 }) with gslIn := [(1, { mtype := Msg.abort, src := 4, dst := 0 })] }), by decide +kernel⟩

theorem witness_JointBurstsInAHall_11 : ∃ (p : Nat) (m : GslMsg) (j : Joint) (r s : State),  (s.takeMsg Msg.abort = some (p, m, r)) ∧ (r.joint m.data = some j) ∧ (r.jointWork j = none) :=
  ⟨1, ({ mtype := Msg.abort, src := 4, dst := 0 }), ({ timer := some 5 }), ({ up with joints := [(0, { timer := some 5 })], gslIn := [] }), ({ up with joints := [(0, { timer := some 5 })], gslIn := [(1, { mtype := Msg.abort, src := 4, dst := 0 })] }), by decide +kernel⟩

theorem witness_JointBurstsInAHall_12 : ∃ (p k : Nat) (m : GslMsg) (j : Joint) (w : Work) (r s : State),  (s.takeMsg Msg.done = some (p, m, r)) ∧ (r.joint m.data = some j) ∧ (r.jointWork j = some (k, w)) ∧ (j.phase = .admitted) ∧ (m.src ∉ j.dones) ∧ ((j.doneSent && decide (w.partCount ≤ j.dones.length + 2)) = false) :=
  ⟨1, 1, ({ mtype := Msg.done, src := 4, dst := 0 }), ({ work := some 1, phase := .admitted }), jointPartW, ({ ({ up with joints := [(0, { work := some 1, phase := .admitted })], works := [(1, jointPartW)], nextWork := 2 }) with gslIn := [] }), ({ ({ up with joints := [(0, { work := some 1, phase := .admitted })], works := [(1, jointPartW)], nextWork := 2 }) with gslIn := [(1, { mtype := Msg.done, src := 4, dst := 0 })] }), by decide +kernel⟩

theorem witness_JointBurstsInAHall_13 : ∃ (p k : Nat) (m : GslMsg) (j : Joint) (w : Work) (r s : State),  (s.takeMsg Msg.done = some (p, m, r)) ∧ (r.joint m.data = some j) ∧ (r.jointWork j = some (k, w)) ∧ (j.phase = .admitted) ∧ (m.src ∉ j.dones) ∧ (j.doneSent = true) ∧ (w.partCount ≤ j.dones.length + 2) :=
  ⟨1, 1, ({ mtype := Msg.done, src := 4, dst := 0 }), ({ work := some 1, phase := .admitted, doneSent := true }), jointPartW, ({ ({ up with joints := [(0, { work := some 1, phase := .admitted, doneSent := true })], works := [(1, jointPartW)], nextWork := 2 }) with gslIn := [] }), ({ ({ up with joints := [(0, { work := some 1, phase := .admitted, doneSent := true })], works := [(1, jointPartW)], nextWork := 2 }) with gslIn := [(1, { mtype := Msg.done, src := 4, dst := 0 })] }), by decide +kernel⟩

theorem witness_JointBurstsInAHall_14 : ∃ (p k : Nat) (m : GslMsg) (j : Joint) (w : Work) (r s : State),  (s.takeMsg Msg.release = some (p, m, r)) ∧ (r.joint m.data = some j) ∧ (r.jointWork j = some (k, w)) ∧ (j.doneSent = true) :=
  ⟨1, 1, ({ mtype := Msg.release, src := 4, dst := 0 }), ({ work := some 1, phase := .admitted, doneSent := true }), jointPartW, ({ ({ up with joints := [(0, { work := some 1, phase := .admitted, doneSent := true })], works := [(1, jointPartW)], nextWork := 2 }) with gslIn := [] }), ({ ({ up with joints := [(0, { work := some 1, phase := .admitted, doneSent := true })], works := [(1, jointPartW)], nextWork := 2 }) with gslIn := [(1, { mtype := Msg.release, src := 4, dst := 0 })] }), by decide +kernel⟩

theorem witness_JointBurstsInAHall_15 : ∃ (p k : Nat) (m : GslMsg) (j : Joint) (w : Work) (r s : State),  (s.takeMsg Msg.voidNotice = some (p, m, r)) ∧ (r.joint m.data = some j) ∧ (r.jointWork j = some (k, w)) :=
  ⟨1, 1, ({ mtype := Msg.voidNotice, src := 4, dst := 0 }), ({ work := some 1, phase := .admitted }), jointPartW, ({ ({ up with joints := [(0, { work := some 1, phase := .admitted })], works := [(1, jointPartW)], nextWork := 2 }) with gslIn := [] }), ({ ({ up with joints := [(0, { work := some 1, phase := .admitted })], works := [(1, jointPartW)], nextWork := 2 }) with gslIn := [(1, { mtype := Msg.voidNotice, src := 4, dst := 0 })] }), by decide +kernel⟩

theorem witness_JointBurstsInAHall_16 : ∃ (x t : Nat) (j : Joint) (s : State),  (s.joint x = some j) ∧ (j.phase = .awaiting) ∧ (j.timer = some t) :=
  ⟨0, 500, ({ timer := some 500, prep := some 2 }), ({ up with joints := [(0, { timer := some 500, prep := some 2 })] }), by decide +kernel⟩

theorem witness_JointBurstsInAHall_17 : ∃ (x t k : Nat) (j : Joint) (w : Work) (s : State),  (s.joint x = some j) ∧ (s.jointWork j = some (k, w)) ∧ (j.timer = some t) ∧ (j.phase = .held) :=
  ⟨0, 500, 1, ({ timer := some 500, work := some 1, phase := .held }), jointPartW, ({ up with joints := [(0, { timer := some 500, work := some 1, phase := .held })], works := [(1, jointPartW)], nextWork := 2 }), by decide +kernel⟩

theorem witness_JointBurstsInAHall_18 : ∃ (x t k : Nat) (j : Joint) (w : Work) (s : State),  (s.joint x = some j) ∧ (s.jointWork j = some (k, w)) ∧ (j.timer = some t) ∧ (j.phase = .preparing) :=
  ⟨0, 500, 1, ({ timer := some 500, work := some 1, phase := .preparing }), jointPartW, ({ up with joints := [(0, { timer := some 500, work := some 1, phase := .preparing })], works := [(1, jointPartW)], nextWork := 2 }), by decide +kernel⟩

theorem witness_LinksAndFrames_1 : ∃ (p f t : Nat) (s : State),  ((s.get F.GSL_PORTn_CFG_ROLE p = 3 ∨ s.get F.GSL_PORTn_STATUS_STATE p = 0 ∨ bitsOf f 0 2 = 0 ∨ bitsOf f 0 2 = 3 ∨ crc32c (leBytes (bitsOf f 0 248) 31) ≠ BitVec.ofNat 32 (bitsOf f 248 32))) :=
  ⟨1, 3, 900, up, by decide +kernel⟩

theorem witness_LinksAndFrames_2 : ∃ (p f t : Nat) (s : State),  (s.get F.GSL_PORTn_CFG_ROLE p ≠ 3) ∧ ((bitsOf f 0 2 = 1 ∨ bitsOf f 0 2 = 2)) ∧ (crc32c (leBytes (bitsOf f 0 248) 31) = BitVec.ofNat 32 (bitsOf f 248 32)) ∧ (s.get F.GSL_PORTn_STATUS_STATE p = 4) :=
  ⟨1, ((1 + (crc32c (leBytes 1 31)).toNat * 2 ^ 248)), 900, ((up.set F.GSL_PORTn_STATUS_STATE 4 1)), by decide +kernel⟩

theorem witness_LinksAndFrames_3 : ∃ (p f t : Nat) (s : State),  (s.get F.GSL_PORTn_CFG_ROLE p ≠ 3) ∧ ((bitsOf f 0 2 = 1 ∨ bitsOf f 0 2 = 2)) ∧ (crc32c (leBytes (bitsOf f 0 248) 31) = BitVec.ofNat 32 (bitsOf f 248 32)) ∧ (s.get F.GSL_PORTn_STATUS_STATE p ≠ 0) ∧ (s.get F.GSL_PORTn_STATUS_STATE p ≠ 4) :=
  ⟨1, ((1 + 2 ^ 146 + (crc32c (leBytes (1 + 2 ^ 146) 31)).toNat * 2 ^ 248)), 900, ((up.set F.GSL_PORTn_STATUS_STATE 2 1)), by decide +kernel⟩

theorem witness_LinksAndFrames_4 : ∃ (p : Nat) (s : State),  (s.get F.GSL_PORTn_CFG_ROLE p ≠ 3) ∧ (s.get F.GSL_PORTn_STATUS_STATE p ≠ 0) ∧ (s.bit F.TSBANK_REF_REF_PRESENT = true) :=
  ⟨1, ((up.set F.GSL_PORTn_STATUS_STATE 1 1).setBit F.TSBANK_REF_REF_PRESENT), by decide +kernel⟩

theorem witness_LinksAndFrames_5 : ∃ (p : Nat) (s : State),  (s.get F.GSL_PORTn_CFG_ROLE p ≠ 3) ∧ (s.get F.GSL_PORTn_STATUS_STATE p = 1) ∧ (s.bit F.TSBANK_REF_REF_PRESENT = true) ∧ (s.crierDrv = []) ∧ ((s.gslPort p).out = []) ∧ (s.bit F.GSL_HALL_STATUS_IS_MASTER = false) :=
  ⟨1, ((up.set F.GSL_PORTn_STATUS_STATE 1 1).setBit F.TSBANK_REF_REF_PRESENT), by decide +kernel⟩

theorem witness_LinksAndFrames_6 : ∃ (p : Nat) (s : State),  (s.get F.GSL_PORTn_CFG_ROLE p ≠ 3) ∧ (s.get F.GSL_PORTn_STATUS_STATE p = 2) ∧ (s.bit F.TSBANK_REF_REF_PRESENT = true) ∧ (s.crierDrv = []) ∧ ((s.window - 1).fmod 2 = 0) ∧ (s.bit F.GSL_HALL_STATUS_IS_MASTER = false) :=
  ⟨1, ({ (up.set F.GSL_PORTn_STATUS_STATE 2 1).setBit F.TSBANK_REF_REF_PRESENT with fr := 40960 }), by decide +kernel⟩

theorem witness_LinksAndFrames_7 : ∃ (p x : Nat) (s : State),  (s.get F.GSL_PORTn_STATUS_STATE p = 1) ∧ (s.get F.GSL_PORTn_CFG_ROLE p ≠ 3) :=
  ⟨2, 5, (((up.set F.GSL_PORTn_STATUS_STATE 1 2).set F.GSL_HALL_STATUS_STATE 3)), by decide +kernel⟩

theorem witness_LinksAndFrames_8 : ∃ (p : Nat) (s : State),  (s.get F.GSL_PORTn_STATUS_STATE p = 2) ∧ (65536 ≤ (s.gslPort p).n) :=
  ⟨1, ({ up.set F.GSL_PORTn_STATUS_STATE 2 1 with gsl := [(1, { n := 65536, sumD := 65536 * 2 * 700 })] }), by decide +kernel⟩

theorem witness_LinksAndFrames_9 : ∃ (p : Nat) (b : Bool) (s : State),  (s.get F.GSL_PORTn_CFG_ROLE p ≠ 3) ∧ (s.get F.GSL_PORTn_STATUS_STATE p ≠ 3) ∧ ((s.get F.GSL_PORTn_STATUS_STATE p ≠ 2 ∨ (s.gslPort p).driftAt ≠ some s.fr)) :=
  ⟨1, true, up, by decide +kernel⟩

theorem witness_LinksAndFrames_10 : ∃ (p : Nat) (b : Bool) (s : State),  (s.get F.GSL_PORTn_CFG_ROLE p ≠ 3) ∧ (s.get F.GSL_PORTn_STATUS_STATE p = 3) ∧ (let u := { ((s.setIf F.GSL_PORTn_STATUS_LOS b p).set F.GSL_PORTn_STATUS_STATE 4 p).setBit F.GSL_PORTn_EVENTS_LINK_DOWN p with detections := s.detections.filter fun d => !(d.kind == 5 && d.source == 0x628 + p) }; let x := u.sendMsg Msg.linkDown 0x3F (u.linkEnds p) p; ((s.portLink p = none ∨ (s.gslPort p).bad = true))) :=
  ⟨2, true, ((up.set F.GSL_PORTn_STATUS_STATE 3 2).set F.GSL_PORTn_CFG_ROLE 2 2), by decide +kernel⟩

theorem witness_LinksAndFrames_11 : ∃ (p l : Nat) (b : Bool) (s : State),  (s.get F.GSL_PORTn_CFG_ROLE p ≠ 3) ∧ (s.get F.GSL_PORTn_STATUS_STATE p = 3) ∧ (let u := { ((s.setIf F.GSL_PORTn_STATUS_LOS b p).set F.GSL_PORTn_STATUS_STATE 4 p).setBit F.GSL_PORTn_EVENTS_LINK_DOWN p with detections := s.detections.filter fun d => !(d.kind == 5 && d.source == 0x628 + p) }; let x := u.sendMsg Msg.linkDown 0x3F (u.linkEnds p) p; (s.portLink p = some l) ∧ ((s.gslPort p).bad = false) ∧ ((x.gslPort p).bad = false)) :=
  ⟨1, 0, true, ((up.set F.GSL_PORTn_STATUS_STATE 3 1)), by decide +kernel⟩

theorem witness_LinksAndFrames_12 : ∃ (p : Nat) (b : Bool) (s : State),  (s.get F.GSL_PORTn_CFG_ROLE p ≠ 3) ∧ (s.get F.GSL_PORTn_STATUS_STATE p = 2) ∧ ((s.gslPort p).driftAt = some s.fr) :=
  ⟨1, true, ({ up.set F.GSL_PORTn_STATUS_STATE 2 1 with gsl := [(1, { driftAt := some 0 })] }), by decide +kernel⟩

theorem witness_LinksAndFrames_13 : ∃ (p : Nat) (s : State),  (s.get F.GSL_PORTn_STATUS_STATE p = 3) ∧ (((s.gslPort p).sumD - 2 * ((s.gslPort p).n : Int) * s.get F.GSL_PORTn_DELAY_DELAY p).natAbs ≤ 8 * (s.gslPort p).n) :=
  ⟨1, ((up.set F.GSL_PORTn_STATUS_STATE 3 1)), by decide +kernel⟩

theorem witness_LinksAndFrames_14 : ∃ (p : Nat) (s : State),  (s.get F.GSL_PORTn_STATUS_STATE p = 3) ∧ (8 * (s.gslPort p).n < ((s.gslPort p).sumD - 2 * ((s.gslPort p).n : Int) * s.get F.GSL_PORTn_DELAY_DELAY p).natAbs) :=
  ⟨1, ({ up.set F.GSL_PORTn_STATUS_STATE 3 1 with gsl := [(1, { n := 10, sumD := 9000 })] }), by decide +kernel⟩

theorem witness_LinksAndFrames_15 : ∃ (p : Nat) (v : Word) (s : State),  (s.booted = true) ∧ (p < 4) ∧ (s.portHeld p = true) :=
  ⟨1, 1#32, ({ up.set F.GSL_HALL_STATUS_SIZE 2 with peers := [(1, { id := 6, serial := 0, candidate := false, oven := false })], works := [(1, jointPartW)] }), by decide +kernel⟩

theorem witness_LinksAndFrames_16 : ∃ (p : Nat) (v : Word) (s : State),  (s.booted = true) ∧ (p < 4) ∧ (s.portHeld p = false) ∧ (s.get F.GSL_PORTn_CFG_ROLE p ≠ v.toNat % 4) ∧ (s.portLink p = none) :=
  ⟨2, 1#32, ((up.set F.GSL_PORTn_CFG_ROLE 3 2)), by decide +kernel⟩

theorem witness_LinksAndFrames_17 : ∃ (p l : Nat) (v : Word) (s : State),  (s.booted = true) ∧ (p < 4) ∧ (s.portHeld p = false) ∧ (s.get F.GSL_PORTn_CFG_ROLE p ≠ v.toNat % 4) ∧ (s.portLink p = some l) :=
  ⟨1, 0, 2#32, ((up.set F.GSL_PORTn_CFG_ROLE 1 1)), by decide +kernel⟩

theorem witness_LinksAndFrames_18 : ∃ (p : Nat) (v : Word) (s : State),  (s.booted = true) ∧ (p < 4) ∧ (s.portHeld p = false) ∧ (s.get F.GSL_PORTn_CFG_ROLE p = v.toNat % 4) ∧ ((v.toNat % 4 = 3 ∨ s.get F.GSL_PORTn_STATUS_STATE p ≠ 0)) :=
  ⟨1, 1#32, (((up.set F.GSL_PORTn_CFG_ROLE 1 1).set F.GSL_PORTn_STATUS_STATE 3 1)), by decide +kernel⟩

theorem witness_LinksAndFrames_19 : ∃ (p : Nat) (v : Word) (s : State),  (s.booted = true) ∧ (p < 4) ∧ (s.portHeld p = false) ∧ (s.get F.GSL_PORTn_CFG_ROLE p = v.toNat % 4) ∧ (v.toNat % 4 ≠ 3) ∧ (s.get F.GSL_PORTn_STATUS_STATE p = 0) :=
  ⟨1, 1#32, (((up.set F.GSL_PORTn_CFG_ROLE 1 1).set F.GSL_PORTn_STATUS_STATE 0 1)), by decide +kernel⟩

theorem witness_LinksAndFrames_20 : ∃ s : State,  (s.booted = true) ∧ ((s.works.any fun p => p.2.opcode == Op.burst && p.2.isJoint && p.2.admittedRcpt) = true) :=
  ⟨({ up with works := [(1, jointPartW)] }), by decide +kernel⟩

theorem witness_LinksAndFrames_21 : ∃ s : State,  (s.booted = true) ∧ ((s.works.any fun p => p.2.opcode == Op.burst && p.2.isJoint && p.2.admittedRcpt) = false) :=
  ⟨up, by decide +kernel⟩

theorem witness_LinksAndFrames_22 : ∃ s : State,  (s.booted = false) :=
  ⟨State.reset, by decide +kernel⟩

theorem witness_CrierBus_1 : ∃ (b : Bool) (s : State),  (s.booted = true) ∧ (s.bit F.GSL_HALL_STATUS_IS_MASTER = false) :=
  ⟨true, up, by decide +kernel⟩

theorem witness_CrierBus_2 : ∃ (b : Bool) (s : State),  (s.booted = true) ∧ (s.bit F.GSL_HALL_STATUS_IS_MASTER = true) ∧ ((s.get F.CRIER_LAT_LAT < 200 ∨ 8000 < s.get F.CRIER_LAT_LAT)) :=
  ⟨true, (((up.setBit F.GSL_HALL_STATUS_IS_MASTER).set F.CRIER_LAT_LAT 100)), by decide +kernel⟩

theorem witness_CrierBus_3 : ∃ (b : Bool) (l : Nat) (s : State),  (s.booted = true) ∧ (s.bit F.GSL_HALL_STATUS_IS_MASTER = true) ∧ (l < 8) ∧ (bitOf s.crierRegs.en l = true) ∧ (s.hallSize ≤ s.crierRegs.pos.getD l 0) :=
  ⟨true, 2, (((((up.setBit F.GSL_HALL_STATUS_IS_MASTER).set F.CRIER_LAT_LAT 1500).setBit F.CRIER_SRC_n_EN 2).set F.CRIER_SRC_n_POS 9 2)), by decide +kernel⟩

theorem witness_CrierBus_4 : ∃ (b : Bool) (s : State),  (s.booted = true) ∧ (s.bit F.GSL_HALL_STATUS_IS_MASTER = true) ∧ (200 ≤ s.get F.CRIER_LAT_LAT) ∧ (s.get F.CRIER_LAT_LAT ≤ 8000) ∧ ((∀ l ∈ List.range 8, bitOf s.crierRegs.en l = true → s.crierRegs.pos.getD l 0 < s.hallSize)) ∧ ((b || s.works.any fun p => p.2.burstPresent) = true) :=
  ⟨true, (((up.setBit F.GSL_HALL_STATUS_IS_MASTER).set F.CRIER_LAT_LAT 1500)), by decide +kernel⟩

theorem witness_CrierBus_5 : ∃ s : State,  (s.booted = true) ∧ (s.bit F.GSL_HALL_STATUS_IS_MASTER = true) ∧ (200 ≤ s.get F.CRIER_LAT_LAT) ∧ (s.get F.CRIER_LAT_LAT ≤ 8000) ∧ ((∀ l ∈ List.range 8, bitOf s.crierRegs.en l = true → s.crierRegs.pos.getD l 0 < s.hallSize)) ∧ ((s.works.any fun p => p.2.burstPresent) = false) :=
  ⟨(((up.setBit F.GSL_HALL_STATUS_IS_MASTER).set F.CRIER_LAT_LAT 1500)), by decide +kernel⟩

theorem witness_CrierBus_6 : ∃ (c : CrierCfg) (l : List CrierCfg) (s : State),  (s.crierCfg = c :: l) ∧ (s.bit F.GSL_HALL_STATUS_IS_MASTER = true) :=
  ⟨({ lat := 900, en := 3, at_ := 500 }), [], ({ up.setBit F.GSL_HALL_STATUS_IS_MASTER with crierCfg := [{ lat := 900, en := 3, at_ := 500 }] }), by decide +kernel⟩

theorem witness_CrierBus_7 : ∃ (c : CrierCfg) (l : List CrierCfg) (s : State),  (s.crierCfg = c :: l) ∧ (s.bit F.GSL_HALL_STATUS_IS_MASTER = false) :=
  ⟨({ lat := 900, en := 3, at_ := 500 }), [], ({ up with crierCfg := [{ lat := 900, en := 3, at_ := 500 }] }), by decide +kernel⟩

theorem witness_CrierBus_8 : ∃ s : State,  (s.crierCfg = []) ∧ (s.crierWait = []) ∧ (s.crierDrv = []) :=
  ⟨up, by decide +kernel⟩

theorem witness_CrierBus_9 : ∃ (c : CrierChange) (s : State),  (s.crierWait = [c]) ∧ (s.crierDrv = []) ∧ (s.crierEn c.line = true) ∧ (s.members.contains (s.crierPos c.line) = true) :=
  ⟨({ line := 2, level := true, at_ := 700 }), ({ up with members := [0, 1], crierWait := [{ line := 2, level := true, at_ := 700 }], crierNow := { en := 4 } }), by decide +kernel⟩

theorem witness_CrierBus_10 : ∃ (c : CrierChange) (s : State),  (s.crierDrv = []) ∧ (firstChange s.crierWait = some c) ∧ (s.crierEn c.line = true) ∧ (s.members.contains (s.crierPos c.line) = true) :=
  ⟨({ line := 2, level := true, at_ := 700 }), ({ up with members := [0, 1], crierWait := [{ line := 2, level := true, at_ := 700 }], crierNow := { en := 4 } }), by decide +kernel⟩

theorem witness_CrierBus_11 : ∃ (c : CrierChange) (s : State),  (s.crierDrv = []) ∧ (firstChange s.crierWait = some c) ∧ ((s.crierEn c.line = false ∨ s.members.contains (s.crierPos c.line) = false)) :=
  ⟨({ line := 2, level := true, at_ := 700 }), ({ up with members := [0, 1], crierWait := [{ line := 2, level := true, at_ := 700 }] }), by decide +kernel⟩

theorem witness_HostLinkStates_1 : ∃ (speed width : Nat) (flit tags : Bool) (s : State),  (s.bit F.STALL_HOST_STATUS_DL_UP = false) ∧ (linkLegal speed width flit = true) :=
  ⟨6, 16, true, true, up, by decide +kernel⟩

theorem witness_HostLinkStates_2 : ∃ (speed width : Nat) (s : State),  (s.bit F.STALL_HOST_STATUS_DL_UP = true) ∧ (linkLegal speed width (s.bit F.STALL_HOST_STATUS_FLIT) = true) ∧ (s.get F.STALL_HOST_STATUS_RATE ≤ linkRate speed width) :=
  ⟨5, 8, ((up.setBit F.STALL_HOST_STATUS_DL_UP)), by decide +kernel⟩

theorem witness_HostLinkStates_3 : ∃ (speed width : Nat) (s : State),  (s.bit F.STALL_HOST_STATUS_DL_UP = true) ∧ (linkLegal speed width (s.bit F.STALL_HOST_STATUS_FLIT) = true) ∧ (linkRate speed width < s.get F.STALL_HOST_STATUS_RATE) :=
  ⟨1, 1, (((up.setBit F.STALL_HOST_STATUS_DL_UP).set F.STALL_HOST_STATUS_RATE 1150)), by decide +kernel⟩

theorem witness_HostLinkStates_4 : ∃ s : State,  (s.bit F.STALL_HOST_STATUS_DL_UP = true) :=
  ⟨((up.setBit F.STALL_HOST_STATUS_DL_UP)), by decide +kernel⟩

theorem witness_FunctionsAndInterrupts_1 : ∃ s : State,  (2 ≤ s.get F.BOOT_STATUS_STAGE) ∧ ((s.numVfs = 0 ∨ 63 < s.numVfs ∨ (7 < s.numVfs ∧ s.ari = false))) :=
  ⟨({ up.set F.BOOT_STATUS_STAGE 8 with numVfs := 9 }), by decide +kernel⟩

theorem witness_FunctionsAndInterrupts_2 : ∃ s : State,  (2 ≤ s.get F.BOOT_STATUS_STAGE) ∧ (s.vfEnable = false) ∧ (1 ≤ s.numVfs) ∧ (s.numVfs ≤ 63) ∧ ((s.numVfs ≤ 7 ∨ s.ari = true)) :=
  ⟨({ up.set F.BOOT_STATUS_STAGE 8 with numVfs := 3 }), by decide +kernel⟩

theorem witness_FunctionsAndInterrupts_3 : ∃ s : State,  (2 ≤ s.get F.BOOT_STATUS_STAGE) ∧ (s.vfEnable = true) :=
  ⟨({ up.set F.BOOT_STATUS_STAGE 8 with numVfs := 3, vfEnable := true, funcs := [(2, { present := true })] }), by decide +kernel⟩

theorem witness_FunctionsAndInterrupts_4 : ∃ (f : Nat) (s : State),  ((s.func f).present = true) ∧ (f ≠ 0) ∧ (f < 64) ∧ (s.booted = true) :=
  ⟨3, ({ up with funcs := [(3, { present := true })] }), by decide +kernel⟩

theorem witness_FunctionsAndInterrupts_5 : ∃ s : State,  ((s.func 0).present = true) ∧ (s.booted = true) :=
  ⟨({ up with funcs := [(0, { present := true }), (3, { present := true })] }), by decide +kernel⟩

theorem witness_FunctionsAndInterrupts_6 : ∃ (f : Nat) (s : State),  ((s.func f).inReset = true) ∧ ((s.works.any fun p => p.2.fn == f) = false) :=
  ⟨3, ({ up with funcs := [(3, { present := true, inReset := true })] }), by decide +kernel⟩

theorem witness_FunctionsAndInterrupts_7 : ∃ (f : Nat) (s : State),  (2 ≤ s.get F.BOOT_STATUS_STAGE) ∧ ((s.func f).busMaster = true) :=
  ⟨3, ({ up.set F.BOOT_STATUS_STAGE 8 with funcs := [(3, { present := true, busMaster := true })] }), by decide +kernel⟩

theorem witness_FunctionsAndInterrupts_8 : ∃ (f : Nat) (s : State),  (2 ≤ s.get F.BOOT_STATUS_STAGE) ∧ ((s.func f).present = true) ∧ ((s.func f).d3hot = false) :=
  ⟨3, ({ up.set F.BOOT_STATUS_STAGE 8 with funcs := [(3, { present := true })] }), by decide +kernel⟩

theorem witness_FunctionsAndInterrupts_9 : ∃ (f : Nat) (s : State),  ((s.func f).d3hot = true) :=
  ⟨3, ({ up with funcs := [(3, { present := true, d3hot := true })] }), by decide +kernel⟩

theorem witness_FunctionsAndInterrupts_10 : ∃ (g : Trigger) (s : State),  (s.triggers.find? s.triggerFirst = some g) ∧ (g.vector < vecCount g.fn) ∧ ((s.func g.fn).busMaster = true) ∧ ((s.func g.fn).msixEnable = true) ∧ ((s.func g.fn).msixMask = false) ∧ ((Store.getD (s.func g.fn).vecs g.vector {}).masked = false) :=
  ⟨({ fn := 3, vector := 5 }), ({ up with triggers := [{ fn := 3, vector := 5 }], funcs := [(3, { present := true, busMaster := true, msixEnable := true, vecs := [(5, { masked := false, addr := 64, data := 9 })] })] }), by decide +kernel⟩

theorem witness_FunctionsAndInterrupts_11 : ∃ (g : Trigger) (s : State),  (s.triggers.find? s.triggerFirst = some g) ∧ (g.vector < vecCount g.fn) ∧ (((s.func g.fn).busMaster = false ∨ (s.func g.fn).msixEnable = false ∨ (s.func g.fn).msixMask = true ∨ (Store.getD (s.func g.fn).vecs g.vector {}).masked = true)) :=
  ⟨({ fn := 3, vector := 5 }), ({ up with triggers := [{ fn := 3, vector := 5 }], funcs := [(3, { present := true, busMaster := true })] }), by decide +kernel⟩

theorem witness_FunctionsAndInterrupts_12 : ∃ (f v : Nat) (s : State),  (v < vecCount f) ∧ ((s.func f).present = true) :=
  ⟨3, 5, ({ up with funcs := [(3, { present := true })] }), by decide +kernel⟩

theorem witness_StallsOpenAndClose_1 : ∃ (f k : Nat) (s : State),  (s.booted = true) ∧ (k < 4096) ∧ ((s.stallFn k ≠ some f ∨ (s.func f).present = false)) :=
  ⟨3, 7, ({ up with funcs := [(0, { present := true, busMaster := true })] }), by decide +kernel⟩

theorem witness_StallsOpenAndClose_2 : ∃ (f k : Nat) (s : State),  (s.booted = true) ∧ (k < 4096) ∧ (s.stallFn k = some f) ∧ ((s.func f).present = true) ∧ (((s.stall k).st ≠ .closed ∨ (s.stall k).opening = true)) :=
  ⟨0, 7, ({ up with funcs := [(0, { present := true, busMaster := true })], stalls := [(7, { st := .awake })] }), by decide +kernel⟩

theorem witness_StallsOpenAndClose_3 : ∃ (f k : Nat) (s : State),  (s.booted = true) ∧ (k < 4096) ∧ (s.stallFn k = some f) ∧ ((s.func f).present = true) ∧ ((s.stall k).st = .closed) ∧ ((s.stall k).opening = false) ∧ ((s.func f).busMaster = false) :=
  ⟨0, 7, ({ up with funcs := [(0, { present := true })] }), by decide +kernel⟩

theorem witness_StallsOpenAndClose_4 : ∃ (f k : Nat) (s : State),  (s.booted = true) ∧ (k < 4096) ∧ (s.stallFn k = some f) ∧ ((s.func f).present = true) ∧ ((s.stall k).st = .closed) ∧ ((s.stall k).opening = false) ∧ ((s.func f).busMaster = true) ∧ ((2 ^ 52 < s.tableBase f + 32 * k + 32 ∨ 2 ^ 52 < s.dbBase f + 8 * k + 8)) :=
  ⟨0, 7, (({ up with funcs := [(0, { present := true, busMaster := true })] }).wr ⟨.STALL_TABLE_BASE_1, 0, 0⟩ 0x100000#32), by decide +kernel⟩

theorem witness_StallsOpenAndClose_5 : ∃ (f k : Nat) (s : State),  (s.booted = true) ∧ (k < 4096) ∧ (s.stallFn k = some f) ∧ ((s.func f).present = true) ∧ ((s.stall k).st = .closed) ∧ ((s.stall k).opening = false) ∧ ((s.func f).busMaster = true) ∧ (s.tableBase f + 32 * k + 32 ≤ 2 ^ 52) ∧ (s.dbBase f + 8 * k + 8 ≤ 2 ^ 52) :=
  ⟨0, 7, ({ up with funcs := [(0, { present := true, busMaster := true })] }), by decide +kernel⟩

theorem witness_StallsOpenAndClose_6 : ∃ (k : Nat) (d : Bytes) (s : State),  ((s.stall k).opening = true) ∧ (descriptorOk (s.stall k).fn d = true) :=
  ⟨7, ((List.replicate 16 0#8 ++ [6#8, 6#8, 0#8, 0#8] ++ List.replicate 12 0#8)), ({ up with funcs := [(0, { present := true, busMaster := true })], stalls := [(7, { opening := true })] }), by decide +kernel⟩

theorem witness_StallsOpenAndClose_7 : ∃ (k x : Nat) (d : Bytes) (s : State),  ((s.stall k).opening = true) ∧ (descriptorOk (s.stall k).fn d = false) :=
  ⟨7, 0, [], ({ up with funcs := [(0, { present := true, busMaster := true })], stalls := [(7, { opening := true })] }), by decide +kernel⟩

theorem witness_StallsOpenAndClose_8 : ∃ (k x : Nat) (d : Bytes) (s : State),  ((s.stall k).opening = true) ∧ (descriptorOk (s.stall k).fn d = true) ∧ (x ≠ 0) :=
  ⟨7, 1, ((List.replicate 16 0#8 ++ [6#8, 6#8, 0#8, 0#8] ++ List.replicate 12 0#8)), ({ up with funcs := [(0, { present := true, busMaster := true })], stalls := [(7, { opening := true })] }), by decide +kernel⟩

theorem witness_StallsOpenAndClose_9 : ∃ (f k : Nat) (s : State),  (s.booted = true) ∧ (k < 4096) ∧ (s.stallFn k = some f) ∧ ((s.func f).present = true) ∧ ((s.stall k).st ≠ .closed) ∧ ((s.stall k).st ≠ .draining) :=
  ⟨0, 7, ({ up with funcs := [(0, { present := true, busMaster := true })], stalls := [(7, { st := .awake })] }), by decide +kernel⟩

theorem witness_StallsOpenAndClose_10 : ∃ (f k : Nat) (s : State),  (s.booted = true) ∧ (k < 4096) ∧ ((s.stallFn k ≠ some f ∨ (s.func f).present = false)) :=
  ⟨3, 7, up, by decide +kernel⟩

theorem witness_StallsOpenAndClose_11 : ∃ (f k : Nat) (s : State),  (s.booted = true) ∧ (k < 4096) ∧ (s.stallFn k = some f) ∧ ((s.func f).present = true) ∧ (((s.stall k).st = .closed ∨ (s.stall k).st = .draining)) :=
  ⟨0, 7, ({ up with funcs := [(0, { present := true, busMaster := true })] }), by decide +kernel⟩

theorem witness_StallsOpenAndClose_12 : ∃ (k : Nat) (s : State),  ((s.stall k).st = .draining) ∧ ((s.works.any fun p => p.2.stall == k) = false) ∧ ((s.func (s.stall k).fn).disabling = false) :=
  ⟨7, ({ up with stalls := [(7, { st := .draining, closeReq := true })] }), by decide +kernel⟩

theorem witness_StallsOpenAndClose_13 : ∃ (f k : Nat) (s : State),  (s.booted = true) ∧ (s.stallFn k = some f) ∧ ((s.stall k).st = .asleep) :=
  ⟨0, 7, ({ up with stalls := [(7, { st := .asleep })] }), by decide +kernel⟩

theorem witness_StallsOpenAndClose_14 : ∃ (f k : Nat) (s : State),  (s.booted = true) ∧ (s.stallFn k = some f) ∧ ((s.stall k).st = .awake) :=
  ⟨0, 7, ({ up with stalls := [(7, { st := .awake })] }), by decide +kernel⟩

theorem witness_StallsOpenAndClose_15 : ∃ (f k : Nat) (s : State),  (s.booted = true) ∧ ((s.stallFn k ≠ some f ∨ ((s.stall k).st ≠ .asleep ∧ (s.stall k).st ≠ .awake))) :=
  ⟨3, 7, up, by decide +kernel⟩

theorem witness_StallsOpenAndClose_16 : ∃ (k : Nat) (s : State),  ((s.stall k).st = .awake) ∧ (s.get F.STALL_POLL_IDLE ≠ 0) ∧ ((s.stall k).finalRead = false) :=
  ⟨7, ({ up.set F.STALL_POLL_IDLE 5 with stalls := [(7, { st := .awake })] }), by decide +kernel⟩

theorem witness_BellWatcherAndFetch_1 : ∃ (f line : Nat) (s : State),  (s.mayIssue f = true) :=
  ⟨0, 1, ({ up with funcs := [(0, { present := true, busMaster := true })], stalls := [(9, { st := .awake })] }), by decide +kernel⟩

theorem witness_BellWatcherAndFetch_2 : ∃ (k word : Nat) (s : State),  ((s.stall k).dbRead = true) ∧ ((s.stall k).st = .awake) ∧ (2 ^ (s.stall k).orderLog2 < (word % 2 ^ 32 + 2 ^ 32 - (s.stall k).cons) % 2 ^ 32) :=
  ⟨7, 9999, ({ up with stalls := [(7, { st := .awake, dbRead := true })] }), by decide +kernel⟩

theorem witness_BellWatcherAndFetch_3 : ∃ (k word : Nat) (s : State),  ((s.stall k).dbRead = true) ∧ ((s.stall k).st = .awake) ∧ ((word % 2 ^ 32 + 2 ^ 32 - (s.stall k).cons) % 2 ^ 32 ≤ 2 ^ (s.stall k).orderLog2) ∧ (2 ^ (s.stall k).rcptLog2 < ((s.stall k).rprod + 2 ^ 32 - word / 2 ^ 32 % 2 ^ 32) % 2 ^ 32) :=
  ⟨7, (9 * 2 ^ 32), ({ up with stalls := [(7, { st := .awake, dbRead := true })] }), by decide +kernel⟩

theorem witness_BellWatcherAndFetch_4 : ∃ (k word : Nat) (s : State),  ((s.stall k).dbRead = true) ∧ ((s.stall k).st = .awake) ∧ ((s.stall k).finalRead = false) ∧ ((word % 2 ^ 32 + 2 ^ 32 - (s.stall k).cons) % 2 ^ 32 ≤ 2 ^ (s.stall k).orderLog2) ∧ (((s.stall k).rprod + 2 ^ 32 - word / 2 ^ 32 % 2 ^ 32) % 2 ^ 32 ≤ 2 ^ (s.stall k).rcptLog2) :=
  ⟨7, 1, ({ up with stalls := [(7, { st := .awake, dbRead := true })] }), by decide +kernel⟩

theorem witness_BellWatcherAndFetch_5 : ∃ (k word : Nat) (s : State),  ((s.stall k).dbRead = true) ∧ ((s.stall k).st = .awake) ∧ ((s.stall k).finalRead = true) ∧ ((word % 2 ^ 32 + 2 ^ 32 - (s.stall k).cons) % 2 ^ 32 ≤ 2 ^ (s.stall k).orderLog2) ∧ (((s.stall k).rprod + 2 ^ 32 - word / 2 ^ 32 % 2 ^ 32) % 2 ^ 32 ≤ 2 ^ (s.stall k).rcptLog2) ∧ (word % 2 ^ 32 ≠ (s.stall k).prod) :=
  ⟨7, 1, ({ up with stalls := [(7, { st := .awake, dbRead := true, finalRead := true })] }), by decide +kernel⟩

theorem witness_BellWatcherAndFetch_6 : ∃ (k word : Nat) (s : State),  ((s.stall k).dbRead = true) ∧ ((s.stall k).st = .awake) ∧ ((s.stall k).finalRead = true) ∧ ((s.stall k).again = false) ∧ ((word % 2 ^ 32 + 2 ^ 32 - (s.stall k).cons) % 2 ^ 32 ≤ 2 ^ (s.stall k).orderLog2) ∧ (((s.stall k).rprod + 2 ^ 32 - word / 2 ^ 32 % 2 ^ 32) % 2 ^ 32 ≤ 2 ^ (s.stall k).rcptLog2) ∧ (word % 2 ^ 32 = (s.stall k).prod) :=
  ⟨7, 0, ({ up with stalls := [(7, { st := .awake, dbRead := true, finalRead := true })] }), by decide +kernel⟩

theorem witness_BellWatcherAndFetch_7 : ∃ (k word : Nat) (s : State),  ((s.stall k).dbRead = true) ∧ ((s.stall k).st = .awake) ∧ ((s.stall k).finalRead = true) ∧ ((s.stall k).again = true) ∧ ((word % 2 ^ 32 + 2 ^ 32 - (s.stall k).cons) % 2 ^ 32 ≤ 2 ^ (s.stall k).orderLog2) ∧ (((s.stall k).rprod + 2 ^ 32 - word / 2 ^ 32 % 2 ^ 32) % 2 ^ 32 ≤ 2 ^ (s.stall k).rcptLog2) ∧ (word % 2 ^ 32 = (s.stall k).prod) :=
  ⟨7, 0, ({ up with stalls := [(7, { st := .awake, dbRead := true, finalRead := true, again := true })] }), by decide +kernel⟩

theorem witness_BellWatcherAndFetch_8 : ∃ (k word : Nat) (s : State),  ((s.stall k).dbRead = true) ∧ ((s.stall k).st ≠ .awake) :=
  ⟨7, 1, ({ up with stalls := [(7, { dbRead := true })] }), by decide +kernel⟩

theorem witness_BellWatcherAndFetch_9 : ∃ (k : Nat) (s : State),  (s.devAllowance ≠ 0) ∧ (s.turnStall = some k) :=
  ⟨7, ({ up with stalls := [(7, { st := .awake, prod := 1, orderLog2 := 6, rcptLog2 := 6 })], funcs := [(0, { present := true, busMaster := true })] }), by decide +kernel⟩

theorem witness_OrderChecksAndReceipts_1 : ∃ (k : Nat) (w : Work) (b : Bytes) (s : State),  (s.work? k = some w) ∧ (w.stage = .fetched) ∧ (let v := { w with ord := b }; (s.malformed v ≠ 0)) :=
  ⟨1, ({ orderWork 0 .fetched with ord := [] }), ((0x77#8 :: List.replicate 63 0#8)), ({ orderAt 0 .fetched with works := [(1, { orderWork 0 .fetched with ord := [] })] }), by decide +kernel⟩

theorem witness_OrderChecksAndReceipts_2 : ∃ (k : Nat) (w : Work) (b : Bytes) (s : State),  (s.work? k = some w) ∧ (w.stage = .fetched) ∧ (let v := { w with ord := b }; (s.malformed v = 0) ∧ (needsBlock v.opcode = true)) :=
  ⟨1, ({ orderWork 0 .fetched with ord := [] }), ((1#8 :: List.replicate 31 0#8 ++ [0#8] ++ List.replicate 31 0#8).set 8 64#8), ({ orderAt 0 .fetched with works := [(1, { orderWork 0 .fetched with ord := [] })] }), by decide +kernel⟩

theorem witness_OrderChecksAndReceipts_3 : ∃ (k : Nat) (w : Work) (b : Bytes) (s : State),  (s.work? k = some w) ∧ (w.stage = .fetched) ∧ (let v := { w with ord := b }; (s.malformed v = 0) ∧ (needsBlock v.opcode = false) ∧ (s.denied v ≠ 0)) :=
  ⟨1, ({ { orderWork 0 .fetched with ord := [] } with fn := 3 }), ((0x12#8 :: List.replicate 63 0#8)), ({ up with works := [(1, { { orderWork 0 .fetched with ord := [] } with fn := 3 })] }), by decide +kernel⟩

theorem witness_OrderChecksAndReceipts_4 : ∃ (k : Nat) (w : Work) (b : Bytes) (s : State),  (s.work? k = some w) ∧ (w.stage = .fetched) ∧ (let v := { w with ord := b }; (s.malformed v = 0) ∧ (needsBlock v.opcode = false) ∧ (s.denied v = 0)) :=
  ⟨1, ({ orderWork 0 .fetched with ord := [] }), ((List.replicate 64 0#8)), ({ orderAt 0 .fetched with works := [(1, { orderWork 0 .fetched with ord := [] })] }), by decide +kernel⟩

theorem witness_OrderChecksAndReceipts_5 : ∃ (k : Nat) (w : Work) (d m p : Bytes) (s : State),  (s.work? k = some w) ∧ (w.stage = .blockRead) ∧ (let v := { w with blk := d, meas := m, parts := p }; (v.blockOk s.devId = false)) :=
  ⟨1, ((orderWork Op.burst .blockRead)), [], [], [], ((orderAt Op.burst .blockRead)), by decide +kernel⟩

theorem witness_OrderChecksAndReceipts_6 : ∃ (k : Nat) (w : Work) (d m p : Bytes) (s : State),  (s.work? k = some w) ∧ (w.stage = .blockRead) ∧ (let v := { w with blk := d, meas := m, parts := p }; (v.blockOk s.devId = true) ∧ (v.opcode = Op.burst) ∧ (v.segs.contains (v.body 32 2) = false)) :=
  ⟨1, goodBurst, badBlk, [], [], goodBurstS, by decide +kernel⟩

theorem witness_OrderChecksAndReceipts_7 : ∃ (k : Nat) (w : Work) (d m p : Bytes) (s : State),  (s.work? k = some w) ∧ (w.stage = .blockRead) ∧ (let v := { w with blk := d, meas := m, parts := p }; (v.blockOk s.devId = true) ∧ ((v.opcode = Op.burst → v.segs.contains (v.body 32 2) = true))) :=
  ⟨1, goodBurst, goodBlk, [], [], goodBurstS, by decide +kernel⟩

theorem witness_OrderChecksAndReceipts_8 : ∃ (k : Nat) (w : Work) (d m p : Bytes) (s : State),  (s.work? k = some w) ∧ (w.stage = .dataRead) ∧ (w.opcode = Op.timingLoad) :=
  ⟨1, ((orderWork Op.timingLoad .dataRead)), [1#8], [], [], ((orderAt Op.timingLoad .dataRead)), by decide +kernel⟩

theorem witness_OrderChecksAndReceipts_9 : ∃ (k : Nat) (w : Work) (d m p : Bytes) (s : State),  (s.work? k = some w) ∧ (w.stage = .dataRead) ∧ (w.opcode = Op.frameLaunch) :=
  ⟨1, ((orderWork Op.frameLaunch .dataRead)), [1#8], [], [], ((orderAt Op.frameLaunch .dataRead)), by decide +kernel⟩

theorem witness_OrderChecksAndReceipts_10 : ∃ (k : Nat) (w : Work) (d m p : Bytes) (s : State),  (s.work? k = some w) ∧ (w.stage = .dataRead) ∧ (w.opcode = Op.graph) :=
  ⟨1, ((orderWork Op.graph .dataRead)), [1#8], [], [], ((orderAt Op.graph .dataRead)), by decide +kernel⟩

theorem witness_OrderChecksAndReceipts_11 : ∃ (k : Nat) (w : Work) (d m p : Bytes) (s : State),  (s.work? k = some w) ∧ (w.stage = .dataRead) ∧ (w.opcode ∉ [Op.timingLoad, Op.frameLaunch, Op.graph]) :=
  ⟨1, ((orderWork Op.adcSequence .dataRead)), [1#8], [], [], ((orderAt Op.adcSequence .dataRead)), by decide +kernel⟩

theorem witness_OrderChecksAndReceipts_12 : ∃ (k : Nat) (w : Work) (s : State),  (s.work? k = some w) ∧ (w.stage = .fenced) ∧ (s.fenceBlocks k w = false) :=
  ⟨1, ((orderWork 0 .fenced)), ((orderAt 0 .fenced)), by decide +kernel⟩

theorem witness_OrderChecksAndReceipts_13 : ∃ (w : Work) (r : RaisedReceipt) (s : State),  (s.receipts.find? s.receiptFirst = some r) ∧ (s.work? r.work = some w) ∧ (s.mayIssue w.fn = true) ∧ (w.slots ≠ 0) :=
  ⟨((orderWork 1 .admitted)), ({ work := 1, status := 1, final := false }), ({ orderAt 1 .admitted with receipts := [{ work := 1, status := 1, final := false }], funcs := [(0, { present := true, busMaster := true })] }), by decide +kernel⟩

theorem witness_OrderChecksAndReceipts_14 : ∃ (w : Work) (r : RaisedReceipt) (s : State),  (s.receipts.find? s.receiptFirst = some r) ∧ (s.work? r.work = some w) ∧ ((s.mayIssue w.fn = false ∨ w.slots = 0)) :=
  ⟨((orderWork 1 .ended)), ({ work := 1, status := 0, final := true }), ({ orderAt 1 .ended with receipts := [{ work := 1, status := 0, final := true }] }), by decide +kernel⟩

theorem witness_OrderChecksAndReceipts_16 : ∃ (k : Nat) (w : Work) (e : ReadFailure) (s : State),  (s.work? k = some w) ∧ (w.stage = .blockRead) ∧ (w.admittedRcpt = false) :=
  ⟨1, ({ orderWork 1 .blockRead with admittedRcpt := false }), .timeout, ({ up with works := [(1, { orderWork 1 .blockRead with admittedRcpt := false })] }), by decide +kernel⟩

theorem witness_OrderChecksAndReceipts_17 : ∃ (k : Nat) (e : ReadFailure) (s : State),  ((s.stall k).opening = true) :=
  ⟨7, .poisoned, ({ up with stalls := [(7, { opening := true })] }), by decide +kernel⟩

theorem witness_OrdersThatPassTheToll_1 : ∃ (k : Nat) (w : Work) (s : State),  (s.work? k = some w) ∧ (w.opcode = Op.burst) ∧ (w.stage = .routed) :=
  ⟨1, ((orderWork Op.burst .routed)), ((orderAt Op.burst .routed)), by decide +kernel⟩

theorem witness_OrdersThatPassTheToll_2 : ∃ (k : Nat) (w : Work) (s : State),  (s.work? k = some w) ∧ (w.opcode = Op.segmentWrite) ∧ (w.stage = .routed) :=
  ⟨1, ((orderWork Op.segmentWrite .routed)), ((orderAt Op.segmentWrite .routed)), by decide +kernel⟩

theorem witness_OrdersThatPassTheToll_3 : ∃ (k : Nat) (w : Work) (d : Bytes) (s : State),  (s.work? k = some w) ∧ (w.opcode = Op.segmentStream) ∧ (w.stage = .routed) :=
  ⟨1, ((orderWork Op.segmentStream .routed)), [], ((orderAt Op.segmentStream .routed)), by decide +kernel⟩

theorem witness_OrdersThatPassTheToll_4 : ∃ (k : Nat) (w : Work) (s : State),  (s.work? k = some w) ∧ (w.opcode = Op.captureRead) ∧ (w.stage = .routed) :=
  ⟨1, ((orderWork Op.captureRead .routed)), ((orderAt Op.captureRead .routed)), by decide +kernel⟩

theorem witness_OrdersThatPassTheToll_5 : ∃ (k : Nat) (w : Work) (s : State),  (s.work? k = some w) ∧ (w.opcode = Op.tallyArm) ∧ (w.stage = .routed) :=
  ⟨1, ((orderWork Op.tallyArm .routed)), ((orderAt Op.tallyArm .routed)), by decide +kernel⟩

theorem witness_OrdersThatPassTheToll_6 : ∃ (k : Nat) (w : Work) (d : Bytes) (s : State),  (Mem.wf s.mem = true) ∧ (s.work? k = some w) ∧ (w.opcode = Op.segmentStream) ∧ (w.stage = .window) ∧ (d.length = w.fillRange.2) :=
  ⟨1, ({ orderWork Op.segmentStream .window with ord := 3#8 :: (List.replicate 47 0#8 ++ [2#8] ++ List.replicate 15 0#8) }), ([5#8, 6#8]), ({ up with works := [(1, { orderWork Op.segmentStream .window with ord := 3#8 :: (List.replicate 47 0#8 ++ [2#8] ++ List.replicate 15 0#8) })] }), by decide +kernel⟩

theorem witness_OrdersThatPassTheToll_7 : ∃ (k : Nat) (w : Work) (s : State),  (s.work? k = some w) ∧ (w.opcode = Op.segmentWrite) ∧ (w.stage = .window) ∧ (s.poisoned (w.body 32 8) w.fillRange.2 = false) :=
  ⟨1, ((orderWork Op.segmentWrite .window)), ((orderAt Op.segmentWrite .window)), by decide +kernel⟩

theorem witness_OrdersThatPassTheToll_8 : ∃ (k : Nat) (w : Work) (s : State),  (s.work? k = some w) ∧ (w.opcode = Op.segmentWrite) ∧ (w.stage = .window) ∧ (s.poisoned (w.body 32 8) w.fillRange.2 = true) :=
  ⟨1, ({ orderWork Op.segmentWrite .window with ord := 2#8 :: (List.replicate 47 0#8 ++ [64#8] ++ List.replicate 15 0#8) }), ({ up with works := [(1, { orderWork Op.segmentWrite .window with ord := 2#8 :: (List.replicate 47 0#8 ++ [64#8] ++ List.replicate 15 0#8) })], poison := [0] }), by decide +kernel⟩

theorem witness_OrdersThatPassTheToll_9 : ∃ (k : Nat) (w : Work) (s : State),  (s.work? k = some w) ∧ (w.opcode = Op.captureRead) ∧ (w.stage = .window) ∧ (s.poisoned (w.body 32 8) (w.body 48 8) = false) :=
  ⟨1, ((orderWork Op.captureRead .window)), ((orderAt Op.captureRead .window)), by decide +kernel⟩

theorem witness_OrdersThatPassTheToll_10 : ∃ (k : Nat) (w : Work) (s : State),  (s.work? k = some w) ∧ (w.opcode = Op.captureRead) ∧ (w.stage = .window) ∧ (s.poisoned (w.body 32 8) (w.body 48 8) = true) :=
  ⟨1, ({ orderWork Op.captureRead .window with ord := BitVec.ofNat 8 Op.captureRead :: (List.replicate 47 0#8 ++ [64#8] ++ List.replicate 15 0#8) }), ({ up with works := [(1, { orderWork Op.captureRead .window with ord := BitVec.ofNat 8 Op.captureRead :: (List.replicate 47 0#8 ++ [64#8] ++ List.replicate 15 0#8) })], poison := [0] }), by decide +kernel⟩

theorem witness_OrdersThatPassTheToll_11 : ∃ (k : Nat) (w : Work) (s : State),  (s.work? k = some w) ∧ ((w.opcode = Op.segmentWrite ∨ w.opcode = Op.segmentStream)) ∧ (w.stage = .running) :=
  ⟨1, ((orderWork Op.segmentWrite .running)), ((orderAt Op.segmentWrite .running)), by decide +kernel⟩

theorem witness_OrdersThatPassTheToll_12 : ∃ (k : Nat) (w : Work) (s : State),  (s.work? k = some w) ∧ ((w.opcode = Op.captureRead ∨ w.opcode = Op.pmuMeasure)) ∧ (w.stage = .running) ∧ (w.cause = 0) ∧ (w.left = []) :=
  ⟨1, ((orderWork Op.captureRead .running)), ((orderAt Op.captureRead .running)), by decide +kernel⟩

theorem witness_OrdersThatPassTheToll_13 : ∃ (k : Nat) (w : Work) (s : State),  (s.work? k = some w) ∧ (w.opcode = Op.calSave) ∧ (w.stage = .running) ∧ (w.cause = 0) ∧ (w.left = []) :=
  ⟨1, ((orderWork Op.calSave .running)), ((orderAt Op.calSave .running)), by decide +kernel⟩

theorem witness_OrdersThatBypassTheToll_1 : ∃ (k : Nat) (w : Work) (s : State),  (s.work? k = some w) ∧ (w.opcode = Op.nop) ∧ (w.stage = .routed) :=
  ⟨1, ((orderWork 0 .routed)), ((orderAt 0 .routed)), by decide +kernel⟩

theorem witness_OrdersThatBypassTheToll_2 : ∃ (k : Nat) (w : Work) (s : State),  (s.work? k = some w) ∧ (w.opcode = Op.timingLoad) ∧ (w.stage = .routed) ∧ (s.tsPendingOn w.chanRange = true) :=
  ⟨1, ({ orderWork 4 .routed with ord := 4#8 :: (List.replicate 39 0#8 ++ [5#8, 0#8, 1#8] ++ List.replicate 21 0#8) }), ({ tsDue with works := [(1, { orderWork 4 .routed with ord := 4#8 :: (List.replicate 39 0#8 ++ [5#8, 0#8, 1#8] ++ List.replicate 21 0#8) })] }), by decide +kernel⟩

theorem witness_OrdersThatBypassTheToll_3 : ∃ (k : Nat) (w : Work) (s : State),  (s.work? k = some w) ∧ (w.opcode = Op.timingLoad) ∧ (w.stage = .routed) ∧ (s.tsPendingOn w.chanRange = false) :=
  ⟨1, ((orderWork 4 .routed)), ((orderAt 4 .routed)), by decide +kernel⟩

theorem witness_OrdersThatBypassTheToll_4 : ∃ (k : Nat) (w : Work) (s : State),  (s.work? k = some w) ∧ (w.opcode = Op.fence) ∧ ((w.stage = .routed ∨ w.stage = .fenced)) ∧ ((∀ p ∈ s.works, p.1 < k → p.2.stall ≠ w.stall ∧ p.2.stall ∉ (List.range (w.body 32 1)).map fun j => w.body (34 + 2 * j) 2)) :=
  ⟨1, ((orderWork 0xE .routed)), ((orderAt 0xE .routed)), by decide +kernel⟩

theorem witness_OrdersThatBypassTheToll_5 : ∃ (k : Nat) (w : Work) (s : State),  (s.work? k = some w) ∧ (w.opcode = Op.fence) ∧ ((∃ p ∈ s.works, p.1 < k ∧ p.2.stall = w.stall)) :=
  ⟨2, ((orderWork 0xE .routed)), ({ up with works := [(1, orderWork 0 .routed), (2, orderWork 0xE .routed)] }), by decide +kernel⟩

theorem witness_OrdersThatBypassTheToll_6 : ∃ (k : Nat) (w : Work) (s : State),  (s.work? k = some w) ∧ (w.opcode = Op.frameLaunch) ∧ (w.stage = .routed) :=
  ⟨1, ((orderWork 0xF .routed)), ((orderAt 0xF .routed)), by decide +kernel⟩

theorem witness_OrdersThatBypassTheToll_7 : ∃ (k : Nat) (w : Work) (s : State),  (s.work? k = some w) ∧ (w.opcode = Op.disable) ∧ (w.stage = .routed) ∧ ((s.func (w.body 32 1)).disabling = false) :=
  ⟨1, ((orderWork 0x12 .routed)), ((orderAt 0x12 .routed)), by decide +kernel⟩

theorem witness_OrdersThatBypassTheToll_8 : ∃ (k : Nat) (w : Work) (s : State),  (s.work? k = some w) ∧ (w.opcode = Op.disable) ∧ (w.stage = .routed) ∧ ((s.func (w.body 32 1)).disabling = true) :=
  ⟨1, ((orderWork 0x12 .routed)), ({ orderAt 0x12 .routed with funcs := [(0, { present := true, disabling := true })] }), by decide +kernel⟩

theorem witness_TollAndAwning_1 : ∃ s : State,  ((∀ p ∈ s.works, p.2.stage ≠ .offered)) :=
  ⟨up, by decide +kernel⟩

theorem witness_TollAndAwning_2 : ∃ (k c : Nat) (w : Work) (s : State),  (firstBy (·.key) (s.works.filter fun p => p.2.stage == .offered) = some (k, w)) ∧ ((w.opcode = Op.burst → w.isJoint = false)) ∧ (let u := s.set F.TOLL_STATUS_PACE (s.get F.PWR_PACE_READING); ((match u.tollVerdict k w with | .refuse x => some x | _ => none) = some c)) :=
  ⟨1, ((match (up.set F.TOLL_STATUS_PACE (up.get F.PWR_PACE_READING)).tollVerdict 1 { orderWork Op.burst .offered with key := [1] } with | .refuse x => x | _ => 0)), ({ orderWork Op.burst .offered with key := [1] }), ({ up with works := [(1, { orderWork Op.burst .offered with key := [1] })] }), by decide +kernel⟩

theorem witness_TollAndAwning_3 : ∃ (k : Nat) (w : Work) (s : State),  (firstBy (·.key) (s.works.filter fun p => p.2.stage == .offered) = some (k, w)) ∧ ((w.opcode = Op.burst → w.isJoint = false)) ∧ (let u := s.set F.TOLL_STATUS_PACE (s.get F.PWR_PACE_READING); ((match u.tollVerdict k w with | .wait => true | _ => false) = true)) :=
  ⟨1, tollW, ((tollS.setBit F.TOLL_STATUS_HOLD)), by decide +kernel⟩

theorem witness_TollAndAwning_4 : ∃ (k x : Nat) (w : Work) (r : Resv) (post : Store Nat Postpone) (s : State),  (firstBy (·.key) (s.works.filter fun p => p.2.stage == .offered) = some (k, w)) ∧ ((w.opcode = Op.burst → w.isJoint = false)) ∧ (let u := s.set F.TOLL_STATUS_PACE (s.get F.PWR_PACE_READING); ((match u.tollVerdict k w with | .pass a b c => some (a, b, c) | _ => none) = some (r, x, post))) :=
  ⟨1, passX, tollW, passR, passP, tollS, by decide +kernel⟩

theorem witness_TollAndAwning_5 : ∃ (k : Nat) (w : Work) (s : State),  (firstBy (·.key) (s.works.filter fun p => p.2.stage == .offered) = some (k, w)) ∧ (w.opcode = Op.burst) ∧ (w.isJoint = true) ∧ (let u := s.set F.TOLL_STATUS_PACE (s.get F.PWR_PACE_READING); (u.joint w.jointId = none) ∧ (u.coordinates w = false)) :=
  ⟨1, jtW, jtS, by decide +kernel⟩

theorem witness_TollAndAwning_6 : ∃ (k c : Nat) (w : Work) (s : State),  (firstBy (·.key) (s.works.filter fun p => p.2.stage == .offered) = some (k, w)) ∧ (w.opcode = Op.burst) ∧ (w.isJoint = true) ∧ (let u := s.set F.TOLL_STATUS_PACE (s.get F.PWR_PACE_READING); (u.jointAwaits k w = none) ∧ (let v := u.setJoint w.jointId { (u.joint w.jointId).getD {} with phase := .deciding, work := some k, timer := none }; ((match v.tollVerdict k w with | .refuse x => some x | _ => none) = some c))) :=
  ⟨1, ((match (jtU ({ jtC with works := [(1, { jtW with ord := 1#8 :: List.replicate 63 0#8 })] })).tollVerdict 1 ({ jtW with ord := 1#8 :: List.replicate 63 0#8 }) with | .refuse x => x | _ => 0)), ({ jtW with ord := 1#8 :: List.replicate 63 0#8 }), ({ jtC with works := [(1, { jtW with ord := 1#8 :: List.replicate 63 0#8 })] }), by decide +kernel⟩

theorem witness_TollAndAwning_7 : ∃ (k : Nat) (w : Work) (s : State),  (firstBy (·.key) (s.works.filter fun p => p.2.stage == .offered) = some (k, w)) ∧ (w.opcode = Op.burst) ∧ (w.isJoint = true) ∧ (let u := s.set F.TOLL_STATUS_PACE (s.get F.PWR_PACE_READING); (u.jointAwaits k w = none) ∧ (let v := u.setJoint w.jointId { (u.joint w.jointId).getD {} with phase := .deciding, work := some k, timer := none }; ((match v.tollVerdict k w with | .wait => true | _ => false) = true))) :=
  ⟨1, jtW, ((jtC.setBit F.TOLL_STATUS_HOLD)), by decide +kernel⟩

theorem witness_TollAndAwning_8 : ∃ (k x : Nat) (w : Work) (r : Resv) (post : Store Nat Postpone) (s : State),  (firstBy (·.key) (s.works.filter fun p => p.2.stage == .offered) = some (k, w)) ∧ (w.opcode = Op.burst) ∧ (w.isJoint = true) ∧ (let u := s.set F.TOLL_STATUS_PACE (s.get F.PWR_PACE_READING); (u.jointAwaits k w = none) ∧ (let v := u.setJoint w.jointId { (u.joint w.jointId).getD {} with phase := .deciding, work := some k, timer := none }; ((match v.tollVerdict k w with | .pass a b c => some (a, b, c) | _ => none) = some (r, x, post)))) :=
  ⟨1, jtX, jtW, jtR, jtP, jtC, by decide +kernel⟩

theorem witness_TollAndAwning_9 : ∃ s : State,  (s.waiting = []) :=
  ⟨up, by decide +kernel⟩

theorem witness_TollAndAwning_10 : ∃ (k : Nat) (w : Work) (s : State),  (firstBy (fun w => [w.release, w.entered]) s.waiting = some (k, w)) :=
  ⟨1, ({ orderWork Op.burst .waiting with release := 5000000 }), ({ up with works := [(1, { orderWork Op.burst .waiting with release := 5000000 })] }), by decide +kernel⟩

theorem witness_TollAndAwning_11 : ∃ (k : Nat) (w : Work) (s : State),  (s.work? k = some w) ∧ (w.stage = .admitted) ∧ (((Store.keys s.warnSince).any fun r => { w with stage := .window }.inDipScope r) = false) :=
  ⟨1, ((orderWork Op.burst .admitted)), ((orderAt Op.burst .admitted)), by decide +kernel⟩

theorem witness_TollAndAwning_12 : ∃ (k : Nat) (w : Work) (s : State),  (s.work? k = some w) ∧ (w.stage = .admitted) ∧ (((Store.keys s.warnSince).any fun r => { w with stage := .window }.inDipScope r) = true) :=
  ⟨1, ((orderWork Op.captureRead .admitted)), ({ orderAt Op.captureRead .admitted with warnSince := [(0, 5), (1, 5), (2, 5), (3, 5), (4, 5), (5, 5), (6, 5), (7, 5), (8, 5), (9, 5), (10, 5), (11, 5), (12, 5), (13, 5), (14, 5), (15, 5), (16, 5), (17, 5), (18, 5)] }), by decide +kernel⟩

theorem witness_TollAndAwning_15 : ∃ (x : Nat) (r : RegName) (v : Word) (s : State),  (s.booted = true) ∧ ([RegName.AWN_SUPPLY, .AWN_COOLANT, .AWN_GUARD][x]? = some r) ∧ ((s.wr ⟨r, 0, 0⟩ (v &&& BitVec.ofNat 32 r.spec.rw)).demandOk = true) :=
  ⟨1, .AWN_COOLANT, 300#32, (((up.set F.AWN_SUPPLY_MEAN_W 500).set F.AWN_SUPPLY_PEAK_W 800)), by decide +kernel⟩

theorem witness_TollAndAwning_16 : ∃ (x : Nat) (r : RegName) (v : Word) (s : State),  (s.booted = true) ∧ ([RegName.AWN_SUPPLY, .AWN_COOLANT, .AWN_GUARD][x]? = some r) ∧ ((s.wr ⟨r, 0, 0⟩ (v &&& BitVec.ofNat 32 r.spec.rw)).demandOk = false) :=
  ⟨0, .AWN_SUPPLY, 0#32, ((up.set F.AWN_BASE_BASE 500)), by decide +kernel⟩

theorem witness_WorkItems_1 : ∃ (k : Nat) (w : Work) (s : State),  (s.work? k = some w) ∧ (w.opcode = Op.work) ∧ (w.stage = .routed) ∧ (((s.itemsIn .queued).filter fun p => p.2.cls == w.cls).length < 4096) :=
  ⟨1, ((orderWork Op.work .routed)), ((orderAt Op.work .routed)), by decide +kernel⟩

theorem witness_WorkItems_2 : ∃ (k : Nat) (w : Work) (s : State),  (s.work? k = some w) ∧ (w.opcode = Op.work) ∧ (w.stage = .routed) ∧ (4096 ≤ ((s.itemsIn .queued).filter fun p => p.2.cls == w.cls).length) :=
  ⟨5000, ((orderWork Op.work .routed)), ({ up with works := (List.range 4096).map (fun i => (i, orderWork Op.work .queued)) ++ [(5000, orderWork Op.work .routed)] }), by decide +kernel⟩

theorem witness_WorkItems_3 : ∃ (c k : Nat) (w : Work) (s : State),  (s.nextItem = some (k, w)) ∧ ((s.freeCores w.cls).contains c = true) ∧ (s.runCharge + s.get F.TOLL_SCHED_CHARGE_P_CORE ≤ s.get F.AWN_HEADROOM_HEADROOM) ∧ (((s.item k).last = none ∨ (s.item k).last = some c)) :=
  ⟨3, 1, ({ orderWork Op.work .queued with ord := BitVec.ofNat 8 Op.work :: List.replicate 47 0#8 ++ [2#8] ++ List.replicate 15 0#8 }), ({ (up.set F.TOLL_SCHED_POOL_CORES 0xFF).set F.AWN_HEADROOM_HEADROOM 900 with works := [(1, { orderWork Op.work .queued with ord := BitVec.ofNat 8 Op.work :: List.replicate 47 0#8 ++ [2#8] ++ List.replicate 15 0#8 })] }), by decide +kernel⟩

theorem witness_WorkItems_4 : ∃ (c d k : Nat) (w : Work) (s : State),  (s.nextItem = some (k, w)) ∧ ((s.freeCores w.cls).contains c = true) ∧ (s.runCharge + s.get F.TOLL_SCHED_CHARGE_P_CORE ≤ s.get F.AWN_HEADROOM_HEADROOM) ∧ ((s.item k).last = some d) ∧ (d ≠ c) :=
  ⟨3, 5, 1, ({ orderWork Op.work .preempted with ord := BitVec.ofNat 8 Op.work :: List.replicate 47 0#8 ++ [2#8] ++ List.replicate 15 0#8 }), ({ (up.set F.TOLL_SCHED_POOL_CORES 0xFF).set F.AWN_HEADROOM_HEADROOM 900 with works := [(1, { orderWork Op.work .preempted with ord := BitVec.ofNat 8 Op.work :: List.replicate 47 0#8 ++ [2#8] ++ List.replicate 15 0#8 })], items := [(1, { last := some 5 })] }), by decide +kernel⟩

theorem witness_WorkItems_5 : ∃ (c k : Nat) (w : Work) (s : State),  (s.nextItem = some (k, w)) ∧ (((s.freeCores w.cls).contains c = false ∨ s.get F.AWN_HEADROOM_HEADROOM < s.runCharge + s.get F.TOLL_SCHED_CHARGE_P_CORE)) :=
  ⟨9, 1, ({ orderWork Op.work .queued with ord := BitVec.ofNat 8 Op.work :: List.replicate 47 0#8 ++ [2#8] ++ List.replicate 15 0#8 }), ({ (up.set F.TOLL_SCHED_POOL_CORES 0xFF).set F.AWN_HEADROOM_HEADROOM 900 with works := [(1, { orderWork Op.work .queued with ord := BitVec.ofNat 8 Op.work :: List.replicate 47 0#8 ++ [2#8] ++ List.replicate 15 0#8 })] }), by decide +kernel⟩

theorem witness_WorkItems_6 : ∃ (k v : Nat) (w x : Work) (s : State),  (((List.range 4).findSome? fun cls => match s.firstOf cls with | some p => if s.hasVictim p.1 = true then none else some p | none => none) = some (k, w)) ∧ ((s.freeCores w.cls) = []) ∧ (s.contexts < 4096) ∧ (s.runCharge ≤ s.get F.AWN_HEADROOM_HEADROOM) ∧ (s.victim w.cls = some (v, x)) :=
  ⟨2, 1, ({ orderWork Op.work .queued with ord := BitVec.ofNat 8 Op.work :: List.replicate 47 0#8 ++ [0#8] ++ List.replicate 15 0#8 }), ({ orderWork Op.work .running with ord := BitVec.ofNat 8 Op.work :: List.replicate 47 0#8 ++ [2#8] ++ List.replicate 15 0#8 }), ({ (up.set F.TOLL_SCHED_POOL_CORES 0x1).set F.AWN_HEADROOM_HEADROOM 900 with works := [(1, { orderWork Op.work .running with ord := BitVec.ofNat 8 Op.work :: List.replicate 47 0#8 ++ [2#8] ++ List.replicate 15 0#8 }), (2, { orderWork Op.work .queued with ord := BitVec.ofNat 8 Op.work :: List.replicate 47 0#8 ++ [0#8] ++ List.replicate 15 0#8 })], items := [(1, { core := some 0 })] }), by decide +kernel⟩

theorem witness_WorkItems_7 : ∃ (k : Nat) (w : Work) (s : State),  (((List.range 4).findSome? fun cls => match s.firstOf cls with | some p => if s.hasVictim p.1 = true then none else some p | none => none) = some (k, w)) ∧ ((s.freeCores w.cls ≠ [] ∨ 4096 ≤ s.contexts ∨ s.get F.AWN_HEADROOM_HEADROOM < s.runCharge ∨ s.victim w.cls = none)) :=
  ⟨2, ({ orderWork Op.work .queued with ord := BitVec.ofNat 8 Op.work :: List.replicate 47 0#8 ++ [0#8] ++ List.replicate 15 0#8 }), ({ (up.set F.TOLL_SCHED_POOL_CORES 0x1).set F.AWN_HEADROOM_HEADROOM 900 with works := [(1, { orderWork Op.work .running with ord := BitVec.ofNat 8 Op.work :: List.replicate 47 0#8 ++ [0#8] ++ List.replicate 15 0#8 }), (2, { orderWork Op.work .queued with ord := BitVec.ofNat 8 Op.work :: List.replicate 47 0#8 ++ [0#8] ++ List.replicate 15 0#8 })], items := [(1, { core := some 0 })] }), by decide +kernel⟩

theorem witness_WorkItems_8 : ∃ (c k : Nat) (w : Work) (s : State),  (s.itemOn c = some (k, w)) ∧ (w.stage = .saving) ∧ (w.cause = 0) :=
  ⟨3, 1, ({ orderWork Op.work .saving with ord := BitVec.ofNat 8 Op.work :: List.replicate 47 0#8 ++ [2#8] ++ List.replicate 15 0#8 }), ({ up with works := [(1, { orderWork Op.work .saving with ord := BitVec.ofNat 8 Op.work :: List.replicate 47 0#8 ++ [2#8] ++ List.replicate 15 0#8 })], items := [(1, { core := some 3 })] }), by decide +kernel⟩

theorem witness_WorkItems_9 : ∃ (c k : Nat) (w : Work) (s : State),  (s.itemOn c = some (k, w)) ∧ (w.stage = .saving) ∧ (w.cause ≠ 0) :=
  ⟨3, 1, ({ orderWork Op.work .saving with ord := BitVec.ofNat 8 Op.work :: List.replicate 47 0#8 ++ [2#8] ++ List.replicate 15 0#8, cause := 0x220 }), ({ up with works := [(1, { orderWork Op.work .saving with ord := BitVec.ofNat 8 Op.work :: List.replicate 47 0#8 ++ [2#8] ++ List.replicate 15 0#8, cause := 0x220 })], items := [(1, { core := some 3 })] }), by decide +kernel⟩

theorem witness_WorkItems_10 : ∃ s : State,  (s.runCharge ≤ s.get F.AWN_HEADROOM_HEADROOM) :=
  ⟨((up.set F.AWN_HEADROOM_HEADROOM 900)), by decide +kernel⟩

theorem witness_WorkItems_11 : ∃ s : State,  ((∀ p ∈ s.itemsIn .running, p.2.cls = 0)) :=
  ⟨({ up with works := [(1, { orderWork Op.work .running with ord := BitVec.ofNat 8 Op.work :: List.replicate 47 0#8 ++ [0#8] ++ List.replicate 15 0#8 })] }), by decide +kernel⟩

theorem witness_WorkItems_12 : ∃ (k : Nat) (w : Work) (s : State),  (s.itemsIn .running = [(k, w)]) ∧ (1 ≤ w.cls) ∧ (s.get F.AWN_HEADROOM_HEADROOM < s.runCharge) ∧ (s.contexts < 4096) ∧ (Store.wf s.works) :=
  ⟨1, ({ orderWork Op.work .running with ord := BitVec.ofNat 8 Op.work :: List.replicate 47 0#8 ++ [3#8] ++ List.replicate 15 0#8 }), ({ (up.set F.TOLL_SCHED_CHARGE_P_CORE 9).set F.TOLL_SCHED_CHARGE_P_GU 0 with works := [(1, { orderWork Op.work .running with ord := BitVec.ofNat 8 Op.work :: List.replicate 47 0#8 ++ [3#8] ++ List.replicate 15 0#8 })], items := [(1, { core := some 3 })] }), by decide +kernel⟩

theorem witness_WorkItems_13 : ∃ (x c k : Nat) (w : Work) (s : State),  (s.itemOn c = some (k, w)) ∧ (w.cause = 0) :=
  ⟨77, 3, 1, ({ orderWork Op.work .running with ord := BitVec.ofNat 8 Op.work :: List.replicate 47 0#8 ++ [2#8] ++ List.replicate 15 0#8 }), ({ up with works := [(1, { orderWork Op.work .running with ord := BitVec.ofNat 8 Op.work :: List.replicate 47 0#8 ++ [2#8] ++ List.replicate 15 0#8 })], items := [(1, { core := some 3 })] }), by decide +kernel⟩

theorem witness_WorkItems_14 : ∃ (x c k : Nat) (w : Work) (s : State),  (s.itemOn c = some (k, w)) ∧ (w.cause = 0) :=
  ⟨77, 3, 1, ({ orderWork Op.work .running with ord := BitVec.ofNat 8 Op.work :: List.replicate 47 0#8 ++ [2#8] ++ List.replicate 15 0#8 }), ({ up with works := [(1, { orderWork Op.work .running with ord := BitVec.ofNat 8 Op.work :: List.replicate 47 0#8 ++ [2#8] ++ List.replicate 15 0#8 })], items := [(1, { core := some 3 })] }), by decide +kernel⟩

theorem witness_WorkItems_15 : ∃ (u c k : Nat) (w : Work) (s : State),  (s.itemOn c = some (k, w)) ∧ (w.cause = 0) ∧ (w.stage = .running) ∧ ((u = 0 ∨ 4294967295 < u)) :=
  ⟨0, 3, 1, ({ orderWork Op.work .running with ord := BitVec.ofNat 8 Op.work :: List.replicate 47 0#8 ++ [2#8] ++ List.replicate 15 0#8 }), ({ up with works := [(1, { orderWork Op.work .running with ord := BitVec.ofNat 8 Op.work :: List.replicate 47 0#8 ++ [2#8] ++ List.replicate 15 0#8 })], items := [(1, { core := some 3 })] }), by decide +kernel⟩

theorem witness_WorkItems_16 : ∃ (u c k : Nat) (w : Work) (s : State),  (s.itemOn c = some (k, w)) ∧ (w.cause = 0) ∧ (w.stage = .running) ∧ (1 ≤ u) ∧ (u ≤ 4294967295) ∧ (4096 ≤ (s.itemsIn .delayed).length) :=
  ⟨7, 3, 5000, ({ orderWork Op.work .running with ord := BitVec.ofNat 8 Op.work :: List.replicate 47 0#8 ++ [2#8] ++ List.replicate 15 0#8 }), ({ up with works := (List.range 4096).map (fun i => (i, orderWork Op.work .delayed)) ++ [(5000, { orderWork Op.work .running with ord := BitVec.ofNat 8 Op.work :: List.replicate 47 0#8 ++ [2#8] ++ List.replicate 15 0#8 })], items := [(5000, { core := some 3 })] }), by decide +kernel⟩

theorem witness_WorkItems_17 : ∃ (u c k : Nat) (w : Work) (s : State),  (s.itemOn c = some (k, w)) ∧ (w.cause = 0) ∧ (w.stage = .running) ∧ (1 ≤ u) ∧ (u ≤ 4294967295) ∧ ((s.itemsIn .delayed).length < 4096) :=
  ⟨50, 3, 1, ({ orderWork Op.work .running with ord := BitVec.ofNat 8 Op.work :: List.replicate 47 0#8 ++ [2#8] ++ List.replicate 15 0#8 }), ({ up with works := [(1, { orderWork Op.work .running with ord := BitVec.ofNat 8 Op.work :: List.replicate 47 0#8 ++ [2#8] ++ List.replicate 15 0#8 })], items := [(1, { core := some 3 })] }), by decide +kernel⟩

theorem witness_WorkItems_18 : ∃ (c k : Nat) (w : Work) (s : State),  (s.itemOn c = some (k, w)) ∧ (w.cause = 0) :=
  ⟨3, 1, ({ orderWork Op.work .running with ord := BitVec.ofNat 8 Op.work :: List.replicate 47 0#8 ++ [2#8] ++ List.replicate 15 0#8 }), ({ up with works := [(1, { orderWork Op.work .running with ord := BitVec.ofNat 8 Op.work :: List.replicate 47 0#8 ++ [2#8] ++ List.replicate 15 0#8 })], items := [(1, { core := some 3 })] }), by decide +kernel⟩

theorem witness_WorkItems_19 : ∃ (a d n c k : Nat) (w : Work) (s : State),  (s.itemOn c = some (k, w)) ∧ (w.cause = 0) ∧ ((n < 64 ∨ 2 ^ 24 < n ∨ n % 64 ≠ 0 ∨ 2 ^ 52 < d + n)) :=
  ⟨0, 0, 65, 3, 1, ({ orderWork Op.work .running with ord := BitVec.ofNat 8 Op.work :: List.replicate 47 0#8 ++ [2#8] ++ List.replicate 15 0#8 }), ({ up with works := [(1, { orderWork Op.work .running with ord := BitVec.ofNat 8 Op.work :: List.replicate 47 0#8 ++ [2#8] ++ List.replicate 15 0#8 })], items := [(1, { core := some 3 })] }), by decide +kernel⟩

theorem witness_WorkItems_20 : ∃ (a d n c k : Nat) (w : Work) (s : State),  (s.itemOn c = some (k, w)) ∧ (w.cause = 0) ∧ (64 ≤ n) ∧ (n ≤ 2 ^ 24) ∧ (n % 64 = 0) ∧ (d + n ≤ 2 ^ 52) ∧ (s.poisoned a n = false) :=
  ⟨0, 4096, 128, 3, 1, ({ orderWork Op.work .running with ord := BitVec.ofNat 8 Op.work :: List.replicate 47 0#8 ++ [2#8] ++ List.replicate 15 0#8 }), ({ up with works := [(1, { orderWork Op.work .running with ord := BitVec.ofNat 8 Op.work :: List.replicate 47 0#8 ++ [2#8] ++ List.replicate 15 0#8 })], items := [(1, { core := some 3 })] }), by decide +kernel⟩

theorem witness_WorkItems_21 : ∃ (a d n c k : Nat) (w : Work) (s : State),  (s.itemOn c = some (k, w)) ∧ (w.cause = 0) ∧ (64 ≤ n) ∧ (n ≤ 2 ^ 24) ∧ (n % 64 = 0) ∧ (d + n ≤ 2 ^ 52) ∧ (s.poisoned a n = true) :=
  ⟨0, 4096, 128, 3, 1, ({ orderWork Op.work .running with ord := BitVec.ofNat 8 Op.work :: List.replicate 47 0#8 ++ [2#8] ++ List.replicate 15 0#8 }), ({ up with works := [(1, { orderWork Op.work .running with ord := BitVec.ofNat 8 Op.work :: List.replicate 47 0#8 ++ [2#8] ++ List.replicate 15 0#8 })], items := [(1, { core := some 3 })], poison := [1] }), by decide +kernel⟩

theorem witness_WorkItems_22 : ∃ (a c k : Nat) (w : Work) (s : State),  (s.itemOn c = some (k, w)) ∧ (w.cause = 0) ∧ ((s.stall w.stall).msg.isSome = true) :=
  ⟨0, 3, 1, ({ orderWork Op.work .running with ord := BitVec.ofNat 8 Op.work :: List.replicate 47 0#8 ++ [2#8] ++ List.replicate 15 0#8 }), ({ up with works := [(1, { orderWork Op.work .running with ord := BitVec.ofNat 8 Op.work :: List.replicate 47 0#8 ++ [2#8] ++ List.replicate 15 0#8 })], items := [(1, { core := some 3 })], stalls := [(0, { msg := some [] })] }), by decide +kernel⟩

theorem witness_WorkItems_23 : ∃ (a c k : Nat) (w : Work) (s : State),  (s.itemOn c = some (k, w)) ∧ (w.cause = 0) ∧ ((s.stall w.stall).msg = none) ∧ (s.poisoned a 64 = true) :=
  ⟨0, 3, 1, ({ orderWork Op.work .running with ord := BitVec.ofNat 8 Op.work :: List.replicate 47 0#8 ++ [2#8] ++ List.replicate 15 0#8 }), ({ up with works := [(1, { orderWork Op.work .running with ord := BitVec.ofNat 8 Op.work :: List.replicate 47 0#8 ++ [2#8] ++ List.replicate 15 0#8 })], items := [(1, { core := some 3 })], poison := [0] }), by decide +kernel⟩

theorem witness_WorkItems_24 : ∃ (a c k : Nat) (w : Work) (s : State),  (s.itemOn c = some (k, w)) ∧ (w.cause = 0) ∧ ((s.stall w.stall).msg = none) ∧ (s.poisoned a 64 = false) :=
  ⟨0, 3, 1, ({ orderWork Op.work .running with ord := BitVec.ofNat 8 Op.work :: List.replicate 47 0#8 ++ [2#8] ++ List.replicate 15 0#8 }), ({ up with works := [(1, { orderWork Op.work .running with ord := BitVec.ofNat 8 Op.work :: List.replicate 47 0#8 ++ [2#8] ++ List.replicate 15 0#8 })], items := [(1, { core := some 3 })] }), by decide +kernel⟩

theorem witness_WorkItems_25 : ∃ s : State,  (s.delayOrder = []) :=
  ⟨up, by decide +kernel⟩

theorem witness_WorkItems_26 : ∃ (k : Nat) (l : List Nat) (s : State),  (s.delayOrder = k :: l) :=
  ⟨1, [2], ({ up with works := [(1, { orderWork Op.work .delayed with ord := BitVec.ofNat 8 Op.work :: List.replicate 47 0#8 ++ [2#8] ++ List.replicate 15 0#8 }), (2, { orderWork Op.work .delayed with ord := BitVec.ofNat 8 Op.work :: List.replicate 47 0#8 ++ [2#8] ++ List.replicate 15 0#8 })], items := [(1, { release := 5000000 }), (2, { release := 5000001 })] }), by decide +kernel⟩

theorem witness_WorkItems_27 : ∃ (k : Nat) (w : Work) (s : State),  (s.work? k = some w) ∧ (w.opcode = Op.work) ∧ (w.stage = .closing) :=
  ⟨1, ({ orderWork Op.work .closing with ord := BitVec.ofNat 8 Op.work :: List.replicate 47 0#8 ++ [2#8] ++ List.replicate 15 0#8 }), ({ up with works := [(1, { orderWork Op.work .closing with ord := BitVec.ofNat 8 Op.work :: List.replicate 47 0#8 ++ [2#8] ++ List.replicate 15 0#8 })], items := [(1, { unacked := true })] }), by decide +kernel⟩

theorem witness_WorkItems_28 : ∃ (k : Nat) (w : Work) (s : State),  (s.work? k = some w) ∧ (w.opcode = Op.work) ∧ (w.stage = .stopped) :=
  ⟨1, ({ orderWork Op.work .stopped with ord := BitVec.ofNat 8 Op.work :: List.replicate 47 0#8 ++ [2#8] ++ List.replicate 15 0#8, cause := 0x220 }), ({ up with works := [(1, { orderWork Op.work .stopped with ord := BitVec.ofNat 8 Op.work :: List.replicate 47 0#8 ++ [2#8] ++ List.replicate 15 0#8, cause := 0x220 })], items := [(1, { unacked := true })] }), by decide +kernel⟩

theorem witness_WorkItems_29 : ∃ (k : Nat) (w : Work) (s : State),  (s.work? k = some w) ∧ (w.opcode = Op.work) ∧ (w.stage ≠ .closing) ∧ (w.stage ≠ .stopped) :=
  ⟨1, ({ orderWork Op.work .preempted with ord := BitVec.ofNat 8 Op.work :: List.replicate 47 0#8 ++ [2#8] ++ List.replicate 15 0#8 }), ({ up with works := [(1, { orderWork Op.work .preempted with ord := BitVec.ofNat 8 Op.work :: List.replicate 47 0#8 ++ [2#8] ++ List.replicate 15 0#8 })], items := [(1, { unacked := true })] }), by decide +kernel⟩

theorem witness_WorkItems_30 : ∃ (k : Nat) (w : Work) (s : State),  (s.work? k = some w) ∧ (w.opcode = Op.graph) :=
  ⟨1, ((orderWork Op.graph .preempted)), ((orderAt Op.graph .preempted)), by decide +kernel⟩

theorem witness_WorkItems_31 : ∃ (c : Nat) (s : State),  (c < 32) ∧ (c % 8 = 0) :=
  ⟨8, up, by decide +kernel⟩

theorem witness_WorkItems_32 : ∃ (v : Word) (s : State),  (s.booted = true) ∧ (v &&& 0x01010101#32 ≠ 0#32) :=
  ⟨0xFF#32, up, by decide +kernel⟩

theorem witness_WorkItems_33 : ∃ (v : Word) (s : State),  (s.booted = true) ∧ (v &&& 0x01010101#32 = 0#32) :=
  ⟨0xFE#32, up, by decide +kernel⟩

theorem witness_GraphsAndNodes_1 : ∃ (k : Nat) (w : Work) (s : State),  (s.work? k = some w) ∧ (w.opcode = Op.graph) ∧ (w.stage = .routed) ∧ (w.meas = []) ∧ (s.depends k w ≠ []) :=
  ⟨2, ({ orderWork Op.graph .routed with ord := BitVec.ofNat 8 Op.graph :: List.replicate 40 0#8 ++ [1#8] ++ List.replicate 22 0#8 }), ({ up with works := [(1, orderWork 0 .routed), (2, { orderWork Op.graph .routed with ord := BitVec.ofNat 8 Op.graph :: List.replicate 40 0#8 ++ [1#8] ++ List.replicate 22 0#8 })] }), by decide +kernel⟩

theorem witness_GraphsAndNodes_2 : ∃ (k : Nat) (w : Work) (s : State),  (s.work? k = some w) ∧ (w.opcode = Op.graph) ∧ (w.stage = .routed) ∧ (w.meas = []) ∧ (s.depends k w = []) ∧ (s.graphsInQueue < 1024) ∧ (w.offline = false) ∧ (s.poisoned (w.body 32 8) (64 + 32 * Mem.le s.mem (w.body 32 8 + 6) 1) = false) ∧ (s.descriptorOk (Mem.bytes s.mem (w.body 32 8) (64 + 32 * Mem.le s.mem (w.body 32 8 + 6) 1)) = true) :=
  ⟨1, ((orderWork Op.graph .routed)), ({ orderAt Op.graph .routed with mem := Mem.setBytes [] 0 (graphD 1) }), by decide +kernel⟩

theorem witness_GraphsAndNodes_3 : ∃ (k : Nat) (w : Work) (s : State),  (s.work? k = some w) ∧ (w.opcode = Op.graph) ∧ (w.stage = .routed) ∧ (w.meas = []) ∧ (s.depends k w = []) ∧ (s.graphsInQueue < 1024) ∧ (w.offline = false) ∧ (s.poisoned (w.body 32 8) (64 + 32 * Mem.le s.mem (w.body 32 8 + 6) 1) = false) ∧ (s.descriptorOk (Mem.bytes s.mem (w.body 32 8) (64 + 32 * Mem.le s.mem (w.body 32 8 + 6) 1)) = false) :=
  ⟨1, ((orderWork Op.graph .routed)), ((orderAt Op.graph .routed)), by decide +kernel⟩

theorem witness_GraphsAndNodes_4 : ∃ (k : Nat) (w : Work) (s : State),  (s.work? k = some w) ∧ (w.opcode = Op.graph) ∧ (w.stage = .routed) ∧ (w.meas = []) ∧ (s.depends k w = []) ∧ (s.graphsInQueue < 1024) ∧ (w.offline = false) ∧ (s.poisoned (w.body 32 8) (64 + 32 * Mem.le s.mem (w.body 32 8 + 6) 1) = true) :=
  ⟨1, ((orderWork Op.graph .routed)), ({ orderAt Op.graph .routed with poison := [0] }), by decide +kernel⟩

theorem witness_GraphsAndNodes_5 : ∃ (k : Nat) (w : Work) (s : State),  (s.work? k = some w) ∧ (w.opcode = Op.graph) ∧ (w.stage = .routed) ∧ (w.meas = []) ∧ (s.depends k w = []) ∧ (s.graphsInQueue < 1024) ∧ (w.offline = true) :=
  ⟨1, ({ orderWork Op.graph .routed with ord := BitVec.ofNat 8 Op.graph :: List.replicate 39 0#8 ++ [1#8] }), ({ up with works := [(1, { orderWork Op.graph .routed with ord := BitVec.ofNat 8 Op.graph :: List.replicate 39 0#8 ++ [1#8] })] }), by decide +kernel⟩

theorem witness_GraphsAndNodes_6 : ∃ (k : Nat) (w : Work) (s : State),  (s.work? k = some w) ∧ (w.opcode = Op.graph) ∧ (w.stage = .routed) ∧ (w.meas = []) ∧ (s.depends k w = []) ∧ (1024 ≤ s.graphsInQueue) :=
  ⟨5000, ((orderWork Op.graph .routed)), ({ up with works := (List.range 1024).map (fun i => (i, orderWork Op.graph .queued)) ++ [(5000, orderWork Op.graph .routed)] }), by decide +kernel⟩

theorem witness_GraphsAndNodes_7 : ∃ (k : Nat) (w : Work) (s : State),  (s.work? k = some w) ∧ (w.opcode = Op.graph) ∧ (w.stage = .routed) ∧ (w.meas ≠ []) ∧ (w.offline = true) ∧ (s.offlineOk k w = true) :=
  ⟨1, ({ orderWork Op.graph .routed with ord := BitVec.ofNat 8 Op.graph :: List.replicate 39 0#8 ++ [1#8], meas := [0#8] }), ({ up with works := [(1, { orderWork Op.graph .routed with ord := BitVec.ofNat 8 Op.graph :: List.replicate 39 0#8 ++ [1#8], meas := [0#8] })], mem := Mem.setBytes [] 0 (leBytes 0x54414C31 4 ++ [1#8, 0#8, 0#8, 1#8]) }), by decide +kernel⟩

theorem witness_GraphsAndNodes_8 : ∃ (k : Nat) (w : Work) (s : State),  (s.work? k = some w) ∧ (w.opcode = Op.graph) ∧ (w.stage = .routed) ∧ (w.meas ≠ []) ∧ (w.offline = true) ∧ (s.offlineOk k w = false) :=
  ⟨1, ({ orderWork Op.graph .routed with ord := BitVec.ofNat 8 Op.graph :: List.replicate 39 0#8 ++ [1#8], meas := [0#8] }), ({ up with works := [(1, { orderWork Op.graph .routed with ord := BitVec.ofNat 8 Op.graph :: List.replicate 39 0#8 ++ [1#8], meas := [0#8] })] }), by decide +kernel⟩

theorem witness_GraphsAndNodes_9 : ∃ (k : Nat) (w : Work) (s : State),  (s.work? k = some w) ∧ (w.opcode = Op.graph) ∧ (w.stage = .depWait) ∧ ((∀ d ∈ w.waits, s.work? d = none)) :=
  ⟨1, ({ orderWork Op.graph .depWait with ord := BitVec.ofNat 8 Op.graph :: List.replicate 39 0#8 ++ [1#8], waits := [7] }), ({ up with works := [(1, { orderWork Op.graph .depWait with ord := BitVec.ofNat 8 Op.graph :: List.replicate 39 0#8 ++ [1#8], waits := [7] })] }), by decide +kernel⟩

theorem witness_GraphsAndNodes_10 : ∃ (k : Nat) (w : Work) (s : State),  (s.work? k = some w) ∧ (w.opcode = Op.graph) ∧ (w.stage = .depWait) ∧ ((∃ d ∈ w.waits, (s.work? d).isSome = true)) :=
  ⟨1, ({ orderWork Op.graph .depWait with ord := BitVec.ofNat 8 Op.graph :: List.replicate 39 0#8 ++ [1#8], waits := [1] }), ({ up with works := [(1, { orderWork Op.graph .depWait with ord := BitVec.ofNat 8 Op.graph :: List.replicate 39 0#8 ++ [1#8], waits := [1] })] }), by decide +kernel⟩

theorem witness_GraphsAndNodes_11 : ∃ (k u : Nat) (w : Work) (s : State),  (leastBy (fun k => (s.graph k).place) (s.queuedGraphs.filter fun p => !(s.graph p.1).unacked) = some (k, w)) ∧ (s.freeUnit = some u) ∧ (s.runCharge + s.get F.TOLL_SCHED_CHARGE_P_GU ≤ s.get F.AWN_HEADROOM_HEADROOM) :=
  ⟨1, 0, ((orderWork Op.graph .queued)), ({ up.set F.AWN_HEADROOM_HEADROOM 900 with works := [(1, orderWork Op.graph .queued)] }), by decide +kernel⟩

theorem witness_GraphsAndNodes_12 : ∃ (s : State),  ((s.freeUnit = none ∨ s.get F.AWN_HEADROOM_HEADROOM < s.runCharge + s.get F.TOLL_SCHED_CHARGE_P_GU)) :=
  ⟨((up.set F.TALLY_MEAS_UNITS_HELD 0xFFFF)), by decide +kernel⟩

theorem witness_GraphsAndNodes_13 : ∃ (u k : Nat) (w : Work) (s : State),  (s.graphOn u = some (k, w)) ∧ (w.stage = .running) ∧ (bitOf (s.get F.TALLY_MEAS_UNITS_HELD) u = true) :=
  ⟨0, 1, ((orderWork Op.graph .running)), ({ up.set F.TALLY_MEAS_UNITS_HELD 1 with works := [(1, orderWork Op.graph .running)], graphs := [(1, { unit := some 0 })] }), by decide +kernel⟩

theorem witness_GraphsAndNodes_14 : ∃ (k : Nat) (w : Work) (n : Node) (s : State),  (dueNode s k 1 = some (w, n)) ∧ (s.poisoned (s.nodeInput k w.data n).1 (s.nodeInput k w.data n).2 = false) :=
  ⟨1, ((graphW 1)), ((nodeOf (graphW 1).data 0)), ((graphS 1)), by decide +kernel⟩

theorem witness_GraphsAndNodes_15 : ∃ (k : Nat) (w : Work) (n : Node) (s : State),  (dueNode s k 2 = some (w, n)) ∧ (s.poisoned (s.nodeInput k w.data n).1 (s.nodeInput k w.data n).2 = false) :=
  ⟨1, ((graphW 2)), ((nodeOf (graphW 2).data 0)), ((graphS 2)), by decide +kernel⟩

theorem witness_GraphsAndNodes_16 : ∃ (k : Nat) (w : Work) (n : Node) (s : State),  (dueNode s k 3 = some (w, n)) ∧ (s.poisoned (s.nodeInput k w.data n).1 (s.nodeInput k w.data n).2 = false) :=
  ⟨1, ((graphW 3)), ((nodeOf (graphW 3).data 0)), ((graphS 3)), by decide +kernel⟩

theorem witness_GraphsAndNodes_17 : ∃ (k : Nat) (w : Work) (n : Node) (rs : List (Nat × Nat)) (s : State),  (dueNode s k 4 = some (w, n)) ∧ (8 ≤ n.param) ∧ (s.poisoned (s.nodeInput k w.data n).1 (s.nodeInput k w.data n).2 = false) ∧ (runsOf ((List.range (if n.inp.isSome = true then 8 * (s.nodeInput k w.data n).2 else n.count)).map fun j => bitOf (Bytes.le (Mem.bytes s.mem (s.nodeInput k w.data n).1 (s.nodeInput k w.data n).2) (j / 8) 1) (j % 8)) = rs) :=
  ⟨1, ((graphW 4)), ((nodeOf (graphW 4).data 0)), ([(0, 1)]), ((graphS 4)), by decide +kernel⟩

theorem witness_GraphsAndNodes_18 : ∃ (k : Nat) (w : Work) (n : Node) (s : State),  (dueNode s k 4 = some (w, n)) ∧ (n.param < 8) ∧ (s.poisoned (s.nodeInput k w.data n).1 (s.nodeInput k w.data n).2 = false) :=
  ⟨1, runs0W, ((nodeOf runs0W.data 0)), runs0S, by decide +kernel⟩

theorem witness_GraphsAndNodes_19 : ∃ (k : Nat) (w : Work) (n : Node) (s : State),  (dueNode s k 5 = some (w, n)) ∧ (s.poisoned (s.nodeInput k w.data n).1 (s.nodeInput k w.data n).2 = false) :=
  ⟨1, ((graphW 5)), ((nodeOf (graphW 5).data 0)), ((graphS 5)), by decide +kernel⟩

theorem witness_GraphsAndNodes_20 : ∃ (k : Nat) (w : Work) (n : Node) (x : Int) (l : List Int) (s : State),  (dueNode s k 6 = some (w, n)) ∧ (s.poisoned (s.nodeInput k w.data n).1 (s.nodeInput k w.data n).2 = false) ∧ ((words64 (Mem.bytes s.mem (s.nodeInput k w.data n).1 (s.nodeInput k w.data n).2)).map (fun v => signed v 64) = x :: l) :=
  ⟨1, ((graphW 6)), ((nodeOf (graphW 6).data 0)), 0x07000201, ([0, 0, 0]), ((graphS 6)), by decide +kernel⟩

theorem witness_GraphsAndNodes_21 : ∃ (k : Nat) (w : Work) (n : Node) (s : State),  (dueNode s k 6 = some (w, n)) ∧ (s.poisoned (s.nodeInput k w.data n).1 (s.nodeInput k w.data n).2 = false) ∧ (words64 (Mem.bytes s.mem (s.nodeInput k w.data n).1 (s.nodeInput k w.data n).2) = []) :=
  ⟨1, stats0W, ((nodeOf stats0W.data 0)), stats0S, by decide +kernel⟩

theorem witness_GraphsAndNodes_22 : ∃ (k : Nat) (w : Work) (n : Node) (s : State),  (dueNode s k 7 = some (w, n)) ∧ (s.poisoned (s.nodeInput k w.data n).1 (s.nodeInput k w.data n).2 = false) :=
  ⟨1, ((graphW 7)), ((nodeOf (graphW 7).data 0)), ((graphS 7)), by decide +kernel⟩

theorem witness_GraphsAndNodes_23 : ∃ (k op : Nat) (i : Instr) (w : Work) (n : Node) (s : State),  ((i, op) ∈ [(.graphSum k, 1), (.graphOr k, 2), (.graphPopcount k, 3), (.graphRuns k, 4), (.graphSelect k, 5), (.graphStats k, 6), (.graphCopy k, 7)]) ∧ (dueNode s k op = some (w, n)) ∧ (s.poisoned (s.nodeInput k w.data n).1 (s.nodeInput k w.data n).2 = true) :=
  ⟨1, 4, ((.graphRuns 1)), ((graphW 4)), ((nodeOf (graphW 4).data 0)), ({ graphS 4 with poison := [64] }), by decide +kernel⟩

theorem witness_GraphsAndNodes_24 : ∃ (k : Nat) (w : Work) (s : State),  (s.work? k = some w) ∧ (w.opcode = Op.graph) ∧ (w.stage = .running) ∧ (w.offline = false) ∧ ((s.graph k).outs.length = nodeCount w.data) :=
  ⟨1, ((orderWork Op.graph .running)), ({ orderAt Op.graph .running with graphs := [(1, { unit := some 2 })] }), by decide +kernel⟩

theorem witness_GraphsAndNodes_25 : ∃ (k : Nat) (w : Work) (s : State),  (s.work? k = some w) ∧ (w.opcode = Op.graph) ∧ (w.stage = .running) ∧ (w.offline = false) ∧ ((s.graph k).outs.length ≠ nodeCount w.data) :=
  ⟨1, ((graphW 1)), ((graphS 1)), by decide +kernel⟩

theorem witness_GraphsAndNodes_26 : ∃ (k : Nat) (w : Work) (s : State),  (s.work? k = some w) ∧ (w.opcode = Op.graph) ∧ (w.stage = .running) ∧ (w.offline = true) ∧ (s.poisoned (w.body 44 8) (s.regionLen (w.body 44 8)) = false) :=
  ⟨1, ({ orderWork Op.graph .running with ord := BitVec.ofNat 8 Op.graph :: List.replicate 39 0#8 ++ [1#8] }), ({ up with works := [(1, { orderWork Op.graph .running with ord := BitVec.ofNat 8 Op.graph :: List.replicate 39 0#8 ++ [1#8] })], graphs := [(1, { unit := some 2 })] }), by decide +kernel⟩

theorem witness_GraphsAndNodes_27 : ∃ (k : Nat) (w : Work) (s : State),  (s.work? k = some w) ∧ (w.opcode = Op.graph) ∧ (w.stage = .running) ∧ (w.offline = true) ∧ (s.poisoned (w.body 44 8) (s.regionLen (w.body 44 8)) = true) :=
  ⟨1, ({ orderWork Op.graph .running with ord := BitVec.ofNat 8 Op.graph :: List.replicate 39 0#8 ++ [1#8] }), ({ up with works := [(1, { orderWork Op.graph .running with ord := BitVec.ofNat 8 Op.graph :: List.replicate 39 0#8 ++ [1#8] })], poison := [0] }), by decide +kernel⟩

theorem witness_GraphsAndNodes_28 : ∃ (k : Nat) (w : Work) (s : State),  (s.work? k = some w) ∧ (w.opcode = Op.graph) ∧ (w.stage = .stopped) :=
  ⟨1, ((orderWork Op.graph .stopped)), ((orderAt Op.graph .stopped)), by decide +kernel⟩

theorem witness_Mailboxes_1 : ∃ (a : Agent) (n w : Nat) (v : Word) (s : State),  (s.mbxOpen a = true) ∧ (n < 16) ∧ (w < 16) ∧ ((s.sharedLive n && bindingIs (s.txId n) a) = true) :=
  ⟨((.internal 0x20000005)), 3, 4, 9#32, (((up.set F.MBX_SHn_TX_ID_ID 0x20000005 3).set F.MBX_SHn_RX_ID_ID 0x20000006 3)), by decide +kernel⟩

theorem witness_Mailboxes_2 : ∃ (a : Agent) (n w : Nat) (v : Word) (s : State),  (s.mbxOpen a = true) ∧ (n < 16) ∧ (w < 16) ∧ ((s.sharedLive n && bindingIs (s.txId n) a) = false) :=
  ⟨((.host 3 9)), 3, 4, 9#32, (((up.set F.MBX_SHn_TX_ID_ID 0x20000005 3).set F.MBX_SHn_RX_ID_ID 0x20000006 3)), by decide +kernel⟩

theorem witness_Mailboxes_3 : ∃ (a : Agent) (n : Nat) (s : State),  (s.mbxOpen a = true) ∧ (n < 16) ∧ ((s.sharedLive n && bindingIs (s.txId n) a) = false) :=
  ⟨((.host 3 9)), 3, (((up.set F.MBX_SHn_TX_ID_ID 0x20000005 3).set F.MBX_SHn_RX_ID_ID 0x20000006 3)), by decide +kernel⟩

theorem witness_Mailboxes_4 : ∃ (f r n : Nat) (s : State),  (s.booted = true) ∧ (n < 16) ∧ ((s.sharedLive n && bindingIs (s.txId n) (.host f r)) = true) ∧ (s.bit F.MBX_SHn_STATUS_FULL n = true) :=
  ⟨3, 0, 3, ((((up.set F.MBX_SHn_TX_ID_ID 0x18030000 3).set F.MBX_SHn_RX_ID_ID 0x20000006 3).setBit F.MBX_SHn_STATUS_FULL 3)), by decide +kernel⟩

theorem witness_Mailboxes_5 : ∃ (d n : Nat) (s : State),  (n < 16) ∧ ((s.sharedLive n && bindingIs (s.txId n) (.internal d)) = true) ∧ (s.bit F.MBX_SHn_STATUS_FULL n = true) :=
  ⟨0x20000005, 3, ((((up.set F.MBX_SHn_TX_ID_ID 0x20000005 3).set F.MBX_SHn_RX_ID_ID 0x20000006 3).setBit F.MBX_SHn_STATUS_FULL 3)), by decide +kernel⟩

theorem witness_Mailboxes_6 : ∃ (a : Agent) (n : Nat) (s : State),  (s.mbxOpen a = true) ∧ (n < 16) ∧ ((s.sharedLive n && bindingIs (s.txId n) a) = true) ∧ (s.bit F.MBX_SHn_STATUS_FULL n = false) :=
  ⟨((.internal 0x20000005)), 3, (((up.set F.MBX_SHn_TX_ID_ID 0x20000005 3).set F.MBX_SHn_RX_ID_ID 0x20000006 3)), by decide +kernel⟩

theorem witness_Mailboxes_7 : ∃ (a : Agent) (n w : Nat) (s : State),  (s.mbxOpen a = true) ∧ (n < 16) ∧ (w < 16) ∧ ((s.sharedLive n && bindingIs (s.rxId n) a) = false) :=
  ⟨((.host 3 9)), 3, 15, ((((up.set F.MBX_SHn_TX_ID_ID 0x20000005 3).set F.MBX_SHn_RX_ID_ID 0x20000006 3).setBit F.MBX_SHn_STATUS_FULL 3)), by decide +kernel⟩

theorem witness_Mailboxes_8 : ∃ (a : Agent) (n w : Nat) (s : State),  (s.mbxOpen a = true) ∧ (n < 16) ∧ (w < 16) ∧ ((s.sharedLive n && bindingIs (s.rxId n) a) = true) ∧ ((w ≠ 15 ∨ s.bit F.MBX_SHn_STATUS_FULL n = false)) :=
  ⟨((.internal 0x20000006)), 3, 14, ((((up.set F.MBX_SHn_TX_ID_ID 0x20000005 3).set F.MBX_SHn_RX_ID_ID 0x20000006 3).setBit F.MBX_SHn_STATUS_FULL 3)), by decide +kernel⟩

theorem witness_Mailboxes_9 : ∃ (a : Agent) (n : Nat) (s : State),  (s.mbxOpen a = true) ∧ (n < 16) ∧ ((s.sharedLive n && bindingIs (s.rxId n) a) = true) ∧ (s.bit F.MBX_SHn_STATUS_FULL n = true) :=
  ⟨((.internal 0x20000006)), 3, ((((up.set F.MBX_SHn_TX_ID_ID 0x20000005 3).set F.MBX_SHn_RX_ID_ID 0x20000006 3).setBit F.MBX_SHn_STATUS_FULL 3)), by decide +kernel⟩

theorem witness_Mailboxes_10 : ∃ (fn p k : Nat) (m : Bytes) (s : State),  (s.booted = true) ∧ (p < 16) ∧ ((s.stall k).msg = some m) ∧ (s.stallFn k = some fn) :=
  ⟨0, 2, 7, [1#8], ({ up with stalls := [(7, { msg := some [1#8] })] }), by decide +kernel⟩

theorem witness_Mailboxes_11 : ∃ (fn p k : Nat) (s : State),  (s.booted = true) ∧ (p < 16) ∧ (((s.stall k).msg = none ∨ s.stallFn k ≠ some fn)) :=
  ⟨3, 2, 7, ({ up with stalls := [(7, { msg := some [1#8] })] }), by decide +kernel⟩

theorem witness_Mailboxes_12 : ∃ (fn p w : Nat) (s : State),  (s.booted = true) ∧ (p < 16) ∧ (w < 15) ∧ ((Store.getD s.ports (fn, p) {}).valid = true) :=
  ⟨0, 2, 3, ({ up with ports := [((0,2), { valid := true, data := [1#8] })] }), by decide +kernel⟩

theorem witness_Mailboxes_13 : ∃ (fn p w : Nat) (s : State),  (s.booted = true) ∧ (p < 16) ∧ (w = 15) ∧ ((Store.getD s.ports (fn, p) {}).valid = true) :=
  ⟨0, 2, 15, ({ up with ports := [((0,2), { valid := true, data := [1#8] })] }), by decide +kernel⟩

theorem witness_Mailboxes_14 : ∃ (fn p w : Nat) (s : State),  (s.booted = true) ∧ (p < 16) ∧ (w < 16) ∧ ((Store.getD s.ports (fn, p) {}).valid = false) :=
  ⟨0, 2, 3, up, by decide +kernel⟩

theorem witness_EventRouter_1 : ∃ s : State,  (s.events = []) :=
  ⟨up, by decide +kernel⟩

theorem witness_EventRouter_2 : ∃ (e : RaisedEvent) (s : State),  (firstEvent s.events = some e) :=
  ⟨({ source := 0x476, at_ := 5 }), ({ (up.set F.EVR_ROUTEn_0_EN 1 9).set F.EVR_ROUTEn_0_SOURCE 0x476 9 with events := [{ source := 0x476, at_ := 5 }] }), by decide +kernel⟩

theorem witness_EventRouter_3 : ∃ s : State,  (s.arrivals = []) :=
  ⟨up, by decide +kernel⟩

theorem witness_EventRouter_4 : ∃ (a : Arrival) (s : State),  (firstArrival s.arrivals = some a) ∧ (0x100 ≤ a.dest) ∧ (a.dest < 0x108) ∧ (s.crierTakesSource (a.dest - 0x100) a.source = false) :=
  ⟨({ dest := 0x102, source := 1, at_ := 100, route := 0 }), ({ up with arrivals := [{ dest := 0x102, source := 1, at_ := 100, route := 0 }], works := [(1, { burstW with blk := List.replicate 6 0#8 ++ [3#8, 16#8] ++ List.replicate 264 0#8 ++ [2#8, 0#8, 4#8] ++ List.replicate 237 0#8 })] }), by decide +kernel⟩

theorem witness_EventRouter_5 : ∃ (a : Arrival) (x : Tu) (s : State),  (firstArrival s.arrivals = some a) ∧ ((0x100 ≤ a.dest → a.dest < 0x108 → s.crierTakesSource (a.dest - 0x100) a.source = true)) ∧ (Store.get? s.lastArrival a.dest = some x) ∧ (a.at_ < x + 1024) :=
  ⟨({ dest := 3, source := 1, at_ := 100, route := 0 }), 50, ({ up with arrivals := [{ dest := 3, source := 1, at_ := 100, route := 0 }], lastArrival := [(3, 50)] }), by decide +kernel⟩

theorem witness_EventRouter_6 : ∃ (a : Arrival) (s : State),  (firstArrival s.arrivals = some a) ∧ (a.dest < 0x100) ∧ ((∀ x, Store.get? s.lastArrival a.dest = some x → x + 1024 ≤ a.at_)) :=
  ⟨({ dest := 3, source := 1, at_ := 100, route := 0 }), ({ up with arrivals := [{ dest := 3, source := 1, at_ := 100, route := 0 }] }), by decide +kernel⟩

theorem witness_EventRouter_7 : ∃ (a : Arrival) (s : State),  (firstArrival s.arrivals = some a) ∧ (0x100 ≤ a.dest) ∧ (a.dest < 0x108) ∧ (s.crierTakesSource (a.dest - 0x100) a.source = true) ∧ ((∀ x, Store.get? s.lastArrival a.dest = some x → x + 1024 ≤ a.at_)) :=
  ⟨({ dest := 0x102, source := 1, at_ := 100, route := 0, action := 3 }), ({ up with arrivals := [{ dest := 0x102, source := 1, at_ := 100, route := 0, action := 3 }] }), by decide +kernel⟩

theorem witness_EventRouter_8 : ∃ (a : Arrival) (s : State),  (firstArrival s.arrivals = some a) ∧ (0x108 ≤ a.dest) ∧ (a.dest < 0x110) ∧ ((∀ x, Store.get? s.lastArrival a.dest = some x → x + 1024 ≤ a.at_)) :=
  ⟨({ dest := 0x109, source := 1, at_ := 100, route := 0 }), ({ up with arrivals := [{ dest := 0x109, source := 1, at_ := 100, route := 0 }] }), by decide +kernel⟩

theorem witness_EventRouter_9 : ∃ (a : Arrival) (s : State),  (firstArrival s.arrivals = some a) ∧ (0x110 ≤ a.dest) ∧ (a.dest < 0x130) ∧ ((∀ x, Store.get? s.lastArrival a.dest = some x → x + 1024 ≤ a.at_)) :=
  ⟨({ dest := 0x111, source := 1, at_ := 100, route := 0 }), ({ up with arrivals := [{ dest := 0x111, source := 1, at_ := 100, route := 0 }] }), by decide +kernel⟩

theorem witness_EventRouter_10 : ∃ (a : Arrival) (s : State),  (firstArrival s.arrivals = some a) ∧ (0x130 ≤ a.dest) ∧ (a.dest < 0x138) ∧ ((∀ x, Store.get? s.lastArrival a.dest = some x → x + 1024 ≤ a.at_)) :=
  ⟨({ dest := 0x131, source := 1, at_ := 100, route := 0, vector := 3 }), ({ up with arrivals := [{ dest := 0x131, source := 1, at_ := 100, route := 0, vector := 3 }] }), by decide +kernel⟩

theorem witness_EventRouter_11 : ∃ (a : Arrival) (s : State),  (firstArrival s.arrivals = some a) ∧ (0x138 ≤ a.dest) ∧ (a.dest < 0x140) ∧ ((∀ x, Store.get? s.lastArrival a.dest = some x → x + 1024 ≤ a.at_)) :=
  ⟨({ dest := 0x139, source := 1, at_ := 100, route := 0 }), ({ up with arrivals := [{ dest := 0x139, source := 1, at_ := 100, route := 0 }] }), by decide +kernel⟩

theorem witness_EventRouter_12 : ∃ (n : Nat) (v : Word) (s : State),  (s.booted = true) ∧ (n < 2048) ∧ (let o := s.rd ⟨.EVR_ROUTEn_0, n, 0⟩; let w := v &&& BitVec.ofNat 32 RegName.EVR_ROUTEn_0.spec.rw; ((s.routeBusy (F.EVR_ROUTEn_0_DEST.get o) = true ∨ s.routeBusy (F.EVR_ROUTEn_0_DEST.get w) = true))) :=
  ⟨9, 3#32, ({ orderAt Op.burst .running with works := [(1, orderWork Op.burst .running)] }), by decide +kernel⟩

theorem witness_EventRouter_13 : ∃ (n : Nat) (v : Word) (s : State),  (s.booted = true) ∧ (n < 2048) ∧ (let o := s.rd ⟨.EVR_ROUTEn_0, n, 0⟩; let w := v &&& BitVec.ofNat 32 RegName.EVR_ROUTEn_0.spec.rw; (s.routeBusy (F.EVR_ROUTEn_0_DEST.get o) = false) ∧ (s.routeBusy (F.EVR_ROUTEn_0_DEST.get w) = false) ∧ (((F.EVR_ROUTEn_0_EN.get o = 1 ∧ F.EVR_ROUTEn_0_EN.put w 0 ≠ F.EVR_ROUTEn_0_EN.put o 0) ∨ (F.EVR_ROUTEn_0_EN.get w = 1 ∧ (0x476 < F.EVR_ROUTEn_0_SOURCE.get w ∨ 0x13F < F.EVR_ROUTEn_0_DEST.get w ∨ F.EVR_ROUTEn_0_POL.get w = 3 ∨ (0x130 ≤ F.EVR_ROUTEn_0_DEST.get w ∧ F.EVR_ROUTEn_0_DEST.get w ≤ 0x137 ∧ vecCount (s.get F.EVR_ROUTEn_2_FUNC n) ≤ s.get F.EVR_ROUTEn_2_VECTOR n)))))) :=
  ⟨9, 0xFFFFFFFF#32, up, by decide +kernel⟩

theorem witness_EventRouter_14 : ∃ (n : Nat) (v : Word) (s : State),  (s.booted = true) ∧ (n < 2048) ∧ (let o := s.rd ⟨.EVR_ROUTEn_0, n, 0⟩; let w := v &&& BitVec.ofNat 32 RegName.EVR_ROUTEn_0.spec.rw; (s.routeBusy (F.EVR_ROUTEn_0_DEST.get o) = false) ∧ (s.routeBusy (F.EVR_ROUTEn_0_DEST.get w) = false) ∧ ((F.EVR_ROUTEn_0_EN.get o = 1 → F.EVR_ROUTEn_0_EN.put w 0 = F.EVR_ROUTEn_0_EN.put o 0)) ∧ ((F.EVR_ROUTEn_0_EN.get w = 1 → ¬(0x476 < F.EVR_ROUTEn_0_SOURCE.get w ∨ 0x13F < F.EVR_ROUTEn_0_DEST.get w ∨ F.EVR_ROUTEn_0_POL.get w = 3 ∨ (0x130 ≤ F.EVR_ROUTEn_0_DEST.get w ∧ F.EVR_ROUTEn_0_DEST.get w ≤ 0x137 ∧ vecCount (s.get F.EVR_ROUTEn_2_FUNC n) ≤ s.get F.EVR_ROUTEn_2_VECTOR n))))) :=
  ⟨9, 3#32, up, by decide +kernel⟩

theorem witness_EventRouter_15 : ∃ s : State,  (s.pulses = []) :=
  ⟨up, by decide +kernel⟩

theorem witness_EventRouter_16 : ∃ (p : Nat × Tu) (s : State),  (firstPulse s.pulses = some p) :=
  ⟨((2, 50)), ({ up with pulses := [(2, 50)] }), by decide +kernel⟩

theorem witness_DeviceTime_1 : ∃ (b : Bool) (s : State),  (s.booted = true) ∧ (s.cmdIgnored = true) :=
  ⟨true, ((up.setBit F.TIME_STATUS_MEMBER)), by decide +kernel⟩

theorem witness_DeviceTime_2 : ∃ s : State,  (s.booted = true) ∧ (s.cmdIgnored = false) ∧ (s.stepTooFar s.stagedStep = false) ∧ (s.inHall = false) :=
  ⟨((up.wr ⟨.TIME_STEP_0, 0, 0⟩ 77#32)), by decide +kernel⟩

theorem witness_DeviceTime_3 : ∃ s : State,  (s.booted = true) ∧ (s.cmdIgnored = false) ∧ (s.stepTooFar s.stagedStep = false) ∧ (s.inHall = true) :=
  ⟨((((up.wr ⟨.TIME_STEP_0, 0, 0⟩ 77#32).set F.GSL_HALL_STATUS_SIZE 8).set F.GSL_HALL_STATUS_STATE 2)), by decide +kernel⟩

theorem witness_DeviceTime_4 : ∃ s : State,  (s.booted = true) ∧ (s.cmdIgnored = false) ∧ (s.stepTooFar s.stagedStep = true) :=
  ⟨((up.wr ⟨.TIME_STEP_2, 0, 0⟩ 0x7FFFFFFF#32)), by decide +kernel⟩

theorem witness_DeviceTime_5 : ∃ s : State,  (s.booted = true) ∧ (s.cmdIgnored = false) ∧ (s.stepTooFar s.stagedStep = false) ∧ (s.stagedRate.natAbs ≤ 281474976) ∧ (s.inHall = false) :=
  ⟨((up.wr ⟨.TIME_STEP_0, 0, 0⟩ 77#32)), by decide +kernel⟩

theorem witness_DeviceTime_6 : ∃ s : State,  (s.booted = true) ∧ (s.cmdIgnored = false) ∧ (s.stepTooFar s.stagedStep = false) ∧ (s.stagedRate.natAbs ≤ 281474976) ∧ (s.inHall = true) :=
  ⟨((((up.wr ⟨.TIME_STEP_0, 0, 0⟩ 77#32).set F.GSL_HALL_STATUS_SIZE 8).set F.GSL_HALL_STATUS_STATE 2)), by decide +kernel⟩

theorem witness_DeviceTime_7 : ∃ s : State,  (s.booted = true) ∧ (s.cmdIgnored = false) ∧ (s.stepTooFar s.stagedStep = true) ∧ (s.stagedRate.natAbs ≤ 281474976) ∧ (s.inHall = false) :=
  ⟨((up.wr ⟨.TIME_STEP_2, 0, 0⟩ 0x7FFFFFFF#32)), by decide +kernel⟩

theorem witness_DeviceTime_8 : ∃ s : State,  (s.booted = true) ∧ (s.cmdIgnored = false) ∧ (s.stepTooFar s.stagedStep = true) ∧ (s.stagedRate.natAbs ≤ 281474976) ∧ (s.inHall = true) :=
  ⟨((((up.wr ⟨.TIME_STEP_2, 0, 0⟩ 0x7FFFFFFF#32).set F.GSL_HALL_STATUS_SIZE 8).set F.GSL_HALL_STATUS_STATE 2)), by decide +kernel⟩

theorem witness_DeviceTime_9 : ∃ s : State,  (s.booted = true) ∧ (s.cmdIgnored = false) ∧ (s.stepTooFar s.stagedStep = false) ∧ (281474976 < s.stagedRate.natAbs) ∧ (s.inHall = false) :=
  ⟨((up.wr ⟨.TIME_RATE_STAGE_0, 0, 0⟩ 0xFFFFFFFF#32)), by decide +kernel⟩

theorem witness_DeviceTime_10 : ∃ s : State,  (s.booted = true) ∧ (s.cmdIgnored = false) ∧ (s.stepTooFar s.stagedStep = false) ∧ (281474976 < s.stagedRate.natAbs) ∧ (s.inHall = true) :=
  ⟨((((up.wr ⟨.TIME_RATE_STAGE_0, 0, 0⟩ 0xFFFFFFFF#32).set F.GSL_HALL_STATUS_SIZE 8).set F.GSL_HALL_STATUS_STATE 2)), by decide +kernel⟩

theorem witness_DeviceTime_11 : ∃ s : State,  (s.booted = true) ∧ (s.cmdIgnored = false) ∧ (s.stepTooFar s.stagedStep = true) ∧ (281474976 < s.stagedRate.natAbs) :=
  ⟨((up.wr ⟨.TIME_STEP_2, 0, 0⟩ 0x7FFFFFFF#32 |>.wr ⟨.TIME_RATE_STAGE_0, 0, 0⟩ 0xFFFFFFFF#32)), by decide +kernel⟩

theorem witness_DeviceTime_12 : ∃ s : State,  (s.booted = true) ∧ (s.cmdIgnored = false) ∧ (s.stagedRate.natAbs ≤ 281474976) ∧ (s.inHall = false) :=
  ⟨((up.wr ⟨.TIME_RATE_STAGE_0, 0, 0⟩ 77#32)), by decide +kernel⟩

theorem witness_DeviceTime_13 : ∃ s : State,  (s.booted = true) ∧ (s.cmdIgnored = false) ∧ (s.stagedRate.natAbs ≤ 281474976) ∧ (s.inHall = true) :=
  ⟨((((up.wr ⟨.TIME_RATE_STAGE_0, 0, 0⟩ 77#32).set F.GSL_HALL_STATUS_SIZE 8).set F.GSL_HALL_STATUS_STATE 2)), by decide +kernel⟩

theorem witness_DeviceTime_14 : ∃ s : State,  (s.booted = true) ∧ (s.cmdIgnored = false) ∧ (281474976 < s.stagedRate.natAbs) :=
  ⟨((up.wr ⟨.TIME_RATE_STAGE_0, 0, 0⟩ 0xFFFFFFFF#32)), by decide +kernel⟩

theorem witness_DeviceTime_15 : ∃ s : State,  (s.booted = true) ∧ (s.cmdIgnored = false) ∧ (s.stagedDate = none) :=
  ⟨up, by decide +kernel⟩

theorem witness_DeviceTime_16 : ∃ (d : Int) (s : State),  (s.booted = true) ∧ (s.cmdIgnored = false) ∧ (s.stagedDate = some d) ∧ (s.stepTooFar (d - s.deviceTime - (match s.timeNext with | some c => c.step | none => 0)) = false) ∧ (s.inHall = false) :=
  ⟨((946684800 + (up.utcOffset)) * 4096000000000), (((up.set F.TIME_CALSET_0_MONTH 1).set F.TIME_CALSET_0_DAY 1)), by decide +kernel⟩

theorem witness_DeviceTime_17 : ∃ (d : Int) (s : State),  (s.booted = true) ∧ (s.cmdIgnored = false) ∧ (s.stagedDate = some d) ∧ (s.stepTooFar (d - s.deviceTime - (match s.timeNext with | some c => c.step | none => 0)) = false) ∧ (s.inHall = true) :=
  ⟨((946684800 + (up.utcOffset)) * 4096000000000), (((((up.set F.TIME_CALSET_0_MONTH 1).set F.TIME_CALSET_0_DAY 1).set F.GSL_HALL_STATUS_SIZE 8).set F.GSL_HALL_STATUS_STATE 2)), by decide +kernel⟩

theorem witness_DeviceTime_18 : ∃ (d : Int) (s : State),  (s.booted = true) ∧ (s.cmdIgnored = false) ∧ (s.stagedDate = some d) ∧ (s.stepTooFar (d - s.deviceTime - (match s.timeNext with | some c => c.step | none => 0)) = true) :=
  ⟨((946684800 + (up.utcOffset)) * 4096000000000), ({ ((up.set F.TIME_CALSET_0_MONTH 1).set F.TIME_CALSET_0_DAY 1) with fr := 2 ^ 89 }), by decide +kernel⟩

theorem witness_DeviceTime_19 : ∃ (c : TimeChange) (o h : Int) (s : State),  (s.timeNext = some c) ∧ (c.offset = some o) ∧ (c.at_ = some h) :=
  ⟨({ rate := 5, offset := some 99, at_ := some 700 }), 99, 700, ({ up with timeNext := some { rate := 5, offset := some 99, at_ := some 700 } }), by decide +kernel⟩

theorem witness_DeviceTime_20 : ∃ (s : State),  ((∀ c, s.timeNext = some c → c.offset = none)) :=
  ⟨up, by decide +kernel⟩

theorem witness_DeviceTime_21 : ∃ (v : Word) (s : State),  (s.booted = true) :=
  ⟨37#32, up, by decide +kernel⟩

theorem witness_DeviceTime_22 : ∃ (v : Word) (s : State),  (s.booted = true) ∧ ((s.get F.PTP_SERVO_STATUS_STATE = 0 ∨ s.isMember = true)) :=
  ⟨1#32, up, by decide +kernel⟩

theorem witness_DeviceTime_23 : ∃ (v : Word) (th : Int) (s : State),  (s.booted = true) ∧ (s.isMember = false) ∧ (s.get F.PTP_SERVO_STATUS_STATE ≠ 0) ∧ (signed ((s.rd ⟨.PTP_SERVO_IN_0, 0, 0⟩).toNat + v.toNat * 2 ^ 32) 64 = th) ∧ (s.get F.PTP_SERVO_THRESH_STEP_THRESH * 4096 < th.natAbs) ∧ (s.stepTooFar (-th) = false) :=
  ⟨1#32, 4294967296, (((up.set F.PTP_SERVO_STATUS_STATE 2).set F.PTP_SERVO_THRESH_STEP_THRESH 0)), by decide +kernel⟩

theorem witness_DeviceTime_24 : ∃ (v : Word) (th : Int) (s : State),  (s.booted = true) ∧ (s.isMember = false) ∧ (s.get F.PTP_SERVO_STATUS_STATE ≠ 0) ∧ (signed ((s.rd ⟨.PTP_SERVO_IN_0, 0, 0⟩).toNat + v.toNat * 2 ^ 32) 64 = th) ∧ (s.get F.PTP_SERVO_THRESH_STEP_THRESH * 4096 < th.natAbs) ∧ (s.stepTooFar (-th) = true) :=
  ⟨0x80000000#32, -9223372036854775808, (((((up.set F.PTP_SERVO_STATUS_STATE 2).set F.PTP_SERVO_THRESH_STEP_THRESH 0)).wr ⟨.TIME_OFFSET_2, 0, 0⟩ 0x007FFFFF#32 |>.wr ⟨.TIME_OFFSET_1, 0, 0⟩ 0xFFFFFFFF#32)), by decide +kernel⟩

theorem witness_DeviceTime_25 : ∃ (v : Word) (th : Int) (s : State),  (s.booted = true) ∧ (s.isMember = false) ∧ (s.get F.PTP_SERVO_STATUS_STATE = 1) ∧ (signed ((s.rd ⟨.PTP_SERVO_IN_0, 0, 0⟩).toNat + v.toNat * 2 ^ 32) 64 = th) ∧ (th.natAbs ≤ s.get F.PTP_SERVO_THRESH_STEP_THRESH * 4096) :=
  ⟨0#32, 0, (((up.set F.PTP_SERVO_STATUS_STATE 1).set F.PTP_SERVO_THRESH_STEP_THRESH 65535)), by decide +kernel⟩

theorem witness_DeviceTime_26 : ∃ (v : Word) (th : Int) (s : State),  (s.booted = true) ∧ (s.isMember = false) ∧ (s.get F.PTP_SERVO_STATUS_STATE = 3) ∧ (signed ((s.rd ⟨.PTP_SERVO_IN_0, 0, 0⟩).toNat + v.toNat * 2 ^ 32) 64 = th) ∧ (th.natAbs ≤ s.get F.PTP_SERVO_THRESH_STEP_THRESH * 4096) ∧ (th.natAbs ≤ 4 * s.get F.PTP_SERVO_THRESH_LOCK_THRESH) :=
  ⟨0#32, 0, (((up.set F.PTP_SERVO_STATUS_STATE 3).set F.PTP_SERVO_THRESH_STEP_THRESH 65535)), by decide +kernel⟩

theorem witness_DeviceTime_27 : ∃ (v : Word) (th : Int) (s : State),  (s.booted = true) ∧ (s.isMember = false) ∧ (s.get F.PTP_SERVO_STATUS_STATE = 3) ∧ (signed ((s.rd ⟨.PTP_SERVO_IN_0, 0, 0⟩).toNat + v.toNat * 2 ^ 32) 64 = th) ∧ (th.natAbs ≤ s.get F.PTP_SERVO_THRESH_STEP_THRESH * 4096) ∧ (4 * s.get F.PTP_SERVO_THRESH_LOCK_THRESH < th.natAbs) :=
  ⟨0#32, 9, (((up.set F.PTP_SERVO_STATUS_STATE 3).set F.PTP_SERVO_THRESH_STEP_THRESH 65535).wr ⟨.PTP_SERVO_IN_0, 0, 0⟩ 9#32 |>.set F.PTP_SERVO_THRESH_LOCK_THRESH 0), by decide +kernel⟩

theorem witness_DeviceTime_28 : ∃ (v : Word) (th : Int) (s : State),  (s.booted = true) ∧ (s.isMember = false) ∧ ((s.get F.PTP_SERVO_STATUS_STATE = 2 ∨ s.get F.PTP_SERVO_STATUS_STATE = 4)) ∧ (signed ((s.rd ⟨.PTP_SERVO_IN_0, 0, 0⟩).toNat + v.toNat * 2 ^ 32) 64 = th) ∧ (th.natAbs ≤ s.get F.PTP_SERVO_THRESH_STEP_THRESH * 4096) ∧ ((th.natAbs ≤ s.get F.PTP_SERVO_THRESH_LOCK_THRESH → s.servo.good + 1 < 16)) :=
  ⟨0#32, 0, (((up.set F.PTP_SERVO_STATUS_STATE 2).set F.PTP_SERVO_THRESH_STEP_THRESH 65535)), by decide +kernel⟩

theorem witness_DeviceTime_29 : ∃ (v : Word) (th : Int) (s : State),  (s.booted = true) ∧ (s.isMember = false) ∧ ((s.get F.PTP_SERVO_STATUS_STATE = 2 ∨ s.get F.PTP_SERVO_STATUS_STATE = 4)) ∧ (signed ((s.rd ⟨.PTP_SERVO_IN_0, 0, 0⟩).toNat + v.toNat * 2 ^ 32) 64 = th) ∧ (th.natAbs ≤ s.get F.PTP_SERVO_THRESH_STEP_THRESH * 4096) ∧ (th.natAbs ≤ s.get F.PTP_SERVO_THRESH_LOCK_THRESH) ∧ (15 ≤ s.servo.good) :=
  ⟨0#32, 0, ({ ((up.set F.PTP_SERVO_STATUS_STATE 2).set F.PTP_SERVO_THRESH_STEP_THRESH 65535) with servo := { good := 15 } }), by decide +kernel⟩

theorem witness_DeviceTime_30 : ∃ s : State,  ((s.get F.PTP_SERVO_STATUS_STATE = 1 ∨ s.get F.PTP_SERVO_STATUS_STATE = 2 ∨ s.get F.PTP_SERVO_STATUS_STATE = 3)) :=
  ⟨((up.set F.PTP_SERVO_STATUS_STATE 3)), by decide +kernel⟩

theorem witness_DeviceTime_31 : ∃ s : State,  ((s.get F.PTP_SERVO_STATUS_STATE = 0 ∨ 4 ≤ s.get F.PTP_SERVO_STATUS_STATE)) :=
  ⟨up, by decide +kernel⟩

theorem witness_DeviceTime_32 : ∃ s : State,  (s.timeSet = true) :=
  ⟨({ up with timeSet := true, fr := 77 }), by decide +kernel⟩

theorem witness_DeviceTime_33 : ∃ s : State,  (s.timeSet = false) :=
  ⟨up, by decide +kernel⟩

theorem witness_EthernetFrames_1 : ∃ (n c : Nat) (f : Bytes) (b : Bool) (s : State),  (s.bit F.PTP_PORTn_CFG_EN n = false) :=
  ⟨1, 5, [], true, up, by decide +kernel⟩

theorem witness_EthernetFrames_2 : ∃ (n c : Nat) (f : Bytes) (b : Bool) (s : State),  (s.bit F.PTP_PORTn_CFG_EN n = true) ∧ (ptpAt f = none) :=
  ⟨1, 5, [], true, ((up.setBit F.PTP_PORTn_CFG_EN 1)), by decide +kernel⟩

theorem witness_EthernetFrames_3 : ∃ (n c : Nat) (f : Bytes) (a : PtpAt) (b : Bool) (s : State),  (s.bit F.PTP_PORTn_CFG_EN n = true) ∧ (ptpAt f = some a) ∧ ((b = false ∨ bitOf (s.get F.PTP_PORTn_CFG_TRANSPORT n) a.transport = false)) :=
  ⟨1, 5, ptpF, (((ptpAt ptpF).getD ⟨0, 0, 0, false⟩)), false, (((up.setBit F.PTP_PORTn_CFG_EN 1).set F.PTP_PORTn_CFG_TRANSPORT 7 1)), by decide +kernel⟩

theorem witness_EthernetFrames_4 : ∃ (n c : Nat) (f : Bytes) (a : PtpAt) (s : State),  (s.bit F.PTP_PORTn_CFG_EN n = true) ∧ (ptpAt f = some a) ∧ (bitOf (s.get F.PTP_PORTn_CFG_TRANSPORT n) a.transport = true) ∧ ((100000 ≤ (s.rxRate n).2 ∨ 2 ^ s.get F.PTP_PORTn_RXRING_1_SIZE_LOG2 n ≤ ((s.rd ⟨.PTP_PORTn_RXPROD, n, 0⟩).toNat + 2 ^ 32 - (s.rd ⟨.PTP_PORTn_RXCONS, n, 0⟩).toNat) % 2 ^ 32)) :=
  ⟨1, 5, ptpF, (((ptpAt ptpF).getD ⟨0, 0, 0, false⟩)), ({ ((up.setBit F.PTP_PORTn_CFG_EN 1).set F.PTP_PORTn_CFG_TRANSPORT 7 1) with ptpRate := [(1, (0, 100000))] }), by decide +kernel⟩

theorem witness_EthernetFrames_5 : ∃ (n c : Nat) (f : Bytes) (a : PtpAt) (s : State),  (s.bit F.PTP_PORTn_CFG_EN n = true) ∧ (ptpAt f = some a) ∧ (bitOf (s.get F.PTP_PORTn_CFG_TRANSPORT n) a.transport = true) ∧ ((s.rxRate n).2 < 100000) ∧ (((s.rd ⟨.PTP_PORTn_RXPROD, n, 0⟩).toNat + 2 ^ 32 - (s.rd ⟨.PTP_PORTn_RXCONS, n, 0⟩).toNat) % 2 ^ 32 < 2 ^ s.get F.PTP_PORTn_RXRING_1_SIZE_LOG2 n) :=
  ⟨1, 5, ptpF, (((ptpAt ptpF).getD ⟨0, 0, 0, false⟩)), (((up.setBit F.PTP_PORTn_CFG_EN 1).set F.PTP_PORTn_CFG_TRANSPORT 7 1)), by decide +kernel⟩

theorem witness_EthernetFrames_6 : ∃ (p c : Nat) (f : LaunchFrame) (w : Work) (s : State),  (nextFrame (s.frames p) = some f) ∧ (s.work? f.work = some w) ∧ (p < 2) ∧ ((f.late = true ∨ (f.at_ ≤ ((c : Int) + s.portSigned .PTP_PORTn_TXLAT p).toNat + 32768 ∧ ((c : Int) + s.portSigned .PTP_PORTn_TXLAT p).toNat ≤ f.at_ + 32768))) :=
  ⟨0, 900, ({ work := 1, at_ := 1000, late := false }), ((orderWork 0xF .running)), ({ orderAt 0xF .running with frames0 := [{ work := 1, at_ := 1000, late := false }] }), by decide +kernel⟩

theorem witness_EthernetFrames_7 : ∃ (p c : Nat) (f : LaunchFrame) (s : State),  (nextFrame (s.frames p) = some f) ∧ (f.late = false) ∧ ((((c : Int) + s.portSigned .PTP_PORTn_TXLAT p).toNat + 32768 < f.at_ ∨ f.at_ + 32768 < ((c : Int) + s.portSigned .PTP_PORTn_TXLAT p).toNat)) :=
  ⟨0, 900000, ({ work := 1, at_ := 1000, late := false }), ({ orderAt 0xF .running with frames0 := [{ work := 1, at_ := 1000, late := false }] }), by decide +kernel⟩

theorem witness_EthernetFrames_8 : ∃ (p c : Nat) (s : State),  (s.frames p = []) :=
  ⟨0, 900, up, by decide +kernel⟩

theorem witness_LocalMemory_1 : ∃ (x : Nat) (d : Bytes) (s : State),  (Mem.wf s.mem = true) ∧ (s.bar4Open x d.length = true) ∧ (s.bar4Addr x + d.length ≤ s.memSize) ∧ (s.inPool (s.bar4Addr x / segSize) = false) :=
  ⟨100, ([5#8, 6#8, 7#8, 8#8]), ({ dramS with mem := [(101, 9#8)] }), by decide +kernel⟩

theorem witness_LocalMemory_2 : ∃ (x : Nat) (d : Bytes) (s : State),  (s.bar4Open x d.length = true) ∧ (s.bar4Addr x + d.length ≤ s.memSize) ∧ (s.inPool (s.bar4Addr x / segSize) = true) ∧ (((s.seg (s.bar4Addr x / segSize)).filling = true ∨ (s.seg (s.bar4Addr x / segSize)).refs ≠ 0)) :=
  ⟨100, [5#8], ({ (dramS.set F.DRAM_SEG_COUNT_COUNT 16).setBit F.DRAM_SEG_CTRL_LOCK with segs := [(0, { filling := true })] }), by decide +kernel⟩

theorem witness_LocalMemory_3 : ∃ (x : Nat) (d : Bytes) (s : State),  (s.bar4Open x d.length = true) ∧ (s.bar4Addr x + d.length ≤ s.memSize) ∧ (s.inPool (s.bar4Addr x / segSize) = true) ∧ ((s.seg (s.bar4Addr x / segSize)).filling = false) ∧ ((s.seg (s.bar4Addr x / segSize)).refs = 0) :=
  ⟨100, [5#8], ({ (dramS.set F.DRAM_SEG_COUNT_COUNT 16).setBit F.DRAM_SEG_CTRL_LOCK with segs := [(0, { valid := true })] }), by decide +kernel⟩

theorem witness_LocalMemory_4 : ∃ (x : Nat) (d : Bytes) (s : State),  ((s.bar4Open x d.length = false ∨ s.memSize < s.bar4Addr x + d.length)) :=
  ⟨100, [5#8], up, by decide +kernel⟩

theorem witness_LocalMemory_5 : ∃ (x n corr : Nat) (bad : List Nat) (s : State),  (s.bar4Open x n = false) :=
  ⟨100, 6, 0, [], State.reset, by decide +kernel⟩

theorem witness_LocalMemory_6 : ∃ (x n corr : Nat) (bad : List Nat) (s : State),  (s.bar4Open x n = true) ∧ ((((List.range ((s.bar4Addr x % 64 + n + 63) / 64)).map (s.bar4Addr x / 64 + ·)).filter fun l => decide (64 * l < s.memSize) && (s.poison.contains l || bad.contains l)) = []) :=
  ⟨100, 6, 1, [], ({ dramS with mem := [(101, 9#8)] }), by decide +kernel⟩

theorem witness_LocalMemory_7 : ∃ (x n corr : Nat) (bad : List Nat) (s : State),  (s.bar4Open x n = true) ∧ (let ls := ((List.range ((s.bar4Addr x % 64 + n + 63) / 64)).map (s.bar4Addr x / 64 + ·)).filter fun l => decide (64 * l < s.memSize) && (s.poison.contains l || bad.contains l); (ls ≠ [])) :=
  ⟨100, 6, 1, [1], ({ dramS with mem := [(101, 9#8)] }), by decide +kernel⟩

theorem witness_LocalMemory_8 : ∃ (l x : Nat) (s : State),  (s.memSize ≤ 64 * l) :=
  ⟨3, 2, up, by decide +kernel⟩

theorem witness_LocalMemory_9 : ∃ (l : Nat) (s : State),  (64 * l < s.memSize) ∧ (l ∉ s.poison) :=
  ⟨3, dramS, by decide +kernel⟩

theorem witness_LocalMemory_10 : ∃ (l : Nat) (s : State),  (64 * l < s.memSize) ∧ (l ∉ s.poison) :=
  ⟨3, dramS, by decide +kernel⟩

theorem witness_LocalMemory_11 : ∃ (l x : Nat) (s : State),  (64 * l < s.memSize) ∧ ((x = 2 ∨ l ∈ s.poison)) :=
  ⟨3, 2, dramS, by decide +kernel⟩

theorem witness_LocalMemory_12 : ∃ s : State,  (s.booted = true) ∧ ((s.get F.DRAM_ILV_STAGE_GRAIN_LOG2 < 8 ∨ 16 < s.get F.DRAM_ILV_STAGE_GRAIN_LOG2 ∨ setBits ((s.rd ⟨.DRAM_ILV_CH_STAGE_w, 0, 0⟩).toNat + (s.rd ⟨.DRAM_ILV_CH_STAGE_w, 1, 0⟩).toNat * 2 ^ 32) 64 = [])) :=
  ⟨((up.set F.DRAM_ILV_STAGE_GRAIN_LOG2 4)), by decide +kernel⟩

theorem witness_LocalMemory_13 : ∃ s : State,  (s.booted = true) ∧ (8 ≤ s.get F.DRAM_ILV_STAGE_GRAIN_LOG2) ∧ (s.get F.DRAM_ILV_STAGE_GRAIN_LOG2 ≤ 16) ∧ (setBits ((s.rd ⟨.DRAM_ILV_CH_STAGE_w, 0, 0⟩).toNat + (s.rd ⟨.DRAM_ILV_CH_STAGE_w, 1, 0⟩).toNat * 2 ^ 32) 64 ≠ []) :=
  ⟨((up.set F.DRAM_ILV_STAGE_GRAIN_LOG2 9)), by decide +kernel⟩

theorem witness_LocalMemory_14 : ∃ (c r : Nat) (l : List Nat) (s : State),  (s.liveChannels.contains c = true) ∧ ((permanent.contains r || (s.mappedNow c).contains r) = true) ∧ (let ls := l.filter fun x => decide (64 * x < s.memSize) && s.chanOf (64 * x) == c; (ls ≠ []) ∧ (s.sref ≠ .closing)) :=
  ⟨((dramS.chanOf 0)), 134, [0], dramS, by decide +kernel⟩

theorem witness_LocalMemory_15 : ∃ (c r : Nat) (l : List Nat) (s : State),  (s.liveChannels.contains c = true) ∧ ((permanent.contains r || (s.mappedNow c).contains r) = true) ∧ (let ls := l.filter fun x => decide (64 * x < s.memSize) && s.chanOf (64 * x) == c; (ls ≠ []) ∧ (s.sref = .closing)) :=
  ⟨((dramS.chanOf 0)), 134, [0], ({ dramS with sref := .closing }), by decide +kernel⟩

theorem witness_LocalMemory_16 : ∃ (c r : Nat) (l : List Nat) (s : State),  ((s.liveChannels.contains c = false ∨ (permanent.contains r || (s.mappedNow c).contains r) = false)) :=
  ⟨70, 134, [0], dramS, by decide +kernel⟩

theorem witness_LocalMemory_17 : ∃ (c : Nat) (s : State),  ((s.sref = .in_ ∨ (s.arb c).raised = [])) :=
  ⟨3, dramS, by decide +kernel⟩

theorem witness_LocalMemory_18 : ∃ (c r : Nat) (s : State),  (s.sref ≠ .in_) ∧ (s.mappedCount c ≤ 16) ∧ (s.compactWinner (s.arb c) = some r) :=
  ⟨3, 134, ({ up with arbs := [(3, { raised := [134], asks := [(134, [0, 1])] })] }), by decide +kernel⟩

theorem witness_LocalMemory_19 : ∃ (c r : Nat) (s : State),  (s.sref ≠ .in_) ∧ (16 < s.mappedCount c) ∧ ((s.fullRanks c (s.arb c)).find? (s.arb c).raised.contains = some r) :=
  ⟨3, 134, fullArbS, by decide +kernel⟩

theorem witness_LocalMemory_20 : ∃ (c r : Nat) (s : State),  ((s.arb c).served = some r) :=
  ⟨3, 134, ({ up with arbs := [(3, { served := some 134 })] }), by decide +kernel⟩

theorem witness_LocalMemory_21 : ∃ (c : Nat) (s : State),  ((s.arb c).served = none) :=
  ⟨3, up, by decide +kernel⟩

theorem witness_LocalMemory_22 : ∃ (c : Nat) (s : State),  (s.sref ≠ .in_) ∧ (c < 64) ∧ (s.holdRefresh (stackOf c) = true) :=
  ⟨20, ({ up with debt := [(20, 2)], postponed := [(1, ⟨0, 9, 2⟩)] }), by decide +kernel⟩

theorem witness_LocalMemory_23 : ∃ (c : Nat) (s : State),  (s.sref ≠ .in_) ∧ (c < 64) ∧ (s.holdRefresh (stackOf c) = false) :=
  ⟨3, ({ up with debt := [(3, 2)] }), by decide +kernel⟩

theorem witness_LocalMemory_24 : ∃ (c : Nat) (s : State),  (s.sref = .in_) :=
  ⟨3, ({ up with sref := .in_ }), by decide +kernel⟩

theorem witness_LocalMemory_25 : ∃ (st : Nat) (p : Postpone) (s : State),  (Store.get? s.postponed st = some p) :=
  ⟨1, (⟨5, 9, 2⟩), ({ up with postponed := [(1, ⟨5, 9, 2⟩)], debt := [(20, 3)] }), by decide +kernel⟩

theorem witness_LocalMemory_26 : ∃ (st : Nat) (s : State),  (Store.get? s.postponed st = none) :=
  ⟨1, up, by decide +kernel⟩

theorem witness_LocalMemory_27 : ∃ s : State,  (2 ≤ s.get F.PWR_STATUS_STATE) ∧ (s.bit F.PWR_STATUS_EXITING = false) ∧ (s.windowCharges = false) ∧ (s.sref = .none_) :=
  ⟨((up.set F.PWR_STATUS_STATE 3)), by decide +kernel⟩

theorem witness_LocalMemory_28 : ∃ s : State,  (2 ≤ s.get F.PWR_STATUS_STATE) ∧ (s.bit F.PWR_STATUS_EXITING = false) ∧ (s.windowCharges = false) ∧ (s.sref = .closing) :=
  ⟨({ (up.set F.PWR_STATUS_STATE 3) with sref := .closing }), by decide +kernel⟩

theorem witness_LocalMemory_29 : ∃ s : State,  ((s.get F.PWR_STATUS_STATE < 2 ∨ s.bit F.PWR_STATUS_EXITING = true ∨ s.windowCharges = true ∨ s.sref = .in_)) :=
  ⟨up, by decide +kernel⟩

theorem witness_LocalMemory_30 : ∃ s : State,  (s.sref = .in_) :=
  ⟨({ up with sref := .in_, debt := [(3, 3)] }), by decide +kernel⟩

theorem witness_LocalMemory_31 : ∃ s : State,  (s.sref ≠ .in_) :=
  ⟨up, by decide +kernel⟩

theorem witness_CoreCaches_1 : ∃ (c l : Nat) (s : State),  (c < 32) ∧ (l ∉ s.poison) ∧ ((∀ r ∈ s.cohWait, r.line ≠ l)) ∧ (Store.get? s.recalls l = none) ∧ (s.dirtyHolder l c = none) :=
  ⟨3, 77, ({ up with l1 := [((5, 77), .exclusive)] }), by decide +kernel⟩

theorem witness_CoreCaches_2 : ∃ (c l : Nat) (s : State),  (c < 32) ∧ (l ∉ s.poison) ∧ ((∀ r ∈ s.cohWait, r.line ≠ l)) ∧ (Store.get? s.recalls l = none) ∧ (s.dirtyHolder l c = none) :=
  ⟨3, 77, ({ up with l1 := [((5, 77), .exclusive)] }), by decide +kernel⟩

theorem witness_CoreCaches_3 : ∃ (c h l : Nat) (s : State),  (c < 32) ∧ (l ∉ s.poison) ∧ ((∀ r ∈ s.cohWait, r.line ≠ l)) ∧ (Store.get? s.recalls l = none) ∧ (s.dirtyHolder l c = some h) :=
  ⟨3, 5, 77, ({ up with l1 := [((5, 77), .modified)] }), by decide +kernel⟩

theorem witness_CoreCaches_4 : ∃ (c l : Nat) (s : State),  (c < 32) ∧ (l ∉ s.poison) ∧ ((Store.get? s.recalls l).isSome = true) :=
  ⟨3, 77, ({ up with recalls := [(77, (5, { core := 6, line := 77, own := true }))] }), by decide +kernel⟩

theorem witness_CoreCaches_5 : ∃ (cs : List Nat) (l : Nat) (s : State),  ((∀ c ∈ cs, c < 32)) ∧ (l ∉ s.poison) ∧ ((Store.get? s.recalls l).isSome = true) :=
  ⟨([3, 4]), 77, ({ up with recalls := [(77, (5, { core := 6, line := 77, own := true }))] }), by decide +kernel⟩

theorem witness_CoreCaches_6 : ∃ (c l : Nat) (s : State),  (c < 32) ∧ (l ∈ s.poison) :=
  ⟨3, 77, ({ up with poison := [77] }), by decide +kernel⟩

theorem witness_CoreCaches_7 : ∃ (c l : Nat) (d : Bytes) (s : State),  (Store.get? s.l1 (c, l) = some .modified) ∧ (d.length = 64) ∧ ((∀ p, Store.get? s.recalls l = some p → p.1 ≠ c)) ∧ ((∀ r ∈ s.cohWait, r.line ≠ l)) :=
  ⟨3, 77, ((List.replicate 64 5#8)), ({ up with l1 := [((3, 77), .modified)] }), by decide +kernel⟩

theorem witness_CoreCaches_8 : ∃ (c l : Nat) (d : Bytes) (q : CohReq) (s : State),  (Store.get? s.l1 (c, l) = some .modified) ∧ (d.length = 64) ∧ (Store.get? s.recalls l = some (c, q)) ∧ (q.line = l) ∧ (q.core ≠ c) ∧ ((∀ r ∈ s.cohWait, r.line ≠ l)) :=
  ⟨3, 77, ((List.replicate 64 5#8)), ({ core := 5, line := 77, own := true }), ({ up with l1 := [((3, 77), .modified)], recalls := [(77, (3, { core := 5, line := 77, own := true }))] }), by decide +kernel⟩

theorem witness_CoreCaches_9 : ∃ (c l : Nat) (d : Bytes) (s : State),  (Store.get? s.l1 (c, l) ≠ some .modified) :=
  ⟨3, 77, [], up, by decide +kernel⟩

theorem witness_CoreCaches_10 : ∃ (l h : Nat) (q : CohReq) (d : Bytes) (s : State),  (Store.get? s.recalls l = some (h, q)) ∧ (q.line = l) ∧ (h ≠ q.core) ∧ (d.length = 64) ∧ ((∀ r ∈ s.cohWait, r.line ≠ l)) :=
  ⟨77, 3, ({ core := 5, line := 77, own := true }), ((List.replicate 64 5#8)), ({ up with l1 := [((3, 77), .modified)], recalls := [(77, (3, { core := 5, line := 77, own := true }))] }), by decide +kernel⟩

theorem witness_CoreCaches_11 : ∃ (l : Nat) (d : Bytes) (s : State),  (Store.get? s.recalls l = none) :=
  ⟨77, [], up, by decide +kernel⟩

theorem witness_Converters_1 : ∃ (k : Nat) (w : Work) (s : State),  (s.work? k = some w) ∧ (w.opcode = Op.pmuMeasure) ∧ (w.stage = .routed) :=
  ⟨1, ((orderWork Op.pmuMeasure .routed)), ((orderAt Op.pmuMeasure .routed)), by decide +kernel⟩

theorem witness_Converters_2 : ∃ (k : Nat) (w : Work) (s : State),  (s.work? k = some w) ∧ (w.opcode = Op.pmuMeasure) ∧ (w.stage = .window) :=
  ⟨1, ((orderWork Op.pmuMeasure .window)), ((orderAt Op.pmuMeasure .window)), by decide +kernel⟩

theorem witness_Converters_3 : ∃ (k : Nat) (w : Work) (s : State),  (s.work? k = some w) ∧ (w.opcode = Op.adcSequence) ∧ (w.stage = .routed) :=
  ⟨1, ((orderWork Op.adcSequence .routed)), ((orderAt Op.adcSequence .routed)), by decide +kernel⟩

theorem witness_Converters_4 : ∃ (k : Nat) (w : Work) (s : State),  (s.work? k = some w) ∧ (w.opcode = Op.adcSequence) ∧ (w.stage = .dataRead) ∧ (w.data.length ≠ 8 * w.entries) :=
  ⟨1, ({ adcW with data := [] }), ({ up with works := [(1, { adcW with data := [] })] }), by decide +kernel⟩

theorem witness_Converters_5 : ∃ (k : Nat) (w : Work) (s : State),  (s.work? k = some w) ∧ (w.opcode = Op.adcSequence) ∧ (w.stage = .dataRead) ∧ (w.data.length = 8 * w.entries) ∧ (((List.range w.entries).map w.entry).any (fun e => !entryOk e) = true) :=
  ⟨1, ({ orderWork Op.adcSequence .dataRead with ord := BitVec.ofNat 8 Op.adcSequence :: List.replicate 39 0#8 ++ [1#8] ++ List.replicate 23 0#8, data := List.replicate 8 0xFF#8 }), ({ up with works := [(1, { orderWork Op.adcSequence .dataRead with ord := BitVec.ofNat 8 Op.adcSequence :: List.replicate 39 0#8 ++ [1#8] ++ List.replicate 23 0#8, data := List.replicate 8 0xFF#8 })] }), by decide +kernel⟩

theorem witness_Converters_6 : ∃ (k : Nat) (w : Work) (s : State),  (s.work? k = some w) ∧ (w.opcode = Op.adcSequence) ∧ (w.stage = .dataRead) ∧ (w.data.length = 8 * w.entries) ∧ (((List.range w.entries).map w.entry).any (fun e => !entryOk e) = false) ∧ ((((List.range w.entries).map w.entry).map entryAdc).eraseDups.any (fun c => decide (8 ≤ (s.adc c).seqs.length)) = true) :=
  ⟨1, adcW, ({ up.set F.ADC_STATUS_POWERED 15 with works := [(1, adcW)], adcs := [(0, { seqs := [9, 9, 9, 9, 9, 9, 9, 9] })] }), by decide +kernel⟩

theorem witness_Converters_7 : ∃ (k : Nat) (w : Work) (s : State),  (s.work? k = some w) ∧ (w.opcode = Op.adcSequence) ∧ (w.stage = .dataRead) ∧ (w.data.length = 8 * w.entries) ∧ (((List.range w.entries).map w.entry).any (fun e => !entryOk e) = false) ∧ ((((List.range w.entries).map w.entry).map entryAdc).eraseDups.any (fun c => decide (8 ≤ (s.adc c).seqs.length)) = false) :=
  ⟨1, adcW, ({ up.set F.ADC_STATUS_POWERED 15 with works := [(1, adcW)] }), by decide +kernel⟩

theorem witness_Converters_8 : ∃ (c : Nat) (v : Int) (o : Bool) (r : AdcRun) (s : State),  ((s.adc c).safety = []) ∧ (s.roundOf c = []) ∧ ((s.adc c).run = some r) ∧ (let x := { r with n := r.n + 1, sum := r.sum + v, overRange := r.overRange || o, mixed := r.mixed || (s.pmuLive c r.input != (r.mode, r.range)) }; (x.n < r.total)) :=
  ⟨3, 77, true, ({ work := 1, ix := 0, input := 8, total := 4 }), ({ up with adcs := [(3, { run := some { work := 1, ix := 0, input := 8, total := 4 } })] }), by decide +kernel⟩

theorem witness_Converters_9 : ∃ (c : Nat) (v : Int) (o : Bool) (r : AdcRun) (s : State),  ((s.adc c).safety = []) ∧ (s.roundOf c = []) ∧ ((s.adc c).run = some r) ∧ (let x := { r with n := r.n + 1, sum := r.sum + v, overRange := r.overRange || o, mixed := r.mixed || (s.pmuLive c r.input != (r.mode, r.range)) }; (r.total ≤ x.n) ∧ (r.pmu = true)) :=
  ⟨3, 77, true, ({ work := 1, ix := 12, pmu := true, input := 0, total := 1 }), ({ up with adcs := [(3, { run := some { work := 1, ix := 12, pmu := true, input := 0, total := 1 } })] }), by decide +kernel⟩

theorem witness_Converters_10 : ∃ (c : Nat) (v : Int) (o : Bool) (r : AdcRun) (s : State),  ((s.adc c).safety = []) ∧ (s.roundOf c = []) ∧ ((s.adc c).run = some r) ∧ (let x := { r with n := r.n + 1, sum := r.sum + v, overRange := r.overRange || o, mixed := r.mixed || (s.pmuLive c r.input != (r.mode, r.range)) }; (r.total ≤ x.n) ∧ (r.pmu = false)) :=
  ⟨3, 77, true, ({ work := 1, ix := 0, input := 8, total := 1 }), ({ up with adcs := [(3, { run := some { work := 1, ix := 0, input := 8, total := 1 } })] }), by decide +kernel⟩

theorem witness_Converters_11 : ∃ (c h : Nat) (v : Int) (o : Bool) (vs : List Int) (l : List (Nat × List Int)) (s : State),  ((s.adc c).safety = (h, vs) :: l) ∧ (vs.length < 3) :=
  ⟨3, 13, 77, false, ([1, 2]), [], ({ up with adcs := [(3, { safety := [(13, [1, 2])] })] }), by decide +kernel⟩

theorem witness_Converters_12 : ∃ (c h : Nat) (v : Int) (o : Bool) (vs : List Int) (l : List (Nat × List Int)) (s : State),  ((s.adc c).safety = (h, vs) :: l) ∧ (3 ≤ vs.length) :=
  ⟨3, 13, 77, false, ([1, 2, 3]), [], ({ up with adcs := [(3, { safety := [(13, [1, 2, 3])] })] }), by decide +kernel⟩

theorem witness_Converters_13 : ∃ (c : Nat) (v : Int) (o : Bool) (s : State),  ((s.adc c).safety = []) ∧ ((s.roundOf c ≠ [] ∨ (s.adc c).run = none)) :=
  ⟨3, 77, false, up, by decide +kernel⟩

theorem witness_Converters_14 : ∃ (c k t d : Nat) (l : List Nat) (w : Work) (s : State),  ((s.adc c).run = none) ∧ ((s.adc c).seqs = k :: l) ∧ ((s.adc c).last = some t) ∧ (s.work? k = some w) ∧ (w.sequencing = true) ∧ (w.nextIx c (s.adc c).next = some d) ∧ (entryTrigger (w.entry (d % w.entries)) = 1) :=
  ⟨0, 1, 500, 0, [], ({ adcW with stage := .running, data := leBytes (8 * 64 + 2 ^ 26 + 3 * 2 ^ 32) 8 }), ({ up.set F.ADC_STATUS_POWERED 15 with works := [(1, { adcW with stage := .running, data := leBytes (8 * 64 + 2 ^ 26 + 3 * 2 ^ 32) 8 })], adcs := [(0, { seqs := [1], last := some 500 })] }), by decide +kernel⟩

theorem witness_Converters_15 : ∃ (c : Nat) (v : List Int) (s : State),  (c < 64) ∧ (s.rowPowered (c / 16) = true) ∧ (s.mayScan c = true) :=
  ⟨3, ([12000, 12, 13, 14, 0, 0]), ((up.set F.ADC_STATUS_POWERED 15)), by decide +kernel⟩

theorem witness_Converters_16 : ∃ (c : Nat) (v : List Int) (s : State),  ((s.rowPowered (c / 16) = false ∨ s.mayScan c = false)) :=
  ⟨3, [], ((up.set F.ADC_STATUS_POWERED 0)), by decide +kernel⟩

theorem witness_Converters_17 : ∃ (x : Nat) (s : State),  (s.rowPowered 0 = true) ∧ (s.mayScan 0 = true) ∧ (s.adcFailed 0 = false) :=
  ⟨900, ((up.set F.ADC_STATUS_POWERED 15)), by decide +kernel⟩

theorem witness_Converters_18 : ∃ (x : Nat) (s : State),  (s.rowPowered 0 = true) ∧ (s.mayScan 0 = true) ∧ (s.adcFailed 0 = true) :=
  ⟨900, (((up.set F.ADC_STATUS_POWERED 15).set F.ADC_FAILED_w_FAILED 1 0)), by decide +kernel⟩

theorem witness_Converters_19 : ∃ (x : Nat) (s : State),  (s.rowPowered 0 = true) ∧ (s.mayScan 0 = true) ∧ (s.adcFailed 0 = false) ∧ (s.get F.TALLY_OVEN_STATUS_STATE = 0) :=
  ⟨900, ((up.set F.ADC_STATUS_POWERED 15)), by decide +kernel⟩

theorem witness_Converters_20 : ∃ (h : Nat) (s : State),  (s.safetyDue.contains h = true) ∧ ((s.adc (h / 4)).safety = []) ∧ (s.roundOf (h / 4) = []) :=
  ⟨13, ({ up with safetyDue := [13], adcs := [(3, { run := some { work := 1, ix := 0, input := 8, total := 4 } })] }), by decide +kernel⟩

theorem witness_Converters_21 : ∃ (h : Nat) (s : State),  (s.safetyDue.contains h = true) ∧ ((s.adc (h / 4)).safety = []) ∧ (s.roundOf (h / 4) ≠ []) :=
  ⟨13, ({ up with safetyDue := [13], chans := [(12, { inRound := true })] }), by decide +kernel⟩

theorem witness_Converters_22 : ∃ (h : Nat) (s : State),  (s.safetyDue.contains h = true) ∧ ((s.adc (h / 4)).safety ≠ []) :=
  ⟨13, ({ up with safetyDue := [13], adcs := [(3, { safety := [(12, [5])] })] }), by decide +kernel⟩

theorem witness_Converters_23 : ∃ (h : Nat) (s : State),  (s.verifyWaits (h / 4) = true) ∧ (s.roundOf (h / 4) = []) ∧ (s.rowPowered (h / 4 / 16) = true) ∧ ((s.adc (h / 4)).safety = []) :=
  ⟨13, ({ up.set F.ADC_STATUS_POWERED 15 with chans := [(13, { verifyPending := true })] }), by decide +kernel⟩

theorem witness_Converters_24 : ∃ (h : Nat) (s : State),  (s.verifyWaits (h / 4) = true) ∧ (s.roundOf (h / 4) = []) ∧ (s.rowPowered (h / 4 / 16) = true) ∧ ((s.adc (h / 4)).safety ≠ []) :=
  ⟨13, ({ up.set F.ADC_STATUS_POWERED 15 with chans := [(13, { verifyPending := true })], adcs := [(3, { safety := [(12, [5])] })] }), by decide +kernel⟩

theorem witness_Converters_25 : ∃ (c d h : Nat) (l : List Nat) (s : State),  (s.roundOf c = h :: l) ∧ ((s.adc c).safety = []) ∧ (l ≠ []) ∧ (h ∉ l) ∧ (s.adcFailed c = false) ∧ (d ≤ 41) :=
  ⟨3, 9, 12, [13], ({ up with chans := [(12, { inRound := true }), (13, { inRound := true })] }), by decide +kernel⟩

theorem witness_Converters_26 : ∃ (c d h : Nat) (l : List Nat) (s : State),  (s.roundOf c = h :: l) ∧ ((s.adc c).safety = []) ∧ (l = []) ∧ (s.adcFailed c = false) ∧ (d ≤ 41) :=
  ⟨3, 9, 12, [], ({ up with chans := [(12, { inRound := true }), (13, { verifyPending := true })] }), by decide +kernel⟩

theorem witness_Converters_27 : ∃ (c d h : Nat) (l : List Nat) (s : State),  (s.roundOf c = h :: l) ∧ ((s.adc c).safety = []) ∧ (l ≠ []) ∧ (h ∉ l) ∧ ((s.adcFailed c = true ∨ 41 < d)) :=
  ⟨3, 99, 12, [13], ({ up with chans := [(12, { inRound := true }), (13, { inRound := true })] }), by decide +kernel⟩

theorem witness_Converters_28 : ∃ (c d h : Nat) (l : List Nat) (s : State),  (s.roundOf c = h :: l) ∧ ((s.adc c).safety = []) ∧ (l = []) ∧ ((s.adcFailed c = true ∨ 41 < d)) :=
  ⟨3, 99, 12, [], ({ up with chans := [(12, { inRound := true })] }), by decide +kernel⟩

theorem witness_Converters_29 : ∃ (c d : Nat) (s : State),  ((s.roundOf c = [] ∨ (s.adc c).safety ≠ [])) :=
  ⟨3, 9, up, by decide +kernel⟩

theorem witness_Converters_30 : ∃ (r : Nat) (e : Nat × Nat) (s : State),  (s.booted = true) ∧ (r < 4) ∧ ((s.queue r).headD (0, 0) = e) :=
  ⟨2, ((77, 88)), ({ up with results := [(2, [(77, 88), (1, 2)])] }), by decide +kernel⟩

theorem witness_CalibrationEngine_1 : ∃ (k : Nat) (w : Work) (s : State),  (s.work? k = some w) ∧ (w.opcode = Op.calLoad) ∧ (w.stage = .routed) :=
  ⟨1, ((orderWork Op.calLoad .routed)), ((orderAt Op.calLoad .routed)), by decide +kernel⟩

theorem witness_CalibrationEngine_2 : ∃ (k : Nat) (w : Work) (s : State),  (s.work? k = some w) ∧ (w.opcode = Op.calLoad) ∧ (w.stage = .window) ∧ (s.calRun = none) ∧ (s.engineNext = some k) :=
  ⟨1, ((orderWork Op.calLoad .window)), ({ orderAt Op.calLoad .window with calQueue := [1] }), by decide +kernel⟩

theorem witness_CalibrationEngine_3 : ∃ (k : Nat) (w : Work) (s : State),  (s.work? k = some w) ∧ (w.opcode = Op.calSave) ∧ (w.stage = .routed) ∧ (s.calRun = none) ∧ (s.engineNext = some k) ∧ (w.body 40 4 < (s.saveImage w.calRows).length) :=
  ⟨1, ((orderWork Op.calSave .routed)), ({ orderAt Op.calSave .routed with calQueue := [1] }), by decide +kernel⟩

theorem witness_CalibrationEngine_4 : ∃ (k : Nat) (w : Work) (s : State),  (s.work? k = some w) ∧ (w.opcode = Op.calSave) ∧ (w.stage = .routed) ∧ (s.calRun = none) ∧ (s.engineNext = some k) ∧ ((s.saveImage w.calRows).length ≤ w.body 40 4) :=
  ⟨1, ({ orderWork Op.calSave .routed with ord := BitVec.ofNat 8 Op.calSave :: List.replicate 39 0#8 ++ [200#8] ++ List.replicate 23 0#8 }), ({ up with works := [(1, { orderWork Op.calSave .routed with ord := BitVec.ofNat 8 Op.calSave :: List.replicate 39 0#8 ++ [200#8] ++ List.replicate 23 0#8 })], calQueue := [1] }), by decide +kernel⟩

theorem witness_CalibrationEngine_5 : ∃ (k : Nat) (w : Work) (s : State),  ((s.calRun.isSome = true ∨ s.engineNext ≠ some k)) ∧ (s.work? k = some w) :=
  ⟨1, ((orderWork Op.calSave .routed)), ((orderAt Op.calSave .routed)), by decide +kernel⟩

theorem witness_CalibrationEngine_6 : ∃ (b : Bytes) (f : CalFail) (r : CalRun) (w : Work) (s : State),  (s.calRun = some r) ∧ (s.work? r.work = some w) ∧ (r.phase = .reading) ∧ (b.length = w.body 40 4) ∧ ((formatCheck b <|> s.deviceCheck b <|> scopeCheck b r.rows) = some f) :=
  ⟨[], ((1, 0, 0)), ({ work := 1, rows := [0], phase := .reading }), ((orderWork Op.calLoad .running)), ({ up with works := [(1, (orderWork Op.calLoad .running))], calRun := some { work := 1, rows := [0], phase := .reading } }), by decide +kernel⟩

theorem witness_CalibrationEngine_7 : ∃ (b : Bytes) (f : CalFail) (r : CalRun) (w : Work) (s : State),  (s.calRun = some r) ∧ (s.work? r.work = some w) ∧ (r.phase = .reading) ∧ (b.length = w.body 40 4) ∧ ((formatCheck b <|> s.deviceCheck b <|> scopeCheck b r.rows) = some f) ∧ (f.1 = 1) :=
  ⟨[], ((1, 0, 0)), ({ work := 1, rows := [0], phase := .reading }), ((orderWork Op.calLoad .running)), ({ up with works := [(1, (orderWork Op.calLoad .running))], calRun := some { work := 1, rows := [0], phase := .reading } }), by decide +kernel⟩

theorem witness_CalibrationEngine_8 : ∃ (b : Bytes) (r : CalRun) (w : Work) (s : State),  (s.calRun = some r) ∧ (s.work? r.work = some w) ∧ (r.phase = .reading) ∧ (b.length = w.body 40 4) ∧ (Bytes.le b 6 1 ≠ 1) :=
  ⟨[], ({ work := 1, rows := [0], phase := .reading }), ((orderWork Op.calLoad .running)), ({ up with works := [(1, (orderWork Op.calLoad .running))], calRun := some { work := 1, rows := [0], phase := .reading } }), by decide +kernel⟩

theorem witness_CalibrationEngine_9 : ∃ (b : Bytes) (r : CalRun) (w : Work) (s : State),  (s.calRun = some r) ∧ (s.work? r.work = some w) ∧ (r.phase = .reading) ∧ (b.length = w.body 40 4) ∧ ((formatCheck b <|> s.deviceCheck b <|> scopeCheck b r.rows) = none) ∧ (Bytes.le b 6 1 = 1) ∧ (Bytes.le b 26 1 ≠ 0) ∧ ((Bytes.le b 26 1 = 1 → ∀ x ∈ r.rows, s.watchOnRow x = false)) :=
  ⟨calProcImg, ({ work := 1, rows := [0], phase := .reading }), ({ orderWork Op.calLoad .running with ord := BitVec.ofNat 8 Op.calLoad :: List.replicate 39 0#8 ++ [64#8] ++ List.replicate 23 0#8 }), ({ up with works := [(1, { orderWork Op.calLoad .running with ord := BitVec.ofNat 8 Op.calLoad :: List.replicate 39 0#8 ++ [64#8] ++ List.replicate 23 0#8 })], calRun := some { work := 1, rows := [0], phase := .reading } }), by decide +kernel⟩

theorem witness_CalibrationEngine_10 : ∃ (b : Bytes) (x : Nat) (r : CalRun) (w : Work) (s : State),  (s.calRun = some r) ∧ (s.work? r.work = some w) ∧ (r.phase = .reading) ∧ (b.length = w.body 40 4) ∧ ((formatCheck b <|> s.deviceCheck b <|> scopeCheck b r.rows) = none) ∧ (Bytes.le b 6 1 = 1) ∧ (Bytes.le b 26 1 = 1) ∧ (r.rows.find? s.watchOnRow = some x) :=
  ⟨calProcImg, 0, ({ work := 1, rows := [0], phase := .reading }), ({ orderWork Op.calLoad .running with ord := BitVec.ofNat 8 Op.calLoad :: List.replicate 39 0#8 ++ [64#8] ++ List.replicate 23 0#8 }), ({ up with works := [(1, { orderWork Op.calLoad .running with ord := BitVec.ofNat 8 Op.calLoad :: List.replicate 39 0#8 ++ [64#8] ++ List.replicate 23 0#8 })], calRun := some { work := 1, rows := [0], phase := .reading }, watches := [(9, { slots := [{ slot := 0 }] })] }), by decide +kernel⟩

theorem witness_CalibrationEngine_11 : ∃ (r : CalRun) (m : List Int) (b : Bool) (v : Nat) (c : Nat) (s : State),  (s.calRun = some r) ∧ (r.phase = .measuring) ∧ (r.proc = 1) ∧ (r.edgesDone = true) ∧ ((rowChans r.rows).find? (s.edgeFailed r b v) = some c) :=
  ⟨({ work := 1, rows := [0], phase := .measuring, proc := 1, means := (List.range 64).map fun c => (c, List.replicate 256 (0, 5)) }), [], true, 2, 8, ({ up with works := [(1, orderWork Op.calLoad .running)], calRun := some { work := 1, rows := [0], phase := .measuring, proc := 1, means := (List.range 64).map fun c => (c, List.replicate 256 (0, 5)) } }), by decide +kernel⟩

theorem witness_CalibrationEngine_12 : ∃ (r : CalRun) (m : List Int) (b : Bool) (v : Nat) (s : State),  (s.calRun = some r) ∧ (r.phase = .measuring) ∧ (r.proc = 1) ∧ (r.edgesDone = true) ∧ ((rowChans r.rows).find? (s.edgeFailed r b v) = none) ∧ (let n := fun j => (Store.getD r.means ((rowChans r.rows).getD j 0) []).map Prod.fst; let l := ((rowChans r.rows).zipIdx).map fun p => (p.1, (s.calBusOff r.rows).mergeValues p.1 (fun f => decide (68 ≤ f.off)) ((List.range 32).map fun k => edgeInl (n p.2) k - recField ((s.calBusOff r.rows).factWord p.1) (68 + k) 1)); let e := (r.rows.zipIdx).map fun p => (p.1, unsigned ((n (64 * p.2 + 1)).getD 0 0) 32, unsigned (m.getD p.2 0) 16); ((∀ p ∈ (rowChans r.rows).zipIdx, ∀ f ∈ List.range 256, edgeResidual (n p.2) f ≤ 1024)) ∧ ((s.calBusOff r.rows).layerCheck l = none)) :=
  ⟨({ work := 1, rows := [], phase := .measuring, proc := 1 }), [], false, 0, ({ up with works := [(1, orderWork Op.calLoad .running)], calRun := some { work := 1, rows := [], phase := .measuring, proc := 1 } }), by decide +kernel⟩

theorem witness_CalibrationEngine_13 : ∃ (r : CalRun) (m : List Int) (b : Bool) (v : Nat) (f : CalFail) (s : State),  (s.calRun = some r) ∧ (r.phase = .measuring) ∧ (r.proc = 1) ∧ (r.edgesDone = true) ∧ ((rowChans r.rows).find? (s.edgeFailed r b v) = none) ∧ (let n := fun j => (Store.getD r.means ((rowChans r.rows).getD j 0) []).map Prod.fst; let l := ((rowChans r.rows).zipIdx).map fun p => (p.1, (s.calBusOff r.rows).mergeValues p.1 (fun f => decide (68 ≤ f.off)) ((List.range 32).map fun k => edgeInl (n p.2) k - recField ((s.calBusOff r.rows).factWord p.1) (68 + k) 1)); let e := (r.rows.zipIdx).map fun p => (p.1, unsigned ((n (64 * p.2 + 1)).getD 0 0) 32, unsigned (m.getD p.2 0) 16); ((s.calBusOff r.rows).layerCheck l = some f)) :=
  ⟨({ work := 1, rows := [0], phase := .measuring, proc := 1, means := (List.range 64).map fun c => (c, (List.range 256).map fun (f : Nat) => ((if c = 3 then 300 else 256) * (f : Int), 5)) }), [], false, 0, ((4, 3, 80)), ({ up with works := [(1, orderWork Op.calLoad .running)], calRun := some { work := 1, rows := [0], phase := .measuring, proc := 1, means := (List.range 64).map fun c => (c, (List.range 256).map fun (f : Nat) => ((if c = 3 then 300 else 256) * (f : Int), 5)) } }), by decide +kernel⟩

theorem witness_CalibrationEngine_14 : ∃ (r : CalRun) (m : List Int) (b : Bool) (v : Nat) (f : CalFail) (s : State),  (s.calRun = some r) ∧ (r.phase = .measuring) ∧ (r.proc = 1) ∧ (r.edgesDone = true) ∧ ((rowChans r.rows).find? (s.edgeFailed r b v) = none) ∧ (let n := fun j => (Store.getD r.means ((rowChans r.rows).getD j 0) []).map Prod.fst; let l := ((rowChans r.rows).zipIdx).map fun p => (p.1, (s.calBusOff r.rows).mergeValues p.1 (fun f => decide (68 ≤ f.off)) ((List.range 32).map fun k => edgeInl (n p.2) k - recField ((s.calBusOff r.rows).factWord p.1) (68 + k) 1)); let e := (r.rows.zipIdx).map fun p => (p.1, unsigned ((n (64 * p.2 + 1)).getD 0 0) 32, unsigned (m.getD p.2 0) 16); ((((rowChans r.rows).zipIdx).findSome? fun p => ((List.range 256).find? fun f => decide (1024 < edgeResidual (n p.2) f)).map fun f => ((9, p.1, 68 + f / 8) : CalFail)) = some f)) :=
  ⟨edgeW9, [], false, 0, ((9, 3, 68)), (({ up with works := [(1, orderWork Op.calLoad .running)], calRun := some edgeW9 })), by decide +kernel⟩

theorem witness_CalibrationEngine_15 : ∃ (r : CalRun) (m : List Int) (b : Bool) (v : Nat) (s : State),  (s.calRun = some r) ∧ (r.edgesDone = false) :=
  ⟨({ work := 1, rows := [0], phase := .measuring, proc := 1 }), [], false, 0, ({ up with works := [(1, (orderWork Op.calLoad .running))], calRun := some { work := 1, rows := [0], phase := .measuring, proc := 1 } }), by decide +kernel⟩

theorem witness_CalibrationEngine_16 : ∃ (r : CalRun) (m : List (List Int)) (e : List Nat) (s : State),  (s.calRun = some r) ∧ (r.phase = .measuring) ∧ (r.proc = 2) ∧ ((∀ c ∈ rowChans r.rows, s.adcFailed (c / 4) = false)) :=
  ⟨({ work := 1, rows := [], phase := .measuring, proc := 2 }), [], [], ({ up with works := [(1, orderWork Op.calLoad .running)], calRun := some { work := 1, rows := [], phase := .measuring, proc := 2 } }), by decide +kernel⟩

theorem witness_CalibrationEngine_17 : ∃ (r : CalRun) (m : List (List Int)) (e : List Nat) (b : Bool) (s : State),  (s.calRun = some r) ∧ (r.phase = .measuring) ∧ (r.proc = 2) ∧ ((∃ c ∈ rowChans r.rows, s.adcFailed (c / 4) = true)) :=
  ⟨({ work := 1, rows := [0], phase := .measuring, proc := 2 }), [], [], false, ({ up.set F.ADC_FAILED_w_FAILED 8 0 with works := [(1, orderWork Op.calLoad .running)], calRun := some { work := 1, rows := [0], phase := .measuring, proc := 2 } }), by decide +kernel⟩

theorem witness_CalibrationEngine_18 : ∃ (r : CalRun) (m : List (List Int)) (e : List Nat) (s : State),  (s.calRun = some r) ∧ (r.phase = .measuring) ∧ (r.proc = 2) ∧ ((∀ c ∈ rowChans r.rows, s.adcFailed (c / 4) = false)) ∧ (let l := ((rowChans r.rows).zipIdx).map fun p => (p.1, (s.calBusOff r.rows).mergeValues p.1 (fun f => decide (8 ≤ f.off) && decide (f.off < 44)) (m.getD p.2 [])); ((∀ p ∈ (rowChans r.rows).zipIdx, e.getD p.2 0 ≤ 1000)) ∧ ((s.calBusOff r.rows).layerCheck l = none)) :=
  ⟨({ work := 1, rows := [], phase := .measuring, proc := 2 }), [], [], ({ up with works := [(1, orderWork Op.calLoad .running)], calRun := some { work := 1, rows := [], phase := .measuring, proc := 2 } }), by decide +kernel⟩

theorem witness_CalibrationEngine_19 : ∃ (r : CalRun) (m : List (List Int)) (e : List Nat) (f : CalFail) (s : State),  (s.calRun = some r) ∧ (r.phase = .measuring) ∧ (r.proc = 2) ∧ ((∀ c ∈ rowChans r.rows, s.adcFailed (c / 4) = false)) ∧ (let l := ((rowChans r.rows).zipIdx).map fun p => (p.1, (s.calBusOff r.rows).mergeValues p.1 (fun f => decide (8 ≤ f.off) && decide (f.off < 44)) (m.getD p.2 [])); ((s.calBusOff r.rows).layerCheck l = some f)) :=
  ⟨({ work := 1, rows := [0], phase := .measuring, proc := 2 }), ((List.replicate 64 (List.replicate 17 30000))), [], ((4, 0, 8)), ({ up with works := [(1, orderWork Op.calLoad .running)], calRun := some { work := 1, rows := [0], phase := .measuring, proc := 2 } }), by decide +kernel⟩

theorem witness_CalibrationEngine_20 : ∃ (r : CalRun) (m : List (List Int)) (e : List Nat) (j d : Nat) (s : State),  (s.calRun = some r) ∧ (r.phase = .measuring) ∧ (r.proc = 2) ∧ ((∀ c ∈ rowChans r.rows, s.adcFailed (c / 4) = false)) ∧ (let l := ((rowChans r.rows).zipIdx).map fun p => (p.1, (s.calBusOff r.rows).mergeValues p.1 (fun f => decide (8 ≤ f.off) && decide (f.off < 44)) (m.getD p.2 [])); (((rowChans r.rows).zipIdx).find? (fun p => decide (1000 < e.getD p.2 0)) = some (j, d))) :=
  ⟨({ work := 1, rows := [0], phase := .measuring, proc := 2 }), ((List.replicate 64 (List.replicate 17 0))), ([1, 2000]), 1, 1, ({ up with works := [(1, orderWork Op.calLoad .running)], calRun := some { work := 1, rows := [0], phase := .measuring, proc := 2 } }), by decide +kernel⟩

theorem witness_CalibrationEngine_21 : ∃ (r : CalRun) (m : List (List Int)) (e : List Nat) (s : State),  (s.calRun = some r) ∧ (r.phase = .measuring) ∧ (r.proc = 3) ∧ ((∀ c ∈ rowChans r.rows, s.adcFailed (c / 4) = false)) :=
  ⟨({ work := 1, rows := [], phase := .measuring, proc := 3 }), [], [], ({ up with works := [(1, orderWork Op.calLoad .running)], calRun := some { work := 1, rows := [], phase := .measuring, proc := 3 } }), by decide +kernel⟩

theorem witness_CalibrationEngine_22 : ∃ (r : CalRun) (m : List (List Int)) (e : List Nat) (b : Bool) (s : State),  (s.calRun = some r) ∧ (r.phase = .measuring) ∧ (r.proc = 3) ∧ ((∃ c ∈ rowChans r.rows, s.adcFailed (c / 4) = true)) :=
  ⟨({ work := 1, rows := [0], phase := .measuring, proc := 3 }), [], [], false, ({ up.set F.ADC_FAILED_w_FAILED 8 0 with works := [(1, orderWork Op.calLoad .running)], calRun := some { work := 1, rows := [0], phase := .measuring, proc := 3 } }), by decide +kernel⟩

theorem witness_CalibrationEngine_23 : ∃ (r : CalRun) (m : List (List Int)) (e : List Nat) (s : State),  (s.calRun = some r) ∧ (r.phase = .measuring) ∧ (r.proc = 3) ∧ ((∀ c ∈ rowChans r.rows, s.adcFailed (c / 4) = false)) ∧ (let l := ((rowChans r.rows).zipIdx).map fun p => (p.1, (s.calBusOff r.rows).mergeValues p.1 (fun f => decide (44 ≤ f.off) && decide (f.off < 68)) (m.getD p.2 [])); ((∀ p ∈ (rowChans r.rows).zipIdx, e.getD p.2 0 ≤ 4)) ∧ ((s.calBusOff r.rows).layerCheck l = none)) :=
  ⟨({ work := 1, rows := [], phase := .measuring, proc := 3 }), [], [], ({ up with works := [(1, orderWork Op.calLoad .running)], calRun := some { work := 1, rows := [], phase := .measuring, proc := 3 } }), by decide +kernel⟩

theorem witness_CalibrationEngine_24 : ∃ (r : CalRun) (m : List (List Int)) (e : List Nat) (f : CalFail) (s : State),  (s.calRun = some r) ∧ (r.phase = .measuring) ∧ (r.proc = 3) ∧ ((∀ c ∈ rowChans r.rows, s.adcFailed (c / 4) = false)) ∧ (let l := ((rowChans r.rows).zipIdx).map fun p => (p.1, (s.calBusOff r.rows).mergeValues p.1 (fun f => decide (44 ≤ f.off) && decide (f.off < 68)) (m.getD p.2 [])); ((s.calBusOff r.rows).layerCheck l = some f)) :=
  ⟨({ work := 1, rows := [0], phase := .measuring, proc := 3 }), ((List.replicate 64 (List.replicate 17 30000))), [], ((4, 0, 44)), ({ up with works := [(1, orderWork Op.calLoad .running)], calRun := some { work := 1, rows := [0], phase := .measuring, proc := 3 } }), by decide +kernel⟩

theorem witness_CalibrationEngine_25 : ∃ (r : CalRun) (m : List (List Int)) (e : List Nat) (j d : Nat) (s : State),  (s.calRun = some r) ∧ (r.phase = .measuring) ∧ (r.proc = 3) ∧ ((∀ c ∈ rowChans r.rows, s.adcFailed (c / 4) = false)) ∧ (let l := ((rowChans r.rows).zipIdx).map fun p => (p.1, (s.calBusOff r.rows).mergeValues p.1 (fun f => decide (44 ≤ f.off) && decide (f.off < 68)) (m.getD p.2 [])); (((rowChans r.rows).zipIdx).find? (fun p => decide (4 < e.getD p.2 0)) = some (j, d))) :=
  ⟨({ work := 1, rows := [0], phase := .measuring, proc := 3 }), ((List.replicate 64 (List.replicate 17 0))), ([1, 2000]), 1, 1, ({ up with works := [(1, orderWork Op.calLoad .running)], calRun := some { work := 1, rows := [0], phase := .measuring, proc := 3 } }), by decide +kernel⟩

theorem witness_CalibrationEngine_26 : ∃ (r : CalRun) (w : Work) (s : State),  (s.calRun = some r) ∧ (s.work? r.work = some w) ∧ (r.phase = .accepted) ∧ ((r.layer.map Prod.fst).Nodup) ∧ (((r.layer.filter fun p => rampsFor (s.userValues p.1) p.2 || !s.bit F.CHn_STATUS_SETTLED p.1 || (s.chan p.1).phase != .idle).map Prod.fst) = []) :=
  ⟨({ work := 1, rows := [0], phase := .accepted, layer := [(7, calFields.map fun _ => 0)] }), ((orderWork Op.calLoad .running)), ({ (up.setBit F.CHn_STATUS_SETTLED 7) with works := [(1, orderWork Op.calLoad .running)], calRun := some { work := 1, rows := [0], phase := .accepted, layer := [(7, calFields.map fun _ => 0)] } }), by decide +kernel⟩

theorem witness_CalibrationEngine_27 : ∃ (r : CalRun) (w : Work) (s : State),  (s.calRun = some r) ∧ (s.work? r.work = some w) ∧ (r.phase = .accepted) ∧ ((r.layer.map Prod.fst).Nodup) ∧ (((r.layer.filter fun p => rampsFor (s.userValues p.1) p.2 || !s.bit F.CHn_STATUS_SETTLED p.1 || (s.chan p.1).phase != .idle).map Prod.fst) ≠ []) :=
  ⟨({ work := 1, rows := [0], phase := .accepted, layer := [(7, (calFields.map fun f => if f.off = 12 then 3 else 0))] }), ((orderWork Op.calLoad .running)), ({ (up.setBit F.CHn_STATUS_SETTLED 7) with works := [(1, orderWork Op.calLoad .running)], calRun := some { work := 1, rows := [0], phase := .accepted, layer := [(7, (calFields.map fun f => if f.off = 12 then 3 else 0))] } }), by decide +kernel⟩

theorem witness_CalibrationEngine_28 : ∃ s : State,  ((∀ r, s.calRun = some r → r.phase ≠ .accepted)) :=
  ⟨up, by decide +kernel⟩

theorem witness_FaultCollector_1 : ∃ s : State,  (s.detections = []) :=
  ⟨up, by decide +kernel⟩

theorem witness_FaultCollector_2 : ∃ (d : Detection) (s : State),  (lowestSource s.detections = some d) ∧ (s.bit F.FLT_STATUS_HANDLING = false) ∧ (s.bit F.FLT_STATUS_FIRST_VALID = false) :=
  ⟨({ kind := 5, cause := 0x223, source := 0x620 }), ({ up with detections := [{ kind := 5, cause := 0x223, source := 0x620 }] }), by decide +kernel⟩

theorem witness_FaultCollector_3 : ∃ (d : Detection) (s : State),  (lowestSource s.detections = some d) ∧ (s.bit F.FLT_STATUS_HANDLING = true) ∧ ((s.firstAt .FLT_FIRST_TIME_0 .FLT_FIRST_TIME_1 .FLT_FIRST_TIME_2 = s.fr80 ∧ d.source < s.get F.FLT_FIRST_SOURCE)) :=
  ⟨({ kind := 5, cause := 0x223, source := 0x000 }), ({ ((up.setBit F.FLT_STATUS_HANDLING).set F.FLT_FIRST_SOURCE 0x620) with detections := [{ kind := 5, cause := 0x223, source := 0x000 }] }), by decide +kernel⟩

theorem witness_FaultCollector_4 : ∃ (d : Detection) (s : State),  (lowestSource s.detections = some d) ∧ (s.bit F.FLT_STATUS_HANDLING = true) ∧ (¬(s.firstAt .FLT_FIRST_TIME_0 .FLT_FIRST_TIME_1 .FLT_FIRST_TIME_2 = s.fr80 ∧ d.source < s.get F.FLT_FIRST_SOURCE)) :=
  ⟨({ kind := 5, cause := 0x223, source := 0x620 }), ({ (up.setBit F.FLT_STATUS_HANDLING) with detections := [{ kind := 5, cause := 0x223, source := 0x620 }] }), by decide +kernel⟩

theorem witness_FaultCollector_5 : ∃ (d : Detection) (x : Tu) (s : State),  (lowestSource s.detections = some d) ∧ (s.bit F.FLT_STATUS_HANDLING = false) ∧ (s.bit F.FLT_STATUS_FIRST_VALID = true) ∧ (s.handledAt = some x) ∧ (d.at_ ≤ x) :=
  ⟨({ kind := 5, cause := 0x223, source := 0x620 }), 9, ({ (up.setBit F.FLT_STATUS_FIRST_VALID) with detections := [{ kind := 5, cause := 0x223, source := 0x620 }], handledAt := some 9 }), by decide +kernel⟩

theorem witness_FaultCollector_6 : ∃ (d : Detection) (s : State),  (lowestSource s.detections = some d) ∧ (s.bit F.FLT_STATUS_HANDLING = false) ∧ (s.bit F.FLT_STATUS_FIRST_VALID = true) ∧ ((∀ x, s.handledAt = some x → x < d.at_)) :=
  ⟨({ kind := 5, cause := 0x223, source := 0x620 }), ({ (up.setBit F.FLT_STATUS_FIRST_VALID) with detections := [{ kind := 5, cause := 0x223, source := 0x620 }] }), by decide +kernel⟩

theorem witness_FaultCollector_7 : ∃ (d : Detection) (s : State),  (lowestSource s.detections = some d) ∧ (kindSafe d.kind d.source = false) ∧ (s.works = []) ∧ (d.works = []) ∧ (s.bit F.FLT_STATUS_HANDLING = false) ∧ (s.bit F.FLT_STATUS_FIRST_VALID = false) :=
  ⟨({ kind := 5, cause := 0x223, source := 0x620 }), ({ up with detections := [{ kind := 5, cause := 0x223, source := 0x620 }] }), by decide +kernel⟩

theorem witness_FaultCollector_8 : ∃ s : State,  (s.bit F.FLT_STATUS_HANDLING = true) ∧ (s.firstSafe = true) ∧ (s.bit F.FLT_STATUS_SAFE = true) :=
  ⟨((((up.setBit F.FLT_STATUS_HANDLING).setBit F.FLT_STATUS_SAFE).set F.FLT_FIRST_KIND 1)), by decide +kernel⟩

theorem witness_FaultCollector_9 : ∃ s : State,  (s.bit F.FLT_STATUS_HANDLING = true) ∧ (s.firstSafe = false) ∧ ((s.seqs.any fun p => p.2.notice.isSome) = false) :=
  ⟨((up.setBit F.FLT_STATUS_HANDLING)), by decide +kernel⟩

theorem witness_FaultCollector_10 : ∃ s : State,  ((s.bit F.FLT_STATUS_HANDLING = false ∨ (s.firstSafe = true ∧ s.bit F.FLT_STATUS_SAFE = false) ∨ (s.firstSafe = false ∧ (s.seqs.any fun p => p.2.notice.isSome) = true))) :=
  ⟨up, by decide +kernel⟩

theorem witness_FaultCollector_11 : ∃ (t : Tu) (s : State),  (s.safeEntry = some t) ∧ (s.fr ≤ t + 20480000) :=
  ⟨0, ({ up with safeEntry := some 0 }), by decide +kernel⟩

theorem witness_FaultCollector_12 : ∃ (s : State),  ((∀ t, s.safeEntry = some t → t + 20480000 < s.fr)) :=
  ⟨({ up with safeEntry := some 0, fr := 20480001 }), by decide +kernel⟩

theorem witness_FaultCollector_13 : ∃ (t : Tu) (s : State),  (s.safeEntry = some t) :=
  ⟨0, ({ up with safeEntry := some 0 }), by decide +kernel⟩

theorem witness_FaultCollector_14 : ∃ s : State,  (s.safeEntry = none) :=
  ⟨up, by decide +kernel⟩

theorem witness_FaultCollector_15 : ∃ (a : Bool) (s : State),  (s.booted = true) ∧ (s.bit F.FLT_STATUS_FIRST_VALID = false) :=
  ⟨true, up, by decide +kernel⟩

theorem witness_FaultCollector_16 : ∃ (a : Bool) (s : State),  (s.booted = true) ∧ (s.bit F.FLT_STATUS_FIRST_VALID = true) ∧ ((s.bit F.FLT_STATUS_HANDLING = true ∨ s.safeEntry.isSome = true)) :=
  ⟨true, (((up.setBit F.FLT_STATUS_FIRST_VALID).setBit F.FLT_STATUS_HANDLING)), by decide +kernel⟩

theorem witness_FaultCollector_17 : ∃ (a : Bool) (s : State),  (s.booted = true) ∧ (s.bit F.FLT_STATUS_FIRST_VALID = true) ∧ (s.bit F.FLT_STATUS_HANDLING = false) ∧ (s.safeEntry = none) ∧ ((a = true ∨ s.asserts (s.get F.FLT_FIRST_SOURCE) = true ∨ (s.bit F.FLT_STATUS_OVERFLOW = true ∧ s.asserts (s.get F.FLT_LATER_LAST_SOURCE) = true))) :=
  ⟨false, (((up.setBit F.FLT_STATUS_FIRST_VALID).set F.FLT_FIRST_SOURCE 0x600)), by decide +kernel⟩

theorem witness_FaultCollector_18 : ∃ (a : Bool) (s : State),  (s.booted = true) ∧ (s.bit F.FLT_STATUS_FIRST_VALID = true) ∧ (s.bit F.FLT_STATUS_HANDLING = false) ∧ (s.safeEntry = none) ∧ (¬(a = true ∨ s.asserts (s.get F.FLT_FIRST_SOURCE) = true ∨ (s.bit F.FLT_STATUS_OVERFLOW = true ∧ s.asserts (s.get F.FLT_LATER_LAST_SOURCE) = true))) :=
  ⟨false, ((up.setBit F.FLT_STATUS_FIRST_VALID)), by decide +kernel⟩

theorem witness_DisablesAndSupplyDips_1 : ∃ s : State,  (s.booted = true) :=
  ⟨up, by decide +kernel⟩

theorem witness_DisablesAndSupplyDips_2 : ∃ (f : Nat) (s : State),  (s.booted = true) ∧ (f < 64) ∧ (s.bit F.FLT_DISABLE_STATUS_BUSY = true) ∧ (s.get F.FLT_DISABLE_STATUS_FN ≠ f) :=
  ⟨4, disablingS, by decide +kernel⟩

theorem witness_DisablesAndSupplyDips_3 : ∃ (f : Nat) (s : State),  (s.booted = true) ∧ (f < 64) ∧ ((s.bit F.FLT_DISABLE_STATUS_BUSY = true → s.get F.FLT_DISABLE_STATUS_FN = f)) ∧ ((s.func f).disabling = true) :=
  ⟨3, disablingS, by decide +kernel⟩

theorem witness_DisablesAndSupplyDips_4 : ∃ (f : Nat) (s : State),  (s.booted = true) ∧ (f < 64) ∧ ((s.bit F.FLT_DISABLE_STATUS_BUSY = true → s.get F.FLT_DISABLE_STATUS_FN = f)) ∧ ((s.func f).disabling = false) :=
  ⟨3, up, by decide +kernel⟩

theorem witness_DisablesAndSupplyDips_5 : ∃ (f : Nat) (s : State),  (((s.func f).disabling = false ∨ (s.works.any fun p => p.2.fn == f && !p.2.disables f) = true)) :=
  ⟨3, up, by decide +kernel⟩

theorem witness_DisablesAndSupplyDips_6 : ∃ (f : Nat) (s : State),  ((s.func f).disabling = true) ∧ ((s.works.any fun p => p.2.fn == f && !p.2.disables f) = false) :=
  ⟨3, ({ (up.setBit F.FLT_DISABLE_STATUS_BUSY).set F.FLT_DISABLE_STATUS_FN 3 with funcs := [(3, { present := true, disabling := true, voided := 2 })], works := [(1, { orderWork Op.disable .running with fn := 3, ord := BitVec.ofNat 8 Op.disable :: (List.replicate 31 0#8 ++ [3#8] ++ List.replicate 31 0#8) })] }), by decide +kernel⟩

theorem witness_DisablesAndSupplyDips_7 : ∃ (f : Nat) (s : State),  ((s.func f).disabling = true) ∧ (s.works = []) ∧ (s.stalls = []) ∧ (s.bit F.FLT_DISABLE_STATUS_BUSY = true) ∧ (s.get F.FLT_DISABLE_STATUS_FN = f) :=
  ⟨3, disablingS, by decide +kernel⟩

theorem witness_DisablesAndSupplyDips_8 : ∃ (r : Nat) (s : State),  (r < 5) ∧ (s.bit ⟨.FLT_SUPPLY, 16 + r, 1⟩ = false) :=
  ⟨2, up, by decide +kernel⟩

theorem witness_DisablesAndSupplyDips_9 : ∃ (r : Nat) (s : State),  ((5 ≤ r ∨ s.bit ⟨.FLT_SUPPLY, 16 + r, 1⟩ = true)) :=
  ⟨5, up, by decide +kernel⟩

theorem witness_DisablesAndSupplyDips_10 : ∃ (r : Nat) (lo : Int) (s : State),  (r < 5) ∧ (s.bit ⟨.FLT_SUPPLY, 16 + r, 1⟩ = true) :=
  ⟨2, 3300, ((up.setBit ⟨.FLT_SUPPLY, 18, 1⟩)), by decide +kernel⟩

theorem witness_DisablesAndSupplyDips_11 : ∃ (r : Nat) (lo : Int) (s : State),  ((5 ≤ r ∨ s.bit ⟨.FLT_SUPPLY, 16 + r, 1⟩ = false)) :=
  ⟨2, 3300, up, by decide +kernel⟩

theorem witness_DisablesAndSupplyDips_12 : ∃ (t : Tu) (s : State),  (s.holdEnd = some t) :=
  ⟨9, ({ up with holdEnd := some 9 }), by decide +kernel⟩

theorem witness_DisablesAndSupplyDips_13 : ∃ s : State,  (s.holdEnd = none) :=
  ⟨up, by decide +kernel⟩

theorem witness_LedgerKeeping_1 : ∃ s : State,  (s.ledgerEvents = []) :=
  ⟨up, by decide +kernel⟩

theorem witness_LedgerKeeping_2 : ∃ (e : LedgerEv) (s : State),  (nextLedgerEvent s.ledgerEvents = some e) ∧ ((s.ledgQueue.length < 64 ∨ e.reserved = true)) ∧ (s.bit F.LEDG_STATUS_WARN = false) :=
  ⟨({ code := 1, source := 0, aux := 0, data := 0 }), ({ up with ledgerEvents := [{ code := 1, source := 0, aux := 0, data := 0 }] }), by decide +kernel⟩

theorem witness_LedgerKeeping_3 : ∃ (e : LedgerEv) (s : State),  (nextLedgerEvent s.ledgerEvents = some e) ∧ (((64 ≤ s.ledgQueue.length ∧ e.reserved = false) ∨ s.bit F.LEDG_STATUS_WARN = true)) :=
  ⟨({ code := 1, source := 0, aux := 0, data := 0 }), ({ up.setBit F.LEDG_STATUS_WARN with ledgerEvents := [{ code := 1, source := 0, aux := 0, data := 0 }] }), by decide +kernel⟩

theorem witness_LedgerKeeping_4 : ∃ s : State,  ((s.ledgQueue = [] ∨ s.ledgWrite.isSome = true ∨ s.ledgTorn.isSome = true ∨ s.bit F.LEDG_STATUS_WARN = true)) :=
  ⟨up, by decide +kernel⟩

theorem witness_LedgerKeeping_5 : ∃ (e : LedgerEv) (es : List LedgerEv) (s : State),  (s.ledgQueue = e :: es) ∧ (s.ledgWrite = none) ∧ (s.ledgTorn = none) ∧ (s.bit F.LEDG_STATUS_WARN = false) ∧ (e.reserved = true) :=
  ⟨({ code := 1, source := 0, aux := 0, data := 0, reserved := true }), [], ({ up with ledgQueue := [{ code := 1, source := 0, aux := 0, data := 0, reserved := true }] }), by decide +kernel⟩

theorem witness_LedgerKeeping_6 : ∃ (e : LedgerEv) (es : List LedgerEv) (s : State),  (s.ledgQueue = e :: es) ∧ (s.ledgWrite = none) ∧ (s.ledgTorn = none) ∧ (s.bit F.LEDG_STATUS_WARN = false) ∧ (e.reserved = false) ∧ (s.bit F.LEDG_STATUS_FULL = false) ∧ (s.folds e = true) :=
  ⟨({ code := 0x21, source := 0x904, aux := 0, data := 0 }), [], ({ { up with ledgQueue := [{ code := 0x21, source := 0x904, aux := 0, data := 0 }] } with ledgRecs := [mkRecord (State.reset.recordHead { code := 0x21, source := 0x904, aux := 0, data := 0 }) 1 0xA55A] }), by decide +kernel⟩

theorem witness_LedgerKeeping_7 : ∃ (e : LedgerEv) (es : List LedgerEv) (s : State),  (s.ledgQueue = e :: es) ∧ (s.ledgWrite = none) ∧ (s.ledgTorn = none) ∧ (s.bit F.LEDG_STATUS_WARN = false) ∧ (e.reserved = false) ∧ (s.bit F.LEDG_STATUS_FULL = false) ∧ (s.folds e = false) ∧ (s.ledgerFree ≠ 0) :=
  ⟨({ code := 1, source := 0, aux := 0, data := 0 }), [], ({ up with ledgQueue := [{ code := 1, source := 0, aux := 0, data := 0 }] }), by decide +kernel⟩

theorem witness_LedgerKeeping_8 : ∃ (e : LedgerEv) (es : List LedgerEv) (s : State),  (s.ledgQueue = e :: es) ∧ (s.ledgWrite = none) ∧ (s.ledgTorn = none) ∧ (s.bit F.LEDG_STATUS_WARN = false) ∧ (e.reserved = false) ∧ ((s.bit F.LEDG_STATUS_FULL = true ∨ (s.folds e = false ∧ s.ledgerFree = 0))) :=
  ⟨({ code := 1, source := 0, aux := 0, data := 0 }), [], ({ up.setBit F.LEDG_STATUS_FULL with ledgQueue := [{ code := 1, source := 0, aux := 0, data := 0 }] }), by decide +kernel⟩

theorem witness_LedgerKeeping_9 : ∃ s : State,  (s.ledgWrite = none) :=
  ⟨up, by decide +kernel⟩

theorem witness_LedgerKeeping_10 : ∃ (w : LedgerWrite) (s : State),  (s.ledgWrite = some w) ∧ (w.reserved = false) :=
  ⟨({ words := erased }), ({ up with ledgWrite := some { words := erased } }), by decide +kernel⟩

theorem witness_LedgerKeeping_11 : ∃ (w : LedgerWrite) (s : State),  (s.ledgWrite = some w) ∧ (w.reserved = true) :=
  ⟨({ words := erased, reserved := true }), ({ up.set F.LEDG_FREE_RESERVED 1 with ledgWrite := some { words := erased, reserved := true } }), by decide +kernel⟩

theorem witness_LedgerKeeping_13 : ∃ s : State,  (s.bit F.LEDG_STATUS_WARN = false) :=
  ⟨({ up with ledgQueue := [{ code := 1, source := 0, aux := 0, data := 0 }] }), by decide +kernel⟩

theorem witness_LedgerKeeping_14 : ∃ s : State,  (s.bit F.LEDG_STATUS_WARN = true) :=
  ⟨((up.setBit F.LEDG_STATUS_WARN)), by decide +kernel⟩

theorem witness_LedgerKeeping_15 : ∃ s : State,  (s.booted = true) ∧ ((s.get F.LEDG_READ_IDX_INDEX) < s.ledgRecs.length) ∧ (((s.ledgWrite.any (·.update)) = true → (s.get F.LEDG_READ_IDX_INDEX) + 1 ≠ s.ledgRecs.length)) :=
  ⟨({ up with ledgRecs := [erased] }), by decide +kernel⟩

theorem witness_LedgerKeeping_16 : ∃ s : State,  (s.booted = true) ∧ ((s.get F.LEDG_READ_IDX_INDEX) + 1 = s.ledgRecs.length) ∧ ((s.ledgWrite.any (·.update)) = true) :=
  ⟨({ up with ledgRecs := [erased], ledgWrite := some { words := erased, update := true } }), by decide +kernel⟩

theorem witness_LedgerKeeping_17 : ∃ (w : LedgerWrite) (s : State),  (s.booted = true) ∧ ((s.get F.LEDG_READ_IDX_INDEX) = s.ledgRecs.length) ∧ (s.ledgWrite = some w) ∧ (w.update = false) ∧ (6 ≤ w.words.length) :=
  ⟨({ words := erased }), ({ up with ledgWrite := some { words := erased } }), by decide +kernel⟩

theorem witness_LedgerKeeping_18 : ∃ s : State,  (s.booted = true) ∧ (s.ledgRecs.length ≤ (s.get F.LEDG_READ_IDX_INDEX)) ∧ (((s.get F.LEDG_READ_IDX_INDEX) = s.ledgRecs.length → ∀ w, s.ledgWrite = some w → w.update = true)) :=
  ⟨up, by decide +kernel⟩

theorem witness_PowerStates_1 : ∃ s : State,  (s.booted = false) :=
  ⟨State.reset, by decide +kernel⟩

theorem witness_PowerStates_2 : ∃ s : State,  (s.booted = true) ∧ (s.bit F.PWR_STATUS_EXITING = true) :=
  ⟨((up.setBit F.PWR_STATUS_EXITING)), by decide +kernel⟩

theorem witness_PowerStates_3 : ∃ s : State,  (s.booted = true) ∧ (s.bit F.PWR_STATUS_EXITING = false) ∧ (¬ s.get F.PWR_STATUS_STATE < s.deepest) :=
  ⟨((up.set F.PWR_STATUS_STATE 4)), by decide +kernel⟩

theorem witness_PowerStates_4 : ∃ s : State,  (s.booted = true) ∧ (s.bit F.PWR_STATUS_EXITING = false) ∧ (s.get F.PWR_STATUS_STATE < s.deepest) ∧ (s.deepest < 4) :=
  ⟨(((up.set F.PWR_LTR_LTR 1000).set F.PWR_POLICY_MAX_STATE 1)), by decide +kernel⟩

theorem witness_PowerStates_5 : ∃ s : State,  (s.booted = true) ∧ (s.bit F.PWR_STATUS_EXITING = false) ∧ (s.get F.PWR_STATUS_STATE < s.deepest) ∧ (s.deepest < 4) :=
  ⟨(((up.set F.PWR_LTR_LTR 1000).set F.PWR_POLICY_MAX_STATE 1)), by decide +kernel⟩

theorem witness_PowerStates_6 : ∃ s : State,  (s.booted = true) ∧ (s.bit F.PWR_STATUS_EXITING = false) ∧ (s.get F.PWR_STATUS_STATE < s.deepest) ∧ (s.deepest = 4) :=
  ⟨({ (((up.set F.PWR_LTR_LTR 500000).set F.PWR_POLICY_MAX_STATE 4).setBit F.PWR_STATUS_P4_PENDING) with p4Req := some 0 }), by decide +kernel⟩

theorem witness_PowerStates_7 : ∃ (p : Bool) (s : State),  ((s.booted = false ∨ s.get F.PWR_STATUS_STATE = 0 ∨ 4 ≤ s.get F.PWR_STATUS_STATE ∨ s.bit F.PWR_STATUS_EXITING = true)) :=
  ⟨true, up, by decide +kernel⟩

theorem witness_PowerStates_8 : ∃ (p : Bool) (s : State),  (s.booted = true) ∧ ((s.get F.PWR_STATUS_STATE = 1 ∨ s.get F.PWR_STATUS_STATE = 2)) ∧ (s.bit F.PWR_STATUS_EXITING = false) ∧ ((p = true → earliest s.pendingInstants = none)) :=
  ⟨false, ((up.set F.PWR_STATUS_STATE 2)), by decide +kernel⟩

theorem witness_PowerStates_9 : ∃ (d : Tu) (s : State),  (s.booted = true) ∧ ((s.get F.PWR_STATUS_STATE = 1 ∨ s.get F.PWR_STATUS_STATE = 2)) ∧ (s.bit F.PWR_STATUS_EXITING = false) ∧ (earliest s.pendingInstants = some d) :=
  ⟨204800000, ({ (orderAt 12 .waiting).set F.PWR_STATUS_STATE 2 with works := [(1, { orderWork 12 .waiting with release := 204800000 })] }), by decide +kernel⟩

theorem witness_PowerStates_10 : ∃ (p : Bool) (s : State),  (s.booted = true) ∧ (s.get F.PWR_STATUS_STATE = 3) ∧ (s.bit F.PWR_STATUS_EXITING = false) ∧ ((p = true → earliest s.pendingInstants = none)) :=
  ⟨false, ((up.set F.PWR_STATUS_STATE 3)), by decide +kernel⟩

theorem witness_PowerStates_11 : ∃ (d : Tu) (s : State),  (s.booted = true) ∧ (s.get F.PWR_STATUS_STATE = 3) ∧ (s.bit F.PWR_STATUS_EXITING = false) ∧ (earliest s.pendingInstants = some d) :=
  ⟨9000000000, ({ (orderAt 12 .waiting).set F.PWR_STATUS_STATE 3 with works := [(1, { orderWork 12 .waiting with release := 9000000000 })] }), by decide +kernel⟩

theorem witness_PowerStates_12 : ∃ s : State,  ((s.bit F.PWR_STATUS_EXITING = false ∨ s.sref ≠ .none_ ∨ (3 ≤ s.get F.PWR_STATUS_STATE ∧ s.rowsReady = false))) :=
  ⟨up, by decide +kernel⟩

theorem witness_PowerStates_13 : ∃ s : State,  (s.bit F.PWR_STATUS_EXITING = true) ∧ (s.sref = .none_) ∧ ((s.get F.PWR_STATUS_STATE < 3 ∨ s.rowsReady = true)) :=
  ⟨((up.setBit F.PWR_STATUS_EXITING)), by decide +kernel⟩

theorem witness_PowerStates_14 : ∃ s : State,  (s.booted = false) :=
  ⟨State.reset, by decide +kernel⟩

theorem witness_PowerStates_15 : ∃ s : State,  (s.booted = true) ∧ (s.bit F.PWR_STATUS_P4_PENDING = false) :=
  ⟨up, by decide +kernel⟩

theorem witness_PowerStates_16 : ∃ s : State,  (s.booted = true) ∧ (s.bit F.PWR_STATUS_P4_PENDING = true) :=
  ⟨({ up.setBit F.PWR_STATUS_P4_PENDING with p4Req := some 0 }), by decide +kernel⟩

theorem witness_PowerStates_17 : ∃ (t : Tu) (s : State),  (s.p4Req = some t) :=
  ⟨7, ({ up with p4Req := some 7 }), by decide +kernel⟩

theorem witness_PowerStates_18 : ∃ s : State,  (s.p4Req = none) :=
  ⟨up, by decide +kernel⟩

theorem witness_PowerStates_19 : ∃ s : State,  (s.get F.PWR_STATUS_STATE = 4) ∧ (s.bit F.PWR_WAKE_1_EN = true) ∧ (s.inReset = none) :=
  ⟨(((up.set F.PWR_STATUS_STATE 4).setBit F.PWR_WAKE_1_EN)), by decide +kernel⟩

theorem witness_PowerStates_20 : ∃ s : State,  ((s.get F.PWR_STATUS_STATE ≠ 4 ∨ s.bit F.PWR_WAKE_1_EN = false ∨ s.inReset ≠ none)) :=
  ⟨up, by decide +kernel⟩

theorem witness_RowsVoltageAndPace_1 : ∃ (v : Word) (s : State),  (s.booted = false) :=
  ⟨1, State.reset, by decide +kernel⟩

theorem witness_RowsVoltageAndPace_2 : ∃ (v : Word) (s : State),  (s.booted = true) ∧ (((((List.range 4).filter fun r => bitOf (F.PWR_ROW_OFF_OFF.get v) r && !s.rowOff r).any s.rowUsed) = true)) :=
  ⟨1#32, ((up.set F.LANEn_MODE_MODE 1 0)), by decide +kernel⟩

theorem witness_RowsVoltageAndPace_3 : ∃ (v : Word) (s : State),  (s.booted = true) ∧ (let sets := (List.range 4).filter fun r => bitOf (F.PWR_ROW_OFF_OFF.get v) r && !s.rowOff r; let clears := (List.range 4).filter fun r => !bitOf (F.PWR_ROW_OFF_OFF.get v) r && s.rowOff r; (sets.any s.rowUsed = false)) :=
  ⟨1#32, ((up.set F.PWR_ROW_OFF_OFF 2)), by decide +kernel⟩

theorem witness_RowsVoltageAndPace_6 : ∃ (pace : Nat) (s : State),  (s.works = []) ∧ ((∀ p ∈ s.donePaces, p ≤ min (pace - 64) 65535)) :=
  ⟨5000, up, by decide +kernel⟩

theorem witness_RowsVoltageAndPace_7 : ∃ (k : Nat) (w : Work) (s : State),  (s.work? k = some w) ∧ (w.opcode = Op.burst) ∧ (w.isAdmitted = true) :=
  ⟨1, ((orderWork Op.burst .running)), ((orderAt Op.burst .running)), by decide +kernel⟩

theorem witness_RowsVoltageAndPace_8 : ∃ (k : Nat) (s : State),  ((∀ w, s.work? k = some w → w.opcode ≠ Op.burst ∨ w.isAdmitted = false)) :=
  ⟨1, up, by decide +kernel⟩

theorem witness_ResetSourcesAndRelease_5 : ∃ (low : Bool) (s : State),  (low = s.perstLow) :=
  ⟨false, up, by decide +kernel⟩

theorem witness_ResetSourcesAndRelease_6 : ∃ s : State,  (s.perstLow = false) ∧ (s.get F.PWR_STATUS_STATE ≠ 4) :=
  ⟨up, by decide +kernel⟩

theorem witness_ResetSourcesAndRelease_7 : ∃ s : State,  (s.perstLow = true) ∧ (s.get F.PWR_STATUS_STATE ≠ 4) :=
  ⟨({ up with perstLow := true }), by decide +kernel⟩

theorem witness_ResetSourcesAndRelease_8 : ∃ s : State,  (s.perstLow = false) ∧ (s.get F.PWR_STATUS_STATE = 4) :=
  ⟨((up.set F.PWR_STATUS_STATE 4)), by decide +kernel⟩

theorem witness_ResetSourcesAndRelease_9 : ∃ s : State,  (s.perstLow = true) ∧ (s.get F.PWR_STATUS_STATE = 4) :=
  ⟨(({ up with perstLow := true }.set F.PWR_STATUS_STATE 4)), by decide +kernel⟩

theorem witness_ResetSourcesAndRelease_10 : ∃ (low : Bool) (s : State),  (low = s.resetNLow) :=
  ⟨false, up, by decide +kernel⟩

theorem witness_ResetSourcesAndRelease_11 : ∃ s : State,  (s.resetNLow = false) :=
  ⟨up, by decide +kernel⟩

theorem witness_ResetSourcesAndRelease_12 : ∃ s : State,  (s.resetNLow = true) :=
  ⟨({ up with resetNLow := true }), by decide +kernel⟩

theorem witness_ResetSourcesAndRelease_13 : ∃ s : State,  ((s.bit F.BOOT_WDT_RUNNING = false ∨ s.inReset ≠ none ∨ s.get F.PWR_STATUS_STATE = 4)) :=
  ⟨((up.clrBit F.BOOT_WDT_RUNNING)), by decide +kernel⟩

theorem witness_ResetSourcesAndRelease_14 : ∃ s : State,  (s.bit F.BOOT_WDT_RUNNING = true) ∧ (s.inReset = none) ∧ (s.get F.PWR_STATUS_STATE ≠ 4) :=
  ⟨((up.setBit F.BOOT_WDT_RUNNING)), by decide +kernel⟩

theorem witness_ResetSourcesAndRelease_15 : ∃ s : State,  (s.resets = []) :=
  ⟨up, by decide +kernel⟩

theorem witness_ResetSourcesAndRelease_16 : ∃ (r : Nat × Tu) (rs : List (Nat × Tu)) (s : State),  (s.resets = r :: rs) :=
  ⟨((3, 0)), ([(2, 0), (1, 7)]), ({ orderAt 1 .running with resets := [(3, 0), (2, 0), (1, 7)] }), by decide +kernel⟩

theorem witness_ResetSourcesAndRelease_17 : ∃ (src pos : Nat) (cand ref : Bool) (s : State),  ((s.inReset = none ∨ s.powerGood = false ∨ s.perstLow = true ∨ s.resetNLow = true)) :=
  ⟨1, 2, true, true, up, by decide +kernel⟩

theorem witness_ResetSourcesAndRelease_18 : ∃ (src pos : Nat) (cand ref : Bool) (run : ResetRun) (s : State),  (s.inReset = some run) ∧ (s.powerGood = true) ∧ (s.perstLow = false) ∧ (s.resetNLow = false) ∧ (ref = true) ∧ (s.ledgTorn = none) ∧ (s.get F.BOOT_RESET_CAUSE_WDT_LOOP < 3) :=
  ⟨2, 65, true, true, ({ cause := 2 }), ({ up with inReset := some { cause := 2 } }), by decide +kernel⟩

theorem witness_ResetSourcesAndRelease_19 : ∃ (src pos : Nat) (cand ref : Bool) (run : ResetRun) (s : State),  (s.inReset = some run) ∧ (s.powerGood = true) ∧ (s.perstLow = false) ∧ (s.resetNLow = false) ∧ (ref = false) ∧ (s.ledgTorn = none) ∧ (s.get F.BOOT_RESET_CAUSE_WDT_LOOP < 3) :=
  ⟨2, 65, true, false, ({ cause := 2 }), ({ up with inReset := some { cause := 2 } }), by decide +kernel⟩

theorem witness_ResetSourcesAndRelease_20 : ∃ (src pos : Nat) (cand ref : Bool) (run : ResetRun) (s : State),  (s.inReset = some run) ∧ (s.powerGood = true) ∧ (s.perstLow = false) ∧ (s.resetNLow = false) ∧ (s.ledgTorn = none) ∧ (3 ≤ s.get F.BOOT_RESET_CAUSE_WDT_LOOP) :=
  ⟨2, 65, true, true, ({ cause := 4 }), ((({ up with inReset := some { cause := 4 } }).set F.BOOT_RESET_CAUSE_WDT_LOOP 3)), by decide +kernel⟩

theorem witness_ResetSourcesAndRelease_21 : ∃ (ws : List Word) (src pos : Nat) (cand ref : Bool) (run : ResetRun) (s : State),  (s.inReset = some run) ∧ (s.powerGood = true) ∧ (s.perstLow = false) ∧ (s.resetNLow = false) ∧ (s.ledgTorn = some ws) :=
  ⟨[1,2], 2, 65, true, true, ({ cause := 2 }), ({ up with inReset := some { cause := 2 }, ledgTorn := some [1, 2] }), by decide +kernel⟩

theorem witness_ResetSourcesAndRelease_22 : ∃ (id : Nat) (s : State),  (s.booted = true) ∧ (s.bit F.BOOT_WDT_RUNNING = true) :=
  ⟨1, ((up.setBit F.BOOT_WDT_RUNNING)), by decide +kernel⟩

theorem witness_ResetSourcesAndRelease_23 : ∃ (id : Nat) (v : Word) (s : State),  ((s.booted = false ∨ s.bit F.BOOT_WDT_RUNNING = false ∨ v ≠ 0x5A5A#32)) :=
  ⟨1, 0, up, by decide +kernel⟩

theorem witness_BootAndReference_1 : ∃ (img : Bytes) (ok : Bool) (b : BootIn) (s : State),  ((s.get F.BOOT_STATUS_STAGE ≠ 2 ∨ s.inReset ≠ none ∨ (s.bit F.BOOT_STATUS_WAIT_PUSH = true ∧ s.pushing = false))) :=
  ⟨[], true, {}, up, by decide +kernel⟩

theorem witness_BootAndReference_2 : ∃ (img : Bytes) (ok : Bool) (b : BootIn) (s : State),  (s.get F.BOOT_STATUS_STAGE = 2) ∧ (s.inReset = none) ∧ (s.bit F.BOOT_STATUS_WAIT_PUSH = false) :=
  ⟨[], true, {}, ((up.set F.BOOT_STATUS_STAGE 2)), by decide +kernel⟩

theorem witness_BootAndReference_3 : ∃ (img : Bytes) (ok : Bool) (b : BootIn) (s : State),  (s.get F.BOOT_STATUS_STAGE = 2) ∧ (s.inReset = none) ∧ (s.bit F.BOOT_STATUS_WAIT_PUSH = true) ∧ (s.pushing = true) :=
  ⟨[], true, {}, ({ (up.set F.BOOT_STATUS_STAGE 2).setBit F.BOOT_STATUS_WAIT_PUSH with pushing := true }), by decide +kernel⟩

theorem witness_BootAndReference_4 : ∃ s : State,  (s.bit F.BOOT_STATUS_WAIT_PUSH = true) ∧ (s.pushing = false) ∧ (s.get F.BOOT_PUSH_0_ADDR_LO * 64 + s.get F.BOOT_PUSH_1_ADDR_HI * 2 ^ 32 + s.get F.BOOT_PUSH_LEN_LENGTH ≤ 2 ^ 52) :=
  ⟨((up.setBit F.BOOT_STATUS_WAIT_PUSH)), by decide +kernel⟩

theorem witness_BootAndReference_5 : ∃ s : State,  ((s.bit F.BOOT_STATUS_WAIT_PUSH = false ∨ s.pushing = true ∨ 2 ^ 52 < s.get F.BOOT_PUSH_0_ADDR_LO * 64 + s.get F.BOOT_PUSH_1_ADDR_HI * 2 ^ 32 + s.get F.BOOT_PUSH_LEN_LENGTH)) :=
  ⟨up, by decide +kernel⟩

theorem witness_BootAndReference_6 : ∃ (n : Option Nat) (s : State),  ((s.bit F.TSBANK_REF_MASTER_LOCK = true ∨ s.inReset ≠ none ∨ s.get F.PWR_STATUS_STATE = 4)) :=
  ⟨(some 7), ((up.setBit F.TSBANK_REF_MASTER_LOCK)), by decide +kernel⟩

theorem witness_BootAndReference_7 : ∃ s : State,  (s.bit F.TSBANK_REF_MASTER_LOCK = false) ∧ (s.inReset = none) ∧ (s.get F.PWR_STATUS_STATE ≠ 4) :=
  ⟨up, by decide +kernel⟩

theorem witness_BootAndReference_8 : ∃ (n : Nat) (s : State),  (s.bit F.TSBANK_REF_MASTER_LOCK = false) ∧ (s.inReset = none) ∧ (s.get F.PWR_STATUS_STATE ≠ 4) ∧ (s.get F.BOOT_STATUS_STAGE ≠ 1) ∧ ((5 ≤ s.get F.BOOT_STATUS_STAGE → 8 < s.get F.BOOT_STATUS_STAGE)) :=
  ⟨7, ((State.reset.set F.BOOT_STATUS_STAGE 15)), by decide +kernel⟩

theorem witness_BootAndReference_9 : ∃ (n : Nat) (s : State),  (s.bit F.TSBANK_REF_MASTER_LOCK = false) ∧ (s.inReset = none) ∧ (s.get F.PWR_STATUS_STATE ≠ 4) ∧ (5 ≤ s.get F.BOOT_STATUS_STAGE) ∧ (s.get F.BOOT_STATUS_STAGE ≤ 8) :=
  ⟨7, ((State.reset.set F.BOOT_STATUS_STAGE 8)), by decide +kernel⟩

theorem witness_BootAndReference_10 : ∃ (n : Nat) (s : State),  (s.bit F.TSBANK_REF_MASTER_LOCK = false) ∧ (s.inReset = none) ∧ (s.get F.PWR_STATUS_STATE ≠ 4) ∧ (s.get F.BOOT_STATUS_STAGE = 1) :=
  ⟨7, ((State.reset.set F.BOOT_STATUS_STAGE 1)), by decide +kernel⟩

theorem witness_BootAndReference_11 : ∃ (refin : Bool) (s : State),  (((if refin = true then s.bit F.TSBANK_REF_REF_PRESENT else s.bit F.TSBANK_REF_MASTER_LOCK) = false ∨ s.inReset ≠ none ∨ s.get F.PWR_STATUS_STATE = 4)) :=
  ⟨true, up, by decide +kernel⟩

theorem witness_BootAndReference_12 : ∃ (refin : Bool) (s : State),  ((if refin = true then s.bit F.TSBANK_REF_REF_PRESENT else s.bit F.TSBANK_REF_MASTER_LOCK) = true) ∧ (s.inReset = none) ∧ (s.get F.PWR_STATUS_STATE ≠ 4) ∧ (s.bit F.GSL_HALL_STATUS_IS_MASTER = false) :=
  ⟨true, ({ ((up.setBit F.TSBANK_REF_MASTER_LOCK).setBit F.TSBANK_REF_REF_PRESENT) with frRuns := true }), by decide +kernel⟩

theorem witness_BootAndReference_13 : ∃ (refin : Bool) (s : State),  ((if refin = true then s.bit F.TSBANK_REF_REF_PRESENT else s.bit F.TSBANK_REF_MASTER_LOCK) = true) ∧ (s.inReset = none) ∧ (s.get F.PWR_STATUS_STATE ≠ 4) ∧ (s.bit F.GSL_HALL_STATUS_IS_MASTER = true) :=
  ⟨true, ((((up.setBit F.TSBANK_REF_MASTER_LOCK).setBit F.TSBANK_REF_REF_PRESENT).setBit F.GSL_HALL_STATUS_IS_MASTER)), by decide +kernel⟩

theorem witness_SafeStateEntry_1 : ∃ (d : Detection) (s : State),  (lowestSource s.detections = some d) ∧ (kindSafe d.kind d.source = true) ∧ (let u := ({ s with detections := s.detections.erase d }.collect d).voidFor d; (u.bit F.FLT_STATUS_SAFE = false)) :=
  ⟨({ kind := 9, cause := 0x228, source := 0x700 }), ({ (up.setBit F.FLT_STATUS_DUT_SAFE_N).wr ⟨.CHn_ENABLE, 2, 0⟩ 3#32 with fr := 50, chans := [(2, { phase := .ramping, len := 100, target := [1, 2, 3, 4, 5, 6], drive := 2, loadOn := true })], detections := [{ kind := 9, cause := 0x228, source := 0x700 }] }), by decide +kernel⟩

theorem witness_SafeStateEntry_2 : ∃ (d : Detection) (s : State),  (s.detections = [d]) ∧ (kindSafe d.kind d.source = true) ∧ (s.works = []) ∧ (d.works = []) ∧ (s.bit F.FLT_STATUS_SAFE = false) ∧ (s.safeEntry = none) :=
  ⟨({ kind := 9, cause := 0x228, source := 0x700 }), ({ (up.setBit F.FLT_STATUS_DUT_SAFE_N).wr ⟨.CHn_ENABLE, 2, 0⟩ 3#32 with fr := 50, chans := [(2, { phase := .ramping, len := 100, target := [1, 2, 3, 4, 5, 6], drive := 2, loadOn := true })], detections := [{ kind := 9, cause := 0x228, source := 0x700 }] }), by decide +kernel⟩

theorem witness_NopOnlyCompletes_1 : ∃ (k : Nat) (w : Work) (s : State),  (s.work? k = some w) ∧ (w.opcode = Op.nop) ∧ (w.stage = .routed) :=
  ⟨1, ((orderWork 0 .routed)), ((orderAt 0 .routed)), by decide +kernel⟩

theorem witness_NopOnlyCompletes_2 : ∃ (k : Nat) (s : State),  ((∀ w, s.work? k = some w → w.opcode ≠ Op.nop ∨ w.stage ≠ .routed)) :=
  ⟨1, up, by decide +kernel⟩

theorem witness_RegisterAccesses_6 : ∃ (fn rid off : Nat) (d0 d1 : Word) (r0 r1 : Reg) (s : State), wideAccess off 8 = true ∧ (s.func fn).present = true ∧ s.booted = true ∧
    bar2At fn off = some r0 ∧ bar2At fn (off + 4) = some r1 ∧ (∀ u, writeSpecial (.host fn rid) r0 d0 u = none) ∧
    (∀ u, writeSpecial (.host fn rid) r1 d1 u = none) :=
  ⟨3, 9, 512, 1, 2, ⟨.MBX_PRIV_FULL_m, 3, 0⟩, ⟨.MBX_PRIV_FULL_m, 3, 1⟩, { up with funcs := [(3, { present := true })] },
    by decide +kernel, by decide +kernel, by decide +kernel, by decide +kernel, by decide +kernel, fun _ => rfl, fun _ => rfl⟩

theorem witness_RegisterWriteFollowsAccessCodes_1 : ∃ (off : Nat) (v : Word) (s : State) (r : Reg), s.booted = true ∧ off % 4 = 0 ∧
    msixTable 0 off = none ∧ msixPba 0 off = none ∧ bar0At off = some r ∧ writeSpecial (.host 0 0) r v s = none :=
  ⟨0x400004, 7, up, ⟨.CHn_LEVEL_VIH, 0, 0⟩, by decide +kernel, by decide +kernel, by decide +kernel, by decide +kernel, by decide +kernel, rfl⟩

theorem witness_RegisterAccesses_1 : ∃ (fn rid off : Nat) (v : Word) (r : Reg) (s : State), s.booted = true ∧ (s.func fn).present = true ∧ off % 4 = 0 ∧
    bar2At fn off = some r ∧ writeSpecial (.host fn rid) r v s = none :=
  ⟨3, 9, 512, 1, ⟨.MBX_PRIV_FULL_m, 3, 0⟩, { up with funcs := [(3, { present := true })] }, by decide +kernel, by decide +kernel, by decide +kernel,
    by decide +kernel, rfl⟩

theorem witness_RegisterAccesses_2 : ∃ (id off : Nat) (v : Word) (r : Reg) (s : State), off % 4 = 0 ∧ internalAt off = some r ∧
    writeSpecial (.internal id) r v s = none :=
  ⟨1, 0x20C0, 1, ⟨.MBX_SHn_STATUS, 0, 0⟩, up, by decide +kernel, by decide +kernel, rfl⟩

theorem witness_RegisterAccesses_7 : ∃ (off : Nat) (r : Reg) (s : State), off % 4 = 0 ∧ msixTable 0 off = none ∧ msixPba 0 off = none ∧ bar0At off = some r ∧ r.name.spec.rc ≠ 0 ∧ s.booted = true :=
  ⟨0x510018, ⟨.BOOT_UCODE_ERR, 0, 0⟩, up, by decide +kernel⟩

theorem witness_RegisterAccesses_8 : ∃ (off : Nat) (r : Reg) (s : State), off % 4 = 0 ∧ msixTable 0 off = none ∧ msixPba 0 off = none ∧ bar0At off = some r ∧ RegName.higher r ≠ [] ∧ s.booted = true ∧
    Store.get? s.latch r = none ∧ r.name ≠ .TIME_NOW_0 ∧ r.name ≠ .LEDG_REC_w ∧ r.name ≠ .ADC_RQr_0 ∧ r.name ≠ .MBX_PORTp_DATA_w ∧
    r.name ≠ .MBX_SHn_SEND ∧ r.name ≠ .MBX_SHn_RXBUF_w ∧ r.name.spec.rc = 0 :=
  ⟨4325384, ⟨.TSBANK_CTIME_0_n, 0, 0⟩, up, by decide +kernel⟩

/-- A count update in progress on the one record of the Ledger. -/
def ledgRec : List Word := mkRecord (State.reset.recordHead { code := 0x21, source := 0x904, aux := 0, data := 0 }) 1 0xA55A
def ledgS : State := { up with ledgRecs := [ledgRec], ledgWrite := some { words := ledgRec, update := true }, pending := [.ledgerWriteDone] }

theorem ledgS_inv : ledgerInv ledgS := by
  refine ⟨fun h => by simp [ledgS, up] at h, fun w hw _ => ?_⟩
  cases (Option.some.inj hw : _ = w)
  exact ⟨rfl, by decide +kernel, by decide +kernel⟩

theorem witness_CommittedRecordsStay_1 : ∃ s t : State, ledgerInv s ∧ step s = .next t := ⟨ledgS, _, ledgS_inv, rfl⟩
theorem witness_LedgerWriteInvariant_1 : ∃ s t : State, ledgerInv s ∧ step s = .next t := ⟨ledgS, _, ledgS_inv, rfl⟩
theorem witness_MemoryStaysCanonical_1 : ∃ s t : State, Mem.wf s.mem = true ∧ step s = .next t := ⟨{ up with mem := [(5, 7#8)] }, _, rfl, rfl⟩
theorem witness_CommandsLeaveTheQueue_1 : ∃ (c : Instr) (s t : State), exec c s = .next t := ⟨.powerGood, up, _, rfl⟩
theorem witness_CommandsLeaveTheQueue_2 : ∃ (c : Instr) (l : List Instr) (s t : State), s.pending = c :: l ∧ step s = .next t :=
  ⟨.powerGood, [], { up with pending := [.powerGood] }, _, rfl, rfl⟩


end Sys2Proof.Tests
end

section
/-!
SUPPORT. Register accesses (O3, O4): what a write under the access codes does bit by bit, what a latch holds, and to which register rule
an access through each space comes down.
-/

namespace Sys2Proof.Machine

/-! ## A write under the access codes -/

/-- The lock bit over a register is set; a register without one is never locked (R11). -/
def State.lockSet (s : State) (r : Reg) : Bool :=
  match r.name.lock with
  | some l => (s.rd ⟨l, 0, 0⟩).getLsbD 0
  | none => false

/-- The bits that a plain write stores: RW fields, and RWL fields while they are not locked. -/
def State.storeMask (s : State) (r : Reg) : Nat := if s.lockSet r then r.name.spec.rw else r.name.spec.rw ||| r.name.spec.rwl

/-- No field of the register takes a plain write. -/
def Reg.unwritable (r : Reg) : Prop := r.name.spec.rw = 0 ∧ r.name.spec.w1c = 0 ∧ r.name.spec.rwl = 0

theorem and_one_bne_zero (w : Word) : (w &&& 1#32 != 0#32) = w.getLsbD 0 := by
  rw [BitVec.and_one_eq_setWidth_ofBool_getLsbD]
  cases w.getLsbD 0 <;> rfl

theorem State.writePlain_of_unwritable (s : State) {r : Reg} (v : Word) (h : r.unwritable) : s.writePlain r v = s := if_pos h

theorem State.writePlain_of_writable (s : State) {r : Reg} (v : Word) (h : ¬ r.unwritable) :
    s.writePlain r v = s.wr r ((s.rd r &&& ~~~(BitVec.ofNat 32 (s.storeMask r) ||| v &&& BitVec.ofNat 32 r.name.spec.w1c)) |||
      (v &&& BitVec.ofNat 32 (s.storeMask r))) := by
  refine (if_neg h).trans ?_
  unfold State.storeMask State.lockSet
  cases r.name.lock with
  | none => rfl
  | some l => simp only [and_one_bne_zero]

/-- A plain write changes registers alone. -/
theorem State.writePlain_eq_regs (s : State) (r : Reg) (v : Word) : ∃ g, s.writePlain r v = { s with regs := g } := by
  by_cases h : r.unwritable
  · exact ⟨s.regs, s.writePlain_of_unwritable v h⟩
  · exact ⟨_, s.writePlain_of_writable v h⟩

@[simp] theorem State.writePlain_mem (s : State) (r : Reg) (v : Word) : (s.writePlain r v).mem = s.mem := by
  obtain ⟨g, h⟩ := s.writePlain_eq_regs r v
  rw [h]

@[simp] theorem State.writePlain_booted (s : State) (r : Reg) (v : Word) : (s.writePlain r v).booted = s.booted := by
  obtain ⟨g, h⟩ := s.writePlain_eq_regs r v
  rw [h]

@[simp] theorem State.writePlain_func (s : State) (r : Reg) (v : Word) (f : Nat) : (s.writePlain r v).func f = s.func f := by
  obtain ⟨g, h⟩ := s.writePlain_eq_regs r v
  rw [h]; rfl

theorem State.writePlain_rd_of_ne (s : State) {r r' : Reg} (v : Word) (h : r' ≠ r) : (s.writePlain r v).rd r' = s.rd r' := by
  by_cases hw : r.unwritable
  · rw [s.writePlain_of_unwritable v hw]
  · rw [s.writePlain_of_writable v hw, State.rd_wr, if_neg h]

theorem State.storeMask_testBit (s : State) (r : Reg) (b : Nat) :
    (s.storeMask r).testBit b = (r.name.spec.rw.testBit b || (r.name.spec.rwl.testBit b && !s.lockSet r)) := by
  cases h : s.lockSet r <;> simp [State.storeMask, h]

/-- R10, R11: a written register bit by bit. -/
theorem State.writePlain_getLsbD (s : State) (r : Reg) (v : Word) {b : Nat} (hb : b < 32) :
    ((s.writePlain r v).rd r).getLsbD b =
      if r.name.spec.rw.testBit b || (r.name.spec.rwl.testBit b && !s.lockSet r) then v.getLsbD b
      else if r.name.spec.w1c.testBit b then (s.rd r).getLsbD b && !v.getLsbD b
      else (s.rd r).getLsbD b := by
  by_cases h : r.unwritable
  · obtain ⟨hrw, hw1c, hrwl⟩ := h
    simp [s.writePlain_of_unwritable v ⟨hrw, hw1c, hrwl⟩, hrw, hw1c, hrwl]
  · rw [s.writePlain_of_writable v h, State.rd_wr, if_pos rfl, ← s.storeMask_testBit]
    simp only [BitVec.getLsbD_or, BitVec.getLsbD_and, BitVec.getLsbD_not, BitVec.getLsbD_ofNat, hb]
    cases (s.storeMask r).testBit b <;> cases r.name.spec.w1c.testBit b <;> simp

theorem writeReg_of_no_special {a : Agent} {r : Reg} {v : Word} {s : State} (h : writeSpecial a r v s = none) :
    writeReg a r v s = .next (s.writePlain r v) := by
  simp only [writeReg, h]

/-! ## The register that a write reaches -/

section
variable {s : State} {off : Nat} {r : Reg}

theorem State.bar0Open_of_booted (hb : s.booted = true) : s.bar0Open off = true := by simp [State.bar0Open, hb]

theorem execRegisterWrite_bar0 (v : Word) (hb : s.booted = true) (ho : off % 4 = 0) (ht : msixTable 0 off = none) (hp : msixPba 0 off = none)
    (hr : bar0At off = some r) : execRegisterWrite (.bar0 off) v s = writeReg (.host 0 0) r v s := by
  simp [execRegisterWrite, State.bar0Open_of_booted hb, ho, ht, hp, hr]

theorem execRegisterWrite_bar2 {fn : Nat} (rid : Nat) (v : Word) (hb : s.booted = true) (hf : (s.func fn).present = true) (ho : off % 4 = 0)
    (hr : bar2At fn off = some r) : execRegisterWrite (.bar2 fn rid off) v s = writeReg (.host fn rid) r v s := by
  simp [execRegisterWrite, hb, hf, ho, hr]

theorem execRegisterWrite_internal (id : Nat) (v : Word) (ho : off % 4 = 0) (hr : internalAt off = some r) :
    execRegisterWrite (.internal id off) v s = writeReg (.internal id) r v s := by
  simp [execRegisterWrite, ho, hr]

theorem execRegisterWrite_bar2_plain {fn rid : Nat} {v : Word} (hb : s.booted = true) (hf : (s.func fn).present = true) (ho : off % 4 = 0)
    (hr : bar2At fn off = some r) (hw : writeSpecial (.host fn rid) r v s = none) :
    execRegisterWrite (.bar2 fn rid off) v s = .next (s.writePlain r v) :=
  (execRegisterWrite_bar2 rid v hb hf ho hr).trans (writeReg_of_no_special hw)

/-- R641: a 64-bit BAR2 write is two aligned 32-bit writes, the lower offset first. -/
theorem execBar2WideAccess_write_eight {fn rid : Nat} {d0 d1 : Word} {t : State} (hwide : wideAccess off 8 = true)
    (hf : (s.func fn).present = true) (h0 : execRegisterWrite (.bar2 fn rid off) d0 s = .next t) :
    execBar2WideAccess fn rid off 8 true [d0, d1] s = inOrder [execRegisterWrite (.bar2 fn rid (off + 4)) d1] t := by
  simp [execBar2WideAccess, hwide, hf, inOrder, h0]

theorem wideAccess_aligned {n : Nat} (h : wideAccess off n = true) : off % 4 = 0 := by
  simp only [wideAccess, Bool.and_eq_true, beq_iff_eq] at h
  obtain ⟨⟨_, ho⟩, _⟩ := h
  exact ho

/-! ## The register that a read reaches -/

theorem readAt_bar0 (hb : s.booted = true) (ht : msixTable 0 off = none) (hp : msixPba 0 off = none) (hr : bar0At off = some r) :
    readAt (.bar0 off) s = readReg (.host 0 0) r s := by
  simp [readAt, State.bar0Open_of_booted hb, ht, hp, hr]

theorem execReadClearRead_of_aligned (ho : off % 4 = 0) : execReadClearRead off s = readAt (.bar0 off) s := if_pos ho
theorem execWideValueRead_of_aligned (ho : off % 4 = 0) : execWideValueRead off s = readAt (.bar0 off) s := if_pos ho

end

/-- The register families whose read has a rule of its own. -/
def readRuleNames : List RegName := [.TIME_NOW_0, .LEDG_REC_w, .ADC_RQr_0, .MBX_PORTp_DATA_w, .MBX_SHn_SEND, .MBX_SHn_RXBUF_w]

theorem rc_eq_zero_of_readRule : ∀ n ∈ readRuleNames, n.spec.rc = 0 := by decide

/-- A register without a read rule of its own is read under its access codes. -/
theorem readReg_of_no_rule (a : Agent) {r : Reg} (s : State) (h : r.name ∉ readRuleNames) :
    readReg a r s = if r.name.spec.rc ≠ 0 then .next (s.readClear r) else .next (s.readPlain r) := by
  simp only [readRuleNames, List.mem_cons, List.not_mem_nil, or_false, not_or] at h
  obtain ⟨h1, h2, h3, h4, h5, h6⟩ := h
  unfold readReg
  split
  iterate 6 · contradiction
  · rfl

theorem readReg_of_rc (a : Agent) {r : Reg} (s : State) (h : r.name.spec.rc ≠ 0) : readReg a r s = .next (s.readClear r) :=
  (readReg_of_no_rule a s fun hn => h (rc_eq_zero_of_readRule _ hn)).trans (if_pos h)

theorem readReg_of_plain (a : Agent) {r : Reg} (s : State) (hn : r.name ∉ readRuleNames) (hrc : r.name.spec.rc = 0) :
    readReg a r s = .next (s.readPlain r) :=
  (readReg_of_no_rule a s hn).trans (if_neg (not_not_intro hrc))

theorem State.readPlain_of_unlatched (s : State) {r : Reg} (h : Store.get? s.latch r = none) :
    s.readPlain r = (s.answer [s.value r]).latchAll (RegName.higher r) := by
  simp only [State.readPlain, h]

/-- R11: what a read of an RC register clears. -/
theorem State.readClear_rd (s : State) (r r' : Reg) :
    (s.readClear r).rd r' = if r' = r then s.rd r &&& ~~~(s.rd r &&& BitVec.ofNat 32 r.name.spec.rc) else s.rd r' :=
  State.rd_wr _ _ _ _

/-! ## Latches -/

/-- Entries put one after another: each key put holds its value, every other key what it held. -/
theorem Store.get?_foldl_put {κ α : Type} [DecidableEq κ] (f : κ → α) (l : List κ) (m : Store κ α) (k : κ) :
    Store.get? (l.foldl (fun m k => Store.put m k (f k)) m) k = if k ∈ l then some (f k) else Store.get? m k := by
  induction l generalizing m with
  | nil => rfl
  | cons a t ih =>
    rw [List.foldl_cons, ih, Store.get?_put]
    by_cases ht : k ∈ t
    · simp [ht]
    · by_cases ha : k = a
      · simp [ha]
      · simp [ht, ha]

theorem State.latchAll_get? (s : State) {rs : List Reg} {r : Reg} (h : r ∈ rs) : Store.get? (s.latchAll rs).latch r = some (s.value r) := by
  rw [State.latchAll, Store.get?_foldl_put, if_pos h]

/-! ## Accesses of other shapes -/

section
variable {s : State} {off n : Nat}

theorem aligned_word_eq_false (h : ¬ (off % 4 = 0 ∧ n = 4)) : (off % 4 == 0 && n == 4) = false := by simpa using h

/-- R9: in BAR0, outside the MSI-X structures. -/
theorem execUnalignedAccess_bar0 (w : Option (List Word)) (hn : 0 < n) (h : ¬ (off % 4 = 0 ∧ n = 4)) (ht : msixTable 0 off = none)
    (hp : msixPba 0 off = none) : execUnalignedAccess (.bar0 off) n w s = .next (s.unaligned n w.isSome) := by
  simp [execUnalignedAccess, aligned_word_eq_false h, ht, hp, Nat.pos_iff_ne_zero.mp hn]

/-- R9, R641: in BAR2, where no wide access is admitted. -/
theorem execUnalignedAccess_bar2 (fn rid : Nat) (w : Option (List Word)) (hn : 0 < n) (h : ¬ (off % 4 = 0 ∧ n = 4))
    (hw : wideAccess off n = false) : execUnalignedAccess (.bar2 fn rid off) n w s = .next (s.unaligned n w.isSome) := by
  simp [execUnalignedAccess, aligned_word_eq_false h, hw, Nat.pos_iff_ne_zero.mp hn]

theorem execUnalignedAccess_msixTable_write {o : Nat} (data : List Word) (hb : s.booted = true) (ht : msixTable 0 off = some o) :
    execUnalignedAccess (.bar0 off) 8 (some data) s = .next (s.msixWrite 0 off 8 data) := by
  simp [execUnalignedAccess, State.bar0Open_of_booted hb, ht]

theorem execUnalignedAccess_msixTable_read {o : Nat} (hb : s.booted = true) (ht : msixTable 0 off = some o) :
    execUnalignedAccess (.bar0 off) 8 none s = .next (s.msixRead 0 off 8) := by
  simp [execUnalignedAccess, State.bar0Open_of_booted hb, ht]

theorem msixAligned_eight (h : off % 8 = 0) : msixAligned off 8 = true := by simp [msixAligned, h]

/-- R344: two words of the MSI-X table, the lower first. -/
theorem State.msixWrite_eight {o : Nat} (d0 d1 : Word) (h : off % 8 = 0) (ht : msixTable 0 off = some o) :
    s.msixWrite 0 off 8 [d0, d1] = (s.msixTableWrite 0 o d0).msixTableWrite 0 (o + 4) d1 := by
  simp only [State.msixWrite, ht, msixAligned_eight h, if_true]
  rfl

theorem State.msixRead_eight {o : Nat} (h : off % 8 = 0) (ht : msixTable 0 off = some o) :
    s.msixRead 0 off 8 = s.answer [s.msixTableWord 0 o, s.msixTableWord 0 (o + 4)] := by
  simp only [State.msixRead, ht, msixAligned_eight h]
  rfl

end

/-! ## The commands on registers without a rule of their own -/

/-- R641: both words of a 64-bit BAR2 write are plain writes where neither register has a rule of its own. -/
theorem execBar2WideAccess_plain {fn rid off : Nat} {d0 d1 : Word} {r0 r1 : Reg} {s : State} (hwide : wideAccess off 8 = true)
    (hf : (s.func fn).present = true) (hb : s.booted = true) (hr0 : bar2At fn off = some r0) (hr1 : bar2At fn (off + 4) = some r1)
    (hw0 : ∀ u, writeSpecial (.host fn rid) r0 d0 u = none) (hw1 : ∀ u, writeSpecial (.host fn rid) r1 d1 u = none) :
    execBar2WideAccess fn rid off 8 true [d0, d1] s = .next ((s.writePlain r0 d0).writePlain r1 d1) := by
  have ho : off % 4 = 0 := wideAccess_aligned hwide
  have first := execRegisterWrite_bar2_plain hb hf ho hr0 (hw0 s)
  have second : execRegisterWrite (.bar2 fn rid (off + 4)) d1 (s.writePlain r0 d0) = .next ((s.writePlain r0 d0).writePlain r1 d1) :=
    execRegisterWrite_bar2_plain (by simpa using hb) (by simpa using hf) (by omega) hr1 (hw1 _)
  rw [execBar2WideAccess_write_eight hwide hf first]
  simp only [inOrder, second]

theorem execReadClearRead_of_rc {off : Nat} {r : Reg} {s : State} (ho : off % 4 = 0) (ht : msixTable 0 off = none) (hp : msixPba 0 off = none)
    (hr : bar0At off = some r) (hrc : r.name.spec.rc ≠ 0) (hb : s.booted = true) : execReadClearRead off s = .next (s.readClear r) := by
  rw [execReadClearRead_of_aligned ho, readAt_bar0 hb ht hp hr, readReg_of_rc _ s hrc]

theorem execWideValueRead_of_unlatched {off : Nat} {r : Reg} {s : State} (ho : off % 4 = 0) (ht : msixTable 0 off = none)
    (hp : msixPba 0 off = none) (hr : bar0At off = some r) (hb : s.booted = true) (hl : Store.get? s.latch r = none)
    (hn : r.name ∉ readRuleNames) (hrc : r.name.spec.rc = 0) :
    execWideValueRead off s = .next ((s.answer [s.value r]).latchAll (RegName.higher r)) := by
  rw [execWideValueRead_of_aligned ho, readAt_bar0 hb ht hp hr, readReg_of_plain _ s hn hrc, s.readPlain_of_unlatched hl]

/-! ## The statements -/

/-- Settles O3: the command comes down to a plain write of the register, whose bits `State.writePlain_getLsbD` gives. -/
theorem registerWriteFollowsAccessCodes : Obligations.RegisterWriteFollowsAccessCodes := by
  unfold Obligations.RegisterWriteFollowsAccessCodes
  intro off v s r hb ho ht hp hr hw
  refine ⟨s.writePlain r v, ?_, s.writePlain_mem r v, fun r' h => s.writePlain_rd_of_ne v h, fun b hlt => s.writePlain_getLsbD r v hlt⟩
  exact (execRegisterWrite_bar0 v hb ho ht hp hr).trans (writeReg_of_no_special hw)

/-- Settles O4: each access comes down to the register rule, the MSI-X words or the all-ones answer that its space and shape give. -/
theorem registerAccesses : Obligations.RegisterAccesses := by
  unfold Obligations.RegisterAccesses
  refine ⟨?bar2Write, ?internalWrite, ?bar0Shape, ?bar2Shape, ?msixEight, ?bar2Wide, ?readClear, ?wideRead, ?timeNow⟩
  case bar2Write =>
    intro fn rid off v r s hb hf ho hr hw
    exact execRegisterWrite_bar2_plain hb hf ho hr hw
  case internalWrite =>
    intro id off v r s ho hr hw
    exact (execRegisterWrite_internal id v ho hr).trans (writeReg_of_no_special hw)
  case bar0Shape =>
    intro off n data s hn h ht hp
    exact ⟨execUnalignedAccess_bar0 (some data) hn h ht hp, execUnalignedAccess_bar0 none hn h ht hp⟩
  case bar2Shape =>
    intro fn rid off n data s hn h hw
    exact ⟨execUnalignedAccess_bar2 fn rid (some data) hn h hw, execUnalignedAccess_bar2 fn rid none hn h hw⟩
  case msixEight =>
    intro off o d0 d1 s hb ho ht
    rw [← State.msixWrite_eight d0 d1 ho ht, ← State.msixRead_eight ho ht]
    exact ⟨execUnalignedAccess_msixTable_write [d0, d1] hb ht, execUnalignedAccess_msixTable_read hb ht⟩
  case bar2Wide =>
    intro fn rid off d0 d1 r0 r1 s hwide hf hb hr0 hr1 hw0 hw1
    exact execBar2WideAccess_plain hwide hf hb hr0 hr1 hw0 hw1
  case readClear =>
    intro off r s ho ht hp hr hrc hb
    exact ⟨s.readClear r, execReadClearRead_of_rc ho ht hp hr hrc hb, rfl, rfl, (s.readClear_rd r r).trans (if_pos rfl),
      fun r' h => (s.readClear_rd r r').trans (if_neg h), rfl⟩
  case wideRead =>
    intro off r s ho ht hp hr _ hb hl h1 h2 h3 h4 h5 h6 hrc
    have hn : r.name ∉ readRuleNames := by simp [readRuleNames, h1, h2, h3, h4, h5, h6]
    exact execWideValueRead_of_unlatched ho ht hp hr hb hl hn hrc
  case timeNow =>
    intro s hb
    refine ⟨s.readNow, if_pos hb, rfl, rfl, fun n hn => ?_⟩
    exact State.latchAll_get? _ (List.mem_map.mpr ⟨n, hn, rfl⟩)

end Sys2Proof.Machine
end

section
/-!
SUPPORT. What an accepted level commit does (R55, R56, R64): the live copy takes the staged set, word by word, and nothing but the channel's
status, events and enables follows.
-/

namespace Sys2Proof.Machine

/-! ## Writing one word to each of several families -/

section
variable (c : Nat) {l : List (RegName × Word)} {s : State}

theorem State.rd_foldl_wr_of_not_mem {r : Reg} (h : r.name ∉ l.map Prod.fst) :
    (l.foldl (fun s p => s.wr ⟨p.1, c, 0⟩ p.2) s).rd r = s.rd r := by
  induction l generalizing s with
  | nil => rfl
  | cons a t ih =>
    simp only [List.map_cons, List.mem_cons, not_or] at h
    obtain ⟨ha, ht⟩ := h
    have hr : r ≠ ⟨a.1, c, 0⟩ := fun e => ha (congrArg Reg.name e)
    rw [List.foldl_cons, ih ht, State.rd_wr, if_neg hr]

theorem State.rd_foldl_wr_of_mem (hl : (l.map Prod.fst).Nodup) {n : RegName} {w : Word} (hp : (n, w) ∈ l) :
    (l.foldl (fun s p => s.wr ⟨p.1, c, 0⟩ p.2) s).rd ⟨n, c, 0⟩ = w := by
  induction l generalizing s with
  | nil => cases hp
  | cons a t ih =>
    rw [List.map_cons, List.nodup_cons] at hl
    obtain ⟨ha, ht⟩ := hl
    rw [List.foldl_cons]
    cases hp with
    | head => rw [State.rd_foldl_wr_of_not_mem c ha, State.rd_wr, if_pos rfl]
    | tail _ hp => exact ih ht hp

end

theorem State.foldl_wr_mem (c : Nat) (l : List (RegName × Word)) (s : State) : (l.foldl (fun s p => s.wr ⟨p.1, c, 0⟩ p.2) s).mem = s.mem :=
  foldl_keep (fun t => t.mem = s.mem) (fun t p => t.wr ⟨p.1, c, 0⟩ p.2) (fun _ _ h => h) l rfl

/-! ## The copy of the staged set -/

/-- The live copy of a channel takes the staged set (R55). -/
def State.copyLevels (s : State) (c : Nat) : State := (liveRegs.zip (s.staged c)).foldl (fun s p => s.wr ⟨p.1, c, 0⟩ p.2) s

theorem State.applyCommit_eq (s : State) (c : Nat) :
    s.applyCommit c = (((s.copyLevels c).set F.CHn_STATUS_COMMIT_RESULT 0 c).pmuConflict c (s.staged c).pmuMode).requestRamp c := rfl

theorem State.map_fst_zip_staged (s : State) (c : Nat) : (liveRegs.zip (s.staged c)).map Prod.fst = liveRegs := rfl

theorem liveRegs_nodup : liveRegs.Nodup := by decide

theorem State.rd_copyLevels_live (s : State) (c : Nat) {p : RegName × RegName} (hp : p ∈ liveRegs.zip stagedRegs) :
    (s.copyLevels c).rd ⟨p.1, c, 0⟩ = s.rd ⟨p.2, c, 0⟩ := by
  have hmem : (p.1, s.rd ⟨p.2, c, 0⟩) ∈ liveRegs.zip (s.staged c) := by
    rw [State.staged, List.zip_map_right]
    exact List.mem_map_of_mem hp
  have hnodup : ((liveRegs.zip (s.staged c)).map Prod.fst).Nodup := s.map_fst_zip_staged c ▸ liveRegs_nodup
  rw [State.copyLevels]
  exact State.rd_foldl_wr_of_mem c hnodup hmem

theorem State.rd_copyLevels_of_not_live (s : State) (c : Nat) {r : Reg} (h : r.name ∉ liveRegs) : (s.copyLevels c).rd r = s.rd r :=
  State.rd_foldl_wr_of_not_mem c (s.map_fst_zip_staged c ▸ h)

@[simp] theorem State.copyLevels_mem (s : State) (c : Nat) : (s.copyLevels c).mem = s.mem := by
  rw [State.copyLevels]
  exact State.foldl_wr_mem c _ s

/-! ## What follows the copy -/

/-- R64: the two families that the disconnection of the PMU touches. -/
theorem State.rd_pmuConflict (s : State) (c mode : Nat) {r : Reg} (hn : r.name ≠ .CHn_ENABLE) (hv : r.name ≠ .CHn_EVENTS) :
    (s.pmuConflict c mode).rd r = s.rd r := by
  unfold State.pmuConflict
  split
  · exact (State.rd_set_of_ne _ _ _ _ _ _ hv).trans (State.rd_set_of_ne _ _ _ _ _ _ hn)
  · rfl

@[simp] theorem State.pmuConflict_mem (s : State) (c mode : Nat) : (s.pmuConflict c mode).mem = s.mem := by
  unfold State.pmuConflict
  split <;> rfl

/-- Of the registers, a ramp that starts anew touches HALTED alone. -/
theorem State.rd_requestRamp (s : State) (c : Nat) (r : Reg) : (s.requestRamp c).rd r = (s.clrBit F.CHn_STATUS_HALTED c).rd r := rfl

theorem State.get_requestRamp (s : State) (c : Nat) (f : Fld) (i : Nat) : (s.requestRamp c).get f i = (s.clrBit F.CHn_STATUS_HALTED c).get f i := rfl

theorem State.bit_requestRamp (s : State) (c : Nat) (f : Fld) (i : Nat) : (s.requestRamp c).bit f i = (s.clrBit F.CHn_STATUS_HALTED c).bit f i := rfl

@[simp] theorem State.requestRamp_mem (s : State) (c : Nat) : (s.requestRamp c).mem = s.mem := rfl

/-! ## An accepted commit -/

theorem State.rd_applyCommit (s : State) (c : Nat) {r : Reg} (hs : r.name ≠ .CHn_STATUS) (hv : r.name ≠ .CHn_EVENTS) (hn : r.name ≠ .CHn_ENABLE) :
    (s.applyCommit c).rd r = (s.copyLevels c).rd r := by
  rw [State.applyCommit_eq, State.rd_requestRamp]
  exact (State.rd_set_of_ne _ _ _ _ _ _ hs).trans ((State.rd_pmuConflict _ _ _ hn hv).trans (State.rd_set_of_ne _ _ _ _ _ _ hs))

theorem liveRegs_fst_ne {p : RegName × RegName} (hp : p ∈ liveRegs.zip stagedRegs) :
    p.1 ≠ .CHn_STATUS ∧ p.1 ≠ .CHn_EVENTS ∧ p.1 ≠ .CHn_ENABLE := by
  have key : ∀ n ∈ liveRegs, n ≠ .CHn_STATUS ∧ n ≠ .CHn_EVENTS ∧ n ≠ .CHn_ENABLE := by decide
  exact key _ (List.of_mem_zip hp).1

/-- R55: every live register takes its staged value. -/
theorem State.rd_applyCommit_live (s : State) (c : Nat) {p : RegName × RegName} (hp : p ∈ liveRegs.zip stagedRegs) :
    (s.applyCommit c).rd ⟨p.1, c, 0⟩ = s.rd ⟨p.2, c, 0⟩ := by
  obtain ⟨hs, hv, hn⟩ := liveRegs_fst_ne hp
  exact (s.rd_applyCommit c hs hv hn).trans (s.rd_copyLevels_live c hp)

/-- R56: the result of an accepted commit; neither the PMU's disconnection nor the ramp that follows touches it. -/
theorem State.get_commitResult_applyCommit (s : State) (c : Nat) : (s.applyCommit c).get F.CHn_STATUS_COMMIT_RESULT c = 0 := by
  rw [State.applyCommit_eq, State.get_requestRamp, State.clrBit, State.get_set_fld _ _ _ _ _ _ _ _ (by decide) (by decide), State.get,
    State.rd_pmuConflict _ _ _ (show RegName.CHn_STATUS ≠ .CHn_ENABLE by decide) (show RegName.CHn_STATUS ≠ .CHn_EVENTS by decide)]
  exact State.get_set_self _ _ _ _ _ (by decide)

theorem State.bit_halted_applyCommit (s : State) (c : Nat) : (s.applyCommit c).bit F.CHn_STATUS_HALTED c = false := by
  rw [State.applyCommit_eq, State.bit_requestRamp]
  exact State.bit_clrBit _ F.CHn_STATUS_HALTED c 0 (by decide)

theorem State.applyCommit_frame (s : State) (c : Nat) : regsBut (liveRegs ++ [.CHn_STATUS, .CHn_EVENTS, .CHn_ENABLE]) s (s.applyCommit c) := by
  intro r hr
  simp only [List.mem_append, List.mem_cons, List.not_mem_nil, or_false, not_or] at hr
  obtain ⟨hl, hs, hv, hn⟩ := hr
  exact (s.rd_applyCommit c hs hv hn).trans (s.rd_copyLevels_of_not_live c hl)

@[simp] theorem State.applyCommit_mem (s : State) (c : Nat) : (s.applyCommit c).mem = s.mem := by
  rw [State.applyCommit_eq, State.requestRamp_mem, State.pmuConflict_mem, State.set_mem, State.copyLevels_mem]

/-! ## The commit register -/

/-- LEVEL_COMMIT on a channel of a block that has booted. -/
theorem execLevelCommit_of_booted {c : Nat} {s : State} (hb : s.booted = true) (hc : c < 256) :
    execLevelCommit c s = .next (if s.commitResult c true = 0 then s.applyCommit c else s.rejectCommit c (s.commitResult c true)) :=
  if_neg (by simp [hb, hc])

/-- Settles O5: the command is the commit or its rejection, by the result of the checks. -/
theorem levelCommitChecksThenCopies : Obligations.LevelCommitChecksThenCopies := by
  unfold Obligations.LevelCommitChecksThenCopies
  refine ⟨?rejected, ?accepted⟩
  case rejected =>
    rintro c r s hb hc rfl hr
    exact (execLevelCommit_of_booted hb hc).trans (congrArg _ (if_neg hr))
  case accepted =>
    intro c s hb hc hr
    refine ⟨s.applyCommit c, (execLevelCommit_of_booted hb hc).trans (congrArg _ (if_pos hr)), fun p hp => s.rd_applyCommit_live c hp,
      s.get_commitResult_applyCommit c, s.bit_halted_applyCommit c, s.applyCommit_frame c, fun a => ?_⟩
    rw [s.applyCommit_mem c]

end Sys2Proof.Machine
end

section
/-!
SUPPORT. The entry into the safe state (R65, R547, R550): what one channel does at once, that the 256 channels do it independently of one
another, and what the collector's record of the detection leaves.
-/

namespace Sys2Proof.Machine

/-! ## Fields after a write of another field -/

theorem State.bit_set_fld (s : State) (f g : Fld) (v i j i' j' : Nat) (hf : f.lsb + f.width ≤ 32)
    (hd : f.lsb + f.width ≤ g.lsb ∨ g.lsb + g.width ≤ f.lsb) : (s.set f v i j).bit g i' j' = s.bit g i' j' :=
  congrArg (· == 1) (s.get_set_fld f g v i j i' j' hf hd)

theorem State.bit_setBit_fld (s : State) (f g : Fld) (i j i' j' : Nat) (hf : f.lsb + f.width ≤ 32)
    (hd : f.lsb + f.width ≤ g.lsb ∨ g.lsb + g.width ≤ f.lsb) : (s.setBit f i j).bit g i' j' = s.bit g i' j' :=
  s.bit_set_fld f g 1 i j i' j' hf hd

theorem State.bit_clrBit_fld (s : State) (f g : Fld) (i j i' j' : Nat) (hf : f.lsb + f.width ≤ 32)
    (hd : f.lsb + f.width ≤ g.lsb ∨ g.lsb + g.width ≤ f.lsb) : (s.clrBit f i j).bit g i' j' = s.bit g i' j' :=
  s.bit_set_fld f g 0 i j i' j' hf hd

theorem State.bit_set_of_ne (s : State) (f g : Fld) (v i j i' j' : Nat) (h : g.reg ≠ f.reg) : (s.set f v i j).bit g i' j' = s.bit g i' j' :=
  congrArg (g.get · == 1) (s.rd_set_of_ne f v i j ⟨g.reg, i', j'⟩ h)

theorem State.rd_set_reg_ne (s : State) (f : Fld) (v i : Nat) {r : Reg} (h : r ≠ ⟨f.reg, i, 0⟩) : (s.set f v i).rd r = s.rd r :=
  (s.rd_set f v i 0 r).trans (if_neg h)

theorem State.bit_congr {s t : State} {f : Fld} {i j : Nat} (h : t.rd ⟨f.reg, i, j⟩ = s.rd ⟨f.reg, i, j⟩) : t.bit f i j = s.bit f i j :=
  congrArg (f.get · == 1) h

/-- A flag of a register that holds 0 is not set. -/
theorem State.bit_of_rd_zero {s : State} {f : Fld} {i j : Nat} (h : s.rd ⟨f.reg, i, j⟩ = 0#32) : s.bit f i j = false := by
  simp [State.bit, State.get, h, Fld.get]

theorem State.chan_setChan (s : State) (c c' : Nat) (v : Chan) : (s.setChan c v).chan c' = if c' = c then v else s.chan c' :=
  Store.getD_put _ _ _ _ _

theorem State.live_congr {s t : State} {c : Nat} (h : ∀ n ∈ liveRegs, t.rd ⟨n, c, 0⟩ = s.rd ⟨n, c, 0⟩) : t.live c = s.live c :=
  List.map_congr_left h

theorem regsBut_trans {l l' m : List RegName} {s t u : State} (h : regsBut l s t) (h' : regsBut l' t u) (hl : ∀ n ∈ l, n ∈ m)
    (hl' : ∀ n ∈ l', n ∈ m) : regsBut m s u := fun r hr =>
  (h' r fun hn => hr (hl' _ hn)).trans (h r fun hn => hr (hl _ hn))

/-! ## One channel (R65) -/

/-- The phases in which a channel has a ramp in progress or about to start. -/
abbrev rampPhases : List RampPhase := [.starting, .switching, .zeroing, .ramping]

/-- The channel's enables clear and SAFE is 1. -/
def State.disconnect (s : State) (c : Nat) : State := (s.wr ⟨.CHn_ENABLE, c, 0⟩ 0#32).setBit F.CHn_STATUS_SAFE c

/-- A ramp that halts: HALTED is 1, RAMPING and SETTLED are 0. -/
def State.markHalted (s : State) (c : Nat) : State :=
  ((s.setBit F.CHn_STATUS_HALTED c).clrBit F.CHn_STATUS_RAMPING c).clrBit F.CHn_STATUS_SETTLED c

section
variable {s : State} {c : Nat}

/-- What a cycle asks of the driver and the load does not enter the DAC codes. -/
theorem Chan.present_outputsOff (ch : Chan) (t : Tu) : ({ ch with drive := 0, loadOn := false } : Chan).present t = ch.present t := rfl

theorem State.channelSafe_of_ramp (h : (s.chan c).phase ∈ rampPhases) :
    s.channelSafe c = ((s.disconnect c).setChan c
      { s.chan c with phase := .halted, frm := (s.chan c).present s.fr, drive := 0, loadOn := false }).markHalted c := by
  unfold State.channelSafe
  dsimp only
  rw [Chan.present_outputsOff]
  split
  iterate 4 · rfl
  · simp_all

theorem State.channelSafe_of_no_ramp (h : (s.chan c).phase ∉ rampPhases) :
    s.channelSafe c = (s.disconnect c).setChan c { s.chan c with drive := 0, loadOn := false } := by
  unfold State.channelSafe
  dsimp only
  split
  iterate 4 · simp_all
  · rfl

/-- A channel's entry is one of these two. -/
theorem State.channelSafe_cases (P : State → Prop) (hr : (s.chan c).phase ∈ rampPhases → P (((s.disconnect c).setChan c
      { s.chan c with phase := .halted, frm := (s.chan c).present s.fr, drive := 0, loadOn := false }).markHalted c))
    (hn : (s.chan c).phase ∉ rampPhases → P ((s.disconnect c).setChan c { s.chan c with drive := 0, loadOn := false })) :
    P (s.channelSafe c) := by
  by_cases h : (s.chan c).phase ∈ rampPhases
  · exact State.channelSafe_of_ramp h ▸ hr h
  · exact State.channelSafe_of_no_ramp h ▸ hn h

end

/-! ### What a channel's entry leaves -/

theorem State.rd_disconnect (s : State) (c : Nat) {r : Reg} (he : r ≠ ⟨.CHn_ENABLE, c, 0⟩) (hs : r ≠ ⟨.CHn_STATUS, c, 0⟩) :
    (s.disconnect c).rd r = s.rd r :=
  (State.rd_set_reg_ne _ F.CHn_STATUS_SAFE _ _ hs).trans ((State.rd_wr _ _ _ _).trans (if_neg he))

theorem State.rd_markHalted (s : State) (c : Nat) {r : Reg} (hs : r ≠ ⟨.CHn_STATUS, c, 0⟩) : (s.markHalted c).rd r = s.rd r :=
  (State.rd_set_reg_ne _ F.CHn_STATUS_SETTLED _ _ hs).trans
    ((State.rd_set_reg_ne _ F.CHn_STATUS_RAMPING _ _ hs).trans (State.rd_set_reg_ne _ F.CHn_STATUS_HALTED _ _ hs))

theorem State.rd_channelSafe (s : State) (c : Nat) {r : Reg} (he : r ≠ ⟨.CHn_ENABLE, c, 0⟩) (hs : r ≠ ⟨.CHn_STATUS, c, 0⟩) :
    (s.channelSafe c).rd r = s.rd r := by
  refine State.channelSafe_cases (·.rd r = s.rd r) (fun _ => ?_) (fun _ => s.rd_disconnect c he hs)
  exact (State.rd_markHalted _ c hs).trans (s.rd_disconnect c he hs)

theorem State.chan_channelSafe_of_ne (s : State) {c c' : Nat} (h : c' ≠ c) : (s.channelSafe c).chan c' = s.chan c' := by
  refine State.channelSafe_cases (·.chan c' = s.chan c') (fun _ => ?_) (fun _ => ?_)
  · exact (State.chan_setChan _ c c' _).trans (if_neg h)
  · exact (State.chan_setChan _ c c' _).trans (if_neg h)

/-- A channel's entry changes registers and front ends alone. -/
theorem State.channelSafe_eq (s : State) (c : Nat) : ∃ g h, s.channelSafe c = { s with regs := g, chans := h } := by
  by_cases h : (s.chan c).phase ∈ rampPhases
  · exact ⟨_, _, State.channelSafe_of_ramp h⟩
  · exact ⟨_, _, State.channelSafe_of_no_ramp h⟩

/-- What the entries of any number of channels leave. -/
structure EntryFrame (s t : State) : Prop where
  fr : t.fr = s.fr
  mem : t.mem = s.mem
  works : t.works = s.works
  safeEntry : t.safeEntry = s.safeEntry
  regs : regsBut [.CHn_ENABLE, .CHn_STATUS] s t

theorem EntryFrame.refl (s : State) : EntryFrame s s := ⟨rfl, rfl, rfl, rfl, fun _ _ => rfl⟩

theorem EntryFrame.channelSafe {s u : State} (h : EntryFrame s u) (c : Nat) : EntryFrame s (u.channelSafe c) := by
  have regs : regsBut [.CHn_ENABLE, .CHn_STATUS] s (u.channelSafe c) := fun r hr => by
    have hne : r.name ≠ .CHn_ENABLE ∧ r.name ≠ .CHn_STATUS := by simpa using hr
    exact (u.rd_channelSafe c (fun e => hne.1 (congrArg Reg.name e)) (fun e => hne.2 (congrArg Reg.name e))).trans (h.regs r hr)
  obtain ⟨g, k, e⟩ := u.channelSafe_eq c
  rw [e] at regs ⊢
  exact ⟨h.fr, h.mem, h.works, h.safeEntry, regs⟩

/-! ### What a channel shows after its entry -/

theorem State.rd_enable_channelSafe (s : State) (c : Nat) : (s.channelSafe c).rd ⟨.CHn_ENABLE, c, 0⟩ = 0#32 := by
  have hd : (s.disconnect c).rd ⟨.CHn_ENABLE, c, 0⟩ = 0#32 :=
    (State.rd_set_of_ne _ F.CHn_STATUS_SAFE 1 c 0 _ (show RegName.CHn_ENABLE ≠ .CHn_STATUS by decide)).trans (by simp)
  refine State.channelSafe_cases (·.rd ⟨.CHn_ENABLE, c, 0⟩ = 0#32) (fun _ => ?_) (fun _ => hd)
  exact (State.rd_markHalted _ c (by simp)).trans hd

theorem State.bit_safe_disconnect (s : State) (c : Nat) : (s.disconnect c).bit F.CHn_STATUS_SAFE c = true :=
  State.bit_setBit _ _ _ _ (by decide) (by decide)

/-- Other flags of CHn_STATUS stay while the channel is disconnected. -/
theorem State.bit_disconnect (s : State) (c : Nat) {f : Fld} (hr : f.reg = .CHn_STATUS)
    (hd : F.CHn_STATUS_SAFE.lsb + F.CHn_STATUS_SAFE.width ≤ f.lsb ∨ f.lsb + f.width ≤ F.CHn_STATUS_SAFE.lsb) :
    (s.disconnect c).bit f c = s.bit f c :=
  (State.bit_setBit_fld _ _ _ _ _ _ _ (by decide) hd).trans
    (State.bit_congr ((State.rd_wr _ _ _ _).trans (if_neg (by simp [hr]))))

theorem State.bit_markHalted (s : State) (c : Nat) : (s.markHalted c).bit F.CHn_STATUS_HALTED c = true ∧
    (s.markHalted c).bit F.CHn_STATUS_RAMPING c = false ∧ (s.markHalted c).bit F.CHn_STATUS_SETTLED c = false ∧
    (s.markHalted c).bit F.CHn_STATUS_SAFE c = s.bit F.CHn_STATUS_SAFE c := by
  simp (disch := decide) only [State.markHalted, State.bit_setBit, State.bit_clrBit, State.bit_setBit_fld, State.bit_clrBit_fld, and_self]

/-- The enables and the registers that a channel's entry and its levels are read from. -/
def chanRegs : List RegName := [.CHn_ENABLE, .CHn_STATUS] ++ liveRegs

theorem State.live_channelSafe (s : State) (c : Nat) : (s.channelSafe c).live c = s.live c := by
  have hlive : ∀ n ∈ liveRegs, n ≠ .CHn_ENABLE ∧ n ≠ .CHn_STATUS := by decide
  refine State.live_congr fun n hn => ?_
  obtain ⟨he, hs⟩ := hlive n hn
  exact s.rd_channelSafe c (by simp [he]) (by simp [hs])

/-- What R65 asks of channel `c` from the state before its entry to the one after. -/
def EntersSafe (s t : State) (c : Nat) : Prop :=
  t.bit F.CHn_ENABLE_DRV_EN c = false ∧ t.bit F.CHn_ENABLE_LOAD_EN c = false ∧ t.bit F.CHn_ENABLE_PMU_EN c = false ∧
  t.bit F.CHn_STATUS_SAFE c = true ∧ t.live c = s.live c ∧
  (if (s.chan c).phase ∈ rampPhases then
    t.chan c = { s.chan c with phase := .halted, frm := (s.chan c).present s.fr, drive := 0, loadOn := false } ∧
    t.bit F.CHn_STATUS_HALTED c = true ∧ t.bit F.CHn_STATUS_RAMPING c = false ∧ t.bit F.CHn_STATUS_SETTLED c = false
   else t.chan c = { s.chan c with drive := 0, loadOn := false } ∧ t.bit F.CHn_STATUS_HALTED c = s.bit F.CHn_STATUS_HALTED c ∧
    t.bit F.CHn_STATUS_SETTLED c = s.bit F.CHn_STATUS_SETTLED c)

/-- R65, R71: one channel by itself. -/
theorem State.channelSafe_enters (s : State) (c : Nat) : EntersSafe s (s.channelSafe c) c := by
  have henable := s.rd_enable_channelSafe c
  refine ⟨State.bit_of_rd_zero henable, State.bit_of_rd_zero henable, State.bit_of_rd_zero henable, ?safe, s.live_channelSafe c, ?front⟩
  case safe =>
    refine State.channelSafe_cases (·.bit F.CHn_STATUS_SAFE c = true) (fun _ => ?_) (fun _ => s.bit_safe_disconnect c)
    obtain ⟨-, -, -, hsafe⟩ := State.bit_markHalted ((s.disconnect c).setChan c _) c
    exact hsafe.trans (s.bit_safe_disconnect c)
  case front =>
    by_cases h : (s.chan c).phase ∈ rampPhases
    · rw [if_pos h, State.channelSafe_of_ramp h]
      obtain ⟨hhalted, hramping, hsettled, -⟩ := State.bit_markHalted ((s.disconnect c).setChan c _) c
      exact ⟨(State.chan_setChan _ c c _).trans (if_pos rfl), hhalted, hramping, hsettled⟩
    · rw [if_neg h, State.channelSafe_of_no_ramp h]
      exact ⟨(State.chan_setChan _ c c _).trans (if_pos rfl), s.bit_disconnect c rfl (by decide), s.bit_disconnect c rfl (by decide)⟩

/-! ## The channels act independently -/

/-- Channel `c` reads the same in two states, at the same instant. -/
structure SameChannel (c : Nat) (s t : State) : Prop where
  regs : ∀ n ∈ chanRegs, t.rd ⟨n, c, 0⟩ = s.rd ⟨n, c, 0⟩
  chan : t.chan c = s.chan c
  fr : t.fr = s.fr

namespace SameChannel
variable {c : Nat} {s t u : State}

theorem refl (c : Nat) (s : State) : SameChannel c s s := ⟨fun _ _ => rfl, rfl, rfl⟩

theorem bit (h : SameChannel c s t) {f : Fld} (hf : f.reg ∈ chanRegs) : t.bit f c = s.bit f c := State.bit_congr (h.regs _ hf)

theorem live (h : SameChannel c s t) : t.live c = s.live c := State.live_congr fun n hn => h.regs n (List.mem_append_right _ hn)

theorem channelSafe_of_ne (h : SameChannel c s t) {c' : Nat} (hc : c ≠ c') : SameChannel c s (t.channelSafe c') where
  regs n hn := (t.rd_channelSafe c' (by simp [hc]) (by simp [hc])).trans (h.regs n hn)
  chan := (t.chan_channelSafe_of_ne hc).trans h.chan
  fr := ((EntryFrame.refl t).channelSafe c').fr.trans h.fr

theorem foldl_channelSafe {l : List Nat} (hl : c ∉ l) (h : SameChannel c s t) : SameChannel c s (l.foldl (fun t c => t.channelSafe c) t) := by
  induction l generalizing t with
  | nil => exact h
  | cons a l ih =>
    rw [List.mem_cons, not_or] at hl
    obtain ⟨ha, hl⟩ := hl
    exact ih hl (h.channelSafe_of_ne ha)

end SameChannel

/-- The entry of a channel depends on that channel alone, before and after. -/
theorem EntersSafe.congr {c : Nat} {s s' t t' : State} (h : EntersSafe s t c) (hs : SameChannel c s' s) (ht : SameChannel c t t') :
    EntersSafe s' t' c := by
  unfold EntersSafe at h ⊢
  simpa (disch := decide) only [ht.bit, ht.live, ht.chan, ← hs.bit, ← hs.live, ← hs.chan, ← hs.fr] using h

/-- Of distinct channels, each enters the safe state from where it stood before any of them did. -/
theorem State.foldl_channelSafe_enters {l : List Nat} (hl : l.Nodup) {c : Nat} (hc : c ∈ l) (s : State) :
    EntersSafe s (l.foldl (fun t c => t.channelSafe c) s) c := by
  obtain ⟨a, b, rfl⟩ := List.append_of_mem hc
  obtain ⟨-, hcb, hdisjoint⟩ := List.nodup_append.mp hl
  have ha : c ∉ a := fun h => hdisjoint c h c List.mem_cons_self rfl
  obtain ⟨hb, -⟩ := List.nodup_cons.mp hcb
  rw [List.foldl_append, List.foldl_cons]
  exact (State.channelSafe_enters _ c).congr ((SameChannel.refl c s).foldl_channelSafe ha) ((SameChannel.refl c _).foldl_channelSafe hb)

/-! ## The device (R550) -/

/-- What R65, R550 and R552 ask of the device from the state before its entry to the one after. -/
structure DeviceEntersSafe (s t : State) : Prop where
  safeEntry : t.safeEntry = some (s.safeEntry.getD s.fr)
  fr : t.fr = s.fr
  dutSafe : t.bit F.FLT_STATUS_DUT_SAFE_N = false
  channels : ∀ c ∈ List.range 256, EntersSafe s t c
  mem : t.mem = s.mem
  works : t.works = s.works
  regs : regsBut [.CHn_ENABLE, .CHn_STATUS, .FLT_STATUS] s t

/-- The entry: every channel acts at once (R65), then its instant is latched and DUT_SAFE_N goes low. -/
theorem State.enterSafe_of_not_safe {s : State} (h : s.bit F.FLT_STATUS_SAFE = false) :
    ∃ u l, EntryFrame s u ∧ (∀ c ∈ List.range 256, EntersSafe s u c) ∧
      s.enterSafe = { u.clrBit F.FLT_STATUS_DUT_SAFE_N with safeEntry := some (u.safeEntry.getD u.fr), laneTxOff := l } :=
  ⟨(List.range 256).foldl (fun t c => t.channelSafe c) s, _,
    foldl_keep (EntryFrame s) (fun t c => t.channelSafe c) (fun _ c h => h.channelSafe c) _ (EntryFrame.refl s),
    fun _ hc => s.foldl_channelSafe_enters List.nodup_range hc, if_neg (by simp [h])⟩

theorem State.enterSafe_enters {s : State} (h : s.bit F.FLT_STATUS_SAFE = false) : DeviceEntersSafe s s.enterSafe := by
  obtain ⟨u, l, ⟨hfr, hmem, hworks, hentry, hregs⟩, hchannels, e⟩ := State.enterSafe_of_not_safe h
  rw [e]
  have hrd : ∀ r : Reg, r.name ≠ .FLT_STATUS → (u.clrBit F.FLT_STATUS_DUT_SAFE_N).rd r = u.rd r :=
    State.rd_set_of_ne u F.FLT_STATUS_DUT_SAFE_N 0 0 0
  have hchan : ∀ n ∈ chanRegs, n ≠ .FLT_STATUS := by decide
  constructor
  case safeEntry => exact congrArg some (hentry ▸ hfr ▸ rfl)
  case fr => exact hfr
  case dutSafe => exact State.bit_clrBit u F.FLT_STATUS_DUT_SAFE_N 0 0 (by decide)
  case channels => exact fun c hc => (hchannels c hc).congr (SameChannel.refl c s) ⟨fun n hn => hrd _ (hchan n hn), rfl, rfl⟩
  case mem => exact hmem
  case works => exact hworks
  case regs =>
    intro r hr
    simp only [List.mem_cons, List.not_mem_nil, or_false, not_or] at hr
    obtain ⟨he, hs, hf⟩ := hr
    exact (hrd r hf).trans (hregs r (by simp [he, hs]))

/-! ## What the collector's record of the detection leaves (R545, R548) -/

/-- The registers of the collector's record. -/
def faultRegs : List RegName :=
  [.FLT_FIRST, .FLT_FIRST_TIME_0, .FLT_FIRST_TIME_1, .FLT_FIRST_TIME_2, .FLT_STATUS, .FLT_EVENTS, .FLT_LATER, .FLT_MIRROR, .FLT_MIRROR_TIME_0,
   .FLT_MIRROR_TIME_1, .FLT_MIRROR_TIME_2]

/-- Only the collector's record, router events and Ledger events stand between two states, and FLT_STATUS.SAFE is the same. -/
structure RecordOnly (s t : State) : Prop where
  fr : t.fr = s.fr
  mem : t.mem = s.mem
  chans : t.chans = s.chans
  works : t.works = s.works
  safeEntry : t.safeEntry = s.safeEntry
  safe : t.bit F.FLT_STATUS_SAFE = s.bit F.FLT_STATUS_SAFE
  regs : regsBut faultRegs s t

namespace RecordOnly
variable {s t : State}

theorem refl (s : State) : RecordOnly s s := ⟨rfl, rfl, rfl, rfl, rfl, rfl, fun _ _ => rfl⟩

theorem wr (h : RecordOnly s t) {n : RegName} (w : Word) (hn : n ∈ faultRegs := by decide)
    (hs : n ≠ .FLT_STATUS := by decide) : RecordOnly s (t.wr ⟨n, 0, 0⟩ w) where
  fr := h.fr
  mem := h.mem
  chans := h.chans
  works := h.works
  safeEntry := h.safeEntry
  safe := (State.bit_congr ((State.rd_wr _ _ _ _).trans (if_neg (by simp [F.FLT_STATUS_SAFE, hs.symm])))).trans h.safe
  regs r hr := ((State.rd_wr _ _ _ _).trans (if_neg fun e => hr (by rw [e]; exact hn))).trans (h.regs r hr)

theorem detections (h : RecordOnly s t) (l : List Detection) : RecordOnly s { t with detections := l } :=
  ⟨h.fr, h.mem, h.chans, h.works, h.safeEntry, h.safe, h.regs⟩

/-- A field of the record other than SAFE itself. -/
theorem set (h : RecordOnly s t) {f : Fld} (v : Nat) (hn : f.reg ∈ faultRegs := by decide)
    (hs : f.reg ≠ .FLT_STATUS ∨ f.lsb + f.width ≤ F.FLT_STATUS_SAFE.lsb := by decide) : RecordOnly s (t.set f v) where
  fr := h.fr
  mem := h.mem
  chans := h.chans
  works := h.works
  safeEntry := h.safeEntry
  safe := by
    refine Eq.trans ?_ h.safe
    rcases hs with hs | hs
    · exact t.bit_set_of_ne f _ v 0 0 0 0 hs.symm
    · exact t.bit_set_fld f _ v 0 0 0 0 (Nat.le_trans hs (by decide)) (Or.inl hs)
  regs r hr := (t.rd_set_of_ne f v 0 0 r fun e => hr (e ▸ hn)).trans (h.regs r hr)

theorem wr80 (h : RecordOnly s t) {a b c : RegName} (v : Nat) (ha : a ∈ faultRegs ∧ a ≠ .FLT_STATUS := by decide)
    (hb : b ∈ faultRegs ∧ b ≠ .FLT_STATUS := by decide) (hc : c ∈ faultRegs ∧ c ≠ .FLT_STATUS := by decide) :
    RecordOnly s (t.wr80 a b c 0 v) :=
  ((h.wr _ ha.1 ha.2).wr _ hb.1 hb.2).wr _ hc.1 hc.2

/-- What the record leaves for the router and the Ledger. -/
theorem queues (h : RecordOnly s t) (e : List RaisedEvent) (l : List LedgerEv) : RecordOnly s { t with events := e, ledgerEvents := l } :=
  ⟨h.fr, h.mem, h.chans, h.works, h.safeEntry, h.safe, h.regs⟩

theorem raise (h : RecordOnly s t) (source : Nat) (at_ : Tu) : RecordOnly s (t.raise source at_) := h.queues _ _

theorem ledger (h : RecordOnly s t) (e : LedgerEv) : RecordOnly s (t.ledger e) := h.queues _ _

theorem ite {p : Prop} [Decidable p] {u : State} (ht : RecordOnly s t) (hu : RecordOnly s t → RecordOnly s u) :
    RecordOnly s (if p then t else u) := by
  split
  · exact ht
  · exact hu ht

/-- R545, R549: a first fault, with its mirror where the mirror is free. -/
theorem latchFirst (h : RecordOnly s t) (d : Detection) : RecordOnly s (t.latchFirst d) := by
  refine ((RecordOnly.ite ?first fun hfirst => ?mirror).raise _ _).ledger _
  case first => exact (((((h.wr _).wr80 _).set _).set 1).set 1).set 1
  case mirror => exact ((hfirst.wr _).wr80 _).set 1

/-- R563: a later detection of the first fault's instant takes its place. -/
theorem relatch (h : RecordOnly s t) (d : Detection) : RecordOnly s (t.relatch d) := by
  refine RecordOnly.set (RecordOnly.latchFirst ?_ d) _
  split
  · exact (h.queues _ _).set 0
  · exact h.queues _ _

/-- R545, R548: whatever the collector does with a detection. -/
theorem collect (h : RecordOnly s t) (d : Detection) : RecordOnly s (t.collect d) := by
  unfold State.collect
  split
  · exact h.relatch d
  split
  · exact h.set _
  split
  · exact (((h.set 1).set _).set _).ledger _
  · exact h.latchFirst d

theorem sameChannel (h : RecordOnly s t) (c : Nat) : SameChannel c s t := by
  have hchan : ∀ n ∈ chanRegs, n ∉ faultRegs := by decide
  exact ⟨fun n hn => h.regs _ (hchan n hn), congrArg (fun m : Store Nat Chan => Store.getD m c {}) h.chans, h.fr⟩

end RecordOnly

/-! ## The command -/

theorem State.voidFor_of_no_works {s : State} {d : Detection} (hs : s.works = []) (hd : d.works = []) : s.voidFor d = s := by
  simp [State.voidFor, State.voidAll, hs, hd]

/-- FAULT_DETECTION of a kind with a safe state. -/
theorem execFaultDetection_of_kindSafe {s : State} {d : Detection} (hd : lowestSource s.detections = some d)
    (hk : kindSafe d.kind d.source = true) :
    execFaultDetection s = .next (({ s with detections := s.detections.erase d }.collect d).voidFor d).enterSafe := by
  simp only [execFaultDetection, hd, hk, if_true]

/-- Settles O50: the command ends in the device's entry; without work to void, what the collector records before it leaves the channels. -/
theorem safeStateEntry : Obligations.SafeStateEntry := by
  unfold Obligations.SafeStateEntry
  refine ⟨?afterVoid, ?noWork⟩
  case afterVoid =>
    intro d s hd hk u hu
    have t := State.enterSafe_enters hu
    exact ⟨_, execFaultDetection_of_kindSafe hd hk, t.safeEntry, t.fr, t.dutSafe, t.channels, t.mem, t.works, t.regs⟩
  case noWork =>
    intro d s hd hk hw hdw hsafe hentry
    have r : RecordOnly s ({ s with detections := s.detections.erase d }.collect d) := (RecordOnly.refl s).detections _ |>.collect d
    have hexec := execFaultDetection_of_kindSafe (s := s) (by rw [hd]; rfl) hk
    rw [State.voidFor_of_no_works (r.works.trans hw) hdw] at hexec
    have t := State.enterSafe_enters (r.safe.trans hsafe)
    refine ⟨_, hexec, ?_, t.fr.trans r.fr, t.dutSafe, fun c hc => (t.channels c hc).congr (r.sameChannel c) (SameChannel.refl c _),
      t.mem.trans r.mem, regsBut_trans r.regs t.regs (by decide) (by decide)⟩
    rw [t.safeEntry, r.safeEntry, r.fr, hentry]
    rfl

end Sys2Proof.Machine
end

section
/-!
SUPPORT. LOOP and ENDLOOP (O10): what each does with the counter of the current window once it is due, and which counters a permitted
word can name.
-/

namespace Sys2Proof.Machine

section
variable {n k : Nat} {w : Work} {q : Seq} {i : Ins} {s : State}

/-- The sequencer after an ENDLOOP on a counter that is set: the counter is one lower, and control is at the loop's start unless it has
come to 0 (R146). -/
def Seq.countDown (q : Seq) (i : Ins) : Seq :=
  let p := q.setCounter i.mod (q.win.c.getD i.mod 0 - 1)
  if q.win.c.getD i.mod 0 = 1 then p else p.goto q.seg i.y

theorem exec_seqLoop_of_due (h : dueIns s n 0x03 = some (k, w, q, i)) :
    exec (.seqLoop n) s = .next (s.setSeq n (q.setCounter i.mod i.y)) :=
  congrArg Host.Outcome.next (s.instr_due n 0x03 _ h)

theorem exec_endloop_of_due (h : dueIns s n 0x04 = some (k, w, q, i)) :
    exec (.endloop n) s = .next (if q.win.c.getD i.mod 0 = 0 then s.stopBurst n k 0x202 else s.setSeq n (q.countDown i)) :=
  congrArg Host.Outcome.next (s.instr_due n 0x04 _ h)

/-- R136, R145: MOD of a permitted LOOP or ENDLOOP numbers one of the four counters, for its other bits are reserved. -/
theorem Ins.mod_lt_four_of_loop (hop : i.op = 3 ∨ i.op = 4) (hok : i.ok n = true) : i.mod < 4 := by
  rcases hop with hop | hop <;>
  · simp only [Ins.ok, hop, Bool.and_eq_true, decide_eq_true_eq] at hok
    obtain ⟨⟨⟨hmod, _⟩, _⟩, _⟩ := hok
    exact hmod

end

/-- Settles O10: a due LOOP or ENDLOOP is its body, and an ENDLOOP's body turns on whether its counter stands at 0. -/
theorem loopsCountDown : Obligations.LoopsCountDown := by
  unfold Obligations.LoopsCountDown
  refine ⟨?loop, ?counterSet, ?counterUnset, ?fourCounters⟩
  case loop =>
    intro n k w q i s h
    exact exec_seqLoop_of_due h
  case counterSet =>
    intro n k w q i s h hset
    exact (exec_endloop_of_due h).trans (congrArg _ (if_neg hset))
  case counterUnset =>
    intro n k w q i s h hunset
    exact (exec_endloop_of_due h).trans (congrArg _ (if_pos hunset))
  case fourCounters =>
    intro n i hop hok
    exact Ins.mod_lt_four_of_loop hop hok

end Sys2Proof.Machine
end

section
/-!
SUPPORT. NOP (O51, R395): the order that is free to start gets its final receipt; every other order number leaves the state as it is.
-/

namespace Sys2Proof.Machine

/-- An operation on an order whose body leaves the state, wherever it would run, leaves the state. -/
theorem State.onWork_eq_self {s : State} {k op : Nat} {f : Work → State} (h : ∀ w, s.work? k = some w → w.opcode = op → f w = s) :
    s.onWork k op f = s :=
  State.onWork_keep (· = s) k op f rfl h

section
variable {k : Nat} {s : State}

theorem exec_orderNop_of_routed {w : Work} (hw : s.work? k = some w) (hop : w.opcode = Op.nop) (hst : w.stage = .routed) :
    exec (.orderNop k) s = .next (s.finalReceipt k Status.complete) :=
  congrArg Host.Outcome.next ((s.onWork_eq k Op.nop _ hw hop).trans (if_pos hst))

theorem exec_orderNop_of_not_routed (h : ∀ w, s.work? k = some w → w.opcode ≠ Op.nop ∨ w.stage ≠ .routed) :
    exec (.orderNop k) s = .next s :=
  congrArg Host.Outcome.next (State.onWork_eq_self fun w hw hop => if_neg ((h w hw).resolve_left (not_not_intro hop)))

end

/-- Settles O51: a NOP that starts is its final receipt and no more, and `State.finalReceipt_eq` says all that a final receipt changes. -/
theorem nopOnlyCompletes : Obligations.NopOnlyCompletes := by
  unfold Obligations.NopOnlyCompletes
  refine ⟨?starts, ?elsewhere⟩
  case starts =>
    intro k w s hw hop hst
    exact (exec_orderNop_of_routed hw hop hst).trans (congrArg _ (s.finalReceipt_eq k Status.complete 0 [] hw))
  case elsewhere =>
    intro k s h
    exact exec_orderNop_of_not_routed h

end Sys2Proof.Machine
end

section
/-!
SUPPORT. What no command outside the keeper changes (R574): the Ledger's records, the keeper's write in progress, the torn record, and the
queue of commands. One lemma per operation says that it leaves them, by the lemmas of the operations that it calls; where the operation
branches, its proof splits as the operation does.
-/

namespace Sys2Proof.Machine

/-- The part of the state that lasts through every command outside the keeper. -/
structure Lasting where
  records : List (List Word)
  write : Option LedgerWrite
  torn : Option (List Word)
  queue : List Instr

def State.lasting (s : State) : Lasting := ⟨s.ledgRecs, s.ledgWrite, s.ledgTorn, s.pending⟩

theorem State.lasting_eq_iff {s t : State} : t.lasting = s.lasting ↔
    t.ledgRecs = s.ledgRecs ∧ t.ledgWrite = s.ledgWrite ∧ t.ledgTorn = s.ledgTorn ∧ t.pending = s.pending := by
  simp only [State.lasting, Lasting.mk.injEq]

/-- What lasts of a state given by its fields. With `State.lasting_eta`, `simp` sees through an update of any other field. The proofs `(rfl)`
make `simp` rewrite with the two: if it used them by unfolding, the kernel would compare whole states field by field. -/
@[simp] theorem State.lasting_mk {regs mem poison fr frRuns free booted rdata latch rstat funcs numVfs ari vfEnable stalls works nextWork
    devAllowance receipts donePaces tx triggers raiseNo events arrivals lastArrival detections ledgerEvents ports segs seqs tsPending
    frames0 frames1 nextEntry ethOut chans edges lanes patch crier factApplied ledgRecs ledgQueue ledgWrite laneTxOff safeEntry holdEnd
    warnSince resets watches conc gates srcEdges turn ssms driftRows handledAt calQueue oven masterOven joints gsl gslIn peers electAt
    members linksDown timeHalf timeNext timeSet servo ptpRate idConflict hallCfg crierDrv crierWait pulses crierCfg crierNow postponed awn
    items graphs schedNo callRet l1 cohWait recalls losers regions arbs debt sref srefAt openRows adcs results safetyDue safetyRes calRun
    energy p4Req p4Event inReset perstLow resetNLow powerGood pushing wdtMs wdtFrom ledgTorn bar4Log2 pending} :
    State.lasting (State.mk regs mem poison fr frRuns free booted rdata latch rstat funcs numVfs ari vfEnable stalls works nextWork
      devAllowance receipts donePaces tx triggers raiseNo events arrivals lastArrival detections ledgerEvents ports segs seqs tsPending
      frames0 frames1 nextEntry ethOut chans edges lanes patch crier factApplied ledgRecs ledgQueue ledgWrite laneTxOff safeEntry holdEnd
      warnSince resets watches conc gates srcEdges turn ssms driftRows handledAt calQueue oven masterOven joints gsl gslIn peers electAt
      members linksDown timeHalf timeNext timeSet servo ptpRate idConflict hallCfg crierDrv crierWait pulses crierCfg crierNow postponed awn
      items graphs schedNo callRet l1 cohWait recalls losers regions arbs debt sref srefAt openRows adcs results safetyDue safetyRes calRun
      energy p4Req p4Event inReset perstLow resetNLow powerGood pushing wdtMs wdtFrom ledgTorn bar4Log2 pending) = ⟨ledgRecs, ledgWrite,
      ledgTorn, pending⟩ :=
  (rfl)

@[simp] theorem State.lasting_eta (s : State) : Lasting.mk s.ledgRecs s.ledgWrite s.ledgTorn s.pending = s.lasting := (rfl)

@[simp] theorem State.lasting_ite (c : Prop) [Decidable c] (s t : State) :
    (if c then s else t).lasting = if c then s.lasting else t.lasting := apply_ite ..

/-- What lasts of the state that a command answers. -/
def lastingOf : Host.Outcome State Fault Refusal → Option Lasting
  | .next s => some s.lasting
  | .fault _ => none
  | .refused _ => none

@[simp] theorem lastingOf_next (s : State) : lastingOf (.next s) = some s.lasting := rfl

theorem lastingOf_eq_some {o : Host.Outcome State Fault Refusal} {p : Lasting} : lastingOf o = some p ↔ ∃ t, o = .next t ∧ t.lasting = p := by
  cases o <;> simp [lastingOf]

@[simp] theorem lastingOf_ite (c : Prop) [Decidable c] (o o' : Host.Outcome State Fault Refusal) :
    lastingOf (if c then o else o') = if c then lastingOf o else lastingOf o' := apply_ite ..

/-! ## Folds -/

@[simp] theorem foldl_lasting {α : Type} (f : State → α → State) (l : List α) (s : State) (h : ∀ t x, (f t x).lasting = t.lasting) :
    (l.foldl f s).lasting = s.lasting :=
  foldl_keep (·.lasting = s.lasting) f (fun t x ht => (h t x).trans ht) l rfl

@[simp] theorem foldl_fst_lasting {α β : Type} (f : State × β → α → State × β) (l : List α) (x : State × β)
    (h : ∀ x a, (f x a).1.lasting = x.1.lasting) : (l.foldl f x).1.lasting = x.1.lasting := by
  induction l generalizing x with
  | nil => rfl
  | cons a l ih => exact (ih _).trans (h x a)

/-! ## Registers, time, and what a command leaves for another -/

@[simp] theorem State.wr_lasting (s : State) (r : Reg) (w : Word) : (s.wr r w).lasting = s.lasting := by simp [State.wr]
@[simp] theorem State.set_lasting (s : State) (f : Fld) (v i j : Nat) : (s.set f v i j).lasting = s.lasting := by
  simp [State.set]
@[simp] theorem State.setBit_lasting (s : State) (f : Fld) (i j : Nat) : (s.setBit f i j).lasting = s.lasting := by
  simp [State.setBit]
@[simp] theorem State.clrBit_lasting (s : State) (f : Fld) (i j : Nat) : (s.clrBit f i j).lasting = s.lasting := by
  simp [State.clrBit]
@[simp] theorem State.setIf_lasting (s : State) (f : Fld) (b : Bool) (i j : Nat) : (s.setIf f b i j).lasting = s.lasting := by
  simp [State.setIf]
@[simp] theorem State.countUp_lasting (s : State) (f : Fld) (n i j : Nat) : (s.countUp f n i j).lasting = s.lasting := by
  simp [State.countUp]
@[simp] theorem State.wrWords_lasting (s : State) (r : RegName) (i n v : Nat) : (s.wrWords r i n v).lasting = s.lasting := by
  simp [State.wrWords]
@[simp] theorem State.wr80_lasting (s : State) (a b c : RegName) (i v : Nat) : (s.wr80 a b c i v).lasting = s.lasting := by
  simp [State.wr80]
@[simp] theorem State.advanceTo_lasting (s : State) (t : Tu) : (s.advanceTo t).lasting = s.lasting := by simp [State.advanceTo]
@[simp] theorem State.useFree_lasting (s : State) (n : Nat) : (s.useFree n).lasting = s.lasting := by simp [State.useFree]
@[simp] theorem State.setFunc_lasting (s : State) (f : Nat) (v : Func) : (s.setFunc f v).lasting = s.lasting := by simp [State.setFunc]
@[simp] theorem State.setStall_lasting (s : State) (k : Nat) (v : Stall) : (s.setStall k v).lasting = s.lasting := by simp [State.setStall]
@[simp] theorem State.setWork_lasting (s : State) (k : Nat) (v : Work) : (s.setWork k v).lasting = s.lasting := by simp [State.setWork]

@[simp] theorem State.modWork_lasting (s : State) (k : Nat) (f : Work → Work) : (s.modWork k f).lasting = s.lasting := by
  unfold State.modWork
  split <;> simp

@[simp] theorem State.raise_lasting (s : State) (source : Nat) (at_ : Tu) (rising : Bool) (mark : Nat) :
    (s.raise source at_ rising mark).lasting = s.lasting := by simp [State.raise]
@[simp] theorem State.detect_lasting (s : State) (d : Detection) : (s.detect d).lasting = s.lasting := by simp [State.detect]
@[simp] theorem State.ledger_lasting (s : State) (e : LedgerEv) : (s.ledger e).lasting = s.lasting := by simp [State.ledger]
@[simp] theorem State.trigger_lasting (s : State) (fn vec : Nat) : (s.trigger fn vec).lasting = s.lasting := by simp [State.trigger]
@[simp] theorem State.send_lasting (s : State) (w : HostWrite) : (s.send w).lasting = s.lasting := by simp [State.send]
@[simp] theorem State.raiseReceipt_lasting (s : State) (r : RaisedReceipt) : (s.raiseReceipt r).lasting = s.lasting := by
  simp [State.raiseReceipt]
@[simp] theorem State.finalReceipt_lasting (s : State) (k status cause : Nat) (detail : Bytes) :
    (s.finalReceipt k status cause detail).lasting = s.lasting := by simp [State.finalReceipt]

/-! ## Calibration records -/

@[simp] theorem State.setChan_lasting (s : State) (c : Nat) (v : Chan) : (s.setChan c v).lasting = s.lasting := by simp [State.setChan]
@[simp] theorem State.requestRamp_lasting (s : State) (c : Nat) : (s.requestRamp c).lasting = s.lasting := by simp [State.requestRamp]

/-! ## Converters: queues and conversions -/

@[simp] theorem State.setAdc_lasting (s : State) (c : Nat) (v : Adc) : (s.setAdc c v).lasting = s.lasting := by simp [State.setAdc]
@[simp] theorem State.adcDrop_lasting (s : State) (k : Nat) : (s.adcDrop k).lasting = s.lasting := by simp [State.adcDrop]

@[simp] theorem State.adcEnd_lasting (s : State) (k : Nat) : (s.adcEnd k).lasting = s.lasting := by
  unfold State.adcEnd
  split <;> simp

@[simp] theorem State.adcStop_lasting (s : State) (k : Nat) : (s.adcStop k).lasting = s.lasting := by simp [State.adcStop]
@[simp] theorem State.queueStalled_lasting (s : State) (k r : Nat) : (s.queueStalled k r).lasting = s.lasting := by
  simp [State.queueStalled]
@[simp] theorem State.adcBegin_lasting (s : State) (c : Nat) (r : AdcRun) : (s.adcBegin c r).lasting = s.lasting := by simp [State.adcBegin]

@[simp] theorem State.adcTry_lasting (s : State) (c : Nat) : (s.adcTry c).lasting = s.lasting := by
  unfold State.adcTry
  dsimp only
  repeat' split
  all_goals simp

@[simp] theorem State.adcKickN_lasting (fuel : Nat) (s : State) : (State.adcKickN fuel s).lasting = s.lasting := by
  induction fuel generalizing s with
  | zero => rfl
  | succ n ih => simp [State.adcKickN, ih]

@[simp] theorem State.adcKick_lasting (s : State) : s.adcKick.lasting = s.lasting := by simp [State.adcKick]

/-! ## Orders that end VOID, are withdrawn or disabled -/

@[simp] theorem State.setSeq_lasting (s : State) (n : Nat) (v : Seq) : (s.setSeq n v).lasting = s.lasting := by simp [State.setSeq]
@[simp] theorem State.setSeg_lasting (s : State) (n : Nat) (v : Seg) : (s.setSeg n v).lasting = s.lasting := by simp [State.setSeg]
@[simp] theorem State.refreshOwned_lasting (s : State) (cs : List Nat) : (s.refreshOwned cs).lasting = s.lasting := by
  simp [State.refreshOwned]
@[simp] theorem State.wakeDelayList_lasting (s : State) : s.wakeDelayList.lasting = s.lasting := by simp [State.wakeDelayList]
@[simp] theorem State.abandonFill_lasting (s : State) (w : Work) : (s.abandonFill w).lasting = s.lasting := by simp [State.abandonFill]
@[simp] theorem State.releaseBurst_lasting (s : State) (k : Nat) (w : Work) : (s.releaseBurst k w).lasting = s.lasting := by
  simp [State.releaseBurst]
@[simp] theorem State.finishFill_lasting (s : State) (w : Work) : (s.finishFill w).lasting = s.lasting := by simp [State.finishFill]

@[simp] theorem State.releaseWatch_lasting (s : State) (k : Nat) : (s.releaseWatch k).lasting = s.lasting := by
  unfold State.releaseWatch
  split <;> simp

@[simp] theorem State.releaseWork_lasting (s : State) (k status : Nat) : (s.releaseWork k status).lasting = s.lasting := by
  unfold State.releaseWork
  split <;> simp

@[simp] theorem State.dropComplete_lasting (s : State) (k : Nat) : (s.dropComplete k).lasting = s.lasting := by simp [State.dropComplete]
@[simp] theorem State.releaseRecord_lasting (s : State) : s.releaseRecord.lasting = s.lasting := by simp [State.releaseRecord]
@[simp] theorem State.calBusOff_lasting (s : State) (rows : List Nat) : (s.calBusOff rows).lasting = s.lasting := by simp [State.calBusOff]

@[simp] theorem State.calDone_lasting (s : State) (k : Nat) : (s.calDone k).lasting = s.lasting := by
  unfold State.calDone
  split <;> simp

@[simp] theorem State.ssmsStop_lasting (s : State) (rows : List Nat) : (s.ssmsStop rows).lasting = s.lasting := by simp [State.ssmsStop]

@[simp] theorem State.calAbort_lasting (s : State) (k : Nat) (w : Work) : (s.calAbort k w).lasting = s.lasting := by
  unfold State.calAbort
  repeat' split
  all_goals simp

@[simp] theorem State.writeStreamHeader_lasting (s : State) (k : Nat) (w : Work) (status : Nat) :
    (s.writeStreamHeader k w status).lasting = s.lasting := by simp [State.writeStreamHeader]
@[simp] theorem State.endWatch_lasting (s : State) (k : Nat) (w : Work) : (s.endWatch k w).lasting = s.lasting := by simp [State.endWatch]

@[simp] theorem State.closeWatchBy_lasting (s : State) (k : Nat) (t : Tu) : (s.closeWatchBy k t).lasting = s.lasting := by
  unfold State.closeWatchBy
  split <;> simp

@[simp] theorem State.voidWatch_lasting (s : State) (k : Nat) : (s.voidWatch k).lasting = s.lasting := by
  unfold State.voidWatch
  split <;> simp

@[simp] theorem State.voidWork_lasting (s : State) (k cause : Nat) : (s.voidWork k cause).lasting = s.lasting := by
  unfold State.voidWork
  split
  · rfl
  · -- What `simp` leaves is the end of a watch, a match on the order after its change.
    simp
    intros
    split <;> simp

@[simp] theorem State.voidAll_lasting (s : State) (ks : List Nat) (cause : Nat) : (s.voidAll ks cause).lasting = s.lasting := by
  simp [State.voidAll]
@[simp] theorem State.writeVerdict_lasting (s : State) (w : Work) (status cause fail retired : Nat) :
    (s.writeVerdict w status cause fail retired).lasting = s.lasting := by simp [State.writeVerdict]

@[simp] theorem State.withdraw_lasting (s : State) (k : Nat) : (s.withdraw k).lasting = s.lasting := by
  -- `finalReceipt_pending` rewrites one of the four fields alone, and `lasting_eta` then finds them apart.
  unfold State.withdraw
  dsimp only
  repeat' split
  all_goals simp [-State.finalReceipt_pending]

@[simp] theorem State.disableWork_lasting (s : State) (k : Nat) (w : Work) : (s.disableWork k w).lasting = s.lasting := by
  unfold State.disableWork
  split <;> simp

@[simp] theorem State.abandonOpens_lasting (s : State) (f : Nat) : (s.abandonOpens f).lasting = s.lasting := by simp [State.abandonOpens]
@[simp] theorem State.refreshWatch_lasting (s : State) : s.refreshWatch.lasting = s.lasting := by simp [State.refreshWatch]
@[simp] theorem State.startDisable_lasting (s : State) (f : Nat) (except : Option Nat) : (s.startDisable f except).lasting = s.lasting := by
  simp [State.startDisable]

/-! ## The host link -/

@[simp] theorem State.setLink_lasting (s : State) (speed width : Nat) (flit : Bool) : (s.setLink speed width flit).lasting = s.lasting := by
  simp [State.setLink]
@[simp] theorem execLinkUp_lasting (speed width : Nat) (flit tags10 : Bool) (s : State) :
    lastingOf (execLinkUp speed width flit tags10 s) = some s.lasting := by simp [execLinkUp]
@[simp] theorem execRateDrop_lasting (speed width : Nat) (s : State) : lastingOf (execRateDrop speed width s) = some s.lasting := by
  simp [execRateDrop]
@[simp] theorem execLinkRetrainHigher_lasting (speed width : Nat) (s : State) :
    lastingOf (execLinkRetrainHigher speed width s) = some s.lasting := by simp [execLinkRetrainHigher]
@[simp] theorem State.restore_lasting (s : State) (rs : List RegName) (i : Nat) : (s.restore rs i).lasting = s.lasting := by
  simp [State.restore]
@[simp] theorem State.closeStall_lasting (s : State) (k : Nat) : (s.closeStall k).lasting = s.lasting := by simp [State.closeStall]
@[simp] theorem State.setPrivFull_lasting (s : State) (fn k : Nat) (full : Bool) : (s.setPrivFull fn k full).lasting = s.lasting := by
  simp [State.setPrivFull]
@[simp] theorem State.resetConfig_lasting (s : State) (f : Nat) : (s.resetConfig f).lasting = s.lasting := by simp [State.resetConfig]
@[simp] theorem State.flrOne_lasting (s : State) (f : Nat) : (s.flrOne f).lasting = s.lasting := by simp [State.flrOne]
@[simp] theorem State.clearVfs_lasting (s : State) : s.clearVfs.lasting = s.lasting := by simp [State.clearVfs]
@[simp] theorem State.flr_lasting (s : State) (f : Nat) : (s.flr f).lasting = s.lasting := by simp [State.flr]
@[simp] theorem execFunctionLevelReset_lasting (f : Nat) (s : State) : lastingOf (execFunctionLevelReset f s) = some s.lasting := by
  simp [execFunctionLevelReset]
@[simp] theorem execDlDown_lasting (s : State) : lastingOf (execDlDown s) = some s.lasting := by simp [execDlDown]
@[simp] theorem execVfEnableWrite_lasting (enable : Bool) (s : State) : lastingOf (execVfEnableWrite enable s) = some s.lasting := by
  simp [execVfEnableWrite]
@[simp] theorem execBusMasterClear_lasting (f : Nat) (s : State) : lastingOf (execBusMasterClear f s) = some s.lasting := by
  simp [execBusMasterClear]
@[simp] theorem execD3hotEntry_lasting (f : Nat) (s : State) : lastingOf (execD3hotEntry f s) = some s.lasting := by simp [execD3hotEntry]
@[simp] theorem execD3hotExit_lasting (f : Nat) (s : State) : lastingOf (execD3hotExit f s) = some s.lasting := by simp [execD3hotExit]
@[simp] theorem State.endDisable_lasting (s : State) (f : Nat) : (s.endDisable f).lasting = s.lasting := by simp [State.endDisable]
@[simp] theorem execFlrDone_lasting (f : Nat) (s : State) : lastingOf (execFlrDone f s) = some s.lasting := by simp [execFlrDone]
@[simp] theorem State.issueMsix_lasting (s : State) (f v : Nat) : (s.issueMsix f v).lasting = s.lasting := by simp [State.issueMsix]
@[simp] theorem State.modVec_lasting (s : State) (f v : Nat) (g : MsixVec → MsixVec) : (s.modVec f v g).lasting = s.lasting := by
  simp [State.modVec]

@[simp] theorem execMsixTrigger_lasting (s : State) : lastingOf (execMsixTrigger s) = some s.lasting := by
  unfold execMsixTrigger
  split <;> simp

@[simp] theorem execMsixUnmask_lasting (f v : Nat) (s : State) : lastingOf (execMsixUnmask f v s) = some s.lasting := by
  simp [execMsixUnmask]

/-! ## Stalls and rings -/

@[simp] theorem State.writeState_lasting (s : State) (k : Nat) (st : StallState) : (s.writeState k st).lasting = s.lasting := by
  simp [State.writeState]
@[simp] theorem State.ctlReject_lasting (s : State) (f result : Nat) : (s.ctlReject f result).lasting = s.lasting := by
  simp [State.ctlReject]
@[simp] theorem execStallOpen_lasting (f k : Nat) (s : State) : lastingOf (execStallOpen f k s) = some s.lasting := by simp [execStallOpen]
@[simp] theorem execStallOpenComplete_lasting (k : Nat) (desc : Bytes) (doorbell : Nat) (s : State) :
    lastingOf (execStallOpenComplete k desc doorbell s) = some s.lasting := by simp [execStallOpenComplete]
@[simp] theorem execStallClose_lasting (f k : Nat) (s : State) : lastingOf (execStallClose f k s) = some s.lasting := by
  simp [execStallClose]
@[simp] theorem execStallClosed_lasting (k : Nat) (s : State) : lastingOf (execStallClosed k s) = some s.lasting := by
  simp [execStallClosed]
@[simp] theorem execStallWake_lasting (f k : Nat) (s : State) : lastingOf (execStallWake f k s) = some s.lasting := by simp [execStallWake]
@[simp] theorem execDoorbellPoll_lasting (f line : Nat) (s : State) : lastingOf (execDoorbellPoll f line s) = some s.lasting := by
  simp [execDoorbellPoll]
@[simp] theorem State.haltStall_lasting (s : State) (k reason : Nat) : (s.haltStall k reason).lasting = s.lasting := by
  simp [State.haltStall]
@[simp] theorem execDoorbellReadDone_lasting (k word : Nat) (s : State) : lastingOf (execDoorbellReadDone k word s) = some s.lasting := by
  simp [execDoorbellReadDone]
@[simp] theorem execStallSleep_lasting (k : Nat) (s : State) : lastingOf (execStallSleep k s) = some s.lasting := by simp [execStallSleep]
@[simp] theorem State.doorbellFailed_lasting (s : State) (k : Nat) : (s.doorbellFailed k).lasting = s.lasting := by
  simp [State.doorbellFailed]
@[simp] theorem execOrderFetch_lasting (k : Nat) (s : State) : lastingOf (execOrderFetch k s) = some s.lasting := by simp [execOrderFetch]

@[simp] theorem execFetchAllowanceTick_lasting (k : Option Nat) (s : State) : lastingOf (execFetchAllowanceTick k s) = some s.lasting := by
  unfold execFetchAllowanceTick
  split <;> simp

@[simp] theorem State.joinEngine_lasting (s : State) (k : Nat) : (s.joinEngine k).lasting = s.lasting := by simp [State.joinEngine]
@[simp] theorem State.routed_lasting (s : State) (k : Nat) (w : Work) : (s.routed k w).lasting = s.lasting := by simp [State.routed]
@[simp] theorem State.route_lasting (s : State) (k : Nat) (w : Work) : (s.route k w).lasting = s.lasting := by simp [State.route]
@[simp] theorem State.permit_lasting (s : State) (k : Nat) (w : Work) : (s.permit k w).lasting = s.lasting := by simp [State.permit]

@[simp] theorem execOrderReceived_lasting (k : Nat) (bytes : Bytes) (s : State) :
    lastingOf (execOrderReceived k bytes s) = some s.lasting := by
  unfold execOrderReceived
  split <;> simp

@[simp] theorem execFenceRelease_lasting (k : Nat) (s : State) : lastingOf (execFenceRelease k s) = some s.lasting := by
  unfold execFenceRelease
  split <;> simp

@[simp] theorem State.issueReceipt_lasting (s : State) (k : Nat) (w : Work) (r : RaisedReceipt) :
    (s.issueReceipt k w r).lasting = s.lasting := by simp [State.issueReceipt]
@[simp] theorem State.countEnded_lasting (s : State) (f status : Nat) : (s.countEnded f status).lasting = s.lasting := by
  simp [State.countEnded]

@[simp] theorem execReceiptWrite_lasting (s : State) : lastingOf (execReceiptWrite s) = some s.lasting := by
  unfold execReceiptWrite
  dsimp only
  repeat' split
  all_goals simp

@[simp] theorem State.orderReadFailed_lasting (s : State) (k : Nat) : (s.orderReadFailed k).lasting = s.lasting := by
  unfold State.orderReadFailed
  split <;> simp

@[simp] theorem State.dataReadFailed_lasting (s : State) (k : Nat) : (s.dataReadFailed k).lasting = s.lasting := by
  unfold State.dataReadFailed
  repeat' split
  all_goals simp

@[simp] theorem State.reportRead_lasting (s : State) (e : ReadFailure) (f : Nat) : (s.reportRead e f).lasting = s.lasting := by
  unfold State.reportRead
  repeat' split
  all_goals simp

@[simp] theorem execReadFailed_lasting (e : ReadFailure) (what : ReadKind) (s : State) :
    lastingOf (execReadFailed e what s) = some s.lasting := by
  unfold execReadFailed
  split <;> simp

/-! ## Orders -/

@[simp] theorem State.onWork_lasting (s : State) (k op : Nat) (f : Work → State) (h : ∀ w, (f w).lasting = s.lasting) :
    (s.onWork k op f).lasting = s.lasting :=
  s.onWork_keep (·.lasting = s.lasting) k op f rfl fun w _ _ => h w

@[simp] theorem State.offer_lasting (s : State) (k : Nat) (w : Work) : (s.offer k w).lasting = s.lasting := by simp [State.offer]

@[simp] theorem State.tollOrder_lasting (s : State) (k op : Nat) (go : Work → State)
    (h : ∀ w, (go w).lasting = s.lasting) : (s.tollOrder k op go).lasting = s.lasting := by
  simp [State.tollOrder, h]

@[simp] theorem execOrderNop_lasting (k : Nat) (s : State) : lastingOf (execOrderNop k s) = some s.lasting := by simp [execOrderNop]
@[simp] theorem execOrderBurst_lasting (k : Nat) (s : State) : lastingOf (execOrderBurst k s) = some s.lasting := by simp [execOrderBurst]
@[simp] theorem State.unpoison_lasting (s : State) (a n : Nat) : (s.unpoison a n).lasting = s.lasting := by simp [State.unpoison]
@[simp] theorem State.eccAddr_lasting (s : State) (line : Nat) : (s.eccAddr line).lasting = s.lasting := by simp [State.eccAddr]
@[simp] theorem State.eccDetect_lasting (s : State) (a n : Nat) (ks : List Nat) : (s.eccDetect a n ks).lasting = s.lasting := by
  simp [State.eccDetect]
@[simp] theorem execSegmentWrite_lasting (k : Nat) (s : State) : lastingOf (execSegmentWrite k s) = some s.lasting := by
  simp [execSegmentWrite]
@[simp] theorem execSegmentStream_lasting (k : Nat) (data : Bytes) (s : State) :
    lastingOf (execSegmentStream k data s) = some s.lasting := by simp [execSegmentStream]

@[simp] theorem execFillComplete_lasting (k : Nat) (s : State) : lastingOf (execFillComplete k s) = some s.lasting := by
  unfold execFillComplete
  split <;> simp

@[simp] theorem execCaptureRead_lasting (k : Nat) (s : State) : lastingOf (execCaptureRead k s) = some s.lasting := by
  simp [execCaptureRead]

@[simp] theorem execLastDataWriteIssued_lasting (k : Nat) (s : State) : lastingOf (execLastDataWriteIssued k s) = some s.lasting := by
  unfold execLastDataWriteIssued
  split <;> simp

@[simp] theorem execTimingLoad_lasting (k : Nat) (s : State) : lastingOf (execTimingLoad k s) = some s.lasting := by simp [execTimingLoad]
@[simp] theorem State.stageRecord_lasting (s : State) (c t : Nat) (img : Bytes) (off : Nat) :
    (s.stageRecord c t img off).lasting = s.lasting := by simp [State.stageRecord]
@[simp] theorem State.timingImage_lasting (s : State) (k : Nat) (w : Work) (img : Bytes) : (s.timingImage k w img).lasting = s.lasting := by
  simp [State.timingImage]
@[simp] theorem State.setFrames_lasting (s : State) (port : Nat) (q : List LaunchFrame) : (s.setFrames port q).lasting = s.lasting := by
  simp [State.setFrames]
@[simp] theorem execFrameLaunch_lasting (k : Nat) (s : State) : lastingOf (execFrameLaunch k s) = some s.lasting := by
  simp [execFrameLaunch]
@[simp] theorem State.queueFrame_lasting (s : State) (k : Nat) (w : Work) (frame : Bytes) :
    (s.queueFrame k w frame).lasting = s.lasting := by simp [State.queueFrame]
@[simp] theorem State.blockArrived_lasting (s : State) (k : Nat) (w : Work) : (s.blockArrived k w).lasting = s.lasting := by
  simp [State.blockArrived]

@[simp] theorem execHostReadCompletion_lasting (k : Nat) (data meas parts : Bytes) (s : State) :
    lastingOf (execHostReadCompletion k data meas parts s) = some s.lasting := by
  unfold execHostReadCompletion
  split <;> simp

@[simp] theorem execOrderFence_lasting (k : Nat) (s : State) : lastingOf (execOrderFence k s) = some s.lasting := by simp [execOrderFence]
@[simp] theorem State.disableBusy_lasting (s : State) (f : Nat) : (s.disableBusy f).lasting = s.lasting := by simp [State.disableBusy]
@[simp] theorem execOrderDisable_lasting (k : Nat) (s : State) : lastingOf (execOrderDisable k s) = some s.lasting := by
  simp [execOrderDisable]

/-! ## Mailboxes -/

@[simp] theorem State.bindViolation_lasting (s : State) (a : Agent) : (s.bindViolation a).lasting = s.lasting := by
  cases a <;> simp [State.bindViolation]
@[simp] theorem State.answer_lasting (s : State) (ws : List Word) : (s.answer ws).lasting = s.lasting := by simp [State.answer]
@[simp] theorem State.answerErr_lasting (s : State) (e : ReadStatus) : (s.answerErr e).lasting = s.lasting := by simp [State.answerErr]
@[simp] theorem execMbxTxbufWrite_lasting (a : Agent) (n w : Nat) (v : Word) (s : State) :
    lastingOf (execMbxTxbufWrite a n w v s) = some s.lasting := by simp [execMbxTxbufWrite]
@[simp] theorem State.commitMessage_lasting (s : State) (n : Nat) : (s.commitMessage n).lasting = s.lasting := by simp [State.commitMessage]
@[simp] theorem execMbxSharedSend_lasting (a : Agent) (n : Nat) (s : State) : lastingOf (execMbxSharedSend a n s) = some s.lasting := by
  simp [execMbxSharedSend]
@[simp] theorem execMbxRxbufRead_lasting (a : Agent) (n w : Nat) (s : State) : lastingOf (execMbxRxbufRead a n w s) = some s.lasting := by
  simp [execMbxRxbufRead]
@[simp] theorem execMbxPortSelect_lasting (fn p k : Nat) (s : State) : lastingOf (execMbxPortSelect fn p k s) = some s.lasting := by
  simp [execMbxPortSelect]
@[simp] theorem State.takePrivate_lasting (s : State) (fn : Nat) (port : MbxPort) : (s.takePrivate fn port).lasting = s.lasting := by
  simp [State.takePrivate]
@[simp] theorem execMbxPortDataRead_lasting (fn p w : Nat) (s : State) : lastingOf (execMbxPortDataRead fn p w s) = some s.lasting := by
  simp [execMbxPortDataRead]

@[simp] theorem execEventPresent_lasting (s : State) : lastingOf (execEventPresent s) = some s.lasting := by
  unfold execEventPresent
  split <;> simp

@[simp] theorem execRouteWrite_lasting (n : Nat) (v : Word) (s : State) : lastingOf (execRouteWrite n v s) = some s.lasting := by
  simp [execRouteWrite]

/-! ## The Ledger: what neither starts nor ends a write -/

@[simp] theorem State.refreshLedger_lasting (s : State) : s.refreshLedger.lasting = s.lasting := by simp [State.refreshLedger]
@[simp] theorem State.ledgerLose_lasting (s : State) (n : Nat) : (s.ledgerLose n).lasting = s.lasting := by simp [State.ledgerLose]
@[simp] theorem State.unrecorded_lasting (s : State) : s.unrecorded.lasting = s.lasting := by simp [State.unrecorded]
@[simp] theorem execVkeepWarning_lasting (s : State) : lastingOf (execVkeepWarning s) = some s.lasting := by simp [execVkeepWarning]

@[simp] theorem State.ledgerWords_lasting (s : State) (i : Nat) : (s.ledgerWords i).1.lasting = s.lasting := by
  unfold State.ledgerWords
  dsimp only
  repeat' split
  all_goals simp

@[simp] theorem execLedgerRead_lasting (s : State) : lastingOf (execLedgerRead s) = some s.lasting := by simp [execLedgerRead]

/-! ## Pin channels -/

@[simp] theorem State.pmuConflict_lasting (s : State) (c mode : Nat) : (s.pmuConflict c mode).lasting = s.lasting := by
  simp [State.pmuConflict]
@[simp] theorem State.applyCommit_lasting (s : State) (c : Nat) : (s.applyCommit c).lasting = s.lasting := by simp [State.applyCommit]
@[simp] theorem State.rejectCommit_lasting (s : State) (c result : Nat) : (s.rejectCommit c result).lasting = s.lasting := by
  simp [State.rejectCommit]
@[simp] theorem execLevelCommit_lasting (c : Nat) (s : State) : lastingOf (execLevelCommit c s) = some s.lasting := by
  simp [execLevelCommit]
@[simp] theorem State.startLine_lasting (s : State) (c : Nat) (frm : List Rat) : (s.startLine c frm).lasting = s.lasting := by
  simp [State.startLine]
@[simp] theorem State.startLeg_lasting (s : State) (c : Nat) (frm : List Rat) : (s.startLeg c frm).lasting = s.lasting := by
  simp [State.startLeg]
@[simp] theorem execRampStart_lasting (c : Nat) (s : State) : lastingOf (execRampStart c s) = some s.lasting := by simp [execRampStart]
@[simp] theorem execRangeSwitchDone_lasting (c : Nat) (s : State) : lastingOf (execRangeSwitchDone c s) = some s.lasting := by
  simp [execRangeSwitchDone]
@[simp] theorem execRampEnd_lasting (c : Nat) (s : State) : lastingOf (execRampEnd c s) = some s.lasting := by simp [execRampEnd]
@[simp] theorem State.settledFor_lasting (s : State) (c : Nat) : (s.settledFor c).lasting = s.lasting := by simp [State.settledFor]
@[simp] theorem execRampDone_lasting (c : Nat) (s : State) : lastingOf (execRampDone c s) = some s.lasting := by simp [execRampDone]
@[simp] theorem State.writeLevels_lasting (s : State) (w : Work) : (s.writeLevels w).lasting = s.lasting := by simp [State.writeLevels]

@[simp] theorem State.levelSet_lasting (s : State) (k : Nat) (w : Work) : (s.levelSet k w).lasting = s.lasting := by
  unfold State.levelSet
  dsimp only
  split <;> simp

@[simp] theorem execLevelSet_lasting (k : Nat) (s : State) : lastingOf (execLevelSet k s) = some s.lasting := by simp [execLevelSet]
@[simp] theorem execChannelEnableWrite_lasting (c : Nat) (v : Word) (s : State) :
    lastingOf (execChannelEnableWrite c v s) = some s.lasting := by simp [execChannelEnableWrite]

@[simp] theorem State.channelSafe_lasting (s : State) (c : Nat) : (s.channelSafe c).lasting = s.lasting := by
  unfold State.channelSafe
  dsimp only
  split <;> simp

@[simp] theorem State.stampChange_lasting (s : State) (c a b : Nat) (t : Int) : (s.stampChange c a b t).lasting = s.lasting := by
  simp [State.stampChange]
@[simp] theorem State.srcEdge_lasting (s : State) (source : Nat) (rising : Bool) (t : Tu) :
    (s.srcEdge source rising t).lasting = s.lasting := by simp [State.srcEdge]
@[simp] theorem State.srcEdges2_lasting (s : State) (c a b : Nat) (t : Tu) : (s.srcEdges2 c a b t).lasting = s.lasting := by
  simp [State.srcEdges2]
@[simp] theorem State.disagreement_lasting (s : State) (c : Nat) : (s.disagreement c).lasting = s.lasting := by simp [State.disagreement]
@[simp] theorem State.reach_lasting (s : State) (c o : Nat) : (s.reach c o).lasting = s.lasting := by simp [State.reach]
@[simp] theorem execComparatorOutcomeChange_lasting (c o : Nat) (s : State) :
    lastingOf (execComparatorOutcomeChange c o s) = some s.lasting := by simp [execComparatorOutcomeChange]
@[simp] theorem execComparatorDisagreement_lasting (c : Nat) (s : State) : lastingOf (execComparatorDisagreement c s) = some s.lasting := by
  simp [execComparatorDisagreement]
@[simp] theorem State.overstress_lasting (s : State) (f : Fld) (c source : Nat) : (s.overstress f c source).lasting = s.lasting := by
  simp [State.overstress]
@[simp] theorem execSwmTrip_lasting (c : Nat) (s : State) : lastingOf (execSwmTrip c s) = some s.lasting := by simp [execSwmTrip]
@[simp] theorem execDrvStuck_lasting (c : Nat) (s : State) : lastingOf (execDrvStuck c s) = some s.lasting := by simp [execDrvStuck]
@[simp] theorem execPmuOver_lasting (c : Nat) (s : State) : lastingOf (execPmuOver c s) = some s.lasting := by simp [execPmuOver]
@[simp] theorem execPmuClamp_lasting (c : Nat) (s : State) : lastingOf (execPmuClamp c s) = some s.lasting := by simp [execPmuClamp]

/-! ## Faults -/

@[simp] theorem State.voidFor_lasting (s : State) (d : Detection) : (s.voidFor d).lasting = s.lasting := by simp [State.voidFor]
@[simp] theorem State.enterSafe_lasting (s : State) : s.enterSafe.lasting = s.lasting := by simp [State.enterSafe]
@[simp] theorem State.latchFirst_lasting (s : State) (d : Detection) : (s.latchFirst d).lasting = s.lasting := by simp [State.latchFirst]
@[simp] theorem State.relatch_lasting (s : State) (d : Detection) : (s.relatch d).lasting = s.lasting := by simp [State.relatch]
@[simp] theorem State.collect_lasting (s : State) (d : Detection) : (s.collect d).lasting = s.lasting := by simp [State.collect]

@[simp] theorem execFaultDetection_lasting (s : State) : lastingOf (execFaultDetection s) = some s.lasting := by
  unfold execFaultDetection
  split <;> simp

@[simp] theorem execHandlingEnd_lasting (s : State) : lastingOf (execHandlingEnd s) = some s.lasting := by simp [execHandlingEnd]

@[simp] theorem execSafeStateConfirm_lasting (s : State) : lastingOf (execSafeStateConfirm s) = some s.lasting := by
  unfold execSafeStateConfirm
  split <;> simp

@[simp] theorem execEscalationTimeout_lasting (s : State) : lastingOf (execEscalationTimeout s) = some s.lasting := by
  unfold execEscalationTimeout
  split <;> simp

@[simp] theorem State.refreshDutSafe_lasting (s : State) : s.refreshDutSafe.lasting = s.lasting := by simp [State.refreshDutSafe]
@[simp] theorem State.clearFault_lasting (s : State) : s.clearFault.lasting = s.lasting := by simp [State.clearFault]
@[simp] theorem execFltClear_lasting (asserting : Bool) (s : State) : lastingOf (execFltClear asserting s) = some s.lasting := by
  simp [execFltClear]
@[simp] theorem execFltMirrorAck_lasting (s : State) : lastingOf (execFltMirrorAck s) = some s.lasting := by simp [execFltMirrorAck]
@[simp] theorem execFltDisable_lasting (f : Nat) (s : State) : lastingOf (execFltDisable f s) = some s.lasting := by simp [execFltDisable]
@[simp] theorem execDisableDone_lasting (f : Nat) (s : State) : lastingOf (execDisableDone f s) = some s.lasting := by
  simp [execDisableDone]
@[simp] theorem State.setHold_lasting (s : State) (b : Bool) : (s.setHold b).lasting = s.lasting := by simp [State.setHold]
@[simp] theorem execSupplyWarning_lasting (r : Nat) (s : State) : lastingOf (execSupplyWarning r s) = some s.lasting := by
  simp [execSupplyWarning]
@[simp] theorem execSupplyWarningEnd_lasting (r : Nat) (lowest : Int) (s : State) :
    lastingOf (execSupplyWarningEnd r lowest s) = some s.lasting := by simp [execSupplyWarningEnd]

@[simp] theorem execSupplyHoldEnd_lasting (s : State) : lastingOf (execSupplyHoldEnd s) = some s.lasting := by
  unfold execSupplyHoldEnd
  split <;> simp

/-! ## Timing commits -/

@[simp] theorem State.requestTiming_lasting (s : State) (n : Nat) (w : Option Nat) : (s.requestTiming n w).1.lasting = s.lasting := by
  unfold State.requestTiming
  split <;> simp [apply_ite Prod.fst]

@[simp] theorem execTsbankCommit_lasting (n : Nat) (s : State) : lastingOf (execTsbankCommit n s) = some s.lasting := by
  simp [execTsbankCommit]
@[simp] theorem execTsbankCommitFree_lasting (s : State) : lastingOf (execTsbankCommitFree s) = some s.lasting := by
  simp [execTsbankCommitFree]
@[simp] theorem execTimingCommit_lasting (k : Nat) (s : State) : lastingOf (execTimingCommit k s) = some s.lasting := by
  simp [execTimingCommit]
@[simp] theorem State.copyBank_lasting (s : State) (cs : List Nat) : (s.copyBank cs).lasting = s.lasting := by simp [State.copyBank]

@[simp] theorem execTimingCommitEffect_lasting (n : Nat) (s : State) : lastingOf (execTimingCommitEffect n s) = some s.lasting := by
  unfold execTimingCommitEffect
  repeat' split
  all_goals simp

@[simp] theorem execTsbankStageWrite_lasting (c t w : Nat) (v : Word) (s : State) :
    lastingOf (execTsbankStageWrite c t w v s) = some s.lasting := by
  unfold execTsbankStageWrite
  repeat' split
  all_goals simp

@[simp] theorem execDriftDetection_lasting (stack : Bool) (i : Nat) (s : State) :
    lastingOf (execDriftDetection stack i s) = some s.lasting := by simp [execDriftDetection]

/-! ## Sequencers -/

@[simp] theorem execOwnershipCommit_lasting (n : Nat) (s : State) : lastingOf (execOwnershipCommit n s) = some s.lasting := by
  simp [execOwnershipCommit]

@[simp] theorem State.onSeq_lasting (s : State) (n : Nat) (f : Nat → Work → Seq → State) (h : ∀ k w q, (f k w q).lasting = s.lasting) :
    (s.onSeq n f).lasting = s.lasting :=
  s.onSeq_keep (·.lasting = s.lasting) n f rfl fun k w _ _ => h k w _

@[simp] theorem State.setLane_lasting (s : State) (k : Nat) (v : Lane) : (s.setLane k v).lasting = s.lasting := by simp [State.setLane]
@[simp] theorem State.laneEvent_lasting (s : State) (k e : Nat) : (s.laneEvent k e).lasting = s.lasting := by simp [State.laneEvent]
@[simp] theorem State.endCompare_lasting (s : State) (k result : Nat) (checked : Bool) :
    (s.endCompare k result checked).lasting = s.lasting := by simp [State.endCompare]
@[simp] theorem State.armCompares_lasting (s : State) (w : Work) : (s.armCompares w).lasting = s.lasting := by simp [State.armCompares]

@[simp] theorem State.endCompares_lasting (s : State) (w : Work) (void : Bool) : (s.endCompares w void).lasting = s.lasting := by
  refine foldl_lasting _ _ _ fun t x => ?_
  dsimp only
  repeat' split
  all_goals simp

@[simp] theorem State.parkFloat_lasting (s : State) (n : Nat) : (s.parkFloat n).lasting = s.lasting := by simp [State.parkFloat]
@[simp] theorem State.refreshCap_lasting (s : State) (n : Nat) (w : Work) : (s.refreshCap n w).lasting = s.lasting := by
  simp [State.refreshCap]

@[simp] theorem State.endSeq_lasting (s : State) (n k : Nat) (stage : Stage) (float : Bool) :
    (s.endSeq n k stage float).lasting = s.lasting := by
  -- The marks that wait are raised by a fold whose step is a match, which the discharger splits.
  unfold State.endSeq
  dsimp only
  split <;> split <;> split <;> simp (disch := intros; split <;> simp)

@[simp] theorem State.stopBurst_lasting (s : State) (n k cause : Nat) : (s.stopBurst n k cause).lasting = s.lasting := by
  simp [State.stopBurst]
@[simp] theorem State.readFailed_lasting (s : State) (n k : Nat) (e : Nat × Nat) : (s.readFailed n k e).lasting = s.lasting := by
  simp [State.readFailed]
@[simp] theorem State.finishBurst_lasting (s : State) (n k : Nat) (w : Work) (float : Bool) :
    (s.finishBurst n k w float).lasting = s.lasting := by simp [State.finishBurst]

@[simp] theorem State.instr_lasting (s : State) (n op : Nat) (body : State → Nat → Work → Seq → Ins → State)
    (h : ∀ k w q i, (body s k w q i).lasting = s.lasting) : (s.instr n op body).lasting = s.lasting := by
  refine s.onSeq_lasting n _ fun k w q => ?_
  dsimp only
  repeat' split
  all_goals simp [h]

@[simp] theorem execSeqVec_lasting (n : Nat) (s : State) : lastingOf (execSeqVec n s) = some s.lasting := by simp [execSeqVec]
@[simp] theorem execSeqRepeat_lasting (n : Nat) (s : State) : lastingOf (execSeqRepeat n s) = some s.lasting := by simp [execSeqRepeat]
@[simp] theorem execSeqShift_lasting (n : Nat) (s : State) : lastingOf (execSeqShift n s) = some s.lasting := by simp [execSeqShift]
@[simp] theorem execSeqLoop_lasting (n : Nat) (s : State) : lastingOf (execSeqLoop n s) = some s.lasting := by simp [execSeqLoop]
@[simp] theorem execEndloop_lasting (n : Nat) (s : State) : lastingOf (execEndloop n s) = some s.lasting := by simp [execEndloop]
@[simp] theorem execSeqJump_lasting (n : Nat) (s : State) : lastingOf (execSeqJump n s) = some s.lasting := by simp [execSeqJump]
@[simp] theorem State.spill_lasting (s : State) (q : Seq) (d : Nat) : (s.spill q d).1.lasting = s.lasting := by
  simp [State.spill]

@[simp] theorem execSeqCall_lasting (n : Nat) (s : State) : lastingOf (execSeqCall n s) = some s.lasting := by
  refine congrArg some (s.instr_lasting _ _ _ fun k w q i => ?_)
  dsimp only
  repeat' split
  all_goals simp

@[simp] theorem State.fillFailed_lasting (s : State) (n k : Nat) : (s.fillFailed n k).lasting = s.lasting := by simp [State.fillFailed]

@[simp] theorem execSeqReturn_lasting (n : Nat) (s : State) : lastingOf (execSeqReturn n s) = some s.lasting := by
  refine congrArg some (s.instr_lasting _ _ _ fun k w q i => ?_)
  dsimp only
  repeat' split
  all_goals simp

@[simp] theorem State.refreshSites_lasting (s : State) (n : Nat) : (s.refreshSites n).lasting = s.lasting := by simp [State.refreshSites]

@[simp] theorem execBrfail_lasting (n : Nat) (s : State) : lastingOf (execBrfail n s) = some s.lasting := by
  unfold execBrfail
  dsimp only
  split <;> simp

@[simp] theorem State.pastDecision_lasting (s : State) (q : Seq) : (s.pastDecision q).lasting = s.lasting := by simp [State.pastDecision]
@[simp] theorem execBrevt_lasting (n : Nat) (s : State) : lastingOf (execBrevt n s) = some s.lasting := by simp [execBrevt]

@[simp] theorem execSeqMatch_lasting (n : Nat) (s : State) : lastingOf (execSeqMatch n s) = some s.lasting := by
  unfold execSeqMatch
  dsimp only
  split <;> simp

@[simp] theorem execMatchTimeout_lasting (n : Nat) (s : State) : lastingOf (execMatchTimeout n s) = some s.lasting := by
  unfold execMatchTimeout
  dsimp only
  split <;> simp

@[simp] theorem execSetts_lasting (n : Nat) (s : State) : lastingOf (execSetts n s) = some s.lasting := by simp [execSetts]
@[simp] theorem execSeqDir_lasting (n : Nat) (s : State) : lastingOf (execSeqDir n s) = some s.lasting := by simp [execSeqDir]
@[simp] theorem execEdgecmp_lasting (n : Nat) (s : State) : lastingOf (execEdgecmp n s) = some s.lasting := by simp [execEdgecmp]
@[simp] theorem execSeqMark_lasting (n : Nat) (s : State) : lastingOf (execSeqMark n s) = some s.lasting := by simp [execSeqMark]
@[simp] theorem execCaptureOn_lasting (n : Nat) (s : State) : lastingOf (execCaptureOn n s) = some s.lasting := by simp [execCaptureOn]
@[simp] theorem execCaptureOff_lasting (n : Nat) (s : State) : lastingOf (execCaptureOff n s) = some s.lasting := by simp [execCaptureOff]
@[simp] theorem execSeqEnd_lasting (n : Nat) (s : State) : lastingOf (execSeqEnd n s) = some s.lasting := by simp [execSeqEnd]
@[simp] theorem State.enterHold_lasting (s : State) (n : Nat) (q : Seq) (line cond timeout : Nat) (jump : Bool) (target : Nat) :
    (s.enterHold n q line cond timeout jump target).lasting = s.lasting := by simp [State.enterHold]
@[simp] theorem execSeqHold_lasting (n : Nat) (s : State) : lastingOf (execSeqHold n s) = some s.lasting := by simp [execSeqHold]
@[simp] theorem State.crierHolds_lasting (s : State) (line : Nat) (level : Bool) (t : Tu) :
    (s.crierHolds line level t).lasting = s.lasting := by simp [State.crierHolds]
@[simp] theorem State.leaveHold_lasting (s : State) (n : Nat) (q : Seq) (start : Tu) : (s.leaveHold n q start).lasting = s.lasting := by
  simp [State.leaveHold]

@[simp] theorem execHoldRelease_lasting (n : Nat) (s : State) : lastingOf (execHoldRelease n s) = some s.lasting := by
  refine congrArg some (s.onSeq_lasting _ _ fun k w q => ?_)
  split <;> simp

@[simp] theorem execHoldTimeout_lasting (n : Nat) (s : State) : lastingOf (execHoldTimeout n s) = some s.lasting := by
  refine congrArg some (s.onSeq_lasting _ _ fun k w q => ?_)
  repeat' split
  all_goals simp

@[simp] theorem execHoldDurationBound_lasting (n : Nat) (s : State) : lastingOf (execHoldDurationBound n s) = some s.lasting := by
  refine congrArg some (s.onSeq_lasting _ _ fun k w q => ?_)
  split <;> simp

@[simp] theorem State.markPc_lasting (s : State) (n : Nat) (q : Seq) : (s.markPc n q).lasting = s.lasting := by simp [State.markPc]
@[simp] theorem State.stopSession_lasting (s : State) (n k : Nat) (w : Work) : (s.stopSession n k w).lasting = s.lasting := by
  simp [State.stopSession]

@[simp] theorem execInstructionBoundary_lasting (n : Nat) (s : State) : lastingOf (execInstructionBoundary n s) = some s.lasting := by
  refine congrArg some (s.onSeq_lasting _ _ fun k w q => ?_)
  dsimp only
  repeat' split
  all_goals simp

@[simp] theorem execFaultNoticeArrival_lasting (n : Nat) (s : State) : lastingOf (execFaultNoticeArrival n s) = some s.lasting := by
  refine congrArg some (s.onSeq_lasting _ _ fun k w q => ?_)
  split <;> simp

@[simp] theorem State.onSession_lasting (s : State) (n : Nat) (f : Nat → Work → Seq → State)
    (h : ∀ k w q, (f k w q).lasting = s.lasting) : (s.onSession n f).lasting = s.lasting := by
  unfold State.onSession
  split <;> simp [h]

@[simp] theorem execSessionPause_lasting (n : Nat) (s : State) : lastingOf (execSessionPause n s) = some s.lasting := by
  simp [execSessionPause]
@[simp] theorem execSessionResume_lasting (n : Nat) (s : State) : lastingOf (execSessionResume n s) = some s.lasting := by
  simp [execSessionResume]
@[simp] theorem execSessionStop_lasting (n : Nat) (s : State) : lastingOf (execSessionStop n s) = some s.lasting := by
  simp [execSessionStop]
@[simp] theorem execRedirectArm_lasting (n : Nat) (v : Word) (s : State) : lastingOf (execRedirectArm n v s) = some s.lasting := by
  simp [execRedirectArm]
@[simp] theorem execPoolLockWrite_lasting (s : State) : lastingOf (execPoolLockWrite s) = some s.lasting := by simp [execPoolLockWrite]

/-! ## Protocol lanes -/

@[simp] theorem State.laneDrop_lasting (s : State) (k state : Nat) : (s.laneDrop k state).lasting = s.lasting := by simp [State.laneDrop]
@[simp] theorem State.lockLost_lasting (s : State) (k : Nat) : (s.lockLost k).lasting = s.lasting := by simp [State.lockLost]

@[simp] theorem State.laneModeWrite_lasting (s : State) (k : Nat) (v : Word) : (s.laneModeWrite k v).lasting = s.lasting := by
  unfold State.laneModeWrite
  dsimp only
  repeat' split
  all_goals simp

@[simp] theorem execLaneModeEnable_lasting (k : Nat) (v : Word) (s : State) : lastingOf (execLaneModeEnable k v s) = some s.lasting := by
  simp [execLaneModeEnable]
@[simp] theorem execLaneModeOff_lasting (k : Nat) (s : State) : lastingOf (execLaneModeOff k s) = some s.lasting := by
  simp [execLaneModeOff]
@[simp] theorem State.enterHunt_lasting (s : State) (k next : Nat) : (s.enterHunt k next).lasting = s.lasting := by simp [State.enterHunt]
@[simp] theorem execCdrLock_lasting (k : Nat) (s : State) : lastingOf (execCdrLock k s) = some s.lasting := by simp [execCdrLock]
@[simp] theorem execCdrLockLoss_lasting (k : Nat) (s : State) : lastingOf (execCdrLockLoss k s) = some s.lasting := by
  simp [execCdrLockLoss]
@[simp] theorem execLosAssert_lasting (k : Nat) (s : State) : lastingOf (execLosAssert k s) = some s.lasting := by simp [execLosAssert]
@[simp] theorem execLosClear_lasting (k : Nat) (s : State) : lastingOf (execLosClear k s) = some s.lasting := by simp [execLosClear]

@[simp] theorem State.readAhead_lasting (s : State) (k : Nat) : (s.readAhead k).lasting = s.lasting := by
  unfold State.readAhead
  split <;> simp

@[simp] theorem execLaneHeader_lasting (k h : Nat) (s : State) : lastingOf (execLaneHeader k h s) = some s.lasting := by
  simp [execLaneHeader]
@[simp] theorem execHuntSlow_lasting (k : Nat) (s : State) : lastingOf (execHuntSlow k s) = some s.lasting := by simp [execHuntSlow]
@[simp] theorem State.lanesDiffer_lasting (s : State) (k work : Nat) : (s.lanesDiffer k work).lasting = s.lasting := by
  simp [State.lanesDiffer]
@[simp] theorem State.judgeBlock_lasting (s : State) (k h payload work : Nat) (differ : Bool) :
    (s.judgeBlock k h payload work differ).lasting = s.lasting := by simp [State.judgeBlock]
@[simp] theorem execLaneBlock_lasting (k h payload : Nat) (differ : Bool) (s : State) :
    lastingOf (execLaneBlock k h payload differ s) = some s.lasting := by simp [execLaneBlock]
@[simp] theorem State.startCompares_lasting (s : State) (n : Nat) : (s.startCompares n).lasting = s.lasting := by simp [State.startCompares]
@[simp] theorem State.readAheadAll_lasting (s : State) (w : Work) : (s.readAheadAll w).lasting = s.lasting := by simp [State.readAheadAll]
@[simp] theorem State.settleCompares_lasting (s : State) (w : Work) : (s.settleCompares w).lasting = s.lasting := by
  simp [State.settleCompares]
@[simp] theorem State.writeLaneResults_lasting (s : State) (w : Work) (void : Bool) (cause : Nat) :
    (s.writeLaneResults w void cause).lasting = s.lasting := by simp [State.writeLaneResults]

/-! ## Cycles -/

@[simp] theorem State.captureWrite_lasting (s : State) (n : Nat) (w : Work) (row : Nat) (isTrigger : Bool) :
    (s.captureWrite n w row isTrigger).lasting = s.lasting := by
  unfold State.captureWrite
  dsimp only
  repeat' split
  all_goals simp

@[simp] theorem State.writeCapHeader_lasting (s : State) (w : Work) (status : Nat) : (s.writeCapHeader w status).lasting = s.lasting := by
  simp [State.writeCapHeader]

@[simp] theorem State.evalTrigger_lasting (s : State) (n : Nat) (w : Work) (rs : List ChanResult) (failSites : Set256) (start : Tu) (vector
    : Nat) :
    (s.evalTrigger n w rs failSites start vector).1.lasting = s.lasting := by
  simp [State.evalTrigger, apply_ite Prod.fst]

@[simp] theorem State.tapEc_lasting (s : State) (n : Nat) (w : Work) (rs : List ChanResult) (start : Tu) :
    (s.tapEc n w rs start).lasting = s.lasting := by simp [State.tapEc]

@[simp] theorem State.startActs_lasting (s : State) (n : Nat) (w : Work) (start : Tu) (acts : List SeqAct) :
    (s.startActs n w start acts).lasting = s.lasting := by
  refine foldl_lasting _ _ _ fun t x => ?_
  split <;> simp

@[simp] theorem State.outcomes_lasting (s : State) (c o0 : Nat) (cs : List (Nat × Nat)) (s0 : Int) :
    (s.outcomes c o0 cs s0).lasting = s.lasting := by simp [State.outcomes]
@[simp] theorem State.runChan_lasting (s : State) (n : Nat) (w : Work) (start : Tu) (period : Nat) (io : CycleIn) (p : Nat × Nat × TSet) :
    (s.runChan n w start period io p).1.lasting = s.lasting := by simp [State.runChan]

@[simp] theorem State.runChans_lasting (n : Nat) (w : Work) (start : Tu) (period : Nat) (io : CycleIn) (ps : List (Nat × Nat × TSet)) (s :
    State) :
    (s.runChans n w start period io ps).1.lasting = s.lasting := by
  induction ps generalizing s with
  | nil => rfl
  | cons p ps ih => simp [State.runChans, ih]

@[simp] theorem State.quietChans_lasting (s : State) (n : Nat) (start : Tu) (period : Nat) (io : CycleIn) :
    (s.quietChans n start period io).lasting = s.lasting := by simp [State.quietChans]

@[simp] theorem State.startCount_lasting (s : State) (n : Nat) (q : Seq) (period : Nat) :
    (s.startCount n q period).1.lasting = s.lasting := by
  simp [State.startCount]

@[simp] theorem State.checkFailed_lasting (s : State) (n check : Nat) : (s.checkFailed n check).lasting = s.lasting := by
  simp [State.checkFailed]
@[simp] theorem State.runCycle_lasting (s : State) (n : Nat) (w : Work) (r : Run) (p : CyclePlan) (io : CycleIn) :
    (s.runCycle n w r p io).lasting = s.lasting := by simp [State.runCycle]

@[simp] theorem execCycleStart_lasting (n : Nat) (io : CycleIn) (s : State) : lastingOf (execCycleStart n io s) = some s.lasting := by
  refine congrArg some (s.onSeq_lasting _ _ fun k w q => ?_)
  repeat' split
  all_goals simp

@[simp] theorem execBurstStart_lasting (k : Nat) (s : State) : lastingOf (execBurstStart k s) = some s.lasting := by simp [execBurstStart]

/-! ## Microcode -/

@[simp] theorem State.lossOfControl_lasting (s : State) (n k : Nat) : (s.lossOfControl n k).lasting = s.lasting := by
  simp [State.lossOfControl]

@[simp] theorem State.micro_lasting (s : State) (n op : Nat) (body : State → Nat → Work → Seq → Uop → State × Option Nat)
    (h : ∀ t k w q u, (body t k w q u).1.lasting = t.lasting) : (s.micro n op body).lasting = s.lasting := by
  refine s.onSeq_lasting n _ fun k w q => ?_
  dsimp only
  repeat' split
  all_goals simp [h]

@[simp] theorem State.microQ_lasting (s : State) (n op : Nat) (f : State → Seq → Uop → Seq) : (s.microQ n op f).lasting = s.lasting := by
  simp [State.microQ]
@[simp] theorem State.microA_lasting (s : State) (n op : Nat) (f : BitVec 64 → BitVec 64 → Uop → BitVec 64) :
    (s.microA n op f).lasting = s.lasting := by simp [State.microA]
@[simp] theorem State.microF_lasting (s : State) (n op : Nat) (f : BitVec 64 → BitVec 64 → Uop → BitVec 64 × Flags) :
    (s.microF n op f).lasting = s.lasting := by simp [State.microF]
@[simp] theorem State.microBr_lasting (s : State) (n op : Nat) (c : State → Seq → Uop → Bool) :
    (s.microBr n op c).lasting = s.lasting := by simp [State.microBr]
@[simp] theorem execUopNop_lasting (n : Nat) (s : State) : lastingOf (execUopNop n s) = some s.lasting := by simp [execUopNop]
@[simp] theorem execUopMov_lasting (n : Nat) (s : State) : lastingOf (execUopMov n s) = some s.lasting := by simp [execUopMov]
@[simp] theorem execLdi_lasting (n : Nat) (s : State) : lastingOf (execLdi n s) = some s.lasting := by simp [execLdi]
@[simp] theorem execLdih_lasting (n : Nat) (s : State) : lastingOf (execLdih n s) = some s.lasting := by simp [execLdih]
@[simp] theorem execUopAdd_lasting (n : Nat) (s : State) : lastingOf (execUopAdd n s) = some s.lasting := by simp [execUopAdd]
@[simp] theorem execUopSub_lasting (n : Nat) (s : State) : lastingOf (execUopSub n s) = some s.lasting := by simp [execUopSub]
@[simp] theorem execAddi_lasting (n : Nat) (s : State) : lastingOf (execAddi n s) = some s.lasting := by simp [execAddi]
@[simp] theorem execUopAnd_lasting (n : Nat) (s : State) : lastingOf (execUopAnd n s) = some s.lasting := by simp [execUopAnd]
@[simp] theorem execUopOr_lasting (n : Nat) (s : State) : lastingOf (execUopOr n s) = some s.lasting := by simp [execUopOr]
@[simp] theorem execUopXor_lasting (n : Nat) (s : State) : lastingOf (execUopXor n s) = some s.lasting := by simp [execUopXor]
@[simp] theorem execUopShf_lasting (n : Nat) (s : State) : lastingOf (execUopShf n s) = some s.lasting := by simp [execUopShf]
@[simp] theorem execUopCmp_lasting (n : Nat) (s : State) : lastingOf (execUopCmp n s) = some s.lasting := by simp [execUopCmp]
@[simp] theorem execCmpi_lasting (n : Nat) (s : State) : lastingOf (execCmpi n s) = some s.lasting := by simp [execCmpi]
@[simp] theorem execUopField_lasting (n : Nat) (s : State) : lastingOf (execUopField n s) = some s.lasting := by simp [execUopField]
@[simp] theorem execUopBr_lasting (n : Nat) (s : State) : lastingOf (execUopBr n s) = some s.lasting := by simp [execUopBr]
@[simp] theorem execBrz_lasting (n : Nat) (s : State) : lastingOf (execBrz n s) = some s.lasting := by simp [execBrz]
@[simp] theorem execBrnz_lasting (n : Nat) (s : State) : lastingOf (execBrnz n s) = some s.lasting := by simp [execBrnz]
@[simp] theorem execBrn_lasting (n : Nat) (s : State) : lastingOf (execBrn n s) = some s.lasting := by simp [execBrn]
@[simp] theorem execBrc_lasting (n : Nat) (s : State) : lastingOf (execBrc n s) = some s.lasting := by simp [execBrc]
@[simp] theorem execBrb_lasting (n : Nat) (s : State) : lastingOf (execBrb n s) = some s.lasting := by simp [execBrb]
@[simp] theorem execDisp_lasting (n : Nat) (s : State) : lastingOf (execDisp n s) = some s.lasting := by simp [execDisp]

@[simp] theorem execDispop_lasting (n : Nat) (s : State) : lastingOf (execDispop n s) = some s.lasting := by
  refine congrArg some (s.micro_lasting _ _ _ fun t k w q u => ?_)
  dsimp only
  repeat' split
  all_goals simp

@[simp] theorem execUopRun_lasting (n : Nat) (s : State) : lastingOf (execUopRun n s) = some s.lasting := by
  refine congrArg some (s.micro_lasting _ _ _ fun t k w q u => ?_)
  dsimp only
  repeat' split
  all_goals simp

@[simp] theorem execUopQuiet_lasting (n : Nat) (s : State) : lastingOf (execUopQuiet n s) = some s.lasting := by
  refine congrArg some (s.micro_lasting _ _ _ fun t k w q u => ?_)
  dsimp only
  repeat' split
  all_goals simp

@[simp] theorem execUopAct_lasting (n : Nat) (s : State) : lastingOf (execUopAct n s) = some s.lasting := by
  refine congrArg some (s.micro_lasting _ _ _ fun t k w q u => ?_)
  repeat' split
  all_goals simp

@[simp] theorem execWpush_lasting (n : Nat) (s : State) : lastingOf (execWpush n s) = some s.lasting := by
  refine congrArg some (s.micro_lasting _ _ _ fun t k w q u => ?_)
  repeat' split
  all_goals simp

@[simp] theorem execWpop_lasting (n : Nat) (s : State) : lastingOf (execWpop n s) = some s.lasting := by simp [execWpop]
@[simp] theorem execUopSpill_lasting (n : Nat) (s : State) : lastingOf (execUopSpill n s) = some s.lasting := by simp [execUopSpill]

@[simp] theorem execUopFill_lasting (n : Nat) (s : State) : lastingOf (execUopFill n s) = some s.lasting := by
  refine congrArg some (s.micro_lasting _ _ _ fun t k w q u => ?_)
  dsimp only
  repeat' split
  all_goals simp

@[simp] theorem execMemwait_lasting (n : Nat) (s : State) : lastingOf (execMemwait n s) = some s.lasting := by simp [execMemwait]
@[simp] theorem execFailrd_lasting (n : Nat) (s : State) : lastingOf (execFailrd n s) = some s.lasting := by simp [execFailrd]
@[simp] theorem execSiteop_lasting (n : Nat) (s : State) : lastingOf (execSiteop n s) = some s.lasting := by simp [execSiteop]
@[simp] theorem execUopCrier_lasting (n : Nat) (s : State) : lastingOf (execUopCrier n s) = some s.lasting := by simp [execUopCrier]
@[simp] theorem execUopLatch_lasting (n : Nat) (s : State) : lastingOf (execUopLatch n s) = some s.lasting := by simp [execUopLatch]

@[simp] theorem execUopTrap_lasting (n : Nat) (s : State) : lastingOf (execUopTrap n s) = some s.lasting := by
  refine congrArg some (s.micro_lasting _ _ _ fun t k w q u => ?_)
  split <;> simp

@[simp] theorem execTrapret_lasting (n : Nat) (s : State) : lastingOf (execTrapret n s) = some s.lasting := by
  refine congrArg some (s.micro_lasting _ _ _ fun t k w q u => ?_)
  split <;> simp

@[simp] theorem execVoidb_lasting (n : Nat) (s : State) : lastingOf (execVoidb n s) = some s.lasting := by simp [execVoidb]
@[simp] theorem execEndb_lasting (n : Nat) (s : State) : lastingOf (execEndb n s) = some s.lasting := by simp [execEndb]
@[simp] theorem execIllegalUop_lasting (n : Nat) (s : State) : lastingOf (execIllegalUop n s) = some s.lasting := by simp [execIllegalUop]
@[simp] theorem execEngineWatchdogExpiry_lasting (n : Nat) (s : State) : lastingOf (execEngineWatchdogExpiry n s) = some s.lasting := by
  simp [execEngineWatchdogExpiry]
@[simp] theorem State.openSlot_lasting (s : State) (q : Seq) (d : Nat) : (s.openSlot q d).lasting = s.lasting := by simp [State.openSlot]

@[simp] theorem execMicrowordFetchError_lasting (n : Nat) (corrected : Bool) (s : State) :
    lastingOf (execMicrowordFetchError n corrected s) = some s.lasting := by
  unfold execMicrowordFetchError
  split
  · simp
  · refine congrArg some (s.onSeq_lasting _ _ fun k w q => ?_)
    dsimp only
    repeat' split
    all_goals simp

/-! ## Halls: shared operations -/

@[simp] theorem State.setGslPort_lasting (s : State) (p : Nat) (v : GslPort) : (s.setGslPort p v).lasting = s.lasting := by
  simp [State.setGslPort]

@[simp] theorem State.enqueueMsg_lasting (s : State) (role : Nat) (m : GslMsg) : (s.enqueueMsg role m).lasting = s.lasting := by
  unfold State.enqueueMsg
  split <;> simp

@[simp] theorem State.sendMsg_lasting (s : State) (mtype dst data arg : Nat) : (s.sendMsg mtype dst data arg).lasting = s.lasting := by
  simp [State.sendMsg]
@[simp] theorem State.setJoint_lasting (s : State) (j : Nat) (v : Joint) : (s.setJoint j v).lasting = s.lasting := by simp [State.setJoint]
@[simp] theorem State.dropJoint_lasting (s : State) (j : Nat) : (s.dropJoint j).lasting = s.lasting := by simp [State.dropJoint]
@[simp] theorem State.sendParts_lasting (s : State) (w : Work) (mtype arg : Nat) : (s.sendParts w mtype arg).lasting = s.lasting := by
  simp [State.sendParts]

@[simp] theorem State.refusePart_lasting (s : State) (k cause : Nat) : (s.refusePart k cause).lasting = s.lasting := by
  unfold State.refusePart
  split <;> simp

/-! ## The Tally -/

@[simp] theorem State.admitWatch_lasting (s : State) (k : Nat) (w : Work) (units : List Nat) :
    (s.admitWatch k w units).lasting = s.lasting := by simp [State.admitWatch]
@[simp] theorem State.produce_lasting (s : State) (k slot : Nat) (r : StampRec) : (s.produce k slot r).lasting = s.lasting := by
  simp [State.produce]

@[simp] theorem State.storeRecord_lasting (s : State) (c : ConcRec) : (s.storeRecord c).lasting = s.lasting := by
  unfold State.storeRecord
  dsimp only
  repeat' split
  all_goals simp

@[simp] theorem State.putSlot_lasting (s : State) (k : Nat) (x : TSlot) : (s.putSlot k x).lasting = s.lasting := by simp [State.putSlot]
@[simp] theorem State.marker_lasting (s : State) (k : Nat) (x : TSlot) (arm : Bool) (t : Tu) :
    (s.marker k x arm t).lasting = s.lasting := by simp [State.marker]
@[simp] theorem State.slotEdge_lasting (s : State) (k : Nat) (x : TSlot) (rising : Bool) (t : Tu) :
    (s.slotEdge k x rising t).lasting = s.lasting := by simp [State.slotEdge]
@[simp] theorem State.unstamp_lasting (s : State) (k slot : Nat) (t : Tu) : (s.unstamp k slot t).lasting = s.lasting := by
  simp [State.unstamp]

@[simp] theorem State.settleSlot_lasting (s : State) (k : Nat) (x : TSlot) (e : SlotTie) : (s.settleSlot k x e).lasting = s.lasting := by
  unfold State.settleSlot
  split <;> simp

@[simp] theorem State.atSlot_lasting (s : State) (k n : Nat) (t : Tu) (f : SlotTie → SlotTie) : (s.atSlot k n t f).lasting = s.lasting := by
  unfold State.atSlot
  split <;> simp

@[simp] theorem State.expireSlots_lasting (s : State) (k : Nat) (t : Tu) : (s.expireSlots k t).lasting = s.lasting := by
  refine foldl_lasting _ _ _ fun t x => ?_
  split <;> simp

@[simp] theorem State.takeEdge_lasting (s : State) (k : Nat) (e : SrcEdge) : (s.takeEdge k e).lasting = s.lasting := by
  simp [State.takeEdge]

@[simp] theorem State.drainEdges_lasting (k : Nat) (t : Tu) (fuel : Nat) (s : State) :
    (State.drainEdges k t fuel s).lasting = s.lasting := by
  induction fuel generalizing s with
  | zero => rfl
  | succ n ih =>
    unfold State.drainEdges
    split <;> simp [ih]

@[simp] theorem State.catchUp_lasting (s : State) (k : Nat) (t : Tu) : (s.catchUp k t).lasting = s.lasting := by simp [State.catchUp]
@[simp] theorem State.catchUpAll_lasting (s : State) (t : Tu) : (s.catchUpAll t).lasting = s.lasting := by simp [State.catchUpAll]
@[simp] theorem State.atSlots_lasting (s : State) (t : Tu) (p : TSlot → Bool) (f : TSlot → SlotTie → SlotTie) :
    (s.atSlots t p f).lasting = s.lasting := by simp [State.atSlots]

@[simp] theorem execStampRecordWrite_lasting (r : Nat) (s : State) : lastingOf (execStampRecordWrite r s) = some s.lasting := by
  unfold execStampRecordWrite
  dsimp only
  repeat' split
  all_goals simp

@[simp] theorem execSlotEdge_lasting (n : Nat) (rising : Bool) (t : Tu) (s : State) :
    lastingOf (execSlotEdge n rising t s) = some s.lasting := by
  unfold execSlotEdge
  dsimp only
  repeat' split
  all_goals simp

@[simp] theorem execSlotDisarmTimer_lasting (n : Nat) (s : State) : lastingOf (execSlotDisarmTimer n s) = some s.lasting := by
  unfold execSlotDisarmTimer
  repeat' split
  all_goals simp

@[simp] theorem State.acceptGate_lasting (s : State) (g : Nat) (rising : Bool) (t : Tu) :
    (s.acceptGate g rising t).lasting = s.lasting := by simp [State.acceptGate]
@[simp] theorem State.gateEvent_lasting (s : State) (g : Nat) (rising : Bool) (t : Tu) : (s.gateEvent g rising t).lasting = s.lasting := by
  simp [State.gateEvent]

@[simp] theorem execTgateTransition_lasting (g : Nat) (level : Bool) (t : Tu) (s : State) :
    lastingOf (execTgateTransition g level t s) = some s.lasting := by
  unfold execTgateTransition
  dsimp only
  repeat' split
  all_goals simp

@[simp] theorem execGateSettleAccept_lasting (g : Nat) (s : State) : lastingOf (execGateSettleAccept g s) = some s.lasting := by
  unfold execGateSettleAccept
  dsimp only
  split <;> simp

@[simp] theorem State.armLineEvent_lasting (s : State) (l : Nat) (t : Tu) : (s.armLineEvent l t).lasting = s.lasting := by
  simp [State.armLineEvent]
@[simp] theorem execTallyArm_lasting (k : Nat) (s : State) : lastingOf (execTallyArm k s) = some s.lasting := by simp [execTallyArm]

@[simp] theorem execTallyDisarm_lasting (k : Nat) (s : State) : lastingOf (execTallyDisarm k s) = some s.lasting := by
  refine congrArg some (s.onWork_lasting _ _ _ fun w => ?_)
  dsimp only
  repeat' split
  all_goals simp

@[simp] theorem State.openWatch_lasting (s : State) (k : Nat) (w : Work) (t : Tu) : (s.openWatch k w t).lasting = s.lasting := by
  simp [State.openWatch]

@[simp] theorem execWatchOpen_lasting (k : Nat) (s : State) : lastingOf (execWatchOpen k s) = some s.lasting := by
  unfold execWatchOpen
  split <;> simp

@[simp] theorem State.closeWatch_lasting (s : State) (k : Nat) (w : Work) (t : Tu) : (s.closeWatch k w t).lasting = s.lasting := by
  simp [State.closeWatch]

@[simp] theorem execWatchClose_lasting (k : Nat) (s : State) : lastingOf (execWatchClose k s) = some s.lasting := by
  unfold execWatchClose
  repeat' split
  all_goals simp

@[simp] theorem execOcxoAppear_lasting (s : State) : lastingOf (execOcxoAppear s) = some s.lasting := by simp [execOcxoAppear]
@[simp] theorem execOcxoLoss_lasting (s : State) : lastingOf (execOcxoLoss s) = some s.lasting := by simp [execOcxoLoss]
@[simp] theorem State.refreshWarm_lasting (s : State) : s.refreshWarm.lasting = s.lasting := by simp [State.refreshWarm]
@[simp] theorem State.setOvenReady_lasting (s : State) (b : Bool) : (s.setOvenReady b).lasting = s.lasting := by simp [State.setOvenReady]
@[simp] theorem State.setInBand_lasting (s : State) (n : Nat) : (s.setInBand n).lasting = s.lasting := by simp [State.setInBand]
@[simp] theorem State.ovenLoop_lasting (s : State) (e : Int) : (s.ovenLoop e).lasting = s.lasting := by simp [State.ovenLoop]

@[simp] theorem execOvenReading_lasting (reading : Nat) (s : State) : lastingOf (execOvenReading reading s) = some s.lasting := by
  unfold execOvenReading
  dsimp only
  repeat' split
  all_goals simp

@[simp] theorem execOvenHold_lasting (s : State) : lastingOf (execOvenHold s) = some s.lasting := by simp [execOvenHold]
@[simp] theorem State.ovenCtrlWrite_lasting (s : State) (v : Word) : (s.ovenCtrlWrite v).lasting = s.lasting := by
  simp [State.ovenCtrlWrite]
@[simp] theorem execOvenEnable_lasting (s : State) : lastingOf (execOvenEnable s) = some s.lasting := by simp [execOvenEnable]
@[simp] theorem execOvenDisable_lasting (s : State) : lastingOf (execOvenDisable s) = some s.lasting := by simp [execOvenDisable]
@[simp] theorem execSsmsRun_lasting (row : Nat) (stops : SsmsEdges) (repeats addr : Nat) (s : State) :
    lastingOf (execSsmsRun row stops repeats addr s) = some s.lasting := by simp [execSsmsRun]

@[simp] theorem State.noteMeans_lasting (s : State) (row : Nat) (r : SsmsRun) (reps : List SsmsRep) :
    (s.noteMeans row r reps).lasting = s.lasting := by
  unfold State.noteMeans
  split <;> simp

@[simp] theorem execSsmsRunDone_lasting (row : Nat) (reps : List SsmsRep) (s : State) :
    lastingOf (execSsmsRunDone row reps s) = some s.lasting := by
  unfold execSsmsRunDone
  split <;> simp

/-! ## Statistics -/

@[simp] theorem State.writeResult_lasting (s : State) (m : Meas) (i : MeasIn) (cause : Nat) :
    (s.writeResult m i cause).lasting = s.lasting := by simp [State.writeResult]

@[simp] theorem execMeasurementResults_lasting (k : Nat) (s : State) : lastingOf (execMeasurementResults k s) = some s.lasting := by
  unfold execMeasurementResults
  split <;> simp

/-! ## Bursts -/

@[simp] theorem State.closeOutputs_lasting (s : State) (w : Work) (status : Nat) : (s.closeOutputs w status).lasting = s.lasting := by
  simp [State.closeOutputs]
@[simp] theorem State.markWarm_lasting (s : State) (k : Nat) (w : Work) : (s.markWarm k w).lasting = s.lasting := by simp [State.markWarm]
@[simp] theorem State.endBurst_lasting (s : State) (k : Nat) (w : Work) : (s.endBurst k w).lasting = s.lasting := by simp [State.endBurst]
@[simp] theorem State.releaseJoint_lasting (s : State) (k : Nat) (w : Work) (j : Joint) : (s.releaseJoint k w j).lasting = s.lasting := by
  simp [State.releaseJoint]
@[simp] theorem State.sendDone_lasting (s : State) (k : Nat) (w : Work) : (s.sendDone k w).lasting = s.lasting := by simp [State.sendDone]
@[simp] theorem State.sendVoid_lasting (s : State) (w : Work) : (s.sendVoid w).lasting = s.lasting := by simp [State.sendVoid]

@[simp] theorem State.jointVoid_lasting (s : State) (k cause : Nat) : (s.jointVoid k cause).lasting = s.lasting := by
  unfold State.jointVoid
  split <;> simp

@[simp] theorem execClosingIntervalEnd_lasting (k check : Nat) (s : State) :
    lastingOf (execClosingIntervalEnd k check s) = some s.lasting := by simp [execClosingIntervalEnd]
@[simp] theorem execVoidFinalReceipt_lasting (k : Nat) (s : State) : lastingOf (execVoidFinalReceipt k s) = some s.lasting := by
  simp [execVoidFinalReceipt]

/-! ## The Awning -/

@[simp] theorem State.publishAwn_lasting (s : State) : s.publishAwn.lasting = s.lasting := by simp [State.publishAwn]
@[simp] theorem State.countEnergy_lasting (s : State) (uj : List Nat) : (s.countEnergy uj).lasting = s.lasting := by
  simp [State.countEnergy]
@[simp] theorem execAwningUpdate_lasting (uj : List Nat) (s : State) : lastingOf (execAwningUpdate uj s) = some s.lasting := by
  simp [execAwningUpdate]
@[simp] theorem execAwningSensorCorrect_lasting (sens : List Int) (s : State) :
    lastingOf (execAwningSensorCorrect sens s) = some s.lasting := by simp [execAwningSensorCorrect]
@[simp] theorem State.limitWrite_lasting (s : State) (r : RegName) (v : Word) : (s.limitWrite r v).lasting = s.lasting := by
  simp [State.limitWrite]

@[simp] theorem execAwnLimitWrite_lasting (which : Nat) (v : Word) (s : State) :
    lastingOf (execAwnLimitWrite which v s) = some s.lasting := by
  unfold execAwnLimitWrite
  repeat' split
  all_goals simp

/-! ## The Toll -/

@[simp] theorem State.tollRefuse_lasting (s : State) (k : Nat) (w : Work) (cause : Nat) : (s.tollRefuse k w cause).lasting = s.lasting := by
  simp [State.tollRefuse]
@[simp] theorem State.take_lasting (s : State) (k : Nat) (w : Work) (r : Resv) (s0 : Tu) (post : Store Nat Postpone) :
    (s.take k w r s0 post).lasting = s.lasting := by simp [State.take]

@[simp] theorem State.admitOrder_lasting (s : State) (k : Nat) : (s.admitOrder k).lasting = s.lasting := by
  unfold State.admitOrder
  split <;> simp

@[simp] theorem State.untake_lasting (s : State) (k : Nat) (w : Work) : (s.untake k w).lasting = s.lasting := by simp [State.untake]
@[simp] theorem State.restartDecisions_lasting (s : State) (reading : Nat) : (s.restartDecisions reading).lasting = s.lasting := by
  simp [State.restartDecisions]

@[simp] theorem State.jointRefuse_lasting (s : State) (k : Nat) (w : Work) (cause : Nat) :
    (s.jointRefuse k w cause).lasting = s.lasting := by
  unfold State.jointRefuse
  repeat' split
  all_goals simp

@[simp] theorem State.defer_lasting (s : State) (k : Nat) (w : Work) : (s.defer k w).lasting = s.lasting := by simp [State.defer]
@[simp] theorem State.jointHeld_lasting (s : State) (k : Nat) (w : Work) (r : Resv) (s0 : Tu) (post : Store Nat Postpone) :
    (s.jointHeld k w r s0 post).lasting = s.lasting := by simp [State.jointHeld]

theorem State.jointAwaits_lasting {s t : State} {k : Nat} {w : Work} (h : s.jointAwaits k w = some t) : t.lasting = s.lasting := by
  unfold State.jointAwaits at h
  repeat' split at h
  all_goals cases h
  all_goals simp

@[simp] theorem State.decideJoint_lasting (s : State) (k : Nat) (w : Work) : (s.decideJoint k w).lasting = s.lasting := by
  unfold State.decideJoint
  split
  · exact State.jointAwaits_lasting ‹_›
  · dsimp only
    split <;> simp

@[simp] theorem execTollDecision_lasting (s : State) : lastingOf (execTollDecision s) = some s.lasting := by
  unfold execTollDecision
  dsimp only
  repeat' split
  all_goals simp

@[simp] theorem execDelayRelease_lasting (s : State) : lastingOf (execDelayRelease s) = some s.lasting := by
  unfold execDelayRelease
  split <;> simp

@[simp] theorem execWindowStart_lasting (k : Nat) (s : State) : lastingOf (execWindowStart k s) = some s.lasting := by
  unfold execWindowStart
  split <;> simp

/-! ## Device time and Ethernet -/

@[simp] theorem State.setOffset_lasting (s : State) (o : Int) : (s.setOffset o).lasting = s.lasting := by simp [State.setOffset]
@[simp] theorem State.setRate_lasting (s : State) (r : Int) : (s.setRate r).lasting = s.lasting := by simp [State.setRate]
@[simp] theorem State.applyTime_lasting (s : State) (o r : Int) : (s.applyTime o r).lasting = s.lasting := by simp [State.applyTime]
@[simp] theorem State.requestTime_lasting (s : State) (step rate : Int) : (s.requestTime step rate).lasting = s.lasting := by
  simp [State.requestTime]
@[simp] theorem State.timeIsSet_lasting (s : State) : s.timeIsSet.lasting = s.lasting := by simp [State.timeIsSet]
@[simp] theorem State.stepRate_lasting (s : State) (step rate : Bool) : (s.stepRate step rate).lasting = s.lasting := by
  simp [State.stepRate]

@[simp] theorem State.calCommit_lasting (s : State) : s.calCommit.lasting = s.lasting := by
  unfold State.calCommit
  split <;> simp

@[simp] theorem State.timeCmd_lasting (s : State) (v : Word) : (s.timeCmd v).lasting = s.lasting := by simp [State.timeCmd]
@[simp] theorem execTimeStep_lasting (rate : Bool) (s : State) : lastingOf (execTimeStep rate s) = some s.lasting := by simp [execTimeStep]
@[simp] theorem execTimeRate_lasting (s : State) : lastingOf (execTimeRate s) = some s.lasting := by simp [execTimeRate]
@[simp] theorem execTimeCal_lasting (s : State) : lastingOf (execTimeCal s) = some s.lasting := by simp [execTimeCal]

@[simp] theorem execTimeChangeEffect_lasting (s : State) : lastingOf (execTimeChangeEffect s) = some s.lasting := by
  unfold execTimeChangeEffect
  split <;> simp

@[simp] theorem execUtcOffsetWrite_lasting (v : Word) (s : State) : lastingOf (execUtcOffsetWrite v s) = some s.lasting := by
  simp [execUtcOffsetWrite]
@[simp] theorem State.servoUpdate_lasting (s : State) (theta : Int) : (s.servoUpdate theta).lasting = s.lasting := by
  simp [State.servoUpdate]
@[simp] theorem State.servoCount_lasting (s : State) (theta : Int) : (s.servoCount theta).lasting = s.lasting := by simp [State.servoCount]

@[simp] theorem State.servoInput_lasting (s : State) (theta : Int) : (s.servoInput theta).lasting = s.lasting := by
  unfold State.servoInput
  dsimp only
  repeat' split
  all_goals simp

@[simp] theorem execServoInput_lasting (v : Word) (s : State) : lastingOf (execServoInput v s) = some s.lasting := by simp [execServoInput]
@[simp] theorem execServoHoldover_lasting (s : State) : lastingOf (execServoHoldover s) = some s.lasting := by simp [execServoHoldover]
@[simp] theorem State.servoCtrlWrite_lasting (s : State) (v : Word) : (s.servoCtrlWrite v).lasting = s.lasting := by
  simp [State.servoCtrlWrite]
@[simp] theorem State.rxDrop_lasting (s : State) (n : Nat) : (s.rxDrop n).lasting = s.lasting := by simp [State.rxDrop]

@[simp] theorem execPtpFrameReceive_lasting (n : Nat) (frame : Bytes) (fcs : Bool) (pcs : Nat) (s : State) :
    lastingOf (execPtpFrameReceive n frame fcs pcs s) = some s.lasting := by
  unfold execPtpFrameReceive
  repeat' split
  all_goals simp

@[simp] theorem execFrameTransmit_lasting (p pcs : Nat) (s : State) : lastingOf (execFrameTransmit p pcs s) = some s.lasting := by
  unfold execFrameTransmit
  dsimp only
  repeat' split
  all_goals simp

@[simp] theorem execBackupTimeWrite_lasting (s : State) : lastingOf (execBackupTimeWrite s) = some s.lasting := by
  simp [execBackupTimeWrite]
@[simp] theorem execTvClear_lasting (s : State) : lastingOf (execTvClear s) = some s.lasting := by simp [execTvClear]

/-! ## Halls -/

@[simp] theorem State.refreshHall_lasting (s : State) : s.refreshHall.lasting = s.lasting := by simp [State.refreshHall]
@[simp] theorem State.setHallState_lasting (s : State) (v : Nat) : (s.setHallState v).lasting = s.lasting := by simp [State.setHallState]
@[simp] theorem State.refreshCorr_lasting (s : State) : s.refreshCorr.lasting = s.lasting := by simp [State.refreshCorr]
@[simp] theorem State.checkLat_lasting (s : State) : s.checkLat.lasting = s.lasting := by simp [State.checkLat]
@[simp] theorem State.rerouted_lasting (s : State) : s.rerouted.lasting = s.lasting := by simp [State.rerouted]
@[simp] theorem State.checkIds_lasting (s : State) : s.checkIds.lasting = s.lasting := by simp [State.checkIds]
@[simp] theorem State.sendCrierCfg_lasting (s : State) (c : CrierCfg) : (s.sendCrierCfg c).lasting = s.lasting := by
  simp [State.sendCrierCfg]
@[simp] theorem State.tryReady_lasting (s : State) : s.tryReady.lasting = s.lasting := by simp [State.tryReady]
@[simp] theorem State.crierTakes_lasting (s : State) (l : Nat) (level : Bool) (t : Tu) : (s.crierTakes l level t).lasting = s.lasting := by
  simp [State.crierTakes]
@[simp] theorem State.dropLines_lasting (s : State) : s.dropLines.lasting = s.lasting := by simp [State.dropLines]

@[simp] theorem State.tryElect_lasting (s : State) : s.tryElect.lasting = s.lasting := by
  unfold State.tryElect
  dsimp only
  repeat' split
  all_goals simp

@[simp] theorem State.startElection_lasting (s : State) (st : Nat) : (s.startElection st).lasting = s.lasting := by
  simp [State.startElection]
@[simp] theorem State.tryForm_lasting (s : State) : s.tryForm.lasting = s.lasting := by simp [State.tryForm]

@[simp] theorem State.endJoints_lasting (s : State) (hit : Work → Bool) : (s.endJoints hit).lasting = s.lasting := by
  refine foldl_lasting _ _ _ fun t x => ?_
  repeat' split
  all_goals simp

@[simp] theorem State.hallLost_lasting (s : State) : s.hallLost.lasting = s.lasting := by simp [State.hallLost]
@[simp] theorem State.checkMaster_lasting (s : State) : s.checkMaster.lasting = s.lasting := by simp [State.checkMaster]
@[simp] theorem State.linkFails_lasting (s : State) (l : Nat) : (s.linkFails l).lasting = s.lasting := by simp [State.linkFails]
@[simp] theorem State.heardFrom_lasting (s : State) (p src : Nat) : (s.heardFrom p src).lasting = s.lasting := by simp [State.heardFrom]
@[simp] theorem State.awaitCrier_lasting (s : State) (c : CrierChange) : (s.awaitCrier c).lasting = s.lasting := by simp [State.awaitCrier]
@[simp] theorem State.queueCrier_lasting (s : State) (p : Nat) (w : Int) (c : Nat × Bool × Nat) :
    (s.queueCrier p w c).lasting = s.lasting := by simp [State.queueCrier]

@[simp] theorem State.closeWindows_lasting (s : State) : s.closeWindows.lasting = s.lasting := by
  refine foldl_lasting _ _ _ fun t x => ?_
  simp

@[simp] theorem State.timeMsg_lasting (s : State) (n : Int) : (s.timeMsg n).1.lasting = s.lasting := by
  unfold State.timeMsg
  dsimp only
  repeat' split
  all_goals simp

@[simp] theorem State.frameMsg_lasting (s : State) (p : Nat) (n : Int) : (s.frameMsg p n).1.lasting = s.lasting := by
  unfold State.frameMsg
  dsimp only
  repeat' split
  all_goals simp

@[simp] theorem execGslFrameSend_lasting (p : Nat) (s : State) : lastingOf (execGslFrameSend p s) = some s.lasting := by
  simp [execGslFrameSend]

@[simp] theorem State.takeCrier_lasting (s : State) (p : Nat) (win : Int) (frame : Nat) :
    (s.takeCrier p win frame).lasting = s.lasting := by
  refine foldl_lasting _ _ _ fun t x => ?_
  dsimp only
  repeat' split
  all_goals simp

@[simp] theorem State.takeMessage_lasting (s : State) (p : Nat) (m : GslMsg) : (s.takeMessage p m).lasting = s.lasting := by
  unfold State.takeMessage
  dsimp only
  repeat' split
  all_goals simp

@[simp] theorem execGslFrameReceive_lasting (p frame : Nat) (t : Tu) (s : State) :
    lastingOf (execGslFrameReceive p frame t s) = some s.lasting := by simp [execGslFrameReceive]

@[simp] theorem State.onMsg_lasting (s : State) (mtype : Nat) (f : State → Nat → GslMsg → State)
    (h : ∀ t p m, (f t p m).lasting = t.lasting) : (s.onMsg mtype f).lasting = s.lasting := by
  unfold State.onMsg State.takeMsg
  cases s.gslIn.find? (·.2.mtype == mtype) <;> simp [h]

@[simp] theorem execProbe_lasting (s : State) : lastingOf (execProbe s) = some s.lasting := by simp [execProbe]

@[simp] theorem execProbeReply_lasting (t2 : Tu) (s : State) : lastingOf (execProbeReply t2 s) = some s.lasting := by
  refine congrArg some (s.onMsg_lasting _ _ fun t p m => ?_)
  dsimp only
  repeat' split
  all_goals simp

@[simp] theorem execAdvert_lasting (id : Nat) (s : State) : lastingOf (execAdvert id s) = some s.lasting := by simp [execAdvert]

@[simp] theorem execTimeMessage_lasting (s : State) : lastingOf (execTimeMessage s) = some s.lasting := by
  refine congrArg some (s.onMsg_lasting _ _ fun t p m => ?_)
  repeat' split
  all_goals simp

@[simp] theorem execCrierCfg_lasting (commit : Int) (s : State) : lastingOf (execCrierCfg commit s) = some s.lasting := by
  simp [execCrierCfg]

@[simp] theorem execJointPrepare_lasting (s : State) : lastingOf (execJointPrepare s) = some s.lasting := by
  refine congrArg some (s.onMsg_lasting _ _ fun t p m => ?_)
  repeat' split
  all_goals simp

@[simp] theorem State.abortJoint_lasting (s : State) (k : Nat) (w : Work) (cause : Nat) : (s.abortJoint k w cause).lasting = s.lasting := by
  simp [State.abortJoint]

@[simp] theorem execJointVote_lasting (s : State) : lastingOf (execJointVote s) = some s.lasting := by
  refine congrArg some (s.onMsg_lasting _ _ fun t p m => ?_)
  repeat' split
  all_goals simp

@[simp] theorem execJointCommit_lasting (s : State) : lastingOf (execJointCommit s) = some s.lasting := by
  refine congrArg some (s.onMsg_lasting _ _ fun t p m => ?_)
  repeat' split
  all_goals simp

@[simp] theorem execJointAbort_lasting (s : State) : lastingOf (execJointAbort s) = some s.lasting := by
  refine congrArg some (s.onMsg_lasting _ _ fun t p m => ?_)
  repeat' split
  all_goals simp

@[simp] theorem execJointDone_lasting (s : State) : lastingOf (execJointDone s) = some s.lasting := by
  refine congrArg some (s.onMsg_lasting _ _ fun t p m => ?_)
  repeat' split
  all_goals simp

@[simp] theorem execJointRelease_lasting (s : State) : lastingOf (execJointRelease s) = some s.lasting := by
  refine congrArg some (s.onMsg_lasting _ _ fun t p m => ?_)
  repeat' split
  all_goals simp

@[simp] theorem execVoidNotice_lasting (s : State) : lastingOf (execVoidNotice s) = some s.lasting := by
  refine congrArg some (s.onMsg_lasting _ _ fun t p m => ?_)
  repeat' split
  all_goals simp

@[simp] theorem execJointWaitTimeout_lasting (id : Nat) (s : State) : lastingOf (execJointWaitTimeout id s) = some s.lasting := by
  unfold execJointWaitTimeout
  repeat' split
  all_goals simp

@[simp] theorem execJointAdmissionTimeout_lasting (id : Nat) (s : State) : lastingOf (execJointAdmissionTimeout id s) = some s.lasting := by
  unfold execJointAdmissionTimeout
  repeat' split
  all_goals simp

@[simp] theorem execLinkDown_lasting (s : State) : lastingOf (execLinkDown s) = some s.lasting := by simp [execLinkDown]
@[simp] theorem execLinkTrained_lasting (p peer : Nat) (s : State) : lastingOf (execLinkTrained p peer s) = some s.lasting := by
  simp [execLinkTrained]

@[simp] theorem execLinkCalDone_lasting (p : Nat) (s : State) : lastingOf (execLinkCalDone p s) = some s.lasting := by
  unfold execLinkCalDone
  dsimp only
  repeat' split
  all_goals simp

@[simp] theorem execLinkLoss_lasting (p : Nat) (los : Bool) (s : State) : lastingOf (execLinkLoss p los s) = some s.lasting := by
  unfold execLinkLoss
  dsimp only
  repeat' split
  all_goals simp

@[simp] theorem execLinkDriftCheck_lasting (p : Nat) (s : State) : lastingOf (execLinkDriftCheck p s) = some s.lasting := by
  unfold execLinkDriftCheck
  dsimp only
  repeat' split
  all_goals simp

@[simp] theorem State.roleWrite_lasting (s : State) (p role : Nat) : (s.roleWrite p role).lasting = s.lasting := by
  unfold State.roleWrite
  dsimp only
  repeat' split
  all_goals simp

@[simp] theorem execPortRoleWrite_lasting (p : Nat) (v : Word) (s : State) : lastingOf (execPortRoleWrite p v s) = some s.lasting := by
  simp [execPortRoleWrite]
@[simp] theorem State.asymWrite_lasting (s : State) (p : Nat) (v : Word) : (s.asymWrite p v).lasting = s.lasting := by
  simp [State.asymWrite]
@[simp] theorem execReform_lasting (s : State) : lastingOf (execReform s) = some s.lasting := by simp [execReform]
@[simp] theorem execCrierCommit_lasting (busy : Bool) (s : State) : lastingOf (execCrierCommit busy s) = some s.lasting := by
  simp [execCrierCommit]

@[simp] theorem execCrierConfigEffect_lasting (s : State) : lastingOf (execCrierConfigEffect s) = some s.lasting := by
  unfold execCrierConfigEffect
  split <;> simp

@[simp] theorem State.closeLone_lasting (s : State) : s.closeLone.lasting = s.lasting := by
  unfold State.closeLone
  split <;> simp

@[simp] theorem execCrierAction_lasting (s : State) : lastingOf (execCrierAction s) = some s.lasting := by
  unfold execCrierAction
  dsimp only
  split <;> simp

@[simp] theorem State.driveCrier_lasting (s : State) (l : Nat) (level : Bool) (t : Tu) : (s.driveCrier l level t).lasting = s.lasting := by
  simp [State.driveCrier]

/-! ## The scheduler -/

@[simp] theorem State.setItem_lasting (s : State) (k : Nat) (v : Item) : (s.setItem k v).lasting = s.lasting := by simp [State.setItem]
@[simp] theorem State.setGraph_lasting (s : State) (k : Nat) (v : GraphRun) : (s.setGraph k v).lasting = s.lasting := by
  simp [State.setGraph]
@[simp] theorem State.setStage_lasting (s : State) (k : Nat) (st : Stage) : (s.setStage k st).lasting = s.lasting := by
  simp [State.setStage]
@[simp] theorem State.nextNo_lasting (s : State) : s.nextNo.lasting = s.lasting := by simp [State.nextNo]
@[simp] theorem State.queueFull_lasting (s : State) (k : Nat) : (s.queueFull k).lasting = s.lasting := by simp [State.queueFull]
@[simp] theorem execOrderWork_lasting (k : Nat) (s : State) : lastingOf (execOrderWork k s) = some s.lasting := by simp [execOrderWork]

@[simp] theorem State.dippedStart_lasting (s : State) (k : Nat) : (s.dippedStart k).lasting = s.lasting := by
  unfold State.dippedStart
  split <;> simp

@[simp] theorem execItemDispatch_lasting (core : Nat) (s : State) : lastingOf (execItemDispatch core s) = some s.lasting := by
  unfold execItemDispatch
  split <;> simp

@[simp] theorem State.interrupt_lasting (s : State) (k : Nat) (for_ : Option Nat) : (s.interrupt k for_).lasting = s.lasting := by
  simp [State.interrupt]

@[simp] theorem execPreempt_lasting (s : State) : lastingOf (execPreempt s) = some s.lasting := by
  unfold execPreempt
  repeat' split
  all_goals simp

@[simp] theorem State.leaveCore_lasting (s : State) (k : Nat) : (s.leaveCore k).lasting = s.lasting := by simp [State.leaveCore]
@[simp] theorem State.toHead_lasting (s : State) (k : Nat) : (s.toHead k).lasting = s.lasting := by simp [State.toHead]

@[simp] theorem execContextSaved_lasting (core : Nat) (s : State) : lastingOf (execContextSaved core s) = some s.lasting := by
  unfold execContextSaved
  split <;> simp

@[simp] theorem shedClass_lasting (cls fuel : Nat) (s : State) : (shedClass cls fuel s).lasting = s.lasting := by
  induction fuel generalizing s with
  | zero => rfl
  | succ n ih =>
    unfold shedClass
    split
    · rfl
    · split <;> simp [ih]

@[simp] theorem execWorkShed_lasting (s : State) : lastingOf (execWorkShed s) = some s.lasting := by simp [execWorkShed]

@[simp] theorem State.onCore_lasting (s : State) (core : Nat) (f : Nat → Work → State)
    (h : ∀ k w, (f k w).lasting = s.lasting) : (s.onCore core f).lasting = s.lasting := by
  unfold State.onCore
  split <;> simp [h]

@[simp] theorem State.ret_lasting (s : State) (a0 a1 : Nat) : (s.ret a0 a1).lasting = s.lasting := by simp [State.ret]
@[simp] theorem State.itemEnds_lasting (s : State) (k ret : Nat) : (s.itemEnds k ret).lasting = s.lasting := by simp [State.itemEnds]
@[simp] theorem execCallExit_lasting (core ret : Nat) (s : State) : lastingOf (execCallExit core ret s) = some s.lasting := by
  simp [execCallExit]
@[simp] theorem execItemException_lasting (core code : Nat) (s : State) : lastingOf (execItemException core code s) = some s.lasting := by
  simp [execItemException]
@[simp] theorem execWaitFor_lasting (core us : Nat) (s : State) : lastingOf (execWaitFor core us s) = some s.lasting := by
  simp [execWaitFor]
@[simp] theorem execCallTime_lasting (core : Nat) (s : State) : lastingOf (execCallTime core s) = some s.lasting := by simp [execCallTime]
@[simp] theorem execHostWrite_lasting (core src dst n : Nat) (s : State) : lastingOf (execHostWrite core src dst n s) = some s.lasting := by
  simp [execHostWrite]
@[simp] theorem execMbxSend_lasting (core a : Nat) (s : State) : lastingOf (execMbxSend core a s) = some s.lasting := by simp [execMbxSend]

@[simp] theorem execItemDelayRelease_lasting (s : State) : lastingOf (execItemDelayRelease s) = some s.lasting := by
  unfold execItemDelayRelease
  split <;> simp [-List.foldl_reverse]

@[simp] theorem execItemWritesAcked_lasting (k : Nat) (s : State) : lastingOf (execItemWritesAcked k s) = some s.lasting := by
  unfold execItemWritesAcked
  split <;> simp

@[simp] theorem execLockstepMismatch_lasting (core : Nat) (s : State) : lastingOf (execLockstepMismatch core s) = some s.lasting := by
  simp [execLockstepMismatch]
@[simp] theorem execSchedPoolWrite_lasting (v : Word) (s : State) : lastingOf (execSchedPoolWrite v s) = some s.lasting := by
  simp [execSchedPoolWrite]

/-! ## Graphs -/

@[simp] theorem State.checkGraph_lasting (s : State) (k : Nat) (w : Work) : (s.checkGraph k w).lasting = s.lasting := by
  simp [State.checkGraph]
@[simp] theorem State.startGraph_lasting (s : State) (k : Nat) (w : Work) : (s.startGraph k w).lasting = s.lasting := by
  simp [State.startGraph]
@[simp] theorem execOrderGraph_lasting (k : Nat) (s : State) : lastingOf (execOrderGraph k s) = some s.lasting := by simp [execOrderGraph]
@[simp] theorem execGraphDependencyMet_lasting (k : Nat) (s : State) : lastingOf (execGraphDependencyMet k s) = some s.lasting := by
  simp [execGraphDependencyMet]

@[simp] theorem execGraphDispatch_lasting (s : State) : lastingOf (execGraphDispatch s) = some s.lasting := by
  unfold execGraphDispatch
  split <;> simp

@[simp] theorem execGraphSuspend_lasting (u : Nat) (s : State) : lastingOf (execGraphSuspend u s) = some s.lasting := by
  unfold execGraphSuspend
  split <;> simp

@[simp] theorem State.runNode_lasting (s : State) (k op : Nat) (go : Node → Bytes → Bytes × Nat) :
    (s.runNode k op go).lasting = s.lasting := by simp [State.runNode]
@[simp] theorem execGraphSum_lasting (k : Nat) (s : State) : lastingOf (execGraphSum k s) = some s.lasting := by simp [execGraphSum]
@[simp] theorem execGraphOr_lasting (k : Nat) (s : State) : lastingOf (execGraphOr k s) = some s.lasting := by simp [execGraphOr]
@[simp] theorem execGraphPopcount_lasting (k : Nat) (s : State) : lastingOf (execGraphPopcount k s) = some s.lasting := by
  simp [execGraphPopcount]
@[simp] theorem execGraphRuns_lasting (k : Nat) (s : State) : lastingOf (execGraphRuns k s) = some s.lasting := by simp [execGraphRuns]
@[simp] theorem execGraphSelect_lasting (k : Nat) (s : State) : lastingOf (execGraphSelect k s) = some s.lasting := by
  simp [execGraphSelect]
@[simp] theorem execGraphStats_lasting (k : Nat) (s : State) : lastingOf (execGraphStats k s) = some s.lasting := by simp [execGraphStats]
@[simp] theorem execGraphCopy_lasting (k : Nat) (s : State) : lastingOf (execGraphCopy k s) = some s.lasting := by simp [execGraphCopy]
@[simp] theorem execGraphEnd_lasting (k : Nat) (s : State) : lastingOf (execGraphEnd k s) = some s.lasting := by simp [execGraphEnd]

/-! ## Coherence -/

@[simp] theorem State.grant_lasting (s : State) (r : CohReq) : (s.grant r).lasting = s.lasting := by simp [State.grant]
@[simp] theorem State.countRace_lasting (s : State) (r : CohReq) : (s.countRace r).lasting = s.lasting := by simp [State.countRace]

@[simp] theorem admitLine_lasting (line fuel : Nat) (s : State) : (admitLine line fuel s).lasting = s.lasting := by
  induction fuel generalizing s with
  | zero => rfl
  | succ n ih =>
    unfold admitLine
    dsimp only
    repeat' split
    all_goals simp [ih]

@[simp] theorem State.cohRequest_lasting (s : State) (cores : List Nat) (line : Nat) (own : Bool) :
    (s.cohRequest cores line own).lasting = s.lasting := by simp [State.cohRequest]
@[simp] theorem execReadRequest_lasting (core line : Nat) (s : State) : lastingOf (execReadRequest core line s) = some s.lasting := by
  simp [execReadRequest]
@[simp] theorem execOwnershipRequest_lasting (cores : List Nat) (line : Nat) (s : State) :
    lastingOf (execOwnershipRequest cores line s) = some s.lasting := by simp [execOwnershipRequest]
@[simp] theorem State.returnLine_lasting (s : State) (line : Nat) (data : Bytes) : (s.returnLine line data).lasting = s.lasting := by
  simp [State.returnLine]

@[simp] theorem State.serveRecall_lasting (s : State) (line : Nat) (keepShared : Bool) :
    (s.serveRecall line keepShared).lasting = s.lasting := by
  unfold State.serveRecall
  split <;> simp

@[simp] theorem execWriteBack_lasting (core line : Nat) (data : Bytes) (s : State) :
    lastingOf (execWriteBack core line data s) = some s.lasting := by simp [execWriteBack]
@[simp] theorem execRecallAnswer_lasting (line : Nat) (data : Bytes) (s : State) :
    lastingOf (execRecallAnswer line data s) = some s.lasting := by simp [execRecallAnswer]

/-! ## Local memory -/

@[simp] theorem State.corrected_lasting (s : State) (n : Nat) : (s.corrected n).lasting = s.lasting := by simp [State.corrected]
@[simp] theorem State.lineLost_lasting (s : State) (line source : Nat) : (s.lineLost line source).lasting = s.lasting := by
  simp [State.lineLost]
@[simp] theorem execBar4Write_lasting (x : Nat) (data : Bytes) (s : State) : lastingOf (execBar4Write x data s) = some s.lasting := by
  simp [execBar4Write]
@[simp] theorem execBar4Read_lasting (x n : Nat) (bad : List Nat) (corr : Nat) (s : State) :
    lastingOf (execBar4Read x n bad corr s) = some s.lasting := by simp [execBar4Read]
@[simp] theorem execPatrolScrub_lasting (line result : Nat) (s : State) : lastingOf (execPatrolScrub line result s) = some s.lasting := by
  simp [execPatrolScrub]
@[simp] theorem State.ilvReject_lasting (s : State) (r : Nat) : (s.ilvReject r).lasting = s.lasting := by simp [State.ilvReject]
@[simp] theorem execDramIlvCommit_lasting (s : State) : lastingOf (execDramIlvCommit s) = some s.lasting := by simp [execDramIlvCommit]
@[simp] theorem State.setArb_lasting (s : State) (c : Nat) (a : Arb) : (s.setArb c a).lasting = s.lasting := by simp [State.setArb]
@[simp] theorem execArbiterRequest_lasting (c : Nat) (r : ArbiterAsk) (s : State) :
    lastingOf (execArbiterRequest c r s) = some s.lasting := by simp [execArbiterRequest]
@[simp] theorem State.openRowsOf_lasting (s : State) (lines : List Nat) : (s.openRowsOf lines).lasting = s.lasting := by
  simp [State.openRowsOf]
@[simp] theorem State.closeRows_lasting (s : State) (p : Nat → Bool) : (s.closeRows p).lasting = s.lasting := by simp [State.closeRows]
@[simp] theorem State.doGrant_lasting (s : State) (c r : Nat) (after : Arb) : (s.doGrant c r after).lasting = s.lasting := by
  simp [State.doGrant]

@[simp] theorem execArbiterGrant_lasting (c : Nat) (s : State) : lastingOf (execArbiterGrant c s) = some s.lasting := by
  unfold execArbiterGrant
  dsimp only
  repeat' split
  all_goals simp

@[simp] theorem execRequestWithdraw_lasting (c : Nat) (s : State) : lastingOf (execRequestWithdraw c s) = some s.lasting := by
  simp [execRequestWithdraw]
@[simp] theorem State.refresh_lasting (s : State) (c n : Nat) : (s.refresh c n).lasting = s.lasting := by simp [State.refresh]
@[simp] theorem execRefreshDue_lasting (c : Nat) (s : State) : lastingOf (execRefreshDue c s) = some s.lasting := by simp [execRefreshDue]

@[simp] theorem execRefreshMakeup_lasting (st : Nat) (s : State) : lastingOf (execRefreshMakeup st s) = some s.lasting := by
  unfold execRefreshMakeup
  split <;> simp

@[simp] theorem execSelfRefreshEntry_lasting (s : State) : lastingOf (execSelfRefreshEntry s) = some s.lasting := by
  unfold execSelfRefreshEntry
  repeat' split
  all_goals simp

@[simp] theorem execSelfRefreshExit_lasting (s : State) : lastingOf (execSelfRefreshExit s) = some s.lasting := by
  simp [execSelfRefreshExit]

/-! ## Converters: results and checks -/

@[simp] theorem State.pmuResult_lasting (s : State) (r : AdcRun) (word : Nat) : (s.pmuResult r word).lasting = s.lasting := by
  simp [State.pmuResult]

@[simp] theorem State.seqResult_lasting (s : State) (c : Nat) (r : AdcRun) (word : Nat) : (s.seqResult c r word).lasting = s.lasting := by
  unfold State.seqResult
  split <;> simp

@[simp] theorem execPmuMeasure_lasting (k : Nat) (s : State) : lastingOf (execPmuMeasure k s) = some s.lasting := by simp [execPmuMeasure]
@[simp] theorem execAdcSequence_lasting (k : Nat) (s : State) : lastingOf (execAdcSequence k s) = some s.lasting := by
  simp [execAdcSequence]

@[simp] theorem State.safetyValue_lasting (s : State) (c : Nat) (a : Adc) (v : Int) : (s.safetyValue c a v).lasting = s.lasting := by
  unfold State.safetyValue
  split <;> simp

@[simp] theorem execConversionDone_lasting (c : Nat) (v : Int) (overRange : Bool) (s : State) :
    lastingOf (execConversionDone c v overRange s) = some s.lasting := by
  unfold execConversionDone
  dsimp only
  repeat' split
  all_goals simp

@[simp] theorem execAdcAfterDelay_lasting (c : Nat) (s : State) : lastingOf (execAdcAfterDelay c s) = some s.lasting := by
  unfold execAdcAfterDelay
  dsimp only
  repeat' split
  all_goals simp

@[simp] theorem State.failAdc_lasting (s : State) (c : Nat) : (s.failAdc c).lasting = s.lasting := by simp [State.failAdc]
@[simp] theorem execMonitorScan_lasting (c : Nat) (v : List Int) (s : State) : lastingOf (execMonitorScan c v s) = some s.lasting := by
  simp [execMonitorScan]
@[simp] theorem execOvenConversion_lasting (sum : Nat) (s : State) : lastingOf (execOvenConversion sum s) = some s.lasting := by
  simp [execOvenConversion]

@[simp] theorem State.abortConversion_lasting (s : State) (c : Nat) : (s.abortConversion c).lasting = s.lasting := by
  unfold State.abortConversion
  split <;> simp

@[simp] theorem State.startRound_lasting (s : State) (c : Nat) : (s.startRound c).lasting = s.lasting := by simp [State.startRound]
@[simp] theorem execUrgentRequest_lasting (h : Nat) (safety : Bool) (s : State) :
    lastingOf (execUrgentRequest h safety s) = some s.lasting := by simp [execUrgentRequest]

@[simp] theorem execLevelVerify_lasting (c dev : Nat) (s : State) : lastingOf (execLevelVerify c dev s) = some s.lasting := by
  unfold execLevelVerify
  split <;> simp

@[simp] theorem execResultQueuePop_lasting (r : Nat) (s : State) : lastingOf (execResultQueuePop r s) = some s.lasting := by
  simp [execResultQueuePop]

/-! ## The calibration engine -/

@[simp] theorem State.writeLayer_lasting (s : State) (layer : List (Nat × List Int)) : (s.writeLayer layer).lasting = s.lasting := by
  simp [State.writeLayer]
@[simp] theorem State.calReject_lasting (s : State) (r : CalRun) (f : CalFail) : (s.calReject r f).lasting = s.lasting := by
  simp [State.calReject]

@[simp] theorem State.calJudge_lasting (s : State) (r : CalRun) (layer : List (Nat × List Int)) (later : Option CalFail) :
    (s.calJudge r layer later).lasting = s.lasting := by
  unfold State.calJudge
  split <;> simp

@[simp] theorem execCalLoad_lasting (k : Nat) (s : State) : lastingOf (execCalLoad k s) = some s.lasting := by simp [execCalLoad]
@[simp] theorem execCalSave_lasting (k : Nat) (s : State) : lastingOf (execCalSave k s) = some s.lasting := by simp [execCalSave]

@[simp] theorem State.calBegin_lasting (s : State) (r : CalRun) : (s.calBegin r).lasting = s.lasting := by
  unfold State.calBegin
  split <;> simp

@[simp] theorem execCalImageRead_lasting (img : Bytes) (s : State) : lastingOf (execCalImageRead img s) = some s.lasting := by
  unfold execCalImageRead
  dsimp only
  repeat' split
  all_goals simp

@[simp] theorem execEdgeLin_lasting (temps : List Int) (saturated : Bool) (conv : Nat) (s : State) :
    lastingOf (execEdgeLin temps saturated conv s) = some s.lasting := by
  unfold execEdgeLin
  dsimp only
  repeat' split
  all_goals simp

@[simp] theorem State.trim_lasting (s : State) (r : CalRun) (sel : CalField → Bool) (limit : Nat) (vals : List (List Int)) (residual :
    List Nat) (failed : Bool) :
    (s.trim r sel limit vals residual failed).lasting = s.lasting := by simp [State.trim]

@[simp] theorem execLevelTrim_lasting (vals : List (List Int)) (residual : List Nat) (failed : Bool) (s : State) :
    lastingOf (execLevelTrim vals residual failed s) = some s.lasting := by
  unfold execLevelTrim
  split <;> simp

@[simp] theorem execPmuTrim_lasting (vals : List (List Int)) (residual : List Nat) (failed : Bool) (s : State) :
    lastingOf (execPmuTrim vals residual failed s) = some s.lasting := by
  unfold execPmuTrim
  split <;> simp

@[simp] theorem execCalCommit_lasting (s : State) : lastingOf (execCalCommit s) = some s.lasting := by
  unfold execCalCommit
  split <;> simp

/-! ## What a reset leaves -/

@[simp] theorem State.resetDevice_lasting (s : State) : s.resetDevice.lasting = s.lasting := by simp [State.resetDevice]

/-! ## Power -/

@[simp] theorem State.refreshDomains_lasting (s : State) (n : Nat) (adcOn : Bool) : (s.refreshDomains n adcOn).lasting = s.lasting := by
  simp [State.refreshDomains]
@[simp] theorem State.setPower_lasting (s : State) (n : Nat) : (s.setPower n).lasting = s.lasting := by simp [State.setPower]
@[simp] theorem State.wakeRow_lasting (s : State) (r : Nat) (until_ : Tu) : (s.wakeRow r until_).lasting = s.lasting := by
  simp [State.wakeRow]
@[simp] theorem State.writeBackup_lasting (s : State) : s.writeBackup.lasting = s.lasting := by simp [State.writeBackup]
@[simp] theorem State.enterP4_lasting (s : State) : s.enterP4.lasting = s.lasting := by simp [State.enterP4]
@[simp] theorem State.choosePower_lasting (s : State) : s.choosePower.lasting = s.lasting := by simp [State.choosePower]
@[simp] theorem execPowerStateSelect_lasting (s : State) : lastingOf (execPowerStateSelect s) = some s.lasting := by
  simp [execPowerStateSelect]

@[simp] theorem execPowerExitStart_lasting (planned : Bool) (s : State) : lastingOf (execPowerExitStart planned s) = some s.lasting := by
  unfold execPowerExitStart
  repeat' split
  all_goals simp

@[simp] theorem execPowerExitComplete_lasting (s : State) : lastingOf (execPowerExitComplete s) = some s.lasting := by
  simp [execPowerExitComplete]
@[simp] theorem execP4Req_lasting (s : State) : lastingOf (execP4Req s) = some s.lasting := by simp [execP4Req]

@[simp] theorem execP4RequestExpiry_lasting (s : State) : lastingOf (execP4RequestExpiry s) = some s.lasting := by
  unfold execP4RequestExpiry
  split <;> simp

@[simp] theorem State.endP4_lasting (s : State) (event : Nat) : (s.endP4 event).lasting = s.lasting := by simp [State.endP4]
@[simp] theorem execP4WakeTimer_lasting (s : State) : lastingOf (execP4WakeTimer s) = some s.lasting := by simp [execP4WakeTimer]
@[simp] theorem State.rowGoesOff_lasting (s : State) (r : Nat) : (s.rowGoesOff r).lasting = s.lasting := by simp [State.rowGoesOff]
@[simp] theorem execRowOffWrite_lasting (v : Word) (s : State) : lastingOf (execRowOffWrite v s) = some s.lasting := by
  simp [execRowOffWrite]
@[simp] theorem execVcoreRequestUpdate_lasting (mv : Nat) (s : State) : lastingOf (execVcoreRequestUpdate mv s) = some s.lasting := by
  simp [execVcoreRequestUpdate]
@[simp] theorem State.paceFault_lasting (s : State) (reading : Nat) : (s.paceFault reading).lasting = s.lasting := by simp [State.paceFault]
@[simp] theorem execPaceReadingPublish_lasting (pace : Nat) (s : State) : lastingOf (execPaceReadingPublish pace s) = some s.lasting := by
  simp [execPaceReadingPublish]

@[simp] theorem execRunAheadUnderrun_lasting (k : Nat) (s : State) : lastingOf (execRunAheadUnderrun k s) = some s.lasting := by
  unfold execRunAheadUnderrun
  split <;> simp

/-! ## Resets and boot -/

@[simp] theorem State.bootHalt_lasting (s : State) (reason : Nat) : (s.bootHalt reason).lasting = s.lasting := by simp [State.bootHalt]
@[simp] theorem State.wdtStart_lasting (s : State) (ms : Nat) : (s.wdtStart ms).lasting = s.lasting := by
  simp only [State.wdtStart, State.lasting_mk, State.lasting_eta, State.set_lasting, State.setIf_lasting]
@[simp] theorem State.wdtStop_lasting (s : State) : s.wdtStop.lasting = s.lasting := by simp [State.wdtStop]
@[simp] theorem State.waitPush_lasting (s : State) : s.waitPush.lasting = s.lasting := by simp [State.waitPush]
@[simp] theorem State.bootRecord_lasting (s : State) : s.bootRecord.lasting = s.lasting := by simp [State.bootRecord]

@[simp] theorem State.bootStep2_lasting (s : State) : s.bootStep2.lasting = s.lasting := by
  unfold State.bootStep2
  dsimp only
  split <;> simp

@[simp] theorem State.loadFactory_lasting (s : State) (r : RegName) (i j off : Nat) (mask : Word) :
    (s.loadFactory r i j off mask).lasting = s.lasting := by simp [State.loadFactory]
@[simp] theorem State.bootStep3_lasting (s : State) (img : Bytes) : (s.bootStep3 img).lasting = s.lasting := by simp [State.bootStep3]

@[simp] theorem State.bootStep4_lasting (s : State) : s.bootStep4.lasting = s.lasting := by
  simp only [State.bootStep4, State.lasting_mk, State.lasting_eta, State.set_lasting, State.setBit_lasting, State.clrBit_lasting,
    State.wr_lasting, State.loadFactory_lasting, foldl_lasting, implies_true]

@[simp] theorem State.bootStep5_lasting (s : State) : s.bootStep5.lasting = s.lasting := by simp [State.bootStep5]
@[simp] theorem State.bootStep7_lasting (s : State) (img : Bytes) : (s.bootStep7 img).lasting = s.lasting := by simp [State.bootStep7]
@[simp] theorem State.bootStep8_lasting (s : State) (img : Bytes) (us : Nat) : (s.bootStep8 img us).lasting = s.lasting := by
  simp [State.bootStep8]
@[simp] theorem State.bootOn_lasting (s : State) (img : Bytes) (b : BootIn) : (s.bootOn img b).lasting = s.lasting := by simp [State.bootOn]
@[simp] theorem execFirmwareCheckDone_lasting (img : Bytes) (readOk : Bool) (b : BootIn) (s : State) :
    lastingOf (execFirmwareCheckDone img readOk b s) = some s.lasting := by simp [execFirmwareCheckDone]
@[simp] theorem execBootPushGo_lasting (s : State) : lastingOf (execBootPushGo s) = some s.lasting := by simp [execBootPushGo]
@[simp] theorem State.readBackup_lasting (s : State) (count : Nat) : (s.readBackup count).lasting = s.lasting := by simp [State.readBackup]
@[simp] theorem State.bootStep1Ends_lasting (s : State) (count : Nat) : (s.bootStep1Ends count).lasting = s.lasting := by
  simp [State.bootStep1Ends]

@[simp] theorem execMasterLock_lasting (count : Option Nat) (s : State) : lastingOf (execMasterLock count s) = some s.lasting := by
  unfold execMasterLock
  repeat' split
  all_goals simp

@[simp] theorem execReferenceLoss_lasting (refin : Bool) (s : State) : lastingOf (execReferenceLoss refin s) = some s.lasting := by
  simp [execReferenceLoss]
@[simp] theorem State.assertReset_lasting (s : State) (source : Nat) : (s.assertReset source).lasting = s.lasting := by
  simp [State.assertReset]
@[simp] theorem execPowerGood_lasting (s : State) : lastingOf (execPowerGood s) = some s.lasting := by simp [execPowerGood]
@[simp] theorem execPerst_lasting (low : Bool) (s : State) : lastingOf (execPerst low s) = some s.lasting := by simp [execPerst]
@[simp] theorem execResetN_lasting (low : Bool) (s : State) : lastingOf (execResetN low s) = some s.lasting := by simp [execResetN]
@[simp] theorem execWatchdog_lasting (s : State) : lastingOf (execWatchdog s) = some s.lasting := by simp [execWatchdog]

@[simp] theorem execResetAssert_lasting (s : State) : lastingOf (execResetAssert s) = some s.lasting := by
  unfold execResetAssert
  split <;> simp

@[simp] theorem execBootWdtRestart_lasting (a : Agent) (v : Word) (s : State) : lastingOf (execBootWdtRestart a v s) = some s.lasting := by
  unfold execBootWdtRestart
  split <;> simp

/-! ## The event router -/

@[simp] theorem State.crierRoute_lasting (s : State) (l action : Nat) (t : Tu) : (s.crierRoute l action t).lasting = s.lasting := by
  unfold State.crierRoute
  split <;> simp

@[simp] theorem State.acquire_lasting (s : State) (n : Nat) (t : Tu) : (s.acquire n t).lasting = s.lasting := by simp [State.acquire]
@[simp] theorem State.latchEvent_lasting (s : State) (n k : Nat) (t : Tu) : (s.latchEvent n k t).lasting = s.lasting := by
  simp [State.latchEvent]
@[simp] theorem State.act_lasting (s : State) (a : Arrival) : (s.act a).lasting = s.lasting := by simp [State.act]

@[simp] theorem execEventArrival_lasting (s : State) : lastingOf (execEventArrival s) = some s.lasting := by
  unfold execEventArrival
  dsimp only
  repeat' split
  all_goals simp

@[simp] theorem execCrierPulseEnd_lasting (s : State) : lastingOf (execCrierPulseEnd s) = some s.lasting := by
  unfold execCrierPulseEnd
  split <;> simp

@[simp] theorem execOnDieMemoryError_lasting (k line : Option Nat) (s : State) :
    lastingOf (execOnDieMemoryError k line s) = some s.lasting := by
  unfold execOnDieMemoryError
  split <;> simp

/-! ## Register accesses -/

@[simp] theorem State.latchAll_lasting (s : State) (rs : List Reg) : (s.latchAll rs).lasting = s.lasting := by simp [State.latchAll]
@[simp] theorem State.unlatch_lasting (s : State) (rs : List Reg) : (s.unlatch rs).lasting = s.lasting := by simp [State.unlatch]

@[simp] theorem State.readPlain_lasting (s : State) (r : Reg) : (s.readPlain r).lasting = s.lasting := by
  unfold State.readPlain
  split <;> simp

@[simp] theorem State.readNow_lasting (s : State) : s.readNow.lasting = s.lasting := by simp [State.readNow]
@[simp] theorem State.readClear_lasting (s : State) (r : Reg) : (s.readClear r).lasting = s.lasting := by simp [State.readClear]

@[simp] theorem readReg_lasting (a : Agent) (r : Reg) (s : State) : lastingOf (readReg a r s) = some s.lasting := by
  unfold readReg
  split <;> simp

@[simp] theorem State.writePlain_lasting (s : State) (r : Reg) (v : Word) : (s.writePlain r v).lasting = s.lasting := by
  simp [State.writePlain]

@[simp] theorem State.writeUnless_lasting (s : State) (blocked : Bool) (event : State → State) (r : Reg) (v : Word)
    (h : (event s).lasting = s.lasting) : (s.writeUnless blocked event r v).lasting = s.lasting := by
  simp [State.writeUnless, h]

@[simp] theorem sessionWrite_lasting (n : Nat) (v : Word) (s : State) : lastingOf (sessionWrite n v s) = some s.lasting := by
  simp [sessionWrite]

theorem writeSpecial_lasting {a : Agent} {r : Reg} {v : Word} {s : State} {o : Host.Outcome State Fault Refusal}
    (h : writeSpecial a r v s = some o) : lastingOf o = some s.lasting := by
  unfold writeSpecial at h
  dsimp only at h
  split at h
  case h_61 | h_62 => split at h <;> cases h <;> simp
  all_goals cases h
  all_goals simp

@[simp] theorem writeReg_lasting (a : Agent) (r : Reg) (v : Word) (s : State) : lastingOf (writeReg a r v s) = some s.lasting := by
  unfold writeReg
  split
  · exact writeSpecial_lasting ‹_›
  · simp

@[simp] theorem State.issueAll_lasting (s : State) (f : Nat) : (s.issueAll f).lasting = s.lasting := by simp [State.issueAll]

@[simp] theorem configWrite_lasting (fn : Nat) (c : ConfigReg) (v : Word) (s : State) :
    lastingOf (configWrite fn c v s) = some s.lasting := by
  unfold configWrite
  split <;> simp

@[simp] theorem State.msixTableWrite_lasting (s : State) (fn off : Nat) (v : Word) : (s.msixTableWrite fn off v).lasting = s.lasting := by
  unfold State.msixTableWrite
  split <;> simp

@[simp] theorem State.msixRead_lasting (s : State) (fn off n : Nat) : (s.msixRead fn off n).lasting = s.lasting := by
  unfold State.msixRead
  repeat' split
  all_goals simp

@[simp] theorem State.msixWrite_lasting (s : State) (fn off n : Nat) (data : List Word) :
    (s.msixWrite fn off n data).lasting = s.lasting := by
  unfold State.msixWrite
  split <;> simp

@[simp] theorem State.noFunction_lasting (s : State) : s.noFunction.lasting = s.lasting := by simp [State.noFunction]

@[simp] theorem execRegisterWrite_lasting (t : Target) (v : Word) (s : State) : lastingOf (execRegisterWrite t v s) = some s.lasting := by
  unfold execRegisterWrite
  dsimp only
  repeat' split
  all_goals simp

@[simp] theorem readAt_lasting (t : Target) (s : State) : lastingOf (readAt t s) = some s.lasting := by
  unfold readAt
  dsimp only
  repeat' split
  all_goals simp

theorem gather_lasting (reads : List (State → Host.Outcome State Fault Refusal)) (s : State) (acc : List Word)
    (h : ∀ f ∈ reads, ∀ t, lastingOf (f t) = some t.lasting) : lastingOf (gather reads s acc) = some s.lasting := by
  induction reads generalizing s acc with
  | nil => simp [gather]
  | cons f fs ih =>
    obtain ⟨t, ht, hs⟩ := lastingOf_eq_some.mp (h f List.mem_cons_self s)
    have hfs := fun t acc => ih t acc fun g hg => h g (List.mem_cons_of_mem f hg)
    simp [gather, ht, hfs, hs]

theorem inOrder_lasting (writes : List (State → Host.Outcome State Fault Refusal)) (s : State)
    (h : ∀ f ∈ writes, ∀ t, lastingOf (f t) = some t.lasting) : lastingOf (inOrder writes s) = some s.lasting := by
  induction writes generalizing s with
  | nil => rfl
  | cons f fs ih =>
    obtain ⟨t, ht, hs⟩ := lastingOf_eq_some.mp (h f List.mem_cons_self s)
    have hfs := fun t => ih t fun g hg => h g (List.mem_cons_of_mem f hg)
    simp [inOrder, ht, hfs, hs]

@[simp] theorem execBar2WideAccess_lasting (fn rid off n : Nat) (write : Bool) (data : List Word) (s : State) :
    lastingOf (execBar2WideAccess fn rid off n write data s) = some s.lasting := by
  unfold execBar2WideAccess
  split
  · simp
  · split
    · refine inOrder_lasting _ _ fun f hf t => ?_
      obtain ⟨p, -, rfl⟩ := List.mem_map.mp hf
      simp
    · refine (gather_lasting _ _ _ fun f hf t => ?_).trans (by simp)
      obtain ⟨i, -, rfl⟩ := List.mem_map.mp hf
      simp

@[simp] theorem State.unaligned_lasting (s : State) (n : Nat) (write : Bool) : (s.unaligned n write).lasting = s.lasting := by
  simp [State.unaligned]

@[simp] theorem execUnalignedAccess_lasting (t : Target) (n : Nat) (write : Option (List Word)) (s : State) :
    lastingOf (execUnalignedAccess t n write s) = some s.lasting := by
  unfold execUnalignedAccess
  repeat' split
  all_goals simp

@[simp] theorem execReadClearRead_lasting (off : Nat) (s : State) : lastingOf (execReadClearRead off s) = some s.lasting := by
  simp [execReadClearRead]
@[simp] theorem execWideValueRead_lasting (off : Nat) (s : State) : lastingOf (execWideValueRead off s) = some s.lasting := by
  simp [execWideValueRead]
@[simp] theorem execTimeNowRead_lasting (s : State) : lastingOf (execTimeNowRead s) = some s.lasting := by simp [execTimeNowRead]

end Sys2Proof.Machine
end

section
/-!
SUPPORT. The Ledger (O52, O53): no command loses or rewrites a record, and the keeper's write in progress stays a legal one. Every command but
five leaves both by `exec_lasting`; the five are what the keeper, a loss of power and the start of boot do.
-/

namespace Sys2Proof

/-- The commands that change the Ledger's records, the keeper's write in progress or the torn record. -/
def Instr.worksOnLedger : Instr → Bool
  | .ledgerEvent | .ledgerTake | .ledgerWriteDone | .powerOn .. | .resetRelease .. => true
  | _ => false

end Sys2Proof

namespace Sys2Proof.Machine

/-- R574: every other command answers a next state with the same records, write in progress, torn record and queue. -/
theorem exec_lasting {c : Instr} (s : State) (h : c.worksOnLedger = false) : lastingOf (exec c s) = some s.lasting := by
  cases c
  case ledgerEvent | ledgerTake | ledgerWriteDone | powerOn | resetRelease => cases h
  all_goals simp [exec]

theorem exec_next_lasting {c : Instr} {s t : State} (h : c.worksOnLedger = false) (ht : exec c s = .next t) : t.lasting = s.lasting := by
  have hs := exec_lasting s h
  rw [ht] at hs
  exact Option.some.inj hs

/-! ## What may happen to the records -/

/-- No record is lost or changed from `s` to `t`, but for the count update in progress of the most recent one (R569, R574). -/
def State.RecordsStay (s t : State) : Prop :=
  s.ledgRecs.length ≤ t.ledgRecs.length ∧
  ∀ (j : Nat) (r : List Word), s.ledgRecs[j]? = some r →
    t.ledgRecs[j]? = some r ∨
    (j + 1 = s.ledgRecs.length ∧ (∃ w, s.ledgWrite = some w ∧ w.update = true) ∧ recState r = 1 ∧ recRepeat r < 65535 ∧
      t.ledgRecs[j]? = some (countedUp r))

theorem State.RecordsStay.refl (s : State) : s.RecordsStay s := ⟨Nat.le_refl _, fun _ _ h => .inl h⟩

/-- Records added at the end change nothing of what stood before. -/
theorem State.RecordsStay.append {s t u : State} {l : List (List Word)} (h : s.RecordsStay t) (hu : u.ledgRecs = t.ledgRecs ++ l) :
    s.RecordsStay u := by
  obtain ⟨hlen, hrecs⟩ := h
  have later : ∀ {j : Nat} {r : List Word}, t.ledgRecs[j]? = some r → u.ledgRecs[j]? = some r := fun hj => by
    rw [hu, List.getElem?_append_left (List.getElem?_eq_some_iff.mp hj).1, hj]
  refine ⟨by simp only [hu, List.length_append]; omega, fun j r hj => ?_⟩
  rcases hrecs j r hj with hkept | ⟨hlast, hw, hstate, hroom, hup⟩
  · exact .inl (later hkept)
  · exact .inr ⟨hlast, hw, hstate, hroom, later hup⟩

theorem State.RecordsStay.congr {s t u : State} (h : s.RecordsStay t) (hu : u.ledgRecs = t.ledgRecs) : s.RecordsStay u :=
  h.append (l := []) (by simp [hu])

/-- R569: the count update in progress, carried out, counts the most recent record up and no other. -/
theorem State.RecordsStay.of_countUp {s t : State} {w : LedgerWrite} (hs : ledgerInv s) (hw : s.ledgWrite = some w) (hu : w.update = true)
    (ht : t.ledgRecs = s.ledgRecs.dropLast ++ [raisedRepeat w.words]) : s.RecordsStay t := by
  obtain ⟨hlast, hcommitted, hroom⟩ := hs.2 w hw hu
  obtain ⟨l, hl⟩ := List.getLast?_eq_some_iff.mp hlast
  rw [hl, List.dropLast_concat] at ht
  refine ⟨by simp [ht, hl], fun j r hj => ?_⟩
  rw [hl] at hj
  rcases Nat.lt_or_ge j l.length with hlt | hge
  · rw [List.getElem?_append_left hlt] at hj
    exact .inl (by rw [ht, List.getElem?_append_left hlt, hj])
  · have hj' : j = l.length := by
      have := (List.getElem?_eq_some_iff.mp hj).1
      rw [List.length_append, List.length_singleton] at this
      omega
    subst hj'
    obtain rfl : w.words = r := by simpa using hj
    exact .inr ⟨by simp [hl], ⟨w, hw, hu⟩, hcommitted, hroom, by rw [ht, List.getElem?_concat_length]; rfl⟩

/-! ## The invariant of the keeper's write -/

theorem ledgerInv_congr {s t : State} (h : t.lasting = s.lasting) : ledgerInv t ↔ ledgerInv s := by
  obtain ⟨hr, hw, ht, -⟩ := State.lasting_eq_iff.mp h
  simp only [ledgerInv, hr, hw, ht]

theorem ledgerInv_of_idle {s : State} (h : s.ledgWrite = none) : ledgerInv s := by simp [ledgerInv, h]

theorem ledgerInv_of_writing {s : State} {w : LedgerWrite} (hw : s.ledgWrite = some w) (ht : s.ledgTorn = none)
    (hu : w.update = true → s.ledgRecs.getLast? = some w.words ∧ recState w.words = 1 ∧ recRepeat w.words < 65535) : ledgerInv s := by
  simpa [ledgerInv, hw, ht] using hu

/-- R569: an event folds into a committed most recent record whose count has room. -/
theorem State.folds_spec {s : State} {e : LedgerEv} (h : s.folds e = true) :
    ∃ r, s.ledgRecs.getLast? = some r ∧ recState r = 1 ∧ recRepeat r < 65535 := by
  unfold State.folds at h
  split at h
  · cases h
  · simp only [Bool.and_eq_true, beq_iff_eq, decide_eq_true_eq] at h
    obtain ⟨⟨⟨⟨⟨hstate, -⟩, -⟩, hroom⟩, -⟩, -⟩ := h
    exact ⟨_, ‹_›, hstate, hroom⟩

/-! ## What the keeper's operations do to both -/

/-- From `s` to `t` the records stay, and the write that is in progress in `t` is a legal one. -/
def State.KeepsLedger (s t : State) : Prop := s.RecordsStay t ∧ ledgerInv t

namespace State.KeepsLedger

variable {s t u : State}

theorem refl (h : ledgerInv s) : s.KeepsLedger s := ⟨.refl s, h⟩

theorem congr (h : s.KeepsLedger t) (hu : u.lasting = t.lasting) : s.KeepsLedger u :=
  ⟨h.1.congr (lasting_eq_iff.mp hu).1, (ledgerInv_congr hu).mpr h.2⟩

theorem of_lasting (hs : ledgerInv s) (ht : t.lasting = s.lasting) : s.KeepsLedger t := (refl hs).congr ht

/-- R569, R573: a write that starts while no torn record waits is a legal one, and changes no record yet. -/
theorem startWrite (h : s.KeepsLedger t) (ht : t.ledgTorn = none) (e : LedgerEv) : s.KeepsLedger (t.startWrite e) := by
  unfold State.startWrite
  split
  · exact ⟨h.1.congr rfl, ledgerInv_of_writing rfl ht nofun⟩
  split
  · exact h.congr t.unrecorded_lasting
  split
  · rename_i hfolds
    obtain ⟨r, hr, hstate, hroom⟩ := folds_spec hfolds
    exact ⟨h.1.congr rfl, ledgerInv_of_writing rfl ht fun _ => by simp [hr, hstate, hroom]⟩
  split
  · exact h.congr t.unrecorded_lasting
  · exact ⟨h.1.congr rfl, ledgerInv_of_writing rfl ht nofun⟩

theorem refreshLedger (h : s.KeepsLedger t) : s.KeepsLedger t.refreshLedger := h.congr t.refreshLedger_lasting

/-- R571: the OVERRUN record's write starts only while no torn record waits. -/
theorem overrunIfDue (h : s.KeepsLedger t) : s.KeepsLedger t.overrunIfDue := by
  unfold State.overrunIfDue
  dsimp only
  split
  · rename_i hdue
    obtain ⟨-, -, -, ht, -⟩ := hdue
    exact (h.congr (t.set_lasting ..)).startWrite (Option.isNone_iff_eq_none.mp ht) _
  · exact h

/-- R568, R576: a write that power cuts short is done, undone, or leaves a torn record with no write in progress. -/
theorem cutLedger (h : ledgerInv s) (n : Nat) : s.KeepsLedger (s.cutLedger n) := by
  unfold State.cutLedger
  split
  · exact refl h
  rename_i w hw
  dsimp only
  split
  · split
    · exact ⟨(RecordsStay.refl s).congr rfl, ledgerInv_of_idle rfl⟩
    · exact ⟨.of_countUp h hw ‹_› rfl, ledgerInv_of_idle rfl⟩
  split
  · exact ⟨(RecordsStay.refl s).congr rfl, ledgerInv_of_idle rfl⟩
  split
  · exact ⟨(RecordsStay.refl s).append rfl, ledgerInv_of_idle rfl⟩
  · exact ⟨(RecordsStay.refl s).congr rfl, ledgerInv_of_idle rfl⟩

/-- R15: the records outlast the keeper's supplies; a write in progress does not. -/
theorem loseKeeper (h : s.KeepsLedger t) : s.KeepsLedger t.loseKeeper := ⟨h.1.congr rfl, ledgerInv_of_idle rfl⟩

/-- R576: the seal of a torn record is added after the records; no write is in progress then. -/
theorem sealTorn (h : s.KeepsLedger t) : s.KeepsLedger t.sealTorn := by
  cases ht : t.ledgTorn with
  | none => simpa only [State.sealTorn, ht] using h
  | some ws =>
    simp only [State.sealTorn, ht]
    exact ⟨h.1.append rfl, ledgerInv_of_idle (h.2.1 (by simp [ht]))⟩

end State.KeepsLedger

/-! ## The five commands -/

section
variable {s t : State}

theorem execLedgerEvent_keepsLedger (hs : ledgerInv s) (h : execLedgerEvent s = .next t) : s.KeepsLedger t := by
  unfold execLedgerEvent at h
  split at h <;> cases h
  · exact .refl hs
  · exact .refreshLedger (.overrunIfDue (.of_lasting hs (by simp)))

/-- R570, R576: a queued event's write starts only while no torn record waits. -/
theorem execLedgerTake_keepsLedger (hs : ledgerInv s) (h : execLedgerTake s = .next t) : s.KeepsLedger t := by
  unfold execLedgerTake at h
  split at h
  · cases h
    exact .refl hs
  split at h <;> cases h
  · exact .refl hs
  · rename_i hfree
    simp only [not_or, Option.not_isSome_iff_eq_none] at hfree
    obtain ⟨-, ht, -⟩ := hfree
    refine .refreshLedger (.startWrite (.of_lasting hs ?_) ?_ _)
    · simp
    · exact ht

/-- R567, R569: a completed write counts the most recent record up, or adds its record. -/
theorem execLedgerWriteDone_keepsLedger (hs : ledgerInv s) (h : execLedgerWriteDone s = .next t) : s.KeepsLedger t := by
  unfold execLedgerWriteDone at h
  split at h <;> cases h
  · exact .refl hs
  rename_i w hw
  refine .refreshLedger (.overrunIfDue ?_)
  cases hu : w.update with
  | false => split <;> exact ⟨(State.RecordsStay.refl s).append rfl, ledgerInv_of_idle rfl⟩
  | true => split <;> exact ⟨.of_countUp hs hw hu rfl, ledgerInv_of_idle rfl⟩

/-- R15, R568, R576: loss of power cuts a write short, and loss of the keeper's supplies drops it. -/
theorem execPowerOn_keepsLedger {lost : Bool} {cut : Option Nat} (hs : ledgerInv s) (h : execPowerOn lost cut s = .next t) :
    s.KeepsLedger t := by
  cases h
  cases cut with
  | none =>
    cases lost
    · exact .of_lasting hs (by simp)
    · exact (State.KeepsLedger.loseKeeper (.refl hs)).congr (by simp)
  | some n =>
    cases lost
    · exact (State.KeepsLedger.cutLedger hs n).congr (by simp)
    · exact (State.KeepsLedger.loseKeeper (.cutLedger hs n)).congr (by simp)

/-- R576, R603: boot begins with the seal of a torn record. -/
theorem execResetRelease_keepsLedger {src pos : Nat} {cand ref : Bool} (hs : ledgerInv s)
    (h : execResetRelease src cand pos ref s = .next t) : s.KeepsLedger t := by
  unfold execResetRelease at h
  split at h
  · cases h
    exact .refl hs
  split at h
  · cases h
    exact .refl hs
  extract_lets strapped caused counted watched booting waiting at h
  have hbooting : s.KeepsLedger booting := by
    refine .sealTorn (.of_lasting hs ?_)
    simp [watched, counted, caused, strapped]
  have hwaiting : s.KeepsLedger waiting := hbooting.congr (by simp [waiting])
  split at h <;> cases h <;> exact hwaiting.congr (by simp)

/-- Every command keeps the records, and the legality of the keeper's write. -/
theorem exec_keepsLedger {c : Instr} (hs : ledgerInv s) (h : exec c s = .next t) : s.KeepsLedger t := by
  cases hc : c.worksOnLedger with
  | false => exact .of_lasting hs (exec_next_lasting hc h)
  | true =>
    cases c
    case ledgerEvent => exact execLedgerEvent_keepsLedger hs h
    case ledgerTake => exact execLedgerTake_keepsLedger hs h
    case ledgerWriteDone => exact execLedgerWriteDone_keepsLedger hs h
    case powerOn => exact execPowerOn_keepsLedger hs h
    case resetRelease => exact execResetRelease_keepsLedger hs h
    all_goals cases hc

/-- Neither the invariant nor what happens to the records speaks of the queue. -/
theorem ledgerInv_queue (s : State) (q : List Instr) : ledgerInv { s with pending := q } ↔ ledgerInv s := Iff.rfl

theorem State.keepsLedger_queue (s t : State) (q : List Instr) : State.KeepsLedger { s with pending := q } t ↔ s.KeepsLedger t := Iff.rfl

theorem step_keepsLedger (hs : ledgerInv s) (h : step s = .next t) : s.KeepsLedger t := by
  unfold step at h
  split at h
  · rename_i c rest _
    exact (s.keepsLedger_queue t rest).mp (exec_keepsLedger ((ledgerInv_queue s rest).mpr hs) h)
  · cases h
    exact .of_lasting hs (by simp)

end

/-- Settles O52: every step keeps the records, by the frame of the commands and the five that work on the Ledger. -/
theorem committedRecordsStay : Obligations.CommittedRecordsStay := by
  unfold Obligations.CommittedRecordsStay
  intro s t hs h
  exact (step_keepsLedger hs h).1

/-- Settles O53: from the same step lemma. -/
theorem ledgerWriteInvariant : Obligations.LedgerWriteInvariant := by
  unfold Obligations.LedgerWriteInvariant
  intro s t hs h
  exact (step_keepsLedger hs h).2

end Sys2Proof.Machine
end

section
/-!
SUPPORT. Every command answers a next state and leaves the queue of commands (O1, O2, O55, O56). `exec_lasting` says both of every command but
the five that work on the Ledger, so those five are what is left to look at.
-/

namespace Sys2Proof.Machine

theorem pending_of_lasting {s t : State} (h : t.lasting = s.lasting) : t.pending = s.pending := congrArg Lasting.queue h

/-! ## The keeper's operations leave the queue -/

@[simp] theorem State.refreshLedger_pending (s : State) : s.refreshLedger.pending = s.pending := pending_of_lasting s.refreshLedger_lasting
@[simp] theorem State.unrecorded_pending (s : State) : s.unrecorded.pending = s.pending := pending_of_lasting s.unrecorded_lasting
@[simp] theorem State.ledgerLose_pending (s : State) (n : Nat) : (s.ledgerLose n).pending = s.pending := pending_of_lasting (s.ledgerLose_lasting n)

@[simp] theorem State.startWrite_pending (s : State) (e : LedgerEv) : (s.startWrite e).pending = s.pending := by
  unfold State.startWrite
  repeat' split
  all_goals simp

@[simp] theorem State.overrunIfDue_pending (s : State) : s.overrunIfDue.pending = s.pending := by
  unfold State.overrunIfDue
  dsimp only
  split <;> simp

@[simp] theorem State.cutLedger_pending (s : State) (n : Nat) : (s.cutLedger n).pending = s.pending := by
  unfold State.cutLedger
  dsimp only
  repeat' split
  all_goals rfl

@[simp] theorem State.loseKeeper_pending (s : State) : s.loseKeeper.pending = s.pending := rfl

@[simp] theorem State.sealTorn_pending (s : State) : s.sealTorn.pending = s.pending := by
  unfold State.sealTorn
  split <;> rfl

@[simp] theorem State.wdtStart_pending (s : State) (ms : Nat) : (s.wdtStart ms).pending = s.pending := pending_of_lasting (s.wdtStart_lasting ms)

/-! ## The five commands that work on the Ledger -/

/-- The command answers a next state whose queue is `q`. -/
def AnswersWithQueue (o : Host.Outcome State Fault Refusal) (q : List Instr) : Prop := ∃ t, o = .next t ∧ t.pending = q

theorem answersWithQueue_next {t : State} {q : List Instr} (h : t.pending = q) : AnswersWithQueue (.next t) q := ⟨t, rfl, h⟩

theorem execLedgerEvent_answers (s : State) : AnswersWithQueue (execLedgerEvent s) s.pending := by
  unfold execLedgerEvent
  split
  · exact answersWithQueue_next rfl
  · dsimp only
    split <;> exact answersWithQueue_next (by simp)

theorem execLedgerTake_answers (s : State) : AnswersWithQueue (execLedgerTake s) s.pending := by
  unfold execLedgerTake
  split
  · exact answersWithQueue_next rfl
  split <;> exact answersWithQueue_next (by simp)

theorem execLedgerWriteDone_answers (s : State) : AnswersWithQueue (execLedgerWriteDone s) s.pending := by
  unfold execLedgerWriteDone
  split
  · exact answersWithQueue_next rfl
  · dsimp only
    split <;> split <;> exact answersWithQueue_next (by simp)

theorem execPowerOn_answers (lost : Bool) (cut : Option Nat) (s : State) : AnswersWithQueue (execPowerOn lost cut s) s.pending := by
  refine answersWithQueue_next ((pending_of_lasting (State.assertReset_lasting _ _)).trans ?_)
  cases cut <;> cases lost <;> simp

theorem execResetRelease_answers (src pos : Nat) (cand ref : Bool) (s : State) :
    AnswersWithQueue (execResetRelease src cand pos ref s) s.pending := by
  unfold execResetRelease
  split
  · exact answersWithQueue_next rfl
  split
  · exact answersWithQueue_next rfl
  extract_lets strapped caused counted watched booting waiting
  have hbooting : booting.pending = s.pending := by simp [booting, watched, counted, caused, strapped, State.setIf]
  have hwaiting : waiting.pending = s.pending := by
    refine Eq.trans (pending_of_lasting (t := waiting) (s := booting) ?_) hbooting
    simp [waiting]
  split <;> refine answersWithQueue_next (Eq.trans (pending_of_lasting ?_) hwaiting) <;> simp

/-! ## Every command -/

theorem exec_answers (c : Instr) (s : State) : AnswersWithQueue (exec c s) s.pending := by
  cases hc : c.worksOnLedger with
  | false =>
    obtain ⟨t, ht, hs⟩ := lastingOf_eq_some.mp (exec_lasting s hc)
    exact ⟨t, ht, pending_of_lasting hs⟩
  | true =>
    cases c
    case ledgerEvent => exact execLedgerEvent_answers s
    case ledgerTake => exact execLedgerTake_answers s
    case ledgerWriteDone => exact execLedgerWriteDone_answers s
    case powerOn => exact execPowerOn_answers _ _ s
    case resetRelease => exact execResetRelease_answers _ _ _ _ s
    all_goals cases hc

theorem exec_next_pending {c : Instr} {s t : State} (h : exec c s = .next t) : t.pending = s.pending := by
  obtain ⟨u, hu, hq⟩ := exec_answers c s
  cases h.symm.trans hu
  exact hq

theorem step_of_pending {c : Instr} {l : List Instr} {s : State} (h : s.pending = c :: l) : step s = exec c { s with pending := l } := by
  simp only [step, h]

theorem step_of_idle {s : State} (h : s.pending = []) : step s = .next (if s.frRuns then { s with fr := s.fr + 1 } else s) := by
  simp only [step, h]

theorem step_answers (s : State) : ∃ t, step s = .next t := by
  cases h : s.pending with
  | nil => exact ⟨_, step_of_idle h⟩
  | cons c l =>
    obtain ⟨t, ht, -⟩ := exec_answers c { s with pending := l }
    exact ⟨t, (step_of_pending h).trans ht⟩

theorem goesOnFor_all (n : Nat) (s : State) : goesOnFor n s := by
  induction n generalizing s with
  | zero => trivial
  | succ n ih =>
    obtain ⟨t, ht⟩ := step_answers s
    exact ⟨t, ht, ih t⟩

/-! ## The statements -/

/-- Settles O55: every command answers a next state by `exec_answers`, and a run goes on by induction on its length. -/
theorem everyRunGoesOn : Obligations.EveryRunGoesOn := by
  unfold Obligations.EveryRunGoesOn
  refine ⟨fun c s => ?_, goesOnFor_all⟩
  obtain ⟨t, ht, -⟩ := exec_answers c s
  exact ⟨t, ht⟩

/-- Settles O56: no command touches the queue, and a step hands the command the queue's rest. -/
theorem commandsLeaveTheQueue : Obligations.CommandsLeaveTheQueue := by
  unfold Obligations.CommandsLeaveTheQueue
  refine ⟨fun c s t h => exec_next_pending h, fun c l s t hq h => ?_⟩
  exact exec_next_pending ((step_of_pending hq).symm.trans h)

/-- Settles O1: a queue that begins with the command is the case of `step_of_pending`. -/
theorem stepRunsFrontCommand : Obligations.StepRunsFrontCommand := by
  unfold Obligations.StepRunsFrontCommand
  intro c rest s
  exact step_of_pending (s := { s with pending := c :: rest }) rfl

/-- Settles O2: the idle step. -/
theorem idleStepPassesOneTick : Obligations.IdleStepPassesOneTick := by
  unfold Obligations.IdleStepPassesOneTick
  exact fun s h => step_of_idle h

end Sys2Proof.Machine
end

section
/-!
SUPPORT. What leaves local memory: one lemma per operation says that it does not change it, by the lemmas of the operations that it calls. The
operations that write local memory are in the part after this one.
-/

namespace Sys2Proof.Machine

/-- Local memory. -/
def State.localMem (s : State) : Mem := s.mem

/-- Local memory of a state given by its fields. -/
@[simp] theorem State.localMem_mk {regs mem poison fr frRuns free booted rdata latch rstat funcs numVfs ari vfEnable stalls works nextWork
    devAllowance receipts donePaces tx triggers raiseNo events arrivals lastArrival detections ledgerEvents ports segs seqs tsPending
    frames0 frames1 nextEntry ethOut chans edges lanes patch crier factApplied ledgRecs ledgQueue ledgWrite laneTxOff safeEntry holdEnd
    warnSince resets watches conc gates srcEdges turn ssms driftRows handledAt calQueue oven masterOven joints gsl gslIn peers electAt
    members linksDown timeHalf timeNext timeSet servo ptpRate idConflict hallCfg crierDrv crierWait pulses crierCfg crierNow postponed awn
    items graphs schedNo callRet l1 cohWait recalls losers regions arbs debt sref srefAt openRows adcs results safetyDue safetyRes calRun
    energy p4Req p4Event inReset perstLow resetNLow powerGood pushing wdtMs wdtFrom ledgTorn bar4Log2 pending} :
    State.localMem (State.mk regs mem poison fr frRuns free booted rdata latch rstat funcs numVfs ari vfEnable stalls works nextWork
      devAllowance receipts donePaces tx triggers raiseNo events arrivals lastArrival detections ledgerEvents ports segs seqs tsPending
      frames0 frames1 nextEntry ethOut chans edges lanes patch crier factApplied ledgRecs ledgQueue ledgWrite laneTxOff safeEntry holdEnd
      warnSince resets watches conc gates srcEdges turn ssms driftRows handledAt calQueue oven masterOven joints gsl gslIn peers electAt
      members linksDown timeHalf timeNext timeSet servo ptpRate idConflict hallCfg crierDrv crierWait pulses crierCfg crierNow postponed awn
      items graphs schedNo callRet l1 cohWait recalls losers regions arbs debt sref srefAt openRows adcs results safetyDue safetyRes calRun
      energy p4Req p4Event inReset perstLow resetNLow powerGood pushing wdtMs wdtFrom ledgTorn bar4Log2 pending) = mem :=
  (rfl)

@[simp] theorem State.localMem_eta (s : State) : s.mem = s.localMem := (rfl)

@[simp] theorem State.localMem_ite (c : Prop) [Decidable c] (s t : State) :
    (if c then s else t).localMem = if c then s.localMem else t.localMem := apply_ite ..

/-- Local memory of the state that a command answers. -/
def memOf : Host.Outcome State Fault Refusal → Option Mem
  | .next s => some s.localMem
  | .fault _ => none
  | .refused _ => none

@[simp] theorem memOf_next (s : State) : memOf (.next s) = some s.localMem := rfl

theorem memOf_eq_some {o : Host.Outcome State Fault Refusal} {p : Mem} : memOf o = some p ↔ ∃ t, o = .next t ∧ t.localMem = p := by
  cases o <;> simp [memOf]

@[simp] theorem memOf_ite (c : Prop) [Decidable c] (o o' : Host.Outcome State Fault Refusal) :
    memOf (if c then o else o') = if c then memOf o else memOf o' := apply_ite ..

/-! ## Folds -/

@[simp] theorem foldl_localMem {α : Type} (f : State → α → State) (l : List α) (s : State) (h : ∀ t x, (f t x).localMem = t.localMem) :
    (l.foldl f s).localMem = s.localMem :=
  foldl_keep (·.localMem = s.localMem) f (fun t x ht => (h t x).trans ht) l rfl

@[simp] theorem foldl_fst_localMem {α β : Type} (f : State × β → α → State × β) (l : List α) (x : State × β)
    (h : ∀ x a, (f x a).1.localMem = x.1.localMem) : (l.foldl f x).1.localMem = x.1.localMem := by
  induction l generalizing x with
  | nil => rfl
  | cons a l ih => exact (ih _).trans (h x a)

/-! ## Registers, time, and what a command leaves for another -/

@[simp] theorem State.wr_localMem (s : State) (r : Reg) (w : Word) : (s.wr r w).localMem = s.localMem := by simp [State.wr]
@[simp] theorem State.set_localMem (s : State) (f : Fld) (v i j : Nat) : (s.set f v i j).localMem = s.localMem := by
  simp [State.set]
@[simp] theorem State.setBit_localMem (s : State) (f : Fld) (i j : Nat) : (s.setBit f i j).localMem = s.localMem := by
  simp [State.setBit]
@[simp] theorem State.clrBit_localMem (s : State) (f : Fld) (i j : Nat) : (s.clrBit f i j).localMem = s.localMem := by
  simp [State.clrBit]
@[simp] theorem State.setIf_localMem (s : State) (f : Fld) (b : Bool) (i j : Nat) : (s.setIf f b i j).localMem = s.localMem := by
  simp [State.setIf]
@[simp] theorem State.countUp_localMem (s : State) (f : Fld) (n i j : Nat) : (s.countUp f n i j).localMem = s.localMem := by
  simp [State.countUp]
@[simp] theorem State.wrWords_localMem (s : State) (r : RegName) (i n v : Nat) : (s.wrWords r i n v).localMem = s.localMem := by
  simp [State.wrWords]
@[simp] theorem State.wr80_localMem (s : State) (a b c : RegName) (i v : Nat) : (s.wr80 a b c i v).localMem = s.localMem := by
  simp [State.wr80]
@[simp] theorem State.advanceTo_localMem (s : State) (t : Tu) : (s.advanceTo t).localMem = s.localMem := by simp [State.advanceTo]
@[simp] theorem State.useFree_localMem (s : State) (n : Nat) : (s.useFree n).localMem = s.localMem := by simp [State.useFree]
@[simp] theorem State.setFunc_localMem (s : State) (f : Nat) (v : Func) : (s.setFunc f v).localMem = s.localMem := by simp [State.setFunc]
@[simp] theorem State.setStall_localMem (s : State) (k : Nat) (v : Stall) : (s.setStall k v).localMem = s.localMem := by simp [State.setStall]
@[simp] theorem State.setWork_localMem (s : State) (k : Nat) (v : Work) : (s.setWork k v).localMem = s.localMem := by simp [State.setWork]

@[simp] theorem State.modWork_localMem (s : State) (k : Nat) (f : Work → Work) : (s.modWork k f).localMem = s.localMem := by
  unfold State.modWork
  split <;> simp

@[simp] theorem State.raise_localMem (s : State) (source : Nat) (at_ : Tu) (rising : Bool) (mark : Nat) :
    (s.raise source at_ rising mark).localMem = s.localMem := by simp [State.raise]
@[simp] theorem State.detect_localMem (s : State) (d : Detection) : (s.detect d).localMem = s.localMem := by simp [State.detect]
@[simp] theorem State.ledger_localMem (s : State) (e : LedgerEv) : (s.ledger e).localMem = s.localMem := by simp [State.ledger]
@[simp] theorem State.trigger_localMem (s : State) (fn vec : Nat) : (s.trigger fn vec).localMem = s.localMem := by simp [State.trigger]
@[simp] theorem State.send_localMem (s : State) (w : HostWrite) : (s.send w).localMem = s.localMem := by simp [State.send]
@[simp] theorem State.raiseReceipt_localMem (s : State) (r : RaisedReceipt) : (s.raiseReceipt r).localMem = s.localMem := by
  simp [State.raiseReceipt]
@[simp] theorem State.finalReceipt_localMem (s : State) (k status cause : Nat) (detail : Bytes) :
    (s.finalReceipt k status cause detail).localMem = s.localMem := by simp [State.finalReceipt]

/-! ## Calibration records -/

@[simp] theorem State.setChan_localMem (s : State) (c : Nat) (v : Chan) : (s.setChan c v).localMem = s.localMem := by simp [State.setChan]
@[simp] theorem State.requestRamp_localMem (s : State) (c : Nat) : (s.requestRamp c).localMem = s.localMem := by simp [State.requestRamp]

/-! ## Converters: queues and conversions -/

@[simp] theorem State.setAdc_localMem (s : State) (c : Nat) (v : Adc) : (s.setAdc c v).localMem = s.localMem := by simp [State.setAdc]
@[simp] theorem State.adcDrop_localMem (s : State) (k : Nat) : (s.adcDrop k).localMem = s.localMem := by simp [State.adcDrop]

@[simp] theorem State.adcEnd_localMem (s : State) (k : Nat) : (s.adcEnd k).localMem = s.localMem := by
  unfold State.adcEnd
  split <;> simp

@[simp] theorem State.adcStop_localMem (s : State) (k : Nat) : (s.adcStop k).localMem = s.localMem := by simp [State.adcStop]
@[simp] theorem State.queueStalled_localMem (s : State) (k r : Nat) : (s.queueStalled k r).localMem = s.localMem := by
  simp [State.queueStalled]
@[simp] theorem State.adcBegin_localMem (s : State) (c : Nat) (r : AdcRun) : (s.adcBegin c r).localMem = s.localMem := by simp [State.adcBegin]

@[simp] theorem State.adcTry_localMem (s : State) (c : Nat) : (s.adcTry c).localMem = s.localMem := by
  unfold State.adcTry
  dsimp only
  repeat' split
  all_goals simp

@[simp] theorem State.adcKickN_localMem (fuel : Nat) (s : State) : (State.adcKickN fuel s).localMem = s.localMem := by
  induction fuel generalizing s with
  | zero => rfl
  | succ n ih => simp [State.adcKickN, ih]

@[simp] theorem State.adcKick_localMem (s : State) : s.adcKick.localMem = s.localMem := by simp [State.adcKick]

/-! ## Orders that end VOID, are withdrawn or disabled -/

@[simp] theorem State.setSeq_localMem (s : State) (n : Nat) (v : Seq) : (s.setSeq n v).localMem = s.localMem := by simp [State.setSeq]
@[simp] theorem State.setSeg_localMem (s : State) (n : Nat) (v : Seg) : (s.setSeg n v).localMem = s.localMem := by simp [State.setSeg]
@[simp] theorem State.refreshOwned_localMem (s : State) (cs : List Nat) : (s.refreshOwned cs).localMem = s.localMem := by
  simp [State.refreshOwned]
@[simp] theorem State.wakeDelayList_localMem (s : State) : s.wakeDelayList.localMem = s.localMem := by simp [State.wakeDelayList]
@[simp] theorem State.abandonFill_localMem (s : State) (w : Work) : (s.abandonFill w).localMem = s.localMem := by simp [State.abandonFill]
@[simp] theorem State.releaseBurst_localMem (s : State) (k : Nat) (w : Work) : (s.releaseBurst k w).localMem = s.localMem := by
  simp [State.releaseBurst]
@[simp] theorem State.finishFill_localMem (s : State) (w : Work) : (s.finishFill w).localMem = s.localMem := by simp [State.finishFill]

@[simp] theorem State.releaseWatch_localMem (s : State) (k : Nat) : (s.releaseWatch k).localMem = s.localMem := by
  unfold State.releaseWatch
  split <;> simp

@[simp] theorem State.releaseWork_localMem (s : State) (k status : Nat) : (s.releaseWork k status).localMem = s.localMem := by
  unfold State.releaseWork
  split <;> simp

@[simp] theorem State.dropComplete_localMem (s : State) (k : Nat) : (s.dropComplete k).localMem = s.localMem := by simp [State.dropComplete]
@[simp] theorem State.releaseRecord_localMem (s : State) : s.releaseRecord.localMem = s.localMem := by simp [State.releaseRecord]
@[simp] theorem State.calBusOff_localMem (s : State) (rows : List Nat) : (s.calBusOff rows).localMem = s.localMem := by simp [State.calBusOff]

@[simp] theorem State.calDone_localMem (s : State) (k : Nat) : (s.calDone k).localMem = s.localMem := by
  unfold State.calDone
  split <;> simp

@[simp] theorem State.ssmsStop_localMem (s : State) (rows : List Nat) : (s.ssmsStop rows).localMem = s.localMem := by simp [State.ssmsStop]

@[simp] theorem State.calAbort_localMem (s : State) (k : Nat) (w : Work) : (s.calAbort k w).localMem = s.localMem := by
  unfold State.calAbort
  repeat' split
  all_goals simp

@[simp] theorem State.endWatch_localMem (s : State) (k : Nat) (w : Work) : (s.endWatch k w).localMem = s.localMem := by simp [State.endWatch]

@[simp] theorem State.closeWatchBy_localMem (s : State) (k : Nat) (t : Tu) : (s.closeWatchBy k t).localMem = s.localMem := by
  unfold State.closeWatchBy
  split <;> simp

@[simp] theorem State.writeVerdict_localMem (s : State) (w : Work) (status cause fail retired : Nat) :
    (s.writeVerdict w status cause fail retired).localMem = s.localMem := by simp [State.writeVerdict]

@[simp] theorem State.withdraw_localMem (s : State) (k : Nat) : (s.withdraw k).localMem = s.localMem := by
  -- `finalReceipt_pending` rewrites one of the four fields alone, and `localMem_eta` then finds them apart.
  unfold State.withdraw
  dsimp only
  repeat' split
  all_goals simp [-State.finalReceipt_pending]

@[simp] theorem State.abandonOpens_localMem (s : State) (f : Nat) : (s.abandonOpens f).localMem = s.localMem := by simp [State.abandonOpens]
@[simp] theorem State.refreshWatch_localMem (s : State) : s.refreshWatch.localMem = s.localMem := by simp [State.refreshWatch]
/-! ## The host link -/

@[simp] theorem State.setLink_localMem (s : State) (speed width : Nat) (flit : Bool) : (s.setLink speed width flit).localMem = s.localMem := by
  simp [State.setLink]
@[simp] theorem execLinkUp_localMem (speed width : Nat) (flit tags10 : Bool) (s : State) :
    memOf (execLinkUp speed width flit tags10 s) = some s.localMem := by simp [execLinkUp]
@[simp] theorem execLinkRetrainHigher_localMem (speed width : Nat) (s : State) :
    memOf (execLinkRetrainHigher speed width s) = some s.localMem := by simp [execLinkRetrainHigher]
@[simp] theorem State.restore_localMem (s : State) (rs : List RegName) (i : Nat) : (s.restore rs i).localMem = s.localMem := by
  simp [State.restore]
@[simp] theorem State.closeStall_localMem (s : State) (k : Nat) : (s.closeStall k).localMem = s.localMem := by simp [State.closeStall]
@[simp] theorem State.setPrivFull_localMem (s : State) (fn k : Nat) (full : Bool) : (s.setPrivFull fn k full).localMem = s.localMem := by
  simp [State.setPrivFull]
@[simp] theorem State.resetConfig_localMem (s : State) (f : Nat) : (s.resetConfig f).localMem = s.localMem := by simp [State.resetConfig]
@[simp] theorem State.endDisable_localMem (s : State) (f : Nat) : (s.endDisable f).localMem = s.localMem := by simp [State.endDisable]
@[simp] theorem execFlrDone_localMem (f : Nat) (s : State) : memOf (execFlrDone f s) = some s.localMem := by simp [execFlrDone]
@[simp] theorem State.issueMsix_localMem (s : State) (f v : Nat) : (s.issueMsix f v).localMem = s.localMem := by simp [State.issueMsix]
@[simp] theorem State.modVec_localMem (s : State) (f v : Nat) (g : MsixVec → MsixVec) : (s.modVec f v g).localMem = s.localMem := by
  simp [State.modVec]

@[simp] theorem execMsixTrigger_localMem (s : State) : memOf (execMsixTrigger s) = some s.localMem := by
  unfold execMsixTrigger
  split <;> simp

@[simp] theorem execMsixUnmask_localMem (f v : Nat) (s : State) : memOf (execMsixUnmask f v s) = some s.localMem := by
  simp [execMsixUnmask]

/-! ## Stalls and rings -/

@[simp] theorem State.writeState_localMem (s : State) (k : Nat) (st : StallState) : (s.writeState k st).localMem = s.localMem := by
  simp [State.writeState]
@[simp] theorem State.ctlReject_localMem (s : State) (f result : Nat) : (s.ctlReject f result).localMem = s.localMem := by
  simp [State.ctlReject]
@[simp] theorem execStallOpen_localMem (f k : Nat) (s : State) : memOf (execStallOpen f k s) = some s.localMem := by simp [execStallOpen]
@[simp] theorem execStallOpenComplete_localMem (k : Nat) (desc : Bytes) (doorbell : Nat) (s : State) :
    memOf (execStallOpenComplete k desc doorbell s) = some s.localMem := by simp [execStallOpenComplete]
@[simp] theorem execStallClose_localMem (f k : Nat) (s : State) : memOf (execStallClose f k s) = some s.localMem := by
  simp [execStallClose]
@[simp] theorem execStallClosed_localMem (k : Nat) (s : State) : memOf (execStallClosed k s) = some s.localMem := by
  simp [execStallClosed]
@[simp] theorem execStallWake_localMem (f k : Nat) (s : State) : memOf (execStallWake f k s) = some s.localMem := by simp [execStallWake]
@[simp] theorem execDoorbellPoll_localMem (f line : Nat) (s : State) : memOf (execDoorbellPoll f line s) = some s.localMem := by
  simp [execDoorbellPoll]
@[simp] theorem State.haltStall_localMem (s : State) (k reason : Nat) : (s.haltStall k reason).localMem = s.localMem := by
  simp [State.haltStall]
@[simp] theorem execDoorbellReadDone_localMem (k word : Nat) (s : State) : memOf (execDoorbellReadDone k word s) = some s.localMem := by
  simp [execDoorbellReadDone]
@[simp] theorem execStallSleep_localMem (k : Nat) (s : State) : memOf (execStallSleep k s) = some s.localMem := by simp [execStallSleep]
@[simp] theorem State.doorbellFailed_localMem (s : State) (k : Nat) : (s.doorbellFailed k).localMem = s.localMem := by
  simp [State.doorbellFailed]
@[simp] theorem execOrderFetch_localMem (k : Nat) (s : State) : memOf (execOrderFetch k s) = some s.localMem := by simp [execOrderFetch]

@[simp] theorem execFetchAllowanceTick_localMem (k : Option Nat) (s : State) : memOf (execFetchAllowanceTick k s) = some s.localMem := by
  unfold execFetchAllowanceTick
  split <;> simp

@[simp] theorem State.joinEngine_localMem (s : State) (k : Nat) : (s.joinEngine k).localMem = s.localMem := by simp [State.joinEngine]
@[simp] theorem State.routed_localMem (s : State) (k : Nat) (w : Work) : (s.routed k w).localMem = s.localMem := by simp [State.routed]
@[simp] theorem State.route_localMem (s : State) (k : Nat) (w : Work) : (s.route k w).localMem = s.localMem := by simp [State.route]
@[simp] theorem State.permit_localMem (s : State) (k : Nat) (w : Work) : (s.permit k w).localMem = s.localMem := by simp [State.permit]

@[simp] theorem execOrderReceived_localMem (k : Nat) (bytes : Bytes) (s : State) :
    memOf (execOrderReceived k bytes s) = some s.localMem := by
  unfold execOrderReceived
  split <;> simp

@[simp] theorem execFenceRelease_localMem (k : Nat) (s : State) : memOf (execFenceRelease k s) = some s.localMem := by
  unfold execFenceRelease
  split <;> simp

@[simp] theorem State.issueReceipt_localMem (s : State) (k : Nat) (w : Work) (r : RaisedReceipt) :
    (s.issueReceipt k w r).localMem = s.localMem := by simp [State.issueReceipt]
@[simp] theorem State.countEnded_localMem (s : State) (f status : Nat) : (s.countEnded f status).localMem = s.localMem := by
  simp [State.countEnded]

@[simp] theorem execReceiptWrite_localMem (s : State) : memOf (execReceiptWrite s) = some s.localMem := by
  unfold execReceiptWrite
  dsimp only
  repeat' split
  all_goals simp

@[simp] theorem State.orderReadFailed_localMem (s : State) (k : Nat) : (s.orderReadFailed k).localMem = s.localMem := by
  unfold State.orderReadFailed
  split <;> simp

@[simp] theorem State.reportRead_localMem (s : State) (e : ReadFailure) (f : Nat) : (s.reportRead e f).localMem = s.localMem := by
  unfold State.reportRead
  repeat' split
  all_goals simp

/-! ## Orders -/

@[simp] theorem State.onWork_localMem (s : State) (k op : Nat) (f : Work → State) (h : ∀ w, (f w).localMem = s.localMem) :
    (s.onWork k op f).localMem = s.localMem :=
  s.onWork_keep (·.localMem = s.localMem) k op f rfl fun w _ _ => h w

@[simp] theorem State.offer_localMem (s : State) (k : Nat) (w : Work) : (s.offer k w).localMem = s.localMem := by simp [State.offer]

@[simp] theorem State.tollOrder_localMem (s : State) (k op : Nat) (go : Work → State)
    (h : ∀ w, (go w).localMem = s.localMem) : (s.tollOrder k op go).localMem = s.localMem := by
  simp [State.tollOrder, h]

@[simp] theorem execOrderNop_localMem (k : Nat) (s : State) : memOf (execOrderNop k s) = some s.localMem := by simp [execOrderNop]
@[simp] theorem execOrderBurst_localMem (k : Nat) (s : State) : memOf (execOrderBurst k s) = some s.localMem := by simp [execOrderBurst]
@[simp] theorem State.unpoison_localMem (s : State) (a n : Nat) : (s.unpoison a n).localMem = s.localMem := by simp [State.unpoison]
@[simp] theorem State.eccAddr_localMem (s : State) (line : Nat) : (s.eccAddr line).localMem = s.localMem := by simp [State.eccAddr]
@[simp] theorem State.eccDetect_localMem (s : State) (a n : Nat) (ks : List Nat) : (s.eccDetect a n ks).localMem = s.localMem := by
  simp [State.eccDetect]
@[simp] theorem execFillComplete_localMem (k : Nat) (s : State) : memOf (execFillComplete k s) = some s.localMem := by
  unfold execFillComplete
  split <;> simp

@[simp] theorem execCaptureRead_localMem (k : Nat) (s : State) : memOf (execCaptureRead k s) = some s.localMem := by
  simp [execCaptureRead]

@[simp] theorem execLastDataWriteIssued_localMem (k : Nat) (s : State) : memOf (execLastDataWriteIssued k s) = some s.localMem := by
  unfold execLastDataWriteIssued
  split <;> simp

@[simp] theorem execTimingLoad_localMem (k : Nat) (s : State) : memOf (execTimingLoad k s) = some s.localMem := by simp [execTimingLoad]
@[simp] theorem State.stageRecord_localMem (s : State) (c t : Nat) (img : Bytes) (off : Nat) :
    (s.stageRecord c t img off).localMem = s.localMem := by simp [State.stageRecord]
@[simp] theorem State.timingImage_localMem (s : State) (k : Nat) (w : Work) (img : Bytes) : (s.timingImage k w img).localMem = s.localMem := by
  simp [State.timingImage]
@[simp] theorem State.setFrames_localMem (s : State) (port : Nat) (q : List LaunchFrame) : (s.setFrames port q).localMem = s.localMem := by
  simp [State.setFrames]
@[simp] theorem execFrameLaunch_localMem (k : Nat) (s : State) : memOf (execFrameLaunch k s) = some s.localMem := by
  simp [execFrameLaunch]
@[simp] theorem State.queueFrame_localMem (s : State) (k : Nat) (w : Work) (frame : Bytes) :
    (s.queueFrame k w frame).localMem = s.localMem := by simp [State.queueFrame]
@[simp] theorem State.blockArrived_localMem (s : State) (k : Nat) (w : Work) : (s.blockArrived k w).localMem = s.localMem := by
  simp [State.blockArrived]

@[simp] theorem execHostReadCompletion_localMem (k : Nat) (data meas parts : Bytes) (s : State) :
    memOf (execHostReadCompletion k data meas parts s) = some s.localMem := by
  unfold execHostReadCompletion
  split <;> simp

@[simp] theorem execOrderFence_localMem (k : Nat) (s : State) : memOf (execOrderFence k s) = some s.localMem := by simp [execOrderFence]
@[simp] theorem State.disableBusy_localMem (s : State) (f : Nat) : (s.disableBusy f).localMem = s.localMem := by simp [State.disableBusy]
/-! ## Mailboxes -/

@[simp] theorem State.bindViolation_localMem (s : State) (a : Agent) : (s.bindViolation a).localMem = s.localMem := by
  cases a <;> simp [State.bindViolation]
@[simp] theorem State.answer_localMem (s : State) (ws : List Word) : (s.answer ws).localMem = s.localMem := by simp [State.answer]
@[simp] theorem State.answerErr_localMem (s : State) (e : ReadStatus) : (s.answerErr e).localMem = s.localMem := by simp [State.answerErr]
@[simp] theorem execMbxTxbufWrite_localMem (a : Agent) (n w : Nat) (v : Word) (s : State) :
    memOf (execMbxTxbufWrite a n w v s) = some s.localMem := by simp [execMbxTxbufWrite]
@[simp] theorem State.commitMessage_localMem (s : State) (n : Nat) : (s.commitMessage n).localMem = s.localMem := by simp [State.commitMessage]
@[simp] theorem execMbxSharedSend_localMem (a : Agent) (n : Nat) (s : State) : memOf (execMbxSharedSend a n s) = some s.localMem := by
  simp [execMbxSharedSend]
@[simp] theorem execMbxRxbufRead_localMem (a : Agent) (n w : Nat) (s : State) : memOf (execMbxRxbufRead a n w s) = some s.localMem := by
  simp [execMbxRxbufRead]
@[simp] theorem execMbxPortSelect_localMem (fn p k : Nat) (s : State) : memOf (execMbxPortSelect fn p k s) = some s.localMem := by
  simp [execMbxPortSelect]
@[simp] theorem State.takePrivate_localMem (s : State) (fn : Nat) (port : MbxPort) : (s.takePrivate fn port).localMem = s.localMem := by
  simp [State.takePrivate]
@[simp] theorem execMbxPortDataRead_localMem (fn p w : Nat) (s : State) : memOf (execMbxPortDataRead fn p w s) = some s.localMem := by
  simp [execMbxPortDataRead]

@[simp] theorem execEventPresent_localMem (s : State) : memOf (execEventPresent s) = some s.localMem := by
  unfold execEventPresent
  split <;> simp

@[simp] theorem execRouteWrite_localMem (n : Nat) (v : Word) (s : State) : memOf (execRouteWrite n v s) = some s.localMem := by
  simp [execRouteWrite]

/-! ## The Ledger: what neither starts nor ends a write -/

@[simp] theorem State.refreshLedger_localMem (s : State) : s.refreshLedger.localMem = s.localMem := by simp [State.refreshLedger]
@[simp] theorem State.ledgerLose_localMem (s : State) (n : Nat) : (s.ledgerLose n).localMem = s.localMem := by simp [State.ledgerLose]
@[simp] theorem State.unrecorded_localMem (s : State) : s.unrecorded.localMem = s.localMem := by simp [State.unrecorded]
@[simp] theorem execVkeepWarning_localMem (s : State) : memOf (execVkeepWarning s) = some s.localMem := by simp [execVkeepWarning]

@[simp] theorem State.ledgerWords_localMem (s : State) (i : Nat) : (s.ledgerWords i).1.localMem = s.localMem := by
  unfold State.ledgerWords
  dsimp only
  repeat' split
  all_goals simp

@[simp] theorem execLedgerRead_localMem (s : State) : memOf (execLedgerRead s) = some s.localMem := by simp [execLedgerRead]

/-! ## Pin channels -/

@[simp] theorem State.pmuConflict_localMem (s : State) (c mode : Nat) : (s.pmuConflict c mode).localMem = s.localMem := by
  simp [State.pmuConflict]
@[simp] theorem State.applyCommit_localMem (s : State) (c : Nat) : (s.applyCommit c).localMem = s.localMem := by simp [State.applyCommit]
@[simp] theorem State.rejectCommit_localMem (s : State) (c result : Nat) : (s.rejectCommit c result).localMem = s.localMem := by
  simp [State.rejectCommit]
@[simp] theorem execLevelCommit_localMem (c : Nat) (s : State) : memOf (execLevelCommit c s) = some s.localMem := by
  simp [execLevelCommit]
@[simp] theorem State.startLine_localMem (s : State) (c : Nat) (frm : List Rat) : (s.startLine c frm).localMem = s.localMem := by
  simp [State.startLine]
@[simp] theorem State.startLeg_localMem (s : State) (c : Nat) (frm : List Rat) : (s.startLeg c frm).localMem = s.localMem := by
  simp [State.startLeg]
@[simp] theorem execRampStart_localMem (c : Nat) (s : State) : memOf (execRampStart c s) = some s.localMem := by simp [execRampStart]
@[simp] theorem execRangeSwitchDone_localMem (c : Nat) (s : State) : memOf (execRangeSwitchDone c s) = some s.localMem := by
  simp [execRangeSwitchDone]
@[simp] theorem execRampEnd_localMem (c : Nat) (s : State) : memOf (execRampEnd c s) = some s.localMem := by simp [execRampEnd]
@[simp] theorem State.settledFor_localMem (s : State) (c : Nat) : (s.settledFor c).localMem = s.localMem := by simp [State.settledFor]
@[simp] theorem execRampDone_localMem (c : Nat) (s : State) : memOf (execRampDone c s) = some s.localMem := by simp [execRampDone]
@[simp] theorem State.writeLevels_localMem (s : State) (w : Work) : (s.writeLevels w).localMem = s.localMem := by simp [State.writeLevels]

@[simp] theorem State.levelSet_localMem (s : State) (k : Nat) (w : Work) : (s.levelSet k w).localMem = s.localMem := by
  unfold State.levelSet
  dsimp only
  split <;> simp

@[simp] theorem execLevelSet_localMem (k : Nat) (s : State) : memOf (execLevelSet k s) = some s.localMem := by simp [execLevelSet]
@[simp] theorem execChannelEnableWrite_localMem (c : Nat) (v : Word) (s : State) :
    memOf (execChannelEnableWrite c v s) = some s.localMem := by simp [execChannelEnableWrite]

@[simp] theorem State.channelSafe_localMem (s : State) (c : Nat) : (s.channelSafe c).localMem = s.localMem := by
  unfold State.channelSafe
  dsimp only
  split <;> simp

@[simp] theorem State.stampChange_localMem (s : State) (c a b : Nat) (t : Int) : (s.stampChange c a b t).localMem = s.localMem := by
  simp [State.stampChange]
@[simp] theorem State.srcEdge_localMem (s : State) (source : Nat) (rising : Bool) (t : Tu) :
    (s.srcEdge source rising t).localMem = s.localMem := by simp [State.srcEdge]
@[simp] theorem State.srcEdges2_localMem (s : State) (c a b : Nat) (t : Tu) : (s.srcEdges2 c a b t).localMem = s.localMem := by
  simp [State.srcEdges2]
@[simp] theorem State.disagreement_localMem (s : State) (c : Nat) : (s.disagreement c).localMem = s.localMem := by simp [State.disagreement]
@[simp] theorem State.reach_localMem (s : State) (c o : Nat) : (s.reach c o).localMem = s.localMem := by simp [State.reach]
@[simp] theorem execComparatorOutcomeChange_localMem (c o : Nat) (s : State) :
    memOf (execComparatorOutcomeChange c o s) = some s.localMem := by simp [execComparatorOutcomeChange]
@[simp] theorem execComparatorDisagreement_localMem (c : Nat) (s : State) : memOf (execComparatorDisagreement c s) = some s.localMem := by
  simp [execComparatorDisagreement]
@[simp] theorem State.overstress_localMem (s : State) (f : Fld) (c source : Nat) : (s.overstress f c source).localMem = s.localMem := by
  simp [State.overstress]
@[simp] theorem execSwmTrip_localMem (c : Nat) (s : State) : memOf (execSwmTrip c s) = some s.localMem := by simp [execSwmTrip]
@[simp] theorem execDrvStuck_localMem (c : Nat) (s : State) : memOf (execDrvStuck c s) = some s.localMem := by simp [execDrvStuck]
@[simp] theorem execPmuOver_localMem (c : Nat) (s : State) : memOf (execPmuOver c s) = some s.localMem := by simp [execPmuOver]
@[simp] theorem execPmuClamp_localMem (c : Nat) (s : State) : memOf (execPmuClamp c s) = some s.localMem := by simp [execPmuClamp]

/-! ## Faults -/

@[simp] theorem State.enterSafe_localMem (s : State) : s.enterSafe.localMem = s.localMem := by simp [State.enterSafe]
@[simp] theorem State.latchFirst_localMem (s : State) (d : Detection) : (s.latchFirst d).localMem = s.localMem := by simp [State.latchFirst]
@[simp] theorem State.relatch_localMem (s : State) (d : Detection) : (s.relatch d).localMem = s.localMem := by simp [State.relatch]
@[simp] theorem State.collect_localMem (s : State) (d : Detection) : (s.collect d).localMem = s.localMem := by simp [State.collect]

@[simp] theorem execHandlingEnd_localMem (s : State) : memOf (execHandlingEnd s) = some s.localMem := by simp [execHandlingEnd]

@[simp] theorem execSafeStateConfirm_localMem (s : State) : memOf (execSafeStateConfirm s) = some s.localMem := by
  unfold execSafeStateConfirm
  split <;> simp

@[simp] theorem execEscalationTimeout_localMem (s : State) : memOf (execEscalationTimeout s) = some s.localMem := by
  unfold execEscalationTimeout
  split <;> simp

@[simp] theorem State.refreshDutSafe_localMem (s : State) : s.refreshDutSafe.localMem = s.localMem := by simp [State.refreshDutSafe]
@[simp] theorem State.clearFault_localMem (s : State) : s.clearFault.localMem = s.localMem := by simp [State.clearFault]
@[simp] theorem execFltClear_localMem (asserting : Bool) (s : State) : memOf (execFltClear asserting s) = some s.localMem := by
  simp [execFltClear]
@[simp] theorem execFltMirrorAck_localMem (s : State) : memOf (execFltMirrorAck s) = some s.localMem := by simp [execFltMirrorAck]
@[simp] theorem execDisableDone_localMem (f : Nat) (s : State) : memOf (execDisableDone f s) = some s.localMem := by
  simp [execDisableDone]
@[simp] theorem State.setHold_localMem (s : State) (b : Bool) : (s.setHold b).localMem = s.localMem := by simp [State.setHold]
@[simp] theorem execSupplyWarning_localMem (r : Nat) (s : State) : memOf (execSupplyWarning r s) = some s.localMem := by
  simp [execSupplyWarning]
@[simp] theorem execSupplyWarningEnd_localMem (r : Nat) (lowest : Int) (s : State) :
    memOf (execSupplyWarningEnd r lowest s) = some s.localMem := by simp [execSupplyWarningEnd]

@[simp] theorem execSupplyHoldEnd_localMem (s : State) : memOf (execSupplyHoldEnd s) = some s.localMem := by
  unfold execSupplyHoldEnd
  split <;> simp

/-! ## Timing commits -/

@[simp] theorem State.requestTiming_localMem (s : State) (n : Nat) (w : Option Nat) : (s.requestTiming n w).1.localMem = s.localMem := by
  unfold State.requestTiming
  split <;> simp [apply_ite Prod.fst]

@[simp] theorem execTsbankCommit_localMem (n : Nat) (s : State) : memOf (execTsbankCommit n s) = some s.localMem := by
  simp [execTsbankCommit]
@[simp] theorem execTsbankCommitFree_localMem (s : State) : memOf (execTsbankCommitFree s) = some s.localMem := by
  simp [execTsbankCommitFree]
@[simp] theorem execTimingCommit_localMem (k : Nat) (s : State) : memOf (execTimingCommit k s) = some s.localMem := by
  simp [execTimingCommit]
@[simp] theorem State.copyBank_localMem (s : State) (cs : List Nat) : (s.copyBank cs).localMem = s.localMem := by simp [State.copyBank]

@[simp] theorem execTimingCommitEffect_localMem (n : Nat) (s : State) : memOf (execTimingCommitEffect n s) = some s.localMem := by
  unfold execTimingCommitEffect
  repeat' split
  all_goals simp

@[simp] theorem execTsbankStageWrite_localMem (c t w : Nat) (v : Word) (s : State) :
    memOf (execTsbankStageWrite c t w v s) = some s.localMem := by
  unfold execTsbankStageWrite
  repeat' split
  all_goals simp

@[simp] theorem execDriftDetection_localMem (stack : Bool) (i : Nat) (s : State) :
    memOf (execDriftDetection stack i s) = some s.localMem := by simp [execDriftDetection]

/-! ## Sequencers -/

@[simp] theorem execOwnershipCommit_localMem (n : Nat) (s : State) : memOf (execOwnershipCommit n s) = some s.localMem := by
  simp [execOwnershipCommit]

@[simp] theorem State.onSeq_localMem (s : State) (n : Nat) (f : Nat → Work → Seq → State) (h : ∀ k w q, (f k w q).localMem = s.localMem) :
    (s.onSeq n f).localMem = s.localMem :=
  s.onSeq_keep (·.localMem = s.localMem) n f rfl fun k w _ _ => h k w _

@[simp] theorem State.setLane_localMem (s : State) (k : Nat) (v : Lane) : (s.setLane k v).localMem = s.localMem := by simp [State.setLane]
@[simp] theorem State.laneEvent_localMem (s : State) (k e : Nat) : (s.laneEvent k e).localMem = s.localMem := by simp [State.laneEvent]
@[simp] theorem State.endCompare_localMem (s : State) (k result : Nat) (checked : Bool) :
    (s.endCompare k result checked).localMem = s.localMem := by simp [State.endCompare]
@[simp] theorem State.armCompares_localMem (s : State) (w : Work) : (s.armCompares w).localMem = s.localMem := by simp [State.armCompares]

@[simp] theorem State.endCompares_localMem (s : State) (w : Work) (void : Bool) : (s.endCompares w void).localMem = s.localMem := by
  refine foldl_localMem _ _ _ fun t x => ?_
  dsimp only
  repeat' split
  all_goals simp

@[simp] theorem State.parkFloat_localMem (s : State) (n : Nat) : (s.parkFloat n).localMem = s.localMem := by simp [State.parkFloat]
@[simp] theorem State.refreshCap_localMem (s : State) (n : Nat) (w : Work) : (s.refreshCap n w).localMem = s.localMem := by
  simp [State.refreshCap]

@[simp] theorem State.endSeq_localMem (s : State) (n k : Nat) (stage : Stage) (float : Bool) :
    (s.endSeq n k stage float).localMem = s.localMem := by
  -- The marks that wait are raised by a fold whose step is a match, which the discharger splits.
  unfold State.endSeq
  dsimp only
  split <;> split <;> split <;> simp (disch := intros; split <;> simp)

@[simp] theorem State.stopBurst_localMem (s : State) (n k cause : Nat) : (s.stopBurst n k cause).localMem = s.localMem := by
  simp [State.stopBurst]
@[simp] theorem State.readFailed_localMem (s : State) (n k : Nat) (e : Nat × Nat) : (s.readFailed n k e).localMem = s.localMem := by
  simp [State.readFailed]
@[simp] theorem State.finishBurst_localMem (s : State) (n k : Nat) (w : Work) (float : Bool) :
    (s.finishBurst n k w float).localMem = s.localMem := by simp [State.finishBurst]

@[simp] theorem State.instr_localMem (s : State) (n op : Nat) (body : State → Nat → Work → Seq → Ins → State)
    (h : ∀ k w q i, (body s k w q i).localMem = s.localMem) : (s.instr n op body).localMem = s.localMem := by
  refine s.onSeq_localMem n _ fun k w q => ?_
  dsimp only
  repeat' split
  all_goals simp [h]

@[simp] theorem execSeqVec_localMem (n : Nat) (s : State) : memOf (execSeqVec n s) = some s.localMem := by simp [execSeqVec]
@[simp] theorem execSeqRepeat_localMem (n : Nat) (s : State) : memOf (execSeqRepeat n s) = some s.localMem := by simp [execSeqRepeat]
@[simp] theorem execSeqShift_localMem (n : Nat) (s : State) : memOf (execSeqShift n s) = some s.localMem := by simp [execSeqShift]
@[simp] theorem execSeqLoop_localMem (n : Nat) (s : State) : memOf (execSeqLoop n s) = some s.localMem := by simp [execSeqLoop]
@[simp] theorem execEndloop_localMem (n : Nat) (s : State) : memOf (execEndloop n s) = some s.localMem := by simp [execEndloop]
@[simp] theorem execSeqJump_localMem (n : Nat) (s : State) : memOf (execSeqJump n s) = some s.localMem := by simp [execSeqJump]
@[simp] theorem State.fillFailed_localMem (s : State) (n k : Nat) : (s.fillFailed n k).localMem = s.localMem := by simp [State.fillFailed]

@[simp] theorem execSeqReturn_localMem (n : Nat) (s : State) : memOf (execSeqReturn n s) = some s.localMem := by
  refine congrArg some (s.instr_localMem _ _ _ fun k w q i => ?_)
  dsimp only
  repeat' split
  all_goals simp

@[simp] theorem State.refreshSites_localMem (s : State) (n : Nat) : (s.refreshSites n).localMem = s.localMem := by simp [State.refreshSites]

@[simp] theorem execBrfail_localMem (n : Nat) (s : State) : memOf (execBrfail n s) = some s.localMem := by
  unfold execBrfail
  dsimp only
  split <;> simp

@[simp] theorem State.pastDecision_localMem (s : State) (q : Seq) : (s.pastDecision q).localMem = s.localMem := by simp [State.pastDecision]
@[simp] theorem execBrevt_localMem (n : Nat) (s : State) : memOf (execBrevt n s) = some s.localMem := by simp [execBrevt]

@[simp] theorem execSeqMatch_localMem (n : Nat) (s : State) : memOf (execSeqMatch n s) = some s.localMem := by
  unfold execSeqMatch
  dsimp only
  split <;> simp

@[simp] theorem execMatchTimeout_localMem (n : Nat) (s : State) : memOf (execMatchTimeout n s) = some s.localMem := by
  unfold execMatchTimeout
  dsimp only
  split <;> simp

@[simp] theorem execSetts_localMem (n : Nat) (s : State) : memOf (execSetts n s) = some s.localMem := by simp [execSetts]
@[simp] theorem execSeqDir_localMem (n : Nat) (s : State) : memOf (execSeqDir n s) = some s.localMem := by simp [execSeqDir]
@[simp] theorem execEdgecmp_localMem (n : Nat) (s : State) : memOf (execEdgecmp n s) = some s.localMem := by simp [execEdgecmp]
@[simp] theorem execSeqMark_localMem (n : Nat) (s : State) : memOf (execSeqMark n s) = some s.localMem := by simp [execSeqMark]
@[simp] theorem execCaptureOn_localMem (n : Nat) (s : State) : memOf (execCaptureOn n s) = some s.localMem := by simp [execCaptureOn]
@[simp] theorem execCaptureOff_localMem (n : Nat) (s : State) : memOf (execCaptureOff n s) = some s.localMem := by simp [execCaptureOff]
@[simp] theorem execSeqEnd_localMem (n : Nat) (s : State) : memOf (execSeqEnd n s) = some s.localMem := by simp [execSeqEnd]
@[simp] theorem State.enterHold_localMem (s : State) (n : Nat) (q : Seq) (line cond timeout : Nat) (jump : Bool) (target : Nat) :
    (s.enterHold n q line cond timeout jump target).localMem = s.localMem := by simp [State.enterHold]
@[simp] theorem execSeqHold_localMem (n : Nat) (s : State) : memOf (execSeqHold n s) = some s.localMem := by simp [execSeqHold]
@[simp] theorem State.crierHolds_localMem (s : State) (line : Nat) (level : Bool) (t : Tu) :
    (s.crierHolds line level t).localMem = s.localMem := by simp [State.crierHolds]
@[simp] theorem State.leaveHold_localMem (s : State) (n : Nat) (q : Seq) (start : Tu) : (s.leaveHold n q start).localMem = s.localMem := by
  simp [State.leaveHold]

@[simp] theorem execHoldRelease_localMem (n : Nat) (s : State) : memOf (execHoldRelease n s) = some s.localMem := by
  refine congrArg some (s.onSeq_localMem _ _ fun k w q => ?_)
  split <;> simp

@[simp] theorem execHoldTimeout_localMem (n : Nat) (s : State) : memOf (execHoldTimeout n s) = some s.localMem := by
  refine congrArg some (s.onSeq_localMem _ _ fun k w q => ?_)
  repeat' split
  all_goals simp

@[simp] theorem execHoldDurationBound_localMem (n : Nat) (s : State) : memOf (execHoldDurationBound n s) = some s.localMem := by
  refine congrArg some (s.onSeq_localMem _ _ fun k w q => ?_)
  split <;> simp

@[simp] theorem State.markPc_localMem (s : State) (n : Nat) (q : Seq) : (s.markPc n q).localMem = s.localMem := by simp [State.markPc]
@[simp] theorem State.stopSession_localMem (s : State) (n k : Nat) (w : Work) : (s.stopSession n k w).localMem = s.localMem := by
  simp [State.stopSession]

@[simp] theorem execInstructionBoundary_localMem (n : Nat) (s : State) : memOf (execInstructionBoundary n s) = some s.localMem := by
  refine congrArg some (s.onSeq_localMem _ _ fun k w q => ?_)
  dsimp only
  repeat' split
  all_goals simp

@[simp] theorem execFaultNoticeArrival_localMem (n : Nat) (s : State) : memOf (execFaultNoticeArrival n s) = some s.localMem := by
  refine congrArg some (s.onSeq_localMem _ _ fun k w q => ?_)
  split <;> simp

@[simp] theorem State.onSession_localMem (s : State) (n : Nat) (f : Nat → Work → Seq → State)
    (h : ∀ k w q, (f k w q).localMem = s.localMem) : (s.onSession n f).localMem = s.localMem := by
  unfold State.onSession
  split <;> simp [h]

@[simp] theorem execSessionPause_localMem (n : Nat) (s : State) : memOf (execSessionPause n s) = some s.localMem := by
  simp [execSessionPause]
@[simp] theorem execSessionResume_localMem (n : Nat) (s : State) : memOf (execSessionResume n s) = some s.localMem := by
  simp [execSessionResume]
@[simp] theorem execSessionStop_localMem (n : Nat) (s : State) : memOf (execSessionStop n s) = some s.localMem := by
  simp [execSessionStop]
@[simp] theorem execRedirectArm_localMem (n : Nat) (v : Word) (s : State) : memOf (execRedirectArm n v s) = some s.localMem := by
  simp [execRedirectArm]
@[simp] theorem execPoolLockWrite_localMem (s : State) : memOf (execPoolLockWrite s) = some s.localMem := by simp [execPoolLockWrite]

/-! ## Protocol lanes -/

@[simp] theorem State.laneDrop_localMem (s : State) (k state : Nat) : (s.laneDrop k state).localMem = s.localMem := by simp [State.laneDrop]
@[simp] theorem State.lockLost_localMem (s : State) (k : Nat) : (s.lockLost k).localMem = s.localMem := by simp [State.lockLost]

@[simp] theorem State.laneModeWrite_localMem (s : State) (k : Nat) (v : Word) : (s.laneModeWrite k v).localMem = s.localMem := by
  unfold State.laneModeWrite
  dsimp only
  repeat' split
  all_goals simp

@[simp] theorem execLaneModeEnable_localMem (k : Nat) (v : Word) (s : State) : memOf (execLaneModeEnable k v s) = some s.localMem := by
  simp [execLaneModeEnable]
@[simp] theorem execLaneModeOff_localMem (k : Nat) (s : State) : memOf (execLaneModeOff k s) = some s.localMem := by
  simp [execLaneModeOff]
@[simp] theorem State.enterHunt_localMem (s : State) (k next : Nat) : (s.enterHunt k next).localMem = s.localMem := by simp [State.enterHunt]
@[simp] theorem execCdrLock_localMem (k : Nat) (s : State) : memOf (execCdrLock k s) = some s.localMem := by simp [execCdrLock]
@[simp] theorem execCdrLockLoss_localMem (k : Nat) (s : State) : memOf (execCdrLockLoss k s) = some s.localMem := by
  simp [execCdrLockLoss]
@[simp] theorem execLosAssert_localMem (k : Nat) (s : State) : memOf (execLosAssert k s) = some s.localMem := by simp [execLosAssert]
@[simp] theorem execLosClear_localMem (k : Nat) (s : State) : memOf (execLosClear k s) = some s.localMem := by simp [execLosClear]

@[simp] theorem State.readAhead_localMem (s : State) (k : Nat) : (s.readAhead k).localMem = s.localMem := by
  unfold State.readAhead
  split <;> simp

@[simp] theorem execLaneHeader_localMem (k h : Nat) (s : State) : memOf (execLaneHeader k h s) = some s.localMem := by
  simp [execLaneHeader]
@[simp] theorem execHuntSlow_localMem (k : Nat) (s : State) : memOf (execHuntSlow k s) = some s.localMem := by simp [execHuntSlow]
@[simp] theorem State.lanesDiffer_localMem (s : State) (k work : Nat) : (s.lanesDiffer k work).localMem = s.localMem := by
  simp [State.lanesDiffer]
@[simp] theorem State.judgeBlock_localMem (s : State) (k h payload work : Nat) (differ : Bool) :
    (s.judgeBlock k h payload work differ).localMem = s.localMem := by simp [State.judgeBlock]
@[simp] theorem execLaneBlock_localMem (k h payload : Nat) (differ : Bool) (s : State) :
    memOf (execLaneBlock k h payload differ s) = some s.localMem := by simp [execLaneBlock]
@[simp] theorem State.startCompares_localMem (s : State) (n : Nat) : (s.startCompares n).localMem = s.localMem := by simp [State.startCompares]
@[simp] theorem State.readAheadAll_localMem (s : State) (w : Work) : (s.readAheadAll w).localMem = s.localMem := by simp [State.readAheadAll]
@[simp] theorem State.settleCompares_localMem (s : State) (w : Work) : (s.settleCompares w).localMem = s.localMem := by
  simp [State.settleCompares]
/-! ## Cycles -/

@[simp] theorem State.evalTrigger_localMem (s : State) (n : Nat) (w : Work) (rs : List ChanResult) (failSites : Set256) (start : Tu) (vector
    : Nat) :
    (s.evalTrigger n w rs failSites start vector).1.localMem = s.localMem := by
  simp [State.evalTrigger, apply_ite Prod.fst]

@[simp] theorem State.tapEc_localMem (s : State) (n : Nat) (w : Work) (rs : List ChanResult) (start : Tu) :
    (s.tapEc n w rs start).localMem = s.localMem := by simp [State.tapEc]

@[simp] theorem State.startActs_localMem (s : State) (n : Nat) (w : Work) (start : Tu) (acts : List SeqAct) :
    (s.startActs n w start acts).localMem = s.localMem := by
  refine foldl_localMem _ _ _ fun t x => ?_
  split <;> simp

@[simp] theorem State.outcomes_localMem (s : State) (c o0 : Nat) (cs : List (Nat × Nat)) (s0 : Int) :
    (s.outcomes c o0 cs s0).localMem = s.localMem := by simp [State.outcomes]
@[simp] theorem State.runChan_localMem (s : State) (n : Nat) (w : Work) (start : Tu) (period : Nat) (io : CycleIn) (p : Nat × Nat × TSet) :
    (s.runChan n w start period io p).1.localMem = s.localMem := by simp [State.runChan]

@[simp] theorem State.runChans_localMem (n : Nat) (w : Work) (start : Tu) (period : Nat) (io : CycleIn) (ps : List (Nat × Nat × TSet)) (s :
    State) :
    (s.runChans n w start period io ps).1.localMem = s.localMem := by
  induction ps generalizing s with
  | nil => rfl
  | cons p ps ih => simp [State.runChans, ih]

@[simp] theorem State.quietChans_localMem (s : State) (n : Nat) (start : Tu) (period : Nat) (io : CycleIn) :
    (s.quietChans n start period io).localMem = s.localMem := by simp [State.quietChans]

@[simp] theorem State.startCount_localMem (s : State) (n : Nat) (q : Seq) (period : Nat) :
    (s.startCount n q period).1.localMem = s.localMem := by
  simp [State.startCount]

@[simp] theorem State.checkFailed_localMem (s : State) (n check : Nat) : (s.checkFailed n check).localMem = s.localMem := by
  simp [State.checkFailed]
/-! ## Microcode -/

@[simp] theorem State.lossOfControl_localMem (s : State) (n k : Nat) : (s.lossOfControl n k).localMem = s.localMem := by
  simp [State.lossOfControl]

@[simp] theorem State.micro_localMem (s : State) (n op : Nat) (body : State → Nat → Work → Seq → Uop → State × Option Nat)
    (h : ∀ t k w q u, (body t k w q u).1.localMem = t.localMem) : (s.micro n op body).localMem = s.localMem := by
  refine s.onSeq_localMem n _ fun k w q => ?_
  dsimp only
  repeat' split
  all_goals simp [h]

@[simp] theorem State.microQ_localMem (s : State) (n op : Nat) (f : State → Seq → Uop → Seq) : (s.microQ n op f).localMem = s.localMem := by
  simp [State.microQ]
@[simp] theorem State.microA_localMem (s : State) (n op : Nat) (f : BitVec 64 → BitVec 64 → Uop → BitVec 64) :
    (s.microA n op f).localMem = s.localMem := by simp [State.microA]
@[simp] theorem State.microF_localMem (s : State) (n op : Nat) (f : BitVec 64 → BitVec 64 → Uop → BitVec 64 × Flags) :
    (s.microF n op f).localMem = s.localMem := by simp [State.microF]
@[simp] theorem State.microBr_localMem (s : State) (n op : Nat) (c : State → Seq → Uop → Bool) :
    (s.microBr n op c).localMem = s.localMem := by simp [State.microBr]
@[simp] theorem execUopNop_localMem (n : Nat) (s : State) : memOf (execUopNop n s) = some s.localMem := by simp [execUopNop]
@[simp] theorem execUopMov_localMem (n : Nat) (s : State) : memOf (execUopMov n s) = some s.localMem := by simp [execUopMov]
@[simp] theorem execLdi_localMem (n : Nat) (s : State) : memOf (execLdi n s) = some s.localMem := by simp [execLdi]
@[simp] theorem execLdih_localMem (n : Nat) (s : State) : memOf (execLdih n s) = some s.localMem := by simp [execLdih]
@[simp] theorem execUopAdd_localMem (n : Nat) (s : State) : memOf (execUopAdd n s) = some s.localMem := by simp [execUopAdd]
@[simp] theorem execUopSub_localMem (n : Nat) (s : State) : memOf (execUopSub n s) = some s.localMem := by simp [execUopSub]
@[simp] theorem execAddi_localMem (n : Nat) (s : State) : memOf (execAddi n s) = some s.localMem := by simp [execAddi]
@[simp] theorem execUopAnd_localMem (n : Nat) (s : State) : memOf (execUopAnd n s) = some s.localMem := by simp [execUopAnd]
@[simp] theorem execUopOr_localMem (n : Nat) (s : State) : memOf (execUopOr n s) = some s.localMem := by simp [execUopOr]
@[simp] theorem execUopXor_localMem (n : Nat) (s : State) : memOf (execUopXor n s) = some s.localMem := by simp [execUopXor]
@[simp] theorem execUopShf_localMem (n : Nat) (s : State) : memOf (execUopShf n s) = some s.localMem := by simp [execUopShf]
@[simp] theorem execUopCmp_localMem (n : Nat) (s : State) : memOf (execUopCmp n s) = some s.localMem := by simp [execUopCmp]
@[simp] theorem execCmpi_localMem (n : Nat) (s : State) : memOf (execCmpi n s) = some s.localMem := by simp [execCmpi]
@[simp] theorem execUopField_localMem (n : Nat) (s : State) : memOf (execUopField n s) = some s.localMem := by simp [execUopField]
@[simp] theorem execUopBr_localMem (n : Nat) (s : State) : memOf (execUopBr n s) = some s.localMem := by simp [execUopBr]
@[simp] theorem execBrz_localMem (n : Nat) (s : State) : memOf (execBrz n s) = some s.localMem := by simp [execBrz]
@[simp] theorem execBrnz_localMem (n : Nat) (s : State) : memOf (execBrnz n s) = some s.localMem := by simp [execBrnz]
@[simp] theorem execBrn_localMem (n : Nat) (s : State) : memOf (execBrn n s) = some s.localMem := by simp [execBrn]
@[simp] theorem execBrc_localMem (n : Nat) (s : State) : memOf (execBrc n s) = some s.localMem := by simp [execBrc]
@[simp] theorem execBrb_localMem (n : Nat) (s : State) : memOf (execBrb n s) = some s.localMem := by simp [execBrb]
@[simp] theorem execDisp_localMem (n : Nat) (s : State) : memOf (execDisp n s) = some s.localMem := by simp [execDisp]

@[simp] theorem execDispop_localMem (n : Nat) (s : State) : memOf (execDispop n s) = some s.localMem := by
  refine congrArg some (s.micro_localMem _ _ _ fun t k w q u => ?_)
  dsimp only
  repeat' split
  all_goals simp

@[simp] theorem execUopRun_localMem (n : Nat) (s : State) : memOf (execUopRun n s) = some s.localMem := by
  refine congrArg some (s.micro_localMem _ _ _ fun t k w q u => ?_)
  dsimp only
  repeat' split
  all_goals simp

@[simp] theorem execUopQuiet_localMem (n : Nat) (s : State) : memOf (execUopQuiet n s) = some s.localMem := by
  refine congrArg some (s.micro_localMem _ _ _ fun t k w q u => ?_)
  dsimp only
  repeat' split
  all_goals simp

@[simp] theorem execUopAct_localMem (n : Nat) (s : State) : memOf (execUopAct n s) = some s.localMem := by
  refine congrArg some (s.micro_localMem _ _ _ fun t k w q u => ?_)
  repeat' split
  all_goals simp

@[simp] theorem execWpush_localMem (n : Nat) (s : State) : memOf (execWpush n s) = some s.localMem := by
  refine congrArg some (s.micro_localMem _ _ _ fun t k w q u => ?_)
  repeat' split
  all_goals simp

@[simp] theorem execWpop_localMem (n : Nat) (s : State) : memOf (execWpop n s) = some s.localMem := by simp [execWpop]
@[simp] theorem execUopFill_localMem (n : Nat) (s : State) : memOf (execUopFill n s) = some s.localMem := by
  refine congrArg some (s.micro_localMem _ _ _ fun t k w q u => ?_)
  dsimp only
  repeat' split
  all_goals simp

@[simp] theorem execMemwait_localMem (n : Nat) (s : State) : memOf (execMemwait n s) = some s.localMem := by simp [execMemwait]
@[simp] theorem execFailrd_localMem (n : Nat) (s : State) : memOf (execFailrd n s) = some s.localMem := by simp [execFailrd]
@[simp] theorem execSiteop_localMem (n : Nat) (s : State) : memOf (execSiteop n s) = some s.localMem := by simp [execSiteop]
@[simp] theorem execUopCrier_localMem (n : Nat) (s : State) : memOf (execUopCrier n s) = some s.localMem := by simp [execUopCrier]
@[simp] theorem execUopLatch_localMem (n : Nat) (s : State) : memOf (execUopLatch n s) = some s.localMem := by simp [execUopLatch]

@[simp] theorem execUopTrap_localMem (n : Nat) (s : State) : memOf (execUopTrap n s) = some s.localMem := by
  refine congrArg some (s.micro_localMem _ _ _ fun t k w q u => ?_)
  split <;> simp

@[simp] theorem execTrapret_localMem (n : Nat) (s : State) : memOf (execTrapret n s) = some s.localMem := by
  refine congrArg some (s.micro_localMem _ _ _ fun t k w q u => ?_)
  split <;> simp

@[simp] theorem execVoidb_localMem (n : Nat) (s : State) : memOf (execVoidb n s) = some s.localMem := by simp [execVoidb]
@[simp] theorem execEndb_localMem (n : Nat) (s : State) : memOf (execEndb n s) = some s.localMem := by simp [execEndb]
@[simp] theorem execIllegalUop_localMem (n : Nat) (s : State) : memOf (execIllegalUop n s) = some s.localMem := by simp [execIllegalUop]
@[simp] theorem execEngineWatchdogExpiry_localMem (n : Nat) (s : State) : memOf (execEngineWatchdogExpiry n s) = some s.localMem := by
  simp [execEngineWatchdogExpiry]
/-! ## Halls: shared operations -/

@[simp] theorem State.setGslPort_localMem (s : State) (p : Nat) (v : GslPort) : (s.setGslPort p v).localMem = s.localMem := by
  simp [State.setGslPort]

@[simp] theorem State.enqueueMsg_localMem (s : State) (role : Nat) (m : GslMsg) : (s.enqueueMsg role m).localMem = s.localMem := by
  unfold State.enqueueMsg
  split <;> simp

@[simp] theorem State.sendMsg_localMem (s : State) (mtype dst data arg : Nat) : (s.sendMsg mtype dst data arg).localMem = s.localMem := by
  simp [State.sendMsg]
@[simp] theorem State.setJoint_localMem (s : State) (j : Nat) (v : Joint) : (s.setJoint j v).localMem = s.localMem := by simp [State.setJoint]
@[simp] theorem State.dropJoint_localMem (s : State) (j : Nat) : (s.dropJoint j).localMem = s.localMem := by simp [State.dropJoint]
@[simp] theorem State.sendParts_localMem (s : State) (w : Work) (mtype arg : Nat) : (s.sendParts w mtype arg).localMem = s.localMem := by
  simp [State.sendParts]

@[simp] theorem State.refusePart_localMem (s : State) (k cause : Nat) : (s.refusePart k cause).localMem = s.localMem := by
  unfold State.refusePart
  split <;> simp

/-! ## The Tally -/

@[simp] theorem State.admitWatch_localMem (s : State) (k : Nat) (w : Work) (units : List Nat) :
    (s.admitWatch k w units).localMem = s.localMem := by simp [State.admitWatch]
@[simp] theorem State.produce_localMem (s : State) (k slot : Nat) (r : StampRec) : (s.produce k slot r).localMem = s.localMem := by
  simp [State.produce]

@[simp] theorem State.putSlot_localMem (s : State) (k : Nat) (x : TSlot) : (s.putSlot k x).localMem = s.localMem := by simp [State.putSlot]
@[simp] theorem State.marker_localMem (s : State) (k : Nat) (x : TSlot) (arm : Bool) (t : Tu) :
    (s.marker k x arm t).localMem = s.localMem := by simp [State.marker]
@[simp] theorem State.slotEdge_localMem (s : State) (k : Nat) (x : TSlot) (rising : Bool) (t : Tu) :
    (s.slotEdge k x rising t).localMem = s.localMem := by simp [State.slotEdge]
@[simp] theorem State.unstamp_localMem (s : State) (k slot : Nat) (t : Tu) : (s.unstamp k slot t).localMem = s.localMem := by
  simp [State.unstamp]

@[simp] theorem State.settleSlot_localMem (s : State) (k : Nat) (x : TSlot) (e : SlotTie) : (s.settleSlot k x e).localMem = s.localMem := by
  unfold State.settleSlot
  split <;> simp

@[simp] theorem State.atSlot_localMem (s : State) (k n : Nat) (t : Tu) (f : SlotTie → SlotTie) : (s.atSlot k n t f).localMem = s.localMem := by
  unfold State.atSlot
  split <;> simp

@[simp] theorem State.expireSlots_localMem (s : State) (k : Nat) (t : Tu) : (s.expireSlots k t).localMem = s.localMem := by
  refine foldl_localMem _ _ _ fun t x => ?_
  split <;> simp

@[simp] theorem State.takeEdge_localMem (s : State) (k : Nat) (e : SrcEdge) : (s.takeEdge k e).localMem = s.localMem := by
  simp [State.takeEdge]

@[simp] theorem State.drainEdges_localMem (k : Nat) (t : Tu) (fuel : Nat) (s : State) :
    (State.drainEdges k t fuel s).localMem = s.localMem := by
  induction fuel generalizing s with
  | zero => rfl
  | succ n ih =>
    unfold State.drainEdges
    split <;> simp [ih]

@[simp] theorem State.catchUp_localMem (s : State) (k : Nat) (t : Tu) : (s.catchUp k t).localMem = s.localMem := by simp [State.catchUp]
@[simp] theorem State.catchUpAll_localMem (s : State) (t : Tu) : (s.catchUpAll t).localMem = s.localMem := by simp [State.catchUpAll]
@[simp] theorem State.atSlots_localMem (s : State) (t : Tu) (p : TSlot → Bool) (f : TSlot → SlotTie → SlotTie) :
    (s.atSlots t p f).localMem = s.localMem := by simp [State.atSlots]

@[simp] theorem execSlotEdge_localMem (n : Nat) (rising : Bool) (t : Tu) (s : State) :
    memOf (execSlotEdge n rising t s) = some s.localMem := by
  unfold execSlotEdge
  dsimp only
  repeat' split
  all_goals simp

@[simp] theorem execSlotDisarmTimer_localMem (n : Nat) (s : State) : memOf (execSlotDisarmTimer n s) = some s.localMem := by
  unfold execSlotDisarmTimer
  repeat' split
  all_goals simp

@[simp] theorem State.acceptGate_localMem (s : State) (g : Nat) (rising : Bool) (t : Tu) :
    (s.acceptGate g rising t).localMem = s.localMem := by simp [State.acceptGate]
@[simp] theorem State.gateEvent_localMem (s : State) (g : Nat) (rising : Bool) (t : Tu) : (s.gateEvent g rising t).localMem = s.localMem := by
  simp [State.gateEvent]

@[simp] theorem execTgateTransition_localMem (g : Nat) (level : Bool) (t : Tu) (s : State) :
    memOf (execTgateTransition g level t s) = some s.localMem := by
  unfold execTgateTransition
  dsimp only
  repeat' split
  all_goals simp

@[simp] theorem execGateSettleAccept_localMem (g : Nat) (s : State) : memOf (execGateSettleAccept g s) = some s.localMem := by
  unfold execGateSettleAccept
  dsimp only
  split <;> simp

@[simp] theorem State.armLineEvent_localMem (s : State) (l : Nat) (t : Tu) : (s.armLineEvent l t).localMem = s.localMem := by
  simp [State.armLineEvent]
@[simp] theorem execTallyArm_localMem (k : Nat) (s : State) : memOf (execTallyArm k s) = some s.localMem := by simp [execTallyArm]

@[simp] theorem execTallyDisarm_localMem (k : Nat) (s : State) : memOf (execTallyDisarm k s) = some s.localMem := by
  refine congrArg some (s.onWork_localMem _ _ _ fun w => ?_)
  dsimp only
  repeat' split
  all_goals simp

@[simp] theorem execOcxoAppear_localMem (s : State) : memOf (execOcxoAppear s) = some s.localMem := by simp [execOcxoAppear]
@[simp] theorem execOcxoLoss_localMem (s : State) : memOf (execOcxoLoss s) = some s.localMem := by simp [execOcxoLoss]
@[simp] theorem State.refreshWarm_localMem (s : State) : s.refreshWarm.localMem = s.localMem := by simp [State.refreshWarm]
@[simp] theorem State.setOvenReady_localMem (s : State) (b : Bool) : (s.setOvenReady b).localMem = s.localMem := by simp [State.setOvenReady]
@[simp] theorem State.setInBand_localMem (s : State) (n : Nat) : (s.setInBand n).localMem = s.localMem := by simp [State.setInBand]
@[simp] theorem State.ovenLoop_localMem (s : State) (e : Int) : (s.ovenLoop e).localMem = s.localMem := by simp [State.ovenLoop]

@[simp] theorem execOvenReading_localMem (reading : Nat) (s : State) : memOf (execOvenReading reading s) = some s.localMem := by
  unfold execOvenReading
  dsimp only
  repeat' split
  all_goals simp

@[simp] theorem execOvenHold_localMem (s : State) : memOf (execOvenHold s) = some s.localMem := by simp [execOvenHold]
@[simp] theorem State.ovenCtrlWrite_localMem (s : State) (v : Word) : (s.ovenCtrlWrite v).localMem = s.localMem := by
  simp [State.ovenCtrlWrite]
@[simp] theorem execOvenEnable_localMem (s : State) : memOf (execOvenEnable s) = some s.localMem := by simp [execOvenEnable]
@[simp] theorem execOvenDisable_localMem (s : State) : memOf (execOvenDisable s) = some s.localMem := by simp [execOvenDisable]
@[simp] theorem execSsmsRun_localMem (row : Nat) (stops : SsmsEdges) (repeats addr : Nat) (s : State) :
    memOf (execSsmsRun row stops repeats addr s) = some s.localMem := by simp [execSsmsRun]

@[simp] theorem State.noteMeans_localMem (s : State) (row : Nat) (r : SsmsRun) (reps : List SsmsRep) :
    (s.noteMeans row r reps).localMem = s.localMem := by
  unfold State.noteMeans
  split <;> simp

/-! ## Bursts -/

@[simp] theorem State.markWarm_localMem (s : State) (k : Nat) (w : Work) : (s.markWarm k w).localMem = s.localMem := by simp [State.markWarm]
@[simp] theorem State.endBurst_localMem (s : State) (k : Nat) (w : Work) : (s.endBurst k w).localMem = s.localMem := by simp [State.endBurst]
@[simp] theorem State.releaseJoint_localMem (s : State) (k : Nat) (w : Work) (j : Joint) : (s.releaseJoint k w j).localMem = s.localMem := by
  simp [State.releaseJoint]
@[simp] theorem State.sendDone_localMem (s : State) (k : Nat) (w : Work) : (s.sendDone k w).localMem = s.localMem := by simp [State.sendDone]
@[simp] theorem State.sendVoid_localMem (s : State) (w : Work) : (s.sendVoid w).localMem = s.localMem := by simp [State.sendVoid]

/-! ## The Awning -/

@[simp] theorem State.publishAwn_localMem (s : State) : s.publishAwn.localMem = s.localMem := by simp [State.publishAwn]
@[simp] theorem State.countEnergy_localMem (s : State) (uj : List Nat) : (s.countEnergy uj).localMem = s.localMem := by
  simp [State.countEnergy]
@[simp] theorem execAwningUpdate_localMem (uj : List Nat) (s : State) : memOf (execAwningUpdate uj s) = some s.localMem := by
  simp [execAwningUpdate]
@[simp] theorem execAwningSensorCorrect_localMem (sens : List Int) (s : State) :
    memOf (execAwningSensorCorrect sens s) = some s.localMem := by simp [execAwningSensorCorrect]
@[simp] theorem State.limitWrite_localMem (s : State) (r : RegName) (v : Word) : (s.limitWrite r v).localMem = s.localMem := by
  simp [State.limitWrite]

@[simp] theorem execAwnLimitWrite_localMem (which : Nat) (v : Word) (s : State) :
    memOf (execAwnLimitWrite which v s) = some s.localMem := by
  unfold execAwnLimitWrite
  repeat' split
  all_goals simp

/-! ## The Toll -/

@[simp] theorem State.tollRefuse_localMem (s : State) (k : Nat) (w : Work) (cause : Nat) : (s.tollRefuse k w cause).localMem = s.localMem := by
  simp [State.tollRefuse]
@[simp] theorem State.take_localMem (s : State) (k : Nat) (w : Work) (r : Resv) (s0 : Tu) (post : Store Nat Postpone) :
    (s.take k w r s0 post).localMem = s.localMem := by simp [State.take]

@[simp] theorem State.admitOrder_localMem (s : State) (k : Nat) : (s.admitOrder k).localMem = s.localMem := by
  unfold State.admitOrder
  split <;> simp

@[simp] theorem State.untake_localMem (s : State) (k : Nat) (w : Work) : (s.untake k w).localMem = s.localMem := by simp [State.untake]
@[simp] theorem State.restartDecisions_localMem (s : State) (reading : Nat) : (s.restartDecisions reading).localMem = s.localMem := by
  simp [State.restartDecisions]

@[simp] theorem State.jointRefuse_localMem (s : State) (k : Nat) (w : Work) (cause : Nat) :
    (s.jointRefuse k w cause).localMem = s.localMem := by
  unfold State.jointRefuse
  repeat' split
  all_goals simp

@[simp] theorem State.defer_localMem (s : State) (k : Nat) (w : Work) : (s.defer k w).localMem = s.localMem := by simp [State.defer]
@[simp] theorem State.jointHeld_localMem (s : State) (k : Nat) (w : Work) (r : Resv) (s0 : Tu) (post : Store Nat Postpone) :
    (s.jointHeld k w r s0 post).localMem = s.localMem := by simp [State.jointHeld]

theorem State.jointAwaits_localMem {s t : State} {k : Nat} {w : Work} (h : s.jointAwaits k w = some t) : t.localMem = s.localMem := by
  unfold State.jointAwaits at h
  repeat' split at h
  all_goals cases h
  all_goals simp

@[simp] theorem State.decideJoint_localMem (s : State) (k : Nat) (w : Work) : (s.decideJoint k w).localMem = s.localMem := by
  unfold State.decideJoint
  split
  · exact State.jointAwaits_localMem ‹_›
  · dsimp only
    split <;> simp

@[simp] theorem execTollDecision_localMem (s : State) : memOf (execTollDecision s) = some s.localMem := by
  unfold execTollDecision
  dsimp only
  repeat' split
  all_goals simp

@[simp] theorem execDelayRelease_localMem (s : State) : memOf (execDelayRelease s) = some s.localMem := by
  unfold execDelayRelease
  split <;> simp

/-! ## Device time and Ethernet -/

@[simp] theorem State.setOffset_localMem (s : State) (o : Int) : (s.setOffset o).localMem = s.localMem := by simp [State.setOffset]
@[simp] theorem State.setRate_localMem (s : State) (r : Int) : (s.setRate r).localMem = s.localMem := by simp [State.setRate]
@[simp] theorem State.applyTime_localMem (s : State) (o r : Int) : (s.applyTime o r).localMem = s.localMem := by simp [State.applyTime]
@[simp] theorem State.requestTime_localMem (s : State) (step rate : Int) : (s.requestTime step rate).localMem = s.localMem := by
  simp [State.requestTime]
@[simp] theorem State.timeIsSet_localMem (s : State) : s.timeIsSet.localMem = s.localMem := by simp [State.timeIsSet]
@[simp] theorem State.stepRate_localMem (s : State) (step rate : Bool) : (s.stepRate step rate).localMem = s.localMem := by
  simp [State.stepRate]

@[simp] theorem State.calCommit_localMem (s : State) : s.calCommit.localMem = s.localMem := by
  unfold State.calCommit
  split <;> simp

@[simp] theorem State.timeCmd_localMem (s : State) (v : Word) : (s.timeCmd v).localMem = s.localMem := by simp [State.timeCmd]
@[simp] theorem execTimeStep_localMem (rate : Bool) (s : State) : memOf (execTimeStep rate s) = some s.localMem := by simp [execTimeStep]
@[simp] theorem execTimeRate_localMem (s : State) : memOf (execTimeRate s) = some s.localMem := by simp [execTimeRate]
@[simp] theorem execTimeCal_localMem (s : State) : memOf (execTimeCal s) = some s.localMem := by simp [execTimeCal]

@[simp] theorem execTimeChangeEffect_localMem (s : State) : memOf (execTimeChangeEffect s) = some s.localMem := by
  unfold execTimeChangeEffect
  split <;> simp

@[simp] theorem execUtcOffsetWrite_localMem (v : Word) (s : State) : memOf (execUtcOffsetWrite v s) = some s.localMem := by
  simp [execUtcOffsetWrite]
@[simp] theorem State.servoUpdate_localMem (s : State) (theta : Int) : (s.servoUpdate theta).localMem = s.localMem := by
  simp [State.servoUpdate]
@[simp] theorem State.servoCount_localMem (s : State) (theta : Int) : (s.servoCount theta).localMem = s.localMem := by simp [State.servoCount]

@[simp] theorem State.servoInput_localMem (s : State) (theta : Int) : (s.servoInput theta).localMem = s.localMem := by
  unfold State.servoInput
  dsimp only
  repeat' split
  all_goals simp

@[simp] theorem execServoInput_localMem (v : Word) (s : State) : memOf (execServoInput v s) = some s.localMem := by simp [execServoInput]
@[simp] theorem execServoHoldover_localMem (s : State) : memOf (execServoHoldover s) = some s.localMem := by simp [execServoHoldover]
@[simp] theorem State.servoCtrlWrite_localMem (s : State) (v : Word) : (s.servoCtrlWrite v).localMem = s.localMem := by
  simp [State.servoCtrlWrite]
@[simp] theorem State.rxDrop_localMem (s : State) (n : Nat) : (s.rxDrop n).localMem = s.localMem := by simp [State.rxDrop]

@[simp] theorem execFrameTransmit_localMem (p pcs : Nat) (s : State) : memOf (execFrameTransmit p pcs s) = some s.localMem := by
  unfold execFrameTransmit
  dsimp only
  repeat' split
  all_goals simp

@[simp] theorem execBackupTimeWrite_localMem (s : State) : memOf (execBackupTimeWrite s) = some s.localMem := by
  simp [execBackupTimeWrite]
@[simp] theorem execTvClear_localMem (s : State) : memOf (execTvClear s) = some s.localMem := by simp [execTvClear]

/-! ## Halls -/

@[simp] theorem State.refreshHall_localMem (s : State) : s.refreshHall.localMem = s.localMem := by simp [State.refreshHall]
@[simp] theorem State.setHallState_localMem (s : State) (v : Nat) : (s.setHallState v).localMem = s.localMem := by simp [State.setHallState]
@[simp] theorem State.refreshCorr_localMem (s : State) : s.refreshCorr.localMem = s.localMem := by simp [State.refreshCorr]
@[simp] theorem State.checkLat_localMem (s : State) : s.checkLat.localMem = s.localMem := by simp [State.checkLat]
@[simp] theorem State.rerouted_localMem (s : State) : s.rerouted.localMem = s.localMem := by simp [State.rerouted]
@[simp] theorem State.checkIds_localMem (s : State) : s.checkIds.localMem = s.localMem := by simp [State.checkIds]
@[simp] theorem State.sendCrierCfg_localMem (s : State) (c : CrierCfg) : (s.sendCrierCfg c).localMem = s.localMem := by
  simp [State.sendCrierCfg]
@[simp] theorem State.tryReady_localMem (s : State) : s.tryReady.localMem = s.localMem := by simp [State.tryReady]
@[simp] theorem State.crierTakes_localMem (s : State) (l : Nat) (level : Bool) (t : Tu) : (s.crierTakes l level t).localMem = s.localMem := by
  simp [State.crierTakes]
@[simp] theorem State.dropLines_localMem (s : State) : s.dropLines.localMem = s.localMem := by simp [State.dropLines]

@[simp] theorem State.tryElect_localMem (s : State) : s.tryElect.localMem = s.localMem := by
  unfold State.tryElect
  dsimp only
  repeat' split
  all_goals simp

@[simp] theorem State.startElection_localMem (s : State) (st : Nat) : (s.startElection st).localMem = s.localMem := by
  simp [State.startElection]
@[simp] theorem State.tryForm_localMem (s : State) : s.tryForm.localMem = s.localMem := by simp [State.tryForm]

@[simp] theorem State.heardFrom_localMem (s : State) (p src : Nat) : (s.heardFrom p src).localMem = s.localMem := by simp [State.heardFrom]
@[simp] theorem State.awaitCrier_localMem (s : State) (c : CrierChange) : (s.awaitCrier c).localMem = s.localMem := by simp [State.awaitCrier]
@[simp] theorem State.queueCrier_localMem (s : State) (p : Nat) (w : Int) (c : Nat × Bool × Nat) :
    (s.queueCrier p w c).localMem = s.localMem := by simp [State.queueCrier]

@[simp] theorem State.closeWindows_localMem (s : State) : s.closeWindows.localMem = s.localMem := by
  refine foldl_localMem _ _ _ fun t x => ?_
  simp

@[simp] theorem State.timeMsg_localMem (s : State) (n : Int) : (s.timeMsg n).1.localMem = s.localMem := by
  unfold State.timeMsg
  dsimp only
  repeat' split
  all_goals simp

@[simp] theorem State.frameMsg_localMem (s : State) (p : Nat) (n : Int) : (s.frameMsg p n).1.localMem = s.localMem := by
  unfold State.frameMsg
  dsimp only
  repeat' split
  all_goals simp

@[simp] theorem execGslFrameSend_localMem (p : Nat) (s : State) : memOf (execGslFrameSend p s) = some s.localMem := by
  simp [execGslFrameSend]

@[simp] theorem State.takeCrier_localMem (s : State) (p : Nat) (win : Int) (frame : Nat) :
    (s.takeCrier p win frame).localMem = s.localMem := by
  refine foldl_localMem _ _ _ fun t x => ?_
  dsimp only
  repeat' split
  all_goals simp

@[simp] theorem State.takeMessage_localMem (s : State) (p : Nat) (m : GslMsg) : (s.takeMessage p m).localMem = s.localMem := by
  unfold State.takeMessage
  dsimp only
  repeat' split
  all_goals simp

@[simp] theorem execGslFrameReceive_localMem (p frame : Nat) (t : Tu) (s : State) :
    memOf (execGslFrameReceive p frame t s) = some s.localMem := by simp [execGslFrameReceive]

@[simp] theorem State.onMsg_localMem (s : State) (mtype : Nat) (f : State → Nat → GslMsg → State)
    (h : ∀ t p m, (f t p m).localMem = t.localMem) : (s.onMsg mtype f).localMem = s.localMem := by
  unfold State.onMsg State.takeMsg
  cases s.gslIn.find? (·.2.mtype == mtype) <;> simp [h]

@[simp] theorem execProbe_localMem (s : State) : memOf (execProbe s) = some s.localMem := by simp [execProbe]

@[simp] theorem execProbeReply_localMem (t2 : Tu) (s : State) : memOf (execProbeReply t2 s) = some s.localMem := by
  refine congrArg some (s.onMsg_localMem _ _ fun t p m => ?_)
  dsimp only
  repeat' split
  all_goals simp

@[simp] theorem execAdvert_localMem (id : Nat) (s : State) : memOf (execAdvert id s) = some s.localMem := by simp [execAdvert]

@[simp] theorem execTimeMessage_localMem (s : State) : memOf (execTimeMessage s) = some s.localMem := by
  refine congrArg some (s.onMsg_localMem _ _ fun t p m => ?_)
  repeat' split
  all_goals simp

@[simp] theorem execCrierCfg_localMem (commit : Int) (s : State) : memOf (execCrierCfg commit s) = some s.localMem := by
  simp [execCrierCfg]

@[simp] theorem execJointPrepare_localMem (s : State) : memOf (execJointPrepare s) = some s.localMem := by
  refine congrArg some (s.onMsg_localMem _ _ fun t p m => ?_)
  repeat' split
  all_goals simp

@[simp] theorem State.abortJoint_localMem (s : State) (k : Nat) (w : Work) (cause : Nat) : (s.abortJoint k w cause).localMem = s.localMem := by
  simp [State.abortJoint]

@[simp] theorem execJointVote_localMem (s : State) : memOf (execJointVote s) = some s.localMem := by
  refine congrArg some (s.onMsg_localMem _ _ fun t p m => ?_)
  repeat' split
  all_goals simp

@[simp] theorem execJointCommit_localMem (s : State) : memOf (execJointCommit s) = some s.localMem := by
  refine congrArg some (s.onMsg_localMem _ _ fun t p m => ?_)
  repeat' split
  all_goals simp

@[simp] theorem execJointDone_localMem (s : State) : memOf (execJointDone s) = some s.localMem := by
  refine congrArg some (s.onMsg_localMem _ _ fun t p m => ?_)
  repeat' split
  all_goals simp

@[simp] theorem execJointRelease_localMem (s : State) : memOf (execJointRelease s) = some s.localMem := by
  refine congrArg some (s.onMsg_localMem _ _ fun t p m => ?_)
  repeat' split
  all_goals simp

@[simp] theorem execJointWaitTimeout_localMem (id : Nat) (s : State) : memOf (execJointWaitTimeout id s) = some s.localMem := by
  unfold execJointWaitTimeout
  repeat' split
  all_goals simp

@[simp] theorem execJointAdmissionTimeout_localMem (id : Nat) (s : State) : memOf (execJointAdmissionTimeout id s) = some s.localMem := by
  unfold execJointAdmissionTimeout
  repeat' split
  all_goals simp

@[simp] theorem execLinkTrained_localMem (p peer : Nat) (s : State) : memOf (execLinkTrained p peer s) = some s.localMem := by
  simp [execLinkTrained]

@[simp] theorem execLinkCalDone_localMem (p : Nat) (s : State) : memOf (execLinkCalDone p s) = some s.localMem := by
  unfold execLinkCalDone
  dsimp only
  repeat' split
  all_goals simp

@[simp] theorem State.asymWrite_localMem (s : State) (p : Nat) (v : Word) : (s.asymWrite p v).localMem = s.localMem := by
  simp [State.asymWrite]
@[simp] theorem execReform_localMem (s : State) : memOf (execReform s) = some s.localMem := by simp [execReform]
@[simp] theorem execCrierCommit_localMem (busy : Bool) (s : State) : memOf (execCrierCommit busy s) = some s.localMem := by
  simp [execCrierCommit]

@[simp] theorem execCrierConfigEffect_localMem (s : State) : memOf (execCrierConfigEffect s) = some s.localMem := by
  unfold execCrierConfigEffect
  split <;> simp

@[simp] theorem State.closeLone_localMem (s : State) : s.closeLone.localMem = s.localMem := by
  unfold State.closeLone
  split <;> simp

@[simp] theorem execCrierAction_localMem (s : State) : memOf (execCrierAction s) = some s.localMem := by
  unfold execCrierAction
  dsimp only
  split <;> simp

@[simp] theorem State.driveCrier_localMem (s : State) (l : Nat) (level : Bool) (t : Tu) : (s.driveCrier l level t).localMem = s.localMem := by
  simp [State.driveCrier]

/-! ## The scheduler -/

@[simp] theorem State.setItem_localMem (s : State) (k : Nat) (v : Item) : (s.setItem k v).localMem = s.localMem := by simp [State.setItem]
@[simp] theorem State.setGraph_localMem (s : State) (k : Nat) (v : GraphRun) : (s.setGraph k v).localMem = s.localMem := by
  simp [State.setGraph]
@[simp] theorem State.setStage_localMem (s : State) (k : Nat) (st : Stage) : (s.setStage k st).localMem = s.localMem := by
  simp [State.setStage]
@[simp] theorem State.nextNo_localMem (s : State) : s.nextNo.localMem = s.localMem := by simp [State.nextNo]
@[simp] theorem State.queueFull_localMem (s : State) (k : Nat) : (s.queueFull k).localMem = s.localMem := by simp [State.queueFull]
@[simp] theorem execOrderWork_localMem (k : Nat) (s : State) : memOf (execOrderWork k s) = some s.localMem := by simp [execOrderWork]

@[simp] theorem State.interrupt_localMem (s : State) (k : Nat) (for_ : Option Nat) : (s.interrupt k for_).localMem = s.localMem := by
  simp [State.interrupt]

@[simp] theorem execPreempt_localMem (s : State) : memOf (execPreempt s) = some s.localMem := by
  unfold execPreempt
  repeat' split
  all_goals simp

@[simp] theorem State.leaveCore_localMem (s : State) (k : Nat) : (s.leaveCore k).localMem = s.localMem := by simp [State.leaveCore]
@[simp] theorem State.toHead_localMem (s : State) (k : Nat) : (s.toHead k).localMem = s.localMem := by simp [State.toHead]

@[simp] theorem execContextSaved_localMem (core : Nat) (s : State) : memOf (execContextSaved core s) = some s.localMem := by
  unfold execContextSaved
  split <;> simp

@[simp] theorem shedClass_localMem (cls fuel : Nat) (s : State) : (shedClass cls fuel s).localMem = s.localMem := by
  induction fuel generalizing s with
  | zero => rfl
  | succ n ih =>
    unfold shedClass
    split
    · rfl
    · split <;> simp [ih]

@[simp] theorem execWorkShed_localMem (s : State) : memOf (execWorkShed s) = some s.localMem := by simp [execWorkShed]

@[simp] theorem State.onCore_localMem (s : State) (core : Nat) (f : Nat → Work → State)
    (h : ∀ k w, (f k w).localMem = s.localMem) : (s.onCore core f).localMem = s.localMem := by
  unfold State.onCore
  split <;> simp [h]

@[simp] theorem State.ret_localMem (s : State) (a0 a1 : Nat) : (s.ret a0 a1).localMem = s.localMem := by simp [State.ret]
@[simp] theorem State.itemEnds_localMem (s : State) (k ret : Nat) : (s.itemEnds k ret).localMem = s.localMem := by simp [State.itemEnds]
@[simp] theorem execCallExit_localMem (core ret : Nat) (s : State) : memOf (execCallExit core ret s) = some s.localMem := by
  simp [execCallExit]
@[simp] theorem execItemException_localMem (core code : Nat) (s : State) : memOf (execItemException core code s) = some s.localMem := by
  simp [execItemException]
@[simp] theorem execWaitFor_localMem (core us : Nat) (s : State) : memOf (execWaitFor core us s) = some s.localMem := by
  simp [execWaitFor]
@[simp] theorem execCallTime_localMem (core : Nat) (s : State) : memOf (execCallTime core s) = some s.localMem := by simp [execCallTime]
@[simp] theorem execHostWrite_localMem (core src dst n : Nat) (s : State) : memOf (execHostWrite core src dst n s) = some s.localMem := by
  simp [execHostWrite]
@[simp] theorem execMbxSend_localMem (core a : Nat) (s : State) : memOf (execMbxSend core a s) = some s.localMem := by simp [execMbxSend]

@[simp] theorem execItemDelayRelease_localMem (s : State) : memOf (execItemDelayRelease s) = some s.localMem := by
  unfold execItemDelayRelease
  split <;> simp [-List.foldl_reverse]

@[simp] theorem execItemWritesAcked_localMem (k : Nat) (s : State) : memOf (execItemWritesAcked k s) = some s.localMem := by
  unfold execItemWritesAcked
  split <;> simp

@[simp] theorem execLockstepMismatch_localMem (core : Nat) (s : State) : memOf (execLockstepMismatch core s) = some s.localMem := by
  simp [execLockstepMismatch]
@[simp] theorem execSchedPoolWrite_localMem (v : Word) (s : State) : memOf (execSchedPoolWrite v s) = some s.localMem := by
  simp [execSchedPoolWrite]

/-! ## Graphs -/

@[simp] theorem State.checkGraph_localMem (s : State) (k : Nat) (w : Work) : (s.checkGraph k w).localMem = s.localMem := by
  simp [State.checkGraph]
@[simp] theorem State.startGraph_localMem (s : State) (k : Nat) (w : Work) : (s.startGraph k w).localMem = s.localMem := by
  simp [State.startGraph]
@[simp] theorem execOrderGraph_localMem (k : Nat) (s : State) : memOf (execOrderGraph k s) = some s.localMem := by simp [execOrderGraph]
@[simp] theorem execGraphDependencyMet_localMem (k : Nat) (s : State) : memOf (execGraphDependencyMet k s) = some s.localMem := by
  simp [execGraphDependencyMet]

@[simp] theorem execGraphSuspend_localMem (u : Nat) (s : State) : memOf (execGraphSuspend u s) = some s.localMem := by
  unfold execGraphSuspend
  split <;> simp

/-! ## Coherence -/

@[simp] theorem State.grant_localMem (s : State) (r : CohReq) : (s.grant r).localMem = s.localMem := by simp [State.grant]
@[simp] theorem State.countRace_localMem (s : State) (r : CohReq) : (s.countRace r).localMem = s.localMem := by simp [State.countRace]

@[simp] theorem admitLine_localMem (line fuel : Nat) (s : State) : (admitLine line fuel s).localMem = s.localMem := by
  induction fuel generalizing s with
  | zero => rfl
  | succ n ih =>
    unfold admitLine
    dsimp only
    repeat' split
    all_goals simp [ih]

@[simp] theorem State.cohRequest_localMem (s : State) (cores : List Nat) (line : Nat) (own : Bool) :
    (s.cohRequest cores line own).localMem = s.localMem := by simp [State.cohRequest]
@[simp] theorem execReadRequest_localMem (core line : Nat) (s : State) : memOf (execReadRequest core line s) = some s.localMem := by
  simp [execReadRequest]
@[simp] theorem execOwnershipRequest_localMem (cores : List Nat) (line : Nat) (s : State) :
    memOf (execOwnershipRequest cores line s) = some s.localMem := by simp [execOwnershipRequest]
@[simp] theorem State.serveRecall_localMem (s : State) (line : Nat) (keepShared : Bool) :
    (s.serveRecall line keepShared).localMem = s.localMem := by
  unfold State.serveRecall
  split <;> simp

/-! ## Local memory -/

@[simp] theorem State.corrected_localMem (s : State) (n : Nat) : (s.corrected n).localMem = s.localMem := by simp [State.corrected]
@[simp] theorem State.lineLost_localMem (s : State) (line source : Nat) : (s.lineLost line source).localMem = s.localMem := by
  simp [State.lineLost]
@[simp] theorem execBar4Read_localMem (x n : Nat) (bad : List Nat) (corr : Nat) (s : State) :
    memOf (execBar4Read x n bad corr s) = some s.localMem := by simp [execBar4Read]
@[simp] theorem execPatrolScrub_localMem (line result : Nat) (s : State) : memOf (execPatrolScrub line result s) = some s.localMem := by
  simp [execPatrolScrub]
@[simp] theorem State.ilvReject_localMem (s : State) (r : Nat) : (s.ilvReject r).localMem = s.localMem := by simp [State.ilvReject]
@[simp] theorem execDramIlvCommit_localMem (s : State) : memOf (execDramIlvCommit s) = some s.localMem := by simp [execDramIlvCommit]
@[simp] theorem State.setArb_localMem (s : State) (c : Nat) (a : Arb) : (s.setArb c a).localMem = s.localMem := by simp [State.setArb]
@[simp] theorem execArbiterRequest_localMem (c : Nat) (r : ArbiterAsk) (s : State) :
    memOf (execArbiterRequest c r s) = some s.localMem := by simp [execArbiterRequest]
@[simp] theorem State.openRowsOf_localMem (s : State) (lines : List Nat) : (s.openRowsOf lines).localMem = s.localMem := by
  simp [State.openRowsOf]
@[simp] theorem State.closeRows_localMem (s : State) (p : Nat → Bool) : (s.closeRows p).localMem = s.localMem := by simp [State.closeRows]
@[simp] theorem State.doGrant_localMem (s : State) (c r : Nat) (after : Arb) : (s.doGrant c r after).localMem = s.localMem := by
  simp [State.doGrant]

@[simp] theorem execArbiterGrant_localMem (c : Nat) (s : State) : memOf (execArbiterGrant c s) = some s.localMem := by
  unfold execArbiterGrant
  dsimp only
  repeat' split
  all_goals simp

@[simp] theorem execRequestWithdraw_localMem (c : Nat) (s : State) : memOf (execRequestWithdraw c s) = some s.localMem := by
  simp [execRequestWithdraw]
@[simp] theorem State.refresh_localMem (s : State) (c n : Nat) : (s.refresh c n).localMem = s.localMem := by simp [State.refresh]
@[simp] theorem execRefreshDue_localMem (c : Nat) (s : State) : memOf (execRefreshDue c s) = some s.localMem := by simp [execRefreshDue]

@[simp] theorem execRefreshMakeup_localMem (st : Nat) (s : State) : memOf (execRefreshMakeup st s) = some s.localMem := by
  unfold execRefreshMakeup
  split <;> simp

@[simp] theorem execSelfRefreshEntry_localMem (s : State) : memOf (execSelfRefreshEntry s) = some s.localMem := by
  unfold execSelfRefreshEntry
  repeat' split
  all_goals simp

@[simp] theorem execSelfRefreshExit_localMem (s : State) : memOf (execSelfRefreshExit s) = some s.localMem := by
  simp [execSelfRefreshExit]

/-! ## Converters: results and checks -/

@[simp] theorem State.pmuResult_localMem (s : State) (r : AdcRun) (word : Nat) : (s.pmuResult r word).localMem = s.localMem := by
  simp [State.pmuResult]

@[simp] theorem State.seqResult_localMem (s : State) (c : Nat) (r : AdcRun) (word : Nat) : (s.seqResult c r word).localMem = s.localMem := by
  unfold State.seqResult
  split <;> simp

@[simp] theorem execPmuMeasure_localMem (k : Nat) (s : State) : memOf (execPmuMeasure k s) = some s.localMem := by simp [execPmuMeasure]
@[simp] theorem execAdcSequence_localMem (k : Nat) (s : State) : memOf (execAdcSequence k s) = some s.localMem := by
  simp [execAdcSequence]

@[simp] theorem State.safetyValue_localMem (s : State) (c : Nat) (a : Adc) (v : Int) : (s.safetyValue c a v).localMem = s.localMem := by
  unfold State.safetyValue
  split <;> simp

@[simp] theorem execConversionDone_localMem (c : Nat) (v : Int) (overRange : Bool) (s : State) :
    memOf (execConversionDone c v overRange s) = some s.localMem := by
  unfold execConversionDone
  dsimp only
  repeat' split
  all_goals simp

@[simp] theorem execAdcAfterDelay_localMem (c : Nat) (s : State) : memOf (execAdcAfterDelay c s) = some s.localMem := by
  unfold execAdcAfterDelay
  dsimp only
  repeat' split
  all_goals simp

@[simp] theorem State.failAdc_localMem (s : State) (c : Nat) : (s.failAdc c).localMem = s.localMem := by simp [State.failAdc]
@[simp] theorem execMonitorScan_localMem (c : Nat) (v : List Int) (s : State) : memOf (execMonitorScan c v s) = some s.localMem := by
  simp [execMonitorScan]
@[simp] theorem execOvenConversion_localMem (sum : Nat) (s : State) : memOf (execOvenConversion sum s) = some s.localMem := by
  simp [execOvenConversion]

@[simp] theorem State.abortConversion_localMem (s : State) (c : Nat) : (s.abortConversion c).localMem = s.localMem := by
  unfold State.abortConversion
  split <;> simp

@[simp] theorem State.startRound_localMem (s : State) (c : Nat) : (s.startRound c).localMem = s.localMem := by simp [State.startRound]
@[simp] theorem execUrgentRequest_localMem (h : Nat) (safety : Bool) (s : State) :
    memOf (execUrgentRequest h safety s) = some s.localMem := by simp [execUrgentRequest]

@[simp] theorem execLevelVerify_localMem (c dev : Nat) (s : State) : memOf (execLevelVerify c dev s) = some s.localMem := by
  unfold execLevelVerify
  split <;> simp

@[simp] theorem execResultQueuePop_localMem (r : Nat) (s : State) : memOf (execResultQueuePop r s) = some s.localMem := by
  simp [execResultQueuePop]

/-! ## The calibration engine -/

@[simp] theorem State.writeLayer_localMem (s : State) (layer : List (Nat × List Int)) : (s.writeLayer layer).localMem = s.localMem := by
  simp [State.writeLayer]
@[simp] theorem State.calReject_localMem (s : State) (r : CalRun) (f : CalFail) : (s.calReject r f).localMem = s.localMem := by
  simp [State.calReject]

@[simp] theorem State.calJudge_localMem (s : State) (r : CalRun) (layer : List (Nat × List Int)) (later : Option CalFail) :
    (s.calJudge r layer later).localMem = s.localMem := by
  unfold State.calJudge
  split <;> simp

@[simp] theorem execCalLoad_localMem (k : Nat) (s : State) : memOf (execCalLoad k s) = some s.localMem := by simp [execCalLoad]
@[simp] theorem execCalSave_localMem (k : Nat) (s : State) : memOf (execCalSave k s) = some s.localMem := by simp [execCalSave]

@[simp] theorem State.calBegin_localMem (s : State) (r : CalRun) : (s.calBegin r).localMem = s.localMem := by
  unfold State.calBegin
  split <;> simp

@[simp] theorem execCalImageRead_localMem (img : Bytes) (s : State) : memOf (execCalImageRead img s) = some s.localMem := by
  unfold execCalImageRead
  dsimp only
  repeat' split
  all_goals simp

@[simp] theorem execEdgeLin_localMem (temps : List Int) (saturated : Bool) (conv : Nat) (s : State) :
    memOf (execEdgeLin temps saturated conv s) = some s.localMem := by
  unfold execEdgeLin
  dsimp only
  repeat' split
  all_goals simp

@[simp] theorem State.trim_localMem (s : State) (r : CalRun) (sel : CalField → Bool) (limit : Nat) (vals : List (List Int)) (residual :
    List Nat) (failed : Bool) :
    (s.trim r sel limit vals residual failed).localMem = s.localMem := by simp [State.trim]

@[simp] theorem execLevelTrim_localMem (vals : List (List Int)) (residual : List Nat) (failed : Bool) (s : State) :
    memOf (execLevelTrim vals residual failed s) = some s.localMem := by
  unfold execLevelTrim
  split <;> simp

@[simp] theorem execPmuTrim_localMem (vals : List (List Int)) (residual : List Nat) (failed : Bool) (s : State) :
    memOf (execPmuTrim vals residual failed s) = some s.localMem := by
  unfold execPmuTrim
  split <;> simp

@[simp] theorem execCalCommit_localMem (s : State) : memOf (execCalCommit s) = some s.localMem := by
  unfold execCalCommit
  split <;> simp

/-! ## Power -/

@[simp] theorem State.refreshDomains_localMem (s : State) (n : Nat) (adcOn : Bool) : (s.refreshDomains n adcOn).localMem = s.localMem := by
  simp [State.refreshDomains]
@[simp] theorem State.setPower_localMem (s : State) (n : Nat) : (s.setPower n).localMem = s.localMem := by simp [State.setPower]
@[simp] theorem State.wakeRow_localMem (s : State) (r : Nat) (until_ : Tu) : (s.wakeRow r until_).localMem = s.localMem := by
  simp [State.wakeRow]
@[simp] theorem State.writeBackup_localMem (s : State) : s.writeBackup.localMem = s.localMem := by simp [State.writeBackup]
@[simp] theorem execPowerExitStart_localMem (planned : Bool) (s : State) : memOf (execPowerExitStart planned s) = some s.localMem := by
  unfold execPowerExitStart
  repeat' split
  all_goals simp

@[simp] theorem execPowerExitComplete_localMem (s : State) : memOf (execPowerExitComplete s) = some s.localMem := by
  simp [execPowerExitComplete]
@[simp] theorem execP4RequestExpiry_localMem (s : State) : memOf (execP4RequestExpiry s) = some s.localMem := by
  unfold execP4RequestExpiry
  split <;> simp

@[simp] theorem State.endP4_localMem (s : State) (event : Nat) : (s.endP4 event).localMem = s.localMem := by simp [State.endP4]
@[simp] theorem execP4WakeTimer_localMem (s : State) : memOf (execP4WakeTimer s) = some s.localMem := by simp [execP4WakeTimer]
@[simp] theorem execVcoreRequestUpdate_localMem (mv : Nat) (s : State) : memOf (execVcoreRequestUpdate mv s) = some s.localMem := by
  simp [execVcoreRequestUpdate]
@[simp] theorem State.paceFault_localMem (s : State) (reading : Nat) : (s.paceFault reading).localMem = s.localMem := by simp [State.paceFault]
@[simp] theorem execPaceReadingPublish_localMem (pace : Nat) (s : State) : memOf (execPaceReadingPublish pace s) = some s.localMem := by
  simp [execPaceReadingPublish]

@[simp] theorem execRunAheadUnderrun_localMem (k : Nat) (s : State) : memOf (execRunAheadUnderrun k s) = some s.localMem := by
  unfold execRunAheadUnderrun
  split <;> simp

/-! ## Resets and boot -/

@[simp] theorem State.bootHalt_localMem (s : State) (reason : Nat) : (s.bootHalt reason).localMem = s.localMem := by simp [State.bootHalt]
@[simp] theorem State.wdtStart_localMem (s : State) (ms : Nat) : (s.wdtStart ms).localMem = s.localMem := by
  simp only [State.wdtStart, State.localMem_mk, State.localMem_eta, State.set_localMem, State.setIf_localMem]
@[simp] theorem State.wdtStop_localMem (s : State) : s.wdtStop.localMem = s.localMem := by simp [State.wdtStop]
@[simp] theorem State.waitPush_localMem (s : State) : s.waitPush.localMem = s.localMem := by simp [State.waitPush]
@[simp] theorem State.bootRecord_localMem (s : State) : s.bootRecord.localMem = s.localMem := by simp [State.bootRecord]

@[simp] theorem State.bootStep2_localMem (s : State) : s.bootStep2.localMem = s.localMem := by
  unfold State.bootStep2
  dsimp only
  split <;> simp

@[simp] theorem State.loadFactory_localMem (s : State) (r : RegName) (i j off : Nat) (mask : Word) :
    (s.loadFactory r i j off mask).localMem = s.localMem := by simp [State.loadFactory]
@[simp] theorem State.bootStep3_localMem (s : State) (img : Bytes) : (s.bootStep3 img).localMem = s.localMem := by simp [State.bootStep3]

@[simp] theorem State.bootStep5_localMem (s : State) : s.bootStep5.localMem = s.localMem := by simp [State.bootStep5]
@[simp] theorem State.bootStep7_localMem (s : State) (img : Bytes) : (s.bootStep7 img).localMem = s.localMem := by simp [State.bootStep7]
@[simp] theorem State.bootStep8_localMem (s : State) (img : Bytes) (us : Nat) : (s.bootStep8 img us).localMem = s.localMem := by
  simp [State.bootStep8]
@[simp] theorem execBootPushGo_localMem (s : State) : memOf (execBootPushGo s) = some s.localMem := by simp [execBootPushGo]
@[simp] theorem State.readBackup_localMem (s : State) (count : Nat) : (s.readBackup count).localMem = s.localMem := by simp [State.readBackup]
@[simp] theorem State.bootStep1Ends_localMem (s : State) (count : Nat) : (s.bootStep1Ends count).localMem = s.localMem := by
  simp [State.bootStep1Ends]

@[simp] theorem execMasterLock_localMem (count : Option Nat) (s : State) : memOf (execMasterLock count s) = some s.localMem := by
  unfold execMasterLock
  repeat' split
  all_goals simp

@[simp] theorem State.assertReset_localMem (s : State) (source : Nat) : (s.assertReset source).localMem = s.localMem := by
  simp [State.assertReset]
@[simp] theorem execPowerGood_localMem (s : State) : memOf (execPowerGood s) = some s.localMem := by simp [execPowerGood]
@[simp] theorem execPerst_localMem (low : Bool) (s : State) : memOf (execPerst low s) = some s.localMem := by simp [execPerst]
@[simp] theorem execResetN_localMem (low : Bool) (s : State) : memOf (execResetN low s) = some s.localMem := by simp [execResetN]
@[simp] theorem execWatchdog_localMem (s : State) : memOf (execWatchdog s) = some s.localMem := by simp [execWatchdog]

@[simp] theorem execBootWdtRestart_localMem (a : Agent) (v : Word) (s : State) : memOf (execBootWdtRestart a v s) = some s.localMem := by
  unfold execBootWdtRestart
  split <;> simp

/-! ## The event router -/

@[simp] theorem State.crierRoute_localMem (s : State) (l action : Nat) (t : Tu) : (s.crierRoute l action t).localMem = s.localMem := by
  unfold State.crierRoute
  split <;> simp

@[simp] theorem State.acquire_localMem (s : State) (n : Nat) (t : Tu) : (s.acquire n t).localMem = s.localMem := by simp [State.acquire]
@[simp] theorem State.latchEvent_localMem (s : State) (n k : Nat) (t : Tu) : (s.latchEvent n k t).localMem = s.localMem := by
  simp [State.latchEvent]
@[simp] theorem State.act_localMem (s : State) (a : Arrival) : (s.act a).localMem = s.localMem := by simp [State.act]

@[simp] theorem execEventArrival_localMem (s : State) : memOf (execEventArrival s) = some s.localMem := by
  unfold execEventArrival
  dsimp only
  repeat' split
  all_goals simp

@[simp] theorem execCrierPulseEnd_localMem (s : State) : memOf (execCrierPulseEnd s) = some s.localMem := by
  unfold execCrierPulseEnd
  split <;> simp

@[simp] theorem execOnDieMemoryError_localMem (k line : Option Nat) (s : State) :
    memOf (execOnDieMemoryError k line s) = some s.localMem := by
  unfold execOnDieMemoryError
  split <;> simp

/-! ## Register accesses -/

@[simp] theorem State.latchAll_localMem (s : State) (rs : List Reg) : (s.latchAll rs).localMem = s.localMem := by simp [State.latchAll]
@[simp] theorem State.unlatch_localMem (s : State) (rs : List Reg) : (s.unlatch rs).localMem = s.localMem := by simp [State.unlatch]

@[simp] theorem State.readPlain_localMem (s : State) (r : Reg) : (s.readPlain r).localMem = s.localMem := by
  unfold State.readPlain
  split <;> simp

@[simp] theorem State.readNow_localMem (s : State) : s.readNow.localMem = s.localMem := by simp [State.readNow]
@[simp] theorem State.readClear_localMem (s : State) (r : Reg) : (s.readClear r).localMem = s.localMem := by simp [State.readClear]

@[simp] theorem readReg_localMem (a : Agent) (r : Reg) (s : State) : memOf (readReg a r s) = some s.localMem := by
  unfold readReg
  split <;> simp

@[simp] theorem State.writePlain_localMem (s : State) (r : Reg) (v : Word) : (s.writePlain r v).localMem = s.localMem := by
  simp [State.writePlain]

@[simp] theorem State.writeUnless_localMem (s : State) (blocked : Bool) (event : State → State) (r : Reg) (v : Word)
    (h : (event s).localMem = s.localMem) : (s.writeUnless blocked event r v).localMem = s.localMem := by
  simp [State.writeUnless, h]

@[simp] theorem sessionWrite_localMem (n : Nat) (v : Word) (s : State) : memOf (sessionWrite n v s) = some s.localMem := by
  simp [sessionWrite]

@[simp] theorem State.issueAll_localMem (s : State) (f : Nat) : (s.issueAll f).localMem = s.localMem := by simp [State.issueAll]

@[simp] theorem State.msixTableWrite_localMem (s : State) (fn off : Nat) (v : Word) : (s.msixTableWrite fn off v).localMem = s.localMem := by
  unfold State.msixTableWrite
  split <;> simp

@[simp] theorem State.msixRead_localMem (s : State) (fn off n : Nat) : (s.msixRead fn off n).localMem = s.localMem := by
  unfold State.msixRead
  repeat' split
  all_goals simp

@[simp] theorem State.msixWrite_localMem (s : State) (fn off n : Nat) (data : List Word) :
    (s.msixWrite fn off n data).localMem = s.localMem := by
  unfold State.msixWrite
  split <;> simp

@[simp] theorem State.noFunction_localMem (s : State) : s.noFunction.localMem = s.localMem := by simp [State.noFunction]

@[simp] theorem readAt_localMem (t : Target) (s : State) : memOf (readAt t s) = some s.localMem := by
  unfold readAt
  dsimp only
  repeat' split
  all_goals simp

theorem gather_localMem (reads : List (State → Host.Outcome State Fault Refusal)) (s : State) (acc : List Word)
    (h : ∀ f ∈ reads, ∀ t, memOf (f t) = some t.localMem) : memOf (gather reads s acc) = some s.localMem := by
  induction reads generalizing s acc with
  | nil => simp [gather]
  | cons f fs ih =>
    obtain ⟨t, ht, hs⟩ := memOf_eq_some.mp (h f List.mem_cons_self s)
    have hfs := fun t acc => ih t acc fun g hg => h g (List.mem_cons_of_mem f hg)
    simp [gather, ht, hfs, hs]

theorem inOrder_localMem (writes : List (State → Host.Outcome State Fault Refusal)) (s : State)
    (h : ∀ f ∈ writes, ∀ t, memOf (f t) = some t.localMem) : memOf (inOrder writes s) = some s.localMem := by
  induction writes generalizing s with
  | nil => rfl
  | cons f fs ih =>
    obtain ⟨t, ht, hs⟩ := memOf_eq_some.mp (h f List.mem_cons_self s)
    have hfs := fun t => ih t fun g hg => h g (List.mem_cons_of_mem f hg)
    simp [inOrder, ht, hfs, hs]

@[simp] theorem State.unaligned_localMem (s : State) (n : Nat) (write : Bool) : (s.unaligned n write).localMem = s.localMem := by
  simp [State.unaligned]

@[simp] theorem execReadClearRead_localMem (off : Nat) (s : State) : memOf (execReadClearRead off s) = some s.localMem := by
  simp [execReadClearRead]
@[simp] theorem execWideValueRead_localMem (off : Nat) (s : State) : memOf (execWideValueRead off s) = some s.localMem := by
  simp [execWideValueRead]
@[simp] theorem execTimeNowRead_localMem (s : State) : memOf (execTimeNowRead s) = some s.localMem := by simp [execTimeNowRead]

end Sys2Proof.Machine
end

section
/-!
SUPPORT. The canonical form of local memory (O54). The operations that write local memory are byte writes, copies, or the zeros of boot;
every one of them keeps the canonical form, and so does every operation that calls one.
-/

namespace Sys2Proof.Machine

@[simp] theorem Mem.wf_ite (c : Prop) [Decidable c] (m m' : Mem) : Mem.wf (if c then m else m') = if c then Mem.wf m else Mem.wf m' :=
  apply_ite ..

@[simp] theorem Option.all_ite {α : Type} (p : α → Bool) (c : Prop) [Decidable c] (o o' : Option α) :
    (if c then o else o').all p = if c then o.all p else o'.all p := apply_ite ..

@[simp] theorem foldl_memWf {α : Type} (f : State → α → State) (l : List α) {s : State} (h : ∀ t x, Mem.wf t.localMem = true → Mem.wf (f t x).localMem = true)
    (hm : Mem.wf s.localMem = true) : Mem.wf (l.foldl f s).localMem = true :=
  foldl_keep (fun t => Mem.wf t.localMem = true) f h l hm

section
variable {s : State} (hm : Mem.wf s.localMem = true)
include hm

/-! ## Orders that end VOID, are withdrawn or disabled -/

@[simp] theorem State.writeStreamHeader_memWf (k : Nat) (w : Work) (status : Nat) :
    Mem.wf (s.writeStreamHeader k w status).localMem = true := by simp [hm, State.writeStreamHeader]
@[simp] theorem State.voidWatch_memWf (k : Nat) : Mem.wf (s.voidWatch k).localMem = true := by
  unfold State.voidWatch
  split <;> simp [hm]

@[simp] theorem State.voidWork_memWf (k cause : Nat) : Mem.wf (s.voidWork k cause).localMem = true := by
  unfold State.voidWork
  split
  · exact hm
  · -- What `simp` leaves is the end of a watch, a match on the order after its change.
    simp [hm]
    split <;> simp [hm]

@[simp] theorem State.voidAll_memWf (ks : List Nat) (cause : Nat) : Mem.wf (s.voidAll ks cause).localMem = true :=
  foldl_memWf _ _ (fun _ _ ht => State.voidWork_memWf ht ..) hm
@[simp] theorem State.disableWork_memWf (k : Nat) (w : Work) : Mem.wf (s.disableWork k w).localMem = true := by
  unfold State.disableWork
  split <;> simp [hm]

@[simp] theorem State.startDisable_memWf (f : Nat) (except : Option Nat) : Mem.wf (s.startDisable f except).localMem = true := by
  unfold State.startDisable
  refine foldl_memWf _ _ (fun _ _ ht => State.disableWork_memWf ht ..) ?_
  simp [hm]

/-! ## The host link -/

@[simp] theorem execRateDrop_memWf (speed width : Nat) : (memOf (execRateDrop speed width s)).all Mem.wf = true := by
  simp [hm, execRateDrop]
@[simp] theorem State.flrOne_memWf (f : Nat) : Mem.wf (s.flrOne f).localMem = true := by simp [hm, State.flrOne]
@[simp] theorem State.clearVfs_memWf : Mem.wf s.clearVfs.localMem = true :=
  foldl_memWf _ _ (fun t f ht => by simp [ht]) hm
@[simp] theorem State.flr_memWf (f : Nat) : Mem.wf (s.flr f).localMem = true := by simp [hm, State.flr]
@[simp] theorem execFunctionLevelReset_memWf (f : Nat) : (memOf (execFunctionLevelReset f s)).all Mem.wf = true := by
  simp [hm, execFunctionLevelReset]
@[simp] theorem execDlDown_memWf : (memOf (execDlDown s)).all Mem.wf = true := by simp [hm, execDlDown]
@[simp] theorem execVfEnableWrite_memWf (enable : Bool) : (memOf (execVfEnableWrite enable s)).all Mem.wf = true := by
  simp [hm, execVfEnableWrite]
@[simp] theorem execBusMasterClear_memWf (f : Nat) : (memOf (execBusMasterClear f s)).all Mem.wf = true := by
  simp [hm, execBusMasterClear]
@[simp] theorem execD3hotEntry_memWf (f : Nat) : (memOf (execD3hotEntry f s)).all Mem.wf = true := by simp [hm, execD3hotEntry]
@[simp] theorem execD3hotExit_memWf (f : Nat) : (memOf (execD3hotExit f s)).all Mem.wf = true := by simp [hm, execD3hotExit]
/-! ## Stalls and rings -/

@[simp] theorem State.dataReadFailed_memWf (k : Nat) : Mem.wf (s.dataReadFailed k).localMem = true := by
  unfold State.dataReadFailed
  repeat' split
  all_goals simp [hm]

@[simp] theorem execReadFailed_memWf (e : ReadFailure) (what : ReadKind) :
    (memOf (execReadFailed e what s)).all Mem.wf = true := by
  unfold execReadFailed
  split <;> simp [hm]

/-! ## Orders -/

@[simp] theorem State.onWork_memWf (k op : Nat) (f : Work → State) (h : ∀ w, Mem.wf (f w).localMem = true) :
    Mem.wf (s.onWork k op f).localMem = true :=
  s.onWork_keep (fun t => Mem.wf t.localMem = true) k op f hm fun w _ _ => h w

@[simp] theorem State.tollOrder_memWf (k op : Nat) (go : Work → State) (h : ∀ w, Mem.wf (go w).localMem = true) :
    Mem.wf (s.tollOrder k op go).localMem = true := by
  simp [State.tollOrder, hm, h]

@[simp] theorem execSegmentWrite_memWf (k : Nat) : (memOf (execSegmentWrite k s)).all Mem.wf = true := by
  simp [hm, execSegmentWrite]
@[simp] theorem execSegmentStream_memWf (k : Nat) (data : Bytes) :
    (memOf (execSegmentStream k data s)).all Mem.wf = true := by simp [hm, execSegmentStream]

@[simp] theorem execOrderDisable_memWf (k : Nat) : (memOf (execOrderDisable k s)).all Mem.wf = true := by
  simp [hm, execOrderDisable]

/-! ## Faults -/

@[simp] theorem State.voidFor_memWf (d : Detection) : Mem.wf (s.voidFor d).localMem = true := by simp [hm, State.voidFor]
@[simp] theorem execFaultDetection_memWf : (memOf (execFaultDetection s)).all Mem.wf = true := by
  unfold execFaultDetection
  split <;> simp [hm]

@[simp] theorem execFltDisable_memWf (f : Nat) : (memOf (execFltDisable f s)).all Mem.wf = true := by simp [hm, execFltDisable]
/-! ## Sequencers -/

@[simp] theorem State.onSeq_memWf (n : Nat) (f : Nat → Work → Seq → State) (h : ∀ k w q, Mem.wf (f k w q).localMem = true) :
    Mem.wf (s.onSeq n f).localMem = true :=
  s.onSeq_keep (fun t => Mem.wf t.localMem = true) n f hm fun k w _ _ => h k w _

@[simp] theorem State.instr_memWf (n op : Nat) (body : State → Nat → Work → Seq → Ins → State)
    (h : ∀ k w q i, Mem.wf (body s k w q i).localMem = true) : Mem.wf (s.instr n op body).localMem = true := by
  refine State.onSeq_memWf hm n _ fun k w q => ?_
  dsimp only
  repeat' split
  all_goals simp [hm, h]

@[simp] theorem State.spill_memWf (q : Seq) (d : Nat) : Mem.wf (s.spill q d).1.localMem = true := by
  simp [hm, State.spill]

@[simp] theorem execSeqCall_memWf (n : Nat) : (memOf (execSeqCall n s)).all Mem.wf = true := by
  refine State.instr_memWf hm _ _ _ fun k w q i => ?_
  dsimp only
  repeat' split
  all_goals simp [hm]

/-! ## Protocol lanes -/

@[simp] theorem State.writeLaneResults_memWf (w : Work) (void : Bool) (cause : Nat) :
    Mem.wf (s.writeLaneResults w void cause).localMem = true :=
  foldl_memWf _ _ (fun t p ht => by simp [ht]) hm

/-! ## Cycles -/

@[simp] theorem State.captureWrite_memWf (n : Nat) (w : Work) (row : Nat) (isTrigger : Bool) :
    Mem.wf (s.captureWrite n w row isTrigger).localMem = true := by
  unfold State.captureWrite
  dsimp only
  repeat' split
  all_goals simp [hm]

@[simp] theorem State.writeCapHeader_memWf (w : Work) (status : Nat) : Mem.wf (s.writeCapHeader w status).localMem = true := by
  simp [hm, State.writeCapHeader]

@[simp] theorem State.runCycle_memWf (n : Nat) (w : Work) (r : Run) (p : CyclePlan) (io : CycleIn) :
    Mem.wf (s.runCycle n w r p io).localMem = true := by
  -- The one write is that of the capture unit; what comes before and after leaves local memory.
  unfold State.runCycle
  extract_lets start s0 s1 acts quiet
  split
  rename_i s2 q2 h2
  extract_lets q3 s3 s4 s5 s6 s7 q7 s8
  have h5 : s5.localMem = s.localMem := by
    have e2 : s2.localMem = s1.localMem := by simpa using congrArg (·.1.localMem) h2.symm
    simp [s5, s4, s3, e2, s1, s0]
  have h6 : Mem.wf s6.localMem = true := by
    simp only [s6]
    split
    · simp [h5, hm]
    · split <;> simp [h5, hm]
  simp [s8, s7, h6]

@[simp] theorem execCycleStart_memWf (n : Nat) (io : CycleIn) : (memOf (execCycleStart n io s)).all Mem.wf = true := by
  refine State.onSeq_memWf hm _ _ fun k w q => ?_
  repeat' split
  all_goals simp [hm]

@[simp] theorem execBurstStart_memWf (k : Nat) : (memOf (execBurstStart k s)).all Mem.wf = true := by simp [hm, execBurstStart]

/-! ## Microcode -/

@[simp] theorem State.micro_memWf (n op : Nat) (body : State → Nat → Work → Seq → Uop → State × Option Nat)
    (h : ∀ t k w q u, Mem.wf t.localMem = true → Mem.wf (body t k w q u).1.localMem = true) : Mem.wf (s.micro n op body).localMem = true := by
  refine State.onSeq_memWf hm n _ fun k w q => ?_
  dsimp only
  repeat' split
  all_goals simp [hm, h]

@[simp] theorem execUopSpill_memWf (n : Nat) : (memOf (execUopSpill n s)).all Mem.wf = true :=
  State.micro_memWf hm _ _ _ fun t k w q u ht => by simp [ht]

@[simp] theorem State.openSlot_memWf (q : Seq) (d : Nat) : Mem.wf (s.openSlot q d).localMem = true := by simp [hm, State.openSlot]

@[simp] theorem execMicrowordFetchError_memWf (n : Nat) (corrected : Bool) :
    (memOf (execMicrowordFetchError n corrected s)).all Mem.wf = true := by
  unfold execMicrowordFetchError
  split
  · simp [hm]
  · refine State.onSeq_memWf hm _ _ fun k w q => ?_
    dsimp only
    repeat' split
    all_goals simp [hm]

/-! ## The Tally -/

@[simp] theorem State.storeRecord_memWf (c : ConcRec) : Mem.wf (s.storeRecord c).localMem = true := by
  unfold State.storeRecord
  dsimp only
  repeat' split
  all_goals simp [hm]

@[simp] theorem execStampRecordWrite_memWf (r : Nat) : (memOf (execStampRecordWrite r s)).all Mem.wf = true := by
  unfold execStampRecordWrite
  dsimp only
  repeat' split
  all_goals simp [hm]

@[simp] theorem State.openWatch_memWf (k : Nat) (w : Work) (t : Tu) : Mem.wf (s.openWatch k w t).localMem = true := by
  simp [hm, State.openWatch]

@[simp] theorem execWatchOpen_memWf (k : Nat) : (memOf (execWatchOpen k s)).all Mem.wf = true := by
  unfold execWatchOpen
  split <;> simp [hm]

@[simp] theorem State.closeWatch_memWf (k : Nat) (w : Work) (t : Tu) : Mem.wf (s.closeWatch k w t).localMem = true := by
  unfold State.closeWatch
  extract_lets s1 wt s2 s3 s4 wt' s5
  have h4 : Mem.wf s4.localMem = true := foldl_memWf _ _ (fun _ c ht => State.storeRecord_memWf ht c) (by simp [s3, s2, s1, hm])
  split <;> simp [s5, h4]

@[simp] theorem execWatchClose_memWf (k : Nat) : (memOf (execWatchClose k s)).all Mem.wf = true := by
  unfold execWatchClose
  repeat' split
  all_goals simp [hm]

@[simp] theorem execSsmsRunDone_memWf (row : Nat) (reps : List SsmsRep) :
    (memOf (execSsmsRunDone row reps s)).all Mem.wf = true := by
  unfold execSsmsRunDone
  split <;> simp [hm]

/-! ## Statistics -/

@[simp] theorem State.writeResult_memWf (m : Meas) (i : MeasIn) (cause : Nat) : Mem.wf (s.writeResult m i cause).localMem = true := by
  simp [hm, State.writeResult]

theorem foldl_writeResult_memWf (f : State → MeasIn) (cause : Nat) (ms : List Meas) :
    Mem.wf (ms.foldl (fun s m => s.writeResult m (f s) cause) s).localMem = true :=
  foldl_memWf _ _ (fun _ m ht => State.writeResult_memWf ht m _ _) hm

@[simp] theorem execMeasurementResults_memWf (k : Nat) : (memOf (execMeasurementResults k s)).all Mem.wf = true := by
  unfold execMeasurementResults
  split
  · split
    · simp [hm]
    · simp [foldl_writeResult_memWf hm (fun _ => _)]
  · simp [hm]

/-! ## Bursts -/

@[simp] theorem State.closeOutputs_memWf (w : Work) (status : Nat) : Mem.wf (s.closeOutputs w status).localMem = true := by
  unfold State.closeOutputs
  extract_lets q s1 s2 s3
  have h2 : Mem.wf s2.localMem = true := by
    simp only [s2]
    split <;> simp [s1, hm]
  have h3 : Mem.wf s3.localMem = true := by
    simp only [s3]
    split <;> simp [h2]
  simp [h3]
@[simp] theorem State.jointVoid_memWf (k cause : Nat) : Mem.wf (s.jointVoid k cause).localMem = true := by
  unfold State.jointVoid
  split <;> simp [hm]

@[simp] theorem execClosingIntervalEnd_memWf (k check : Nat) :
    (memOf (execClosingIntervalEnd k check s)).all Mem.wf = true := by simp [hm, execClosingIntervalEnd]
@[simp] theorem execVoidFinalReceipt_memWf (k : Nat) : (memOf (execVoidFinalReceipt k s)).all Mem.wf = true := by
  simp [hm, execVoidFinalReceipt]

/-! ## The Toll -/

@[simp] theorem execWindowStart_memWf (k : Nat) : (memOf (execWindowStart k s)).all Mem.wf = true := by
  unfold execWindowStart
  split <;> simp [hm]

/-! ## Device time and Ethernet -/

@[simp] theorem execPtpFrameReceive_memWf (n : Nat) (frame : Bytes) (fcs : Bool) (pcs : Nat) :
    (memOf (execPtpFrameReceive n frame fcs pcs s)).all Mem.wf = true := by
  unfold execPtpFrameReceive
  repeat' split
  all_goals simp [hm]

/-! ## Halls -/

@[simp] theorem State.endJoints_memWf (hit : Work → Bool) : Mem.wf (s.endJoints hit).localMem = true := by
  refine foldl_memWf _ _ (fun t x ht => ?_) hm
  repeat' split
  all_goals simp [ht]

@[simp] theorem State.hallLost_memWf : Mem.wf s.hallLost.localMem = true := by simp [hm, State.hallLost]
@[simp] theorem State.checkMaster_memWf : Mem.wf s.checkMaster.localMem = true := by simp [hm, State.checkMaster]
@[simp] theorem State.linkFails_memWf (l : Nat) : Mem.wf (s.linkFails l).localMem = true := by simp [hm, State.linkFails]
@[simp] theorem State.onMsg_memWf (mtype : Nat) (f : State → Nat → GslMsg → State)
    (h : ∀ t p m, Mem.wf t.localMem = true → Mem.wf (f t p m).localMem = true) : Mem.wf (s.onMsg mtype f).localMem = true := by
  unfold State.onMsg State.takeMsg
  cases s.gslIn.find? (·.2.mtype == mtype) <;> simp [hm, h]

@[simp] theorem execJointAbort_memWf : (memOf (execJointAbort s)).all Mem.wf = true := by
  refine State.onMsg_memWf hm _ _ fun t p m ht => ?_
  repeat' split
  all_goals simp [ht]

@[simp] theorem execVoidNotice_memWf : (memOf (execVoidNotice s)).all Mem.wf = true := by
  refine State.onMsg_memWf hm _ _ fun t p m ht => ?_
  repeat' split
  all_goals simp [ht]

@[simp] theorem execLinkDown_memWf : (memOf (execLinkDown s)).all Mem.wf = true := by
  refine State.onMsg_memWf hm _ _ fun t p m ht => ?_
  dsimp only
  split <;> simp [ht]
@[simp] theorem execLinkLoss_memWf (p : Nat) (los : Bool) : (memOf (execLinkLoss p los s)).all Mem.wf = true := by
  unfold execLinkLoss
  dsimp only
  repeat' split
  all_goals simp [hm]

@[simp] theorem execLinkDriftCheck_memWf (p : Nat) : (memOf (execLinkDriftCheck p s)).all Mem.wf = true := by
  unfold execLinkDriftCheck
  dsimp only
  repeat' split
  all_goals simp [hm]

@[simp] theorem State.roleWrite_memWf (p role : Nat) : Mem.wf (s.roleWrite p role).localMem = true := by
  unfold State.roleWrite
  dsimp only
  repeat' split
  all_goals simp [hm]

@[simp] theorem execPortRoleWrite_memWf (p : Nat) (v : Word) : (memOf (execPortRoleWrite p v s)).all Mem.wf = true := by
  simp [hm, execPortRoleWrite]
/-! ## The scheduler -/

@[simp] theorem State.dippedStart_memWf (k : Nat) : Mem.wf (s.dippedStart k).localMem = true := by
  unfold State.dippedStart
  split <;> simp [hm]

@[simp] theorem execItemDispatch_memWf (core : Nat) : (memOf (execItemDispatch core s)).all Mem.wf = true := by
  unfold execItemDispatch
  split <;> simp [hm]

/-! ## Graphs -/

@[simp] theorem execGraphDispatch_memWf : (memOf (execGraphDispatch s)).all Mem.wf = true := by
  unfold execGraphDispatch
  split <;> simp [hm]

@[simp] theorem State.runNode_memWf (k op : Nat) (go : Node → Bytes → Bytes × Nat) : Mem.wf (s.runNode k op go).localMem = true := by
  simp [hm, State.runNode]
@[simp] theorem execGraphSum_memWf (k : Nat) : (memOf (execGraphSum k s)).all Mem.wf = true := by simp [hm, execGraphSum]
@[simp] theorem execGraphOr_memWf (k : Nat) : (memOf (execGraphOr k s)).all Mem.wf = true := by simp [hm, execGraphOr]
@[simp] theorem execGraphPopcount_memWf (k : Nat) : (memOf (execGraphPopcount k s)).all Mem.wf = true := by
  simp [hm, execGraphPopcount]
@[simp] theorem execGraphRuns_memWf (k : Nat) : (memOf (execGraphRuns k s)).all Mem.wf = true := by simp [hm, execGraphRuns]
@[simp] theorem execGraphSelect_memWf (k : Nat) : (memOf (execGraphSelect k s)).all Mem.wf = true := by
  simp [hm, execGraphSelect]
@[simp] theorem execGraphStats_memWf (k : Nat) : (memOf (execGraphStats k s)).all Mem.wf = true := by simp [hm, execGraphStats]
@[simp] theorem execGraphCopy_memWf (k : Nat) : (memOf (execGraphCopy k s)).all Mem.wf = true := by simp [hm, execGraphCopy]
@[simp] theorem execGraphEnd_memWf (k : Nat) : (memOf (execGraphEnd k s)).all Mem.wf = true := by
  refine State.onWork_memWf hm _ _ _ fun w => ?_
  have hr := foldl_writeResult_memWf hm (·.offlineIn w) w.cause w.offlineMeasures
  dsimp only
  repeat' split
  all_goals simp [hm, hr]

/-! ## Coherence -/

@[simp] theorem State.returnLine_memWf (line : Nat) (data : Bytes) : Mem.wf (s.returnLine line data).localMem = true := by
  simp [hm, State.returnLine]

@[simp] theorem execWriteBack_memWf (core line : Nat) (data : Bytes) :
    (memOf (execWriteBack core line data s)).all Mem.wf = true := by simp [hm, execWriteBack]
@[simp] theorem execRecallAnswer_memWf (line : Nat) (data : Bytes) :
    (memOf (execRecallAnswer line data s)).all Mem.wf = true := by simp [hm, execRecallAnswer]

/-! ## Local memory -/

@[simp] theorem execBar4Write_memWf (x : Nat) (data : Bytes) : (memOf (execBar4Write x data s)).all Mem.wf = true := by
  simp [hm, execBar4Write]
/-! ## What a reset leaves -/

omit hm in
@[simp] theorem State.resetDevice_memWf : Mem.wf s.resetDevice.localMem = true := by
  unfold State.resetDevice
  extract_lets r t t1 t2
  have h : r.localMem = [] := rfl
  simp [t2, t1, t, h]

/-! ## Power -/

omit hm in
@[simp] theorem State.enterP4_memWf : Mem.wf s.enterP4.localMem = true := by simp [State.enterP4]
@[simp] theorem State.choosePower_memWf : Mem.wf s.choosePower.localMem = true := by simp [hm, State.choosePower]
@[simp] theorem execPowerStateSelect_memWf : (memOf (execPowerStateSelect s)).all Mem.wf = true := by
  simp [hm, execPowerStateSelect]

@[simp] theorem execP4Req_memWf : (memOf (execP4Req s)).all Mem.wf = true := by simp [hm, execP4Req]

@[simp] theorem State.rowGoesOff_memWf (r : Nat) : Mem.wf (s.rowGoesOff r).localMem = true := by simp [hm, State.rowGoesOff]
@[simp] theorem execRowOffWrite_memWf (v : Word) : (memOf (execRowOffWrite v s)).all Mem.wf = true := by
  have hoff := fun (u : State) (hu : Mem.wf u.localMem = true) (rs : List Nat) =>
    foldl_memWf (fun s r => s.rowGoesOff r) rs (fun _ r ht => State.rowGoesOff_memWf ht r) hu
  simp [hm, hoff, execRowOffWrite]
/-! ## Resets and boot -/

omit hm in
/-- R604: boot step 4 writes zeros to every byte. -/
@[simp] theorem State.bootStep4_localMem : s.bootStep4.localMem = [] := rfl

@[simp] theorem State.bootOn_memWf (img : Bytes) (b : BootIn) : Mem.wf (s.bootOn img b).localMem = true := by simp [hm, State.bootOn]
@[simp] theorem execFirmwareCheckDone_memWf (img : Bytes) (readOk : Bool) (b : BootIn) :
    (memOf (execFirmwareCheckDone img readOk b s)).all Mem.wf = true := by simp [hm, execFirmwareCheckDone]
@[simp] theorem execReferenceLoss_memWf (refin : Bool) : (memOf (execReferenceLoss refin s)).all Mem.wf = true := by
  simp [hm, execReferenceLoss]
@[simp] theorem execResetAssert_memWf : (memOf (execResetAssert s)).all Mem.wf = true := by
  unfold execResetAssert
  split <;> simp [hm]

/-! ## Register accesses -/

@[simp] theorem writeSpecial_memWf {a : Agent} {r : Reg} {v : Word} {o : Host.Outcome State Fault Refusal}
    (h : writeSpecial a r v s = some o) : (memOf o).all Mem.wf = true := by
  unfold writeSpecial at h
  dsimp only at h
  split at h
  case h_61 | h_62 => split at h <;> cases h <;> simp [hm]
  all_goals cases h
  all_goals simp [hm]

@[simp] theorem writeReg_memWf (a : Agent) (r : Reg) (v : Word) : (memOf (writeReg a r v s)).all Mem.wf = true := by
  unfold writeReg
  split
  · exact writeSpecial_memWf hm ‹_›
  · simp [hm]

@[simp] theorem configWrite_memWf (fn : Nat) (c : ConfigReg) (v : Word) :
    (memOf (configWrite fn c v s)).all Mem.wf = true := by
  unfold configWrite
  split <;> simp [hm]

@[simp] theorem execRegisterWrite_memWf (t : Target) (v : Word) : (memOf (execRegisterWrite t v s)).all Mem.wf = true := by
  unfold execRegisterWrite
  dsimp only
  repeat' split
  all_goals simp [hm]

@[simp] theorem readAt_memWf (t : Target) : (memOf (readAt t s)).all Mem.wf = true := by simp [hm]

theorem inOrder_memWf (writes : List (State → Host.Outcome State Fault Refusal))
    (hs : ∀ f ∈ writes, ∀ t, Mem.wf t.localMem = true → (memOf (f t)).all Mem.wf = true) : (memOf (inOrder writes s)).all Mem.wf = true := by
  induction writes generalizing s with
  | nil => simpa [inOrder] using hm
  | cons f fs ih =>
    have hf := hs f List.mem_cons_self s hm
    unfold inOrder
    split
    · rename_i u hu
      rw [hu] at hf
      exact ih hf fun g hg => hs g (List.mem_cons_of_mem f hg)
    · exact hf

@[simp] theorem execBar2WideAccess_memWf (fn rid off n : Nat) (write : Bool) (data : List Word) :
    (memOf (execBar2WideAccess fn rid off n write data s)).all Mem.wf = true := by
  unfold execBar2WideAccess
  split
  · simp [hm]
  · split
    · refine inOrder_memWf hm _ fun f hf t ht => ?_
      obtain ⟨p, -, rfl⟩ := List.mem_map.mp hf
      simp [ht]
    · refine (congrArg (Option.all Mem.wf) (gather_localMem _ _ _ fun f hf t => ?_)).trans (by simp [hm])
      obtain ⟨i, -, rfl⟩ := List.mem_map.mp hf
      simp

@[simp] theorem execUnalignedAccess_memWf (t : Target) (n : Nat) (write : Option (List Word)) :
    (memOf (execUnalignedAccess t n write s)).all Mem.wf = true := by
  unfold execUnalignedAccess
  repeat' split
  all_goals simp [hm]

end

/-! ## The five commands on the Ledger -/

@[simp] theorem State.startWrite_localMem (s : State) (e : LedgerEv) : (s.startWrite e).localMem = s.localMem := by
  unfold State.startWrite
  repeat' split
  all_goals simp

@[simp] theorem State.overrunIfDue_localMem (s : State) : s.overrunIfDue.localMem = s.localMem := by
  unfold State.overrunIfDue
  dsimp only
  split <;> simp

@[simp] theorem State.cutLedger_localMem (s : State) (n : Nat) : (s.cutLedger n).localMem = s.localMem := by
  unfold State.cutLedger
  dsimp only
  repeat' split
  all_goals simp

@[simp] theorem State.loseKeeper_localMem (s : State) : s.loseKeeper.localMem = s.localMem := rfl

@[simp] theorem State.sealTorn_localMem (s : State) : s.sealTorn.localMem = s.localMem := by
  unfold State.sealTorn
  split <;> simp

@[simp] theorem execLedgerEvent_localMem (s : State) : memOf (execLedgerEvent s) = some s.localMem := by
  unfold execLedgerEvent
  split <;> simp

@[simp] theorem execLedgerTake_localMem (s : State) : memOf (execLedgerTake s) = some s.localMem := by
  unfold execLedgerTake
  split <;> simp

@[simp] theorem execLedgerWriteDone_localMem (s : State) : memOf (execLedgerWriteDone s) = some s.localMem := by
  unfold execLedgerWriteDone
  split <;> simp

@[simp] theorem execPowerOn_localMem (lost : Bool) (cut : Option Nat) (s : State) : memOf (execPowerOn lost cut s) = some s.localMem := by
  cases cut <;> simp [execPowerOn]

@[simp] theorem execResetRelease_localMem (src pos : Nat) (cand ref : Bool) (s : State) :
    memOf (execResetRelease src cand pos ref s) = some s.localMem := by
  unfold execResetRelease
  split
  · simp
  split
  · simp
  extract_lets strapped caused counted watched booting waiting
  have hbooting : booting.localMem = s.localMem := by simp [booting, watched, counted, caused, strapped]
  have hwaiting : waiting.localMem = s.localMem := by simp [waiting, hbooting]
  split <;> simp [hwaiting]

/-! ## Every command -/

theorem exec_memWf {s : State} (c : Instr) (hm : Mem.wf s.localMem = true) : (memOf (exec c s)).all Mem.wf = true := by
  cases c
  all_goals simp [exec, hm]

/-- Settles O54: a step is a command on the queue's rest or the idle tick. -/
theorem memoryStaysCanonical : Obligations.MemoryStaysCanonical := by
  unfold Obligations.MemoryStaysCanonical
  intro s t hm h
  unfold step at h
  split at h
  · rename_i c rest _
    have hc := exec_memWf (s := { s with pending := rest }) c hm
    rw [h] at hc
    exact hc
  · cases h
    split <;> exact hm

end Sys2Proof.Machine
end

section
/-!
SUPPORT. Timing commits (O8; R92 to R97, R385): what a request does, what the copy of the banks leaves, and the effect of a commit.
-/

namespace Sys2Proof.Machine

/-! ## A request (R93, R94, R97) -/

section
variable {s : State} {n : Nat}

@[simp] theorem tsStatus_of_lt (h : n < 32) (f : Fld) : tsStatus n f = f := if_pos h

@[simp] theorem tsIdx_of_lt (h : n < 32) : tsIdx n = n := if_pos h

/-- R97: a request while a commit is pending joins it. -/
theorem State.requestTiming_of_pending {p : TsCommit} (w : Option Nat) (h : Store.get? s.tsPending n = some p) :
    s.requestTiming n w = ({ s with tsPending := Store.put s.tsPending n { p with works := p.works ++ w.toList } }, true) := by
  simp only [State.requestTiming, h]

/-- R94: a request without a pending commit, by the outcome of the checks. -/
theorem State.requestTiming_of_checks {r ch st : Nat} (w : Option Nat) (h : Store.get? s.tsPending n = none)
    (hc : s.timingChecks (if n < 32 then s.owned n else s.unowned) n = (r, ch, st)) :
    s.requestTiming n w =
      if r = 0 then
        ({ (s.set (tsStatus n F.TSBANK_STATUS_n_RESULT) r (tsIdx n)).setBit (tsStatus n F.TSBANK_STATUS_n_PENDING) (tsIdx n) with
           tsPending := Store.put s.tsPending n { accept := s.fr, chans := if n < 32 then s.owned n else s.unowned, works := w.toList } }, true)
      else
        ((((s.set (tsStatus n F.TSBANK_STATUS_n_RESULT) r (tsIdx n)).set (tsStatus n F.TSBANK_STATUS_n_FAIL_CH) ch (tsIdx n)).set
          (tsStatus n F.TSBANK_STATUS_n_FAIL_SET) st (tsIdx n)).setBit (tsStatus n F.TSBANK_STATUS_n_REJECT) (tsIdx n), false) := by
  simp only [State.requestTiming, h, hc]
  rfl

theorem execTsbankCommit_of_booted (hb : s.booted = true) (hn : n < 32) : execTsbankCommit n s = .next (s.requestTiming n none).1 :=
  if_neg (by simp [hb, hn])

theorem execTsbankCommitFree_of_booted (hb : s.booted = true) : execTsbankCommitFree s = .next (s.requestTiming 32 none).1 := if_pos hb

end

/-! ## The copy of the banks (R92) -/

theorem Store.get?_append {κ α : Type} [DecidableEq κ] (l m : Store κ α) (k : κ) :
    Store.get? (l ++ m) k = (Store.get? l k).or (Store.get? m k) := by
  induction l with
  | nil => rfl
  | cons p t ih =>
    obtain ⟨a, b⟩ := p
    by_cases h : a = k <;> simp [Store.get?, h, ih]

theorem Store.get?_filter_key {κ α : Type} [DecidableEq κ] (p : κ → Bool) (m : Store κ α) (k : κ) :
    Store.get? (m.filter fun x => p x.1) k = if p k then Store.get? m k else none := by
  induction m with
  | nil => simp [Store.get?]
  | cons x t ih =>
    obtain ⟨a, b⟩ := x
    by_cases ha : a = k
    · subst ha
      by_cases hp : p a <;> simp [hp, Store.get?, ih]
    · by_cases hp : p a <;> simp [hp, Store.get?, ih, ha]

/-- A store of entries whose keys are all renamed to another family, read at that family. -/
theorem Store.get?_map_rename {m : Store Reg Word} {a b : RegName} (h : ∀ x ∈ m, x.1.name = a) (i j : Nat) :
    Store.get? (m.map fun x => ({ x.1 with name := b }, x.2)) ⟨b, i, j⟩ = Store.get? m ⟨a, i, j⟩ := by
  induction m with
  | nil => rfl
  | cons x t ih =>
    obtain ⟨⟨n, i', j'⟩, v⟩ := x
    obtain rfl : n = a := h _ List.mem_cons_self
    simp [Store.get?, ih fun y hy => h y (List.mem_cons_of_mem _ hy)]

/-- The same, read at any other family. -/
theorem Store.get?_map_rename_of_ne {m : Store Reg Word} {b : RegName} {r : Reg} (h : r.name ≠ b) :
    Store.get? (m.map fun x => ({ x.1 with name := b }, x.2)) r = none := by
  induction m with
  | nil => rfl
  | cons x t ih =>
    have hne : ({ x.1 with name := b } : Reg) ≠ r := fun e => h (congrArg Reg.name e).symm
    simp [Store.get?, hne, ih]

theorem name_of_stage_filter {m : Store Reg Word} {cs : List Nat} {x : Reg × Word}
    (h : x ∈ m.filter fun p => p.1.name == .TSBANK_STAGE && cs.contains p.1.i) : x.1.name = .TSBANK_STAGE := by
  have h2 := (List.mem_filter.mp h).2
  rw [Bool.and_eq_true, beq_iff_eq] at h2
  exact h2.1

/-- R92: the registers after the copy of the banks of some channels. -/
theorem State.rd_copyBank (s : State) (cs : List Nat) (r : Reg) :
    (s.copyBank cs).rd r = if r.name = .TSBANK_LIVE ∧ r.i ∈ cs then s.rd ⟨.TSBANK_STAGE, r.i, r.j⟩ else s.rd r := by
  obtain ⟨n, i, j⟩ := r
  have hlive := Store.get?_filter_key (fun r : Reg => !(r.name == .TSBANK_LIVE && cs.contains r.i)) s.regs ⟨n, i, j⟩
  have hstage := Store.get?_filter_key (fun r : Reg => r.name == .TSBANK_STAGE && cs.contains r.i) s.regs ⟨.TSBANK_STAGE, i, j⟩
  simp only [State.rd, State.copyBank, Store.getD, Store.get?_append, hlive]
  by_cases hn : n = .TSBANK_LIVE
  · subst hn
    rw [Store.get?_map_rename (a := .TSBANK_STAGE) (fun x hx => name_of_stage_filter hx), hstage]
    by_cases hc : i ∈ cs
    · simp [hc, resetWord]; rfl
    · simp [hc]
  · rw [Store.get?_map_rename_of_ne hn]
    simp [hn]

/-! ## The effect of a commit (R92, R95) -/

theorem State.rd_wr80 (s : State) (a b c : RegName) (i v : Nat) (r : Reg) (hb : r.name ≠ b) (hc : r.name ≠ c) :
    (s.wr80 a b c i v).rd r = if r = ⟨a, i, 0⟩ then BitVec.ofNat 32 v else s.rd r := by
  have hb' : r ≠ ⟨b, i, 0⟩ := fun e => hb (congrArg Reg.name e)
  have hc' : r ≠ ⟨c, i, 0⟩ := fun e => hc (congrArg Reg.name e)
  simp [State.wr80, hb', hc']

/-- The state in which a commit has taken effect at `t`, before the receipts of the orders that wait for it. -/
def State.tsTaken (s : State) (n : Nat) (p : TsCommit) (t : Tu) : State :=
  let s := if (s.seqSt n).cycling ∧ n < 32 then s else s.advanceTo t
  let s := { s.copyBank p.chans with tsPending := Store.del s.tsPending n }
  let i := tsIdx n
  let s := (s.clrBit (tsStatus n F.TSBANK_STATUS_n_PENDING) i).setBit (tsStatus n F.TSBANK_STATUS_n_DONE) i
  if n < 32 then s.wr80 .TSBANK_CTIME_0_n .TSBANK_CTIME_1_n .TSBANK_CTIME_2_n n (t % 2 ^ 80) else s

section
variable {s : State} {n : Nat} {p : TsCommit} {t : Tu}

theorem execTimingCommitEffect_eq (hp : Store.get? s.tsPending n = some p) (ht : s.tsEffect n p = some t) :
    execTimingCommitEffect n s =
      .next (p.works.foldl (fun v k => v.finalReceipt k Status.complete 0 (leBytes 0 3 ++ leBytes (v.dt80 t) 10)) (s.tsTaken n p t)) := by
  simp only [execTimingCommitEffect, hp, ht]
  rfl

theorem State.fr_tsTaken : (s.tsTaken n p t).fr = if n < 32 ∧ (s.seqSt n).cycling = true then s.fr else max s.fr t := by
  by_cases hn : n < 32 <;> by_cases hc : (s.seqSt n).cycling = true <;> simp [State.tsTaken, hn, hc] <;> rfl

theorem State.tsPending_tsTaken : (s.tsTaken n p t).tsPending = Store.del s.tsPending n := by
  by_cases hn : n < 32 <;> by_cases hc : (s.seqSt n).cycling = true <;> simp [State.tsTaken, hn, hc] <;> rfl

theorem State.mem_tsTaken : (s.tsTaken n p t).mem = s.mem := by
  by_cases hn : n < 32 <;> by_cases hc : (s.seqSt n).cycling = true <;> simp only [State.tsTaken, hn, hc, and_true, and_false, if_true, if_false] <;> rfl

theorem tsStatus_reg (n : Nat) (f : Fld) : (tsStatus n f).reg = f.reg ∨ (tsStatus n f).reg = .TSBANK_STATUS_FREE := by
  unfold tsStatus; split
  · exact .inl rfl
  · exact .inr rfl

theorem tsStatus_ne_ctime (n : Nat) (f : Fld) (hf : f.reg = .TSBANK_STATUS_n) (i : Nat) :
    (⟨(tsStatus n f).reg, i, 0⟩ : Reg).name ≠ .TSBANK_CTIME_0_n ∧ (⟨(tsStatus n f).reg, i, 0⟩ : Reg).name ≠ .TSBANK_CTIME_1_n ∧
      (⟨(tsStatus n f).reg, i, 0⟩ : Reg).name ≠ .TSBANK_CTIME_2_n := by
  rcases tsStatus_reg n f with e | e
  · rw [e, hf]; simp
  · rw [e]; simp

theorem tsStatus_place (n : Nat) (f : Fld) : (tsStatus n f).lsb = f.lsb ∧ (tsStatus n f).width = f.width := by
  unfold tsStatus; split <;> exact ⟨rfl, rfl⟩

theorem State.rd_setBit_of_ne (s : State) (f : Fld) (i j : Nat) (r : Reg) (h : r.name ≠ f.reg) : (s.setBit f i j).rd r = s.rd r :=
  s.rd_set_of_ne f 1 i j r h

theorem State.rd_clrBit_of_ne (s : State) (f : Fld) (i j : Nat) (r : Reg) (h : r.name ≠ f.reg) : (s.clrBit f i j).rd r = s.rd r :=
  s.rd_set_of_ne f 0 i j r h

theorem State.rd_wr80_of_ne (s : State) (a b c : RegName) (i v : Nat) (r : Reg) (ha : r.name ≠ a) (hb : r.name ≠ b) (hc : r.name ≠ c) :
    (s.wr80 a b c i v).rd r = s.rd r := by
  rw [s.rd_wr80 a b c i v r hb hc, if_neg fun e => ha (congrArg Reg.name e)]

/-- The status of the target once its commit has taken effect, before CTIME. -/
theorem State.rd_tsTaken_of_ne (r : Reg)
    (h : r.name ≠ .TSBANK_CTIME_0_n ∧ r.name ≠ .TSBANK_CTIME_1_n ∧ r.name ≠ .TSBANK_CTIME_2_n) :
    (s.tsTaken n p t).rd r =
      (((s.copyBank p.chans).clrBit (tsStatus n F.TSBANK_STATUS_n_PENDING) (tsIdx n)).setBit (tsStatus n F.TSBANK_STATUS_n_DONE) (tsIdx n)).rd r := by
  obtain ⟨h0, h1, h2⟩ := h
  by_cases hn : n < 32 <;> by_cases hc : (s.seqSt n).cycling = true <;>
    simp only [State.tsTaken, hn, hc, and_true, and_false, if_true, if_false, Bool.false_eq_true, State.rd_wr80_of_ne _ _ _ _ _ _ r h0 h1 h2] <;> rfl

/-- The timing banks after a commit's effect are those after the copy. -/
theorem State.rd_tsTaken_bank (r : Reg) (h : r.name = .TSBANK_STAGE ∨ r.name = .TSBANK_LIVE) :
    (s.tsTaken n p t).rd r = (s.copyBank p.chans).rd r := by
  have hs (f : Fld) (hf : f.reg = .TSBANK_STATUS_n) : r.name ≠ (tsStatus n f).reg := by
    rcases tsStatus_reg n f with e | e <;> rw [e] <;> (try rw [hf]) <;> rcases h with h | h <;> rw [h] <;> decide
  rw [State.rd_tsTaken_of_ne r (by rcases h with h | h <;> rw [h] <;> decide), State.rd_setBit_of_ne _ _ _ _ _ (hs _ rfl),
    State.rd_clrBit_of_ne _ _ _ _ _ (hs _ rfl)]

theorem State.bit_pending_tsTaken : (s.tsTaken n p t).bit (tsStatus n F.TSBANK_STATUS_n_PENDING) (tsIdx n) = false := by
  have hp := tsStatus_place n F.TSBANK_STATUS_n_PENDING
  have hd := tsStatus_place n F.TSBANK_STATUS_n_DONE
  rw [State.bit_congr (State.rd_tsTaken_of_ne _ (tsStatus_ne_ctime n _ rfl _)),
    State.bit_setBit_fld _ _ _ _ _ _ _ (by rw [hd.1, hd.2]; decide) (by rw [hp.1, hp.2, hd.1, hd.2]; decide),
    State.bit_clrBit _ _ _ _ (by rw [hp.1, hp.2]; decide)]

theorem State.bit_done_tsTaken : (s.tsTaken n p t).bit (tsStatus n F.TSBANK_STATUS_n_DONE) (tsIdx n) = true := by
  have hd := tsStatus_place n F.TSBANK_STATUS_n_DONE
  rw [State.bit_congr (State.rd_tsTaken_of_ne _ (tsStatus_ne_ctime n _ rfl _)),
    State.bit_setBit _ _ _ _ (by rw [hd.1, hd.2]; decide) (by rw [hd.2]; decide)]

theorem ofNat_mod_two_pow_80 (t : Nat) : BitVec.ofNat 32 (t % 2 ^ 80) = BitVec.ofNat 32 t :=
  BitVec.eq_of_toNat_eq (by simp only [BitVec.toNat_ofNat]; omega)

theorem State.rd_ctime_tsTaken (hn : n < 32) : (s.tsTaken n p t).rd ⟨.TSBANK_CTIME_0_n, n, 0⟩ = BitVec.ofNat 32 t := by
  simp only [State.tsTaken, if_pos hn]
  rw [State.rd_wr80 _ _ _ _ _ _ _ (by simp) (by simp), if_pos rfl, ofNat_mod_two_pow_80]

end

/-! ## A staged word, and the order TIMING_COMMIT -/

section
variable {s : State}

theorem execTsbankStageWrite_eq {c t w : Nat} (v : Word) (hb : s.booted = true) (hc : c < 256) (ht : t < 32) (hw : w < 8) :
    execTsbankStageWrite c t w v s = .next
      (match s.tsPending.find? fun p => p.2.chans.contains c with
      | some p => s.setBit (tsStatus p.1 F.TSBANK_STATUS_n_STAGE_BLOCKED) (tsIdx p.1)
      | none => s.wr ⟨.TSBANK_STAGE, c, 8 * t + w⟩ (if w = 7 then v &&& 0x1F#32 else v)) := by
  rw [execTsbankStageWrite, if_neg (by simp [hb, hc, ht, hw])]
  cases h : s.tsPending.find? fun p => p.2.chans.contains c with
  | none => rfl
  | some p => rfl

theorem execTimingCommit_accepted {k : Nat} {w : Work} (h : s.work? k = some w) (ho : w.opcode = Op.timingCommit) (hr : w.stage = .routed)
    (ha : (s.requestTiming w.tsTarget (some k)).2 = true) :
    execTimingCommit k s = .next ((s.requestTiming w.tsTarget (some k)).1.modWork k fun w => { w with stage := .running }) := by
  simp [execTimingCommit, s.onWork_eq _ _ _ h ho, hr, ha]

theorem execTimingCommit_rejected {k : Nat} {w : Work} (h : s.work? k = some w) (ho : w.opcode = Op.timingCommit) (hr : w.stage = .routed)
    (hn : w.tsTarget < 32) (ha : (s.requestTiming w.tsTarget (some k)).2 = false) :
    execTimingCommit k s = .next ((s.requestTiming w.tsTarget (some k)).1.finalReceipt k Status.complete 0
      ([F.TSBANK_STATUS_n_RESULT, F.TSBANK_STATUS_n_FAIL_CH, F.TSBANK_STATUS_n_FAIL_SET].flatMap fun f =>
        leBytes ((s.requestTiming w.tsTarget (some k)).1.get f w.tsTarget) 1)) := by
  simp [execTimingCommit, s.onWork_eq _ _ _ h ho, hr, hn, ha, State.get]
  rfl

end

/-- Settles O8: each command by the rule of its function above; the banks after an effect are read with `State.rd_copyBank`. -/
theorem timingCommits : Obligations.TimingCommits := by
  unfold Obligations.TimingCommits
  refine ⟨?seqRequest, ?seqMerge, ?freeRequest, ?effect, ?stage, ?accepted, ?rejected, ?drift⟩
  case seqRequest =>
    intro n r ch st s hb hn hp hc
    have hc' : s.timingChecks (if n < 32 then s.owned n else s.unowned) n = (r, ch, st) := by rwa [if_pos hn]
    rw [show exec (.tsbankCommit n) s = execTsbankCommit n s from rfl, execTsbankCommit_of_booted hb hn,
      State.requestTiming_of_checks none hp hc']
    by_cases h : r = 0 <;> simp [h, hn]
  case seqMerge =>
    intro n p s hb hn hp
    rw [show exec (.tsbankCommit n) s = execTsbankCommit n s from rfl, execTsbankCommit_of_booted hb hn, State.requestTiming_of_pending none hp]
    simp
  case freeRequest =>
    intro r ch st s hb hp hc
    rw [show exec .tsbankCommitFree s = execTsbankCommitFree s from rfl, execTsbankCommitFree_of_booted hb,
      State.requestTiming_of_checks none hp hc]
    by_cases h : r = 0 <;> simp [h, tsIdx]
  case effect =>
    intro n t p s _ hp ht
    refine ⟨s.tsTaken n p t, execTimingCommitEffect_eq hp ht, State.fr_tsTaken, ?_, State.bit_pending_tsTaken, State.bit_done_tsTaken,
      State.mem_tsTaken, State.rd_ctime_tsTaken, fun c j => ?_, fun c j hc => ?_, fun c j hc => ?_⟩
    · rw [State.tsPending_tsTaken, Store.get?_del, if_pos rfl]
    · rw [State.rd_tsTaken_bank _ (.inl rfl), State.rd_copyBank, if_neg (by simp)]
    · rw [State.rd_tsTaken_bank _ (.inr rfl), State.rd_copyBank, if_pos ⟨rfl, hc⟩]
    · rw [State.rd_tsTaken_bank _ (.inr rfl), State.rd_copyBank, if_neg fun h => hc h.2]
  case stage => exact fun c t w v s => execTsbankStageWrite_eq v
  case accepted => exact fun k w s => execTimingCommit_accepted
  case rejected => exact fun k w s => execTimingCommit_rejected
  case drift =>
    intro stack n s hn
    cases stack <;> simp [exec, execDriftDetection, Nat.not_le.mpr hn]

end Sys2Proof.Machine
end

section
/-!
SUPPORT. The instructions that emit cycles (O9; R142, R143, R150 to R156): what a due one hands over, and how BRFAIL and MATCH decide.
-/

namespace Sys2Proof.Machine

section
variable {s : State} {n k : Nat} {w : Work} {q : Seq} {i : Ins}

theorem execSeqVec_due (h : dueIns s n 0x01 = some (k, w, q, i)) :
    execSeqVec n s = .next (if s.rowsFit n w (i.mod == 1) i.z i.y then
      s.setSeq n (q.emit { kind := .vec, seg := i.x, row := i.z, form := i.mod == 1, left := i.y }) else s.stopBurst n k 0x207) := by
  rw [execSeqVec, s.instr_due _ _ _ h]
  by_cases hr : s.rowsFit n w (i.mod == 1) i.z i.y = true <;> simp [hr]

theorem execSeqRepeat_due (h : dueIns s n 0x02 = some (k, w, q, i)) :
    execSeqRepeat n s = .next (if s.rowsFit n w (i.mod == 1) i.z 1 then
      s.setSeq n (q.emit { kind := .repeat_, seg := i.x, row := i.z, form := i.mod == 1, left := i.y }) else s.stopBurst n k 0x207) := by
  rw [execSeqRepeat, s.instr_due _ _ _ h]
  by_cases hr : s.rowsFit n w (i.mod == 1) i.z 1 = true <;> simp [hr]

theorem execSeqShift_due (h : dueIns s n 0x0B = some (k, w, q, i)) :
    execSeqShift n s = .next (if s.rowsFit n w false (bitsOf i.z 24 24) 1 then
      s.setSeq n (q.emit { kind := .shift, seg := i.x, row := bitsOf i.z 24 24, chainRow := bitsOf i.z 0 24, left := i.y })
      else s.stopBurst n k 0x207) := by
  rw [execSeqShift, s.instr_due _ _ _ h]
  by_cases hr : s.rowsFit n w false (bitsOf i.z 24 24) 1 = true <;> simp [hr]

/-- BRFAIL first emits the quiet cycles that the outcomes take. -/
theorem execBrfail_due (h : dueIns s n 0x09 = some (k, w, q, i)) (hb : (s.seqSt n).brf = none) (hp : s.periodNow n q ≠ 0) :
    execBrfail n s = .next (s.setSeq n { q.emit { kind := .quiet, left := quietCount outcomeLead (s.periodNow n q) } with
      brf := some { sites := i.mod % 4, invert := bitOf i.mod 2, clear := bitOf i.mod 3, seg := i.x, idx := i.y }, period := s.periodNow n q }) := by
  simp only [execBrfail, hb]
  split
  · rename_i hnone; cases hnone
  · rw [s.instr_due _ _ _ h, if_neg hp]

/-- BRFAIL decides on the active sites and the fail set. -/
theorem execBrfail_decides {b : BrFail} (hp : (s.seqSt n).phase = .brDecide) (hb : (s.seqSt n).brf = some b) :
    execBrfail n s = .next ((s.setSeq n
      (let r := brfailTaken b.sites b.invert (s.seqSt n).active (s.seqSt n).lfail
       let q := { s.seqSt n with phase := .ready, brf := none, active := r.1, retired := (s.seqSt n).retired ||| ((s.seqSt n).active &&& ~~~r.1),
                                 lfail := if b.clear then 0 else (s.seqSt n).lfail }
       if r.2 then { q with nseg := b.seg, nidx := b.idx } else q)).refreshSites n) := by
  simp only [execBrfail, hp, hb]
  rfl

theorem execSeqMatch_due (h : dueIns s n 0x08 = some (k, w, q, i)) (hm : (s.seqSt n).mat = none)
    (hr : s.rowsFit n w (bitOf i.mod 2) (bitsOf i.z 0 24) (bitsOf i.z 24 13) = true) :
    execSeqMatch n s = .next (s.setSeq n ({ q with matched := 0 }.iterate
      { sites := i.mod % 4, form := bitOf i.mod 2, seg := i.x, row := bitsOf i.z 0 24, rows := bitsOf i.z 24 13, limit := i.y,
        timeout := bitsOf i.z 40 18 })) := by
  simp only [execSeqMatch, hm]
  split
  · rename_i hnone; cases hnone
  · rw [s.instr_due _ _ _ h, hr, if_neg (by decide)]

variable {m : MatchSt}

theorem execSeqMatch_decides (hp : (s.seqSt n).phase = .matchDecide) (hm : (s.seqSt n).mat = some m) (hf : (s.seqSt n).free = true) :
    execSeqMatch n s = .next (s.setSeq n ((s.seqSt n).matchDecide m)) := by
  simp only [execSeqMatch, hp, hm, hf, if_true]

/-- The time-out of a MATCH, once every outcome is known. -/
theorem execMatchTimeout_due (hp : (s.seqSt n).phase = .matchDecide) (hm : (s.seqSt n).mat = some m) (hf : (s.seqSt n).free = true)
    (he : matchExit m.sites (s.seqSt n).active ((s.seqSt n).known m) = false) (hl : m.limit ≤ m.iters) (hq : (s.seqSt n).matchQuiet m = 0) :
    execMatchTimeout n s = .next (
      if m.sites = 2 then (s.setSeq n { s.seqSt n with
        phase := .ready, mat := none, matched := (s.seqSt n).known m, active := (s.seqSt n).active &&& (s.seqSt n).known m,
        retired := (s.seqSt n).retired ||| ((s.seqSt n).active &&& ~~~(s.seqSt n).known m) }).refreshSites n
      else s.setSeq n { s.seqSt n with phase := .ready, mat := none, matched := (s.seqSt n).known m, nseg := (s.seqSt n).seg, nidx := m.timeout }) := by
  simp only [execMatchTimeout, hp, hm]
  rw [if_neg (by simp [hf, he, hl, hq])]
  by_cases h2 : m.sites = 2 <;> simp only [h2, if_true, if_false] <;> rfl

end

/-- Settles O9: the emitting instructions by their due form, the decisions of BRFAIL and MATCH by the cases of `Seq.matchDecide`. -/
theorem instructionsThatEmitCycles : Obligations.InstructionsThatEmitCycles := by
  unfold Obligations.InstructionsThatEmitCycles
  refine ⟨?vec, ?vecOut, ?rep, ?repOut, ?shift, ?shiftOut, ?brQuiet, ?brDecide, ?matchFirst, ?matchExits, ?matchAgain, ?matchQuiet, ?timeout, ?retire⟩
  case vec => intro n k w q i s h hr; exact (execSeqVec_due h).trans (by rw [if_pos hr]; rfl)
  case vecOut => intro n k w q i s h hr; exact (execSeqVec_due h).trans (by rw [if_neg (by simp [hr])])
  case rep => intro n k w q i s h hr; exact (execSeqRepeat_due h).trans (by rw [if_pos hr]; rfl)
  case repOut => intro n k w q i s h hr; exact (execSeqRepeat_due h).trans (by rw [if_neg (by simp [hr])])
  case shift => intro n k w q i s h hr; exact (execSeqShift_due h).trans (by rw [if_pos hr]; rfl)
  case shiftOut => intro n k w q i s h hr; exact (execSeqShift_due h).trans (by rw [if_neg (by simp [hr])])
  case brQuiet => exact fun n k w q i s => execBrfail_due
  case brDecide => exact fun n b s => execBrfail_decides
  case matchFirst => exact fun n k w q i s => execSeqMatch_due
  case matchExits =>
    intro n m s hp hm hf he
    exact (execSeqMatch_decides hp hm hf).trans (by simp only [Seq.matchDecide, he, if_true])
  case matchAgain =>
    intro n m s hp hm hf he hi
    exact (execSeqMatch_decides hp hm hf).trans (by simp only [Seq.matchDecide, he, hi, if_true, Bool.false_eq_true, if_false]; rfl)
  case matchQuiet =>
    intro n m s hp hm hf he hl hq
    have hq' : 0 < ({ s.seqSt n with matched := (s.seqSt n).known m } : Seq).matchQuiet m := hq
    refine (execSeqMatch_decides hp hm hf).trans ?_
    simp only [Seq.matchDecide, he, Nat.not_lt.mpr hl, hq', if_true, Bool.false_eq_true, if_false]
    rfl
  case timeout =>
    intro n m s hp hm hf he hl hq h2
    exact (execMatchTimeout_due hp hm hf he hl hq).trans (by rw [if_neg h2])
  case retire =>
    intro n m s hp hm hf he hl hq h2
    exact (execMatchTimeout_due hp hm hf he hl hq).trans (by rw [if_pos h2])

end Sys2Proof.Machine
end

section
/-!
SUPPORT. The instructions that transfer control (O11; R136 to R149, R155 to R161): the body of each when it is due.
-/

namespace Sys2Proof.Machine

section
variable {s : State} {n k d sl : Nat} {x : Win} {w : Work} {q p b : Seq} {i : Ins}

theorem execSeqCall_window (h : dueIns s n 0x05 = some (k, w, q, i)) (hd : q.depth < q.dmax) (hf : q.freeSlot = some sl) :
    execSeqCall n s = .next (s.setSeq n ((q.openWin sl (retOf q.seg q.nidx)).goto i.x i.y)) := by
  simp only [execSeqCall, s.instr_due _ _ _ h, if_neg (Nat.not_le.mpr hd), hf]

/-- R148: the window of the lowest resident depth is spilled, and its place is taken. -/
theorem execSeqCall_spill (h : dueIns s n 0x05 = some (k, w, q, i)) (hd : q.depth < q.dmax) (hf : q.freeSlot = none)
    (hc : q.charge 24576 = some p) (hl : q.lowestResident = some d) (hs : (Store.getD p.wins d {}).slot = some sl) :
    execSeqCall n s = .next ((s.spill p d).1.setSeq n (((s.spill p d).2.openWin sl (retOf q.seg q.nidx)).goto i.x i.y)) := by
  simp only [execSeqCall, s.instr_due _ _ _ h, if_neg (Nat.not_le.mpr hd), hf, Nat.reduceMul, hc, hl, hs, Option.getD_some]

theorem execSeqCall_atDepth (h : dueIns s n 0x05 = some (k, w, q, i)) (hd : q.dmax ≤ q.depth) :
    execSeqCall n s = .next (s.stopBurst n k 0x200) := by
  simp only [execSeqCall, s.instr_due _ _ _ h, if_pos hd]

theorem execSeqReturn_window (h : dueIns s n 0x06 = some (k, w, q, i)) (hd : q.depth ≠ 0)
    (hs : (Store.getD q.wins (q.depth - 1) {}).slot = some sl) :
    execSeqReturn n s = .next (s.setSeq n (q.closeWin.goto (retSeg q.win.ret) (retIdx q.win.ret))) := by
  simp only [execSeqReturn, s.instr_due _ _ _ h, if_neg hd, hs]

/-- R149: the window below is filled from its slot. -/
theorem execSeqReturn_fill (h : dueIns s n 0x06 = some (k, w, q, i)) (hd : q.depth ≠ 0)
    (hs : (Store.getD q.wins (q.depth - 1) {}).slot = none)
    (hc : (q.closeWin.goto (retSeg q.win.ret) (retIdx q.win.ret)).charge 286720 = some b)
    (hp : s.poisoned (q.spillAt + 32 * (q.depth - 1)) 32 = false) (hr : s.spillRead q (q.depth - 1) = some x) (hf : b.freeSlot = some sl) :
    execSeqReturn n s = .next (s.setSeq n { b with wins := Store.put b.wins (q.depth - 1) { x with slot := some sl } }) := by
  simp only [execSeqReturn, s.instr_due _ _ _ h, if_neg hd, hs, Nat.reduceMul, hc, hp, hr, hf, Bool.false_eq_true, if_false]

theorem execSeqReturn_badSlot (h : dueIns s n 0x06 = some (k, w, q, i)) (hd : q.depth ≠ 0)
    (hs : (Store.getD q.wins (q.depth - 1) {}).slot = none)
    (hc : (q.closeWin.goto (retSeg q.win.ret) (retIdx q.win.ret)).charge 286720 = some b)
    (hp : s.poisoned (q.spillAt + 32 * (q.depth - 1)) 32 = false) (hr : s.spillRead q (q.depth - 1) = none) :
    execSeqReturn n s = .next (s.fillFailed n k) := by
  simp only [execSeqReturn, s.instr_due _ _ _ h, if_neg hd, hs, Nat.reduceMul, hc, hp, hr, Bool.false_eq_true, if_false]

theorem execSeqReturn_atZero (h : dueIns s n 0x06 = some (k, w, q, i)) (hd : q.depth = 0) :
    execSeqReturn n s = .next (s.stopBurst n k 0x201) := by
  simp only [execSeqReturn, s.instr_due _ _ _ h, if_pos hd]

/-- R159: the entry into a hold. -/
theorem State.enterHold_spec (line cond timeout : Nat) (jump : Bool) (target : Nat) :
    (s.enterHold n q line cond timeout jump target).mem = s.mem ∧ (s.enterHold n q line cond timeout jump target).works = s.works ∧
      (s.enterHold n q line cond timeout jump target).get F.SEQn_STATUS_RUN_STATE n = 3 ∧
      regsBut [.SEQn_STATUS] s (s.enterHold n q line cond timeout jump target) ∧
      (s.enterHold n q line cond timeout jump target).fr = max s.fr q.nextStart ∧
      (s.enterHold n q line cond timeout jump target).seqSt n =
        { q with phase := .hold, holdSt := some { line, cond, entry := q.nextStart,
                                                  deadline := if timeout = 0 then none else some (q.nextStart + timeout * 4096), jump, target,
                                                  release := if holdLevel cond (s.crierLevelAt line q.nextStart) then some q.nextStart else none,
                                                  nextBoundary := q.nextStart + 163840 } } := by
  refine ⟨rfl, rfl, ?_, fun r hr => ?_, rfl, ?_⟩
  · simp only [State.enterHold]
    rw [State.get_set_self _ _ _ _ _ (by decide)]
    rfl
  · simp only [State.enterHold]
    rw [State.rd_set_of_ne _ _ _ _ _ _ (by simpa [F.SEQn_STATUS_RUN_STATE] using hr)]
    rfl
  · exact (State.seqSt_setSeq _ n n _).trans (if_pos rfl)

end

/-- Settles O11: each instruction by the form that its body takes when it is due. -/
theorem instructionsThatTransferControl : Obligations.InstructionsThatTransferControl := by
  unfold Obligations.InstructionsThatTransferControl
  refine ⟨?jump, ?call, ?callSpill, ?callDeep, ?ret, ?retFill, ?retBad, ?retZero, ?brevt, ?setts, ?dir, ?edgecmp, ?mark, ?capOn, ?capOff,
    ?capNone, ?fin, ?hold⟩
  case jump => exact fun n k w q i s h => congrArg _ (s.instr_due _ _ _ h)
  case call => exact fun n k sl w q i s => execSeqCall_window
  case callSpill => exact fun n k d sl w q p i s => execSeqCall_spill
  case callDeep => exact fun n k w q i s => execSeqCall_atDepth
  case ret => exact fun n k sl w q i s => execSeqReturn_window
  case retFill => exact fun n k sl x w q b i s => execSeqReturn_fill
  case retBad => exact fun n k w q b i s => execSeqReturn_badSlot
  case retZero => exact fun n k w q i s => execSeqReturn_atZero
  case brevt => exact fun n k w q i s h => congrArg _ (s.instr_due _ _ _ h)
  case setts => exact fun n k w q i s h => congrArg _ (s.instr_due _ _ _ h)
  case dir => exact fun n k w q i s h => congrArg _ (s.instr_due _ _ _ h)
  case edgecmp => exact fun n k w q i s h => congrArg _ (s.instr_due _ _ _ h)
  case mark => exact fun n k w q i s h => congrArg _ (s.instr_due _ _ _ h)
  case capOn =>
    intro n k w q i s h hc
    exact congrArg _ ((s.instr_due _ _ _ h).trans (if_pos hc))
  case capOff => exact fun n k w q i s h => congrArg _ (s.instr_due _ _ _ h)
  case capNone =>
    intro n k w q i s h hc
    exact congrArg _ ((s.instr_due _ _ _ h).trans (if_neg (by simp [hc])))
  case fin => exact fun n k w q i s h => congrArg _ (s.instr_due _ _ _ h)
  case hold =>
    intro n k w q i s h
    exact ⟨_, congrArg Host.Outcome.next (s.instr_due _ _ _ h), State.enterHold_spec _ _ _ _ _⟩

end Sys2Proof.Machine
end

section
/-!
SUPPORT. Holds, instruction boundaries, notices and sessions (O12; R137 to R140, R159, R182): each command by the case that it meets.
-/

namespace Sys2Proof.Machine

/-! ## Holds -/

section
variable {s : State} {n k r b d c t : Nat} {w : Work} {h : HoldSt}

/-- R159: a released hold, by whether the release comes by the bound of the burst's duration. -/
theorem execHoldRelease_released (hk : (s.seqSt n).work = some k) (hw : s.work? k = some w) (hh : (s.seqSt n).holdSt = some h)
    (hr : h.release = some r) (hs : w.stage = .running) :
    execHoldRelease n s = .next (if beforeEnd r ((s.seqSt n).durationEnd w) then (s.advanceTo r).leaveHold n (s.seqSt n) (r + outcomeLead)
      else (s.advanceTo ((s.seqSt n).first0 + w.duration)).stopBurst n k 0x20F) := by
  obtain ⟨line, cond, entry, deadline, jump, target, release, nextBoundary⟩ := h
  obtain rfl : release = some r := hr
  simp only [execHoldRelease, s.onSeq_eq n _ hk hw, hh, hs, ne_eq, not_true_eq_false, if_false]

/-- R159: a hold whose time-out comes before the bound of the duration. -/
theorem execHoldTimeout_timedOut (hk : (s.seqSt n).work = some k) (hw : s.work? k = some w) (hh : (s.seqSt n).holdSt = some h)
    (hr : s.holdRelease h = none) (hd : h.deadline = some d) (hs : w.stage = .running)
    (hb : ((s.seqSt n).durationEnd w).all (fun b => decide (d < b)) = true) :
    execHoldTimeout n s = .next (if h.jump then (s.advanceTo d).leaveHold n ((s.seqSt n).goto (s.seqSt n).seg h.target) (d + outcomeLead)
      else (s.advanceTo d).stopBurst n k 0x20E) := by
  simp only [execHoldTimeout, s.onSeq_eq n _ hk hw, hh, hr, hd, hs]
  rw [if_neg (by simp)]
  cases he : (s.seqSt n).durationEnd w with
  | none => simp only [Bool.false_eq_true, if_false]
  | some b =>
    have : d < b := by simpa [he] using hb
    simp only [decide_eq_true_eq, if_neg (Nat.not_le.mpr this)]

theorem execHoldTimeout_bounded (hk : (s.seqSt n).work = some k) (hw : s.work? k = some w) (hh : (s.seqSt n).holdSt = some h)
    (hr : s.holdRelease h = none) (hd : h.deadline = some d) (hs : w.stage = .running) (he : (s.seqSt n).durationEnd w = some b) (hb : b ≤ d) :
    execHoldTimeout n s = .next ((s.advanceTo b).stopBurst n k 0x20F) := by
  simp only [execHoldTimeout, s.onSeq_eq n _ hk hw, hh, hr, hd, hs, he, decide_eq_true hb, if_true, Option.getD_some]
  rw [if_neg (by simp)]

theorem execHoldDurationBound_reached (hk : (s.seqSt n).work = some k) (hw : s.work? k = some w) (hh : (s.seqSt n).holdSt = some h)
    (hd : h.deadline.all (fun d => decide (b ≤ d)) = true) (hr : (s.holdRelease h).all (fun r => decide (b < r)) = true)
    (hs : w.stage = .running) (he : (s.seqSt n).durationEnd w = some b) :
    execHoldDurationBound n s = .next ((s.advanceTo b).stopBurst n k 0x20F) := by
  simp only [execHoldDurationBound, s.onSeq_eq n _ hk hw, hh, he, hs]
  have timed (d : Tu) (hdl : h.deadline = some d) : ¬ d < b := by simpa [hdl] using hd
  have freed (r : Tu) (hrl : s.holdRelease h = some r) : ¬ r ≤ b := by simpa [hrl] using hr
  rw [if_neg]
  rintro (hne | ht | hf)
  · exact hne rfl
  · split at ht
    · exact timed _ ‹_› (of_decide_eq_true ht)
    · cases ht
  · split at hf
    · exact freed _ ‹_› (of_decide_eq_true hf)
    · cases hf

/-! ## Boundaries and notices -/

/-- The sequencer at an instruction boundary: the boundary is taken and the count of microwords starts anew. -/
def Seq.atBoundary (q : Seq) : Seq := { q with bdry := false, ucount := 0 }

/-- The state at the decision of an instruction boundary. -/
def State.atBoundary (s : State) (n : Nat) : State :=
  ((s.pastDecision (s.seqSt n).atBoundary).markPc n (s.seqSt n).atBoundary).setSeq n (s.seqSt n).atBoundary

/-- An instruction boundary, by the notices and requests that have arrived by its decision instant. -/
theorem execInstructionBoundary_boundary (hk : (s.seqSt n).work = some k) (hw : s.work? k = some w) (hh : (s.seqSt n).holdSt = none)
    (hs : w.stage = .running) (hp : (s.seqSt n).paused = false) (hb : (s.seqSt n).phase ≠ .brDecide) (hy : (s.seqSt n).bdry = true) :
    execInstructionBoundary n s = .next (match (s.seqSt n).voidedBy (s.seqSt n).decision with
      | some c => (s.atBoundary n).stopBurst n k c
      | none =>
        if arrived (s.seqSt n).stopReq (s.seqSt n).decision then (s.atBoundary n).stopSession n k w
        else if arrived (s.seqSt n).pauseReq (s.seqSt n).decision then
          ((((s.atBoundary n).advanceTo (s.seqSt n).nextStart).setSeq n { (s.seqSt n).atBoundary with paused := true, pauseReq := none }).set
            F.SEQn_STATUS_RUN_STATE 4 n).setBit F.SEQn_EVENTS_PAUSED n
        else s.atBoundary n) := by
  rw [execInstructionBoundary, s.onSeq_eq n _ hk hw, if_neg (by simp [hs, hp, hb])]
  split
  · rename_i h' e
    cases hh.symm.trans e
  · have hv : (s.seqSt n).atBoundary.voidedBy (s.seqSt n).decision = (s.seqSt n).voidedBy (s.seqSt n).decision := rfl
    rw [if_neg (by simp [hy]), ← hv]
    rfl

/-- In a hold that is not released each boundary samples the notices and STOP. -/
theorem execInstructionBoundary_hold (hk : (s.seqSt n).work = some k) (hw : s.work? k = some w) (hh : (s.seqSt n).holdSt = some h)
    (hr : h.release = none) (hs : w.stage = .running) (hp : (s.seqSt n).paused = false) (hb : (s.seqSt n).phase ≠ .brDecide)
    (hv : (s.seqSt n).voidedBy (h.nextBoundary - decisionLead) = none) :
    execInstructionBoundary n s = .next (
      if arrived (s.seqSt n).stopReq (h.nextBoundary - decisionLead) then
        ((s.advanceTo (h.nextBoundary - decisionLead + 1)).markPc n (s.seqSt n)).stopSession n k w
      else ((s.advanceTo (h.nextBoundary - decisionLead + 1)).markPc n (s.seqSt n)).setSeq n
        { s.seqSt n with holdSt := some { h with nextBoundary := h.nextBoundary + outcomeLead }, ucount := 0 }) := by
  simp only [execInstructionBoundary, s.onSeq_eq n _ hk hw, hh, hr, hv, Option.isSome_none, Bool.false_eq_true, if_false]
  rw [if_neg (by simp [hs, hp, hb])]

theorem execFaultNoticeArrival_notice (hk : (s.seqSt n).work = some k) (hw : s.work? k = some w) (hn : (s.seqSt n).notice = some (c, t)) :
    execFaultNoticeArrival n s = .next (
      if (s.seqSt n).paused then
        ((s.advanceTo (t + noticeTravel)).setSeq n { s.seqSt n with notice := none, noticed := some (c, t + noticeTravel) }).stopBurst n k c
      else (s.advanceTo (t + noticeTravel)).setSeq n { s.seqSt n with notice := none, noticed := some (c, t + noticeTravel) }) := by
  simp only [execFaultNoticeArrival, s.onSeq_eq n _ hk hw, hn]

end

/-! ## Sessions -/

section
variable {s : State} {n k : Nat} {w : Work}

theorem State.onSession_of_some (f : Nat → Work → Seq → State) (h : s.sessionOn n = some (k, w)) : s.onSession n f = f k w (s.seqSt n) := by
  simp only [State.onSession, h]

theorem State.onSession_of_none (f : Nat → Work → Seq → State) (h : s.sessionOn n = none) : s.onSession n f = s.setBit F.SEQn_EVENTS_CTRL_IGNORED n := by
  simp only [State.onSession, h]

theorem not_unbooted_or (hb : s.booted = true) (hn : n < 32) : ¬ ((!s.booted) = true ∨ 32 ≤ n) := by simp [hb, hn]

theorem execSessionPause_eq (hb : s.booted = true) (hn : n < 32) :
    execSessionPause n s = .next (s.onSession n fun _ _ q => if q.paused ∨ q.pauseReq.isSome then s else s.setSeq n { q with pauseReq := some s.fr }) :=
  if_neg (not_unbooted_or hb hn)

theorem execSessionStop_eq (hb : s.booted = true) (hn : n < 32) :
    execSessionStop n s = .next (s.onSession n fun k w q =>
      if q.paused then s.stopSession n k w else if q.stopReq.isSome then s else s.setSeq n { q with stopReq := some s.fr }) :=
  if_neg (not_unbooted_or hb hn)

theorem execSessionResume_session (hb : s.booted = true) (hn : n < 32) (h : s.sessionOn n = some (k, w)) (hp : (s.seqSt n).paused = true) :
    execSessionResume n s = .next
      ((((if (s.seqSt n).resumed.2 then s.modWork k fun w => { w with rflags := w.rflags ||| 2 } else s).setSeq n
        { (s.seqSt n).resumed.1 with paused := false, nextStart := s.fr + outcomeLead, reset := true, icredit := icreditMax, bdry := true }).clrBit
          F.SEQn_STATUS_REDIRECT_ARMED n).set F.SEQn_STATUS_RUN_STATE 2 n) := by
  rw [execSessionResume, if_neg (not_unbooted_or hb hn), State.onSession_of_some _ h, if_neg (by simp [hp])]

theorem execSessionResume_none (hb : s.booted = true) (hn : n < 32) (h : s.sessionOn n = none) :
    execSessionResume n s = .next (s.setBit F.SEQn_EVENTS_CTRL_IGNORED n) := by
  rw [execSessionResume, if_neg (not_unbooted_or hb hn), State.onSession_of_none _ h]

theorem execRedirectArm_session (v : Word) (hb : s.booted = true) (hn : n < 32) (h : s.sessionOn n = some (k, w)) :
    execRedirectArm n v s = .next (if (s.seqSt n).paused then
      ((s.wr ⟨.SEQn_REDIRECT_1, n, 0⟩ (v &&& 0x17FFF#32)).setBit F.SEQn_STATUS_REDIRECT_ARMED n).setSeq n
        { s.seqSt n with redirect := some (F.SEQn_REDIRECT_1_SEG.get v,
            ((s.wr ⟨.SEQn_REDIRECT_1, n, 0⟩ (v &&& 0x17FFF#32)).setBit F.SEQn_STATUS_REDIRECT_ARMED n).get F.SEQn_REDIRECT_0_INDEX n,
            F.SEQn_REDIRECT_1_BREAK.get v == 1) }
      else s.setBit F.SEQn_EVENTS_REDIRECT_IGNORED n) := by
  rw [execRedirectArm, if_neg (not_unbooted_or hb hn), State.onSession_of_some _ h]

/-- Arming a redirect leaves the index that the first of the two registers holds. -/
theorem State.get_redirectIndex_armed (s : State) (n : Nat) (v : Word) :
    ((s.wr ⟨.SEQn_REDIRECT_1, n, 0⟩ v).setBit F.SEQn_STATUS_REDIRECT_ARMED n).get F.SEQn_REDIRECT_0_INDEX n = s.get F.SEQn_REDIRECT_0_INDEX n := by
  simp [State.get, State.setBit, F.SEQn_REDIRECT_0_INDEX, F.SEQn_STATUS_REDIRECT_ARMED]

end

/-- Settles O12: each command by the case that its hypotheses give, from the lemmas above. -/
theorem holdsAndSessions : Obligations.HoldsAndSessions := by
  unfold Obligations.HoldsAndSessions
  refine ⟨?released, ?lateRelease, ?timedOut, ?timedOutVoid, ?boundFirst, ?bound, ?boundary, ?boundaryNotice, ?boundaryStop, ?holdBoundary,
    ?notice, ?pause, ?stop, ?stopPaused, ?resume, ?ignored, ?arm, ?armIgnored⟩
  case released =>
    intro n k r w h s hk hw hh hr hs he
    exact (execHoldRelease_released hk hw hh hr hs).trans (by rw [if_pos he]; rfl)
  case lateRelease =>
    intro n k r b w h s hk hw hh hr hs he hb
    exact (execHoldRelease_released hk hw hh hr hs).trans (by rw [if_neg (by simp [beforeEnd, he, hb])])
  case timedOut =>
    intro n k d w h s hk hw hh hr hd hs hb hj
    exact (execHoldTimeout_timedOut hk hw hh hr hd hs hb).trans (by rw [if_pos hj]; rfl)
  case timedOutVoid =>
    intro n k d w h s hk hw hh hr hd hs hb hj
    exact (execHoldTimeout_timedOut hk hw hh hr hd hs hb).trans (by rw [if_neg (by simp [hj])])
  case boundFirst => exact fun n k b d w h s => execHoldTimeout_bounded
  case bound => exact fun n k b w h s => execHoldDurationBound_reached
  case boundary =>
    intro n k w s hk hw hh hs hp hb hy hv hstop
    have hv' : (s.seqSt n).voidedBy (s.seqSt n).decision = none := hv
    have hstop' : arrived (s.seqSt n).stopReq (s.seqSt n).decision = false := hstop
    exact (execInstructionBoundary_boundary hk hw hh hs hp hb hy).trans (by simp only [hv', hstop', Bool.false_eq_true, if_false]; rfl)
  case boundaryNotice =>
    intro n k c w s hk hw hh hs hp hb hy hv
    have hv' : (s.seqSt n).voidedBy (s.seqSt n).decision = some c := hv
    exact (execInstructionBoundary_boundary hk hw hh hs hp hb hy).trans (by simp only [hv']; rfl)
  case boundaryStop =>
    intro n k w s hk hw hh hs hp hb hy hv hstop
    have hv' : (s.seqSt n).voidedBy (s.seqSt n).decision = none := hv
    have hstop' : arrived (s.seqSt n).stopReq (s.seqSt n).decision = true := hstop
    exact (execInstructionBoundary_boundary hk hw hh hs hp hb hy).trans (by simp only [hv', if_pos hstop']; rfl)
  case holdBoundary => exact fun n k w h s => execInstructionBoundary_hold
  case notice => exact fun n k c t w s => execFaultNoticeArrival_notice
  case pause =>
    intro n k w s hb hn h hp hr
    exact (execSessionPause_eq hb hn).trans (by rw [State.onSession_of_some _ h, if_neg (by simp [hp, hr])])
  case stop =>
    intro n k w s hb hn h hp hr
    exact (execSessionStop_eq hb hn).trans (by rw [State.onSession_of_some _ h, if_neg (by simp [hp]), if_neg (by simp [hr])])
  case stopPaused =>
    intro n k w s hb hn h hp
    exact (execSessionStop_eq hb hn).trans (by rw [State.onSession_of_some _ h, if_pos hp]; rfl)
  case resume => exact fun n k w s => execSessionResume_session
  case ignored =>
    intro n s hb hn h
    exact ⟨(execSessionPause_eq hb hn).trans (by rw [State.onSession_of_none _ h]),
      (execSessionStop_eq hb hn).trans (by rw [State.onSession_of_none _ h]), execSessionResume_none hb hn h⟩
  case arm =>
    intro n k v w s hb hn h hp
    exact (execRedirectArm_session v hb hn h).trans (by rw [if_pos hp, State.get_redirectIndex_armed])
  case armIgnored =>
    intro n k v w s hb hn h hp
    exact (execRedirectArm_session v hb hn h).trans (by rw [if_neg (by simp [hp])])

end Sys2Proof.Machine
end

section
/-!
SUPPORT. A microword that is due, in two rules: the engine goes on, or the body has ended the burst (O14 to O16; R141, R174 to R180).
-/

namespace Sys2Proof.Machine

theorem Store.put_put {κ α : Type} [DecidableEq κ] (m : Store κ α) (k : κ) (a b : α) : Store.put (Store.put m k a) k b = Store.put m k b := by
  induction m with
  | nil => simp [Store.put]
  | cons x t ih =>
    obtain ⟨k', v⟩ := x
    by_cases h : k' = k <;> simp [Store.put, h, ih]

theorem State.setSeq_setSeq (s : State) (n : Nat) (p q : Seq) : (s.setSeq n p).setSeq n q = s.setSeq n q :=
  congrArg (fun m => { s with seqs := m }) (Store.put_put s.seqs n p q)

theorem State.useFree_setSeq (s : State) (n m : Nat) (q : Seq) : (s.setSeq n q).useFree m = (s.useFree m).setSeq n q := rfl

@[simp] theorem State.seqSt_setSeq_self (s : State) (n : Nat) (q : Seq) : (s.setSeq n q).seqSt n = q := by rw [State.seqSt_setSeq, if_pos rfl]

/-- The instant is all that reading the event latches may move. -/
theorem atUop_eq (s : State) (u : Uop) (q : Seq) : atUop s u q = { s with fr := (atUop s u q).fr } := by
  unfold atUop; split <;> rfl

theorem atUop_congr (s : State) (u : Uop) {p q : Seq} (h : p.nextStart = q.nextStart) : atUop s u p = atUop s u q := by
  unfold atUop State.pastDecision Seq.decision; rw [h]

section
variable {s : State} {n op k a : Nat} {w : Work} {q : Seq} {u : Uop}

theorem phase_of_dueUop (h : dueUop s n op = some (k, w, q, u)) : q.phase = .ready := by
  unfold dueUop at h
  simp only at h
  split at h
  · cases h
  split at h
  · cases h
  split at h
  case isFalse => cases h
  rename_i hc
  obtain ⟨hr, -⟩ := hc
  simp only [engineReady, Bool.and_eq_true, beq_iff_eq] at hr
  unfold Seq.charge at h
  split at h
  · cases h
  · simp only [Option.map_some, Option.some.injEq, Prod.mk.injEq] at h
    obtain ⟨-, -, rfl, -⟩ := h
    exact hr.1.1.2

/-- A due microword whose body leaves the burst running: the engine goes to the next address. -/
theorem State.micro_next {body : State → Nat → Work → Seq → Uop → State × Option Nat} {t : State} {p : Seq} {target : Option Nat}
    (h : dueUop s n op = some (k, w, q, u)) (hb : body ((atUop s u q).setSeq n q) k w q u = (t, target)) (hq : t.seqSt n = p)
    (hp : p.phase ≠ .ended) (ha : t.nextAddr q.upc target = some a) :
    s.micro n op body = (t.useFree (if isSet u.a || isSet u.b then 1 else 0)).setSeq n { p with upc := a } := by
  have hq' : (t.useFree (if isSet u.a || isSet u.b then 1 else 0)).seqSt n = p := hq
  have ha' : (t.useFree (if isSet u.a || isSet u.b then 1 else 0)).nextAddr q.upc target = some a := ha
  rw [State.micro_due s n op body h]
  simp only [hb, hq', ha', if_neg hp]

/-- A due microword whose body has ended the burst. -/
theorem State.micro_ended {body : State → Nat → Work → Seq → Uop → State × Option Nat} {t : State} {target : Option Nat}
    (h : dueUop s n op = some (k, w, q, u)) (hb : body ((atUop s u q).setSeq n q) k w q u = (t, target)) (he : (t.seqSt n).phase = .ended) :
    s.micro n op body = t.useFree (if isSet u.a || isSet u.b then 1 else 0) := by
  have he' : ((t.useFree (if isSet u.a || isSet u.b then 1 else 0)).seqSt n).phase = .ended := he
  rw [State.micro_due s n op body h]
  simp only [hb, if_pos he']

/-- A due microword whose body only replaces the engine's registers by `p`, with the flags of the burst as before. -/
theorem State.micro_after {body : State → Nat → Work → Seq → Uop → State × Option Nat} {p : Seq} {target : Option Nat}
    (h : dueUop s n op = some (k, w, q, u)) (hb : body ((atUop s u q).setSeq n q) k w q u = (((atUop s u q).setSeq n q).setSeq n p, target))
    (hp : p.phase ≠ .ended) (hs : p.nextStart = q.nextStart) (ha : s.nextAddr q.upc target = some a) :
    s.micro n op body = afterUop s n u p a := by
  have ha' : (((atUop s u q).setSeq n q).setSeq n p).nextAddr q.upc target = some a := by rw [atUop_eq]; exact ha
  rw [State.micro_next h hb (State.seqSt_setSeq_self _ _ _) hp ha', afterUop, atUop_congr s u hs]
  simp only [State.useFree_setSeq, State.setSeq_setSeq]

/-- The same for a micro-operation that only computes. -/
theorem State.microQ_after {f : State → Seq → Uop → Seq} {p : Seq} (h : dueUop s n op = some (k, w, q, u))
    (hf : f ((atUop s u q).setSeq n q) q u = p) (hp : p.phase = q.phase) (hs : p.nextStart = q.nextStart)
    (ha : s.nextAddr q.upc none = some a) : s.microQ n op f = afterUop s n u p a := by
  refine State.micro_after h (by rw [hf]) ?_ hs ha
  rw [hp, phase_of_dueUop h]
  decide

/-- A due microword that has no next address ends in a loss of control (R180). -/
theorem State.micro_noNext {body : State → Nat → Work → Seq → Uop → State × Option Nat} {t : State} {target : Option Nat}
    (h : dueUop s n op = some (k, w, q, u)) (hb : body ((atUop s u q).setSeq n q) k w q u = (t, target))
    (hp : (t.seqSt n).phase ≠ .ended) (ha : t.nextAddr q.upc target = none) :
    s.micro n op body = (t.useFree (if isSet u.a || isSet u.b then 1 else 0)).lossOfControl n k := by
  have hp' : ((t.useFree (if isSet u.a || isSet u.b then 1 else 0)).seqSt n).phase ≠ .ended := hp
  have ha' : (t.useFree (if isSet u.a || isSet u.b then 1 else 0)).nextAddr q.upc target = none := ha
  rw [State.micro_due s n op body h]
  simp only [hb, if_neg hp', ha']

/-- Operands read during a microword are those of the state before it. -/
@[simp] theorem State.uread_atUop (p : Seq) (sel : Nat) : ((atUop s u q).setSeq n q).uread p sel = s.uread p sel := by
  rw [atUop_eq]; rfl

end

/-! ## Writes of an operand -/

@[simp] theorem Seq.clearLatch_phase (q : Seq) (e : Nat) : (q.clearLatch e).phase = q.phase := by
  unfold Seq.clearLatch; split <;> rfl

@[simp] theorem Seq.putLatch_phase (q : Seq) (e : Nat) (on : Bool) : (q.putLatch e on).phase = q.phase := by
  unfold Seq.putLatch
  split
  · exact q.clearLatch_phase e
  · split <;> rfl

@[simp] theorem Seq.uwrite_phase (q : Seq) (sel : Nat) (v : BitVec 64) : (q.uwrite sel v).phase = q.phase := by
  have h (l : List Nat) : ∀ p : Seq, (l.foldl (fun p e => p.putLatch e (bitOf v.toNat e)) p).phase = p.phase := by
    induction l with
    | nil => exact fun _ => rfl
    | cons e l ih => exact fun p => (ih _).trans (p.putLatch_phase e _)
  unfold Seq.uwrite
  split
  · rfl
  · split
    case h_14 => exact h _ _
    all_goals rfl

section
variable {s : State} {n op k a : Nat} {w : Work} {q : Seq} {u : Uop}

theorem State.microA_after (f : BitVec 64 → BitVec 64 → Uop → BitVec 64) (h : dueUop s n op = some (k, w, q, u))
    (ha : s.nextAddr q.upc none = some a) :
    s.microA n op f = afterUop s n u (q.uwrite u.a (f (s.uread q u.a) (s.uread q u.b) u)) a :=
  State.microQ_after h (by simp only [State.uread_atUop]) (Seq.uwrite_phase _ _ _) (Seq.uwrite_nextStart _ _ _) ha

theorem State.microF_after (f : BitVec 64 → BitVec 64 → Uop → BitVec 64 × Flags) (h : dueUop s n op = some (k, w, q, u))
    (ha : s.nextAddr q.upc none = some a) :
    s.microF n op f = afterUop s n u
      ((q.uwrite u.a (f (s.uread q u.a) (s.uread q u.b) u).1).setFlags (f (s.uread q u.a) (s.uread q u.b) u).2) a :=
  State.microQ_after h (by simp only [State.uread_atUop]) (Seq.uwrite_phase _ _ _) (Seq.uwrite_nextStart _ _ _) ha

end

/-- Settles O14: the computing micro-operations are of three shapes, and each clause is the rule of its shape. -/
theorem microwordsThatCompute : Obligations.MicrowordsThatCompute := by
  unfold Obligations.MicrowordsThatCompute
  refine ⟨?nop, ?nopEnds, ?mov, ?ldi, ?ldih, ?add, ?sub, ?addi, ?and, ?or, ?xor, ?shf, ?cmp, ?cmpi, ?field⟩
  case nop => exact fun n k a w q u s h ha => congrArg _ (State.microQ_after h rfl rfl rfl ha)
  case nopEnds =>
    intro n k w q u s h ha
    have hp := phase_of_dueUop h
    have ha' : (((atUop s u q).setSeq n q).setSeq n q).nextAddr q.upc none = none := by rw [atUop_eq]; exact ha
    refine congrArg _ ((State.micro_noNext h rfl (by rw [State.seqSt_setSeq_self, hp]; decide) ha').trans ?_)
    rw [State.setSeq_setSeq]
    rfl
  case mov => exact fun n k a w q u s h ha => congrArg _ (State.microA_after _ h ha)
  case ldi => exact fun n k a w q u s h ha => congrArg _ (State.microA_after _ h ha)
  case ldih => exact fun n k a w q u s h ha => congrArg _ (State.microA_after _ h ha)
  case add => exact fun n k a w q u s h ha => congrArg _ (State.microF_after _ h ha)
  case sub => exact fun n k a w q u s h ha => congrArg _ (State.microF_after _ h ha)
  case addi => exact fun n k a w q u s h ha => congrArg _ (State.microF_after _ h ha)
  case and => exact fun n k a w q u s h ha => congrArg _ (State.microF_after _ h ha)
  case or => exact fun n k a w q u s h ha => congrArg _ (State.microF_after _ h ha)
  case xor => exact fun n k a w q u s h ha => congrArg _ (State.microF_after _ h ha)
  case shf => exact fun n k a w q u s h ha => congrArg _ (State.microA_after _ h ha)
  case cmp =>
    intro n k a w q u s h ha
    refine congrArg _ (State.microQ_after h ?_ ?_ ?_ ha)
    · simp only [State.uread_atUop]; rfl
    · rfl
    · rfl
  case cmpi =>
    intro n k a w q u s h ha
    refine congrArg _ (State.microQ_after h ?_ ?_ ?_ ha)
    · simp only [State.uread_atUop]; rfl
    · rfl
    · rfl
  case field => exact fun n k a w q u s h ha => congrArg _ (State.microA_after _ h ha)

end Sys2Proof.Machine
end

section
/-!
SUPPORT. The branching microwords and the losses of control (O15; R175, R177, R180, R190).
-/

namespace Sys2Proof.Machine

/-! ## The end of a burst leaves its sequencer ended -/

@[simp] theorem State.seqSt_modWork (s : State) (k : Nat) (f : Work → Work) (n : Nat) : (s.modWork k f).seqSt n = s.seqSt n := by
  unfold State.modWork; split <;> rfl

@[simp] theorem State.seqSt_closeWatchBy (s : State) (k : Nat) (t : Tu) (n : Nat) : (s.closeWatchBy k t).seqSt n = s.seqSt n := by
  unfold State.closeWatchBy; split <;> rfl

theorem State.phase_endSeq (s : State) (n k : Nat) (stage : Stage) (float : Bool) : ((s.endSeq n k stage float).seqSt n).phase = .ended := by
  simp only [State.endSeq]
  split
  · refine (congrArg Seq.phase ((State.seqSt_closeWatchBy _ _ _ _).trans (State.seqSt_modWork _ _ _ _))).trans ?_
    rw [State.seqSt_setSeq_self]
  · refine (congrArg Seq.phase ((State.seqSt_closeWatchBy _ _ _ _).trans (State.seqSt_modWork _ _ _ _))).trans ?_
    rw [State.seqSt_setSeq_self]

theorem State.phase_stopBurst (s : State) (n k cause : Nat) : ((s.stopBurst n k cause).seqSt n).phase = .ended := State.phase_endSeq _ _ _ _ _

theorem State.phase_finishBurst (s : State) (n k : Nat) (w : Work) (float : Bool) : ((s.finishBurst n k w float).seqSt n).phase = .ended :=
  State.phase_endSeq _ _ _ _ _

theorem State.phase_lossOfControl (s : State) (n k : Nat) : ((s.lossOfControl n k).seqSt n).phase = .ended := State.phase_stopBurst _ _ _ _

/-! ## Branches -/

section
variable {s : State} {n op k a : Nat} {w : Work} {q : Seq} {u : Uop}

/-- A microword that changes no register of the engine goes to its target. -/
theorem State.micro_jump {body : State → Nat → Work → Seq → Uop → State × Option Nat} {target : Option Nat}
    (h : dueUop s n op = some (k, w, q, u)) (hb : body ((atUop s u q).setSeq n q) k w q u = ((atUop s u q).setSeq n q, target))
    (ha : s.nextAddr q.upc target = some a) : s.micro n op body = afterUop s n u q a := by
  refine State.micro_after h (by rw [hb, State.setSeq_setSeq]) ?_ rfl ha
  rw [phase_of_dueUop h]; decide

theorem State.microBr_due {c : State → Seq → Uop → Bool} {b : Bool} (h : dueUop s n op = some (k, w, q, u))
    (hc : c ((atUop s u q).setSeq n q) q u = b) (ha : s.nextAddr q.upc (if b then some u.imm else none) = some a) :
    s.microBr n op c = afterUop s n u q a := State.micro_jump h (by rw [hc]) ha

/-- A due microword that loses control. -/
theorem State.micro_lost {body : State → Nat → Work → Seq → Uop → State × Option Nat} (h : dueUop s n op = some (k, w, q, u))
    (hb : body ((atUop s u q).setSeq n q) k w q u = (((atUop s u q).setSeq n q).lossOfControl n k, none)) :
    s.micro n op body = (((atUop s u q).setSeq n q).lossOfControl n k).useFree (if isSet u.a || isSet u.b then 1 else 0) :=
  State.micro_ended h hb (State.phase_lossOfControl _ _ _)

end

/-- Settles O15: the branches by `State.micro_jump`, the traps by the two shapes of a due microword, the losses of control by their conditions. -/
theorem microwordsThatBranch : Obligations.MicrowordsThatBranch := by
  unfold Obligations.MicrowordsThatBranch
  refine ⟨?br, ?brz, ?brnz, ?brn, ?brc, ?brb, ?disp, ?trap, ?trapLost, ?trapret, ?trapretLost, ?illegal, ?watchdog, ?corrected, ?fetch, ?fetchSpill⟩
  case br => exact fun n k a w q u s h ha => congrArg _ (State.microBr_due (b := true) h rfl ha)
  case brz => exact fun n k a w q u s h ha => congrArg _ (State.microBr_due (b := q.fz) h rfl ha)
  case brnz =>
    intro n k a w q u s h ha
    refine congrArg _ (State.microBr_due (b := !q.fz) h rfl ?_)
    rw [← ha]
    cases q.fz <;> rfl
  case brn => exact fun n k a w q u s h ha => congrArg _ (State.microBr_due (b := q.fn) h rfl ha)
  case brc => exact fun n k a w q u s h ha => congrArg _ (State.microBr_due (b := q.fc) h rfl ha)
  case brb =>
    intro n k a w q u s h ha
    exact congrArg _ (State.microBr_due h (by simp only [State.uread_atUop]) ha)
  case disp =>
    intro n k a w q u s h ha
    exact congrArg _ (State.micro_jump h (by simp only [State.uread_atUop]) ha)
  case trap =>
    intro n k a w q u s h ha ht
    refine congrArg _ (State.micro_after (p := { q with trap := some (q.upc + 1), w7 := { ret := q.upc + 1, slot := some 7 } }) h ?_ ?_ rfl ha)
    · rw [if_neg (by simp [ht])]
    · rw [show _ = q.phase from rfl, phase_of_dueUop h]; decide
  case trapLost =>
    intro n k w q u s h ht
    exact congrArg _ (State.micro_lost h (if_pos ht))
  case trapret =>
    intro n k a r w q u s h ht ha
    refine congrArg _ (State.micro_after (p := { q with trap := none }) h ?_ ?_ rfl ha)
    · simp only [ht]
    · rw [show _ = q.phase from rfl, phase_of_dueUop h]; decide
  case trapretLost =>
    intro n k w q u s h ht
    exact congrArg _ (State.micro_lost h (by simp only [ht]))
  case illegal =>
    intro n k w s hk hw hr hu
    refine congrArg _ ((s.onSeq_eq n _ hk hw).trans ?_)
    exact if_neg (by simp [hr, hu])
  case watchdog =>
    intro n k w s hk hw hs hu
    refine congrArg _ ((s.onSeq_eq n _ hk hw).trans ?_)
    exact if_neg (by simp [hs, hu])
  case corrected => exact fun n s => rfl
  case fetch =>
    intro n k w s hk hw hs ht
    refine congrArg _ ((s.onSeq_eq n _ hk hw).trans ?_)
    rw [if_neg (by simp [hs])]
    split
    · rename_i r d htrap hspill
      simp [htrap, hspill] at ht
    · rfl
  case fetchSpill =>
    intro n k d r w s hk hw hs ht hd
    refine congrArg _ ((s.onSeq_eq n _ hk hw).trans ?_)
    simp only [ht, hd]
    exact if_neg (by simp [hs])

end Sys2Proof.Machine
end

section
/-!
SUPPORT. The microwords that run a burst's program (O16; R148, R149, R159, R160, R174, R175).
-/

namespace Sys2Proof.Machine

/-! ## What the bodies read is what the state before the microword holds -/

theorem State.readLines_congr {s t : State} (h : t.poison = s.poison) (q : Seq) (ls : List Nat) : t.readLines q ls = s.readLines q ls := by
  induction ls generalizing q with
  | nil => rfl
  | cons l ls ih =>
    simp only [State.readLines, h, ih]

section
variable {s : State} {n : Nat} {q : Seq} {u : Uop}

theorem State.regs_atUop (s : State) (n : Nat) (q : Seq) (u : Uop) : ((atUop s u q).setSeq n q).regs = s.regs := by rw [atUop_eq]; rfl
theorem State.mem_atUop (s : State) (n : Nat) (q : Seq) (u : Uop) : ((atUop s u q).setSeq n q).mem = s.mem := by rw [atUop_eq]; rfl
theorem State.works_atUop (s : State) (n : Nat) (q : Seq) (u : Uop) : ((atUop s u q).setSeq n q).works = s.works := by rw [atUop_eq]; rfl
theorem State.poison_atUop (s : State) (n : Nat) (q : Seq) (u : Uop) : ((atUop s u q).setSeq n q).poison = s.poison := by rw [atUop_eq]; rfl
theorem State.free_atUop (s : State) (n : Nat) (q : Seq) (u : Uop) : ((atUop s u q).setSeq n q).free = s.free := by rw [atUop_eq]; rfl

theorem State.rd_atUop (s : State) (n : Nat) (q : Seq) (u : Uop) (r : Reg) : ((atUop s u q).setSeq n q).rd r = s.rd r := by rw [atUop_eq]; rfl

/-- The next address depends on the patch registers. -/
theorem State.nextAddr_congr {t : State} (h : ∀ i, t.rd ⟨.BOOT_UCMATCH_n, i, 0⟩ = s.rd ⟨.BOOT_UCMATCH_n, i, 0⟩) (a : Nat) (target : Option Nat) :
    t.nextAddr a target = s.nextAddr a target := by
  have hg (f : Fld) (hf : f.reg = .BOOT_UCMATCH_n) (i : Nat) : t.get f i = s.get f i := by simp only [State.get, hf, h]
  have hp (x : Nat) : t.patchMatch x = s.patchMatch x := by
    simp only [State.patchMatch, State.bit, hg F.BOOT_UCMATCH_n_EN rfl, hg F.BOOT_UCMATCH_n_ROM_ADDR rfl, hg F.BOOT_UCMATCH_n_PATCH_ADDR rfl]
  simp only [State.nextAddr, hp]

theorem State.nextAddr_of_regs {t : State} (h : t.regs = s.regs) (a : Nat) (target : Option Nat) : t.nextAddr a target = s.nextAddr a target :=
  State.nextAddr_congr (fun i => by simp only [State.rd, h]) a target

theorem State.nextAddr_of_regsBut {t : State} {l : List RegName} (h : regsBut l s t) (hl : RegName.BOOT_UCMATCH_n ∉ l) (a : Nat) (target : Option Nat) :
    t.nextAddr a target = s.nextAddr a target := State.nextAddr_congr (fun _ => h _ hl) a target

theorem State.rowsFit_atUop (w : Work) (form : Bool) (z rows : Nat) : ((atUop s u q).setSeq n q).rowsFit n w form z rows = s.rowsFit n w form z rows := by
  rw [atUop_eq]; rfl


theorem State.insAt_atUop (g i : Nat) : ((atUop s u q).setSeq n q).insAt g i = s.insAt g i := by rw [atUop_eq]; rfl

theorem State.owned_atUop : ((atUop s u q).setSeq n q).owned n = s.owned n := by rw [atUop_eq]; rfl

theorem State.tset_atUop (bank : RegName) (c i : Nat) : ((atUop s u q).setSeq n q).tset bank c i = s.tset bank c i := by rw [atUop_eq]; rfl

/-- The period in force depends on the channels owned and the live bank. (The unfolding is of the bare name: the match on the channels owned
is costly to compare once it is applied.) -/
theorem State.periodNow_congr {t : State} {p : Seq} (ho : t.owned n = s.owned n) (ht : ∀ bank c i, t.tset bank c i = s.tset bank c i) :
    t.periodNow n p = s.periodNow n p := by
  have hl : t.tset .TSBANK_LIVE = s.tset .TSBANK_LIVE := funext fun c => funext fun i => ht _ c i
  conv => lhs; fun; fun; fun; delta State.periodNow
  conv => rhs; fun; fun; fun; delta State.periodNow
  rw [ho, hl]

theorem State.periodNow_atUop (p : Seq) : ((atUop s u q).setSeq n q).periodNow n p = s.periodNow n p :=
  State.periodNow_congr State.owned_atUop State.tset_atUop

theorem State.spillRead_atUop (p : Seq) (d : Nat) : ((atUop s u q).setSeq n q).spillRead p d = s.spillRead p d := by rw [atUop_eq]; rfl

theorem State.poisoned_atUop (a len : Nat) : ((atUop s u q).setSeq n q).poisoned a len = s.poisoned a len := by rw [atUop_eq]; rfl

theorem State.readSet_atUop (p : Seq) (sel : Nat) : ((atUop s u q).setSeq n q).readSet p sel = s.readSet p sel := by rw [atUop_eq]; rfl

/-- Two changes of the registers alone make one. -/
theorem State.regsOnly_trans {s t v : State} (h : t = { s with regs := t.regs }) (h' : v = { t with regs := v.regs }) :
    v = { s with regs := v.regs } := h'.trans (congrArg (fun x : State => { x with regs := v.regs }) h)

/-- The site registers are shown anew: no other register, and nothing else of the state. -/
theorem State.wrWords_frame (s : State) (r : RegName) (i m v : Nat) :
    regsBut [r] s (s.wrWords r i m v) ∧ s.wrWords r i m v = { s with regs := (s.wrWords r i m v).regs } := by
  unfold State.wrWords
  generalize List.range m = l
  induction l generalizing s with
  | nil => exact ⟨fun _ _ => rfl, rfl⟩
  | cons j l ih =>
    obtain ⟨h1, h2⟩ := ih (s.wr ⟨r, i, j⟩ (BitVec.ofNat 32 (v / 2 ^ (32 * j))))
    refine ⟨fun x hx => ?_, ?_⟩
    · rw [List.foldl_cons, h1 x hx, State.rd_wr, if_neg]
      rintro rfl; exact hx (List.mem_singleton.mpr rfl)
    · exact h2

theorem State.refreshSites_frame (s : State) (n : Nat) :
    regsBut [.SEQn_SITE_FAIL_w, .SEQn_SITE_ACTIVE_w] s (s.refreshSites n) ∧ s.refreshSites n = { s with regs := (s.refreshSites n).regs } := by
  obtain ⟨h1, h2⟩ := s.wrWords_frame .SEQn_SITE_FAIL_w n 8 (s.seqSt n).bfail.toNat
  obtain ⟨h3, h4⟩ := (s.wrWords .SEQn_SITE_FAIL_w n 8 (s.seqSt n).bfail.toNat).wrWords_frame .SEQn_SITE_ACTIVE_w n 8 (s.seqSt n).active.toNat
  refine ⟨fun r hr => ?_, ?_⟩
  · simp only [List.mem_cons, List.not_mem_nil, or_false, not_or] at hr
    obtain ⟨hf, ha⟩ := hr
    exact (h3 r (by simpa using ha)).trans (h1 r (by simpa using hf))
  · exact State.regsOnly_trans h2 h4

end

section
variable {s : State} {n op k a : Nat} {w : Work} {q : Seq} {u : Uop}

theorem ne_ended_of_dueUop (h : dueUop s n op = some (k, w, q, u)) : q.phase ≠ .ended := by rw [phase_of_dueUop h]; decide

/-- A due microword whose body replaces the engine's registers by `p` in the state `t`. -/
theorem State.micro_set {body : State → Nat → Work → Seq → Uop → State × Option Nat} {t : State} {p : Seq} {target : Option Nat}
    (h : dueUop s n op = some (k, w, q, u)) (hb : body ((atUop s u q).setSeq n q) k w q u = (t.setSeq n p, target)) (hp : p.phase ≠ .ended)
    (ha : t.nextAddr q.upc target = some a) :
    s.micro n op body = (t.useFree (if isSet u.a || isSet u.b then 1 else 0)).setSeq n { p with upc := a } := by
  rw [State.micro_next h hb (State.seqSt_setSeq_self t n p) hp ha, State.useFree_setSeq, State.setSeq_setSeq]

/-- The engine that DISPOP leaves: the instruction is the current one, and the scratch registers hold what they may (R174, R180). -/
def Seq.dispatched (q : Seq) (i : Ins) (t : List (BitVec 64)) : Seq :=
  { q with seg := q.nseg, idx := q.nidx, nidx := q.nidx + 1, irMod := i.mod, irX := i.x, irY := i.y, irZ := i.z, irOp := i.op, t,
           onceRead := false, ucount := 0, mat := none, matched := if i.op = 0x08 then 0 else q.matched }

/-- What DISPOP leaves in the scratch registers. -/
def State.scratchLeft (s : State) : List (BitVec 64) := (List.range 8).map fun j => BitVec.ofNat 64 (Config.freeValue (s.free + j))

theorem execDispop_next {q1 : Seq} (h : dueUop s n 0x17 = some (k, w, q, u)) (hi : q.nidx < 2 ^ 18) (hg : w.segs.contains q.nseg = true)
    (hr : s.readLines q [insAddr q.nseg q.nidx / 64] = .ok q1) (ho : (s.insAt q.nseg q.nidx).ok (s.owned n).length = true)
    (hn : (s.insAt q.nseg q.nidx).namesSeg = true → w.segs.contains (s.insAt q.nseg q.nidx).x = true)
    (ha : s.nextAddr q.upc (some (u.imm + (s.insAt q.nseg q.nidx).op)) = some a) :
    execDispop n s = .next (((((atUop s u q).setSeq n q).useFree 8).useFree (if isSet u.a || isSet u.b then 1 else 0)).setSeq n
      { q1.dispatched (s.insAt q.nseg q.nidx) s.scratchLeft with upc := a }) := by
  have hr' : ((atUop s u q).setSeq n q).readLines q [insAddr q.nseg q.nidx / 64] = .ok q1 := by rw [State.readLines_congr (State.poison_atUop s n q u), hr]
  have hns : ¬ ((s.insAt q.nseg q.nidx).namesSeg && !w.segs.contains (s.insAt q.nseg q.nidx).x) = true := by
    cases hb : (s.insAt q.nseg q.nidx).namesSeg with
    | false => simp
    | true => rw [hn hb]; decide
  have hseg : q1.nseg = q.nseg ∧ q1.nidx = q.nidx ∧ q1.phase = q.phase := by
    rw [State.readLines_frame s q _ hr]; exact ⟨rfl, rfl, rfl⟩
  obtain ⟨hseg, hidx, hphase⟩ := hseg
  have ha' : (((atUop s u q).setSeq n q).useFree 8).nextAddr q.upc (some (u.imm + (s.insAt q.nseg q.nidx).op)) = some a :=
    (State.nextAddr_of_regs (s := s) (State.regs_atUop s n q u) _ _).trans ha
  refine congrArg _ (State.micro_set (p := q1.dispatched (s.insAt q.nseg q.nidx) s.scratchLeft) h ?_ ?_ ha')
  · rw [if_neg (Nat.not_le.mpr hi), if_neg (by rw [hg]; decide), hr']
    simp only [State.insAt_atUop, State.owned_atUop, hseg, hidx, ho, Bool.not_true, Bool.false_eq_true, if_false, if_neg hns, State.free_atUop]
    rw [State.scratchLeft, Seq.dispatched, hseg, hidx]
  · exact fun e => ne_ended_of_dueUop h (hphase.symm.trans e)

/-- RUN outside a MATCH and outside chain mode (R175). -/
theorem execUopRun_next (h : dueUop s n 0x20 = some (k, w, q, u)) (ha : s.nextAddr q.upc none = some a) (hc : bitOf u.imm 1 = false)
    (ho : q.irOp ≠ 8) (h1 : 1 ≤ (s.uread q u.b).toNat) (h2 : (s.uread q u.b).toNat ≤ 4096) (hg : w.segs.contains (q.irX % 2 ^ 15) = true)
    (hr : s.rowsFit n w (bitOf u.imm 0) (s.uread q u.a).toNat (s.uread q u.b).toNat = true) :
    execUopRun n s = .next (((((atUop s u q).setSeq n q).useFree).useFree (if isSet u.a || isSet u.b then 1 else 0)).setSeq n
      { q with phase := .emit, run := some { kind := .vec, seg := q.irX % 2 ^ 15, row := (s.uread q u.a).toNat, form := bitOf u.imm 0,
                                             left := (s.uread q u.b).toNat, beat := (s.uread q u.b).toNat },
               ucount := 0, onceRead := false, upc := a }) := by
  have ha' : (((atUop s u q).setSeq n q).useFree).nextAddr q.upc none = some a := (State.nextAddr_of_regs (s := s) (State.regs_atUop s n q u) _ _).trans ha
  refine congrArg _ (State.micro_set (p := { q with
    phase := .emit, run := some { kind := .vec, seg := q.irX % 2 ^ 15, row := (s.uread q u.a).toNat, form := bitOf u.imm 0,
                                  left := (s.uread q u.b).toNat, beat := (s.uread q u.b).toNat }, ucount := 0, onceRead := false }) h ?_ (fun e => by cases e) ha')
  simp only [State.uread_atUop, hc, if_pos (And.intro h1 h2), State.rowsFit_atUop, hr, hg, if_neg ho, Bool.false_eq_true, if_false,
    Bool.not_true, Bool.and_false]
  rfl

theorem execUopRun_tooFar (h : dueUop s n 0x20 = some (k, w, q, u)) (hc : bitOf u.imm 1 = false)
    (hg : w.segs.contains (q.irX % 2 ^ 15) = true) (h1 : 1 ≤ (s.uread q u.b).toNat) (h2 : (s.uread q u.b).toNat ≤ 4096)
    (hr : s.rowsFit n w (bitOf u.imm 0) (s.uread q u.a).toNat (s.uread q u.b).toNat = false) :
    execUopRun n s = .next ((((atUop s u q).setSeq n q).stopBurst n k 0x207).useFree (if isSet u.a || isSet u.b then 1 else 0)) := by
  refine congrArg _ (State.micro_ended (target := none) h ?_ (State.phase_stopBurst _ _ _ _))
  simp only [State.uread_atUop, hc, if_pos (And.intro h1 h2), State.rowsFit_atUop, hr, hg, Bool.false_eq_true, if_false,
    Bool.not_true, Bool.not_false, Bool.and_true, if_true]

theorem execUopQuiet_next (h : dueUop s n 0x21 = some (k, w, q, u)) (ha : s.nextAddr q.upc none = some a) (h0 : (s.uread q u.a).toNat ≠ 0)
    (hp : s.periodNow n q ≠ 0) :
    execUopQuiet n s = .next (afterUop s n u { q with phase := .emit, run := some { kind := .quiet, left := (s.uread q u.a).toNat, beat := (s.uread q u.a).toNat },
                                                      period := s.periodNow n q, ucount := 0 } a) := by
  refine congrArg _ (State.micro_after (p := { q with
    phase := .emit, run := some { kind := .quiet, left := (s.uread q u.a).toNat, beat := (s.uread q u.a).toNat },
    period := s.periodNow n q, ucount := 0 }) (target := none) h ?_ (fun e => by cases e) rfl ha)
  simp only [State.uread_atUop, State.periodNow_atUop, if_neg h0, if_neg hp]
  rfl

theorem execUopAct_next {act : SeqAct} (h : dueUop s n 0x22 = some (k, w, q, u)) (ha : s.nextAddr q.upc none = some a)
    (hact : uopAction q (u.imm % 8) (s.uread q u.a).toNat = some act) (hc : act = .captureOn → w.hasCapture = true) :
    execUopAct n s = .next (afterUop s n u { q with acts := q.acts ++ [act] } a) := by
  refine congrArg _ (State.micro_after (p := { q with acts := q.acts ++ [act] }) (target := none) h ?_ (fun e => ne_ended_of_dueUop h e) rfl ha)
  simp only [State.uread_atUop, hact]
  split
  · rename_i e
    obtain rfl := Option.some.inj e
    rw [if_pos (hc rfl)]
    rfl
  · rename_i e
    obtain rfl := Option.some.inj e
    rfl
  · rename_i e
    cases e

theorem execUopSpill_next (h : dueUop s n 0x25 = some (k, w, q, u)) (ha : s.nextAddr q.upc none = some a) :
    execUopSpill n s = .next (((((atUop s u q).setSeq n q).spill q (s.uread q u.a).toNat).1.useFree (if isSet u.a || isSet u.b then 1 else 0)).setSeq n
      { q with wins := Store.put q.wins (s.uread q u.a).toNat { Store.getD q.wins (s.uread q u.a).toNat {} with slot := none },
               memBusy := true, spilling := some (s.uread q u.a).toNat, upc := a }) := by
  have ha' : (((atUop s u q).setSeq n q).spill q (s.uread q u.a).toNat).1.nextAddr q.upc none = some a :=
    (State.nextAddr_of_regs (s := s) (State.regs_atUop s n q u) _ _).trans ha
  refine congrArg _ (State.micro_set (p := { q with
    wins := Store.put q.wins (s.uread q u.a).toNat { Store.getD q.wins (s.uread q u.a).toNat {} with slot := none },
    memBusy := true, spilling := some (s.uread q u.a).toNat }) (target := none) h ?_ (fun e => ne_ended_of_dueUop h e) ha')
  simp only [State.uread_atUop, State.spill]

/-! ## The site sets -/

theorem Seq.writeSet_phase (q : Seq) (sel : Nat) (v : Set256) : (q.writeSet sel v).phase = q.phase := by
  unfold Seq.writeSet
  split
  case h_5 => exact Seq.uwrite_phase _ _ _
  all_goals rfl

theorem State.refreshSites_seqSt (s : State) (n m : Nat) : (s.refreshSites n).seqSt m = s.seqSt m := by
  rw [(s.refreshSites_frame n).2]; rfl

theorem State.nextAddr_refreshSites (s : State) (n a : Nat) (target : Option Nat) : (s.refreshSites n).nextAddr a target = s.nextAddr a target :=
  State.nextAddr_of_regsBut (s.refreshSites_frame n).1 (by decide) a target

/-- The state after a microword that leaves the engine `p` with new site sets, at the next address with `p'`. -/
def State.withSites (s : State) (n : Nat) (p p' : Seq) (used : Nat) : State := (((s.setSeq n p).refreshSites n).useFree used).setSeq n p'

theorem State.regsChanged_spec {s t : State} {l : List RegName} (n : Nat) (p p' : Seq) (used : Nat)
    (hregs : regsBut l (s.setSeq n p) t) (hframe : t = { s.setSeq n p with regs := t.regs }) :
    ((t.useFree used).setSeq n p').mem = s.mem ∧ ((t.useFree used).setSeq n p').works = s.works ∧
      regsBut l s ((t.useFree used).setSeq n p') ∧ ((t.useFree used).setSeq n p').seqSt n = p' :=
  ⟨(congrArg State.mem hframe :), (congrArg State.works hframe :), hregs, State.seqSt_setSeq_self _ n p'⟩

theorem State.withSites_spec (s : State) (n : Nat) (p p' : Seq) (used : Nat) :
    (s.withSites n p p' used).mem = s.mem ∧ (s.withSites n p p' used).works = s.works ∧
      regsBut [.SEQn_SITE_FAIL_w, .SEQn_SITE_ACTIVE_w] s (s.withSites n p p' used) ∧ (s.withSites n p p' used).seqSt n = p' := by
  obtain ⟨hregs, hframe⟩ := (s.setSeq n p).refreshSites_frame n
  exact State.regsChanged_spec n p p' used hregs hframe

theorem State.micro_sites {body : State → Nat → Work → Seq → Uop → State × Option Nat} {x : State} {p : Seq}
    (h : dueUop s n op = some (k, w, q, u)) (hb : body ((atUop s u q).setSeq n q) k w q u = ((x.setSeq n p).refreshSites n, none))
    (hp : p.phase ≠ .ended) (ha : x.nextAddr q.upc none = some a) :
    s.micro n op body = x.withSites n p { p with upc := a } (if isSet u.a || isSet u.b then 1 else 0) := by
  have ha' : ((x.setSeq n p).refreshSites n).nextAddr q.upc none = some a := (State.nextAddr_refreshSites _ n _ _).trans ha
  rw [State.micro_next h hb ((State.refreshSites_seqSt _ n n).trans (State.seqSt_setSeq_self x n p)) hp ha', State.withSites]

/-- The site set that FAILRD reads. -/
def failSelect (q : Seq) (sel free : Nat) : Set256 :=
  match sel % 4 with
  | 0 => q.lfail | 1 => q.bfail | 2 => q.matchedNow | _ => BitVec.ofNat 256 free

theorem failSelect_eq (q : Seq) {sel free : Nat} (h : sel % 4 ≠ 3) :
    failSelect q sel free = if sel % 4 = 0 then q.lfail else if sel % 4 = 1 then q.bfail else q.matchedNow := by
  have : sel % 4 = 0 ∨ sel % 4 = 1 ∨ sel % 4 = 2 := by omega
  unfold failSelect
  rcases this with e | e | e <;> simp [e]

theorem execFailrd_next (h : dueUop s n 0x28 = some (k, w, q, u)) (ha : s.nextAddr q.upc none = some a) :
    execFailrd n s = .next ((((atUop s u q).setSeq n q).useFree).withSites n (q.writeSet u.a (failSelect q u.imm s.freeVal))
      { q.writeSet u.a (failSelect q u.imm s.freeVal) with upc := a } (if isSet u.a || isSet u.b then 1 else 0)) := by
  have hf : ((atUop s u q).setSeq n q).freeVal = s.freeVal := congrArg Config.freeValue (State.free_atUop s n q u)
  refine congrArg Host.Outcome.next (State.micro_sites (x := ((atUop s u q).setSeq n q).useFree) (p := q.writeSet u.a (failSelect q u.imm s.freeVal)) h ?_ ?_ ?_)
  · rw [← hf]; rfl
  · rw [Seq.writeSet_phase]; exact ne_ended_of_dueUop h
  · exact (State.nextAddr_of_regs (s := s) (State.regs_atUop s n q u) _ _).trans ha

theorem execSiteop_next (h : dueUop s n 0x29 = some (k, w, q, u)) (ha : s.nextAddr q.upc none = some a) :
    execSiteop n s = .next (((atUop s u q).setSeq n q).withSites n
      (q.writeSet u.a (Config.siteOp (u.imm % 16) (s.readSet q u.a) (s.readSet q u.b)))
      { q.writeSet u.a (Config.siteOp (u.imm % 16) (s.readSet q u.a) (s.readSet q u.b)) with upc := a }
      (if isSet u.a || isSet u.b then 1 else 0)) := by
  refine congrArg Host.Outcome.next (State.micro_sites (x := (atUop s u q).setSeq n q)
    (p := q.writeSet u.a (Config.siteOp (u.imm % 16) (s.readSet q u.a) (s.readSet q u.b))) h ?_ ?_ ?_)
  · rw [State.readSet_atUop, State.readSet_atUop]
  · rw [Seq.writeSet_phase]; exact ne_ended_of_dueUop h
  · exact (State.nextAddr_of_regs (s := s) (State.regs_atUop s n q u) _ _).trans ha

/-- CRIER enters a hold as HOLD does. -/
theorem execUopCrier_next (h : dueUop s n 0x2A = some (k, w, q, u)) (ha : s.nextAddr q.upc none = some a) :
    ∃ t, execUopCrier n s = .next t ∧ t.mem = s.mem ∧ t.works = s.works ∧ t.get F.SEQn_STATUS_RUN_STATE n = 3 ∧ regsBut [.SEQn_STATUS] s t ∧
      t.fr = max (atUop s u q).fr q.nextStart ∧
      t.seqSt n = { ({ q with ucount := 0 } : Seq) with
        phase := .hold, upc := a,
        holdSt := some { line := q.irMod % 8, cond := bitsOf q.irMod 3 2, entry := q.nextStart,
                         deadline := if q.irY = 0 then none else some (q.nextStart + q.irY * 4096), jump := bitOf q.irMod 5,
                         target := q.irZ % 2 ^ 18,
                         release := if holdLevel (bitsOf q.irMod 3 2) (((atUop s u q).setSeq n q).crierLevelAt (q.irMod % 8) q.nextStart) then
                           some q.nextStart else none,
                         nextBoundary := q.nextStart + 163840 } } := by
  obtain ⟨t, ht⟩ : ∃ t, ((atUop s u q).setSeq n q).enterHold n { q with ucount := 0 } (q.irMod % 8) (bitsOf q.irMod 3 2) q.irY (bitOf q.irMod 5)
    (q.irZ % 2 ^ 18) = t := ⟨_, rfl⟩
  have spec := ((atUop s u q).setSeq n q).enterHold_spec (n := n) (q := { q with ucount := 0 }) (q.irMod % 8) (bitsOf q.irMod 3 2) q.irY
    (bitOf q.irMod 5) (q.irZ % 2 ^ 18)
  rw [ht] at spec
  obtain ⟨hmem, hworks, hrun, hregs, hfr, hseq⟩ := spec
  have ha' : t.nextAddr q.upc none = some a := by
    rw [State.nextAddr_of_regsBut hregs (by decide), State.nextAddr_of_regs (State.regs_atUop s n q u), ha]
  refine ⟨_, congrArg Host.Outcome.next (State.micro_next (t := t) (target := none) h (by rw [ht]) hseq (fun e => by cases e) ha'),
    hmem.trans (State.mem_atUop s n q u), hworks.trans (State.works_atUop s n q u), hrun,
    fun r hr => (hregs r hr).trans (State.rd_atUop s n q u r), hfr, State.seqSt_setSeq_self _ _ _⟩

end

/-- Settles O16: DISPOP, RUN, QUIET and ACT by the lemmas above, each other microword by the shape of its body. -/
theorem microwordsOfTheProgram : Obligations.MicrowordsOfTheProgram := by
  unfold Obligations.MicrowordsOfTheProgram
  refine ⟨?dispop, ?run, ?runFar, ?quiet, ?act, ?wpush, ?wpushLost, ?wpop, ?spill, ?fill, ?memwait, ?failrd, ?siteop, ?crier, ?latch, ?voidb, ?endb⟩
  case dispop =>
    intro n k a w q q1 u s h hi hg hr ho hn ha
    refine ⟨_, execDispop_next h hi hg hr ho hn ha, State.regs_atUop s n q u, State.mem_atUop s n q u, State.works_atUop s n q u, ?_⟩
    rw [State.seqSt_setSeq_self, State.readLines_frame s q _ hr]
    exact ⟨rfl, rfl, rfl, rfl, rfl, rfl, rfl, rfl, rfl, rfl⟩
  case run =>
    intro n k a w q u s h ha hc ho h1 h2 hg hr
    exact ⟨_, execUopRun_next h ha hc ho h1 h2 hg hr, State.regs_atUop s n q u, State.mem_atUop s n q u, State.works_atUop s n q u, State.seqSt_setSeq_self _ _ _⟩
  case runFar => exact fun n k w q u s => execUopRun_tooFar
  case quiet => exact fun n k a w q u s => execUopQuiet_next
  case act => exact fun n k a w q u s act => execUopAct_next
  case wpush =>
    intro n k a sl w q u s h ha hf
    refine congrArg _ (State.micro_after (p := q.openWin sl (retOf q.nseg q.nidx)) (target := none) h ?_ (fun e => ne_ended_of_dueUop h e) rfl ha)
    simp only [hf]
  case wpushLost =>
    intro n k w q u s h hf ht
    exact congrArg _ (State.micro_lost h (by simp only [hf, ht]; rfl))
  case wpop =>
    intro n k a w q u s h ha hd
    exact congrArg _ (State.microQ_after (p := q.closeWin) h (if_neg hd) rfl rfl ha)
  case spill =>
    intro n k a w q u s h ha
    refine ⟨_, execUopSpill_next h ha, State.regs_atUop s n q u, State.works_atUop s n q u,
      congrArg (fun m => Mem.setBytes m _ _) (State.mem_atUop s n q u), ?_⟩
    rw [State.seqSt_setSeq_self]
    exact ⟨by simp, rfl⟩
  case fill =>
    intro n k a sl x w q u s h ha hp hr hf
    refine congrArg _ (State.micro_after (p := { q with
      wins := Store.put q.wins (s.uread q u.a).toNat { x with slot := some sl }, memBusy := true }) (target := none) h ?_ (fun e => ne_ended_of_dueUop h e) rfl ha)
    simp only [State.uread_atUop, State.poisoned_atUop, State.spillRead_atUop, hp, hr, hf, Bool.false_eq_true, if_false]
  case memwait =>
    intro n k a w q u s h ha
    exact congrArg _ (State.microQ_after h rfl rfl rfl ha)
  case failrd =>
    intro n k a w q u s h ha h3
    obtain ⟨hmem, hworks, hregs, hseq⟩ := (((atUop s u q).setSeq n q).useFree).withSites_spec n (q.writeSet u.a (failSelect q u.imm s.freeVal))
      { q.writeSet u.a (failSelect q u.imm s.freeVal) with upc := a } (if isSet u.a || isSet u.b then 1 else 0)
    refine ⟨_, execFailrd_next h ha, hmem.trans (State.mem_atUop s n q u), hworks.trans (State.works_atUop s n q u), fun r hr => ?_, ?_⟩
    · exact (hregs r hr).trans (State.rd_atUop s n q u r)
    · rw [hseq, failSelect_eq q h3]
  case siteop =>
    intro n k a w q u s h ha
    obtain ⟨hmem, hworks, hregs, hseq⟩ := ((atUop s u q).setSeq n q).withSites_spec n
      (q.writeSet u.a (Config.siteOp (u.imm % 16) (s.readSet q u.a) (s.readSet q u.b)))
      { q.writeSet u.a (Config.siteOp (u.imm % 16) (s.readSet q u.a) (s.readSet q u.b)) with upc := a } (if isSet u.a || isSet u.b then 1 else 0)
    exact ⟨_, execSiteop_next h ha, hmem.trans (State.mem_atUop s n q u), hworks.trans (State.works_atUop s n q u),
      fun r hr => (hregs r hr).trans (State.rd_atUop s n q u r), hseq⟩
  case crier =>
    intro n k a w q u s h ha
    obtain ⟨t, hexec, hmem, hworks, hrun, hregs, hfr, hseq⟩ := execUopCrier_next h ha
    refine ⟨t, hexec, hmem, hworks, hrun, hregs, hfr, ?_⟩
    rw [hseq]
    exact ⟨rfl, rfl, rfl, rfl⟩
  case latch =>
    intro n k a w q u s hua hub h ha
    have hat : atUop s u q = s := if_neg (by simp [hua, hub])
    have ha' : ((s.setSeq n q).pastDecision q).nextAddr q.upc none = some a := ha
    refine congrArg _ ((State.micro_set (p := q.clearLatch (u.imm % 8)) (target := none) h (by rw [hat]) ?_ ha').trans ?_)
    · rw [Seq.clearLatch_phase]; exact ne_ended_of_dueUop h
    · exact State.setSeq_setSeq ((s.pastDecision q).useFree _) n q _
  case voidb =>
    intro n k w q u s h
    exact congrArg _ (State.micro_ended h rfl (State.phase_stopBurst _ _ _ _))
  case endb =>
    intro n k w q u s h
    exact congrArg _ (State.micro_ended h rfl (State.phase_finishBurst _ _ _ _ _))

end Sys2Proof.Machine
end

section
/-!
SUPPORT. Protocol lanes (O17; R220 to R243): mode writes, alignment, losses, headers and blocks.
-/

namespace Sys2Proof.Machine

section
variable {s : State} {k h : Nat}

/-! ## Writes of LANEn_MODE (R243) -/

theorem execLaneModeEnable_booted (v : Word) (hk : k < 64) (hb : s.booted = true) : execLaneModeEnable k v s = .next (s.laneModeWrite k v) :=
  if_neg (by simp [hb, hk])

theorem execLaneModeOff_booted (hk : k < 64) (hb : s.booted = true) :
    execLaneModeOff k s = .next (s.laneModeWrite k (F.LANEn_MODE_MODE.put (s.rd ⟨.LANEn_MODE, k, 0⟩) 0)) :=
  if_neg (by simp [hb, hk])

/-- The mode of a word that asks for OFF. -/
theorem laneMode_put_off (w : Word) : F.LANEn_MODE_MODE.get (F.LANEn_MODE_MODE.put w 0 &&& 0x7FFF00F3#32) = 0 := by
  have h : (F.LANEn_MODE_MODE.put w 0).extractLsb' 0 2 = 0#2 :=
    BitVec.eq_of_toNat_eq (Fld.get_put_self F.LANEn_MODE_MODE w 0 (by decide))
  have hg : F.LANEn_MODE_MODE.get (F.LANEn_MODE_MODE.put w 0 &&& 0x7FFF00F3#32) =
      ((F.LANEn_MODE_MODE.put w 0 &&& 0x7FFF00F3#32).extractLsb' 0 2).toNat := rfl
  rw [hg, BitVec.extractLsb'_and, h, BitVec.zero_and]
  rfl

/-- A lane that was OFF takes an accepted mode and enters ACQUIRE. -/
theorem State.laneModeWrite_on {v : Word} (h0 : s.get F.LANEn_MODE_MODE k = 0) (hr : s.modeRejected k (v &&& 0x7FFF00F3#32) = false)
    (hm : F.LANEn_MODE_MODE.get (v &&& 0x7FFF00F3#32) ≠ 0) :
    s.laneModeWrite k v =
      let u := s.wr ⟨.LANEn_MODE, k, 0⟩ (v &&& 0x7FFF00F3#32)
      let x := if F.LANEn_MODE_MODE.get (v &&& 0x7FFF00F3#32) = 2 ∧ (u.bit F.FLT_STATUS_SAFE = true ∨ s.safeEntry.isSome = true) then
          { u with laneTxOff := k :: s.laneTxOff } else u
      (x.setLane k { s.lane k with txFrom := if F.LANEn_MODE_MODE.get (v &&& 0x7FFF00F3#32) = 2 then some s.fr else none }).laneDrop k 1 := by
  have hw : (s.wr ⟨.LANEn_MODE, k, 0⟩ (v &&& 0x7FFF00F3#32)).safeEntry = s.safeEntry := rfl
  unfold State.laneModeWrite
  simp only [h0, hr, if_neg hm, if_true, Bool.false_eq_true, if_false, hw]
  split <;> rfl

/-- A lane that is free goes OFF. -/
theorem State.laneModeWrite_off {v : Word} (h0 : s.get F.LANEn_MODE_MODE k ≠ 0) (hm : F.LANEn_MODE_MODE.get (v &&& 0x7FFF00F3#32) = 0)
    (hf : s.bit F.LANEn_BIND_BOUND k = false ∨ s.seqBusy (s.get F.LANEn_BIND_SEQ k) = false) :
    s.laneModeWrite k v =
      { (((s.set F.LANEn_MODE_MODE 0 k).laneDrop k 0).clrBit F.LANEn_STATUS_LOS k).setLane k { s.lane k with txFrom := none } with
        laneTxOff := s.laneTxOff.filter (· ≠ k) } := by
  unfold State.laneModeWrite
  simp only [if_neg h0, hm, ne_eq, not_true_eq_false, if_false]
  rw [if_neg (by rcases hf with h | h <;> simp [h])]
  rfl

theorem State.laneDrop_bits (x : State) (st : Nat) (hst : st < 4) :
    (x.laneDrop k st).get F.LANEn_STATUS_STATE k = st ∧ (x.laneDrop k st).bit F.LANEn_STATUS_CDR_LOCK k = false ∧
      (x.laneDrop k st).bit F.LANEn_STATUS_BLOCK_LOCK k = false := by
  unfold State.laneDrop
  refine ⟨?_, ?_, State.bit_clrBit _ _ _ _ (by decide)⟩
  · unfold State.clrBit
    rw [State.get_set_fld _ _ _ _ _ _ _ _ (by decide) (by decide), State.get_set_fld _ _ _ _ _ _ _ _ (by decide) (by decide),
      State.get_set_self _ _ _ _ _ (by decide)]
    exact Nat.mod_eq_of_lt hst
  · rw [State.bit_clrBit_fld _ _ _ _ _ _ _ (by decide) (by decide), State.bit_clrBit _ _ _ _ (by decide)]

theorem State.laneDrop_regsBut (x : State) (st : Nat) : regsBut [.LANEn_STATUS] x (x.laneDrop k st) := by
  intro r hr
  have hne : r.name ≠ .LANEn_STATUS := by simpa using hr
  unfold State.laneDrop
  rw [State.rd_clrBit_of_ne _ _ _ _ _ hne, State.rd_clrBit_of_ne _ _ _ _ _ hne, State.rd_set_of_ne _ _ _ _ _ _ hne]

/-- OFF: every lock and LOS clear, the transmitter stopped, nothing else changed. -/
theorem State.laneOff_spec (s : State) (k : Nat) :
    let t : State := { (((s.set F.LANEn_MODE_MODE 0 k).laneDrop k 0).clrBit F.LANEn_STATUS_LOS k).setLane k { s.lane k with txFrom := none } with
      laneTxOff := s.laneTxOff.filter (· ≠ k) }
    t.get F.LANEn_MODE_MODE k = 0 ∧ t.get F.LANEn_STATUS_STATE k = 0 ∧ t.bit F.LANEn_STATUS_CDR_LOCK k = false ∧
      t.bit F.LANEn_STATUS_BLOCK_LOCK k = false ∧ t.bit F.LANEn_STATUS_LOS k = false ∧ k ∉ t.laneTxOff ∧
      t.lane k = { s.lane k with txFrom := none } ∧ regsBut [.LANEn_MODE, .LANEn_STATUS] s t ∧ t.mem = s.mem := by
  intro t
  have hrd (r : Reg) : t.rd r = (((s.set F.LANEn_MODE_MODE 0 k).laneDrop k 0).clrBit F.LANEn_STATUS_LOS k).rd r := rfl
  obtain ⟨hst, hcdr, hblk⟩ := State.laneDrop_bits (k := k) (s.set F.LANEn_MODE_MODE 0 k) 0 (by decide)
  refine ⟨?_, ?_, ?_, ?_, ?_, by simp [t], ?_, fun r hr => ?_, rfl⟩
  · have h : t.rd ⟨.LANEn_MODE, k, 0⟩ = (s.set F.LANEn_MODE_MODE 0 k).rd ⟨.LANEn_MODE, k, 0⟩ := by
      rw [hrd, State.rd_clrBit_of_ne _ _ _ _ _ (by simp [F.LANEn_STATUS_LOS]), State.laneDrop_regsBut _ _ _ (by simp)]
    exact (congrArg F.LANEn_MODE_MODE.get h).trans (State.get_set_self _ _ _ _ _ (by decide))
  · exact (State.get_set_fld _ F.LANEn_STATUS_LOS F.LANEn_STATUS_STATE _ _ _ _ _ (by decide) (by decide)).trans hst
  · exact (State.bit_clrBit_fld _ F.LANEn_STATUS_LOS F.LANEn_STATUS_CDR_LOCK _ _ _ _ (by decide) (by decide)).trans hcdr
  · exact (State.bit_clrBit_fld _ F.LANEn_STATUS_LOS F.LANEn_STATUS_BLOCK_LOCK _ _ _ _ (by decide) (by decide)).trans hblk
  · exact State.bit_clrBit _ F.LANEn_STATUS_LOS _ _ (by decide)
  · simp [t, State.lane, State.setLane]
  · obtain ⟨h1, h2⟩ : r.name ≠ .LANEn_MODE ∧ r.name ≠ .LANEn_STATUS := by simpa using hr
    rw [hrd, State.rd_clrBit_of_ne _ _ _ _ _ h2, State.laneDrop_regsBut _ _ _ (by simpa using h2), State.rd_set_of_ne _ _ _ _ _ _ h1]

/-! ## Locks and losses (R226 to R235) -/

theorem execCdrLock_acquire (hk : k < 64) (hs : s.laneState k = 1) (hl : s.bit F.LANEn_STATUS_LOS k = false) :
    execCdrLock k s = .next ((s.setBit F.LANEn_STATUS_CDR_LOCK k).enterHunt k 0) := if_neg (by simp [hk, hs, hl])

theorem execCdrLockLoss_aligned (hk : k < 64) (hs : 2 ≤ s.laneState k) :
    execCdrLockLoss k s = .next (((if s.laneState k = 3 then s.lockLost k else s).laneDrop k 1).laneEvent k 1) :=
  if_neg (by omega)

theorem execLosAssert_on (hk : k < 64) (hs : s.laneState k ≠ 0) (ht : s.get F.LANEn_LOS_LOS_THRESH k ≠ 0)
    (hl : s.bit F.LANEn_STATUS_LOS k = false) :
    execLosAssert k s = .next (
      let s := if s.laneState k = 3 then s.lockLost k else s
      (((s.setLane k { s.lane k with losSeen := true }).setBit F.LANEn_STATUS_LOS k).laneDrop k 1).laneEvent k 2) :=
  if_neg (by simp [hk, hs, ht, hl])

/-! ## Headers (R228 to R235) -/

theorem headerValid_of_bad (h' : h = 0 ∨ h = 3) : headerValid h = false := by rcases h' with rfl | rfl <;> rfl

theorem headerValid_of_good (h' : h = 1 ∨ h = 2) : headerValid h = true := by rcases h' with rfl | rfl <;> rfl

/-- The candidate after the one that is examined. -/
def State.nextBlock (s : State) (k : Nat) : Nat := (s.lane k).next + s.payloadBits k + 2

theorem execLaneHeader_hunt (hk : k < 64) (hh : h < 4) (hs : s.laneState k = 2) :
    execLaneHeader k h s = .next (
      if !headerValid h then
        s.setLane k { s.lane k with valid := 0, examined := (s.lane k).examined + 1, next := s.nextBlock k + 1 }
      else if (s.lane k).valid < 63 then
        s.setLane k { s.lane k with valid := (s.lane k).valid + 1, examined := (s.lane k).examined + 1, next := s.nextBlock k }
      else
        ((((s.useFree.setLane k { s.lane k with valid := 0, window := List.replicate 64 false, descr := BitVec.ofNat 58 s.freeVal,
                                                cmpBlock := false, next := s.nextBlock k }).set F.LANEn_STATUS_STATE 3 k).setBit
          F.LANEn_STATUS_BLOCK_LOCK k).laneEvent k 0).readAhead k) := by
  rw [execLaneHeader, if_neg (by omega)]
  simp only [hs, if_true]
  split
  · rfl
  · split <;> rfl

theorem execLaneHeader_locked (hk : k < 64) (hh : h < 4) (hs : s.laneState k = 3) :
    execLaneHeader k h s = .next (
      let l := s.lane k
      let win := ((!headerValid h) :: l.window).take 64
      if 16 ≤ win.countP id then
        ((((s.setLane k { l with window := win }).lockLost k).clrBit F.LANEn_STATUS_BLOCK_LOCK k).enterHunt k (s.nextBlock k)).laneEvent k 1
      else
        let c := l.phase == .running || (l.phase == .armed && s.cmpStart k)
        (s.setLane k { l with
          window := win, cmpBlock := c,
          startVector := if c then some (l.startVector.getD (s.seqSt (s.get F.LANEn_BIND_SEQ k)).vecNow) else l.startVector,
          next := s.nextBlock k }).readAhead k) := by
  rw [execLaneHeader, if_neg (by omega)]
  simp only [hs, if_true, if_neg (show ¬ (3 : Nat) = 2 by decide)]
  split
  · rfl
  · rfl

theorem execHuntSlow_due (hk : k < 64) (hs : s.laneState k = 2) (hl : s.get F.LANEn_HUNT_HUNT_LIMIT k ≠ 0)
    (he : s.get F.LANEn_HUNT_HUNT_LIMIT k * 1024 ≤ (s.lane k).examined) :
    execHuntSlow k s = .next ((s.setLane k { s.lane k with examined := 0, huntSlow := true }).setBit F.LANEn_EVENTS_HUNT_SLOW k) :=
  if_neg (by omega)

/-! ## Blocks (R231 to R240) -/

/-- The descrambler's register and output for a block's payload. -/
def State.laneDescr (s : State) (k v : Nat) : BitVec 58 × Nat := descramble (s.lane k).descr (v % 2 ^ s.payloadBits k) 0 (s.payloadBits k)

/-- The payload that the matcher and the compare see. -/
def State.lanePayload (s : State) (k v : Nat) : Nat := if s.bit F.LANEn_MODE_DESCR k then (s.laneDescr k v).2 else v % 2 ^ s.payloadBits k

/-- The lane once the block has passed the descrambler. -/
def State.laneFed (s : State) (k v : Nat) : State := s.setLane k { s.lane k with descr := (s.laneDescr k v).1 }

/-- The lane once the matcher has seen the block. -/
def State.laneSeen (s : State) (k h v : Nat) : State :=
  if (s.laneFed k v).matches_ k h (s.lanePayload k v) then (s.laneFed k v).laneEvent k 3 else s.laneFed k v

/-- The lane at the end of a block: an armed compare is anchored by a match, and the next expected block is read. -/
def State.laneBlockEnd (s u : State) (k h v : Nat) : State :=
  (u.setLane k { u.lane k with
    cmpBlock := false,
    anchored := (u.lane k).anchored || ((s.laneFed k v).matches_ k h (s.lanePayload k v) && (u.lane k).phase == CmpPhase.armed) }).readAhead k

/-- What the compare does with the block, on the sequencer of the lane. -/
def State.laneCompare (u : State) (k h x : Nat) (differ : Bool) (wk : Nat) (w : Work) : State :=
  if !(u.lane k).cmpBlock ∨ (w.stage ≠ .running ∧ w.stage ≠ .closing) then u
  else
    let bad := u.expectedBad k w (u.lane k).blocks
    if bad = 0 then u.judgeBlock k h x wk differ
    else if bad = 0x224 then (u.eccDetect (u.expectedAt k (u.lane k).blocks / 8) 64 [wk]).stopBurst (u.get F.LANEn_BIND_SEQ k) wk bad
    else u.stopBurst (u.get F.LANEn_BIND_SEQ k) wk bad

theorem execLaneBlock_locked (v : Nat) (d : Bool) (hk : k < 64) (hl : s.bit F.LANEn_STATUS_BLOCK_LOCK k = true) :
    execLaneBlock k h v d s = .next (s.laneBlockEnd
      ((s.laneSeen k h v).onSeq ((s.laneSeen k h v).get F.LANEn_BIND_SEQ k) fun wk w _ => (s.laneSeen k h v).laneCompare k h (s.lanePayload k v) d wk w)
      k h v) := by
  rw [execLaneBlock, if_neg (by simp [hk, hl])]
  rfl

theorem execLaneBlock_unlocked (v : Nat) (d : Bool) (hl : s.bit F.LANEn_STATUS_BLOCK_LOCK k = false) : execLaneBlock k h v d s = .next s :=
  if_pos (.inr (by simp [hl]))

/-- The matcher leaves the binding of the lane and its sequencer. -/
theorem State.laneSeen_seqSt (v n : Nat) : (s.laneSeen k h v).seqSt n = s.seqSt n := by
  unfold State.laneSeen; split <;> rfl

theorem State.laneSeen_bindSeq (v : Nat) : (s.laneSeen k h v).get F.LANEn_BIND_SEQ k = s.get F.LANEn_BIND_SEQ k := by
  unfold State.laneSeen
  split
  · exact congrArg F.LANEn_BIND_SEQ.get (State.rd_setBit_of_ne (s.laneFed k v) ⟨.LANEn_EVENTS, 3, 1⟩ k 0 _ (by simp [F.LANEn_BIND_SEQ]))
  · rfl

theorem State.onSeq_of_none (n : Nat) (f : Nat → Work → Seq → State) (h : (s.seqSt n).work = none) : s.onSeq n f = s := by
  simp only [State.onSeq, h]

end

/-- Settles O17: each command by the lemma for the lane's state. -/
theorem protocolLanes : Obligations.ProtocolLanes := by
  unfold Obligations.ProtocolLanes
  refine ⟨?rejected, ?on, ?notOff, ?off, ?offBusy, ?cdr, ?loss, ?lossLocked, ?los, ?losLocked, ?losClear, ?bad, ?good, ?locks, ?unlocks, ?stays,
    ?slow, ?blockUnlocked, ?blockIdle, ?blockJudged⟩
  case rejected =>
    intro k v s hk hb h0 hr
    exact (execLaneModeEnable_booted v hk hb).trans (by simp only [State.laneModeWrite, h0, hr, if_true])
  case on =>
    intro k v s hk hb h0 hr hm
    exact (execLaneModeEnable_booted v hk hb).trans (congrArg _ (State.laneModeWrite_on h0 hr hm))
  case notOff =>
    intro k v s hk hb h0 hm
    exact (execLaneModeEnable_booted v hk hb).trans (by simp only [State.laneModeWrite, if_neg h0, if_pos hm])
  case off =>
    intro k s hk hb h0 hf
    exact ⟨_, (execLaneModeOff_booted hk hb).trans (congrArg _ (State.laneModeWrite_off h0 (laneMode_put_off _) hf)), State.laneOff_spec s k⟩
  case offBusy =>
    intro k s hk hb h0 hbd hbusy
    refine (execLaneModeOff_booted hk hb).trans ?_
    simp only [State.laneModeWrite, if_neg h0, laneMode_put_off, ne_eq, not_true_eq_false, if_false, hbd, hbusy, and_self, if_true]
  case cdr => exact fun k s => execCdrLock_acquire
  case loss =>
    intro k s hk hs
    exact (execCdrLockLoss_aligned hk (by omega)).trans (by rw [if_neg (by omega)]; rfl)
  case lossLocked =>
    intro k s hk hs
    exact (execCdrLockLoss_aligned hk (by omega)).trans (by rw [if_pos hs]; rfl)
  case los =>
    intro k s hk hs ht hl
    exact (execLosAssert_on hk (by omega) ht hl).trans (by rw [if_neg (by omega)]; rfl)
  case losLocked =>
    intro k s hk hs ht hl
    exact (execLosAssert_on hk (by omega) ht hl).trans (by rw [if_pos hs]; rfl)
  case losClear => exact fun k s hk => if_neg (Nat.not_le.mpr hk)
  case bad =>
    intro h k s hk hs hh
    exact (execLaneHeader_hunt hk (by omega) hs).trans (by rw [headerValid_of_bad hh]; rfl)
  case good =>
    intro h k s hk hs hh hv
    exact (execLaneHeader_hunt hk (by omega) hs).trans (by rw [headerValid_of_good hh, if_neg (by decide), if_pos hv]; rfl)
  case locks =>
    intro h k s hk hs hh hv
    exact (execLaneHeader_hunt hk (by omega) hs).trans (by rw [headerValid_of_good hh, if_neg (by decide), if_neg (by omega)]; rfl)
  case unlocks =>
    intro h k s hk hs hh hw
    exact (execLaneHeader_locked hk hh hs).trans (congrArg _ (if_pos hw))
  case stays =>
    intro h k s hk hs hh hw
    exact (execLaneHeader_locked hk hh hs).trans (congrArg _ (if_neg (by omega)))
  case slow => exact fun k s => execHuntSlow_due
  case blockUnlocked => exact fun k h v d s => execLaneBlock_unlocked v d
  case blockIdle =>
    intro k h v d s hk hl hw
    refine (execLaneBlock_locked v d hk hl).trans ?_
    rw [State.onSeq_of_none _ _ (by rw [State.laneSeen_seqSt, State.laneSeen_bindSeq, hw])]
    rfl
  case blockJudged =>
    intro h v k y d w s hk hl n p x u hy hw hs hc he
    refine (execLaneBlock_locked v d hk hl).trans ?_
    have hu : s.laneSeen k h v = u := rfl
    rw [hu, State.onSeq_eq u _ _ hy hw, State.laneCompare, if_neg]
    · simp only [he, if_true]
      rfl
    · rcases hs with hs | hs <;> simp [hc, hs]

end Sys2Proof.Machine
end

section
/-!
SUPPORT. Cycles and the ends of bursts (O18): what the operations of a cycle and of a burst's end leave of the instant, the receipts, the
sequencers and the binding of the lanes.
-/

namespace Sys2Proof.Machine

/-- The part of the state that the close of a burst and the pins of a cycle leave. -/
structure BurstView where
  fr : Tu
  receipts : List RaisedReceipt
  raiseNo : Nat
  seqs : Store Nat Seq
  binds : Nat → Word

def State.burstView (s : State) : BurstView :=
  ⟨s.fr, s.receipts, s.raiseNo, s.seqs, fun k => Store.getD s.regs ⟨.LANEn_BIND, k, 0⟩ (resetWord ⟨.LANEn_BIND, k, 0⟩)⟩

@[simp] theorem State.burstView_mk {regs mem poison fr frRuns free booted rdata latch rstat funcs numVfs ari vfEnable stalls works nextWork
    devAllowance receipts donePaces tx triggers raiseNo events arrivals lastArrival detections ledgerEvents ports segs seqs tsPending
    frames0 frames1 nextEntry ethOut chans edges lanes patch crier factApplied ledgRecs ledgQueue ledgWrite laneTxOff safeEntry holdEnd
    warnSince resets watches conc gates srcEdges turn ssms driftRows handledAt calQueue oven masterOven joints gsl gslIn peers electAt
    members linksDown timeHalf timeNext timeSet servo ptpRate idConflict hallCfg crierDrv crierWait pulses crierCfg crierNow postponed awn
    items graphs schedNo callRet l1 cohWait recalls losers regions arbs debt sref srefAt openRows adcs results safetyDue safetyRes calRun
    energy p4Req p4Event inReset perstLow resetNLow powerGood pushing wdtMs wdtFrom ledgTorn bar4Log2 pending} :
    State.burstView (State.mk regs mem poison fr frRuns free booted rdata latch rstat funcs numVfs ari vfEnable stalls works nextWork
      devAllowance receipts donePaces tx triggers raiseNo events arrivals lastArrival detections ledgerEvents ports segs seqs tsPending
      frames0 frames1 nextEntry ethOut chans edges lanes patch crier factApplied ledgRecs ledgQueue ledgWrite laneTxOff safeEntry holdEnd
      warnSince resets watches conc gates srcEdges turn ssms driftRows handledAt calQueue oven masterOven joints gsl gslIn peers electAt
      members linksDown timeHalf timeNext timeSet servo ptpRate idConflict hallCfg crierDrv crierWait pulses crierCfg crierNow postponed awn
      items graphs schedNo callRet l1 cohWait recalls losers regions arbs debt sref srefAt openRows adcs results safetyDue safetyRes calRun
      energy p4Req p4Event inReset perstLow resetNLow powerGood pushing wdtMs wdtFrom ledgTorn bar4Log2 pending) =
      ⟨fr, receipts, raiseNo, seqs, fun k => Store.getD regs ⟨.LANEn_BIND, k, 0⟩ (resetWord ⟨.LANEn_BIND, k, 0⟩)⟩ :=
  (rfl)

@[simp] theorem State.burstView_eta (s : State) :
    BurstView.mk s.fr s.receipts s.raiseNo s.seqs (fun k => Store.getD s.regs ⟨.LANEn_BIND, k, 0⟩ (resetWord ⟨.LANEn_BIND, k, 0⟩)) =
      s.burstView := (rfl)

@[simp] theorem State.burstView_ite (c : Prop) [Decidable c] (s t : State) :
    (if c then s else t).burstView = if c then s.burstView else t.burstView := apply_ite ..

theorem State.burstView_binds (s : State) (k : Nat) : s.burstView.binds k = s.rd ⟨.LANEn_BIND, k, 0⟩ := rfl

/-! ## Registers -/

@[simp] theorem State.wr_burstView (s : State) (r : Reg) (w : Word) (h : r.name ≠ .LANEn_BIND) : (s.wr r w).burstView = s.burstView := by
  have hb : (s.wr r w).burstView.binds = s.burstView.binds := funext fun k => by
    simp only [State.burstView_binds, State.rd_wr]
    exact if_neg fun e => h (congrArg Reg.name e.symm)
  exact congrArg (fun b => ({ s.burstView with binds := b } : BurstView)) hb

@[simp] theorem State.set_burstView (s : State) (f : Fld) (v i j : Nat) (h : f.reg ≠ .LANEn_BIND) : (s.set f v i j).burstView = s.burstView :=
  State.wr_burstView s _ _ h

@[simp] theorem State.setBit_burstView (s : State) (f : Fld) (i j : Nat) (h : f.reg ≠ .LANEn_BIND) : (s.setBit f i j).burstView = s.burstView :=
  State.wr_burstView s _ _ h

@[simp] theorem State.clrBit_burstView (s : State) (f : Fld) (i j : Nat) (h : f.reg ≠ .LANEn_BIND) : (s.clrBit f i j).burstView = s.burstView :=
  State.wr_burstView s _ _ h

@[simp] theorem State.setIf_burstView (s : State) (f : Fld) (b : Bool) (i j : Nat) (h : f.reg ≠ .LANEn_BIND) :
    (s.setIf f b i j).burstView = s.burstView := State.wr_burstView s _ _ h

@[simp] theorem State.countUp_burstView (s : State) (f : Fld) (n i j : Nat) (h : f.reg ≠ .LANEn_BIND) :
    (s.countUp f n i j).burstView = s.burstView := State.wr_burstView s _ _ h

theorem foldl_burstView {α : Type} (f : State → α → State) (l : List α) (s : State) (h : ∀ t x, (f t x).burstView = t.burstView) :
    (l.foldl f s).burstView = s.burstView :=
  foldl_keep (·.burstView = s.burstView) f (fun t x ht => (h t x).trans ht) l rfl

@[simp] theorem State.wrWords_burstView (s : State) (r : RegName) (i n v : Nat) (h : r ≠ .LANEn_BIND) : (s.wrWords r i n v).burstView = s.burstView :=
  foldl_burstView _ _ _ fun t _ => State.wr_burstView t _ _ h

/-! ## The pins of a cycle -/

@[simp] theorem State.raise_burstView (s : State) (source : Nat) (at_ : Tu) (rising : Bool) (mark : Nat) :
    (s.raise source at_ rising mark).burstView = s.burstView := (rfl)
@[simp] theorem State.detect_burstView (s : State) (d : Detection) : (s.detect d).burstView = s.burstView := (rfl)
@[simp] theorem State.setChan_burstView (s : State) (c : Nat) (v : Chan) : (s.setChan c v).burstView = s.burstView := (rfl)
@[simp] theorem State.setLane_burstView (s : State) (k : Nat) (v : Lane) : (s.setLane k v).burstView = s.burstView := (rfl)
@[simp] theorem State.disagreement_burstView (s : State) (c : Nat) : (s.disagreement c).burstView = s.burstView := (rfl)

@[simp] theorem State.srcEdge_burstView (s : State) (source : Nat) (rising : Bool) (t : Tu) : (s.srcEdge source rising t).burstView = s.burstView := by
  simp [State.srcEdge]

@[simp] theorem State.srcEdges2_burstView (s : State) (c a b : Nat) (t : Tu) : (s.srcEdges2 c a b t).burstView = s.burstView := by
  simp [State.srcEdges2]

@[simp] theorem State.outcomes_burstView (s : State) (c o0 : Nat) (cs : List (Nat × Nat)) (s0 : Int) : (s.outcomes c o0 cs s0).burstView = s.burstView := by
  have h (l : List (Nat × Nat)) : ∀ x : State × Nat,
      (l.foldl (fun (x : State × Nat) p => (x.1.srcEdges2 c x.2 p.2 (s0 + (p.1 : Int)).toNat, p.2)) x).1.burstView = x.1.burstView := by
    induction l with
    | nil => exact fun _ => rfl
    | cons p l ih => exact fun x => (ih _).trans (State.srcEdges2_burstView _ _ _ _ _)
  simp (disch := decide) only [State.outcomes, State.burstView_ite, State.disagreement_burstView, State.set_burstView, h, ite_self]

@[simp] theorem State.runChan_burstView (s : State) (n : Nat) (w : Work) (start : Tu) (period : Nat) (io : CycleIn) (p : Nat × Nat × TSet) :
    (s.runChan n w start period io p).1.burstView = s.burstView := by
  simp (disch := decide) [State.runChan]

@[simp] theorem State.runChans_burstView (n : Nat) (w : Work) (start : Tu) (period : Nat) (io : CycleIn) (ps : List (Nat × Nat × TSet)) (s : State) :
    (s.runChans n w start period io ps).1.burstView = s.burstView := by
  induction ps generalizing s with
  | nil => rfl
  | cons p ps ih => simp [State.runChans, ih]

@[simp] theorem State.quietChans_burstView (s : State) (n : Nat) (start : Tu) (period : Nat) (io : CycleIn) :
    (s.quietChans n start period io).burstView = s.burstView :=
  foldl_burstView _ _ _ fun t c => by simp

@[simp] theorem State.checkFailed_burstView (s : State) (n check : Nat) : (s.checkFailed n check).burstView = s.burstView := by
  simp (disch := decide) [State.checkFailed]

@[simp] theorem State.refreshCap_burstView (s : State) (n : Nat) (w : Work) : (s.refreshCap n w).burstView = s.burstView := by
  simp (disch := decide) [State.refreshCap]

@[simp] theorem State.refreshSites_burstView (s : State) (n : Nat) : (s.refreshSites n).burstView = s.burstView := by
  simp (disch := decide) [State.refreshSites]

/-! ## Compares, outputs and messages at a burst's end -/

@[simp] theorem State.laneEvent_burstView (s : State) (k e : Nat) : (s.laneEvent k e).burstView = s.burstView :=
  State.setBit_burstView s ⟨.LANEn_EVENTS, e, 1⟩ k 0 (by simp)

@[simp] theorem State.endCompare_burstView (s : State) (k result : Nat) (checked : Bool) : (s.endCompare k result checked).burstView = s.burstView := by
  simp (disch := decide) [State.endCompare]

@[simp] theorem State.armCompares_burstView (s : State) (w : Work) : (s.armCompares w).burstView = s.burstView :=
  foldl_burstView _ _ _ fun _ _ => rfl

@[simp] theorem State.endCompares_burstView (s : State) (w : Work) (void : Bool) : (s.endCompares w void).burstView = s.burstView := by
  refine foldl_burstView _ _ _ fun t x => ?_
  dsimp only
  repeat' split
  all_goals simp

@[simp] theorem State.settleCompares_burstView (s : State) (w : Work) : (s.settleCompares w).burstView = s.burstView := by
  refine foldl_burstView _ _ _ fun t x => ?_
  dsimp only
  repeat' split
  all_goals simp (disch := decide)

@[simp] theorem State.send_burstView (s : State) (w : HostWrite) : (s.send w).burstView = s.burstView := (rfl)
@[simp] theorem State.setGslPort_burstView (s : State) (p : Nat) (v : GslPort) : (s.setGslPort p v).burstView = s.burstView := (rfl)
@[simp] theorem State.dropJoint_burstView (s : State) (j : Nat) : (s.dropJoint j).burstView = s.burstView := (rfl)

@[simp] theorem State.writeCapHeader_burstView (s : State) (w : Work) (status : Nat) : (s.writeCapHeader w status).burstView = s.burstView := by
  simp [State.writeCapHeader]

@[simp] theorem State.writeLaneResults_burstView (s : State) (w : Work) (void : Bool) (cause : Nat) :
    (s.writeLaneResults w void cause).burstView = s.burstView := foldl_burstView _ _ _ fun t p => by simp

@[simp] theorem State.writeVerdict_burstView (s : State) (w : Work) (status cause fail retired : Nat) :
    (s.writeVerdict w status cause fail retired).burstView = s.burstView := by simp [State.writeVerdict]

@[simp] theorem State.closeOutputs_burstView (s : State) (w : Work) (status : Nat) : (s.closeOutputs w status).burstView = s.burstView := by
  simp [State.closeOutputs]

@[simp] theorem State.enqueueMsg_burstView (s : State) (role : Nat) (m : GslMsg) : (s.enqueueMsg role m).burstView = s.burstView := by
  unfold State.enqueueMsg
  split <;> simp

@[simp] theorem State.sendMsg_burstView (s : State) (mtype dst data arg : Nat) : (s.sendMsg mtype dst data arg).burstView = s.burstView := by
  simp [State.sendMsg]

@[simp] theorem State.sendParts_burstView (s : State) (w : Work) (mtype arg : Nat) : (s.sendParts w mtype arg).burstView = s.burstView :=
  foldl_burstView _ _ _ fun t _ => by simp

@[simp] theorem State.sendVoid_burstView (s : State) (w : Work) : (s.sendVoid w).burstView = s.burstView := by simp [State.sendVoid]

/-! ## The final receipt of a burst -/

theorem State.modWork_frame (s : State) (k : Nat) (f : Work → Work) : s.modWork k f = { s with works := (s.modWork k f).works } := by
  unfold State.modWork; split <;> rfl

/-- The state after a burst's final receipt, but for the orders. -/
theorem State.endBurst_frame (s : State) (k : Nat) (w : Work) :
    s.endBurst k w = { s with
      receipts := s.receipts ++ [{ work := k, status := if w.cause = 0 then Status.complete else Status.void, final := true, cause := w.cause,
                                   detail := s.burstDetail w, no := s.raiseNo }],
      raiseNo := s.raiseNo + 1, works := (s.endBurst k w).works } := by
  have hw : s.markWarm k w = { s with works := (s.markWarm k w).works } := by
    unfold State.markWarm; split
    · exact s.modWork_frame k _
    · rfl
  have h (t : State) (ht : t = { s with works := t.works }) :
      t.finalReceipt k (if w.cause = 0 then Status.complete else Status.void) w.cause (s.burstDetail w) = { s with
        receipts := s.receipts ++ [{ work := k, status := if w.cause = 0 then Status.complete else Status.void, final := true, cause := w.cause,
                                     detail := s.burstDetail w, no := s.raiseNo }],
        raiseNo := s.raiseNo + 1,
        works := (t.finalReceipt k (if w.cause = 0 then Status.complete else Status.void) w.cause (s.burstDetail w)).works } := by
    unfold State.finalReceipt
    generalize hr : t.raiseReceipt _ = r
    refine (r.modWork_frame k _).trans ?_
    rw [← hr, ht]
    rfl
  exact h _ hw

theorem State.burstDetail_congr {s t : State} (h : t.seqs = s.seqs) (w : Work) : t.burstDetail w = s.burstDetail w := by
  have hq : t.seqSt w.bSeq = s.seqSt w.bSeq := by simp only [State.seqSt, h]
  simp only [State.burstDetail, hq]

/-- What a burst's final receipt is, after operations that leave the receipts and the sequencers. -/
theorem State.endBurst_of_view {s t : State} (h : t.burstView = s.burstView) (k : Nat) (w : Work) :
    (t.endBurst k w).fr = s.fr ∧ (t.endBurst k w).mem = t.mem ∧
      (t.endBurst k w).receipts = s.receipts ++ [{ work := k, status := if w.cause = 0 then 0 else 2, final := true, cause := w.cause,
                                                   detail := s.burstDetail w, no := s.raiseNo }] := by
  have hfr : t.fr = s.fr := congrArg BurstView.fr h
  have hrec : t.receipts = s.receipts := congrArg BurstView.receipts h
  have hno : t.raiseNo = s.raiseNo := congrArg BurstView.raiseNo h
  have hseqs : t.seqs = s.seqs := congrArg BurstView.seqs h
  have he := t.endBurst_frame k w
  refine ⟨(congrArg State.fr he).trans hfr, (congrArg State.mem he).trans rfl, (congrArg State.receipts he).trans ?_⟩
  simp only [hrec, hno, State.burstDetail_congr hseqs]
  rfl

section
variable {s : State} {k c : Nat} {w : Work}

/-- The closing interval has ended (R161). -/
def State.closeAt (s : State) (w : Work) : State := s.advanceTo (w.endAt + 40960000)

theorem execClosingIntervalEnd_closing (h : s.work? k = some w) (ho : w.opcode = Op.burst) (hs : w.stage = .closing) :
    execClosingIntervalEnd k c s = .next (
      if c = 1 ∨ !((s.closeAt w).seqSt w.bSeq).closeOk then (s.closeAt w).checkFailed w.bSeq 1
      else if 64 ≤ c ∧ ((s.closeAt w).burstCmpLanes w).contains (c - 64) then (s.closeAt w).lanesDiffer (c - 64) k
      else if c = 2 then (s.closeAt w).checkFailed w.bSeq 3
      else if ((s.closeAt w).detections.any fun d => (s.closeAt w).affected d w || d.works.contains k) || !(s.closeAt w).watchDone k w then s.closeAt w
      else if w.isJoint then (((s.closeAt w).settleCompares w).closeOutputs w 1).sendDone k w
      else (((s.closeAt w).settleCompares w).closeOutputs w 1).endBurst k w) := by
  rw [execClosingIntervalEnd, s.onWork_eq k _ _ h ho, if_neg (not_not_intro hs)]
  rfl

/-- A burst that passes its checks and whose watch is done. -/
theorem execClosingIntervalEnd_passes (h : s.work? k = some w) (ho : w.opcode = Op.burst) (hs : w.stage = .closing)
    (hok : ((s.closeAt w).seqSt w.bSeq).closeOk = true)
    (hd : ((s.closeAt w).detections.any fun d => (s.closeAt w).affected d w || d.works.contains k) = false)
    (hw : (s.closeAt w).watchDone k w = true) :
    execClosingIntervalEnd k 0 s = .next (
      if w.isJoint then (((s.closeAt w).settleCompares w).closeOutputs w 1).sendDone k w
      else (((s.closeAt w).settleCompares w).closeOutputs w 1).endBurst k w) := by
  rw [execClosingIntervalEnd_closing h ho hs, if_neg (by simp [hok]), if_neg (by omega), if_neg (by omega), if_neg (by rw [hd, hw]; decide)]

/-- The outputs of a stopped burst, before its receipt. -/
def State.voidClosed (s : State) (w : Work) : State :=
  let s := ((if (s.seqSt w.bSeq).started then s else s.armCompares w).endCompares w true).closeOutputs w 2
  if w.isJoint then s.sendVoid w else s

theorem State.voidClosed_burstView (s : State) (w : Work) : (s.voidClosed w).burstView = s.burstView := by simp [State.voidClosed]

theorem execVoidFinalReceipt_stopped (h : s.work? k = some w) (ho : w.opcode = Op.burst) (hs : w.stage = .stopped) (hw : s.watchDone k w = true) :
    execVoidFinalReceipt k s = .next ((s.voidClosed w).endBurst k w) := by
  rw [execVoidFinalReceipt, s.onWork_eq k _ _ h ho, if_neg (by simp [hs, hw])]
  rfl

end

/-! ## The cycle (R125, R137, R150, R157) -/

/-- What the next cycle of a sequencer starts from. -/
structure SeqClock where
  nextStart : Tu
  period : Nat
  started : Bool
  acts : List SeqAct
  cycle : Nat
  vectors : Nat

def Seq.clock (q : Seq) : SeqClock := ⟨q.nextStart, q.period, q.started, q.acts, q.cycle, q.vectors⟩

/-- The instant, the clock of a sequencer and the binding of the lanes. -/
structure ClockView where
  fr : Tu
  clock : SeqClock
  binds : Nat → Word

def State.clockView (s : State) (n : Nat) : ClockView := ⟨s.fr, (s.seqSt n).clock, s.burstView.binds⟩

theorem State.clockView_of_burstView {s t : State} (h : t.burstView = s.burstView) (n : Nat) : t.clockView n = s.clockView n := by
  have hq : t.seqSt n = s.seqSt n := congrArg (fun m => Store.getD m n ({} : Seq)) (congrArg BurstView.seqs h)
  simp only [State.clockView, hq, h, show t.fr = s.fr from congrArg BurstView.fr h]

theorem State.clockView_setSeq (s : State) (n : Nat) (q : Seq) : (s.setSeq n q).clockView n = ⟨s.fr, q.clock, s.burstView.binds⟩ := by
  simp only [State.clockView, State.seqSt_setSeq_self]
  rfl

theorem State.clockView_setSeq_of_clock (s : State) (n : Nat) (q : Seq) (h : q.clock = (s.seqSt n).clock) : (s.setSeq n q).clockView n = s.clockView n := by
  rw [State.clockView_setSeq, h]; rfl

theorem State.startActs_clockView (s : State) (n : Nat) (w : Work) (start : Tu) (acts : List SeqAct) :
    (s.startActs n w start acts).clockView n = s.clockView n := by
  refine foldl_keep (·.clockView n = s.clockView n) _ (fun t a ht => Eq.trans ?_ ht) acts rfl
  cases a with
  | setts _ _ _ => rfl
  | dir _ _ =>
    dsimp only
    split
    · exact t.clockView_setSeq_of_clock n _ rfl
    · rfl
  | edgecmp _ _ _ =>
    dsimp only
    split
    · exact t.clockView_setSeq_of_clock n _ rfl
    · rfl
  | mark m => exact t.clockView_setSeq_of_clock n _ rfl
  | captureOn =>
    dsimp only
    split
    · rfl
    · exact t.clockView_setSeq_of_clock n _ rfl
  | captureOff =>
    dsimp only
    split
    · exact t.clockView_setSeq_of_clock n _ rfl
    · rfl

theorem State.evalTrigger_clockView (s : State) (n : Nat) (w : Work) (rs : List ChanResult) (failSites : Set256) (start : Tu) (vector : Nat) :
    (s.evalTrigger n w rs failSites start vector).1.clockView n = s.clockView n := by
  have hcap (c : CapRun) : (s.setSeq n { s.seqSt n with cap := c }).clockView n = s.clockView n := s.clockView_setSeq_of_clock n _ rfl
  have hset (c : CapRun) (src : Nat) (at_ : Tu) :
      (((s.setSeq n { s.seqSt n with cap := c }).setBit F.CAP_EVENTS_TRIGGER n).raise src at_).clockView n = s.clockView n :=
    (State.clockView_of_burstView (State.setBit_burstView _ F.CAP_EVENTS_TRIGGER n 0 (by decide)) n).trans (hcap c)
  simp only [State.evalTrigger, apply_ite Prod.fst, apply_ite (fun t : State => t.clockView n), hset, hcap, ite_self]

theorem State.tapEc_clockView (s : State) (n : Nat) (w : Work) (rs : List ChanResult) (start : Tu) :
    (s.tapEc n w rs start).clockView n = s.clockView n := s.clockView_setSeq_of_clock n _ rfl

theorem State.captureWrite_clockView (s : State) (n : Nat) (w : Work) (row : Nat) (isTrigger : Bool) :
    (s.captureWrite n w row isTrigger).clockView n = s.clockView n := by
  unfold State.captureWrite
  dsimp only
  split
  · rfl
  · split
    · split
      · refine (State.clockView_of_burstView (State.setBit_burstView _ F.CAP_EVENTS_FULL n 0 (by decide)) n).trans ?_
        exact State.clockView_setSeq_of_clock _ n _ rfl
      · exact State.clockView_setSeq_of_clock _ n _ rfl
    · exact s.clockView_setSeq_of_clock n _ rfl

theorem Seq.score_clock (q : Seq) (rs : List (ChanResult × Nat)) (inMatch : Bool) : (q.score rs inMatch).clock = q.clock := by
  unfold Seq.score; dsimp only; split <;> rfl

/-- The part of a cycle that has a row. -/
def State.rowCycle (s : State) (n : Nat) (w : Work) (r : Run) (p : CyclePlan) (io : CycleIn) : State :=
  let start := p.q.nextStart
  let (s, rs) := s.runChans n w start p.period io p.codes
  let q := (s.seqSt n).score rs (r.kind == .match_)
  let s := (s.setSeq n q).refreshSites n
  let res := rs.map Prod.fst
  let failSites : Set256 := rs.foldl (fun b x => if x.1.fail then b ||| siteBit x.2 else b) 0
  let s := if q.cap.on then
      let (s, trig) := s.evalTrigger n w res failSites start q.vectors
      let written := !q.cap.done && ((s.seqSt n).cap.place w (State.capRows w q.cap.rowBits) trig).isSome
      let s := if written then s.tapEc n w res start else s
      s.captureWrite n w (captureRow w res (s.rawLanes io.raw) q.cap.widths) trig
    else s
  s.setSeq n { s.seqSt n with vectors := q.vectors + 1, vecNow := q.vectors }

/-- The state at the start of a cycle: its count and its actions have begun. -/
def State.cycleBegun (s : State) (n : Nat) (w : Work) (p : CyclePlan) : State :=
  let s := s.advanceTo p.q.nextStart
  let s := if p.q.started then s else s.armCompares w
  let x := s.startCount n p.q p.period
  { (x.1.setSeq n { x.2.earn w (x.1.owned n).length p.period with acts := [] }).startActs n w p.q.nextStart p.q.acts with edges := [] }

/-- The state at the end of a cycle, before the lanes read ahead. -/
def State.cycleEnded (s : State) (n : Nat) (w : Work) (r : Run) (p : CyclePlan) (io : CycleIn) : State :=
  let s := s.cycleBegun n w p
  let s := if r.kind == .quiet then s.quietChans n p.q.nextStart p.period io else s.rowCycle n w r p io
  let s := s.checkFailed n io.check
  (s.setSeq n ({ s.seqSt n with nextStart := p.q.nextStart + p.period }.advanceRun r)).refreshCap n w

theorem State.runCycle_eq (s : State) (n : Nat) (w : Work) (r : Run) (p : CyclePlan) (io : CycleIn) :
    s.runCycle n w r p io = if p.q.started then s.cycleEnded n w r p io else (s.cycleEnded n w r p io).readAheadAll w := by
  simp only [State.runCycle, State.cycleEnded, State.cycleBegun, State.rowCycle, State.startCount]
  rfl

/-- A row's cycle counts one vector. -/
theorem State.rowCycle_clockView (s : State) (n : Nat) (w : Work) (r : Run) (p : CyclePlan) (io : CycleIn) :
    (s.rowCycle n w r p io).clockView n =
      { s.clockView n with clock := { (s.clockView n).clock with vectors := (s.clockView n).clock.vectors + 1 } } := by
  have hrun := State.clockView_of_burstView (State.runChans_burstView n w p.q.nextStart p.period io p.codes s) n
  unfold State.rowCycle
  dsimp only
  revert hrun
  generalize s.runChans n w p.q.nextStart p.period io p.codes = x
  obtain ⟨s1, rs⟩ := x
  intro hrun
  dsimp only at hrun ⊢
  have hq := Seq.score_clock (s1.seqSt n) rs (r.kind == .match_)
  generalize (s1.seqSt n).score rs (r.kind == .match_) = q at hq ⊢
  have h2 : ((s1.setSeq n q).refreshSites n).clockView n = s.clockView n :=
    (State.clockView_of_burstView (State.refreshSites_burstView _ n) n).trans ((s1.clockView_setSeq_of_clock n q hq).trans hrun)
  have hv : q.vectors = (s.clockView n).clock.vectors := (congrArg SeqClock.vectors hq).trans (congrArg (·.clock.vectors) hrun)
  generalize (s1.setSeq n q).refreshSites n = s2 at h2 ⊢
  generalize hs3 : (if q.cap.on = true then _ else s2) = s3
  have h3 : s3.clockView n = s.clockView n := by
    rw [← hs3, ← h2, apply_ite (fun t : State => t.clockView n), State.captureWrite_clockView, apply_ite (fun t : State => t.clockView n),
      State.tapEc_clockView, State.evalTrigger_clockView, ite_self, ite_self]
  rw [State.clockView_setSeq, ← h3, hv, ← h3]
  rfl

theorem Seq.advanceRun_clock (q : Seq) (r : Run) : (q.advanceRun r).clock = q.clock := by
  unfold Seq.advanceRun; dsimp only
  split
  · rfl
  · split
    · rfl
    · rfl
    · split <;> rfl

/-- What is left of a run after one of its cycles. -/
def Run.next (r : Run) : Option Run :=
  if r.left ≤ 1 then none
  else some { r with left := r.left - 1, beat := r.beat - 1, row := if r.kind = .vec ∨ r.kind = .match_ then r.row + 1 else r.row,
                     chainRow := if r.kind = .shift then r.chainRow + 1 else r.chainRow }

theorem Seq.advanceRun_run (q : Seq) (r : Run) : (q.advanceRun r).run = r.next := by
  unfold Seq.advanceRun Run.next; dsimp only
  by_cases h : r.left ≤ 1
  · rw [if_neg (by omega), if_pos h]
    split
    · rfl
    · rfl
    · split <;> rfl
  · rw [if_pos (by omega), if_neg h]

theorem State.burstView_refreshCap_setSeq (s : State) (n : Nat) (q : Seq) (w : Work) :
    ((s.setSeq n q).refreshCap n w).seqSt n = q := by
  have h : ((s.setSeq n q).refreshCap n w).seqs = (s.setSeq n q).seqs := (congrArg BurstView.seqs (State.refreshCap_burstView (s.setSeq n q) n w) :)
  have h' : ((s.setSeq n q).refreshCap n w).seqSt n = (s.setSeq n q).seqSt n := by simp only [State.seqSt, h]
  rw [h', State.seqSt_setSeq_self]

/-- The count of a cycle, before its actions. -/
theorem State.startCount_burstView (t : State) (n : Nat) (q : Seq) (period : Nat) : (t.startCount n q period).1.burstView = t.burstView := by
  unfold State.startCount
  dsimp only
  rw [State.wr_burstView _ _ _ (by simp), State.wr_burstView _ _ _ (by simp)]
  split
  · unfold State.wr80
    rw [State.wr_burstView _ _ _ (by simp), State.wr_burstView _ _ _ (by simp), State.wr_burstView _ _ _ (by simp)]
  · rfl

/-- The clock of a cycle that begins. -/
def CyclePlan.clock (p : CyclePlan) : SeqClock :=
  { nextStart := p.q.nextStart, period := p.period, started := true, acts := [],
    cycle := if p.q.reset || (p.q.period != 0 && p.period != p.q.period) then 0 else (p.q.cycle + 1) % 2 ^ 48, vectors := p.q.vectors }

theorem State.startCount_clock (t : State) (n : Nat) (p : CyclePlan) (w : Work) (l : Nat) :
    ({ (t.startCount n p.q p.period).2.earn w l p.period with acts := [] } : Seq).clock = p.clock := rfl

theorem State.cycleBegun_clockView (s : State) (n : Nat) (w : Work) (p : CyclePlan) :
    (s.cycleBegun n w p).clockView n = ⟨max s.fr p.q.nextStart, p.clock, s.burstView.binds⟩ := by
  have hv : (if p.q.started then s.advanceTo p.q.nextStart else (s.advanceTo p.q.nextStart).armCompares w).burstView =
      (s.advanceTo p.q.nextStart).burstView := by split <;> simp
  unfold State.cycleBegun
  extract_lets t0 t x
  have hx : x.1.burstView = (s.advanceTo p.q.nextStart).burstView := (State.startCount_burstView t n p.q p.period).trans hv
  refine (State.startActs_clockView (x.1.setSeq n { x.2.earn w (x.1.owned n).length p.period with acts := [] }) n w p.q.nextStart p.q.acts).trans ?_
  rw [State.clockView_setSeq, State.startCount_clock, hx, show x.1.fr = max s.fr p.q.nextStart from congrArg BurstView.fr hx]
  rfl

/-- R125, R137, R150: what the next cycle starts from. -/
theorem State.cycleEnded_spec (s : State) (n : Nat) (w : Work) (r : Run) (p : CyclePlan) (io : CycleIn) :
    (s.cycleEnded n w r p io).clockView n =
      ⟨max s.fr p.q.nextStart,
       { p.clock with nextStart := p.q.nextStart + p.period, vectors := if r.kind = .quiet then p.q.vectors else p.q.vectors + 1 },
       s.burstView.binds⟩ ∧ ((s.cycleEnded n w r p io).seqSt n).run = r.next := by
  have hb := s.cycleBegun_clockView n w p
  unfold State.cycleEnded
  generalize s.cycleBegun n w p = s1 at hb ⊢
  dsimp only
  generalize hs2 : (if (r.kind == .quiet) = true then _ else _ : State) = s2
  have h2 : s2.clockView n = { s1.clockView n with clock :=
      { (s1.clockView n).clock with vectors := if r.kind = .quiet then (s1.clockView n).clock.vectors else (s1.clockView n).clock.vectors + 1 } } := by
    rw [← hs2]
    by_cases hq : r.kind = .quiet
    · rw [if_pos (by simp [hq]), if_pos hq]
      exact State.clockView_of_burstView (State.quietChans_burstView _ _ _ _ _) n
    · rw [if_neg (by simp [hq]), if_neg hq]
      exact State.rowCycle_clockView _ _ _ _ _ _
  have h3 := (State.clockView_of_burstView (State.checkFailed_burstView s2 n io.check) n).trans h2
  generalize s2.checkFailed n io.check = s3 at h3 ⊢
  refine ⟨(State.clockView_of_burstView (State.refreshCap_burstView _ n w) n).trans ?_, ?_⟩
  · rw [State.clockView_setSeq, Seq.advanceRun_clock]
    have hfr : s3.fr = max s.fr p.q.nextStart := (congrArg ClockView.fr h3).trans (congrArg ClockView.fr hb)
    have hbinds : s3.burstView.binds = s.burstView.binds := (congrArg ClockView.binds h3).trans (congrArg ClockView.binds hb)
    have hclock := congrArg ClockView.clock h3
    rw [hb] at hclock
    rw [hfr, hbinds]
    refine congrArg (fun c => ClockView.mk _ c _) ?_
    exact congrArg (fun c : SeqClock => { c with nextStart := p.q.nextStart + p.period }) hclock
  · rw [State.burstView_refreshCap_setSeq, Seq.advanceRun_run]

section
variable {s : State} {n k : Nat} {w : Work} {r r1 : Run} {q1 : Seq} {p : CyclePlan} {e : Nat × Nat} {c : CycleIn}

/-- A cycle is about to start: the burst emits, the sequencer is free, the clock is locked and no timing commit is due first. -/
structure CycleDue (s : State) (n k : Nat) (w : Work) (r : Run) : Prop where
  work : (s.seqSt n).work = some k
  order : s.work? k = some w
  run : (s.seqSt n).run = some r
  running : w.stage = .running
  emit : (s.seqSt n).phase = .emit
  free : (s.seqSt n).free = true
  lock : s.bit F.TSBANK_REF_MASTER_LOCK = true
  commit : ∀ p, Store.get? s.tsPending n = some p → (s.seqSt n).nextStart < p.accept + commitLead

theorem execCycleStart_due (h : CycleDue s n k w r) :
    execCycleStart n c s = .next (match s.startBeat (s.seqSt n) r with
      | none => s.stopBurst n k 0x204
      | some (q, r) =>
        match s.planCycle n w q r with
        | .error e => s.readFailed n k e
        | .ok p =>
          if !w.session && decide ((if q.started then q.first0 else q.nextStart) + w.duration < q.nextStart + p.period) then s.stopBurst n k 0x20F
          else if entersEdgecmp w q.acts && decide (p.period < 1024) then s.stopBurst n k 0x20C
          else s.runCycle n w r p c) := by
  obtain ⟨hk, hw, hr, hs, he, hf, hl, hc⟩ := h
  rw [execCycleStart, s.onSeq_eq n _ hk hw]
  split
  · rename_i hnone; cases hr.symm.trans hnone
  · rename_i r' hr'
    obtain rfl := Option.some.inj (hr.symm.trans hr')
    refine congrArg _ ((if_neg (by simp [hs, he, hf, hl])).trans ((if_neg fun hcommit => ?_).trans rfl))
    split at hcommit
    · rename_i p hp
      exact Nat.not_le.mpr (hc p hp) (of_decide_eq_true hcommit)
    · cases hcommit

theorem execCycleStart_noBeat (h : CycleDue s n k w r) (hb : s.startBeat (s.seqSt n) r = none) :
    execCycleStart n c s = .next (s.stopBurst n k 0x204) := (execCycleStart_due h).trans (by rw [hb])

theorem execCycleStart_refused (h : CycleDue s n k w r) (hb : s.startBeat (s.seqSt n) r = some (q1, r1)) (hp : s.planCycle n w q1 r1 = .error e) :
    execCycleStart n c s = .next (s.readFailed n k e) := (execCycleStart_due h).trans (by rw [hb]; simp only [hp])

theorem execCycleStart_planned (h : CycleDue s n k w r) (hb : s.startBeat (s.seqSt n) r = some (q1, r1)) (hp : s.planCycle n w q1 r1 = .ok p) :
    execCycleStart n c s = .next (
      if !w.session && decide ((if q1.started then q1.first0 else q1.nextStart) + w.duration < q1.nextStart + p.period) then s.stopBurst n k 0x20F
      else if entersEdgecmp w q1.acts && decide (p.period < 1024) then s.stopBurst n k 0x20C
      else s.runCycle n w r1 p c) := (execCycleStart_due h).trans (by rw [hb]; simp only [hp])

theorem execCycleStart_runs (h : CycleDue s n k w r) (hb : s.startBeat (s.seqSt n) r = some (q1, r1)) (hp : s.planCycle n w q1 r1 = .ok p)
    (hd : w.session = true ∨ q1.nextStart + p.period ≤ (if q1.started then q1.first0 else q1.nextStart) + w.duration)
    (he : entersEdgecmp w q1.acts = true → 1024 ≤ p.period) :
    execCycleStart n c s = .next (s.runCycle n w r1 p c) := by
  rw [execCycleStart_planned h hb hp, if_neg, if_neg]
  · intro hc
    obtain ⟨h1, h2⟩ := (Bool.and_eq_true _ _).mp hc
    exact Nat.not_lt.mpr (he h1) (of_decide_eq_true h2)
  · intro hc
    obtain ⟨h1, h2⟩ := (Bool.and_eq_true _ _).mp hc
    rcases hd with hd | hd
    · rw [hd] at h1; cases h1
    · exact Nat.not_lt.mpr hd (of_decide_eq_true h2)

/-- No compare lane reads ahead where the burst's lanes are bound as before. -/
theorem State.readAheadAll_of_binds {t : State} (hb : t.burstView.binds = s.burstView.binds) (hn : s.burstCmpLanes w = []) : t.readAheadAll w = t := by
  have hrd (k : Nat) : t.rd ⟨.LANEn_BIND, k, 0⟩ = s.rd ⟨.LANEn_BIND, k, 0⟩ := congrFun hb k
  have hbit (f : Fld) (hf : f.reg = .LANEn_BIND) (k : Nat) : t.bit f k = s.bit f k := State.bit_congr (by rw [hf]; exact hrd k)
  have hget (k : Nat) : t.get F.LANEn_BIND_SEQ k = s.get F.LANEn_BIND_SEQ k := congrArg F.LANEn_BIND_SEQ.get (hrd k)
  have hl : t.burstCmpLanes w = s.burstCmpLanes w := by
    simp only [State.burstCmpLanes, State.burstLanes, State.boundLanes, hbit F.LANEn_BIND_CMP_EN rfl, hbit F.LANEn_BIND_BOUND rfl, hget]
  rw [State.readAheadAll, hl, hn]
  rfl

theorem State.runCycle_eq_cycleEnded (h : p.q.started = true ∨ s.burstCmpLanes w = []) :
    s.runCycle n w r p c = s.cycleEnded n w r p c := by
  rw [State.runCycle_eq]
  split
  · rfl
  · rename_i hs
    exact State.readAheadAll_of_binds (congrArg ClockView.binds (s.cycleEnded_spec n w r p c).1) (h.resolve_left hs)

/-! ## The start of a burst -/

/-- The sequencer that a burst takes over at its start. -/
def State.burstSeq (s : State) (k : Nat) (w : Work) : Seq :=
  { work := some k, phase := .ready, bdry := true, seg := w.body 32 2 % 2 ^ 15, idx := w.body 36 4 % 2 ^ 18, nseg := w.body 32 2 % 2 ^ 15,
    nidx := w.body 36 4 % 2 ^ 18, dmax := w.callDepth, drive := if w.stream then BitVec.ofNat 256 (s.rdWords .SEQn_DIRINIT_w w.bSeq 8) else 0,
    active := s.startSites w.bSeq w, atStart := s.startSites w.bSeq w, nextStart := w.s0, spillAt := s.spillBase w.bSeq,
    glitchFail := (s.seqSt w.bSeq).glitchFail, pauseReq := (s.seqSt w.bSeq).pauseReq, stopReq := (s.seqSt w.bSeq).stopReq,
    cap := { rowBits := (s.seqSt w.bSeq).cap.rowBits, widths := (s.seqSt w.bSeq).cap.widths } }

/-- The burst has started, before the registers and the header of its capture. -/
def State.burstBegun (s : State) (k : Nat) (w : Work) : State :=
  ((((s.advanceTo w.s0).setSeq w.bSeq (s.burstSeq k w)).setWork k { w with stage := .running }).set F.SEQn_STATUS_RUN_STATE 2 w.bSeq)

/-- What a burst's start shows: its sites, the header of its capture, the state of its capture unit. -/
def State.shownAtStart (s : State) (n : Nat) (w : Work) : State := ((s.refreshSites n).writeCapHeader w 0).refreshCap n w

theorem State.shownAtStart_spec (s : State) (n : Nat) (w : Work) :
    (s.shownAtStart n w).works = s.works ∧ (w.hasCapture = false → (s.shownAtStart n w).mem = s.mem) ∧
      regsBut [.SEQn_SITE_FAIL_w, .SEQn_SITE_ACTIVE_w, .CAP_STATUS] s (s.shownAtStart n w) ∧ (s.shownAtStart n w).burstView = s.burstView := by
  obtain ⟨hregs, hframe⟩ := s.refreshSites_frame n
  have hcap (t : State) : (t.writeCapHeader w 0).works = t.works ∧ (t.writeCapHeader w 0).regs = t.regs ∧
      (w.hasCapture = false → (t.writeCapHeader w 0).mem = t.mem) := by
    unfold State.writeCapHeader
    split
    · rename_i hc; exact ⟨rfl, rfl, fun h => by rw [h] at hc; cases hc⟩
    · exact ⟨rfl, rfl, fun _ => rfl⟩
  obtain ⟨hworks, hcregs, hmem⟩ := hcap (s.refreshSites n)
  refine ⟨hworks.trans (by rw [hframe]), fun h => (hmem h).trans (by rw [hframe]), fun r hr => ?_, by simp [State.shownAtStart]⟩
  obtain ⟨h1, h2, h3⟩ : r.name ≠ .SEQn_SITE_FAIL_w ∧ r.name ≠ .SEQn_SITE_ACTIVE_w ∧ r.name ≠ .CAP_STATUS := by simpa using hr
  have hrd : ((s.refreshSites n).writeCapHeader w 0).rd r = (s.refreshSites n).rd r := by simp only [State.rd, hcregs]
  have hset (t : State) : (t.refreshCap n w).rd r = t.rd r :=
    (State.rd_set_of_ne _ F.CAP_STATUS_TRIGGERED _ n 0 r h3).trans ((State.rd_set_of_ne _ F.CAP_STATUS_CAPTURE_ON _ n 0 r h3).trans
      (State.rd_set_of_ne _ F.CAP_STATUS_STATE _ n 0 r h3))
  exact (hset _).trans (hrd.trans (hregs r (by simp [h1, h2])))

theorem execBurstStart_window (h : s.work? k = some w) (ho : w.opcode = Op.burst) (hs : w.stage = .window) (hq : (s.seqSt w.bSeq).work = some k)
    (hl : s.bit F.TSBANK_REF_MASTER_LOCK = true) (hc : ∀ c ∈ w.burstChans, s.bit F.CHn_STATUS_SETTLED c = true) :
    execBurstStart k s = .next ((s.burstBegun k w).shownAtStart w.bSeq w) := by
  rw [execBurstStart, s.onWork_eq k _ _ h ho]
  refine congrArg _ ((if_neg ?_).trans rfl)
  have hsettled : (w.burstChans.any fun c => !s.bit F.CHn_STATUS_SETTLED c) = false :=
    List.any_eq_false.mpr fun c hm => by rw [hc c hm]; decide
  simp [hs, hq, hl, hsettled]

end

/-- Settles O18: the start of a burst, the cycles by `execCycleStart_planned` and `State.cycleEnded_spec`, the ends by the receipt that the
outputs leave. -/
theorem cyclesAndBurstEnds : Obligations.CyclesAndBurstEnds := by
  unfold Obligations.CyclesAndBurstEnds
  refine ⟨?start, ?cycle, ?runs, ?noBeat, ?refused, ?tooLong, ?edge, ?closes, ?joint, ?copyB, ?lane, ?crc, ?void⟩
  case start =>
    intro k w s h ho hs hq hl hc
    obtain ⟨hworks, hmem, hregs, hview⟩ := State.shownAtStart_spec (s.burstBegun k w) w.bSeq w
    have hseqs : (s.burstBegun k w).burstView.seqs = Store.put s.seqs w.bSeq (s.burstSeq k w) := rfl
    refine ⟨_, execBurstStart_window h ho hs hq hl hc, ?_, ?_, congrArg BurstView.fr hview, hmem, ?_⟩
    · simp only [State.work?, hworks]
      exact Store.get?_put_self _ _ _
    · rw [State.get, hregs _ (by simp [F.SEQn_STATUS_RUN_STATE])]
      exact State.get_set_self _ F.SEQn_STATUS_RUN_STATE 2 w.bSeq 0 (by decide)
    · have hq' : Store.getD (Store.put s.seqs w.bSeq (s.burstSeq k w)) w.bSeq {} = s.burstSeq k w := by simp
      exact (congrArg (fun v => Store.getD v w.bSeq ({} : Seq)) ((congrArg BurstView.seqs hview).trans hseqs)).trans hq'
  case cycle =>
    intro q1 r1 p n k w r c s hk hw hr hs he hf hl hc hb hp hd hec hbind
    refine ⟨s.cycleEnded n w r1 p c, (execCycleStart_runs ⟨hk, hw, hr, hs, he, hf, hl, hc⟩ hb hp hd hec).trans
      (congrArg _ (State.runCycle_eq_cycleEnded hbind)), ?_⟩
    obtain ⟨hview, hrun⟩ := s.cycleEnded_spec n w r1 p c
    have hclock := congrArg ClockView.clock hview
    refine ⟨congrArg ClockView.fr hview, congrArg SeqClock.nextStart hclock, congrArg SeqClock.period hclock, congrArg SeqClock.started hclock,
      congrArg SeqClock.acts hclock, (congrArg SeqClock.cycle hclock).trans ?_, congrArg SeqClock.vectors hclock, hrun⟩
    simp only [CyclePlan.clock, Bool.or_eq_true, Bool.and_eq_true, bne_iff_ne]
  case runs =>
    intro q1 r1 p n k w r c s hk hw hr hs he hf hl hc hb hp hd hec
    exact execCycleStart_runs ⟨hk, hw, hr, hs, he, hf, hl, hc⟩ hb hp hd hec
  case noBeat =>
    intro n k w r c s hk hw hr hs he hf hl hc hb
    exact execCycleStart_noBeat ⟨hk, hw, hr, hs, he, hf, hl, hc⟩ hb
  case refused =>
    intro q1 r1 e n k w r c s hk hw hr hs he hf hl hc hb hp
    exact execCycleStart_refused ⟨hk, hw, hr, hs, he, hf, hl, hc⟩ hb hp
  case tooLong =>
    intro q1 r1 p n k w r c s hk hw hr hs he hf hl hc hb hp hsess hd
    refine (execCycleStart_planned ⟨hk, hw, hr, hs, he, hf, hl, hc⟩ hb hp).trans ?_
    rw [if_pos (by rw [hsess, decide_eq_true hd]; rfl)]
  case edge =>
    intro q1 r1 p n k w r c s hk hw hr hs he hf hl hc hb hp hd hec h1024
    refine (execCycleStart_planned ⟨hk, hw, hr, hs, he, hf, hl, hc⟩ hb hp).trans ?_
    rw [if_neg, if_pos (by rw [hec, decide_eq_true h1024]; rfl)]
    intro hlong
    obtain ⟨h1, h2⟩ := (Bool.and_eq_true _ _).mp hlong
    rcases hd with hd | hd
    · rw [hd] at h1; cases h1
    · exact Nat.not_lt.mpr hd (of_decide_eq_true h2)
  case closes =>
    intro k w s h ho hs u hok hd hw hj
    have hv : ((u.settleCompares w).closeOutputs w 1).burstView = u.burstView := by simp
    obtain ⟨hfr, hmem, hrec⟩ := State.endBurst_of_view hv k w
    refine ⟨_, (execClosingIntervalEnd_passes h ho hs hok hd hw).trans (by rw [if_neg (by simp [hj])]; rfl), hfr, rfl, hmem, hrec⟩
  case joint =>
    intro k w s h ho hs u hok hd hw hj
    exact (execClosingIntervalEnd_passes h ho hs hok hd hw).trans (by rw [if_pos hj]; rfl)
  case copyB =>
    intro k c w s h ho hs u hc
    refine (execClosingIntervalEnd_closing h ho hs).trans (congrArg _ (if_pos ?_))
    exact hc.imp_right fun hne => by rw [show (s.closeAt w) = u from rfl, hne]; rfl
  case lane =>
    intro k c w s h ho hs u hok hc hl
    refine (execClosingIntervalEnd_closing h ho hs).trans (congrArg _ ((if_neg ?_).trans (if_pos ⟨hc, hl⟩)))
    rw [show (s.closeAt w) = u from rfl, hok]
    simp; omega
  case crc =>
    intro k w s h ho hs u hok
    refine (execClosingIntervalEnd_closing h ho hs).trans (congrArg _ ((if_neg ?_).trans ((if_neg (by omega)).trans (if_pos rfl))))
    rw [show (s.closeAt w) = u from rfl, hok]
    decide
  case void =>
    intro k w s h ho hs hw
    obtain ⟨hfr, -, hrec⟩ := State.endBurst_of_view (s.voidClosed_burstView w) k w
    exact ⟨_, execVoidFinalReceipt_stopped h ho hs hw, hfr, hrec⟩

end Sys2Proof.Machine
end

section
/-!
SUPPORT. The Tally (O19): what the operations of slots and watches leave unchanged, the bits of a set, bytes outside a written range.
-/

namespace Sys2Proof.Machine

/-! ## Numbers as sets of bits, bytes outside a write -/

theorem ofSet_succ (l : List Nat) (n : Nat) : ofSet l (n + 1) = ofSet l n + if l.contains n then 2 ^ n else 0 := by
  rw [ofSet, List.range_succ, List.filter_append, List.foldl_append]
  by_cases h : l.contains n = true
  · simp only [List.filter_cons_of_pos h, List.filter_nil, List.foldl_cons, List.foldl_nil, if_pos h]; rfl
  · simp only [List.filter_cons_of_neg h, List.filter_nil, List.foldl_nil, if_neg h]; rfl

theorem ofSet_lt (l : List Nat) (n : Nat) : ofSet l n < 2 ^ n := by
  induction n with
  | zero => exact Nat.one_pos
  | succ n ih => rw [ofSet_succ, Nat.pow_succ]; split <;> omega

theorem bitOf_eq_testBit (v b : Nat) : bitOf v b = v.testBit b := by
  rw [bitOf, Nat.testBit_eq_decide_div_mod_eq]; rfl

theorem bitOf_ofSet (l : List Nat) {n g : Nat} (h : g < n) : bitOf (ofSet l n) g = l.contains g := by
  rw [bitOf_eq_testBit]
  induction n with
  | zero => omega
  | succ n ih =>
    rw [ofSet_succ]
    rcases Nat.lt_succ_iff_lt_or_eq.mp h with hg | rfl
    · split
      · rw [Nat.add_comm, Nat.testBit_two_pow_add_gt hg]; exact ih hg
      · exact ih hg
    · split
      · next hc => rw [Nat.add_comm, Nat.testBit_two_pow_add_eq, Nat.testBit_lt_two_pow (ofSet_lt l g), hc]; rfl
      · next hc => rw [Nat.add_zero, Nat.testBit_lt_two_pow (ofSet_lt l g), Bool.eq_false_iff.mpr hc]

theorem Mem.byte_setByte_ne (m : Mem) {a a' : Nat} (b : Byte) (h : a' ≠ a) : Mem.byte (Mem.setByte m a b) a' = Mem.byte m a' := by
  induction m with
  | nil => by_cases hb : b = 0#8 <;> simp [Mem.setByte, Mem.byte, hb, h.symm]
  | cons c t ih =>
    obtain ⟨x, y⟩ := c
    by_cases hlt : a < x
    · by_cases hb : b = 0#8 <;> simp [Mem.setByte, Mem.byte, hlt, hb, h.symm]
    · by_cases he : a = x
      · subst he
        by_cases hb : b = 0#8 <;> simp [Mem.setByte, Mem.byte, hb, h.symm]
      · simp [Mem.setByte, Mem.byte, hlt, he, ih]

theorem Mem.byte_setBytes_ne (m : Mem) {a a' : Nat} (bs : Bytes) (h : a' < a ∨ a + bs.length ≤ a') :
    Mem.byte (Mem.setBytes m a bs) a' = Mem.byte m a' := by
  induction bs generalizing m a with
  | nil => rfl
  | cons b t ih =>
    rw [List.length_cons] at h
    rw [Mem.setBytes, ih _ (by omega), Mem.byte_setByte_ne _ _ (by omega)]

@[simp] theorem length_leBytes (v n : Nat) : (leBytes v n).length = n := by
  induction n generalizing v with
  | zero => rfl
  | succ n ih => simp [leBytes, ih]

theorem length_streamHeader (w : Work) (wt : Watch) (status : Nat) : (streamHeader w wt status).length = 512 := by
  have hslots : ((List.range 16).flatMap fun i => match wt.slots[i]? with
      | some x => leBytes x.slot 2 ++ leBytes x.source 2 ++ leBytes x.arms 4 ++ leBytes x.count 8 ++ leBytes x.stamps 8
      | none => leBytes 0 24).length = 384 := by
    rw [List.length_flatMap]
    have hlen : ∀ i : Nat, (match wt.slots[i]? with
      | some x => leBytes x.slot 2 ++ leBytes x.source 2 ++ leBytes x.arms 4 ++ leBytes x.count 8 ++ leBytes x.stamps 8
      | none => leBytes 0 24).length = 24 := fun i => by split <;> simp
    simp only [hlen]; rfl
  simp only [streamHeader, List.length_append, length_leBytes]
  exact congrArg _ hslots

/-! ## The registers of a slot, and what else the Tally's bookkeeping touches -/

/-- The registers that show a slot. -/
def slotRegs : List RegName := [.TALLY_SLOTn_COUNT_0, .TALLY_SLOTn_COUNT_1, .TALLY_SLOTn_STATUS, .TALLY_SLOTn_EVENTS]

/-- The state but for what the Tally keeps: registers, watches, concentrators, edges on their way, regions and their bytes. -/
def State.offTally (s : State) : State := { s with regs := [], watches := [], conc := [], srcEdges := [], mem := [], regions := [] }

/-- A step of the slots' bookkeeping: it leaves everything but watches, concentrators, edges and the slots' registers. -/
structure TallyStep (s t : State) : Prop where
  off : t.offTally = s.offTally
  mem : t.mem = s.mem
  regs : regsBut slotRegs s t
  opens : ∀ j, (Store.getD t.watches j {}).openAt = (Store.getD s.watches j {}).openAt

theorem TallyStep.refl (s : State) : TallyStep s s := ⟨rfl, rfl, fun _ _ => rfl, fun _ => rfl⟩

theorem TallyStep.trans {s t u : State} (h : TallyStep s t) (h' : TallyStep t u) : TallyStep s u :=
  ⟨h'.off.trans h.off, h'.mem.trans h.mem, fun r hr => (h'.regs r hr).trans (h.regs r hr), fun j => (h'.opens j).trans (h.opens j)⟩

theorem TallyStep.foldl {α : Type} (f : State → α → State) (hf : ∀ t a, TallyStep t (f t a)) (l : List α) (s : State) :
    TallyStep s (l.foldl f s) := by
  induction l generalizing s with
  | nil => exact .refl s
  | cons a l ih => exact (hf s a).trans (ih _)

theorem TallyStep.set (s : State) (f : Fld) (v i : Nat) (hf : f.reg ∈ slotRegs) : TallyStep s (s.set f v i) :=
  ⟨rfl, rfl, fun r hr => s.rd_set_of_ne f v i 0 r fun e => hr (e ▸ hf), fun _ => rfl⟩

theorem Store.openAt_put {m : Store Nat Watch} {k : Nat} {wt : Watch} (h : wt.openAt = (Store.getD m k {}).openAt) (j : Nat) :
    (Store.getD (Store.put m k wt) j {}).openAt = (Store.getD m j {}).openAt := by
  rw [Store.getD_put]; split
  · next hj => rw [h, hj]
  · rfl

theorem State.produce_step (s : State) (k slot : Nat) (r : StampRec) : TallyStep s (s.produce k slot r) :=
  ⟨rfl, rfl, fun _ _ => rfl, Store.openAt_put rfl⟩

theorem State.unstamp_step (s : State) (k slot : Nat) (t : Tu) : TallyStep s (s.unstamp k slot t) :=
  ⟨rfl, rfl, fun _ _ => rfl, Store.openAt_put rfl⟩

theorem State.putSlot_step (s : State) (k : Nat) (x : TSlot) : TallyStep s (s.putSlot k x) := by
  unfold State.putSlot
  extract_lets wt s1
  have h1 : TallyStep s s1 := ⟨rfl, rfl, fun _ _ => rfl, Store.openAt_put rfl⟩
  exact ((h1.trans (.set _ F.TALLY_SLOTn_STATUS_ARMED _ x.slot (by decide))).trans
    (.set _ F.TALLY_SLOTn_COUNT_0_COUNT_LO _ x.slot (by decide))).trans (.set _ F.TALLY_SLOTn_COUNT_1_COUNT_HI _ x.slot (by decide))

theorem State.marker_step (s : State) (k : Nat) (x : TSlot) (arm : Bool) (t : Tu) : TallyStep s (s.marker k x arm t) := by
  unfold State.marker
  split
  · exact s.produce_step _ _ _
  · exact .refl s

theorem State.slotEdge_step (s : State) (k : Nat) (x : TSlot) (rising : Bool) (t : Tu) : TallyStep s (s.slotEdge k x rising t) := by
  unfold State.slotEdge
  obtain ⟨y, ok⟩ := x.decide_ t
  dsimp only
  split
  · split
    · exact ((s.produce_step _ _ _).trans (State.putSlot_step _ _ _)).trans (State.marker_step _ _ _ _ _)
    · exact (s.produce_step _ _ _).trans (State.putSlot_step _ _ _)
  · exact (s.putSlot_step _ _).trans (.set _ F.TALLY_SLOTn_EVENTS_HELD _ _ (by decide))

theorem State.settleSlot_step (s : State) (k : Nat) (x : TSlot) (e : SlotTie) : TallyStep s (s.settleSlot k x e) := by
  unfold State.settleSlot
  extract_lets counted
  have hcounted : ∀ (t : State) (y : TSlot), TallyStep t (counted t y) := fun t y => by
    dsimp only [counted]
    split
    · exact t.slotEdge_step _ _ _ _
    · exact t.putSlot_step _ _
  split
  · split
    · exact (s.putSlot_step _ _).trans (State.marker_step _ _ _ _ _)
    · exact hcounted _ _
  · split
    · exact ((s.putSlot_step _ _).trans (State.marker_step _ _ _ _ _)).trans (hcounted _ _)
    · exact s.putSlot_step _ _

theorem State.atSlot_step (s : State) (k n : Nat) (t : Tu) (f : SlotTie → SlotTie) : TallyStep s (s.atSlot k n t f) := by
  unfold State.atSlot
  split
  · exact .refl s
  · extract_lets fresh e u v
    have hv : TallyStep u v := by
      dsimp only [v]; split
      · exact .refl _
      · exact .set _ F.TALLY_SLOTn_EVENTS_HELD _ _ (by decide)
    exact ((s.unstamp_step k n t).trans hv).trans (State.settleSlot_step _ _ _ _)

theorem State.expireSlots_step (s : State) (k : Nat) (t : Tu) : TallyStep s (s.expireSlots k t) :=
  TallyStep.foldl _ (fun u x => by
    split
    · split
      · exact u.atSlot_step _ _ _ _
      · exact .refl u
    · exact .refl u) _ s

theorem State.takeEdge_step (s : State) (k : Nat) (e : SrcEdge) : TallyStep s (s.takeEdge k e) := by
  unfold State.takeEdge
  extract_lets _ u wt
  have hu : TallyStep s u := (s.expireSlots_step k e.at_).trans ⟨rfl, rfl, fun _ _ => rfl, fun _ => rfl⟩
  split
  · exact hu.trans (TallyStep.foldl _ (fun v x => v.atSlot_step _ _ _ _) _ u)
  · exact hu

theorem State.drainEdges_step (k : Nat) (t : Tu) (fuel : Nat) (s : State) : TallyStep s (State.drainEdges k t fuel s) := by
  induction fuel generalizing s with
  | zero => exact .refl s
  | succ n ih =>
    unfold State.drainEdges
    split
    · exact (s.takeEdge_step _ _).trans (ih _)
    · exact .refl s

theorem State.catchUp_step (s : State) (k : Nat) (t : Tu) : TallyStep s (s.catchUp k t) := by
  unfold State.catchUp
  split
  · exact (State.drainEdges_step k t _ s).trans (State.expireSlots_step _ _ _)
  · exact .refl s

theorem State.catchUpAll_step (s : State) (t : Tu) : TallyStep s (s.catchUpAll t) :=
  TallyStep.foldl _ (fun u k => u.catchUp_step k t) _ s

theorem State.atSlots_step (s : State) (t : Tu) (p : TSlot → Bool) (f : TSlot → SlotTie → SlotTie) : TallyStep s (s.atSlots t p f) :=
  (s.catchUpAll_step t).trans (TallyStep.foldl _ (fun u e => by
    split
    · exact TallyStep.foldl _ (fun v x => v.atSlot_step _ _ _ _) _ u
    · exact .refl u) _ _)

/-- An edge joins those on their way; nothing else changes. -/
theorem State.srcEdge_step (s : State) (source : Nat) (rising : Bool) (t : Tu) : TallyStep s (s.srcEdge source rising t) := by
  unfold State.srcEdge
  split
  · exact ⟨rfl, rfl, fun _ _ => rfl, fun _ => rfl⟩
  · exact .refl s

theorem TallyStep.fr {s t : State} (h : TallyStep s t) : t.fr = s.fr := (congrArg State.fr h.off :)
theorem TallyStep.works {s t : State} (h : TallyStep s t) : t.works = s.works := (congrArg State.works h.off :)

/-- The header is memory and the region's description alone. -/
theorem State.writeStreamHeader_off (s : State) (k : Nat) (w : Work) (status : Nat) :
    (s.writeStreamHeader k w status).offTally = s.offTally ∧ (s.writeStreamHeader k w status).regs = s.regs ∧
      (s.writeStreamHeader k w status).watches = s.watches := by
  simp only [State.offTally, State.writeStreamHeader, and_self]

theorem State.writeStreamHeader_memBut (s : State) (k : Nat) (w : Work) (status : Nat) : memBut w.watchRegion 512 s (s.writeStreamHeader k w status) := by
  intro a ha
  simp only [State.writeStreamHeader]
  exact Mem.byte_setBytes_ne s.mem _ (by rwa [length_streamHeader])

/-! ## Gates -/

/-- An accepted transition shows in GATE_LEVEL and is noted for its gate; otherwise the slots' bookkeeping follows. -/
theorem State.acceptGate_spec (s : State) {g : Nat} (b : Bool) (t : Tu) (hg : g < 4) :
    (s.acceptGate g b t).gateLevel g = b ∧
      (s.acceptGate g b t).gates = Store.put s.gates g { level := (Store.getD s.gates g {}).level, last := some t } ∧
      (s.acceptGate g b t).fr = s.fr ∧ (s.acceptGate g b t).events = s.events ∧ (s.acceptGate g b t).mem = s.mem ∧
      regsBut (.TALLY_STATUS :: slotRegs) s (s.acceptGate g b t) := by
  unfold State.acceptGate
  extract_lets s1 lv s2
  have h := s2.atSlots_step t (·.usesGate g) fun x => x.onGate b
  refine ⟨?_, (congrArg State.gates h.off :), (congrArg State.fr h.off :), (congrArg State.events h.off :), h.mem, fun r hr => ?_⟩
  · rw [State.gateLevel, State.get, h.regs _ (by simp [slotRegs, F.TALLY_STATUS_GATE_LEVEL])]
    have hget := s1.get_set_self F.TALLY_STATUS_GATE_LEVEL (ofSet (if b then g :: lv else lv.filter (· != g)) 4) 0 0 (by decide)
    refine (congrArg (bitOf · g) (hget.trans (Nat.mod_eq_of_lt (ofSet_lt _ 4)))).trans ?_
    rw [bitOf_ofSet _ hg]
    cases b <;> simp
  · rw [List.mem_cons, not_or] at hr
    exact (h.regs r hr.2).trans (s1.rd_set_of_ne F.TALLY_STATUS_GATE_LEVEL _ 0 0 r hr.1)

/-! ## One slot of one watch -/

theorem State.marker_regs (s : State) (k : Nat) (x : TSlot) (arm : Bool) (t : Tu) : (s.marker k x arm t).regs = s.regs := by
  unfold State.marker; split <;> rfl

theorem State.produce_slots (s : State) (k slot j : Nat) (r : StampRec) :
    (Store.getD (s.produce k slot r).watches j {}).slots = (Store.getD s.watches j {}).slots := by
  simp only [State.produce, Store.getD_put]
  split
  · next h => rw [h]
  · rfl

theorem State.marker_slots (s : State) (k : Nat) (x : TSlot) (arm : Bool) (t : Tu) (j : Nat) :
    (Store.getD (s.marker k x arm t).watches j {}).slots = (Store.getD s.watches j {}).slots := by
  unfold State.marker
  split
  · exact s.produce_slots _ _ _ _
  · rfl

theorem State.unstamp_slots (s : State) (k slot : Nat) (t : Tu) (j : Nat) :
    (Store.getD (s.unstamp k slot t).watches j {}).slots = (Store.getD s.watches j {}).slots := by
  simp only [State.unstamp, Store.getD_put]
  split
  · next h => rw [h]
  · rfl

/-- A watch of one slot holds what is put in that slot. -/
theorem State.putSlot_single {s : State} {k : Nat} {x y : TSlot} (h : (Store.getD s.watches k {}).slots = [y]) (hs : y.slot = x.slot) :
    (Store.getD (s.putSlot k x).watches k {}).slots = [x] := by
  have hw : (s.putSlot k x).watches = Store.put s.watches k
    { Store.getD s.watches k {} with slots := (Store.getD s.watches k {}).slots.map fun (y : TSlot) => if y.slot = x.slot then x else y } := rfl
  rw [hw, Store.getD_put, if_pos rfl, h]
  simp [hs]

theorem State.putSlot_armed (s : State) (k : Nat) (x : TSlot) : (s.putSlot k x).bit F.TALLY_SLOTn_STATUS_ARMED x.slot = x.armed := by
  unfold State.putSlot
  extract_lets wt s1
  rw [State.bit_set_of_ne _ _ _ _ _ _ _ _ (by decide), State.bit_set_of_ne _ _ _ _ _ _ _ _ (by decide),
    State.bit_setIf _ _ _ _ _ (by decide) (by decide)]

/-- What one command brings to a slot at a fresh instant: the slot as it stands before it. -/
def TSlot.fresh (x : TSlot) (s : State) (t : Tu) : SlotTie :=
  { at_ := t, before := x.toSlotRun, heldBit := s.bit F.TALLY_SLOTn_EVENTS_HELD x.slot }

/-- The state in which a slot is settled: what it produced from the instant on is taken back, and its HELD bit is as it was. -/
def State.untie (s : State) (k n : Nat) (t : Tu) : State :=
  if s.bit F.TALLY_SLOTn_EVENTS_HELD n then s.unstamp k n t else (s.unstamp k n t).clrBit F.TALLY_SLOTn_EVENTS_HELD n

theorem State.untie_step (s : State) (k n : Nat) (t : Tu) : TallyStep s (s.untie k n t) := by
  unfold State.untie
  split
  · exact s.unstamp_step k n t
  · exact (s.unstamp_step k n t).trans (.set _ F.TALLY_SLOTn_EVENTS_HELD _ _ (by decide))

theorem State.untie_watches (s : State) (k n : Nat) (t : Tu) : (s.untie k n t).watches = (s.unstamp k n t).watches := by
  unfold State.untie; split <;> rfl

theorem State.untie_conc (s : State) (k n : Nat) (t : Tu) : (s.untie k n t).conc = (s.unstamp k n t).conc := by
  unfold State.untie; split <;> rfl

theorem State.atSlot_disarm {s : State} {k : Nat} {x : TSlot} (h : (Store.getD s.watches k {}).slots = [x]) (ht : x.tie = none) (ha : x.armed = true)
    (t : Tu) : ∃ (y : TSlot) (e : SlotTie), s.atSlot k x.slot t (fun e => { e with disarm := true }) = ((s.untie k x.slot t).putSlot k y).marker k y false e.at_ ∧
      y.slot = x.slot ∧ y.armed = false ∧ y.disarmAt = none ∧ y.count = x.count := by
  have hfind : (Store.getD s.watches k {}).slots.find? (·.slot == x.slot) = some x := by simp [h]
  refine ⟨{ x with tie := some { x.fresh s t with disarm := true }, armed := false, disarmAt := none }, { x.fresh s t with disarm := true }, ?_, rfl, rfl, rfl, rfl⟩
  rw [State.atSlot, hfind]
  simp only [ht, State.settleSlot, ha, if_true]
  rfl

/-- The record of an edge that an armed slot stamps (R293). -/
def TSlot.record (x : TSlot) (s : State) (b : Bool) (t : Tu) : StampRec :=
  { time := t, source := x.source, rising := b, held := x.held, warm := s.warm, first := x.armStamps == 0, seq := (x.count + 1) % 2 ^ 64 % 2 ^ 24 }

/-- The slot after an edge that it counts and stamps (R281, R282). -/
def TSlot.stamped (x : TSlot) (t : Tu) : TSlot :=
  { (x.decide_ t).1 with count := (x.count + 1) % 2 ^ 64, held := false, armStamps := x.armStamps + 1, stamps := x.stamps + 1 }

theorem State.slotEdge_stamped (s : State) (k : Nat) {x : TSlot} (b : Bool) {t : Tu} (h : (x.decide_ t).2 = true) (hd : x.disarm ≠ 2) :
    s.slotEdge k x b t = (s.produce k x.slot (x.record s b t)).putSlot k (x.stamped t) := by
  simp only [State.slotEdge, h, if_true, hd, false_and, if_false, TSlot.record, TSlot.stamped]

/-- What came to a slot does not enter its stamp decision. -/
theorem TSlot.decide_tie (x : TSlot) (e : Option SlotTie) (t : Tu) :
    ({ x with tie := e } : TSlot).decide_ t = ({ (x.decide_ t).1 with tie := e }, (x.decide_ t).2) := by
  unfold TSlot.decide_
  dsimp only
  split <;> split <;> rfl

theorem State.atSlot_edge {s : State} {k : Nat} {x : TSlot} (h : (Store.getD s.watches k {}).slots = [x]) (ht : x.tie = none) (ha : x.armed = true)
    (b : Bool) (t : Tu) : s.atSlot k x.slot t (fun e => { e with edge := some b }) =
      (s.untie k x.slot t).slotEdge k { x with tie := some { x.fresh s t with edge := some b } } b t := by
  have hfind : (Store.getD s.watches k {}).slots.find? (·.slot == x.slot) = some x := by simp [h]
  rw [State.atSlot, hfind]
  simp only [ht, State.settleSlot, ha, if_true]
  rfl

theorem TSlot.decide_slot (x : TSlot) (t : Tu) : (x.decide_ t).1.slot = x.slot := by
  unfold TSlot.decide_
  dsimp only
  split <;> split <;> rfl

theorem State.putSlot_records (s : State) (k : Nat) (x : TSlot) :
    (Store.getD (s.putSlot k x).watches k {}).records = (Store.getD s.watches k {}).records := by
  have hw : (s.putSlot k x).watches = Store.put s.watches k
    { Store.getD s.watches k {} with slots := (Store.getD s.watches k {}).slots.map fun (y : TSlot) => if y.slot = x.slot then x else y } := rfl
  rw [hw, Store.getD_put, if_pos rfl]

/-- An open watch to which no edge is on its way only lets its DURs elapse. -/
theorem State.catchUp_quiet {s : State} {k : Nat} (h : (Store.getD s.watches k {}).isOpen = true) (he : s.srcEdges = []) (t : Tu) :
    s.catchUp k t = s.expireSlots k t := by
  rw [State.catchUp, if_pos h, he]; rfl

theorem State.expireSlots_single {s : State} {k : Nat} {x : TSlot} {d : Tu} (h : (Store.getD s.watches k {}).slots = [x]) (hd : x.disarmAt = some d) :
    s.expireSlots k d = s.atSlot k x.slot d fun e => { e with disarm := true } := by
  simp only [State.expireSlots, h, List.foldl_cons, List.foldl_nil, hd, if_pos (Nat.le_refl d)]

theorem State.expireSlots_none {s : State} {k : Nat} {x : TSlot} (h : (Store.getD s.watches k {}).slots = [x]) (hd : x.disarmAt = none) (t : Tu) :
    s.expireSlots k t = s := by
  simp only [State.expireSlots, h, List.foldl_cons, List.foldl_nil, hd]

/-! ## Opening and closing a watch -/

theorem State.openWatch_spec (s : State) (k : Nat) (w : Work) (t : Tu) :
    (s.openWatch k w t).fr = s.fr ∧ (s.openWatch k w t).works = s.works ∧ (Store.getD (s.openWatch k w t).watches k {}).openAt = some t ∧
      regsBut slotRegs s (s.openWatch k w t) ∧ memBut w.watchRegion 512 s (s.openWatch k w t) := by
  unfold State.openWatch
  extract_lets wt s1 _ s2
  have h2 : TallyStep s1 s2 := TallyStep.foldl _ (fun v x => by
    exact ((v.putSlot_step _ _).trans (.set _ F.TALLY_SLOTn_STATUS_IN_WATCH _ _ (by decide))).trans (State.atSlot_step _ _ _ _ _)) _ _
  have hopen : (Store.getD s1.watches k {}).openAt = some t := by simp [s1]
  have h1 : s1.fr = s.fr ∧ s1.works = s.works ∧ s1.regs = s.regs ∧ s1.mem = s.mem := ⟨rfl, rfl, rfl, rfl⟩
  clear_value s2 s1
  obtain ⟨hoff, hregs, hwatches⟩ := s2.writeStreamHeader_off k w 0
  have hmem := s2.writeStreamHeader_memBut k w 0
  generalize s2.writeStreamHeader k w 0 = s3 at hoff hregs hwatches hmem ⊢
  have h4 := s3.catchUp_step k (t + 1)
  have hfr : s3.fr = s2.fr := (congrArg State.fr hoff :)
  have hworks : s3.works = s2.works := (congrArg State.works hoff :)
  refine ⟨h4.fr.trans (hfr.trans (h2.fr.trans h1.1)), h4.works.trans (hworks.trans (h2.works.trans h1.2.1)), ?_, fun r hr => ?_, fun a ha => ?_⟩
  · rw [h4.opens, hwatches, h2.opens, hopen]
  · rw [h4.regs r hr, State.rd, hregs]
    exact (h2.regs r hr).trans (congrArg (fun m => Store.getD m r (resetWord r)) h1.2.2.1)
  · rw [h4.mem, hmem a ha, h2.mem, h1.2.2.2]

theorem State.storeRecord_off (s : State) (c : ConcRec) : (s.storeRecord c).offTally = s.offTally ∧ (s.storeRecord c).regs = s.regs := by
  unfold State.storeRecord
  split
  · split
    · exact ⟨rfl, rfl⟩
    · extract_lets wt' rows i at_ wt'' s'
      split
      · exact ⟨rfl, rfl⟩
      · cases at_ <;> exact ⟨rfl, rfl⟩
  · exact ⟨rfl, rfl⟩

theorem foldl_storeRecord_off (l : List ConcRec) (s : State) :
    (l.foldl State.storeRecord s).offTally = s.offTally ∧ (l.foldl State.storeRecord s).regs = s.regs := by
  induction l generalizing s with
  | nil => exact ⟨rfl, rfl⟩
  | cons c l ih => exact ⟨(ih _).1.trans (s.storeRecord_off c).1, (ih _).2.trans (s.storeRecord_off c).2⟩

/-- At the close its slots disarm and leave the watch (R285, R289). -/
def State.closeSlots (s : State) (k : Nat) (slots : List TSlot) (t : Tu) : State :=
  slots.foldl (fun s x => (s.atSlot k x.slot t fun e => { e with disarm := true }).clrBit F.TALLY_SLOTn_STATUS_IN_WATCH x.slot) s

/-- At the close edges on their way to its slots are dropped, and its records leave the concentrators. -/
def State.closeDrained (s : State) (k : Nat) (slots : List TSlot) : State :=
  (s.conc.filter (·.work == k)).foldl State.storeRecord
    { s with srcEdges := s.srcEdges.filter fun e => !(slots.any fun x => x.source == e.source), conc := s.conc.filter (·.work != k) }

/-- The watch is closed. -/
def State.closeMarked (s : State) (k : Nat) (t : Tu) : State :=
  { s with watches := Store.put s.watches k { Store.getD s.watches k ({} : Watch) with closed := true, closeAt := some t } }

/-- The watch is closed, before its header is written. -/
def State.watchClosed (s : State) (k : Nat) (t : Tu) : State :=
  (((s.catchUp k t).closeSlots k (Store.getD (s.catchUp k t).watches k {}).slots t).closeDrained k (Store.getD (s.catchUp k t).watches k {}).slots).closeMarked k t

theorem State.closeWatch_eq (s : State) (k : Nat) (w : Work) (t : Tu) :
    s.closeWatch k w t = s.watchClosed k t ∨ s.closeWatch k w t = (s.watchClosed k t).writeStreamHeader k w w.endStatus := by
  unfold State.closeWatch
  extract_lets s1 wt s2 s3 s4 wt4 s5
  split
  · exact .inr rfl
  · exact .inl rfl

theorem State.closeSlots_step (s : State) (k : Nat) (slots : List TSlot) (t : Tu) : TallyStep s (s.closeSlots k slots t) :=
  TallyStep.foldl _ (fun v x => (v.atSlot_step _ _ _ _).trans (.set _ F.TALLY_SLOTn_STATUS_IN_WATCH _ _ (by decide))) _ _

theorem State.closeDrained_off (s : State) (k : Nat) (slots : List TSlot) :
    (s.closeDrained k slots).offTally = s.offTally ∧ (s.closeDrained k slots).regs = s.regs := by
  obtain ⟨hoff, hregs⟩ := foldl_storeRecord_off (s.conc.filter (·.work == k))
    { s with srcEdges := s.srcEdges.filter fun e => !(slots.any fun x => x.source == e.source), conc := s.conc.filter (·.work != k) }
  exact ⟨hoff.trans (by simp only [State.offTally]), hregs⟩

theorem State.watchClosed_spec (s : State) (k : Nat) (t : Tu) :
    (s.watchClosed k t).offTally = s.offTally ∧ regsBut slotRegs s (s.watchClosed k t) ∧
      (Store.getD (s.watchClosed k t).watches k {}).closed = true ∧ (Store.getD (s.watchClosed k t).watches k {}).closeAt = some t := by
  unfold State.watchClosed
  have h1 := s.catchUp_step k t
  generalize s.catchUp k t = s1 at h1 ⊢
  have h2 := s1.closeSlots_step k (Store.getD s1.watches k {}).slots t
  generalize s1.closeSlots k (Store.getD s1.watches k {}).slots t = s2 at h2 ⊢
  obtain ⟨hoff, hregs⟩ := s2.closeDrained_off k (Store.getD s1.watches k {}).slots
  generalize s2.closeDrained k (Store.getD s1.watches k {}).slots = s3 at hoff hregs ⊢
  have hwatch : Store.getD (s3.closeMarked k t).watches k {} = { Store.getD s3.watches k ({} : Watch) with closed := true, closeAt := some t } := by
    simp [State.closeMarked]
  refine ⟨hoff.trans (h2.off.trans h1.off), fun r hr => ?_, congrArg Watch.closed hwatch, congrArg Watch.closeAt hwatch⟩
  refine (congrArg (fun m => Store.getD m r (resetWord r)) hregs :).trans ?_
  exact (h2.regs r hr).trans (h1.regs r hr)

theorem State.closeWatch_spec (s : State) (k : Nat) (w : Work) (t : Tu) :
    (s.closeWatch k w t).offTally = s.offTally ∧ regsBut slotRegs s (s.closeWatch k w t) ∧
      (Store.getD (s.closeWatch k w t).watches k {}).closed = true ∧ (Store.getD (s.closeWatch k w t).watches k {}).closeAt = some t := by
  have h := s.watchClosed_spec k t
  rcases s.closeWatch_eq k w t with heq | heq
  · rw [heq]; exact h
  · rw [heq]
    generalize s.watchClosed k t = u at h ⊢
    obtain ⟨hoff, hregs, hclosed, hat⟩ := h
    obtain ⟨hoff', hregs', hwatch⟩ := u.writeStreamHeader_off k w w.endStatus
    refine ⟨hoff'.trans hoff, fun r hr => ?_, ?_, ?_⟩
    · rw [State.rd, hregs']; exact hregs r hr
    · rw [hwatch]; exact hclosed
    · rw [hwatch]; exact hat

/-- The receipt of a TALLY_ARM whose watch is closed and whose measurements are written (R324, R396). -/
theorem State.endWatch_arm {s : State} {k : Nat} {w : Work} (ho : w.opcode = Op.tallyArm) (hc : (Store.getD s.watches k {}).closed = true)
    (hm : w.measCount = 0 ∨ (Store.getD s.watches k {}).measured = true) :
    (s.endWatch k w).fr = s.fr ∧ (s.endWatch k w).regs = s.regs ∧ (s.endWatch k w).watches = s.watches ∧
      (s.endWatch k w).receipts = s.receipts ++ [{ work := k, status := if w.cause = 0 then 0 else 2, final := true, cause := w.cause,
                                                   detail := leBytes (Store.getD s.watches k {}).records 8, no := s.raiseNo }] := by
  have hguard : ¬ (w.opcode ≠ Op.tallyArm ∨ (!(Store.getD s.watches k {}).closed) = true ∨ (w.measCount ≠ 0 ∧ (!(Store.getD s.watches k {}).measured) = true)) := by
    rcases hm with hm | hm <;> simp [ho, hc, hm]
  unfold State.endWatch
  extract_lets wt u
  rw [if_neg hguard]
  have hu : u = { s with works := u.works } := s.modWork_frame k _
  clear_value u
  have hfinal : ∀ status cause, (u.finalReceipt k status cause (leBytes wt.records 8)) =
      { s with receipts := s.receipts ++ [{ work := k, status, final := true, cause, detail := leBytes wt.records 8, no := s.raiseNo }],
               raiseNo := s.raiseNo + 1, works := (u.finalReceipt k status cause (leBytes wt.records 8)).works } := fun status cause => by
    rw [State.finalReceipt, State.modWork_frame, hu]; rfl
  split
  · next h0 => rw [hfinal, h0]; exact ⟨rfl, rfl, rfl, rfl⟩
  · rw [hfinal]; exact ⟨rfl, rfl, rfl, rfl⟩

/-! ## Results of measurements -/

/-- The state but for what a result block changes. -/
def State.offResult (s : State) : State := { s with regs := [], mem := [], free := 0 }

/-- The registers of the measurement results. -/
def measRegs : List RegName := [.TALLY_MEAS_EVENTS, .TALLY_MEAS_OVF_CNT]

theorem State.writeResult_spec (s : State) (m : Meas) (i : MeasIn) (cause : Nat) :
    (s.writeResult m i cause).offResult = s.offResult ∧ regsBut measRegs s (s.writeResult m i cause) := by
  unfold State.writeResult
  extract_lets o mem _ s1 s2 s3
  have h1 : s1.offResult = s.offResult ∧ regsBut measRegs s s1 := ⟨rfl, fun _ _ => rfl⟩
  clear_value s1
  have hset : ∀ (v : State) (f : Fld) (n : Nat), f.reg ∈ measRegs → v.offResult = s.offResult ∧ regsBut measRegs s v →
      (v.set f n).offResult = s.offResult ∧ regsBut measRegs s (v.set f n) := fun v f n hf hv =>
    ⟨hv.1, fun r hr => (v.rd_set_of_ne f n 0 0 r fun e => hr (e ▸ hf)).trans (hv.2 r hr)⟩
  have h2 : s2.offResult = s.offResult ∧ regsBut measRegs s s2 := by
    dsimp only [s2]; split
    · exact hset _ F.TALLY_MEAS_EVENTS_ACC_OVERFLOW _ (by decide) h1
    · exact h1
  have h3 : s3.offResult = s.offResult ∧ regsBut measRegs s s3 := by
    dsimp only [s3]; split
    · exact hset _ F.TALLY_MEAS_EVENTS_RESULT_VOID _ (by decide) h2
    · exact h2
  exact hset _ F.TALLY_MEAS_OVF_CNT_COUNT _ (by decide) h3

theorem foldl_writeResult_spec (l : List Meas) (i : MeasIn) (cause : Nat) (s : State) :
    (l.foldl (fun s m => s.writeResult m i cause) s).offResult = s.offResult ∧
      regsBut measRegs s (l.foldl (fun s m => s.writeResult m i cause) s) := by
  induction l generalizing s with
  | nil => exact ⟨rfl, fun _ _ => rfl⟩
  | cons m l ih =>
    obtain ⟨hoff, hregs⟩ := s.writeResult_spec m i cause
    obtain ⟨hoff', hregs'⟩ := ih (s.writeResult m i cause)
    exact ⟨hoff'.trans hoff, fun r hr => (hregs' r hr).trans (hregs r hr)⟩

/-- The results of a watch are written: only measurement registers, memory and free values change. -/
def State.resultsWritten (s : State) (k : Nat) (w : Work) (wt : Watch) : State :=
  let i : MeasIn := { recs := wt.tap, ec := if w.opcode = Op.burst then (s.seqSt w.bSeq).cap.ecTap else [], close := wt.closeAt.getD 0 }
  let s := w.measures.foldl (fun s m => s.writeResult m i w.cause) s
  { s with watches := Store.put s.watches k { wt with measured := true } }

theorem State.resultsWritten_spec (s : State) (k : Nat) (w : Work) (wt : Watch) :
    (s.resultsWritten k w wt).fr = s.fr ∧ (s.resultsWritten k w wt).works = s.works ∧ (s.resultsWritten k w wt).receipts = s.receipts ∧
      (s.resultsWritten k w wt).raiseNo = s.raiseNo ∧ regsBut measRegs s (s.resultsWritten k w wt) ∧
      Store.getD (s.resultsWritten k w wt).watches k {} = { wt with measured := true } := by
  unfold State.resultsWritten
  extract_lets i u
  obtain ⟨hoff, hregs⟩ := foldl_writeResult_spec w.measures i w.cause s
  exact ⟨(congrArg State.fr hoff :), (congrArg State.works hoff :), (congrArg State.receipts hoff :), (congrArg State.raiseNo hoff :), hregs, by simp⟩

theorem execMeasurementResults_eq {k : Nat} {w : Work} {wt : Watch} {s : State} (h : s.work? k = some w) (hw : Store.get? s.watches k = some wt)
    (hc : wt.closed = true) (hm : wt.measured = false) (hn : w.measCount ≠ 0) :
    execMeasurementResults k s = .next ((s.resultsWritten k w wt).endWatch k w) := by
  simp only [execMeasurementResults, h, hw]
  rw [if_neg (by simp [hc, hm, hn])]
  rfl

/-! ## The commands of gates and slots -/

/-- A transition within 1 µs of the last accepted one (R290). -/
def State.gateEarly (s : State) (g : Nat) (t : Tu) : Bool :=
  match (Store.getD s.gates g {}).last with | some l => decide (t < l + 4096000) | none => false

theorem State.gateEarly_of_some {s : State} {g l : Nat} {t : Tu} (h : (Store.getD s.gates g {}).last = some l) (ht : t < l + 4096000) :
    s.gateEarly g t = true := by
  rw [State.gateEarly, h]
  exact decide_eq_true ht

theorem State.gateEarly_eq_false {s : State} {g : Nat} {t : Tu} (h : ∀ l, (Store.getD s.gates g {}).last = some l → l + 4096000 ≤ t) :
    s.gateEarly g t = false := by
  unfold State.gateEarly
  split
  · next l hl => exact decide_eq_false (Nat.not_lt.mpr (h l hl))
  · rfl

/-- The state in which a change of a gate's level is judged: time has passed, the level is noted, the edge is on its way. -/
def State.gateMoved (s : State) (g : Nat) (b : Bool) (t : Tu) : State :=
  { s.advanceTo t with gates := Store.put s.gates g { Store.getD s.gates g {} with level := b } }.srcEdge (0x210 + g) b (max s.fr t)

theorem State.gateMoved_off (s : State) (g : Nat) (b : Bool) (t : Tu) :
    (s.gateMoved g b t).fr = max s.fr t ∧ (s.gateMoved g b t).regs = s.regs ∧ (s.gateMoved g b t).mem = s.mem ∧
      (s.gateMoved g b t).events = s.events ∧ (s.gateMoved g b t).conc = s.conc ∧
      (s.gateMoved g b t).gates = Store.put s.gates g { Store.getD s.gates g {} with level := b } := by
  unfold State.gateMoved State.srcEdge
  split <;> exact ⟨rfl, rfl, rfl, rfl, rfl, rfl⟩

theorem execTgateTransition_changes {g t : Nat} {b : Bool} {s : State} (hg : g < 4) (hb : (Store.getD s.gates g {}).level ≠ b) :
    execTgateTransition g b t s =
      (let u := s.gateMoved g b t
       if s.gateEarly g (max s.fr t) then
        let u := u.set F.TALLY_EVENTS_GATE_FAST (ofSet (g :: setBits (u.get F.TALLY_EVENTS_GATE_FAST) 4) 4)
        .next { u with watches := u.watches.map fun e =>
          (e.1, if e.2.openIn (max s.fr t) && e.2.slots.any (·.usesGate g) then { e.2 with gateFast := true } else e.2) }
       else if u.gateLevel g = b then .next u
       else .next ((u.acceptGate g b (max s.fr t)).gateEvent g b (max s.fr t))) := by
  rw [execTgateTransition, if_neg (by omega)]
  exact if_neg hb

/-- The acceptance of a gate's transition, its event included. -/
theorem State.acceptGate_event {s : State} {g : Nat} (b : Bool) (t : Tu) (hg : g < 4) :
    ((s.acceptGate g b t).gateEvent g b t).gateLevel g = b ∧
      ((s.acceptGate g b t).gateEvent g b t).gates = Store.put s.gates g { level := (Store.getD s.gates g {}).level, last := some t } ∧
      ((s.acceptGate g b t).gateEvent g b t).fr = s.fr ∧
      ((s.acceptGate g b t).gateEvent g b t).events = s.events ++ [{ source := 0x408 + g, at_ := t + 98304, rising := b, mark := 0 }] ∧
      ((s.acceptGate g b t).gateEvent g b t).mem = s.mem ∧ regsBut (.TALLY_STATUS :: slotRegs) s ((s.acceptGate g b t).gateEvent g b t) := by
  obtain ⟨hl, hgates, hfr, he, hm, hr⟩ := s.acceptGate_spec b t hg
  generalize s.acceptGate g b t = u at hl hgates hfr he hm hr ⊢
  exact ⟨hl, hgates, hfr, congrArg (· ++ [_]) he, hm, hr⟩

theorem State.watchedSlot_single {s : State} {k n : Nat} {wt : Watch} {x : TSlot} (hw : s.watches = [(k, wt)]) (hc : wt.closed = false)
    (hs : wt.slots = [x]) (hn : x.slot = n) : s.watchedSlot n = some (k, wt, x) := by
  simp [State.watchedSlot, hw, hc, hs, hn]

theorem Store.getD_single {κ α : Type} [DecidableEq κ] (k : κ) (v d : α) : Store.getD [(k, v)] k d = v := by
  simp [Store.getD, Store.get?]

theorem Watch.closed_of_isOpen {wt : Watch} (h : wt.isOpen = true) : wt.closed = false := by
  simp only [Watch.isOpen, Bool.and_eq_true, Bool.not_eq_true'] at h
  exact h.2

/-- DUR that elapses disarms the slot of a watch of one slot. -/
theorem State.catchUp_disarms {s : State} {k : Nat} {x : TSlot} {d : Tu} (ho : (Store.getD s.watches k {}).isOpen = true) (he : s.srcEdges = [])
    (hs : (Store.getD s.watches k {}).slots = [x]) (hd : x.disarmAt = some d) (ha : x.armed = true) (ht : x.tie = none) :
    (s.catchUp k d).bit F.TALLY_SLOTn_STATUS_ARMED x.slot = false ∧
      ((Store.getD (s.catchUp k d).watches k {}).slots.map fun y => (y.armed, y.disarmAt, y.count)) = [(false, none, x.count)] := by
  obtain ⟨y, e, heq, hslot, hya, hyd, hyc⟩ := State.atSlot_disarm hs ht ha d
  rw [State.catchUp_quiet ho he, State.expireSlots_single hs hd, heq]
  constructor
  · rw [← hslot]
    refine Eq.trans ?_ ((State.putSlot_armed (s.untie k x.slot d) k y).trans hya)
    simp only [State.bit, State.get, State.rd, State.marker_regs, hslot]
  · have huntie : (Store.getD (s.untie k x.slot d).watches k {}).slots = [x] := by rw [State.untie_watches, State.unstamp_slots, hs]
    rw [State.marker_slots, State.putSlot_single huntie hslot.symm]
    simp [hya, hyd, hyc]

/-- The edge that an armed slot of a watch of one slot takes and stamps. -/
theorem State.takeEdge_stamps {s : State} {k t o : Nat} {b : Bool} {wt : Watch} {x : TSlot} (hw : s.watches = [(k, wt)]) (ho : wt.openAt = some o)
    (hot : o ≤ t) (hc : wt.closed = false) (hend : wt.endBy = none) (hlim : wt.limit = 0) (hs : wt.slots = [x]) (ht : x.tie = none)
    (hconc : s.conc = []) (hd : x.disarmAt = none) (ha : x.armed = true) (htk : x.takes b = true) (hdec : (x.decide_ t).2 = true) (hdis : x.disarm ≠ 2) :
    let u := s.takeEdge k ⟨x.source, b, t⟩
    TallyStep s u ∧ u.conc = [{ row := x.slot / 32, work := k, slot := x.slot, stamp := x.record s b t }] ∧
      ((Store.getD u.watches k {}).slots.map fun y => y.toSlotRun) = [(x.stamped t).toSlotRun] ∧ (Store.getD u.watches k {}).records = wt.records + 1 := by
  intro u
  have hwt : Store.getD s.watches k {} = wt := by rw [hw]; exact Store.getD_single k wt {}
  have hslots : (Store.getD s.watches k {}).slots = [x] := by rw [hwt, hs]
  have hstep : TallyStep s u := s.takeEdge_step k _
  have hopen : wt.openIn t = true := by simp [Watch.openIn, ho, hot, hc, hend]
  have hu : u = ({ s with srcEdges := s.srcEdges.erase ⟨x.source, b, t⟩ } : State).atSlot k x.slot t fun y => { y with edge := some b } := by
    simp only [u, State.takeEdge, State.expireSlots_none hslots hd, hwt]
    rw [if_pos hopen, hs]
    simp [htk]
  generalize hs0 : ({ s with srcEdges := s.srcEdges.erase ⟨x.source, b, t⟩ } : State) = s0 at hu
  have hw0 : s0.watches = s.watches := by rw [← hs0]
  have hconc0 : s0.conc = [] := by rw [← hs0]; exact hconc
  have hwarm0 : s0.warm = s.warm := by rw [← hs0]; rfl
  have hslots0 : (Store.getD s0.watches k {}).slots = [x] := by rw [hw0, hslots]
  rw [State.atSlot_edge hslots0 ht ha, State.slotEdge_stamped] at hu
  rotate_left
  · rw [TSlot.decide_tie]; exact hdec
  · exact hdis
  have hwarm : (s0.untie k x.slot t).warm = s.warm :=
    (congrArg (fun w => F.TALLY_STATUS_WARM.get w == 1) ((s0.untie_step k x.slot t).regs ⟨.TALLY_STATUS, 0, 0⟩ (by decide)) :).trans hwarm0
  generalize hs1 : s0.untie k x.slot t = s1 at hu hwarm
  have hslots1 : (Store.getD s1.watches k {}).slots = [x] := by rw [← hs1, State.untie_watches, State.unstamp_slots, hslots0]
  have hrecs1 : (Store.getD s1.watches k {}).records = wt.records := by
    rw [← hs1, State.untie_watches]
    simp [State.unstamp, hw0, hwt, hconc0]
  have hconc1 : s1.conc = [] := by
    rw [← hs1, State.untie_conc]
    simp [State.unstamp, hconc0]
  refine ⟨hstep, ?_, ?_, ?_⟩
  · rw [hu]
    refine (congrArg (· ++ [_]) hconc1).trans ?_
    simp only [TSlot.record, hwarm, List.nil_append]
    rfl
  · rw [hu, State.putSlot_single (y := x)]
    · simp only [List.map_cons, List.map_nil, TSlot.stamped, TSlot.decide_tie]
    · rw [State.produce_slots, hslots1]
    · simp only [TSlot.stamped, TSlot.decide_tie, TSlot.decide_slot]
  · rw [hu]
    simp only [State.putSlot_records, State.produce, Store.getD_put, if_true, hrecs1]

/-- Settles O19: what the slots' bookkeeping leaves is `TallyStep`; gates by `State.acceptGate_event`, stamps by `State.takeEdge_stamps`, watches
by `State.openWatch_spec` and `State.closeWatch_spec`. -/
theorem tallySlotsAndWatches : Obligations.TallySlotsAndWatches := by
  unfold Obligations.TallySlotsAndWatches
  refine ⟨?same, ?early, ?accepted, ?settles, ?dur, ?durOne, ?noWatch, ?edge, ?stamps, ?record, ?opens, ?opensBurst, ?closes, ?closesArm, ?notFound,
    ?disarm, ?resultsArm, ?resultsBurst⟩
  case same =>
    intro g t b s hg hb
    refine (show exec (.tgateTransition g b t) s = execTgateTransition g b t s from rfl).trans ?_
    rw [execTgateTransition, if_neg (by omega)]
    exact if_pos hb
  case early =>
    intro g t l b s hg hb hl ht
    obtain ⟨hfr, hregs, hmem, hev, hconc, hgates⟩ := s.gateMoved_off g b t
    have heq := (execTgateTransition_changes hg hb).trans (if_pos (State.gateEarly_of_some hl ht))
    generalize s.gateMoved g b t = u at hfr hregs hmem hev hconc hgates heq
    have hget : u.get F.TALLY_EVENTS_GATE_FAST = s.get F.TALLY_EVENTS_GATE_FAST := by simp only [State.get, State.rd, hregs]
    refine ⟨_, heq, ?_, ?_, hgates, hev, hconc, hmem⟩
    · simp only [hget, State.set, State.wr, State.rd, hregs]
    · refine congrArg (bitOf · g) ((u.get_set_reg F.TALLY_EVENTS_GATE_FAST F.TALLY_STATUS_GATE_LEVEL _ 0 0 0 0 (by simp [F.TALLY_EVENTS_GATE_FAST, F.TALLY_STATUS_GATE_LEVEL])).trans ?_)
      simp only [State.get, State.rd, hregs]
  case accepted =>
    intro g t b s hg hb hlast hl
    obtain ⟨hfr, hregs, hmem, hev, hconc, hgates⟩ := s.gateMoved_off g b t
    have heq := (execTgateTransition_changes hg hb).trans (if_neg (by rw [State.gateEarly_eq_false hlast]; decide))
    generalize s.gateMoved g b t = u at hfr hregs hmem hev hconc hgates heq
    have hlevel : u.gateLevel g = !b := by simpa only [State.gateLevel, State.get, State.rd, hregs] using hl
    obtain ⟨hl', hgates', hfr', hev', hmem', hregs'⟩ := State.acceptGate_event (s := u) b (max s.fr t) hg
    refine ⟨_, heq.trans (if_neg (by rw [hlevel]; cases b <;> decide)), hfr'.trans hfr, hl', ?_, ?_, fun r hr => ?_, hmem'.trans hmem⟩
    · rw [hgates', hgates]; simp
    · rw [hev', hev]
    · rw [hregs' r hr, State.rd, hregs]; rfl
  case settles =>
    intro g l b s hg hb hlast hl
    obtain ⟨hl', hgates', hfr', hev', hmem', hregs'⟩ := State.acceptGate_event (s := s.advanceTo (l + 4096000)) b (l + 4096000) hg
    refine ⟨_, ?_, hl', hfr', hev', hregs', hmem'⟩
    refine (show exec (.gateSettleAccept g) s = execGateSettleAccept g s from rfl).trans ?_
    simp only [execGateSettleAccept, hlast, hb]
    rw [if_neg (by rw [hl]; cases b <;> simp <;> omega)]
  case dur =>
    intro n k d wt x s hw hd hend
    refine (show exec (.slotDisarmTimer n) s = execSlotDisarmTimer n s from rfl).trans ?_
    simp only [execSlotDisarmTimer, hw, hd, hend, Bool.false_eq_true, if_false]
  case durOne =>
    intro n k d wt x s hw ho hs hn hd hend ha ht he
    have hwt : Store.getD (s.advanceTo d).watches k {} = wt := (congrArg (fun m => Store.getD m k ({} : Watch)) hw).trans (Store.getD_single k wt {})
    have hstep := (s.advanceTo d).catchUp_step k d
    obtain ⟨harmed, hslots⟩ := State.catchUp_disarms (s := s.advanceTo d) (by rw [hwt]; exact ho) he (by rw [hwt]; exact hs) hd ha ht
    refine ⟨(s.advanceTo d).catchUp k d, ?_, hstep.fr, hn ▸ harmed, hslots, hstep.mem⟩
    refine (show exec (.slotDisarmTimer n) s = execSlotDisarmTimer n s from rfl).trans ?_
    simp only [execSlotDisarmTimer, State.watchedSlot_single hw (Watch.closed_of_isOpen ho) hs hn, hd, hend, Bool.false_eq_true, if_false]
  case noWatch =>
    intro n t b s hw
    refine (show exec (.slotEdge n b t) s = execSlotEdge n b t s from rfl).trans ?_
    simp only [execSlotEdge, hw]
  case edge =>
    intro n t k b wt x e s hw ho u he
    refine (show exec (.slotEdge n b t) s = execSlotEdge n b t s from rfl).trans ?_
    simp only [execSlotEdge, hw, ho, if_true]
    split
    · next hnone => exact absurd (he.symm.trans hnone) (by simp)
    · next e' he' =>
      obtain rfl := Option.some.inj (he.symm.trans he')
      rfl
  case stamps =>
    intro n k t o b wt x s hw ho hot hc hend hlim hs hn hin he ht hconc hd ha htk hdec hdis
    have hopen : wt.isOpen = true := by simp [Watch.isOpen, ho, hc]
    have hedges : (s.advanceTo t).srcEdge x.source b (max s.fr t) = { s.advanceTo t with srcEdges := [⟨x.source, b, max s.fr t⟩] } := by
      refine (if_pos ?_).trans ?_
      · simp [State.advanceTo, hw, hc, hs]
      · simp [State.advanceTo, he]
    generalize hu : ({ s.advanceTo t with srcEdges := [⟨x.source, b, max s.fr t⟩] } : State) = u at hedges
    have hfr : u.fr = max s.fr t := by rw [← hu]; rfl
    have hmem : u.mem = s.mem := by rw [← hu]; rfl
    have hregs : u.regs = s.regs := by rw [← hu]; rfl
    have hwatches : u.watches = [(k, wt)] := by rw [← hu]; exact hw
    have hconc' : u.conc = [] := by rw [← hu]; exact hconc
    have hadv : u.advanceTo (max s.fr t) = u := by rw [State.advanceTo, hfr, Nat.max_self, ← hfr]
    have hsrc : u.srcEdges = [⟨x.source, b, max s.fr t⟩] := by rw [← hu]
    have hwt : Store.getD u.watches k {} = wt := by rw [hwatches]; exact Store.getD_single k wt {}
    have hcatch : u.catchUp k (max s.fr t) = u := by
      rw [State.catchUp, if_pos (by rw [hwt]; exact hopen), hsrc]
      have hnext : u.nextEdge wt (max s.fr t) = none := by simp [State.nextEdge, hsrc]
      simp only [List.length_singleton, State.drainEdges, hwt, hnext]
      exact State.expireSlots_none (by rw [hwt, hs]) hd _
    obtain ⟨hstep, hc', hrun, hrecs⟩ := State.takeEdge_stamps hwatches ho hot hc hend hlim hs ht hconc' hd ha htk hdec hdis
    refine ⟨u.takeEdge k ⟨x.source, b, max s.fr t⟩, ?_, hstep.fr.trans hfr, hstep.mem.trans hmem, ?_, hrun, hrecs, fun r hr => ?_⟩
    · refine (show exec (.slotEdge n b t) s = execSlotEdge n b t s from rfl).trans ?_
      have hedges' : (s.advanceTo t).srcEdge x.source b (s.advanceTo t).fr = u := hedges
      simp only [execSlotEdge, State.watchedSlot_single hw hc hs hn, hin, if_true, hopen, hedges', hsrc, List.find?_cons, beq_self_eq_true, hadv, hcatch]
    · have hwarm : u.warm = s.warm := by simp only [State.warm, State.bit, State.get, State.rd, hregs]
      rw [hc', hn, TSlot.record, hwarm]
    · rw [hstep.regs r hr, State.rd, hregs]; rfl
  case record =>
    intro r c d s hc u hd
    refine (show exec (.stampRecordWrite r) s = execStampRecordWrite r s from rfl).trans ?_
    simp only [execStampRecordWrite, hc]
    split
    · next hnone => exact absurd (hd.symm.trans hnone) (by simp)
    · next e' he' =>
      obtain rfl := Option.some.inj (hd.symm.trans he')
      rfl
  case opens =>
    intro k w wt s h hwt hopen ho hs
    have hwork : (s.advanceTo w.s0).modWork k (fun w => { w with stage := .running }) = (s.advanceTo w.s0).setWork k { w with stage := .running } := by
      rw [State.modWork, show (s.advanceTo w.s0).work? k = some w from h]
    obtain ⟨hfr, hworks, hat, hregs, hmem⟩ := ((s.advanceTo w.s0).setWork k { w with stage := .running }).openWatch_spec k w w.s0
    refine ⟨_, ?_, hfr, ?_, hat, hregs, hmem⟩
    · refine (show exec (.watchOpen k) s = execWatchOpen k s from rfl).trans ?_
      simp only [execWatchOpen, h, hwt]
      rw [if_neg (by simp [hopen]), if_pos ⟨ho, hs⟩, hwork]
    · rw [State.work?, hworks]
      exact Store.get?_put_self _ _ _
  case opensBurst =>
    intro k w wt s h hwt hopen ho hs
    obtain ⟨hfr, hworks, hat, hregs, hmem⟩ := s.openWatch_spec k w w.s0
    refine ⟨s.openWatch k w w.s0, ?_, hfr, hworks, hat, hregs, hmem⟩
    refine (show exec (.watchOpen k) s = execWatchOpen k s from rfl).trans ?_
    simp only [execWatchOpen, h, hwt]
    rw [if_neg (by simp [hopen]), if_neg (by simp [ho, Op.burst, Op.tallyArm]), if_pos ⟨ho, hs⟩]
  case closes =>
    intro k c w wt s h hwt hc hclose
    refine ⟨?_, ((s.advanceTo c).closeWatch_spec k w c).2.2.1⟩
    refine (show exec (.watchClose k) s = execWatchClose k s from rfl).trans ?_
    simp only [execWatchClose, h, hwt, hc, hclose, Bool.false_eq_true, if_false]
  case closesArm =>
    intro k c w wt s h hwt hc ho hclose hn
    obtain ⟨hoff, hregs, hclosed, hat⟩ := (s.advanceTo c).closeWatch_spec k w c
    generalize hu : (s.advanceTo c).closeWatch k w c = u at hoff hregs hclosed hat
    obtain ⟨hfr, hr, hw', hrec⟩ := State.endWatch_arm ho hclosed (.inl hn)
    refine ⟨u.endWatch k w, ?_, hfr.trans (congrArg State.fr hoff :), fun r hr' => ?_, ?_, ?_, ?_⟩
    · refine (show exec (.watchClose k) s = execWatchClose k s from rfl).trans ?_
      simp only [execWatchClose, h, hwt, hc, hclose, Bool.false_eq_true, if_false, hu]
    · rw [State.rd, hr]; exact hregs r hr'
    · rw [hw', hclosed]
    · rw [hw', hat]
    · have hrecs : u.receipts = s.receipts := (congrArg State.receipts hoff :)
      have hno : u.raiseNo = s.raiseNo := (congrArg State.raiseNo hoff :)
      rw [hrec, hw', hrecs, hno]
  case notFound =>
    intro k w s h ho hs u hnone
    refine (show exec (.tallyDisarm k) s = execTallyDisarm k s from rfl).trans (congrArg Host.Outcome.next ?_)
    refine (s.onWork_eq k _ _ h ho).trans ((if_neg (by simp [hs])).trans ?_)
    dsimp only
    split
    · rfl
    · next hsome => exact absurd (hnone.symm.trans hsome) (by simp)
  case disarm =>
    intro k j w v s h ho hs u hsome
    refine (show exec (.tallyDisarm k) s = execTallyDisarm k s from rfl).trans (congrArg Host.Outcome.next ?_)
    refine (s.onWork_eq k _ _ h ho).trans ((if_neg (by simp [hs])).trans ?_)
    dsimp only
    split
    · next hnone => exact absurd (hsome.symm.trans hnone) (by simp)
    · next j' v' hsome' =>
      obtain ⟨rfl, rfl⟩ := Prod.mk.inj (Option.some.inj (hsome.symm.trans hsome'))
      rfl
  case resultsArm =>
    intro k w wt s h hwt hc hm hn ho
    obtain ⟨hfr, hworks, hrec, hno, hregs, hwatch⟩ := s.resultsWritten_spec k w wt
    have heq := execMeasurementResults_eq h hwt hc hm hn
    generalize s.resultsWritten k w wt = u at hfr hworks hrec hno hregs hwatch heq
    obtain ⟨hfr', hr', hw', hrec'⟩ := State.endWatch_arm (s := u) (k := k) ho (by rw [hwatch]; exact hc) (.inr (by rw [hwatch]))
    refine ⟨u.endWatch k w, heq, ?_, hfr'.trans hfr, ?_, fun r hr => ?_⟩
    · rw [hw', hwatch]
    · rw [hrec', hwatch, hrec, hno]
    · rw [State.rd, hr']; exact hregs r hr
  case resultsBurst =>
    intro k w wt s h hwt hc hm hn ho
    obtain ⟨hfr, hworks, hrec, hno, hregs, hwatch⟩ := s.resultsWritten_spec k w wt
    have heq := execMeasurementResults_eq h hwt hc hm hn
    generalize s.resultsWritten k w wt = u at hfr hworks hrec hno hregs hwatch heq
    have hend : u.endWatch k w = u := by
      unfold State.endWatch
      exact if_pos (.inl (by rw [ho]; decide))
    refine ⟨u, heq.trans (congrArg _ hend), ?_, hfr, hrec, hworks, hregs⟩
    rw [hwatch]

end Sys2Proof.Machine
end

section
/-!
SUPPORT. Registers that a command leaves, fields that lie apart, and the oven and the single-start runs (O20).
-/

namespace Sys2Proof

open Sys2Proof.Machine

/-! ## Registers left alone -/

theorem regsBut.refl (l : List RegName) (s : State) : regsBut l s s := fun _ _ => rfl

theorem regsBut.of_regs {l : List RegName} {s t u : State} (h : regsBut l s t) (hu : u.regs = t.regs) : regsBut l s u := fun r hr =>
  (congrArg (fun m => Store.getD m r (resetWord r)) hu :).trans (h r hr)

theorem regsBut.mono {l m : List RegName} {s t : State} (h : regsBut l s t) (hl : l ⊆ m) : regsBut m s t := fun r hr => h r fun hm => hr (hl hm)

theorem regsBut.trans {l : List RegName} {s t u : State} (h : regsBut l s t) (h' : regsBut l t u) : regsBut l s u := fun r hr =>
  (h' r hr).trans (h r hr)

theorem regsBut.set {l : List RegName} {s t : State} (h : regsBut l s t) (f : Fld) (v i j : Nat) (hf : f.reg ∈ l) : regsBut l s (t.set f v i j) :=
  fun r hr => (t.rd_set_of_ne f v i j r fun e => hr (by rwa [e])).trans (h r hr)

theorem regsBut.wr {l : List RegName} {s t : State} (h : regsBut l s t) (r : Reg) (w : Word) (hf : r.name ∈ l) : regsBut l s (t.wr r w) :=
  fun r' hr => (t.rd_wr r r' w).trans ((if_neg fun e => hr (by rwa [e])).trans (h r' hr))

end Sys2Proof

namespace Sys2Proof.Machine

theorem State.get_congr {s t : State} (h : t.regs = s.regs) (f : Fld) (i j : Nat) : t.get f i j = s.get f i j := by
  simp only [State.get, State.rd, h]

/-! ## Fields apart from one another -/

/-- Two fields lie in different registers or share no bit of one. -/
def Fld.apart (f g : Fld) : Bool :=
  decide (f.reg ≠ g.reg) || (decide (f.lsb + f.width ≤ 32) && (decide (f.lsb + f.width ≤ g.lsb) || decide (g.lsb + g.width ≤ f.lsb)))

theorem State.get_set_apart (s : State) {f g : Fld} (v i j i' j' : Nat) (h : f.apart g = true) :
    (s.set f v i j).get g i' j' = s.get g i' j' := by
  simp only [Fld.apart, Bool.or_eq_true, Bool.and_eq_true, decide_eq_true_eq] at h
  rcases h with h | ⟨hf, hd⟩
  · exact s.get_set_reg f g v i j i' j' fun e => h (congrArg Reg.name e).symm
  · exact s.get_set_fld f g v i j i' j' hf hd

theorem State.get_setBit_apart (s : State) {f g : Fld} (i j i' j' : Nat) (h : f.apart g = true) :
    (s.setBit f i j).get g i' j' = s.get g i' j' := s.get_set_apart 1 i j i' j' h

theorem State.get_setIf_apart (s : State) {f g : Fld} (b : Bool) (i j i' j' : Nat) (h : f.apart g = true) :
    (s.setIf f b i j).get g i' j' = s.get g i' j' := s.get_set_apart _ i j i' j' h

theorem State.bit_set_apart (s : State) {f g : Fld} (v i j i' j' : Nat) (h : f.apart g = true) :
    (s.set f v i j).bit g i' j' = s.bit g i' j' := congrArg (· == 1) (s.get_set_apart v i j i' j' h)

theorem State.bit_setBit_apart (s : State) {f g : Fld} (i j i' j' : Nat) (h : f.apart g = true) :
    (s.setBit f i j).bit g i' j' = s.bit g i' j' := s.bit_set_apart 1 i j i' j' h

theorem State.bit_setIf_apart (s : State) {f g : Fld} (b : Bool) (i j i' j' : Nat) (h : f.apart g = true) :
    (s.setIf f b i j).bit g i' j' = s.bit g i' j' := s.bit_set_apart _ i j i' j' h

theorem State.get_of_regsBut {l : List RegName} {s t : State} (h : regsBut l s t) (f : Fld) (i j : Nat) (hf : f.reg ∉ l) : t.get f i j = s.get f i j :=
  congrArg f.get (h ⟨f.reg, i, j⟩ hf)

theorem State.bit_of_regsBut {l : List RegName} {s t : State} (h : regsBut l s t) (f : Fld) (i j : Nat) (hf : f.reg ∉ l) : t.bit f i j = s.bit f i j :=
  congrArg (· == 1) (State.get_of_regsBut h f i j hf)

/-! ## The oven -/

/-- What an oven reading is judged by and what it leaves: the reading and the state shown, the last reading's instant, the time in band. -/
structure OvenView where
  reading : Nat
  state : Nat
  last : Tu
  inBand : Nat
  mem : Mem

def State.ovenView (s : State) : OvenView :=
  ⟨s.get F.TALLY_OVEN_STATUS_READING, s.get F.TALLY_OVEN_STATUS_STATE, s.oven.last, s.oven.inBand, s.mem⟩

theorem State.ovenView_of_regs {s t : State} (h : t.regs = s.regs) (hlast : t.oven.last = s.oven.last) (hband : t.oven.inBand = s.oven.inBand)
    (hm : t.mem = s.mem) : t.ovenView = s.ovenView := by
  simp only [State.ovenView, State.get_congr h, hlast, hband, hm]

theorem State.set_ovenView (s : State) (f : Fld) (v i : Nat) (hr : f.apart F.TALLY_OVEN_STATUS_READING = true)
    (hs : f.apart F.TALLY_OVEN_STATUS_STATE = true) : (s.set f v i).ovenView = s.ovenView := by
  simp only [State.ovenView, State.get_set_apart _ _ _ _ _ _ hr, State.get_set_apart _ _ _ _ _ _ hs]
  rfl

theorem State.setState_ovenView (s : State) {v : Nat} (hv : v < 8) :
    (s.set F.TALLY_OVEN_STATUS_STATE v).ovenView = { s.ovenView with state := v } := by
  have hself : (s.set F.TALLY_OVEN_STATUS_STATE v).get F.TALLY_OVEN_STATUS_STATE = v :=
    (s.get_set_self F.TALLY_OVEN_STATUS_STATE v 0 0 (by decide)).trans (Nat.mod_eq_of_lt hv)
  have hread : (s.set F.TALLY_OVEN_STATUS_STATE v).get F.TALLY_OVEN_STATUS_READING = s.get F.TALLY_OVEN_STATUS_READING :=
    s.get_set_apart v 0 0 0 0 (by decide)
  simp only [State.ovenView, hself, hread]
  rfl

theorem State.ovenLoop_ovenView (s : State) (e : Int) : (s.ovenLoop e).ovenView = s.ovenView := by
  unfold State.ovenLoop
  extract_lets i u top
  split
  · exact s.set_ovenView F.TALLY_OVEN_STATUS_DUTY _ 0 (by decide) (by decide)
  · split
    · exact s.set_ovenView F.TALLY_OVEN_STATUS_DUTY _ 0 (by decide) (by decide)
    · exact (State.ovenView_of_regs rfl rfl rfl rfl).trans (s.set_ovenView F.TALLY_OVEN_STATUS_DUTY u.toNat 0 (by decide) (by decide))

theorem State.ovenLoop_regsBut (s : State) (e : Int) : regsBut [.TALLY_OVEN_STATUS] s (s.ovenLoop e) := by
  have h : ∀ v, regsBut [.TALLY_OVEN_STATUS] s (s.set F.TALLY_OVEN_STATUS_DUTY v) := fun v =>
    (regsBut.refl _ s).set F.TALLY_OVEN_STATUS_DUTY v 0 0 (by decide)
  unfold State.ovenLoop
  extract_lets i u top
  split
  · exact h _
  · split
    · exact h _
    · exact (h _).of_regs rfl

theorem State.setInBand_ovenView (s : State) (n : Nat) : (s.setInBand n).ovenView = { s.ovenView with inBand := n } := by
  have h := s.set_ovenView F.TALLY_OVEN_INBAND_SECONDS (min (n / 100) 255) 0 (by decide) (by decide)
  exact congrArg (fun v : OvenView => { v with inBand := n }) h

theorem State.setInBand_regsBut (s : State) (n : Nat) : regsBut [.TALLY_OVEN_INBAND] s (s.setInBand n) :=
  ((regsBut.refl _ s).set F.TALLY_OVEN_INBAND_SECONDS _ 0 0 (by decide)).of_regs rfl

/-- The WARM condition brought up to date: WARM itself, and the records of the slots (R301). -/
theorem State.refreshWarm_off (s : State) :
    s.refreshWarm.oven = s.oven ∧ s.refreshWarm.mem = s.mem ∧ regsBut (.TALLY_STATUS :: slotRegs) s s.refreshWarm ∧
      s.refreshWarm.bit F.TALLY_STATUS_OVEN_READY = s.bit F.TALLY_STATUS_OVEN_READY := by
  unfold State.refreshWarm
  extract_lets oven b v
  split
  · exact ⟨rfl, rfl, .refl _ s, rfl⟩
  · have h := s.catchUpAll_step s.fr
    have hoven : v.oven = s.oven := (congrArg State.oven h.off :)
    have hregs := regsBut.set (h.regs.mono (List.subset_cons_self .TALLY_STATUS _)) F.TALLY_STATUS_WARM (if b then 1 else 0) 0 0 (by decide)
    refine ⟨hoven, h.mem, regsBut.of_regs hregs rfl, ?_⟩
    exact ((s.catchUpAll s.fr).bit_setIf_apart (f := F.TALLY_STATUS_WARM) b 0 0 0 0 (by decide)).trans
      (State.bit_of_regsBut h.regs F.TALLY_STATUS_OVEN_READY 0 0 (by decide))

theorem State.setOvenReady_spec (s : State) (b : Bool) :
    (s.setOvenReady b).ovenView = s.ovenView ∧ regsBut (.TALLY_STATUS :: slotRegs) s (s.setOvenReady b) ∧
      (s.setOvenReady b).bit F.TALLY_STATUS_OVEN_READY = b ∧ (s.setOvenReady b).oven = s.oven := by
  obtain ⟨hoven, hmem, hregs, hready⟩ := (s.setIf F.TALLY_STATUS_OVEN_READY b).refreshWarm_off
  have hall := ((regsBut.refl (.TALLY_STATUS :: slotRegs) s).set F.TALLY_STATUS_OVEN_READY (if b then 1 else 0) 0 0 (by decide)).trans hregs
  refine ⟨?_, hall, hready.trans (s.bit_setIf F.TALLY_STATUS_OVEN_READY b 0 0 (by decide) (by decide)), hoven⟩
  have hr := State.get_of_regsBut hall F.TALLY_OVEN_STATUS_READING 0 0 (by decide)
  have hs := State.get_of_regsBut hall F.TALLY_OVEN_STATUS_STATE 0 0 (by decide)
  simp only [State.ovenView, State.setOvenReady, hoven, hmem]
  rw [← hr, ← hs]
  rfl

/-- A reading of the thermistor is noted (R298, R307). -/
def State.ovenNoted (s : State) (r : Nat) : State := { s.set F.TALLY_OVEN_STATUS_READING (r % 2 ^ 16) with oven := { s.oven with last := s.fr } }

theorem State.ovenNoted_ovenView (s : State) (r : Nat) :
    (s.ovenNoted r).ovenView = { s.ovenView with reading := r % 2 ^ 16, last := s.fr } := by
  have hself : (s.set F.TALLY_OVEN_STATUS_READING (r % 2 ^ 16)).get F.TALLY_OVEN_STATUS_READING = r % 2 ^ 16 :=
    (s.get_set_self F.TALLY_OVEN_STATUS_READING (r % 2 ^ 16) 0 0 (by decide)).trans (Nat.mod_mod r _)
  have hst : (s.set F.TALLY_OVEN_STATUS_READING (r % 2 ^ 16)).get F.TALLY_OVEN_STATUS_STATE = s.get F.TALLY_OVEN_STATUS_STATE :=
    s.get_set_apart _ 0 0 0 0 (by decide)
  exact congr (congrArg (fun a b => OvenView.mk a b s.fr s.oven.inBand s.mem) hself) hst

theorem State.ovenNoted_regsBut (s : State) (r : Nat) : regsBut [.TALLY_OVEN_STATUS] s (s.ovenNoted r) :=
  ((regsBut.refl _ s).set F.TALLY_OVEN_STATUS_READING _ 0 0 (by decide)).of_regs rfl

theorem State.ovenError_congr {s t : State} (h : regsBut [.TALLY_OVEN_STATUS] s t) (r : Nat) : t.ovenError r = s.ovenError r := by
  simp only [State.ovenError, State.bit_of_regsBut h F.TALLY_OVEN_CTRL_POL 0 0 (by decide), State.get_of_regsBut h F.TALLY_OVEN_SET_SET 0 0 (by decide)]

/-- A reading reaches the controller, by the state that it shows. -/
theorem execOvenReading_off {r : Nat} {s : State} (h : s.get F.TALLY_OVEN_STATUS_STATE = 0) : execOvenReading r s = .next (s.ovenNoted r) := by
  have hst : (s.ovenNoted r).get F.TALLY_OVEN_STATUS_STATE = 0 := (congrArg OvenView.state (s.ovenNoted_ovenView r)).trans h
  unfold State.ovenNoted at hst
  simp only [execOvenReading, hst] <;> rfl

/-- The controller's loop on the reading just noted. -/
def State.ovenLooped (s : State) (r : Nat) : State := (s.ovenNoted r).ovenLoop (s.ovenError (r % 2 ^ 16))

theorem State.ovenLooped_spec (s : State) (r : Nat) :
    (s.ovenLooped r).ovenView = { s.ovenView with reading := r % 2 ^ 16, last := s.fr } ∧ regsBut [.TALLY_OVEN_STATUS] s (s.ovenLooped r) :=
  ⟨((s.ovenNoted r).ovenLoop_ovenView _).trans (s.ovenNoted_ovenView r), (s.ovenNoted_regsBut r).trans ((s.ovenNoted r).ovenLoop_regsBut _)⟩

theorem execOvenReading_warming {r : Nat} {s : State} (h : s.get F.TALLY_OVEN_STATUS_STATE = 1) : execOvenReading r s =
    if (s.ovenError (r % 2 ^ 16)).natAbs ≤ s.get F.TALLY_OVEN_BAND_BAND then
      if 12000 ≤ s.oven.inBand + 1 then
        .next (((((s.ovenLooped r).setInBand (s.oven.inBand + 1)).set F.TALLY_OVEN_STATUS_STATE 2).setBit F.TALLY_EVENTS_OVEN_READY_SET).setOvenReady true)
      else .next ((s.ovenLooped r).setInBand (s.oven.inBand + 1))
    else .next ((s.ovenLooped r).setInBand 0) := by
  have hst : (s.ovenNoted r).get F.TALLY_OVEN_STATUS_STATE = 1 := (congrArg OvenView.state (s.ovenNoted_ovenView r)).trans h
  have herr := State.ovenError_congr (s.ovenNoted_regsBut r) (r % 2 ^ 16)
  have hband := State.get_of_regsBut (s.ovenNoted_regsBut r) F.TALLY_OVEN_BAND_BAND 0 0 (by decide)
  have hin : (s.ovenLooped r).oven.inBand = s.oven.inBand := congrArg OvenView.inBand (s.ovenLooped_spec r).1
  unfold State.ovenLooped at hin ⊢
  unfold State.ovenNoted at hst herr hband hin ⊢
  simp only [execOvenReading, hst, herr, hband, hin, Int.ofNat_le] <;> rfl

theorem execOvenReading_ready {r : Nat} {s : State} (h : s.get F.TALLY_OVEN_STATUS_STATE = 2) : execOvenReading r s =
    if 2 * s.get F.TALLY_OVEN_BAND_BAND < (s.ovenError (r % 2 ^ 16)).natAbs then
      .next (((((s.ovenLooped r).set F.TALLY_OVEN_STATUS_STATE 1).setBit F.TALLY_EVENTS_OVEN_LOST).setInBand 0).setOvenReady false)
    else if (s.ovenError (r % 2 ^ 16)).natAbs ≤ s.get F.TALLY_OVEN_BAND_BAND then .next ((s.ovenLooped r).setInBand (s.oven.inBand + 1))
    else .next (s.ovenLooped r) := by
  have hst : (s.ovenNoted r).get F.TALLY_OVEN_STATUS_STATE = 2 := (congrArg OvenView.state (s.ovenNoted_ovenView r)).trans h
  have herr := State.ovenError_congr (s.ovenNoted_regsBut r) (r % 2 ^ 16)
  have hband := State.get_of_regsBut (s.ovenNoted_regsBut r) F.TALLY_OVEN_BAND_BAND 0 0 (by decide)
  have hin : (s.ovenLooped r).oven.inBand = s.oven.inBand := congrArg OvenView.inBand (s.ovenLooped_spec r).1
  have htwice : ∀ a b : Nat, (2 * (a : Int) < (b : Int)) = (2 * a < b) := fun a b => propext (by omega)
  unfold State.ovenLooped at hin ⊢
  unfold State.ovenNoted at hst herr hband hin ⊢
  simp only [execOvenReading, hst, herr, hband, hin, Int.ofNat_le, htwice] <;> rfl

theorem execOvenReading_holding {r : Nat} {s : State} (h : s.get F.TALLY_OVEN_STATUS_STATE = 3) :
    execOvenReading r s = .next (((s.ovenNoted r).set F.TALLY_OVEN_STATUS_STATE 1).setInBand 0) := by
  have hst : (s.ovenNoted r).get F.TALLY_OVEN_STATUS_STATE = 3 := (congrArg OvenView.state (s.ovenNoted_ovenView r)).trans h
  unfold State.ovenNoted at hst
  simp only [execOvenReading, hst] <;> rfl

/-- The registers that a reading of the oven can change. -/
def ovenRegs : List RegName := [.TALLY_OVEN_STATUS, .TALLY_OVEN_INBAND, .TALLY_EVENTS, .TALLY_STATUS, .TALLY_SLOTn_COUNT_0, .TALLY_SLOTn_COUNT_1,
  .TALLY_SLOTn_STATUS, .TALLY_SLOTn_EVENTS]

theorem State.setState_regsBut (s : State) (v : Nat) : regsBut [.TALLY_OVEN_STATUS] s (s.set F.TALLY_OVEN_STATUS_STATE v) :=
  (regsBut.refl _ s).set F.TALLY_OVEN_STATUS_STATE v 0 0 (by decide)

/-! ## The oven's control register -/

theorem State.bit_wr_enable (s : State) (w : Word) : (s.wr ⟨.TALLY_OVEN_CTRL, 0, 0⟩ (w &&& 0x80001FFF#32)).bit F.TALLY_OVEN_CTRL_ENABLE = w.getLsbD 31 := by
  have hfield : F.TALLY_OVEN_CTRL_ENABLE.get (w &&& 0x80001FFF#32) = (w.getLsbD 31).toNat := by
    rw [Fld.get]
    have hbit : (w &&& 0x80001FFF#32).extractLsb' 31 1 = BitVec.ofBool (w.getLsbD 31) := by
      ext i hi
      obtain rfl : i = 0 := by omega
      simp
    rw [show F.TALLY_OVEN_CTRL_ENABLE.lsb = 31 from rfl, show F.TALLY_OVEN_CTRL_ENABLE.width = 1 from rfl, hbit]
    simp
  have hread : (s.wr ⟨.TALLY_OVEN_CTRL, 0, 0⟩ (w &&& 0x80001FFF#32)).rd ⟨.TALLY_OVEN_CTRL, 0, 0⟩ = w &&& 0x80001FFF#32 :=
    (s.rd_wr _ _ _).trans (if_pos rfl)
  refine (congrArg (fun w => F.TALLY_OVEN_CTRL_ENABLE.get w == 1) hread).trans ?_
  simp only [hfield]
  cases w.getLsbD 31 <;> rfl

theorem State.ovenCtrlWrite_starts {s : State} {w : Word} (h : s.bit F.TALLY_OVEN_CTRL_ENABLE = false) (hw : w.getLsbD 31 = true) :
    s.ovenCtrlWrite w = { ((s.wr ⟨.TALLY_OVEN_CTRL, 0, 0⟩ (w &&& 0x80001FFF#32)).set F.TALLY_OVEN_STATUS_STATE 1).setInBand 0 with
      oven := { s.oven with i := 0, inBand := 0 } } := by
  simp only [State.ovenCtrlWrite, h, s.bit_wr_enable w, hw] <;> rfl

theorem State.ovenCtrlWrite_stops {s : State} {w : Word} (h : s.bit F.TALLY_OVEN_CTRL_ENABLE = true) (hw : w.getLsbD 31 = false) :
    s.ovenCtrlWrite w = (((s.wr ⟨.TALLY_OVEN_CTRL, 0, 0⟩ (w &&& 0x80001FFF#32)).set F.TALLY_OVEN_STATUS_STATE 0).set
      F.TALLY_OVEN_STATUS_DUTY 0).setOvenReady false := by
  simp only [State.ovenCtrlWrite, h, s.bit_wr_enable w, hw] <;> rfl

/-! ## Single-start multi-stop runs -/

theorem State.noteMeans_off (s : State) (row : Nat) (q : SsmsRun) (l : List SsmsRep) :
    (s.noteMeans row q l).regs = s.regs ∧ (s.noteMeans row q l).ssms = s.ssms := by
  unfold State.noteMeans
  split
  · split <;> exact ⟨rfl, rfl⟩
  · exact ⟨rfl, rfl⟩

theorem Store.get?_filter_not_contains {α : Type} (m : Store Nat α) (k : Nat) : Store.get? (m.filter fun p => !([k].contains p.1)) k = none := by
  rw [Store.get?_filter_key (fun j => !([k].contains j))]
  simp

/-- The end of a run on a Row: the run is gone, BUSY stays while another is active, and the other fields of the status stay. -/
theorem State.ssmsStop_spec (s : State) (row : Nat) :
    Store.get? (s.ssmsStop [row]).ssms row = none ∧ (s.ssmsStop [row]).bit F.TALLY_SSMS_STATUS_BUSY = !(s.ssmsStop [row]).ssms.isEmpty ∧
      (s.ssmsStop [row]).get F.TALLY_SSMS_STATUS_ROW = s.get F.TALLY_SSMS_STATUS_ROW ∧
      regsBut [.TALLY_STATUS, .TALLY_SSMS_STATUS] s (s.ssmsStop [row]) := by
  unfold State.ssmsStop
  extract_lets u v
  have hu : regsBut [.TALLY_STATUS, .TALLY_SSMS_STATUS] s u := regsBut.of_regs (.refl _ s) rfl
  have hv : regsBut [.TALLY_STATUS, .TALLY_SSMS_STATUS] s v := hu.set F.TALLY_STATUS_SSMS_BUSY _ 0 0 (by decide)
  refine ⟨Store.get?_filter_not_contains s.ssms row, v.bit_setIf F.TALLY_SSMS_STATUS_BUSY _ 0 0 (by decide) (by decide), ?_,
    hv.set F.TALLY_SSMS_STATUS_BUSY _ 0 0 (by decide)⟩
  refine (v.get_setIf_apart (f := F.TALLY_SSMS_STATUS_BUSY) _ 0 0 0 0 (by decide)).trans ?_
  exact u.get_set_apart (f := F.TALLY_STATUS_SSMS_BUSY) _ 0 0 0 0 (by decide)

/-- A run has made all its repeats and its block is written (R303). -/
def State.runWritten (s : State) (row : Nat) (q : SsmsRun) (l : List SsmsRep) : State :=
  { (s.noteMeans row q l).ssmsStop [row] with
    mem := Mem.setBytes s.mem q.addr (ssmsBlock row q l), driftRows := if s.edgeLinOn row then s.driftRows else s.driftRows.erase row }

theorem State.runWritten_spec (s : State) (row : Nat) (q : SsmsRun) (l : List SsmsRep) :
    (s.runWritten row q l).mem = Mem.setBytes s.mem q.addr (ssmsBlock row q l) ∧ Store.get? (s.runWritten row q l).ssms row = none ∧
      (s.runWritten row q l).bit F.TALLY_SSMS_STATUS_BUSY = !(s.runWritten row q l).ssms.isEmpty ∧
      (s.runWritten row q l).get F.TALLY_SSMS_STATUS_ROW = s.get F.TALLY_SSMS_STATUS_ROW ∧
      regsBut [.TALLY_STATUS, .TALLY_SSMS_STATUS] s (s.runWritten row q l) := by
  obtain ⟨hnregs, hnssms⟩ := s.noteMeans_off row q l
  obtain ⟨hgone, hbusy, hrow, hregs⟩ := (s.noteMeans row q l).ssmsStop_spec row
  have hregs0 : regsBut [.TALLY_STATUS, .TALLY_SSMS_STATUS] s (s.noteMeans row q l) := regsBut.of_regs (.refl _ s) hnregs
  unfold State.runWritten
  generalize (s.noteMeans row q l).ssmsStop [row] = u at hgone hbusy hrow hregs ⊢
  generalize Mem.setBytes s.mem q.addr (ssmsBlock row q l) = mem
  exact ⟨rfl, hgone, hbusy, hrow.trans (State.get_congr hnregs _ 0 0), regsBut.of_regs (hregs0.trans hregs) rfl⟩

/-- Settles O20: a reading of the thermistor by the state that the controller shows, a write of its control register, the start and the end of a
single-start run. -/
theorem oscillatorAndRuns : Obligations.OscillatorAndRuns := by
  unfold Obligations.OscillatorAndRuns
  refine ⟨?appear, ?loss, ?off, ?outOfBand, ?inBand, ?becomesReady, ?lost, ?staysReady, ?resumes, ?holds, ?enable, ?disable, ?starts, ?done⟩
  case appear =>
    intro s
    refine (show exec .ocxoAppear s = execOcxoAppear s from rfl).trans ?_
    unfold execOcxoAppear
    split <;> rfl
  case loss => exact fun s => rfl
  case off =>
    intro r s h
    have hv := s.ovenNoted_ovenView r
    exact ⟨_, execOvenReading_off h, congrArg OvenView.reading hv, congrArg OvenView.last hv, congrArg OvenView.mem hv,
      (congrArg OvenView.state hv).trans h, s.ovenNoted_regsBut r⟩
  case outOfBand =>
    intro r s h hout
    obtain ⟨hview, hregs⟩ := s.ovenLooped_spec r
    have hv := ((s.ovenLooped r).setInBand_ovenView 0).trans (congrArg (fun v : OvenView => { v with inBand := 0 }) hview)
    refine ⟨_, (execOvenReading_warming h).trans (if_neg (by omega)), congrArg OvenView.reading hv, congrArg OvenView.last hv,
      congrArg OvenView.mem hv, (congrArg OvenView.state hv).trans h, congrArg OvenView.inBand hv, ?_⟩
    exact regsBut_trans hregs ((s.ovenLooped r).setInBand_regsBut 0) (by decide) (by decide)
  case inBand =>
    intro r s h hin hn
    obtain ⟨hview, hregs⟩ := s.ovenLooped_spec r
    have hv := ((s.ovenLooped r).setInBand_ovenView (s.oven.inBand + 1)).trans
      (congrArg (fun v : OvenView => { v with inBand := s.oven.inBand + 1 }) hview)
    refine ⟨_, (execOvenReading_warming h).trans ((if_pos hin).trans (if_neg (by omega))), congrArg OvenView.reading hv,
      congrArg OvenView.last hv, congrArg OvenView.mem hv, (congrArg OvenView.state hv).trans h, congrArg OvenView.inBand hv, ?_⟩
    exact regsBut_trans hregs ((s.ovenLooped r).setInBand_regsBut _) (by decide) (by decide)
  case becomesReady =>
    intro r s h hin hn
    obtain ⟨hview, hregs⟩ := s.ovenLooped_spec r
    have hband := ((s.ovenLooped r).setInBand_ovenView (s.oven.inBand + 1)).trans
      (congrArg (fun v : OvenView => { v with inBand := s.oven.inBand + 1 }) hview)
    have hregs1 := regsBut_trans (m := ovenRegs) hregs ((s.ovenLooped r).setInBand_regsBut (s.oven.inBand + 1)) (by decide) (by decide)
    have heq := (execOvenReading_warming h).trans ((if_pos hin).trans (if_pos hn))
    generalize (s.ovenLooped r).setInBand (s.oven.inBand + 1) = u at hband hregs1 heq
    obtain ⟨hv, hr, hready, -⟩ := ((u.set F.TALLY_OVEN_STATUS_STATE 2).setBit F.TALLY_EVENTS_OVEN_READY_SET).setOvenReady_spec true
    have hv := ((hv.trans (State.set_ovenView _ F.TALLY_EVENTS_OVEN_READY_SET 1 0 (by decide) (by decide))).trans
      (u.setState_ovenView (v := 2) (by decide))).trans (congrArg (fun v : OvenView => { v with state := 2 }) hband)
    refine ⟨_, heq, congrArg OvenView.reading hv, congrArg OvenView.last hv, congrArg OvenView.mem hv, congrArg OvenView.state hv,
      (State.bit_of_regsBut hr F.TALLY_EVENTS_OVEN_READY_SET 0 0 (by decide)).trans (State.bit_setBit _ _ 0 0 (by decide) (by decide)), hready, ?_⟩
    exact ((hregs1.set F.TALLY_OVEN_STATUS_STATE 2 0 0 (by decide)).set F.TALLY_EVENTS_OVEN_READY_SET 1 0 0 (by decide)).trans (hr.mono (by decide))
  case lost =>
    intro r s h hout
    obtain ⟨hview, hregs⟩ := s.ovenLooped_spec r
    have heq := (execOvenReading_ready h).trans (if_pos hout)
    generalize s.ovenLooped r = u at hview hregs heq
    have hshown := ((State.set_ovenView (u.set F.TALLY_OVEN_STATUS_STATE 1) F.TALLY_EVENTS_OVEN_LOST 1 0 (by decide) (by decide)).trans
      (u.setState_ovenView (v := 1) (by decide))).trans (congrArg (fun v : OvenView => { v with state := 1 }) hview)
    have hregs1 := ((hregs.mono (m := ovenRegs) (by decide)).set F.TALLY_OVEN_STATUS_STATE 1 0 0 (by decide)).set F.TALLY_EVENTS_OVEN_LOST 1 0 0
      (by decide)
    have hlost : ((u.set F.TALLY_OVEN_STATUS_STATE 1).setBit F.TALLY_EVENTS_OVEN_LOST).bit F.TALLY_EVENTS_OVEN_LOST = true :=
      State.bit_setBit _ _ 0 0 (by decide) (by decide)
    generalize hv : (u.set F.TALLY_OVEN_STATUS_STATE 1).setBit F.TALLY_EVENTS_OVEN_LOST = v at heq hlost
    have hshown : v.ovenView = _ := (congrArg State.ovenView hv.symm).trans hshown
    have hregs1 : regsBut ovenRegs s v := hv ▸ hregs1
    have hband := (v.setInBand_ovenView 0).trans (congrArg (fun v : OvenView => { v with inBand := 0 }) hshown)
    have hr1 := v.setInBand_regsBut 0
    generalize v.setInBand 0 = x at heq hband hr1
    obtain ⟨hv, hr, hready, -⟩ := x.setOvenReady_spec false
    have hv := hv.trans hband
    refine ⟨_, heq, congrArg OvenView.reading hv, congrArg OvenView.last hv, congrArg OvenView.mem hv, congrArg OvenView.state hv,
      congrArg OvenView.inBand hv, ?_, hready, ?_⟩
    · exact (State.bit_of_regsBut hr F.TALLY_EVENTS_OVEN_LOST 0 0 (by decide)).trans
        ((State.bit_of_regsBut hr1 F.TALLY_EVENTS_OVEN_LOST 0 0 (by decide)).trans hlost)
    · exact (hregs1.trans (hr1.mono (by decide))).trans (hr.mono (by decide))
  case staysReady =>
    intro r s h hin
    obtain ⟨hview, hregs⟩ := s.ovenLooped_spec r
    have heq := (execOvenReading_ready (r := r) h).trans (if_neg (by omega))
    by_cases hb : (s.ovenError (r % 2 ^ 16)).natAbs ≤ s.get F.TALLY_OVEN_BAND_BAND
    · have hv := ((s.ovenLooped r).setInBand_ovenView (s.oven.inBand + 1)).trans
        (congrArg (fun v : OvenView => { v with inBand := s.oven.inBand + 1 }) hview)
      refine ⟨_, heq.trans (if_pos hb), congrArg OvenView.reading hv, congrArg OvenView.last hv, congrArg OvenView.mem hv,
        (congrArg OvenView.state hv).trans h, (congrArg OvenView.inBand hv).trans (if_pos hb).symm, ?_⟩
      exact regsBut_trans hregs ((s.ovenLooped r).setInBand_regsBut _) (by decide) (by decide)
    · exact ⟨_, heq.trans (if_neg hb), congrArg OvenView.reading hview, congrArg OvenView.last hview, congrArg OvenView.mem hview,
        (congrArg OvenView.state hview).trans h, (congrArg OvenView.inBand hview).trans (if_neg hb).symm, hregs.mono (by decide)⟩
  case resumes =>
    intro r s h
    have hv := (((s.ovenNoted r).set F.TALLY_OVEN_STATUS_STATE 1).setInBand_ovenView 0).trans
      (congrArg (fun v : OvenView => { v with inBand := 0 }) (((s.ovenNoted r).setState_ovenView (v := 1) (by decide)).trans
        (congrArg (fun v : OvenView => { v with state := 1 }) (s.ovenNoted_ovenView r))))
    refine ⟨_, execOvenReading_holding h, congrArg OvenView.reading hv, congrArg OvenView.last hv, congrArg OvenView.mem hv,
      congrArg OvenView.state hv, congrArg OvenView.inBand hv, ?_⟩
    exact regsBut_trans ((s.ovenNoted_regsBut r).trans ((s.ovenNoted r).setState_regsBut 1)) (State.setInBand_regsBut _ 0) (by decide) (by decide)
  case holds => exact fun s h => if_pos h
  case enable =>
    intro s hboot h
    have hw : (s.rd ⟨.TALLY_OVEN_CTRL, 0, 0⟩ ||| 0x80000000#32).getLsbD 31 = true := by simp
    have heq : exec .ovenEnable s = .next (s.ovenCtrlWrite (s.rd ⟨.TALLY_OVEN_CTRL, 0, 0⟩ ||| 0x80000000#32)) := if_pos hboot
    generalize s.rd ⟨.TALLY_OVEN_CTRL, 0, 0⟩ ||| 0x80000000#32 = w at hw heq
    have heq := heq.trans (congrArg _ (State.ovenCtrlWrite_starts h hw))
    have hen := (s.bit_wr_enable w).trans hw
    have hregs := (regsBut.refl [.TALLY_OVEN_CTRL, .TALLY_OVEN_STATUS, .TALLY_OVEN_INBAND] s).wr ⟨.TALLY_OVEN_CTRL, 0, 0⟩ (w &&& 0x80001FFF#32) (by decide)
    have hmem : (s.wr ⟨.TALLY_OVEN_CTRL, 0, 0⟩ (w &&& 0x80001FFF#32)).mem = s.mem := rfl
    generalize s.wr ⟨.TALLY_OVEN_CTRL, 0, 0⟩ (w &&& 0x80001FFF#32) = u at heq hen hregs hmem
    have hr := (u.set F.TALLY_OVEN_STATUS_STATE 1).setInBand_regsBut 0
    refine ⟨_, heq, ?_, ?_, rfl, ?_, hmem⟩
    · exact (State.bit_of_regsBut hr F.TALLY_OVEN_CTRL_ENABLE 0 0 (by decide)).trans
        ((u.bit_set_apart (f := F.TALLY_OVEN_STATUS_STATE) 1 0 0 0 0 (by decide)).trans hen)
    · exact (State.get_of_regsBut hr F.TALLY_OVEN_STATUS_STATE 0 0 (by decide)).trans (u.get_set_self F.TALLY_OVEN_STATUS_STATE 1 0 0 (by decide))
    · exact regsBut.of_regs ((hregs.set F.TALLY_OVEN_STATUS_STATE 1 0 0 (by decide)).trans (hr.mono (by decide))) rfl
  case disable =>
    intro s hboot h
    have hw : (s.rd ⟨.TALLY_OVEN_CTRL, 0, 0⟩ &&& 0x7FFFFFFF#32).getLsbD 31 = false := by simp
    have heq : exec .ovenDisable s = .next (s.ovenCtrlWrite (s.rd ⟨.TALLY_OVEN_CTRL, 0, 0⟩ &&& 0x7FFFFFFF#32)) := if_pos hboot
    generalize s.rd ⟨.TALLY_OVEN_CTRL, 0, 0⟩ &&& 0x7FFFFFFF#32 = w at hw heq
    have heq := heq.trans (congrArg _ (State.ovenCtrlWrite_stops h hw))
    have hen := (s.bit_wr_enable w).trans hw
    have hregs := (regsBut.refl [.TALLY_OVEN_CTRL, .TALLY_OVEN_STATUS] s).wr ⟨.TALLY_OVEN_CTRL, 0, 0⟩ (w &&& 0x80001FFF#32) (by decide)
    have hmem : (s.wr ⟨.TALLY_OVEN_CTRL, 0, 0⟩ (w &&& 0x80001FFF#32)).mem = s.mem := rfl
    generalize s.wr ⟨.TALLY_OVEN_CTRL, 0, 0⟩ (w &&& 0x80001FFF#32) = u at heq hen hregs hmem
    obtain ⟨hv, hr, hready, -⟩ := ((u.set F.TALLY_OVEN_STATUS_STATE 0).set F.TALLY_OVEN_STATUS_DUTY 0).setOvenReady_spec false
    have hshown : ((u.set F.TALLY_OVEN_STATUS_STATE 0).set F.TALLY_OVEN_STATUS_DUTY 0).get F.TALLY_OVEN_STATUS_STATE = 0 :=
      (State.get_set_apart _ 0 0 0 0 0 (by decide)).trans (u.get_set_self F.TALLY_OVEN_STATUS_STATE 0 0 0 (by decide))
    refine ⟨_, heq, ?_, (congrArg OvenView.state hv).trans hshown, ?_, hready, ?_, (congrArg OvenView.mem hv).trans hmem⟩
    · exact (State.bit_of_regsBut hr F.TALLY_OVEN_CTRL_ENABLE 0 0 (by decide)).trans ((State.bit_set_apart _ 0 0 0 0 0 (by decide)).trans
        ((u.bit_set_apart (f := F.TALLY_OVEN_STATUS_STATE) 0 0 0 0 0 (by decide)).trans hen))
    · exact (State.get_of_regsBut hr F.TALLY_OVEN_STATUS_DUTY 0 0 (by decide)).trans (State.get_set_self _ F.TALLY_OVEN_STATUS_DUTY 0 0 0 (by decide))
    · exact regsBut_trans ((hregs.set F.TALLY_OVEN_STATUS_STATE 0 0 0 (by decide)).set F.TALLY_OVEN_STATUS_DUTY 0 0 0 (by decide)) hr (by decide)
        (by decide)
  case starts =>
    intro row n a x l s hrow q hon hproc hwatch hnone
    have heq : execSsmsRun row { start := x, stops := l } n a s = _ := if_neg (by
      rw [show ({ start := x, stops := l, repeats := n, addr := a } : SsmsRun) = q from rfl]
      simp [hon, hproc, hwatch, hnone, hrow])
    refine ⟨_, heq, Store.get?_put_self s.ssms row q, State.bit_setBit _ _ 0 0 (by decide) (by decide), ?_, ?_, ?_, rfl⟩
    · exact (State.bit_setBit_apart _ 0 0 0 0 (by decide)).trans (State.bit_clrBit _ _ 0 0 (by decide))
    · refine (State.get_setBit_apart _ 0 0 0 0 (by decide)).trans ((State.get_set_apart _ 0 0 0 0 0 (by decide)).trans ?_)
      exact (State.get_set_self _ F.TALLY_SSMS_STATUS_ROW row 0 0 (by decide)).trans (Nat.mod_eq_of_lt hrow)
    · refine regsBut.set (regsBut.set (regsBut.set (regsBut.set (regsBut.set (regsBut.set ?_ _ _ _ _ (by decide)) _ _ _ _ (by decide)) _ _ _ _
        (by decide)) _ _ _ _ (by decide)) _ _ _ _ (by decide)) _ _ _ _ (by decide)
      exact regsBut.of_regs (.refl _ s) rfl
  case done =>
    intro r q l s hq hl
    obtain ⟨hmem, hgone, hbusy, hrow, hregs⟩ := s.runWritten_spec r q l
    have heq : exec (.ssmsRunDone r l) s = .next (if (s.runWritten r q l).get F.TALLY_SSMS_STATUS_ROW = r then
        ((s.runWritten r q l).set F.TALLY_SSMS_STATUS_REPEATS q.repeats).setBit F.TALLY_SSMS_STATUS_DONE else s.runWritten r q l) := by
      refine (show exec (.ssmsRunDone r l) s = execSsmsRunDone r l s from rfl).trans ?_
      simp only [execSsmsRunDone, hq]
      exact if_neg (not_not_intro hl)
    generalize s.runWritten r q l = u at hmem hgone hbusy hrow hregs heq
    by_cases hshown : u.get F.TALLY_SSMS_STATUS_ROW = r
    · refine ⟨_, heq.trans (congrArg _ (if_pos hshown)), hmem, hgone,
        (State.bit_setBit_apart _ 0 0 0 0 (by decide)).trans ((State.bit_set_apart _ _ 0 0 0 0 (by decide)).trans hbusy), fun _ => ⟨?_, ?_⟩, ?_⟩
      · exact State.bit_setBit _ _ 0 0 (by decide) (by decide)
      · exact (State.get_setBit_apart _ 0 0 0 0 (by decide)).trans (State.get_set_self _ F.TALLY_SSMS_STATUS_REPEATS _ 0 0 (by decide))
      · exact regsBut.set (hregs.set F.TALLY_SSMS_STATUS_REPEATS _ 0 0 (by decide)) F.TALLY_SSMS_STATUS_DONE 1 0 0 (by decide)
    · exact ⟨_, heq.trans (congrArg _ (if_neg hshown)), hmem, hgone, hbusy, fun h => absurd (hrow.trans h) hshown, hregs⟩

end Sys2Proof.Machine
end

section
/-!
SUPPORT. The hall (O21): what an election and the hall's becoming ready leave unchanged.
-/

namespace Sys2Proof.Machine

/-! ## Steps that keep a view of the state and all registers but some -/

/-- A step keeps a view of the state, and every register outside a list of families. -/
structure Keeps {α : Type} (view : State → α) (l : List RegName) (s t : State) : Prop where
  view : view t = view s
  regs : regsBut l s t

section
variable {α : Type} {view : State → α} {l : List RegName} {s t u : State}

theorem Keeps.refl (view : State → α) (l : List RegName) (s : State) : Keeps view l s s := ⟨rfl, .refl l s⟩

theorem Keeps.trans (h : Keeps view l s t) (h' : Keeps view l t u) : Keeps view l s u := ⟨h'.view.trans h.view, h.regs.trans h'.regs⟩

theorem Keeps.set (h : Keeps view l s t) (f : Fld) (v i j : Nat) (hf : f.reg ∈ l) (hv : view (t.set f v i j) = view t) :
    Keeps view l s (t.set f v i j) := ⟨hv.trans h.view, h.regs.set f v i j hf⟩

theorem Keeps.foldl {β : Type} (f : State → β → State) (hf : ∀ t b, Keeps view l t (f t b)) (bs : List β) (s : State) :
    Keeps view l s (bs.foldl f s) := by
  induction bs generalizing s with
  | nil => exact .refl view l s
  | cons b bs ih => exact (hf s b).trans (ih _)

/-- A step that keeps a view keeps what is seen through it. -/
theorem Keeps.coarser {β : Type} (h : Keeps view l s t) (g : α → β) {m : List RegName} (hl : l ⊆ m) : Keeps (fun s => g (view s)) m s t :=
  ⟨congrArg g h.view, h.regs.mono hl⟩

end

/-! ## The hall's state -/

/-- The registers that the hall's becoming ready can change. -/
def readyRegs : List RegName := [.TALLY_STATUS, .TALLY_SLOTn_COUNT_0, .TALLY_SLOTn_COUNT_1, .TALLY_SLOTn_STATUS, .TALLY_SLOTn_EVENTS,
  .GSL_HALL_STATUS, .TIME_STATUS, .GSL_CORR_0, .GSL_CORR_1, .GSL_CORR_2, .GSL_HALL_EVENTS, .CRIER_STATUS]

/-- What the hall's becoming ready leaves: all but the slots' bookkeeping and the ports' queues; memory; a conflict of IDs. -/
def State.readyView (s : State) : State × Mem × Bool :=
  ({ s.offTally with gsl := [] }, s.mem, s.bit F.GSL_HALL_EVENTS_DEVID_CONFLICT)

theorem State.readyView_set (s : State) {f : Fld} (v i j : Nat) (h : f.apart F.GSL_HALL_EVENTS_DEVID_CONFLICT = true) :
    (s.set f v i j).readyView = s.readyView :=
  congrArg (fun b => (({ s.offTally with gsl := [] } : State), s.mem, b)) (s.bit_set_apart v i j 0 0 h)

theorem Keeps.setReady {s t : State} (h : Keeps State.readyView readyRegs s t) (f : Fld) (v : Nat) (hf : f.reg ∈ readyRegs)
    (ha : f.apart F.GSL_HALL_EVENTS_DEVID_CONFLICT = true) : Keeps State.readyView readyRegs s (t.set f v) :=
  h.set f v 0 0 hf (t.readyView_set v 0 0 ha)

theorem State.refreshWarm_keeps (s : State) : Keeps State.readyView readyRegs s s.refreshWarm := by
  unfold State.refreshWarm
  extract_lets oven b v
  split
  · exact .refl _ _ s
  · have h := s.catchUpAll_step s.fr
    have hc : Keeps State.readyView readyRegs s (s.catchUpAll s.fr) := by
      refine ⟨?_, h.regs.mono (by decide)⟩
      have hoff : ({ (s.catchUpAll s.fr).offTally with gsl := [] } : State) = { s.offTally with gsl := [] } :=
        congrArg (fun o : State => { o with gsl := [] }) h.off
      exact Prod.ext hoff (Prod.ext h.mem (State.bit_of_regsBut h.regs F.GSL_HALL_EVENTS_DEVID_CONFLICT 0 0 (by decide)))
    have hv : Keeps State.readyView readyRegs s v := hc.setReady F.TALLY_STATUS_WARM _ (by decide) (by decide)
    exact ⟨hv.view, regsBut.of_regs hv.regs rfl⟩

theorem State.refreshHall_keeps (s : State) : Keeps State.readyView readyRegs s s.refreshHall := by
  unfold State.refreshHall
  extract_lets ready u
  have hu : Keeps State.readyView readyRegs s u :=
    ((Keeps.refl _ _ s).setReady F.GSL_HALL_STATUS_JOINT_OK _ (by decide) (by decide)).trans (State.refreshWarm_keeps _)
  split
  · exact hu.setReady F.TIME_STATUS_COARSE _ (by decide) (by decide)
  · exact hu

theorem State.setHallState_keeps (s : State) (v : Nat) : Keeps State.readyView readyRegs s (s.setHallState v) :=
  ((Keeps.refl _ _ s).setReady F.GSL_HALL_STATUS_STATE v (by decide) (by decide)).trans (State.refreshHall_keeps _)

theorem State.wr80_regsBut {l : List RegName} {s t : State} (h : regsBut l s t) (a b c : RegName) (i v : Nat) (ha : a ∈ l) (hb : b ∈ l) (hc : c ∈ l) :
    regsBut l s (t.wr80 a b c i v) := by
  unfold State.wr80
  exact ((h.wr ⟨a, i, 0⟩ _ ha).wr ⟨b, i, 0⟩ _ hb).wr ⟨c, i, 0⟩ _ hc

theorem State.refreshCorr_keeps (s : State) : Keeps State.readyView readyRegs s s.refreshCorr := by
  unfold State.refreshCorr
  extract_lets c
  split
  · exact .refl _ _ s
  · have h1 := State.wr80_regsBut (regsBut.refl readyRegs s) .GSL_CORR_0 .GSL_CORR_1 .GSL_CORR_2 0 (unsigned c 80) (by decide) (by decide) (by decide)
    have hc : Keeps State.readyView readyRegs s (s.wr80 .GSL_CORR_0 .GSL_CORR_1 .GSL_CORR_2 0 (unsigned c 80)) :=
      ⟨congrArg (fun b => (({ s.offTally with gsl := [] } : State), s.mem, b))
        (congrArg (F.GSL_HALL_EVENTS_DEVID_CONFLICT.get · == 1) (s.rd_wr80_of_ne _ _ _ 0 _ _ (by decide) (by decide) (by decide))), h1⟩
    exact hc.setReady F.TIME_STATUS_GEN _ (by decide) (by decide)

theorem State.checkLat_keeps (s : State) : Keeps State.readyView readyRegs s s.checkLat :=
  (Keeps.refl _ _ s).setReady F.CRIER_STATUS_LAT_SHORT _ (by decide) (by decide)

theorem State.rerouted_keeps (s : State) : Keeps State.readyView readyRegs s s.rerouted := by
  unfold State.rerouted
  split
  · exact s.refreshCorr_keeps.trans (State.checkLat_keeps _)
  · exact .refl _ _ s

/-- A message that is sent changes the queues of the ports alone. -/
theorem State.sendMsg_frame (s : State) (mtype dst data arg : Nat) :
    s.sendMsg mtype dst data arg = { s with gsl := (s.sendMsg mtype dst data arg).gsl } := by
  have henq : ∀ (u : State) (role : Nat) (m : GslMsg), u.enqueueMsg role m = { u with gsl := (u.enqueueMsg role m).gsl } := fun u role m => by
    unfold State.enqueueMsg; split <;> rfl
  unfold State.sendMsg
  extract_lets m
  split
  · rw [henq, henq s]
  · exact henq s _ m

theorem State.sendMsg_keeps (s : State) (mtype dst data arg : Nat) : Keeps State.readyView readyRegs s (s.sendMsg mtype dst data arg) := by
  rw [State.sendMsg_frame]
  exact ⟨rfl, fun _ _ => rfl⟩

theorem State.sendCrierCfg_keeps (s : State) (c : CrierCfg) : Keeps State.readyView readyRegs s (s.sendCrierCfg c) := s.sendMsg_keeps _ _ _ _

theorem State.tryReady_keeps (s : State) : Keeps State.readyView readyRegs s s.tryReady := by
  unfold State.tryReady
  extract_lets master u
  have hu : Keeps State.readyView readyRegs s u := by
    dsimp only [u]; split
    · exact s.sendCrierCfg_keeps _
    · exact .refl _ _ s
  split
  · exact (((hu.trans u.refreshCorr_keeps).trans (State.setHallState_keeps _ 3)).setReady F.GSL_HALL_EVENTS_HALL_READY 1 (by decide) (by decide)).trans
      (State.checkLat_keeps _)
  · exact .refl _ _ s

/-! ## An election -/

/-- The registers that an election can change. -/
def electRegs : List RegName := readyRegs

/-- What an election leaves: all that the hall's becoming ready leaves but the members, the lines' levels and who waits for them. -/
def electOf (v : State × Mem × Bool) : State × Mem × Bool :=
  ({ v.1 with crier := [], crierWait := [], events := [], seqs := [], members := [], masterOven := false, hallCfg := false }, v.2)

def State.electView (s : State) : State × Mem × Bool := electOf s.readyView

theorem Keeps.elect {s t : State} (h : Keeps State.readyView readyRegs s t) : Keeps State.electView readyRegs s t :=
  ⟨congrArg electOf h.view, h.regs⟩

theorem Keeps.setElect {s t : State} (h : Keeps State.electView readyRegs s t) (f : Fld) (v : Nat) (hf : f.reg ∈ readyRegs)
    (ha : f.apart F.GSL_HALL_EVENTS_DEVID_CONFLICT = true) : Keeps State.electView readyRegs s (t.set f v) :=
  h.set f v 0 0 hf (congrArg electOf (t.readyView_set v 0 0 ha))

theorem State.crierTakes_keeps (s : State) (l : Nat) (level : Bool) (t : Tu) : Keeps State.electView readyRegs s (s.crierTakes l level t) := by
  unfold State.crierTakes
  extract_lets u bits
  have hu : Keeps State.electView readyRegs s u := ⟨rfl, fun _ _ => rfl⟩
  have hset := hu.setElect F.CRIER_STATUS_LEVEL (ofSet bits 8) (by decide) (by decide)
  exact ⟨hset.view, regsBut.of_regs hset.regs rfl⟩

theorem State.dropLines_keeps (s : State) : Keeps State.electView readyRegs s s.dropLines :=
  Keeps.foldl _ (fun u l => by
    have hu : Keeps State.electView readyRegs u { u with crierWait := u.crierWait.filter (·.line != l) } := ⟨rfl, fun _ _ => rfl⟩
    extract_lets v
    split
    · exact hu.trans (State.crierTakes_keeps _ _ _ _)
    · exact hu) _ s

theorem State.tryElect_keeps (s : State) : Keeps State.electView readyRegs s s.tryElect := by
  unfold State.tryElect
  extract_lets st devs u n
  have h0 : Keeps State.electView readyRegs s { s with members := devs.map fun (p : Nat × Peer) => p.1 } := ⟨rfl, fun _ _ => rfl⟩
  have hu : Keeps State.electView readyRegs s u := h0.trans (State.dropLines_keeps _)
  clear_value u
  split
  · exact .refl _ _ s
  · split
    · exact ((hu.setElect F.GSL_HALL_EVENTS_NO_MASTER 1 (by decide) (by decide)).setElect F.TIME_STATUS_MEMBER 0 (by decide) (by decide)).trans
        (State.setHallState_keeps _ 5).elect
    · next m p _ =>
      extract_lets me changed u1 u2 u3
      have h1 : Keeps State.electView readyRegs s u1 := by
        dsimp only [u1]; split
        · exact hu.setElect F.GSL_HALL_EVENTS_MASTER_CHANGE 1 (by decide) (by decide)
        · exact hu
      clear_value u1
      have h2 : Keeps State.electView readyRegs s u2 := ((h1.setElect F.GSL_HALL_STATUS_SIZE n (by decide) (by decide)).setElect
        F.GSL_HALL_STATUS_MASTER_POS m (by decide) (by decide)).setElect F.GSL_HALL_STATUS_IS_MASTER _ (by decide) (by decide)
      clear_value u2
      have h3 : Keeps State.electView readyRegs s u3 := (h2.setElect F.GSL_HALL_STATUS_REF_FOREIGN _ (by decide) (by decide)).setElect
        F.TIME_STATUS_MEMBER _ (by decide) (by decide)
      clear_value u3
      have h4 : Keeps State.electView readyRegs s { u3 with masterOven := p.oven, hallCfg := false } := ⟨h3.view, regsBut.of_regs h3.regs rfl⟩
      exact (h4.trans (State.setHallState_keeps _ 2).elect).trans (State.tryReady_keeps _).elect

/-- An election begins: only what it sets itself, and what `State.tryElect` can change, changes. -/
theorem State.startElection_keeps (s : State) (st : Nat) :
    Keeps (fun s => { s.electView.1 with peers := [], electAt := 0 }) readyRegs s (s.startElection st) := by
  unfold State.startElection
  extract_lets u
  have hu : Keeps (fun s => { s.electView.1 with peers := [], electAt := 0 }) readyRegs s u := ⟨rfl, fun _ _ => rfl⟩
  have h := (((u.setHallState_keeps st).trans (State.sendMsg_keeps _ Msg.advert 0x3F u.advertData u.advertArg)).elect.trans (State.tryElect_keeps _))
  exact hu.trans ⟨congrArg (fun v : State × Mem × Bool => { v.1 with peers := [], electAt := 0 }) h.view, h.regs⟩

/-! ## Messages -/

theorem State.onMsg_eq {s r : State} {mtype p : Nat} {m : GslMsg} (h : s.takeMsg mtype = some (p, m, r)) (f : State → Nat → GslMsg → State) :
    s.onMsg mtype f = f r p m := by
  rw [State.onMsg, h]

theorem State.onMsg_nil {s : State} (h : s.gslIn = []) (mtype : Nat) (f : State → Nat → GslMsg → State) : s.onMsg mtype f = s := by
  rw [State.onMsg, State.takeMsg, h]
  rfl

/-- What the record of an ADVERT leaves behind it: this device's ID and the conflict found so far, and the record itself. -/
def State.adverted (s : State) (id : Nat) (m : GslMsg) : State :=
  let s := if s.newElection m then s.startElection 1 else s
  let s := { s with peers := Store.put s.peers m.src { id, serial := m.data, candidate := bitOf m.arg 0, oven := bitOf m.arg 1 } }
  if (s.get F.GSL_HALL_STATUS_STATE = 2 ∨ s.get F.GSL_HALL_STATUS_STATE = 3) ∧ m.src = s.get F.GSL_HALL_STATUS_MASTER_POS then
    { s with masterOven := bitOf m.arg 1 } else s

theorem State.adverted_spec (s : State) (id : Nat) (m : GslMsg) :
    (s.adverted id m).peers = Store.put (if s.newElection m then s.startElection 1 else s).peers m.src
        { id, serial := m.data, candidate := bitOf m.arg 0, oven := bitOf m.arg 1 } ∧
      (s.adverted id m).idConflict = s.idConflict ∧ (s.adverted id m).devId = s.devId := by
  unfold State.adverted
  extract_lets u v
  have hu : u.idConflict = s.idConflict ∧ u.devId = s.devId := by
    dsimp only [u]; split
    · have h := s.startElection_keeps 1
      exact ⟨(congrArg State.idConflict h.view :), State.get_of_regsBut h.regs F.GSL_DEVID_DEVID 0 0 (by decide)⟩
    · exact ⟨rfl, rfl⟩
  split
  · exact ⟨rfl, hu⟩
  · exact ⟨rfl, hu⟩

theorem Store.mem_put_self {κ α : Type} [DecidableEq κ] (m : Store κ α) (k : κ) (v : α) : (k, v) ∈ Store.put m k v := by
  induction m with
  | nil => exact List.mem_singleton_self _
  | cons e m ih =>
    unfold Store.put
    split
    · exact List.mem_cons_self
    · exact List.mem_cons_of_mem _ ih

theorem Store.mem_put {κ α : Type} [DecidableEq κ] {m : Store κ α} {k : κ} {v : α} {e : κ × α} (h : e ∈ Store.put m k v) :
    e ∈ m ∨ e = (k, v) := by
  induction m with
  | nil => exact .inr (List.mem_singleton.mp h)
  | cons d m ih =>
    unfold Store.put at h
    split at h
    · rcases List.mem_cons.mp h with h | h
      · exact .inr h
      · exact .inl (List.mem_cons_of_mem _ h)
    · rcases List.mem_cons.mp h with h | h
      · exact .inl (h ▸ List.mem_cons_self)
      · exact (ih h).imp_left (List.mem_cons_of_mem _)

theorem execAdvert_eq {s r : State} {p id : Nat} {m : GslMsg} (h : s.takeMsg Msg.advert = some (p, m, r)) :
    execAdvert id s = .next (r.adverted id m).checkIds.refreshHall.tryElect := by
  rw [execAdvert, State.onMsg_eq h]
  rfl

theorem State.hallSettled_keeps (s : State) : Keeps State.electView readyRegs s s.refreshHall.tryElect :=
  s.refreshHall_keeps.elect.trans (State.tryElect_keeps _)

/-- Settles O21: a row acts on the oldest message of its type (`State.onMsg_eq`); an election leaves the peers and a conflict of IDs. -/
theorem messagesOfAHall : Obligations.MessagesOfAHall := by
  unfold Obligations.MessagesOfAHall
  refine ⟨?none, ?probe, ?reply, ?noProbe, ?advert, ?conflict, ?firstHalf, ?secondHalf, ?noHalf, ?crierCfg, ?linkDown, ?otherLink⟩
  case none =>
    intro a b s h
    exact ⟨congrArg _ (State.onMsg_nil h _ _), congrArg _ (State.onMsg_nil h _ _), congrArg _ (State.onMsg_nil h _ _),
      congrArg _ (State.onMsg_nil h _ _), congrArg _ (State.onMsg_nil h _ _), congrArg _ (State.onMsg_nil h _ _), congrArg _ (State.onMsg_nil h _ _),
      congrArg _ (State.onMsg_nil h _ _), congrArg _ (State.onMsg_nil h _ _), congrArg _ (State.onMsg_nil h _ _), congrArg _ (State.onMsg_nil h _ _),
      congrArg _ (State.onMsg_nil h _ _), congrArg _ (State.onMsg_nil h _ _)⟩
  case probe => exact fun p m r s h => congrArg _ (State.onMsg_eq h _)
  case reply =>
    intro t1 t2 l p m r s h hp hst
    refine congrArg Host.Outcome.next ((State.onMsg_eq h _).trans ?_)
    simp only [hp]
    exact if_pos hst
  case noProbe =>
    intro t2 p m r s h hp
    refine congrArg Host.Outcome.next ((State.onMsg_eq h _).trans ?_)
    simp only [hp]
  case advert =>
    intro id p m r s h u hpeers hid
    obtain ⟨hput, hconf, hdev⟩ := r.adverted_spec id m
    have hfree : (r.adverted id m).checkIds = r.adverted id m := by
      refine if_neg fun hany => ?_
      obtain ⟨e, he, hid'⟩ := List.any_eq_true.mp hany
      rw [hput] at he
      rw [hdev, beq_iff_eq] at hid'
      rcases Store.mem_put he with he | rfl
      · exact hpeers e he hid'
      · exact hid hid'
    have hk := (r.adverted id m).hallSettled_keeps
    refine ⟨_, (execAdvert_eq h).trans (by rw [hfree]), ?_, ?_⟩
    · exact (congrArg (fun v : State × Mem × Bool => v.1.peers) hk.view :).trans hput
    · exact (congrArg (fun v : State × Mem × Bool => v.1.idConflict) hk.view :).trans hconf
  case conflict =>
    intro p m r s h
    obtain ⟨hput, hconf, hdev⟩ := r.adverted_spec r.devId m
    have hany : ((r.adverted r.devId m).peers.any fun p => p.2.id == (r.adverted r.devId m).devId) = true := by
      rw [hput, hdev]
      exact List.any_eq_true.mpr ⟨_, Store.mem_put_self _ _ _, beq_self_eq_true _⟩
    have heq := (execAdvert_eq h (id := r.devId)).trans (by rw [State.checkIds, if_pos hany])
    generalize (r.adverted r.devId m) = u at heq
    have hk := (Keeps.elect (State.refreshHall_keeps _)).trans ({ u.setBit F.GSL_HALL_EVENTS_DEVID_CONFLICT with idConflict := true } : State).refreshHall.hallSettled_keeps
    refine ⟨_, heq, (congrArg (fun v : State × Mem × Bool => v.1.idConflict) hk.view :), ?_⟩
    exact (congrArg (fun v : State × Mem × Bool => v.2.2) hk.view :).trans (u.bit_setBit F.GSL_HALL_EVENTS_DEVID_CONFLICT 0 0 (by decide) (by decide))
  case firstHalf =>
    intro p m r s h ha
    exact congrArg Host.Outcome.next ((State.onMsg_eq h _).trans (if_pos ha))
  case secondHalf =>
    intro lo p m r s h ha hlo
    refine congrArg Host.Outcome.next ((State.onMsg_eq h _).trans ((if_neg ha).trans ?_))
    simp only [hlo]
  case noHalf =>
    intro p m r s h ha hlo
    refine congrArg Host.Outcome.next ((State.onMsg_eq h _).trans ((if_neg ha).trans ?_))
    simp only [hlo]
  case crierCfg =>
    intro commit p m r s h
    refine ⟨_, congrArg Host.Outcome.next (State.onMsg_eq h _), rfl, rfl, ?_⟩
    exact regsBut.set (regsBut.of_regs (.refl _ r) rfl) F.CRIER_STATUS_LAT_SHORT _ 0 0 (by decide)
  case linkDown =>
    intro p m r s h hb hl
    refine congrArg Host.Outcome.next ((State.onMsg_eq h _).trans (if_neg ?_))
    simp [hb, hl]
  case otherLink =>
    intro p m r s h hb
    exact congrArg Host.Outcome.next ((State.onMsg_eq h _).trans (if_pos hb))

end Sys2Proof.Machine
end

section
/-!
SUPPORT. The exchange of a joint burst (O22): a message for a joint burst that this device knows, and the part that it names.
-/

namespace Sys2Proof.Machine

section
variable {s r : State} {p k : Nat} {m : GslMsg} {j : Joint} {w : Work}

theorem execJointVote_preparing (h : s.takeMsg Msg.vote = some (p, m, r)) (hj : r.joint m.data = some j) (hw : r.jointWork j = some (k, w))
    (hp : j.phase = .preparing) : execJointVote s = .next
      (if j.timer.any fun t => decide (t ≤ m.at_) then r.abortJoint k w 0x133
       else if m.arg ≠ 0 then r.abortJoint k w m.arg
       else match w.participants[j.prepared]? with
          | some id => (r.setJoint m.data { j with prepared := j.prepared + 1 }).sendMsg Msg.prepare (r.posOf id) m.data 0
          | none =>
            if r.fr + 204800000 ≤ w.s0 then
              ((r.setJoint m.data { j with phase := .admitted, timer := none }).sendParts w Msg.commit 0).admitOrder k
            else r.abortJoint k w 0x132) := by
  refine congrArg Host.Outcome.next ((State.onMsg_eq h _).trans ?_)
  simp only [hj, hw]
  exact if_neg (not_not_intro hp)

/-- A vote that comes before the timer's expiry. -/
theorem inTime_of_before (h : ∀ t, j.timer = some t → m.at_ < t) : ¬ (j.timer.any fun t => decide (t ≤ m.at_)) = true := by
  cases ht : j.timer with
  | none => simp
  | some t => simp [h t ht]

theorem execJointAbort_part (h : s.takeMsg Msg.abort = some (p, m, r)) (hj : r.joint m.data = some j) (hw : r.jointWork j = some (k, w)) :
    execJointAbort s = .next (if j.phase = .admitted then r.jointVoid k 0x233 else r.refusePart k m.arg) := by
  refine congrArg Host.Outcome.next ((State.onMsg_eq h _).trans ?_)
  simp only [hj, hw]

theorem execJointDone_admitted (h : s.takeMsg Msg.done = some (p, m, r)) (hj : r.joint m.data = some j) (hw : r.jointWork j = some (k, w))
    (hp : j.phase = .admitted) (hd : m.src ∉ j.dones) : execJointDone s = .next
      ((r.setJoint m.data { j with dones := j.dones ++ [m.src] }).releaseJoint k w { j with dones := j.dones ++ [m.src] }) := by
  refine congrArg Host.Outcome.next ((State.onMsg_eq h _).trans ?_)
  simp only [hj, hw]
  exact if_neg (by simp [hp, hd])

theorem execJointAdmissionTimeout_part {x t : Nat} (hj : s.joint x = some j) (hw : s.jointWork j = some (k, w)) (ht : j.timer = some t) :
    execJointAdmissionTimeout x s = if j.phase = .preparing then .next ((s.advanceTo t).abortJoint k w 0x133)
      else if j.phase = .held then .next ((s.advanceTo t).refusePart k 0x133) else .next (s.advanceTo t) := by
  simp only [execJointAdmissionTimeout, hj, hw, ht]

end

/-- Settles O22: each message acts on the part that it names, each timer on the part whose timer runs. -/
theorem jointBurstsInAHall : Obligations.JointBurstsInAHall := by
  unfold Obligations.JointBurstsInAHall
  refine ⟨?held, ?offers, ?no, ?yes, ?last, ?tooShort, ?tooLate, ?commit, ?refuses, ?voids, ?drops, ?counts, ?lastDone, ?release, ?notice, ?waitOver,
    ?heldOver, ?votesOver⟩
  case held =>
    intro p m r s h hj
    refine congrArg Host.Outcome.next ((State.onMsg_eq h _).trans ?_)
    simp only [hj]
  case offers =>
    intro p k m j w r s h hj hw hp
    refine congrArg Host.Outcome.next ((State.onMsg_eq h _).trans ?_)
    simp only [hj, hw]
    exact if_neg (not_not_intro hp)
  case no =>
    intro p k m j w r s h hj hw hp ht ha
    exact (execJointVote_preparing h hj hw hp).trans (congrArg _ ((if_neg (inTime_of_before ht)).trans (if_pos ha)))
  case yes =>
    intro id p k m j w r s h hj hw hp ht ha hid
    refine (execJointVote_preparing h hj hw hp).trans (congrArg _ ((if_neg (inTime_of_before ht)).trans ((if_neg (not_not_intro ha)).trans ?_)))
    simp only [hid]
  case last =>
    intro p k m j w r s h hj hw hp ht ha hnone hs
    refine (execJointVote_preparing h hj hw hp).trans (congrArg _ ((if_neg (inTime_of_before ht)).trans ((if_neg (not_not_intro ha)).trans ?_)))
    simp only [hnone]
    exact if_pos hs
  case tooShort =>
    intro p k m j w r s h hj hw hp ht ha hnone hs
    refine (execJointVote_preparing h hj hw hp).trans (congrArg _ ((if_neg (inTime_of_before ht)).trans ((if_neg (not_not_intro ha)).trans ?_)))
    simp only [hnone]
    exact if_neg (Nat.not_le.mpr hs)
  case tooLate =>
    intro t p k m j w r s h hj hw hp ht hle
    exact (execJointVote_preparing h hj hw hp).trans (congrArg _ (if_pos (by simp [ht, hle])))
  case commit =>
    intro p k m j w r s h hj hw hp
    refine congrArg Host.Outcome.next ((State.onMsg_eq h _).trans ?_)
    simp only [hj, hw]
    exact if_pos hp
  case refuses =>
    intro p k m j w r s h hj hw hp
    exact (execJointAbort_part h hj hw).trans (congrArg _ (if_neg hp))
  case voids =>
    intro p k m j w r s h hj hw hp
    exact (execJointAbort_part h hj hw).trans (congrArg _ (if_pos hp))
  case drops =>
    intro p m j r s h hj hw
    refine congrArg Host.Outcome.next ((State.onMsg_eq h _).trans ?_)
    simp only [hj, hw]
  case counts =>
    intro p k m j w r s h hj hw hp hd hlast
    exact (execJointDone_admitted h hj hw hp hd).trans (congrArg _ (if_neg (by simpa using hlast)))
  case lastDone =>
    intro p k m j w r s h hj hw hp hd hsent hlast
    exact (execJointDone_admitted h hj hw hp hd).trans (congrArg _ (if_pos (by simp [hsent, hlast])))
  case release =>
    intro p k m j w r s h hj hw hd
    refine congrArg Host.Outcome.next ((State.onMsg_eq h _).trans ?_)
    simp only [hj, hw]
    exact if_pos hd
  case notice =>
    intro p k m j w r s h hj hw
    refine congrArg Host.Outcome.next ((State.onMsg_eq h _).trans ?_)
    simp only [hj, hw]
  case waitOver =>
    intro x t j s hj hp ht u
    obtain ⟨phase, work, prep, timer, prepared, dones, doneSent⟩ := j
    obtain rfl : phase = .awaiting := hp
    obtain rfl : timer = some t := ht
    refine (show exec (.jointWaitTimeout x) s = execJointWaitTimeout x s from rfl).trans ?_
    simp only [execJointWaitTimeout, hj, u]
    cases prep with
    | none => cases work <;> rfl
    | some p => cases work <;> rfl
  case heldOver =>
    intro x t k j w s hj hw ht hp
    refine (execJointAdmissionTimeout_part hj hw ht).trans ((if_neg (by rw [hp]; decide)).trans (if_pos hp))
  case votesOver =>
    intro x t k j w s hj hw ht hp
    exact (execJointAdmissionTimeout_part hj hw ht).trans (if_pos hp)

end Sys2Proof.Machine
end

section
/-!
SUPPORT. Links and frames of a hall (O23): what the voiding of an order leaves unchanged, and what the loss of a link does.
-/

namespace Sys2Proof.Machine

theorem Keeps.ite {α : Type} {view : State → α} {l : List RegName} {s a b : State} {c : Prop} [Decidable c] (ha : Keeps view l s a)
    (hb : Keeps view l s b) : Keeps view l s (if c then a else b) := by
  split
  · exact ha
  · exact hb

theorem Keeps.ready_works {s t : State} (h : Keeps State.readyView readyRegs s t) : t.works = s.works :=
  (congrArg (fun v : State × Mem × Bool => v.1.works) h.view :)

theorem Keeps.ready_mem {s t : State} (h : Keeps State.readyView readyRegs s t) : t.mem = s.mem :=
  (congrArg (fun v : State × Mem × Bool => v.2.1) h.view :)

/-! ## The voiding of an order -/

/-- The registers that the voiding of an order can change. -/
def voidRegs : List RegName := [.ADC_EVENTS, .ADC_STATUS, .CAL_STATUS, .TALLY_STATUS, .TALLY_SSMS_STATUS, .LEDG_FREE, .CHn_STATUS]

/-- What the voiding of an order leaves: all but registers, orders, receipts, sequencers, watches, segments, converters, channels, the calibration
run, single-start runs, free values, memory and regions. -/
def State.voidView (s : State) : State :=
  { s with regs := [], works := [], receipts := [], raiseNo := 0, seqs := [], watches := [], segs := [], adcs := [], chans := [], calRun := none,
           ssms := [], free := 0, mem := [], regions := [] }

/-- A step of the voiding of an order. -/
abbrev VoidStep (s t : State) : Prop := Keeps State.voidView voidRegs s t

/-- A step that changes no register and only what the view leaves out. -/
theorem VoidStep.of_frame {s t : State} (hv : t.voidView = s.voidView) (hr : t.regs = s.regs) : VoidStep s t := ⟨hv, regsBut.of_regs (.refl _ s) hr⟩

theorem VoidStep.set' (s : State) (f : Fld) (v i : Nat) (hf : f.reg ∈ voidRegs) : VoidStep s (s.set f v i) := (Keeps.refl _ _ s).set f v i 0 hf rfl

theorem State.modWork_void (s : State) (k : Nat) (f : Work → Work) : VoidStep s (s.modWork k f) := by
  rw [s.modWork_frame k f]
  exact VoidStep.of_frame rfl rfl

theorem State.finalReceipt_void (s : State) (k status cause : Nat) (detail : Bytes) : VoidStep s (s.finalReceipt k status cause detail) :=
  (VoidStep.of_frame (s := s) (t := s.raiseReceipt { work := k, status, final := true, cause, detail }) rfl rfl).trans (State.modWork_void _ k _)

theorem State.dropComplete_void (s : State) (k : Nat) : VoidStep s (s.dropComplete k) := VoidStep.of_frame rfl rfl

theorem State.abandonFill_void (s : State) (w : Work) : VoidStep s (s.abandonFill w) :=
  Keeps.foldl _ (fun t n => VoidStep.of_frame (t := t.setSeg n { t.seg n with filling := false, valid := false }) rfl rfl) _ s

theorem State.closeWatchBy_void (s : State) (k : Nat) (t : Tu) : VoidStep s (s.closeWatchBy k t) := by
  unfold State.closeWatchBy
  split
  · exact .refl _ _ s
  · exact VoidStep.of_frame rfl rfl

theorem State.writeStreamHeader_void (s : State) (k : Nat) (w : Work) (status : Nat) : VoidStep s (s.writeStreamHeader k w status) := by
  refine VoidStep.of_frame ?_ (s.writeStreamHeader_off k w status).2.1
  simp only [State.voidView, State.writeStreamHeader]

theorem State.voidWatch_void (s : State) (k : Nat) : VoidStep s (s.voidWatch k) := by
  unfold State.voidWatch
  split
  · split
    · exact .refl _ _ s
    · extract_lets u
      have hu : VoidStep s u := VoidStep.of_frame rfl rfl
      split
      · exact hu.trans (State.writeStreamHeader_void _ _ _ _)
      · exact hu
  · exact .refl _ _ s

theorem State.endWatch_void (s : State) (k : Nat) (w : Work) : VoidStep s (s.endWatch k w) := by
  unfold State.endWatch
  extract_lets wt u
  have hu : VoidStep s u := s.modWork_void _ _
  split
  · exact .refl _ _ s
  · split
    · exact hu.trans (State.finalReceipt_void _ _ _ _ _)
    · exact hu.trans (State.finalReceipt_void _ _ _ _ _)

theorem State.adcEnd_void (s : State) (k : Nat) : VoidStep s (s.adcEnd k) := by
  unfold State.adcEnd
  split
  · split
    · split
      · exact s.finalReceipt_void _ _ _ _
      · split
        · exact s.finalReceipt_void _ _ _ _
        · exact .refl _ _ s
    · exact .refl _ _ s
  · exact .refl _ _ s

theorem State.adcStop_void (s : State) (k : Nat) : VoidStep s (s.adcStop k) :=
  (VoidStep.of_frame (s := s) (t := s.adcDrop k) rfl rfl).trans (State.adcEnd_void _ k)

theorem State.queueStalled_void (s : State) (k r : Nat) : VoidStep s (s.queueStalled k r) := by
  unfold State.queueStalled
  extract_lets u
  have hu : VoidStep s u := (VoidStep.set' s F.ADC_EVENTS_QUEUE_STALLED 1 0 (by decide)).trans (VoidStep.set' _ F.ADC_STATUS_STALLED _ 0 (by decide))
  exact (hu.trans (State.modWork_void _ _ _)).trans (State.adcStop_void _ _)

theorem State.adcTry_void (s : State) (c : Nat) : VoidStep s (s.adcTry c) := by
  have hset : ∀ a, VoidStep s (s.setAdc c a) := fun _ => VoidStep.of_frame rfl rfl
  have hbegin : ∀ r, VoidStep s (s.adcBegin c r) := fun _ => VoidStep.of_frame rfl rfl
  unfold State.adcTry
  extract_lets a
  split
  · exact .refl _ _ s
  · split
    · exact hbegin _
    · split
      · exact .refl _ _ s
      · split
        · exact hset _
        · split
          · exact hset _
          · split
            · exact hset _
            · extract_lets e
              split
              · exact .refl _ _ s
              · split
                · exact s.queueStalled_void _ _
                · exact hbegin _

theorem State.adcKickN_void (n : Nat) (s : State) : VoidStep s (State.adcKickN n s) := by
  induction n generalizing s with
  | zero => exact .refl _ _ s
  | succ n ih =>
    have ht : VoidStep s ((Store.keys s.adcs).foldl (fun (t : State) c => t.adcTry c) s) := Keeps.foldl _ (fun t c => t.adcTry_void c) _ s
    unfold State.adcKickN
    extract_lets t
    split
    · exact ht
    · exact ht.trans (ih _)

theorem State.requestRamp_void (s : State) (c : Nat) : VoidStep s (s.requestRamp c) := by
  unfold State.requestRamp
  extract_lets ch
  have hu : ∀ v, VoidStep s (s.setChan c v) := fun _ => VoidStep.of_frame rfl rfl
  exact (hu _).trans (VoidStep.set' _ F.CHn_STATUS_HALTED 0 c (by decide))

theorem State.calBusOff_void (s : State) (rows : List Nat) : VoidStep s (s.calBusOff rows) :=
  Keeps.foldl _ (fun t c => by
    split
    · exact (VoidStep.of_frame (s := t) (t := t.setChan c { t.chan c with onCalBus := false }) rfl rfl).trans (State.requestRamp_void _ c)
    · exact .refl _ _ t) _ s

theorem State.ssmsStop_void (s : State) (rows : List Nat) : VoidStep s (s.ssmsStop rows) := by
  unfold State.ssmsStop
  extract_lets u v
  have hu : VoidStep s u := VoidStep.of_frame rfl rfl
  exact (hu.trans (VoidStep.set' _ F.TALLY_STATUS_SSMS_BUSY _ 0 (by decide))).trans (VoidStep.set' _ F.TALLY_SSMS_STATUS_BUSY _ 0 (by decide))

theorem State.calDone_void (s : State) (k : Nat) : VoidStep s (s.calDone k) := by
  unfold State.calDone
  split
  · split
    · exact (VoidStep.set' s F.CAL_STATUS_BUSY 0 0 (by decide)).trans (VoidStep.of_frame rfl rfl)
    · exact .refl _ _ s
  · exact .refl _ _ s

theorem State.releaseRecord_void (s : State) : VoidStep s s.releaseRecord :=
  (VoidStep.set' s F.LEDG_FREE_RESERVED _ 0 (by decide)).trans (VoidStep.set' _ F.LEDG_FREE_FREE _ 0 (by decide))

theorem State.calAbort_void (s : State) (k : Nat) (w : Work) : VoidStep s (s.calAbort k w) := by
  unfold State.calAbort
  extract_lets u
  have hu : VoidStep s u := by
    dsimp only [u]
    split
    · split
      · exact (s.calBusOff_void _).trans (State.ssmsStop_void _ _)
      · exact .refl _ _ s
    · exact .refl _ _ s
  split
  · exact .refl _ _ s
  · split
    · exact hu.trans (State.calDone_void _ _)
    · exact (hu.trans u.releaseRecord_void).trans (State.calDone_void _ _)

theorem State.voidWork_void (s : State) (k cause : Nat) : VoidStep s (s.voidWork k cause) := by
  unfold State.voidWork
  split
  · exact .refl _ _ s
  · next w _ =>
    refine .ite (.refl _ _ s) (.ite (.refl _ _ s) ?_)
    extract_lets u op q u1
    have hu : VoidStep s u := (s.dropComplete_void k).trans (State.modWork_void _ k _)
    have hfinal : ∀ status cause detail, VoidStep s (u.finalReceipt k status cause detail) := fun _ _ _ => hu.trans (u.finalReceipt_void _ _ _ _)
    have hmod : ∀ f, VoidStep s (u.modWork k f) := fun f => hu.trans (u.modWork_void k f)
    have h1 : VoidStep s u1 := ((hmod _).trans (State.closeWatchBy_void _ _ _)).trans (State.voidWatch_void _ _)
    clear_value u1
    refine .ite (.ite (hu.trans (VoidStep.of_frame rfl rfl)) ((hmod _).trans (State.voidWatch_void _ _))) (.ite ?watch ?rest)
    case watch =>
      split
      · exact h1.trans (State.endWatch_void _ _ _)
      · exact h1
    case rest =>
      have hfill : ∀ status cause detail, VoidStep s ((u.abandonFill w).finalReceipt k status cause detail) := fun _ _ _ =>
        (hu.trans (u.abandonFill_void w)).trans (State.finalReceipt_void _ _ _ _ _)
      have hadc : VoidStep s (u.adcStop k).adcKick := (hu.trans (u.adcStop_void k)).trans (State.adcKickN_void _ _)
      have hcal : ∀ status cause, VoidStep s ((u.calAbort k w).finalReceipt k status cause) := fun _ _ =>
        (hu.trans (u.calAbort_void k w)).trans (State.finalReceipt_void _ _ _ _ _)
      have hfree : ∀ f status cause detail, VoidStep s ((u.useFree.modWork k f).finalReceipt k status cause detail) := fun _ _ _ _ =>
        ((hu.trans (VoidStep.of_frame (s := u) (t := u.useFree) rfl rfl)).trans (State.modWork_void _ k _)).trans
          (State.finalReceipt_void _ _ _ _ _)
      clear_value u
      exact .ite (hfill _ _ _) (.ite (.ite (hmod _) (.ite (hmod _) (hfinal _ _ _))) (.ite (.ite (hfinal _ _ _) (hmod _))
        (.ite (.ite (hfinal _ _ _) hadc) (.ite (hcal _ _) (.ite (hfree _ _ _ _) (hfinal _ _ _))))))

/-! ## The loss of a link or of the hall -/

/-- The registers that the loss of the hall can change. -/
def lostRegs : List RegName := .TOLL_EVENTS :: (voidRegs ++ readyRegs)

/-- What the loss of the hall leaves: all that an election and the voiding of orders leave but joint parts and the peers. -/
def lostOf (s : State) : State :=
  { s.voidView with conc := [], srcEdges := [], gsl := [], crier := [], crierWait := [], events := [], members := [], masterOven := false,
                    hallCfg := false, peers := [], electAt := 0, joints := [] }

/-- A step that the loss of the hall takes. -/
abbrev LostStep (s t : State) : Prop := Keeps lostOf lostRegs s t

theorem Keeps.lost {s t : State} (h : VoidStep s t) : LostStep s t := ⟨(congrArg lostOf h.view :), h.regs.mono (by decide)⟩

theorem Keeps.lost_of_elect {s t : State} (h : Keeps State.electView readyRegs s t) : LostStep s t :=
  ⟨(congrArg (fun v : State × Mem × Bool => lostOf v.1) h.view :), h.regs.mono (by decide)⟩

theorem LostStep.of_frame {s t : State} (hv : lostOf t = lostOf s) (hr : t.regs = s.regs) : LostStep s t := ⟨hv, regsBut.of_regs (.refl _ s) hr⟩

theorem State.jointVoid_lost (s : State) (k cause : Nat) : LostStep s (s.jointVoid k cause) := by
  unfold State.jointVoid
  split
  · exact .refl _ _ s
  · next w _ =>
    split
    · have h : VoidStep s ((s.dropComplete k).setWork k { w with cause, stage := .stopped }) :=
        (s.dropComplete_void k).trans (VoidStep.of_frame rfl rfl)
      exact (h.trans (State.voidWatch_void _ k)).lost.trans (LostStep.of_frame rfl rfl)
    · exact (s.voidWork_void k cause).lost

theorem State.refusePart_lost (s : State) (k cause : Nat) : LostStep s (s.refusePart k cause) := by
  unfold State.refusePart
  split
  · exact .refl _ _ s
  · next w _ =>
    have h : LostStep s ((s.finalReceipt k Status.refused cause).dropJoint w.jointId) :=
      (s.finalReceipt_void k _ cause _).lost.trans (LostStep.of_frame rfl rfl)
    exact h.set F.TOLL_EVENTS_REFUSED 1 0 0 (by decide) rfl

theorem State.endJoints_lost (s : State) (hit : Work → Bool) : LostStep s (s.endJoints hit) :=
  Keeps.foldl _ (fun t p => by
    split
    · exact .refl _ _ t
    · split
      · exact .refl _ _ t
      · split
        · exact .refl _ _ t
        · split
          · exact t.jointVoid_lost _ _
          · exact .refl _ _ t
          · exact t.refusePart_lost _ _) _ s

theorem State.startElection_lost (s : State) (st : Nat) : LostStep s (s.startElection st) := by
  have h := s.startElection_keeps st
  have heq (u : State) : lostOf u = lostOf { u.electView.1 with peers := [], electAt := 0 } := rfl
  exact ⟨(heq _).trans ((congrArg lostOf h.view).trans (heq s).symm), h.regs.mono (by decide)⟩

theorem State.hallLost_lost (s : State) : LostStep s s.hallLost := by
  unfold State.hallLost
  extract_lets st u
  have hu : LostStep s u := (s.endJoints_lost _).set F.GSL_HALL_EVENTS_HALL_LOST 1 0 0 (by decide) rfl
  clear_value u
  split
  · exact s.tryElect_keeps.lost_of_elect
  · split
    · exact hu.trans (u.startElection_lost 4)
    · have h := hu.set F.GSL_HALL_STATUS_IS_MASTER 0 0 0 (by decide) rfl
      have hm : LostStep (u.clrBit F.GSL_HALL_STATUS_IS_MASTER) { u.clrBit F.GSL_HALL_STATUS_IS_MASTER with members := [] } := LostStep.of_frame rfl rfl
      exact (h.trans hm).trans (State.setHallState_keeps _ 4).elect.lost_of_elect

theorem State.checkMaster_lost (s : State) : LostStep s s.checkMaster := by
  unfold State.checkMaster
  split
  · exact s.hallLost_lost
  · exact s.rerouted_keeps.elect.lost_of_elect.trans (State.tryElect_keeps _).lost_of_elect

/-- The failure of a link adds it to those that are not UP. -/
theorem State.linkFails_regsBut (s : State) (l : Nat) : regsBut lostRegs s (s.linkFails l) := by
  unfold State.linkFails
  split
  · exact .refl _ s
  · have h := (s.endJoints_lost fun w => (s.crossed w).contains l).regs
    generalize s.endJoints (fun w => (s.crossed w).contains l) = u at h
    exact (regsBut.of_regs (u := { u with linksDown := l :: u.linksDown }) h rfl).trans (State.checkMaster_lost _).regs

/-! ## Ports and frames -/

theorem State.portLink_of_regsBut {l : List RegName} {s t : State} (h : regsBut l s t) (hl : RegName.GSL_PORTn_CFG ∉ l)
    (hp : RegName.GSL_STRAP ∉ l) (hs : RegName.GSL_HALL_STATUS ∉ l) (p : Nat) : t.portLink p = s.portLink p := by
  simp only [State.portLink, State.pos, State.ringSize, State.hallSize, State.get_of_regsBut h F.GSL_PORTn_CFG_ROLE p 0 hl,
    State.get_of_regsBut h F.GSL_STRAP_POS 0 0 hp, State.get_of_regsBut h F.GSL_HALL_STATUS_SIZE 0 0 hs] <;> rfl

theorem State.setGslPort_setGslPort (s : State) (p : Nat) (g g' : GslPort) : (s.setGslPort p g).setGslPort p g' = s.setGslPort p g' := by
  simp only [State.setGslPort, Store.put_put]

theorem State.sendMsg_bad (s : State) (mtype dst data arg p : Nat) : ((s.sendMsg mtype dst data arg).gslPort p).bad = (s.gslPort p).bad := by
  have henq : ∀ (u : State) (role : Nat) (m : GslMsg), ((u.enqueueMsg role m).gslPort p).bad = (u.gslPort p).bad := fun u role m => by
    unfold State.enqueueMsg
    split
    · next q _ =>
      simp only [State.gslPort, State.setGslPort, Store.getD_put]
      split
      · next h => rw [h]
      · rfl
    · rfl
  unfold State.sendMsg
  extract_lets m
  split
  · exact (henq _ _ _).trans (henq _ _ _)
  · exact henq _ _ _

/-- What a frame that is sent leaves besides the registers: memory, orders, the instant, the messages received. -/
def State.frameView (s : State) : Mem × Store Nat Work × Tu × List (Nat × GslMsg) := (s.mem, s.works, s.fr, s.gslIn)

abbrev FrameStep (s t : State) : Prop := Keeps State.frameView [.CRIER_EVENTS] s t

theorem FrameStep.of_frame {s t : State} (hv : t.frameView = s.frameView) (hr : t.regs = s.regs) : FrameStep s t := ⟨hv, regsBut.of_regs (.refl _ s) hr⟩

theorem State.awaitCrier_frame (s : State) (c : CrierChange) : FrameStep s (s.awaitCrier c) := by
  unfold State.awaitCrier
  extract_lets last
  exact .ite (.refl _ _ s) (FrameStep.of_frame rfl rfl)

theorem State.queueCrier_frame (s : State) (p : Nat) (w : Int) (c : Nat × Bool × Nat) : FrameStep s (s.queueCrier p w c) := by
  unfold State.queueCrier
  extract_lets g
  exact .ite (FrameStep.of_frame rfl rfl) (FrameStep.of_frame rfl rfl)

theorem State.closeWindows_frame (s : State) : FrameStep s s.closeWindows :=
  Keeps.foldl _ (fun t d => by
    extract_lets r u v
    have hu : FrameStep t u := FrameStep.of_frame rfl rfl
    have hv : FrameStep t v := .ite (hu.set F.CRIER_EVENTS_SQUASHED _ 0 0 (by decide) rfl) hu
    refine hv.trans (Keeps.foldl _ (fun x c => ?_) _ v)
    exact (x.awaitCrier_frame _).trans (Keeps.foldl _ (fun y p => y.queueCrier_frame _ _ _) _ _)) _ s

theorem State.timeMsg_frame (s : State) (n : Int) : FrameStep s (s.timeMsg n).1 := by
  unfold State.timeMsg
  split
  · exact .refl _ _ s
  · extract_lets c
    clear_value c
    cases c with
    | none => exact .refl _ _ s
    | some c =>
      have hu : ∀ o, FrameStep s { s with timeNext := o } := fun _ => FrameStep.of_frame rfl rfl
      dsimp only
      generalize (if c.first.isNone then s.beginPair c n else c) = d
      split
      · exact hu _
      · split <;> exact hu _

theorem State.frameMsg_frame (s : State) (p : Nat) (n : Int) : FrameStep s (s.frameMsg p n).1 := by
  unfold State.frameMsg
  extract_lets none_ t u st g
  have hu : FrameStep s u := by
    dsimp only [u, t]
    split
    · exact s.timeMsg_frame n
    · exact .refl _ _ s
  have hset : ∀ v, FrameStep s (u.setGslPort p v) := fun v => hu.trans (FrameStep.of_frame rfl rfl)
  clear_value u
  split
  · exact hu
  · split
    · exact hset _
    · split
      · exact hu
      · split
        · exact hu
        · exact hset _

/-- A port after the frame of one REFIN period: what the frame carries, and what no longer waits (R248, R260). -/
def State.sentPort (s : State) (p : Nat) (n : Int) (m : GslMsg) : GslPort :=
  let g := s.gslPort p
  let ring := s.carries p Msg.crierCfg
  let part : Int × List (Nat × Bool × Nat) := match g.crier with
    | c :: _ => if ring && (m.mtype != Msg.time || c.1 == n) then c else (n, [])
    | [] => (n, [])
  let g := if part.2.isEmpty then g else { g with crier := g.crier.drop 1 }
  let mark := s.bit F.GSL_HALL_STATUS_IS_MASTER && part.1.fmod 65536 == 0
  { g with sent := frameBits mark (if ring then s.frameLevel p part.1 else 0) part.1 part.2 m }

/-- A port that sends: its frame reports the window that has closed. -/
theorem execGslFrameSend_sends {p : Nat} {s : State} (hr : s.get F.GSL_PORTn_CFG_ROLE p ≠ 3) (hst : s.get F.GSL_PORTn_STATUS_STATE p ≠ 0)
    (hp : s.bit F.TSBANK_REF_REF_PRESENT = true) : execGslFrameSend p s =
      .next ((s.closeWindows.frameMsg p (s.closeWindows.window - 1)).1.setGslPort p
        ((s.closeWindows.frameMsg p (s.closeWindows.window - 1)).1.sentPort p (s.closeWindows.window - 1)
          (s.closeWindows.frameMsg p (s.closeWindows.window - 1)).2)) := by
  refine (if_neg (by simp [hr, hst, hp])).trans ?_
  dsimp only
  generalize s.closeWindows.frameMsg p (s.closeWindows.window - 1) = x
  rfl

/-- Without Crier changes to carry and on a member the frame has an empty Crier part. -/
theorem State.sentPort_plain {s : State} {p : Nat} (hc : s.carries p Msg.crierCfg = false) (hm : s.bit F.GSL_HALL_STATUS_IS_MASTER = false) (n : Int)
    (m : GslMsg) : s.sentPort p n m = { s.gslPort p with sent := frameBits false 0 n [] m } := by
  unfold State.sentPort
  extract_lets g ring part g' mark
  have hring : ring = false := hc
  have hpart : part = (n, []) := by
    dsimp only [part]
    rw [hring]
    split <;> rfl
  clear_value part
  subst hpart
  simp only [mark, g', hring, hm]
  rfl

theorem State.closeWindows_of_nil {s : State} (h : s.crierDrv = []) : s.closeWindows = s := by
  rw [State.closeWindows, h]; rfl

/-- A port in TRAIN or CAL carries no TIME message and no Crier change. -/
theorem State.carries_of_unready {s : State} {p t : Nat} (h : s.get F.GSL_PORTn_STATUS_STATE p = 1 ∨ s.get F.GSL_PORTn_STATUS_STATE p = 2)
    (ht : t ≠ Msg.advert) : s.carries p t = false := by
  rcases h with h | h <;> simp [State.carries, h, ht]

theorem State.frameMsg_training {s : State} {p : Nat} (h : s.get F.GSL_PORTn_STATUS_STATE p = 1) (ho : (s.gslPort p).out = [])
    (hm : s.bit F.GSL_HALL_STATUS_IS_MASTER = false) (n : Int) : s.frameMsg p n = (s, { mtype := 0, src := s.pos, dst := 0 }) := by
  have hc : s.carries p Msg.time = false := State.carries_of_unready (.inl h) (by decide)
  simp [State.frameMsg, hc, h, ho, hm]

theorem State.frameMsg_probe {s : State} {p : Nat} (h : s.get F.GSL_PORTn_STATUS_STATE p = 2) {n : Int} (hn : n.fmod 2 = 0) :
    s.frameMsg p n = (s.setGslPort p { s.gslPort p with probes := ((s.gslPort p).probes.filter fun t => decide (s.fr < t + 4096000)) ++ [s.fr] },
      { mtype := Msg.probe, src := s.pos, dst := s.get F.GSL_PORTn_STATUS_PEER_POS p, data := s.fr % 2 ^ 64, arg := p }) := by
  have hc : s.carries p Msg.time = false := State.carries_of_unready (.inr h) (by decide)
  simp [State.frameMsg, hc, h, hn]

/-! ## A link that is lost, calibrated or drifts -/

/-- A link that carried the hall is lost: its port is DOWN, and every device is told (R250, R270). -/
def State.linkLost (s : State) (p : Nat) (b : Bool) : State :=
  let u := { ((s.setIf F.GSL_PORTn_STATUS_LOS b p).set F.GSL_PORTn_STATUS_STATE 4 p).setBit F.GSL_PORTn_EVENTS_LINK_DOWN p with
    detections := s.detections.filter fun d => !(d.kind == 5 && d.source == 0x628 + p) }
  u.sendMsg Msg.linkDown 0x3F (u.linkEnds p) p

/-- The loss of a link at the instant of its drift counts as the loss alone (R272). -/
def State.driftLost (s : State) (p : Nat) (b : Bool) : State :=
  let u := { (((s.setIf F.GSL_PORTn_STATUS_LOS b p).set F.GSL_PORTn_STATUS_STATE 4 p).setBit F.GSL_PORTn_EVENTS_LINK_DOWN p).clrBit
    F.GSL_PORTn_EVENTS_DRIFT p with detections := s.detections.filter fun d => !(d.kind == 5 && d.source == 0x628 + p) }
  u.sendMsg Msg.linkDown 0x3F (u.linkEnds p) p

theorem State.getState_setLos (s : State) (p : Nat) (b : Bool) :
    (s.setIf F.GSL_PORTn_STATUS_LOS b p).get F.GSL_PORTn_STATUS_STATE p = s.get F.GSL_PORTn_STATUS_STATE p :=
  s.get_setIf_apart b p 0 p 0 (by decide)

theorem execLinkLoss_up {p : Nat} {b : Bool} {s : State} (hr : s.get F.GSL_PORTn_CFG_ROLE p ≠ 3) (hst : s.get F.GSL_PORTn_STATUS_STATE p = 3) :
    execLinkLoss p b s = (match (s.linkLost p b).portLink p with
      | none => .next (s.linkLost p b)
      | some l => if ((s.linkLost p b).gslPort p).bad then .next (s.linkLost p b) else .next ((s.linkLost p b).linkFails l)) := by
  have hst' := (s.getState_setLos p b).trans hst
  refine (if_neg hr).trans ?_
  simp only [hst', not_true_eq_false, false_and, if_false, Nat.reduceBEq, Bool.false_and, Bool.false_eq_true]
  rfl

theorem execLinkLoss_drifted {p : Nat} {b : Bool} {s : State} (hr : s.get F.GSL_PORTn_CFG_ROLE p ≠ 3) (hst : s.get F.GSL_PORTn_STATUS_STATE p = 2)
    (hd : (s.gslPort p).driftAt = some s.fr) :
    execLinkLoss p b s = (match (s.driftLost p b).portLink p with
      | none => .next (s.driftLost p b)
      | some l => if ((s.driftLost p b).gslPort p).bad then .next (s.driftLost p b)
        else .next ({ s.driftLost p b with linksDown := (s.driftLost p b).linksDown.erase l }.linkFails l)) := by
  have hst' := (s.getState_setLos p b).trans hst
  have hd' : ((s.setIf F.GSL_PORTn_STATUS_LOS b p).get F.GSL_PORTn_STATUS_STATE p == 2 &&
      ((s.setIf F.GSL_PORTn_STATUS_LOS b p).gslPort p).driftAt == some (s.setIf F.GSL_PORTn_STATUS_LOS b p).fr) = true := by
    rw [hst', show ((s.setIf F.GSL_PORTn_STATUS_LOS b p).gslPort p).driftAt = _ from hd]
    simp [State.setIf, State.set, State.wr]
  refine (if_neg hr).trans ?_
  simp only [hd', Bool.not_true, Bool.false_eq_true, and_false, if_false, if_true]
  rfl

/-- The registers of a port. -/
def portRegs : List RegName := [.GSL_PORTn_STATUS, .GSL_PORTn_EVENTS, .GSL_PORTn_DELAY]

theorem State.linkLost_regs (s : State) (p : Nat) (b : Bool) : regsBut portRegs s (s.linkLost p b) := by
  unfold State.linkLost
  extract_lets _ u
  have hu : regsBut portRegs s u := regsBut.of_regs ((((regsBut.refl _ s).set F.GSL_PORTn_STATUS_LOS (if b then 1 else 0) p 0 (by decide)).set
    F.GSL_PORTn_STATUS_STATE 4 p 0 (by decide)).set F.GSL_PORTn_EVENTS_LINK_DOWN 1 p 0 (by decide)) rfl
  rw [u.sendMsg_frame]
  exact regsBut.of_regs hu rfl

theorem State.linkLost_bad (s : State) (p : Nat) (b : Bool) : ((s.linkLost p b).gslPort p).bad = (s.gslPort p).bad := State.sendMsg_bad _ _ _ _ _ p

theorem State.driftLost_spec (s : State) (p : Nat) (b : Bool) : (s.driftLost p b).get F.GSL_PORTn_STATUS_STATE p = 4 ∧
    (s.driftLost p b).bit F.GSL_PORTn_EVENTS_LINK_DOWN p = true ∧ (s.driftLost p b).bit F.GSL_PORTn_EVENTS_DRIFT p = false := by
  unfold State.driftLost
  extract_lets _ u
  have hst : u.get F.GSL_PORTn_STATUS_STATE p = 4 :=
    (State.get_set_apart _ 0 p 0 p 0 (by decide)).trans ((State.get_setBit_apart _ p 0 p 0 (by decide)).trans (State.get_set_self _ _ 4 p 0 (by decide)))
  have hdown : u.bit F.GSL_PORTn_EVENTS_LINK_DOWN p = true :=
    (State.bit_set_apart _ 0 p 0 p 0 (by decide)).trans (State.bit_setBit _ _ p 0 (by decide) (by decide))
  have hdrift : u.bit F.GSL_PORTn_EVENTS_DRIFT p = false := State.bit_clrBit _ _ p 0 (by decide)
  clear_value u
  rw [u.sendMsg_frame]
  exact ⟨hst, hdown, hdrift⟩

/-- A link has been calibrated: its port is UP with the mean of its delay (R254, R258). -/
def State.linkCalibrated (s : State) (p : Nat) : State :=
  let g := s.gslPort p
  let s' := (((s.useFree).setGslPort p { g with n := 0, sumD := 0, sumT := 0, theta := s.halfMean g.sumT g.n }).set F.GSL_PORTn_DELAY_DELAY
    (unsigned (s.halfMean g.sumD g.n) 20) p).set F.GSL_PORTn_STATUS_STATE 3 p
  let s' := (s'.clrBit F.GSL_PORTn_STATUS_LOS p).setBit F.GSL_PORTn_EVENTS_LINK_UP p
  match s'.portLink p with
  | some l => if g.bad then s' else { s' with linksDown := s'.linksDown.erase l }
  | none => s'

theorem execLinkCalDone_eq {p : Nat} {s : State} (hst : s.get F.GSL_PORTn_STATUS_STATE p = 2) (hn : 65536 ≤ (s.gslPort p).n) :
    execLinkCalDone p s = .next (s.linkCalibrated p).rerouted.tryReady :=
  (if_neg (not_or.mpr ⟨not_not_intro hst, Nat.not_lt.mpr hn⟩)).trans rfl

theorem State.linkCalibrated_spec (s : State) (p : Nat) : (s.linkCalibrated p).get F.GSL_PORTn_STATUS_STATE p = 3 ∧
    (s.linkCalibrated p).bit F.GSL_PORTn_EVENTS_LINK_UP p = true ∧ (s.linkCalibrated p).bit F.GSL_PORTn_STATUS_LOS p = false ∧
    (s.linkCalibrated p).get F.GSL_PORTn_DELAY_DELAY p = unsigned (s.halfMean (s.gslPort p).sumD (s.gslPort p).n) 20 % 2 ^ 20 ∧
    (s.linkCalibrated p).works = s.works ∧ (s.linkCalibrated p).mem = s.mem := by
  unfold State.linkCalibrated
  extract_lets g u v
  have hst : v.get F.GSL_PORTn_STATUS_STATE p = 3 :=
    (State.get_setBit_apart _ p 0 p 0 (by decide)).trans ((State.get_set_apart _ 0 p 0 p 0 (by decide)).trans (State.get_set_self _ _ 3 p 0 (by decide)))
  have hup : v.bit F.GSL_PORTn_EVENTS_LINK_UP p = true := State.bit_setBit _ _ p 0 (by decide) (by decide)
  have hlos : v.bit F.GSL_PORTn_STATUS_LOS p = false := (State.bit_setBit_apart _ p 0 p 0 (by decide)).trans (State.bit_clrBit _ _ p 0 (by decide))
  have hdelay : v.get F.GSL_PORTn_DELAY_DELAY p = unsigned (s.halfMean (s.gslPort p).sumD (s.gslPort p).n) 20 % 2 ^ 20 :=
    (State.get_setBit_apart _ p 0 p 0 (by decide)).trans ((State.get_set_apart _ 0 p 0 p 0 (by decide)).trans
      ((State.get_set_apart _ 3 p 0 p 0 (by decide)).trans (State.get_set_self _ F.GSL_PORTn_DELAY_DELAY _ p 0 (by decide))))
  have hworks : v.works = s.works := rfl
  have hmem : v.mem = s.mem := rfl
  clear_value v
  split
  · split
    · exact ⟨hst, hup, hlos, hdelay, hworks, hmem⟩
    · exact ⟨hst, hup, hlos, hdelay, hworks, hmem⟩
  · exact ⟨hst, hup, hlos, hdelay, hworks, hmem⟩

/-- A mean delay beyond its limits: a detection, and the link goes to CAL (R258). -/
def State.linkDrifted (s : State) (p : Nat) : State :=
  let g := s.gslPort p
  let s := s.setGslPort p { g with n := 0, sumD := 0, sumT := 0 }
  let l := s.portLink p
  let ks := (s.works.filter fun x => x.2.held && x.2.opcode == Op.burst && x.2.isJoint &&
    (match l with | some l => (s.crossed x.2).contains l | none => false)).map (·.1)
  let s := (s.setBit F.GSL_PORTn_EVENTS_DRIFT p).detect { kind := 5, cause := 0x223, source := 0x628 + p, works := ks }
  (s.set F.GSL_PORTn_STATUS_STATE 2 p).setGslPort p { s.gslPort p with driftAt := some s.fr, probes := [] }

theorem execLinkDriftCheck_beyond {p : Nat} {s : State} (hst : s.get F.GSL_PORTn_STATUS_STATE p = 3)
    (hd : 8 * (s.gslPort p).n < ((s.gslPort p).sumD - 2 * ((s.gslPort p).n : Int) * s.get F.GSL_PORTn_DELAY_DELAY p).natAbs) :
    execLinkDriftCheck p s = (match s.portLink p with
      | none => .next (s.linkDrifted p)
      | some l => .next { s.linkDrifted p with linksDown := l :: (s.linkDrifted p).linksDown.erase l }.checkMaster) :=
  (if_neg (not_not_intro hst)).trans ((if_neg (Nat.not_le.mpr hd)).trans rfl)

theorem State.linkDrifted_spec (s : State) (p : Nat) : (s.linkDrifted p).get F.GSL_PORTn_STATUS_STATE p = 2 ∧
    (s.linkDrifted p).bit F.GSL_PORTn_EVENTS_DRIFT p = true ∧
    ((s.linkDrifted p).detections.any fun d => d.kind == 5 && d.cause == 0x223 && d.source == 0x628 + p) = true := by
  unfold State.linkDrifted
  extract_lets g u l ks v
  have hdrift : v.bit F.GSL_PORTn_EVENTS_DRIFT p = true := u.bit_setBit F.GSL_PORTn_EVENTS_DRIFT p 0 (by decide) (by decide)
  have hdet : (v.detections.any fun d => d.kind == 5 && d.cause == 0x223 && d.source == 0x628 + p) = true := by
    simp [v, State.detect]
  clear_value v
  exact ⟨v.get_set_self F.GSL_PORTn_STATUS_STATE 2 p 0 (by decide), (v.bit_set_apart 2 p 0 p 0 (by decide)).trans hdrift, hdet⟩

/-- Settles O23: a frame that is sent is a `FrameStep`, a calibrated link keeps what `State.tryReady_keeps` says, a lost one what `LostStep` says. -/
theorem linksAndFrames : Obligations.LinksAndFrames := by
  unfold Obligations.LinksAndFrames
  refine ⟨?unused, ?trains, ?used, ?sends, ?sendsEmpty, ?sendsProbe, ?trained, ?calibrated, ?losOnly, ?lossOutside, ?lossInside, ?lossDrifted, ?within,
    ?drifts, ?held, ?roleNew, ?roleFails, ?roleSame, ?roleStarts, ?busy, ?reform, ?unbooted⟩
  case unused =>
    intro p f t s h
    refine if_pos ?_
    rcases h with h | h | h | h | h
    · exact .inl h
    · exact .inr (.inl h)
    · exact .inr (.inr (by simp [h]))
    · exact .inr (.inr (by simp [h]))
    · exact .inr (.inr (by simp [h]))
  case trains =>
    intro p f t s hr hh hcrc hst
    refine (if_neg ?_).trans (if_pos hst)
    exact not_or.mpr ⟨hr, not_or.mpr ⟨(by rw [show (s.advanceTo t).get F.GSL_PORTn_STATUS_STATE p = 4 from hst]; decide), by simp [hh, hcrc]⟩⟩
  case used =>
    intro p f t s hr hh hcrc h0 h4 u x
    refine (if_neg ?_).trans ((if_neg h4).trans rfl)
    exact not_or.mpr ⟨hr, not_or.mpr ⟨h0, by simp [hh, hcrc]⟩⟩
  case sends =>
    intro p s hr hst hp
    have h := s.closeWindows_frame.trans (s.closeWindows.frameMsg_frame p (s.closeWindows.window - 1))
    refine ⟨_, execGslFrameSend_sends hr hst hp, regsBut.of_regs h.regs rfl, (congrArg (·.1) h.view :), (congrArg (·.2.1) h.view :),
      (congrArg (·.2.2.1) h.view :), (congrArg (·.2.2.2) h.view :)⟩
  case sendsEmpty =>
    intro p s hr hst hp hd ho hm
    refine (execGslFrameSend_sends hr (by rw [hst]; decide) hp).trans (congrArg _ ?_)
    rw [State.closeWindows_of_nil hd, State.frameMsg_training hst ho hm, State.sentPort_plain (State.carries_of_unready (.inl hst) (by decide)) hm]
  case sendsProbe =>
    intro p s hr hst hp hd hn hm
    refine (execGslFrameSend_sends hr (by rw [hst]; decide) hp).trans (congrArg _ ?_)
    rw [State.closeWindows_of_nil hd, State.frameMsg_probe hst hn]
    have hplain (g : GslPort) (n : Int) (m : GslMsg) : (s.setGslPort p g).sentPort p n m = { g with sent := frameBits false 0 n [] m } := by
      refine (State.sentPort_plain (State.carries_of_unready (s := s.setGslPort p g) (.inr hst) (by decide)) hm n m).trans ?_
      simp only [State.gslPort, State.setGslPort, Store.getD_put, if_true]
    dsimp only
    rw [hplain, State.setGslPort_setGslPort]
  case trained =>
    intro p x s hst hr u
    refine (if_neg (not_or.mpr ⟨not_not_intro hst, hr⟩)).trans (congrArg Host.Outcome.next ?_)
    by_cases hf : s.fitsRing p x = true
    · rw [if_pos hf, if_pos hf]; rfl
    · rw [if_neg hf, if_neg hf]; rfl
  case calibrated =>
    intro p s hst hn
    obtain ⟨hst', hup, hlos, hdelay, hworks, hmem⟩ := s.linkCalibrated_spec p
    have h := (s.linkCalibrated p).rerouted_keeps.trans (State.tryReady_keeps _)
    refine ⟨_, execLinkCalDone_eq hst hn, (State.get_of_regsBut h.regs F.GSL_PORTn_STATUS_STATE p 0 (by decide)).trans hst',
      (State.bit_of_regsBut h.regs F.GSL_PORTn_EVENTS_LINK_UP p 0 (by decide)).trans hup,
      (State.bit_of_regsBut h.regs F.GSL_PORTn_STATUS_LOS p 0 (by decide)).trans hlos,
      (State.get_of_regsBut h.regs F.GSL_PORTn_DELAY_DELAY p 0 (by decide)).trans hdelay, h.ready_works.trans hworks, h.ready_mem.trans hmem⟩
  case losOnly =>
    intro p b s hr hst hd
    refine (if_neg hr).trans (if_pos ?_)
    rw [s.getState_setLos p b]
    refine ⟨hst, ?_⟩
    rw [Bool.not_eq_true', Bool.and_eq_false_iff]
    rcases hd with hd | hd
    · exact .inl (beq_eq_false_iff_ne.mpr hd)
    · exact .inr (beq_eq_false_iff_ne.mpr hd)
  case lossOutside =>
    intro p b s hr hst u x hl
    have hlink : (s.linkLost p b).portLink p = s.portLink p := State.portLink_of_regsBut (s.linkLost_regs p b) (by decide) (by decide) (by decide) p
    refine (execLinkLoss_up hr hst).trans ?_
    split
    · rfl
    · next l hl' =>
      rcases hl with hnone | hbad
      · exact absurd (hnone.symm.trans (hlink.symm.trans hl')) (by simp)
      · exact if_pos ((s.linkLost_bad p b).trans hbad)
  case lossInside =>
    intro p l b s hr hst u x hl hb hb'
    have hlink : (s.linkLost p b).portLink p = s.portLink p := State.portLink_of_regsBut (s.linkLost_regs p b) (by decide) (by decide) (by decide) p
    refine (execLinkLoss_up hr hst).trans ?_
    simp only [hlink.trans hl]
    exact if_neg (by rw [(s.linkLost_bad p b).trans hb]; decide)
  case lossDrifted =>
    intro p b s hr hst hd
    obtain ⟨hst', hdown, hdrift⟩ := s.driftLost_spec p b
    have heq := execLinkLoss_drifted (b := b) hr hst hd
    generalize s.driftLost p b = u at hst' hdown hdrift heq
    split at heq
    · exact ⟨u, heq, hst', hdown, hdrift⟩
    · next l _ =>
      split at heq
      · exact ⟨u, heq, hst', hdown, hdrift⟩
      · have h := ({ u with linksDown := u.linksDown.erase l } : State).linkFails_regsBut l
        exact ⟨_, heq, (State.get_of_regsBut h F.GSL_PORTn_STATUS_STATE p 0 (by decide)).trans hst',
          (State.bit_of_regsBut h F.GSL_PORTn_EVENTS_LINK_DOWN p 0 (by decide)).trans hdown,
          (State.bit_of_regsBut h F.GSL_PORTn_EVENTS_DRIFT p 0 (by decide)).trans hdrift⟩
  case within =>
    intro p s hst hd
    exact (if_neg (not_not_intro hst)).trans (if_pos hd)
  case drifts =>
    intro p s hst hd
    obtain ⟨hst', hdrift, hdet⟩ := s.linkDrifted_spec p
    have heq := execLinkDriftCheck_beyond hst hd
    generalize s.linkDrifted p = u at hst' hdrift hdet heq
    cases hl : s.portLink p with
    | none =>
      rw [hl] at heq
      exact ⟨u, heq, hst', hdrift, by simp, hdet⟩
    | some l =>
      rw [hl] at heq
      have h := ({ u with linksDown := l :: u.linksDown.erase l } : State).checkMaster_lost
      have hdown : ({ u with linksDown := l :: u.linksDown.erase l } : State).checkMaster.linksDown = l :: u.linksDown.erase l :=
        (congrArg State.linksDown h.view :)
      have hdets : ({ u with linksDown := l :: u.linksDown.erase l } : State).checkMaster.detections = u.detections :=
        (congrArg State.detections h.view :)
      refine ⟨_, heq, (State.get_of_regsBut h.regs F.GSL_PORTn_STATUS_STATE p 0 (by decide)).trans hst',
        (State.bit_of_regsBut h.regs F.GSL_PORTn_EVENTS_DRIFT p 0 (by decide)).trans hdrift, ?_, by rw [hdets]; exact hdet⟩
      rw [hdown]
      simp
  case held =>
    intro p v s hboot hp hh
    exact (if_pos ⟨hboot, hp⟩).trans (congrArg _ (if_pos hh))
  case roleNew =>
    intro p v s hboot hp hh hne hl
    refine (if_pos ⟨hboot, hp⟩).trans (congrArg _ ((if_neg (by rw [hh]; decide)).trans ((if_neg hne.symm).trans ?_)))
    simp only [hl]
  case roleFails =>
    intro p l v s hboot hp hh hne hl
    refine (if_pos ⟨hboot, hp⟩).trans (congrArg _ ((if_neg (by rw [hh]; decide)).trans ((if_neg hne.symm).trans ?_)))
    simp only [hl]
  case roleSame =>
    intro p v s hboot hp hh heq hor
    refine (if_pos ⟨hboot, hp⟩).trans (congrArg _ ((if_neg (by rw [hh]; decide)).trans ((if_pos heq.symm).trans (if_neg ?_))))
    rintro ⟨h3, h0⟩
    exact hor.elim h3 fun h => h h0
  case roleStarts =>
    intro p v s hboot hp hh heq h3 h0
    exact (if_pos ⟨hboot, hp⟩).trans (congrArg _ ((if_neg (by rw [hh]; decide)).trans ((if_pos heq.symm).trans (if_pos ⟨h3, h0⟩))))
  case busy =>
    intro s hboot hb
    exact (if_neg (by simp [hboot])).trans (if_pos hb)
  case reform =>
    intro s hboot hb
    exact (if_neg (by simp [hboot])).trans (if_neg (by rw [hb]; decide))
  case unbooted =>
    intro s hboot
    exact if_pos (by simp [hboot])

end Sys2Proof.Machine
end

section
/-!
SUPPORT. The Crier bus (O24): the commit of a configuration, its effect, and the action of a change.
-/

namespace Sys2Proof.Machine

/-- A rejected commit of a Crier configuration (R263). -/
def State.crierRejected (s : State) (r : Nat) : State := (s.set F.CRIER_STATUS_RESULT r).setBit F.CRIER_EVENTS_REJECT

/-- The configuration is out of range: LAT, or the source of an enabled line (R263). -/
def State.crierOut (s : State) : Prop :=
  s.get F.CRIER_LAT_LAT < 200 ∨ 8000 < s.get F.CRIER_LAT_LAT ∨
    ((List.range 8).any fun l => bitOf s.crierRegs.en l && decide (s.hallSize ≤ s.crierRegs.pos.getD l 0)) = true

section
variable {b : Bool} {s : State} (hboot : s.booted = true) (hm : s.bit F.GSL_HALL_STATUS_IS_MASTER = true)
include hboot hm

theorem execCrierCommit_out (h : s.crierOut) : execCrierCommit b s = .next (s.crierRejected 2) :=
  (if_neg (by simp [hboot])).trans ((if_neg (by simp [hm])).trans (if_pos h))

theorem execCrierCommit_inRange (h : ¬ s.crierOut) : execCrierCommit b s =
    if b || s.works.any fun p => p.2.burstPresent then .next (s.crierRejected 1)
    else .next ({ s.set F.CRIER_STATUS_RESULT 0 with crierCfg := s.crierCfg ++ [s.crierRegs] }.checkLat.sendCrierCfg s.crierRegs) :=
  (if_neg (by simp [hboot])).trans ((if_neg (by simp [hm])).trans ((if_neg h).trans rfl))

end

theorem State.not_crierOut {s : State} (hlo : 200 ≤ s.get F.CRIER_LAT_LAT) (hhi : s.get F.CRIER_LAT_LAT ≤ 8000)
    (h : ∀ l ∈ List.range 8, bitOf s.crierRegs.en l = true → s.crierRegs.pos.getD l 0 < s.hallSize) : ¬ s.crierOut := by
  rintro (hout | hout | hout)
  · omega
  · omega
  · obtain ⟨l, hl, hsrc⟩ := List.any_eq_true.mp hout
    obtain ⟨hen, hpos⟩ := (Bool.and_eq_true _ _).mp hsrc
    exact absurd (h l hl hen) (Nat.not_lt.mpr (of_decide_eq_true hpos))

/-! ## The effect of a configuration -/

theorem State.crierTakes_regsBut (s : State) (l : Nat) (level : Bool) (t : Tu) : regsBut [.CRIER_STATUS] s (s.crierTakes l level t) := by
  unfold State.crierTakes
  extract_lets u bits
  have hu : regsBut [.CRIER_STATUS] s u := regsBut.of_regs (.refl _ s) rfl
  exact regsBut.of_regs (hu.set F.CRIER_STATUS_LEVEL (ofSet bits 8) 0 0 (by decide)) rfl

/-- Lines that the new configuration moves or drops go low (R263). -/
def State.linesMoved (s : State) (c : CrierCfg) : State :=
  ((List.range 8).filter fun l => s.crierEn l && (!bitOf c.en l || c.pos.getD l 0 != s.crierPos l)).foldl (fun s l =>
    let s := { s with crierDrv := Store.del s.crierDrv l, crierWait := s.crierWait.filter (·.line != l) }
    if s.crierLevel l then s.crierTakes l false s.fr else s) s

theorem State.linesMoved_regsBut (s : State) (c : CrierCfg) : regsBut [.CRIER_STATUS] s (s.linesMoved c) :=
  (Keeps.foldl (view := fun _ => ()) _ (fun u l => by
    extract_lets v
    have hv : Keeps (fun _ => ()) [.CRIER_STATUS] u v := ⟨rfl, fun _ _ => rfl⟩
    exact .ite (hv.trans ⟨rfl, v.crierTakes_regsBut l false v.fr⟩) hv) _ s).regs

/-- A member's registers show the configuration (R263). -/
def State.crierShown (s : State) (c : CrierCfg) (ls : List Nat) : State :=
  ls.foldl (fun s l => (s.setIf F.CRIER_SRC_n_EN (bitOf c.en l) l).set F.CRIER_SRC_n_POS (c.pos.getD l 0) l) s

theorem State.crierShown_frame (s : State) (c : CrierCfg) (ls : List Nat) :
    (s.crierShown c ls) = { s with regs := (s.crierShown c ls).regs } ∧ regsBut [.CRIER_SRC_n] s (s.crierShown c ls) := by
  induction ls generalizing s with
  | nil => exact ⟨rfl, .refl _ s⟩
  | cons l ls ih =>
    have h := ih ((s.setIf F.CRIER_SRC_n_EN (bitOf c.en l) l).set F.CRIER_SRC_n_POS (c.pos.getD l 0) l)
    have hs := ((regsBut.refl [.CRIER_SRC_n] s).set F.CRIER_SRC_n_EN (if bitOf c.en l then 1 else 0) l 0 (by decide)).set F.CRIER_SRC_n_POS
      (c.pos.getD l 0) l 0 (by decide)
    exact ⟨h.1.trans rfl, hs.trans h.2⟩

theorem State.crierShown_other (s : State) (c : CrierCfg) {ls : List Nat} {i : Nat} (hi : i ∉ ls) :
    (s.crierShown c ls).rd ⟨.CRIER_SRC_n, i, 0⟩ = s.rd ⟨.CRIER_SRC_n, i, 0⟩ := by
  induction ls generalizing s with
  | nil => rfl
  | cons l ls ih =>
    obtain ⟨hne, hi⟩ := not_or.mp ((not_congr List.mem_cons).mp hi)
    have hreg : (⟨.CRIER_SRC_n, i, 0⟩ : Reg) ≠ ⟨.CRIER_SRC_n, l, 0⟩ := fun e => hne (congrArg Reg.i e)
    refine (ih _ hi).trans ?_
    exact (State.rd_set_reg_ne _ F.CRIER_SRC_n_POS _ l hreg).trans (s.rd_set_reg_ne F.CRIER_SRC_n_EN _ l hreg)

theorem State.crierShown_self (s : State) (c : CrierCfg) {ls : List Nat} (hn : ls.Nodup) {i : Nat} (hi : i ∈ ls) :
    (s.crierShown c ls).bit F.CRIER_SRC_n_EN i = bitOf c.en i ∧ (s.crierShown c ls).get F.CRIER_SRC_n_POS i = c.pos.getD i 0 % 2 ^ 6 := by
  induction ls generalizing s with
  | nil => cases hi
  | cons l ls ih =>
    obtain ⟨hl, hn⟩ := List.nodup_cons.mp hn
    rcases List.mem_cons.mp hi with rfl | hi
    · have hrd := ((s.setIf F.CRIER_SRC_n_EN (bitOf c.en i) i).set F.CRIER_SRC_n_POS (c.pos.getD i 0) i).crierShown_other c hl
      constructor
      · exact (State.bit_congr (f := F.CRIER_SRC_n_EN) hrd).trans ((State.bit_set_apart _ _ i 0 i 0 (by decide)).trans
          (s.bit_setIf F.CRIER_SRC_n_EN _ i 0 (by decide) (by decide)))
      · exact (congrArg F.CRIER_SRC_n_POS.get hrd).trans (State.get_set_self _ F.CRIER_SRC_n_POS _ i 0 (by decide))
    · exact ih _ hn hi

theorem execCrierConfigEffect_eq {c : CrierCfg} {l : List CrierCfg} {s : State} (h : s.crierCfg = c :: l) : execCrierConfigEffect s =
    (let u := { (s.advanceTo (c.at_ - s.corr).toNat).linesMoved c with crierNow := c, crierCfg := l }
     if u.bit F.GSL_HALL_STATUS_IS_MASTER then .next u.checkLat
     else .next ({ ((u.set F.CRIER_LAT_LAT c.lat).crierShown c (List.range 8)).checkLat with hallCfg := true }.tryReady)) := by
  unfold execCrierConfigEffect
  split
  · next hnil => exact absurd (h.symm.trans hnil) (by simp)
  · next c' l' heq =>
    obtain ⟨rfl, rfl⟩ := List.cons.inj (h.symm.trans heq)
    rfl

theorem State.closeLone_of_nil {s : State} (h : s.crierDrv = []) : s.closeLone = s := by
  unfold State.closeLone
  split
  · next hts => simp [h] at hts
  · rfl

theorem execCrierAction_first {c : CrierChange} {s : State} (hd : s.crierDrv = []) (hc : firstChange s.crierWait = some c) : execCrierAction s =
    (let u := { s.advanceTo (c.at_ - s.corr).toNat with crierWait := s.crierWait.erase c }
     if u.crierEn c.line ∧ u.members.contains (u.crierPos c.line) then .next (u.crierTakes c.line c.level (c.at_ - s.corr).toNat) else .next u) := by
  unfold execCrierAction
  rw [State.closeLone_of_nil hd]
  dsimp only
  split
  · next hnone => exact absurd (hc.symm.trans hnone) (by simp)
  · next c' heq =>
    obtain rfl := Option.some.inj (hc.symm.trans heq)
    rfl

/-- Settles O24: a commit by its checks, its effect by `execCrierConfigEffect_eq`, the action of a change by `execCrierAction_first`. -/
theorem crierBus : Obligations.CrierBus := by
  unfold Obligations.CrierBus
  refine ⟨?member, ?lat, ?source, ?busy, ?accepted, ?effectMaster, ?effectMember, ?nothing, ?one, ?takes, ?low⟩
  case member =>
    intro b s hboot hm
    exact (if_neg (by simp [hboot])).trans (if_pos (by simp [hm]))
  case lat =>
    intro b s hboot hm h
    exact execCrierCommit_out hboot hm (h.elim .inl fun h => .inr (.inl h))
  case source =>
    intro b l s hboot hm hl hen hpos
    refine execCrierCommit_out hboot hm (.inr (.inr (List.any_eq_true.mpr ⟨l, List.mem_range.mpr hl, ?_⟩)))
    rw [hen, decide_eq_true hpos]; rfl
  case busy =>
    intro b s hboot hm hlo hhi hsrc hb
    exact (execCrierCommit_inRange hboot hm (State.not_crierOut hlo hhi hsrc)).trans (if_pos hb)
  case accepted =>
    intro s hboot hm hlo hhi hsrc hb
    have heq := (execCrierCommit_inRange (b := false) hboot hm (State.not_crierOut hlo hhi hsrc)).trans (if_neg (by rw [hb]; decide))
    rw [State.sendCrierCfg, State.sendMsg_frame] at heq
    refine ⟨_, heq, rfl, ?_, rfl, ?_⟩
    · exact (State.get_set_apart (f := F.CRIER_STATUS_LAT_SHORT) _ _ 0 0 0 0 (by decide)).trans (s.get_set_self F.CRIER_STATUS_RESULT 0 0 0 (by decide))
    · have hset := (regsBut.refl [.CRIER_STATUS] s).set F.CRIER_STATUS_RESULT 0 0 0 (by decide)
      exact regsBut.of_regs (regsBut.set (regsBut.of_regs (u := { s.set F.CRIER_STATUS_RESULT 0 with crierCfg := s.crierCfg ++ [s.crierRegs] }) hset rfl)
        F.CRIER_STATUS_LAT_SHORT _ 0 0 (by decide)) rfl
  case effectMaster =>
    intro c l s h hm
    have hregs := (s.advanceTo (c.at_ - s.corr).toNat).linesMoved_regsBut c
    have heq := execCrierConfigEffect_eq h
    generalize (s.advanceTo (c.at_ - s.corr).toNat).linesMoved c = u at hregs heq
    have hm' : u.bit F.GSL_HALL_STATUS_IS_MASTER = true := (State.bit_of_regsBut hregs F.GSL_HALL_STATUS_IS_MASTER 0 0 (by decide)).trans hm
    refine ⟨_, heq.trans (if_pos hm'), rfl, rfl, ?_⟩
    refine (State.get_set_apart _ _ 0 0 0 0 (by decide)).trans ?_
    exact State.get_of_regsBut hregs F.CRIER_LAT_LAT 0 0 (by decide)
  case effectMember =>
    intro c l s h hm
    have hregs := (s.advanceTo (c.at_ - s.corr).toNat).linesMoved_regsBut c
    have heq := execCrierConfigEffect_eq h
    generalize (s.advanceTo (c.at_ - s.corr).toNat).linesMoved c = u at hregs heq
    have hm' : ¬ u.bit F.GSL_HALL_STATUS_IS_MASTER = true := by
      rw [State.bit_of_regsBut hregs F.GSL_HALL_STATUS_IS_MASTER 0 0 (by decide)]
      exact (Bool.eq_false_iff.mp hm)
    have heq := heq.trans (if_neg hm')
    generalize hu : ({ u with crierNow := c, crierCfg := l } : State) = v at heq
    obtain ⟨hframe, hsrc⟩ := (v.set F.CRIER_LAT_LAT c.lat).crierShown_frame c (List.range 8)
    have hshown : ∀ i ∈ List.range 8, _ := fun i hi => (v.set F.CRIER_LAT_LAT c.lat).crierShown_self c List.nodup_range hi
    have hlat := (State.get_of_regsBut hsrc F.CRIER_LAT_LAT 0 0 (by decide)).trans (v.get_set_self F.CRIER_LAT_LAT c.lat 0 0 (by decide))
    have hnow : ((v.set F.CRIER_LAT_LAT c.lat).crierShown c (List.range 8)).crierNow = c ∧
        ((v.set F.CRIER_LAT_LAT c.lat).crierShown c (List.range 8)).crierCfg = l := by
      rw [hframe, ← hu]
      exact ⟨rfl, rfl⟩
    generalize (v.set F.CRIER_LAT_LAT c.lat).crierShown c (List.range 8) = x at heq hshown hlat hnow
    have hk := x.checkLat_keeps
    have hk' := ({ x.checkLat with hallCfg := true } : State).tryReady_keeps
    have hregs' : regsBut readyRegs x ({ x.checkLat with hallCfg := true } : State).tryReady := hk.regs.trans hk'.regs
    refine ⟨_, heq, (congrArg (fun v : State × Mem × Bool => v.1.crierNow) hk'.view :).trans hnow.1,
      (congrArg (fun v : State × Mem × Bool => v.1.crierCfg) hk'.view :).trans hnow.2, (congrArg (fun v : State × Mem × Bool => v.1.hallCfg) hk'.view :),
      (State.get_of_regsBut hregs' F.CRIER_LAT_LAT 0 0 (by decide)).trans hlat, fun i hi => ⟨?_, ?_⟩⟩
    · exact (State.bit_of_regsBut hregs' F.CRIER_SRC_n_EN i 0 (by decide)).trans (hshown i hi).1
    · exact (State.get_of_regsBut hregs' F.CRIER_SRC_n_POS i 0 (by decide)).trans (hshown i hi).2
  case nothing =>
    intro s hc hw hd
    refine ⟨?_, ?_⟩
    · refine (show exec .crierConfigEffect s = execCrierConfigEffect s from rfl).trans ?_
      simp only [execCrierConfigEffect, hc]
    · refine (show exec .crierAction s = execCrierAction s from rfl).trans ?_
      simp only [execCrierAction, State.closeLone_of_nil hd, hw, firstChange]
  case one =>
    intro c s hw hd hen hmem
    have hc : firstChange s.crierWait = some c := by rw [hw]; rfl
    have heq := (execCrierAction_first hd hc).trans (if_pos ⟨hen, hmem⟩)
    refine ⟨_, heq, ?_, ?_, rfl, rfl, ?_, rfl, rfl⟩
    · exact (congrArg (fun l : List CrierChange => l.erase c) hw).trans (List.erase_cons_head ..)
    · exact congrArg Prod.fst ((Store.getD_put s.crier c.line c.line _ _).trans (if_pos rfl))
    · exact (regsBut.of_regs (regsBut.refl _ s) rfl).trans (State.crierTakes_regsBut _ _ _ _)
  case takes =>
    intro c s hd hc hen hmem u
    exact (execCrierAction_first hd hc).trans (if_pos ⟨hen, hmem⟩)
  case low =>
    intro c s hd hc hor
    refine (execCrierAction_first hd hc).trans (if_neg ?_)
    rintro ⟨hen, hmem⟩
    rcases hor with hor | hor
    · exact absurd (hen.symm.trans hor) (by decide)
    · exact absurd (hmem.symm.trans hor) (by decide)

end Sys2Proof.Machine
end

section
/-!
SUPPORT. Doorbells, fetches and allowances (O28).
-/

namespace Sys2Proof.Machine

section
variable {k word : Nat} {s : State} (hr : (s.stall k).dbRead = true) (ha : (s.stall k).st = .awake)
include hr ha

/-- The tests that a doorbell word of an AWAKE stall passes, and the halts that it meets otherwise (R366). -/
theorem execDoorbellReadDone_badProd (hp : 2 ^ (s.stall k).orderLog2 < (word % 2 ^ 32 + 2 ^ 32 - (s.stall k).cons) % 2 ^ 32) :
    execDoorbellReadDone k word s = .next (s.haltStall k 1) :=
  (if_neg (by simp [hr])).trans ((if_neg (not_not_intro ha)).trans (if_pos hp))

section
variable (hp : (word % 2 ^ 32 + 2 ^ 32 - (s.stall k).cons) % 2 ^ 32 ≤ 2 ^ (s.stall k).orderLog2)
include hp

theorem execDoorbellReadDone_badRcons (hc : 2 ^ (s.stall k).rcptLog2 < ((s.stall k).rprod + 2 ^ 32 - word / 2 ^ 32 % 2 ^ 32) % 2 ^ 32) :
    execDoorbellReadDone k word s = .next (s.haltStall k 2) :=
  (if_neg (by simp [hr])).trans ((if_neg (not_not_intro ha)).trans ((if_neg (Nat.not_lt.mpr hp)).trans (if_pos hc)))

/-- A good doorbell word is taken: what follows depends on the final read of R359 alone. -/
theorem execDoorbellReadDone_good (hc : ((s.stall k).rprod + 2 ^ 32 - word / 2 ^ 32 % 2 ^ 32) % 2 ^ 32 ≤ 2 ^ (s.stall k).rcptLog2) :
    execDoorbellReadDone k word s =
      let isNew := word % 2 ^ 32 != (s.stall k).prod
      let st' := { s.stall k with prod := word % 2 ^ 32, rcons := word / 2 ^ 32 % 2 ^ 32, dbRead := (s.stall k).again, again := false, finalRead := false, dbFails := 0, idleFrom := if isNew then s.fr else (s.stall k).idleFrom }
      if (s.stall k).finalRead then
        if isNew then .next ((s.setStall k st').writeState k .awake)
        else if (s.stall k).again then .next (s.setStall k { st' with finalRead := true })
        else .next ((s.setStall k { st' with st := .asleep }).refreshWatch)
      else .next (s.setStall k st') :=
  (if_neg (by simp [hr])).trans ((if_neg (not_not_intro ha)).trans ((if_neg (Nat.not_lt.mpr hp)).trans (if_neg (Nat.not_lt.mpr hc))))

end

end

/-- Settles O28: each row unfolds once its guards are decided; the order that a fetch takes is the one that it stores. -/
theorem bellWatcherAndFetch : Obligations.BellWatcherAndFetch := by
  unfold Obligations.BellWatcherAndFetch
  refine ⟨?poll, ?badProd, ?badRcons, ?good, ?finalNew, ?finalSleep, ?finalAgain, ?notAwake, ?fetch, ?tick⟩
  case poll =>
    intro f line s hi
    exact (show exec (.doorbellPoll f line) s = execDoorbellPoll f line s from rfl).trans (if_neg (by simp [hi]))
  case badProd =>
    intro k word s hr ha hp
    exact (show exec (.doorbellReadDone k word) s = execDoorbellReadDone k word s from rfl).trans
      (execDoorbellReadDone_badProd hr ha hp)
  case badRcons =>
    intro k word s hr ha hp hc
    exact (show exec (.doorbellReadDone k word) s = execDoorbellReadDone k word s from rfl).trans
      (execDoorbellReadDone_badRcons hr ha hp hc)
  case good =>
    intro k word s hr ha hf hp hc
    refine ((show exec (.doorbellReadDone k word) s = execDoorbellReadDone k word s from rfl).trans
      (execDoorbellReadDone_good hr ha hp hc)).trans ?_
    simp only [hf, Bool.false_eq_true, if_false, bne_iff_ne]
  case finalNew =>
    intro k word s hr ha hf hp hc hnew
    refine ((show exec (.doorbellReadDone k word) s = execDoorbellReadDone k word s from rfl).trans
      (execDoorbellReadDone_good hr ha hp hc)).trans ?_
    simp only [hf, bne_iff_ne, if_true, if_pos hnew]
  case finalSleep =>
    intro k word s hr ha hf hag hp hc hold
    refine ((show exec (.doorbellReadDone k word) s = execDoorbellReadDone k word s from rfl).trans
      (execDoorbellReadDone_good hr ha hp hc)).trans ?_
    simp only [hf, hag, hold, bne_self_eq_false, Bool.false_eq_true, ne_eq, not_true, if_true, if_false]
  case finalAgain =>
    intro k word s hr ha hf hag hp hc hold
    refine ((show exec (.doorbellReadDone k word) s = execDoorbellReadDone k word s from rfl).trans
      (execDoorbellReadDone_good hr ha hp hc)).trans ?_
    simp only [hf, hag, hold, bne_self_eq_false, Bool.false_eq_true, if_true, if_false]
  case notAwake =>
    intro k word s hr ha
    exact (show exec (.doorbellReadDone k word) s = execDoorbellReadDone k word s from rfl).trans
      ((if_neg (by simp [hr])).trans (if_pos ha))
  case fetch =>
    intro k s hd ht
    refine ⟨_, (show exec (.orderFetch k) s = execOrderFetch k s from rfl).trans (if_neg (by simp [hd, ht])),
      Store.get?_put_self .., (Store.getD_put ..).trans (if_pos rfl), rfl, rfl, rfl, rfl, rfl, fun n hn => ?_⟩
    exact Store.get?_put_of_ne _ _ (Nat.ne_of_lt hn)
  case tick =>
    intro k s
    exact ⟨rfl, rfl⟩

end Sys2Proof.Machine
end

section
/-!
SUPPORT. The checks of a fetched order, fences and receipts (O29).
-/

namespace Sys2Proof.Machine

/-- What the release of an order's resources leaves besides the order and its receipt slots. -/
def State.issueView (s : State) : List RaisedReceipt × List HostWrite × Mem × Store Nat Stall × Store Nat Work :=
  (s.receipts, s.tx, s.mem, s.stalls, s.works)

theorem foldl_issueView {α : Type} (f : State → α → State) (hf : ∀ t x, (f t x).issueView = t.issueView) (l : List α) (s : State) :
    (l.foldl f s).issueView = s.issueView := by
  induction l generalizing s with
  | nil => rfl
  | cons x l ih => exact (ih _).trans (hf s x)

theorem ite_issueView (p : Prop) [Decidable p] {s t : State} (h : t.issueView = s.issueView) : (if p then t else s).issueView = s.issueView := by
  split
  · exact h
  · rfl

theorem State.releaseBurst_issueView (s : State) (k : Nat) (w : Work) : (s.releaseBurst k w).issueView = s.issueView := by
  unfold State.releaseBurst
  extract_lets s₁
  have h₁ : s₁.issueView = s.issueView := by
    simp only [s₁]
    exact ite_issueView _ (by refine foldl_issueView _ ?_ _ _; exact fun _ _ => rfl)
  split
  · exact h₁
  · exact h₁

theorem State.finishFill_issueView (s : State) (w : Work) : (s.finishFill w).issueView = s.issueView := by
  unfold State.finishFill
  refine foldl_issueView _ ?_ _ _
  exact fun _ _ => rfl

theorem State.refreshOwned_issueView (s : State) (cs : List Nat) : (s.refreshOwned cs).issueView = s.issueView := by
  unfold State.refreshOwned
  refine foldl_issueView _ ?_ _ _
  exact fun _ _ => rfl

theorem State.releaseWatch_issueView (s : State) (k : Nat) : (s.releaseWatch k).issueView = s.issueView := by
  unfold State.releaseWatch
  split
  · rfl
  · extract_lets s₁ s₂
    have h₂ : s₂.issueView = s.issueView := by
      refine foldl_issueView _ ?_ _ s₁
      exact fun _ _ => rfl
    exact h₂

theorem State.countEnded_issueView (s : State) (f status : Nat) : (s.countEnded f status).issueView = s.issueView := by
  unfold State.countEnded
  extract_lets v wd fn counts s₁ s₂
  have h₁ : s₁.issueView = s.issueView := by
    simp only [s₁]
    split <;> rfl
  have h₂ : s₂.issueView = s₁.issueView := by
    simp only [s₂]
    split <;> rfl
  split <;> exact h₂.trans h₁

theorem Store.get?_map_value {κ α : Type} [DecidableEq κ] (f : κ × α → α) (m : Store κ α) {k : κ} (h : Store.get? m k = none) :
    Store.get? (m.map fun p => (p.1, f p)) k = none := by
  induction m with
  | nil => rfl
  | cons p m ih =>
    simp only [Store.get?] at h
    simp only [List.map_cons, Store.get?]
    split at h
    · exact absurd h (by simp)
    · exact (if_neg ‹_›).trans (ih h)

theorem State.wakeDelayList_work?_none {s : State} {k : Nat} (h : s.work? k = none) : s.wakeDelayList.work? k = none := by
  have hmap : s.wakeDelayList.works = s.works.map fun p => (p.1, if p.2.stage = .waiting then { p.2 with release := min p.2.release s.nextTick } else p.2) :=
    List.map_congr_left fun p _ => by split <;> rfl
  exact (congrArg (Store.get? · k) hmap).trans (Store.get?_map_value _ _ h)

/-- The release of an order removes it and frees its receipt slots; ring entries, receipts and requests stay. -/
theorem State.releaseWork_spec {s : State} {k : Nat} {w : Work} (status : Nat) (h : s.work? k = some w) :
    let t := s.releaseWork k status
    t.receipts = s.receipts ∧ t.tx = s.tx ∧ t.mem = s.mem ∧ (t.stall w.stall).rprod = (s.stall w.stall).rprod ∧ t.work? k = none := by
  unfold State.releaseWork
  split
  · exact absurd (h.symm.trans ‹_›) (by simp)
  rename_i w' hw'
  obtain rfl := Option.some.inj (h.symm.trans hw')
  extract_lets s₁ s₂ s₃ s₄ st s₅ s₆ s₇ t
  have h₁ : s₁.issueView = s.issueView := ite_issueView _ (State.releaseBurst_issueView ..)
  have h₂ : s₂.issueView = s.issueView := (ite_issueView _ (ite_issueView _ (State.finishFill_issueView ..))).trans h₁
  have h₃ : s₃.issueView = s.issueView := (State.releaseWatch_issueView ..).trans h₂
  have h₄ : s₄.issueView = s.issueView := (by simp only [s₄]; split <;> rfl : s₄.issueView = s₃.issueView).trans h₃
  have h₇ : s₇.issueView = s₆.issueView := ite_issueView _ (State.refreshOwned_issueView ..)
  simp only [State.issueView, Prod.mk.injEq] at h₄ h₇
  obtain ⟨hr, ht, hm, hs, -⟩ := h₄
  obtain ⟨hr', ht', hm', hs', hw'⟩ := h₇
  have hnone : s₇.work? k = none := (congrArg (Store.get? · k) hw').trans ((Store.get?_del ..).trans (if_pos rfl))
  have hprod : (s₇.stall w.stall).rprod = (s.stall w.stall).rprod := by
    refine (congrArg (fun m => (Store.getD m w.stall {}).rprod) hs').trans ?_
    refine (congrArg Stall.rprod ((Store.getD_put ..).trans (if_pos rfl))).trans ?_
    exact congrArg (fun m => (Store.getD m w.stall {}).rprod) hs
  simp only [t]
  split
  · exact ⟨hr'.trans hr, ht'.trans ht, hm'.trans hm, hprod, State.wakeDelayList_work?_none hnone⟩
  · exact ⟨hr'.trans hr, ht'.trans ht, hm'.trans hm, hprod, hnone⟩

/-- A receipt that is issued enters the transmit queue, uses a slot of its order, and takes the ring on by one entry (R353, R364). -/
theorem State.issueReceipt_spec (s : State) (k : Nat) (w : Work) (r : RaisedReceipt) :
    let t := s.issueReceipt k w r
    t.receipts = s.receipts ∧ t.mem = s.mem ∧ (t.stall w.stall).rprod = ((s.stall w.stall).rprod + 1) % 2 ^ 32 ∧
      t.tx = s.tx ++ [.receipt w.fn w.stall ((s.stall w.stall).rcptBase + 64 * ((s.stall w.stall).rprod % 2 ^ (s.stall w.stall).rcptLog2)) (s.receiptOf w r)] ∧
      t.work? k = some { w with slots := w.slots - 1 } := by
  unfold State.issueReceipt
  extract_lets st s₁ s₂ s₃ t
  have hprod : (s₃.stall w.stall).rprod = (st.rprod + 1) % 2 ^ 32 := congrArg Stall.rprod ((Store.getD_put ..).trans (if_pos rfl))
  have hwork : s₃.work? k = some { w with slots := w.slots - 1 } := Store.get?_put_self ..
  simp only [t]
  split
  · exact ⟨rfl, rfl, hprod, rfl, hwork⟩
  · exact ⟨rfl, rfl, hprod, rfl, hwork⟩

section
variable {k : Nat} {w : Work} {b : Bytes} {s : State} (hk : s.work? k = some w) (hw : w.stage = .fetched)
include hk hw

theorem execOrderReceived_fetched : execOrderReceived k b s =
    if s.malformed { w with ord := b } ≠ 0 then .next ((s.setWork k { w with ord := b }).finalReceipt k Status.malformed (s.malformed { w with ord := b }))
    else if needsBlock ({ w with ord := b } : Work).opcode then .next (s.setWork k { w with ord := b, stage := .blockRead })
    else .next (s.permit k { w with ord := b }) := by
  unfold execOrderReceived
  simp only [hk]
  exact if_neg (not_not_intro hw)

end

theorem Work.opcode_ne_burst {w : Work} (h : needsBlock w.opcode = false) : w.opcode ≠ Op.burst := by
  intro hb
  rw [hb] at h
  exact absurd h (by decide)

section
variable {k : Nat} {w : Work} {d m p : Bytes} {s : State} (hk : s.work? k = some w)
include hk

theorem execHostReadCompletion_block (hw : w.stage = .blockRead) :
    execHostReadCompletion k d m p s = .next (s.blockArrived k { w with blk := d, meas := m, parts := p }) := by
  unfold execHostReadCompletion
  simp only [hk]
  exact if_pos hw

theorem execHostReadCompletion_data (hw : w.stage = .dataRead) : execHostReadCompletion k d m p s =
    if w.opcode = Op.timingLoad then .next (s.timingImage k w d)
    else if w.opcode = Op.frameLaunch then .next (s.queueFrame k w d)
    else if w.opcode = Op.graph then .next (s.setWork k { w with meas := d, stage := .routed })
    else .next (s.setWork k { w with data := d }) := by
  unfold execHostReadCompletion
  simp only [hk]
  exact (if_neg (by rw [hw]; decide)).trans (if_neg (not_not_intro hw))

end

theorem execReceiptWrite_first {s : State} {r : RaisedReceipt} {w : Work} (hr : s.receipts.find? s.receiptFirst = some r)
    (hk : s.work? r.work = some w) : execReceiptWrite s =
      let u := { s with receipts := s.receipts.erase r }
      let v := if u.mayIssue w.fn ∧ w.slots ≠ 0 then u.issueReceipt r.work w r else u
      if r.final then .next ((v.countEnded w.fn r.status).releaseWork r.work r.status) else .next v := by
  unfold execReceiptWrite
  simp only [hr]
  simp only [show State.work? { s with receipts := s.receipts.erase r } r.work = some w from hk]

/-- The report of a failed read touches no stall and no order (R343). -/
theorem State.reportRead_frame (s : State) (e : ReadFailure) (f : Nat) :
    (s.reportRead e f).stalls = s.stalls ∧ (s.reportRead e f).works = s.works := by
  unfold State.reportRead
  extract_lets s₁
  split
  · exact ⟨rfl, rfl⟩
  · split <;> exact ⟨rfl, rfl⟩

/-- Settles O29: each row unfolds once its guards are decided; a written receipt rests on what the issue and the release of an order change. -/
theorem orderChecksAndReceipts : Obligations.OrderChecksAndReceipts := by
  unfold Obligations.OrderChecksAndReceipts
  refine ⟨?malformed, ?block, ?denied, ?free, ?badBlock, ?badEntry, ?goodBlock, ?timing, ?frame, ?graph, ?data, ?fence, ?written, ?unwritten, ?failed,
    ?blockFailed, ?openFailed⟩
  case malformed =>
    intro k w b s hk hw v hm
    exact ((show exec (.orderReceived k b) s = execOrderReceived k b s from rfl).trans (execOrderReceived_fetched hk hw)).trans (if_pos hm)
  case block =>
    intro k w b s hk hw v hm hn
    exact ((show exec (.orderReceived k b) s = execOrderReceived k b s from rfl).trans (execOrderReceived_fetched hk hw)).trans
      ((if_neg (not_not_intro hm)).trans (if_pos hn))
  case denied =>
    intro k w b s hk hw v hm hn hd
    refine ((show exec (.orderReceived k b) s = execOrderReceived k b s from rfl).trans (execOrderReceived_fetched hk hw)).trans
      ((if_neg (not_not_intro hm)).trans ((if_neg (by simp [v] at hn; simp [hn])).trans ?_))
    exact congrArg Host.Outcome.next ((if_neg (Work.opcode_ne_burst hn)).trans (if_pos hd))
  case free =>
    intro k w b s hk hw v hm hn hd
    refine ((show exec (.orderReceived k b) s = execOrderReceived k b s from rfl).trans (execOrderReceived_fetched hk hw)).trans
      ((if_neg (not_not_intro hm)).trans ((if_neg (by simp [v] at hn; simp [hn])).trans ?_))
    exact congrArg Host.Outcome.next ((if_neg (Work.opcode_ne_burst hn)).trans (if_neg (not_not_intro hd)))
  case badBlock =>
    intro k w d m p s hk hw v hb
    refine ((show exec (.hostReadCompletion k d m p) s = execHostReadCompletion k d m p s from rfl).trans (execHostReadCompletion_block hk hw)).trans ?_
    exact congrArg Host.Outcome.next (if_pos (by simp [v] at hb; simp [hb]))
  case badEntry =>
    intro k w d m p s hk hw v hb ho he
    refine ((show exec (.hostReadCompletion k d m p) s = execHostReadCompletion k d m p s from rfl).trans (execHostReadCompletion_block hk hw)).trans ?_
    exact congrArg Host.Outcome.next ((if_neg (by simp [v] at hb; simp [hb])).trans (if_pos ⟨ho, by simp only [v] at he; rw [he]; rfl⟩))
  case goodBlock =>
    intro k w d m p s hk hw v hb he
    refine ((show exec (.hostReadCompletion k d m p) s = execHostReadCompletion k d m p s from rfl).trans (execHostReadCompletion_block hk hw)).trans ?_
    refine congrArg Host.Outcome.next ((if_neg (by simp [v] at hb; simp [hb])).trans (if_neg fun h => ?_))
    have hc := he h.1
    simp only [v] at hc
    exact absurd h.2 (by rw [hc]; decide)
  case timing =>
    intro k w d m p s hk hw ho
    exact ((show exec (.hostReadCompletion k d m p) s = execHostReadCompletion k d m p s from rfl).trans (execHostReadCompletion_data hk hw)).trans (if_pos ho)
  case frame =>
    intro k w d m p s hk hw ho
    exact ((show exec (.hostReadCompletion k d m p) s = execHostReadCompletion k d m p s from rfl).trans (execHostReadCompletion_data hk hw)).trans
      ((if_neg (by rw [ho]; decide)).trans (if_pos ho))
  case graph =>
    intro k w d m p s hk hw ho
    exact ((show exec (.hostReadCompletion k d m p) s = execHostReadCompletion k d m p s from rfl).trans (execHostReadCompletion_data hk hw)).trans
      ((if_neg (by rw [ho]; decide)).trans ((if_neg (by rw [ho]; decide)).trans (if_pos ho)))
  case data =>
    intro k w d m p s hk hw ho
    simp only [List.mem_cons, List.not_mem_nil, or_false, not_or] at ho
    obtain ⟨htiming, hframe, hgraph⟩ := ho
    exact ((show exec (.hostReadCompletion k d m p) s = execHostReadCompletion k d m p s from rfl).trans (execHostReadCompletion_data hk hw)).trans
      ((if_neg htiming).trans ((if_neg hframe).trans (if_neg hgraph)))
  case fence =>
    intro k w s hk hw hf
    refine (show exec (.fenceRelease k) s = execFenceRelease k s from rfl).trans ?_
    unfold execFenceRelease
    simp only [hk]
    exact if_pos ⟨hw, by rw [hf]; rfl⟩
  case written =>
    intro w r s hr hk hi hs u
    have heq := (show exec .receiptWrite s = execReceiptWrite s from rfl).trans (execReceiptWrite_first hr hk)
    simp only [if_pos (show State.mayIssue { s with receipts := s.receipts.erase r } w.fn = true ∧ w.slots ≠ 0 from ⟨hi, hs⟩)] at heq
    have hissue := u.issueReceipt_spec r.work w r
    simp only [u] at hissue ⊢
    generalize ({ s with receipts := s.receipts.erase r } : State).issueReceipt r.work w r = v at heq hissue
    obtain ⟨hrec, hmem, hprod, htx, hwork⟩ := hissue
    cases hfin : r.final with
    | false => exact ⟨v, heq.trans (if_neg (by rw [hfin]; decide)), hrec, hprod, htx, hmem, fun h => absurd h (by decide)⟩
    | true =>
      have hcount := v.countEnded_issueView w.fn r.status
      have heq' := heq.trans (if_pos hfin)
      generalize v.countEnded w.fn r.status = x at hcount heq'
      simp only [State.issueView, Prod.mk.injEq] at hcount
      obtain ⟨crec, ctx, cmem, cstalls, cworks⟩ := hcount
      have hgone := x.releaseWork_spec r.status ((congrArg (Store.get? · r.work) cworks).trans hwork)
      generalize x.releaseWork r.work r.status = y at hgone heq'
      obtain ⟨grec, gtx, gmem, gprod, gwork⟩ := hgone
      refine ⟨y, heq', grec.trans (crec.trans hrec), ?_, gtx.trans (ctx.trans htx), gmem.trans (cmem.trans hmem), fun _ => gwork⟩
      exact gprod.trans ((congrArg (fun m => (Store.getD m w.stall {}).rprod) cstalls).trans hprod)
  case unwritten =>
    intro w r s hr hk hor u
    refine ((show exec .receiptWrite s = execReceiptWrite s from rfl).trans (execReceiptWrite_first hr hk)).trans ?_
    have hno : ¬ (State.mayIssue { s with receipts := s.receipts.erase r } w.fn = true ∧ w.slots ≠ 0) := by
      rintro ⟨hi, hs⟩
      rcases hor with h | h
      · exact absurd (h.symm.trans hi) (by decide)
      · exact hs h
    simp only [if_neg hno]
    split <;> rfl
  case failed =>
    intro k e s
    exact ⟨rfl, rfl, rfl⟩
  case blockFailed =>
    intro k w e s hk hw ha
    refine (show exec (.readFailed e (.data k)) s = execReadFailed e (.data k) s from rfl).trans ?_
    have hfn : s.readFn (.data k) = w.fn := by simp only [State.readFn, hk, Option.map_some, Option.getD_some]
    simp only [execReadFailed, hfn]
    have hk' : (s.reportRead e w.fn).work? k = some w := (congrArg (Store.get? · k) (s.reportRead_frame e w.fn).2).trans hk
    simp only [State.dataReadFailed, hk', hw, ha, Bool.false_eq_true, if_false]
    rfl
  case openFailed =>
    intro k e s ho
    have hst : ∀ f, (s.reportRead e f).stall k = s.stall k := fun f => congrArg (fun m : Store Nat Stall => Store.getD m k {}) (s.reportRead_frame e f).1
    have heq : exec (.readFailed e (.open_ k)) s =
        .next (((s.reportRead e (s.stall k).fn).setStall k { s.stall k with opening := false }).ctlReject (s.stall k).fn 4) := by
      refine (show exec (.readFailed e (.open_ k)) s = execReadFailed e (.open_ k) s from rfl).trans ?_
      simp only [execReadFailed, State.readFn, hst, ho, if_true]
    refine ⟨_, heq, congrArg Stall.opening ((Store.getD_put ..).trans (if_pos rfl)), ?_, State.bit_setBit _ _ _ _ (by decide) (by decide)⟩
    exact (State.get_setBit_apart _ _ _ _ _ (by decide)).trans (State.get_set_self _ _ _ _ _ (by decide))

end Sys2Proof.Machine
end

section
/-!
SUPPORT. The Toll's decisions, the delay list and the Awning (O32).
-/

namespace Sys2Proof.Machine

theorem Verdict.eq_refuse {v : Verdict} {c : Nat} (h : (match v with | .refuse x => some x | _ => none) = some c) : v = .refuse c := by
  cases v with
  | refuse x => exact congrArg Verdict.refuse (Option.some.inj h)
  | wait => exact nomatch h
  | pass r x post => exact nomatch h

theorem Verdict.eq_wait {v : Verdict} (h : (match v with | .wait => true | _ => false) = true) : v = .wait := by
  cases v with
  | refuse x => exact nomatch h
  | wait => rfl
  | pass r x post => exact nomatch h

theorem Verdict.eq_pass {v : Verdict} {r : Resv} {x : Nat} {post : Store Nat Postpone}
    (h : (match v with | .pass a b c => some (a, b, c) | _ => none) = some (r, x, post)) : v = .pass r x post := by
  cases v with
  | refuse x => exact nomatch h
  | wait => exact nomatch h
  | pass r x post =>
    cases Option.some.inj h
    rfl

/-- The state in which the Toll decides: PACE shows the reading. -/
def State.atDecision (s : State) : State := s.set F.TOLL_STATUS_PACE (s.get F.PWR_PACE_READING)

section
variable {k : Nat} {w : Work} {s : State} (hf : firstBy (·.key) (s.works.filter fun p => p.2.stage == .offered) = some (k, w))
include hf

theorem execTollDecision_lone (hj : w.opcode = Op.burst → w.isJoint = false) : execTollDecision s =
    match s.atDecision.tollVerdict k w with
    | .refuse c => .next (s.atDecision.tollRefuse k w c)
    | .wait => .next (s.atDecision.defer k w)
    | .pass r s0 post => .next ((s.atDecision.take k w r s0 post).admitOrder k) := by
  unfold execTollDecision
  simp only [hf]
  refine (if_neg ?_).trans rfl
  rintro ⟨ho, hjoint⟩
  exact absurd (hjoint.symm.trans (hj ho)) (by decide)

theorem execTollDecision_joint (ho : w.opcode = Op.burst) (hj : w.isJoint = true) : execTollDecision s = .next (s.atDecision.decideJoint k w) := by
  unfold execTollDecision
  simp only [hf]
  exact if_pos ⟨ho, hj⟩

end

/-- The state in which a prepared part of a joint burst is decided. -/
def State.jointDeciding (s : State) (k : Nat) (w : Work) : State :=
  s.setJoint w.jointId { (s.joint w.jointId).getD {} with phase := .deciding, work := some k, timer := none }

theorem State.decideJoint_of_none {s : State} {k : Nat} {w : Work} (h : s.jointAwaits k w = none) : s.decideJoint k w =
    match (s.jointDeciding k w).tollVerdict k w with
    | .refuse c => (s.jointDeciding k w).jointRefuse k w c
    | .wait => (s.jointDeciding k w).defer k w
    | .pass r s0 post => (s.jointDeciding k w).jointHeld k w r s0 post := by
  unfold State.decideJoint
  simp only [h]
  rfl

theorem foldl_works {α : Type} (f : State → α → State) (hf : ∀ t x, (f t x).works = t.works) (l : List α) (s : State) :
    (l.foldl f s).works = s.works := by
  induction l generalizing s with
  | nil => rfl
  | cons x l ih => exact (ih _).trans (hf s x)

/-- An order that takes its resources is kept with its start instant (R405). -/
theorem State.take_works (s : State) (k : Nat) (w : Work) (r : Resv) (x : Tu) (post : Store Nat Postpone) :
    ∃ v : Work, (s.take k w r x post).works = Store.put s.works k v ∧ v.s0 = x ∧ v.held = true := by
  unfold State.take
  extract_lets pace units v s₁ s₂ s₃ s₄ widths q s₅
  have h₃ : s₃.works = Store.put s.works k v := by
    simp only [s₃]
    split <;> rfl
  have h₄ : s₄.works = s₃.works := by
    refine foldl_works _ ?_ _ s₃
    exact fun _ _ => rfl
  refine ⟨v, ?_, rfl, rfl⟩
  refine Eq.trans ?_ h₃
  split
  · exact h₄
  · split
    · refine foldl_works _ ?_ _ s₃
      exact fun _ _ => rfl
    · split <;> rfl

theorem State.admitOrder_work? {s : State} {k : Nat} {w : Work} (h : s.work? k = some w) :
    (s.admitOrder k).work? k = some { w with stage := .admitted, admittedRcpt := true } := by
  unfold State.admitOrder
  simp only [h]
  exact Store.get?_put_self ..

theorem execWindowStart_admitted {k : Nat} {w : Work} {s : State} (hk : s.work? k = some w) (hw : w.stage = .admitted) : execWindowStart k s =
    if (Store.keys s.warnSince).any fun r => { w with stage := .window }.inDipScope r
    then .next (((s.advanceTo w.resv.start).setWork k { w with stage := .window }).voidWork k 0x226)
    else .next ((s.advanceTo w.resv.start).setWork k { w with stage := .window }) := by
  unfold execWindowStart
  simp only [hk]
  exact (if_neg (not_not_intro hw)).trans rfl

/-- Everything but the registers. -/
def State.bare (s : State) : State := { s with regs := [] }

/-- A step that changes nothing but registers of the listed families. -/
abbrev RegStep (l : List RegName) (s t : State) : Prop := Keeps State.bare l s t

/-- It keeps each field that is not the registers. -/
theorem RegStep.field {β : Type} {l : List RegName} {s t : State} (h : RegStep l s t) (g : State → β) (hg : ∀ u, g u.bare = g u) : g t = g s :=
  (hg t).symm.trans ((congrArg g h.view).trans (hg s))

theorem RegStep.set {l : List RegName} {s t : State} (h : RegStep l s t) (f : Fld) (v i j : Nat) (hf : f.reg ∈ l) : RegStep l s (t.set f v i j) :=
  Keeps.set h f v i j hf rfl

/-- What the Awning shows: its temperatures and the headroom (R411). -/
theorem State.publishAwn_regs (s : State) : RegStep [.AWN_TEMP_n, .AWN_HEADROOM] s s.publishAwn := by
  unfold State.publishAwn
  extract_lets s₁
  have h₁ : RegStep [.AWN_TEMP_n, .AWN_HEADROOM] s s₁ := by
    refine Keeps.foldl _ ?_ _ s
    exact fun t n => RegStep.set (.refl _ _ t) _ _ _ _ (by decide)
  clear_value s₁
  exact RegStep.set h₁ _ _ _ _ (by decide)

/-- The energies drawn are added up and shown (R598). -/
theorem State.countEnergy_regs (s : State) (l : List Nat) :
    RegStep [.PWR_ENERGY_n] { s with energy := (List.range 20).map fun d => s.energy.getD d 0 + l.getD d 0 } (s.countEnergy l) := by
  unfold State.countEnergy
  extract_lets total s₁
  have h₁ : RegStep [.PWR_ENERGY_n] s s₁ := by
    refine Keeps.foldl _ ?_ _ s
    exact fun t n => RegStep.set (.refl _ _ t) _ _ _ _ (by decide)
  clear_value s₁
  exact ⟨congrArg (fun u : State => { u with energy := total }) h₁.view, h₁.regs⟩

theorem State.awnStep_congr {s t : State} (h : regsBut [.PWR_ENERGY_n] s t) (a p : List Rat) : t.awnStep a p = s.awnStep a p := by
  have hres : t.awnRes = s.awnRes := funext fun n => congrArg (fun x : Nat => (x : Rat) / 1000) (State.get_of_regsBut h F.AWN_RES_n_RES n 0 (by decide))
  have hcap : t.awnCap = s.awnCap := funext fun n => congrArg (fun x : Nat => (x : Rat) / 100) (State.get_of_regsBut h F.AWN_CAP_n_CAP n 0 (by decide))
  have hcool : t.awnCool = s.awnCool := congrArg (fun x : Nat => (x : Rat) / 10) (State.get_of_regsBut h F.AWN_COOLANT_TEMP 0 0 (by decide))
  simp only [State.awnStep, hres, hcap, hcool]

/-- A list of detections at one instant. -/
theorem foldl_detect (l : List Nat) (d : Nat → Detection) (s : State) :
    l.foldl (fun (s : State) n => s.detect (d n)) s = { s with detections := s.detections ++ l.map fun n => { d n with at_ := s.fr } } := by
  induction l generalizing s with
  | nil => exact congrArg (fun l => { s with detections := l }) (List.append_nil s.detections).symm
  | cons n l ih => exact (ih _).trans (by simp [State.detect])

/-- The temperatures of the four nodes, none below its sensor (R411). -/
def State.sensed (s : State) (a b c d : Int) : State :=
  { s with awn := [max (s.awn.getD 0 0) ((a : Rat) / 10), max (s.awn.getD 1 0) ((b : Rat) / 10), max (s.awn.getD 2 0) ((c : Rat) / 10),
      max (s.awn.getD 3 0) ((d : Rat) / 10)] }

/-- The report of a sensor above its node's temperature. -/
def State.sensorAbove (s : State) (p : Bool) : State := if p then (s.setBit F.AWN_EVENTS_SENSOR_ABOVE).raise 0x475 s.fr else s

theorem State.sensorAbove_regs (s : State) (p : Bool) : RegStep [.AWN_EVENTS] { s with events := (s.sensorAbove p).events } (s.sensorAbove p) := by
  unfold State.sensorAbove
  split
  · exact RegStep.set (.refl _ _ _) _ _ _ _ (by decide)
  · exact .refl _ _ _

theorem execAwningSensorCorrect_four (s : State) (a b c d : Int) : ∃ p, execAwningSensorCorrect [a, b, c, d] s =
    .next ((((List.range 3).filter fun n => decide (1050 < [a, b, c, d].getD n 0)).foldl (fun (s : State) n =>
      s.detect { kind := 9, cause := 0x227, source := 0xA00 + n }) (s.sensed a b c d)).sensorAbove p).publishAwn := ⟨_, rfl⟩

theorem State.limitWrite_of {s : State} {r : RegName} {v : Word} : s.limitWrite r v =
    if (s.wr ⟨r, 0, 0⟩ (v &&& BitVec.ofNat 32 r.spec.rw)).demandOk then s.wr ⟨r, 0, 0⟩ (v &&& BitVec.ofNat 32 r.spec.rw)
    else ((s.wr ⟨r, 0, 0⟩ (v &&& BitVec.ofNat 32 r.spec.rw)).setBit F.AWN_EVENTS_LIMIT_WRITE).raise 0x474 s.fr := rfl

/-- The three limit registers, by their place. -/
theorem execAwnLimitWrite_limit {x : Nat} {r : RegName} {v : Word} {s : State} (hb : s.booted = true)
    (h : [RegName.AWN_SUPPLY, .AWN_COOLANT, .AWN_GUARD][x]? = some r) : execAwnLimitWrite x v s = .next (s.limitWrite r v) := by
  refine (if_neg (by simp [hb])).trans ?_
  match x, h with
  | 0, h => cases Option.some.inj h; rfl
  | 1, h => cases Option.some.inj h; rfl
  | 2, h => cases Option.some.inj h; rfl
  | x + 3, h => exact absurd h (by simp)

/-- Settles O32: each verdict of the Toll has its row; the Awning's rows rest on what its registers show. -/
theorem tollAndAwning : Obligations.TollAndAwning := by
  unfold Obligations.TollAndAwning
  refine ⟨?none, ?refuse, ?wait, ?pass, ?awaits, ?jointRefuse, ?jointWait, ?jointPass, ?noTick, ?tick, ?window, ?dip, ?update, ?sensor, ?limit, ?overLimit⟩
  case none =>
    intro s h
    refine (show exec .tollDecision s = execTollDecision s from rfl).trans ?_
    have hnil : (s.works.filter fun p => p.2.stage == .offered) = [] := List.filter_eq_nil_iff.mpr fun p hp => by simpa using h p hp
    simp only [execTollDecision, hnil, firstBy]
  case refuse =>
    intro k c w s hf hj u hv
    refine ((show exec .tollDecision s = execTollDecision s from rfl).trans (execTollDecision_lone hf hj)).trans ?_
    rw [show s.atDecision.tollVerdict k w = .refuse c from Verdict.eq_refuse hv]
    rfl
  case wait =>
    intro k w s hf hj u hv
    refine ((show exec .tollDecision s = execTollDecision s from rfl).trans (execTollDecision_lone hf hj)).trans ?_
    rw [show s.atDecision.tollVerdict k w = .wait from Verdict.eq_wait hv]
    rfl
  case pass =>
    intro k x w r post s hf hj u hv
    refine ⟨(s.atDecision.take k w r x post).admitOrder k, ?_, rfl, ?_⟩
    · refine ((show exec .tollDecision s = execTollDecision s from rfl).trans (execTollDecision_lone hf hj)).trans ?_
      rw [show s.atDecision.tollVerdict k w = .pass r x post from Verdict.eq_pass hv]
    · obtain ⟨v, hworks, hs0, hheld⟩ := s.atDecision.take_works k w r x post
      have hwork : (s.atDecision.take k w r x post).work? k = some v := (congrArg (Store.get? · k) hworks).trans (Store.get?_put_self ..)
      rw [State.admitOrder_work? hwork, Option.map_some, hs0, hheld]
  case awaits =>
    intro k w s hf ho hj u hnone hcoord
    refine ((show exec .tollDecision s = execTollDecision s from rfl).trans (execTollDecision_joint hf ho hj)).trans (congrArg Host.Outcome.next ?_)
    have ha : s.atDecision.jointAwaits k w =
        some ((s.atDecision.setJoint w.jointId { work := some k, timer := some (s.fr + jointTimer) }).modWork k fun w => { w with stage := .joint }) := by
      unfold State.jointAwaits
      simp only [show s.atDecision.joint w.jointId = none from hnone]
      exact (if_neg (by rw [show s.atDecision.coordinates w = false from hcoord]; decide)).trans rfl
    simp only [State.decideJoint, ha]
    rfl
  case jointRefuse =>
    intro k c w s hf ho hj u hnone v hv
    refine ((show exec .tollDecision s = execTollDecision s from rfl).trans (execTollDecision_joint hf ho hj)).trans (congrArg Host.Outcome.next ?_)
    refine (State.decideJoint_of_none hnone).trans ?_
    rw [show (u.jointDeciding k w).tollVerdict k w = .refuse c from Verdict.eq_refuse hv]
    rfl
  case jointWait =>
    intro k w s hf ho hj u hnone v hv
    refine ((show exec .tollDecision s = execTollDecision s from rfl).trans (execTollDecision_joint hf ho hj)).trans (congrArg Host.Outcome.next ?_)
    refine (State.decideJoint_of_none hnone).trans ?_
    rw [show (u.jointDeciding k w).tollVerdict k w = .wait from Verdict.eq_wait hv]
    rfl
  case jointPass =>
    intro k x w r post s hf ho hj u hnone v hv
    refine ((show exec .tollDecision s = execTollDecision s from rfl).trans (execTollDecision_joint hf ho hj)).trans (congrArg Host.Outcome.next ?_)
    refine (State.decideJoint_of_none hnone).trans ?_
    rw [show (u.jointDeciding k w).tollVerdict k w = .pass r x post from Verdict.eq_pass hv]
    rfl
  case noTick =>
    intro s h
    refine (show exec .delayRelease s = execDelayRelease s from rfl).trans ?_
    simp only [execDelayRelease, h, firstBy]
  case tick =>
    intro k w s h
    refine (show exec .delayRelease s = execDelayRelease s from rfl).trans ?_
    simp only [execDelayRelease, h]
    rfl
  case window =>
    intro k w s hk hw hd
    exact ((show exec (.windowStart k) s = execWindowStart k s from rfl).trans (execWindowStart_admitted hk hw)).trans (if_neg (by rw [hd]; decide))
  case dip =>
    intro k w s hk hw hd
    exact ((show exec (.windowStart k) s = execWindowStart k s from rfl).trans (execWindowStart_admitted hk hw)).trans (if_pos hd)
  case update =>
    intro l s
    have henergy := s.countEnergy_regs l
    have heq : exec (.awningUpdate l) s = .next ({ s.countEnergy l with
        awn := (s.countEnergy l).awnStep (s.countEnergy l).awn (nodeDomains.map fun ds => ((ds.map fun d => l.getD d 0).sum : Rat) / 100) } : State).publishAwn := rfl
    generalize s.countEnergy l = t at henergy heq
    have hregs : regsBut [.PWR_ENERGY_n] s t := henergy.regs
    have hawn : t.awn = s.awn := henergy.field State.awn fun _ => rfl
    have hstep := State.awnStep_congr hregs t.awn (nodeDomains.map fun ds => ((ds.map fun d => l.getD d 0).sum : Rat) / 100)
    generalize t.awnStep t.awn (nodeDomains.map fun ds => ((ds.map fun d => l.getD d 0).sum : Rat) / 100) = a at hstep heq
    have hpub := ({ t with awn := a } : State).publishAwn_regs
    generalize ({ t with awn := a } : State).publishAwn = x at hpub heq
    refine ⟨x, heq, (hpub.field State.awn fun _ => rfl).trans (hstep.trans (by rw [hawn])),
      (hpub.field State.energy fun _ => rfl).trans (henergy.field State.energy fun _ => rfl), ?_,
      (hpub.field State.mem fun _ => rfl).trans (henergy.field State.mem fun _ => rfl),
      (hpub.field State.works fun _ => rfl).trans (henergy.field State.works fun _ => rfl)⟩
    exact (hregs.mono (by decide)).trans (hpub.regs.mono (by decide))
  case sensor =>
    intro a b c d s
    obtain ⟨p, heq⟩ := execAwningSensorCorrect_four s a b c d
    rw [foldl_detect] at heq
    generalize hl : (((List.range 3).filter fun n => decide (1050 < [a, b, c, d].getD n 0)).map fun n =>
      ({ kind := 9, cause := 0x227, source := 0xA00 + n, at_ := (s.sensed a b c d).fr } : Detection)) = l at heq
    have habove := ({ s.sensed a b c d with detections := (s.sensed a b c d).detections ++ l } : State).sensorAbove_regs p
    generalize ({ s.sensed a b c d with detections := (s.sensed a b c d).detections ++ l } : State).sensorAbove p = x at habove heq
    have hpub := x.publishAwn_regs
    generalize x.publishAwn = y at hpub heq
    refine ⟨y, heq, (hpub.field State.awn fun _ => rfl).trans (habove.field State.awn fun _ => rfl),
      (hpub.field State.detections fun _ => rfl).trans ((habove.field State.detections fun _ => rfl).trans (by rw [← hl]; rfl)), ?_,
      (hpub.field State.works fun _ => rfl).trans (habove.field State.works fun _ => rfl),
      (hpub.field State.mem fun _ => rfl).trans (habove.field State.mem fun _ => rfl)⟩
    exact (habove.regs.mono (by decide)).trans (hpub.regs.mono (by decide))
  case limit =>
    intro x r v s hb hr hd
    exact ((show exec (.awnLimitWrite x v) s = execAwnLimitWrite x v s from rfl).trans (execAwnLimitWrite_limit hb hr)).trans
      (congrArg Host.Outcome.next (if_pos hd))
  case overLimit =>
    intro x r v s hb hr hd
    exact ((show exec (.awnLimitWrite x v) s = execAwnLimitWrite x v s from rfl).trans (execAwnLimitWrite_limit hb hr)).trans
      (congrArg Host.Outcome.next (if_neg (by rw [hd]; decide)))

end Sys2Proof.Machine
end

section
/-!
SUPPORT. Work items on the cores (O33): the statement on WAIT_FOR speaks of the entry of the item that runs on the core, and the row moves the
entry that its key finds. A state whose store of orders lists a key twice tells the two apart.
-/

namespace Sys2Proof.Machine

/-- A work item that runs on a core. -/
def runningItem : Work := { stall := 0, fn := 0, idx := 0, ord := [Op.work], stage := .running }

/-- An order that was fetched, listed under the same key before it. -/
def fetchedOrder : Work := { stall := 0, fn := 0, idx := 0 }

/-- Core 0 runs the second entry of key 0; a lookup of that key finds the first. -/
def twoEntries : State := { works := [(0, fetchedOrder), (0, runningItem)], items := [(0, { core := some 0 })] }

theorem twoEntries_itemOn : twoEntries.itemOn 0 = some (0, runningItem) := by decide

/-- WAIT_FOR delays the entry that the lookup finds. -/
theorem waitFor_twoEntries : ∃ t, exec (.waitFor 0 1) twoEntries = .next t ∧ t.work? 0 = some { fetchedOrder with stage := .delayed } :=
  ⟨_, rfl, rfl⟩

/-- Refutes O33: its clause on a WAIT_FOR that delays its item has no hypothesis that the keys of the orders differ (the clause on shedding has
one). In `twoEntries` the item on core 0 is the second entry of its key, and WAIT_FOR moves the first. -/
theorem not_workItems : ¬ Obligations.WorkItems := by
  unfold Obligations.WorkItems
  intro h
  obtain ⟨-, -, -, -, -, -, -, -, -, -, -, -, -, -, -, -, hwait, -⟩ := h
  obtain ⟨t, ht, -, hwork, -⟩ := hwait 1 0 0 runningItem twoEntries twoEntries_itemOn rfl rfl (by decide) (by decide) (by decide)
  obtain ⟨u, hu, hfound⟩ := waitFor_twoEntries
  cases ht.symm.trans hu
  have hord : runningItem.ord = fetchedOrder.ord := congrArg (fun o : Option Work => (o.map Work.ord).getD []) (hwork.symm.trans hfound)
  exact absurd hord (by decide)

end Sys2Proof.Machine
end

section
/-!
SUPPORT. Graphs (O34): the statement on a suspension speaks of the entry of the graph that runs on the unit, and the row moves the entry that
its key finds. A state whose store of orders lists a key twice tells the two apart.
-/

namespace Sys2Proof.Machine

/-- A graph that runs on a unit. -/
def runningGraph : Work := { stall := 0, fn := 0, idx := 0, ord := [Op.graph], stage := .running }

/-- Unit 0, which a watch holds, runs the second entry of key 0; a lookup of that key finds the first. -/
def twoGraphs : State :=
  ({ works := [(0, fetchedOrder), (0, runningGraph)], graphs := [(0, { unit := some 0 })] } : State).set F.TALLY_MEAS_UNITS_HELD 1

theorem twoGraphs_graphOn : twoGraphs.graphOn 0 = some (0, runningGraph) := by decide

theorem twoGraphs_held : bitOf (twoGraphs.get F.TALLY_MEAS_UNITS_HELD) 0 = true :=
  congrArg (bitOf · 0) (State.get_set_self _ F.TALLY_MEAS_UNITS_HELD 1 0 0 (by decide))

/-- The suspension moves the entry that the lookup finds. -/
theorem graphSuspend_twoGraphs : ∃ t, exec (.graphSuspend 0) twoGraphs = .next t ∧ t.work? 0 = some { fetchedOrder with stage := .preempted } := by
  have heq : exec (.graphSuspend 0) twoGraphs = .next (((twoGraphs.setGraph 0
      { twoGraphs.graph 0 with unit := none, place := twoGraphs.headPlace, unacked := true }).nextNo).setStage 0 .preempted) := by
    refine (show exec (.graphSuspend 0) twoGraphs = execGraphSuspend 0 twoGraphs from rfl).trans ?_
    simp only [execGraphSuspend, twoGraphs_graphOn]
    exact if_pos ⟨rfl, twoGraphs_held⟩
  exact ⟨_, heq, rfl⟩

/-- Refutes O34: its clause on a suspended graph has no hypothesis that the keys of the orders differ. In `twoGraphs` the graph on unit 0 is the
second entry of its key, and the suspension moves the first. -/
theorem not_graphsAndNodes : ¬ Obligations.GraphsAndNodes := by
  unfold Obligations.GraphsAndNodes
  intro h
  obtain ⟨-, -, -, -, -, -, -, -, -, -, -, -, hsuspend, -⟩ := h
  obtain ⟨t, ht, -, hwork, -⟩ := hsuspend 0 0 runningGraph twoGraphs twoGraphs_graphOn rfl twoGraphs_held
  obtain ⟨u, hu, hfound⟩ := graphSuspend_twoGraphs
  cases ht.symm.trans hu
  have hord : runningGraph.ord = fetchedOrder.ord := congrArg (fun o : Option Work => (o.map Work.ord).getD []) (hwork.symm.trans hfound)
  exact absurd hord (by decide)

end Sys2Proof.Machine
end

section
/-!
SUPPORT. Events, routes and arrivals (O36).
-/

namespace Sys2Proof.Machine

/-- A presented event leaves the queue, and arrives later at the destination of each route that passes it (R454, R455). -/
def State.presented (s : State) (e : RaisedEvent) : State :=
  { s.advanceTo e.at_ with
    events := s.events.erase e
    arrivals := s.arrivals ++ ((s.routesOf e.source).filter fun n => routePasses e (s.get F.EVR_ROUTEn_0_POL n) (s.get F.EVR_ROUTEn_1_MARK_MASK n)).map fun n =>
      { dest := s.get F.EVR_ROUTEn_0_DEST n, source := e.source, at_ := e.at_ + destLatency (s.get F.EVR_ROUTEn_0_DEST n), route := n,
        action := s.get F.EVR_ROUTEn_0_ACTION n, fn := s.get F.EVR_ROUTEn_2_FUNC n, vector := s.get F.EVR_ROUTEn_2_VECTOR n } }

theorem State.crierRoute_pulse {s : State} {l action : Nat} {t : Tu} (h : 3 ≤ action) :
    s.crierRoute l action t = { s.driveCrier l true t with pulses := s.pulses ++ [(l, t + 40960)] } := by
  match action, h with
  | n + 3, _ => rfl

/-- The first arrival has left the queue. -/
def State.arrived (s : State) (a : Arrival) : State := { s.advanceTo a.at_ with arrivals := s.arrivals.erase a }

/-- The arrival acts at its destination, and is the last one there (R457). -/
def State.actsAt (s : State) (a : Arrival) : State := { s.arrived a with lastArrival := Store.put s.lastArrival a.dest a.at_ }

section
variable {a : Arrival} {s : State} (hf : firstArrival s.arrivals = some a)
include hf

theorem execEventArrival_refused (hlo : 0x100 ≤ a.dest) (hhi : a.dest < 0x108) (hc : s.crierTakesSource (a.dest - 0x100) a.source = false) :
    execEventArrival s = .next (s.arrived a) := by
  unfold execEventArrival
  simp only [hf]
  have hn : (!s.crierTakesSource (a.dest - 0x100) a.source) = true := by rw [hc]; rfl
  exact if_pos ⟨hlo, hhi, hn⟩

variable (hc : 0x100 ≤ a.dest → a.dest < 0x108 → s.crierTakesSource (a.dest - 0x100) a.source = true)
include hc

theorem execEventArrival_taken : execEventArrival s =
    let near : Bool := match Store.get? s.lastArrival a.dest with | some t => decide (a.at_ < t + 1024) | none => false
    if near then .next ((s.arrived a).countUp F.EVR_MERGED_CNT_COUNT) else .next ((s.actsAt a).act a) := by
  unfold execEventArrival
  simp only [hf]
  refine (if_neg ?_).trans rfl
  rintro ⟨hlo, hhi, hn⟩
  have hn' : (!s.crierTakesSource (a.dest - 0x100) a.source) = true := hn
  rw [hc hlo hhi] at hn'
  exact absurd hn' (by decide)

theorem execEventArrival_near {x : Tu} (hx : Store.get? s.lastArrival a.dest = some x) (hn : a.at_ < x + 1024) :
    execEventArrival s = .next ((s.arrived a).countUp F.EVR_MERGED_CNT_COUNT) := by
  refine (execEventArrival_taken hf hc).trans ?_
  simp only [hx]
  exact if_pos (decide_eq_true hn)

theorem execEventArrival_acts (hn : ∀ x, Store.get? s.lastArrival a.dest = some x → x + 1024 ≤ a.at_) :
    execEventArrival s = .next ((s.actsAt a).act a) := by
  refine (execEventArrival_taken hf hc).trans (if_neg ?_)
  cases hx : Store.get? s.lastArrival a.dest with
  | none => exact Bool.false_ne_true
  | some x => simpa using hn x hx

end

/-- A destination that is no Crier line is not held by a joint burst. -/
theorem execEventArrival_other {a : Arrival} {s : State} (hf : firstArrival s.arrivals = some a) (hd : a.dest < 0x100 ∨ 0x108 ≤ a.dest)
    (hn : ∀ x, Store.get? s.lastArrival a.dest = some x → x + 1024 ≤ a.at_) : execEventArrival s = .next ((s.actsAt a).act a) :=
  execEventArrival_acts hf (fun hlo hhi => by omega) hn

section
variable {n : Nat} {v : Word} {s : State} (hb : s.booted = true) (hn : n < 2048)
include hb hn

theorem execRouteWrite_busy (h : s.routeBusy (F.EVR_ROUTEn_0_DEST.get (s.rd ⟨.EVR_ROUTEn_0, n, 0⟩)) = true ∨
    s.routeBusy (F.EVR_ROUTEn_0_DEST.get (v &&& BitVec.ofNat 32 RegName.EVR_ROUTEn_0.spec.rw)) = true) :
    execRouteWrite n v s = .next (s.setBit F.EVR_EVENTS_SETUP_BLOCKED) :=
  (if_neg (by simp [hb, hn])).trans (if_pos h)

variable (ho : s.routeBusy (F.EVR_ROUTEn_0_DEST.get (s.rd ⟨.EVR_ROUTEn_0, n, 0⟩)) = false)
  (hw : s.routeBusy (F.EVR_ROUTEn_0_DEST.get (v &&& BitVec.ofNat 32 RegName.EVR_ROUTEn_0.spec.rw)) = false)
include ho hw

theorem execRouteWrite_free : execRouteWrite n v s =
    let o := s.rd ⟨.EVR_ROUTEn_0, n, 0⟩
    let w := v &&& BitVec.ofNat 32 RegName.EVR_ROUTEn_0.spec.rw
    if F.EVR_ROUTEn_0_EN.get o = 1 ∧ F.EVR_ROUTEn_0_EN.put w 0 ≠ F.EVR_ROUTEn_0_EN.put o 0 then .next (s.setBit F.EVR_EVENTS_ROUTE_REJECT)
    else if (F.EVR_ROUTEn_0_EN.get w == 1) = true ∧ (0x476 < F.EVR_ROUTEn_0_SOURCE.get w ∨ 0x13F < F.EVR_ROUTEn_0_DEST.get w ∨
        F.EVR_ROUTEn_0_POL.get w = 3 ∨ (0x130 ≤ F.EVR_ROUTEn_0_DEST.get w ∧ F.EVR_ROUTEn_0_DEST.get w ≤ 0x137 ∧
          vecCount (s.get F.EVR_ROUTEn_2_FUNC n) ≤ s.get F.EVR_ROUTEn_2_VECTOR n)) then .next (s.setBit F.EVR_EVENTS_ROUTE_REJECT)
    else .next (s.wr ⟨.EVR_ROUTEn_0, n, 0⟩ w) :=
  (if_neg (by simp [hb, hn])).trans ((if_neg (by simp [ho, hw])).trans rfl)

end

/-- Settles O36: the first of a queue is the one that its row takes; each destination has its own row of the action. -/
theorem eventRouter : Obligations.EventRouter := by
  unfold Obligations.EventRouter
  refine ⟨?noEvent, ?present, ?noArrival, ?refused, ?near, ?latch, ?crier, ?armLine, ?acquire, ?vector, ?fault, ?busy, ?reject, ?stored, ?noPulse, ?pulse⟩
  case noEvent =>
    intro s h
    refine (show exec .eventPresent s = execEventPresent s from rfl).trans ?_
    simp only [execEventPresent, h, firstEvent]
  case present =>
    intro e s h
    have heq : exec .eventPresent s = .next (s.presented e) := by
      refine (show exec .eventPresent s = execEventPresent s from rfl).trans ?_
      simp only [execEventPresent, h]
      rfl
    exact ⟨_, heq, rfl, rfl, rfl, rfl, rfl⟩
  case noArrival =>
    intro s h
    refine (show exec .eventArrival s = execEventArrival s from rfl).trans ?_
    simp only [execEventArrival, h, firstArrival]
  case refused =>
    intro a s hf hlo hhi hc
    exact (show exec .eventArrival s = execEventArrival s from rfl).trans (execEventArrival_refused hf hlo hhi hc)
  case near =>
    intro a x s hf hc hx hn
    exact (show exec .eventArrival s = execEventArrival s from rfl).trans (execEventArrival_near hf hc hx hn)
  case latch =>
    intro a s hf hd hn u
    exact ((show exec .eventArrival s = execEventArrival s from rfl).trans (execEventArrival_other hf (.inl hd) hn)).trans
      (congrArg Host.Outcome.next (if_pos hd))
  case crier =>
    intro a s hf hlo hhi hc hn u
    have heq : exec .eventArrival s = .next (u.crierRoute (a.dest - 0x100) a.action a.at_) :=
      ((show exec .eventArrival s = execEventArrival s from rfl).trans (execEventArrival_acts hf (fun _ _ => hc) hn)).trans
        (congrArg Host.Outcome.next ((if_neg (Nat.not_lt.mpr hlo)).trans (if_pos hhi)))
    refine ⟨fun h => heq.trans ?_, fun h => heq.trans ?_, fun h => heq.trans ?_, fun h => heq.trans ?_⟩
    · rw [h]; rfl
    · rw [h]; rfl
    · rw [h]; rfl
    · rw [State.crierRoute_pulse h]
      rfl
  case armLine =>
    intro a s hf hlo hhi hn u
    exact ((show exec .eventArrival s = execEventArrival s from rfl).trans (execEventArrival_other hf (.inr hlo) hn)).trans
      (congrArg Host.Outcome.next ((if_neg (by omega)).trans ((if_neg (Nat.not_lt.mpr hlo)).trans (if_pos hhi))))
  case acquire =>
    intro a s hf hlo hhi hn u
    exact ((show exec .eventArrival s = execEventArrival s from rfl).trans (execEventArrival_other hf (.inr (by omega)) hn)).trans
      (congrArg Host.Outcome.next ((if_neg (by omega)).trans ((if_neg (by omega)).trans ((if_neg (Nat.not_lt.mpr hlo)).trans (if_pos hhi)))))
  case vector =>
    intro a s hf hlo hhi hn u
    exact ((show exec .eventArrival s = execEventArrival s from rfl).trans (execEventArrival_other hf (.inr (by omega)) hn)).trans
      (congrArg Host.Outcome.next ((if_neg (by omega)).trans ((if_neg (by omega)).trans ((if_neg (by omega)).trans ((if_neg (Nat.not_lt.mpr hlo)).trans
        (if_pos hhi))))))
  case fault =>
    intro a s hf hlo hhi hn u
    exact ((show exec .eventArrival s = execEventArrival s from rfl).trans (execEventArrival_other hf (.inr (by omega)) hn)).trans
      (congrArg Host.Outcome.next ((if_neg (by omega)).trans ((if_neg (by omega)).trans ((if_neg (by omega)).trans ((if_neg (by omega)).trans
        ((if_neg (Nat.not_lt.mpr hlo)).trans (if_pos hhi)))))))
  case busy =>
    intro n v s hb hn o w h
    exact (show exec (.routeWrite n v) s = execRouteWrite n v s from rfl).trans (execRouteWrite_busy hb hn h)
  case reject =>
    intro n v s hb hn o w ho hw h
    refine ((show exec (.routeWrite n v) s = execRouteWrite n v s from rfl).trans (execRouteWrite_free hb hn ho hw)).trans ?_
    by_cases hold : F.EVR_ROUTEn_0_EN.get o = 1 ∧ F.EVR_ROUTEn_0_EN.put w 0 ≠ F.EVR_ROUTEn_0_EN.put o 0
    · exact if_pos hold
    · obtain ⟨hen, hbad⟩ := h.resolve_left hold
      exact (if_neg hold).trans (if_pos ⟨beq_iff_eq.mpr hen, hbad⟩)
  case stored =>
    intro n v s hb hn o w ho hw hold hnew
    refine ((show exec (.routeWrite n v) s = execRouteWrite n v s from rfl).trans (execRouteWrite_free hb hn ho hw)).trans ?_
    exact (if_neg fun h => h.2 (hold h.1)).trans (if_neg fun h => hnew (beq_iff_eq.mp h.1) h.2)
  case noPulse =>
    intro s h
    refine (show exec .crierPulseEnd s = execCrierPulseEnd s from rfl).trans ?_
    simp only [execCrierPulseEnd, h, firstPulse]
  case pulse =>
    intro p s h
    refine (show exec .crierPulseEnd s = execCrierPulseEnd s from rfl).trans ?_
    simp only [execCrierPulseEnd, h]

end Sys2Proof.Machine
end

section
/-!
SUPPORT. Ethernet frames (O38): a frame that is received, and one that leaves its port.
-/

namespace Sys2Proof.Machine

section
variable {n c : Nat} {f : Bytes} {b : Bool} {s : State} (he : s.bit F.PTP_PORTn_CFG_EN n = true)
include he

theorem execPtpFrameReceive_noPtp (hp : ptpAt f = none) : execPtpFrameReceive n f b c s = .next (s.countUp F.PTP_PORTn_COUNTS_OTHER 1 n) := by
  refine (if_neg (by simp [he])).trans ?_
  rw [hp]

variable {a : PtpAt} (hp : ptpAt f = some a)
include hp

theorem execPtpFrameReceive_refused (hb : b = false ∨ bitOf (s.get F.PTP_PORTn_CFG_TRANSPORT n) a.transport = false) :
    execPtpFrameReceive n f b c s = .next (s.countUp F.PTP_PORTn_COUNTS_OTHER 1 n) := by
  refine (if_neg (by simp [he])).trans ?_
  rw [hp]
  refine if_pos ?_
  rcases hb with h | h
  · exact .inl (by rw [h]; rfl)
  · exact .inr (by rw [h]; rfl)

variable (ht : bitOf (s.get F.PTP_PORTn_CFG_TRANSPORT n) a.transport = true)
include ht

/-- The frame and its descriptor in the receive ring (R497). -/
def State.received (s : State) (n c : Nat) (f : Bytes) (a : PtpAt) : State :=
  let d := s.rxDescriptor n f.length (a.event f) a.vlan c ++ heardFrame f (s.portSigned .PTP_PORTn_ASYM n)
  let p := (s.rd ⟨.PTP_PORTn_RXPROD, n, 0⟩).toNat
  let at_ := s.rxBase n + p % 2 ^ s.get F.PTP_PORTn_RXRING_1_SIZE_LOG2 n * 2048
  let u := ({ s with mem := Mem.setBytes s.mem at_ d, ptpRate := Store.put s.ptpRate n ((s.rxRate n).1, (s.rxRate n).2 + 1) } : State).unpoison at_ d.length
  (if a.event f then u else u.useFree).wr ⟨.PTP_PORTn_RXPROD, n, 0⟩ (BitVec.ofNat 32 (p + 1))

theorem execPtpFrameReceive_taken : execPtpFrameReceive n f true c s =
    if 100000 ≤ (s.rxRate n).2 ∨ 2 ^ s.get F.PTP_PORTn_RXRING_1_SIZE_LOG2 n ≤ ((s.rd ⟨.PTP_PORTn_RXPROD, n, 0⟩).toNat + 2 ^ 32 - (s.rd ⟨.PTP_PORTn_RXCONS, n, 0⟩).toNat) % 2 ^ 32
    then .next (s.rxDrop n) else .next (s.received n c f a) := by
  refine (if_neg (by simp [he])).trans ?_
  rw [hp]
  refine (if_neg ?_).trans rfl
  rw [ht]
  decide

end

/-- What a received frame changes. -/
theorem State.received_spec (s : State) (n c : Nat) (f : Bytes) (a : PtpAt) :
    let t := s.received n c f a
    t.rd ⟨.PTP_PORTn_RXPROD, n, 0⟩ = s.rd ⟨.PTP_PORTn_RXPROD, n, 0⟩ + 1#32 ∧ regsBut [.PTP_PORTn_RXPROD] s t ∧
      t.mem = Mem.setBytes s.mem (s.rxBase n + (s.rd ⟨.PTP_PORTn_RXPROD, n, 0⟩).toNat % 2 ^ s.get F.PTP_PORTn_RXRING_1_SIZE_LOG2 n * 2048)
        (s.rxDescriptor n f.length (a.event f) a.vlan c ++ heardFrame f (s.portSigned .PTP_PORTn_ASYM n)) ∧ t.works = s.works := by
  have hsucc : BitVec.ofNat 32 ((s.rd ⟨.PTP_PORTn_RXPROD, n, 0⟩).toNat + 1) = s.rd ⟨.PTP_PORTn_RXPROD, n, 0⟩ + 1#32 := by
    rw [BitVec.ofNat_add, BitVec.ofNat_toNat, BitVec.setWidth_eq]
  unfold State.received
  generalize s.rxDescriptor n f.length (a.event f) a.vlan c ++ heardFrame f (s.portSigned .PTP_PORTn_ASYM n) = d
  extract_lets d' p at_ u t
  simp only [t]
  have hu : (if a.event f then u else u.useFree).regs = s.regs ∧ (if a.event f then u else u.useFree).mem = Mem.setBytes s.mem at_ d ∧
      (if a.event f then u else u.useFree).works = s.works := by split <;> exact ⟨rfl, rfl, rfl⟩
  generalize (if a.event f then u else u.useFree) = x at hu
  obtain ⟨hregs, hmem, hworks⟩ := hu
  refine ⟨(x.rd_wr _ _ _).trans ((if_pos rfl).trans hsucc), ?_, hmem, hworks⟩
  exact regsBut.wr ((regsBut.refl _ s).of_regs hregs) _ _ (by simp)

theorem State.setFrames_eq (s : State) (p : Nat) (q : List LaunchFrame) :
    s.setFrames p q = { s with frames0 := if p = 0 then q else s.frames0, frames1 := if p = 0 then s.frames1 else q } := by
  unfold State.setFrames
  split <;> rfl

/-- The frame has left its port at the instant `x` (R500). -/
def State.sentAt (s : State) (p : Nat) (f : LaunchFrame) (w : Work) (x : Tu) : State :=
  { (s.advanceTo x).setFrames p ((s.frames p).erase f) with
    ethOut := Store.put s.ethOut p (sentFrame w.data (s.portSigned .PTP_PORTn_ASYM p) (s.bit F.PTP_PORTn_CFG_ONE_STEP p) (s.dt80 x), x) }

theorem State.sentAt_eq (s : State) (p : Nat) (f : LaunchFrame) (w : Work) (x : Tu) : s.sentAt p f w x =
    { s with fr := max s.fr x, frames0 := if p = 0 then (s.frames p).erase f else s.frames0, frames1 := if p = 0 then s.frames1 else (s.frames p).erase f, ethOut := Store.put s.ethOut p (sentFrame w.data (s.portSigned .PTP_PORTn_ASYM p) (s.bit F.PTP_PORTn_CFG_ONE_STEP p) (s.dt80 x), x) } := by
  simp only [State.sentAt, State.setFrames_eq]
  rfl

section
variable {p c : Nat} {f : LaunchFrame} {s : State} (hf : nextFrame (s.frames p) = some f)
include hf

theorem execFrameTransmit_early (hl : f.late = false)
    (h : ((c : Int) + s.portSigned .PTP_PORTn_TXLAT p).toNat + 32768 < f.at_ ∨ f.at_ + 32768 < ((c : Int) + s.portSigned .PTP_PORTn_TXLAT p).toNat) :
    execFrameTransmit p c s = .next s := by
  unfold execFrameTransmit
  simp only [hf]
  exact if_pos ⟨by rw [hl]; rfl, h⟩

theorem execFrameTransmit_sent {w : Work} (hw : s.work? f.work = some w)
    (h : f.late = true ∨ (f.at_ ≤ ((c : Int) + s.portSigned .PTP_PORTn_TXLAT p).toNat + 32768 ∧
      ((c : Int) + s.portSigned .PTP_PORTn_TXLAT p).toNat ≤ f.at_ + 32768)) :
    execFrameTransmit p c s = .next ((s.sentAt p f w ((c : Int) + s.portSigned .PTP_PORTn_TXLAT p).toNat).finalReceipt f.work Status.complete 0
      (leBytes (s.dt80 ((c : Int) + s.portSigned .PTP_PORTn_TXLAT p).toNat) 10 ++ leBytes (if f.late then 1 else 0) 1)) := by
  unfold execFrameTransmit
  simp only [hf]
  refine (if_neg ?_).trans ?_
  · rintro ⟨hl, hor⟩
    rcases h with h | ⟨hlo, hhi⟩
    · exact absurd hl (by simp [h])
    · exact hor.elim (fun hlt => absurd hlo (Nat.not_le.mpr hlt)) fun hlt => absurd hhi (Nat.not_le.mpr hlt)
  · simp only [State.setFrames_eq, State.sentAt]
    split
    · exact absurd (hw.symm.trans ‹_›) (by simp)
    · rename_i v hv
      cases hw.symm.trans hv
      rfl

end

/-- Settles O38: a frame passes its checks in the order of the row; what a frame that is taken or sent changes is said once. -/
theorem ethernetFrames : Obligations.EthernetFrames := by
  unfold Obligations.EthernetFrames
  refine ⟨?off, ?noPtp, ?refused, ?dropped, ?received, ?sent, ?early, ?none⟩
  case off =>
    intro n c f b s he
    exact (show exec (.ptpFrameReceive n f b c) s = execPtpFrameReceive n f b c s from rfl).trans (if_pos (by rw [he]; rfl))
  case noPtp =>
    intro n c f b s he hp
    exact (show exec (.ptpFrameReceive n f b c) s = execPtpFrameReceive n f b c s from rfl).trans (execPtpFrameReceive_noPtp he hp)
  case refused =>
    intro n c f a b s he hp hb
    exact (show exec (.ptpFrameReceive n f b c) s = execPtpFrameReceive n f b c s from rfl).trans (execPtpFrameReceive_refused he hp hb)
  case dropped =>
    intro n c f a s he hp ht hd
    exact (show exec (.ptpFrameReceive n f true c) s = execPtpFrameReceive n f true c s from rfl).trans
      ((execPtpFrameReceive_taken he hp ht).trans (if_pos hd))
  case received =>
    intro n c f a s he hp ht hr hroom
    refine ⟨_, (show exec (.ptpFrameReceive n f true c) s = execPtpFrameReceive n f true c s from rfl).trans
      ((execPtpFrameReceive_taken he hp ht).trans (if_neg (by omega))), s.received_spec n c f a⟩
  case sent =>
    intro p c f w s hf hw hp h
    have heq := (show exec (.frameTransmit p c) s = execFrameTransmit p c s from rfl).trans (execFrameTransmit_sent hf hw h)
    generalize ((c : Int) + s.portSigned .PTP_PORTn_TXLAT p).toNat = x at heq ⊢
    rw [State.finalReceipt_eq _ _ _ _ _ (show (s.sentAt p f w x).work? f.work = some w from (congrArg (State.work? · f.work) (s.sentAt_eq p f w x)).trans hw),
      s.sentAt_eq p f w x] at heq
    refine ⟨_, heq, rfl, rfl, rfl, ?_, Store.get?_put_self .., rfl⟩
    by_cases h0 : p = 0
    · exact (if_pos h0).trans (if_pos h0)
    · exact (if_neg h0).trans (if_neg h0)
  case early =>
    intro p c f s hf hl h
    exact (show exec (.frameTransmit p c) s = execFrameTransmit p c s from rfl).trans (execFrameTransmit_early hf hl h)
  case none =>
    intro p c s h
    refine (show exec (.frameTransmit p c) s = execFrameTransmit p c s from rfl).trans ?_
    simp only [execFrameTransmit, h, nextFrame]

end Sys2Proof.Machine
end

section
/-!
SUPPORT. Local memory (O39): the aperture, the scrubber, the arbiters and refresh.
-/

namespace Sys2Proof.Machine

/-! ## Lost lines -/

/-- A step that reads of lost lines can make: registers, poison and detections. -/
def State.lossView (s : State) : List Word × Mem × Store Nat Work := (s.rdata, s.mem, s.works)

/-- A lost line is poisoned and detected; what was poisoned stays so (R479). -/
theorem State.lineLost_spec (s : State) (l x : Nat) :
    let t := s.lineLost l x
    t.lossView = s.lossView ∧ regsBut [.DRAM_ECC_ADDR_0, .DRAM_ECC_ADDR_1] s t ∧ l ∈ t.poison ∧ (∀ k ∈ s.poison, k ∈ t.poison) ∧
      t.detections = s.detections ++ [{ kind := 6, cause := 0x224, source := x, works := s.rangesHit l, at_ := s.fr }] := by
  have hregs : regsBut [.DRAM_ECC_ADDR_0, .DRAM_ECC_ADDR_1] s (s.eccAddr l) :=
    ((regsBut.refl _ s).set _ _ _ _ (by decide)).set _ _ _ _ (by decide)
  unfold State.lineLost
  extract_lets u t
  simp only [t]
  split
  · rename_i h
    exact ⟨rfl, hregs.of_regs rfl, List.contains_iff_mem.mp h, fun k hk => hk, rfl⟩
  · exact ⟨rfl, hregs.of_regs rfl, List.mem_cons_self, fun k hk => List.mem_cons_of_mem _ hk, rfl⟩

/-- The lines of a read that cannot be corrected, one after the other. -/
theorem foldl_lineLost (ls : List Nat) (x : Nat) (s : State) :
    let t := ls.foldl (fun (s : State) l => (s.setBit F.DRAM_EVENTS_ECC_UNCORR).lineLost l x) s
    t.lossView = s.lossView ∧ (∀ k, (k ∈ s.poison ∨ k ∈ ls) → k ∈ t.poison) ∧
      ((s.bit F.DRAM_EVENTS_ECC_UNCORR = true ∨ ls ≠ []) → t.bit F.DRAM_EVENTS_ECC_UNCORR = true) := by
  induction ls generalizing s with
  | nil => exact ⟨rfl, fun k hk => hk.resolve_right List.not_mem_nil, fun h => h.resolve_right fun h => h rfl⟩
  | cons l ls ih =>
    obtain ⟨hview, hregs, hl, hmono, -⟩ := (s.setBit F.DRAM_EVENTS_ECC_UNCORR).lineLost_spec l x
    have hbit : ((s.setBit F.DRAM_EVENTS_ECC_UNCORR).lineLost l x).bit F.DRAM_EVENTS_ECC_UNCORR = true :=
      (State.bit_of_regsBut hregs _ _ _ (by decide)).trans (State.bit_setBit _ _ _ _ (by decide) (by decide))
    obtain ⟨ihview, ihmem, ihbit⟩ := ih ((s.setBit F.DRAM_EVENTS_ECC_UNCORR).lineLost l x)
    refine ⟨ihview.trans hview, fun k hk => ihmem k ?_, fun _ => ihbit (.inl hbit)⟩
    rcases hk with hk | hk
    · exact .inl (hmono k hk)
    · exact (List.mem_cons.mp hk).imp (fun h => by rw [h]; exact hl) id

/-- Which admitted orders a lost line hits does not turn on the memory's event bits. -/
theorem State.rangesHit_setBit (s : State) (l : Nat) : (s.setBit F.DRAM_EVENTS_SCRUB_UNCORR).rangesHit l = s.rangesHit l := by
  have h : regsBut [.DRAM_EVENTS] s (s.setBit F.DRAM_EVENTS_SCRUB_UNCORR) := (regsBut.refl _ s).set _ _ _ _ (by decide)
  have hspill : ∀ n, (s.setBit F.DRAM_EVENTS_SCRUB_UNCORR).spillBase n = s.spillBase n := fun n => by
    simp only [State.spillBase, State.get_of_regsBut h F.SEQn_SPILL_0_BASE_LO n 0 (by decide), State.get_of_regsBut h F.SEQn_SPILL_1_BASE_HI n 0 (by decide)]
  have hbound : ∀ n, (s.setBit F.DRAM_EVENTS_SCRUB_UNCORR).boundLanes n = s.boundLanes n := fun n => by
    simp only [State.boundLanes, fun k => State.bit_of_regsBut h F.LANEn_BIND_BOUND k 0 (by decide), fun k => State.get_of_regsBut h F.LANEn_BIND_SEQ k 0 (by decide)]
  have hcmp : ∀ w, (s.setBit F.DRAM_EVENTS_SCRUB_UNCORR).burstCmpLanes w = s.burstCmpLanes w := fun w => by
    simp only [State.burstCmpLanes, State.burstLanes, hbound, fun k => State.bit_of_regsBut h F.LANEn_BIND_CMP_EN k 0 (by decide)]
  have hrange : ∀ w, (s.setBit F.DRAM_EVENTS_SCRUB_UNCORR).localRanges w = s.localRanges w := fun w => by
    simp only [State.localRanges, State.spillAreas, State.spillArea, State.laneAreas, hspill, hcmp]
  simp only [State.rangesHit, hrange]
  rfl

/-! ## The aperture -/

section
variable {x : Nat} {d : Bytes} {s : State} (ho : s.bar4Open x d.length = true) (hm : s.bar4Addr x + d.length ≤ s.memSize)
include ho hm

theorem execBar4Write_blocked (hp : s.inPool (s.bar4Addr x / segSize) = true)
    (hb : (s.seg (s.bar4Addr x / segSize)).filling = true ∨ (s.seg (s.bar4Addr x / segSize)).refs ≠ 0) :
    execBar4Write x d s = .next (s.setBit F.DRAM_SEG_EVENTS_APERTURE_BLOCKED) :=
  (if_neg (by simp [ho, hm])).trans (if_pos ⟨hp, hb⟩)

/-- The bytes of a write that is not blocked are stored. -/
def State.bar4Stored (s : State) (x : Nat) (d : Bytes) : State :=
  ({ s with mem := Mem.setBytes s.mem (s.bar4Addr x) d } : State).unpoison (s.bar4Addr x) d.length

theorem execBar4Write_stored
    (hb : s.inPool (s.bar4Addr x / segSize) = true → (s.seg (s.bar4Addr x / segSize)).filling = false ∧ (s.seg (s.bar4Addr x / segSize)).refs = 0) :
    execBar4Write x d s = .next (if s.inPool (s.bar4Addr x / segSize) then
      (s.bar4Stored x d).setSeg (s.bar4Addr x / segSize) { s.seg (s.bar4Addr x / segSize) with valid := false } else s.bar4Stored x d) := by
  refine (if_neg (by simp [ho, hm])).trans ((if_neg ?_).trans rfl)
  rintro ⟨hp, hor⟩
  obtain ⟨hf, hr⟩ := hb hp
  rcases hor with h | h
  · exact absurd (hf.symm.trans h) (by decide)
  · exact h hr

end

theorem execBar4Read_open {x n corr : Nat} {bad : List Nat} {s : State} (ho : s.bar4Open x n = true) : execBar4Read x n bad corr s =
    .next ((((List.range ((s.bar4Addr x % 64 + n + 63) / 64)).map (s.bar4Addr x / 64 + ·)).filter fun l =>
      decide (64 * l < s.memSize) && (s.poison.contains l || bad.contains l)).foldl
        (fun (s : State) l => (s.setBit F.DRAM_EVENTS_ECC_UNCORR).lineLost l 0x700) ((s.answer (wordsOf (s.bar4Bytes (s.bar4Addr x) n bad))).corrected corr)) :=
  (if_neg (by simp [ho])).trans rfl

theorem State.corrected_view (s : State) (n : Nat) : (s.corrected n).lossView = s.lossView ∧ (s.corrected n).poison = s.poison := by
  unfold State.corrected
  split <;> exact ⟨rfl, rfl⟩

/-! ## The arbiters and self-refresh -/

section
variable {c r : Nat} {l : List Nat} {s : State}

theorem execArbiterRequest_heard (hc : s.liveChannels.contains c = true) (hr : (permanent.contains r || (s.mappedNow c).contains r) = true)
    (hl : (l.filter fun x => decide (64 * x < s.memSize) && s.chanOf (64 * x) == c) ≠ []) :
    execArbiterRequest c { requester := r, lines := l } s =
      .next ((if s.sref = .closing then { s with sref := .none_ } else s).setArb c { s.arb c with
        raised := if (s.arb c).raised.contains r then (s.arb c).raised else (s.arb c).raised ++ [r],
        asks := Store.put (s.arb c).asks r (Store.getD (s.arb c).asks r [] ++ l.filter fun x => decide (64 * x < s.memSize) && s.chanOf (64 * x) == c) }) := by
  refine (if_neg ?_).trans rfl
  rw [Bool.or_eq_true] at hr
  rintro (h | h | h)
  · rw [hc] at h
    exact absurd h (by decide)
  · exact absurd h (by simp only [hr]; decide)
  · exact hl h

theorem execArbiterGrant_full (hs : s.sref ≠ .in_) (hm : 16 < s.mappedCount c) : execArbiterGrant c s =
    match (s.fullRanks c (s.arb c)).find? (s.arb c).raised.contains with
    | none => .next s
    | some r => .next (s.doGrant c r { ((s.arb c).serve r).2 with granted := [], ranks := (s.fullRanks c (s.arb c)).erase r ++ [r] }) :=
  (if_neg hs).trans ((if_pos hm).trans rfl)

theorem execArbiterGrant_compact (hs : s.sref ≠ .in_) (hm : s.mappedCount c ≤ 16) : execArbiterGrant c s =
    match s.compactWinner (s.arb c) with
    | none => .next s
    | some r => .next (s.doGrant c r (s.compactGrant (s.arb c) r)) :=
  (if_neg hs).trans ((if_neg (Nat.not_lt.mpr hm)).trans rfl)

theorem State.compactWinner_of_nil {a : Arb} (h : a.raised = []) : s.compactWinner a = none := by
  simp only [State.compactWinner, h, List.filter_nil]

theorem execArbiterGrant_none (h : s.sref = .in_ ∨ (s.arb c).raised = []) : execArbiterGrant c s = .next s := by
  by_cases hs : s.sref = .in_
  · exact if_pos hs
  have hr := h.resolve_left hs
  by_cases hm : 16 < s.mappedCount c
  · have hnone : (s.fullRanks c (s.arb c)).find? (s.arb c).raised.contains = none := List.find?_eq_none.mpr fun x _ => by simp [hr]
    rw [execArbiterGrant_full hs hm, hnone]
  · rw [execArbiterGrant_compact hs (Nat.not_lt.mp hm), State.compactWinner_of_nil hr]

end

theorem foldl_refresh (ds : List (Nat × Nat)) (s : State) :
    (ds.foldl (fun (s : State) d => s.refresh d.1 d.2) s).postponed = s.postponed ∧ (ds.foldl (fun (s : State) d => s.refresh d.1 d.2) s).regs = s.regs := by
  induction ds generalizing s with
  | nil => exact ⟨rfl, rfl⟩
  | cons d ds ih =>
    have hd : (s.refresh d.1 d.2).postponed = s.postponed ∧ (s.refresh d.1 d.2).regs = s.regs := by
      unfold State.refresh
      split <;> exact ⟨rfl, rfl⟩
    exact ⟨(ih _).1.trans hd.1, (ih _).2.trans hd.2⟩

theorem State.makeUp_congr {s t : State} (h : t.regs = s.regs) (p : Postpone) : t.makeUp p = s.makeUp p := by
  simp only [State.makeUp, State.get_congr h]

theorem execSelfRefreshEntry_meant {s : State} (hp : 2 ≤ s.get F.PWR_STATUS_STATE) (he : s.bit F.PWR_STATUS_EXITING = false) (hw : s.windowCharges = false) :
    execSelfRefreshEntry s =
      match s.sref with
      | .none_ => .next { s with sref := .closing, openRows := [] }
      | .closing => .next { s with sref := .in_, srefAt := s.fr }
      | .in_ => .next s :=
  (if_neg (by simp [he, hw, Nat.not_lt.mpr hp])).trans rfl

theorem execDramIlvCommit_staged {s : State} (hb : s.booted = true) (hlo : 8 ≤ s.get F.DRAM_ILV_STAGE_GRAIN_LOG2) (hhi : s.get F.DRAM_ILV_STAGE_GRAIN_LOG2 ≤ 16)
    (hc : setBits ((s.rd ⟨.DRAM_ILV_CH_STAGE_w, 0, 0⟩).toNat + (s.rd ⟨.DRAM_ILV_CH_STAGE_w, 1, 0⟩).toNat * 2 ^ 32) 64 ≠ []) :
    execDramIlvCommit s = if (setBits ((s.rd ⟨.DRAM_ILV_CH_STAGE_w, 0, 0⟩).toNat + (s.rd ⟨.DRAM_ILV_CH_STAGE_w, 1, 0⟩).toNat * 2 ^ 32) 64).any Config.channelBad
      then .next (s.ilvReject 2)
      else .next ((((((s.set F.DRAM_ILV_STATUS_RESULT 0).set F.DRAM_ILV_STATUS_NEXT_GRAIN (s.get F.DRAM_ILV_STAGE_GRAIN_LOG2)).wr ⟨.DRAM_ILV_NEXT_w, 0, 0⟩
        (s.rd ⟨.DRAM_ILV_CH_STAGE_w, 0, 0⟩)).wr ⟨.DRAM_ILV_NEXT_w, 1, 0⟩ (s.rd ⟨.DRAM_ILV_CH_STAGE_w, 1, 0⟩)).setBit F.DRAM_ILV_STATUS_PENDING)) := by
  refine (if_neg (by simp [hb])).trans ((if_neg ?_).trans rfl)
  rintro (h | h | h)
  · exact Nat.not_lt.mpr hlo h
  · exact Nat.not_lt.mpr hhi h
  · exact hc (List.isEmpty_iff.mp h)

/-- Settles O39: each row unfolds once its guards are decided; lost lines, and the requests and grants of an arbiter, have lemmas of their own. -/
theorem localMemory : Obligations.LocalMemory := by
  unfold Obligations.LocalMemory
  refine ⟨?outside, ?blocked, ?inPool, ?dropped, ?closed, ?clean, ?lost, ?scrubBeyond, ?scrubGood, ?scrubCorr, ?scrubBad, ?ilvBad, ?ilv, ?request, ?cancel,
    ?unheard, ?noGrant, ?compact, ?full, ?withdraw, ?noWithdraw, ?held, ?paid, ?inSref, ?makeup, ?noMakeup, ?closing, ?entered, ?noEntry, ?exit, ?noExit⟩
  case outside =>
    intro x d s hwf ho hm hp
    refine ⟨s.bar4Stored x d, (show exec (.bar4Write x d) s = execBar4Write x d s from rfl).trans ((execBar4Write_stored ho hm fun h => ?_).trans ?_), ?_, ?_, rfl, rfl⟩
    · exact absurd (hp.symm.trans h) (by decide)
    · exact congrArg Host.Outcome.next (if_neg (by rw [hp]; decide))
    · exact fun n hn => Mem.byte_setBytes_in _ _ _ _ hwf hn
    · exact fun a ha => Mem.byte_setBytes_out _ _ _ _ hwf ha
  case blocked =>
    intro x d s ho hm hp hb
    exact (show exec (.bar4Write x d) s = execBar4Write x d s from rfl).trans (execBar4Write_blocked ho hm hp hb)
  case inPool =>
    intro x d s ho hm hp hf hr
    refine ⟨(s.bar4Stored x d).setSeg (s.bar4Addr x / segSize) { s.seg (s.bar4Addr x / segSize) with valid := false },
      (show exec (.bar4Write x d) s = execBar4Write x d s from rfl).trans ((execBar4Write_stored ho hm fun _ => ⟨hf, hr⟩).trans ?_), rfl, ?_, rfl⟩
    · exact congrArg Host.Outcome.next (if_pos hp)
    · exact (Store.getD_put ..).trans (if_pos rfl)
  case dropped =>
    intro x d s h
    refine (show exec (.bar4Write x d) s = execBar4Write x d s from rfl).trans (if_pos ?_)
    exact h.imp (fun h => by rw [h]; rfl) id
  case closed =>
    intro x n corr bad s ho
    exact (show exec (.bar4Read x n bad corr) s = execBar4Read x n bad corr s from rfl).trans (if_pos (by rw [ho]; rfl))
  case clean =>
    intro x n corr bad s ho hl
    refine (show exec (.bar4Read x n bad corr) s = execBar4Read x n bad corr s from rfl).trans ((execBar4Read_open ho).trans ?_)
    rw [hl, List.foldl_nil]
    simp only [State.bar4Bytes, List.contains_iff_mem]
  case lost =>
    intro x n corr bad s ho ls hl
    have heq : exec (.bar4Read x n bad corr) s = .next (ls.foldl (fun (s : State) l => (s.setBit F.DRAM_EVENTS_ECC_UNCORR).lineLost l 0x700)
        ((s.answer (wordsOf (s.bar4Bytes (s.bar4Addr x) n bad))).corrected corr)) :=
      (show exec (.bar4Read x n bad corr) s = execBar4Read x n bad corr s from rfl).trans (execBar4Read_open ho)
    generalize wordsOf (s.bar4Bytes (s.bar4Addr x) n bad) = ws at heq ⊢
    have hcorr : ((s.answer ws).corrected corr).lossView = (ws, s.mem, s.works) := ((s.answer ws).corrected_view corr).1
    generalize (s.answer ws).corrected corr = u at heq hcorr
    have hlost := foldl_lineLost ls 0x700 u
    generalize ls.foldl (fun (s : State) l => (s.setBit F.DRAM_EVENTS_ECC_UNCORR).lineLost l 0x700) u = t at heq hlost
    obtain ⟨hview, hpoison, hbit⟩ := hlost
    obtain ⟨hrdata, hmem, hworks⟩ : t.rdata = ws ∧ t.mem = s.mem ∧ t.works = s.works := by simpa only [State.lossView, Prod.mk.injEq] using hview.trans hcorr
    exact ⟨t, heq, hrdata, hbit (.inr hl), fun l hls => List.contains_iff_mem.mpr (hpoison l (.inr hls)), hmem, hworks⟩
  case scrubBeyond =>
    intro l x s h
    exact (show exec (.patrolScrub l x) s = execPatrolScrub l x s from rfl).trans (if_pos h)
  case scrubGood =>
    intro l s h hl
    exact (show exec (.patrolScrub l 0) s = execPatrolScrub l 0 s from rfl).trans ((if_neg (Nat.not_le.mpr h)).trans ((if_neg (by simpa using hl)).trans rfl))
  case scrubCorr =>
    intro l s h hl
    exact (show exec (.patrolScrub l 1) s = execPatrolScrub l 1 s from rfl).trans ((if_neg (Nat.not_le.mpr h)).trans ((if_neg (by simpa using hl)).trans rfl))
  case scrubBad =>
    intro l x s h hor
    refine ⟨_, (show exec (.patrolScrub l x) s = execPatrolScrub l x s from rfl).trans ((if_neg (Nat.not_le.mpr h)).trans
      (if_pos (hor.imp id List.contains_iff_mem.mpr))), ?_⟩
    obtain ⟨hview, hregs, hmem, -, hdet⟩ := (s.setBit F.DRAM_EVENTS_SCRUB_UNCORR).lineLost_spec l 0x701
    refine ⟨(State.bit_of_regsBut hregs _ _ _ (by decide)).trans (State.bit_setBit _ _ _ _ (by decide) (by decide)), hmem,
      congrArg (·.2.1) hview, congrArg (·.2.2) hview, ?_⟩
    rw [hdet, State.rangesHit_setBit]
    rfl
  case ilvBad =>
    intro s hb h
    refine (show exec .dramIlvCommit s = execDramIlvCommit s from rfl).trans ((if_neg (by simp [hb])).trans (if_pos ?_))
    exact h.imp id (Or.imp id List.isEmpty_iff.mpr)
  case ilv =>
    intro s hb hlo hhi hc
    refine (show exec .dramIlvCommit s = execDramIlvCommit s from rfl).trans ((execDramIlvCommit_staged hb hlo hhi hc).trans ?_)
    split <;> rfl
  case request =>
    intro c r l s hc hr ls hl hs
    refine (show exec (.arbiterRequest c { requester := r, lines := l }) s = execArbiterRequest c { requester := r, lines := l } s from rfl).trans
      ((execArbiterRequest_heard hc hr hl).trans ?_)
    rw [if_neg hs]
  case cancel =>
    intro c r l s hc hr ls hl hs
    refine (show exec (.arbiterRequest c { requester := r, lines := l }) s = execArbiterRequest c { requester := r, lines := l } s from rfl).trans
      ((execArbiterRequest_heard hc hr hl).trans ?_)
    rw [if_pos hs]
  case unheard =>
    intro c r l s h
    refine (show exec (.arbiterRequest c { requester := r, lines := l }) s = execArbiterRequest c { requester := r, lines := l } s from rfl).trans (if_pos ?_)
    refine h.imp (fun h => by rw [h]; rfl) fun h => .inl ?_
    simpa using h
  case noGrant =>
    intro c s h
    exact (show exec (.arbiterGrant c) s = execArbiterGrant c s from rfl).trans (execArbiterGrant_none h)
  case compact =>
    intro c r s hs hm hw
    refine (show exec (.arbiterGrant c) s = execArbiterGrant c s from rfl).trans ((execArbiterGrant_compact hs hm).trans ?_)
    rw [hw]
    rfl
  case full =>
    intro c r s hs hm hw
    refine (show exec (.arbiterGrant c) s = execArbiterGrant c s from rfl).trans ((execArbiterGrant_full hs hm).trans ?_)
    rw [hw]
    rfl
  case withdraw =>
    intro c r s h
    exact (show exec (.requestWithdraw c) s = execRequestWithdraw c s from rfl).trans (if_neg (by rw [h]; exact Bool.false_ne_true))
  case noWithdraw =>
    intro c s h
    exact (show exec (.requestWithdraw c) s = execRequestWithdraw c s from rfl).trans (if_pos (by rw [h]; rfl))
  case held =>
    intro c s hs hc hh
    exact (show exec (.refreshDue c) s = execRefreshDue c s from rfl).trans ((if_neg (by simp [hs, hc])).trans (if_pos hh))
  case paid =>
    intro c s hs hc hh
    refine (show exec (.refreshDue c) s = execRefreshDue c s from rfl).trans ((if_neg (by simp [hs, hc])).trans ((if_neg (by rw [hh]; decide)).trans ?_))
    exact congrArg Host.Outcome.next ((if_neg (Nat.succ_ne_zero _)).trans rfl)
  case inSref =>
    intro c s hs
    exact (show exec (.refreshDue c) s = execRefreshDue c s from rfl).trans (if_pos (.inl hs))
  case makeup =>
    intro st p s h u
    refine (show exec (.refreshMakeup st) s = execRefreshMakeup st s from rfl).trans ?_
    have hu := foldl_refresh (s.debt.filter fun d => stackOf d.1 == st) (s.advanceTo (s.makeUp p).1)
    have heq : execRefreshMakeup st s = .next ({ u with postponed := Store.del u.postponed st }.advanceTo (u.makeUp p).2) := by
      unfold execRefreshMakeup
      split
      · exact absurd (h.symm.trans ‹_›) (by simp)
      · rename_i p' hp
        cases h.symm.trans hp
        rfl
    have hpost : u.postponed = s.postponed := hu.1
    have hmake : u.makeUp p = s.makeUp p := State.makeUp_congr hu.2 p
    rw [heq, hpost, hmake]
  case noMakeup =>
    intro st s h
    refine (show exec (.refreshMakeup st) s = execRefreshMakeup st s from rfl).trans ?_
    simp only [execRefreshMakeup, h]
  case closing =>
    intro s hp he hw hs
    refine (show exec .selfRefreshEntry s = execSelfRefreshEntry s from rfl).trans ((execSelfRefreshEntry_meant hp he hw).trans ?_)
    rw [hs]
  case entered =>
    intro s hp he hw hs
    refine (show exec .selfRefreshEntry s = execSelfRefreshEntry s from rfl).trans ((execSelfRefreshEntry_meant hp he hw).trans ?_)
    rw [hs]
  case noEntry =>
    intro s h
    refine (show exec .selfRefreshEntry s = execSelfRefreshEntry s from rfl).trans ?_
    by_cases hp : s.get F.PWR_STATUS_STATE < 2 ∨ s.bit F.PWR_STATUS_EXITING ∨ s.windowCharges
    · exact if_pos hp
    · have hs : s.sref = .in_ := ((h.resolve_left fun h => hp (.inl h)).resolve_left fun h => hp (.inr (.inl h))).resolve_left fun h => hp (.inr (.inr h))
      refine (if_neg hp).trans ?_
      rw [hs]
  case exit =>
    intro s h
    exact (show exec .selfRefreshExit s = execSelfRefreshExit s from rfl).trans ((if_pos h).trans rfl)
  case noExit =>
    intro s h
    exact (show exec .selfRefreshExit s = execSelfRefreshExit s from rfl).trans (if_neg h)

end Sys2Proof.Machine
end

section
/-!
SUPPORT. Lines of the cores' data caches (O40): the element that admits requests for a line.
-/

namespace Sys2Proof.Machine

/-- No request stands at the element of a line. -/
theorem State.standing_nil {s : State} {l : Nat} (h : ∀ r ∈ s.cohWait, r.line ≠ l) : s.standing l = [] :=
  List.filter_eq_nil_iff.mpr fun r hr => by simpa using h r hr

theorem State.arbitrate_single {s : State} {l : Nat} {r : CohReq} (h : s.standing l = [r]) : s.arbitrate l = some r := by
  unfold State.arbitrate
  simp only [h]
  split
  · rename_i x hx
    rw [List.mem_singleton.mp (List.mem_of_find?_eq_some hx)]
  · simp [Nat.mod_one]

/-- One request alone is no race. -/
theorem State.countRace_single {s : State} {r : CohReq} (h : s.standing r.line = [r]) : ∃ x, s.countRace r = { s with losers := x } := by
  unfold State.countRace
  extract_lets owns lost u
  refine ⟨u.losers, (if_neg ?_).trans rfl⟩
  have hle : owns.length ≤ 1 := by
    simp only [owns, h]
    exact List.length_filter_le _ _
  omega

theorem admitLine_recalled {l : Nat} {s : State} (h : (Store.get? s.recalls l).isSome = true) (fuel : Nat) : admitLine l fuel s = s := by
  cases fuel with
  | zero => rfl
  | succ n => exact if_pos h

/-- A request that stands alone is let in: it starts a recall where another core holds the line in M, and gets the line otherwise (R441). -/
theorem admitLine_single {l : Nat} {s : State} {r : CohReq} (h : s.standing l = [r]) (hl : r.line = l) (hr : Store.get? s.recalls l = none) :
    ∃ x, admitLine l 1 s =
      let u := { s with losers := x, free := s.free + 1, cohWait := s.cohWait.erase r }
      match s.dirtyHolder l r.core with
      | some h => { u with recalls := Store.put s.recalls l (h, r) }
      | none => u.grant r := by
  obtain ⟨x, hx⟩ := State.countRace_single (r := r) (by rw [hl]; exact h)
  refine ⟨x, ?_⟩
  unfold admitLine
  rw [if_neg (by rw [hr]; exact Bool.false_ne_true), State.arbitrate_single h]
  simp only [hx]
  rfl

/-- The state with new requests at the element of a line. -/
def State.asked (s : State) (cs : List Nat) (l : Nat) (own : Bool) : State :=
  { s with cohWait := s.cohWait ++ cs.map fun c => { core := c, line := l, own } }

section
variable {cs : List Nat} {l : Nat} {own : Bool} {s : State} (hc : ∀ c ∈ cs, c < 32) (hp : l ∉ s.poison)
include hc hp

theorem State.cohRequest_clean : s.cohRequest cs l own = admitLine l ((s.asked cs l own).standing l).length (s.asked cs l own) := by
  have hcores : cs.filter (fun x => decide (x < 32)) = cs := List.filter_eq_self.mpr fun x hx => decide_eq_true (hc x hx)
  simp only [State.cohRequest, hcores]
  rw [if_neg fun h => hp (List.contains_iff_mem.mp h)]
  rfl

/-- A request of a line that is recalled stands at the element (R443). -/
theorem State.cohRequest_recalled (hr : (Store.get? s.recalls l).isSome = true) : s.cohRequest cs l own = s.asked cs l own :=
  (State.cohRequest_clean hc hp).trans (admitLine_recalled (show (Store.get? (s.asked cs l own).recalls l).isSome = true from hr) _)

end

/-- A sole request. -/
theorem State.cohRequest_lone {c l : Nat} {own : Bool} {s : State} (hc : c < 32) (hp : l ∉ s.poison) (hw : ∀ r ∈ s.cohWait, r.line ≠ l)
    (hr : Store.get? s.recalls l = none) : ∃ x, s.cohRequest [c] l own =
      match s.dirtyHolder l c with
      | some h => { s with losers := x, free := s.free + 1, recalls := Store.put s.recalls l (h, { core := c, line := l, own }) }
      | none => State.grant { s with losers := x, free := s.free + 1 } { core := c, line := l, own } := by
  have hstand : (s.asked [c] l own).standing l = [{ core := c, line := l, own }] := by
    refine (List.filter_append ..).trans ?_
    rw [show s.cohWait.filter (·.line == l) = [] from State.standing_nil hw]
    simp
  have herase : (s.asked [c] l own).cohWait.erase { core := c, line := l, own } = s.cohWait := by
    refine (List.erase_append_right _ fun h => hw _ h rfl).trans ?_
    simp
  obtain ⟨x, hx⟩ := admitLine_single hstand rfl hr
  refine ⟨x, (State.cohRequest_clean (fun k hk => List.mem_singleton.mp hk ▸ hc) hp).trans ?_⟩
  rw [hstand]
  refine hx.trans ?_
  simp only [herase]
  rfl

/-- What the admission of requests leaves. -/
def State.cohView (s : State) : List Detection × Mem × Store Nat Work := (s.detections, s.mem, s.works)

theorem State.grant_cohView (s : State) (r : CohReq) : (s.grant r).cohView = s.cohView := by
  unfold State.grant
  split <;> rfl

theorem State.countRace_cohView (s : State) (r : CohReq) : (s.countRace r).cohView = s.cohView := by
  unfold State.countRace
  extract_lets owns lost u
  split <;> rfl

theorem admitLine_cohView (l fuel : Nat) (s : State) : (admitLine l fuel s).cohView = s.cohView := by
  induction fuel generalizing s with
  | zero => rfl
  | succ n ih =>
    unfold admitLine
    split
    · rfl
    split
    · rfl
    rename_i r _
    have hrace : State.cohView { (s.countRace r).useFree with cohWait := (s.countRace r).useFree.cohWait.erase r } = s.cohView := s.countRace_cohView r
    extract_lets u v
    split
    · exact hrace
    · exact (ih _).trans ((State.grant_cohView _ r).trans hrace)

theorem admitLine_nil {l : Nat} {s : State} (h : ∀ r ∈ s.cohWait, r.line ≠ l) : admitLine l (s.standing l).length s = s := by
  rw [State.standing_nil h]
  rfl

/-- A core that asks for a poisoned line (R479). -/
theorem State.cohRequest_poisoned {c l : Nat} {own : Bool} {s : State} (hc : c < 32) (hp : l ∈ s.poison) : (s.cohRequest [c] l own).cohView =
    (s.detections ++ [{ kind := 6, cause := 0x224, source := 0x0700, works := ((s.itemOn c).map (·.1)).toList, at_ := s.fr }], s.mem, s.works) := by
  have hcores : [c].filter (fun x => decide (x < 32)) = [c] := List.filter_eq_self.mpr fun x hx => decide_eq_true (List.mem_singleton.mp hx ▸ hc)
  have hitem : [c].filterMap (fun c => (s.itemOn c).map (·.1)) = ((s.itemOn c).map (·.1)).toList := by
    cases h : s.itemOn c <;> simp [h]
  simp only [State.cohRequest, hcores, hitem]
  rw [if_pos (List.contains_iff_mem.mpr hp)]
  exact admitLine_cohView _ _ _

/-- A line that is owned has no other holder. -/
theorem State.grant_own_holders (s : State) {r : CohReq} (h : r.own = true) : (s.grant r).holdersOf r.line r.core = [] := by
  have hl1 : (s.grant r).l1 = Store.put (s.l1.filter fun p => p.1.2 != r.line) (r.core, r.line) .modified := congrArg State.l1 (if_pos h)
  refine List.map_eq_nil_iff.mpr (List.filter_eq_nil_iff.mpr fun p hp => ?_)
  rw [hl1] at hp
  rcases Store.mem_put hp with hp | rfl
  · have hne := (List.mem_filter.mp hp).2
    simp at hne
    simp [hne]
  · simp

theorem State.grant_core (s : State) (r : CohReq) : Store.get? (s.grant r).l1 (r.core, r.line) =
    some (if r.own then .modified else if s.holdersOf r.line r.core = [] then .exclusive else .shared) := by
  unfold State.grant
  split
  · exact Store.get?_put_self ..
  · refine (Store.get?_put_self ..).trans (congrArg some ?_)
    simp only [List.isEmpty_iff]

theorem Store.get?_map_key {κ α : Type} [DecidableEq κ] (f : κ × α → κ × α) (hf : ∀ p, (f p).1 = p.1) {m : Store κ α} {k : κ} (h : Store.get? m k = none) :
    Store.get? (m.map f) k = none := by
  have hmap : m.map f = m.map fun p => (p.1, (f p).2) := List.map_congr_left fun p _ => by rw [← hf p]
  rw [hmap]
  exact Store.get?_map_value _ m h

/-- A core that has given up a line does not get it back with another core's grant. -/
theorem State.grant_other {s : State} {r : CohReq} {c : Nat} (hc : r.core ≠ c) (h : Store.get? s.l1 (c, r.line) = none) :
    Store.get? (s.grant r).l1 (c, r.line) = none := by
  have hne : (c, r.line) ≠ (r.core, r.line) := fun he => hc (congrArg Prod.fst he).symm
  unfold State.grant
  split
  · refine (Store.get?_put_of_ne _ _ hne).trans ?_
    rw [Store.get?_filter_key fun k : Nat × Nat => k.2 != r.line]
    simp
  · refine (Store.get?_put_of_ne _ _ hne).trans (Store.get?_map_key _ (fun p => ?_) h)
    split <;> rfl

/-- What a grant leaves besides the copies of the line. -/
def State.grantView (s : State) : Store Reg Word × Mem × List CohReq × Store Nat Work × Store Nat (Nat × CohReq) :=
  (s.regs, s.mem, s.cohWait, s.works, s.recalls)

theorem State.grant_view (s : State) (r : CohReq) : (s.grant r).grantView = s.grantView := by
  unfold State.grant
  split <;> rfl

/-- The 64 bytes of a line that comes back (R441). -/
theorem State.returnLine_of {s : State} {l : Nat} {d : Bytes} (h : d.length = 64) :
    s.returnLine l d = ({ s with mem := Mem.setBytes s.mem (64 * l) d } : State).unpoison (64 * l) 64 := if_pos h

/-- A recall that is answered: the request that waits gets the line. -/
def State.recallServed (s : State) (h l : Nat) (q : CohReq) (keep : Bool) : State :=
  let u := { s with recalls := Store.del s.recalls l }
  State.grant (if q.own || !keep then { u with l1 := Store.del u.l1 (h, l) } else { u with l1 := Store.put u.l1 (h, l) .shared }) q

theorem State.recallServed_view (s : State) (h l : Nat) (q : CohReq) (keep : Bool) :
    (s.recallServed h l q keep).grantView = (s.regs, s.mem, s.cohWait, s.works, Store.del s.recalls l) := by
  refine (State.grant_view _ q).trans ?_
  split <;> rfl

theorem State.serveRecall_of {s : State} {h l : Nat} {q : CohReq} (keep : Bool) (hr : Store.get? s.recalls l = some (h, q))
    (hw : ∀ r ∈ s.cohWait, r.line ≠ l) : s.serveRecall l keep = s.recallServed h l q keep := by
  have hwait : (s.recallServed h l q keep).cohWait = s.cohWait := congrArg (·.2.2.1) (s.recallServed_view h l q keep)
  have hstand : admitLine l ((s.recallServed h l q keep).standing l).length (s.recallServed h l q keep) = s.recallServed h l q keep :=
    admitLine_nil (by rwa [hwait])
  unfold State.serveRecall
  simp only [hr]
  exact hstand

theorem execWriteBack_modified {c l : Nat} {d : Bytes} {s : State} (h : Store.get? s.l1 (c, l) = some .modified) : execWriteBack c l d s =
    let u := s.returnLine l d
    if (Store.get? u.recalls l).any (·.1 == c) then .next (u.serveRecall l false)
    else .next (admitLine l (State.standing { u with l1 := Store.del u.l1 (c, l) } l).length { u with l1 := Store.del u.l1 (c, l) }) :=
  (if_neg (not_not_intro h)).trans rfl

/-- The line of a recall that is served: for ownership, and for a read while its old owner keeps a copy (R442). -/
theorem State.recallServed_own (s : State) {h l : Nat} {q : CohReq} (keep : Bool) (hl : q.line = l) (ho : q.own = true) :
    Store.get? (s.recallServed h l q keep).l1 (q.core, l) = some .modified := by
  refine hl ▸ (State.grant_core _ q).trans ?_
  rw [if_pos ho]

theorem State.recallServed_shared (s : State) {h l : Nat} {q : CohReq} (hl : q.line = l) (hq : h ≠ q.core) (ho : q.own = false) :
    Store.get? (s.recallServed h l q true).l1 (q.core, l) = some .shared := by
  have hgrant := State.grant_core { s with recalls := Store.del s.recalls l, l1 := Store.put s.l1 (h, l) .shared } q
  have hholder : h ∈ State.holdersOf { s with recalls := Store.del s.recalls l, l1 := Store.put s.l1 (h, l) .shared } q.line q.core := by
    refine List.mem_map.mpr ⟨((h, l), .shared), List.mem_filter.mpr ⟨Store.mem_put_self _ _ _, ?_⟩, rfl⟩
    simp [hl, hq]
  rw [ho, if_neg Bool.false_ne_true, if_neg (List.ne_nil_of_mem hholder), hl] at hgrant
  unfold State.recallServed
  rw [ho]
  exact hgrant

/-- The old owner gives up the line that it writes back. -/
theorem State.recallServed_gone (s : State) {c l : Nat} {q : CohReq} (hl : q.line = l) (hq : q.core ≠ c) :
    Store.get? (s.recallServed c l q false).l1 (c, l) = none := by
  have hif : (q.own || !false) = true := by simp
  simp only [State.recallServed, hif, if_true]
  subst hl
  exact State.grant_other hq ((Store.get?_del ..).trans (if_pos rfl))

/-- Settles O40: a sole request is let in at once; an answered recall serves the request that waits. -/
theorem coreCaches : Obligations.CoreCaches := by
  unfold Obligations.CoreCaches
  refine ⟨?read, ?own, ?recalled, ?stands, ?several, ?poisoned, ?back, ?backRecalled, ?notModified, ?answer, ?noRecall⟩
  case read =>
    intro c l s hc hp hw hr hd
    obtain ⟨x, hx⟩ := State.cohRequest_lone (own := false) hc hp hw hr
    rw [hd] at hx
    have hview := State.grant_view { s with losers := x, free := s.free + 1 } { core := c, line := l, own := false }
    refine ⟨_, (show exec (.readRequest c l) s = execReadRequest c l s from rfl).trans (congrArg Host.Outcome.next hx), State.grant_core _ _,
      congrArg (·.2.2.1) hview, congrArg (·.2.1) hview, congrArg (·.1) hview⟩
  case own =>
    intro c l s hc hp hw hr hd
    obtain ⟨x, hx⟩ := State.cohRequest_lone (own := true) hc hp hw hr
    rw [hd] at hx
    have hview := State.grant_view { s with losers := x, free := s.free + 1 } { core := c, line := l, own := true }
    refine ⟨_, (show exec (.ownershipRequest [c] l) s = execOwnershipRequest [c] l s from rfl).trans (congrArg Host.Outcome.next hx), State.grant_core _ _,
      State.grant_own_holders _ rfl, congrArg (·.2.2.1) hview, congrArg (·.2.1) hview, congrArg (·.1) hview⟩
  case recalled =>
    intro c h l s hc hp hw hr hd
    obtain ⟨x, hx⟩ := State.cohRequest_lone (own := false) hc hp hw hr
    obtain ⟨y, hy⟩ := State.cohRequest_lone (own := true) hc hp hw hr
    rw [hd] at hx hy
    exact ⟨⟨_, (show exec (.readRequest c l) s = execReadRequest c l s from rfl).trans (congrArg Host.Outcome.next hx), Store.get?_put_self .., rfl, rfl, rfl⟩,
      ⟨_, (show exec (.ownershipRequest [c] l) s = execOwnershipRequest [c] l s from rfl).trans (congrArg Host.Outcome.next hy), Store.get?_put_self .., rfl, rfl, rfl⟩⟩
  case stands =>
    intro c l s hc hp hr
    have hcs : ∀ k ∈ [c], k < 32 := fun k hk => List.mem_singleton.mp hk ▸ hc
    exact ⟨(show exec (.readRequest c l) s = execReadRequest c l s from rfl).trans (congrArg Host.Outcome.next (State.cohRequest_recalled hcs hp hr)),
      (show exec (.ownershipRequest [c] l) s = execOwnershipRequest [c] l s from rfl).trans (congrArg Host.Outcome.next (State.cohRequest_recalled hcs hp hr))⟩
  case several =>
    intro cs l s hc hp hr
    exact (show exec (.ownershipRequest cs l) s = execOwnershipRequest cs l s from rfl).trans
      (congrArg Host.Outcome.next (State.cohRequest_recalled hc hp hr))
  case poisoned =>
    intro c l s hc hp
    have heq : exec (.readRequest c l) s = .next (s.cohRequest [c] l false) := rfl
    have hview := State.cohRequest_poisoned (own := false) hc hp
    generalize s.cohRequest [c] l false = t at heq hview
    obtain ⟨hdet, hmem, hworks⟩ := by simpa only [State.cohView, Prod.mk.injEq] using hview
    exact ⟨t, heq, hdet, hmem, hworks⟩
  case back =>
    intro c l d s hm hd hr hw
    have heq := (show exec (.writeBack c l d) s = execWriteBack c l d s from rfl).trans (execWriteBack_modified hm)
    rw [State.returnLine_of hd] at heq
    generalize Mem.setBytes s.mem (64 * l) d = m at heq ⊢
    refine ⟨_, heq.trans ((if_neg fun h => ?_).trans (congrArg Host.Outcome.next (admitLine_nil hw))), rfl, (Store.get?_del ..).trans (if_pos rfl), rfl, rfl⟩
    obtain ⟨p, hp, hpc⟩ := (Option.any_eq_true ..).mp h
    exact hr p hp (beq_iff_eq.mp hpc)
  case backRecalled =>
    intro c l d q s hm hd hr hl hq hw
    have heq := (show exec (.writeBack c l d) s = execWriteBack c l d s from rfl).trans (execWriteBack_modified hm)
    rw [State.returnLine_of hd] at heq
    generalize Mem.setBytes s.mem (64 * l) d = m at heq ⊢
    generalize hu : ({ s with mem := m } : State).unpoison (64 * l) 64 = u at heq
    have hrec : u.recalls = s.recalls ∧ u.cohWait = s.cohWait ∧ u.mem = m ∧ u.regs = s.regs := by
      rw [← hu]
      exact ⟨rfl, rfl, rfl, rfl⟩
    obtain ⟨hrecalls, hwait, hmem, hregs⟩ := hrec
    have hru : Store.get? u.recalls l = some (c, q) := by rw [hrecalls]; exact hr
    have hserve := heq.trans ((if_pos (by rw [hru]; simp)).trans (congrArg Host.Outcome.next (State.serveRecall_of false hru (by rwa [hwait]))))
    have hview := u.recallServed_view c l q false
    refine ⟨_, hserve, (congrArg (·.2.1) hview).trans hmem, ?_, State.recallServed_gone u hl hq, fun ho => State.recallServed_own u false hl ho,
      (congrArg (·.1) hview).trans hregs⟩
    exact (congrArg (fun v => Store.get? v.2.2.2.2 l) hview).trans ((Store.get?_del ..).trans (if_pos rfl))
  case notModified =>
    intro c l d s h
    exact (show exec (.writeBack c l d) s = execWriteBack c l d s from rfl).trans (if_pos h)
  case answer =>
    intro l h q d s hr hl hq hd hw
    have heq := (show exec (.recallAnswer l d) s = execRecallAnswer l d s from rfl).trans (if_pos (by rw [hr]; rfl))
    rw [State.returnLine_of hd] at heq
    generalize Mem.setBytes s.mem (64 * l) d = m at heq ⊢
    generalize hu : ({ s with mem := m } : State).unpoison (64 * l) 64 = u at heq
    have hrec : u.recalls = s.recalls ∧ u.cohWait = s.cohWait ∧ u.mem = m ∧ u.regs = s.regs := by
      rw [← hu]
      exact ⟨rfl, rfl, rfl, rfl⟩
    obtain ⟨hrecalls, hwait, hmem, hregs⟩ := hrec
    have hru : Store.get? u.recalls l = some (h, q) := by rw [hrecalls]; exact hr
    have hserve := heq.trans (congrArg Host.Outcome.next (State.serveRecall_of true hru (by rwa [hwait])))
    have hview := u.recallServed_view h l q true
    refine ⟨_, hserve, (congrArg (·.2.1) hview).trans hmem, ?_, ?_, (congrArg (·.1) hview).trans hregs⟩
    · exact (congrArg (fun v => Store.get? v.2.2.2.2 l) hview).trans ((Store.get?_del ..).trans (if_pos rfl))
    · cases ho : q.own with
      | true => exact State.recallServed_own u true hl ho
      | false => exact State.recallServed_shared u hl hq ho
  case noRecall =>
    intro l d s h
    exact (show exec (.recallAnswer l d) s = execRecallAnswer l d s from rfl).trans (if_neg (by rw [h]; exact Bool.false_ne_true))

end Sys2Proof.Machine
end

section
/-!
SUPPORT. Converters (O41): conversions, scans, urgent requests, verification rounds and result queues.
-/

namespace Sys2Proof.Machine

/-! ## Orders of the converters -/

theorem State.tollOrder_offered {s : State} {k op : Nat} {w : Work} {go : Work → State} (hk : s.work? k = some w) (ho : w.opcode = op) (hw : w.stage = .routed) :
    s.tollOrder k op go = s.setWork k { w with stage := .offered, key := [s.fr, 1, w.stall, k] } :=
  (s.onWork_eq k op _ hk ho).trans (if_pos hw)

theorem State.tollOrder_window {s : State} {k op : Nat} {w : Work} {go : Work → State} (hk : s.work? k = some w) (ho : w.opcode = op) (hw : w.stage = .window) :
    s.tollOrder k op go = go w :=
  (s.onWork_eq k op _ hk ho).trans ((if_neg (by rw [hw]; decide)).trans (if_pos hw))

theorem execAdcSequence_list {k : Nat} {w : Work} {s : State} (hk : s.work? k = some w) (ho : w.opcode = Op.adcSequence) (hw : w.stage = .dataRead)
    (hd : w.data.length = 8 * w.entries) : execAdcSequence k s = .next (
      if ((List.range w.entries).map w.entry).any (fun e => !entryOk e) then s.finalReceipt k Status.malformed 0x013
      else if (((List.range w.entries).map w.entry).map entryAdc).eraseDups.any (fun c => decide (8 ≤ (s.adc c).seqs.length)) then s.finalReceipt k Status.refused 0x103
      else ((((List.range w.entries).map w.entry).map entryAdc).eraseDups.foldl (fun (t : State) c => t.setAdc c { t.adc c with seqs := (t.adc c).seqs ++ [k] })
        (s.setWork k { w with stage := .running, count := 0, result := 0 })).adcKick) :=
  congrArg Host.Outcome.next ((s.onWork_eq k _ _ hk ho).trans ((if_neg (by rw [hw]; decide)).trans (if_neg fun h => h.elim (· hw) (· hd))))

/-! ## Conversions -/

/-- A conversion of the served result. -/
def State.converted (s : State) (c : Nat) (r : AdcRun) (v : Int) (o : Bool) : AdcRun :=
  { r with n := r.n + 1, sum := r.sum + v, overRange := r.overRange || o, mixed := r.mixed || (s.pmuLive c r.input != (r.mode, r.range)) }

section
variable {c : Nat} {v : Int} {o : Bool} {s : State}

theorem execConversionDone_run {r : AdcRun} (hs : (s.adc c).safety = []) (hround : s.roundOf c = []) (hr : (s.adc c).run = some r) :
    execConversionDone c v o s =
      if (s.converted c r v o).n < (s.converted c r v o).total then .next (s.setAdc c { s.adc c with run := some (s.converted c r v o) })
      else .next ((if (s.converted c r v o).pmu then (s.setAdc c { s.adc c with run := none }).pmuResult (s.converted c r v o) (s.resultWord c (s.converted c r v o))
        else (s.setAdc c { s.adc c with run := none }).seqResult c (s.converted c r v o) (s.resultWord c (s.converted c r v o))).adcKick) := by
  unfold execConversionDone
  simp only [hs, hround, hr]
  rfl

theorem execConversionDone_safety {h : Nat} {vs : List Int} {l : List (Nat × List Int)} (hs : (s.adc c).safety = (h, vs) :: l) : execConversionDone c v o s =
    .next (if (vs ++ [if s.adcFailed c then 0 else v]).length < 4 then s.setAdc c { s.adc c with safety := (h, vs ++ [if s.adcFailed c then 0 else v]) :: l }
      else { s.setAdc c { s.adc c with safety := l } with safetyRes := Store.put s.safetyRes h (vs ++ [if s.adcFailed c then 0 else v]) }) := by
  refine (if_pos (by rw [hs]; exact List.cons_ne_nil _ _)).trans (congrArg Host.Outcome.next ?_)
  simp only [State.safetyValue, hs]

theorem execConversionDone_none (hs : (s.adc c).safety = []) (h : s.roundOf c ≠ [] ∨ (s.adc c).run = none) : execConversionDone c v o s = .next s := by
  refine (if_neg (not_not_intro hs)).trans ?_
  by_cases hr : s.roundOf c ≠ []
  · exact if_pos hr
  · refine (if_neg hr).trans ?_
    rw [h.resolve_left hr]

end

/-! ## Urgent requests -/

theorem State.abortConversion_frame (s : State) (c : Nat) :
    (s.abortConversion c).chans = s.chans ∧ ((s.abortConversion c).adc c).safety = (s.adc c).safety := by
  unfold State.abortConversion
  split
  · rename_i r _
    have hput : (s.setAdc c { s.adc c with run := some { r with restarted := true } }).adc c = { s.adc c with run := some { r with restarted := true } } :=
      (Store.getD_put ..).trans (if_pos rfl)
    exact ⟨rfl, (congrArg Adc.safety hput :)⟩
  · exact ⟨rfl, rfl⟩

theorem State.roundOf_congr {s t : State} (h : t.chans = s.chans) (c : Nat) : t.roundOf c = s.roundOf c := by
  simp only [State.roundOf, State.chan, h]

/-- A safety request stands behind those before it (R517). -/
def State.asksSafety (s : State) (h : Nat) : State :=
  s.setAdc (h / 4) { s.adc (h / 4) with safety := (s.adc (h / 4)).safety ++ [(h, [])], roundAborted := s.roundOf (h / 4) != [] }

theorem execUrgentRequest_due {h : Nat} {s : State} (hd : s.safetyDue.contains h = true) : execUrgentRequest h true s =
    let u := { s with safetyDue := s.safetyDue.erase h }
    .next (if (s.adc (h / 4)).safety = [] ∧ s.roundOf (h / 4) = [] then (u.abortConversion (h / 4)).asksSafety h
      else if (s.adc (h / 4)).safety = [] then (u.setBit F.ADC_EVENTS_RESTART).asksSafety h else u.asksSafety h) := by
  simp only [execUrgentRequest, hd, Bool.not_true, Bool.false_eq_true, if_true, if_false]
  refine congrArg Host.Outcome.next ?_
  by_cases hidle : (s.adc (h / 4)).safety = [] ∧ s.roundOf (h / 4) = []
  · simp only [if_pos hidle]
    rfl
  · simp only [if_neg hidle]
    by_cases hs : (s.adc (h / 4)).safety = []
    · simp only [if_pos hs]
      rfl
    · simp only [if_neg hs]
      rfl

theorem State.abortConversion_due (s : State) (c : Nat) (l : List Nat) :
    ({ s with safetyDue := l } : State).abortConversion c = { s.abortConversion c with safetyDue := l } := by
  unfold State.abortConversion
  rw [show ({ s with safetyDue := l } : State).adc c = s.adc c from rfl]
  split <;> rfl

theorem State.asksSafety_of {s t : State} {h : Nat} (hsafety : (t.adc (h / 4)).safety = (s.adc (h / 4)).safety) (hchans : t.chans = s.chans) :
    t.asksSafety h = t.setAdc (h / 4) { t.adc (h / 4) with safety := (s.adc (h / 4)).safety ++ [(h, [])], roundAborted := s.roundOf (h / 4) != [] } := by
  unfold State.asksSafety
  rw [hsafety, State.roundOf_congr hchans]

/-! ## Verification rounds -/

/-- The channel leaves its round. -/
def State.leftRound (s : State) (c h : Nat) (ok : Bool) : State :=
  (s.setChan h { s.chan h with inRound := false, verified := ok }).setAdc c { s.adc c with roundAborted := false }

theorem State.leftRound_chan (s : State) (c h k : Nat) (ok : Bool) : (s.leftRound c h ok).chan k = if k = h then { s.chan h with inRound := false, verified := ok } else s.chan k :=
  Store.getD_put ..

theorem State.roundOf_leftRound (s : State) (c h : Nat) (ok : Bool) : (s.leftRound c h ok).roundOf c = (s.roundOf c).filter (· != h) := by
  simp only [State.roundOf, List.filter_filter, State.leftRound_chan]
  refine List.filter_congr fun k _ => ?_
  by_cases hk : k = h <;> simp [hk]

/-- The report of a channel that fails its verification (R519). -/
def State.verifyFails (s : State) (h dev : Nat) : State :=
  (((s.setBit F.ADC_EVENTS_VERIFY_FAIL).set F.ADC_VERIFY_INFO_DEV dev).set F.ADC_VERIFY_INFO_CH h).detect { kind := 1, cause := 0x220, source := 0x300 + h }

theorem execLevelVerify_first {c d h : Nat} {l : List Nat} {s : State} (hr : s.roundOf c = h :: l) (hs : (s.adc c).safety = []) {ok : Bool}
    (hok : (!s.adcFailed c && decide (d ≤ devLimit)) = ok) : execLevelVerify c d s =
      let u := if ok then s.leftRound c h ok else (s.leftRound c h ok).verifyFails h (if s.adcFailed c then 0 else d)
      .next (if u.roundOf c = [] then u.startRound c else u) := by
  subst hok
  unfold execLevelVerify
  simp only [hr]
  exact (if_neg (not_not_intro hs)).trans rfl

theorem State.roundOf_left {s : State} {c h : Nat} {l : List Nat} {ok : Bool} (hr : s.roundOf c = h :: l) (hh : h ∉ l) : (s.leftRound c h ok).roundOf c = l := by
  rw [State.roundOf_leftRound, hr, List.filter_cons_of_neg (by simp)]
  exact List.filter_eq_self.mpr fun k hk => bne_iff_ne.mpr fun he => hh (he ▸ hk)

section
variable {c d h : Nat} {l : List Nat} {s : State} (hr : s.roundOf c = h :: l) (hs : (s.adc c).safety = [])
include hr hs

theorem execLevelVerify_good (hf : s.adcFailed c = false) (hd : d ≤ 41) : execLevelVerify c d s =
    .next (if (s.leftRound c h true).roundOf c = [] then (s.leftRound c h true).startRound c else s.leftRound c h true) :=
  execLevelVerify_first (ok := true) hr hs (by simp [hf, hd, devLimit])

theorem execLevelVerify_bad (hbad : s.adcFailed c = true ∨ 41 < d) : execLevelVerify c d s =
    .next (if ((s.leftRound c h false).verifyFails h (if s.adcFailed c then 0 else d)).roundOf c = []
      then ((s.leftRound c h false).verifyFails h (if s.adcFailed c then 0 else d)).startRound c
      else (s.leftRound c h false).verifyFails h (if s.adcFailed c then 0 else d)) := by
  refine execLevelVerify_first (ok := false) hr hs ?_
  rcases hbad with hf | hd
  · simp [hf]
  · simp [Nat.not_le.mpr hd, devLimit]

end

theorem State.verifyFails_spec (s : State) (h dev : Nat) :
    let t := s.verifyFails h dev
    t.chans = s.chans ∧ t.bit F.ADC_EVENTS_VERIFY_FAIL = true ∧ t.get F.ADC_VERIFY_INFO_CH = h % 2 ^ 8 ∧ t.get F.ADC_VERIFY_INFO_DEV = dev % 2 ^ 16 ∧
      regsBut [.ADC_EVENTS, .ADC_VERIFY_INFO] s t ∧ t.detections = s.detections ++ [{ kind := 1, cause := 0x220, source := 0x300 + h, at_ := s.fr }] := by
  refine ⟨rfl, ?_, State.get_set_self _ _ _ _ _ (by decide), (State.get_set_apart _ _ _ _ _ _ (by decide)).trans (State.get_set_self _ _ _ _ _ (by decide)),
    (((regsBut.refl _ s).set _ _ _ _ (by decide)).set _ _ _ _ (by decide)).set _ _ _ _ (by decide), rfl⟩
  exact (State.bit_set_apart _ _ _ _ _ _ (by decide)).trans ((State.bit_set_apart _ _ _ _ _ _ (by decide)).trans (State.bit_setBit _ _ _ _ (by decide) (by decide)))

/-- A round that begins takes channels, and nothing else. -/
theorem State.startRound_frame (s : State) (c : Nat) : (s.startRound c).regs = s.regs ∧ (s.startRound c).detections = s.detections := by
  have h := foldl_keep (fun t : State => t.regs = s.regs ∧ t.detections = s.detections)
    (fun (s : State) h => if (s.chan h).verifyPending then s.setChan h { s.chan h with verifyPending := false, inRound := true } else s)
    (fun t x ht => by
      split
      · exact ht
      · exact ht) ((List.range 4).map (4 * c + ·)) (s := s.setAdc c { s.adc c with roundAborted := false }) ⟨rfl, rfl⟩
  exact h

/-! ## Scans -/

/-- What a scan shows (R512). -/
def State.scanShown (s : State) (c : Nat) (x : List Nat) : State :=
  (((s.set F.ADC_MONn_0_TEMP (x.getD 0 0) c).set F.ADC_MONn_0_RAIL_HI (x.getD 1 0) c).set F.ADC_MONn_1_RAIL_LO (x.getD 2 0) c).set F.ADC_MONn_1_RAIL_A (x.getD 3 0) c

theorem State.scanShown_spec (s : State) (c : Nat) (x : List Nat) :
    let t := s.scanShown c x
    t.get F.ADC_MONn_0_TEMP c = x.getD 0 0 % 2 ^ 16 ∧ t.get F.ADC_MONn_0_RAIL_HI c = x.getD 1 0 % 2 ^ 16 ∧ t.get F.ADC_MONn_1_RAIL_LO c = x.getD 2 0 % 2 ^ 16 ∧
      t.get F.ADC_MONn_1_RAIL_A c = x.getD 3 0 % 2 ^ 16 ∧ RegStep [.ADC_MONn_0, .ADC_MONn_1] s t := by
  refine ⟨?_, ?_, ?_, State.get_set_self _ _ _ _ _ (by decide), ?_⟩
  · exact (State.get_set_apart _ _ _ _ _ _ (by decide)).trans ((State.get_set_apart _ _ _ _ _ _ (by decide)).trans ((State.get_set_apart _ _ _ _ _ _ (by decide)).trans
      (State.get_set_self _ _ _ _ _ (by decide))))
  · exact (State.get_set_apart _ _ _ _ _ _ (by decide)).trans ((State.get_set_apart _ _ _ _ _ _ (by decide)).trans (State.get_set_self _ _ _ _ _ (by decide)))
  · exact (State.get_set_apart _ _ _ _ _ _ (by decide)).trans (State.get_set_self _ _ _ _ _ (by decide))
  · exact RegStep.set (RegStep.set (RegStep.set (RegStep.set (.refl _ _ s) _ _ _ _ (by decide)) _ _ _ _ (by decide)) _ _ _ _ (by decide)) _ _ _ _ (by decide)

/-- The alarm of a reading outside its limits. -/
def State.scanAlarms (s : State) (c : Nat) (p : Bool) : State := if p then (s.setBit F.ADC_EVENTS_ALARM).raise (0x3C0 + c) s.fr else s

theorem State.scanAlarms_spec (s : State) (c : Nat) (p : Bool) : let t := s.scanAlarms c p
    RegStep [.ADC_EVENTS] { s with events := t.events } t ∧ t.bit F.ADC_EVENTS_ALARM = (s.bit F.ADC_EVENTS_ALARM || p) := by
  cases p with
  | true => exact ⟨RegStep.set (.refl _ _ _) _ _ _ _ (by decide), (State.bit_setBit _ _ _ _ (by decide) (by decide)).trans (Bool.or_true _).symm⟩
  | false => exact ⟨.refl _ _ s, (Bool.or_false _).symm⟩

/-- The detection of a die above 105 °C. -/
def State.scanHeat (s : State) (hot : Prop) [Decidable hot] : State := if hot then s.detect { kind := 9, cause := 0x227, source := 0xA01 } else s

theorem State.scanHeat_eq (s : State) (hot : Prop) [Decidable hot] : s.scanHeat hot =
    { s with detections := s.detections ++ if hot then [{ kind := 9, cause := 0x227, source := 0xA01, at_ := s.fr }] else [] } := by
  unfold State.scanHeat
  split
  · rfl
  · exact congrArg (fun l => { s with detections := l }) (List.append_nil s.detections).symm

theorem State.adcFailed_eq (s : State) (c : Nat) : s.adcFailed c = bitOf (s.get F.ADC_FAILED_w_FAILED (c / 32)) (c % 32) := by
  simp [State.adcFailed, State.get, Fld.get, F.ADC_FAILED_w_FAILED]

/-- A converter that is taken out of service. -/
theorem State.failAdc_spec (s : State) (c : Nat) : RegStep [.ADC_FAILED_w, .ADC_EVENTS] s (s.failAdc c) ∧ (s.failAdc c).adcFailed c = true ∧
    (s.failAdc c).bit F.ADC_EVENTS_ALARM = s.bit F.ADC_EVENTS_ALARM := by
  refine ⟨RegStep.set (RegStep.set (.refl _ _ s) _ _ _ _ (by decide)) _ _ _ _ (by decide), ?_,
    (State.bit_setBit_apart _ _ _ _ _ (by decide)).trans (State.bit_set_apart _ _ _ _ _ _ (by decide))⟩
  have hget : (s.failAdc c).get F.ADC_FAILED_w_FAILED (c / 32) = ofSet (c % 32 :: setBits (s.get F.ADC_FAILED_w_FAILED (c / 32)) 32) 32 := by
    refine (State.get_setBit_apart _ _ _ _ _ (by decide)).trans ((State.get_set_self _ _ _ _ _ (by decide)).trans (Nat.mod_eq_of_lt ?_))
    exact ofSet_lt _ _
  rw [State.adcFailed_eq, hget, bitOf_ofSet _ (Nat.mod_lt _ (by decide))]
  simp

theorem execMonitorScan_scans {c : Nat} {v : List Int} {s : State} (hc : c < 64) (hp : s.rowPowered (c / 16) = true) (hm : s.mayScan c = true) :
    execMonitorScan c v s =
      let x := (List.range 4).map fun i => if s.adcFailed c then 0 else unsigned (v.getD i 0) 16
      let u := ((s.scanShown c x).scanAlarms c ((s.scanShown c x).scanAlarm x)).scanHeat (10500 < signed (x.getD 0 0) 16)
      .next (if !s.adcFailed c && selfCheckFails c (v.getD 4 0) (v.getD 5 0) then u.failAdc c else u) :=
  (if_neg (by simp [hc, hp, hm])).trans rfl

theorem State.scanAlarm_congr {s t : State} (h : regsBut [.ADC_MONn_0, .ADC_MONn_1] s t) (x : List Nat) : t.scanAlarm x = s.scanAlarm x := by
  simp only [State.scanAlarm, fun m => State.get_of_regsBut h F.ADC_RAIL_LIMIT_m_LO m 0 (by decide), fun m => State.get_of_regsBut h F.ADC_RAIL_LIMIT_m_HI m 0 (by decide),
    State.get_of_regsBut h F.ADC_ALARM_TEMP_TEMP 0 0 (by decide)]

theorem State.adcFailed_of_regsBut {l : List RegName} {s t : State} (h : regsBut l s t) (c : Nat) (hl : RegName.ADC_FAILED_w ∉ l) : t.adcFailed c = s.adcFailed c := by
  rw [State.adcFailed_eq, State.adcFailed_eq, State.get_of_regsBut h F.ADC_FAILED_w_FAILED _ _ hl]

/-- What a scan of a converter in service leaves. -/
theorem execMonitorScan_spec {c : Nat} {v : List Int} {s : State} (hc : c < 64) (hp : s.rowPowered (c / 16) = true) (hm : s.mayScan c = true) :
    let x := (List.range 4).map fun i => if s.adcFailed c then 0 else unsigned (v.getD i 0) 16
    ∃ t, execMonitorScan c v s = .next t ∧ t.get F.ADC_MONn_0_TEMP c = x.getD 0 0 % 2 ^ 16 ∧ t.get F.ADC_MONn_0_RAIL_HI c = x.getD 1 0 % 2 ^ 16 ∧
      t.get F.ADC_MONn_1_RAIL_LO c = x.getD 2 0 % 2 ^ 16 ∧ t.get F.ADC_MONn_1_RAIL_A c = x.getD 3 0 % 2 ^ 16 ∧
      t.bit F.ADC_EVENTS_ALARM = (s.bit F.ADC_EVENTS_ALARM || s.scanAlarm x) ∧
      t.detections = s.detections ++ (if 10500 < signed (x.getD 0 0) 16 then [{ kind := 9, cause := 0x227, source := 0xA01, at_ := s.fr }] else []) ∧
      t.adcFailed c = (s.adcFailed c || selfCheckFails c (v.getD 4 0) (v.getD 5 0)) ∧
      regsBut [.ADC_MONn_0, .ADC_MONn_1, .ADC_EVENTS, .ADC_FAILED_w] s t ∧ t.mem = s.mem ∧ t.works = s.works := by
  intro x
  have heq := execMonitorScan_scans (v := v) hc hp hm
  change execMonitorScan c v s = .next (if !s.adcFailed c && selfCheckFails c (v.getD 4 0) (v.getD 5 0) then
    (((s.scanShown c x).scanAlarms c ((s.scanShown c x).scanAlarm x)).scanHeat (10500 < signed (x.getD 0 0) 16)).failAdc c
    else ((s.scanShown c x).scanAlarms c ((s.scanShown c x).scanAlarm x)).scanHeat (10500 < signed (x.getD 0 0) 16)) at heq
  obtain ⟨htemp, hhi, hlo, ha, hshown⟩ := s.scanShown_spec c x
  rw [State.scanHeat_eq, State.scanAlarm_congr hshown.regs] at heq
  generalize s.scanShown c x = t₁ at heq htemp hhi hlo ha hshown
  obtain ⟨halarm, hbit⟩ := t₁.scanAlarms_spec c (s.scanAlarm x)
  generalize t₁.scanAlarms c (s.scanAlarm x) = t₂ at heq halarm hbit
  generalize hl : (if 10500 < signed (x.getD 0 0) 16 then [({ kind := 9, cause := 0x227, source := 0xA01, at_ := t₂.fr } : Detection)] else []) = l at heq
  generalize hu : ({ t₂ with detections := t₂.detections ++ l } : State) = u at heq
  have hfr : t₂.fr = s.fr := (halarm.field State.fr fun _ => rfl).trans (hshown.field State.fr fun _ => rfl)
  have hdet₂ : t₂.detections = s.detections := (halarm.field State.detections fun _ => rfl).trans (hshown.field State.detections fun _ => rfl)
  have hregs : regsBut [.ADC_MONn_0, .ADC_MONn_1, .ADC_EVENTS] s u := by
    rw [← hu]
    exact ((hshown.regs.mono (by decide)).trans (halarm.regs.mono (by decide))).of_regs rfl
  have hregs₁ : regsBut [.ADC_EVENTS] t₁ u := by
    rw [← hu]
    exact halarm.regs.of_regs rfl
  have hbitu : u.bit F.ADC_EVENTS_ALARM = (s.bit F.ADC_EVENTS_ALARM || s.scanAlarm x) := by
    rw [← hu]
    exact hbit.trans (congrArg (· || s.scanAlarm x) (State.bit_of_regsBut hshown.regs _ _ _ (by decide)))
  have hdet : u.detections = s.detections ++ (if 10500 < signed (x.getD 0 0) 16 then [{ kind := 9, cause := 0x227, source := 0xA01, at_ := s.fr }] else []) := by
    rw [← hu, ← hfr, ← hdet₂, hl]
  have hmem : u.mem = s.mem := by
    rw [← hu]
    exact (halarm.field State.mem fun _ => rfl).trans (hshown.field State.mem fun _ => rfl)
  have hworks : u.works = s.works := by
    rw [← hu]
    exact (halarm.field State.works fun _ => rfl).trans (hshown.field State.works fun _ => rfl)
  have hfail : u.adcFailed c = s.adcFailed c := State.adcFailed_of_regsBut hregs c (by decide)
  have hget : ∀ f : Fld, f.reg ∉ [RegName.ADC_EVENTS] → u.get f c = t₁.get f c := fun f hf => State.get_of_regsBut hregs₁ f c 0 hf
  cases hcheck : !s.adcFailed c && selfCheckFails c (v.getD 4 0) (v.getD 5 0) with
  | false =>
    refine ⟨u, heq.trans (by rw [hcheck]; rfl), (hget _ (by decide)).trans htemp, (hget _ (by decide)).trans hhi, (hget _ (by decide)).trans hlo,
      (hget _ (by decide)).trans ha, hbitu, hdet, hfail.trans ?_, hregs.mono (by decide), hmem, hworks⟩
    revert hcheck
    cases s.adcFailed c <;> cases selfCheckFails c (v.getD 4 0) (v.getD 5 0) <;> decide
  | true =>
    obtain ⟨hstep, hout, halm⟩ := u.failAdc_spec c
    have hget' : ∀ f : Fld, f.reg ∉ [RegName.ADC_FAILED_w, .ADC_EVENTS] → f.reg ∉ [RegName.ADC_EVENTS] → (u.failAdc c).get f c = t₁.get f c := fun f hf hf' =>
      (State.get_of_regsBut hstep.regs f c 0 hf).trans (hget f hf')
    refine ⟨u.failAdc c, heq.trans (by rw [hcheck]; rfl), (hget' _ (by decide) (by decide)).trans htemp, (hget' _ (by decide) (by decide)).trans hhi,
      (hget' _ (by decide) (by decide)).trans hlo, (hget' _ (by decide) (by decide)).trans ha, halm.trans hbitu,
      (hstep.field State.detections fun _ => rfl).trans hdet, hout.trans ?_, (hregs.mono (by decide)).trans (hstep.regs.mono (by decide)),
      (hstep.field State.mem fun _ => rfl).trans hmem, (hstep.field State.works fun _ => rfl).trans hworks⟩
    revert hcheck
    cases s.adcFailed c <;> cases selfCheckFails c (v.getD 4 0) (v.getD 5 0) <;> decide

/-- Settles O41: each row unfolds once its guards are decided; a scan, a safety request and a verification have lemmas of their own. -/
theorem converters : Obligations.Converters := by
  unfold Obligations.Converters
  refine ⟨?pmuOffered, ?pmuWindow, ?listRead, ?noList, ?badEntry, ?full, ?joins, ?converts, ?pmuResult, ?seqResult, ?safetyMore, ?safetyLast, ?noConversion,
    ?delay, ?scan, ?noScan, ?oven, ?ovenFailed, ?ovenOff, ?safetyIdle, ?safetyRound, ?safetyBehind, ?round, ?roundSafety, ?verified, ?lastVerified, ?fails, ?lastFails,
    ?noVerify, ?pop⟩
  case pmuOffered =>
    intro k w s hk ho hw
    exact (show exec (.pmuMeasure k) s = execPmuMeasure k s from rfl).trans (congrArg Host.Outcome.next (State.tollOrder_offered hk ho hw))
  case pmuWindow =>
    intro k w s hk ho hw
    exact (show exec (.pmuMeasure k) s = execPmuMeasure k s from rfl).trans (congrArg Host.Outcome.next (State.tollOrder_window hk ho hw))
  case listRead =>
    intro k w s hk ho hw
    exact (show exec (.adcSequence k) s = execAdcSequence k s from rfl).trans
      (congrArg Host.Outcome.next ((s.onWork_eq k _ _ hk ho).trans (if_pos hw)))
  case noList =>
    intro k w s hk ho hw hd
    exact (show exec (.adcSequence k) s = execAdcSequence k s from rfl).trans
      (congrArg Host.Outcome.next ((s.onWork_eq k _ _ hk ho).trans ((if_neg (by rw [hw]; decide)).trans (if_pos (.inr hd)))))
  case badEntry =>
    intro k w s hk ho hw hd hbad
    exact (show exec (.adcSequence k) s = execAdcSequence k s from rfl).trans
      ((execAdcSequence_list hk ho hw hd).trans (congrArg Host.Outcome.next (if_pos hbad)))
  case full =>
    intro k w s hk ho hw hd hgood hfull
    exact (show exec (.adcSequence k) s = execAdcSequence k s from rfl).trans
      ((execAdcSequence_list hk ho hw hd).trans (congrArg Host.Outcome.next ((if_neg (by rw [hgood]; decide)).trans (if_pos hfull))))
  case joins =>
    intro k w s hk ho hw hd hgood hroom
    exact (show exec (.adcSequence k) s = execAdcSequence k s from rfl).trans
      ((execAdcSequence_list hk ho hw hd).trans (congrArg Host.Outcome.next ((if_neg (by rw [hgood]; decide)).trans (if_neg (by rw [hroom]; decide)))))
  case converts =>
    intro c v o r s hs hround hr x hx
    exact (show exec (.conversionDone c v o) s = execConversionDone c v o s from rfl).trans ((execConversionDone_run hs hround hr).trans (if_pos hx))
  case pmuResult =>
    intro c v o r s hs hround hr x hx hp
    exact (show exec (.conversionDone c v o) s = execConversionDone c v o s from rfl).trans ((execConversionDone_run hs hround hr).trans
      ((if_neg (Nat.not_lt.mpr hx)).trans (congrArg (fun u : State => Host.Outcome.next u.adcKick) (if_pos hp))))
  case seqResult =>
    intro c v o r s hs hround hr x hx hp
    exact (show exec (.conversionDone c v o) s = execConversionDone c v o s from rfl).trans ((execConversionDone_run hs hround hr).trans
      ((if_neg (Nat.not_lt.mpr hx)).trans (congrArg (fun u : State => Host.Outcome.next u.adcKick) (if_neg (by simp [State.converted, hp])))))
  case safetyMore =>
    intro c h v o vs l s hs hlen
    exact (show exec (.conversionDone c v o) s = execConversionDone c v o s from rfl).trans ((execConversionDone_safety hs).trans
      (congrArg Host.Outcome.next (if_pos (by simp; omega))))
  case safetyLast =>
    intro c h v o vs l s hs hlen
    exact (show exec (.conversionDone c v o) s = execConversionDone c v o s from rfl).trans ((execConversionDone_safety hs).trans
      (congrArg Host.Outcome.next (if_neg (by simp; omega))))
  case noConversion =>
    intro c v o s hs h
    exact (show exec (.conversionDone c v o) s = execConversionDone c v o s from rfl).trans (execConversionDone_none hs h)
  case delay =>
    intro c k t d l w s hrun hseqs hlast hk hseq hnext htrig
    refine (show exec (.adcAfterDelay c) s = execAdcAfterDelay c s from rfl).trans ?_
    unfold execAdcAfterDelay
    simp only [hrun, hseqs, hlast, hk, hnext]
    exact if_pos ⟨hseq, htrig⟩
  case scan =>
    intro c v s hc hp hm x
    exact execMonitorScan_spec hc hp hm
  case noScan =>
    intro c v s h
    refine (show exec (.monitorScan c v) s = execMonitorScan c v s from rfl).trans (if_pos (.inr ?_))
    exact h.imp (fun h => by rw [h]; rfl) fun h => by rw [h]; rfl
  case oven =>
    intro x s hp hm hf
    refine (show exec (.ovenConversion x) s = execOvenConversion x s from rfl).trans ((if_neg (by simp [hp, hm])).trans ?_)
    rw [hf]
    rfl
  case ovenFailed =>
    intro x s hp hm hf
    refine (show exec (.ovenConversion x) s = execOvenConversion x s from rfl).trans ((if_neg (by simp [hp, hm])).trans ?_)
    rw [hf]
    rfl
  case ovenOff =>
    intro x s hp hm hf hst
    refine (show exec (.ovenConversion x) s = execOvenConversion x s from rfl).trans ((if_neg (by simp [hp, hm])).trans ?_)
    rw [hf]
    exact execOvenReading_off hst
  case safetyIdle =>
    intro h s hd hs hround
    refine (show exec (.urgentRequest h true) s = execUrgentRequest h true s from rfl).trans ((execUrgentRequest_due hd).trans (congrArg Host.Outcome.next ?_))
    rw [if_pos ⟨hs, hround⟩, State.abortConversion_due]
    obtain ⟨hchans, hsafety⟩ := s.abortConversion_frame (h / 4)
    exact State.asksSafety_of hsafety hchans
  case safetyRound =>
    intro h s hd hs hround
    refine (show exec (.urgentRequest h true) s = execUrgentRequest h true s from rfl).trans ((execUrgentRequest_due hd).trans (congrArg Host.Outcome.next ?_))
    rw [if_neg fun hi => hround hi.2, if_pos hs]
    exact State.asksSafety_of rfl rfl
  case safetyBehind =>
    intro h s hd hs
    refine (show exec (.urgentRequest h true) s = execUrgentRequest h true s from rfl).trans ((execUrgentRequest_due hd).trans (congrArg Host.Outcome.next ?_))
    rw [if_neg fun hi => hs hi.1, if_neg hs]
    exact State.asksSafety_of rfl rfl
  case round =>
    intro h s hv hround hp hs
    refine (show exec (.urgentRequest h false) s = execUrgentRequest h false s from rfl).trans ((if_neg (by simp [hv, hround, hp])).trans ?_)
    exact congrArg (fun u : State => Host.Outcome.next (u.startRound (h / 4))) (if_pos hs)
  case roundSafety =>
    intro h s hv hround hp hs
    refine (show exec (.urgentRequest h false) s = execUrgentRequest h false s from rfl).trans ((if_neg (by simp [hv, hround, hp])).trans ?_)
    exact congrArg (fun u : State => Host.Outcome.next (u.startRound (h / 4))) (if_neg hs)
  case verified =>
    intro c d h l s hr hs hl hh hf hd
    exact (show exec (.levelVerify c d) s = execLevelVerify c d s from rfl).trans ((execLevelVerify_good hr hs hf hd).trans
      (congrArg Host.Outcome.next (if_neg (by rw [State.roundOf_left hr hh]; exact hl))))
  case lastVerified =>
    intro c d h l s hr hs hl hf hd
    subst hl
    exact (show exec (.levelVerify c d) s = execLevelVerify c d s from rfl).trans ((execLevelVerify_good hr hs hf hd).trans
      (congrArg Host.Outcome.next (if_pos (State.roundOf_left hr List.not_mem_nil))))
  case fails =>
    intro c d h l s hr hs hl hh hbad
    have heq := (show exec (.levelVerify c d) s = execLevelVerify c d s from rfl).trans (execLevelVerify_bad hr hs hbad)
    obtain ⟨hchans, hbit, hch, -, hregs, hdet⟩ := (s.leftRound c h false).verifyFails_spec h (if s.adcFailed c then 0 else d)
    have hchan : ((s.leftRound c h false).verifyFails h (if s.adcFailed c then 0 else d)).chan h = { s.chan h with inRound := false, verified := false } :=
      (s.leftRound_chan c h h false).trans (if_pos rfl)
    rw [if_neg (by rw [State.roundOf_congr hchans, State.roundOf_left hr hh]; exact hl)] at heq
    exact ⟨_, heq, congrArg Chan.verified hchan, congrArg Chan.inRound hchan, hbit, hch, hregs, hdet⟩
  case lastFails =>
    intro c d h l s hr hs hl hbad
    subst hl
    have heq := (show exec (.levelVerify c d) s = execLevelVerify c d s from rfl).trans (execLevelVerify_bad hr hs hbad)
    obtain ⟨hchans, hbit, hch, hdev, hregs, hdet⟩ := (s.leftRound c h false).verifyFails_spec h (if s.adcFailed c then 0 else d)
    rw [if_pos ((State.roundOf_congr hchans c).trans (State.roundOf_left hr List.not_mem_nil))] at heq
    generalize (s.leftRound c h false).verifyFails h (if s.adcFailed c then 0 else d) = u at heq hbit hch hdev hregs hdet
    obtain ⟨hsame, hdets⟩ := u.startRound_frame c
    exact ⟨_, heq, (congrArg (· == 1) (State.get_congr hsame _ _ _)).trans hbit, (State.get_congr hsame _ _ _).trans hch, (State.get_congr hsame _ _ _).trans hdev,
      regsBut.of_regs hregs hsame, hdets.trans hdet⟩
  case noVerify =>
    intro c d s h
    refine (show exec (.levelVerify c d) s = execLevelVerify c d s from rfl).trans ?_
    unfold execLevelVerify
    split
    · rfl
    · rename_i x l hr
      exact if_pos (h.resolve_left (by rw [hr]; exact List.cons_ne_nil _ _))
  case pop =>
    intro r e s hb hr he
    have heq := (show exec (.resultQueuePop r) s = execResultQueuePop r s from rfl).trans (if_neg (by simp [hb, hr]))
    rw [he] at heq
    have hstall : regsBut [.ADC_STATUS] s (s.set F.ADC_STATUS_STALLED (ofSet ((setBits (s.get F.ADC_STATUS_STALLED) 4).filter (· != r)) 4)) :=
      (regsBut.refl _ s).set _ _ _ _ (by decide)
    refine ⟨_, heq, rfl, rfl, (Store.getD_put ..).trans (if_pos rfl), ?_, ?_, Store.get?_put_self .., hstall.of_regs rfl, rfl⟩
    · exact (Store.get?_put_of_ne _ _ (by simp)).trans ((Store.get?_put_of_ne _ _ (by simp)).trans (Store.get?_put_self ..))
    · exact (Store.get?_put_of_ne _ _ (by simp)).trans (Store.get?_put_self ..)

end Sys2Proof.Machine
end

section
/-!
SUPPORT. The calibration engine (O42): the checks of an image, the procedures, and the commit of a layer.
-/

namespace Sys2Proof.Machine

/-! ## Ramps -/

/-- Everything but the registers and the channels. -/
def State.offChans (s : State) : State := { s with regs := [], chans := [] }

/-- A step that requests ramps. -/
abbrev RampStep (s t : State) : Prop := Keeps State.offChans [.CHn_STATUS] s t

theorem RampStep.field {β : Type} {s t : State} (h : RampStep s t) (g : State → β) (hg : ∀ u, g u.offChans = g u) : g t = g s :=
  (hg t).symm.trans ((congrArg g h.view).trans (hg s))

theorem State.requestRamp_step (s : State) (c : Nat) : RampStep s (s.requestRamp c) :=
  ⟨rfl, ((regsBut.refl _ s).of_regs rfl).set F.CHn_STATUS_HALTED 0 c 0 (by decide)⟩

theorem State.calBusOff_step (s : State) (rows : List Nat) : RampStep s (s.calBusOff rows) := by
  unfold State.calBusOff
  refine Keeps.foldl _ ?_ _ s
  intro t c
  split
  · exact Keeps.trans (t := t.setChan c { t.chan c with onCalBus := false }) ⟨rfl, (regsBut.refl _ t).of_regs rfl⟩ (State.requestRamp_step _ c)
  · exact .refl _ _ t

/-- The ramps of some channels leave the others, and every channel's SETTLED bit. -/
theorem foldl_requestRamp (cs : List Nat) (s : State) :
    let t := cs.foldl (fun (s : State) c => s.requestRamp c) s
    RampStep s t ∧ (∀ k, k ∉ cs → t.chan k = s.chan k) ∧ ∀ k, t.bit F.CHn_STATUS_SETTLED k = s.bit F.CHn_STATUS_SETTLED k := by
  induction cs generalizing s with
  | nil => exact ⟨.refl _ _ s, fun _ _ => rfl, fun _ => rfl⟩
  | cons c cs ih =>
    obtain ⟨hstep, hchan, hbit⟩ := ih (s.requestRamp c)
    refine ⟨(s.requestRamp_step c).trans hstep, fun k hk => ?_, fun k => ?_⟩
    · obtain ⟨hne, hk⟩ := not_or.mp ((not_congr List.mem_cons).mp hk)
      exact (hchan k hk).trans ((Store.getD_put ..).trans (if_neg hne))
    · exact (hbit k).trans (State.bit_set_apart _ _ _ _ _ _ (by decide))

/-! ## The image -/

/-- The order that the engine takes is shown (R533). -/
def State.engineShown (s : State) (w : Work) : State :=
  (((s.setBit F.CAL_STATUS_BUSY).set F.CAL_STATUS_ROWS (ofSet w.calRows 4)).set F.CAL_ORDER_0_STALL w.stall).set F.CAL_ORDER_1_SEQ w.seq

theorem State.engineShown_spec (s : State) (w : Work) :
    let t := s.engineShown w
    t.bit F.CAL_STATUS_BUSY = true ∧ t.get F.CAL_STATUS_ROWS = ofSet w.calRows 4 % 16 ∧ t.get F.CAL_ORDER_0_STALL = w.stall % 2 ^ F.CAL_ORDER_0_STALL.width ∧
      t.get F.CAL_ORDER_1_SEQ = w.seq % 2 ^ F.CAL_ORDER_1_SEQ.width ∧ RegStep [.CAL_STATUS, .CAL_ORDER_0, .CAL_ORDER_1] s t := by
  refine ⟨?_, ?_, ?_, State.get_set_self _ _ _ _ _ (by decide), ?_⟩
  · exact (State.bit_set_apart _ _ _ _ _ _ (by decide)).trans ((State.bit_set_apart _ _ _ _ _ _ (by decide)).trans ((State.bit_set_apart _ _ _ _ _ _ (by decide)).trans
      (State.bit_setBit _ _ _ _ (by decide) (by decide))))
  · exact (State.get_set_apart _ _ _ _ _ _ (by decide)).trans ((State.get_set_apart _ _ _ _ _ _ (by decide)).trans (State.get_set_self _ _ _ _ _ (by decide)))
  · exact (State.get_set_apart _ _ _ _ _ _ (by decide)).trans (State.get_set_self _ _ _ _ _ (by decide))
  · exact RegStep.set (RegStep.set (RegStep.set (RegStep.set (.refl _ _ s) _ _ _ _ (by decide)) _ _ _ _ (by decide)) _ _ _ _ (by decide)) _ _ _ _ (by decide)

/-- The engine runs an order. -/
def State.engineRuns (s : State) (k : Nat) (w : Work) : State :=
  { s.setWork k { w with stage := .running } with calRun := some { work := k, rows := w.calRows } }

theorem State.engineRuns_frame (s : State) (k : Nat) (w : Work) : (s.engineRuns k w).regs = s.regs ∧ (s.engineRuns k w).mem = s.mem := ⟨rfl, rfl⟩

/-- The engine takes an order in its window. -/
def State.engineTakes (s : State) (k : Nat) (w : Work) : State := (s.engineShown w).engineRuns k w

theorem State.engineTakes_spec (s : State) (k : Nat) (w : Work) :
    let t := s.engineTakes k w
    t.calRun = some { work := k, rows := w.calRows } ∧ t.work? k = some { w with stage := .running } ∧ t.bit F.CAL_STATUS_BUSY = true ∧
      t.get F.CAL_STATUS_ROWS = ofSet w.calRows 4 % 16 ∧ t.get F.CAL_ORDER_0_STALL = w.stall % 2 ^ F.CAL_ORDER_0_STALL.width ∧
      t.get F.CAL_ORDER_1_SEQ = w.seq % 2 ^ F.CAL_ORDER_1_SEQ.width ∧ regsBut [.CAL_STATUS, .CAL_ORDER_0, .CAL_ORDER_1] s t ∧ t.mem = s.mem := by
  obtain ⟨hbusy, hrows, hstall, hseq, hstep⟩ := s.engineShown_spec w
  unfold State.engineTakes
  generalize s.engineShown w = u at hbusy hrows hstall hseq hstep
  obtain ⟨hregs, hmem⟩ := u.engineRuns_frame k w
  exact ⟨rfl, Store.get?_put_self .., (congrArg (· == 1) (State.get_congr hregs _ _ _)).trans hbusy, (State.get_congr hregs _ _ _).trans hrows,
    (State.get_congr hregs _ _ _).trans hstall, (State.get_congr hregs _ _ _).trans hseq, hstep.regs.of_regs hregs, hmem.trans (hstep.field State.mem fun _ => rfl)⟩

theorem execCalLoad_window {k : Nat} {w : Work} {s : State} (hk : s.work? k = some w) (ho : w.opcode = Op.calLoad) (hw : w.stage = .window) : execCalLoad k s =
    .next (if s.calRun.isSome ∨ s.engineNext ≠ some k then s else s.engineTakes k w) :=
  congrArg Host.Outcome.next (State.tollOrder_window hk ho hw)

theorem execCalSave_routed {k : Nat} {w : Work} {s : State} (hk : s.work? k = some w) (ho : w.opcode = Op.calSave) (hw : w.stage = .routed) : execCalSave k s =
    .next (if s.calRun.isSome ∨ s.engineNext ≠ some k then s
      else if w.body 40 4 < (s.saveImage w.calRows).length then s.finalReceipt k Status.refused 0x103
      else (s.send (.data w.fn (w.body 32 8) (s.saveImage w.calRows))).setWork k
        { w with stage := .running, count := (s.saveImage w.calRows).length, result := Bytes.le (s.saveImage w.calRows) 60 4 }) := by
  refine congrArg Host.Outcome.next ((s.onWork_eq k _ _ hk ho).trans ?_)
  by_cases h : s.calRun.isSome = true ∨ s.engineNext ≠ some k
  · exact (if_pos (.inr h)).trans (if_pos h).symm
  · exact (if_neg fun h' => h'.elim (fun hn => hn hw) h).trans ((if_neg h).symm.trans rfl)

/-- The procedure that an image names. -/
def imageProc (b : Bytes) : Nat := if Bytes.le b 6 1 = 1 then Bytes.le b 26 1 else 0

/-- The checks FORMAT, DEVICE and SCOPE of an image, in this order (R536). -/
def State.imageCheck (s : State) (b : Bytes) (rows : List Nat) : Option CalFail := formatCheck b <|> s.deviceCheck b <|> scopeCheck b rows

section
variable {b : Bytes} {r : CalRun} {w : Work} {s : State} (hr : s.calRun = some r) (hk : s.work? r.work = some w) (hp : r.phase = .reading) (hl : b.length = w.body 40 4)
include hr hk hp hl

theorem execCalImageRead_read : execCalImageRead b s =
    match s.imageCheck b r.rows with
    | some f => .next ((s.set F.CAL_STATUS_PROC (if f.1 = 1 then 0 else imageProc b)).calReject
        { r with kind := Bytes.le b 6 1, proc := if f.1 = 1 then 0 else imageProc b } f)
    | none =>
      if imageProc b = 0 then .next ((s.set F.CAL_STATUS_PROC (imageProc b)).calJudge { r with kind := Bytes.le b 6 1, proc := imageProc b }
        (((rowChans r.rows).zipIdx).map fun p => (p.1, recordValues b (64 + 128 * p.2))) none)
      else .next ((s.set F.CAL_STATUS_PROC (imageProc b)).calBegin { r with kind := Bytes.le b 6 1, proc := imageProc b }) := by
  unfold execCalImageRead
  simp only [hr, hk]
  exact (if_neg (by simp [hp, hl])).trans rfl

theorem execCalImageRead_fails {f : CalFail} (hf : s.imageCheck b r.rows = some f) : execCalImageRead b s =
    .next ((s.set F.CAL_STATUS_PROC (if f.1 = 1 then 0 else imageProc b)).calReject { r with kind := Bytes.le b 6 1, proc := if f.1 = 1 then 0 else imageProc b } f) := by
  rw [execCalImageRead_read hr hk hp hl, hf]

theorem execCalImageRead_layer (hkind : Bytes.le b 6 1 ≠ 1) (hf : s.imageCheck b r.rows = none) : execCalImageRead b s =
    .next ((s.set F.CAL_STATUS_PROC 0).calJudge { r with kind := Bytes.le b 6 1, proc := 0 }
      (((rowChans r.rows).zipIdx).map fun p => (p.1, recordValues b (64 + 128 * p.2))) none) := by
  rw [execCalImageRead_read hr hk hp hl, hf, show imageProc b = 0 from if_neg hkind]
  rfl

theorem execCalImageRead_procedure (hkind : Bytes.le b 6 1 = 1) (hproc : Bytes.le b 26 1 ≠ 0) (hf : s.imageCheck b r.rows = none) : execCalImageRead b s =
    .next ((s.set F.CAL_STATUS_PROC (Bytes.le b 26 1)).calBegin { r with kind := 1, proc := Bytes.le b 26 1 }) := by
  rw [execCalImageRead_read hr hk hp hl, hf, show imageProc b = Bytes.le b 26 1 from if_pos hkind, hkind]
  exact if_neg hproc

end

/-! ## A rejected image -/

theorem State.calDone_running {s : State} {r : CalRun} (h : s.calRun = some r) : s.calDone r.work = { s.clrBit F.CAL_STATUS_BUSY with calRun := none } := by
  unfold State.calDone
  rw [h]
  exact if_pos rfl

/-- The order of the run ends with its COMPLETE receipt, and the engine is free (R533). -/
theorem State.calDone_receipt {s : State} {r : CalRun} {w : Work} (h : s.calRun = some r) (hk : s.work? r.work = some w) :
    (s.calDone r.work).finalReceipt r.work Status.complete =
      { s.clrBit F.CAL_STATUS_BUSY with
        calRun := none, receipts := s.receipts ++ [{ work := r.work, status := 0, final := true, cause := 0, detail := [], no := s.raiseNo }], raiseNo := s.raiseNo + 1,
        works := Store.put s.works r.work { w with stage := .ended } } := by
  rw [State.calDone_running h]
  exact State.finalReceipt_eq (w := w) _ _ _ _ _ hk

theorem State.ledger_frame (s : State) (e : LedgerEv) : (s.ledger e).regs = s.regs ∧ (s.ledger e).works = s.works ∧ (s.ledger e).calRun = s.calRun ∧
    (s.ledger e).receipts = s.receipts ∧ (s.ledger e).raiseNo = s.raiseNo ∧ (s.ledger e).mem = s.mem := ⟨rfl, rfl, rfl, rfl, rfl, rfl⟩

/-- The failure that a rejection shows. -/
def State.rejectShown (s : State) (f : CalFail) : State :=
  (((s.set F.CAL_STATUS_RESULT f.1).set F.CAL_STATUS_FAIL_CH f.2.1).set F.CAL_STATUS_FAIL_FIELD f.2.2).setBit F.CAL_EVENTS_REJECT

theorem State.rejectShown_spec (s : State) (f : CalFail) :
    let t := s.rejectShown f
    t.get F.CAL_STATUS_RESULT = f.1 % 2 ^ F.CAL_STATUS_RESULT.width ∧ t.bit F.CAL_EVENTS_REJECT = true ∧ RegStep [.CAL_STATUS, .CAL_EVENTS] s t := by
  refine ⟨?_, State.bit_setBit _ _ _ _ (by decide) (by decide), ?_⟩
  · exact (State.get_setBit_apart _ _ _ _ _ (by decide)).trans ((State.get_set_apart _ _ _ _ _ _ (by decide)).trans ((State.get_set_apart _ _ _ _ _ _ (by decide)).trans
      (State.get_set_self _ _ _ _ _ (by decide))))
  · exact RegStep.set (RegStep.set (RegStep.set (RegStep.set (.refl _ _ s) _ _ _ _ (by decide)) _ _ _ _ (by decide)) _ _ _ _ (by decide)) _ _ _ _ (by decide)

theorem State.factoryIdNow_of_regsBut {l : List RegName} {s t : State} (h : regsBut l s t) (h₀ : RegName.CAL_FACT_ID_0 ∉ l) (h₁ : RegName.CAL_FACT_ID_1 ∉ l) :
    t.factoryIdNow = s.factoryIdNow := by
  simp only [State.factoryIdNow, State.get_of_regsBut h F.CAL_FACT_ID_0_ID_LO 0 0 h₀, State.get_of_regsBut h F.CAL_FACT_ID_1_ID_HI 0 0 h₁]

theorem State.modWork_of {s : State} {k : Nat} {w : Work} (f : Work → Work) (h : s.work? k = some w) : s.modWork k f = s.setWork k (f w) := by
  simp only [State.modWork, h]

/-- The order of the run ends, with one result that it counts (R533). -/
theorem State.calEnds_spec {s : State} {r : CalRun} {w : Work} (hr : s.calRun = some r) (hk : s.work? r.work = some w) :
    let t := ((s.modWork r.work fun w => { w with count := 1 }).calDone r.work).finalReceipt r.work Status.complete
    t.calRun = none ∧ t.bit F.CAL_STATUS_BUSY = false ∧ (∀ f : Fld, F.CAL_STATUS_BUSY.apart f = true → t.get f = s.get f) ∧ regsBut [.CAL_STATUS] s t ∧
      t.receipts = s.receipts ++ [{ work := r.work, status := 0, final := true, cause := 0, detail := [], no := s.raiseNo }] ∧
      t.ledgerEvents = s.ledgerEvents ∧ t.mem = s.mem := by
  intro t
  have ht : t = _ := (congrArg (fun u : State => (u.calDone r.work).finalReceipt r.work Status.complete) (State.modWork_of _ hk)).trans
    (State.calDone_receipt (s := s.setWork r.work { w with count := 1 }) (w := { w with count := 1 }) hr (Store.get?_put_self ..))
  rw [ht]
  exact ⟨rfl, State.bit_clrBit _ _ _ _ (by decide), fun f hf => State.get_set_apart _ _ _ _ _ _ hf,
    ((regsBut.refl _ s).set F.CAL_STATUS_BUSY 0 0 0 (by decide)).of_regs rfl, rfl, rfl, rfl⟩

/-- The Ledger event of a rejection. -/
def rejectEvent (r : CalRun) (f : CalFail) (id : Nat) : LedgerEv :=
  { code := 0x31, source := r.source, aux := f.1 * 2 ^ 28 + f.2.1 * 2 ^ 8 + f.2.2, data := id, reserved := true }

/-- What the rejection of the running order leaves (R536). -/
theorem State.calReject_spec {s : State} {r r' : CalRun} {w : Work} (f : CalFail) (hr : s.calRun = some r') (hw : r'.work = r.work) (hk : s.work? r.work = some w) :
    let t := s.calReject r f
    t.calRun = none ∧ t.get F.CAL_STATUS_RESULT = f.1 % 2 ^ F.CAL_STATUS_RESULT.width ∧ t.bit F.CAL_STATUS_BUSY = false ∧ t.bit F.CAL_EVENTS_REJECT = true ∧
      regsBut [.CAL_STATUS, .CAL_EVENTS] s t ∧
      t.receipts = s.receipts ++ [{ work := r.work, status := 0, final := true, cause := 0, detail := [], no := s.raiseNo }] ∧
      t.ledgerEvents = s.ledgerEvents ++ [{ code := 0x31, source := r.source, aux := f.1 * 2 ^ 28 + f.2.1 * 2 ^ 8 + f.2.2, data := s.factoryIdNow, reserved := true, at_ := s.fr }] ∧
      t.mem = s.mem := by
  obtain ⟨hresult, hreject, hstep⟩ := s.rejectShown_spec f
  have heq : s.calReject r f = ((((s.rejectShown f).ledger (rejectEvent r f (s.rejectShown f).factoryIdNow)).modWork r.work fun w => { w with count := 1 }).calDone r.work).finalReceipt r.work Status.complete := rfl
  rw [heq, State.factoryIdNow_of_regsBut hstep.regs (by decide) (by decide)]
  generalize s.rejectShown f = u at hresult hreject hstep
  generalize hev : rejectEvent r f s.factoryIdNow = ev
  obtain ⟨sregs, sworks, srun, srec, sno, smem⟩ := u.ledger_frame ev
  have hevents := u.ledger_ledgerEvents ev
  generalize u.ledger ev = v at sregs sworks srun srec sno smem hevents
  have hk' : v.work? r.work = some w := (congrArg (Store.get? · r.work) (sworks.trans (hstep.field State.works fun _ => rfl))).trans hk
  have hr' : v.calRun = some r' := srun.trans ((hstep.field State.calRun fun _ => rfl).trans hr)
  have hends := State.calEnds_spec hr' (hw ▸ hk')
  rw [hw] at hends
  generalize ((v.modWork r.work fun w => { w with count := 1 }).calDone r.work).finalReceipt r.work Status.complete = t at hends
  obtain ⟨hnone, hbusy, hget, hregs, hrec, hledg, hmem⟩ := hends
  refine ⟨hnone, (hget _ (by decide)).trans ((State.get_congr sregs _ _ _).trans hresult), hbusy, ?_, ?_, ?_, ?_, hmem.trans (smem.trans (hstep.field State.mem fun _ => rfl))⟩
  · exact (congrArg (· == 1) ((hget F.CAL_EVENTS_REJECT (by decide)).trans (State.get_congr sregs _ _ _))).trans hreject
  · exact (hstep.regs.of_regs sregs).trans (hregs.mono (by decide))
  · rw [hrec, srec, sno, hstep.field State.receipts fun _ => rfl, hstep.field State.raiseNo fun _ => rfl]
  · rw [hledg, hevents, hstep.field State.ledgerEvents fun _ => rfl, hstep.field State.fr fun _ => rfl, ← hev]
    rfl

/-! ## The procedures -/

theorem State.measuring_of {s : State} {r : CalRun} {p : Nat} (hr : s.calRun = some r) (hp : r.phase = .measuring) (hproc : r.proc = p) : s.measuring p = some r := by
  simp only [State.measuring, hr, Option.filter_some, hp, hproc, beq_self_eq_true, Bool.and_self, if_true]

theorem State.calBusOff_adcFailed (s : State) (rows : List Nat) (c : Nat) : (s.calBusOff rows).adcFailed c = s.adcFailed c :=
  State.adcFailed_of_regsBut (s.calBusOff_step rows).regs c (by decide)

section
variable {r : CalRun} {sel : CalField → Bool} {limit : Nat} {m : List (List Int)} {e : List Nat} {s : State}

/-- A procedure that could not measure, or used a converter out of service (R538). -/
theorem State.trim_rejected {failed : Bool} (h : failed = true ∨ ∃ c ∈ rowChans r.rows, s.adcFailed (c / 4) = true) : s.trim r sel limit m e failed =
    (s.calBusOff r.rows).calReject r (8, ((rowChans r.rows).find? fun c => s.adcFailed (c / 4)).getD ((rowChans r.rows).headD 0), 0) := by
  have hout : (fun c => (s.calBusOff r.rows).adcFailed (c / 4)) = fun c => s.adcFailed (c / 4) := funext fun c => s.calBusOff_adcFailed r.rows _
  simp only [State.trim, hout]
  refine if_pos (h.imp id fun ⟨c, hc, hf⟩ => ?_)
  exact List.find?_isSome.mpr ⟨c, hc, hf⟩

/-- The layer that a trim's values give. -/
def State.trimLayer (s : State) (r : CalRun) (sel : CalField → Bool) (m : List (List Int)) : List (Nat × List Int) :=
  ((rowChans r.rows).zipIdx).map fun p => (p.1, (s.calBusOff r.rows).mergeValues p.1 sel (m.getD p.2 []))

theorem State.trim_judged (h : ∀ c ∈ rowChans r.rows, s.adcFailed (c / 4) = false) : s.trim r sel limit m e false =
    (s.calBusOff r.rows).calJudge r (s.trimLayer r sel m) (((rowChans r.rows).zipIdx.find? fun p => decide (limit < e.getD p.2 0)).map fun p => (9, p.1, 0)) := by
  have hout : (fun c => (s.calBusOff r.rows).adcFailed (c / 4)) = fun c => s.adcFailed (c / 4) := funext fun c => s.calBusOff_adcFailed r.rows _
  have hnone : ((rowChans r.rows).find? fun c => s.adcFailed (c / 4)) = none := List.find?_eq_none.mpr fun c hc => by simp [h c hc]
  simp only [State.trim, hout, hnone]
  rfl

end

theorem State.calJudge_fails {s : State} {r : CalRun} {l : List (Nat × List Int)} {later : Option CalFail} {f : CalFail} (h : s.layerCheck l = some f) :
    s.calJudge r l later = s.calReject r f := by
  simp only [State.calJudge, h]
  rfl

theorem State.calJudge_later {s : State} {r : CalRun} {l : List (Nat × List Int)} {later : Option CalFail} {f : CalFail} (h : later = some f) :
    s.calJudge r l later = s.calReject r ((s.layerCheck l).getD f) := by
  cases hc : s.layerCheck l with
  | none => simp only [State.calJudge, hc, h]; rfl
  | some g => exact State.calJudge_fails hc

theorem State.calJudge_good {s : State} {r : CalRun} {l : List (Nat × List Int)} {later : Option CalFail} (h : s.layerCheck l = none) (hl : later = none) :
    s.calJudge r l later = { s with calRun := some { r with phase := .accepted, layer := l } } := by
  simp only [State.calJudge, h, hl]
  rfl

/-- The channels of a list come on the calibration bus. -/
theorem foldl_onCalBus (cs : List Nat) (s : State) :
    let t := cs.foldl (fun (s : State) c => s.setChan c { s.chan c with onCalBus := true }) s
    t.regs = s.regs ∧ t.mem = s.mem ∧ t.works = s.works ∧ ∀ c, (c ∈ cs ∨ (s.chan c).onCalBus = true) → (t.chan c).onCalBus = true := by
  induction cs generalizing s with
  | nil => exact ⟨rfl, rfl, rfl, fun c hc => hc.resolve_left List.not_mem_nil⟩
  | cons d cs ih =>
    obtain ⟨hregs, hmem, hworks, hchan⟩ := ih (s.setChan d { s.chan d with onCalBus := true })
    refine ⟨hregs, hmem, hworks, fun c hc => hchan c ?_⟩
    by_cases hd : c = d
    · refine .inr ?_
      rw [hd]
      exact congrArg Chan.onCalBus ((Store.getD_put s.chans d d { s.chan d with onCalBus := true } {}).trans (if_pos rfl))
    · refine hc.imp (fun h => (List.mem_cons.mp h).resolve_left hd) fun h => ?_
      exact (congrArg Chan.onCalBus ((Store.getD_put s.chans d c { s.chan d with onCalBus := true } {}).trans (if_neg hd))).trans h

section
variable {r : CalRun} {m : List Int} {b : Bool} {v : Nat} {s : State} (hr : s.calRun = some r) (hp : r.phase = .measuring) (hproc : r.proc = 1) (hd : r.edgesDone = true)
include hr hp hproc hd

theorem execEdgeLin_failed {c : Nat} (hc : (rowChans r.rows).find? (s.edgeFailed r b v) = some c) :
    execEdgeLin m b v s = .next ((s.calBusOff r.rows).calReject r (8, c, 0)) := by
  unfold execEdgeLin
  simp only [State.measuring_of hr hp hproc, hd, hc]
  rfl

/-- The means that the runs of the `j`-th channel have measured. -/
def CalRun.edgeMeans (r : CalRun) (j : Nat) : List Int := (Store.getD r.means ((rowChans r.rows).getD j 0) []).map Prod.fst

/-- The layer of EDGE_LIN: new INL values (R538). -/
def State.edgeLayer (s : State) (r : CalRun) : List (Nat × List Int) :=
  ((rowChans r.rows).zipIdx).map fun p => (p.1, (s.calBusOff r.rows).mergeValues p.1 (fun f => decide (68 ≤ f.off))
    ((List.range 32).map fun k => edgeInl (r.edgeMeans p.2) k - recField ((s.calBusOff r.rows).factWord p.1) (68 + k) 1))

/-- The first fine code whose residual is beyond its limit. -/
def CalRun.edgeResidue (r : CalRun) : Option CalFail :=
  ((rowChans r.rows).zipIdx).findSome? fun p =>
    ((List.range 256).find? fun f => decide (1024 < edgeResidual (r.edgeMeans p.2) f)).map fun f => ((9, p.1, 68 + f / 8) : CalFail)

theorem execEdgeLin_judged (hc : (rowChans r.rows).find? (s.edgeFailed r b v) = none) : execEdgeLin m b v s =
    .next ((s.calBusOff r.rows).calJudge { r with refs := (r.rows.zipIdx).map fun p => (p.1, unsigned ((r.edgeMeans (64 * p.2 + 1)).getD 0 0) 32, unsigned (m.getD p.2 0) 16) }
      (s.edgeLayer r) r.edgeResidue) := by
  unfold execEdgeLin
  simp only [State.measuring_of hr hp hproc, hd, hc]
  rfl

end

theorem CalRun.edgeResidue_none {r : CalRun} (h : ∀ p ∈ (rowChans r.rows).zipIdx, ∀ f ∈ List.range 256, edgeResidual (r.edgeMeans p.2) f ≤ 1024) :
    r.edgeResidue = none := by
  refine List.findSome?_eq_none_iff.mpr fun p hp => ?_
  rw [List.find?_eq_none.mpr fun f hf => by simpa using h p hp f hf]
  rfl

/-! ## The commit -/

/-- The Ledger event of a commit (R536). -/
def commitEvent (r : CalRun) (crc id : Nat) : LedgerEv := { code := 0x30, source := r.source, aux := crc, data := id, reserved := true }

/-- The layer's records replace the user records, with their CRC. -/
def State.layerTaken (s : State) (r : CalRun) : State :=
  let u := s.writeLayer r.layer
  let v := u.ledger (commitEvent r (crc32c (u.userRecords (r.layer.map Prod.fst))).toNat u.factoryIdNow)
  v.wr ⟨.CAL_USER_CRC, 0, 0⟩ (crc32c (v.userRecords (List.range 256)))

/-- The commit is shown and counted. -/
def State.commitShown (s : State) : State :=
  ((((s.countUp F.CAL_COMMITS_COUNT).setBit F.CAL_EVENTS_COMMIT).set F.CAL_STATUS_RESULT 0).set F.CAL_STATUS_FAIL_CH 0).set F.CAL_STATUS_FAIL_FIELD 0

/-- The references that EDGE_LIN measured. -/
def State.refsShown (s : State) (refs : List (Nat × Nat × Nat)) : State :=
  refs.foldl (fun s p => (s.set F.CAL_LINr_0_REFDLY p.2.1 p.1).set F.CAL_LINr_1_TEMP p.2.2 p.1) s

/-- The channels whose levels move with the layer. -/
def State.calMoved (s : State) (r : CalRun) : List Nat := (r.layer.filter fun p => rampsFor (s.userValues p.1) p.2).map Prod.fst

/-- The state of a commit before its order is looked at. -/
def State.layerCommitted (s : State) (r : CalRun) : State :=
  (s.calMoved r).foldl (fun s c => s.requestRamp c) ((s.layerTaken r).commitShown.refsShown r.refs)

/-- The channels that the order waits for. -/
def State.calLeft (s : State) (r : CalRun) : List Nat :=
  (r.layer.map Prod.fst).filter fun c => (s.calMoved r).contains c || !(s.layerCommitted r).bit F.CHn_STATUS_SETTLED c || ((s.layerCommitted r).chan c).phase != .idle

theorem execCalCommit_accepted {s : State} {r : CalRun} (hr : s.calRun = some r) (hp : r.phase = .accepted) : execCalCommit s =
    let v := { (s.layerCommitted r).modWork r.work fun w => { w with count := 1, left := s.calLeft r } with calRun := some { r with phase := .committed } }
    .next (if s.calLeft r = [] then (v.calDone r.work).finalReceipt r.work Status.complete else v) := by
  unfold execCalCommit
  simp only [hr]
  exact (if_neg (not_not_intro hp)).trans rfl

theorem State.writeLayer_step (s : State) (l : List (Nat × List Int)) : RegStep [.CAL_USER] s (s.writeLayer l) := by
  unfold State.writeLayer
  refine Keeps.foldl _ ?_ l s
  intro t p
  refine Keeps.foldl _ ?_ _ t
  exact fun u q => ⟨rfl, (regsBut.refl _ u).wr _ _ (List.mem_singleton.mpr rfl)⟩

/-- A step of a commit changes registers, channels and the Ledger's events alone. -/
def State.commitView (s : State) : State := { s with regs := [], chans := [], ledgerEvents := [] }

theorem State.commitView_field {β : Type} {s t : State} (h : t.commitView = s.commitView) (g : State → β) (hg : ∀ u, g u.commitView = g u) : g t = g s :=
  (hg t).symm.trans ((congrArg g h).trans (hg s))

theorem State.commitShown_spec (s : State) :
    let t := s.commitShown
    t.bit F.CAL_EVENTS_COMMIT = true ∧ t.get F.CAL_STATUS_RESULT = 0 ∧ t.get F.CAL_STATUS_FAIL_CH = 0 ∧ t.get F.CAL_STATUS_FAIL_FIELD = 0 ∧
      t.get F.CAL_COMMITS_COUNT = min (s.get F.CAL_COMMITS_COUNT + 1) (2 ^ F.CAL_COMMITS_COUNT.width - 1) ∧ RegStep [.CAL_COMMITS, .CAL_EVENTS, .CAL_STATUS] s t := by
  refine ⟨?_, ?_, ?_, (State.get_set_self _ _ _ _ _ (by decide)).trans (Nat.zero_mod _), ?_, ?_⟩
  · exact (State.bit_set_apart _ _ _ _ _ _ (by decide)).trans ((State.bit_set_apart _ _ _ _ _ _ (by decide)).trans ((State.bit_set_apart _ _ _ _ _ _ (by decide)).trans
      (State.bit_setBit _ _ _ _ (by decide) (by decide))))
  · exact (State.get_set_apart _ _ _ _ _ _ (by decide)).trans ((State.get_set_apart _ _ _ _ _ _ (by decide)).trans
      ((State.get_set_self _ _ _ _ _ (by decide)).trans (Nat.zero_mod _)))
  · exact (State.get_set_apart _ _ _ _ _ _ (by decide)).trans ((State.get_set_self _ _ _ _ _ (by decide)).trans (Nat.zero_mod _))
  · refine (State.get_set_apart _ _ _ _ _ _ (by decide)).trans ((State.get_set_apart _ _ _ _ _ _ (by decide)).trans ((State.get_set_apart _ _ _ _ _ _ (by decide)).trans
      ((State.get_setBit_apart _ _ _ _ _ (by decide)).trans ((State.get_set_self _ _ _ _ _ (by decide)).trans (Nat.mod_eq_of_lt ?_)))))
    exact Nat.lt_of_le_of_lt (Nat.min_le_right _ _) (Nat.sub_lt (Nat.two_pow_pos _) Nat.one_pos)
  · exact RegStep.set (RegStep.set (RegStep.set (RegStep.set (RegStep.set (.refl _ _ s) _ _ _ _ (by decide)) _ _ _ _ (by decide)) _ _ _ _ (by decide)) _ _ _ _ (by decide))
      _ _ _ _ (by decide)

theorem State.refsShown_step (s : State) (refs : List (Nat × Nat × Nat)) : RegStep [.CAL_LINr_0, .CAL_LINr_1] s (s.refsShown refs) := by
  unfold State.refsShown
  refine Keeps.foldl _ ?_ refs s
  exact fun t p => RegStep.set (RegStep.set (.refl _ _ t) _ _ _ _ (by decide)) _ _ _ _ (by decide)

/-- The records of a layer, in force. -/
theorem State.layerTaken_spec (s : State) (r : CalRun) :
    let t := s.layerTaken r
    t.commitView = s.commitView ∧ t.chans = s.chans ∧ regsBut [.CAL_USER_CRC] (s.writeLayer r.layer) t ∧ regsBut [.CAL_USER, .CAL_USER_CRC] s t ∧
      t.ledgerEvents = s.ledgerEvents ++ [{ code := 0x30, source := r.source, aux := (crc32c ((s.writeLayer r.layer).userRecords (r.layer.map Prod.fst))).toNat, data := s.factoryIdNow, reserved := true, at_ := s.fr }] := by
  have hstep := s.writeLayer_step r.layer
  unfold State.layerTaken
  generalize s.writeLayer r.layer = u at hstep
  extract_lets u' v t
  simp only [t]
  have hregs : regsBut [.CAL_USER_CRC] u v := (regsBut.refl _ u).of_regs rfl
  have hview : v.commitView = s.commitView := congrArg (fun x : State => { x with chans := [], ledgerEvents := [] }) hstep.view
  have hchans : v.chans = s.chans := hstep.field State.chans fun _ => rfl
  have hledg : v.ledgerEvents = s.ledgerEvents ++ [{ code := 0x30, source := r.source, aux := (crc32c (u.userRecords (r.layer.map Prod.fst))).toNat, data := s.factoryIdNow, reserved := true, at_ := s.fr }] := by
    refine (u.ledger_ledgerEvents _).trans ?_
    rw [State.factoryIdNow_of_regsBut hstep.regs (by decide) (by decide), hstep.field State.ledgerEvents fun _ => rfl, hstep.field State.fr fun _ => rfl]
    rfl
  clear_value v
  generalize crc32c (v.userRecords (List.range 256)) = crc
  have hcrc := hregs.wr ⟨.CAL_USER_CRC, 0, 0⟩ crc (List.mem_singleton.mpr rfl)
  exact ⟨hview, hchans, hcrc, (hstep.regs.mono (by decide)).trans (hcrc.mono (by decide)), hledg⟩

/-- What a commit changes before its order is looked at. -/
theorem State.layerCommitted_spec (s : State) (r : CalRun) :
    let t := s.layerCommitted r
    t.commitView = s.commitView ∧ t.bit F.CAL_EVENTS_COMMIT = true ∧ t.get F.CAL_STATUS_RESULT = 0 ∧ t.get F.CAL_STATUS_FAIL_CH = 0 ∧ t.get F.CAL_STATUS_FAIL_FIELD = 0 ∧
      t.get F.CAL_COMMITS_COUNT = min (s.get F.CAL_COMMITS_COUNT + 1) (2 ^ F.CAL_COMMITS_COUNT.width - 1) ∧
      (∀ c j, t.rd ⟨.CAL_USER, c, j⟩ = (s.writeLayer r.layer).rd ⟨.CAL_USER, c, j⟩) ∧
      t.ledgerEvents = s.ledgerEvents ++ [{ code := 0x30, source := r.source, aux := (crc32c ((s.writeLayer r.layer).userRecords (r.layer.map Prod.fst))).toNat, data := s.factoryIdNow, reserved := true, at_ := s.fr }] ∧
      regsBut [.CAL_USER, .CAL_USER_CRC, .CAL_COMMITS, .CAL_EVENTS, .CAL_STATUS, .CAL_LINr_0, .CAL_LINr_1, .CHn_STATUS] s t ∧
      (∀ k, k ∉ s.calMoved r → t.chan k = s.chan k) ∧ ∀ k, t.bit F.CHn_STATUS_SETTLED k = s.bit F.CHn_STATUS_SETTLED k := by
  obtain ⟨hview, hchans, huser, hregs, hledg⟩ := s.layerTaken_spec r
  unfold State.layerCommitted
  generalize s.layerTaken r = u at hview hchans huser hregs hledg
  obtain ⟨hcommit, hresult, hch, hfield, hcount, hshown⟩ := u.commitShown_spec
  generalize u.commitShown = v at hcommit hresult hch hfield hcount hshown
  have hrefs := v.refsShown_step r.refs
  generalize v.refsShown r.refs = x at hrefs
  obtain ⟨hramp, hchan, hsettled⟩ := foldl_requestRamp (s.calMoved r) x
  generalize (s.calMoved r).foldl (fun s c => s.requestRamp c) x = y at hramp hchan hsettled
  have hlate : regsBut [.CAL_LINr_0, .CAL_LINr_1, .CHn_STATUS] v y := (hrefs.regs.mono (by decide)).trans (hramp.regs.mono (by decide))
  have hall : regsBut [.CAL_COMMITS, .CAL_EVENTS, .CAL_STATUS, .CAL_LINr_0, .CAL_LINr_1, .CHn_STATUS] u y := (hshown.regs.mono (by decide)).trans (hlate.mono (by decide))
  refine ⟨?_, (State.bit_of_regsBut hlate _ _ _ (by decide)).trans hcommit, (State.get_of_regsBut hlate _ _ _ (by decide)).trans hresult,
    (State.get_of_regsBut hlate _ _ _ (by decide)).trans hch, (State.get_of_regsBut hlate _ _ _ (by decide)).trans hfield, ?_, fun c j => ?_, ?_,
    (hregs.mono (by decide)).trans (hall.mono (by decide)), fun k hk => ?_, fun k => ?_⟩
  · exact (congrArg (fun z : State => { z with ledgerEvents := [] }) hramp.view).trans ((congrArg (fun z : State => { z with chans := [], ledgerEvents := [] }) hrefs.view).trans
      ((congrArg (fun z : State => { z with chans := [], ledgerEvents := [] }) hshown.view).trans hview))
  · rw [State.get_of_regsBut hlate _ _ _ (by decide), hcount, State.get_of_regsBut hregs F.CAL_COMMITS_COUNT 0 0 (by decide)]
  · exact (hall _ (show RegName.CAL_USER ∉ _ by decide)).trans (huser _ (show RegName.CAL_USER ∉ _ by decide))
  · exact (hramp.field State.ledgerEvents fun _ => rfl).trans ((hrefs.field State.ledgerEvents fun _ => rfl).trans ((hshown.field State.ledgerEvents fun _ => rfl).trans hledg))
  · have hsame : x.chans = s.chans := (hrefs.field State.chans fun _ => rfl).trans ((hshown.field State.chans fun _ => rfl).trans hchans)
    exact (hchan k hk).trans (congrArg (fun m : Store Nat Chan => Store.getD m k {}) hsame)
  · exact (hsettled k).trans ((State.bit_of_regsBut hrefs.regs _ _ _ (by decide)).trans ((State.bit_of_regsBut hshown.regs _ _ _ (by decide)).trans
      (State.bit_of_regsBut hregs _ _ _ (by decide))))

/-- Entries whose images under `f` all differ are told apart by them. -/
theorem eq_of_map_nodup {α β : Type} (f : α → β) {xs : List α} (hn : (xs.map f).Nodup) {a b : α} (ha : a ∈ xs) (hb : b ∈ xs) (h : f a = f b) : a = b := by
  induction xs with
  | nil => cases ha
  | cons x xs ih =>
    obtain ⟨hx, hxs⟩ := List.nodup_cons.mp hn
    rcases List.mem_cons.mp ha with rfl | hax <;> rcases List.mem_cons.mp hb with rfl | hbx
    · rfl
    · exact absurd (List.mem_map.mpr ⟨b, hbx, h.symm⟩) hx
    · exact absurd (List.mem_map.mpr ⟨a, hax, h⟩) hx
    · exact ih hxs hax hbx

/-- The order waits for the channels whose levels move with the layer or have not settled. -/
theorem State.calLeft_eq {s : State} {r : CalRun} (hn : (r.layer.map Prod.fst).Nodup) : s.calLeft r =
    (r.layer.filter fun p => rampsFor (s.userValues p.1) p.2 || !s.bit F.CHn_STATUS_SETTLED p.1 || (s.chan p.1).phase != .idle).map Prod.fst := by
  obtain ⟨-, -, -, -, -, -, -, -, -, hchan, hsettled⟩ := s.layerCommitted_spec r
  unfold State.calLeft
  rw [List.filter_map]
  refine congrArg (List.map Prod.fst) (List.filter_congr fun p hp => ?_)
  have hmoved : (s.calMoved r).contains p.1 = rampsFor (s.userValues p.1) p.2 := by
    cases hramps : rampsFor (s.userValues p.1) p.2 with
    | true => exact List.contains_iff_mem.mpr (List.mem_map.mpr ⟨p, List.mem_filter.mpr ⟨hp, hramps⟩, rfl⟩)
    | false =>
      refine Bool.eq_false_iff.mpr fun hc => ?_
      obtain ⟨q, hq, hqp⟩ := List.mem_map.mp (List.contains_iff_mem.mp hc)
      obtain ⟨hql, hqr⟩ := List.mem_filter.mp hq
      cases eq_of_map_nodup Prod.fst hn hql hp hqp
      exact absurd (hramps.symm.trans hqr) (by decide)
  simp only [Function.comp_apply, hmoved, hsettled]
  cases hramps : rampsFor (s.userValues p.1) p.2 with
  | true => simp
  | false =>
    have hnot : p.1 ∉ s.calMoved r := fun h => absurd ((List.contains_iff_mem.mpr h).symm.trans (hmoved.trans hramps)) (by decide)
    rw [hchan p.1 hnot]

/-- The commit ends where no channel has to settle, and waits otherwise (R531, R535). -/
theorem execCalCommit_spec {s : State} {r : CalRun} {w : Work} (hr : s.calRun = some r) (hk : s.work? r.work = some w) (hp : r.phase = .accepted) :
    let u := s.layerCommitted r
    ∃ t, execCalCommit s = .next t ∧ (∀ f : Fld, F.CAL_STATUS_BUSY.apart f = true → t.get f = u.get f) ∧ (∀ c j, t.rd ⟨.CAL_USER, c, j⟩ = u.rd ⟨.CAL_USER, c, j⟩) ∧
      t.ledgerEvents = u.ledgerEvents ∧ regsBut [.CAL_STATUS] u t ∧ t.mem = s.mem ∧
      (s.calLeft r = [] → t.calRun = none ∧ t.bit F.CAL_STATUS_BUSY = false ∧
        t.receipts = s.receipts ++ [{ work := r.work, status := 0, final := true, cause := 0, detail := [], no := s.raiseNo }]) ∧
      (s.calLeft r ≠ [] → t.calRun = some { r with phase := .committed } ∧ t.work? r.work = some { w with count := 1, left := s.calLeft r } ∧ t.receipts = s.receipts) := by
  intro u
  have heq := execCalCommit_accepted hr hp
  have hview := (s.layerCommitted_spec r).1
  have hk' : u.work? r.work = some w := (congrArg (Store.get? · r.work) (State.commitView_field hview State.works fun _ => rfl)).trans hk
  have hmem : u.mem = s.mem := State.commitView_field hview State.mem fun _ => rfl
  have hrec : u.receipts = s.receipts := State.commitView_field hview State.receipts fun _ => rfl
  have hno : u.raiseNo = s.raiseNo := State.commitView_field hview State.raiseNo fun _ => rfl
  rw [State.modWork_of _ hk'] at heq
  change execCalCommit s = .next (if s.calLeft r = [] then _ else { u.setWork r.work { w with count := 1, left := s.calLeft r } with
    calRun := some { r with phase := .committed } }) at heq
  generalize s.calLeft r = left at heq ⊢
  clear_value u
  by_cases hl : left = []
  · rw [if_pos hl] at heq
    have hdone := State.calDone_receipt (s := { u.setWork r.work { w with count := 1, left } with calRun := some { r with phase := .committed } })
      (r := { r with phase := .committed }) (w := { w with count := 1, left }) rfl (Store.get?_put_self ..)
    refine ⟨_, heq.trans (congrArg Host.Outcome.next hdone), fun f hf => State.get_set_apart _ _ _ _ _ _ hf, fun c j => ?_, rfl, ?_, hmem, fun _ => ?_, fun h => absurd hl h⟩
    · exact (((regsBut.refl _ u).set F.CAL_STATUS_BUSY 0 0 0 (List.mem_singleton.mpr rfl)) ⟨.CAL_USER, c, j⟩ (show RegName.CAL_USER ∉ _ by decide) :)
    · exact ((regsBut.refl _ u).set F.CAL_STATUS_BUSY 0 0 0 (by decide)).of_regs rfl
    · refine ⟨rfl, State.bit_clrBit _ _ _ _ (by decide), ?_⟩
      rw [← hrec, ← hno]
      rfl
  · rw [if_neg hl] at heq
    exact ⟨_, heq, fun _ _ => rfl, fun _ _ => rfl, rfl, (regsBut.refl _ u).of_regs rfl, hmem, fun h => absurd h hl, fun _ => ⟨rfl, Store.get?_put_self .., hrec⟩⟩

section
variable {r : CalRun} {m : List (List Int)} {e : List Nat} {b : Bool} {s : State} (hr : s.calRun = some r) (hp : r.phase = .measuring)
include hr hp

theorem execLevelTrim_measuring (hproc : r.proc = 2) : execLevelTrim m e b s =
    .next (s.trim r (fun f => decide (8 ≤ f.off) && decide (f.off < 44)) 1000 m e b) := by
  unfold execLevelTrim
  simp only [State.measuring_of hr hp hproc]

theorem execPmuTrim_measuring (hproc : r.proc = 3) : execPmuTrim m e b s =
    .next (s.trim r (fun f => decide (44 ≤ f.off) && decide (f.off < 68)) 4 m e b) := by
  unfold execPmuTrim
  simp only [State.measuring_of hr hp hproc]

end

section
variable {r : CalRun} {sel : CalField → Bool} {limit : Nat} {m : List (List Int)} {e : List Nat} {s : State}

theorem State.trim_unmeasured (h : ∀ c ∈ rowChans r.rows, s.adcFailed (c / 4) = false) : s.trim r sel limit m e true =
    (s.calBusOff r.rows).calReject r (8, (rowChans r.rows).headD 0, 0) := by
  have hnone : ((rowChans r.rows).find? fun c => s.adcFailed (c / 4)) = none := List.find?_eq_none.mpr fun c hc => by simp [h c hc]
  rw [State.trim_rejected (.inl rfl), hnone]
  rfl

theorem State.trim_outOfService {failed : Bool} (h : ∃ c ∈ rowChans r.rows, s.adcFailed (c / 4) = true) : s.trim r sel limit m e failed =
    (s.calBusOff r.rows).calReject r (8, ((rowChans r.rows).find? fun c => s.adcFailed (c / 4)).getD 0, 0) := by
  obtain ⟨c, hc⟩ := Option.isSome_iff_exists.mp (List.find?_isSome.mpr h)
  rw [State.trim_rejected (.inr h), hc]
  rfl

variable (h : ∀ c ∈ rowChans r.rows, s.adcFailed (c / 4) = false)
include h

theorem State.trim_accepted (he : ∀ p ∈ (rowChans r.rows).zipIdx, e.getD p.2 0 ≤ limit) (hc : (s.calBusOff r.rows).layerCheck (s.trimLayer r sel m) = none) :
    s.trim r sel limit m e false = { s.calBusOff r.rows with calRun := some { r with phase := .accepted, layer := s.trimLayer r sel m } } := by
  have hnone : ((rowChans r.rows).zipIdx.find? fun p => decide (limit < e.getD p.2 0)) = none :=
    List.find?_eq_none.mpr fun p hp => by simpa using he p hp
  rw [State.trim_judged h, hnone]
  exact State.calJudge_good hc rfl

theorem State.trim_fails {f : CalFail} (hc : (s.calBusOff r.rows).layerCheck (s.trimLayer r sel m) = some f) :
    s.trim r sel limit m e false = (s.calBusOff r.rows).calReject r f := by
  rw [State.trim_judged h]
  exact State.calJudge_fails hc

theorem State.trim_residue {j d : Nat} (he : ((rowChans r.rows).zipIdx).find? (fun p => decide (limit < e.getD p.2 0)) = some (j, d)) :
    s.trim r sel limit m e false = (s.calBusOff r.rows).calReject r (((s.calBusOff r.rows).layerCheck (s.trimLayer r sel m)).getD (9, j, 0)) := by
  rw [State.trim_judged h, he]
  exact State.calJudge_later rfl

end

theorem State.calBegin_watched {s : State} {r : CalRun} {x : Nat} (hp : r.proc = 1) (hx : r.rows.find? s.watchOnRow = some x) :
    s.calBegin r = s.calReject r (7, 64 * x, 0) := by
  unfold State.calBegin
  rw [if_pos hp, hx]

theorem State.calBegin_free {s : State} {r : CalRun} (h : r.proc = 1 → ∀ x ∈ r.rows, s.watchOnRow x = false) : s.calBegin r =
    { (rowChans r.rows).foldl (fun (s : State) c => s.setChan c { s.chan c with onCalBus := true }) s with calRun := some { r with phase := .measuring } } := by
  have hnone : (if r.proc = 1 then r.rows.find? s.watchOnRow else none) = none := by
    split
    · rename_i hp
      exact List.find?_eq_none.mpr fun x hx => by simp [h hp x hx]
    · rfl
  unfold State.calBegin
  rw [hnone]

/-- Settles O42: an image by its first failure, a procedure by its judgement, and a commit by what it changes before its order is looked at. -/
theorem calibrationEngine : Obligations.CalibrationEngine := by
  unfold Obligations.CalibrationEngine
  refine ⟨?offered, ?starts, ?saveFull, ?saved, ?waits, ?fails, ?format, ?layer, ?begins, ?watched, ?edgeFailed, ?edgeGood, ?edgeCheck, ?edgeResidue, ?edgeOn, ?level8, ?level8adc,
    ?levelGood, ?levelCheck, ?level9, ?pmu8, ?pmu8adc, ?pmuGood, ?pmuCheck, ?pmu9, ?commits, ?commitWaits, ?noCommit⟩
  case offered =>
    intro k w s hk ho hw
    exact (show exec (.calLoad k) s = execCalLoad k s from rfl).trans (congrArg Host.Outcome.next (State.tollOrder_offered hk ho hw))
  case starts =>
    intro k w s hk ho hw hr hn
    have heq := (show exec (.calLoad k) s = execCalLoad k s from rfl).trans (execCalLoad_window hk ho hw)
    rw [if_neg (by simp [hr, hn])] at heq
    exact ⟨_, heq, s.engineTakes_spec k w⟩
  case saveFull =>
    intro k w s hk ho hw hr hn hlen
    exact (show exec (.calSave k) s = execCalSave k s from rfl).trans ((execCalSave_routed hk ho hw).trans
      (congrArg Host.Outcome.next ((if_neg (by simp [hr, hn])).trans (if_pos hlen))))
  case saved =>
    intro k w s hk ho hw hr hn hlen
    exact (show exec (.calSave k) s = execCalSave k s from rfl).trans ((execCalSave_routed hk ho hw).trans
      (congrArg Host.Outcome.next ((if_neg (by simp [hr, hn])).trans (if_neg (Nat.not_lt.mpr hlen)))))
  case waits =>
    intro k w s h hk
    refine ⟨fun ho hw => ?_, fun ho hw => ?_⟩
    · exact (show exec (.calLoad k) s = execCalLoad k s from rfl).trans ((execCalLoad_window hk ho hw).trans (congrArg Host.Outcome.next (if_pos h)))
    · exact (show exec (.calSave k) s = execCalSave k s from rfl).trans ((execCalSave_routed hk ho hw).trans (congrArg Host.Outcome.next (if_pos h)))
  case fails =>
    intro b f r w s hr hk hp hl hf p
    exact (show exec (.calImageRead b) s = execCalImageRead b s from rfl).trans (execCalImageRead_fails hr hk hp hl hf)
  case format =>
    intro b f r w s hr hk hp hl hf h1
    have heq := (show exec (.calImageRead b) s = execCalImageRead b s from rfl).trans (execCalImageRead_fails hr hk hp hl hf)
    rw [if_pos h1] at heq
    have hstep : RegStep [.CAL_STATUS] s (s.set F.CAL_STATUS_PROC 0) := RegStep.set (.refl _ _ s) _ _ _ _ (by decide)
    have hid := State.factoryIdNow_of_regsBut hstep.regs (by decide) (by decide)
    generalize s.set F.CAL_STATUS_PROC 0 = u at heq hstep hid
    have hspec := State.calReject_spec (r := { r with kind := Bytes.le b 6 1, proc := 0 }) f ((hstep.field State.calRun fun _ => rfl).trans hr) rfl
      ((congrArg (Store.get? · r.work) (hstep.field State.works fun _ => rfl)).trans hk)
    generalize u.calReject { r with kind := Bytes.le b 6 1, proc := 0 } f = t at heq hspec
    obtain ⟨hnone, hresult, hbusy, hreject, hregs, hrec, hledg, hmem⟩ := hspec
    refine ⟨t, heq, hnone, hresult.trans (by rw [h1]; decide), hbusy, hreject, (hstep.regs.mono (by decide)).trans hregs, ?_, ?_, hmem.trans (hstep.field State.mem fun _ => rfl)⟩
    · rw [hrec, hstep.field State.receipts fun _ => rfl, hstep.field State.raiseNo fun _ => rfl]
    · rw [hledg, hid, h1, hstep.field State.ledgerEvents fun _ => rfl, hstep.field State.fr fun _ => rfl, Nat.one_mul]
      rfl
  case layer =>
    intro b r w s hr hk hp hl hkind
    refine (show exec (.calImageRead b) s = execCalImageRead b s from rfl).trans ?_
    split
    · rename_i f hf
      rw [execCalImageRead_fails hr hk hp hl hf, show imageProc b = 0 from if_neg hkind]
      simp only [ite_self]
    · rename_i hf
      exact execCalImageRead_layer hr hk hp hl hkind hf
  case begins =>
    intro b r w s hr hk hp hl hf hkind hproc hwatch
    have heq := (show exec (.calImageRead b) s = execCalImageRead b s from rfl).trans (execCalImageRead_procedure hr hk hp hl hkind hproc hf)
    rw [State.calBegin_free (s := s.set F.CAL_STATUS_PROC (Bytes.le b 26 1)) hwatch] at heq
    have hbus := foldl_onCalBus (rowChans r.rows) (s.set F.CAL_STATUS_PROC (Bytes.le b 26 1))
    obtain ⟨hregs, hmem, hworks, hchan⟩ := hbus
    exact ⟨_, heq, rfl, fun c hc => hchan c (.inl hc), ((regsBut.refl _ s).set F.CAL_STATUS_PROC _ _ _ (by decide)).of_regs hregs, hmem, hworks⟩
  case watched =>
    intro b x r w s hr hk hp hl hf hkind hproc hx
    have heq := (show exec (.calImageRead b) s = execCalImageRead b s from rfl).trans
      (execCalImageRead_procedure hr hk hp hl hkind (by rw [hproc]; decide) hf)
    rw [hproc] at heq
    exact heq.trans (congrArg Host.Outcome.next (State.calBegin_watched rfl hx))
  case edgeFailed =>
    intro r m b v c s hr hp hproc hd hc
    exact (show exec (.edgeLin m b v) s = execEdgeLin m b v s from rfl).trans (execEdgeLin_failed hr hp hproc hd hc)
  case edgeGood =>
    intro r m b v s hr hp hproc hd hc n l e hres hcheck
    refine (show exec (.edgeLin m b v) s = execEdgeLin m b v s from rfl).trans ((execEdgeLin_judged hr hp hproc hd hc).trans (congrArg Host.Outcome.next ?_))
    exact State.calJudge_good hcheck (CalRun.edgeResidue_none hres)
  case edgeCheck =>
    intro r m b v f s hr hp hproc hd hc n l e hcheck
    exact (show exec (.edgeLin m b v) s = execEdgeLin m b v s from rfl).trans ((execEdgeLin_judged hr hp hproc hd hc).trans
      (congrArg Host.Outcome.next (State.calJudge_fails hcheck)))
  case edgeResidue =>
    intro r m b v f s hr hp hproc hd hc n l e hres
    exact (show exec (.edgeLin m b v) s = execEdgeLin m b v s from rfl).trans ((execEdgeLin_judged hr hp hproc hd hc).trans
      (congrArg Host.Outcome.next (State.calJudge_later hres)))
  case edgeOn =>
    intro r m b v s hr hd
    refine (show exec (.edgeLin m b v) s = execEdgeLin m b v s from rfl).trans ?_
    unfold execEdgeLin
    split
    · rfl
    · rename_i q hq
      cases hr.symm.trans (Option.filter_eq_some_iff.mp hq).1
      exact if_pos (by rw [hd]; rfl)
  case level8 =>
    intro r m e s hr hp hproc hout
    exact (show exec (.levelTrim m e true) s = execLevelTrim m e true s from rfl).trans ((execLevelTrim_measuring hr hp hproc).trans (congrArg Host.Outcome.next (State.trim_unmeasured hout)))
  case level8adc =>
    intro r m e b s hr hp hproc hout
    exact (show exec (.levelTrim m e b) s = execLevelTrim m e b s from rfl).trans ((execLevelTrim_measuring hr hp hproc).trans (congrArg Host.Outcome.next (State.trim_outOfService hout)))
  case levelGood =>
    intro r m e s hr hp hproc hout l hres hcheck
    exact (show exec (.levelTrim m e false) s = execLevelTrim m e false s from rfl).trans ((execLevelTrim_measuring hr hp hproc).trans (congrArg Host.Outcome.next (State.trim_accepted hout hres hcheck)))
  case levelCheck =>
    intro r m e f s hr hp hproc hout l hcheck
    exact (show exec (.levelTrim m e false) s = execLevelTrim m e false s from rfl).trans ((execLevelTrim_measuring hr hp hproc).trans (congrArg Host.Outcome.next (State.trim_fails hout hcheck)))
  case level9 =>
    intro r m e j d s hr hp hproc hout l hres
    exact (show exec (.levelTrim m e false) s = execLevelTrim m e false s from rfl).trans ((execLevelTrim_measuring hr hp hproc).trans (congrArg Host.Outcome.next (State.trim_residue hout hres)))
  case pmu8 =>
    intro r m e s hr hp hproc hout
    exact (show exec (.pmuTrim m e true) s = execPmuTrim m e true s from rfl).trans ((execPmuTrim_measuring hr hp hproc).trans (congrArg Host.Outcome.next (State.trim_unmeasured hout)))
  case pmu8adc =>
    intro r m e b s hr hp hproc hout
    exact (show exec (.pmuTrim m e b) s = execPmuTrim m e b s from rfl).trans ((execPmuTrim_measuring hr hp hproc).trans (congrArg Host.Outcome.next (State.trim_outOfService hout)))
  case pmuGood =>
    intro r m e s hr hp hproc hout l hres hcheck
    exact (show exec (.pmuTrim m e false) s = execPmuTrim m e false s from rfl).trans ((execPmuTrim_measuring hr hp hproc).trans (congrArg Host.Outcome.next (State.trim_accepted hout hres hcheck)))
  case pmuCheck =>
    intro r m e f s hr hp hproc hout l hcheck
    exact (show exec (.pmuTrim m e false) s = execPmuTrim m e false s from rfl).trans ((execPmuTrim_measuring hr hp hproc).trans (congrArg Host.Outcome.next (State.trim_fails hout hcheck)))
  case pmu9 =>
    intro r m e j d s hr hp hproc hout l hres
    exact (show exec (.pmuTrim m e false) s = execPmuTrim m e false s from rfl).trans ((execPmuTrim_measuring hr hp hproc).trans (congrArg Host.Outcome.next (State.trim_residue hout hres)))
  case commits =>
    intro r w s hr hk hp hn hleft
    obtain ⟨-, hcommit, hresult, hch, hfield, hcount, huser, hledg, hregs, -, -⟩ := s.layerCommitted_spec r
    obtain ⟨t, heq, hget, hrd, tledg, tregs, tmem, tdone, -⟩ := execCalCommit_spec hr hk hp
    obtain ⟨hnone, hbusy, hrec⟩ := tdone ((State.calLeft_eq hn).trans hleft)
    exact ⟨t, (show exec .calCommit s = execCalCommit s from rfl).trans heq, (congrArg (· == 1) (hget F.CAL_EVENTS_COMMIT (by decide))).trans hcommit,
      (hget _ (by decide)).trans hresult, (hget _ (by decide)).trans hch, (hget _ (by decide)).trans hfield, (hget _ (by decide)).trans hcount,
      fun c _ j _ => (hrd c j).trans (huser c j), tledg.trans hledg, hregs.trans (tregs.mono (by decide)), tmem, hnone, hbusy, hrec⟩
  case commitWaits =>
    intro r w s hr hk hp hn hleft
    obtain ⟨-, hcommit, hresult, hch, hfield, hcount, huser, hledg, hregs, -, -⟩ := s.layerCommitted_spec r
    obtain ⟨t, heq, hget, hrd, tledg, tregs, tmem, -, twaits⟩ := execCalCommit_spec hr hk hp
    have hl := State.calLeft_eq (s := s) hn
    obtain ⟨hrun, hwork, hrec⟩ := twaits (fun h => hleft (hl.symm.trans h))
    rw [hl] at hwork
    exact ⟨t, (show exec .calCommit s = execCalCommit s from rfl).trans heq, (congrArg (· == 1) (hget F.CAL_EVENTS_COMMIT (by decide))).trans hcommit,
      (hget _ (by decide)).trans hresult, (hget _ (by decide)).trans hch, (hget _ (by decide)).trans hfield, (hget _ (by decide)).trans hcount,
      fun c _ j _ => (hrd c j).trans (huser c j), tledg.trans hledg, hregs.trans (tregs.mono (by decide)), tmem, hrun, hwork, hrec⟩
  case noCommit =>
    intro s h
    refine (show exec .calCommit s = execCalCommit s from rfl).trans ?_
    unfold execCalCommit
    split
    · rfl
    · rename_i r hr
      exact if_pos (h r hr)

end Sys2Proof.Machine
end

section
/-!
SUPPORT. The fault collector (O43): how a detection is latched, merged or counted, and how the collector is cleared.
-/

namespace Sys2Proof.Machine

/-! ## The record of a first fault (R545, R549) -/

theorem RegStep.wr {l : List RegName} {s t : State} (h : RegStep l s t) (r : Reg) (w : Word) (hr : r.name ∈ l) : RegStep l s (t.wr r w) :=
  ⟨h.view, h.regs.wr r w hr⟩

theorem RegStep.wr80 {l : List RegName} {s t : State} (h : RegStep l s t) (a b c : RegName) (i v : Nat) (ha : a ∈ l) (hb : b ∈ l) (hc : c ∈ l) :
    RegStep l s (t.wr80 a b c i v) := ⟨h.view, State.wr80_regsBut h.regs a b c i v ha hb hc⟩

/-- The first word of a detection's record. -/
def Detection.word (d : Detection) : Word := BitVec.ofNat 32 (d.kind * 2 ^ 28 + d.cause * 2 ^ 16 + d.source)

/-- The first fault's kind, cause, source and instant are shown, with HANDLING, FIRST_VALID and FAULT. -/
def State.firstShown (s : State) (d : Detection) : State :=
  let t := ((s.wr ⟨.FLT_FIRST, 0, 0⟩ d.word).wr80 .FLT_FIRST_TIME_0 .FLT_FIRST_TIME_1 .FLT_FIRST_TIME_2 0 s.fr80).set F.FLT_FIRST_TIME_2_ROUTED d.routed
  ((t.setBit F.FLT_STATUS_HANDLING).setBit F.FLT_STATUS_FIRST_VALID).setBit F.FLT_EVENTS_FAULT

/-- The mirror takes the first fault where it is free. -/
def State.firstMirrored (s : State) (d : Detection) (at_ : Nat) : State :=
  if s.bit F.FLT_MIRROR_TIME_2_VALID then s
  else ((s.wr ⟨.FLT_MIRROR, 0, 0⟩ d.word).wr80 .FLT_MIRROR_TIME_0 .FLT_MIRROR_TIME_1 .FLT_MIRROR_TIME_2 0 at_).setBit F.FLT_MIRROR_TIME_2_VALID

abbrev mirrorRegs : List RegName := [.FLT_MIRROR, .FLT_MIRROR_TIME_0, .FLT_MIRROR_TIME_1, .FLT_MIRROR_TIME_2]

abbrev firstRegs : List RegName := [.FLT_FIRST, .FLT_FIRST_TIME_0, .FLT_FIRST_TIME_1, .FLT_FIRST_TIME_2, .FLT_STATUS, .FLT_EVENTS]

theorem State.firstMirrored_step (s : State) (d : Detection) (at_ : Nat) : RegStep mirrorRegs s (s.firstMirrored d at_) := by
  unfold State.firstMirrored
  split
  · exact .refl _ _ s
  · exact RegStep.set (.wr80 (.wr (.refl _ _ s) _ _ (by decide)) _ _ _ _ _ (by decide) (by decide) (by decide)) _ _ _ _ (by decide)

theorem State.firstShown_spec (s : State) (d : Detection) :
    let t := s.firstShown d
    t.bit F.FLT_STATUS_HANDLING = true ∧ t.bit F.FLT_STATUS_FIRST_VALID = true ∧ t.bit F.FLT_EVENTS_FAULT = true ∧
      t.rd ⟨.FLT_FIRST, 0, 0⟩ = d.word ∧ RegStep firstRegs s t := by
  refine ⟨?_, ?_, State.bit_setBit _ _ _ _ (by decide) (by decide), ?_, ?_⟩
  · exact (State.bit_setBit_apart _ _ _ _ _ (by decide)).trans ((State.bit_setBit_apart _ _ _ _ _ (by decide)).trans
      (State.bit_setBit _ _ _ _ (by decide) (by decide)))
  · exact (State.bit_setBit_apart _ _ _ _ _ (by decide)).trans (State.bit_setBit _ _ _ _ (by decide) (by decide))
  · unfold State.firstShown State.setBit
    rw [State.rd_set_of_ne _ _ _ _ _ _ (by decide), State.rd_set_of_ne _ _ _ _ _ _ (by decide), State.rd_set_of_ne _ _ _ _ _ _ (by decide),
      State.rd_set_of_ne _ _ _ _ _ _ (by decide), State.rd_wr80_of_ne _ _ _ _ _ _ _ (by decide) (by decide) (by decide), State.rd_wr, if_pos rfl]
  · exact .set (.set (.set (.set (.wr80 (.wr (.refl _ _ s) _ _ (by decide)) _ _ _ _ _ (by decide) (by decide) (by decide)) _ _ _ _ (by decide))
      _ _ _ _ (by decide)) _ _ _ _ (by decide)) _ _ _ _ (by decide)

/-- A router event and a Ledger event are raised together. -/
theorem State.raise_ledger_spec (s : State) (source : Nat) (e : LedgerEv) :
    let t := (s.raise source s.fr).ledger e
    t.events = s.events ++ [{ source := source, at_ := s.fr }] ∧ t.ledgerEvents.length = s.ledgerEvents.length + 1 ∧ t.works = s.works ∧
      t.mem = s.mem ∧ t.detections = s.detections ∧ t.regs = s.regs := ⟨rfl, List.length_append, rfl, rfl, rfl, rfl⟩

theorem State.latchFirst_eq (s : State) (d : Detection) :
    s.latchFirst d = (((s.firstShown d).firstMirrored d s.fr80).raise 0x476 ((s.firstShown d).firstMirrored d s.fr80).fr).ledger
      (faultEvent d false ((s.firstShown d).firstMirrored d s.fr80).fr) := rfl

/-- A first fault's record, its router event and its Ledger event, and nothing else (R545, R549). -/
theorem State.latchFirst_spec (s : State) (d : Detection) :
    let t := s.latchFirst d
    t.bit F.FLT_STATUS_HANDLING = true ∧ t.bit F.FLT_STATUS_FIRST_VALID = true ∧ t.bit F.FLT_EVENTS_FAULT = true ∧
      t.rd ⟨.FLT_FIRST, 0, 0⟩ = d.word ∧ t.events = s.events ++ [{ source := 0x476, at_ := s.fr }] ∧
      t.ledgerEvents.length = s.ledgerEvents.length + 1 ∧ t.works = s.works ∧ t.mem = s.mem ∧ t.detections = s.detections ∧
      regsBut (firstRegs ++ mirrorRegs) s t := by
  rw [State.latchFirst_eq]
  obtain ⟨hhandling, hvalid, hfault, hword, hshown⟩ := s.firstShown_spec d
  have hmirror := (s.firstShown d).firstMirrored_step d s.fr80
  generalize s.firstShown d = u at *
  generalize u.firstMirrored d s.fr80 = v at *
  obtain ⟨he, hl, hw, hm, hd, hr⟩ := v.raise_ledger_spec 0x476 (faultEvent d false v.fr)
  have hfr : v.fr = s.fr := (hmirror.field State.fr fun _ => rfl).trans (hshown.field State.fr fun _ => rfl)
  refine ⟨?_, ?_, ?_, ?_, ?_, ?_, ?_, ?_, ?_, ?_⟩
  · exact (State.bit_of_regsBut hmirror.regs F.FLT_STATUS_HANDLING 0 0 (by decide)).trans hhandling
  · exact (State.bit_of_regsBut hmirror.regs F.FLT_STATUS_FIRST_VALID 0 0 (by decide)).trans hvalid
  · exact (State.bit_of_regsBut hmirror.regs F.FLT_EVENTS_FAULT 0 0 (by decide)).trans hfault
  · exact (hmirror.regs ⟨.FLT_FIRST, 0, 0⟩ (by decide)).trans hword
  · rw [he, hfr, (hmirror.field State.events fun _ => rfl).trans (hshown.field State.events fun _ => rfl)]
  · rw [hl, (hmirror.field State.ledgerEvents fun _ => rfl).trans (hshown.field State.ledgerEvents fun _ => rfl)]
  · exact hw.trans ((hmirror.field State.works fun _ => rfl).trans (hshown.field State.works fun _ => rfl))
  · exact hm.trans ((hmirror.field State.mem fun _ => rfl).trans (hshown.field State.mem fun _ => rfl))
  · exact hd.trans ((hmirror.field State.detections fun _ => rfl).trans (hshown.field State.detections fun _ => rfl))
  · exact ((hshown.regs.mono (by decide)).trans (hmirror.regs.mono (by decide))).of_regs hr

/-! ## A detection reaches the collector -/

theorem execFaultDetection_of {d : Detection} {s : State} (h : lowestSource s.detections = some d) :
    execFaultDetection s = .next (let v := ({ s with detections := s.detections.erase d }.collect d).voidFor d
      if kindSafe d.kind d.source = true then v.enterSafe else v) := by
  unfold execFaultDetection
  rw [h]

theorem State.voidFor_of_no_work {s : State} {d : Detection} (hs : s.works = []) (hd : d.works = []) : s.voidFor d = s := by
  unfold State.voidFor
  rw [hs, hd]
  rfl

section
variable {d : Detection} {s : State}

theorem State.collect_clear (hh : s.bit F.FLT_STATUS_HANDLING = false) (hv : s.bit F.FLT_STATUS_FIRST_VALID = false) : s.collect d = s.latchFirst d := by
  simp [State.collect, hh, hv]

theorem State.collect_relatch (hh : s.bit F.FLT_STATUS_HANDLING = true)
    (hlower : s.firstAt .FLT_FIRST_TIME_0 .FLT_FIRST_TIME_1 .FLT_FIRST_TIME_2 = s.fr80 ∧ d.source < s.get F.FLT_FIRST_SOURCE) :
    s.collect d = s.relatch d := if_pos ⟨hh, hlower⟩

theorem State.collect_handling (hh : s.bit F.FLT_STATUS_HANDLING = true)
    (hlower : ¬(s.firstAt .FLT_FIRST_TIME_0 .FLT_FIRST_TIME_1 .FLT_FIRST_TIME_2 = s.fr80 ∧ d.source < s.get F.FLT_FIRST_SOURCE)) :
    s.collect d = s.countUp F.FLT_STATUS_MERGED :=
  (if_neg fun h => hlower h.2).trans (if_pos (Or.inl hh))

/-- R563: the last instant of HANDLING counts as in HANDLING. -/
theorem State.collect_lastInstant {x : Tu} (hh : s.bit F.FLT_STATUS_HANDLING = false) (hv : s.bit F.FLT_STATUS_FIRST_VALID = true)
    (hx : s.handledAt = some x) (hat : d.at_ ≤ x) : s.collect d = s.countUp F.FLT_STATUS_MERGED :=
  (if_neg fun h => Bool.false_ne_true (hh.symm.trans h.1)).trans (if_pos (Or.inr ⟨hv, by rw [hx]; exact decide_eq_true hat⟩))

theorem State.collect_later (hh : s.bit F.FLT_STATUS_HANDLING = false) (hv : s.bit F.FLT_STATUS_FIRST_VALID = true)
    (hx : ∀ x, s.handledAt = some x → x < d.at_) :
    s.collect d = (((s.setBit F.FLT_STATUS_OVERFLOW).countUp F.FLT_LATER_COUNT).set F.FLT_LATER_LAST_SOURCE d.source).ledger (faultEvent d true s.fr) := by
  have hafter : s.handledAt.any (d.at_ ≤ ·) = false := by
    cases h : s.handledAt with
    | none => rfl
    | some x => exact decide_eq_false (Nat.not_le.mpr (hx x h))
  simp [State.collect, hh, hv, hafter]

end

/-! ## The safe state and the clear -/

/-- The safe state was not confirmed in time: the device says so and resets itself (R552). -/
def State.escalated (s : State) (t : Tu) : State := (s.advanceTo (t + safeBound + 1)).setBit F.FLT_MIRROR_TIME_2_ESCALATED

/-- A Ledger event is made of it, and the device asserts its own reset. -/
def State.resetsItself (s : State) (e : LedgerEv) : State := { s.ledger e with safeEntry := none, resets := s.resets ++ [(5, s.fr)] }

theorem State.resetsItself_spec (s : State) (e : LedgerEv) :
    let t := s.resetsItself e
    t.resets = s.resets ++ [(5, s.fr)] ∧ t.safeEntry = none ∧ t.regs = s.regs ∧ t.fr = s.fr ∧ t.mem = s.mem ∧
      t.ledgerEvents.length = s.ledgerEvents.length + 1 := ⟨rfl, rfl, rfl, rfl, rfl, List.length_append⟩

theorem execEscalationTimeout_of {t : Tu} {s : State} (h : s.safeEntry = some t) :
    execEscalationTimeout s = .next ((s.escalated t).resetsItself
      { code := 0x23, source := (s.escalated t).get F.FLT_FIRST_SOURCE, aux := ((s.escalated t).rd ⟨.FLT_MIRROR, 0, 0⟩).toNat, data := 0 }) := by
  unfold execEscalationTimeout
  rw [h] <;> rfl

theorem execSafeStateConfirm_of {t : Tu} {s : State} (h : s.safeEntry = some t) :
    execSafeStateConfirm s = if t + safeBound < s.fr then .next s else .next { s.setBit F.FLT_STATUS_SAFE with safeEntry := none } := by
  unfold execSafeStateConfirm
  rw [h]

theorem execHandlingEnd_unconfirmed {s : State} (hf : s.firstSafe = true) (hs : s.bit F.FLT_STATUS_SAFE = false) : execHandlingEnd s = .next s := by
  simp [execHandlingEnd, hf, hs]

theorem execHandlingEnd_unnoticed {s : State} (hf : s.firstSafe = false) (hn : (s.seqs.any fun p => p.2.notice.isSome) = true) :
    execHandlingEnd s = .next s := by
  simp only [execHandlingEnd, hf, hn, Bool.false_eq_true, if_false, if_true, ite_self]

/-- Settles O43: how a detection is latched, merged or counted, and how the collector is cleared. -/
theorem faultCollector : Obligations.FaultCollector := by
  unfold Obligations.FaultCollector
  refine ⟨?none, ?first, ?lower, ?merged, ?last, ?later, ?alone, ?safeEnds, ?noticed, ?notYet, ?confirm, ?tooLate, ?escalates, ?noEntry, ?nothing, ?busy,
    ?asserting, ?clears⟩
  case none =>
    intro s h
    refine (show exec .faultDetection s = execFaultDetection s from rfl).trans ?_
    unfold execFaultDetection
    rw [h] <;> rfl
  case first =>
    intro d s hd hh hv u v
    exact (execFaultDetection_of hd).trans (by rw [State.collect_clear (s := u) hh hv])
  case lower =>
    intro d s hd hh hlower u v
    exact (execFaultDetection_of hd).trans (by rw [State.collect_relatch (s := u) hh hlower])
  case merged =>
    intro d s hd hh hlower u v
    exact (execFaultDetection_of hd).trans (by rw [State.collect_handling (s := u) hh hlower])
  case last =>
    intro d x s hd hh hv hx hat u v
    exact (execFaultDetection_of hd).trans (by rw [State.collect_lastInstant (s := u) hh hv hx hat])
  case later =>
    intro d s hd hh hv hx u v
    exact (execFaultDetection_of hd).trans (by rw [State.collect_later (s := u) hh hv hx])
  case alone =>
    intro d s hd hkind hworks hdw hh hv
    obtain ⟨h1, h2, h3, h4, h5, h6, hw, hm, hdet, hregs⟩ := State.latchFirst_spec { s with detections := s.detections.erase d } d
    have heq : exec .faultDetection s = .next ({ s with detections := s.detections.erase d }.latchFirst d) :=
      (execFaultDetection_of hd).trans (by
        simp only [State.collect_clear (s := { s with detections := s.detections.erase d }) hh hv, State.voidFor_of_no_work (hw.trans hworks) hdw, hkind,
          Bool.false_eq_true, if_false])
    exact ⟨_, heq, hdet, h1, h2, h3, h4, hm, h6, h5, hregs⟩
  case safeEnds =>
    intro s hh hf hs
    refine (show exec .handlingEnd s = execHandlingEnd s from rfl).trans ?_
    simp [execHandlingEnd, hh, hf, hs]
  case noticed =>
    intro s hh hf hn
    refine (show exec .handlingEnd s = execHandlingEnd s from rfl).trans ?_
    simp only [execHandlingEnd, hh, hf, hn, Bool.not_true, Bool.false_eq_true, if_false]
  case notYet =>
    rintro s (hh | ⟨hf, hs⟩ | ⟨hf, hn⟩)
    · exact if_pos (by rw [hh]; rfl)
    · exact execHandlingEnd_unconfirmed hf hs
    · exact execHandlingEnd_unnoticed hf hn
  case confirm =>
    intro t s h hle
    exact (execSafeStateConfirm_of h).trans (if_neg (Nat.not_lt.mpr hle))
  case tooLate =>
    intro s h
    cases he : s.safeEntry with
    | none =>
      refine (show exec .safeStateConfirm s = execSafeStateConfirm s from rfl).trans ?_
      unfold execSafeStateConfirm
      rw [he]
    | some t => exact (execSafeStateConfirm_of he).trans (if_pos (h t he))
  case escalates =>
    intro t s h
    have hstep : RegStep [.FLT_MIRROR_TIME_2] (s.advanceTo (t + safeBound + 1)) (s.escalated t) := RegStep.set (.refl _ _ _) _ _ _ _ (by decide)
    have hbit : (s.escalated t).bit F.FLT_MIRROR_TIME_2_ESCALATED = true := State.bit_setBit _ _ _ _ (by decide) (by decide)
    have hfr : (s.escalated t).fr = max s.fr (t + 20480001) := hstep.field State.fr fun _ => rfl
    have heq := execEscalationTimeout_of h
    generalize s.escalated t = u at *
    obtain ⟨hresets, hentry, hregs, hf, hm, hl⟩ := u.resetsItself_spec
      { code := 0x23, source := u.get F.FLT_FIRST_SOURCE, aux := (u.rd ⟨.FLT_MIRROR, 0, 0⟩).toNat, data := 0 }
    refine ⟨_, heq, ?_, hentry, (congrArg (· == 1) (State.get_congr hregs _ _ _)).trans hbit, hf.trans hfr, hm.trans (hstep.field State.mem fun _ => rfl),
      hl.trans (congrArg (List.length · + 1) (hstep.field State.ledgerEvents fun _ => rfl)), ?_⟩
    · rw [hresets, hfr, show u.resets = s.resets from hstep.field State.resets fun _ => rfl]
    · exact regsBut.of_regs (show regsBut _ s u from hstep.regs) hregs
  case noEntry =>
    intro s h
    refine (show exec .escalationTimeout s = execEscalationTimeout s from rfl).trans ?_
    unfold execEscalationTimeout
    rw [h]
  case nothing =>
    intro a s hb hv
    refine (show exec (.fltClear a) s = execFltClear a s from rfl).trans ?_
    simp [execFltClear, hb, hv]
  case busy =>
    intro a s hb hv hbusy
    refine (show exec (.fltClear a) s = execFltClear a s from rfl).trans ?_
    rw [execFltClear, if_neg (by simp [hb]), if_neg (by simp [hv]), if_pos hbusy]
  case asserting =>
    intro a s hb hv hh he hassert
    refine (show exec (.fltClear a) s = execFltClear a s from rfl).trans ?_
    rw [execFltClear, if_neg (by simp [hb]), if_neg (by simp [hv]), if_neg (by simp [hh, he]), if_pos hassert]
  case clears =>
    intro a s hb hv hh he hassert
    refine (show exec (.fltClear a) s = execFltClear a s from rfl).trans ?_
    rw [execFltClear, if_neg (by simp [hb]), if_neg (by simp [hv]), if_neg (by simp [hh, he]), if_neg hassert]

end Sys2Proof.Machine
end

section
/-!
SUPPORT. The keeper of the Ledger (O45): the statement on a read of the record that a count update is raising speaks of the record's word 7, with no
hypothesis that the record has one. A state whose last record is shorter shows the difference: the read leaves LEDG_REC_7 as it stood.
-/

namespace Sys2Proof.Machine

/-- The last record has no words, and a count update of it is in progress. -/
def shortRecord : State := { booted := true, ledgRecs := [[]], ledgWrite := some { words := [], update := true } }

/-- Old or raised, the record has no words. -/
theorem ledgerWords_shortRecord : shortRecord.ledgerWords (shortRecord.get F.LEDG_READ_IDX_INDEX) = (shortRecord.useFree, []) :=
  congrArg (Prod.mk _) (ite_self (c := shortRecord.freeVal % 2 = 1) ([] : List Word))

/-- LEDG_REC_7 keeps its reset value, all ones. -/
theorem ledgerRead_shortRecord : ∃ t, exec .ledgerRead shortRecord = .next t ∧ t.rd ⟨.LEDG_REC_w, 7, 0⟩ = 0xFFFFFFFF#32 := by
  refine ⟨(shortRecord.useFree.set F.LEDG_READ_STATE_STATE (recState [])).setBit F.LEDG_EVENTS_CORRUPT |>.answer [0#32], ?_, by decide⟩
  refine (show exec .ledgerRead shortRecord = execLedgerRead shortRecord from rfl).trans ?_
  unfold execLedgerRead
  rw [if_neg (by decide), ledgerWords_shortRecord] <;> rfl

/-- Refutes O45: its clause on a read during a count update does not ask for a whole record. In `shortRecord` the word 7 of the record reads as 0, old
or raised, while LEDG_REC_7 stays at all ones. -/
theorem not_ledgerKeeping : ¬ Obligations.LedgerKeeping := by
  unfold Obligations.LedgerKeeping
  intro h
  obtain ⟨-, -, -, -, -, -, -, -, -, -, -, -, -, -, -, hread, -⟩ := h
  obtain ⟨t, ht, -, -, hword, -⟩ := hread shortRecord rfl (by decide) rfl
  obtain ⟨u, hu, hones⟩ := ledgerRead_shortRecord
  cases ht.symm.trans hu
  rw [hones] at hword
  exact absurd hword (by decide)

end Sys2Proof.Machine
end

section
/-!
SUPPORT. Reports of a channel's comparators and detectors (O6).
-/

namespace Sys2Proof.Machine

/-- The sticky bit and the event of an outcome of a monitored channel (R47). -/
theorem State.reach_eq (s : State) (c o : Nat) :
    let u := ((s.stampChange c (s.get F.CHn_STATUS_LIVE_OUTCOME c) o s.fr).srcEdges2 c (s.get F.CHn_STATUS_LIVE_OUTCOME c) o s.fr).set F.CHn_STATUS_LIVE_OUTCOME o c
    let v := if u.bit F.CHn_MODE_LIVE_CMP_USE c = true ∧ u.bit F.CHn_STATUS_OWNED c = false ∧ u.bit ⟨.CHn_CMP_MON, o, 1⟩ c = false then
      (u.setBit ⟨.CHn_CMP_MON, o, 1⟩ c).raise c (u.fr + 98304) else u
    s.reach c o = if o = 3 then v.detect { kind := 2, cause := 0x212, source := 0x400 + c } else v := by
  simp only [← Bool.not_eq_true']
  rfl

theorem State.frontEndOn_iff {s : State} {c : Nat} : s.frontEndOn c = true ↔ s.rowOff (c / 64) = false ∧ s.get F.PWR_STATUS_STATE ≠ 4 := by
  simp [State.frontEndOn]

theorem State.pmuIn_of {s : State} {c : Nat} {p : Nat → Bool} (hp4 : s.get F.PWR_STATUS_STATE < 2) (hen : s.bit F.CHn_ENABLE_PMU_EN c = true)
    (hp : p (s.get F.CHn_MODE_LIVE_PMU_MODE c) = true) : s.pmuIn c p = true := by
  simp [State.pmuIn, State.landsOn, hp4, hen, hp]

/-- Settles O6: what each report of a channel does. -/
theorem channelEvents : Obligations.ChannelEvents := by
  unfold Obligations.ChannelEvents
  refine ⟨?outcome, ?disagreement, ?trip, ?stuck, ?overCurrent, ?clamp⟩
  case outcome =>
    intro c o s hc ho u v
    refine (show exec (.comparatorOutcomeChange c o) s = execComparatorOutcomeChange c o s from rfl).trans ?_
    exact (if_neg (not_or.mpr ⟨Nat.not_le.mpr hc, Nat.not_le.mpr ho⟩)).trans (congrArg Host.Outcome.next (s.reach_eq c o))
  case disagreement =>
    intro c s hc u v
    refine (show exec (.comparatorDisagreement c) s = execComparatorDisagreement c s from rfl).trans ?_
    exact (if_neg (Nat.not_le.mpr hc)).trans (congrArg Host.Outcome.next ((s.reach_eq c 3).trans (if_pos rfl)))
  case trip =>
    intro c s hc hrow hp
    refine (show exec (.swmTrip c) s = execSwmTrip c s from rfl).trans ((if_neg ?_).trans ?_)
    · simp [Nat.not_le.mpr hc, State.frontEndOn_iff.mpr ⟨hrow, hp⟩]
    · unfold State.overstress
      rw [Nat.zero_add]
  case stuck =>
    intro c s hc hrow hp hd
    refine (show exec (.drvStuck c) s = execDrvStuck c s from rfl).trans (if_neg ?_)
    simp [hc, State.frontEndOn_iff.mpr ⟨hrow, by omega⟩, hp, hd]
  case overCurrent =>
    intro c s hc hrow hp hen hm
    refine (show exec (.pmuOver c) s = execPmuOver c s from rfl).trans (if_neg ?_)
    simp [hc, State.frontEndOn_iff.mpr ⟨hrow, by omega⟩, State.pmuIn_of (p := (· == fvmi)) hp hen (by rw [hm]; rfl)]
  case clamp =>
    intro c s hc hp hen hm
    have hforces : forces (s.get F.CHn_MODE_LIVE_PMU_MODE c) = true := by rcases hm with h | h <;> rw [h] <;> rfl
    refine (show exec (.pmuClamp c) s = execPmuClamp c s from rfl).trans (if_neg ?_)
    simp [hc, State.pmuIn_of hp hen hforces]

end Sys2Proof.Machine
end

section
/-!
SUPPORT. A channel's ramp from its start to its end, and its enables (O7).
-/

namespace Sys2Proof.Machine

/-- The PMU's switch leaves the driver's range. -/
theorem Chan.switchPmu_range (ch : Chan) (l : LevelSet) (t : Tu) : (ch.switchPmu l t).range = ch.range := by
  unfold Chan.switchPmu
  split <;> rfl

/-- The channel whose ramp starts: its force value, its safety window, its PMU. -/
def State.rampChan (s : State) (c : Nat) : Chan :=
  let l := s.live c
  let ch := { s.chan c with frm := zeroForce (s.chan c).pmuMode l.pmuMode (s.chan c).frm, winLo := min (s.chan c).winLo l.clLo,
                            winHi := max (s.chan c).winHi l.clHi }
  ch.switchPmu l s.fr

theorem State.rampChan_range (s : State) (c : Nat) : (s.rampChan c).range = (s.chan c).range := Chan.switchPmu_range ..

theorem execRampStart_of {c : Nat} {s : State} (hp : (s.chan c).phase = .starting) :
    execRampStart c s =
      if (s.rampChan c).range ≠ (s.live c).drvRange then .next (((s.setBit F.CHn_STATUS_RAMPING c).clrBit F.CHn_STATUS_SETTLED c).setChan c
        { s.rampChan c with phase := .switching, start := s.fr, hiZ := true })
      else .next ((((s.setBit F.CHn_STATUS_RAMPING c).clrBit F.CHn_STATUS_SETTLED c).setChan c (s.rampChan c)).startLeg c
        (zeroForce (s.chan c).pmuMode (s.live c).pmuMode (s.chan c).frm)) := if_neg (not_not_intro hp)

/-! ## The enables of a channel (R220) -/

/-- A field of one bit reads that bit. -/
theorem Fld.get_eq_one (f : Fld) (w : Word) (hf : f.width = 1) : (f.get w == 1) = w.getLsbD f.lsb := by
  have hbit : w.extractLsb' f.lsb 1 = BitVec.ofBool (w.getLsbD f.lsb) := by
    ext i hi
    obtain rfl : i = 0 := by omega
    simp
  rw [Fld.get, hf, hbit]
  cases w.getLsbD f.lsb <;> rfl

theorem execChannelEnableWrite_of {c : Nat} {v : Word} {s : State} (hb : s.booted = true) (hc : c < 256) :
    execChannelEnableWrite c v s =
      if v &&& 7#32 ≠ 0#32 ∧ (s.bit F.CHn_STATUS_SAFE c = true ∨ s.rowOff (c / 64) = true) then .next (s.setBit F.CHn_EVENTS_ENABLE_BLOCKED c)
      else if v &&& 7#32 ≠ 0#32 ∧ s.laneUses c = true then .next (s.setBit F.CHn_EVENTS_ENABLE_CONFLICT c)
      else if v.getLsbD 2 = true ∧ (v.getLsbD 0 = true ∨ v.getLsbD 1 = true) ∧ forces (s.get F.CHn_MODE_LIVE_PMU_MODE c) = true then
        .next (s.setBit F.CHn_EVENTS_ENABLE_CONFLICT c)
      else .next (s.wr ⟨.CHn_ENABLE, c, 0⟩ (v &&& 7#32)) := by
  have hfld : ∀ f : Fld, f.width = 1 → f.lsb < 3 → (f.get (v &&& 7#32) == 1) = v.getLsbD f.lsb := by
    intro f hw hl
    rw [Fld.get_eq_one f _ hw]
    have hcases : f.lsb = 0 ∨ f.lsb = 1 ∨ f.lsb = 2 := by omega
    rcases hcases with h | h | h <;> rw [h] <;> simp
  unfold execChannelEnableWrite
  rw [if_neg (by simp [hb, hc])]
  simp only [hfld F.CHn_ENABLE_PMU_EN rfl (by decide), hfld F.CHn_ENABLE_DRV_EN rfl (by decide), hfld F.CHn_ENABLE_LOAD_EN rfl (by decide), Bool.or_eq_true]
  rfl

theorem getLsbD_of_and_seven {v : Word} (h : v &&& 7#32 = 0#32) : v.getLsbD 2 = false := by
  have hbit : (v &&& 7#32).getLsbD 2 = v.getLsbD 2 := by simp
  rw [← hbit, h]
  rfl

/-! ## LEVEL_SET (R55, R56, R386) -/

theorem State.levelSet_commits {s : State} {k : Nat} {w : Work} (h : (s.writeLevels w).firstReject w.lvChans = none) :
    s.levelSet k w = (w.lvChans.foldl (fun t c => t.applyCommit c) (s.writeLevels w)).setWork k
      { w with stage := .running, left := w.lvChans, count := w.lvChans.length } := by
  simp only [State.levelSet, h]

theorem State.levelSet_rejects {s : State} {k c r : Nat} {w : Work} (h : (s.writeLevels w).firstReject w.lvChans = some (c, r)) :
    s.levelSet k w = ((((s.writeLevels w).set F.CHn_STATUS_COMMIT_RESULT r c).setBit F.CHn_EVENTS_COMMIT_REJECT c).setWork k
      { w with result := r, failCh := c }).finalReceipt k Status.complete 0 { w with result := r, failCh := c }.detail := by
  simp only [State.levelSet, h] <;> rfl

/-- Settles O7: a channel's ramp from its start to its end, its enables, and LEVEL_SET. -/
theorem channelLevels : Obligations.ChannelLevels := by
  unfold Obligations.ChannelLevels
  refine ⟨?switches, ?leaves, ?switched, ?ends, ?zeroed, ?done, ?stored, ?blocked, ?conflict, ?cleared, ?offered, ?commits, ?rejects⟩
  case switches =>
    intro c s hp hr
    exact (show exec (.rampStart c) s = execRampStart c s from rfl).trans ((execRampStart_of hp).trans
      (if_pos fun h => hr ((s.rampChan_range c).symm.trans h)))
  case leaves =>
    intro c s hp hr
    exact (show exec (.rampStart c) s = execRampStart c s from rfl).trans ((execRampStart_of hp).trans
      (if_neg (not_not_intro ((s.rampChan_range c).trans hr))))
  case switched =>
    intro c s hp
    exact (show exec (.rangeSwitchDone c) s = execRangeSwitchDone c s from rfl).trans (if_neg (not_not_intro hp))
  case ends =>
    intro c s hp
    exact (show exec (.rampEnd c) s = execRampEnd c s from rfl).trans ((if_neg (by rw [hp]; decide)).trans (if_pos hp))
  case zeroed =>
    intro c s hp
    exact (show exec (.rampEnd c) s = execRampEnd c s from rfl).trans (if_pos hp)
  case done =>
    intro c s hp
    exact (show exec (.rampDone c) s = execRampDone c s from rfl).trans (if_neg (not_not_intro hp))
  case stored =>
    intro c v s hb hc hsafe hrow hlane
    refine (show exec (.channelEnableWrite c v) s = execChannelEnableWrite c v s from rfl).trans ((execChannelEnableWrite_of hb hc).trans ?_)
    rw [if_neg (by simp [hsafe, hrow]), if_neg (by simp [hlane])]
    by_cases hforces : v.getLsbD 2 = true ∧ (v.getLsbD 0 = true ∨ v.getLsbD 1 = true) ∧ forces (s.get F.CHn_MODE_LIVE_PMU_MODE c) = true
    · rw [if_pos hforces, if_pos ⟨hforces.2.2, hforces.1, hforces.2.1⟩]
    · rw [if_neg hforces, if_neg fun h => hforces ⟨h.2.1, h.2.2, h.1⟩]
  case blocked =>
    intro c v s hb hc hblocked hv
    exact (show exec (.channelEnableWrite c v) s = execChannelEnableWrite c v s from rfl).trans
      ((execChannelEnableWrite_of hb hc).trans (if_pos ⟨hv, hblocked⟩))
  case conflict =>
    intro c v s hb hc hsafe hrow hlane hv
    exact (show exec (.channelEnableWrite c v) s = execChannelEnableWrite c v s from rfl).trans
      ((execChannelEnableWrite_of hb hc).trans ((if_neg (by simp [hsafe, hrow])).trans (if_pos ⟨hv, hlane⟩)))
  case cleared =>
    intro c v s hb hc hv
    refine (show exec (.channelEnableWrite c v) s = execChannelEnableWrite c v s from rfl).trans ((execChannelEnableWrite_of hb hc).trans ?_)
    rw [if_neg fun h => h.1 hv, if_neg fun h => h.1 hv, if_neg fun h => Bool.false_ne_true ((getLsbD_of_and_seven hv).symm.trans h.1), hv]
  case offered =>
    intro k w s hk ho hw
    exact (show exec (.levelSet k) s = execLevelSet k s from rfl).trans (congrArg Host.Outcome.next (State.tollOrder_offered hk ho hw))
  case commits =>
    intro k w s hk ho hw hr
    exact (show exec (.levelSet k) s = execLevelSet k s from rfl).trans
      (congrArg Host.Outcome.next ((State.tollOrder_window hk ho hw).trans (State.levelSet_commits hr)))
  case rejects =>
    intro k c r w s hk ho hw hr
    exact (show exec (.levelSet k) s = execLevelSet k s from rfl).trans
      (congrArg Host.Outcome.next ((State.tollOrder_window hk ho hw).trans (State.levelSet_rejects hr)))

end Sys2Proof.Machine
end

section
/-!
SUPPORT. The host link comes up, retrains and goes down (O25).
-/

namespace Sys2Proof.Machine

theorem linkLegal_bounds {speed width : Nat} {flit : Bool} (h : linkLegal speed width flit = true) : speed ≤ 6 ∧ width ≤ 16 := by
  have hmem : width ∈ [1, 2, 4, 8, 16] ∧ speed ≤ 6 := by
    unfold linkLegal at h
    simp only [Bool.and_eq_true, decide_eq_true_eq, List.contains_iff_mem] at h
    exact ⟨h.1.2, h.1.1.2⟩
  obtain ⟨hw, hs⟩ := hmem
  simp at hw
  omega

theorem rateX16_le (speed : Nat) : rateX16 speed ≤ 1150 := by
  unfold rateX16
  split <;> decide

/-- The rate of a legal link fits its field. -/
theorem linkRate_lt {speed width : Nat} (hw : width ≤ 16) : rateX16 speed * width / 16 < 2048 := by
  have := Nat.div_le_div_right (c := 16) (Nat.mul_le_mul (rateX16_le speed) hw)
  omega

theorem State.setLink_spec (s : State) (speed width : Nat) (flit : Bool) :
    let t := s.setLink speed width flit
    t.get F.STALL_HOST_STATUS_RATE = rateX16 speed * width / 16 % 2048 ∧ t.get F.STALL_HOST_STATUS_SPEED = speed % 8 ∧
      t.get F.STALL_HOST_STATUS_WIDTH = width % 32 ∧ RegStep [.STALL_HOST_STATUS] s t := by
  refine ⟨State.get_set_self _ _ _ _ _ (by decide), ?_, ?_, ?_⟩
  · exact (State.get_set_apart _ _ _ _ _ _ (by decide)).trans ((State.get_set_apart _ _ _ _ _ _ (by decide)).trans (State.get_set_self _ _ _ _ _ (by decide)))
  · exact (State.get_set_apart _ _ _ _ _ _ (by decide)).trans (State.get_set_self _ _ _ _ _ (by decide))
  · exact .set (.set (.set (.set (.refl _ _ s) _ _ _ _ (by decide)) _ _ _ _ (by decide)) _ _ _ _ (by decide)) _ _ _ _ (by decide)

/-- A link that has come up (R329, R331, R342). -/
def State.linkShown (s : State) (n : Nat) : State :=
  ((s.setBit F.STALL_HOST_STATUS_DL_UP).set F.STALL_HOST_TAGS_LIMIT n).setBit F.STALL_HOST_EVENTS_LINK_UP

theorem State.linkShown_spec (s : State) (n : Nat) :
    let t := s.linkShown n
    t.bit F.STALL_HOST_STATUS_DL_UP = true ∧ t.bit F.STALL_HOST_EVENTS_LINK_UP = true ∧ t.get F.STALL_HOST_TAGS_LIMIT = n % 65536 ∧
      (∀ f : Fld, F.STALL_HOST_STATUS_DL_UP.apart f = true → F.STALL_HOST_TAGS_LIMIT.apart f = true → F.STALL_HOST_EVENTS_LINK_UP.apart f = true →
        t.get f = s.get f) ∧ RegStep [.STALL_HOST_STATUS, .STALL_HOST_TAGS, .STALL_HOST_EVENTS] s t := by
  refine ⟨?_, State.bit_setBit _ _ _ _ (by decide) (by decide), ?_, fun f h1 h2 h3 => ?_, ?_⟩
  · exact (State.bit_setBit_apart _ _ _ _ _ (by decide)).trans ((State.bit_set_apart _ _ _ _ _ _ (by decide)).trans
      (State.bit_setBit _ _ _ _ (by decide) (by decide)))
  · exact (State.get_setBit_apart _ _ _ _ _ (by decide)).trans (State.get_set_self _ _ _ _ _ (by decide))
  · exact (State.get_setBit_apart _ _ _ _ _ h3).trans ((State.get_set_apart _ _ _ _ _ _ h2).trans (State.get_setBit_apart _ _ _ _ _ h1))
  · exact .set (.set (.set (.refl _ _ s) _ _ _ _ (by decide)) _ _ _ _ (by decide)) _ _ _ _ (by decide)

/-- Settles O25: the host link comes up, retrains and goes down. -/
theorem hostLinkStates : Obligations.HostLinkStates := by
  unfold Obligations.HostLinkStates
  refine ⟨?up, ?higher, ?lower, ?down⟩
  case up =>
    intro speed width flit tags s hdown hlegal
    have heq : exec (.linkUp speed width flit tags) s = .next ((s.setLink speed width flit).linkShown (tagLimit flit tags)) :=
      if_neg (by simp [State.linkUp, hdown, hlegal])
    obtain ⟨hspeed, hwidth⟩ := linkLegal_bounds hlegal
    obtain ⟨h1, h2, h3, hlink⟩ := s.setLink_spec speed width flit
    obtain ⟨hup, hevent, htags, hframe, hshown⟩ := (s.setLink speed width flit).linkShown_spec (tagLimit flit tags)
    have hmem : (s.setLink speed width flit).mem = s.mem := hlink.field State.mem fun _ => rfl
    have htag : tagLimit flit tags % 65536 = if flit then 16384 else if tags then 1024 else 256 := by cases flit <;> cases tags <;> rfl
    refine ⟨_, heq, hup, hevent, ?_, ?_, ?_, htags.trans htag, ?_, ?_⟩
    · exact (hframe _ (by decide) (by decide) (by decide)).trans (h1.trans (Nat.mod_eq_of_lt (linkRate_lt hwidth)))
    · exact (hframe _ (by decide) (by decide) (by decide)).trans (h2.trans (Nat.mod_eq_of_lt (by omega)))
    · exact (hframe _ (by decide) (by decide) (by decide)).trans (h3.trans (Nat.mod_eq_of_lt (by omega)))
    · exact (hlink.regs.mono (by decide)).trans hshown.regs
    · exact fun a => congrArg (Mem.byte · a) ((hshown.field State.mem fun _ => rfl).trans hmem)
  case higher =>
    intro speed width s hup hlegal hrate
    exact (show exec (.linkRetrainHigher speed width) s = execLinkRetrainHigher speed width s from rfl).trans
      (if_neg (by simp [State.linkUp, hup, hlegal, hrate]))
  case lower =>
    intro speed width s hup hlegal hrate t
    exact (show exec (.rateDrop speed width) s = execRateDrop speed width s from rfl).trans
      (if_neg (by simp [State.linkUp, hup, hlegal, hrate]))
  case down =>
    intro s hup
    exact (show exec .dlDown s = execDlDown s from rfl).trans (if_neg (by simp [State.linkUp, hup]))

end Sys2Proof.Machine
end

section
/-!
SUPPORT. Virtual functions, resets of functions and MSI-X (O26).
-/

namespace Sys2Proof.Machine

/-! ## Stalls that stop -/

/-- The registers that a function's disable and the close of its stalls can change. -/
def fnRegs : List RegName := [.STALL_CTL_STATUS, .STALL_EVENTS, .STALL_WATCH, .STALL_WATCH_EVENTS, .MBX_PRIV_FULL_m] ++ voidRegs

/-- Everything but the registers, the stalls and the orders. -/
def State.stopView (s : State) : State := { s with regs := [], stalls := [], works := [] }

/-- A step that stops or closes stalls: it forgets none. -/
structure StopStep (s t : State) : Prop where
  view : t.stopView = s.stopView
  regs : regsBut fnRegs s t
  keys : ∀ k ∈ Store.keys s.stalls, k ∈ Store.keys t.stalls

theorem StopStep.refl (s : State) : StopStep s s := ⟨rfl, .refl _ s, fun _ h => h⟩

theorem StopStep.trans {s t u : State} (h : StopStep s t) (h' : StopStep t u) : StopStep s u :=
  ⟨h'.view.trans h.view, h.regs.trans h'.regs, fun k hk => h'.keys k (h.keys k hk)⟩

theorem StopStep.foldl {β : Type} (f : State → β → State) (hf : ∀ t b, StopStep t (f t b)) (bs : List β) (s : State) : StopStep s (bs.foldl f s) := by
  induction bs generalizing s with
  | nil => exact .refl s
  | cons b bs ih => exact (hf s b).trans (ih _)

theorem StopStep.set {s t : State} (h : StopStep s t) (f : Fld) (v i j : Nat) (hf : f.reg ∈ fnRegs) : StopStep s (t.set f v i j) :=
  ⟨h.view, h.regs.set f v i j hf, h.keys⟩

theorem StopStep.field {β : Type} {s t : State} (h : StopStep s t) (g : State → β) (hg : ∀ u, g u.stopView = g u) : g t = g s :=
  (hg t).symm.trans ((congrArg g h.view).trans (hg s))

theorem Store.mem_keys_put {κ α : Type} [DecidableEq κ] {m : Store κ α} {k j : κ} (v : α) (h : j ∈ Store.keys m) : j ∈ Store.keys (Store.put m k v) := by
  rw [Store.keys_put]
  split
  · exact h
  · exact List.mem_append_left _ h

theorem State.setStall_stop (s : State) (k : Nat) (v : Stall) : StopStep s (s.setStall k v) :=
  ⟨rfl, (regsBut.refl _ s).of_regs rfl, fun _ h => Store.mem_keys_put v h⟩

theorem State.refreshWatch_stop (s : State) : StopStep s s.refreshWatch := by
  unfold State.refreshWatch
  extract_lets l was lag t
  have ht : StopStep s t := .set (.set (.set (.refl s) _ _ _ _ (by decide)) _ _ _ _ (by decide)) _ _ _ _ (by decide)
  split
  · exact ht.set _ _ _ _ (by decide)
  · exact ht

theorem State.abandonOpens_stop (s : State) (f : Nat) : StopStep s (s.abandonOpens f) := by
  unfold State.abandonOpens
  refine StopStep.foldl _ (fun t k => ?_) _ s
  split
  · exact .set (.set (t.setStall_stop k _) _ _ _ _ (by decide)) _ _ _ _ (by decide)
  · exact .refl t

/-- The work of a closed stall holds no receipt slot. -/
def State.slotsFreed (s : State) (k : Nat) : State := { s with works := s.works.map fun p => if p.2.stall = k then (p.1, { p.2 with slots := 0 }) else p }

theorem State.slotsFreed_stop (s : State) (k : Nat) : StopStep s (s.slotsFreed k) := ⟨rfl, (regsBut.refl _ s).of_regs rfl, fun _ h => h⟩

theorem State.closeStall_spec (s : State) (k : Nat) :
    StopStep s (s.closeStall k) ∧ (s.closeStall k).stalls = Store.put s.stalls k { allowance := (s.stall k).allowance } := by
  have hset := s.setStall_stop k { allowance := (s.stall k).allowance }
  have hwatch := hset.trans ((State.slotsFreed_stop _ k).trans (State.refreshWatch_stop _))
  unfold State.closeStall
  extract_lets st t ws u
  have hstalls : u.stalls = Store.put s.stalls k { allowance := (s.stall k).allowance } := by
    dsimp only [u]
    unfold State.refreshWatch
    extract_lets l was lag v
    split <;> rfl
  split
  · exact ⟨StopStep.set (t := u) hwatch _ _ _ _ (by decide), hstalls⟩
  · exact ⟨hwatch, hstalls⟩

theorem State.setPrivFull_stop (s : State) (fn k : Nat) (full : Bool) : StopStep s (s.setPrivFull fn k full) := 
  (StopStep.refl s).set _ _ _ _ (show RegName.MBX_PRIV_FULL_m ∈ fnRegs by decide)

/-- A stall of a function stays one of its stalls. -/
theorem mem_stallsOf {s t : State} {f k : Nat} (hr : regsBut fnRegs s t)
    (hkeys : ∀ k ∈ Store.keys s.stalls, k ∈ Store.keys t.stalls) (h : k ∈ s.stallsOf f) :
    k ∈ t.stallsOf f := by
  obtain ⟨hk, hfn⟩ := List.mem_filter.mp h
  refine List.mem_filter.mpr ⟨hkeys k hk, ?_⟩
  unfold State.stallFn at hfn ⊢
  rwa [hr _ (by simp [fnRegs, voidRegs])]

/-- Stalls that close one after another are closed at the end. -/
theorem foldl_closeStall (ks : List Nat) (s : State) :
    StopStep s (ks.foldl (fun t k => t.closeStall k) s) ∧
      ∀ k, (k ∈ ks ∨ (s.stall k).st = .closed) → ((ks.foldl (fun t k => t.closeStall k) s).stall k).st = .closed := by
  induction ks generalizing s with
  | nil => exact ⟨.refl s, fun k h => h.resolve_left (List.not_mem_nil)⟩
  | cons j ks ih =>
    obtain ⟨hstep, hclosed⟩ := ih (s.closeStall j)
    obtain ⟨hj, hstalls⟩ := s.closeStall_spec j
    have hget : ∀ k, (s.closeStall j).stall k = if k = j then { allowance := (s.stall j).allowance } else s.stall k := fun k =>
      (congrArg (fun m : Store Nat Stall => Store.getD m k {}) hstalls).trans (Store.getD_put ..)
    refine ⟨hj.trans hstep, fun k hk => hclosed k ?_⟩
    by_cases hkj : k = j
    · exact .inr (by rw [hget, if_pos hkj])
    · rw [hget, if_neg hkj]
      exact hk.imp_left fun hm => (List.mem_cons.mp hm).resolve_left hkj

/-! ## The disable of a function (R557) -/

/-- What the disable of a function's work leaves. -/
def State.disableView (s : State) : State := { s.voidView with tx := [], frames0 := [], frames1 := [] }

/-- A step of the disable of a function's work. -/
abbrev DisableStep (s t : State) : Prop := Keeps State.disableView voidRegs s t

theorem Keeps.disable {s t : State} (h : VoidStep s t) : DisableStep s t :=
  ⟨congrArg (fun v : State => { v with tx := [], frames0 := [], frames1 := [] }) h.view, h.regs⟩

theorem DisableStep.field {β : Type} {s t : State} (h : DisableStep s t) (g : State → β) (hg : ∀ u, g u.disableView = g u) : g t = g s :=
  (hg t).symm.trans ((congrArg g h.view).trans (hg s))

theorem State.writeVerdict_disable (s : State) (w : Work) (status cause fail retired : Nat) : DisableStep s (s.writeVerdict w status cause fail retired) := by
  unfold State.writeVerdict
  split
  · exact ⟨rfl, (regsBut.refl _ s).of_regs rfl⟩
  · exact .refl _ _ s

/-- What a withdrawn order held goes back (R111, R380, R557). -/
def State.givenBack (s : State) (k : Nat) (w : Work) : State :=
  if w.opcode = Op.burst then s.writeVerdict w 3 0 0 0
  else if w.opcode = Op.calLoad then s.calAbort k w
  else if w.isFill ∧ w.held then s.abandonFill w
  else s

theorem State.givenBack_disable (s : State) (k : Nat) (w : Work) : DisableStep s (s.givenBack k w) :=
  .ite (s.writeVerdict_disable w 3 0 0 0) (.ite (s.calAbort_void k w).disable (.ite (s.abandonFill_void w).disable (.refl _ _ s)))

/-- A withdrawn order gets its receipt, and its frames leave their queues. -/
theorem State.withdrawn_disable (s : State) (k : Nat) : DisableStep s
    { (s.finalReceipt k Status.withdrawn 0x300) with frames0 := s.frames0.filter (·.work != k), frames1 := s.frames1.filter (·.work != k) } :=
  Keeps.trans (s.finalReceipt_void k _ _ _).disable ⟨rfl, (regsBut.refl _ _).of_regs rfl⟩

theorem State.withdraw_disable (s : State) (k : Nat) : DisableStep s (s.withdraw k) := by
  cases h : s.work? k with
  | none =>
    have heq : s.withdraw k =
        { (s.finalReceipt k Status.withdrawn 0x300) with frames0 := s.frames0.filter (·.work != k), frames1 := s.frames1.filter (·.work != k) } := by
      simp only [State.withdraw, h]
    exact heq ▸ s.withdrawn_disable k
  | some w =>
    have heq : s.withdraw k = { ((s.givenBack k w).finalReceipt k Status.withdrawn 0x300) with
        frames0 := (s.givenBack k w).frames0.filter (·.work != k)
        frames1 := (s.givenBack k w).frames1.filter (·.work != k) } := by
      simp only [State.withdraw, State.givenBack, h]
    exact heq ▸ (s.givenBack_disable k w).trans (State.withdrawn_disable _ k)

/-- Work at a disable is left, withdrawn or voided (R557). -/
theorem State.disableWork_cases (s : State) (k : Nat) (w : Work) :
    s.disableWork k w = s ∨ s.disableWork k w = s.withdraw k ∨ s.disableWork k w = s.voidWork k 0x230 := by
  have hite : ∀ (p : Prop) [Decidable p] (a b : State), (if p then a else b) = a ∨ (if p then a else b) = b := fun p _ a b => by
    by_cases h : p
    · exact .inl (if_pos h)
    · exact .inr (if_neg h)
  unfold State.disableWork
  cases w.stage with
  | fetched | blockRead | fenced | routed | offered | waiting | joint | depWait | queued => exact .inr (.inl rfl)
  | admitted => exact .inr (hite _ _ _).symm
  | dataRead => exact (hite _ _ _).elim (fun h => .inr (.inl h)) .inl
  | running | ended => exact (hite _ _ _).imp_right .inr
  | _ => exact .inr (.inr rfl)

theorem State.disableWork_disable (s : State) (k : Nat) (w : Work) : DisableStep s (s.disableWork k w) := by
  rcases s.disableWork_cases k w with h | h | h <;> rw [h]
  · exact .refl _ _ s
  · exact s.withdraw_disable k
  · exact (s.voidWork_void k 0x230).disable

/-- The stalls of a function stop fetching. -/
def State.stopped (s : State) (f : Nat) : State := (s.stallsOf f).foldl (fun t k => t.setStall k (t.stall k).stopFetching) s

theorem Stall.stopFetching_st (st : Stall) : st.stopFetching.st = .closed ∨ st.stopFetching.st = .draining := by
  unfold Stall.stopFetching
  split
  · exact .inr rfl
  · exact .inr rfl
  · exact .inr rfl
  · next h1 h2 h3 => cases h : st.st <;> simp_all

theorem foldl_stopFetching (ks : List Nat) (s : State) :
    let t := ks.foldl (fun (t : State) k => t.setStall k (t.stall k).stopFetching) s
    StopStep s t ∧ ∀ k, (k ∈ ks ∨ (s.stall k).st = .closed ∨ (s.stall k).st = .draining) → (t.stall k).st = .closed ∨ (t.stall k).st = .draining := by
  induction ks generalizing s with
  | nil => exact ⟨.refl s, fun k h => h.resolve_left (List.not_mem_nil)⟩
  | cons j ks ih =>
    obtain ⟨hstep, hst⟩ := ih (s.setStall j (s.stall j).stopFetching)
    have hget : ∀ k, (s.setStall j (s.stall j).stopFetching).stall k = if k = j then (s.stall j).stopFetching else s.stall k := fun k => Store.getD_put ..
    refine ⟨(s.setStall_stop j _).trans hstep, fun k hk => hst k ?_⟩
    by_cases hkj : k = j
    · rw [hget, if_pos hkj]
      exact .inr (Stall.stopFetching_st _)
    · rw [hget, if_neg hkj]
      exact hk.imp_left fun hm => (List.mem_cons.mp hm).resolve_left hkj

/-- The function of a state is being disabled, from its counts or anew. -/
def Func.disabled (fn : Func) : Func :=
  { fn with disabling := true, voided := if fn.disabling then fn.voided else 0, withdrawn := if fn.disabling then fn.withdrawn else 0 }

theorem State.startDisable_spec (s : State) (f : Nat) (except : Option Nat) :
    let t := s.startDisable f except
    t.func f = (s.func f).disabled ∧
      (∀ k ∈ s.stallsOf f, k ∈ t.stallsOf f ∧ ((t.stall k).st = .closed ∨ (t.stall k).st = .draining)) ∧ regsBut fnRegs s t := by
  obtain ⟨hstep, hst⟩ := foldl_stopFetching ((s.abandonOpens f).stallsOf f) (s.abandonOpens f)
  have habandon := s.abandonOpens_stop f
  have hwatch := State.refreshWatch_stop ((s.abandonOpens f).stopped f)
  unfold State.startDisable
  extract_lets a b c fn u ks
  have hc : StopStep s c := (habandon.trans hstep).trans hwatch
  have hfn : fn = s.func f := congrArg (fun m : Store Nat Func => Store.getD m f {}) (hc.field State.funcs fun _ => rfl)
  have hstalls : c.stalls = b.stalls := by
    dsimp only [c]
    unfold State.refreshWatch
    extract_lets l was lag v
    split <;> rfl
  have key : ∀ t : State, DisableStep u t → t.func f = (s.func f).disabled ∧
      (∀ k ∈ s.stallsOf f, k ∈ t.stallsOf f ∧ ((t.stall k).st = .closed ∨ (t.stall k).st = .draining)) ∧ regsBut fnRegs s t := by
    intro t ht
    have hkept : t.stalls = c.stalls := DisableStep.field ht State.stalls fun _ => rfl
    have hregs : regsBut fnRegs s t := (hc.regs.of_regs (u := u) rfl).trans (ht.regs.mono fun _ h => List.mem_append_right _ h)
    refine ⟨?_, fun k hk => ⟨mem_stallsOf hregs (fun j hj => ?_) hk, ?_⟩, hregs⟩
    · exact (congrArg (fun m : Store Nat Func => Store.getD m f {}) (DisableStep.field ht State.funcs fun _ => rfl)).trans
        ((Store.getD_put ..).trans ((if_pos rfl).trans (congrArg Func.disabled hfn)))
    · rw [hkept]
      exact hc.keys j hj
    · rw [show t.stall k = b.stall k from congrArg (fun m : Store Nat Stall => Store.getD m k {}) (hkept.trans hstalls)]
      exact hst k (.inl (mem_stallsOf habandon.regs habandon.keys hk))
  exact key _ (Keeps.foldl _ (fun t p => t.disableWork_disable p.1 p.2) ks u)

/-! ## Function-level resets (R346) -/

/-- A function in reset, its disable aside, is as after power-on. -/
theorem State.resetConfig_spec (s : State) (f : Nat) :
    let t := s.resetConfig f
    (t.func f).inReset = (s.func f).inReset ∧ (t.func f).busMaster = false ∧ (t.func f).vecs = [] ∧ t.triggers = s.triggers ∧ t.regs = s.regs := by
  have hfn : ∀ t : State, t.funcs = Store.put s.funcs f
      { present := (s.func f).present, inReset := (s.func f).inReset, disabling := (s.func f).disabling, voided := (s.func f).voided
        withdrawn := (s.func f).withdrawn } →
      (t.func f).inReset = (s.func f).inReset ∧ (t.func f).busMaster = false ∧ (t.func f).vecs = [] := by
    intro t ht
    have hf : t.func f = _ := (congrArg (fun m : Store Nat Func => Store.getD m f {}) ht).trans ((Store.getD_put ..).trans (if_pos rfl))
    rw [hf]
    exact ⟨rfl, rfl, rfl⟩
  unfold State.resetConfig
  extract_lets fn u t
  dsimp only [t]
  split
  · obtain ⟨h1, h2, h3⟩ := hfn { u with numVfs := 0, ari := false, bar4Log2 := 28 } rfl
    exact ⟨h1, h2, h3, rfl, rfl⟩
  · obtain ⟨h1, h2, h3⟩ := hfn u rfl
    exact ⟨h1, h2, h3, rfl, rfl⟩

/-- The registers of a function's own page return to their reset values, and no other register (R370). -/
theorem State.restore_regs (s : State) (rs : List RegName) (i : Nat) : regsBut rs s (s.restore rs i) := by
  intro r hr
  have hget : Store.get? (s.restore rs i).regs r = Store.get? s.regs r :=
    (Store.get?_filter_key (fun q : Reg => !(rs.contains q.name && q.i == i)) s.regs r).trans (if_pos (by simp [hr]))
  exact congrArg (fun o : Option Word => o.getD (resetWord r)) hget

/-- The reset of a function is shown (R346). -/
def State.flrShown (s : State) (f : Nat) (again : Bool) : State :=
  if again then s else ((s.set F.STALL_HOST_FLR_FN f).set F.STALL_HOST_FLR_VOIDED 0).set F.STALL_HOST_FLR_WITHDRAWN 0

theorem State.flrShown_bare (s : State) (f : Nat) (again : Bool) : RegStep [.STALL_HOST_FLR] s (s.flrShown f again) :=
  .ite (.refl _ _ s) (RegStep.set (RegStep.set (RegStep.set (.refl _ _ s) _ _ _ _ (by decide)) _ _ _ _ (by decide)) _ _ _ _ (by decide))

theorem State.flrShown_fn (s : State) {f : Nat} {again : Bool} (hf : f < 64) (h : again = true → s.get F.STALL_HOST_FLR_FN = f) :
    (s.flrShown f again).get F.STALL_HOST_FLR_FN = f := by
  unfold State.flrShown
  split
  · next hagain => exact h hagain
  · exact (State.get_set_apart _ _ _ _ _ _ (by decide)).trans ((State.get_set_apart _ _ _ _ _ _ (by decide)).trans
      ((State.get_set_self _ _ _ _ _ (by decide)).trans (Nat.mod_eq_of_lt hf)))

/-- The stalls of a function close, and their channels are empty. -/
def State.stallsClosed (s : State) (f : Nat) : State := (s.stallsOf f).foldl (fun t k => (t.closeStall k).setPrivFull f k false) s

theorem State.stallsClosed_stop (s : State) (f : Nat) : StopStep s (s.stallsClosed f) :=
  StopStep.foldl _ (fun t k => (t.closeStall_spec k).1.trans (State.setPrivFull_stop _ f k false)) _ s

theorem State.flrOne_spec {s : State} {f : Nat} (hb : s.booted = true) (hf : f < 64) :
    let t := s.flrOne f
    (t.func f).inReset = true ∧ (t.func f).busMaster = false ∧ (t.func f).vecs = [] ∧ (∀ g ∈ t.triggers, g.fn ≠ f) ∧
      t.get F.STALL_HOST_FLR_FN = f := by
  unfold State.flrOne
  rw [if_neg (by simp [hb])]
  extract_lets again src a b c d e g t
  obtain ⟨hfn, -, hregs⟩ := a.startDisable_spec f none
  have hd : StopStep c d := c.stallsClosed_stop f
  obtain ⟨hin, hbm, hvecs, htrig, hr⟩ := d.resetConfig_spec f
  have hg : regsBut bar2StallRegs e g := e.restore_regs bar2StallRegs f
  have hreset : (d.func f).inReset = true := by
    have h1 : d.func f = b.func f := congrArg (fun m : Store Nat Func => Store.getD m f {}) (hd.field State.funcs fun _ => rfl)
    have h2 : (a.func f).inReset = true := by
      rw [show a.func f = { s.func f with inReset := true } from (Store.getD_put ..).trans (if_pos rfl)]
    rw [h1, hfn]
    exact h2
  have hshown : again = true → g.get F.STALL_HOST_FLR_FN = f := by
    intro hagain
    have hs : s.get F.STALL_HOST_FLR_FN = f := eq_of_beq (Bool.and_eq_true_iff.mp hagain).2
    have h1 : d.get F.STALL_HOST_FLR_FN = s.get F.STALL_HOST_FLR_FN :=
      (State.get_of_regsBut hd.regs F.STALL_HOST_FLR_FN 0 0 (by decide)).trans (State.get_of_regsBut hregs F.STALL_HOST_FLR_FN 0 0 (by decide))
    exact (State.get_of_regsBut hg F.STALL_HOST_FLR_FN 0 0 (by decide)).trans ((State.get_congr hr _ _ _).trans (h1.trans hs))
  have hend := g.flrShown_bare f again
  have hfuncs : (g.flrShown f again).func f = e.func f := congrArg (fun m : Store Nat Func => Store.getD m f {}) (hend.field State.funcs fun _ => rfl)
  have htriggers : (g.flrShown f again).triggers = c.triggers :=
    (hend.field State.triggers fun _ => rfl).trans (htrig.trans (hd.field State.triggers fun _ => rfl))
  refine ⟨?_, ?_, ?_, ?_, g.flrShown_fn hf hshown⟩
  · exact (congrArg Func.inReset hfuncs).trans (hin.trans hreset)
  · exact (congrArg Func.busMaster hfuncs).trans hbm
  · exact (congrArg Func.vecs hfuncs).trans hvecs
  · intro x hx
    have hmem : x ∈ b.triggers.filter fun p => p.fn != f := (congrArg (x ∈ ·) htriggers).mp hx
    exact bne_iff_ne.mp (List.mem_filter.mp hmem).2

/-! ## Bus Master and D3hot (R336) -/

/-- A function whose stalls and work have been stopped. -/
theorem State.func_setFunc (s : State) (f : Nat) (v : Func) : (s.setFunc f v).func f = v := (Store.getD_put ..).trans (if_pos rfl)

/-- Clearing Bus Master disables the function's work and closes its stalls. -/
def State.masterCleared (s : State) (f : Nat) : State :=
  let t := (s.setFunc f { s.func f with busMaster := false }).startDisable f none
  (t.stallsOf f).foldl (fun t k => t.closeStall k) t

theorem State.masterCleared_spec (s : State) (f : Nat) :
    let t := s.masterCleared f
    (t.func f).busMaster = false ∧ ∀ k ∈ s.stallsOf f, (t.stall k).st = .closed := by
  obtain ⟨hfn, hstalls, -⟩ := (s.setFunc f { s.func f with busMaster := false }).startDisable_spec f none
  unfold State.masterCleared
  generalize (s.setFunc f { s.func f with busMaster := false }).startDisable f none = u at *
  obtain ⟨hstep, hclosed⟩ := foldl_closeStall (u.stallsOf f) u
  refine ⟨?_, fun k hk => hclosed k (.inl (hstalls k hk).1)⟩
  have hu : (u.func f).busMaster = false := by
    rw [hfn, State.func_setFunc]
    rfl
  exact (congrArg Func.busMaster (congrArg (fun m : Store Nat Func => Store.getD m f {}) (hstep.field State.funcs fun _ => rfl))).trans hu

/-- An entry to D3hot disables the function's work. -/
def State.sleeping (s : State) (f : Nat) : State := (s.setFunc f { s.func f with d3hot := true }).startDisable f none

theorem State.sleeping_spec (s : State) (f : Nat) :
    let t := s.sleeping f
    (t.func f).d3hot = true ∧ ∀ k ∈ s.stallsOf f, (t.stall k).st = .closed ∨ (t.stall k).st = .draining := by
  obtain ⟨hfn, hstalls, -⟩ := (s.setFunc f { s.func f with d3hot := true }).startDisable_spec f none
  refine ⟨?_, fun k hk => (hstalls k hk).2⟩
  rw [State.sleeping, hfn, State.func_setFunc]
  rfl

/-! ## MSI-X (R344) -/

/-- A vector is pending and its function may send: the message goes, and the vector is not pending any more. -/
theorem State.issueMsix_sends {s : State} {f v : Nat} {fn : Func} (hfn : s.func f = fn) (hp : (Store.getD fn.vecs v {}).pending = true)
    (hm : (Store.getD fn.vecs v {}).masked = false) (hen : fn.msixEnable = true) (hmask : fn.msixMask = false) (hbm : fn.busMaster = true) :
    s.issueMsix f v = (s.setFunc f { fn with vecs := Store.put fn.vecs v { Store.getD fn.vecs v {} with pending := false } }).send
      (.msix f v (Store.getD fn.vecs v {}).addr (Store.getD fn.vecs v {}).data) := by
  subst hfn
  exact if_pos (by simp [hp, hm, hen, hmask, hbm])

theorem State.issueMsix_waits {s : State} {f v : Nat} {fn : Func} (hfn : s.func f = fn)
    (h : fn.busMaster = false ∨ fn.msixEnable = false ∨ fn.msixMask = true ∨ (Store.getD fn.vecs v {}).masked = true) : s.issueMsix f v = s := by
  subst hfn
  refine if_neg fun hall => ?_
  simp only [Bool.and_eq_true, Bool.not_eq_true'] at hall
  obtain ⟨⟨⟨⟨-, hm⟩, hen⟩, hmask⟩, hbm⟩ := hall
  rcases h with h | h | h | h
  · exact Bool.false_ne_true (h.symm.trans hbm)
  · exact Bool.false_ne_true (h.symm.trans hen)
  · exact Bool.false_ne_true (hmask.symm.trans h)
  · exact Bool.false_ne_true (hm.symm.trans h)

/-- A trigger's vector is pending, and the trigger is gone. -/
def State.vecPending (s : State) (g : Trigger) : State := { s with triggers := s.triggers.erase g }.modVec g.fn g.vector fun x => { x with pending := true }

/-- The function of a trigger with its vector pending. -/
def Func.pend (fn : Func) (v : Nat) : Func := { fn with vecs := Store.put fn.vecs v { Store.getD fn.vecs v {} with pending := true } }

theorem State.vecPending_spec (s : State) (g : Trigger) :
    let t := s.vecPending g
    t.func g.fn = (s.func g.fn).pend g.vector ∧ t.triggers = s.triggers.erase g ∧ t.tx = s.tx ∧ t.regs = s.regs ∧ t.mem = s.mem :=
  ⟨State.func_setFunc _ _ _, rfl, rfl, rfl, rfl⟩

theorem Func.pend_vec (fn : Func) (v : Nat) : Store.getD (fn.pend v).vecs v {} = { Store.getD fn.vecs v {} with pending := true } :=
  (Store.getD_put ..).trans (if_pos rfl)

theorem execMsixTrigger_of {g : Trigger} {s : State} (h : s.triggers.find? s.triggerFirst = some g) (hv : g.vector < vecCount g.fn) :
    execMsixTrigger s = .next ((s.vecPending g).issueMsix g.fn g.vector) := by
  unfold execMsixTrigger
  rw [h]
  exact if_pos hv

/-! ## Virtual functions (R334) -/

theorem foldl_setFunc (fs : List Nat) (v : Func) (s : State) :
    let t := fs.foldl (fun (t : State) f => t.setFunc f v) s
    (∀ f, t.func f = if f ∈ fs then v else s.func f) ∧ t.regs = s.regs ∧ t.mem = s.mem ∧ t.works = s.works := by
  induction fs generalizing s with
  | nil => exact ⟨fun f => by simp, rfl, rfl, rfl⟩
  | cons g fs ih =>
    obtain ⟨hf, hr, hm, hw⟩ := ih (s.setFunc g v)
    refine ⟨fun f => (hf f).trans ?_, hr, hm, hw⟩
    have hget : (s.setFunc g v).func f = if f = g then v else s.func f := Store.getD_put ..
    by_cases hmem : f ∈ fs
    · simp [hmem]
    · simp only [hmem, hget, List.mem_cons, or_false, if_false]

/-- Settles O26: virtual functions, resets of functions, Bus Master, D3hot and MSI-X. -/
theorem functionsAndInterrupts : Obligations.FunctionsAndInterrupts := by
  unfold Obligations.FunctionsAndInterrupts
  refine ⟨?rejected, ?enabled, ?disabled, ?reset, ?pf, ?resetDone, ?masterCleared, ?sleeps, ?wakes, ?sends, ?pends, ?unmasked⟩
  case rejected =>
    intro s hstage hn
    refine (show exec (.vfEnableWrite true) s = execVfEnableWrite true s from rfl).trans ?_
    refine (if_neg (by simp [State.configOpen, hstage])).trans ((if_neg (by decide)).trans (if_pos ?_))
    simpa using hn
  case enabled =>
    intro s hstage hen hlow hhigh hari
    obtain ⟨hf, hr, hm, hw⟩ := foldl_setFunc (List.range' 1 s.numVfs) { present := true } s
    have heq : exec (.vfEnableWrite true) s = .next { (List.range' 1 s.numVfs).foldl (fun t f => t.setFunc f { present := true }) s with vfEnable := true } := by
      refine (show exec (.vfEnableWrite true) s = execVfEnableWrite true s from rfl).trans ?_
      refine (if_neg (by simp [State.configOpen, hstage])).trans ((if_neg (by decide)).trans ((if_neg ?_).trans (if_neg (by rw [hen]; decide))))
      rintro (h | h | ⟨h, ha⟩)
      · omega
      · omega
      · rcases hari with h' | h'
        · omega
        · simp [h'] at ha
    refine ⟨_, heq, rfl, fun f _ => ?_, hr, hm, hw⟩
    refine (congrArg Func.present (hf f)).trans ?_
    by_cases hmem : 1 ≤ f ∧ f ≤ s.numVfs
    · rw [if_pos (List.mem_range'_1.mpr ⟨hmem.1, by omega⟩)]
      simp [hmem]
    · rw [if_neg fun h => hmem ⟨(List.mem_range'_1.mp h).1, by have := (List.mem_range'_1.mp h).2; omega⟩]
      have : (decide (1 ≤ f) && decide (f ≤ s.numVfs)) = false := by simpa using hmem
      rw [this, Bool.or_false]
  case disabled =>
    intro s hstage hen
    refine ⟨s.clearVfs, (show exec (.vfEnableWrite false) s = execVfEnableWrite false s from rfl).trans ?_, rfl, rfl⟩
    exact (if_neg (by simp [State.configOpen, hstage])).trans ((if_pos (by decide)).trans (congrArg Host.Outcome.next (if_pos hen)))
  case reset =>
    intro f s hpres hne hf hb
    have heq : exec (.functionLevelReset f) s = .next (s.flrOne f) :=
      (show exec (.functionLevelReset f) s = execFunctionLevelReset f s from rfl).trans ((if_pos hpres).trans (congrArg Host.Outcome.next (if_neg hne)))
    exact ⟨_, heq, rfl, State.flrOne_spec hb hf⟩
  case pf =>
    intro s hpres hb
    exact (show exec (.functionLevelReset 0) s = execFunctionLevelReset 0 s from rfl).trans
      ((if_pos hpres).trans (congrArg Host.Outcome.next ((if_pos rfl).trans (if_pos hb))))
  case resetDone =>
    intro f s hin hwork u
    refine (show exec (.flrDone f) s = execFlrDone f s from rfl).trans (if_neg ?_)
    rintro (h | h)
    · simp [hin] at h
    · exact Bool.false_ne_true (hwork.symm.trans h)
  case masterCleared =>
    intro f s hstage hbm
    have heq : exec (.busMasterClear f) s = .next ((s.masterCleared f).setFunc f
        { (s.masterCleared f).func f with disabling := (s.func f).disabling || (s.masterCleared f).hasWork f }) :=
      (show exec (.busMasterClear f) s = execBusMasterClear f s from rfl).trans (if_neg (by simp [State.configOpen, hstage, hbm]))
    obtain ⟨hclear, hclosed⟩ := s.masterCleared_spec f
    generalize s.masterCleared f = u at *
    refine ⟨_, heq, ?_, ?_, hclosed⟩
    · exact (congrArg Func.busMaster (State.func_setFunc u f _)).trans hclear
    · exact congrArg Func.disabling (State.func_setFunc u f _)
  case sleeps =>
    intro f s hstage hpres hd3
    have heq : exec (.d3hotEntry f) s = .next ((s.sleeping f).setFunc f
        { (s.sleeping f).func f with disabling := (s.func f).disabling || (s.sleeping f).hasWork f }) :=
      (show exec (.d3hotEntry f) s = execD3hotEntry f s from rfl).trans (if_neg (by simp [State.configOpen, hstage, hpres, hd3]))
    obtain ⟨hsleep, hst⟩ := s.sleeping_spec f
    generalize s.sleeping f = u at *
    refine ⟨_, heq, ?_, ?_, hst⟩
    · exact (congrArg Func.d3hot (State.func_setFunc u f _)).trans hsleep
    · exact congrArg Func.disabling (State.func_setFunc u f _)
  case wakes =>
    intro f s hd3
    exact (show exec (.d3hotExit f) s = execD3hotExit f s from rfl).trans (if_neg (by simp [hd3]))
  case sends =>
    intro g s hfind hv hbm hen hmask hm
    have heq : exec .msixTrigger s = .next ((s.vecPending g).issueMsix g.fn g.vector) := execMsixTrigger_of hfind hv
    obtain ⟨hfn, htr, htx, hr, hmem⟩ := s.vecPending_spec g
    generalize s.vecPending g = u at *
    have hvec := Func.pend_vec (s.func g.fn) g.vector
    rw [State.issueMsix_sends hfn (by rw [hvec]) (by rw [hvec]; exact hm) hen hmask hbm, hvec] at heq
    refine ⟨_, heq, htr, congrArg (· ++ _) htx, ?_, hr, hmem⟩
    rw [show ∀ (a : State) w, (a.send w).func g.fn = a.func g.fn from fun _ _ => rfl, State.func_setFunc]
    exact congrArg MsixVec.pending ((Store.getD_put ..).trans (if_pos rfl))
  case pends =>
    intro g s hfind hv hwhy
    have heq : exec .msixTrigger s = .next ((s.vecPending g).issueMsix g.fn g.vector) := execMsixTrigger_of hfind hv
    obtain ⟨hfn, htr, htx, hr, hmem⟩ := s.vecPending_spec g
    generalize s.vecPending g = u at *
    have hvec := Func.pend_vec (s.func g.fn) g.vector
    rw [State.issueMsix_waits hfn (by rw [hvec]; exact hwhy)] at heq
    exact ⟨_, heq, htr, htx, by rw [hfn, hvec], hr, hmem⟩
  case unmasked =>
    intro f v s hv hpres
    exact (show exec (.msixUnmask f v) s = execMsixUnmask f v s from rfl).trans (if_pos ⟨hv, hpres⟩)

end Sys2Proof.Machine
end

section
/-!
SUPPORT. Stalls open, sleep, wake and close (O27).
-/

namespace Sys2Proof.Machine

/-! ## Requests of a function for a stall (R354, R355) -/

/-- STALL_CTL_STATUS shows the stall that a request names; nothing that the request's checks read changes with it. -/
theorem State.stallShown_spec (s : State) (f k : Nat) :
    let t := s.set F.STALL_CTL_STATUS_STALL k f
    t.stallFn k = s.stallFn k ∧ t.tableBase f = s.tableBase f ∧ t.dbBase f = s.dbBase f := by
  have hrd : ∀ r : Reg, r.name ≠ .STALL_CTL_STATUS → (s.set F.STALL_CTL_STATUS_STALL k f).rd r = s.rd r := fun r hr =>
    s.rd_set_of_ne F.STALL_CTL_STATUS_STALL k f 0 r hr
  refine ⟨?_, ?_, ?_⟩
  · unfold State.stallFn
    rw [hrd ⟨.STALL_FN_MAP_m, k / 4, 0⟩ (by simp)]
  · unfold State.tableBase
    rw [hrd ⟨.STALL_TABLE_BASE_0, f, 0⟩ (by simp), hrd ⟨.STALL_TABLE_BASE_1, f, 0⟩ (by simp)]
  · unfold State.dbBase
    rw [hrd ⟨.STALL_DB_BASE_0, f, 0⟩ (by simp), hrd ⟨.STALL_DB_BASE_1, f, 0⟩ (by simp)]

/-- A request for a stall is rejected with a result. -/
def State.stallRejected (s : State) (f k result : Nat) : State :=
  ((s.set F.STALL_CTL_STATUS_STALL k f).set F.STALL_CTL_STATUS_RESULT result f).setBit F.STALL_EVENTS_CTL_REJECT f

/-- The checks of an open, on the state before it (R339, R354). -/
theorem execStallOpen_of {f k : Nat} {s : State} (hb : s.booted = true) (hk : k < 4096) :
    execStallOpen f k s =
      if s.stallFn k ≠ some f ∨ (s.func f).present = false then .next (s.stallRejected f k 1)
      else if (s.stall k).st ≠ .closed ∨ (s.stall k).opening = true then .next (s.stallRejected f k 2)
      else if (s.func f).busMaster = false then .next (s.stallRejected f k 3)
      else if 2 ^ 52 < s.tableBase f + 32 * k + 32 ∨ 2 ^ 52 < s.dbBase f + 8 * k + 8 then .next (s.stallRejected f k 4)
      else .next ((s.set F.STALL_CTL_STATUS_STALL k f).setStall k { s.stall k with opening := true, fn := f }) := by
  obtain ⟨hfn, htable, hdb⟩ := s.stallShown_spec f k
  unfold execStallOpen
  rw [if_neg (by simp [hb, hk])]
  simp only [hfn, htable, hdb, Bool.not_eq_true']
  rfl

/-- The checks of a close, on the state before it (R355). -/
theorem execStallClose_of {f k : Nat} {s : State} (hb : s.booted = true) (hk : k < 4096) :
    execStallClose f k s =
      if s.stallFn k ≠ some f ∨ (s.func f).present = false then .next (s.stallRejected f k 1)
      else if (s.stall k).st = .closed ∨ (s.stall k).st = .draining then .next (s.stallRejected f k 2)
      else .next ((((s.set F.STALL_CTL_STATUS_STALL k f).set F.STALL_CTL_STATUS_RESULT 0 f).setStall k
        { s.stall k with st := .draining, closeReq := true }).refreshWatch) := by
  obtain ⟨hfn, -, -⟩ := s.stallShown_spec f k
  unfold execStallClose
  rw [if_neg (by simp [hb, hk])]
  simp only [hfn, Bool.not_eq_true']
  rfl

/-- The owner of a stall passes the first check. -/
theorem owner_checked {f k : Nat} {s : State} (hfn : s.stallFn k = some f) (hp : (s.func f).present = true) :
    ¬(s.stallFn k ≠ some f ∨ (s.func f).present = false) := by
  simp [hfn, hp]

/-! ## An open that completes (R352, R354) -/

/-- A state word goes to the host, or nothing does. -/
theorem State.writeState_frame (s : State) (k : Nat) (st : StallState) : s.writeState k st = { s with tx := (s.writeState k st).tx } := by
  unfold State.writeState
  extract_lets f
  split <;> rfl

/-- The stall that an open with descriptor `d` makes. -/
def Stall.opened (st : Stall) (d : Bytes) (fr : Tu) : Stall :=
  { st := .awake, fn := st.fn, orderBase := Bytes.le d 0 8, rcptBase := Bytes.le d 8 8, orderLog2 := Bytes.le d 16 1, rcptLog2 := Bytes.le d 17 1,
    vector := Bytes.le d 18 2, idleFrom := fr, allowance := st.allowance }

/-- The stall is open: its message slot is empty, its state word written, its result shown. -/
def State.openShown (s : State) (f k : Nat) : State :=
  ((((s.setPrivFull f k false).writeState k .awake).set F.STALL_CTL_STATUS_RESULT 0 f).setBit F.STALL_EVENTS_CTL_DONE f).refreshWatch

theorem State.refreshWatch_stalls (s : State) : s.refreshWatch.stalls = s.stalls := by
  unfold State.refreshWatch
  extract_lets l was lag t
  split <;> rfl

/-- STALL_WATCH and its events are all that an update of the watch changes. -/
theorem State.refreshWatch_step (s : State) : RegStep [.STALL_WATCH, .STALL_WATCH_EVENTS] s s.refreshWatch := by
  unfold State.refreshWatch
  extract_lets l was lag t
  have ht : RegStep [.STALL_WATCH, .STALL_WATCH_EVENTS] s t :=
    RegStep.set (RegStep.set (RegStep.set (.refl _ _ s) _ _ _ _ (by decide)) _ _ _ _ (by decide)) _ _ _ _ (by decide)
  split
  · exact RegStep.set ht _ _ _ _ (by decide)
  · exact ht

theorem State.openShown_spec (s : State) (f k : Nat) :
    let t := s.openShown f k
    t.get F.STALL_CTL_STATUS_RESULT f = 0 ∧ t.bit F.STALL_EVENTS_CTL_DONE f = true ∧ t.stalls = s.stalls ∧ t.mem = s.mem ∧ t.works = s.works := by
  have hframe := (s.setPrivFull f k false).writeState_frame k .awake
  unfold State.openShown
  generalize (s.setPrivFull f k false).writeState k .awake = u at *
  have hstalls : u.stalls = s.stalls := (congrArg State.stalls hframe).trans rfl
  have hmem : u.mem = s.mem := (congrArg State.mem hframe).trans rfl
  have hworks : u.works = s.works := (congrArg State.works hframe).trans rfl
  have hwatch := ((u.set F.STALL_CTL_STATUS_RESULT 0 f).setBit F.STALL_EVENTS_CTL_DONE f).refreshWatch_step
  refine ⟨?_, ?_, ?_, ?_, ?_⟩
  · exact (State.get_of_regsBut hwatch.regs F.STALL_CTL_STATUS_RESULT f 0 (by decide)).trans
      ((State.get_setBit_apart _ _ _ _ _ (by decide)).trans (State.get_set_self _ _ _ _ _ (by decide)))
  · exact (State.bit_of_regsBut hwatch.regs F.STALL_EVENTS_CTL_DONE f 0 (by decide)).trans (State.bit_setBit _ _ _ _ (by decide) (by decide))
  · exact (State.refreshWatch_stalls _).trans hstalls
  · exact (hwatch.field State.mem fun _ => rfl).trans hmem
  · exact (hwatch.field State.works fun _ => rfl).trans hworks

section
variable {k x : Nat} {d : Bytes} {s : State} (ho : (s.stall k).opening = true)
include ho

theorem execStallOpenComplete_of : execStallOpenComplete k d x s =
    if descriptorOk (s.stall k).fn d = false then .next ((s.setStall k { s.stall k with opening := false }).ctlReject (s.stall k).fn 5)
    else if x ≠ 0 then .next ((s.setStall k { s.stall k with opening := false }).ctlReject (s.stall k).fn 6)
    else .next (((s.setStall k { s.stall k with opening := false }).setStall k ((s.stall k).opened d s.fr)).openShown (s.stall k).fn k) := by
  unfold execStallOpenComplete
  rw [if_neg (by simp [ho])]
  simp only [Bool.not_eq_true']
  rfl

end

/-- A close sets CTL_DONE where a close was accepted (R355). -/
theorem State.closeStall_done {s : State} {k : Nat} (h : (s.stall k).closeReq = true) : (s.closeStall k).bit F.STALL_EVENTS_CTL_DONE (s.stall k).fn = true := by
  unfold State.closeStall
  rw [if_pos h]
  exact State.bit_setBit _ _ _ _ (by decide) (by decide)

/-- Settles O27: stalls open, sleep, wake and close. -/
theorem stallsOpenAndClose : Obligations.StallsOpenAndClose := by
  unfold Obligations.StallsOpenAndClose
  refine ⟨?openOwner, ?openState, ?openMaster, ?openRange, ?openWaits, ?opened, ?badDescriptor, ?badDoorbell, ?closes, ?closeOwner, ?closeState, ?closed,
    ?wakes, ?again, ?wakeIgnored, ?sleeps⟩
  case openOwner =>
    intro f k s hb hk howner
    exact (show exec (.stallOpen f k) s = execStallOpen f k s from rfl).trans ((execStallOpen_of hb hk).trans (if_pos howner))
  case openState =>
    intro f k s hb hk hfn hp hst
    exact (show exec (.stallOpen f k) s = execStallOpen f k s from rfl).trans
      ((execStallOpen_of hb hk).trans ((if_neg (owner_checked hfn hp)).trans (if_pos hst)))
  case openMaster =>
    intro f k s hb hk hfn hp hst ho hbm
    refine (show exec (.stallOpen f k) s = execStallOpen f k s from rfl).trans ((execStallOpen_of hb hk).trans ?_)
    rw [if_neg (owner_checked hfn hp), if_neg (by simp [hst, ho]), if_pos hbm] <;> rfl
  case openRange =>
    intro f k s hb hk hfn hp hst ho hbm hr
    refine (show exec (.stallOpen f k) s = execStallOpen f k s from rfl).trans ((execStallOpen_of hb hk).trans ?_)
    rw [if_neg (owner_checked hfn hp), if_neg (by simp [hst, ho]), if_neg (by simp [hbm]), if_pos hr] <;> rfl
  case openWaits =>
    intro f k s hb hk hfn hp hst ho hbm ht hd
    refine (show exec (.stallOpen f k) s = execStallOpen f k s from rfl).trans ((execStallOpen_of hb hk).trans ?_)
    rw [if_neg (owner_checked hfn hp), if_neg (by simp [hst, ho]), if_neg (by simp [hbm]), if_neg (by omega)]
  case opened =>
    intro k d s ho hd
    have heq : exec (.stallOpenComplete k d 0) s = _ :=
      (execStallOpenComplete_of ho).trans ((if_neg (by simp [hd])).trans (if_neg (not_not_intro rfl)))
    obtain ⟨hresult, hdone, hstalls, hmem, hworks⟩ :=
      State.openShown_spec ((s.setStall k { s.stall k with opening := false }).setStall k ((s.stall k).opened d s.fr)) (s.stall k).fn k
    generalize ((s.setStall k { s.stall k with opening := false }).setStall k ((s.stall k).opened d s.fr)).openShown (s.stall k).fn k = t at *
    have hst : t.stall k = (s.stall k).opened d s.fr :=
      (congrArg (fun m : Store Nat Stall => Store.getD m k {}) hstalls).trans ((Store.getD_put ..).trans (if_pos rfl))
    refine ⟨t, heq, ?_, ?_, ?_, ?_, ?_, ?_, ?_, ?_, hresult, hdone, fun a => congrArg (Mem.byte · a) hmem, hworks⟩ <;> rw [hst] <;> rfl
  case badDescriptor =>
    intro k x d s ho hd
    exact (show exec (.stallOpenComplete k d x) s = execStallOpenComplete k d x s from rfl).trans ((execStallOpenComplete_of ho).trans (if_pos hd))
  case badDoorbell =>
    intro k x d s ho hd hx
    exact (show exec (.stallOpenComplete k d x) s = execStallOpenComplete k d x s from rfl).trans
      ((execStallOpenComplete_of ho).trans ((if_neg (by simp [hd])).trans (if_pos hx)))
  case closes =>
    intro f k s hb hk hfn hp hc hd
    exact (show exec (.stallClose f k) s = execStallClose f k s from rfl).trans
      ((execStallClose_of hb hk).trans ((if_neg (owner_checked hfn hp)).trans (if_neg (not_or.mpr ⟨hc, hd⟩))))
  case closeOwner =>
    intro f k s hb hk howner
    exact (show exec (.stallClose f k) s = execStallClose f k s from rfl).trans ((execStallClose_of hb hk).trans (if_pos howner))
  case closeState =>
    intro f k s hb hk hfn hp hst
    exact (show exec (.stallClose f k) s = execStallClose f k s from rfl).trans
      ((execStallClose_of hb hk).trans ((if_neg (owner_checked hfn hp)).trans (if_pos hst)))
  case closed =>
    intro k s hst hwork hdis
    have heq : exec (.stallClosed k) s = .next ((s.writeState k .closed).closeStall k) :=
      (show exec (.stallClosed k) s = execStallClosed k s from rfl).trans (if_neg (by simp only [hst, hwork, hdis]; decide))
    have hframe := s.writeState_frame k .closed
    generalize s.writeState k .closed = u at *
    have hstall : u.stall k = s.stall k := (congrArg (State.stall · k) hframe).trans rfl
    obtain ⟨-, hstalls⟩ := u.closeStall_spec k
    refine ⟨_, heq, rfl, ?_, fun hreq => ?_⟩
    · exact congrArg Stall.st ((congrArg (fun m : Store Nat Stall => Store.getD m k {}) hstalls).trans ((Store.getD_put ..).trans (if_pos rfl)))
    · rw [← hstall] at hreq ⊢
      exact State.closeStall_done hreq
  case wakes =>
    intro f k s hb hfn hst
    exact (show exec (.stallWake f k) s = execStallWake f k s from rfl).trans ((if_neg (by simp [hb])).trans (if_pos ⟨hfn, hst⟩))
  case again =>
    intro f k s hb hfn hst
    exact (show exec (.stallWake f k) s = execStallWake f k s from rfl).trans
      ((if_neg (by simp [hb])).trans ((if_neg (by simp [hst])).trans (if_pos ⟨hfn, hst⟩)))
  case wakeIgnored =>
    intro f k s hb h
    refine (show exec (.stallWake f k) s = execStallWake f k s from rfl).trans ((if_neg (by simp [hb])).trans ((if_neg ?_).trans (if_neg ?_)))
    · exact fun hx => h.elim (fun hn => hn hx.1) fun hn => hn.1 hx.2
    · exact fun hx => h.elim (fun hn => hn hx.1) fun hn => hn.2 hx.2
  case sleeps =>
    intro k s hst hidle hfinal
    exact (show exec (.stallSleep k) s = execStallSleep k s from rfl).trans (if_neg (by simp [hst, hidle, hfinal]))

end Sys2Proof.Machine
end

section
/-!
SUPPORT. Orders that pass the Toll, and what admitted ones do (O30); orders that bypass it (O31).
-/

namespace Sys2Proof.Machine

/-! ## Fills and copies (R383, R389) -/

/-- The fill range of an order takes bytes of local memory, and the order waits for its last write. -/
def State.filledBy (s : State) (k : Nat) (w : Work) (m : Mem) : State :=
  ({ s with mem := m }.unpoison w.fillRange.1 w.fillRange.2).setWork k { w with stage := .running, count := w.fillRange.2 }

theorem State.filledBy_spec (s : State) (k : Nat) (w : Work) (m : Mem) :
    let t := s.filledBy k w m
    t.work? k = some { w with stage := .running, count := w.fillRange.2 } ∧ t.mem = m ∧ t.regs = s.regs :=
  ⟨Store.get?_put_self .., rfl, rfl⟩

/-- An order whose row reads and raises the receipt in one step (R396). -/
theorem execFillComplete_of {k : Nat} {w : Work} {s : State} (hk : s.work? k = some w) (ho : w.opcode = Op.segmentWrite ∨ w.opcode = Op.segmentStream)
    (hw : w.stage = .running) : execFillComplete k s = .next (s.finalReceipt k Status.complete 0 w.detail) := by
  unfold execFillComplete
  rw [hk]
  exact if_pos ⟨ho, hw⟩

theorem execLastDataWriteIssued_of {k : Nat} {w : Work} {s : State} (hk : s.work? k = some w) (hw : w.stage = .running) (hc : w.cause = 0) (hl : w.left = [])
    (ho : w.opcode ∈ [Op.captureRead, Op.pmuMeasure, Op.calSave]) : execLastDataWriteIssued k s =
      .next (s.finalReceipt k Status.complete 0 (if w.opcode = Op.calSave then leBytes w.count 4 ++ leBytes w.result 4 else w.detail)) := by
  unfold execLastDataWriteIssued
  rw [hk]
  exact if_pos ⟨hw, hc, hl, List.contains_iff_mem.mpr ho⟩

/-- Settles O30: orders that pass the Toll, and what admitted ones do. -/
theorem ordersThatPassTheToll : Obligations.OrdersThatPassTheToll := by
  unfold Obligations.OrdersThatPassTheToll
  refine ⟨?burst, ?write, ?stream, ?capture, ?arm, ?streamed, ?copied, ?badSource, ?issued, ?badCapture, ?filled, ?lastWrite, ?saved⟩
  case burst =>
    intro k w s hk ho hw
    exact (show exec (.orderBurst k) s = execOrderBurst k s from rfl).trans (congrArg Host.Outcome.next (State.tollOrder_offered hk ho hw))
  case write =>
    intro k w s hk ho hw
    exact (show exec (.segmentWrite k) s = execSegmentWrite k s from rfl).trans (congrArg Host.Outcome.next (State.tollOrder_offered hk ho hw))
  case stream =>
    intro k w d s hk ho hw
    exact (show exec (.segmentStream k d) s = execSegmentStream k d s from rfl).trans (congrArg Host.Outcome.next (State.tollOrder_offered hk ho hw))
  case capture =>
    intro k w s hk ho hw
    exact (show exec (.captureRead k) s = execCaptureRead k s from rfl).trans (congrArg Host.Outcome.next (State.tollOrder_offered hk ho hw))
  case arm =>
    intro k w s hk ho hw
    exact (show exec (.tallyArm k) s = execTallyArm k s from rfl).trans (congrArg Host.Outcome.next (State.tollOrder_offered hk ho hw))
  case streamed =>
    intro k w d s hmem hk ho hw hlen
    have heq : exec (.segmentStream k d) s = .next (s.filledBy k w (Mem.setBytes s.mem w.fillRange.1 d)) :=
      (show exec (.segmentStream k d) s = execSegmentStream k d s from rfl).trans
        (congrArg Host.Outcome.next ((State.tollOrder_window hk ho hw).trans (if_neg (not_not_intro hlen))))
    obtain ⟨hwork, hm, hregs⟩ := s.filledBy_spec k w (Mem.setBytes s.mem w.fillRange.1 d)
    refine ⟨_, heq, ?_, fun x hx => ?_, fun n hn => ?_, hregs⟩
    · rw [hlen]
      exact hwork
    · rw [hm]
      exact Mem.byte_setBytes_ne _ _ hx
    · rw [hm]
      exact Mem.byte_setBytes_in _ _ _ _ hmem hn
  case copied =>
    intro k w s hk ho hw hp
    have heq : exec (.segmentWrite k) s = .next (s.filledBy k w (Mem.copy s.mem (w.body 32 8) w.fillRange.1 w.fillRange.2)) :=
      (show exec (.segmentWrite k) s = execSegmentWrite k s from rfl).trans
        (congrArg Host.Outcome.next ((State.tollOrder_window hk ho hw).trans (if_neg fun h => Bool.false_ne_true (hp.symm.trans h))))
    exact ⟨_, heq, s.filledBy_spec k w _⟩
  case badSource =>
    intro k w s hk ho hw hp
    exact (show exec (.segmentWrite k) s = execSegmentWrite k s from rfl).trans
      (congrArg Host.Outcome.next ((State.tollOrder_window hk ho hw).trans (if_pos hp)))
  case issued =>
    intro k w s hk ho hw hp
    exact (show exec (.captureRead k) s = execCaptureRead k s from rfl).trans
      (congrArg Host.Outcome.next ((State.tollOrder_window hk ho hw).trans (if_neg (by rw [hp]; exact Bool.false_ne_true))))
  case badCapture =>
    intro k w s hk ho hw hp
    exact (show exec (.captureRead k) s = execCaptureRead k s from rfl).trans
      (congrArg Host.Outcome.next ((State.tollOrder_window hk ho hw).trans (if_pos hp)))
  case filled =>
    intro k w s hk ho hw
    exact (show exec (.fillComplete k) s = execFillComplete k s from rfl).trans (execFillComplete_of hk ho hw)
  case lastWrite =>
    intro k w s hk ho hw hc hl
    have hop : w.opcode ∈ [Op.captureRead, Op.pmuMeasure, Op.calSave] ∧ w.opcode ≠ Op.calSave := by rcases ho with h | h <;> rw [h] <;> decide
    exact (show exec (.lastDataWriteIssued k) s = execLastDataWriteIssued k s from rfl).trans
      ((execLastDataWriteIssued_of hk hw hc hl hop.1).trans (congrArg (fun d => Host.Outcome.next (s.finalReceipt k 0 0 d)) (if_neg hop.2)))
  case saved =>
    intro k w s hk ho hw hc hl
    exact (show exec (.lastDataWriteIssued k) s = execLastDataWriteIssued k s from rfl).trans
      ((execLastDataWriteIssued_of hk hw hc hl (by rw [ho]; decide)).trans (congrArg (fun d => Host.Outcome.next (s.finalReceipt k 0 0 d)) (if_pos ho)))

/-! ## Orders that bypass the Toll (R384, R391 to R395) -/

/-- An earlier order of the fence's stall, or of a stall that it names, is still there (R391). -/
def State.fenceHeld (s : State) (k : Nat) (w : Work) : Bool :=
  s.works.any fun p => decide (p.1 < k) && (p.2.stall == w.stall || ((List.range (w.body 32 1)).map fun i => w.body (34 + 2 * i) 2).contains p.2.stall)

theorem State.fenceHeld_iff {s : State} {k : Nat} {w : Work} :
    s.fenceHeld k w = true ↔ ∃ p ∈ s.works, p.1 < k ∧ (p.2.stall = w.stall ∨ p.2.stall ∈ (List.range (w.body 32 1)).map fun j => w.body (34 + 2 * j) 2) := by
  simp only [State.fenceHeld, List.any_eq_true, Bool.and_eq_true, Bool.or_eq_true, decide_eq_true_eq, beq_iff_eq, List.contains_iff_mem]

theorem execOrderFence_of {k : Nat} {w : Work} {s : State} (hk : s.work? k = some w) (ho : w.opcode = Op.fence) : execOrderFence k s =
    .next (if (w.stage = .routed ∨ w.stage = .fenced) ∧ (!s.fenceHeld k w) = true then s.finalReceipt k Status.complete else s) :=
  congrArg Host.Outcome.next (s.onWork_eq k _ _ hk ho)

/-- Settles O31: orders that bypass the Toll. -/
theorem ordersThatBypassTheToll : Obligations.OrdersThatBypassTheToll := by
  unfold Obligations.OrdersThatBypassTheToll
  refine ⟨?nop, ?loadRefused, ?load, ?fence, ?fenceWaits, ?frame, ?disable, ?joins⟩
  case nop =>
    intro k w s hk ho hw
    exact (show exec (.orderNop k) s = execOrderNop k s from rfl).trans (congrArg Host.Outcome.next ((s.onWork_eq k _ _ hk ho).trans (if_pos hw)))
  case loadRefused =>
    intro k w s hk ho hw hp
    exact (show exec (.timingLoad k) s = execTimingLoad k s from rfl).trans
      (congrArg Host.Outcome.next ((s.onWork_eq k _ _ hk ho).trans ((if_neg (not_not_intro hw)).trans (if_pos hp))))
  case load =>
    intro k w s hk ho hw hp
    exact (show exec (.timingLoad k) s = execTimingLoad k s from rfl).trans
      (congrArg Host.Outcome.next ((s.onWork_eq k _ _ hk ho).trans ((if_neg (not_not_intro hw)).trans (if_neg (by rw [hp]; exact Bool.false_ne_true)))))
  case fence =>
    intro k w s hk ho hw hnone
    have hfree : s.fenceHeld k w = false := by
      refine Bool.eq_false_iff.mpr fun h => ?_
      obtain ⟨p, hp, hlt, hstall⟩ := State.fenceHeld_iff.mp h
      exact hstall.elim (hnone p hp hlt).1 (hnone p hp hlt).2
    exact (show exec (.orderFence k) s = execOrderFence k s from rfl).trans
      ((execOrderFence_of hk ho).trans (congrArg Host.Outcome.next (if_pos ⟨hw, by rw [hfree]; rfl⟩)))
  case fenceWaits =>
    rintro k w s hk ho ⟨p, hp, hlt, hstall⟩
    have hheld : s.fenceHeld k w = true := State.fenceHeld_iff.mpr ⟨p, hp, hlt, .inl hstall⟩
    exact (show exec (.orderFence k) s = execOrderFence k s from rfl).trans
      ((execOrderFence_of hk ho).trans (congrArg Host.Outcome.next (if_neg fun h => Bool.false_ne_true ((by rw [hheld]; rfl : false = _).trans h.2))))
  case frame =>
    intro k w s hk ho hw
    exact (show exec (.frameLaunch k) s = execFrameLaunch k s from rfl).trans (congrArg Host.Outcome.next ((s.onWork_eq k _ _ hk ho).trans (if_pos hw)))
  case disable =>
    intro k w s hk ho hw hd
    exact (show exec (.orderDisable k) s = execOrderDisable k s from rfl).trans
      (congrArg Host.Outcome.next ((s.onWork_eq k _ _ hk ho).trans ((if_neg (not_not_intro hw)).trans (if_neg (by rw [hd]; exact Bool.false_ne_true)))))
  case joins =>
    intro k w s hk ho hw hd
    exact (show exec (.orderDisable k) s = execOrderDisable k s from rfl).trans
      (congrArg Host.Outcome.next ((s.onWork_eq k _ _ hk ho).trans ((if_neg (not_not_intro hw)).trans (if_pos hd))))

end Sys2Proof.Machine
end

section
/-!
SUPPORT. Shared and private mailbox channels (O35).
-/

namespace Sys2Proof.Machine

/-! ## The rows of a shared channel (R446, R450 to R453) -/

/-- How a send on a full channel ends for its agent (R451, R453). -/
def fullSendStatus : Agent → ReadStatus
  | .host _ _ => .completerAbort
  | .internal _ => .accessFault

section
variable {a : Agent} {n w : Nat} {s : State} (hopen : s.mbxOpen a = true) (hn : n < 16)
include hopen hn

theorem execMbxTxbufWrite_of {v : Word} (hw : w < 16) : execMbxTxbufWrite a n w v s =
    if (s.sharedLive n && bindingIs (s.txId n) a) = true then .next (s.wr ⟨.MBX_SHn_TXBUF_w, n, w⟩ v) else .next (s.bindViolation a) :=
  if_neg (by simp [hopen, hn, hw])

theorem execMbxSharedSend_unbound (h : (s.sharedLive n && bindingIs (s.txId n) a) = false) :
    execMbxSharedSend a n s = .next ((s.bindViolation a).answerErr .unsupported) :=
  (if_neg (by simp [hopen, hn])).trans (if_pos (by rw [h]; rfl))

theorem execMbxSharedSend_bound (h : (s.sharedLive n && bindingIs (s.txId n) a) = true) : execMbxSharedSend a n s =
    if s.bit F.MBX_SHn_STATUS_FULL n = true then
      .next (s.answerErr (fullSendStatus a))
    else .next ((((s.commitMessage n).setBit F.MBX_SHn_STATUS_FULL n).raise (0x44C + n) s.fr).answer [1#32]) :=
  (if_neg (by simp [hopen, hn])).trans ((if_neg (by rw [h]; decide)).trans (by cases a <;> rfl))

theorem execMbxRxbufRead_bound (hw : w < 16) (h : (s.sharedLive n && bindingIs (s.rxId n) a) = true) : execMbxRxbufRead a n w s =
    if w = 15 ∧ s.bit F.MBX_SHn_STATUS_FULL n = true then
      .next (((s.answer [s.rd ⟨.MBX_SHn_RXBUF_w, n, w⟩]).clrBit F.MBX_SHn_STATUS_FULL n).raise (0x45C + n) s.fr)
    else .next (s.answer [s.rd ⟨.MBX_SHn_RXBUF_w, n, w⟩]) :=
  (if_neg (by simp [hopen, hn, hw])).trans (if_neg (by rw [h]; decide))

end

/-! ## The ports of a function (R449, R459) -/

/-- What a selection latches in a port (R449). -/
def State.portOf (s : State) (fn k : Nat) : MbxPort :=
  match (s.stall k).msg with
  | some m => if s.stallFn k = some fn then { valid := true, stall := k, data := m, msgNo := (s.stall k).msgNo } else { stall := k }
  | none => { stall := k }

theorem State.portOf_message {s : State} {fn k : Nat} {m : Bytes} (hm : (s.stall k).msg = some m) (hfn : s.stallFn k = some fn) :
    s.portOf fn k = { valid := true, stall := k, data := m, msgNo := (s.stall k).msgNo } := by
  unfold State.portOf
  rw [hm]
  exact if_pos hfn

theorem State.portOf_none {s : State} {fn k : Nat} (h : (s.stall k).msg = none ∨ s.stallFn k ≠ some fn) : s.portOf fn k = { stall := k } := by
  unfold State.portOf
  rcases h with hm | hfn
  · rw [hm]
  · split
    · exact if_neg hfn
    · rfl

theorem execMbxPortSelect_of {fn p k : Nat} {s : State} (hb : s.booted = true) (hp : p < 16) : execMbxPortSelect fn p k s =
    .next (({ s with ports := Store.put s.ports (fn, p) (s.portOf fn k) }.set F.MBX_PORTp_STATUS_STALL k fn p).setIf F.MBX_PORTp_STATUS_VALID
      (s.portOf fn k).valid fn p) := by
  refine (if_neg (by simp [hb, hp])).trans ?_
  unfold State.portOf
  rfl

theorem execMbxPortDataRead_of {fn p w : Nat} {s : State} (hb : s.booted = true) (hp : p < 16) (hw : w < 16)
    (hv : (Store.getD s.ports (fn, p) {}).valid = true) : execMbxPortDataRead fn p w s =
      let port := Store.getD s.ports (fn, p) {}
      let t := s.answer [BitVec.ofNat 32 (Bytes.le port.data (4 * w) 4)]
      if w = 15 then
        .next ({ t.takePrivate fn port with ports := Store.put s.ports (fn, p) { port with valid := false } }.clrBit F.MBX_PORTp_STATUS_VALID fn p)
      else .next t :=
  (if_neg (by simp [hb, hp, hw])).trans (if_neg (by simp [hv]))

/-- Settles O35: shared and private mailbox channels. -/
theorem mailboxes : Obligations.Mailboxes := by
  unfold Obligations.Mailboxes
  refine ⟨?staged, ?notSender, ?sendUnbound, ?fullHost, ?fullInside, ?sent, ?readUnbound, ?wordRead, ?lastRead, ?selected, ?empty, ?portWord, ?portLast,
    ?portEmpty⟩
  case staged =>
    intro a n w v s ho hn hw h
    exact (show exec (.mbxTxbufWrite a n w v) s = execMbxTxbufWrite a n w v s from rfl).trans ((execMbxTxbufWrite_of ho hn hw).trans (if_pos h))
  case notSender =>
    intro a n w v s ho hn hw h
    exact (show exec (.mbxTxbufWrite a n w v) s = execMbxTxbufWrite a n w v s from rfl).trans
      ((execMbxTxbufWrite_of ho hn hw).trans (if_neg (by rw [h]; exact Bool.false_ne_true)))
  case sendUnbound =>
    intro a n s ho hn h
    exact (show exec (.mbxSharedSend a n) s = execMbxSharedSend a n s from rfl).trans (execMbxSharedSend_unbound ho hn h)
  case fullHost =>
    intro f r n s hb hn h hfull
    exact (show exec (.mbxSharedSend (.host f r) n) s = execMbxSharedSend (.host f r) n s from rfl).trans
      ((execMbxSharedSend_bound (a := .host f r) hb hn h).trans (if_pos hfull))
  case fullInside =>
    intro d n s hn h hfull
    exact (show exec (.mbxSharedSend (.internal d) n) s = execMbxSharedSend (.internal d) n s from rfl).trans
      ((execMbxSharedSend_bound (a := .internal d) rfl hn h).trans (if_pos hfull))
  case sent =>
    intro a n s ho hn h hfull
    exact (show exec (.mbxSharedSend a n) s = execMbxSharedSend a n s from rfl).trans
      ((execMbxSharedSend_bound ho hn h).trans (if_neg (by rw [hfull]; exact Bool.false_ne_true)))
  case readUnbound =>
    intro a n w s ho hn hw h
    exact (show exec (.mbxRxbufRead a n w) s = execMbxRxbufRead a n w s from rfl).trans
      ((if_neg (by simp [ho, hn, hw])).trans (if_pos (by rw [h]; rfl)))
  case wordRead =>
    intro a n w s ho hn hw h hnot
    refine (show exec (.mbxRxbufRead a n w) s = execMbxRxbufRead a n w s from rfl).trans ((execMbxRxbufRead_bound ho hn hw h).trans (if_neg ?_))
    rintro ⟨h15, hfull⟩
    exact hnot.elim (fun hne => hne h15) fun he => Bool.false_ne_true (he.symm.trans hfull)
  case lastRead =>
    intro a n s ho hn h hfull
    exact (show exec (.mbxRxbufRead a n 15) s = execMbxRxbufRead a n 15 s from rfl).trans
      ((execMbxRxbufRead_bound ho hn (by decide) h).trans (if_pos ⟨rfl, hfull⟩))
  case selected =>
    intro fn p k m s hb hp hm hfn
    refine (show exec (.mbxPortSelect fn p k) s = execMbxPortSelect fn p k s from rfl).trans ((execMbxPortSelect_of hb hp).trans ?_)
    rw [State.portOf_message hm hfn] <;> rfl
  case empty =>
    intro fn p k s hb hp h
    refine (show exec (.mbxPortSelect fn p k) s = execMbxPortSelect fn p k s from rfl).trans ((execMbxPortSelect_of hb hp).trans ?_)
    rw [State.portOf_none h] <;> rfl
  case portWord =>
    intro fn p w s hb hp hw hv
    exact (show exec (.mbxPortDataRead fn p w) s = execMbxPortDataRead fn p w s from rfl).trans
      ((execMbxPortDataRead_of hb hp (by omega) hv).trans (if_neg (by omega)))
  case portLast =>
    rintro fn p w s hb hp rfl hv
    exact (show exec (.mbxPortDataRead fn p 15) s = execMbxPortDataRead fn p 15 s from rfl).trans
      ((execMbxPortDataRead_of hb hp (by decide) hv).trans (if_pos rfl))
  case portEmpty =>
    intro fn p w s hb hp hw hv
    exact (show exec (.mbxPortDataRead fn p w) s = execMbxPortDataRead fn p w s from rfl).trans
      ((if_neg (by simp [hb, hp, hw])).trans (if_pos (by rw [hv]; rfl)))

end Sys2Proof.Machine
end

section
/-!
SUPPORT. Function disables, the fault mirror and supply dips (O44).
-/

namespace Sys2Proof.Machine

/-! ## The end of a disable (R394, R559) -/

/-- A stall without work closes: the orders stay as they are. -/
theorem State.closeStall_works {s : State} {k : Nat} (h : (s.works.any fun p => p.2.stall == k) = false) : (s.closeStall k).works = s.works := by
  have hmap : (s.works.map fun p => if p.2.stall = k then (p.1, { p.2 with slots := 0 }) else p) = s.works := by
    refine (List.map_congr_left fun p hp => if_neg fun he => ?_).trans (List.map_id _)
    exact Bool.false_ne_true (h.symm.trans (List.any_eq_true.mpr ⟨p, hp, beq_iff_eq.mpr he⟩))
  unfold State.closeStall
  extract_lets st t ws u
  have hu : u.works = s.works := (RegStep.field (State.refreshWatch_step { t with works := ws }) State.works fun _ => rfl).trans hmap
  split <;> exact hu

/-- A stall whose function's disable has ended closes, unless work of it is left. -/
def State.closeIdle (s : State) (k : Nat) : State :=
  if (s.stall k).st = .closed ∨ (s.works.any fun p => p.2.stall == k) = true then s else (s.writeState k .closed).closeStall k

theorem State.closeIdle_works (s : State) (k : Nat) : (s.closeIdle k).works = s.works := by
  unfold State.closeIdle
  split
  · rfl
  · next h =>
    have hframe := s.writeState_frame k .closed
    generalize s.writeState k .closed = u at *
    have hu : u.works = s.works := (congrArg State.works hframe).trans rfl
    exact (State.closeStall_works (by rw [hu]; exact Bool.eq_false_iff.mpr fun hx => h (.inr hx))).trans hu

theorem foldl_closeIdle_works (ks : List Nat) (s : State) : (ks.foldl (fun t k => t.closeIdle k) s).works = s.works := by
  induction ks generalizing s with
  | nil => rfl
  | cons k ks ih => exact (ih _).trans (s.closeIdle_works k)

/-- The counts of an ended disable are shown (R559, R565). -/
def State.countsShown (s : State) (fn : Func) : State :=
  (((s.clrBit F.FLT_DISABLE_STATUS_BUSY).set F.FLT_DISABLE_STATUS_VOIDED (min fn.voided 0xFFF)).set F.FLT_DISABLE_STATUS_WITHDRAWN
    (min fn.withdrawn 0xFFF)).setBit F.FLT_EVENTS_DISABLE_DONE

theorem State.countsShown_spec (s : State) (fn : Func) :
    let t := s.countsShown fn
    t.bit F.FLT_DISABLE_STATUS_BUSY = false ∧ t.get F.FLT_DISABLE_STATUS_VOIDED = min fn.voided 0xFFF ∧
      t.get F.FLT_DISABLE_STATUS_WITHDRAWN = min fn.withdrawn 0xFFF ∧ t.bit F.FLT_EVENTS_DISABLE_DONE = true ∧
      RegStep [.FLT_DISABLE_STATUS, .FLT_EVENTS] s t := by
  have hmin : ∀ n, min n 0xFFF % 2 ^ 12 = min n 0xFFF := fun n => Nat.mod_eq_of_lt (by omega)
  refine ⟨?_, ?_, ?_, State.bit_setBit _ _ _ _ (by decide) (by decide), ?_⟩
  · exact (State.bit_setBit_apart _ _ _ _ _ (by decide)).trans ((State.bit_set_apart _ _ _ _ _ _ (by decide)).trans
      ((State.bit_set_apart _ _ _ _ _ _ (by decide)).trans (State.bit_clrBit _ _ _ _ (by decide))))
  · exact (State.get_setBit_apart _ _ _ _ _ (by decide)).trans ((State.get_set_apart _ _ _ _ _ _ (by decide)).trans
      ((State.get_set_self _ _ _ _ _ (by decide)).trans (hmin _)))
  · exact (State.get_setBit_apart _ _ _ _ _ (by decide)).trans ((State.get_set_self _ _ _ _ _ (by decide)).trans (hmin _))
  · exact RegStep.set (RegStep.set (RegStep.set (RegStep.set (.refl _ _ s) _ _ _ _ (by decide)) _ _ _ _ (by decide)) _ _ _ _ (by decide)) _ _ _ _ (by decide)

/-- The function of an ended disable. -/
def State.disableEnded (s : State) (f : Nat) : State := s.setFunc f { s.func f with disabling := false, voided := 0, withdrawn := 0 }

theorem State.endDisable_shown {s : State} {f : Nat} (hb : s.bit F.FLT_DISABLE_STATUS_BUSY = true) (hf : s.get F.FLT_DISABLE_STATUS_FN = f) :
    s.endDisable f = (s.disableEnded f).countsShown (s.func f) :=
  congrArg (State.setBit · F.FLT_EVENTS_DISABLE_DONE) (if_pos (show (s.disableEnded f).bit F.FLT_DISABLE_STATUS_BUSY = true ∧
    (s.disableEnded f).get F.FLT_DISABLE_STATUS_FN = f from ⟨hb, hf⟩))

theorem State.endDisable_works (s : State) (f : Nat) : (s.endDisable f).works = s.works := by
  unfold State.endDisable
  extract_lets fn t u
  have hu : u.works = s.works := by
    dsimp only [u]
    split <;> rfl
  exact hu

theorem execDisableDone_of {f : Nat} {s : State} (hd : (s.func f).disabling = true)
    (hw : (s.works.any fun p => p.2.fn == f && !p.2.disables f) = false) : execDisableDone f s =
      .next (let t := ((s.endDisable f).stallsOf f).foldl (fun t k => t.closeIdle k) (s.endDisable f)
        (t.works.filter fun p => p.2.disables f).foldl (fun t p => t.finalReceipt p.1 Status.complete 0
          (if p.2.result = 1 then [] else leBytes (min (s.func f).voided 0xFFFF) 2 ++ leBytes (min (s.func f).withdrawn 0xFFFF) 2)) t) :=
  (if_neg (by rw [hd, hw]; decide)).trans rfl

/-! ## Supply dips (R554 to R556) -/

theorem warnFld_facts : ∀ r < 5, (dippedFld r).apart (warnFld r) = true ∧ (warnFld r).lsb + (warnFld r).width ≤ 32 ∧
    (dippedFld r).lsb + (dippedFld r).width ≤ 32 := by decide

/-- A rail warns: its bits, the dip and the hold are shown. -/
def State.dipShown (s : State) (r : Nat) : State := (((s.setBit (warnFld r)).setBit (dippedFld r)).setBit F.FLT_EVENTS_DIP).setHold true

theorem State.dipShown_spec (s : State) {r : Nat} (hr : r < 5) :
    let t := s.dipShown r
    t.bit (warnFld r) = true ∧ t.bit (dippedFld r) = true ∧ t.bit F.FLT_EVENTS_DIP = true ∧ t.bit F.FLT_STATUS_HOLD = true ∧
      t.bit F.TOLL_STATUS_HOLD = true ∧ RegStep [.FLT_SUPPLY, .FLT_EVENTS, .FLT_STATUS, .TOLL_STATUS] s t := by
  obtain ⟨hapart, hw, hd⟩ := warnFld_facts r hr
  have hother : ∀ (g : Fld) (u : State), g.reg = .FLT_SUPPLY → ((u.setBit F.FLT_EVENTS_DIP).setHold true).bit g = u.bit g := fun g u hg =>
    ((u.setBit F.FLT_EVENTS_DIP).setIf F.FLT_STATUS_HOLD true).bit_set_of_ne F.TOLL_STATUS_HOLD g _ 0 0 0 0 (by rw [hg]; decide) |>.trans
      (((u.setBit F.FLT_EVENTS_DIP).bit_set_of_ne F.FLT_STATUS_HOLD g _ 0 0 0 0 (by rw [hg]; decide)).trans
        (u.bit_set_of_ne F.FLT_EVENTS_DIP g _ 0 0 0 0 (by rw [hg]; decide)))
  refine ⟨?_, ?_, ?_, ?_, State.bit_setIf _ _ _ _ _ (by decide) (by decide), ?_⟩
  · exact (hother _ _ rfl).trans ((State.bit_setBit_apart _ _ _ _ _ hapart).trans (State.bit_setBit _ _ _ _ hw (Nat.le_refl 1)))
  · exact (hother _ _ rfl).trans (State.bit_setBit _ _ _ _ hd (Nat.le_refl 1))
  · exact (State.bit_setIf_apart _ _ _ _ _ _ (by decide)).trans ((State.bit_setIf_apart _ _ _ _ _ _ (by decide)).trans
      (State.bit_setBit _ _ _ _ (by decide) (by decide)))
  · exact (State.bit_setIf_apart _ _ _ _ _ _ (by decide)).trans (State.bit_setIf _ _ _ _ _ (by decide) (by decide))
  · exact RegStep.set (RegStep.set (RegStep.set (RegStep.set (RegStep.set (.refl _ _ s) _ _ _ _ (show RegName.FLT_SUPPLY ∈ _ by decide)) _ _ _ _
      (show RegName.FLT_SUPPLY ∈ _ by decide)) _ _ _ _ (by decide)) _ _ _ _ (by decide)) _ _ _ _ (by decide)

/-- The warning is a detection, and the dip begins. -/
def State.dipBegun (s : State) (r : Nat) : State :=
  { s.detect { kind := 8, cause := 0x226, source := 0x900 + r } with holdEnd := none, warnSince := Store.put s.warnSince r s.fr }

theorem State.dipBegun_spec (s : State) (r : Nat) :
    let t := s.dipBegun r
    t.holdEnd = none ∧ Store.get? t.warnSince r = some s.fr ∧
      t.detections = s.detections ++ [{ kind := 8, cause := 0x226, source := 0x900 + r, at_ := s.fr }] ∧ t.regs = s.regs ∧ t.mem = s.mem ∧ t.works = s.works :=
  ⟨rfl, Store.get?_put_self .., rfl, rfl, rfl, rfl⟩

/-- A rail's warning ends: a record is made, and with no other warning the hold ends 10 ms later. -/
def State.dipEnded (s : State) (r : Nat) (lowest : Int) : State :=
  let u := s.ledger { code := 0x21, source := 0x900 + r, aux := unsigned lowest 32, data := (s.fr - Store.getD s.warnSince r s.fr + 4096000) / 4096 }
  { u with warnSince := Store.del u.warnSince r, holdEnd := if u.get F.FLT_SUPPLY_WARN = 0 then some (u.fr + 40960000000) else none }

theorem State.dipEnded_spec (s : State) (r : Nat) (lowest : Int) :
    let t := s.dipEnded r lowest
    Store.get? t.warnSince r = none ∧
      t.ledgerEvents = s.ledgerEvents ++
        [{ code := 0x21, source := 0x900 + r, aux := unsigned lowest 32, data := (s.fr - Store.getD s.warnSince r s.fr + 4096000) / 4096, at_ := s.fr }] ∧
      t.holdEnd = (if t.get F.FLT_SUPPLY_WARN = 0 then some (s.fr + 40960000000) else none) ∧ t.regs = s.regs ∧ t.mem = s.mem ∧ t.works = s.works :=
  ⟨(Store.get?_del ..).trans (if_pos rfl), rfl, rfl, rfl, rfl, rfl⟩

/-- Settles O44: function disables, the fault mirror and supply dips. -/
theorem disablesAndSupplyDips : Obligations.DisablesAndSupplyDips := by
  unfold Obligations.DisablesAndSupplyDips
  refine ⟨?ack, ?ignored, ?joins, ?starts, ?waits, ?done, ?empty, ?warns, ?warned, ?ends, ?notWarned, ?holdEnds, ?noHold, ?onDie⟩
  case ack =>
    intro s hb
    exact (show exec .fltMirrorAck s = execFltMirrorAck s from rfl).trans (if_pos hb)
  case ignored =>
    intro f s hb hf hbusy hfn
    exact (show exec (.fltDisable f) s = execFltDisable f s from rfl).trans ((if_neg (by simp [hb, hf])).trans (if_pos ⟨hbusy, hfn⟩))
  case joins =>
    intro f s hb hf hfn hd
    exact (show exec (.fltDisable f) s = execFltDisable f s from rfl).trans
      ((if_neg (by simp [hb, hf])).trans ((if_neg fun h => h.2 (hfn h.1)).trans (if_pos hd)))
  case starts =>
    intro f s hb hf hfn hd
    exact (show exec (.fltDisable f) s = execFltDisable f s from rfl).trans
      ((if_neg (by simp [hb, hf])).trans ((if_neg fun h => h.2 (hfn h.1)).trans (if_neg (by rw [hd]; exact Bool.false_ne_true))))
  case waits =>
    intro f s h
    refine (show exec (.disableDone f) s = execDisableDone f s from rfl).trans (if_pos ?_)
    exact h.imp_left fun hd => by rw [hd]; rfl
  case done =>
    intro f s hd hw u
    have hworks : (u.foldl (fun t k => t.closeIdle k) (s.endDisable f)).works = s.works := (foldl_closeIdle_works _ _).trans (s.endDisable_works f)
    refine (show exec (.disableDone f) s = execDisableDone f s from rfl).trans ((execDisableDone_of hd hw).trans (congrArg Host.Outcome.next ?_))
    dsimp only
    rw [hworks] <;> rfl
  case empty =>
    intro f s hd hworks hstalls hbusy hfn
    obtain ⟨h1, h2, h3, h4, hstep⟩ := (s.disableEnded f).countsShown_spec (s.func f)
    have hshown := State.endDisable_shown hbusy hfn
    have hnone : (s.endDisable f).works = [] := (s.endDisable_works f).trans hworks
    have hkeys : (s.endDisable f).stallsOf f = [] := by
      have hst : (s.endDisable f).stalls = [] := (congrArg State.stalls hshown).trans ((hstep.field State.stalls fun _ => rfl).trans hstalls)
      unfold State.stallsOf
      rw [hst]
      rfl
    have heq : exec (.disableDone f) s = .next (s.endDisable f) := by
      refine (show exec (.disableDone f) s = execDisableDone f s from rfl).trans
        ((execDisableDone_of hd (by rw [hworks]; rfl)).trans (congrArg Host.Outcome.next ?_))
      rw [hkeys]
      dsimp only [List.foldl_nil]
      rw [hnone] <;> rfl
    rw [hshown] at heq
    refine ⟨_, heq, ?_, h1, h2, h3, h4, ((regsBut.refl _ s).of_regs rfl).trans hstep.regs, hstep.field State.mem fun _ => rfl⟩
    have hfunc : ((s.disableEnded f).countsShown (s.func f)).func f = (s.disableEnded f).func f :=
      congrArg (fun m : Store Nat Func => Store.getD m f {}) (hstep.field State.funcs fun _ => rfl)
    exact (congrArg Func.disabling hfunc).trans (congrArg Func.disabling (s.func_setFunc f _))
  case warns =>
    intro r s hr hw
    have heq : exec (.supplyWarning r) s = .next ((s.dipShown r).dipBegun r) :=
      (show exec (.supplyWarning r) s = execSupplyWarning r s from rfl).trans (if_neg (not_or.mpr ⟨by omega, fun h => Bool.false_ne_true (hw.symm.trans h)⟩))
    obtain ⟨h1, h2, h3, h4, h5, hstep⟩ := s.dipShown_spec hr
    generalize s.dipShown r = u at *
    obtain ⟨hhold, hsince, hdet, hregs, hmem, hworks⟩ := u.dipBegun_spec r
    have hbit : ∀ g, (u.dipBegun r).bit g = u.bit g := fun g => congrArg (· == 1) (State.get_congr hregs g 0 0)
    have hfr : u.fr = s.fr := hstep.field State.fr fun _ => rfl
    refine ⟨_, heq, (hbit _).trans h1, (hbit _).trans h2, (hbit _).trans h3, (hbit _).trans h4, (hbit _).trans h5, hhold, ?_, ?_,
      hstep.regs.of_regs hregs, hmem.trans (hstep.field State.mem fun _ => rfl), hworks.trans (hstep.field State.works fun _ => rfl)⟩
    · rw [hsince, hfr]
    · rw [hdet, hfr, show u.detections = s.detections from hstep.field State.detections fun _ => rfl]
  case warned =>
    intro r s h
    exact (show exec (.supplyWarning r) s = execSupplyWarning r s from rfl).trans (if_pos h)
  case ends =>
    intro r lo s hr hw
    have heq : exec (.supplyWarningEnd r lo) s = .next ((s.clrBit (warnFld r)).dipEnded r lo) :=
      (show exec (.supplyWarningEnd r lo) s = execSupplyWarningEnd r lo s from rfl).trans
        (if_neg (not_or.mpr ⟨by omega, fun h => by rw [show s.bit (warnFld r) = true from hw] at h; exact Bool.false_ne_true h⟩))
    have hstep : RegStep [.FLT_SUPPLY] s (s.clrBit (warnFld r)) := RegStep.set (.refl _ _ s) _ _ _ _ (show RegName.FLT_SUPPLY ∈ _ by decide)
    have hclear : (s.clrBit (warnFld r)).bit (warnFld r) = false := State.bit_clrBit _ _ _ _ (warnFld_facts r hr).2.1
    generalize s.clrBit (warnFld r) = u at *
    obtain ⟨hsince, hledger, hhold, hregs, hmem, hworks⟩ := u.dipEnded_spec r lo
    have hfr : u.fr = s.fr := hstep.field State.fr fun _ => rfl
    refine ⟨_, heq, (congrArg (· == 1) (State.get_congr hregs _ 0 0)).trans hclear, hsince, ?_, ?_, hstep.regs.of_regs hregs,
      hmem.trans (hstep.field State.mem fun _ => rfl), hworks.trans (hstep.field State.works fun _ => rfl)⟩
    · rw [hledger, hfr, show u.ledgerEvents = s.ledgerEvents from hstep.field State.ledgerEvents fun _ => rfl,
        show u.warnSince = s.warnSince from hstep.field State.warnSince fun _ => rfl]
    · rw [hhold, hfr]
  case notWarned =>
    intro r lo s h
    exact (show exec (.supplyWarningEnd r lo) s = execSupplyWarningEnd r lo s from rfl).trans
      (if_pos (h.imp_right fun hw => by rw [show s.bit (warnFld r) = false from hw]; rfl))
  case holdEnds =>
    intro t s h
    refine (show exec .supplyHoldEnd s = execSupplyHoldEnd s from rfl).trans ?_
    unfold execSupplyHoldEnd
    rw [h] <;> rfl
  case noHold =>
    intro s h
    refine (show exec .supplyHoldEnd s = execSupplyHoldEnd s from rfl).trans ?_
    unfold execSupplyHoldEnd
    rw [h]
  case onDie => exact fun k l s => ⟨rfl, rfl⟩

end Sys2Proof.Machine
end

section
/-!
SUPPORT. The power manager's choice, exits and P4 (O46).
-/

namespace Sys2Proof.Machine

/-! ## What IDLE and BLOCK are computed from -/

/-- A step on registers is a state with other registers. -/
theorem RegStep.eq {l : List RegName} {s t : State} (h : RegStep l s t) : t = { s with regs := t.regs } :=
  congrArg (fun u : State => { u with regs := t.regs }) h.view

section
variable {s : State} {m : Store Reg Word} (h : regsBut [.PWR_STATUS] s { s with regs := m })
include h

theorem toFree_of_status : State.toFree { s with regs := m } = s.toFree := by
  have hrd : ∀ r : Reg, r.name ≠ .PWR_STATUS → State.rd { s with regs := m } r = s.rd r := fun r hr => h r fun hm => hr (List.mem_singleton.mp hm)
  have hrate : State.rate { s with regs := m } = s.rate := by
    simp only [State.rate, State.get, hrd ⟨.TIME_RATE_0, 0, 0⟩ (by decide), hrd ⟨F.TIME_RATE_1_RATE.reg, 0, 0⟩ (by decide)]
  have hoffset : State.offset { s with regs := m } = s.offset := by
    simp only [State.offset, hrd ⟨.TIME_OFFSET_0, 0, 0⟩ (by decide), hrd ⟨.TIME_OFFSET_1, 0, 0⟩ (by decide), hrd ⟨.TIME_OFFSET_2, 0, 0⟩ (by decide)]
  have hcorr : State.corr { s with regs := m } = s.corr := by
    simp only [State.corr, hrd ⟨.GSL_CORR_0, 0, 0⟩ (by decide), hrd ⟨.GSL_CORR_1, 0, 0⟩ (by decide), hrd ⟨.GSL_CORR_2, 0, 0⟩ (by decide)]
  funext l
  simp only [State.toFree, hrate, hoffset, hcorr]

theorem inTime_of_status (n : Nat) : State.inTime { s with regs := m } n = s.inTime n := by
  have hpend : State.pendingInstants { s with regs := m } = s.pendingInstants := by
    unfold State.pendingInstants
    rw [toFree_of_status h] <;> rfl
  unfold State.inTime
  rw [hpend]

theorem idle_of_status : State.idle { s with regs := m } = s.idle := by
  have hramp : ∀ c, State.bit { s with regs := m } F.CHn_STATUS_RAMPING c = s.bit F.CHn_STATUS_RAMPING c := fun c =>
    State.bit_of_regsBut h _ _ _ (by decide)
  have hsettled : ∀ c, State.bit { s with regs := m } F.CHn_STATUS_SETTLED c = s.bit F.CHn_STATUS_SETTLED c := fun c =>
    State.bit_of_regsBut h _ _ _ (by decide)
  have hhandling : State.bit { s with regs := m } F.FLT_STATUS_HANDLING = s.bit F.FLT_STATUS_HANDLING := State.bit_of_regsBut h _ _ _ (by decide)
  unfold State.idle
  simp only [hramp, hsettled, hhandling]
  rfl

theorem lanesPortsOff_of_status : State.lanesPortsOff { s with regs := m } = s.lanesPortsOff := by
  have hmode : ∀ k, State.get { s with regs := m } F.LANEn_MODE_MODE k = s.get F.LANEn_MODE_MODE k := fun k => State.get_of_regsBut h _ _ _ (by decide)
  have hport : ∀ p, State.bit { s with regs := m } F.PTP_PORTn_CFG_EN p = s.bit F.PTP_PORTn_CFG_EN p := fun p => State.bit_of_regsBut h _ _ _ (by decide)
  unfold State.lanesPortsOff
  simp only [hmode, hport]

theorem blockCode_of_status (n : Nat) : State.blockCode { s with regs := m } n = s.blockCode n := by
  have htol : ∀ n, State.tolerates { s with regs := m } n = s.tolerates n := fun n => by
    unfold State.tolerates
    rw [State.get_of_regsBut h F.PWR_LTR_LTR 0 0 (by decide)]
  have hpolicy : State.get { s with regs := m } F.PWR_POLICY_MAX_STATE = s.get F.PWR_POLICY_MAX_STATE := State.get_of_regsBut h _ _ _ (by decide)
  unfold State.blockCode
  simp only [idle_of_status h, htol, inTime_of_status h, lanesPortsOff_of_status h, hpolicy]
  rfl

end

/-- PWR_STATUS is not among what the reason for a state is computed from. -/
theorem RegStep.blockCode {s t : State} (h : RegStep [.PWR_STATUS] s t) (n : Nat) : t.blockCode n = s.blockCode n := by
  have heq := h.eq
  rw [heq]
  exact blockCode_of_status (heq ▸ h.regs) n

/-! ## The choice of a state (R586) -/

/-- IDLE and BLOCK are shown. -/
def State.powerShown (s : State) (n : Nat) : State := (s.setIf F.PWR_STATUS_IDLE s.idle).set F.PWR_STATUS_BLOCK (s.blockCode n)

theorem State.powerShown_eq (s : State) (n : Nat) :
    s.powerShown n = (s.setIf F.PWR_STATUS_IDLE s.idle).set F.PWR_STATUS_BLOCK ((s.setIf F.PWR_STATUS_IDLE s.idle).blockCode n) :=
  congrArg ((s.setIf F.PWR_STATUS_IDLE s.idle).set F.PWR_STATUS_BLOCK)
    (RegStep.blockCode (RegStep.set (.refl _ _ s) F.PWR_STATUS_IDLE _ _ _ (by decide)) n).symm

theorem State.powerShown_step (s : State) (n : Nat) : RegStep [.PWR_STATUS] s (s.powerShown n) :=
  RegStep.set (RegStep.set (.refl _ _ s) _ _ _ _ (by decide)) _ _ _ _ (by decide)

theorem State.powerShown_state (s : State) (n : Nat) : (s.powerShown n).get F.PWR_STATUS_STATE = s.get F.PWR_STATUS_STATE :=
  (State.get_set_apart _ _ _ _ _ _ (by decide)).trans (State.get_set_apart _ _ _ _ _ _ (by decide))

section
variable {s : State} (he : s.bit F.PWR_STATUS_EXITING = false)
include he

theorem State.choosePower_stays (hd : ¬s.get F.PWR_STATUS_STATE < s.deepest) : s.choosePower = s.powerShown (max (s.get F.PWR_STATUS_STATE) s.deepest) := by
  unfold State.choosePower
  rw [if_neg (by rw [he]; exact Bool.false_ne_true), if_neg fun h => hd h.1]
  simp only [if_neg hd]
  rfl

theorem State.choosePower_deeper (hd : s.get F.PWR_STATUS_STATE < s.deepest) (h4 : s.deepest ≠ 4) :
    s.choosePower = (s.setPower s.deepest).powerShown (max (s.get F.PWR_STATUS_STATE) s.deepest) := by
  unfold State.choosePower
  rw [if_neg (by rw [he]; exact Bool.false_ne_true), if_neg fun h => h4 h.2]
  simp only [if_pos hd]
  rfl

theorem State.choosePower_p4 (hd : s.get F.PWR_STATUS_STATE < s.deepest) (h4 : s.deepest = 4) : s.choosePower = s.enterP4 :=
  (if_neg (by rw [he]; exact Bool.false_ne_true)).trans (if_pos ⟨hd, h4⟩)

end

theorem State.setPower_spec (s : State) (n : Nat) :
    let t := s.setPower n
    t.get F.PWR_STATUS_STATE = n % 8 ∧ t.bit F.PWR_EVENTS_STATE_CHANGE = true ∧ RegStep [.PWR_STATUS, .PWR_EVENTS, .PWR_DOMAINS, .ADC_STATUS] s t := by
  refine ⟨?_, ?_, ?_⟩
  · exact (State.get_set_apart _ _ _ _ _ _ (by decide)).trans ((State.get_set_apart _ _ _ _ _ _ (by decide)).trans
      ((State.get_setBit_apart _ _ _ _ _ (by decide)).trans (State.get_set_self _ _ _ _ _ (by decide))))
  · exact (State.bit_set_apart _ _ _ _ _ _ (by decide)).trans ((State.bit_set_apart _ _ _ _ _ _ (by decide)).trans
      (State.bit_setBit _ _ _ _ (by decide) (by decide)))
  · exact RegStep.set (RegStep.set (RegStep.set (RegStep.set (.refl _ _ s) _ _ _ _ (by decide)) _ _ _ _ (by decide)) _ _ _ _ (by decide)) _ _ _ _ (by decide)

/-! ## What a reset leaves (R600) -/

/-- The registers of the keeper and the state of the keeper, everything else as after power-on. -/
def State.resetBase (s : State) : State :=
  { State.reset with
    regs := s.regs.filter fun p => p.1.name.kept
    free := s.free
    rdata := s.rdata
    rstat := s.rstat
    ledgerEvents := s.ledgerEvents
    ledgRecs := s.ledgRecs
    ledgQueue := s.ledgQueue
    ledgWrite := s.ledgWrite
    ledgTorn := s.ledgTorn
    oven := s.oven
    perstLow := s.perstLow
    resetNLow := s.resetNLow
    powerGood := s.powerGood
    p4Event := s.p4Event
    resets := s.resets
    inReset := s.inReset
    pending := s.pending }

/-- A register of the keeper stays; any other takes its reset value. -/
theorem State.resetBase_rd (s : State) (r : Reg) : s.resetBase.rd r = if r.name.kept = true then s.rd r else resetWord r := by
  have hget : Store.get? s.resetBase.regs r = if r.name.kept = true then Store.get? s.regs r else none :=
    Store.get?_filter_key (fun q : Reg => q.name.kept) s.regs r
  refine (congrArg (fun o : Option Word => o.getD (resetWord r)) hget).trans ?_
  split <;> rfl

/-- The registers that hold a field which a reset keeps, or one that it computes anew. -/
abbrev resetRegs : List RegName :=
  [.BOOT_RESET_CAUSE, .DRAM_ILV_STATUS, .LEDG_STATUS, .LEDG_EVENTS, .TALLY_STATUS, .LEDG_NEXT, .LEDG_FREE]

/-- The kept fields are restored, and the Ledger's and the oven's bits brought up to date. -/
def State.keptShown (s t : State) : State :=
  let u := (((t.set F.BOOT_RESET_CAUSE_WDT_LOOP (s.get F.BOOT_RESET_CAUSE_WDT_LOOP)).set F.DRAM_ILV_STATUS_PENDING (s.get F.DRAM_ILV_STATUS_PENDING)).set
    F.DRAM_ILV_STATUS_NEXT_GRAIN (s.get F.DRAM_ILV_STATUS_NEXT_GRAIN)).set F.LEDG_STATUS_FULL (s.get F.LEDG_STATUS_FULL)
  ((u.setIf F.LEDG_EVENTS_FULL (s.bit F.LEDG_STATUS_FULL)).setIf F.TALLY_STATUS_OVEN_READY (s.get F.TALLY_OVEN_STATUS_STATE = 2)).refreshLedger

theorem State.resetDevice_eq (s : State) : s.resetDevice = s.keptShown s.resetBase := rfl

theorem State.refreshLedger_step (s : State) : RegStep [.LEDG_NEXT, .LEDG_FREE, .LEDG_STATUS] s s.refreshLedger :=
  RegStep.set (RegStep.set (RegStep.set (RegStep.set (.refl _ _ s) _ _ _ _ (by decide)) _ _ _ _ (by decide)) _ _ _ _ (by decide)) _ _ _ _ (by decide)

theorem State.get_lt (s : State) (f : Fld) (i j : Nat) : s.get f i j < 2 ^ f.width := BitVec.isLt _

theorem State.keptShown_spec (s t : State) :
    let u := s.keptShown t
    u.get F.BOOT_RESET_CAUSE_WDT_LOOP = s.get F.BOOT_RESET_CAUSE_WDT_LOOP ∧ u.get F.DRAM_ILV_STATUS_NEXT_GRAIN = s.get F.DRAM_ILV_STATUS_NEXT_GRAIN ∧
      RegStep resetRegs t u := by
  unfold State.keptShown
  extract_lets v u
  have hstep : RegStep resetRegs t v := RegStep.set (RegStep.set (RegStep.set (RegStep.set (.refl _ _ t) _ _ _ _ (by decide)) _ _ _ _ (by decide))
    _ _ _ _ (by decide)) _ _ _ _ (by decide)
  have hloop : v.get F.BOOT_RESET_CAUSE_WDT_LOOP = s.get F.BOOT_RESET_CAUSE_WDT_LOOP :=
    (State.get_set_apart _ _ _ _ _ _ (by decide)).trans ((State.get_set_apart _ _ _ _ _ _ (by decide)).trans ((State.get_set_apart _ _ _ _ _ _ (by decide)).trans
      ((State.get_set_self _ _ _ _ _ (by decide)).trans (Nat.mod_eq_of_lt (s.get_lt _ _ _)))))
  have hgrain : v.get F.DRAM_ILV_STATUS_NEXT_GRAIN = s.get F.DRAM_ILV_STATUS_NEXT_GRAIN :=
    (State.get_set_apart _ _ _ _ _ _ (by decide)).trans ((State.get_set_self _ _ _ _ _ (by decide)).trans (Nat.mod_eq_of_lt (s.get_lt _ _ _)))
  clear_value v
  have hend : RegStep [.LEDG_EVENTS, .TALLY_STATUS, .LEDG_NEXT, .LEDG_FREE, .LEDG_STATUS] v u := by
    have h := State.refreshLedger_step ((v.setIf F.LEDG_EVENTS_FULL (s.bit F.LEDG_STATUS_FULL)).setIf F.TALLY_STATUS_OVEN_READY (s.get F.TALLY_OVEN_STATUS_STATE = 2))
    exact Keeps.trans (RegStep.set (RegStep.set (.refl _ _ v) F.LEDG_EVENTS_FULL _ _ _ (by decide)) F.TALLY_STATUS_OVEN_READY _ _ _ (by decide))
      ⟨h.view, h.regs.mono (by decide)⟩
  refine ⟨?_, ?_, hstep.trans ⟨hend.view, hend.regs.mono (by decide)⟩⟩
  · exact (State.get_of_regsBut hend.regs _ _ _ (by decide)).trans hloop
  · exact (State.get_of_regsBut hend.regs _ _ _ (by decide)).trans hgrain

/-- A register that neither the keeper nor a reset's own rules hold takes its reset value. -/
theorem State.resetDevice_rd (s : State) (r : Reg) (hk : r.name.kept = false) (hr : r.name ∉ resetRegs) : s.resetDevice.rd r = resetWord r := by
  obtain ⟨-, -, hstep⟩ := s.keptShown_spec s.resetBase
  exact (hstep.regs r hr).trans ((s.resetBase_rd r).trans (if_neg (by rw [hk]; exact Bool.false_ne_true)))

/-- No work, no stored byte and no boot state is left; the Ledger stays. -/
theorem State.resetDevice_field {β : Type} (s : State) (g : State → β) (hg : ∀ u : State, g u.bare = g u) : g s.resetDevice = g s.resetBase :=
  (s.keptShown_spec s.resetBase).2.2.field g hg

/-! ## P4 (R590) -/

theorem State.writeBackup_ledgRecs (s : State) : s.writeBackup.ledgRecs = s.ledgRecs := by
  unfold State.writeBackup
  split <;> rfl

/-- The power state and the domains of P4. -/
def State.p4Shown (s : State) : State := (s.set F.PWR_STATUS_STATE 4).set F.PWR_DOMAINS_ON 0

theorem State.p4Shown_spec (s : State) :
    let t := s.p4Shown
    t.get F.PWR_STATUS_STATE = 4 ∧ t.rd ⟨.PWR_DOMAINS, 0, 0⟩ = F.PWR_DOMAINS_ON.put (s.rd ⟨.PWR_DOMAINS, 0, 0⟩) 0 ∧
      RegStep [.PWR_STATUS, .PWR_DOMAINS] s t := by
  refine ⟨?_, ?_, RegStep.set (RegStep.set (.refl _ _ s) _ _ _ _ (by decide)) _ _ _ _ (by decide)⟩
  · exact (State.get_set_apart _ _ _ _ _ _ (by decide)).trans (State.get_set_self _ _ _ _ _ (by decide))
  · refine (State.rd_wr _ _ _ _).trans ((if_pos rfl).trans (congrArg (F.PWR_DOMAINS_ON.put · 0) ?_))
    exact s.rd_set_of_ne F.PWR_STATUS_STATE 4 0 0 _ (by decide)

theorem State.enterP4_spec (s : State) :
    let t := s.enterP4
    t.get F.PWR_STATUS_STATE = 4 ∧ t.rd ⟨.PWR_DOMAINS, 0, 0⟩ &&& 0xFFFFF#32 = 0#32 ∧ t.works = [] ∧ t.mem = [] ∧ t.booted = false ∧
      t.bit F.FLT_STATUS_DUT_SAFE_N = false ∧ t.ledgRecs = s.ledgRecs := by
  have hdomains := s.writeBackup.resetDevice_rd ⟨.PWR_DOMAINS, 0, 0⟩ (by decide) (by decide)
  have hsafe := s.writeBackup.resetDevice_rd ⟨.FLT_STATUS, 0, 0⟩ (by decide) (by decide)
  have hfield := @State.resetDevice_field
  obtain ⟨hstate, hrd, hstep⟩ := s.writeBackup.resetDevice.p4Shown_spec
  refine ⟨hstate, ?_, ?_, ?_, ?_, ?_, ?_⟩
  · rw [show s.enterP4.rd ⟨.PWR_DOMAINS, 0, 0⟩ = _ from hrd, hdomains]
    decide
  · exact (hstep.field State.works fun _ => rfl).trans (hfield s.writeBackup State.works fun _ => rfl)
  · exact (hstep.field State.mem fun _ => rfl).trans (hfield s.writeBackup State.mem fun _ => rfl)
  · exact (hstep.field State.booted fun _ => rfl).trans (hfield s.writeBackup State.booted fun _ => rfl)
  · have hword : s.enterP4.rd ⟨.FLT_STATUS, 0, 0⟩ = resetWord ⟨.FLT_STATUS, 0, 0⟩ := (hstep.regs _ (by decide)).trans hsafe
    exact (congrArg (fun w => F.FLT_STATUS_DUT_SAFE_N.get w == 1) hword).trans (by decide)
  · exact (hstep.field State.ledgRecs fun _ => rfl).trans ((hfield s.writeBackup State.ledgRecs fun _ => rfl).trans s.writeBackup_ledgRecs)

/-! ## Exits (R587, R588) -/

/-- The instant at which an exit starts: the planned one, a latency before the earliest pending instant, or now. -/
def State.exitAt (s : State) (planned : Bool) : State :=
  if planned then
    (match earliest s.pendingInstants with | some d => s.advanceTo (d - exitLatency (s.get F.PWR_STATUS_STATE) * usTu) | none => s)
  else s

theorem State.exitAt_now {s : State} {p : Bool} (h : p = true → earliest s.pendingInstants = none) : s.exitAt p = s := by
  unfold State.exitAt
  split
  · next hp => rw [h hp]
  · rfl

theorem State.exitAt_planned {s : State} {d : Tu} (h : earliest s.pendingInstants = some d) :
    s.exitAt true = s.advanceTo (d - exitLatency (s.get F.PWR_STATUS_STATE) * usTu) := by
  unfold State.exitAt
  rw [if_pos rfl, h]

/-- An exit begins: an entry to self-refresh that has not been commanded is abandoned. -/
def State.exiting (s : State) : State := { s.setBit F.PWR_STATUS_EXITING with sref := if s.sref = .closing then .none_ else s.sref }

/-- The Rows in use are powered again, and their channels return. -/
def State.rowsWaking (s : State) : State :=
  ((List.range 4).filter fun r => !(s.refreshDomains 3 true).rowOff r).foldl (fun (u : State) r => u.wakeRow r (s.fr + exitLatency 3 * usTu)) (s.refreshDomains 3 true)

theorem execPowerExitStart_of {p : Bool} {s : State} (hb : s.booted = true) (hlow : s.get F.PWR_STATUS_STATE ≠ 0) (hhigh : s.get F.PWR_STATUS_STATE < 4)
    (he : s.bit F.PWR_STATUS_EXITING = false) : execPowerExitStart p s =
      if s.get F.PWR_STATUS_STATE < 3 then .next (s.exitAt p).exiting else .next (s.exitAt p).exiting.rowsWaking :=
  (if_neg (by simp [hb, hlow, Nat.not_le.mpr hhigh, he])).trans rfl

/-- A request for P4 stands with its instant; one that stands already keeps its own (R590). -/
def State.p4Requested (s : State) : State :=
  if s.bit F.PWR_STATUS_P4_PENDING = true then s else { s.setBit F.PWR_STATUS_P4_PENDING with p4Req := some s.fr }

theorem execP4Req_of {s : State} (hb : s.booted = true) : execP4Req s =
    .next (if s.p4Requested.deepest = 4 ∧ s.p4Requested.bit F.PWR_STATUS_EXITING = false then s.p4Requested.enterP4 else s.p4Requested) := by
  refine (if_neg (by rw [hb]; decide)).trans ?_
  simp only [Bool.not_eq_true']
  rfl

/-- Settles O46: the power manager's choice, exits and P4. -/
theorem powerStates : Obligations.PowerStates := by
  unfold Obligations.PowerStates
  refine ⟨?notBooted, ?exiting, ?stays, ?deeper, ?shown, ?p4, ?noExit, ?exitNow, ?exitPlanned, ?rowsNow, ?rowsPlanned, ?waits, ?complete, ?reqEarly, ?req,
    ?reqAgain, ?expires, ?noReq, ?wakes, ?sleeps⟩
  case notBooted =>
    intro s hb
    exact (show exec .powerStateSelect s = execPowerStateSelect s from rfl).trans (if_pos (by rw [hb]; rfl))
  case exiting =>
    intro s hb he
    exact (show exec .powerStateSelect s = execPowerStateSelect s from rfl).trans
      ((if_neg (by rw [hb]; decide)).trans (congrArg Host.Outcome.next (if_pos he)))
  case stays =>
    intro s hb he hd
    exact (show exec .powerStateSelect s = execPowerStateSelect s from rfl).trans
      ((if_neg (by rw [hb]; decide)).trans (congrArg Host.Outcome.next ((State.choosePower_stays he hd).trans (State.powerShown_eq _ _))))
  case deeper =>
    intro s hb he hd h4 u
    exact (show exec .powerStateSelect s = execPowerStateSelect s from rfl).trans
      ((if_neg (by rw [hb]; decide)).trans (congrArg Host.Outcome.next ((State.choosePower_deeper he hd (by omega)).trans (State.powerShown_eq _ _))))
  case shown =>
    intro s hb he hd h4
    have heq : exec .powerStateSelect s = .next ((s.setPower s.deepest).powerShown (max (s.get F.PWR_STATUS_STATE) s.deepest)) :=
      (show exec .powerStateSelect s = execPowerStateSelect s from rfl).trans
        ((if_neg (by rw [hb]; decide)).trans (congrArg Host.Outcome.next (State.choosePower_deeper he hd (by omega))))
    obtain ⟨hstate, hchange, hset⟩ := s.setPower_spec s.deepest
    generalize s.setPower s.deepest = u at *
    have hshow := u.powerShown_step (max (s.get F.PWR_STATUS_STATE) s.deepest)
    refine ⟨_, heq, ?_, ?_, hset.regs.trans (hshow.regs.mono (by decide)), ?_⟩
    · exact (u.powerShown_state _).trans (hstate.trans (Nat.mod_eq_of_lt (by omega)))
    · exact (State.bit_of_regsBut hshow.regs _ _ _ (by decide)).trans hchange
    · exact (hshow.field State.mem fun _ => rfl).trans (hset.field State.mem fun _ => rfl)
  case p4 =>
    intro s hb he hd h4
    exact ⟨(show exec .powerStateSelect s = execPowerStateSelect s from rfl).trans
      ((if_neg (by rw [hb]; decide)).trans (congrArg Host.Outcome.next (State.choosePower_p4 he hd h4))), s.enterP4_spec⟩
  case noExit =>
    intro p s h
    refine (show exec (.powerExitStart p) s = execPowerExitStart p s from rfl).trans (if_pos ?_)
    exact h.imp_left fun hb => by rw [hb]; rfl
  case exitNow =>
    intro p s hb hst he hp
    refine (show exec (.powerExitStart p) s = execPowerExitStart p s from rfl).trans
      ((execPowerExitStart_of hb (by omega) (by omega) he).trans ((if_pos (by omega)).trans ?_))
    rw [State.exitAt_now hp] <;> rfl
  case exitPlanned =>
    intro d s hb hst he hp a
    refine (show exec (.powerExitStart true) s = execPowerExitStart true s from rfl).trans
      ((execPowerExitStart_of hb (by omega) (by omega) he).trans ((if_pos (by omega)).trans ?_))
    rw [State.exitAt_planned hp] <;> rfl
  case rowsNow =>
    intro p s hb hst he hp a b
    refine (show exec (.powerExitStart p) s = execPowerExitStart p s from rfl).trans
      ((execPowerExitStart_of hb (by omega) (by omega) he).trans ((if_neg (by omega)).trans ?_))
    rw [State.exitAt_now hp] <;> rfl
  case rowsPlanned =>
    intro d s hb hst he hp c a b
    refine (show exec (.powerExitStart true) s = execPowerExitStart true s from rfl).trans
      ((execPowerExitStart_of hb (by omega) (by omega) he).trans ((if_neg (by omega)).trans ?_))
    rw [State.exitAt_planned hp, hst] <;> rfl
  case waits =>
    intro s h
    refine (show exec .powerExitComplete s = execPowerExitComplete s from rfl).trans (if_pos ?_)
    exact h.imp (fun he => by rw [he]; rfl) fun h => h.imp_right fun hr => ⟨hr.1, by rw [hr.2]; rfl⟩
  case complete =>
    intro s he hs hr u v
    refine (show exec .powerExitComplete s = execPowerExitComplete s from rfl).trans ((if_neg ?_).trans
      (congrArg (fun t : State => Host.Outcome.next t.adcKick) (u.powerShown_eq 0)))
    rintro (h | h | ⟨h3, hrows⟩)
    · rw [he] at h
      exact Bool.false_ne_true h
    · exact h hs
    · rcases hr with hr | hr
      · omega
      · rw [hr] at hrows
        exact Bool.false_ne_true hrows
  case reqEarly =>
    intro s hb
    exact (show exec .p4Req s = execP4Req s from rfl).trans (if_pos (by rw [hb]; rfl))
  case req =>
    intro s hb hp u
    have hu : s.p4Requested = u := if_neg (by rw [hp]; exact Bool.false_ne_true)
    exact (show exec .p4Req s = execP4Req s from rfl).trans ((execP4Req_of hb).trans (by rw [hu]))
  case reqAgain =>
    intro s hb hp
    have hu : s.p4Requested = s := if_pos hp
    exact (show exec .p4Req s = execP4Req s from rfl).trans ((execP4Req_of hb).trans (by rw [hu]))
  case expires =>
    intro t s h
    refine (show exec .p4RequestExpiry s = execP4RequestExpiry s from rfl).trans ?_
    unfold execP4RequestExpiry
    rw [h] <;> rfl
  case noReq =>
    intro s h
    refine (show exec .p4RequestExpiry s = execP4RequestExpiry s from rfl).trans ?_
    unfold execP4RequestExpiry
    rw [h]
  case wakes =>
    intro s hst hen hr
    exact (show exec .p4WakeTimer s = execP4WakeTimer s from rfl).trans (if_pos ⟨hst, hen, by rw [hr]; rfl⟩)
  case sleeps =>
    intro s h
    refine (show exec .p4WakeTimer s = execP4WakeTimer s from rfl).trans (if_neg ?_)
    rintro ⟨hst, hen, hr⟩
    rcases h with h | h | h
    · exact h hst
    · exact Bool.false_ne_true (h.symm.trans hen)
    · exact h (Option.isNone_iff_eq_none.mp hr)

end Sys2Proof.Machine
end

section
/-!
SUPPORT. Unused Rows, the VCORE request and the pace gauge (O47).
-/

namespace Sys2Proof.Machine

theorem State.restartDecisions_of_no_work {s : State} (h : s.works = []) (reading : Nat) : s.restartDecisions reading = s := by
  unfold State.restartDecisions
  rw [h]
  rfl

/-- No assumed pace is undercut: the window's ended paces are done with, and nothing else happens. -/
theorem State.paceFault_none {s : State} {reading : Nat} (hw : s.works = []) (hd : ∀ p ∈ s.donePaces, p ≤ reading) :
    s.paceFault reading = { s with donePaces := [] } := by
  have hlow : ((s.works.any fun p => p.2.isAdmitted && decide (reading < p.2.pace)) || s.donePaces.any (reading < ·)) = false := by
    rw [hw, List.any_nil, Bool.false_or]
    exact List.any_eq_false.mpr fun p hp => by simpa using hd p hp
  unfold State.paceFault
  simp only [hlow, Bool.false_eq_true, if_false]

theorem execRunAheadUnderrun_none {k : Nat} {s : State} (h : ∀ w, s.work? k = some w → w.opcode ≠ Op.burst ∨ w.isAdmitted = false) :
    execRunAheadUnderrun k s = .next s := by
  unfold execRunAheadUnderrun
  cases hk : s.work? k with
  | none => rfl
  | some w =>
    refine if_neg ?_
    rintro ⟨ho, ha⟩
    exact (h w hk).elim (fun hne => hne ho) fun hf => Bool.false_ne_true (hf.symm.trans ha)

/-- Settles O47: unused Rows, the VCORE request and the pace gauge. -/
theorem rowsVoltageAndPace : Obligations.RowsVoltageAndPace := by
  unfold Obligations.RowsVoltageAndPace
  refine ⟨?early, ?blocked, ?written, ?vcore, ?pace, ?quiet, ?underrun, ?noBurst⟩
  case early =>
    intro v s hb
    exact (show exec (.rowOffWrite v) s = execRowOffWrite v s from rfl).trans (if_pos (by rw [hb]; rfl))
  case blocked =>
    intro v s hb hused
    exact (show exec (.rowOffWrite v) s = execRowOffWrite v s from rfl).trans ((if_neg (by rw [hb]; decide)).trans (if_pos hused))
  case written =>
    intro v s hb sets clears hused a b
    exact (show exec (.rowOffWrite v) s = execRowOffWrite v s from rfl).trans
      ((if_neg (by rw [hb]; decide)).trans (if_neg (by rw [show (sets.any s.rowUsed) = false from hused]; exact Bool.false_ne_true)))
  case vcore => exact fun mv s => rfl
  case pace => exact fun pace s => rfl
  case quiet =>
    intro pace s hw hd
    have hstep : RegStep [.PWR_PACE] s (s.set F.PWR_PACE_READING (min (pace - 64) 65535)) := RegStep.set (.refl _ _ s) _ _ _ _ (by decide)
    have hread : (s.set F.PWR_PACE_READING (min (pace - 64) 65535)).get F.PWR_PACE_READING = min (pace - 64) 65535 :=
      (State.get_set_self _ _ _ _ _ (by decide)).trans (Nat.mod_eq_of_lt (show _ < 2 ^ 16 by omega))
    have heq : exec (.paceReadingPublish pace) s =
        .next (((s.set F.PWR_PACE_READING (min (pace - 64) 65535)).restartDecisions (min (pace - 64) 65535)).paceFault (min (pace - 64) 65535)) := rfl
    generalize s.set F.PWR_PACE_READING (min (pace - 64) 65535) = u at *
    have huw : u.works = [] := (hstep.field State.works fun _ => rfl).trans hw
    have hud : u.donePaces = s.donePaces := hstep.field State.donePaces fun _ => rfl
    rw [State.restartDecisions_of_no_work huw, State.paceFault_none huw (by rw [hud]; exact hd)] at heq
    exact ⟨_, heq, hread, hstep.field State.detections fun _ => rfl, hstep.regs.of_regs rfl, hstep.field State.mem fun _ => rfl⟩
  case underrun =>
    intro k w s hk ho ha
    refine (show exec (.runAheadUnderrun k) s = execRunAheadUnderrun k s from rfl).trans ?_
    unfold execRunAheadUnderrun
    rw [hk]
    exact if_pos ⟨ho, ha⟩
  case noBurst =>
    intro k s h
    exact (show exec (.runAheadUnderrun k) s = execRunAheadUnderrun k s from rfl).trans (execRunAheadUnderrun_none h)

end Sys2Proof.Machine
end

section
/-!
SUPPORT. What asserts a reset, what a reset leaves, and how boot starts (O48).
-/

namespace Sys2Proof.Machine

/-! ## Sources (R599 to R602) -/

theorem State.assertReset_spec (s : State) (source : Nat) :
    let t := s.assertReset source
    t.resets = s.resets ++ [(source, s.fr)] ∧ t.bit F.FLT_STATUS_DUT_SAFE_N = false ∧ regsBut [.FLT_STATUS] s t :=
  ⟨rfl, State.bit_clrBit s F.FLT_STATUS_DUT_SAFE_N 0 0 (by decide), ((regsBut.refl _ s).set F.FLT_STATUS_DUT_SAFE_N 0 0 0 (by decide)).of_regs rfl⟩

/-- A Ledger write that power cuts short changes the Ledger alone. -/
theorem State.cutLedger_frame (s : State) (n : Nat) :
    s.cutLedger n = { s with ledgWrite := (s.cutLedger n).ledgWrite, ledgRecs := (s.cutLedger n).ledgRecs, ledgTorn := (s.cutLedger n).ledgTorn } := by
  unfold State.cutLedger
  split
  · rfl
  · extract_lets u
    split
    · split <;> rfl
    · split
      · rfl
      · split <;> rfl

/-- A Ledger write in progress may be cut short. -/
def State.cutBy (s : State) : Option Nat → State
  | some n => s.cutLedger n
  | none => s

theorem State.cutBy_frame (s : State) (cut : Option Nat) :
    (s.cutBy cut).resets = s.resets ∧ (s.cutBy cut).fr = s.fr ∧ (s.cutBy cut).regs = s.regs ∧ (s.cutBy cut).mem = s.mem ∧ (s.cutBy cut).works = s.works := by
  cases cut with
  | none => exact ⟨rfl, rfl, rfl, rfl, rfl⟩
  | some n =>
    have h := s.cutLedger_frame n
    exact ⟨(congrArg State.resets h :), (congrArg State.fr h :), (congrArg State.regs h :), (congrArg State.mem h :), (congrArg State.works h :)⟩

/-- The keeper's own state as after power-on, with the registers of R600's list but the backup count's. -/
def State.keeperEmpty (s : State) : State :=
  { s with
    regs := s.regs.filter fun p => p.1.name == RegName.BOOT_COUNT || !p.1.name.kept
    oven := {}
    ledgQueue := []
    ledgerEvents := []
    ledgWrite := none }

theorem State.keeperEmpty_rd (s : State) (r : Reg) :
    s.keeperEmpty.rd r = if (r.name == RegName.BOOT_COUNT || !r.name.kept) = true then s.rd r else resetWord r := by
  have hget : Store.get? s.keeperEmpty.regs r = if (r.name == RegName.BOOT_COUNT || !r.name.kept) = true then Store.get? s.regs r else none :=
    Store.get?_filter_key (fun q : Reg => q.name == RegName.BOOT_COUNT || !q.name.kept) s.regs r
  refine (congrArg (fun o : Option Word => o.getD (resetWord r)) hget).trans ?_
  split <;> rfl

theorem State.loseKeeper_step (s : State) : RegStep [.BOOT_RESET_CAUSE, .DRAM_ILV_STATUS] s.keeperEmpty s.loseKeeper :=
  RegStep.set (RegStep.set (RegStep.set (.refl _ _ _) _ _ _ _ (by decide)) _ _ _ _ (by decide)) _ _ _ _ (by decide)

/-- Both supplies of the keeper were lost: its own state takes its reset values, and the Ledger's records stay. -/
theorem State.loseKeeper_spec (s : State) :
    let t := s.loseKeeper
    t.ledgQueue = [] ∧ t.ledgerEvents = [] ∧ t.ledgWrite = none ∧ t.oven = {} ∧ t.bit F.TIME_BACKUP_1_TV = false ∧
      t.get F.BOOT_RESET_CAUSE_WDT_LOOP = 0 ∧ t.get F.BOOT_COUNT_COUNT = s.get F.BOOT_COUNT_COUNT ∧ t.resets = s.resets ∧ t.fr = s.fr ∧ t.mem = s.mem ∧
      t.works = s.works ∧ t.ledgRecs = s.ledgRecs := by
  have hstep := s.loseKeeper_step
  refine ⟨hstep.field State.ledgQueue fun _ => rfl, hstep.field State.ledgerEvents fun _ => rfl, hstep.field State.ledgWrite fun _ => rfl,
    hstep.field State.oven fun _ => rfl, ?_, ?_, ?_, hstep.field State.resets fun _ => rfl, hstep.field State.fr fun _ => rfl,
    hstep.field State.mem fun _ => rfl, hstep.field State.works fun _ => rfl, hstep.field State.ledgRecs fun _ => rfl⟩
  · have hword : s.loseKeeper.rd ⟨.TIME_BACKUP_1, 0, 0⟩ = resetWord ⟨.TIME_BACKUP_1, 0, 0⟩ :=
      (hstep.regs _ (by decide)).trans ((s.keeperEmpty_rd _).trans (if_neg (by decide)))
    exact (congrArg (fun w => F.TIME_BACKUP_1_TV.get w == 1) hword).trans (by decide)
  · exact (State.get_set_apart _ _ _ _ _ _ (by decide)).trans ((State.get_set_apart _ _ _ _ _ _ (by decide)).trans (State.get_set_self _ _ _ _ _ (by decide)))
  · have hword : s.loseKeeper.rd ⟨.BOOT_COUNT, 0, 0⟩ = s.rd ⟨.BOOT_COUNT, 0, 0⟩ :=
      (hstep.regs _ (by decide)).trans ((s.keeperEmpty_rd _).trans (if_pos (by decide)))
    exact congrArg F.BOOT_COUNT_COUNT.get hword

/-! ## A reset takes effect (R600, R602) -/

/-- A reset is in effect, and boot has not begun. -/
def State.inResetRun (s : State) (run : ResetRun) : State := { s with inReset := some run, resets := [], booted := false }

/-- Everything but the registers and the reset that a device is in. -/
def State.resetView (s : State) : State := { s with regs := [], inReset := none, resets := [], booted := false }

theorem State.inResetRun_spec (s : State) (run : ResetRun) :
    let t := s.inResetRun run
    t.inReset = some run ∧ t.resets = [] ∧ t.booted = false ∧ t.regs = s.regs ∧ t.resetView = s.resetView := ⟨rfl, rfl, rfl, rfl, rfl⟩

theorem State.resetDevice_kept {β : Type} (s : State) (run : ResetRun) (g : State → β) (hg : ∀ u : State, g u.resetView = g u) :
    g (s.resetDevice.inResetRun run) = g s.resetBase := by
  obtain ⟨-, -, -, -, hview⟩ := s.resetDevice.inResetRun_spec run
  have hsame : g (s.resetDevice.inResetRun run) = g s.resetDevice := (hg _).symm.trans ((congrArg g hview).trans (hg _))
  exact hsame.trans (s.resetDevice_field g fun u => (hg u.bare).symm.trans (hg u))

theorem execWatchdog_of {s : State} (hrun : s.bit F.BOOT_WDT_RUNNING = true) (hin : s.inReset = none) (hst : s.get F.PWR_STATUS_STATE ≠ 4) :
    execWatchdog s =
      let a := if s.frRuns then s.advanceTo (s.wdtFrom + s.wdtMs * 4096000000 + 1) else s
      .next ((if a.booted then a else a.countUp F.BOOT_RESET_CAUSE_WDT_LOOP).assertReset 4) :=
  if_neg (by simp [hrun, hin, hst])

theorem execResetAssert_of {r : Nat × Tu} {rs : List (Nat × Tu)} {s : State} (h : s.resets = r :: rs) : execResetAssert s =
    .next (s.resetDevice.inResetRun (s.inReset.getD { cause := ((rs.filter (·.2 == r.2)).map Prod.fst).foldl min r.1, p4Event := s.p4Event })) := by
  unfold execResetAssert
  rw [h] <;> rfl

/-! ## Release (R603, R604) -/

/-- The straps are sampled, the cause recorded and the boot counted. -/
def State.counted (s : State) (src : Nat) (cand : Bool) (pos : Nat) (run : ResetRun) : State :=
  let s := ((s.set F.BOOT_STRAP_BOOT_SRC src).setIf F.GSL_STRAP_CANDIDATE cand).set F.GSL_STRAP_POS pos
  let s := (s.set F.BOOT_RESET_CAUSE_CAUSE run.cause).set F.BOOT_RESET_CAUSE_P4_EVENT (if run.cause = 6 then run.p4Event else 0)
  s.set F.BOOT_COUNT_COUNT ((s.get F.BOOT_COUNT_COUNT + 1) % 2 ^ 32)

/-- Step 1 begins with the watchdog at 2,000 ms. -/
def State.stepOne (s : State) : State := { (s.set F.BOOT_STATUS_STAGE 1).wdtStart 2000 with inReset := none }

def State.released (s : State) (src : Nat) (cand : Bool) (pos : Nat) (run : ResetRun) : State := (s.counted src cand pos run).stepOne

/-- The master did not lock in time: the device waits for a reference, without its watchdog and with a coarse time. -/
def State.noReference (s : State) : State := ((s.setBit F.BOOT_STATUS_WAIT_REF).wdtStop).setBit F.TIME_STATUS_COARSE

/-- How boot goes on from its release: three watchdog resets halt it. -/
def State.bootStart (s : State) (ref : Bool) : State :=
  let t := if ref then s else s.noReference
  if 3 ≤ t.get F.BOOT_RESET_CAUSE_WDT_LOOP then t.bootRecord.bootHalt 7 else if ref then t else t.bootRecord

theorem execResetRelease_of {src pos : Nat} {cand ref : Bool} {run : ResetRun} {s : State} (hr : s.inReset = some run) (hg : s.powerGood = true)
    (hp : s.perstLow = false) (hn : s.resetNLow = false) :
    execResetRelease src cand pos ref s = .next ((s.released src cand pos run).sealTorn.bootStart ref) := by
  unfold execResetRelease
  rw [hr]
  refine (if_neg (by simp [hg, hp, hn])).trans ?_
  exact (apply_ite Host.Outcome.next ..).symm

/-- What a release leaves for the host to read. -/
structure Released (s : State) (src pos : Nat) (cand : Bool) (run : ResetRun) (t : State) : Prop where
  inReset : t.inReset = none
  src : t.get F.BOOT_STRAP_BOOT_SRC = src % 4
  pos : t.get F.GSL_STRAP_POS = pos % 64
  cand : t.bit F.GSL_STRAP_CANDIDATE = cand
  cause : t.get F.BOOT_RESET_CAUSE_CAUSE = run.cause % 16
  count : t.get F.BOOT_COUNT_COUNT = (s.get F.BOOT_COUNT_COUNT + 1) % 2 ^ 32
  mem : t.mem = s.mem
  works : t.works = s.works

/-- The registers that a release writes. -/
def strapRegs : List RegName := [.BOOT_STRAP, .GSL_STRAP, .BOOT_RESET_CAUSE, .BOOT_COUNT]

/-- Everything but the registers and the events for the Ledger. -/
def State.bootView (s : State) : State := { s with regs := [], ledgerEvents := [] }

/-- A step of boot. -/
abbrev BootStep (l : List RegName) (s t : State) : Prop := Keeps State.bootView l s t

theorem BootStep.field {β : Type} {l : List RegName} {s t : State} (h : BootStep l s t) (g : State → β) (hg : ∀ u, g u.bootView = g u) : g t = g s :=
  (hg t).symm.trans ((congrArg g h.view).trans (hg s))

theorem BootStep.set {l : List RegName} {s t : State} (h : BootStep l s t) (f : Fld) (v i j : Nat) (hf : f.reg ∈ l) : BootStep l s (t.set f v i j) :=
  ⟨h.view, h.regs.set f v i j hf⟩

section
variable {s t u : State} {src pos : Nat} {cand : Bool} {run : ResetRun} {l : List RegName}

theorem Released.of_regs (h : Released s src pos cand run t) (hr : regsBut l t u) (hl : ∀ r ∈ strapRegs, r ∉ l) (hi : u.inReset = t.inReset) (hm : u.mem = t.mem)
    (hw : u.works = t.works) : Released s src pos cand run u := by
  have hget : ∀ f : Fld, f.reg ∈ strapRegs → u.get f = t.get f := fun f hf => State.get_of_regsBut hr f 0 0 (hl _ hf)
  exact ⟨hi.trans h.inReset, (hget _ (by decide)).trans h.src, (hget _ (by decide)).trans h.pos,
    (congrArg (· == 1) (hget F.GSL_STRAP_CANDIDATE (by decide))).trans h.cand, (hget _ (by decide)).trans h.cause, (hget _ (by decide)).trans h.count,
    hm.trans h.mem, hw.trans h.works⟩

theorem Released.boot (h : Released s src pos cand run t) (hb : BootStep l t u) (hl : ∀ r ∈ strapRegs, r ∉ l) : Released s src pos cand run u :=
  h.of_regs hb.regs hl (hb.field State.inReset fun _ => rfl) (hb.field State.mem fun _ => rfl) (hb.field State.works fun _ => rfl)

end

/-- A field apart from those that a release writes keeps its value. -/
theorem State.counted_apart (s : State) (src : Nat) (cand : Bool) (pos : Nat) (run : ResetRun) {f : Fld}
    (h : [F.BOOT_STRAP_BOOT_SRC, F.GSL_STRAP_CANDIDATE, F.GSL_STRAP_POS, F.BOOT_RESET_CAUSE_CAUSE, F.BOOT_RESET_CAUSE_P4_EVENT, F.BOOT_COUNT_COUNT].all
      (Fld.apart · f) = true) : (s.counted src cand pos run).get f = s.get f := by
  simp only [List.all_cons, List.all_nil, Bool.and_eq_true] at h
  obtain ⟨h1, h2, h3, h4, h5, h6, -⟩ := h
  exact (State.get_set_apart _ _ _ _ _ _ h6).trans ((State.get_set_apart _ _ _ _ _ _ h5).trans ((State.get_set_apart _ _ _ _ _ _ h4).trans
    ((State.get_set_apart _ _ _ _ _ _ h3).trans ((State.get_set_apart _ _ _ _ _ _ h2).trans (State.get_set_apart _ _ _ _ _ _ h1)))))

theorem State.counted_spec (s : State) (src : Nat) (cand : Bool) (pos : Nat) (run : ResetRun) :
    let t := s.counted src cand pos run
    t.get F.BOOT_STRAP_BOOT_SRC = src % 4 ∧ t.get F.GSL_STRAP_POS = pos % 64 ∧ t.bit F.GSL_STRAP_CANDIDATE = cand ∧
      t.get F.BOOT_RESET_CAUSE_CAUSE = run.cause % 16 ∧ t.get F.BOOT_COUNT_COUNT = (s.get F.BOOT_COUNT_COUNT + 1) % 2 ^ 32 ∧ RegStep strapRegs s t := by
  refine ⟨?_, ?_, ?_, ?_, ?_, ?_⟩
  · exact (State.get_set_apart _ _ _ _ _ _ (by decide)).trans ((State.get_set_apart _ _ _ _ _ _ (by decide)).trans ((State.get_set_apart _ _ _ _ _ _ (by decide)).trans
      ((State.get_set_apart _ _ _ _ _ _ (by decide)).trans ((State.get_set_apart _ _ _ _ _ _ (by decide)).trans (State.get_set_self _ _ _ _ _ (by decide))))))
  · exact (State.get_set_apart _ _ _ _ _ _ (by decide)).trans ((State.get_set_apart _ _ _ _ _ _ (by decide)).trans ((State.get_set_apart _ _ _ _ _ _ (by decide)).trans
      (State.get_set_self _ _ _ _ _ (by decide))))
  · exact (State.bit_set_apart _ _ _ _ _ _ (by decide)).trans ((State.bit_set_apart _ _ _ _ _ _ (by decide)).trans ((State.bit_set_apart _ _ _ _ _ _ (by decide)).trans
      ((State.bit_set_apart _ _ _ _ _ _ (by decide)).trans (State.bit_setIf _ _ _ _ _ (by decide) (by decide)))))
  · exact (State.get_set_apart _ _ _ _ _ _ (by decide)).trans ((State.get_set_apart _ _ _ _ _ _ (by decide)).trans (State.get_set_self _ _ _ _ _ (by decide)))
  · refine (State.get_set_self _ _ _ _ _ (by decide)).trans ((Nat.mod_mod _ _).trans (congrArg (fun n => (n + 1) % 2 ^ 32) ?_))
    exact (State.get_set_apart _ _ _ _ _ _ (by decide)).trans ((State.get_set_apart _ _ _ _ _ _ (by decide)).trans ((State.get_set_apart _ _ _ _ _ _ (by decide)).trans
      ((State.get_set_apart _ _ _ _ _ _ (by decide)).trans (State.get_set_apart _ _ _ _ _ _ (by decide)))))
  · exact RegStep.set (RegStep.set (RegStep.set (RegStep.set (RegStep.set (RegStep.set (.refl _ _ s) _ _ _ _ (by decide)) _ _ _ _ (by decide)) _ _ _ _ (by decide))
      _ _ _ _ (by decide)) _ _ _ _ (by decide)) _ _ _ _ (by decide)

theorem State.stepOne_spec (s : State) :
    let t := s.stepOne
    t.get F.BOOT_STATUS_STAGE = 1 ∧ t.bit F.BOOT_STATUS_WAIT_REF = s.bit F.BOOT_STATUS_WAIT_REF ∧ t.bit F.BOOT_WDT_RUNNING = true ∧ t.wdtMs = 2000 ∧
      t.wdtFrom = s.fr ∧ t.inReset = none ∧ t.ledgerEvents = s.ledgerEvents ∧ t.ledgTorn = s.ledgTorn ∧ t.ledgRecs = s.ledgRecs ∧ t.fr = s.fr ∧
      t.mem = s.mem ∧ t.works = s.works ∧ regsBut [.BOOT_STATUS, .BOOT_WDT] s t := by
  have hregs : s.stepOne.regs = (((s.set F.BOOT_STATUS_STAGE 1).setIf F.BOOT_WDT_RUNNING true).set F.BOOT_WDT_REMAIN_MS 2000).regs := rfl
  refine ⟨?_, ?_, ?_, rfl, rfl, rfl, rfl, rfl, rfl, rfl, rfl, rfl, ?_⟩
  · exact (State.get_congr hregs _ _ _).trans ((State.get_set_apart _ _ _ _ _ _ (by decide)).trans ((State.get_set_apart _ _ _ _ _ _ (by decide)).trans
      (State.get_set_self _ _ _ _ _ (by decide))))
  · exact (congrArg (· == 1) (State.get_congr hregs F.BOOT_STATUS_WAIT_REF 0 0)).trans ((State.bit_set_apart _ _ _ _ _ _ (by decide)).trans
      ((State.bit_set_apart _ _ _ _ _ _ (by decide)).trans (State.bit_set_apart _ _ _ _ _ _ (by decide))))
  · exact (congrArg (· == 1) (State.get_congr hregs F.BOOT_WDT_RUNNING 0 0)).trans ((State.bit_set_apart _ _ _ _ _ _ (by decide)).trans
      (State.bit_setIf _ _ _ _ _ (by decide) (by decide)))
  · exact ((((regsBut.refl _ s).set _ _ _ _ (by decide)).set _ _ _ _ (by decide)).set _ _ _ _ (by decide)).of_regs hregs

/-- Boot has begun: the straps, step 1, the watchdog; the Ledger is as it was. -/
theorem State.released_spec (s : State) (src : Nat) (cand : Bool) (pos : Nat) (run : ResetRun) :
    let t := s.released src cand pos run
    Released s src pos cand run t ∧ t.get F.BOOT_STATUS_STAGE = 1 ∧ t.bit F.BOOT_STATUS_WAIT_REF = s.bit F.BOOT_STATUS_WAIT_REF ∧
      t.bit F.BOOT_WDT_RUNNING = true ∧ t.wdtMs = 2000 ∧ t.wdtFrom = s.fr ∧ t.ledgerEvents = s.ledgerEvents ∧ t.ledgTorn = s.ledgTorn ∧
      t.ledgRecs = s.ledgRecs ∧ t.fr = s.fr ∧ t.get F.BOOT_RESET_CAUSE_WDT_LOOP = s.get F.BOOT_RESET_CAUSE_WDT_LOOP := by
  obtain ⟨hsrc, hpos, hcand, hcause, hcount, hcounted⟩ := s.counted_spec src cand pos run
  have hloop : (s.counted src cand pos run).get F.BOOT_RESET_CAUSE_WDT_LOOP = s.get F.BOOT_RESET_CAUSE_WDT_LOOP := s.counted_apart src cand pos run (by decide)
  have hwait : (s.counted src cand pos run).bit F.BOOT_STATUS_WAIT_REF = s.bit F.BOOT_STATUS_WAIT_REF :=
    congrArg (· == 1) (s.counted_apart src cand pos run (f := F.BOOT_STATUS_WAIT_REF) (by decide))
  unfold State.released
  generalize s.counted src cand pos run = u at *
  obtain ⟨hstage, href, hwdt, hms, hfrom, hin, hev, htorn, hrecs, hfr, hmem, hworks, hregs⟩ := u.stepOne_spec
  have hget : ∀ f : Fld, f.reg ∈ strapRegs → u.stepOne.get f = u.get f := fun f hf =>
    State.get_of_regsBut hregs f 0 0 ((show ∀ r ∈ strapRegs, r ∉ [RegName.BOOT_STATUS, .BOOT_WDT] by decide) _ hf)
  refine ⟨⟨hin, (hget _ (by decide)).trans hsrc, (hget _ (by decide)).trans hpos, (congrArg (· == 1) (hget F.GSL_STRAP_CANDIDATE (by decide))).trans hcand,
    (hget _ (by decide)).trans hcause, (hget _ (by decide)).trans hcount, hmem.trans (hcounted.field State.mem fun _ => rfl),
    hworks.trans (hcounted.field State.works fun _ => rfl)⟩, hstage, href.trans hwait, hwdt, hms, hfrom.trans (hcounted.field State.fr fun _ => rfl),
    hev.trans (hcounted.field State.ledgerEvents fun _ => rfl), htorn.trans (hcounted.field State.ledgTorn fun _ => rfl),
    hrecs.trans (hcounted.field State.ledgRecs fun _ => rfl), hfr.trans (hcounted.field State.fr fun _ => rfl), (hget _ (by decide)).trans hloop⟩

/-! ## How boot goes on -/

theorem State.noReference_spec (s : State) :
    let t := s.noReference
    t.bit F.BOOT_STATUS_WAIT_REF = true ∧ t.bit F.BOOT_WDT_RUNNING = false ∧ t.bit F.TIME_STATUS_COARSE = true ∧
      t.get F.BOOT_STATUS_STAGE = s.get F.BOOT_STATUS_STAGE ∧ RegStep [.BOOT_STATUS, .BOOT_WDT, .TIME_STATUS] s t := by
  refine ⟨?_, ?_, State.bit_setBit _ _ _ _ (by decide) (by decide), ?_, ?_⟩
  · exact (State.bit_setBit_apart _ _ _ _ _ (by decide)).trans ((State.bit_set_apart _ _ _ _ _ _ (by decide)).trans (State.bit_setBit _ _ _ _ (by decide) (by decide)))
  · exact (State.bit_setBit_apart _ _ _ _ _ (by decide)).trans (State.bit_clrBit _ _ _ _ (by decide))
  · exact (State.get_setBit_apart _ _ _ _ _ (by decide)).trans ((State.get_set_apart _ _ _ _ _ _ (by decide)).trans (State.get_setBit_apart _ _ _ _ _ (by decide)))
  · exact RegStep.set (RegStep.set (RegStep.set (.refl _ _ s) _ _ _ _ (by decide)) _ _ _ _ (by decide)) _ _ _ _ (by decide)

theorem State.bootHalt_spec (s : State) (reason : Nat) :
    let t := s.bootHalt reason
    t.get F.BOOT_STATUS_STAGE = 15 ∧ t.get F.BOOT_STATUS_HALT = reason % 16 ∧ RegStep [.BOOT_STATUS] s t :=
  ⟨(State.get_set_apart _ _ _ _ _ _ (by decide)).trans (State.get_set_self _ _ _ _ _ (by decide)), State.get_set_self _ _ _ _ _ (by decide),
    RegStep.set (RegStep.set (.refl _ _ s) _ _ _ _ (by decide)) _ _ _ _ (by decide)⟩

/-- The BOOT record's event. -/
theorem State.bootRecord_spec (s : State) :
    let t := s.bootRecord
    t.ledgerEvents = s.ledgerEvents ++ [{ code := 1, source := s.get F.BOOT_RESET_CAUSE_CAUSE, aux := s.get F.BOOT_COUNT_COUNT, data := Config.serial.toNat, at_ := s.fr }] ∧
      t.regs = s.regs ∧ BootStep [] s t := ⟨rfl, rfl, rfl, (regsBut.refl _ s).of_regs rfl⟩

/-- The BOOT record of a release carries its cause and its count. -/
theorem Released.bootRecord {s t : State} {src pos : Nat} {cand : Bool} {run : ResetRun} (h : Released s src pos cand run t)
    (he : t.ledgerEvents = s.ledgerEvents) (hf : t.fr = s.fr) :
    t.bootRecord.ledgerEvents = s.ledgerEvents ++
      [{ code := 1, source := run.cause % 16, aux := (s.get F.BOOT_COUNT_COUNT + 1) % 2 ^ 32, data := Config.serial.toNat, at_ := s.fr }] := by
  rw [t.bootRecord_spec.1, he, hf, h.cause, h.count]

abbrev bootRegs : List RegName := [.BOOT_STATUS, .BOOT_WDT, .TIME_STATUS]

theorem RegStep.boot {s t : State} (h : RegStep bootRegs s t) : BootStep bootRegs s t :=
  ⟨congrArg (fun u : State => { u with ledgerEvents := [] }) h.view, h.regs⟩

/-- The reference is waited for, or it is there. -/
def State.referenceShown (s : State) (ref : Bool) : State := if ref then s else s.noReference

theorem State.referenceShown_step (s : State) (ref : Bool) : RegStep bootRegs s (s.referenceShown ref) :=
  .ite (.refl _ _ s) s.noReference_spec.2.2.2.2

theorem State.bootStart_halts {s : State} {ref : Bool} (h : 3 ≤ s.get F.BOOT_RESET_CAUSE_WDT_LOOP) :
    s.bootStart ref = (s.referenceShown ref).bootRecord.bootHalt 7 :=
  if_pos (by rwa [show (if ref then s else s.noReference).get F.BOOT_RESET_CAUSE_WDT_LOOP = s.get F.BOOT_RESET_CAUSE_WDT_LOOP from
    State.get_of_regsBut (s.referenceShown_step ref).regs _ 0 0 (by decide)])

theorem State.bootStart_goes {s : State} {ref : Bool} (h : s.get F.BOOT_RESET_CAUSE_WDT_LOOP < 3) :
    s.bootStart ref = if ref then s.referenceShown ref else (s.referenceShown ref).bootRecord :=
  if_neg (by rw [show (if ref then s else s.noReference).get F.BOOT_RESET_CAUSE_WDT_LOOP = s.get F.BOOT_RESET_CAUSE_WDT_LOOP from
    State.get_of_regsBut (s.referenceShown_step ref).regs _ 0 0 (by decide)]; omega)

/-- However boot goes on, only its own registers and the Ledger's events change. -/
theorem State.bootStart_step (s : State) (ref : Bool) : BootStep bootRegs s (s.bootStart ref) := by
  have href := (s.referenceShown_step ref).boot
  obtain ⟨-, -, hrecord⟩ := (s.referenceShown ref).bootRecord_spec
  have hrecorded : BootStep bootRegs s (s.referenceShown ref).bootRecord := href.trans ⟨hrecord.view, hrecord.regs.mono (by simp)⟩
  rcases Nat.lt_or_ge (s.get F.BOOT_RESET_CAUSE_WDT_LOOP) 3 with h | h
  · rw [State.bootStart_goes h]
    exact .ite href hrecorded
  · rw [State.bootStart_halts h]
    exact BootStep.set (BootStep.set hrecorded _ _ _ _ (by decide)) _ _ _ _ (by decide)

/-- A torn record is sealed, with its event (R576). -/
def State.sealed (s : State) (ws : List Word) : State :=
  (({ s with ledgRecs := s.ledgRecs ++ [mkRecord (ws.take 6) 0 0x0F0F], ledgTorn := none }.setBit F.LEDG_EVENTS_TORN).ledger
    { code := 4, source := 0, aux := s.ledgRecs.length, data := 0 }).refreshLedger

theorem State.sealTorn_some {s : State} {ws : List Word} (h : s.ledgTorn = some ws) : s.sealTorn = s.sealed ws := by
  unfold State.sealTorn
  rw [h] <;> rfl

theorem State.sealTorn_none {s : State} (h : s.ledgTorn = none) : s.sealTorn = s := by
  unfold State.sealTorn
  rw [h]

/-- The record is appended, and TORN is shown. -/
def State.tornShown (s : State) (ws : List Word) : State :=
  ({ s with ledgRecs := s.ledgRecs ++ [mkRecord (ws.take 6) 0 0x0F0F], ledgTorn := none }.setBit F.LEDG_EVENTS_TORN).ledger
    { code := 4, source := 0, aux := s.ledgRecs.length, data := 0 }

theorem State.tornShown_spec (s : State) (ws : List Word) :
    let t := s.tornShown ws
    t.ledgTorn = none ∧ t.ledgRecs = s.ledgRecs ++ [mkRecord (ws.take 6) 0 0x0F0F] ∧ t.inReset = s.inReset ∧ t.mem = s.mem ∧ t.works = s.works ∧
      t.regs = (s.setBit F.LEDG_EVENTS_TORN).regs := ⟨rfl, rfl, rfl, rfl, rfl, rfl⟩

theorem State.sealed_spec (s : State) (ws : List Word) :
    let t := s.sealed ws
    t.ledgTorn = none ∧ t.ledgRecs = s.ledgRecs ++ [mkRecord (ws.take 6) 0 0x0F0F] ∧ t.bit F.LEDG_EVENTS_TORN = true ∧
      t.inReset = s.inReset ∧ t.mem = s.mem ∧ t.works = s.works ∧ regsBut [.LEDG_EVENTS, .LEDG_NEXT, .LEDG_FREE, .LEDG_STATUS] s t := by
  obtain ⟨htorn, hrecs, hin, hmem, hworks, hregs⟩ := s.tornShown_spec ws
  show _ ∧ _
  rw [show s.sealed ws = (s.tornShown ws).refreshLedger from rfl]
  generalize s.tornShown ws = u at *
  have hstep := u.refreshLedger_step
  refine ⟨(hstep.field State.ledgTorn fun _ => rfl).trans htorn, (hstep.field State.ledgRecs fun _ => rfl).trans hrecs, ?_,
    (hstep.field State.inReset fun _ => rfl).trans hin, (hstep.field State.mem fun _ => rfl).trans hmem, (hstep.field State.works fun _ => rfl).trans hworks, ?_⟩
  · exact (State.bit_of_regsBut hstep.regs _ 0 0 (by decide)).trans ((congrArg (· == 1) (State.get_congr hregs _ 0 0)).trans
      (State.bit_setBit _ _ _ _ (by decide) (by decide)))
  · exact (((regsBut.refl _ s).set F.LEDG_EVENTS_TORN 1 0 0 (by decide)).of_regs hregs).trans (hstep.regs.mono (by decide))

/-- Settles O48: what asserts a reset, what a reset leaves, and how boot starts. -/
theorem resetSourcesAndRelease : Obligations.ResetSourcesAndRelease := by
  unfold Obligations.ResetSourcesAndRelease
  refine ⟨?powerOn, ?powerCut, ?keeperLost, ?powerGood, ?perstSame, ?perstLow, ?perstHigh, ?perstLowP4, ?perstHighP4, ?resetSame, ?resetLow, ?resetHigh,
    ?wdtIdle, ?wdt, ?noReset, ?resetTaken, ?notReleased, ?released, ?noReference, ?halted, ?torn, ?restart, ?noRestart, ?hostRestart⟩
  case powerOn => exact fun s => rfl
  case powerCut =>
    intro n s a
    have hresets : a.resets = s.resets := (s.cutBy_frame (some n)).1
    have heq : exec (.powerOn false (some n)) s = .next ({ a with powerGood := false }.assertReset 1) := rfl
    exact heq.trans (by rw [← hresets]; rfl)
  case keeperLost =>
    intro cut s
    have heq : exec (.powerOn true cut) s = .next ({ (s.cutBy cut).loseKeeper with powerGood := false }.assertReset 1) := by cases cut <;> rfl
    obtain ⟨hresets, hfr, hregs, hmem, hworks⟩ := s.cutBy_frame cut
    have hrecs : cut = none → (s.cutBy cut).ledgRecs = s.ledgRecs := fun h => by rw [h]; rfl
    generalize s.cutBy cut = u at *
    obtain ⟨hq, he, hw, ho, htv, hloop, hcount, hr, hf, hm, hwk, hrec⟩ := u.loseKeeper_spec
    generalize u.loseKeeper = v at *
    obtain ⟨ha, hsafe, hreg⟩ := State.assertReset_spec { v with powerGood := false } 1
    refine ⟨_, heq, ?_, rfl, hsafe, hq, he, hw, ho, (State.bit_of_regsBut hreg F.TIME_BACKUP_1_TV 0 0 (by decide)).trans htv,
      (State.get_of_regsBut hreg F.BOOT_RESET_CAUSE_WDT_LOOP 0 0 (by decide)).trans hloop, ?_, hm.trans hmem, hwk.trans hworks, fun hc => hrec.trans (hrecs hc)⟩
    · rw [ha, show ({ v with powerGood := false } : State).resets = s.resets from hr.trans hresets,
        show ({ v with powerGood := false } : State).fr = s.fr from hf.trans hfr]
    · exact (State.get_of_regsBut hreg F.BOOT_COUNT_COUNT 0 0 (by decide)).trans (hcount.trans (State.get_congr hregs _ _ _))
  case powerGood => exact fun s => rfl
  case perstSame =>
    intro low s h
    exact (show exec (.perst low) s = execPerst low s from rfl).trans (if_pos h)
  case perstLow =>
    intro s h hst
    exact (show exec (.perst true) s = execPerst true s from rfl).trans ((if_neg (by rw [h]; decide)).trans (if_neg hst))
  case perstHigh =>
    intro s h hst
    exact (show exec (.perst false) s = execPerst false s from rfl).trans ((if_neg (by rw [h]; decide)).trans (if_neg hst))
  case perstLowP4 =>
    intro s h hst
    exact (show exec (.perst true) s = execPerst true s from rfl).trans ((if_neg (by rw [h]; decide)).trans (if_pos hst))
  case perstHighP4 =>
    intro s h hst
    exact (show exec (.perst false) s = execPerst false s from rfl).trans ((if_neg (by rw [h]; decide)).trans (if_pos hst))
  case resetSame =>
    intro low s h
    exact (show exec (.resetN low) s = execResetN low s from rfl).trans (if_pos h)
  case resetLow =>
    intro s h
    refine (show exec (.resetN true) s = execResetN true s from rfl).trans ((if_neg (by rw [h]; decide)).trans ?_)
    exact (apply_ite Host.Outcome.next ..).symm
  case resetHigh =>
    intro s h
    refine (show exec (.resetN false) s = execResetN false s from rfl).trans ((if_neg (by rw [h]; decide)).trans ?_)
    exact ite_self _
  case wdtIdle =>
    intro s h
    refine (show exec .watchdog s = execWatchdog s from rfl).trans (if_pos ?_)
    exact h.imp (fun hr => by rw [hr]; rfl) fun h => h.imp_left Option.isSome_iff_ne_none.mpr
  case wdt =>
    intro s hrun hin hst a b
    have hresets : b.resets = s.resets := by
      dsimp only [b, a]
      split <;> split <;> rfl
    have hbooted : a.booted = s.booted := by
      dsimp only [a]
      split <;> rfl
    have heq : exec .watchdog s = .next (b.assertReset 4) := by
      refine (execWatchdog_of hrun hin hst).trans ?_
      show Host.Outcome.next ((if a.booted then a else a.countUp F.BOOT_RESET_CAUSE_WDT_LOOP).assertReset 4) = _
      rw [hbooted]
    exact heq.trans (by rw [← hresets]; rfl)
  case noReset =>
    intro s h
    refine (show exec .resetAssert s = execResetAssert s from rfl).trans ?_
    unfold execResetAssert
    rw [h]
  case resetTaken =>
    intro r rs s h cause
    have heq : exec .resetAssert s = .next (s.resetDevice.inResetRun (s.inReset.getD { cause := cause, p4Event := s.p4Event })) := execResetAssert_of h
    obtain ⟨hin, hresets, hbooted, hregs, hview⟩ := s.resetDevice.inResetRun_spec (s.inReset.getD { cause := cause, p4Event := s.p4Event })
    have hbase : ∀ {β : Type} (g : State → β), (∀ u : State, g u.resetView = g u) →
        g (s.resetDevice.inResetRun (s.inReset.getD { cause := cause, p4Event := s.p4Event })) = g s.resetBase := fun g => s.resetDevice_kept _ g
    generalize s.resetDevice.inResetRun (s.inReset.getD { cause := cause, p4Event := s.p4Event }) = t at *
    obtain ⟨hloop, hgrain, hstep⟩ := s.keptShown_spec s.resetBase
    have hget : ∀ f, t.get f = s.resetDevice.get f := fun f => State.get_congr hregs f 0 0
    have hreset : ∀ f : Fld, f.reg.kept = false → f.reg ∉ resetRegs → t.bit f = (f.get (resetWord ⟨f.reg, 0, 0⟩) == 1) := fun f hk hr =>
      congrArg (· == 1) ((hget f).trans (congrArg f.get (s.resetDevice_rd ⟨f.reg, 0, 0⟩ hk hr)))
    have hcount : t.rd ⟨.BOOT_COUNT, 0, 0⟩ = s.rd ⟨.BOOT_COUNT, 0, 0⟩ :=
      (show t.rd _ = s.resetDevice.rd _ by simp only [State.rd, hregs]).trans
        ((hstep.regs _ (by decide)).trans ((s.resetBase_rd _).trans (if_pos (by decide))))
    exact ⟨t, heq, hresets, hbooted, (hreset _ (by decide) (by decide)).trans (by decide), hin, hbase State.works fun _ => rfl,
      hbase State.stalls fun _ => rfl, hbase State.watches fun _ => rfl, hbase State.events fun _ => rfl, hbase State.receipts fun _ => rfl,
      hbase State.mem fun _ => rfl, hbase State.chans fun _ => rfl, hbase State.seqs fun _ => rfl, hbase State.lanes fun _ => rfl,
      hbase State.detections fun _ => rfl, hbase State.fr fun _ => rfl, hbase State.frRuns fun _ => rfl, hbase State.ledgRecs fun _ => rfl,
      hbase State.ledgQueue fun _ => rfl, hbase State.ledgerEvents fun _ => rfl, hbase State.ledgWrite fun _ => rfl, hbase State.oven fun _ => rfl,
      hcount, (hget _).trans hloop, (hget _).trans hgrain, (hreset _ (by decide) (by decide)).trans (by decide)⟩
  case notReleased =>
    intro src pos cand ref s h
    refine (show exec (.resetRelease src cand pos ref) s = execResetRelease src cand pos ref s from rfl).trans ?_
    unfold execResetRelease
    cases hr : s.inReset with
    | none => rfl
    | some run =>
      refine if_pos ?_
      rcases h with h | h | h | h
      · cases hr.symm.trans h
      · exact .inl (by rw [h]; rfl)
      · exact .inr (.inl h)
      · exact .inr (.inr h)
  case released =>
    rintro src pos cand ref run s hin hg hp hn rfl htorn hloop
    have heq : exec (.resetRelease src cand pos true) s = .next ((s.released src cand pos run).sealTorn.bootStart true) := execResetRelease_of hin hg hp hn
    obtain ⟨hrel, hstage, hwait, hwdt, hms, hfrom, hev, ht, -, -, hl⟩ := s.released_spec src cand pos run
    generalize s.released src cand pos run = u at *
    rw [State.sealTorn_none (ht.trans htorn), State.bootStart_goes (hl ▸ hloop)] at heq
    exact ⟨u, heq, hrel.inReset, hrel.src, hrel.pos, hrel.cand, hrel.cause, hrel.count, hrel.mem, hrel.works, hstage, hwait, hwdt, hms, hfrom, hev⟩
  case noReference =>
    rintro src pos cand ref run s hin hg hp hn rfl htorn hloop
    have heq : exec (.resetRelease src cand pos false) s = .next ((s.released src cand pos run).sealTorn.bootStart false) := execResetRelease_of hin hg hp hn
    obtain ⟨hrel, hstage, -, -, -, -, hev, ht, -, hfr, hl⟩ := s.released_spec src cand pos run
    generalize s.released src cand pos run = u at *
    rw [State.sealTorn_none (ht.trans htorn), State.bootStart_goes (hl ▸ hloop)] at heq
    obtain ⟨hwait, hwdt, hcoarse, hst, hstep⟩ := u.noReference_spec
    have hnow := hrel.boot (RegStep.boot hstep) (by decide)
    have heq' : exec (.resetRelease src cand pos false) s = .next u.noReference.bootRecord := heq
    have hevents : u.noReference.bootRecord.ledgerEvents = _ := hnow.bootRecord ((hstep.field State.ledgerEvents fun _ => rfl).trans hev)
      ((hstep.field State.fr fun _ => rfl).trans hfr)
    obtain ⟨-, hregs, hrecord⟩ := u.noReference.bootRecord_spec
    have hlater := hnow.boot hrecord (by simp)
    have hget : ∀ f, u.noReference.bootRecord.get f = u.noReference.get f := fun f => State.get_congr hregs f 0 0
    exact ⟨_, heq', hlater.inReset, hlater.src, hlater.pos, hlater.cand, hlater.cause, hlater.count, hlater.mem, hlater.works,
      (hget _).trans (hst.trans hstage), (congrArg (· == 1) (hget _)).trans hwait, (congrArg (· == 1) (hget _)).trans hwdt,
      (congrArg (· == 1) (hget _)).trans hcoarse, hevents⟩
  case halted =>
    intro src pos cand ref run s hin hg hp hn htorn hloop
    have heq : exec (.resetRelease src cand pos ref) s = .next ((s.released src cand pos run).sealTorn.bootStart ref) := execResetRelease_of hin hg hp hn
    obtain ⟨hrel, -, -, -, -, -, hev, ht, -, hfr, hl⟩ := s.released_spec src cand pos run
    generalize s.released src cand pos run = u at *
    rw [State.sealTorn_none (ht.trans htorn), State.bootStart_halts (hl ▸ hloop)] at heq
    have hstep := u.referenceShown_step ref
    generalize u.referenceShown ref = v at *
    have hnow := hrel.boot hstep.boot (by decide)
    have hevents : v.bootRecord.ledgerEvents = _ := hnow.bootRecord ((hstep.field State.ledgerEvents fun _ => rfl).trans hev)
      ((hstep.field State.fr fun _ => rfl).trans hfr)
    obtain ⟨-, -, hrecord⟩ := v.bootRecord_spec
    have hrecorded := hnow.boot hrecord (by simp)
    obtain ⟨hstage, hhalt, hend⟩ := v.bootRecord.bootHalt_spec 7
    have hlater := hrecorded.of_regs hend.regs (by decide) (hend.field State.inReset fun _ => rfl) (hend.field State.mem fun _ => rfl)
      (hend.field State.works fun _ => rfl)
    exact ⟨_, heq, hlater.inReset, hlater.src, hlater.pos, hlater.cand, hlater.cause, hlater.count, hlater.mem, hlater.works, hstage, hhalt,
      (hend.field State.ledgerEvents fun _ => rfl).trans hevents⟩
  case torn =>
    intro ws src pos cand ref run s hin hg hp hn htorn
    have heq : exec (.resetRelease src cand pos ref) s = .next ((s.released src cand pos run).sealTorn.bootStart ref) := execResetRelease_of hin hg hp hn
    obtain ⟨hrel, -, -, -, -, -, -, ht, hrecs, -, -⟩ := s.released_spec src cand pos run
    generalize s.released src cand pos run = u at *
    rw [State.sealTorn_some (ht.trans htorn)] at heq
    obtain ⟨hnone, hrec, hbit, hi, hm, hw, hregs⟩ := u.sealed_spec ws
    have hsealed := hrel.of_regs hregs (by decide) hi hm hw
    generalize u.sealed ws = v at *
    have hstep := v.bootStart_step ref
    have hnow := hsealed.boot hstep (by decide)
    refine ⟨_, heq, hnow.inReset, hnow.src, hnow.pos, hnow.cand, hnow.cause, hnow.count, hnow.mem, hnow.works,
      (hstep.field State.ledgTorn fun _ => rfl).trans hnone, ?_, (State.bit_of_regsBut hstep.regs _ 0 0 (by decide)).trans hbit⟩
    exact (hstep.field State.ledgRecs fun _ => rfl).trans (hrec.trans (by rw [hrecs]))
  case restart =>
    intro id s hb hrun
    exact (show exec (.bootWdtRestart (.internal id) 0x5A5A#32) s = execBootWdtRestart (.internal id) 0x5A5A#32 s from rfl).trans (if_pos ⟨hb, hrun, rfl⟩)
  case noRestart =>
    intro id v s h
    refine (show exec (.bootWdtRestart (.internal id) v) s = execBootWdtRestart (.internal id) v s from rfl).trans (if_neg ?_)
    rintro ⟨hb, hrun, hv⟩
    rcases h with h | h | h
    · exact Bool.false_ne_true (h.symm.trans hb)
    · exact Bool.false_ne_true (h.symm.trans hrun)
    · exact h hv
  case hostRestart => exact fun fn rid v s => rfl

end Sys2Proof.Machine
end

section
/-!
SUPPORT. The image check, the pushed image and the master clock (O49).
-/

namespace Sys2Proof.Machine

/-! ## The image (R605 to R608) -/

/-- An image that passed: its versions are shown, and boot goes on with it. -/
def State.imageTaken (s : State) (source : Nat) (img : Bytes) : State :=
  ((({ (s.set F.BOOT_STATUS_SOURCE source).clrBit F.BOOT_STATUS_WAIT_PUSH with pushing := false }.set F.BOOT_FW_SVN_SVN (Bytes.le img 8 4)).set
    F.BOOT_FW_ID_0_ID_LO (Bytes.le img 16 4)).set F.BOOT_FW_ID_1_ID_HI (Bytes.le img 20 4))

theorem execFirmwareCheckDone_flash {img : Bytes} {ok : Bool} {b : BootIn} {s : State} (hst : s.get F.BOOT_STATUS_STAGE = 2) (hin : s.inReset = none)
    (hpush : s.bit F.BOOT_STATUS_WAIT_PUSH = false) :
    execFirmwareCheckDone img ok b s =
      let t := s.set F.BOOT_STATUS_FW_RESULT (fwResult img true ok b)
      if fwResult img true ok b = 0 then .next ((t.imageTaken 1 img).bootOn img b)
      else if t.get F.BOOT_STRAP_BOOT_SRC = 2 then .next t.waitPush else .next (t.bootHalt 2) := by
  unfold execFirmwareCheckDone
  rw [hpush]
  refine (if_neg (by simp [hst, hin])).trans ?_
  rw [show (ok && (!false || ((s.func 0).busMaster && img.length == s.get F.BOOT_PUSH_LEN_LENGTH))) = ok from Bool.and_true ok]
  rfl

theorem execFirmwareCheckDone_push {img : Bytes} {ok : Bool} {b : BootIn} {s : State} (hst : s.get F.BOOT_STATUS_STAGE = 2) (hin : s.inReset = none)
    (hpush : s.bit F.BOOT_STATUS_WAIT_PUSH = true) (hp : s.pushing = true) :
    execFirmwareCheckDone img ok b s =
      let r := fwResult img false (ok && ((s.func 0).busMaster && img.length == s.get F.BOOT_PUSH_LEN_LENGTH)) b
      let t := s.set F.BOOT_STATUS_FW_RESULT r
      if r = 0 then .next ((t.imageTaken 2 img).bootOn img b) else .next (t.setBit F.BOOT_STATUS_PUSH_DONE).waitPush := by
  unfold execFirmwareCheckDone
  rw [hpush]
  refine (if_neg (by simp [hst, hin, hp])).trans ?_
  rfl

/-! ## The master clock (R75, R484, R504) -/

/-- The master has locked; its first lock after a reset starts the free-running counter. -/
def State.masterLocked (s : State) : State :=
  let u := (s.setBit F.TSBANK_REF_MASTER_LOCK).setBit F.TSBANK_REF_REF_PRESENT
  if s.frRuns then u else { u with fr := 0, frRuns := true }

theorem State.masterLocked_regs (s : State) : s.masterLocked.regs = ((s.setBit F.TSBANK_REF_MASTER_LOCK).setBit F.TSBANK_REF_REF_PRESENT).regs := by
  unfold State.masterLocked
  extract_lets u
  split <;> rfl

theorem State.masterLocked_stage (s : State) : s.masterLocked.get F.BOOT_STATUS_STAGE = s.get F.BOOT_STATUS_STAGE :=
  (State.get_congr s.masterLocked_regs _ _ _).trans
    ((State.get_setBit_apart _ _ _ _ _ (by decide)).trans (State.get_setBit_apart _ _ _ _ _ (by decide)))

/-- From boot step 5 to step 8 the hall may form. -/
def State.formInBoot (s : State) : State :=
  if 5 ≤ s.get F.BOOT_STATUS_STAGE ∧ s.get F.BOOT_STATUS_STAGE ≤ 8 then s.tryForm else s

section
variable {s : State}

/-- Without a lock, in no reset and outside P4 the master may lock. -/
theorem execMasterLock_of (hl : s.bit F.TSBANK_REF_MASTER_LOCK = false) (hin : s.inReset = none) (hst : s.get F.PWR_STATUS_STATE ≠ 4) (count : Option Nat) :
    execMasterLock count s = .next (match count with
      | none => s.setBit F.TSBANK_REF_REF_PRESENT
      | some n => (if s.masterLocked.get F.BOOT_STATUS_STAGE = 1 then s.masterLocked.bootStep1Ends n else s.masterLocked).formInBoot) := by
  refine (if_neg (by simp [hl, hin, hst])).trans ?_
  cases count <;> rfl

/-- A lock outside boot step 1. -/
theorem execMasterLock_later (hl : s.bit F.TSBANK_REF_MASTER_LOCK = false) (hin : s.inReset = none) (hst : s.get F.PWR_STATUS_STATE ≠ 4) (n : Nat)
    (h1 : s.get F.BOOT_STATUS_STAGE ≠ 1) : execMasterLock (some n) s = .next s.masterLocked.formInBoot :=
  (execMasterLock_of hl hin hst (some n)).trans
    (congrArg (fun t : State => Host.Outcome.next t.formInBoot) (if_neg (by rw [s.masterLocked_stage]; exact h1)))

/-- The lock that ends boot step 1. -/
theorem execMasterLock_step1 (hl : s.bit F.TSBANK_REF_MASTER_LOCK = false) (hin : s.inReset = none) (hst : s.get F.PWR_STATUS_STATE ≠ 4) (n : Nat)
    (h1 : s.get F.BOOT_STATUS_STAGE = 1) : execMasterLock (some n) s = .next (s.masterLocked.bootStep1Ends n).formInBoot :=
  (execMasterLock_of hl hin hst (some n)).trans
    (congrArg (fun t : State => Host.Outcome.next t.formInBoot) (if_pos (s.masterLocked_stage.trans h1)))

end

/-- The registers after the loss of REFIN, or of the lock alone. -/
def State.clockLost (s : State) (refin : Bool) : State :=
  let a := (s.clrBit F.TSBANK_REF_MASTER_LOCK).setBit F.TSBANK_REF_LOCK_LOST
  if refin then a.clrBit F.TSBANK_REF_REF_PRESENT else a

theorem State.clockLost_spec (s : State) (refin : Bool) :
    let t := s.clockLost refin
    t.bit F.TSBANK_REF_MASTER_LOCK = false ∧ t.bit F.TSBANK_REF_LOCK_LOST = true ∧
      t.bit F.TSBANK_REF_REF_PRESENT = (!refin && s.bit F.TSBANK_REF_REF_PRESENT) ∧ RegStep [.TSBANK_REF] s t := by
  have hlock : ((s.clrBit F.TSBANK_REF_MASTER_LOCK).setBit F.TSBANK_REF_LOCK_LOST).bit F.TSBANK_REF_MASTER_LOCK = false :=
    (State.bit_setBit_apart _ _ _ _ _ (by decide)).trans (State.bit_clrBit _ _ _ _ (by decide))
  have hlost : ((s.clrBit F.TSBANK_REF_MASTER_LOCK).setBit F.TSBANK_REF_LOCK_LOST).bit F.TSBANK_REF_LOCK_LOST = true :=
    State.bit_setBit _ _ _ _ (by decide) (by decide)
  have hstep : RegStep [.TSBANK_REF] s ((s.clrBit F.TSBANK_REF_MASTER_LOCK).setBit F.TSBANK_REF_LOCK_LOST) :=
    RegStep.set (RegStep.set (.refl _ _ s) _ _ _ _ (by decide)) _ _ _ _ (by decide)
  cases refin with
  | false =>
    exact ⟨hlock, hlost, (State.bit_setBit_apart _ _ _ _ _ (by decide)).trans (State.bit_set_apart _ _ _ _ _ _ (by decide)), hstep⟩
  | true =>
    exact ⟨(State.bit_set_apart _ _ _ _ _ _ (by decide)).trans hlock, (State.bit_set_apart _ _ _ _ _ _ (by decide)).trans hlost,
      State.bit_clrBit _ _ _ _ (by decide), RegStep.set hstep _ _ _ _ (by decide)⟩

/-- A loss is a REFERENCE detection once the master has locked since the last reset. -/
def State.lossDetected (s : State) : State := if s.frRuns then s.detect { kind := 3, cause := 0x221, source := 0x600 } else s

theorem State.lossDetected_spec (s : State) :
    let t := s.lossDetected
    t.detections = s.detections ++ (if s.frRuns = true then [{ kind := 3, cause := 0x221, source := 0x600, at_ := s.fr }] else []) ∧
      t.regs = s.regs ∧ t.mem = s.mem := by
  unfold State.lossDetected
  cases s.frRuns
  · exact ⟨(List.append_nil _).symm, rfl, rfl⟩
  · exact ⟨rfl, rfl, rfl⟩

theorem execReferenceLoss_of {refin : Bool} {s : State}
    (hp : (if refin = true then s.bit F.TSBANK_REF_REF_PRESENT else s.bit F.TSBANK_REF_MASTER_LOCK) = true) (hin : s.inReset = none)
    (hst : s.get F.PWR_STATUS_STATE ≠ 4) :
    execReferenceLoss refin s = .next (if (s.clockLost refin).lossDetected.bit F.GSL_HALL_STATUS_IS_MASTER then (s.clockLost refin).lossDetected.hallLost
      else (s.clockLost refin).lossDetected) :=
  if_neg (by simp [hp, hin, hst])

theorem State.lossDetected_isMaster (s : State) (refin : Bool) :
    (s.clockLost refin).lossDetected.bit F.GSL_HALL_STATUS_IS_MASTER = s.bit F.GSL_HALL_STATUS_IS_MASTER := by
  obtain ⟨-, -, -, hstep⟩ := s.clockLost_spec refin
  obtain ⟨-, hregs, -⟩ := (s.clockLost refin).lossDetected_spec
  exact (congrArg (· == 1) (State.get_congr hregs _ 0 0)).trans (State.bit_of_regsBut hstep.regs _ 0 0 (by decide))

/-- Settles O49: the image check, the pushed image and the master clock. -/
theorem bootAndReference : Obligations.BootAndReference := by
  unfold Obligations.BootAndReference
  refine ⟨?noCheck, ?flash, ?push, ?pushGo, ?pushIgnored, ?lockNothing, ?present, ?lockLater, ?lockForms, ?lockStep1, ?lossNothing, ?loss, ?masterLoss⟩
  case noCheck =>
    intro img ok b s h
    refine (show exec (.firmwareCheckDone img ok b) s = execFirmwareCheckDone img ok b s from rfl).trans (if_pos ?_)
    rcases h with h | h | ⟨hw, hp⟩
    · exact .inl h
    · exact .inr (.inl (Option.isSome_iff_ne_none.mpr h))
    · exact .inr (.inr (by rw [hw, hp]; rfl))
  case flash =>
    intro img ok b s hst hin hpush r
    refine (show exec (.firmwareCheckDone img ok b) s = execFirmwareCheckDone img ok b s from rfl).trans ((execFirmwareCheckDone_flash hst hin hpush).trans ?_)
    have hsrc : (s.set F.BOOT_STATUS_FW_RESULT r).get F.BOOT_STRAP_BOOT_SRC = s.get F.BOOT_STRAP_BOOT_SRC := State.get_set_apart _ _ _ _ _ _ (by decide)
    show (if r = 0 then Host.Outcome.next (((s.set F.BOOT_STATUS_FW_RESULT r).imageTaken 1 img).bootOn img b)
      else if (s.set F.BOOT_STATUS_FW_RESULT r).get F.BOOT_STRAP_BOOT_SRC = 2 then _ else _) = _
    rw [hsrc, apply_ite Host.Outcome.next, apply_ite Host.Outcome.next]
    by_cases hr : r = 0
    · rw [if_pos hr, if_pos hr, hr]
      rfl
    · rw [if_neg hr, if_neg hr]
      rfl
  case push =>
    intro img ok b s hst hin hpush hp r
    refine (show exec (.firmwareCheckDone img ok b) s = execFirmwareCheckDone img ok b s from rfl).trans ((execFirmwareCheckDone_push hst hin hpush hp).trans ?_)
    show (if r = 0 then Host.Outcome.next (((s.set F.BOOT_STATUS_FW_RESULT r).imageTaken 2 img).bootOn img b) else _) = _
    rw [apply_ite Host.Outcome.next]
    by_cases hr : r = 0
    · rw [if_pos hr, if_pos hr, hr]
      rfl
    · rw [if_neg hr, if_neg hr]
      rfl
  case pushGo =>
    intro s hw hp ha
    refine (show exec .bootPushGo s = execBootPushGo s from rfl).trans ((if_neg ?_).trans rfl)
    rw [hw, hp]
    rintro (h | h | h)
    · exact Bool.false_ne_true h
    · exact Bool.false_ne_true h
    · exact Nat.not_lt.mpr ha h
  case pushIgnored =>
    intro s h
    refine (show exec .bootPushGo s = execBootPushGo s from rfl).trans (if_pos ?_)
    exact h.imp_left fun hw => by rw [hw]; rfl
  case lockNothing =>
    intro n s h
    refine (show exec (.masterLock n) s = execMasterLock n s from rfl).trans (if_pos ?_)
    exact h.imp_right fun h => h.imp_left Option.isSome_iff_ne_none.mpr
  case present => exact fun s hl hin hst => execMasterLock_of hl hin hst none
  case lockLater =>
    intro n s hl hin hst h1 h5 u v
    refine (show exec (.masterLock (some n)) s = execMasterLock (some n) s from rfl).trans ((execMasterLock_later hl hin hst n h1).trans ?_)
    refine congrArg Host.Outcome.next (if_neg ?_)
    rw [s.masterLocked_stage]
    omega
  case lockForms =>
    intro n s hl hin hst h5 h8 u v
    refine (show exec (.masterLock (some n)) s = execMasterLock (some n) s from rfl).trans ((execMasterLock_later hl hin hst n (by omega)).trans ?_)
    refine congrArg Host.Outcome.next (if_pos ?_)
    rw [s.masterLocked_stage]
    exact ⟨h5, h8⟩
  case lockStep1 => exact fun n s hl hin hst h1 => execMasterLock_step1 hl hin hst n h1
  case lossNothing =>
    intro refin s h
    refine (show exec (.referenceLoss refin) s = execReferenceLoss refin s from rfl).trans (if_pos ?_)
    exact h.imp (fun hp => by rw [hp]; rfl) fun h => h.imp_left Option.isSome_iff_ne_none.mpr
  case loss =>
    intro refin s hp hin hst hm
    have heq : exec (.referenceLoss refin) s = .next (s.clockLost refin).lossDetected :=
      (execReferenceLoss_of hp hin hst).trans (congrArg Host.Outcome.next (if_neg (by rw [s.lossDetected_isMaster, hm]; exact Bool.false_ne_true)))
    obtain ⟨hlock, hlost, hpresent, hstep⟩ := s.clockLost_spec refin
    generalize s.clockLost refin = u at *
    obtain ⟨hdet, hregs, hmem⟩ := u.lossDetected_spec
    have hbit : ∀ f, u.lossDetected.bit f = u.bit f := fun f => congrArg (· == 1) (State.get_congr hregs f 0 0)
    refine ⟨_, heq, (hbit _).trans hlock, (hbit _).trans hlost, (hbit _).trans hpresent, ?_, hstep.regs.trans ((regsBut.refl _ u).of_regs hregs),
      hmem.trans (hstep.field State.mem fun _ => rfl)⟩
    rw [hdet, hstep.field State.detections fun _ => rfl, hstep.field State.fr fun _ => rfl, hstep.field State.frRuns fun _ => rfl]
  case masterLoss =>
    intro refin s hp hin hst hm a b
    have hruns : (s.clockLost refin).frRuns = s.frRuns := (s.clockLost_spec refin).2.2.2.field State.frRuns fun _ => rfl
    refine (show exec (.referenceLoss refin) s = execReferenceLoss refin s from rfl).trans ((execReferenceLoss_of hp hin hst).trans ?_)
    rw [if_pos ((s.lossDetected_isMaster refin).trans hm)]
    show Host.Outcome.next (if (s.clockLost refin).frRuns then _ else _ : State).hallLost = _
    rw [hruns]
    rfl

end Sys2Proof.Machine
end
